-- ==== Sys2Proof/Word.lean ====
section
/-!
DEFINITION. Word.lean: the words of the model.  Register contents, line data and masks are bit vectors; instance
numbers (ports, tiles, slices, Flacons, ...) that commands carry are bounded indices; a table is a list of (key, value)
pairs with rising keys.
-/
namespace Sys2Proof

/-- A register's contents.  A 32-bit register uses the low half. -/
abbrev Word := BitVec 64
abbrev Byte := BitVec 8
/-- One 64-byte cache line; byte 0 is bits 7 to 0. -/
abbrev Line := BitVec 512

/-- A table keyed by number, keys strictly rising. -/
abbrev Tab (α : Type) := List (Nat × α)

/-- Chip port number (00, names and numbering): port q mod 2 of tile q / 2. -/
abbrev PortIx := Fin 128
/-- Chip lane number: lane n mod 8 of tile n / 8. -/
abbrev LaneIx := Fin 512
abbrev TileIx := Fin 64
abbrev PlaneIx := Fin 8
abbrev SliceIx := Fin 64
abbrev FlaconIx := Fin 32
/-- Slot, and its power channel SPC n. -/
abbrev SlotIx := Fin 32
abbrev QuadIx := Fin 4
abbrev FeedIx := Fin 2
abbrev JobIx := Fin 8

end Sys2Proof
end

