-- ==== Sys2Proof/Types.lean ====
section
/-!
DEFINITION. Types.lean: the operands that commands carry and the records that several units share, under the
specification's names.
-/
namespace Sys2Proof

/-- An access path of R5: BAR0 on MPORT, READ_REG and WRITE_REG on management path p (R412), the engine function of
upstream port q for its own registers, and the JTAG network for the FZ registers (R401, R404). -/
inductive AccessPath where
  | bar0
  | mgmt (p : Fin 4)
  | engine (q : PortIx)
  | jtag
  deriving DecidableEq, Repr

/-- A register path's number in the latch and hold tables. -/
def AccessPath.key : AccessPath → Nat
  | .bar0 => 0
  | .mgmt p => 1 + p.val
  | .engine q => 16 + q.val
  | .jtag => 8

/-- How a register access completes (R4, R9, R36): success with data, Completer Abort, Unsupported Request. -/
inductive Completion where
  | success (data : Word)
  | completerAbort
  | unsupportedRequest
  | noResponse
  deriving DecidableEq, Repr

/-- The access record of R238 Table 7, which first-error captures also use (R240, R396). -/
structure AccessRec where
  addr : Nat := 0
  kind : Nat := 0
  mc : Nat := 0
  flacon : Nat := 0
  srcEid : Nat := 0
  port : Nat := 0
  priv : Nat := 0
  noDecoder : Bool := false
  noRegion : Bool := false
  multiHit : Bool := false
  straddle : Bool := false
  needed : Nat := 0
  region : Nat := 0
  typ : Nat := 0
  epoch : Nat := 0
  source : Nat := 0
  time : Nat := 0
  deriving DecidableEq, Repr

/-- One occurrence of a fault source (R381): its number, the Flacon it is raised against (none: chip-wide), what the
record bus carries with it (R383), and whether the source supplies an address. -/
structure Occ where
  source : Nat
  flacon : Option FlaconIx := none
  info : AccessRec := {}
  deriving DecidableEq, Repr

/-- The fence bus notices of R18 Table 4. -/
inductive Notice where
  | fencePlane (n : PlaneIx)
  | fenceSlice (n : SliceIx)
  | fenceTile (n : TileIx)
  | fenceFlacon (f : FlaconIx)
  | quarantine
  | unfencePlane (n : PlaneIx)
  deriving DecidableEq, Repr

/-- A sensor's reading: signed, in 1/16 °C; none where the sensor fails its self-check (R13). -/
abbrev SensorReading := Option Int

/-- A sensor update: the 16 readings, and the activity of the lanes of each quadrant (R12, R259). -/
structure SensorReadings where
  temps : List SensorReading
  loads : List (BitVec 8)
  deriving DecidableEq, Repr

/-- A message inside the switch: the header fields that its cells share (R65), the operands its family gives it, and its
data, a 64-byte line per cell. -/
structure Msg where
  /-- An I/O TLP or completion; otherwise a coherent message. -/
  io : Bool := false
  mc : Nat := 4
  /-- Coherent opcode (R141, R171), or the TLP's Fmt/Type byte. -/
  op : Nat := 0
  flacon : Nat := 0
  /-- Byte address; a coherent message uses the line it lies in. -/
  addr : Nat := 0
  /-- Bytes of an I/O request. -/
  len : Nat := 64
  cells : Nat := 1
  srcEid : Nat := 0
  dstEid : Nat := 0
  /-- The ingress port's tag of the request that this message is or answers (R66). -/
  tag : Nat := 0
  /-- The ingress chip port of that request; 0x7F for a chip engine. -/
  port : Nat := 0x7F
  /-- The tag the message bears on the link it arrives by or leaves by (R283, R311). -/
  ltag : Nat := 0
  priv : Nat := 2
  svc : Nat := 1
  uvc : Bool := false
  /-- The full rule epoch of the check; cells carry its low 3 bits. -/
  epoch : Nat := 0
  poison : Bool := false
  tent : Bool := false
  /-- NO_SPEC (R167). -/
  noSpec : Bool := false
  /-- Relaxed Ordering of an I/O message. -/
  ro : Bool := false
  /-- Carries the TEE attribute (R218). -/
  tee : Bool := false
  /-- Posted barrier (R96). -/
  pbar : Option Nat := none
  /-- Bytes enabled, of a partial write. -/
  be : BitVec 64 := BitVec.allOnes 64
  /-- A completion that reports an error. -/
  err : Bool := false
  /-- Of an error completion: its status is Unsupported Request; otherwise Completer Abort (R93, R214, R216). -/
  ur : Bool := false
  /-- A grant marked for notice (R152). -/
  notice : Bool := false
  /-- The slice whose request or snoop this message is or answers; none elsewhere. -/
  slice : Option Nat := none
  /-- LD of a downstream target, and the DPA there (R215). -/
  ld : Nat := 0
  dpa : Option Nat := none
  /-- A Decant mirror copy: the outbound record of the write it mirrors, as port × 4096 + tag (R333). -/
  mirrorOf : Option Nat := none
  /-- An I/O TLP's prefixes and native header, with which its first cell's payload begins; its data follows them (R67). -/
  hdr : List Byte := []
  /-- The vPPB whose window or bus a host's configuration or MMIO request names (R217). -/
  vppb : Option Nat := none
  /-- The Accord whose staging or alias read this is: its tracker and age (R194). -/
  accord : Option (Nat × Nat) := none
  data : List Line := []
  deriving DecidableEq, Repr

/-- The cells that a TLP of h bytes of prefixes and header and n bytes of data occupies (R67). -/
def cellCount (h n : Nat) : Nat := max 1 ((h + n + 63) / 64)

/-- The cells of a message by its bytes: a TLP whose Fmt has the with-data bit carries its data, a coherent message is one
cell (R67). -/
def Msg.cellsOfBytes (m : Msg) : Nat :=
  if m.io then cellCount m.hdr.length (if m.op.testBit 6 then m.len else 0) else 1

/-- LL_CAPS (R291 Table 8). -/
structure LlCaps where
  version : Nat := 1
  rxNext : Nat := 0
  resume : Bool := false
  tentOk : Bool := false
  deriving DecidableEq, Repr

/-- Link-control messages of the bypass slot (R274 Table 4). -/
inductive LinkCtl where
  | rxLanes (mask : Nat)
  | firReq (lane : Nat) (req : BitVec 10)
  | firSts (lane : Nat) (sts : BitVec 8)
  | llInit (caps : LlCaps)
  deriving DecidableEq, Repr

/-- What the bypass slot carries. -/
inductive Bypass where
  | mc0 (m : Msg)
  | lc (c : LinkCtl)
  deriving DecidableEq, Repr

/-- Cell kinds of R65 Table 1. -/
inductive Kind where
  | single | head | body | tail | packed
  deriving DecidableEq, Repr

/-- A slot of a received flit (R271 Table 3). -/
structure SlotIn where
  kind : Kind
  sub : Fin 16
  pool : Bool
  msg : Msg
  more : List Msg := []
  tailBad : Bool := false
  line : Option Line := none
  /-- A BODY or TAIL cell's place in its message. -/
  index : Nat := 0
  deriving DecidableEq, Repr

/-- A received flit (R270 Table 2).  bad: its CRC failed or a block was marked as errored. -/
structure FlitIn where
  bad : Bool := false
  fseq : Fin 4096 := 0
  ackSeq : Fin 4096 := 0
  nak : Bool := false
  ackV : Bool := false
  crdSel : Fin 17 := 0
  crd : BitVec 16 := 0
  mapId : Fin 4 := 0
  null : Bool := false
  xoff : BitVec 16 := 0
  slots : List SlotIn := []
  bypass : Option Bypass := none
  deriving DecidableEq, Repr

/-- SnpType and MetaValue of CXL.mem (R304). -/
inductive SnpType where
  | noOp | cur | data | inv
  deriving DecidableEq, Repr
inductive MetaValue where
  | i | s | a
  deriving DecidableEq, Repr

/-- CXL.mem messages of a host and CXL.cache messages of a device that map to internal opcodes (R304 Table 3, R306
Table 4). -/
inductive CxlOp where
  | memRd (snp : SnpType)
  | memInv (snp : SnpType)
  | memClnEvct
  | memWr (snp : SnpType) (mv : MetaValue)
  | memWrPtl
  | biRspI | biRspS | biRspE | biConflict
  | rdShared | rdOwn | rdCurr | rdOwnNoData | cleanEvict | cleanEvictNoData | dirtyEvict | itoMWr | wrCur | cacheMemWr
  | rspIHitI | rspIHitSE | rspSHitSE | rspIFwdM | rspSFwdM
  deriving DecidableEq, Repr

/-- What arrives at an ingress tile (R70): a message received by a standard port, or the oldest message that a fabric
port's receive storage holds for sub-channel v (R273, R276). -/
inductive Arrival where
  | link (m : Msg)
  | cxl (c : CxlOp) (m : Msg)
  | stored (v : Fin 16)
  deriving DecidableEq, Repr

/-- What a region lookup meets (R224, R225): a parity failure in the tile's cache entry, and entries of the quadrant
copies (copy, index) found uncorrectable. -/
structure LookupEnv where
  parity : Bool := false
  bad : List (Fin 4 × Nat) := []
  /-- An epoch switch of the Flacon fell into the lookup, which was restarted under the new epoch (R230). -/
  restarted : Bool := false
  deriving DecidableEq, Repr

/-- A request at an arbiter, as sampled (R102): the requester, the Flacon whose traffic it asks for where it is any
Flacon's, and whether the unit it asks for is its LAST. -/
structure ArbReq where
  who : Nat
  flacon : Option (Fin 32) := none
  last : Bool := false
  deriving DecidableEq, Repr

/-- What the buffer read finds in the cells of the message chosen (R75 Table 5): a header error, a payload error. -/
structure EccFinding where
  header : Bool := false
  payload : Bool := false
  deriving DecidableEq, Repr

/-- A cell that arrives from a plane: its stream's unit, and what a read of its buffer slot will find (R76, R79). -/
structure PlaneTake where
  unit : Fin 128
  ecc : EccFinding := {}
  deriving DecidableEq, Repr

/-- What comes with an alias TLP (R187 to R191): the lookup's findings, its TEE attribute (R218), and ue: a staging slot
that it reads or merges into is uncorrectable (R207). -/
structure AliasEnv where
  lookup : LookupEnv := {}
  tee : Bool := false
  ue : Bool := false
  deriving DecidableEq, Repr

/-- An IDENT frame (R252 Table 4). -/
structure IdentFrame where
  identity : Word := 0
  switchId : Nat := 0
  port : Nat := 0
  width : Nat := 0
  lane : Nat := 0
  sparing : Bool := false
  flocet : Bool := false
  anchored : Bool := false
  ack : Bool := false
  cable : Nat := 0
  caps : LlCaps := {}
  deriving DecidableEq, Repr

/-- A training frame received: its control word (R250 Table 3); good: its CRC is (log entry 80); inverted: its marker arrived
inverted (R245). -/
structure TrainFrame where
  word : Word := 0
  good : Bool := true
  inverted : Bool := false
  deriving DecidableEq, Repr

/-! The fields of the control word (R250 Table 3). -/
def TrainFrame.req (f : TrainFrame) : BitVec 8 := f.word.extractLsb' 0 8
def TrainFrame.preset (f : TrainFrame) : BitVec 2 := f.word.extractLsb' 8 2
def TrainFrame.sts (f : TrainFrame) : BitVec 8 := f.word.extractLsb' 10 8
def TrainFrame.rxReady (f : TrainFrame) : Bool := f.word.getLsbD 18
def TrainFrame.lane (f : TrainFrame) : BitVec 4 := f.word.extractLsb' 19 4
def TrainFrame.count (f : TrainFrame) : BitVec 16 := f.word.extractLsb' 24 16
def TrainFrame.crc (f : TrainFrame) : BitVec 16 := f.word.extractLsb' 48 16

/-- Codewords of a lane decoded since the flit before: corrected ones and their symbols, uncorrectable ones (R247). -/
structure LaneFec where
  lane : LaneIx
  corrected : Nat := 0
  symbols : Nat := 0
  uncorrected : Nat := 0
  deriving DecidableEq, Repr

/-- What a standard link has negotiated at DL_Up, and the device found there (R310, R312, R321). -/
structure StdLink where
  rate : Fin 6 := 0
  width : Fin 17 := 1
  flit : Fin 3 := 0
  pbr : Bool := false
  /-- Device Serial Number; none without the capability. -/
  dsn : Option Word := none
  /-- A Type-1 or Type-2 device. -/
  cache : Bool := false
  /-- The GPF phase-2 duration that the device reports, in µs (R309). -/
  gpf2 : Nat := 0
  deriving DecidableEq, Repr

/-- The companion's readings with an event of the feeds or the bus, in mV (PC_BUS). -/
structure BusMeas where
  vbus : Nat := 12000
  feedA : Nat := 12000
  feedB : Nat := 12000
  vaux : Nat := 3300
  deriving DecidableEq, Repr

/-- A slot channel's readings with an event of it (SPC_MEAS, SPC_TIMER): mA, mV, 1/16 °C, µs, ms. -/
structure ChanMeas where
  iout : Nat := 0
  vout : Nat := 0
  tModel : Int := 0
  tDiode : Int := 0
  faultUs : Nat := 0
  coolMs : Nat := 0
  deriving DecidableEq, Repr

/-- Verdicts of Falcon-1024 verification over the two slots of a kind. -/
structure SigVerdict where
  a : Bool := true
  b : Bool := true
  deriving DecidableEq, Repr

def SigVerdict.of (v : SigVerdict) (slot : Nat) : Bool := if slot = 0 then v.a else v.b

/-- What the ECC check of a directory entry finds (R140). -/
inductive EntryEcc where
  | good | corrected | uncorrectable
  deriving DecidableEq, Repr

/-- A Flacon whose request a slice takes, and what a read of its set in the hot tier finds (R140, R142). -/
structure SliceTake where
  flacon : FlaconIx
  ecc : EntryEcc := .good
  deriving DecidableEq, Repr

/-- An instance of the arbiter register set: an XB plane, an HS slice, a KS channel (04). -/
inductive ArbInst where
  | plane (n : PlaneIx)
  | slice (n : SliceIx)
  | keep (n : Fin 8)
  deriving DecidableEq, Repr

/-- One arbiter: an output of a plane, a slice input, a Keep channel (R98). -/
inductive ArbIx where
  | plane (n : PlaneIx) (output : Fin 128)
  | slice (n : SliceIx)
  | keep (n : Fin 8)
  deriving DecidableEq, Repr

/-- Region operations (R227). -/
inductive RegionOpKind where
  | insert | change | remove
  deriving DecidableEq, Repr

/-- One region operation: the fields of a REGION record (R54). -/
structure RegionOp where
  kind : RegionOpKind
  index : Nat
  ns : Bool := false
  perms : Nat := 0
  start : Nat := 0
  stop : Nat := 0
  deriving DecidableEq, Repr

/-! ### Management commands (16) and the fabric manager API (11) -/

/-- Verdicts of the Falcon-1024 verifications that a management command makes: the first, and for OWNER_KEY that of the
staged Formula (assumption 10). -/
structure MgmtVerdict where
  sig : Bool := true
  sig2 : Bool := true
  deriving DecidableEq, Repr

/-- A management command as it is taken (R412, R416, R418): its path, the source EID of the MCTP header on paths 1 and 3,
and its header.  remote: it reached MGMT_EID over a fabric port, or from a host (R416). -/
structure MgmtReq where
  path : Fin 4 := 0
  eid : Nat := 0
  remote : Bool := false
  /-- LENGTH is that of the opcode's body. -/
  lenOk : Bool := true
  /-- VERSION is 1, and the reserved bytes of the header and of the body are 0. -/
  resOk : Bool := true
  tag : Word := 0
  v : MgmtVerdict := {}
  deriving DecidableEq, Repr

/-- An entry of a REGION_BATCH as its body holds it (R422). -/
structure RegionEntry where
  op : BitVec 8
  flacon : BitVec 8
  index : BitVec 16
  ns : BitVec 8 := 0
  perms : BitVec 16 := 0
  start : Word := 0
  stop : Word := 0
  deriving DecidableEq, Repr

/-- The register values of one Sillage filter (R407). -/
structure SilFilter where
  en : Bool := false
  classes : BitVec 8 := 0
  ports : BitVec 32 := 0
  flacons : BitVec 32 := 0
  lo : BitVec 52 := 0
  hi : BitVec 52 := 0
  deriving DecidableEq, Repr

/-- The commands of R421 Table 3 with their operands, and one whose opcode is not listed. -/
inductive MgmtCmd where
  | identify
  | readReg (offset : BitVec 32) (size : BitVec 8)
  | writeReg (offset : BitVec 32) (size : BitVec 8) (value : Word)
  | readLog (count : BitVec 16)
  | faultClear (target : BitVec 8) (index : BitVec 16)
  | bind (flacon usp dsp ld vppb : BitVec 8)
  | unbind (usp vppb option : BitVec 8)
  | powerOn (slot : BitVec 8)
  | powerOff (slot : BitVec 8)
  | slotFaultClear (slot : BitVec 8)
  | setLimit (slot : BitVec 8) (ma : BitVec 16)
  | setWeight (port flacon : BitVec 8) (weight : BitVec 32)
  | setRate (port flacon : BitVec 8) (mbps : BitVec 32)
  | regionBatch (flacon count : BitVec 8) (entries : List RegionEntry)
  | decantStart (src tgt : BitVec 16) (rate : BitVec 32)
  | decantCancel (job : BitVec 8)
  | decantRate (job : BitVec 8) (rate : BitVec 32)
  | traceSet (quad : BitVec 8) (en egress : Bool) (f0 f1 : SilFilter)
  | traceRead (quad : BitVec 8)
  | traceFlush (quad : BitVec 8)
  | mirrorSet (flacon : BitVec 8) (base : Word) (ctl : BitVec 32)
  | retrain (port : BitVec 16)
  | laneDisable (lane : BitVec 16) (value : BitVec 8)
  | modeReq (target : BitVec 8)
  | formulaStage (slot : BitVec 8) (offset : BitVec 32) (data : List Byte)
  | fwStage (slot : BitVec 8) (offset : BitVec 32) (data : List Byte)
  | attest (nonce : BitVec 256)
  | getCert (index : BitVec 8)
  | formulaCommit (slot mode : BitVec 8)
  | fwCommit (slot : BitVec 8)
  | ownerKey (slot : BitVec 8) (key : List Byte)
  | keepErase
  | fuseProgram (field : BitVec 8) (value : BitVec 32)
  | sealRearm
  | unknown (opcode : BitVec 16)
  deriving DecidableEq, Repr

/-- A fabric manager API command as it is taken (R315): an MCTP message over MPORT (path 1) or I3C (path 3). -/
structure FmReq where
  path : Fin 4 := 3
  eid : Nat := 0
  remote : Bool := false
  deriving DecidableEq, Repr

/-- An extent of dynamic capacity: its place in the Flacon's address space, in bytes. -/
structure DcExtent where
  start : Nat
  len : Nat
  deriving DecidableEq, Repr

/-- JTAG instructions (R404). -/
inductive JtagInstr where
  | bypass | idcode | samplePreload | extest | network
  deriving DecidableEq, Repr

/-- Output pins the model records when they change (R453). -/
inductive PinOut where
  | faultN | alertN | spcGate (n : Fin 32) | slotPerstN (n : Fin 32) | slotClkreqN (n : Fin 32)
  | feedGate (n : Fin 2) | capture | boundary
  deriving DecidableEq, Repr

/-- What the block sends or drives (the model's own record; assumption 6). -/
inductive Out where
  /-- The completion of a register access. -/
  | completion (path : AccessPath) (c : Completion)
  /-- An MSI-X message of MPORT (R413). -/
  | msix (vector : Nat)
  /-- An output pin driven to a level. -/
  | pin (p : PinOut) (high : Bool)
  /-- Every lane in electrical idle. -/
  | lanesIdle
  /-- The main clocks start or stop. -/
  | clocks (on : Bool)
  /-- A segment sent whole on the capture port, and its number of blocks; State.captureBlock of the sending state gives
  the bytes of each (R402, R403). -/
  | capture (segment : Nat) (blocks : Nat)
  /-- A message transmitted by a port: its cells, and whether it was nullified. -/
  | sent (port : Nat) (m : Msg) (nullified : Bool)
  /-- GO_WritePull, sent to a device by its tile; the tag of its write (R306). -/
  | writePull (port : Nat) (ltag : Nat)
  /-- The answer to a commit of HDM decoder 0: Committed, or Error Not Committed (R303). -/
  | hdm (port : Nat) (committed : Bool)
  /-- A flit sent by a fabric port. -/
  | flit (port : Nat) (f : FlitIn)
  /-- A GPF phase sent to a device, and the answer to one sent to a host. -/
  | gpf (port : Nat) (phase : Nat)
  | gpfAnswer (port : Nat) (phase : Nat)
  /-- The HDM decoders 0 of a device's LDs programmed, base 0 and one way, each with its size, and its CXL.mem enabled
  (R321). -/
  | enabled (port : Nat) (lds : List (Nat × Nat))
  /-- A hot reset of a link, or an LD-ID hot reset vector. -/
  | hotReset (port : Nat) (ld : Option Nat)
  /-- A hot-plug interrupt of a vPPB. -/
  | hotplug (port : Nat) (vppb : Nat)
  /-- An MSI-X message of the engine function of an upstream port (R185). -/
  | engineMsix (port : Nat) (vector : Nat)
  /-- Bits inverted on a lane's transmitter (R264). -/
  | injected (lane : Nat) (bits : Nat)
  /-- A value shifted out of the test access port. -/
  | tdo (value : Nat)
  /-- A mailbox response, to its path: opcode, status, tag, DETAIL and body (R418). -/
  | response (path : Nat) (opcode status : Nat) (tag : Word) (detail : Nat) (body : List Byte)
  /-- An in-band interrupt of the I3C target: a response is ready, or ALERT_N has fallen (R415). -/
  | ibi
  /-- What the I3C target's private reads return (R415). -/
  | i3c (bytes : List Byte)
  /-- The answer to a fabric manager command: return code, extended status, and the payload that this specification
  gives (R316). -/
  | fmAnswer (path : Nat) (opcode : Nat) (code ext : Nat) (data : List Byte)
  /-- A fabric manager command carried to the device of a port (R315). -/
  | fmForward (port : Nat) (opcode : Nat) (payload : List Byte)
  deriving DecidableEq, Repr

end Sys2Proof
end

