-- ==== Sys2Proof/Syntax.lean ====
section
/-!
DEFINITION. Syntax.lean: the commands of the block, one constructor per row of spec/opcode_table.json, with the row's
operands.  A command is an event: a register access, a bus or link message, a timer's expiry, a measurement crossing a
level, a change of a pin.  That a command arrives says that its event has happened: an expiry command says that its
interval has passed (assumption 5).
-/
namespace Sys2Proof

inductive Instr where
  /-- REGISTER_WRITE (R8). A write to a register field that has no behaviour of its own sets, clears or ignores the field according to its type. -/
  | registerWrite (path : AccessPath) (addr : Nat) (size : Nat) (data : Word)
  /-- RC_FIELD_READ (R8). A read of a register with RC fields returns their values and clears them, keeping any same-cycle event. -/
  | rcFieldRead (path : AccessPath) (addr : Nat) (size : Nat)
  /-- LOWER_HALF_READ (R5). A 32-bit read of a 64-bit register's lower half latches the upper half for that path and clears RC fields of both halves. -/
  | lowerHalfRead (path : AccessPath) (addr : Nat)
  /-- UPPER_HALF_READ (R5). A 32-bit read of an upper half returns the latched value and releases the latch, or the current value if no latch is held. -/
  | upperHalfRead (path : AccessPath) (addr : Nat)
  /-- LOWER_HALF_WRITE (R5). A 32-bit write of a lower half is held for that path, replacing any half held before. -/
  | lowerHalfWrite (path : AccessPath) (addr : Nat) (data : BitVec 32)
  /-- UPPER_HALF_WRITE (R5). A 32-bit write of an upper half makes both halves take effect together when the matching lower half is held. -/
  | upperHalfWrite (path : AccessPath) (addr : Nat) (data : BitVec 32)
  /-- HELD_HALF_EXPIRY (R5). A held lower half that no upper-half write completes within 1 ms is discarded and sets TORN. -/
  | heldHalfExpiry (path : AccessPath)
  /-- SENSOR_UPDATE (R12). Each sensor update re-reads the junction temperatures and re-evaluates throttle, refresh multiplier and temperature triggers. -/
  | sensorUpdate (readings : SensorReadings)
  /-- FENCE_PLANE (R80). On the FENCE_PLANE notice each source stops spraying to the plane and sends DRAIN cells carrying the highest SEQ sent on it. -/
  | fencePlane (n : PlaneIx)
  /-- UNFENCE_PLANE (R82). On the UNFENCE_PLANE notice sources resume spraying to the plane at their next rotation. -/
  | unfencePlane (n : PlaneIx)
  /-- FENCE_SLICE (R18). On FENCE_SLICE tiles complete new requests for the slice with error, gates free held cells from it and HS_SLICE_LOST is raised. -/
  | fenceSlice (n : SliceIx)
  /-- FENCE_TILE (R18). On FENCE_TILE slices complete snoops to endpoints behind the tile as no line and other tiles treat its ports as down. -/
  | fenceTile (n : TileIx)
  /-- FENCE_FLACON (R241). On FENCE_FLACON every block contains the Flacon: errors at ingress, flushes, GO_ERR trackers, Accord aborts and Decant cancel. -/
  | fenceFlacon (f : FlaconIx)
  /-- QUARANTINE (R397). On the QUARANTINE notice every block applies containment: TN_CANCEL, GO_ERR, ingress errors, flushes, viral and Decant cancel. -/
  | quarantine
  /-- WATCHDOG_EXPIRY (R21). Expiry of the 100 ms firmware watchdog raises CHIP_WATCHDOG, sets WDOG and restarts the firmware, with a mode-dependent effect. -/
  | watchdogExpiry (sig : SigVerdict)
  /-- CHIP_TIME_ADJ (R25). A write of CHIP_TIME_ADJ starts a correction of CHIP_TIME, stepped if positive with STEP set, otherwise slewed. -/
  | chipTimeAdj (path : AccessPath) (data : BitVec 32)
  /-- TIME_SLEW_STEP (R25). Every 16 beats of a slew one tick is added or withheld from CHIP_TIME until the correction is done. -/
  | timeSlewStep
  /-- PTM_EXCHANGE (R25). A completed PTM exchange on PTM_PORT with PTM_EN set applies a correction to CHIP_TIME. -/
  | ptmExchange (correction : Int)
  /-- REF_LOST (R26). No reference edge for 1 µs or ROOTCLK PLL loss of lock sends the device to FROZEN with cause REF_LOST, cutting any drain. -/
  | refLost (refSeen : Bool)
  /-- SDS_PLL_UNLOCK (R26). A SerDes PLL losing lock takes down the lanes it serves as link drops and sets CHIP_CLK_STATUS.SDS_UNLOCK. -/
  | sdsPllUnlock (pll : Fin 8) (lanes : List LaneIx)
  /-- VAUX_RISE (R28). VAUX entering tolerance moves the device from OFF to RESET and starts the always-on domain. -/
  | vauxRise (sealHigh : Bool)
  /-- VAUX_LOSS (R28). VAUX falling below 2.8 V sends the device to OFF, or to RESET if the main rails stay up, losing all always-on state. -/
  | vauxLoss (mainRailsLost : Bool)
  /-- VAUX_RECOVERY_EXPIRY (R28). VAUX back in tolerance for 1 ms with PWRON_RESET_N high lets the device leave RESET for BOOT with AO_FRESH set. -/
  | vauxRecoveryExpiry
  /-- PWRON_RESET_RELEASE (R28). Release of PWRON_RESET_N latches the straps and leaves RESET for BOOT or, with the retain-valid flag, for REVIVE. -/
  | pwronResetRelease
  /-- PWRON_RESET_ASSERT (R28). PWRON_RESET_N low sends every mode except OFF and RETAIN to RESET, with outputs at their reset states within 2 µs. -/
  | pwronResetAssert
  /-- CHIP_RESET (R28). Writing CHIP_RESET with its key schedules a cold reset 1 µs later, clearing the retain-valid flag; ignored in DRYDOWN. -/
  | chipReset (path : AccessPath) (key : BitVec 32)
  /-- CHIP_RESET_START (R28). 1 µs after the keyed write the cold reset goes through RESET to BOOT. -/
  | chipResetStart
  /-- MODE_REQ_LINKTEST (R28). CHIP_MODE_REQ.TARGET = LINKTEST from BOOT enters LINKTEST without applying a Formula. -/
  | modeReqLinktest (path : AccessPath)
  /-- MODE_REQ_BOOT (R28). CHIP_MODE_REQ.TARGET = BOOT from LINKTEST returns to BOOT and reruns Formula validation. -/
  | modeReqBoot (path : AccessPath)
  /-- MODE_REQ_QUARANTINE (R28). CHIP_MODE_REQ.TARGET = QUARANTINE enters QUARANTINE with cause 0x0F from the modes that allow it. -/
  | modeReqQuarantine (path : AccessPath)
  /-- PERST_N_ASSERT (R32). PERST_N low resets the MPORT endpoint only, making BAR0 and the mailbox unreachable. -/
  | perstNAssert
  /-- PERST_N_RELEASE (R32). PERST_N high lets the MPORT endpoint come out of reset. -/
  | perstNRelease
  /-- FIRMWARE_START (R428). After the boot ROM has read the directory and verified a firmware slot, it read-locks the seed and starts the firmware. -/
  | firmwareStart (sig : SigVerdict)
  /-- IDENTITY_KEY_DERIVED (R433). Falcon-1024 key generation from the seed and serial completes and sets MG_LIFECYCLE.IDENTITY_READY. -/
  | identityKeyDerived (sramOk : Bool) (keepOk : Bool)
  /-- FORMULA_BOOT_APPLY (R39). Firmware tries Formula slots in order, applies the first that validates, rewrites the directory and enters COMPOSE. -/
  | formulaBootApply (sig : SigVerdict)
  /-- COMPOSE_DONE (R28). When all tables are written and every port has finished its first training attempt COMPOSE moves to SERVE. -/
  | composeDone
  /-- FORMULA_STAGE (R421). FORMULA_STAGE erases and programs data into the inactive Formula slot and reads it back, clearing PENDING_VALID if it names the slot. -/
  | formulaStage (r : MgmtReq) (slot : BitVec 8) (offset : BitVec 32) (data : List Byte)
  /-- FW_STAGE (R421). FW_STAGE erases and programs data into a firmware slot and reads it back. -/
  | fwStage (r : MgmtReq) (slot : BitVec 8) (offset : BitVec 32) (data : List Byte)
  /-- FORMULA_COMMIT_LIVE (R62). A presence-gated LIVE commit validates the slot, compares it with the Formula in force and starts RECOMPOSE for affected Flacons. -/
  | formulaCommitLive (r : MgmtReq) (slot : BitVec 8)
  /-- FORMULA_COMMIT_NEXT_BOOT (R61). A presence-gated NEXT_BOOT commit validates the slot and sets PENDING and PENDING_VALID. -/
  | formulaCommitNextBoot (r : MgmtReq) (slot : BitVec 8)
  /-- RECOMPOSE_DRAIN_DONE (R63). When in-flight accesses are done, queues empty and directory entries back-invalidated, RECOMPOSE goes to SWITCH. -/
  | recomposeDrainDone
  /-- RECOMPOSE_DRAIN_TIMEOUT (R63). DRAIN_MS expiry completes remaining requests with error, flushes queues, poisons unfinished lines and sets DRAIN_TIMEOUT. -/
  | recomposeDrainTimeout
  /-- RECOMPOSE_SWITCH (R63). Once shadow tables are written, affected tables, shares, SEVERITY and DELEGATION change in one MCLK and epochs advance. -/
  | recomposeSwitch
  /-- RECOMPOSE_RETRAIN_DONE (R63). When changed ports have made their first training attempt RECOMPOSE returns to SERVE and sets LIVE_DONE. -/
  | recomposeRetrainDone
  /-- MESSAGE_ARRIVAL (R70). A message arriving at an ingress tile is parsed, looked up, checked against regions and admitted or made to wait whole. -/
  | messageArrival (port : PortIx) (a : Arrival) (env : LookupEnv)
  /-- ADMISSION_RETRY (R87). A waiting message retries admission every CCLK until room is found for all its cells. -/
  | admissionRetry (at_ : Fin 192) (mc : Fin 8)
  /-- PACK_WAIT_EXPIRY (R68). When PACK_WAIT CCLK have passed since the first packable message, the packed cell is closed and sent on. -/
  | packWaitExpiry (tile : TileIx)
  /-- BODY_CELL_ARRIVAL (R71). A BODY or TAIL cell of a message already admitted is sprayed as it arrives, or discarded if its message was flushed. -/
  | bodyCellArrival (port : PortIx) (mc : Fin 8) (line : Line) (last : Bool) (bad : Bool)
  /-- PLANE_CELL_ARRIVAL (R79). A cell arriving from a plane is buffered and linked by its resequencer in SEQ order, or discarded outside the window. -/
  | planeCellArrival (plane : PlaneIx) (src : Fin 128) (unit : PlaneTake)
  /-- RESEQ_RELEASE (R78). Resequencer releases returned on the plane reverse path reopen the source's 256-cell stream window. -/
  | reseqRelease (src : Fin 128) (unit : Fin 128) (mc : Fin 8)
  /-- DRAIN_CELL_ARRIVAL (R81). A DRAIN cell arriving at a resequencer closes fence gaps, skipping missing SEQ for a fault fence, and may set DRAINED. -/
  | drainCellArrival (plane : PlaneIx) (src : Fin 128) (unit : Fin 128)
  /-- PLANE_FAULT (R80). A cell CRC failure at a plane output or a plane agent fault raises a fault fence of the plane. -/
  | planeFault (n : PlaneIx) (crc : Option (Fin 128 × Fin 128))
  /-- PLANE_FENCE_REQ (R80). Writing XB_CTL.FENCE_REQ = 1 raises an administrative FENCE_PLANE, or is refused if no plane would remain. -/
  | planeFenceReq (path : AccessPath) (n : PlaneIx)
  /-- PLANE_UNFENCE_REQ (R82). Writing XB_CTL.FENCE_REQ = 0 raises UNFENCE_PLANE, or is refused while a fault fence stands. -/
  | planeUnfenceReq (path : AccessPath) (n : PlaneIx)
  /-- SPILL_PREFETCH (R86). The prefetcher moves the next spill cells of a port's queues into its prefetch window, freeing their spill slots. -/
  | spillPrefetch (port : PortIx)
  /-- EGRESS_SCHEDULE (R108). At each cell slot the egress scheduler chooses an eligible queue by MC0, WFQ start tags and service class, and transmits. -/
  | egressSchedule (port : PortIx) (credits : BitVec 16) (ecc : EccFinding)
  /-- TX_DONE (R152). The egress tile reports to the slice that a grant marked for notice has been transmitted, allowing snoops to that requester. -/
  | txDone (n : SliceIx) (f : FlaconIx)
  /-- PT_FLUSH_GO (R93). Writing PT_FLUSH_CTL.GO flushes the selected queues of a down port or fenced Flacon, or is refused. -/
  | ptFlushGo (path : AccessPath) (port : PortIx)
  /-- ARBITER_ROUND (R100). An arbiter decides a round, granting the oldest on the Nth grant or else the highest effective priority, updating L, A and C. -/
  | arbiterRound (arb : ArbIx) (req : List ArbReq) (bytes : Nat) (parityBad : Bool) (withdrawn : Bool)
  /-- KEEP_WINDOW_END (R101). At the end of each 80 ns Keep window caps are unmasked and the directory floor count restarts. -/
  | keepWindowEnd (ch : Fin 8)
  /-- ARB_RESYNC (R105). Writing ARB_CTL.RESYNC clears L, A and C of arbiters in fallback at the next round boundary and resumes normal arbitration. -/
  | arbResync (path : AccessPath) (inst : ArbInst)
  /-- ARB_CLR_STATS (R100). Writing ARB_CTL.CLR_STATS clears the counters of the selected arbiter. -/
  | arbClrStats (path : AccessPath) (inst : ArbInst)
  /-- ARB_PRIO_WRITE (R104). A write to ARB_PRIO reaches the arbiter and applies the new BASE at the point R104 sets for the requester's state. -/
  | arbPrioWrite (path : AccessPath) (inst : ArbInst) (n : Fin 128) (base : Fin 8)
  /-- SHAPER_WHEEL_FIRE (R114). A timing-wheel slot fires up to 32 shapers per beat, refilling them and replacing those still at or below 0. -/
  | shaperWheelFire
  /-- TOPNOTE_REFILL (R125). Every 100 beats each Topnote policer gains TOPNOTE_RATE tokens up to TOPNOTE_BURST. -/
  | topnoteRefill
  /-- SLICE_REQUEST_TAKEN (R147). A slice takes a coherent request, allocates a tracker or joins the conflict list, looks up the directory and acts per Table 6. -/
  | sliceRequestTaken (n : SliceIx) (mc : Fin 8) (f : SliceTake)
  /-- BACKING_SET_READ_DONE (R138). A backing set read on a hot-tier miss completes, filling a frame and giving the directory result. -/
  | backingSetReadDone (n : SliceIx) (set : Fin 131072) (ecc : EntryEcc)
  /-- VICTIM_OVERFLOW_RETRY (R156). A request in the victim-overflow queue is retried when a pin on its set or group is released. -/
  | victimOverflowRetry (n : SliceIx)
  /-- DIRECTORY_SCRUB (R140). Every 2^SCRUB_INT µs a slice reads and checks one backing set. -/
  | directoryScrub (n : SliceIx) (set : Fin 131072) (ecc : EntryEcc)
  /-- MEM_DATA_ARRIVAL (R147). Memory data reaches the slice and is used for the grant, discarded if owner data was taken, or sent tentative. -/
  | memDataArrival (n : SliceIx) (f : FlaconIx)
  /-- SNOOP_ANSWER_ARRIVAL (R151). A snoop answer reaches the slice and is applied to its tracker or snoop record, or discarded as stray. -/
  | snoopAnswerArrival (n : SliceIx) (f : FlaconIx)
  /-- WRITEBACK_ARRIVAL (R151). A writeback reaches the slice and is taken as owner data, handled as the owner's own writeback, or discarded as stray. -/
  | writebackArrival (n : SliceIx) (f : FlaconIx)
  /-- MEM_CMP_ARRIVAL (R148). MEM_CMP ends a line's write-pending state, frees the data cell or staging slot and releases waiting writes and CMPs. -/
  | memCmpArrival (n : SliceIx) (f : FlaconIx)
  /-- BI_CONFLICT (R152). A BI_CONFLICT from an endpoint is answered with BI_CONFLICT_ACK on the stream of its grant. -/
  | biConflict (n : SliceIx) (f : FlaconIx)
  /-- DEVICE_BISNP (R129). A device back-invalidate snoop for a SHARED address is answered invalid at once and counted as HS_DEV_BISNP. -/
  | deviceBisnp (port : PortIx) (addr : Nat) (ltag : Nat)
  /-- HS_QUERY (R138). Writing HS_QUERY_ADDR.GO looks up an address in the slice without changing state and fills HS_QUERY_RESULT. -/
  | hsQuery (path : AccessPath) (n : SliceIx) (addr : BitVec 52)
  /-- TENTATIVE_CELL_AT_GATE (R174). A tentative cell chosen by the scheduler reaches its confirm gate entry and is held or resolved by an early notice. -/
  | tentativeCellAtGate (port : PortIx) (credits : BitVec 16) (ecc : EccFinding)
  /-- TN_CONFIRM_ARRIVAL (R174). TN_CONFIRM reaching a gate entry passes its held cell to formatting or records an early confirm. -/
  | tnConfirmArrival (port : PortIx) (credits : BitVec 16)
  /-- TN_CANCEL_ARRIVAL (R174). TN_CANCEL reaching a gate entry frees its held cell or records an early cancel. -/
  | tnCancelArrival (port : PortIx) (credits : BitVec 16)
  /-- ACCORD_OPEN (R184). An OPEN doorbell allocates a tracker and latches COOKIE, WATCH and NOTIFY, or aborts at once for a cause of R464. -/
  | accordOpen (port : PortIx) (slot : Fin 64) (cookie : BitVec 32) (window : BitVec 10) (watch : Bool) (notify : Bool)
  /-- ACCORD_TRACKER_GRANT (R186). The Accord tracker is granted and the alias TLPs waiting in the tile are released in arrival order. -/
  | accordTrackerGrant (port : PortIx) (slot : Fin 64)
  /-- ACCORD_COMMIT (R184). A COMMIT doorbell moves an open slot to QUEUED and re-latches NOTIFY. -/
  | accordCommit (port : PortIx) (slot : Fin 64) (notify : Bool)
  /-- ACCORD_ABORT (R184). An ABORT doorbell aborts an unsealed Accord with HOST, releasing its marks and staging. -/
  | accordAbort (port : PortIx) (slot : Fin 64)
  /-- ACCORD_CLEAR (R184). A CLEAR doorbell returns a COMMITTED or ABORTED slot to IDLE. -/
  | accordClear (port : PortIx) (slot : Fin 64)
  /-- ALIAS_WRITE (R190). An alias write is checked, translated to a shared line and staged at its home slice with a stage mark. -/
  | aliasWrite (port : PortIx) (slot : Fin 64) (offset : Nat) (bytes : List Byte) (ltag : Nat) (env : AliasEnv)
  /-- ALIAS_READ (R191). An alias read returns the staged or committed value and, with WATCH, places a watch mark. -/
  | aliasRead (port : PortIx) (slot : Fin 64) (offset : Nat) (len : Nat) (ltag : Nat) (env : AliasEnv)
  /-- STAGE_NOTICE (R198). A slice returns a stage notice to the tile for each alias line staged or discarded. -/
  | stageNotice (tracker : Nat)
  /-- ACCORD_PREPARE_START (R198). A queued Accord whose stages are done and reserve is held is taken by the engine, takes its record slots and sends PREPARE. -/
  | accordPrepareStart (tracker : Nat)
  /-- PREPARE_AT_SLICE (R199). A slice receiving PREPARE pins the Accord's lines and snoops every copy of each staged line. -/
  | prepareAtSlice (n : SliceIx) (tracker : Nat)
  /-- PREPARE_ANSWER (R199). A slice's READY or NO reaches the engine; all READY starts the seal or commits an Accord with no staged line. -/
  | prepareAnswer (n : SliceIx) (tracker : Nat)
  /-- PREP_TIMEOUT (R199). PREP_LIMIT expiry aborts the Accord with PREP_TIMEOUT and raises AC_PREP_TIMEOUT. -/
  | prepTimeout (tracker : Nat)
  /-- COMMIT_RECORD_WRITTEN (R200). When the commit record is durable the engine sends FLIP to each involved slice. -/
  | commitRecordWritten (tracker : Nat)
  /-- FLIP_AT_SLICE (R200). A slice receiving FLIP makes each staging slot the line's write-pending source, issues MEM_WR, releases the line and acknowledges. -/
  | flipAtSlice (n : SliceIx) (tracker : Nat) (ue : List Nat)
  /-- FLIP_ACK (R200). When every slice has acknowledged the seal is complete and a D0 or D1 Accord is COMMITTED, a D2 Accord PERSIST. -/
  | flipAck (n : SliceIx) (tracker : Nat)
  /-- ENGINE_FUNCTION_FLR (R209). An FLR of the engine function aborts the port's unsealed Accords with LINK_DOWN and returns slots to IDLE. -/
  | engineFunctionFlr (port : PortIx)
  /-- REGION_BATCH (R227). A REGION_BATCH command checks 1 to 16 region operations in order and applies them whole in one epoch advance. -/
  | regionBatch (r : MgmtReq) (flacon : BitVec 8) (count : BitVec 8) (entries : List RegionEntry)
  /-- EPOCH_DRAIN_TARGET (R234). Writing FL_EPOCH_DRAIN.TARGET starts the test of whether any access of an older epoch remains, reported in DONE. -/
  | epochDrainTarget (path : AccessPath) (f : FlaconIx) (target : BitVec 32)
  /-- FL_FAULT_CLEAR (R242). Writing FL_FAULT.CLEAR of a fenced Flacon starts its unfencing, or is refused in QUARANTINE or while unfencing. -/
  | flFaultClear (path : AccessPath) (f : FlaconIx)
  /-- UNFENCE_DRAIN_DONE (R242). When no flush or access of the Flacon remains, its sets are cleared, its epoch advanced, its links retrained and FENCED cleared. -/
  | unfenceDrainDone (f : FlaconIx)
  /-- LANE_SIGNAL_DETECTED (R249). Signal present for 1 ms without a break moves the lane from DETECT to TRAIN. -/
  | laneSignalDetected (lane : LaneIx)
  /-- TRAINING_FRAME (R251). A good training frame is received and its FIR requests, presets and status are handled. -/
  | trainingFrame (lane : LaneIx) (f : TrainFrame)
  /-- LANE_TRAIN_DONE (R249). Both ends showing RX_READY in 3 frames moves the lane to LOCK and takes an adaptation stamp. -/
  | laneTrainDone (lane : LaneIx) (load : BitVec 8)
  /-- LANE_TRAIN_TIMEOUT (R249). 500 ms in TRAIN sends the lane to WAIT and raises LN_TRAIN_FAIL. -/
  | laneTrainTimeout (lane : LaneIx)
  /-- LANE_LOCKED (R247). Codeword and block lock move the lane from LOCK to IDENT. -/
  | laneLocked (lane : LaneIx)
  /-- LANE_LOCK_TIMEOUT (R249). 10 ms in LOCK sends the lane to WAIT with FAIL_STAGE 3. -/
  | laneLockTimeout (lane : LaneIx)
  /-- IDENT_FRAME (R252). An IDENT frame is received on a lane, deskewed and compared toward completion of IDENT. -/
  | identFrame (lane : LaneIx) (f : IdentFrame) (good : Bool)
  /-- LANE_IDENT_DONE (R252). IDENT completing on the port's lanes moves them to ACTIVE and fills LN_PARTNER. -/
  | laneIdentDone (port : PortIx)
  /-- PORT_IDENT_TIMEOUT (R252). 10 ms after the first lane reached LOCK the port leaves IDENT with the lanes that completed it. -/
  | portIdentTimeout (port : PortIx)
  /-- LANE_WAIT_EXPIRY (R249). 100 ms in WAIT sends the lane back to DETECT and counts an attempt. -/
  | laneWaitExpiry (lane : LaneIx)
  /-- LANE_FAILURE (R248). Loss of signal, lock or codewords declares a lane failure, sets LANE_FAIL and reports it to the port logic. -/
  | laneFailure (lane : LaneIx)
  /-- MARGIN_MEASUREMENT (R258). Every MON_INT ms the monitor measures vertical and horizontal margins and evaluates re-tune triggers. -/
  | marginMeasurement (lane : LaneIx) (v : BitVec 8) (h : BitVec 6) (load : BitVec 8)
  /-- RETUNE_LEVEL_DONE (R260). A re-tune level ends with a measurement that either ends the re-tune with a stamp or starts the next level. -/
  | retuneLevelDone (lane : LaneIx) (v : BitVec 8) (h : BitVec 6) (load : BitVec 8)
  /-- LN_RETUNE (R259). Writing LN_CTL.RETUNE fires trigger 4 and starts a re-tune. -/
  | lnRetune (path : AccessPath) (lane : LaneIx)
  /-- LN_RETRAIN (R249). Writing LN_CTL.RETRAIN sends every lane of the port to WAIT and then DETECT, a full reset on anchored ports. -/
  | lnRetrain (path : AccessPath) (lane : LaneIx)
  /-- LN_DISABLE (R266). Setting LN_CTL.DISABLE puts the lane in electrical idle, a lane failure if ACTIVE; clearing it returns the lane to DETECT. -/
  | lnDisable (path : AccessPath) (lane : LaneIx) (on : Bool)
  /-- HOST_MARGINING_START (R258). A host lane margining run takes the auxiliary slicer after any re-tune level in progress and holds monitor triggers. -/
  | hostMarginingStart (lane : LaneIx)
  /-- HOST_MARGINING_END (R258). The end of a host margining run releases the slicer to the monitor and pending triggers. -/
  | hostMarginingEnd (lane : LaneIx)
  /-- LN_PRBS_CTL_WRITE (R266). A write of LN_PRBS_CTL starts or stops a generator, checker or loopback, or is refused and sets REFUSED. -/
  | lnPrbsCtlWrite (path : AccessPath) (lane : LaneIx) (data : BitVec 32)
  /-- LN_INJECT (R264). Writing LN_PRBS_INJ.INJECT inverts the next bit, refused on an active anchored port. -/
  | lnInject (path : AccessPath) (lane : LaneIx)
  /-- LN_BURST (R264). Writing LN_PRBS_INJ.BURST inverts BURST_LEN consecutive bits. -/
  | lnBurst (path : AccessPath) (lane : LaneIx)
  /-- LN_TEST_START (R267). LN_TEST_CFG.EN written from 0 to 1 in LINKTEST starts the lane's test at the configured rate, polarity and adaptation. -/
  | lnTestStart (path : AccessPath) (lane : LaneIx) (data : BitVec 32)
  /-- LINKTEST_ADAPT_EXPIRY (R267). After 10 ms of receiver adaptation with ADAPT = 0 the checker starts counting. -/
  | linktestAdaptExpiry (lane : LaneIx)
  /-- FLIT_SEND (R272). At each flit start the transmitter fills the bypass and cell slots, or sends a NULL flit, carrying acks, credits and XOFF. -/
  | flitSend (port : PortIx)
  /-- FLIT_RECEIVE (R278). A received flit is accepted, discarded with NAK or treated as duplicate, and its control fields are used. -/
  | flitReceive (port : PortIx) (f : FlitIn) (fec : List LaneFec)
  /-- NAK_REPEAT_EXPIRY (R278). A NAK unanswered for 2 × RTT + 1 µs is repeated. -/
  | nakRepeatExpiry (port : PortIx)
  /-- REPLAY_TIMEOUT (R279). No acknowledgement for 2 × RTT + 1 µs resends from the oldest stored flit. -/
  | replayTimeout (port : PortIx)
  /-- RX_LANES (R286). An RX_LANES message gives the partner's healthy-lane mask, from which the transmitter chooses its lane map. -/
  | rxLanes (port : PortIx) (mask : BitVec 16)
  /-- FIR_REQ (R274). A FIR_REQ link-control message asks the partner to adjust a lane's FIR for an L2 re-tune. -/
  | firReq (port : PortIx) (lane : Fin 16) (req : BitVec 10)
  /-- FIR_STS (R274). A FIR_STS link-control message reports the partner's FIR tap status for an L2 re-tune. -/
  | firSts (port : PortIx) (lane : Fin 16) (sts : BitVec 8)
  /-- LL_INIT (R291). An LL_INIT from the partner restarts the link layer if UP, or completes the restart exchange and settles resume. -/
  | llInit (port : PortIx) (caps : LlCaps)
  /-- PT_LL_RESTART (R291). Writing PT_LL_CTL.RESTART causes a link-layer restart. -/
  | ptLlRestart (path : AccessPath) (port : PortIx)
  /-- LL_INIT_TIMEOUT (R291). No LL_INIT within 1 ms of a restart sends the lanes to WAIT. -/
  | llInitTimeout (port : PortIx)
  /-- LINGER_EXPIRY (R293). The end of the linger window without a resume takes the port DOWN and flushes it. -/
  | lingerExpiry (port : PortIx)
  /-- DL_DOWN (R311). DL_Down of a CXL or PCIe port completes its outbound records upstream and flushes or lingers its queues by role. -/
  | dlDown (port : PortIx)
  /-- DIRECTORY_WALK_DONE (R314). When the directory walk ends the port releases its CXL.mem credits. -/
  | directoryWalkDone (port : PortIx)
  /-- DL_UP (R312). DL_Up reads the partner's serial number and restores configuration and sends lingering cells, or flushes them. -/
  | dlUp (port : PortIx) (l : StdLink)
  /-- HDM_COMMIT (R303). A host's commit of HDM decoder 0 is accepted or refused under the standard, setting HDM_COMMITTED or HDM_SHORT. -/
  | hdmCommit (port : PortIx) (base : Nat) (size : Nat) (ways : Nat)
  /-- VIRAL_RECEIVED (R307). Viral received on a CXL port raises STD_VIRAL_IN and asserts viral on the Flacon's CXL ports. -/
  | viralReceived (port : PortIx)
  /-- IDE_KM (R308). An IDE_KM message on the DOE mailbox programs link IDE keys for an upstream link. -/
  | ideKm (port : PortIx) (tx : Bool) (key : BitVec 256)
  /-- IDE_FAILURE (R308). An IDE integrity failure raises STD_IDE_FAIL, discards the keys and takes the link down. -/
  | ideFailure (port : PortIx)
  /-- GPF_PHASE1_REQUEST (R309). A host GPF phase-1 request completes its admitted writes and forwards the phase to the relevant GPF downstream ports. -/
  | gpfPhase1Request (port : PortIx)
  /-- GPF_PHASE2_REQUEST (R309). A host GPF phase-2 request is forwarded to the relevant GPF downstream ports. -/
  | gpfPhase2Request (port : PortIx)
  /-- GPF_DEVICE_ANSWER (R309). A device answer to a GPF phase serves every waiting flow, answering the host once all forwarded phases are answered. -/
  | gpfDeviceAnswer (port : PortIx) (phase : Fin 3)
  /-- GPF_TIMEOUT (R309). A GPF phase unanswered past its timeout is answered to the host anyway and raises STD_GPF_TIMEOUT. -/
  | gpfTimeout (port : PortIx) (phase : Fin 3)
  /-- PARTNER_RATE_CHANGE (R310). A width or rate change started by an anchored port's partner is replaced by a hot reset of the link. -/
  | partnerRateChange (port : PortIx) (rate : Fin 6) (width : Fin 17) (load : BitVec 8)
  /-- FM_IDENTIFY (R315). The fabric manager Identify command returns the device identification. -/
  | fmIdentify (r : FmReq)
  /-- FM_BACKGROUND_OPERATION_STATUS (R315). The Background Operation Status command reports the background operation in progress. -/
  | fmBackgroundOperationStatus (r : FmReq)
  /-- FM_GET_RESPONSE_MESSAGE_LIMIT (R315). Get Response Message Limit returns the response message size limit. -/
  | fmGetResponseMessageLimit (r : FmReq)
  /-- FM_SET_RESPONSE_MESSAGE_LIMIT (R315). Set Response Message Limit sets the response message size limit. -/
  | fmSetResponseMessageLimit (r : FmReq) (limit : BitVec 8)
  /-- FM_GET_EVENT_RECORDS (R315). Get Event Records returns event records. -/
  | fmGetEventRecords (r : FmReq)
  /-- FM_CLEAR_EVENT_RECORDS (R315). Clear Event Records clears event records under the FAULT_CLEAR group. -/
  | fmClearEventRecords (r : FmReq)
  /-- FM_IDENTIFY_SWITCH_DEVICE (R315). Identify Switch Device returns the switch identification. -/
  | fmIdentifySwitchDevice (r : FmReq)
  /-- FM_GET_PHYSICAL_PORT_STATE (R315). Get Physical Port State returns the state of physical ports. -/
  | fmGetPhysicalPortState (r : FmReq) (ports : List (BitVec 8))
  /-- FM_PHYSICAL_PORT_CONTROL (R315). Physical Port Control acts on a physical port under the LINK group as a background command. -/
  | fmPhysicalPortControl (r : FmReq) (port : BitVec 8) (op : BitVec 8)
  /-- FM_SEND_PPB_CONFIG_REQUEST (R315). Send PPB CXL.io Configuration Request performs a configuration access to a PPB. -/
  | fmSendPpbConfigRequest (r : FmReq) (port : BitVec 8) (write : Bool) (payload : List Byte) (answer : List Byte)
  /-- FM_GET_VIRTUAL_CXL_SWITCH_INFO (R315). Get Virtual CXL Switch Info returns virtual switch information. -/
  | fmGetVirtualCxlSwitchInfo (r : FmReq) (usp : BitVec 8)
  /-- FM_BIND_VPPB (R328). Bind vPPB binds a downstream port and LD to a vPPB under the BIND group. -/
  | fmBindVppb (r : FmReq) (usp : BitVec 8) (vppb : BitVec 8) (dsp : BitVec 8) (ld : BitVec 16)
  /-- FM_UNBIND_VPPB (R330). Unbind vPPB removes a binding with the chosen option. -/
  | fmUnbindVppb (r : FmReq) (usp : BitVec 8) (vppb : BitVec 8) (option : BitVec 8)
  /-- FM_TUNNEL_MANAGEMENT_COMMAND (R315). Tunnel Management Command carries a command to an MLD, authorised for the tunnelled command's group. -/
  | fmTunnelManagementCommand (r : FmReq) (port : BitVec 8) (opcode : BitVec 16) (payload : List Byte) (answer : List Byte)
  /-- FM_SEND_LD_CONFIG_REQUEST (R315). Send LD CXL.io Configuration Request performs a configuration access to an LD. -/
  | fmSendLdConfigRequest (r : FmReq) (port : BitVec 8) (write : Bool) (payload : List Byte) (answer : List Byte)
  /-- FM_SEND_LD_MEMORY_REQUEST (R315). Send LD CXL.io Memory Request performs a memory access to an LD. -/
  | fmSendLdMemoryRequest (r : FmReq) (port : BitVec 8) (write : Bool) (payload : List Byte) (answer : List Byte)
  /-- FM_GET_LD_INFO (R315). Get LD Info returns logical device information. -/
  | fmGetLdInfo (r : FmReq) (port : BitVec 8) (payload : List Byte) (answer : List Byte)
  /-- FM_GET_LD_ALLOCATIONS (R315). Get LD Allocations returns logical device allocations. -/
  | fmGetLdAllocations (r : FmReq) (port : BitVec 8) (payload : List Byte) (answer : List Byte)
  /-- FM_GET_QOS_CONTROL (R315). Get QoS Control returns QoS control settings. -/
  | fmGetQosControl (r : FmReq) (port : BitVec 8) (payload : List Byte) (answer : List Byte)
  /-- FM_GET_QOS_STATUS (R315). Get QoS Status returns QoS status. -/
  | fmGetQosStatus (r : FmReq) (port : BitVec 8) (payload : List Byte) (answer : List Byte)
  /-- FM_GET_QOS_ALLOCATED_BW (R315). Get QoS Allocated BW returns allocated bandwidth. -/
  | fmGetQosAllocatedBw (r : FmReq) (port : BitVec 8) (payload : List Byte) (answer : List Byte)
  /-- FM_GET_QOS_BW_LIMIT (R315). Get QoS BW Limit returns bandwidth limits. -/
  | fmGetQosBwLimit (r : FmReq) (port : BitVec 8) (payload : List Byte) (answer : List Byte)
  /-- FM_SET_QOS_CONTROL (R315). Set QoS Control sets QoS control under the WEIGHT group. -/
  | fmSetQosControl (r : FmReq) (port : BitVec 8) (payload : List Byte) (answer : List Byte)
  /-- FM_SET_QOS_ALLOCATED_BW (R315). Set QoS Allocated BW sets allocated bandwidth under the WEIGHT group. -/
  | fmSetQosAllocatedBw (r : FmReq) (port : BitVec 8) (payload : List Byte) (answer : List Byte)
  /-- FM_SET_QOS_BW_LIMIT (R315). Set QoS BW Limit sets bandwidth limits under the WEIGHT group. -/
  | fmSetQosBwLimit (r : FmReq) (port : BitVec 8) (payload : List Byte) (answer : List Byte)
  /-- FM_GET_DCD_INFO (R315). Get DCD Info returns dynamic capacity device information. -/
  | fmGetDcdInfo (r : FmReq) (port : BitVec 8) (payload : List Byte) (answer : List Byte)
  /-- FM_GET_HOST_DC_REGION_CONFIG (R315). Get Host DC Region Configuration returns dynamic capacity region configuration. -/
  | fmGetHostDcRegionConfig (r : FmReq) (port : BitVec 8) (payload : List Byte) (answer : List Byte)
  /-- FM_SET_DC_REGION_CONFIG (R315). Set DC Region Configuration sets dynamic capacity region configuration under the DCD group. -/
  | fmSetDcRegionConfig (r : FmReq) (port : BitVec 8) (payload : List Byte) (answer : List Byte)
  /-- FM_GET_DC_REGION_EXTENT_LISTS (R315). Get DC Region Extent Lists returns dynamic capacity extent lists. -/
  | fmGetDcRegionExtentLists (r : FmReq) (port : BitVec 8) (payload : List Byte) (answer : List Byte)
  /-- FM_INITIATE_DC_ADD (R315). Initiate Dynamic Capacity Add is forwarded when every extent lies inside the Flacon's decoders. -/
  | fmInitiateDcAdd (r : FmReq) (port : BitVec 8) (flacon : BitVec 8) (extents : List DcExtent)
  /-- FM_INITIATE_DC_RELEASE (R315). Initiate Dynamic Capacity Release is forwarded and advances the Flacon's epoch. -/
  | fmInitiateDcRelease (r : FmReq) (port : BitVec 8) (flacon : BitVec 8) (extents : List DcExtent)
  /-- DC_RELEASE_COMPLETE (R315). When the device reports a release complete the extents leave the Flacon's map. -/
  | dcReleaseComplete (port : PortIx) (extents : List DcExtent)
  /-- FM_UNSUPPORTED (R316). A fabric manager opcode not supported completes with return code Unsupported. -/
  | fmUnsupported (r : FmReq) (opcode : BitVec 16)
  /-- SLOT_PRESENCE_ARRIVE (R319). Debounced presence going low moves an EMPTY slot to PRESENT, evaluating AUTO_ON. -/
  | slotPresenceArrive (n : SlotIx)
  /-- SLOT_PRESENCE_LOSS (R319). Debounced presence going high moves the slot to EMPTY or, while powered, to surprise removal. -/
  | slotPresenceLoss (n : SlotIx)
  /-- ATTENTION_BUTTON_PRESS (R323). An attention button press is reported to the bound host and to management as HP_ATTN. -/
  | attentionButtonPress (n : SlotIx)
  /-- SLOT_POWER_GOOD (R319). Channel power-good moves the slot from POWERING to POWERED and drives SLOT_CLKREQ_N low. -/
  | slotPowerGood (n : SlotIx)
  /-- SLOT_POWER_GOOD_LOSS (R319). Loss of power-good drives PERST low, takes the port down and returns the slot to POWERING. -/
  | slotPowerGoodLoss (n : SlotIx)
  /-- SLOT_PERST_DELAY_EXPIRY (R319). 100 ms after power-good SLOT_PERST_N is released and the slot enters LINKING. -/
  | slotPerstDelayExpiry (n : SlotIx)
  /-- SLOT_ENUM_DONE (R321). Enumeration completing moves the slot to ACTIVE, or failing moves it to FAULT with HP_ENUM_FAIL. -/
  | slotEnumDone (n : SlotIx) (lds : List (Nat × Nat))
  /-- SLOT_OUTPUT_DISCHARGED (R319). Output below 10 % of VOUT_MV ends OFFING for PRESENT or EMPTY and releases SLOT_CLKREQ_N. -/
  | slotOutputDischarged (n : SlotIx)
  /-- HOST_POWER_CONTROL_WRITE (R324). A host write of Power Controller Control is a power-on or removal request to the slot. -/
  | hostPowerControlWrite (usp : PortIx) (vppb : Fin 256) (on : Bool)
  /-- SLOT_CONTROL_WRITE (R322). A host write of a vPPB's Slot Control sets Command Completed 1 µs later. -/
  | slotControlWrite (usp : PortIx) (vppb : Fin 256) (data : BitVec 16)
  /-- POWER_ON (R319). POWER_ON is a power-on request to a PRESENT slot, refused in other states. -/
  | powerOn (r : MgmtReq) (slot : BitVec 8)
  /-- POWER_OFF (R325). POWER_OFF is a removal request accepted only when no reachable decoder or Decant job uses the port. -/
  | powerOff (r : MgmtReq) (slot : BitVec 8)
  /-- REMOVAL_DRAIN_END (R326). When queues drain or 100 ms pass, remaining cells are flushed and SLOT_PERST_N is driven low. -/
  | removalDrainEnd (n : SlotIx)
  /-- REMOVAL_PORT_DOWN_DELAY (R326). 100 µs after PERST the port is taken down and the gate ramps off. -/
  | removalPortDownDelay (n : SlotIx)
  /-- SLOT_FAULT_CLEAR (R349). SLOT_FAULT_CLEAR clears a latched channel and returns a FAULT slot to PRESENT. -/
  | slotFaultClear (r : MgmtReq) (slot : BitVec 8)
  /-- SET_LIMIT (R355). SET_LIMIT sets the channel's current limit within LIMIT_MAX_MA and the sense minimum, applying from the next SCLK. -/
  | setLimit (r : MgmtReq) (slot : BitVec 8) (ma : BitVec 16)
  /-- BIND (R328). BIND joins a downstream port and LD to a vPPB within Formula bounds, advancing the Flacon's epoch. -/
  | bind (r : MgmtReq) (flacon : BitVec 8) (usp : BitVec 8) (dsp : BitVec 8) (ld : BitVec 8) (vppb : BitVec 8)
  /-- UNBIND_WAIT_LINK_DOWN (R330). Unbind option 0 waits in the background until the port leaves ACTIVE or the host disables the link. -/
  | unbindWaitLinkDown (r : MgmtReq) (usp : BitVec 8) (vppb : BitVec 8)
  /-- UNBIND_MANAGED (R330). Unbind option 1 sets Attention Button Pressed and waits for the host's power-off write. -/
  | unbindManaged (r : MgmtReq) (usp : BitVec 8) (vppb : BitVec 8)
  /-- UNBIND_SURPRISE (R330). Unbind option 2 removes the binding at once. -/
  | unbindSurprise (r : MgmtReq) (usp : BitVec 8) (vppb : BitVec 8)
  /-- UNBIND_COMPLETE (R330). At unbind completion the epoch advances, the vPPB shows an empty slot and untargeted devices are hot-reset. -/
  | unbindComplete (usp : PortIx) (vppb : Fin 256)
  /-- DECANT_START (R331). DECANT_START checks Table 4 and starts copying source decoder S into target decoder T. -/
  | decantStart (r : MgmtReq) (src : BitVec 16) (tgt : BitVec 16) (rate : BitVec 32)
  /-- DECANT_CANCEL (R336). DECANT_CANCEL cancels a job, keeping S's devices, unless the HOLD has already cleared toward T. -/
  | decantCancel (r : MgmtReq) (job : BitVec 8)
  /-- DECANT_RATE (R334). DECANT_RATE changes a job's RATE_MBPS from the next chunk. -/
  | decantRate (r : MgmtReq) (job : BitVec 8) (rate : BitVec 32)
  /-- DECANT_CHUNK_READ_DONE (R332). A chunk read from S's devices completes and its write to T's devices is issued. -/
  | decantChunkReadDone (j : JobIx) (c : Nat) (poison : Bool) (err : Bool)
  /-- DECANT_CHUNK_WRITE_DONE (R332). A chunk's writes complete, making it COPIED or recopied if dirty, or cancelling on error. -/
  | decantChunkWriteDone (j : JobIx) (c : Nat) (err : Bool)
  /-- DECANT_FLIP (R335). When every chunk is COPIED the epoch advances, exchanging the decoders' targets and holding a non-shared window. -/
  | decantFlip (j : JobIx)
  /-- DECANT_HOLD_CLEAR (R335). When no older-epoch access remains the HOLD clears toward the new devices and the job is DONE. -/
  | decantHoldClear (j : JobIx)
  /-- DECANT_FLIP_TIMEOUT (R335). A HOLD standing for FLIP_LIMIT clears toward the old devices, retrying later or cancelling on the third expiry. -/
  | decantFlipTimeout (j : JobIx)
  /-- DECANT_FLIP_RETRY (R335). 1 ms after a flip timeout the flip is retried. -/
  | decantFlipRetry (j : JobIx)
  /-- RAIL_OUT_OF_TOLERANCE (R340). A main rail out of tolerance in two samples raises PC_RAIL, or is only logged in DRYDOWN. -/
  | railOutOfTolerance (rail : Fin 6)
  /-- VAUX_LOW (R340). VAUX outside ±5 % in two samples raises PC_VAUX_LOW. -/
  | vauxLow (m : BusMeas)
  /-- FEED_REVERSE (R342). The bus rising 10 mV above a feed input turns that feed's gate off within 1 µs and raises PC_FEED_REVERSE. -/
  | feedReverse (feed : FeedIx) (m : BusMeas)
  /-- FEED_PRESENT (R343). A feed input at or above 10.0 V for 10 ms makes the feed PRESENT. -/
  | feedPresent (feed : FeedIx) (m : BusMeas)
  /-- FEED_LOST (R343). A feed input below 8.5 V makes the feed LOST and raises PC_FEED_LOST in serving modes. -/
  | feedLost (feed : FeedIx) (m : BusMeas)
  /-- FEED_FET_DROP (R343). A conducting feed dropping over 250 mV for 1 ms raises PC_FEED_FET. -/
  | feedFetDrop (feed : FeedIx) (m : BusMeas)
  /-- BUS_WARN_SET (R344). The filtered bus falling below PWRWARN_MV sets WARN and starts the ride-through timer. -/
  | busWarnSet (m : BusMeas)
  /-- RIDE_THROUGH_EXPIRY (R345). RIDE_US passing with WARN set gives a warning, starting DRYDOWN in serving modes. -/
  | rideThroughExpiry
  /-- BUS_WARN_CLEAR (R346). WARN clearing ends the warning episode, recording it in PC_DIP and counting a dip if within RIDE_US. -/
  | busWarnClear (m : BusMeas) (minMv : Nat) (lenUs : Nat)
  /-- BUS_BELOW_RESET (R345). The filtered bus below RESET_MV ends the ride-through at once, or resets the device in modes that take no DRYDOWN. -/
  | busBelowReset (m : BusMeas)
  /-- BUS_RESET_RECOVERY (R345). The bus at or above PWRWARN_MV + 100 mV for 10 ms releases a device held by BELOW_RESET. -/
  | busResetRecovery (m : BusMeas)
  /-- PWRFAIL_ASSERT (R344). PWRFAIL_N low for 1 µs sets PWRFAIL, a warning that starts DRYDOWN in serving modes. -/
  | pwrfailAssert
  /-- OFFSET_ZERO_DONE (R356). A 20 µs offset zero completes, recording the offset, and a channel in ZERO starts its ramp. -/
  | offsetZeroDone (ch : SlotIx) (offset : Int) (tref : Int) (srcMv : Nat)
  /-- RAMP_COMPLETE (R349). The ramp reference reaching VOUT_MV drives the gate fully on and enters QUAL. -/
  | rampComplete (ch : SlotIx) (m : ChanMeas)
  /-- PG_QUALIFIED (R349). Output at or above 95 % without IN_LIMIT for PG_QUAL_US sets power-good and enters ON. -/
  | pgQualified (ch : SlotIx) (m : ChanMeas)
  /-- CHANNEL_OUTPUT_LOW (R349). In ON, output below 90 % or IN_LIMIT drops PG and returns to QUAL. -/
  | channelOutputLow (ch : SlotIx) (m : ChanMeas)
  /-- CHANNEL_IN_LIMIT (R350). The current limit amplifier taking control sets IN_LIMIT and starts the fault timer counting up. -/
  | channelInLimit (ch : SlotIx) (m : ChanMeas)
  /-- FAULT_TIMER_TRIP (R351). The fault timer reaching FAULT_US trips the channel with cause TIMER, to COOL or LATCHED. -/
  | faultTimerTrip (ch : SlotIx) (m : ChanMeas)
  /-- THERMAL_TRIP (R352). The FET model or external diode reaching FET_TMAX trips the channel with cause THERMAL or DIODE. -/
  | thermalTrip (ch : SlotIx) (m : ChanMeas) (diode : Bool)
  /-- SPC_DIODE (R352). A diode reading out of range raises SPC_DIODE and the channel falls back to sensor 15. -/
  | spcDiode (ch : SlotIx) (m : ChanMeas)
  /-- HARD_TRIP (R353). Current past 4 × LIMIT_MA for 200 ns pulls the gate off within 1 µs with cause HARD. -/
  | hardTrip (ch : SlotIx) (m : ChanMeas)
  /-- COOL_DOWN_DONE (R354). After at least 100 ms and the model cooled, COOL ends and the channel retries from ZERO. -/
  | coolDownDone (ch : SlotIx) (m : ChanMeas)
  /-- RAMP_DOWN_DONE (R349). The falling ramp reference reaching 0 turns the channel OFF with the gate held low. -/
  | rampDownDone (ch : SlotIx) (m : ChanMeas)
  /-- BUS_BELOW_7V (R357). The bus below 7.0 V turns every channel OFF without counting a trip. -/
  | busBelow7v (m : BusMeas)
  /-- DRAIN_STOP_DONE (R361). When every Accord is settled phase A ends and phase B begins. -/
  | drainStopDone
  /-- DRAIN_FLUSH_DONE (R362). When GPF phase 1 is answered and host GPF flows close, phase C withholds request credits and starts write-out. -/
  | drainFlushDone
  /-- DRAIN_FLUSH_LIMIT (R362). Phase B reaching 1,000 µs raises STD_GPF_TIMEOUT for unanswered ports and KS_DRAIN_LIMIT, and moves to phase C. -/
  | drainFlushLimit
  /-- DRAIN_CLOSE_DONE (R361). When no record is OUT, no tracker in use and every sealed line has MEM_CMP, phase D starts the table save. -/
  | drainCloseDone
  /-- DRAIN_CLOSE_LIMIT (R362). Phase C reaching 4,500 µs completes outstanding requests with error, handles unwritten lines under R210 and raises KS_DRAIN_LIMIT. -/
  | drainCloseLimit
  /-- TABLE_SAVE_DONE (R365). The table store copy completes with its CRC, the retention record is written and phase E sends GPF phase 2. -/
  | tableSaveDone
  /-- DRAIN_PORTS_DOWN (R366). When phase 2 is answered or 800 µs pass every port is taken down, queues flushed and SLOT_PERST_N driven low. -/
  | drainPortsDown
  /-- DRAIN_LINKS_DOWN (R361). When every link is down phase E ends and phase F hands off. -/
  | drainLinksDown
  /-- DRAIN_PHASE_LIMIT (R361). Phase D, E or F reaching its limit ends that phase. -/
  | drainPhaseLimit
  /-- RETAIN_EXIT (R372). With reset high, rails in tolerance and power good for 1 ms the device leaves RETAIN for REVIVE or BOOT. -/
  | retainExit
  /-- REVIVE_LOAD_DONE (R373). ROOTCLK lock, quick SRAM test and Keep stack recalibration complete and the firmware phase starts. -/
  | reviveLoadDone
  /-- REVIVE_FIRMWARE_DONE (R373). The retained firmware slot, or the other, is verified and loaded and CHECK starts. -/
  | reviveFirmwareDone (sig : SigVerdict)
  /-- REVIVE_CHECK_DONE (R374). The retention record and digest are checked, continuing to RESTORE or falling back to BOOT with the loss recorded. -/
  | reviveCheckDone (recordOk : Bool)
  /-- REVIVE_RESTORE_DONE (R373). The table save is restored and checked, directory cleared, gates reset and every port starts training. -/
  | reviveRestoreDone (ok : Bool)
  /-- REPLAY_START (R375). When every targeted port is up replay of held records begins in SEQ order. -/
  | replayStart (bad : List Nat)
  /-- REPLAY_PORT_WAIT_EXPIRY (R375). PORT_WAIT_MS after LINK began replay starts even with targeted ports still down. -/
  | replayPortWaitExpiry (bad : List Nat)
  /-- REPLAY_DONE (R375). When every held record has been replayed or skipped REVIVE moves to OPEN. -/
  | replayDone (deviceMs : Nat) (totalMs : Nat) (sigOk : Bool)
  /-- KS_LOSS_CLEAR (R379). Clearing KS_LOSS.LOST also clears CAUSE, FLACONS, KS_LOSS_CNT and KS_LOSS_SEQ. -/
  | ksLossClear (path : AccessPath)
  /-- FAULT_OCCURRENCE (R385). The collector takes an occurrence, logs and counts it and reacts at its severity with capture, fence or QUARANTINE. -/
  | faultOccurrence (occ : Occ)
  /-- RAIL_FAULT (R384). Equal levels on a source's wire pair in two samples raise a rail fault once at its rail severity. -/
  | railFault (source : Nat)
  /-- RAIL_FAULT_END (R383). Sixteen consecutive samples with opposite levels end a rail fault. -/
  | railFaultEnd (source : Nat)
  /-- FC_PEND_CLEAR (R392). Writing 1 to a source's FC_PEND bit clears its pending state, severity, Flacon mask and escalation count. -/
  | fcPendClear (path : AccessPath) (word : Fin 40) (mask : BitVec 32)
  /-- FC_ALERT_CLEAR (R394). Clearing FC_ALERT.PENDING releases ALERT_N unless an occurrence arrives in the same MCLK. -/
  | fcAlertClear (path : AccessPath)
  /-- FC_LOG_ACK (R395). Writing FC_LOG_ACK removes the N oldest log entries. -/
  | fcLogAck (path : AccessPath) (n : Nat)
  /-- FC_INJECT (R385). A presence-gated write of FC_INJECT.GO injects one occurrence handled as a real one. -/
  | fcInject (path : AccessPath) (data : BitVec 32)
  /-- FREEZE_N_ASSERT (R399). FREEZE_N low at two consecutive beat boundaries requests a freeze, or is ignored in DRYDOWN, RETAIN and RESET. -/
  | freezeNAssert
  /-- FZ_FREEZE_WRITE (R399). A presence-gated write of FZ_CTL.FREEZE requests a freeze. -/
  | fzFreezeWrite (path : AccessPath) (data : BitVec 32)
  /-- CAPTURE_START (R403). FZ_CAP_CTL.START sends the selected segments on the capture port in blocks, or is refused without readout conditions. -/
  | captureStart (path : AccessPath) (seg : BitVec 10)
  /-- CAPTURE_ABORT (R403). FZ_CAP_CTL.ABORT stops the capture transfer at the end of the current block. -/
  | captureAbort (path : AccessPath)
  /-- CAPTURE_DONE (R403). After the last block is sent FZ_CAP_STATUS.DONE is set. -/
  | captureDone
  /-- JTAG_IDCODE (R404). The IDCODE instruction returns 0x1088_0C7B. -/
  | jtagIdcode
  /-- JTAG_BYPASS (R404). The BYPASS instruction selects the bypass register. -/
  | jtagBypass
  /-- JTAG_SAMPLE_PRELOAD (R404). The SAMPLE/PRELOAD instruction samples or preloads the boundary scan. -/
  | jtagSamplePreload (bits : List Bool)
  /-- JTAG_EXTEST (R404). EXTEST drives boundary scan outputs, accepted only with READOUT_EN in RESET or FROZEN. -/
  | jtagExtest
  /-- JTAG_SEGMENT_READ (R401). An IEEE 1687 segment instrument reads a state segment one bit per TCK, or reads 0 without readout conditions. -/
  | jtagSegmentRead (seg : Fin 10) (bit : Nat)
  /-- SL_ACK (R408). Writing SL_ACK removes the n oldest Sillage entries. -/
  | slAck (path : AccessPath) (k : QuadIx) (n : Nat)
  /-- SL_FLUSH (R409). Writing SL_CTL.FLUSH discards every entry and restarts recording at the next message head. -/
  | slFlush (path : AccessPath) (k : QuadIx)
  /-- IDENTIFY (R421). IDENTIFY returns the chip identity, mode, lifecycle, Formula generation and firmware status. -/
  | identify (r : MgmtReq)
  /-- READ_REG (R421). READ_REG returns 4 or 8 bytes at a BAR0 offset under the READ group. -/
  | readReg (r : MgmtReq) (offset : BitVec 32) (size : BitVec 8)
  /-- WRITE_REG (R414). WRITE_REG writes a BAR0 register when the path holds every group for every Flacon. -/
  | writeReg (r : MgmtReq) (offset : BitVec 32) (size : BitVec 8) (value : Word)
  /-- READ_LOG (R421). READ_LOG returns and consumes up to the requested number of oldest log entries. -/
  | readLog (r : MgmtReq) (count : BitVec 16)
  /-- FAULT_CLEAR_SOURCE (R392). FAULT_CLEAR target 0 clears a source's pending state if the grant covers its Flacons. -/
  | faultClearSource (r : MgmtReq) (source : BitVec 16)
  /-- FAULT_CLEAR_FLACON (R392). FAULT_CLEAR target 1 writes FL_FAULT.CLEAR of a Flacon, starting its unfencing. -/
  | faultClearFlacon (r : MgmtReq) (flacon : BitVec 16)
  /-- FAULT_CLEAR_FL_FERR (R392). FAULT_CLEAR target 2 clears a Flacon's FL_FERR_CTL. -/
  | faultClearFlFerr (r : MgmtReq) (flacon : BitVec 16)
  /-- FAULT_CLEAR_FL_VIOL (R392). FAULT_CLEAR target 3 clears a Flacon's FL_VIOL_CTL. -/
  | faultClearFlViol (r : MgmtReq) (flacon : BitVec 16)
  /-- FAULT_CLEAR_FC_FERR (R392). FAULT_CLEAR target 4 clears FC_FERR_CTL when granted for all Flacons. -/
  | faultClearFcFerr (r : MgmtReq)
  /-- FAULT_CLEAR_ALERT (R392). FAULT_CLEAR target 5 clears FC_ALERT when granted for all Flacons. -/
  | faultClearAlert (r : MgmtReq)
  /-- SET_WEIGHT (R111). SET_WEIGHT changes a (port, Flacon) WFQ weight within its bounds from the next tag computation. -/
  | setWeight (r : MgmtReq) (port : BitVec 8) (flacon : BitVec 8) (weight : BitVec 32)
  /-- SET_RATE (R115). SET_RATE changes a shaper's rate within 10 to MAX_RATE_MBPS from its next refill. -/
  | setRate (r : MgmtReq) (port : BitVec 8) (flacon : BitVec 8) (mbps : BitVec 32)
  /-- TRACE_SET (R407). TRACE_SET sets a quadrant's Sillage filters within the Flacons the command holds. -/
  | traceSet (r : MgmtReq) (quad : BitVec 8) (en : Bool) (egress : Bool) (f0 : SilFilter) (f1 : SilFilter)
  /-- TRACE_READ (R407). TRACE_READ returns a quadrant's Sillage entries to a holder of every filtered Flacon. -/
  | traceRead (r : MgmtReq) (quad : BitVec 8)
  /-- TRACE_FLUSH (R409). TRACE_FLUSH discards a quadrant's Sillage entries. -/
  | traceFlush (r : MgmtReq) (quad : BitVec 8)
  /-- MIRROR_SET (R410). MIRROR_SET sets a Flacon's mirror ring base, size and enable. -/
  | mirrorSet (r : MgmtReq) (flacon : BitVec 8) (base : Word) (ctl : BitVec 32)
  /-- RETRAIN (R421). The RETRAIN command retrains a port, refused with MODE where no port exists. -/
  | retrain (r : MgmtReq) (port : BitVec 16)
  /-- LANE_DISABLE (R421). The LANE_DISABLE command sets or clears a lane's DISABLE bit. -/
  | laneDisable (r : MgmtReq) (lane : BitVec 16) (value : BitVec 8)
  /-- MODE_REQ (R424). MODE_REQ requests a mode change under CHIP_MODE_REQ. -/
  | modeReq (r : MgmtReq) (target : BitVec 8)
  /-- FW_COMMIT (R437). A presence-gated FW_COMMIT verifies a firmware slot and sets FW_PENDING and FW_PENDING_VALID. -/
  | fwCommit (r : MgmtReq) (slot : BitVec 8)
  /-- OWNER_KEY (R441). OWNER_KEY checks the old-key signature and a staged slot, programs the new owner key digest and sets the pending Formula. -/
  | ownerKey (r : MgmtReq) (slot : BitVec 8) (key : List Byte)
  /-- KEEP_ERASE (R437). KEEP_ERASE writes 0 to the whole Keep stack and clears the retain-valid flag. -/
  | keepErase (r : MgmtReq)
  /-- FUSE_PROGRAM_LIFECYCLE (R432). FUSE_PROGRAM field LIFECYCLE makes one allowed lifecycle transition or is refused with LIFECYCLE. -/
  | fuseProgramLifecycle (r : MgmtReq) (value : BitVec 32)
  /-- FUSE_PROGRAM_MIN_SVN (R431). FUSE_PROGRAM field MIN_SVN raises the minimum firmware SVN, never lowering it. -/
  | fuseProgramMinSvn (r : MgmtReq) (value : BitVec 32)
  /-- FUSE_PROGRAM_VENDOR_REVOKE (R431). FUSE_PROGRAM field VENDOR_REVOKE revokes vendor key entries, never the last unrevoked one. -/
  | fuseProgramVendorRevoke (r : MgmtReq) (value : BitVec 32)
  /-- SEAL_REARM (R440). SEAL_REARM with a valid owner signature programs one SEAL_REARMS bit, clearing SEAL_BROKEN. -/
  | sealRearm (r : MgmtReq)
  /-- ATTEST (R435). ATTEST returns a signed 1,680-byte report with measurements, state and the nonce. -/
  | attest (r : MgmtReq) (nonce : BitVec 256)
  /-- GET_CERT (R434). GET_CERT returns the certificate at the given index of the flash chain, or NOT_PRESENT. -/
  | getCert (r : MgmtReq) (index : BitVec 8)
  /-- UNSUPPORTED_OPCODE (R418). A mailbox request with an unknown opcode is answered UNSUPPORTED. -/
  | unsupportedOpcode (r : MgmtReq) (opcode : BitVec 16)
  /-- MAILBOX_GO_WHILE_BUSY (R417). MBX_DB.GO written while BUSY is ignored and sets GO_ERR. -/
  | mailboxGoWhileBusy
  /-- MPORT_FLR (R413). A Function Level Reset of the MPORT lets an accepted command complete but discards its response. -/
  | mportFlr
  /-- I3C_READ (R415). I3C operation 0x01 selects a BAR0 offset whose 8 bytes the next private read returns. -/
  | i3cRead (offset : BitVec 32)
  /-- I3C_REQUEST (R415). I3C operation 0x02 appends mailbox request bytes, taken as a request at the STOP. -/
  | i3cRequest (bytes : List Byte) (stop : Bool) (v : MgmtVerdict)
  /-- I3C_RESPONSE (R415). I3C operation 0x03 makes the next private reads return the mailbox response. -/
  | i3cResponse
  /-- I3C_SETDASA (R415). SETDASA assigns the I3C target's dynamic address from its static address. -/
  | i3cSetdasa (addr : BitVec 7)
  /-- I3C_ENTDAA (R415). ENTDAA assigns the I3C target's dynamic address by dynamic address assignment. -/
  | i3cEntdaa (addr : BitVec 7)
  /-- MCTP_SET_ENDPOINT_ID (R416). Set Endpoint ID from a bus owner assigns the PJ880's MCTP endpoint ID on that binding. -/
  | mctpSetEndpointId (path : Fin 4) (eid : BitVec 8)
  /-- PRESENCE_PRESS (R436). A filtered high-to-low PRESENCE_N change with the seal intact opens or restarts the 120 s presence window. -/
  | presencePress
  /-- PRESENCE_WINDOW_EXPIRY (R436). 120 s after its last opening the presence window closes. -/
  | presenceWindowExpiry
  /-- PRESENCE_CLOSE (R436). Writing MG_PRESENCE.CLOSE closes the presence window. -/
  | presenceClose (path : AccessPath)
  /-- SEAL_BREAK (R439). SEAL_N high for 1 ms sets SEAL_BROKEN, closes the window, sends vector 3 and raises MG_SEAL_BROKEN. -/
  | sealBreak
  /-- SEAL_EVENT_FUSE_PROGRAMMED (R439). Within 10 ms of the next mode with main rails one SEAL_EVENTS fuse bit is programmed for a pending break. -/
  | sealEventFuseProgrammed
  /-- PWRFAIL_CLEAR (R344). PWRFAIL_N high for 1 µs clears PWRFAIL, ending a warning that it made and starting the 1 ms power-good count. -/
  | pwrfailClear
  /-- PRBS_CHECKER_LOCK (R263). The PRBS checker, after 64 consecutive bits without error, locks and starts counting bits and errors. -/
  | prbsCheckerLock (lane : LaneIx)
  /-- PRBS_CHECKER_LOCK_LOSS (R263). 32 errors in any 64 bits make the checker lose lock, count LOCK_LOSS and seed itself again. -/
  | prbsCheckerLockLoss (lane : LaneIx) (bits : Nat) (errs : Nat)
  /-- VPPB_LINK_DISABLE (R330). A host setting Link Disable on a vPPB completes a waiting option-0 unbind of that vPPB. -/
  | vppbLinkDisable (usp : PortIx) (vppb : Fin 256)
  /-- IN_LIMIT_CLEAR (R350). Current falling below 95 % of LIMIT_MA clears IN_LIMIT, so the fault timer counts down and power-good qualification can begin. -/
  | inLimitClear (ch : SlotIx) (m : ChanMeas)
  /-- CHARGE_PUMP_START (R342). The 12 V bus rising to 7.0 V starts the gate charge pump, sets PUMP_OK and lets the feeds drive their gates. -/
  | chargePumpStart (m : BusMeas)
  /-- FEED_UNBLOCK (R342). A reverse-blocked feed whose input rises 30 mV above the bus leaves BLOCKED and conducts again. -/
  | feedUnblock (feed : FeedIx) (m : BusMeas)
  /-- SEAL_LOOP_CLOSE (R439). SEAL_N returning low clears LOOP_OPEN, which allows SEAL_REARM to be accepted again. -/
  | sealLoopClose
  /-- PRESENCE_RELEASE (R436). A filtered low-to-high change of PRESENCE_N clears LEVEL and arms the pin so that its next fall can open a window. -/
  | presenceRelease
  /-- COMMAND_COMPLETED (R322). 1 µs after a host's Slot Control write the vPPB sets Command Completed and may raise the hot-plug interrupt. -/
  | commandCompleted (usp : PortIx) (vppb : Fin 256)
  /-- MPORT_LINK_DOWN (R456). Loss of MP_REFCLK or of the MPORT link takes the MPORT link down, making BAR0 and the mailbox unreachable. -/
  | mportLinkDown
  /-- LINK_RECOVERY (R310). A CXL or PCIe link passing through Recovery returns to L0, possibly at a new width or rate, counting RECOVERIES and recomputing the guard band. -/
  | linkRecovery (port : PortIx) (rate : Fin 6) (width : Fin 17) (load : BitVec 8)
  /-- MIRROR_REFILL (R126). At each beat every mirror policer gains MIRROR_MBPS / 800 bytes up to 4,096. -/
  | mirrorRefill
  deriving DecidableEq, Repr

end Sys2Proof
end

