-- ==== Sys2Proof/WellFormed.lean ====
section
/-!
DEFINITION. WellFormed.lean: what a command's operands must be for the command to be the row it names: a half's address is
that half's, an unlisted opcode is not listed, an index lies in its range.  The types bound the rest.
-/
namespace Sys2Proof

/-- A message of the switch: message class, Flacon, 52-bit address, privilege and service class in their ranges, fields
that the cell's words hold (R65), and the cells of its bytes, at most 65 (R67). -/
def Msg.wf (m : Msg) : Bool :=
  decide (m.mc < 8) && decide (m.flacon < 32) && decide (m.addr < 2 ^ 52) && decide (m.priv < 4) && decide (m.svc < 3)
    && decide (m.op < if m.io then 256 else 128) && decide (m.srcEid < 2 ^ 14) && decide (m.dstEid < 2 ^ 14)
    && decide (m.tag < 4096) && (match m.pbar with | some x => decide (x < 4096) | none => true)
    && decide (m.cells = m.cellsOfBytes) && decide (m.cells ≤ 65)

def Arrival.wf : Arrival → Bool
  | .link m => m.wf
  | .cxl _ m => m.wf
  | .stored _ => true

/-- A flit has at most the slots of R271. -/
def FlitIn.wf (f : FlitIn) : Bool := decide (f.slots.length ≤ 16)

/-- The paths that carry MCTP (R412). -/
def FmReq.wf (r : FmReq) : Bool := r.path == 1 || r.path == 3

/-- The opcodes of R421 Table 3. -/
def mgmtListed : List Nat :=
  [0x0001, 0x0002, 0x0003, 0x0004, 0x0010, 0x0020, 0x0021, 0x0030, 0x0031, 0x0032, 0x0033, 0x0040, 0x0041, 0x0050] ++
  [0x0060, 0x0061, 0x0062, 0x0070, 0x0071, 0x0072, 0x0073, 0x0080, 0x0081, 0x0082, 0x0090, 0x0091, 0x00B0, 0x00B1] ++
  [0x0100, 0x0101, 0x0102, 0x0103, 0x0104, 0x0110]

/-- The opcodes of R315 Table 5. -/
def fmListed : List Nat :=
  [0x0001, 0x0002, 0x0003, 0x0004, 0x0100, 0x0101, 0x5100, 0x5101, 0x5102, 0x5103, 0x5200, 0x5201, 0x5202, 0x5300] ++
  [0x5301, 0x5302, 0x5400, 0x5401, 0x5403, 0x5404, 0x5405, 0x5406, 0x5407, 0x5408, 0x5409, 0x5600, 0x5601, 0x5602] ++
  [0x5603, 0x5604, 0x5605]

/-- Whether a command is well formed. -/
def Instr.wf : Instr → Bool
  | .lowerHalfRead _ a => a % 8 == 0
  | .upperHalfRead _ a => a % 8 == 4
  | .lowerHalfWrite _ a _ => a % 8 == 0
  | .upperHalfWrite _ a _ => a % 8 == 4
  | .sensorUpdate l => l.temps.length == 16 && l.loads.length == 4
  | .sdsPllUnlock p l => l.all fun n => n.val / 64 == p.val
  | .messageArrival _ a _ => a.wf
  | .deviceBisnp _ a _ => decide (a < 2 ^ 52)
  | .aliasWrite _ _ o b _ _ => !b.isEmpty && decide (o + b.length ≤ 2 ^ 36)
  | .aliasRead _ _ o n _ _ => decide (1 ≤ n) && decide (o + n ≤ 2 ^ 36)
  | .flitReceive _ f _ => f.wf
  | .fmIdentify r => r.wf
  | .fmBackgroundOperationStatus r => r.wf
  | .fmGetResponseMessageLimit r => r.wf
  | .fmSetResponseMessageLimit r .. => r.wf
  | .fmGetEventRecords r => r.wf
  | .fmClearEventRecords r => r.wf
  | .fmIdentifySwitchDevice r => r.wf
  | .fmGetPhysicalPortState r .. => r.wf
  | .fmPhysicalPortControl r .. => r.wf
  | .fmSendPpbConfigRequest r .. => r.wf
  | .fmGetVirtualCxlSwitchInfo r .. => r.wf
  | .fmBindVppb r .. => r.wf
  | .fmUnbindVppb r .. => r.wf
  | .fmTunnelManagementCommand r _ o _ _ => r.wf && !(o == 0x5604 || o == 0x5605)
  | .fmSendLdConfigRequest r .. => r.wf
  | .fmSendLdMemoryRequest r .. => r.wf
  | .fmGetLdInfo r .. => r.wf
  | .fmGetLdAllocations r .. => r.wf
  | .fmGetQosControl r .. => r.wf
  | .fmGetQosStatus r .. => r.wf
  | .fmGetQosAllocatedBw r .. => r.wf
  | .fmGetQosBwLimit r .. => r.wf
  | .fmSetQosControl r .. => r.wf
  | .fmSetQosAllocatedBw r .. => r.wf
  | .fmSetQosBwLimit r .. => r.wf
  | .fmGetDcdInfo r .. => r.wf
  | .fmGetHostDcRegionConfig r .. => r.wf
  | .fmSetDcRegionConfig r .. => r.wf
  | .fmGetDcRegionExtentLists r .. => r.wf
  | .fmInitiateDcAdd r .. => r.wf
  | .fmInitiateDcRelease r .. => r.wf
  | .fmUnsupported r o => r.wf && !fmListed.contains o.toNat
  | .slotEnumDone _ l => l.all fun x => decide (x.1 < 16)
  | .faultOccurrence o => decide (o.source < 1280)
  | .railFault n => decide (n < 1280)
  | .railFaultEnd n => decide (n < 1280)
  | .unsupportedOpcode _ o => !mgmtListed.contains o.toNat
  | .mctpSetEndpointId p _ => p == 1 || p == 3
  | .registerWrite .. | .rcFieldRead .. | .heldHalfExpiry .. | .fencePlane .. | .unfencePlane .. | .fenceSlice ..
  | .fenceTile .. | .fenceFlacon .. | .quarantine | .watchdogExpiry .. | .chipTimeAdj .. | .timeSlewStep
  | .ptmExchange .. | .refLost .. | .vauxRise .. | .vauxLoss .. | .vauxRecoveryExpiry | .pwronResetRelease
  | .pwronResetAssert | .chipReset .. | .chipResetStart | .modeReqLinktest .. | .modeReqBoot ..
  | .modeReqQuarantine .. | .perstNAssert | .perstNRelease | .firmwareStart .. | .identityKeyDerived ..
  | .formulaBootApply .. | .composeDone | .formulaStage .. | .fwStage .. | .formulaCommitLive ..
  | .formulaCommitNextBoot .. | .recomposeDrainDone | .recomposeDrainTimeout | .recomposeSwitch
  | .recomposeRetrainDone | .admissionRetry .. | .packWaitExpiry .. | .bodyCellArrival .. | .planeCellArrival ..
  | .reseqRelease .. | .drainCellArrival .. | .planeFault .. | .planeFenceReq .. | .planeUnfenceReq ..
  | .spillPrefetch .. | .egressSchedule .. | .txDone .. | .ptFlushGo .. | .arbiterRound .. | .keepWindowEnd ..
  | .arbResync .. | .arbClrStats .. | .arbPrioWrite .. | .shaperWheelFire | .topnoteRefill | .sliceRequestTaken ..
  | .backingSetReadDone .. | .victimOverflowRetry .. | .directoryScrub .. | .memDataArrival ..
  | .snoopAnswerArrival .. | .writebackArrival .. | .memCmpArrival .. | .biConflict .. | .hsQuery ..
  | .tentativeCellAtGate .. | .tnConfirmArrival .. | .tnCancelArrival .. | .accordOpen .. | .accordTrackerGrant ..
  | .accordCommit .. | .accordAbort .. | .accordClear .. | .stageNotice .. | .accordPrepareStart ..
  | .prepareAtSlice .. | .prepareAnswer .. | .prepTimeout .. | .commitRecordWritten .. | .flipAtSlice ..
  | .flipAck .. | .engineFunctionFlr .. | .regionBatch .. | .epochDrainTarget .. | .flFaultClear ..
  | .unfenceDrainDone .. | .laneSignalDetected .. | .trainingFrame .. | .laneTrainDone .. | .laneTrainTimeout ..
  | .laneLocked .. | .laneLockTimeout .. | .identFrame .. | .laneIdentDone .. | .portIdentTimeout ..
  | .laneWaitExpiry .. | .laneFailure .. | .marginMeasurement .. | .retuneLevelDone .. | .lnRetune ..
  | .lnRetrain .. | .lnDisable .. | .hostMarginingStart .. | .hostMarginingEnd .. | .lnPrbsCtlWrite ..
  | .lnInject .. | .lnBurst .. | .lnTestStart .. | .linktestAdaptExpiry .. | .flitSend .. | .nakRepeatExpiry ..
  | .replayTimeout .. | .rxLanes .. | .firReq .. | .firSts .. | .llInit .. | .ptLlRestart .. | .llInitTimeout ..
  | .lingerExpiry .. | .dlDown .. | .directoryWalkDone .. | .dlUp .. | .hdmCommit .. | .viralReceived ..
  | .ideKm .. | .ideFailure .. | .gpfPhase1Request .. | .gpfPhase2Request .. | .gpfDeviceAnswer .. | .gpfTimeout ..
  | .partnerRateChange .. | .dcReleaseComplete .. | .slotPresenceArrive .. | .slotPresenceLoss ..
  | .attentionButtonPress .. | .slotPowerGood .. | .slotPowerGoodLoss .. | .slotPerstDelayExpiry ..
  | .slotOutputDischarged .. | .hostPowerControlWrite .. | .slotControlWrite .. | .powerOn .. | .powerOff ..
  | .removalDrainEnd .. | .removalPortDownDelay .. | .slotFaultClear .. | .setLimit .. | .bind ..
  | .unbindWaitLinkDown .. | .unbindManaged .. | .unbindSurprise .. | .unbindComplete .. | .decantStart ..
  | .decantCancel .. | .decantRate .. | .decantChunkReadDone .. | .decantChunkWriteDone .. | .decantFlip ..
  | .decantHoldClear .. | .decantFlipTimeout .. | .decantFlipRetry .. | .railOutOfTolerance .. | .vauxLow ..
  | .feedReverse .. | .feedPresent .. | .feedLost .. | .feedFetDrop .. | .busWarnSet .. | .rideThroughExpiry
  | .busWarnClear .. | .busBelowReset .. | .busResetRecovery .. | .pwrfailAssert | .offsetZeroDone ..
  | .rampComplete .. | .pgQualified .. | .channelOutputLow .. | .channelInLimit .. | .faultTimerTrip ..
  | .thermalTrip .. | .spcDiode .. | .hardTrip .. | .coolDownDone .. | .rampDownDone .. | .busBelow7v ..
  | .drainStopDone | .drainFlushDone | .drainFlushLimit | .drainCloseDone | .drainCloseLimit | .tableSaveDone
  | .drainPortsDown | .drainLinksDown | .drainPhaseLimit | .retainExit | .reviveLoadDone | .reviveFirmwareDone ..
  | .reviveCheckDone .. | .reviveRestoreDone .. | .replayStart .. | .replayPortWaitExpiry .. | .replayDone ..
  | .ksLossClear .. | .fcPendClear .. | .fcAlertClear .. | .fcLogAck .. | .fcInject .. | .freezeNAssert
  | .fzFreezeWrite .. | .captureStart .. | .captureAbort .. | .captureDone | .jtagIdcode | .jtagBypass
  | .jtagSamplePreload .. | .jtagExtest | .jtagSegmentRead .. | .slAck .. | .slFlush .. | .identify ..
  | .readReg .. | .writeReg .. | .readLog .. | .faultClearSource .. | .faultClearFlacon .. | .faultClearFlFerr ..
  | .faultClearFlViol .. | .faultClearFcFerr .. | .faultClearAlert .. | .setWeight .. | .setRate .. | .traceSet ..
  | .traceRead .. | .traceFlush .. | .mirrorSet .. | .retrain .. | .laneDisable .. | .modeReq .. | .fwCommit ..
  | .ownerKey .. | .keepErase .. | .fuseProgramLifecycle .. | .fuseProgramMinSvn .. | .fuseProgramVendorRevoke ..
  | .sealRearm .. | .attest .. | .getCert .. | .mailboxGoWhileBusy | .mportFlr | .i3cRead .. | .i3cRequest ..
  | .i3cResponse | .i3cSetdasa .. | .i3cEntdaa .. | .presencePress | .presenceWindowExpiry | .presenceClose ..
  | .sealBreak | .sealEventFuseProgrammed | .pwrfailClear | .prbsCheckerLock .. | .prbsCheckerLockLoss ..
  | .vppbLinkDisable .. | .inLimitClear .. | .chargePumpStart .. | .feedUnblock .. | .sealLoopClose
  | .presenceRelease | .commandCompleted .. | .mportLinkDown | .linkRecovery .. | .mirrorRefill => true

end Sys2Proof
end

