-- ==== Sys2Proof/Config.lean ====
section
/-!
DEFINITION. Config.lean: the values the specification leaves open.  Each is an opaque constant: nothing in Lean can
evaluate it, so a statement that mentions one holds whatever the value is.
-/
namespace Sys2Proof.Config

/-- A fresh value of w bits that the specification does not state, the n-th that a run meets (the state's counter
freeIx gives n).  Assumption 2. -/
opaque freeBits (w : Nat) (n : Nat) : BitVec w

/-- The data that an error answer to a read carries with its poison, from the request's address, tag, epoch and source: the
specification gives poison and no data.  Assumption 2. -/
opaque poisonData (addr tag epoch src : Nat) : BitVec 512

/-- The measurement of the boot ROM: the published constant of the stepping, which the specification does not print
(R435).  Assumption 11. -/
opaque romMeasurement : BitVec 512

/-- The ECC bytes of a region entry, from its other three words: the code is not given (R226 Table 4).  Assumption 11. -/
opaque regionEcc (w0 w1 w2 : BitVec 64) : BitVec 64

/-- The check bits of a directory entry over its other 88 bits: the SEC-DED code is not given (R134).  Assumption 11. -/
opaque dirEcc (w : BitVec 88) : BitVec 8

/-- Bytes 10 to 15 of a PACKED entry, but for NO_SPEC: the protocol fields that the message word has no room for; their
places are not given (R68).  Assumption 76. -/
opaque packedFields (op ltag ld len : Nat) : BitVec 47

/-- The native header of a TLP that the switch makes, 12 bytes, from its op, length, address, tag and requester: the format is that of
the PCIe base specification, which the specification does not repeat (R67).  Assumption 76. -/
opaque completionHeader (op len addr tag eid : Nat) : BitVec 96

/-- The sideband CRC-32 of a cell on a plane: its polynomial is not given (R69).  Assumption 76. -/
opaque planeCrc (cell : BitVec 640) : BitVec 32

/-- The check byte of a buffer slot's codeword over its 56 bits: the SEC-DED code is not given (R69).  Assumption 76. -/
opaque slotEcc (w : BitVec 56) : BitVec 8

/-- Byte o of a readout segment whose layout is not given, in the n-th capture of a run (R402).  Assumption 77. -/
opaque segmentByte (segment o n : Nat) : BitVec 8

/-- The 32 MiB image of the table store in the n-th save of a run: its layout is not given (R365).  Assumption 81. -/
opaque tableImage (n : Nat) : List (BitVec 8)

/-- A signature under the Falcon-1024 key generated from a seed, over a digest; n makes it fresh, since signing draws on
randomness (R433, R435).  Assumption 10. -/
opaque falconSign (seed digest : BitVec 512) (n : Nat) : BitVec 10240

/-- SHAKE256 of the fuse map with IDENTITY_SEED read as 0, from the contents of the other fuse fields: the map's byte
layout is not given (R435).  Assumption 11. -/
opaque fuseMapDigest (fields : List Nat) : BitVec 512

end Sys2Proof.Config
end

