-- ==== Sys2Proof/Machine/RegNames.lean ====
section
/-!
DEFINITION. Machine/RegNames.lean: the addresses and fields of the registers under the specification's own names
(R3, R36 and the field tables of files 01 to 16).  Reg.NAME is the BAR0 address of the register (of the instance and
element its arguments give); an arbiter register takes the base address of the block instance that holds it.
Fld.NAME.FIELD is a field's place in it.
-/
namespace Sys2Proof.Machine

/-- A field's place: its lowest bit and its width. -/
structure Fld where
  lo : Nat
  width : Nat
  deriving DecidableEq, Repr

/-- Device identity (01, R36). -/
def Reg.CHIP_ID : Nat := 0x0
/-- Unit serial number (01, R36). -/
def Reg.CHIP_SERIAL : Nat := 0x8
/-- Current mode (01, R36). -/
def Reg.CHIP_MODE : Nat := 0x10
/-- Mode request (01, R36). -/
def Reg.CHIP_MODE_REQ : Nat := 0x14
/-- Straps sampled at reset release (01, R36). -/
def Reg.CHIP_STRAPS : Nat := 0x18
/-- Chip reset (01, R36). -/
def Reg.CHIP_RESET : Nat := 0x1C
/-- Clock status (01, R36). -/
def Reg.CHIP_CLK_STATUS : Nat := 0x20
/-- Chip time (01, R36). -/
def Reg.CHIP_TIME : Nat := 0x30
/-- Chip time correction (01, R36). -/
def Reg.CHIP_TIME_ADJ : Nat := 0x38
/-- Chip time control (01, R36). -/
def Reg.CHIP_TIME_CTL : Nat := 0x3C
/-- Beat count (01, R36). -/
def Reg.CHIP_BEAT : Nat := 0x48
/-- Junction temperature summary (01, R36). -/
def Reg.CHIP_TJ : Nat := 0x50
/-- Sensor n reading (01, R36). -/
def Reg.CHIP_TSENSE (n : Nat) : Nat := 0x0 + 0x60 + n * 0x4
/-- Boot outcome (01, R36). -/
def Reg.CHIP_BOOT_STATUS : Nat := 0xA0
/-- Split-access errors (01, R36). -/
def Reg.CHIP_ACCESS_ERR : Nat := 0xA4
/-- Split-access offset (01, R36). -/
def Reg.CHIP_ACCESS_ADDR : Nat := 0xA8
/-- Formula status (02, R64). -/
def Reg.MG_FML_STATUS : Nat := 0x9020000
/-- Validation report (02, R64). -/
def Reg.MG_FML_ERR : Nat := 0x9020008
/-- Affected Flacons (02, R64). -/
def Reg.MG_FML_AFFECTED : Nat := 0x9020010
/-- Formula digest (02, R64). -/
def Reg.MG_FML_DIGEST (n : Nat) : Nat := 0x9000000 + 0x20040 + n * 0x4
/-- Tile control (03, R97). -/
def Reg.TL_CTL (i : Nat) : Nat := 0x1000000 + i * 0x10000 + 0x0
/-- Spray state (03, R97). -/
def Reg.TL_SPRAY (i : Nat) : Nat := 0x1000000 + i * 0x10000 + 0x10
/-- Resequencer status (03, R97). -/
def Reg.TL_RESEQ (i : Nat) : Nat := 0x1000000 + i * 0x10000 + 0x20
/-- Admission waits (03, R97). -/
def Reg.TL_ADMIT (i : Nat) : Nat := 0x1000000 + i * 0x10000 + 0x30
/-- Core errors of the tile (03, R97). -/
def Reg.TL_ERR (i : Nat) : Nat := 0x1000000 + i * 0x10000 + 0x40
/-- Queue select (03, R97). -/
def Reg.PT_QSEL (q : Nat) : Nat := 0x1000000 + q / 2 * 0x10000 + 0x4000 + q % 2 * 0x2000 + 0x100
/-- Queue occupancy (03, R97). -/
def Reg.PT_QOCC (q : Nat) : Nat := 0x1000000 + q / 2 * 0x10000 + 0x4000 + q % 2 * 0x2000 + 0x108
/-- Flush Flacon mask (03, R97). -/
def Reg.PT_FLUSH_FL (q : Nat) : Nat := 0x1000000 + q / 2 * 0x10000 + 0x4000 + q % 2 * 0x2000 + 0x110
/-- Flush control (03, R97). -/
def Reg.PT_FLUSH_CTL (q : Nat) : Nat := 0x1000000 + q / 2 * 0x10000 + 0x4000 + q % 2 * 0x2000 + 0x114
/-- Bad-message counts (03, R97). -/
def Reg.PT_BAD (q : Nat) : Nat := 0x1000000 + q / 2 * 0x10000 + 0x4000 + q % 2 * 0x2000 + 0x120
/-- Flushed messages (03, R97). -/
def Reg.PT_FLUSH_CNT (q : Nat) : Nat := 0x1000000 + q / 2 * 0x10000 + 0x4000 + q % 2 * 0x2000 + 0x124
/-- Reserve use (03, R97). -/
def Reg.PT_RESV (q : Nat) : Nat := 0x1000000 + q / 2 * 0x10000 + 0x4000 + q % 2 * 0x2000 + 0x130
/-- Plane control (03, R97). -/
def Reg.XB_CTL (i : Nat) : Nat := 0x2000000 + i * 0x10000 + 0x0
/-- Plane status (03, R97). -/
def Reg.XB_STATUS (i : Nat) : Nat := 0x2000000 + i * 0x10000 + 0x4
/-- Fast shared pool (03, R97). -/
def Reg.XB_POOL_FAST (i : Nat) : Nat := 0x2000000 + i * 0x10000 + 0x100
/-- Spill shared pool (03, R97). -/
def Reg.XB_POOL_SPILL (i : Nat) : Nat := 0x2000000 + i * 0x10000 + 0x104
/-- Flacon fast-tier use (03, R97). -/
def Reg.FL_BUF_FAST (i : Nat) : Nat := 0x4000000 + i * 0x1000 + 0x200
/-- Flacon spill-tier use (03, R97). -/
def Reg.FL_BUF_SPILL (i : Nat) : Nat := 0x4000000 + i * 0x1000 + 0x204
/-- Flacon high-water marks (03, R97). -/
def Reg.FL_BUF_HWM (i : Nat) : Nat := 0x4000000 + i * 0x1000 + 0x208
/-- Flacon push-out counts (03, R97). -/
def Reg.FL_PUSHOUT (i : Nat) : Nat := 0x4000000 + i * 0x1000 + 0x210
/-- Flacon admission waits (03, R97). -/
def Reg.FL_ADMIT_STALL (i : Nat) : Nat := 0x4000000 + i * 0x1000 + 0x218
/-- Arbiter control (04, R126). -/
def Reg.ARB_CTL (base : Nat) : Nat := base + 0x800
/-- Arbiter status (04, R126). -/
def Reg.ARB_STATUS (base : Nat) : Nat := base + 0x804
/-- Output select (04, R126). -/
def Reg.ARB_SEL (base : Nat) : Nat := base + 0x808
/-- Grant count (04, R126). -/
def Reg.ARB_GRANTS (base : Nat) : Nat := base + 0x810
/-- Arbiter counters (04, R126). -/
def Reg.ARB_COUNTS (base : Nat) : Nat := base + 0x818
/-- Parked uses (04, R126). -/
def Reg.ARB_PARKED (base : Nat) : Nat := base + 0x820
/-- Requester base priority (04, R126). -/
def Reg.ARB_PRIO (base : Nat) (n : Nat) : Nat := base + 0x900 + n * 0x4
/-- Flacon select (04, R126). -/
def Reg.PT_SCHED_SEL (q : Nat) : Nat := 0x1000000 + q / 2 * 0x10000 + 0x4000 + q % 2 * 0x2000 + 0x200
/-- Weight (04, R126). -/
def Reg.PT_WFQ (q : Nat) : Nat := 0x1000000 + q / 2 * 0x10000 + 0x4000 + q % 2 * 0x2000 + 0x208
/-- Start tag (04, R126). -/
def Reg.PT_WFQ_TAG (q : Nat) : Nat := 0x1000000 + q / 2 * 0x10000 + 0x4000 + q % 2 * 0x2000 + 0x210
/-- Virtual time (04, R126). -/
def Reg.PT_VTIME (q : Nat) : Nat := 0x1000000 + q / 2 * 0x10000 + 0x4000 + q % 2 * 0x2000 + 0x218
/-- Shaper rate (04, R126). -/
def Reg.PT_SHAPE (q : Nat) : Nat := 0x1000000 + q / 2 * 0x10000 + 0x4000 + q % 2 * 0x2000 + 0x220
/-- Shaper burst (04, R126). -/
def Reg.PT_SHAPE_BURST (q : Nat) : Nat := 0x1000000 + q / 2 * 0x10000 + 0x4000 + q % 2 * 0x2000 + 0x228
/-- Shaper state (04, R126). -/
def Reg.PT_SHAPE_TOKENS (q : Nat) : Nat := 0x1000000 + q / 2 * 0x10000 + 0x4000 + q % 2 * 0x2000 + 0x230
/-- Late expiries (04, R126). -/
def Reg.PT_SHAPE_LATE (q : Nat) : Nat := 0x1000000 + q / 2 * 0x10000 + 0x4000 + q % 2 * 0x2000 + 0x238
/-- Gate configuration (04, R126). -/
def Reg.PT_GATE_CFG (q : Nat) : Nat := 0x1000000 + q / 2 * 0x10000 + 0x4000 + q % 2 * 0x2000 + 0x300
/-- Gate origin (04, R126). -/
def Reg.PT_GATE_ORIGIN (q : Nat) : Nat := 0x1000000 + q / 2 * 0x10000 + 0x4000 + q % 2 * 0x2000 + 0x308
/-- Gate state (04, R126). -/
def Reg.PT_GATE_STATE (q : Nat) : Nat := 0x1000000 + q / 2 * 0x10000 + 0x4000 + q % 2 * 0x2000 + 0x310
/-- Entries treated as closed (04, R126). -/
def Reg.PT_GATE_SHORT (q : Nat) (n : Nat) : Nat := 0x1000000 + q / 2 * 0x10000 + 0x4000 + q % 2 * 0x2000 + 0x320 + n * 0x4
/-- Gate errors (04, R126). -/
def Reg.PT_GATE_ERR (q : Nat) : Nat := 0x1000000 + q / 2 * 0x10000 + 0x4000 + q % 2 * 0x2000 + 0x340
/-- Held messages (04, R126). -/
def Reg.PT_GATE_HELD (q : Nat) : Nat := 0x1000000 + q / 2 * 0x10000 + 0x4000 + q % 2 * 0x2000 + 0x344
/-- Gate entry (04, R126). -/
def Reg.PT_GATE_ENTRY (q : Nat) (n : Nat) : Nat := 0x1000000 + q / 2 * 0x10000 + 0x4000 + q % 2 * 0x2000 + 0x1000 + n * 0x8
/-- Home slice control (05, R165). -/
def Reg.HS_CTL (i : Nat) : Nat := 0x3000000 + i * 0x10000 + 0x0
/-- Reserve use (05, R165). -/
def Reg.HS_RESV (i : Nat) : Nat := 0x3000000 + i * 0x10000 + 0x4
/-- Resource use (05, R165). -/
def Reg.HS_STATUS (i : Nat) : Nat := 0x3000000 + i * 0x10000 + 0x8
/-- Hot-tier counts (05, R165). -/
def Reg.HS_HOT (i : Nat) : Nat := 0x3000000 + i * 0x10000 + 0x10
/-- Eviction counts (05, R165). -/
def Reg.HS_EVICT (i : Nat) : Nat := 0x3000000 + i * 0x10000 + 0x18
/-- Race counts (05, R165). -/
def Reg.HS_RACE (i : Nat) : Nat := 0x3000000 + i * 0x10000 + 0x20
/-- Victim-overflow count (05, R165). -/
def Reg.HS_VOQ_CNT (i : Nat) : Nat := 0x3000000 + i * 0x10000 + 0x28
/-- Answer counts (05, R165). -/
def Reg.HS_ANS_CNT (i : Nat) : Nat := 0x3000000 + i * 0x10000 + 0x30
/-- Home errors (05, R165). -/
def Reg.HS_ERR (i : Nat) : Nat := 0x3000000 + i * 0x10000 + 0x40
/-- Corrected entries (05, R165). -/
def Reg.HS_DIR_CE_CNT (i : Nat) : Nat := 0x3000000 + i * 0x10000 + 0x44
/-- Flacon select (05, R165). -/
def Reg.HS_FSEL (i : Nat) : Nat := 0x3000000 + i * 0x10000 + 0x100
/-- Flacon sets in this slice (05, R165). -/
def Reg.HS_FDIR (i : Nat) : Nat := 0x3000000 + i * 0x10000 + 0x108
/-- Flacon entries in use (05, R165). -/
def Reg.HS_FOCC (i : Nat) : Nat := 0x3000000 + i * 0x10000 + 0x110
/-- Directory query (05, R165). -/
def Reg.HS_QUERY_ADDR (i : Nat) : Nat := 0x3000000 + i * 0x10000 + 0x200
/-- Query result (05, R165). -/
def Reg.HS_QUERY_RESULT (i : Nat) : Nat := 0x3000000 + i * 0x10000 + 0x208
/-- Query sharers (05, R165). -/
def Reg.HS_QUERY_SHARERS (i : Nat) : Nat := 0x3000000 + i * 0x10000 + 0x210
/-- Seen map (05, R165). -/
def Reg.HS_SEEN (i : Nat) (n : Nat) : Nat := 0x3000000 + i * 0x10000 + 0x1000 + n * 0x4
/-- Topnote control (06, R181). -/
def Reg.HS_TN_CTL (i : Nat) : Nat := 0x3000000 + i * 0x10000 + 0x300
/-- Policer of the selected Flacon (06, R181). -/
def Reg.HS_TN_POLICER (i : Nat) : Nat := 0x3000000 + i * 0x10000 + 0x118
/-- Issue counts (06, R181). -/
def Reg.HS_TN_CNT (i : Nat) : Nat := 0x3000000 + i * 0x10000 + 0x308
/-- Tentative outcomes (06, R181). -/
def Reg.HS_TN_OUT (i : Nat) : Nat := 0x3000000 + i * 0x10000 + 0x310
/-- Held at home (06, R181). -/
def Reg.HS_TN_HOME (i : Nat) : Nat := 0x3000000 + i * 0x10000 + 0x318
/-- Unresolved tentative data (06, R181). -/
def Reg.HS_TN_PEND (i : Nat) : Nat := 0x3000000 + i * 0x10000 + 0x31C
/-- Gate occupancy (06, R181). -/
def Reg.PT_TN_GATE (q : Nat) : Nat := 0x1000000 + q / 2 * 0x10000 + 0x4000 + q % 2 * 0x2000 + 0x400
/-- Gate outcomes (06, R181). -/
def Reg.PT_TN_CNT (q : Nat) : Nat := 0x1000000 + q / 2 * 0x10000 + 0x4000 + q % 2 * 0x2000 + 0x408
/-- Hold time (06, R181). -/
def Reg.PT_TN_WAIT (q : Nat) : Nat := 0x1000000 + q / 2 * 0x10000 + 0x4000 + q % 2 * 0x2000 + 0x410
/-- Gate errors (06, R181). -/
def Reg.PT_TN_ERR (q : Nat) : Nat := 0x1000000 + q / 2 * 0x10000 + 0x4000 + q % 2 * 0x2000 + 0x414
/-- Flacon Topnote totals (06, R181). -/
def Reg.FL_TN (i : Nat) : Nat := 0x4000000 + i * 0x1000 + 0x300
/-- Function identity (07, R212). -/
def Reg.EF_ID (q : Nat) : Nat := 0x100000000 + q * 0x10000 + 0x0
/-- Flacon resources (07, R212). -/
def Reg.EF_RES (q : Nat) : Nat := 0x100000000 + q * 0x10000 + 0x8
/-- Results (07, R212). -/
def Reg.EF_DONE (q : Nat) : Nat := 0x100000000 + q * 0x10000 + 0x10
/-- Slot doorbell (07, R212). -/
def Reg.EF_DB (q : Nat) (n : Nat) : Nat := 0x100000000 + q * 0x10000 + 0x1000 + n * 0x40
/-- Slot status (07, R212). -/
def Reg.EF_SLOT (q : Nat) (n : Nat) : Nat := 0x100000000 + q * 0x10000 + 0x1008 + n * 0x40
/-- Commit sequence (07, R212). -/
def Reg.EF_SEQ (q : Nat) (n : Nat) : Nat := 0x100000000 + q * 0x10000 + 0x1010 + n * 0x40
/-- Abort line (07, R212). -/
def Reg.EF_ABORT (q : Nat) (n : Nat) : Nat := 0x100000000 + q * 0x10000 + 0x1018 + n * 0x40
/-- Engine control (07, R212). -/
def Reg.AC_CTL : Nat := 0x5000000
/-- Engine state (07, R212). -/
def Reg.AC_STATUS : Nat := 0x5000008
/-- Last seal (07, R212). -/
def Reg.AC_SEQ : Nat := 0x5000010
/-- Outcomes (07, R212). -/
def Reg.AC_CNT : Nat := 0x5000018
/-- Engine errors (07, R212). -/
def Reg.AC_ERR : Nat := 0x5000020
/-- Last replay (07, R212). -/
def Reg.AC_REVIVE : Nat := 0x5000028
/-- Aborts by code (07, R212). -/
def Reg.AC_ABORT_CNT (n : Nat) : Nat := 0x5000000 + 0x100 + n * 0x4
/-- Flacon Accord resources (07, R212). -/
def Reg.FL_AC_USE (i : Nat) : Nat := 0x4000000 + i * 0x1000 + 0x400
/-- Flacon outcomes (07, R212). -/
def Reg.FL_AC_CNT (i : Nat) : Nat := 0x4000000 + i * 0x1000 + 0x408
/-- Last completed seal (07, R212). -/
def Reg.FL_AC_SEALED (i : Nat) : Nat := 0x4000000 + i * 0x1000 + 0x410
/-- Slice Accord marks (07, R212). -/
def Reg.HS_AC (i : Nat) : Nat := 0x3000000 + i * 0x10000 + 0x500
/-- Flacon configuration (08, R243). -/
def Reg.FL_CFG (i : Nat) : Nat := 0x4000000 + i * 0x1000 + 0x0
/-- Flacon state (08, R243). -/
def Reg.FL_STATUS (i : Nat) : Nat := 0x4000000 + i * 0x1000 + 0x8
/-- Rule epoch (08, R243). -/
def Reg.FL_EPOCH (i : Nat) : Nat := 0x4000000 + i * 0x1000 + 0x10
/-- Epoch drain (08, R243). -/
def Reg.FL_EPOCH_DRAIN (i : Nat) : Nat := 0x4000000 + i * 0x1000 + 0x18
/-- Oldest outstanding epoch (08, R243). -/
def Reg.FL_EPOCH_OLDEST (i : Nat) : Nat := 0x4000000 + i * 0x1000 + 0x20
/-- Region count (08, R243). -/
def Reg.FL_REGIONS (i : Nat) : Nat := 0x4000000 + i * 0x1000 + 0x28
/-- Violation report (08, R243). -/
def Reg.FL_VIOL (i : Nat) (n : Nat) : Nat := 0x4000000 + i * 0x1000 + 0x100 + n * 0x8
/-- Violation latch (08, R243). -/
def Reg.FL_VIOL_CTL (i : Nat) : Nat := 0x4000000 + i * 0x1000 + 0x120
/-- Violation counts (08, R243). -/
def Reg.FL_VIOL_CNT (i : Nat) : Nat := 0x4000000 + i * 0x1000 + 0x128
/-- First error (08, R243). -/
def Reg.FL_FERR (i : Nat) (n : Nat) : Nat := 0x4000000 + i * 0x1000 + 0x140 + n * 0x8
/-- First-error latch (08, R243). -/
def Reg.FL_FERR_CTL (i : Nat) : Nat := 0x4000000 + i * 0x1000 + 0x160
/-- Later errors (08, R243). -/
def Reg.FL_FERR_CNT (i : Nat) : Nat := 0x4000000 + i * 0x1000 + 0x168
/-- Region cache counts (08, R243). -/
def Reg.TL_RCACHE (i : Nat) : Nat := 0x1000000 + i * 0x10000 + 0x50
/-- Region cache events (08, R243). -/
def Reg.TL_RCACHE_ERR (i : Nat) : Nat := 0x1000000 + i * 0x10000 + 0x58
/-- Lane control (09, R268). -/
def Reg.LN_CTL (l : Nat) : Nat := 0x1000000 + l / 8 * 0x10000 + 0x8000 + l % 8 * 0x400 + 0x0
/-- Lane status (09, R268). -/
def Reg.LN_STATUS (l : Nat) : Nat := 0x1000000 + l / 8 * 0x10000 + 0x8000 + l % 8 * 0x400 + 0x8
/-- Training record (09, R268). -/
def Reg.LN_TRAIN (l : Nat) : Nat := 0x1000000 + l / 8 * 0x10000 + 0x8000 + l % 8 * 0x400 + 0x10
/-- Transmitter taps in use (09, R268). -/
def Reg.LN_TXFIR (l : Nat) : Nat := 0x1000000 + l / 8 * 0x10000 + 0x8000 + l % 8 * 0x400 + 0x18
/-- Adaptation stamp (09, R268). -/
def Reg.LN_ADAPT_STAMP (l : Nat) : Nat := 0x1000000 + l / 8 * 0x10000 + 0x8000 + l % 8 * 0x400 + 0x20
/-- Stamp time (09, R268). -/
def Reg.LN_ADAPT_TIME (l : Nat) : Nat := 0x1000000 + l / 8 * 0x10000 + 0x8000 + l % 8 * 0x400 + 0x28
/-- Last margins (09, R268). -/
def Reg.LN_MARGIN (l : Nat) : Nat := 0x1000000 + l / 8 * 0x10000 + 0x8000 + l % 8 * 0x400 + 0x30
/-- Margin limits (09, R268). -/
def Reg.LN_MARGIN_MIN (l : Nat) : Nat := 0x1000000 + l / 8 * 0x10000 + 0x8000 + l % 8 * 0x400 + 0x34
/-- Re-tune record (09, R268). -/
def Reg.LN_RETUNE (l : Nat) : Nat := 0x1000000 + l / 8 * 0x10000 + 0x8000 + l % 8 * 0x400 + 0x38
/-- Codeword counts (09, R268). -/
def Reg.LN_FEC (l : Nat) : Nat := 0x1000000 + l / 8 * 0x10000 + 0x8000 + l % 8 * 0x400 + 0x40
/-- Symbol errors (09, R268). -/
def Reg.LN_FEC_SYM (l : Nat) : Nat := 0x1000000 + l / 8 * 0x10000 + 0x8000 + l % 8 * 0x400 + 0x48
/-- Lane errors (09, R268). -/
def Reg.LN_ERR (l : Nat) : Nat := 0x1000000 + l / 8 * 0x10000 + 0x8000 + l % 8 * 0x400 + 0x50
/-- Partner identity (09, R268). -/
def Reg.LN_PARTNER (l : Nat) : Nat := 0x1000000 + l / 8 * 0x10000 + 0x8000 + l % 8 * 0x400 + 0x80
/-- Partner detail (09, R268). -/
def Reg.LN_PARTNER_INFO (l : Nat) : Nat := 0x1000000 + l / 8 * 0x10000 + 0x8000 + l % 8 * 0x400 + 0x88
/-- Test control (09, R268). -/
def Reg.LN_PRBS_CTL (l : Nat) : Nat := 0x1000000 + l / 8 * 0x10000 + 0x8000 + l % 8 * 0x400 + 0x100
/-- Error injection (09, R268). -/
def Reg.LN_PRBS_INJ (l : Nat) : Nat := 0x1000000 + l / 8 * 0x10000 + 0x8000 + l % 8 * 0x400 + 0x104
/-- Checker state (09, R268). -/
def Reg.LN_PRBS_STATUS (l : Nat) : Nat := 0x1000000 + l / 8 * 0x10000 + 0x8000 + l % 8 * 0x400 + 0x108
/-- Bits checked (09, R268). -/
def Reg.LN_PRBS_BITS (l : Nat) : Nat := 0x1000000 + l / 8 * 0x10000 + 0x8000 + l % 8 * 0x400 + 0x110
/-- Bit errors (09, R268). -/
def Reg.LN_PRBS_ERRS (l : Nat) : Nat := 0x1000000 + l / 8 * 0x10000 + 0x8000 + l % 8 * 0x400 + 0x118
/-- LINKTEST setup (09, R268). -/
def Reg.LN_TEST_CFG (l : Nat) : Nat := 0x1000000 + l / 8 * 0x10000 + 0x8000 + l % 8 * 0x400 + 0x120
/-- Link configuration (10, R297). -/
def Reg.PT_LL_CFG (q : Nat) : Nat := 0x1000000 + q / 2 * 0x10000 + 0x4000 + q % 2 * 0x2000 + 0x600
/-- Link control (10, R297). -/
def Reg.PT_LL_CTL (q : Nat) : Nat := 0x1000000 + q / 2 * 0x10000 + 0x4000 + q % 2 * 0x2000 + 0x608
/-- Link state (10, R297). -/
def Reg.PT_LL_STATUS (q : Nat) : Nat := 0x1000000 + q / 2 * 0x10000 + 0x4000 + q % 2 * 0x2000 + 0x610
/-- Sequence state (10, R297). -/
def Reg.PT_LL_SEQ (q : Nat) : Nat := 0x1000000 + q / 2 * 0x10000 + 0x4000 + q % 2 * 0x2000 + 0x618
/-- Credit select (10, R297). -/
def Reg.PT_LL_CRSEL (q : Nat) : Nat := 0x1000000 + q / 2 * 0x10000 + 0x4000 + q % 2 * 0x2000 + 0x620
/-- Credits of the selected counter (10, R297). -/
def Reg.PT_LL_CREDIT (q : Nat) : Nat := 0x1000000 + q / 2 * 0x10000 + 0x4000 + q % 2 * 0x2000 + 0x628
/-- Shared pool (10, R297). -/
def Reg.PT_LL_POOL (q : Nat) : Nat := 0x1000000 + q / 2 * 0x10000 + 0x4000 + q % 2 * 0x2000 + 0x630
/-- Replay counts (10, R297). -/
def Reg.PT_LL_REPLAY (q : Nat) : Nat := 0x1000000 + q / 2 * 0x10000 + 0x4000 + q % 2 * 0x2000 + 0x638
/-- Link tags (10, R297). -/
def Reg.PT_LL_OTAG (q : Nat) : Nat := 0x1000000 + q / 2 * 0x10000 + 0x4000 + q % 2 * 0x2000 + 0x640
/-- Link events (10, R297). -/
def Reg.PT_LL_EVENTS (q : Nat) : Nat := 0x1000000 + q / 2 * 0x10000 + 0x4000 + q % 2 * 0x2000 + 0x648
/-- Linger use (10, R297). -/
def Reg.PT_LL_LINGER (q : Nat) : Nat := 0x1000000 + q / 2 * 0x10000 + 0x4000 + q % 2 * 0x2000 + 0x650
/-- Link errors (10, R297). -/
def Reg.PT_LL_ERR (q : Nat) : Nat := 0x1000000 + q / 2 * 0x10000 + 0x4000 + q % 2 * 0x2000 + 0x658
/-- Standard link state (11, R317). -/
def Reg.PT_STD_STATUS (q : Nat) : Nat := 0x1000000 + q / 2 * 0x10000 + 0x4000 + q % 2 * 0x2000 + 0x700
/-- Partner identity (11, R317). -/
def Reg.PT_STD_PARTNER (q : Nat) : Nat := 0x1000000 + q / 2 * 0x10000 + 0x4000 + q % 2 * 0x2000 + 0x708
/-- Host window (11, R317). -/
def Reg.PT_STD_HDM (q : Nat) : Nat := 0x1000000 + q / 2 * 0x10000 + 0x4000 + q % 2 * 0x2000 + 0x710
/-- Flacon span (11, R317). -/
def Reg.PT_STD_SPAN (q : Nat) : Nat := 0x1000000 + q / 2 * 0x10000 + 0x4000 + q % 2 * 0x2000 + 0x718
/-- Outbound records (11, R317). -/
def Reg.PT_STD_OREC (q : Nat) : Nat := 0x1000000 + q / 2 * 0x10000 + 0x4000 + q % 2 * 0x2000 + 0x720
/-- Link events (11, R317). -/
def Reg.PT_STD_EVENTS (q : Nat) : Nat := 0x1000000 + q / 2 * 0x10000 + 0x4000 + q % 2 * 0x2000 + 0x728
/-- Poison counts (11, R317). -/
def Reg.PT_STD_POISON (q : Nat) : Nat := 0x1000000 + q / 2 * 0x10000 + 0x4000 + q % 2 * 0x2000 + 0x730
/-- Standard port errors (11, R317). -/
def Reg.PT_STD_ERR (q : Nat) : Nat := 0x1000000 + q / 2 * 0x10000 + 0x4000 + q % 2 * 0x2000 + 0x740
/-- Slot state (12, R336). -/
def Reg.PT_HP_STATUS (q : Nat) : Nat := 0x1000000 + q / 2 * 0x10000 + 0x4000 + q % 2 * 0x2000 + 0x800
/-- Slot events (12, R336). -/
def Reg.PT_HP_EVENTS (q : Nat) : Nat := 0x1000000 + q / 2 * 0x10000 + 0x4000 + q % 2 * 0x2000 + 0x808
/-- Slot counts (12, R336). -/
def Reg.PT_HP_CNT (q : Nat) : Nat := 0x1000000 + q / 2 * 0x10000 + 0x4000 + q % 2 * 0x2000 + 0x810
/-- Engine control (12, R336). -/
def Reg.DC_CTL : Nat := 0x5400000
/-- Engine state (12, R336). -/
def Reg.DC_STATUS : Nat := 0x5400008
/-- Job operands (12, R336). -/
def Reg.DC_JOB_CFG (n : Nat) : Nat := 0x5400000 + 0x100 + n * 0x40
/-- Job state (12, R336). -/
def Reg.DC_JOB_STATE (n : Nat) : Nat := 0x5400000 + 0x108 + n * 0x40
/-- Copy progress (12, R336). -/
def Reg.DC_JOB_PTR (n : Nat) : Nat := 0x5400000 + 0x110 + n * 0x40
/-- Job counts (12, R336). -/
def Reg.DC_JOB_CNT (n : Nat) : Nat := 0x5400000 + 0x118 + n * 0x40
/-- Bus, feeds and VAUX (13, R358). -/
def Reg.PC_BUS : Nat := 0x400000
/-- Feed state (13, R358). -/
def Reg.PC_FEED : Nat := 0x400008
/-- Supervision levels (13, R358). -/
def Reg.PC_SUPV : Nat := 0x400010
/-- Supervision state (13, R358). -/
def Reg.PC_SUPV_STATUS : Nat := 0x400018
/-- Companion events (13, R358). -/
def Reg.PC_EVENTS : Nat := 0x400020
/-- Last warning episode (13, R358). -/
def Reg.PC_DIP : Nat := 0x400028
/-- Rail monitors (13, R358). -/
def Reg.PC_RAIL : Nat := 0x400030
/-- Channel configuration (13, R358). -/
def Reg.SPC_CFG (i : Nat) : Nat := 0x410000 + i * 0x100 + 0x0
/-- Channel models (13, R358). -/
def Reg.SPC_CFG2 (i : Nat) : Nat := 0x410000 + i * 0x100 + 0x8
/-- Limit in force (13, R358). -/
def Reg.SPC_LIMIT (i : Nat) : Nat := 0x410000 + i * 0x100 + 0x10
/-- Channel state (13, R358). -/
def Reg.SPC_STATE (i : Nat) : Nat := 0x410000 + i * 0x100 + 0x18
/-- Measurements (13, R358). -/
def Reg.SPC_MEAS (i : Nat) : Nat := 0x410000 + i * 0x100 + 0x20
/-- Timers (13, R358). -/
def Reg.SPC_TIMER (i : Nat) : Nat := 0x410000 + i * 0x100 + 0x28
/-- Offset zero (13, R358). -/
def Reg.SPC_ZERO (i : Nat) : Nat := 0x410000 + i * 0x100 + 0x30
/-- Channel counts (13, R358). -/
def Reg.SPC_CNT (i : Nat) : Nat := 0x410000 + i * 0x100 + 0x38
/-- Channel errors (13, R358). -/
def Reg.SPC_ERR (i : Nat) : Nat := 0x410000 + i * 0x100 + 0x40
/-- Drain state (14, R380). -/
def Reg.KS_DRAIN_STATUS : Nat := 0x8000100
/-- Phase end times (14, R380). -/
def Reg.KS_DRAIN_TIME : Nat := 0x8000108
/-- Write-out counts (14, R380). -/
def Reg.KS_DRAIN_CNT : Nat := 0x8000110
/-- Cut counts (14, R380). -/
def Reg.KS_DRAIN_CUT : Nat := 0x8000118
/-- Last retention (14, R380). -/
def Reg.KS_RETAIN_STATUS : Nat := 0x8000120
/-- REVIVE state (14, R380). -/
def Reg.KS_REVIVE_STATUS : Nat := 0x8000128
/-- REVIVE settings (14, R380). -/
def Reg.KS_REVIVE_CFG : Nat := 0x8000130
/-- Loss report (14, R380). -/
def Reg.KS_LOSS : Nat := 0x8000140
/-- Lost counts (14, R380). -/
def Reg.KS_LOSS_CNT : Nat := 0x8000148
/-- Lowest lost SEQ (14, R380). -/
def Reg.KS_LOSS_SEQ : Nat := 0x8000150
/-- Pin thresholds (15, R411). -/
def Reg.FC_PIN_LEVEL : Nat := 0x100000
/-- Pending summary (15, R411). -/
def Reg.FC_SUMMARY : Nat := 0x100008
/-- Alert (15, R411). -/
def Reg.FC_ALERT : Nat := 0x100010
/-- Chip first error (15, R411). -/
def Reg.FC_FERR (n : Nat) : Nat := 0x100000 + 0x100 + n * 0x8
/-- Capture latch (15, R411). -/
def Reg.FC_FERR_CTL : Nat := 0x100120
/-- Later errors (15, R411). -/
def Reg.FC_FERR_CNT : Nat := 0x100128
/-- Source select (15, R411). -/
def Reg.FC_SEL : Nat := 0x100200
/-- Selected source (15, R411). -/
def Reg.FC_SRC : Nat := 0x100208
/-- Selected source counts (15, R411). -/
def Reg.FC_SRC_CNT : Nat := 0x100210
/-- Test occurrence (15, R411). -/
def Reg.FC_INJECT : Nat := 0x100300
/-- Log state (15, R411). -/
def Reg.FC_LOG_COUNT : Nat := 0x100400
/-- Log consume (15, R411). -/
def Reg.FC_LOG_ACK : Nat := 0x100408
/-- Pending sources (15, R411). -/
def Reg.FC_PEND (n : Nat) : Nat := 0x100000 + 0x1000 + n * 0x4
/-- Rail faults (15, R411). -/
def Reg.FC_RAIL (n : Nat) : Nat := 0x100000 + 0x1100 + n * 0x4
/-- Flacon fault clear (15, R411). -/
def Reg.FL_FAULT (i : Nat) : Nat := 0x4000000 + i * 0x1000 + 0x30
/-- Freeze control (15, R411). -/
def Reg.FZ_CTL : Nat := 0x200000
/-- Freeze state (15, R411). -/
def Reg.FZ_STATUS : Nat := 0x200008
/-- Beat at freeze (15, R411). -/
def Reg.FZ_BEAT : Nat := 0x200010
/-- Time at freeze (15, R411). -/
def Reg.FZ_TIME : Nat := 0x200018
/-- Capture control (15, R411). -/
def Reg.FZ_CAP_CTL : Nat := 0x200100
/-- Capture state (15, R411). -/
def Reg.FZ_CAP_STATUS : Nat := 0x200108
/-- Sillage control (15, R411). -/
def Reg.SL_CTL (i : Nat) : Nat := 0x5800000 + i * 0x10000 + 0x0
/-- Entries held (15, R411). -/
def Reg.SL_COUNT (i : Nat) : Nat := 0x5800000 + i * 0x10000 + 0x8
/-- Consume (15, R411). -/
def Reg.SL_ACK (i : Nat) : Nat := 0x5800000 + i * 0x10000 + 0x10
/-- Filter control (15, R411). -/
def Reg.SL_FILT_CTL (i : Nat) (n : Nat) : Nat := 0x5800000 + i * 0x10000 + 0x100 + n * 0x40
/-- Filter ports (15, R411). -/
def Reg.SL_FILT_PORTS (i : Nat) (n : Nat) : Nat := 0x5800000 + i * 0x10000 + 0x108 + n * 0x40
/-- Filter Flacons (15, R411). -/
def Reg.SL_FILT_FL (i : Nat) (n : Nat) : Nat := 0x5800000 + i * 0x10000 + 0x110 + n * 0x40
/-- Address low (15, R411). -/
def Reg.SL_FILT_LO (i : Nat) (n : Nat) : Nat := 0x5800000 + i * 0x10000 + 0x118 + n * 0x40
/-- Address high (15, R411). -/
def Reg.SL_FILT_HI (i : Nat) (n : Nat) : Nat := 0x5800000 + i * 0x10000 + 0x120 + n * 0x40
/-- Mirror ring base (15, R411). -/
def Reg.FL_MIRROR_BASE (i : Nat) : Nat := 0x4000000 + i * 0x1000 + 0x500
/-- Mirror control (15, R411). -/
def Reg.FL_MIRROR_CTL (i : Nat) : Nat := 0x4000000 + i * 0x1000 + 0x508
/-- Mirror progress (15, R411). -/
def Reg.FL_MIRROR_PTR (i : Nat) : Nat := 0x4000000 + i * 0x1000 + 0x510
/-- Lifecycle and keys (16, R442). -/
def Reg.MG_LIFECYCLE : Nat := 0x9000000
/-- Presence window (16, R442). -/
def Reg.MG_PRESENCE : Nat := 0x9000008
/-- Seal state (16, R442). -/
def Reg.MG_SEAL : Nat := 0x9000010
/-- Firmware (16, R442). -/
def Reg.MG_FW_STATUS : Nat := 0x9000018
/-- Boot ROM measurement (16, R442). -/
def Reg.MG_MEAS_ROM (n : Nat) : Nat := 0x9000000 + 0x100 + n * 0x4
/-- Firmware measurement (16, R442). -/
def Reg.MG_MEAS_FW (n : Nat) : Nat := 0x9000000 + 0x140 + n * 0x4
/-- Owner key in force (16, R442). -/
def Reg.MG_OWNER_DIGEST (n : Nat) : Nat := 0x9000000 + 0x180 + n * 0x4
/-- Path counts (16, R442). -/
def Reg.MG_PATH_CNT (n : Nat) : Nat := 0x9000000 + 0x200 + n * 0x8
/-- Write permission (16, R442). -/
def Reg.MG_BAR0_WR : Nat := 0x9000220
/-- Refused RWP writes (16, R442). -/
def Reg.MG_RWP_LOG : Nat := 0x9000228
/-- I3C target (16, R442). -/
def Reg.MG_I3C : Nat := 0x9000230
/-- Mailbox doorbell (16, R442). -/
def Reg.MBX_DB : Nat := 0x200000000
/-- Mailbox state (16, R442). -/
def Reg.MBX_STATUS : Nat := 0x200000008
def Fld.CHIP_ID.DEVICE : Fld := ⟨16, 16⟩
def Fld.CHIP_ID.STEPPING : Fld := ⟨8, 8⟩
def Fld.CHIP_ID.FAMILY : Fld := ⟨0, 8⟩
def Fld.CHIP_SERIAL.SERIAL : Fld := ⟨0, 64⟩
def Fld.CHIP_MODE.MODE : Fld := ⟨0, 4⟩
def Fld.CHIP_MODE.PREV_MODE : Fld := ⟨4, 4⟩
def Fld.CHIP_MODE.CAUSE : Fld := ⟨8, 8⟩
def Fld.CHIP_MODE.RETAIN_VALID : Fld := ⟨16, 1⟩
def Fld.CHIP_MODE.REQ_ERR : Fld := ⟨17, 1⟩
def Fld.CHIP_MODE_REQ.TARGET : Fld := ⟨0, 4⟩
def Fld.CHIP_STRAPS.BOOT_SRC : Fld := ⟨0, 2⟩
def Fld.CHIP_STRAPS.MPORT_EN : Fld := ⟨2, 1⟩
def Fld.CHIP_STRAPS.I3C_ADDR : Fld := ⟨3, 2⟩
def Fld.CHIP_RESET.KEY : Fld := ⟨0, 32⟩
def Fld.CHIP_CLK_STATUS.REF_OK : Fld := ⟨0, 1⟩
def Fld.CHIP_CLK_STATUS.ROOT_LOCK : Fld := ⟨1, 1⟩
def Fld.CHIP_CLK_STATUS.AO_OK : Fld := ⟨2, 1⟩
def Fld.CHIP_CLK_STATUS.REF_LOST : Fld := ⟨3, 1⟩
def Fld.CHIP_CLK_STATUS.SDS_UNLOCK : Fld := ⟨4, 8⟩
def Fld.CHIP_TIME.TIME : Fld := ⟨0, 64⟩
def Fld.CHIP_TIME_ADJ.DELTA : Fld := ⟨0, 31⟩
def Fld.CHIP_TIME_ADJ.SIGN : Fld := ⟨31, 1⟩
def Fld.CHIP_TIME_CTL.STEP : Fld := ⟨0, 1⟩
def Fld.CHIP_TIME_CTL.PTM_EN : Fld := ⟨1, 1⟩
def Fld.CHIP_TIME_CTL.PTM_PORT : Fld := ⟨2, 7⟩
def Fld.CHIP_TIME_CTL.SLEWING : Fld := ⟨9, 1⟩
def Fld.CHIP_BEAT.BEAT : Fld := ⟨0, 64⟩
def Fld.CHIP_TJ.TJ_MAX : Fld := ⟨0, 16⟩
def Fld.CHIP_TJ.TJ_SRC : Fld := ⟨16, 4⟩
def Fld.CHIP_TJ.REFRESH_MULT : Fld := ⟨20, 2⟩
def Fld.CHIP_TJ.THROTTLE : Fld := ⟨22, 1⟩
def Fld.CHIP_TSENSE.TEMP : Fld := ⟨0, 16⟩
def Fld.CHIP_TSENSE.VALID : Fld := ⟨16, 1⟩
def Fld.CHIP_BOOT_STATUS.FW_SLOT : Fld := ⟨0, 1⟩
def Fld.CHIP_BOOT_STATUS.FORMULA_SLOT : Fld := ⟨1, 1⟩
def Fld.CHIP_BOOT_STATUS.RECOVERY : Fld := ⟨2, 1⟩
def Fld.CHIP_BOOT_STATUS.REVIVED : Fld := ⟨3, 1⟩
def Fld.CHIP_BOOT_STATUS.WDOG : Fld := ⟨4, 1⟩
def Fld.CHIP_BOOT_STATUS.ERROR : Fld := ⟨16, 16⟩
def Fld.CHIP_ACCESS_ERR.TORN : Fld := ⟨0, 1⟩
def Fld.CHIP_ACCESS_ERR.PATH : Fld := ⟨1, 3⟩
def Fld.CHIP_ACCESS_ADDR.OFFSET : Fld := ⟨0, 28⟩
def Fld.MG_FML_STATUS.ACTIVE_SLOT : Fld := ⟨0, 1⟩
def Fld.MG_FML_STATUS.PENDING_VALID : Fld := ⟨1, 1⟩
def Fld.MG_FML_STATUS.PENDING_SLOT : Fld := ⟨2, 1⟩
def Fld.MG_FML_STATUS.PHASE : Fld := ⟨3, 3⟩
def Fld.MG_FML_STATUS.DRAIN_TIMEOUT : Fld := ⟨6, 1⟩
def Fld.MG_FML_STATUS.LIVE_DONE : Fld := ⟨7, 1⟩
def Fld.MG_FML_STATUS.GENERATION : Fld := ⟨32, 32⟩
def Fld.MG_FML_ERR.CODE : Fld := ⟨0, 16⟩
def Fld.MG_FML_ERR.RECORD : Fld := ⟨16, 16⟩
def Fld.MG_FML_ERR.OFFSET : Fld := ⟨32, 16⟩
def Fld.MG_FML_ERR.AUX : Fld := ⟨48, 16⟩
def Fld.MG_FML_AFFECTED.MASK : Fld := ⟨0, 32⟩
def Fld.MG_FML_DIGEST.DIGEST : Fld := ⟨0, 32⟩
def Fld.TL_CTL.PACK_EN : Fld := ⟨0, 1⟩
def Fld.TL_CTL.PACK_WAIT : Fld := ⟨1, 3⟩
def Fld.TL_CTL.CT_EN : Fld := ⟨4, 1⟩
def Fld.TL_SPRAY.ACTIVE : Fld := ⟨0, 8⟩
def Fld.TL_SPRAY.DRAIN_PEND : Fld := ⟨8, 8⟩
def Fld.TL_RESEQ.MAX_OCC : Fld := ⟨0, 9⟩
def Fld.TL_RESEQ.SKIP : Fld := ⟨16, 16⟩
def Fld.TL_RESEQ.RANGE : Fld := ⟨32, 16⟩
def Fld.TL_ADMIT.WAITING : Fld := ⟨0, 16⟩
def Fld.TL_ADMIT.THROTTLED : Fld := ⟨16, 16⟩
def Fld.TL_ERR.HDR_UE : Fld := ⟨0, 1⟩
def Fld.TL_ERR.PAYLOAD_UE : Fld := ⟨1, 1⟩
def Fld.TL_ERR.PLANE_CRC : Fld := ⟨2, 1⟩
def Fld.TL_ERR.RESEQ_RANGE : Fld := ⟨3, 1⟩
def Fld.PT_QSEL.MC : Fld := ⟨0, 3⟩
def Fld.PT_QSEL.FLACON : Fld := ⟨3, 5⟩
def Fld.PT_QOCC.FAST : Fld := ⟨0, 21⟩
def Fld.PT_QOCC.SPILL : Fld := ⟨32, 22⟩
def Fld.PT_FLUSH_FL.FLACONS : Fld := ⟨0, 32⟩
def Fld.PT_FLUSH_CTL.CLASSES : Fld := ⟨0, 8⟩
def Fld.PT_FLUSH_CTL.GO : Fld := ⟨8, 1⟩
def Fld.PT_FLUSH_CTL.BUSY : Fld := ⟨9, 1⟩
def Fld.PT_FLUSH_CTL.REFUSED : Fld := ⟨10, 1⟩
def Fld.PT_BAD.NULLIFIED : Fld := ⟨0, 16⟩
def Fld.PT_BAD.POISONED : Fld := ⟨16, 16⟩
def Fld.PT_FLUSH_CNT.COUNT : Fld := ⟨0, 32⟩
def Fld.PT_RESV.RESP : Fld := ⟨0, 7⟩
def Fld.PT_RESV.PREFETCH : Fld := ⟨16, 9⟩
def Fld.XB_CTL.FENCE_REQ : Fld := ⟨0, 1⟩
def Fld.XB_STATUS.FENCED : Fld := ⟨0, 1⟩
def Fld.XB_STATUS.FAULT_FENCE : Fld := ⟨1, 1⟩
def Fld.XB_STATUS.DRAINED : Fld := ⟨2, 1⟩
def Fld.XB_STATUS.REFUSED : Fld := ⟨3, 1⟩
def Fld.XB_POOL_FAST.FREE : Fld := ⟨0, 20⟩
def Fld.XB_POOL_SPILL.FREE : Fld := ⟨0, 22⟩
def Fld.FL_BUF_FAST.USED : Fld := ⟨0, 20⟩
def Fld.FL_BUF_SPILL.USED : Fld := ⟨0, 22⟩
def Fld.FL_BUF_HWM.FAST : Fld := ⟨0, 20⟩
def Fld.FL_BUF_HWM.SPILL : Fld := ⟨32, 22⟩
def Fld.FL_PUSHOUT.VICTIM : Fld := ⟨0, 32⟩
def Fld.FL_PUSHOUT.GAINED : Fld := ⟨32, 32⟩
def Fld.FL_ADMIT_STALL.COUNT : Fld := ⟨0, 32⟩
def Fld.ARB_CTL.RESYNC : Fld := ⟨0, 1⟩
def Fld.ARB_CTL.CLR_STATS : Fld := ⟨1, 1⟩
def Fld.ARB_STATUS.FALLBACK : Fld := ⟨0, 1⟩
def Fld.ARB_STATUS.PARITY_ERR : Fld := ⟨1, 1⟩
def Fld.ARB_STATUS.ANY_FALLBACK : Fld := ⟨2, 1⟩
def Fld.ARB_STATUS.STARVE_N : Fld := ⟨8, 8⟩
def Fld.ARB_SEL.OUTPUT : Fld := ⟨0, 7⟩
def Fld.ARB_GRANTS.GRANTS : Fld := ⟨0, 64⟩
def Fld.ARB_COUNTS.STARVE_GRANTS : Fld := ⟨0, 32⟩
def Fld.ARB_COUNTS.VOID : Fld := ⟨32, 16⟩
def Fld.ARB_COUNTS.MAX_WAIT : Fld := ⟨48, 16⟩
def Fld.ARB_PARKED.PARKED : Fld := ⟨0, 32⟩
def Fld.ARB_PRIO.BASE : Fld := ⟨0, 3⟩
def Fld.PT_SCHED_SEL.FLACON : Fld := ⟨0, 5⟩
def Fld.PT_WFQ.WEIGHT : Fld := ⟨0, 12⟩
def Fld.PT_WFQ.WEIGHT_MIN : Fld := ⟨16, 12⟩
def Fld.PT_WFQ.WEIGHT_MAX : Fld := ⟨32, 12⟩
def Fld.PT_WFQ_TAG.START : Fld := ⟨0, 40⟩
def Fld.PT_WFQ_TAG.QUEUED : Fld := ⟨40, 1⟩
def Fld.PT_VTIME.V : Fld := ⟨0, 40⟩
def Fld.PT_SHAPE.RATE_MBPS : Fld := ⟨0, 20⟩
def Fld.PT_SHAPE.MAX_RATE_MBPS : Fld := ⟨32, 20⟩
def Fld.PT_SHAPE_BURST.BURST_BYTES : Fld := ⟨0, 21⟩
def Fld.PT_SHAPE_TOKENS.TOKENS : Fld := ⟨0, 40⟩
def Fld.PT_SHAPE_TOKENS.ON_WHEEL : Fld := ⟨40, 1⟩
def Fld.PT_SHAPE_TOKENS.SLOT : Fld := ⟨41, 16⟩
def Fld.PT_SHAPE_LATE.LATE : Fld := ⟨0, 32⟩
def Fld.PT_GATE_CFG.CYCLE_BEATS : Fld := ⟨0, 17⟩
def Fld.PT_GATE_CFG.COUNT : Fld := ⟨17, 9⟩
def Fld.PT_GATE_ORIGIN.ORIGIN : Fld := ⟨0, 64⟩
def Fld.PT_GATE_STATE.GUARD : Fld := ⟨0, 16⟩
def Fld.PT_GATE_STATE.OPEN : Fld := ⟨16, 8⟩
def Fld.PT_GATE_SHORT.SHORT : Fld := ⟨0, 32⟩
def Fld.PT_GATE_ERR.SHORT : Fld := ⟨0, 1⟩
def Fld.PT_GATE_ERR.FALLBACK : Fld := ⟨1, 1⟩
def Fld.PT_GATE_ERR.OVERRUN : Fld := ⟨2, 1⟩
def Fld.PT_GATE_ERR.UNGATED : Fld := ⟨8, 8⟩
def Fld.PT_GATE_ERR.OVERRUN_CNT : Fld := ⟨16, 16⟩
def Fld.PT_GATE_HELD.HELD : Fld := ⟨0, 32⟩
def Fld.PT_GATE_ENTRY.START_BEAT : Fld := ⟨0, 24⟩
def Fld.PT_GATE_ENTRY.CLASS_MASK : Fld := ⟨24, 8⟩
def Fld.PT_GATE_ENTRY.LEN_BEATS : Fld := ⟨32, 32⟩
def Fld.HS_CTL.SCRUB_EN : Fld := ⟨0, 1⟩
def Fld.HS_CTL.SCRUB_INT : Fld := ⟨1, 4⟩
def Fld.HS_RESV.SNOOP : Fld := ⟨0, 9⟩
def Fld.HS_RESV.RESP : Fld := ⟨16, 8⟩
def Fld.HS_STATUS.TRACKERS : Fld := ⟨0, 11⟩
def Fld.HS_STATUS.CONFLICT : Fld := ⟨16, 12⟩
def Fld.HS_STATUS.SNOOP_REC : Fld := ⟨32, 12⟩
def Fld.HS_STATUS.VOQ : Fld := ⟨44, 4⟩
def Fld.HS_STATUS.GATED : Fld := ⟨48, 1⟩
def Fld.HS_HOT.HITS : Fld := ⟨0, 32⟩
def Fld.HS_HOT.MISSES : Fld := ⟨32, 32⟩
def Fld.HS_EVICT.EVICTIONS : Fld := ⟨0, 32⟩
def Fld.HS_EVICT.SNOOPS : Fld := ⟨32, 32⟩
def Fld.HS_RACE.LATE_ANSWER : Fld := ⟨0, 16⟩
def Fld.HS_RACE.CONFLICT_ACK : Fld := ⟨16, 16⟩
def Fld.HS_RACE.STRAY_WB : Fld := ⟨32, 16⟩
def Fld.HS_RACE.OWNER_LOST : Fld := ⟨48, 16⟩
def Fld.HS_VOQ_CNT.WAITS : Fld := ⟨0, 32⟩
def Fld.HS_ANS_CNT.STRAY : Fld := ⟨0, 32⟩
def Fld.HS_ANS_CNT.SHARER_LOST : Fld := ⟨32, 32⟩
def Fld.HS_ERR.DIR_CE : Fld := ⟨0, 1⟩
def Fld.HS_ERR.DIR_UE : Fld := ⟨1, 1⟩
def Fld.HS_ERR.GEOMETRY : Fld := ⟨2, 1⟩
def Fld.HS_ERR.ALL_PINNED : Fld := ⟨3, 1⟩
def Fld.HS_ERR.STRAY_WB : Fld := ⟨4, 1⟩
def Fld.HS_ERR.OWNER_LOST : Fld := ⟨5, 1⟩
def Fld.HS_ERR.BAD_OP : Fld := ⟨6, 1⟩
def Fld.HS_ERR.MEM_WR_ERR : Fld := ⟨7, 1⟩
def Fld.HS_DIR_CE_CNT.COUNT : Fld := ⟨0, 32⟩
def Fld.HS_FSEL.FLACON : Fld := ⟨0, 5⟩
def Fld.HS_FDIR.SET_BASE : Fld := ⟨0, 18⟩
def Fld.HS_FDIR.SETS : Fld := ⟨32, 18⟩
def Fld.HS_FDIR.IN_MASK : Fld := ⟨50, 1⟩
def Fld.HS_FDIR.GEOM_OK : Fld := ⟨51, 1⟩
def Fld.HS_FOCC.VALID : Fld := ⟨0, 22⟩
def Fld.HS_QUERY_ADDR.ADDR : Fld := ⟨0, 52⟩
def Fld.HS_QUERY_ADDR.GO : Fld := ⟨63, 1⟩
def Fld.HS_QUERY_RESULT.DONE : Fld := ⟨0, 1⟩
def Fld.HS_QUERY_RESULT.HIT : Fld := ⟨1, 1⟩
def Fld.HS_QUERY_RESULT.WRONG_SLICE : Fld := ⟨2, 1⟩
def Fld.HS_QUERY_RESULT.PINNED : Fld := ⟨3, 1⟩
def Fld.HS_QUERY_RESULT.STATE : Fld := ⟨4, 4⟩
def Fld.HS_QUERY_RESULT.WAY : Fld := ⟨8, 4⟩
def Fld.HS_QUERY_RESULT.HOT : Fld := ⟨12, 1⟩
def Fld.HS_QUERY_RESULT.WRITE_PEND : Fld := ⟨13, 1⟩
def Fld.HS_QUERY_RESULT.SET : Fld := ⟨14, 18⟩
def Fld.HS_QUERY_RESULT.TAG : Fld := ⟨32, 28⟩
def Fld.HS_QUERY_RESULT.NOT_SHARED : Fld := ⟨60, 1⟩
def Fld.HS_QUERY_RESULT.NO_GEOMETRY : Fld := ⟨61, 1⟩
def Fld.HS_QUERY_SHARERS.SHARERS : Fld := ⟨0, 56⟩
def Fld.HS_SEEN.SEEN : Fld := ⟨0, 32⟩
def Fld.HS_TN_CTL.EN : Fld := ⟨0, 1⟩
def Fld.HS_TN_POLICER.TOKENS : Fld := ⟨0, 12⟩
def Fld.HS_TN_POLICER.RATE : Fld := ⟨16, 8⟩
def Fld.HS_TN_POLICER.BURST : Fld := ⟨32, 12⟩
def Fld.HS_TN_POLICER.TN_EN : Fld := ⟨44, 1⟩
def Fld.HS_TN_CNT.ISSUED : Fld := ⟨0, 32⟩
def Fld.HS_TN_CNT.DENIED : Fld := ⟨32, 32⟩
def Fld.HS_TN_OUT.TENT_SENT : Fld := ⟨0, 32⟩
def Fld.HS_TN_OUT.CANCEL_SENT : Fld := ⟨32, 32⟩
def Fld.HS_TN_HOME.HELD_HOME : Fld := ⟨0, 32⟩
def Fld.HS_TN_PEND.PEND : Fld := ⟨0, 11⟩
def Fld.PT_TN_GATE.HELD : Fld := ⟨0, 13⟩
def Fld.PT_TN_GATE.OTHER : Fld := ⟨16, 13⟩
def Fld.PT_TN_CNT.CONFIRMED : Fld := ⟨0, 32⟩
def Fld.PT_TN_CNT.CANCELLED : Fld := ⟨32, 32⟩
def Fld.PT_TN_WAIT.MAX_HOLD : Fld := ⟨0, 32⟩
def Fld.PT_TN_ERR.MISMATCH : Fld := ⟨0, 1⟩
def Fld.PT_TN_ERR.CANCELLED_ERR : Fld := ⟨1, 1⟩
def Fld.PT_TN_ERR.CANCELLED_ERR_CNT : Fld := ⟨16, 16⟩
def Fld.FL_TN.CONFIRMED : Fld := ⟨0, 32⟩
def Fld.FL_TN.CANCELLED : Fld := ⟨32, 32⟩
def Fld.EF_ID.FLACON : Fld := ⟨0, 5⟩
def Fld.EF_ID.PORT : Fld := ⟨5, 7⟩
def Fld.EF_ID.SLOTS : Fld := ⟨12, 7⟩
def Fld.EF_ID.WATCH_OK : Fld := ⟨19, 1⟩
def Fld.EF_ID.DURABILITY : Fld := ⟨20, 2⟩
def Fld.EF_ID.WINDOWS : Fld := ⟨22, 11⟩
def Fld.EF_RES.TRACKERS_FREE : Fld := ⟨0, 14⟩
def Fld.EF_RES.STAGE_FREE : Fld := ⟨16, 22⟩
def Fld.EF_RES.RESERVE_FREE : Fld := ⟨38, 22⟩
def Fld.EF_DONE.DONE : Fld := ⟨0, 64⟩
def Fld.EF_DB.OP : Fld := ⟨0, 4⟩
def Fld.EF_DB.WATCH : Fld := ⟨4, 1⟩
def Fld.EF_DB.NOTIFY : Fld := ⟨5, 1⟩
def Fld.EF_DB.WINDOW : Fld := ⟨16, 10⟩
def Fld.EF_DB.COOKIE : Fld := ⟨32, 32⟩
def Fld.EF_SLOT.STATE : Fld := ⟨0, 4⟩
def Fld.EF_SLOT.CODE : Fld := ⟨4, 8⟩
def Fld.EF_SLOT.LINES : Fld := ⟨12, 13⟩
def Fld.EF_SLOT.WATCH : Fld := ⟨25, 1⟩
def Fld.EF_SLOT.DB_ERR : Fld := ⟨26, 1⟩
def Fld.EF_SLOT.STRAY : Fld := ⟨27, 1⟩
def Fld.EF_SLOT.COOKIE : Fld := ⟨32, 32⟩
def Fld.EF_SEQ.SEQ : Fld := ⟨0, 64⟩
def Fld.EF_ABORT.ADDR : Fld := ⟨0, 52⟩
def Fld.AC_CTL.EN : Fld := ⟨0, 1⟩
def Fld.AC_CTL.PREP_LIMIT : Fld := ⟨1, 8⟩
def Fld.AC_STATUS.OPEN : Fld := ⟨0, 14⟩
def Fld.AC_STATUS.STAGED : Fld := ⟨14, 22⟩
def Fld.AC_STATUS.UNWRITTEN : Fld := ⟨36, 22⟩
def Fld.AC_SEQ.SEQ : Fld := ⟨0, 64⟩
def Fld.AC_CNT.COMMITS : Fld := ⟨0, 32⟩
def Fld.AC_CNT.ABORTS : Fld := ⟨32, 32⟩
def Fld.AC_ERR.STAGE_UE : Fld := ⟨0, 1⟩
def Fld.AC_ERR.PREP_TIMEOUT : Fld := ⟨1, 1⟩
def Fld.AC_ERR.REPLAY_ERR : Fld := ⟨2, 1⟩
def Fld.AC_ERR.D0_LOST : Fld := ⟨3, 1⟩
def Fld.AC_REVIVE.LINES : Fld := ⟨0, 32⟩
def Fld.AC_REVIVE.RECORDS : Fld := ⟨32, 32⟩
def Fld.AC_ABORT_CNT.COUNT : Fld := ⟨0, 32⟩
def Fld.FL_AC_USE.TRACKERS : Fld := ⟨0, 14⟩
def Fld.FL_AC_USE.STAGED : Fld := ⟨14, 22⟩
def Fld.FL_AC_USE.RESERVE : Fld := ⟨36, 22⟩
def Fld.FL_AC_CNT.COMMITS : Fld := ⟨0, 32⟩
def Fld.FL_AC_CNT.ABORTS : Fld := ⟨32, 32⟩
def Fld.FL_AC_SEALED.SEQ : Fld := ⟨0, 64⟩
def Fld.HS_AC.MARKS : Fld := ⟨0, 16⟩
def Fld.HS_AC.FMARKS : Fld := ⟨16, 16⟩
def Fld.HS_AC.PLAIN_ABORTS : Fld := ⟨32, 16⟩
def Fld.HS_AC.PIN_WAITS : Fld := ⟨48, 16⟩
def Fld.FL_CFG.TOPNOTE_EN : Fld := ⟨0, 1⟩
def Fld.FL_CFG.WATCH_EN : Fld := ⟨1, 1⟩
def Fld.FL_CFG.P1_ALLOWED : Fld := ⟨2, 1⟩
def Fld.FL_CFG.DURABILITY : Fld := ⟨3, 2⟩
def Fld.FL_CFG.SERVICE_MAP : Fld := ⟨16, 16⟩
def Fld.FL_STATUS.CONFIGURED : Fld := ⟨0, 1⟩
def Fld.FL_STATUS.FENCED : Fld := ⟨1, 1⟩
def Fld.FL_STATUS.UNFENCING : Fld := ⟨2, 1⟩
def Fld.FL_STATUS.AFFECTED : Fld := ⟨3, 1⟩
def Fld.FL_STATUS.FENCE_SOURCE : Fld := ⟨16, 11⟩
def Fld.FL_EPOCH.EPOCH : Fld := ⟨0, 32⟩
def Fld.FL_EPOCH_DRAIN.TARGET : Fld := ⟨0, 32⟩
def Fld.FL_EPOCH_DRAIN.DONE : Fld := ⟨32, 1⟩
def Fld.FL_EPOCH_DRAIN.EPOCHS : Fld := ⟨33, 4⟩
def Fld.FL_EPOCH_OLDEST.OLDEST : Fld := ⟨0, 32⟩
def Fld.FL_REGIONS.COUNT : Fld := ⟨0, 17⟩
def Fld.FL_REGIONS.QUOTA : Fld := ⟨32, 17⟩
def Fld.FL_VIOL.WORD : Fld := ⟨0, 64⟩
def Fld.FL_VIOL_CTL.VALID : Fld := ⟨0, 1⟩
def Fld.FL_VIOL_CNT.REPORTS : Fld := ⟨0, 32⟩
def Fld.FL_VIOL_CNT.UNLATCHED : Fld := ⟨32, 32⟩
def Fld.FL_FERR.WORD : Fld := ⟨0, 64⟩
def Fld.FL_FERR_CTL.VALID : Fld := ⟨0, 1⟩
def Fld.FL_FERR_CTL.MORE : Fld := ⟨1, 1⟩
def Fld.FL_FERR_CNT.COUNT : Fld := ⟨0, 32⟩
def Fld.TL_RCACHE.HITS : Fld := ⟨0, 32⟩
def Fld.TL_RCACHE.MISSES : Fld := ⟨32, 32⟩
def Fld.TL_RCACHE_ERR.PARITY : Fld := ⟨0, 16⟩
def Fld.TL_RCACHE_ERR.RESTARTS : Fld := ⟨16, 16⟩
def Fld.LN_CTL.DISABLE : Fld := ⟨0, 1⟩
def Fld.LN_CTL.RETRAIN : Fld := ⟨1, 1⟩
def Fld.LN_CTL.RETUNE : Fld := ⟨2, 1⟩
def Fld.LN_CTL.MON_EN : Fld := ⟨3, 1⟩
def Fld.LN_CTL.TEMP_TRIG_EN : Fld := ⟨4, 1⟩
def Fld.LN_CTL.LOAD_TRIG_EN : Fld := ⟨5, 1⟩
def Fld.LN_STATUS.STAGE : Fld := ⟨0, 4⟩
def Fld.LN_STATUS.RATE : Fld := ⟨4, 3⟩
def Fld.LN_STATUS.CDR_LOCK : Fld := ⟨7, 1⟩
def Fld.LN_STATUS.CW_LOCK : Fld := ⟨8, 1⟩
def Fld.LN_STATUS.BLOCK_LOCK : Fld := ⟨9, 1⟩
def Fld.LN_STATUS.RX_INV : Fld := ⟨10, 1⟩
def Fld.LN_STATUS.SPARE : Fld := ⟨11, 1⟩
def Fld.LN_STATUS.PORT_LANE : Fld := ⟨12, 4⟩
def Fld.LN_TRAIN.ATTEMPTS : Fld := ⟨0, 16⟩
def Fld.LN_TRAIN.FAIL_STAGE : Fld := ⟨16, 3⟩
def Fld.LN_TXFIR.CM2 : Fld := ⟨0, 8⟩
def Fld.LN_TXFIR.CM1 : Fld := ⟨8, 8⟩
def Fld.LN_TXFIR.C0 : Fld := ⟨16, 8⟩
def Fld.LN_TXFIR.CP1 : Fld := ⟨24, 8⟩
def Fld.LN_ADAPT_STAMP.TJ : Fld := ⟨0, 16⟩
def Fld.LN_ADAPT_STAMP.LOAD : Fld := ⟨16, 8⟩
def Fld.LN_ADAPT_STAMP.CAUSE : Fld := ⟨24, 4⟩
def Fld.LN_ADAPT_STAMP.TJ_SRC : Fld := ⟨28, 1⟩
def Fld.LN_ADAPT_TIME.TIME : Fld := ⟨0, 64⟩
def Fld.LN_MARGIN.V_MV : Fld := ⟨0, 8⟩
def Fld.LN_MARGIN.H : Fld := ⟨8, 6⟩
def Fld.LN_MARGIN.VALID : Fld := ⟨14, 1⟩
def Fld.LN_MARGIN.LOW : Fld := ⟨15, 1⟩
def Fld.LN_MARGIN_MIN.V_MIN : Fld := ⟨0, 8⟩
def Fld.LN_MARGIN_MIN.H_MIN : Fld := ⟨8, 6⟩
def Fld.LN_MARGIN_MIN.MON_INT : Fld := ⟨16, 8⟩
def Fld.LN_MARGIN_MIN.LOAD_DELTA : Fld := ⟨24, 8⟩
def Fld.LN_RETUNE.L1 : Fld := ⟨0, 16⟩
def Fld.LN_RETUNE.L2 : Fld := ⟨16, 16⟩
def Fld.LN_RETUNE.L3 : Fld := ⟨32, 16⟩
def Fld.LN_RETUNE.LAST_CAUSE : Fld := ⟨48, 4⟩
def Fld.LN_RETUNE.ACTIVE : Fld := ⟨52, 1⟩
def Fld.LN_RETUNE.PENDING : Fld := ⟨53, 1⟩
def Fld.LN_FEC.CORRECTED : Fld := ⟨0, 32⟩
def Fld.LN_FEC.UNCORRECTED : Fld := ⟨32, 32⟩
def Fld.LN_FEC_SYM.SYMBOLS : Fld := ⟨0, 32⟩
def Fld.LN_ERR.TRAIN_FAIL : Fld := ⟨0, 1⟩
def Fld.LN_ERR.LANE_FAIL : Fld := ⟨1, 1⟩
def Fld.LN_ERR.FEC_UE : Fld := ⟨2, 1⟩
def Fld.LN_ERR.MARGIN_LOW : Fld := ⟨3, 1⟩
def Fld.LN_ERR.RETUNE_FAIL : Fld := ⟨4, 1⟩
def Fld.LN_ERR.PARTNER : Fld := ⟨5, 1⟩
def Fld.LN_PARTNER.IDENTITY : Fld := ⟨0, 64⟩
def Fld.LN_PARTNER_INFO.SWITCH_ID : Fld := ⟨0, 10⟩
def Fld.LN_PARTNER_INFO.PORT : Fld := ⟨10, 7⟩
def Fld.LN_PARTNER_INFO.LANE : Fld := ⟨17, 4⟩
def Fld.LN_PARTNER_INFO.FLOCET : Fld := ⟨21, 1⟩
def Fld.LN_PRBS_CTL.GEN_EN : Fld := ⟨0, 1⟩
def Fld.LN_PRBS_CTL.GEN_PAT : Fld := ⟨1, 3⟩
def Fld.LN_PRBS_CTL.CHK_EN : Fld := ⟨4, 1⟩
def Fld.LN_PRBS_CTL.CHK_PAT : Fld := ⟨5, 3⟩
def Fld.LN_PRBS_CTL.INVERT : Fld := ⟨8, 1⟩
def Fld.LN_PRBS_CTL.LOOPBACK : Fld := ⟨9, 2⟩
def Fld.LN_PRBS_CTL.NEAR_TX : Fld := ⟨11, 1⟩
def Fld.LN_PRBS_CTL.REFUSED : Fld := ⟨12, 1⟩
def Fld.LN_PRBS_INJ.INJECT : Fld := ⟨0, 1⟩
def Fld.LN_PRBS_INJ.BURST : Fld := ⟨1, 1⟩
def Fld.LN_PRBS_INJ.BURST_LEN : Fld := ⟨2, 8⟩
def Fld.LN_PRBS_INJ.RATE_EXP : Fld := ⟨10, 6⟩
def Fld.LN_PRBS_INJ.TARGET : Fld := ⟨16, 1⟩
def Fld.LN_PRBS_INJ.REFUSED : Fld := ⟨17, 1⟩
def Fld.LN_PRBS_STATUS.CHK_LOCK : Fld := ⟨0, 1⟩
def Fld.LN_PRBS_STATUS.LOCK_LOSS : Fld := ⟨16, 16⟩
def Fld.LN_PRBS_BITS.BITS : Fld := ⟨0, 64⟩
def Fld.LN_PRBS_ERRS.ERRORS : Fld := ⟨0, 64⟩
def Fld.LN_TEST_CFG.EN : Fld := ⟨0, 1⟩
def Fld.LN_TEST_CFG.RATE : Fld := ⟨1, 3⟩
def Fld.LN_TEST_CFG.ADAPT : Fld := ⟨4, 1⟩
def Fld.LN_TEST_CFG.PRESET : Fld := ⟨5, 2⟩
def Fld.LN_TEST_CFG.STD_PRESET : Fld := ⟨7, 4⟩
def Fld.LN_TEST_CFG.TX_INV : Fld := ⟨11, 1⟩
def Fld.LN_TEST_CFG.RX_INV : Fld := ⟨12, 1⟩
def Fld.PT_LL_CFG.CABLE_M : Fld := ⟨0, 8⟩
def Fld.PT_LL_CFG.LINGER_MS : Fld := ⟨8, 7⟩
def Fld.PT_LL_CFG.ANCHORED : Fld := ⟨15, 1⟩
def Fld.PT_LL_CFG.SPARING : Fld := ⟨16, 1⟩
def Fld.PT_LL_CFG.DATELINE : Fld := ⟨17, 1⟩
def Fld.PT_LL_CFG.LINGER_CAP : Fld := ⟨32, 17⟩
def Fld.PT_LL_CTL.RESTART : Fld := ⟨0, 1⟩
def Fld.PT_LL_CTL.NO_RESUME : Fld := ⟨1, 1⟩
def Fld.PT_LL_STATUS.STATE : Fld := ⟨0, 3⟩
def Fld.PT_LL_STATUS.FLOCET : Fld := ⟨3, 1⟩
def Fld.PT_LL_STATUS.TX_LANES : Fld := ⟨4, 5⟩
def Fld.PT_LL_STATUS.RX_LANES : Fld := ⟨9, 5⟩
def Fld.PT_LL_STATUS.MAP_ID : Fld := ⟨14, 2⟩
def Fld.PT_LL_STATUS.SPARE_USED : Fld := ⟨16, 2⟩
def Fld.PT_LL_STATUS.PACED : Fld := ⟨18, 1⟩
def Fld.PT_LL_STATUS.PARTNER_TENT_OK : Fld := ⟨19, 1⟩
def Fld.PT_LL_STATUS.RTT_NS : Fld := ⟨32, 16⟩
def Fld.PT_LL_STATUS.HEADROOM : Fld := ⟨48, 16⟩
def Fld.PT_LL_SEQ.TX_NEXT : Fld := ⟨0, 12⟩
def Fld.PT_LL_SEQ.TX_ACKED : Fld := ⟨12, 12⟩
def Fld.PT_LL_SEQ.RX_NEXT : Fld := ⟨24, 12⟩
def Fld.PT_LL_SEQ.STORED : Fld := ⟨36, 9⟩
def Fld.PT_LL_CRSEL.SUBCH : Fld := ⟨0, 5⟩
def Fld.PT_LL_CREDIT.TX_AVAIL : Fld := ⟨0, 7⟩
def Fld.PT_LL_CREDIT.TX_XOFF : Fld := ⟨7, 1⟩
def Fld.PT_LL_CREDIT.RX_HELD : Fld := ⟨8, 7⟩
def Fld.PT_LL_CREDIT.RX_XOFF : Fld := ⟨15, 1⟩
def Fld.PT_LL_CREDIT.RX_POOL : Fld := ⟨16, 13⟩
def Fld.PT_LL_POOL.SIZE : Fld := ⟨0, 13⟩
def Fld.PT_LL_POOL.USED : Fld := ⟨16, 13⟩
def Fld.PT_LL_REPLAY.NAKS : Fld := ⟨0, 32⟩
def Fld.PT_LL_REPLAY.FLITS : Fld := ⟨32, 32⟩
def Fld.PT_LL_OTAG.OUT : Fld := ⟨0, 13⟩
def Fld.PT_LL_OTAG.DROPPED : Fld := ⟨16, 13⟩
def Fld.PT_LL_EVENTS.RESTARTS : Fld := ⟨0, 16⟩
def Fld.PT_LL_EVENTS.RESUMES : Fld := ⟨16, 16⟩
def Fld.PT_LL_EVENTS.FLUSHES : Fld := ⟨32, 16⟩
def Fld.PT_LL_EVENTS.STALE : Fld := ⟨48, 16⟩
def Fld.PT_LL_LINGER.HELD : Fld := ⟨0, 17⟩
def Fld.PT_LL_LINGER.CAP_REFUSED : Fld := ⟨32, 32⟩
def Fld.PT_LL_ERR.CREDIT : Fld := ⟨0, 1⟩
def Fld.PT_LL_ERR.POOL : Fld := ⟨1, 1⟩
def Fld.PT_LL_ERR.REPLAY : Fld := ⟨2, 1⟩
def Fld.PT_LL_ERR.MODE : Fld := ⟨3, 1⟩
def Fld.PT_LL_ERR.SPARE : Fld := ⟨4, 1⟩
def Fld.PT_LL_ERR.WIDTH : Fld := ⟨5, 1⟩
def Fld.PT_LL_ERR.DOWN : Fld := ⟨6, 1⟩
def Fld.PT_LL_ERR.FLUSH : Fld := ⟨7, 1⟩
def Fld.PT_STD_STATUS.LTSSM : Fld := ⟨0, 4⟩
def Fld.PT_STD_STATUS.RATE : Fld := ⟨4, 3⟩
def Fld.PT_STD_STATUS.WIDTH : Fld := ⟨7, 5⟩
def Fld.PT_STD_STATUS.FLIT : Fld := ⟨12, 2⟩
def Fld.PT_STD_STATUS.PBR : Fld := ⟨14, 1⟩
def Fld.PT_STD_STATUS.DL_UP : Fld := ⟨15, 1⟩
def Fld.PT_STD_STATUS.IDE : Fld := ⟨16, 2⟩
def Fld.PT_STD_STATUS.VIRAL_TX : Fld := ⟨18, 1⟩
def Fld.PT_STD_STATUS.VIRAL_RX : Fld := ⟨19, 1⟩
def Fld.PT_STD_STATUS.HDM_COMMITTED : Fld := ⟨20, 1⟩
def Fld.PT_STD_STATUS.LINGER : Fld := ⟨21, 1⟩
def Fld.PT_STD_STATUS.WALK : Fld := ⟨22, 1⟩
def Fld.PT_STD_STATUS.DSN_VALID : Fld := ⟨23, 1⟩
def Fld.PT_STD_STATUS.HDM_SHORT : Fld := ⟨24, 1⟩
def Fld.PT_STD_PARTNER.DSN : Fld := ⟨0, 64⟩
def Fld.PT_STD_HDM.BASE : Fld := ⟨0, 52⟩
def Fld.PT_STD_SPAN.LOW : Fld := ⟨0, 24⟩
def Fld.PT_STD_SPAN.HIGH : Fld := ⟨24, 24⟩
def Fld.PT_STD_OREC.OUT : Fld := ⟨0, 13⟩
def Fld.PT_STD_EVENTS.DOWNS : Fld := ⟨0, 16⟩
def Fld.PT_STD_EVENTS.RECOVERIES : Fld := ⟨16, 16⟩
def Fld.PT_STD_EVENTS.RESUMES : Fld := ⟨32, 16⟩
def Fld.PT_STD_EVENTS.DROP_CPL : Fld := ⟨48, 16⟩
def Fld.PT_STD_POISON.IN : Fld := ⟨0, 32⟩
def Fld.PT_STD_POISON.OUT : Fld := ⟨32, 32⟩
def Fld.PT_STD_ERR.LINK_DOWN : Fld := ⟨0, 1⟩
def Fld.PT_STD_ERR.LINGER_FLUSH : Fld := ⟨1, 1⟩
def Fld.PT_STD_ERR.IDE_FAIL : Fld := ⟨2, 1⟩
def Fld.PT_STD_ERR.VIRAL_IN : Fld := ⟨3, 1⟩
def Fld.PT_STD_ERR.POISON_IN : Fld := ⟨4, 1⟩
def Fld.PT_STD_ERR.GPF_TIMEOUT : Fld := ⟨5, 1⟩
def Fld.PT_STD_ERR.PBR_RANGE : Fld := ⟨6, 1⟩
def Fld.PT_STD_ERR.CACHE_LIMIT : Fld := ⟨7, 1⟩
def Fld.PT_STD_ERR.HDM_UNCOMMITTED : Fld := ⟨8, 1⟩
def Fld.PT_HP_STATUS.STATE : Fld := ⟨0, 4⟩
def Fld.PT_HP_STATUS.PRSNT : Fld := ⟨4, 1⟩
def Fld.PT_HP_STATUS.PERST : Fld := ⟨5, 1⟩
def Fld.PT_HP_STATUS.CLK_ON : Fld := ⟨6, 1⟩
def Fld.PT_HP_STATUS.PG : Fld := ⟨7, 1⟩
def Fld.PT_HP_STATUS.SLOT : Fld := ⟨8, 5⟩
def Fld.PT_HP_EVENTS.PRSNT_CHG : Fld := ⟨0, 1⟩
def Fld.PT_HP_EVENTS.ATTN : Fld := ⟨1, 1⟩
def Fld.PT_HP_EVENTS.SURPRISE : Fld := ⟨2, 1⟩
def Fld.PT_HP_EVENTS.PWR_FAULT : Fld := ⟨3, 1⟩
def Fld.PT_HP_EVENTS.ENUM_FAIL : Fld := ⟨4, 1⟩
def Fld.PT_HP_EVENTS.REFUSED : Fld := ⟨5, 1⟩
def Fld.PT_HP_CNT.INSERTS : Fld := ⟨0, 16⟩
def Fld.PT_HP_CNT.REMOVALS : Fld := ⟨16, 16⟩
def Fld.PT_HP_CNT.SURPRISES : Fld := ⟨32, 16⟩
def Fld.PT_HP_CNT.REFUSALS : Fld := ⟨48, 16⟩
def Fld.DC_CTL.EN : Fld := ⟨0, 1⟩
def Fld.DC_CTL.FLIP_LIMIT : Fld := ⟨1, 7⟩
def Fld.DC_STATUS.RUNNING : Fld := ⟨0, 8⟩
def Fld.DC_JOB_CFG.SRC : Fld := ⟨0, 12⟩
def Fld.DC_JOB_CFG.TGT : Fld := ⟨16, 12⟩
def Fld.DC_JOB_CFG.FLACON : Fld := ⟨32, 5⟩
def Fld.DC_JOB_CFG.RATE_MBPS : Fld := ⟨40, 16⟩
def Fld.DC_JOB_STATE.STATE : Fld := ⟨0, 3⟩
def Fld.DC_JOB_STATE.CAUSE : Fld := ⟨4, 4⟩
def Fld.DC_JOB_STATE.FLIP_TRIES : Fld := ⟨8, 2⟩
def Fld.DC_JOB_STATE.IN_FLIGHT : Fld := ⟨10, 9⟩
def Fld.DC_JOB_PTR.COPIED : Fld := ⟨0, 40⟩
def Fld.DC_JOB_CNT.RECOPIES : Fld := ⟨0, 24⟩
def Fld.DC_JOB_CNT.POISON : Fld := ⟨24, 8⟩
def Fld.DC_JOB_CNT.MIRRORED : Fld := ⟨32, 32⟩
def Fld.PC_BUS.VBUS_MV : Fld := ⟨0, 16⟩
def Fld.PC_BUS.FEED_A_MV : Fld := ⟨16, 16⟩
def Fld.PC_BUS.FEED_B_MV : Fld := ⟨32, 16⟩
def Fld.PC_BUS.VAUX_MV : Fld := ⟨48, 16⟩
def Fld.PC_FEED.A_PRESENT : Fld := ⟨0, 1⟩
def Fld.PC_FEED.A_CONDUCT : Fld := ⟨1, 1⟩
def Fld.PC_FEED.A_BLOCKED : Fld := ⟨2, 1⟩
def Fld.PC_FEED.B_PRESENT : Fld := ⟨3, 1⟩
def Fld.PC_FEED.B_CONDUCT : Fld := ⟨4, 1⟩
def Fld.PC_FEED.B_BLOCKED : Fld := ⟨5, 1⟩
def Fld.PC_FEED.PUMP_OK : Fld := ⟨6, 1⟩
def Fld.PC_SUPV.PWRWARN_MV : Fld := ⟨0, 16⟩
def Fld.PC_SUPV.RESET_MV : Fld := ⟨16, 16⟩
def Fld.PC_SUPV.RIDE_US : Fld := ⟨32, 11⟩
def Fld.PC_SUPV_STATUS.WARN : Fld := ⟨0, 1⟩
def Fld.PC_SUPV_STATUS.RIDING : Fld := ⟨1, 1⟩
def Fld.PC_SUPV_STATUS.BELOW_RESET : Fld := ⟨2, 1⟩
def Fld.PC_SUPV_STATUS.PWRFAIL : Fld := ⟨3, 1⟩
def Fld.PC_SUPV_STATUS.POWER_GOOD : Fld := ⟨4, 1⟩
def Fld.PC_EVENTS.DIP : Fld := ⟨0, 1⟩
def Fld.PC_EVENTS.DRYDOWN : Fld := ⟨1, 1⟩
def Fld.PC_EVENTS.WARN_IGNORED : Fld := ⟨2, 1⟩
def Fld.PC_EVENTS.BUS_RESET : Fld := ⟨3, 1⟩
def Fld.PC_EVENTS.FEED_A_LOST : Fld := ⟨4, 1⟩
def Fld.PC_EVENTS.FEED_B_LOST : Fld := ⟨5, 1⟩
def Fld.PC_EVENTS.FEED_REVERSE : Fld := ⟨6, 1⟩
def Fld.PC_EVENTS.FEED_FET : Fld := ⟨7, 1⟩
def Fld.PC_EVENTS.VAUX_LOW : Fld := ⟨8, 1⟩
def Fld.PC_DIP.MIN_MV : Fld := ⟨0, 16⟩
def Fld.PC_DIP.LEN_US : Fld := ⟨16, 16⟩
def Fld.PC_DIP.COUNT : Fld := ⟨32, 32⟩
def Fld.PC_RAIL.GOOD : Fld := ⟨0, 6⟩
def Fld.PC_RAIL.VAUX_GOOD : Fld := ⟨6, 1⟩
def Fld.PC_RAIL.KEEP_ON_VAUX : Fld := ⟨7, 1⟩
def Fld.PC_RAIL.FAULT : Fld := ⟨8, 6⟩
def Fld.SPC_CFG.RAMP_MV_MS : Fld := ⟨0, 14⟩
def Fld.SPC_CFG.EXT_DIODE : Fld := ⟨14, 1⟩
def Fld.SPC_CFG.AUTO_ON : Fld := ⟨15, 1⟩
def Fld.SPC_CFG.LIMIT_MAX_MA : Fld := ⟨16, 13⟩
def Fld.SPC_CFG.RETRIES : Fld := ⟨29, 3⟩
def Fld.SPC_CFG.FAULT_US : Fld := ⟨32, 15⟩
def Fld.SPC_CFG.PG_QUAL_US : Fld := ⟨48, 14⟩
def Fld.SPC_CFG.VOUT_12V : Fld := ⟨62, 1⟩
def Fld.SPC_CFG.VALID : Fld := ⟨63, 1⟩
def Fld.SPC_CFG2.SHUNT_UOHM : Fld := ⟨0, 15⟩
def Fld.SPC_CFG2.FET_RTH : Fld := ⟨16, 16⟩
def Fld.SPC_CFG2.FET_CTH : Fld := ⟨32, 16⟩
def Fld.SPC_CFG2.FET_TMAX : Fld := ⟨48, 8⟩
def Fld.SPC_LIMIT.LIMIT_MA : Fld := ⟨0, 13⟩
def Fld.SPC_STATE.STATE : Fld := ⟨0, 3⟩
def Fld.SPC_STATE.IN_LIMIT : Fld := ⟨3, 1⟩
def Fld.SPC_STATE.PG : Fld := ⟨4, 1⟩
def Fld.SPC_STATE.RETRIES_LEFT : Fld := ⟨5, 3⟩
def Fld.SPC_STATE.LAST_TRIP : Fld := ⟨8, 3⟩
def Fld.SPC_STATE.ZEROING : Fld := ⟨11, 1⟩
def Fld.SPC_STATE.ZERO_DUE : Fld := ⟨12, 1⟩
def Fld.SPC_MEAS.IOUT_MA : Fld := ⟨0, 16⟩
def Fld.SPC_MEAS.VOUT_MV : Fld := ⟨16, 16⟩
def Fld.SPC_MEAS.T_MODEL : Fld := ⟨32, 16⟩
def Fld.SPC_MEAS.T_DIODE : Fld := ⟨48, 16⟩
def Fld.SPC_TIMER.FAULT_ELAPSED : Fld := ⟨0, 16⟩
def Fld.SPC_TIMER.COOL_ELAPSED : Fld := ⟨16, 16⟩
def Fld.SPC_ZERO.OFFSET : Fld := ⟨0, 16⟩
def Fld.SPC_ZERO.T_ZERO : Fld := ⟨16, 16⟩
def Fld.SPC_CNT.TIMER_TRIPS : Fld := ⟨0, 16⟩
def Fld.SPC_CNT.THERMAL_TRIPS : Fld := ⟨16, 16⟩
def Fld.SPC_CNT.HARD_TRIPS : Fld := ⟨32, 16⟩
def Fld.SPC_CNT.RAMPS : Fld := ⟨48, 16⟩
def Fld.SPC_ERR.TRIP : Fld := ⟨0, 1⟩
def Fld.SPC_ERR.LATCHED : Fld := ⟨1, 1⟩
def Fld.SPC_ERR.CFG : Fld := ⟨2, 1⟩
def Fld.SPC_ERR.DIODE : Fld := ⟨3, 1⟩
def Fld.KS_DRAIN_STATUS.PHASE : Fld := ⟨0, 3⟩
def Fld.KS_DRAIN_STATUS.CUT_B : Fld := ⟨3, 1⟩
def Fld.KS_DRAIN_STATUS.CUT_C : Fld := ⟨4, 1⟩
def Fld.KS_DRAIN_STATUS.CUT_E : Fld := ⟨5, 1⟩
def Fld.KS_DRAIN_STATUS.DRY : Fld := ⟨6, 1⟩
def Fld.KS_DRAIN_STATUS.TAINT : Fld := ⟨7, 1⟩
def Fld.KS_DRAIN_STATUS.RESET_IGNORED : Fld := ⟨8, 1⟩
def Fld.KS_DRAIN_TIME.B_END : Fld := ⟨0, 16⟩
def Fld.KS_DRAIN_TIME.C_END : Fld := ⟨16, 16⟩
def Fld.KS_DRAIN_TIME.E_END : Fld := ⟨32, 16⟩
def Fld.KS_DRAIN_TIME.F_END : Fld := ⟨48, 16⟩
def Fld.KS_DRAIN_CNT.WRITTEN : Fld := ⟨0, 22⟩
def Fld.KS_DRAIN_CNT.RETAINED : Fld := ⟨22, 22⟩
def Fld.KS_DRAIN_CNT.D0_DROPPED : Fld := ⟨44, 20⟩
def Fld.KS_DRAIN_CUT.REQUESTS : Fld := ⟨0, 16⟩
def Fld.KS_DRAIN_CUT.GPF_TIMEOUTS : Fld := ⟨16, 8⟩
def Fld.KS_RETAIN_STATUS.REFRESH_MULT : Fld := ⟨0, 2⟩
def Fld.KS_RETAIN_STATUS.OVERTEMP : Fld := ⟨2, 1⟩
def Fld.KS_RETAIN_STATUS.MAX_TJ : Fld := ⟨16, 16⟩
def Fld.KS_RETAIN_STATUS.SECONDS : Fld := ⟨32, 32⟩
def Fld.KS_REVIVE_STATUS.PHASE : Fld := ⟨0, 3⟩
def Fld.KS_REVIVE_STATUS.DRY : Fld := ⟨3, 1⟩
def Fld.KS_REVIVE_STATUS.QUARANTINED : Fld := ⟨4, 1⟩
def Fld.KS_REVIVE_STATUS.DEVICE_MS : Fld := ⟨32, 16⟩
def Fld.KS_REVIVE_STATUS.TOTAL_MS : Fld := ⟨48, 16⟩
def Fld.KS_REVIVE_CFG.PORT_WAIT_MS : Fld := ⟨0, 14⟩
def Fld.KS_LOSS.LOST : Fld := ⟨0, 1⟩
def Fld.KS_LOSS.AO_FRESH : Fld := ⟨1, 1⟩
def Fld.KS_LOSS.CAUSE : Fld := ⟨2, 4⟩
def Fld.KS_LOSS.FLACONS : Fld := ⟨32, 32⟩
def Fld.KS_LOSS_CNT.RECORDS : Fld := ⟨0, 32⟩
def Fld.KS_LOSS_CNT.LINES : Fld := ⟨32, 32⟩
def Fld.KS_LOSS_SEQ.SEQ : Fld := ⟨0, 64⟩
def Fld.FC_PIN_LEVEL.LEVEL : Fld := ⟨0, 2⟩
def Fld.FC_PIN_LEVEL.ALERT_LEVEL : Fld := ⟨4, 2⟩
def Fld.FC_SUMMARY.PEND_S0 : Fld := ⟨0, 11⟩
def Fld.FC_SUMMARY.PEND_S1 : Fld := ⟨16, 11⟩
def Fld.FC_SUMMARY.PEND_S2 : Fld := ⟨32, 11⟩
def Fld.FC_SUMMARY.PEND_S3 : Fld := ⟨48, 11⟩
def Fld.FC_SUMMARY.QUARANTINE : Fld := ⟨59, 1⟩
def Fld.FC_SUMMARY.FAULT : Fld := ⟨60, 1⟩
def Fld.FC_SUMMARY.ALERT : Fld := ⟨61, 1⟩
def Fld.FC_ALERT.PENDING : Fld := ⟨0, 1⟩
def Fld.FC_ALERT.FIRST_SOURCE : Fld := ⟨1, 11⟩
def Fld.FC_FERR.WORD : Fld := ⟨0, 64⟩
def Fld.FC_FERR_CTL.VALID : Fld := ⟨0, 1⟩
def Fld.FC_FERR_CTL.MORE : Fld := ⟨1, 1⟩
def Fld.FC_FERR_CNT.COUNT : Fld := ⟨0, 32⟩
def Fld.FC_SEL.SOURCE : Fld := ⟨0, 11⟩
def Fld.FC_SRC.SEV : Fld := ⟨0, 2⟩
def Fld.FC_SRC.RAIL_SEV : Fld := ⟨2, 2⟩
def Fld.FC_SRC.ESCALATE : Fld := ⟨4, 5⟩
def Fld.FC_SRC.FIXED : Fld := ⟨9, 1⟩
def Fld.FC_SRC.REC_SEV : Fld := ⟨10, 2⟩
def Fld.FC_SRC.PENDING : Fld := ⟨12, 1⟩
def Fld.FC_SRC.RAIL : Fld := ⟨13, 1⟩
def Fld.FC_SRC.NOFL : Fld := ⟨14, 1⟩
def Fld.FC_SRC.FLACONS : Fld := ⟨32, 32⟩
def Fld.FC_SRC_CNT.ESC_COUNT : Fld := ⟨0, 16⟩
def Fld.FC_SRC_CNT.TOTAL : Fld := ⟨32, 32⟩
def Fld.FC_INJECT.SOURCE : Fld := ⟨0, 11⟩
def Fld.FC_INJECT.FLACON : Fld := ⟨11, 5⟩
def Fld.FC_INJECT.FLACON_V : Fld := ⟨16, 1⟩
def Fld.FC_INJECT.GO : Fld := ⟨17, 1⟩
def Fld.FC_LOG_COUNT.COUNT : Fld := ⟨0, 13⟩
def Fld.FC_LOG_COUNT.DROPPED : Fld := ⟨16, 16⟩
def Fld.FC_LOG_ACK.N : Fld := ⟨0, 13⟩
def Fld.FC_PEND.PEND : Fld := ⟨0, 32⟩
def Fld.FC_RAIL.RAIL : Fld := ⟨0, 32⟩
def Fld.FL_FAULT.CLEAR : Fld := ⟨0, 1⟩
def Fld.FL_FAULT.REFUSED : Fld := ⟨1, 1⟩
def Fld.FZ_CTL.FREEZE : Fld := ⟨0, 1⟩
def Fld.FZ_CTL.READOUT_EN : Fld := ⟨1, 1⟩
def Fld.FZ_CTL.ON_SOURCE : Fld := ⟨2, 1⟩
def Fld.FZ_CTL.SOURCE : Fld := ⟨3, 11⟩
def Fld.FZ_STATUS.FROZEN : Fld := ⟨0, 1⟩
def Fld.FZ_STATUS.CAUSE : Fld := ⟨1, 3⟩
def Fld.FZ_STATUS.CLEAN : Fld := ⟨4, 1⟩
def Fld.FZ_STATUS.IGNORED : Fld := ⟨5, 1⟩
def Fld.FZ_BEAT.BEAT : Fld := ⟨0, 64⟩
def Fld.FZ_TIME.TIME : Fld := ⟨0, 64⟩
def Fld.FZ_CAP_CTL.SEG : Fld := ⟨0, 10⟩
def Fld.FZ_CAP_CTL.START : Fld := ⟨10, 1⟩
def Fld.FZ_CAP_CTL.ABORT : Fld := ⟨11, 1⟩
def Fld.FZ_CAP_STATUS.BUSY : Fld := ⟨0, 1⟩
def Fld.FZ_CAP_STATUS.SEGMENT : Fld := ⟨1, 4⟩
def Fld.FZ_CAP_STATUS.DONE : Fld := ⟨5, 1⟩
def Fld.FZ_CAP_STATUS.REFUSED : Fld := ⟨6, 1⟩
def Fld.FZ_CAP_STATUS.BLOCKS : Fld := ⟨32, 32⟩
def Fld.SL_CTL.EN : Fld := ⟨0, 1⟩
def Fld.SL_CTL.POINT : Fld := ⟨1, 1⟩
def Fld.SL_CTL.FLUSH : Fld := ⟨2, 1⟩
def Fld.SL_CTL.CMD_SET : Fld := ⟨3, 1⟩
def Fld.SL_COUNT.COUNT : Fld := ⟨0, 12⟩
def Fld.SL_ACK.N : Fld := ⟨0, 12⟩
def Fld.SL_FILT_CTL.EN : Fld := ⟨0, 1⟩
def Fld.SL_FILT_CTL.CLASSES : Fld := ⟨1, 8⟩
def Fld.SL_FILT_PORTS.PORTS : Fld := ⟨0, 32⟩
def Fld.SL_FILT_FL.FLACONS : Fld := ⟨0, 32⟩
def Fld.SL_FILT_LO.LO : Fld := ⟨0, 52⟩
def Fld.SL_FILT_HI.HI : Fld := ⟨0, 52⟩
def Fld.FL_MIRROR_BASE.BASE : Fld := ⟨0, 52⟩
def Fld.FL_MIRROR_CTL.EN : Fld := ⟨0, 1⟩
def Fld.FL_MIRROR_CTL.SIZE_LOG2 : Fld := ⟨1, 5⟩
def Fld.FL_MIRROR_PTR.OFFSET : Fld := ⟨0, 30⟩
def Fld.FL_MIRROR_PTR.DROPPED : Fld := ⟨32, 32⟩
def Fld.MG_LIFECYCLE.STATE : Fld := ⟨0, 4⟩
def Fld.MG_LIFECYCLE.IDENTITY_READY : Fld := ⟨4, 1⟩
def Fld.MG_LIFECYCLE.OWNER_SET : Fld := ⟨5, 1⟩
def Fld.MG_LIFECYCLE.OWNER_ENTRY : Fld := ⟨6, 2⟩
def Fld.MG_LIFECYCLE.VENDOR_REVOKE : Fld := ⟨8, 4⟩
def Fld.MG_LIFECYCLE.OWNER_REVOKE : Fld := ⟨12, 4⟩
def Fld.MG_LIFECYCLE.MIN_SVN : Fld := ⟨16, 7⟩
def Fld.MG_PRESENCE.OPEN : Fld := ⟨0, 1⟩
def Fld.MG_PRESENCE.CLOSE : Fld := ⟨1, 1⟩
def Fld.MG_PRESENCE.LEVEL : Fld := ⟨2, 1⟩
def Fld.MG_PRESENCE.REMAINING : Fld := ⟨3, 7⟩
def Fld.MG_PRESENCE.PRESSES : Fld := ⟨10, 16⟩
def Fld.MG_SEAL.SEAL_BROKEN : Fld := ⟨0, 1⟩
def Fld.MG_SEAL.LOOP_OPEN : Fld := ⟨1, 1⟩
def Fld.MG_SEAL.FUSE_PENDING : Fld := ⟨2, 1⟩
def Fld.MG_SEAL.EVENTS : Fld := ⟨3, 4⟩
def Fld.MG_SEAL.REARMS : Fld := ⟨7, 4⟩
def Fld.MG_FW_STATUS.SLOT : Fld := ⟨0, 1⟩
def Fld.MG_FW_STATUS.PENDING_VALID : Fld := ⟨1, 1⟩
def Fld.MG_FW_STATUS.PENDING_SLOT : Fld := ⟨2, 1⟩
def Fld.MG_FW_STATUS.VENDOR_KEY : Fld := ⟨3, 2⟩
def Fld.MG_FW_STATUS.SVN : Fld := ⟨5, 7⟩
def Fld.MG_FW_STATUS.VERSION : Fld := ⟨32, 32⟩
def Fld.MG_MEAS_ROM.DIGEST : Fld := ⟨0, 32⟩
def Fld.MG_MEAS_FW.DIGEST : Fld := ⟨0, 32⟩
def Fld.MG_OWNER_DIGEST.DIGEST : Fld := ⟨0, 32⟩
def Fld.MG_PATH_CNT.ACCEPTED : Fld := ⟨0, 32⟩
def Fld.MG_PATH_CNT.REFUSED : Fld := ⟨32, 32⟩
def Fld.MG_BAR0_WR.WRITABLE : Fld := ⟨0, 1⟩
def Fld.MG_BAR0_WR.REFUSED : Fld := ⟨16, 16⟩
def Fld.MG_RWP_LOG.OFFSET : Fld := ⟨0, 28⟩
def Fld.MG_RWP_LOG.SEALED : Fld := ⟨28, 1⟩
def Fld.MG_RWP_LOG.COUNT : Fld := ⟨32, 32⟩
def Fld.MG_I3C.STATIC_ADDR : Fld := ⟨0, 7⟩
def Fld.MG_I3C.DYN_ADDR : Fld := ⟨7, 7⟩
def Fld.MG_I3C.DYN_VALID : Fld := ⟨14, 1⟩
def Fld.MBX_DB.GO : Fld := ⟨0, 1⟩
def Fld.MBX_STATUS.BUSY : Fld := ⟨0, 1⟩
def Fld.MBX_STATUS.DONE : Fld := ⟨1, 1⟩
def Fld.MBX_STATUS.GO_ERR : Fld := ⟨2, 1⟩
def Fld.MBX_STATUS.RECOVERY : Fld := ⟨3, 1⟩

end Sys2Proof.Machine
end

