-- ==== Sys2Proof/Machine/RegTable.lean ====
section
/-!
DEFINITION. Machine/RegTable.lean: the register tables of the specification (R3, R8, R36), one row per register,
taken from the field tables of files 01 to 16: its offset in its block instance, how many elements it has and their
stride, its width, and for every field its place, its type (R8) and its reset value (R7).  Reserved fields have no
row: they read as 0 (R6).  Reset values that the specification leaves to a strap, a fuse or a constant it does not
state stand as 0 here (DESIGN CHOICE, assumption 3).
-/
namespace Sys2Proof.Machine

/-- The field types of R8, Table 3. -/
inductive FType where
  | ro | rw | wo | w1c | w1s | rc | rws | rwp | rwf
  deriving DecidableEq, Repr

/-- One field of a register. -/
structure FieldRow where
  lo : Nat
  width : Nat
  ty : FType
  reset : Nat
  deriving DecidableEq, Repr

/-- One register of a block: element n lies at offset off + n × stride, for n below count. -/
structure RegRow where
  name : String
  off : Nat
  count : Nat
  stride : Nat
  wide : Bool
  fields : List FieldRow
  deriving DecidableEq, Repr

/-- The register blocks of R36 Table 10, with the engine function (R182), the mailbox BAR (R417) and the arbiter set
(R104) as blocks of their own. -/
inductive Block where
  | chip | fc | fz | pc | spc | tl | pt | ln | xb | hs | fl | ac | dc | sl | ks | ksch | mg | ef | mbx | regionStore
  deriving DecidableEq, Repr

/-- The registers of block CHIP. -/
def rowsChip : List RegRow :=
  [
    ⟨"CHIP_ID", 0x0, 1, 0x0, false, [⟨16, 16, .ro, 0x880⟩, ⟨8, 8, .ro, 0xA1⟩, ⟨0, 8, .ro, 0x50⟩]⟩,
    ⟨"CHIP_SERIAL", 0x8, 1, 0x0, true, [⟨0, 64, .ro, 0⟩]⟩,
    ⟨"CHIP_MODE", 0x10, 1, 0x0, false, [⟨0, 4, .ro, 1⟩, ⟨4, 4, .ro, 0⟩, ⟨8, 8, .ro, 1⟩, ⟨16, 1, .ro, 0⟩, ⟨17, 1, .w1c, 0⟩]⟩,
    ⟨"CHIP_MODE_REQ", 0x14, 1, 0x0, false, [⟨0, 4, .wo, 0⟩]⟩,
    ⟨"CHIP_STRAPS", 0x18, 1, 0x0, false, [⟨0, 2, .ro, 0⟩, ⟨2, 1, .ro, 0⟩, ⟨3, 2, .ro, 0⟩]⟩,
    ⟨"CHIP_RESET", 0x1C, 1, 0x0, false, [⟨0, 32, .wo, 0⟩]⟩,
    ⟨"CHIP_CLK_STATUS", 0x20, 1, 0x0, false, [⟨0, 1, .ro, 0⟩, ⟨1, 1, .ro, 0⟩, ⟨2, 1, .ro, 1⟩, ⟨3, 1, .w1c, 0⟩, ⟨4, 8, .w1c, 0⟩]⟩,
    ⟨"CHIP_TIME", 0x30, 1, 0x0, true, [⟨0, 64, .ro, 0⟩]⟩,
    ⟨"CHIP_TIME_ADJ", 0x38, 1, 0x0, false, [⟨0, 31, .wo, 0⟩, ⟨31, 1, .wo, 0⟩]⟩,
    ⟨"CHIP_TIME_CTL", 0x3C, 1, 0x0, false, [⟨0, 1, .rw, 0⟩, ⟨1, 1, .rw, 0⟩, ⟨2, 7, .rw, 0⟩, ⟨9, 1, .ro, 0⟩]⟩,
    ⟨"CHIP_BEAT", 0x48, 1, 0x0, true, [⟨0, 64, .ro, 0⟩]⟩,
    ⟨"CHIP_TJ", 0x50, 1, 0x0, false, [⟨0, 16, .ro, 0⟩, ⟨16, 4, .ro, 0⟩, ⟨20, 2, .ro, 0⟩, ⟨22, 1, .ro, 0⟩]⟩ ] ++
  [
    ⟨"CHIP_TSENSE", 0x60, 16, 0x4, false, [⟨0, 16, .ro, 0⟩, ⟨16, 1, .ro, 0⟩]⟩,
    ⟨"CHIP_BOOT_STATUS", 0xA0, 1, 0x0, false, [⟨0, 1, .ro, 0⟩, ⟨1, 1, .ro, 0⟩, ⟨2, 1, .ro, 0⟩, ⟨3, 1, .ro, 0⟩, ⟨4, 1, .ro, 0⟩, ⟨16, 16, .ro, 0⟩]⟩,
    ⟨"CHIP_ACCESS_ERR", 0xA4, 1, 0x0, false, [⟨0, 1, .w1c, 0⟩, ⟨1, 3, .ro, 0⟩]⟩,
    ⟨"CHIP_ACCESS_ADDR", 0xA8, 1, 0x0, false, [⟨0, 28, .ro, 0⟩]⟩ ]

/-- The registers of block MG. -/
def rowsMg : List RegRow :=
  [
    ⟨"MG_FML_STATUS", 0x20000, 1, 0x0, true, [⟨0, 1, .ro, 0⟩, ⟨1, 1, .ro, 0⟩, ⟨2, 1, .ro, 0⟩, ⟨3, 3, .ro, 0⟩, ⟨6, 1, .w1c, 0⟩, ⟨7, 1, .w1c, 0⟩, ⟨32, 32, .ro, 0⟩]⟩,
    ⟨"MG_FML_ERR", 0x20008, 1, 0x0, true, [⟨0, 16, .ro, 0⟩, ⟨16, 16, .ro, 0⟩, ⟨32, 16, .ro, 0⟩, ⟨48, 16, .ro, 0⟩]⟩,
    ⟨"MG_FML_AFFECTED", 0x20010, 1, 0x0, false, [⟨0, 32, .ro, 0⟩]⟩,
    ⟨"MG_FML_DIGEST", 0x20040, 16, 0x4, false, [⟨0, 32, .ro, 0⟩]⟩,
    ⟨"MG_LIFECYCLE", 0x0, 1, 0x0, false, [⟨0, 4, .ro, 0⟩, ⟨4, 1, .ro, 0⟩, ⟨5, 1, .ro, 0⟩, ⟨6, 2, .ro, 0⟩, ⟨8, 4, .ro, 0⟩, ⟨12, 4, .ro, 0⟩, ⟨16, 7, .ro, 0⟩]⟩,
    ⟨"MG_PRESENCE", 0x8, 1, 0x0, false, [⟨0, 1, .ro, 0⟩, ⟨1, 1, .wo, 0⟩, ⟨2, 1, .ro, 0⟩, ⟨3, 7, .ro, 0⟩, ⟨10, 16, .rc, 0⟩]⟩,
    ⟨"MG_SEAL", 0x10, 1, 0x0, false, [⟨0, 1, .ro, 0⟩, ⟨1, 1, .ro, 0⟩, ⟨2, 1, .ro, 0⟩, ⟨3, 4, .ro, 0⟩, ⟨7, 4, .ro, 0⟩]⟩,
    ⟨"MG_FW_STATUS", 0x18, 1, 0x0, true, [⟨0, 1, .ro, 0⟩, ⟨1, 1, .ro, 0⟩, ⟨2, 1, .ro, 0⟩, ⟨3, 2, .ro, 0⟩, ⟨5, 7, .ro, 0⟩, ⟨32, 32, .ro, 0⟩]⟩,
    ⟨"MG_MEAS_ROM", 0x100, 16, 0x4, false, [⟨0, 32, .ro, 0⟩]⟩,
    ⟨"MG_MEAS_FW", 0x140, 16, 0x4, false, [⟨0, 32, .ro, 0⟩]⟩,
    ⟨"MG_OWNER_DIGEST", 0x180, 16, 0x4, false, [⟨0, 32, .ro, 0⟩]⟩,
    ⟨"MG_PATH_CNT", 0x200, 4, 0x8, true, [⟨0, 32, .rc, 0⟩, ⟨32, 32, .rc, 0⟩]⟩ ] ++
  [
    ⟨"MG_BAR0_WR", 0x220, 1, 0x0, false, [⟨0, 1, .ro, 1⟩, ⟨16, 16, .rc, 0⟩]⟩,
    ⟨"MG_RWP_LOG", 0x228, 1, 0x0, true, [⟨0, 28, .ro, 0⟩, ⟨28, 1, .ro, 0⟩, ⟨32, 32, .rc, 0⟩]⟩,
    ⟨"MG_I3C", 0x230, 1, 0x0, false, [⟨0, 7, .ro, 0x68⟩, ⟨7, 7, .ro, 0⟩, ⟨14, 1, .ro, 0⟩]⟩ ]

/-- The registers of block TL. -/
def rowsTl : List RegRow :=
  [
    ⟨"TL_CTL", 0x0, 1, 0x0, false, [⟨0, 1, .rw, 1⟩, ⟨1, 3, .rw, 2⟩, ⟨4, 1, .rw, 1⟩]⟩,
    ⟨"TL_SPRAY", 0x10, 1, 0x0, false, [⟨0, 8, .ro, 0xFF⟩, ⟨8, 8, .ro, 0⟩]⟩,
    ⟨"TL_RESEQ", 0x20, 1, 0x0, true, [⟨0, 9, .rc, 0⟩, ⟨16, 16, .rc, 0⟩, ⟨32, 16, .rc, 0⟩]⟩,
    ⟨"TL_ADMIT", 0x30, 1, 0x0, false, [⟨0, 16, .ro, 0⟩, ⟨16, 16, .rc, 0⟩]⟩,
    ⟨"TL_ERR", 0x40, 1, 0x0, false, [⟨0, 1, .w1c, 0⟩, ⟨1, 1, .w1c, 0⟩, ⟨2, 1, .w1c, 0⟩, ⟨3, 1, .w1c, 0⟩]⟩,
    ⟨"TL_RCACHE", 0x50, 1, 0x0, true, [⟨0, 32, .rc, 0⟩, ⟨32, 32, .rc, 0⟩]⟩,
    ⟨"TL_RCACHE_ERR", 0x58, 1, 0x0, false, [⟨0, 16, .rc, 0⟩, ⟨16, 16, .rc, 0⟩]⟩ ]

/-- The registers of block PT. -/
def rowsPt : List RegRow :=
  [
    ⟨"PT_QSEL", 0x100, 1, 0x0, false, [⟨0, 3, .rw, 0⟩, ⟨3, 5, .rw, 0⟩]⟩,
    ⟨"PT_QOCC", 0x108, 1, 0x0, true, [⟨0, 21, .ro, 0⟩, ⟨32, 22, .ro, 0⟩]⟩,
    ⟨"PT_FLUSH_FL", 0x110, 1, 0x0, false, [⟨0, 32, .rw, 0⟩]⟩,
    ⟨"PT_FLUSH_CTL", 0x114, 1, 0x0, false, [⟨0, 8, .rw, 0⟩, ⟨8, 1, .wo, 0⟩, ⟨9, 1, .ro, 0⟩, ⟨10, 1, .w1c, 0⟩]⟩,
    ⟨"PT_BAD", 0x120, 1, 0x0, false, [⟨0, 16, .rc, 0⟩, ⟨16, 16, .rc, 0⟩]⟩,
    ⟨"PT_FLUSH_CNT", 0x124, 1, 0x0, false, [⟨0, 32, .rc, 0⟩]⟩,
    ⟨"PT_RESV", 0x130, 1, 0x0, false, [⟨0, 7, .ro, 0⟩, ⟨16, 9, .ro, 0⟩]⟩,
    ⟨"PT_SCHED_SEL", 0x200, 1, 0x0, false, [⟨0, 5, .rw, 0⟩]⟩,
    ⟨"PT_WFQ", 0x208, 1, 0x0, true, [⟨0, 12, .ro, 1⟩, ⟨16, 12, .rwf, 1⟩, ⟨32, 12, .rwf, 0xFFF⟩]⟩,
    ⟨"PT_WFQ_TAG", 0x210, 1, 0x0, true, [⟨0, 40, .ro, 0⟩, ⟨40, 1, .ro, 0⟩]⟩,
    ⟨"PT_VTIME", 0x218, 1, 0x0, true, [⟨0, 40, .ro, 0⟩]⟩,
    ⟨"PT_SHAPE", 0x220, 1, 0x0, true, [⟨0, 20, .ro, 0⟩, ⟨32, 20, .rwf, 0⟩]⟩ ] ++
  [
    ⟨"PT_SHAPE_BURST", 0x228, 1, 0x0, false, [⟨0, 21, .rwf, 0⟩]⟩,
    ⟨"PT_SHAPE_TOKENS", 0x230, 1, 0x0, true, [⟨0, 40, .ro, 0⟩, ⟨40, 1, .ro, 0⟩, ⟨41, 16, .ro, 0⟩]⟩,
    ⟨"PT_SHAPE_LATE", 0x238, 1, 0x0, false, [⟨0, 32, .rc, 0⟩]⟩,
    ⟨"PT_GATE_CFG", 0x300, 1, 0x0, false, [⟨0, 17, .rwf, 0⟩, ⟨17, 9, .rwf, 0⟩]⟩,
    ⟨"PT_GATE_ORIGIN", 0x308, 1, 0x0, true, [⟨0, 64, .ro, 0⟩]⟩,
    ⟨"PT_GATE_STATE", 0x310, 1, 0x0, false, [⟨0, 16, .ro, 0⟩, ⟨16, 8, .ro, 0xFF⟩]⟩,
    ⟨"PT_GATE_SHORT", 0x320, 8, 0x4, false, [⟨0, 32, .ro, 0⟩]⟩,
    ⟨"PT_GATE_ERR", 0x340, 1, 0x0, false, [⟨0, 1, .w1c, 0⟩, ⟨1, 1, .w1c, 0⟩, ⟨2, 1, .w1c, 0⟩, ⟨8, 8, .ro, 0⟩, ⟨16, 16, .rc, 0⟩]⟩,
    ⟨"PT_GATE_HELD", 0x344, 1, 0x0, false, [⟨0, 32, .rc, 0⟩]⟩,
    ⟨"PT_GATE_ENTRY", 0x1000, 256, 0x8, true, [⟨0, 24, .rwf, 0⟩, ⟨24, 8, .rwf, 0⟩, ⟨32, 32, .rwf, 0⟩]⟩,
    ⟨"PT_TN_GATE", 0x400, 1, 0x0, false, [⟨0, 13, .ro, 0⟩, ⟨16, 13, .ro, 0⟩]⟩,
    ⟨"PT_TN_CNT", 0x408, 1, 0x0, true, [⟨0, 32, .rc, 0⟩, ⟨32, 32, .rc, 0⟩]⟩ ] ++
  [
    ⟨"PT_TN_WAIT", 0x410, 1, 0x0, false, [⟨0, 32, .rc, 0⟩]⟩,
    ⟨"PT_TN_ERR", 0x414, 1, 0x0, false, [⟨0, 1, .w1c, 0⟩, ⟨1, 1, .w1c, 0⟩, ⟨16, 16, .rc, 0⟩]⟩,
    ⟨"PT_LL_CFG", 0x600, 1, 0x0, true, [⟨0, 8, .rwf, 0⟩, ⟨8, 7, .rwf, 5⟩, ⟨15, 1, .rwf, 0⟩, ⟨16, 1, .rwf, 0⟩, ⟨17, 1, .rwf, 0⟩, ⟨32, 17, .rwf, 0⟩]⟩,
    ⟨"PT_LL_CTL", 0x608, 1, 0x0, false, [⟨0, 1, .wo, 0⟩, ⟨1, 1, .rw, 0⟩]⟩,
    ⟨"PT_LL_STATUS", 0x610, 1, 0x0, true, [⟨0, 3, .ro, 0⟩, ⟨3, 1, .ro, 0⟩, ⟨4, 5, .ro, 0⟩, ⟨9, 5, .ro, 0⟩, ⟨14, 2, .ro, 0⟩, ⟨16, 2, .ro, 0⟩, ⟨18, 1, .ro, 0⟩, ⟨19, 1, .ro, 0⟩, ⟨32, 16, .ro, 0⟩, ⟨48, 16, .ro, 0⟩]⟩,
    ⟨"PT_LL_SEQ", 0x618, 1, 0x0, true, [⟨0, 12, .ro, 0⟩, ⟨12, 12, .ro, 0⟩, ⟨24, 12, .ro, 0⟩, ⟨36, 9, .ro, 0⟩]⟩,
    ⟨"PT_LL_CRSEL", 0x620, 1, 0x0, false, [⟨0, 5, .rw, 0⟩]⟩,
    ⟨"PT_LL_CREDIT", 0x628, 1, 0x0, true, [⟨0, 7, .ro, 0⟩, ⟨7, 1, .ro, 0⟩, ⟨8, 7, .ro, 0⟩, ⟨15, 1, .ro, 0⟩, ⟨16, 13, .ro, 0⟩]⟩,
    ⟨"PT_LL_POOL", 0x630, 1, 0x0, false, [⟨0, 13, .ro, 0⟩, ⟨16, 13, .ro, 0⟩]⟩,
    ⟨"PT_LL_REPLAY", 0x638, 1, 0x0, true, [⟨0, 32, .rc, 0⟩, ⟨32, 32, .rc, 0⟩]⟩,
    ⟨"PT_LL_OTAG", 0x640, 1, 0x0, false, [⟨0, 13, .ro, 0⟩, ⟨16, 13, .ro, 0⟩]⟩,
    ⟨"PT_LL_EVENTS", 0x648, 1, 0x0, true, [⟨0, 16, .rc, 0⟩, ⟨16, 16, .rc, 0⟩, ⟨32, 16, .rc, 0⟩, ⟨48, 16, .rc, 0⟩]⟩ ] ++
  [
    ⟨"PT_LL_LINGER", 0x650, 1, 0x0, true, [⟨0, 17, .ro, 0⟩, ⟨32, 32, .rc, 0⟩]⟩,
    ⟨"PT_LL_ERR", 0x658, 1, 0x0, false, [⟨0, 1, .w1c, 0⟩, ⟨1, 1, .w1c, 0⟩, ⟨2, 1, .w1c, 0⟩, ⟨3, 1, .w1c, 0⟩, ⟨4, 1, .w1c, 0⟩, ⟨5, 1, .w1c, 0⟩, ⟨6, 1, .w1c, 0⟩, ⟨7, 1, .w1c, 0⟩]⟩,
    ⟨"PT_STD_STATUS", 0x700, 1, 0x0, false, [⟨0, 4, .ro, 0⟩, ⟨4, 3, .ro, 0⟩, ⟨7, 5, .ro, 0⟩, ⟨12, 2, .ro, 0⟩, ⟨14, 1, .ro, 0⟩, ⟨15, 1, .ro, 0⟩, ⟨16, 2, .ro, 0⟩, ⟨18, 1, .ro, 0⟩, ⟨19, 1, .ro, 0⟩, ⟨20, 1, .ro, 0⟩, ⟨21, 1, .ro, 0⟩, ⟨22, 1, .ro, 0⟩, ⟨23, 1, .ro, 0⟩, ⟨24, 1, .ro, 0⟩]⟩,
    ⟨"PT_STD_PARTNER", 0x708, 1, 0x0, true, [⟨0, 64, .ro, 0⟩]⟩,
    ⟨"PT_STD_HDM", 0x710, 1, 0x0, true, [⟨0, 52, .ro, 0⟩]⟩,
    ⟨"PT_STD_SPAN", 0x718, 1, 0x0, true, [⟨0, 24, .rwf, 0⟩, ⟨24, 24, .rwf, 0⟩]⟩,
    ⟨"PT_STD_OREC", 0x720, 1, 0x0, false, [⟨0, 13, .ro, 0⟩]⟩,
    ⟨"PT_STD_EVENTS", 0x728, 1, 0x0, true, [⟨0, 16, .rc, 0⟩, ⟨16, 16, .rc, 0⟩, ⟨32, 16, .rc, 0⟩, ⟨48, 16, .rc, 0⟩]⟩,
    ⟨"PT_STD_POISON", 0x730, 1, 0x0, true, [⟨0, 32, .rc, 0⟩, ⟨32, 32, .rc, 0⟩]⟩,
    ⟨"PT_STD_ERR", 0x740, 1, 0x0, false, [⟨0, 1, .w1c, 0⟩, ⟨1, 1, .w1c, 0⟩, ⟨2, 1, .w1c, 0⟩, ⟨3, 1, .w1c, 0⟩, ⟨4, 1, .w1c, 0⟩, ⟨5, 1, .w1c, 0⟩, ⟨6, 1, .w1c, 0⟩, ⟨7, 1, .w1c, 0⟩, ⟨8, 1, .w1c, 0⟩]⟩,
    ⟨"PT_HP_STATUS", 0x800, 1, 0x0, false, [⟨0, 4, .ro, 0⟩, ⟨4, 1, .ro, 0⟩, ⟨5, 1, .ro, 1⟩, ⟨6, 1, .ro, 0⟩, ⟨7, 1, .ro, 0⟩, ⟨8, 5, .rwf, 0⟩]⟩,
    ⟨"PT_HP_EVENTS", 0x808, 1, 0x0, false, [⟨0, 1, .w1c, 0⟩, ⟨1, 1, .w1c, 0⟩, ⟨2, 1, .w1c, 0⟩, ⟨3, 1, .w1c, 0⟩, ⟨4, 1, .w1c, 0⟩, ⟨5, 1, .w1c, 0⟩]⟩ ] ++
  [
    ⟨"PT_HP_CNT", 0x810, 1, 0x0, true, [⟨0, 16, .rc, 0⟩, ⟨16, 16, .rc, 0⟩, ⟨32, 16, .rc, 0⟩, ⟨48, 16, .rc, 0⟩]⟩ ]

/-- The registers of block XB. -/
def rowsXb : List RegRow :=
  [
    ⟨"XB_CTL", 0x0, 1, 0x0, false, [⟨0, 1, .rw, 0⟩]⟩,
    ⟨"XB_STATUS", 0x4, 1, 0x0, false, [⟨0, 1, .ro, 0⟩, ⟨1, 1, .ro, 0⟩, ⟨2, 1, .ro, 0⟩, ⟨3, 1, .w1c, 0⟩]⟩,
    ⟨"XB_POOL_FAST", 0x100, 1, 0x0, false, [⟨0, 20, .ro, 0⟩]⟩,
    ⟨"XB_POOL_SPILL", 0x104, 1, 0x0, false, [⟨0, 22, .ro, 0⟩]⟩ ]

/-- The registers of block FL. -/
def rowsFl : List RegRow :=
  [
    ⟨"FL_BUF_FAST", 0x200, 1, 0x0, false, [⟨0, 20, .ro, 0⟩]⟩,
    ⟨"FL_BUF_SPILL", 0x204, 1, 0x0, false, [⟨0, 22, .ro, 0⟩]⟩,
    ⟨"FL_BUF_HWM", 0x208, 1, 0x0, true, [⟨0, 20, .rc, 0⟩, ⟨32, 22, .rc, 0⟩]⟩,
    ⟨"FL_PUSHOUT", 0x210, 1, 0x0, true, [⟨0, 32, .rc, 0⟩, ⟨32, 32, .rc, 0⟩]⟩,
    ⟨"FL_ADMIT_STALL", 0x218, 1, 0x0, false, [⟨0, 32, .rc, 0⟩]⟩,
    ⟨"FL_TN", 0x300, 1, 0x0, true, [⟨0, 32, .rc, 0⟩, ⟨32, 32, .rc, 0⟩]⟩,
    ⟨"FL_AC_USE", 0x400, 1, 0x0, true, [⟨0, 14, .ro, 0⟩, ⟨14, 22, .ro, 0⟩, ⟨36, 22, .ro, 0⟩]⟩,
    ⟨"FL_AC_CNT", 0x408, 1, 0x0, true, [⟨0, 32, .rc, 0⟩, ⟨32, 32, .rc, 0⟩]⟩,
    ⟨"FL_AC_SEALED", 0x410, 1, 0x0, true, [⟨0, 64, .rws, 0⟩]⟩,
    ⟨"FL_CFG", 0x0, 1, 0x0, true, [⟨0, 1, .rwf, 0⟩, ⟨1, 1, .rwf, 0⟩, ⟨2, 1, .rwf, 0⟩, ⟨3, 2, .rwf, 0⟩, ⟨16, 16, .rwf, 0⟩]⟩,
    ⟨"FL_STATUS", 0x8, 1, 0x0, false, [⟨0, 1, .ro, 0⟩, ⟨1, 1, .ro, 0⟩, ⟨2, 1, .ro, 0⟩, ⟨3, 1, .ro, 0⟩, ⟨16, 11, .ro, 0⟩]⟩,
    ⟨"FL_EPOCH", 0x10, 1, 0x0, false, [⟨0, 32, .ro, 0⟩]⟩ ] ++
  [
    ⟨"FL_EPOCH_DRAIN", 0x18, 1, 0x0, true, [⟨0, 32, .rw, 0⟩, ⟨32, 1, .ro, 1⟩, ⟨33, 4, .ro, 0⟩]⟩,
    ⟨"FL_EPOCH_OLDEST", 0x20, 1, 0x0, false, [⟨0, 32, .ro, 0⟩]⟩,
    ⟨"FL_REGIONS", 0x28, 1, 0x0, true, [⟨0, 17, .ro, 0⟩, ⟨32, 17, .rwf, 0⟩]⟩,
    ⟨"FL_VIOL", 0x100, 4, 0x8, true, [⟨0, 64, .ro, 0⟩]⟩,
    ⟨"FL_VIOL_CTL", 0x120, 1, 0x0, false, [⟨0, 1, .w1c, 0⟩]⟩,
    ⟨"FL_VIOL_CNT", 0x128, 1, 0x0, true, [⟨0, 32, .rc, 0⟩, ⟨32, 32, .rc, 0⟩]⟩,
    ⟨"FL_FERR", 0x140, 4, 0x8, true, [⟨0, 64, .ro, 0⟩]⟩,
    ⟨"FL_FERR_CTL", 0x160, 1, 0x0, false, [⟨0, 1, .w1c, 0⟩, ⟨1, 1, .ro, 0⟩]⟩,
    ⟨"FL_FERR_CNT", 0x168, 1, 0x0, false, [⟨0, 32, .rc, 0⟩]⟩,
    ⟨"FL_FAULT", 0x30, 1, 0x0, false, [⟨0, 1, .wo, 0⟩, ⟨1, 1, .w1c, 0⟩]⟩,
    ⟨"FL_MIRROR_BASE", 0x500, 1, 0x0, true, [⟨0, 52, .rw, 0⟩]⟩,
    ⟨"FL_MIRROR_CTL", 0x508, 1, 0x0, false, [⟨0, 1, .rw, 0⟩, ⟨1, 5, .rw, 0xC⟩]⟩ ] ++
  [
    ⟨"FL_MIRROR_PTR", 0x510, 1, 0x0, true, [⟨0, 30, .ro, 0⟩, ⟨32, 32, .rc, 0⟩]⟩ ]

/-- The registers of block ARB. -/
def rowsArb : List RegRow :=
  [
    ⟨"ARB_CTL", 0x800, 1, 0x0, false, [⟨0, 1, .wo, 0⟩, ⟨1, 1, .wo, 0⟩]⟩,
    ⟨"ARB_STATUS", 0x804, 1, 0x0, false, [⟨0, 1, .ro, 0⟩, ⟨1, 1, .w1c, 0⟩, ⟨2, 1, .ro, 0⟩, ⟨8, 8, .rwf, 0x10⟩]⟩,
    ⟨"ARB_SEL", 0x808, 1, 0x0, false, [⟨0, 7, .rw, 0⟩]⟩,
    ⟨"ARB_GRANTS", 0x810, 1, 0x0, true, [⟨0, 64, .rc, 0⟩]⟩,
    ⟨"ARB_COUNTS", 0x818, 1, 0x0, true, [⟨0, 32, .rc, 0⟩, ⟨32, 16, .rc, 0⟩, ⟨48, 16, .rc, 0⟩]⟩,
    ⟨"ARB_PARKED", 0x820, 1, 0x0, false, [⟨0, 32, .rc, 0⟩]⟩,
    ⟨"ARB_PRIO", 0x900, 128, 0x4, false, [⟨0, 3, .rw, 0⟩]⟩ ]

/-- The registers of block HS. -/
def rowsHs : List RegRow :=
  [
    ⟨"HS_CTL", 0x0, 1, 0x0, false, [⟨0, 1, .rw, 1⟩, ⟨1, 4, .rw, 4⟩]⟩,
    ⟨"HS_RESV", 0x4, 1, 0x0, false, [⟨0, 9, .ro, 0⟩, ⟨16, 8, .ro, 0⟩]⟩,
    ⟨"HS_STATUS", 0x8, 1, 0x0, true, [⟨0, 11, .ro, 0⟩, ⟨16, 12, .ro, 0⟩, ⟨32, 12, .ro, 0⟩, ⟨44, 4, .ro, 0⟩, ⟨48, 1, .ro, 0⟩]⟩,
    ⟨"HS_HOT", 0x10, 1, 0x0, true, [⟨0, 32, .rc, 0⟩, ⟨32, 32, .rc, 0⟩]⟩,
    ⟨"HS_EVICT", 0x18, 1, 0x0, true, [⟨0, 32, .rc, 0⟩, ⟨32, 32, .rc, 0⟩]⟩,
    ⟨"HS_RACE", 0x20, 1, 0x0, true, [⟨0, 16, .rc, 0⟩, ⟨16, 16, .rc, 0⟩, ⟨32, 16, .rc, 0⟩, ⟨48, 16, .rc, 0⟩]⟩,
    ⟨"HS_VOQ_CNT", 0x28, 1, 0x0, false, [⟨0, 32, .rc, 0⟩]⟩,
    ⟨"HS_ANS_CNT", 0x30, 1, 0x0, true, [⟨0, 32, .rc, 0⟩, ⟨32, 32, .rc, 0⟩]⟩,
    ⟨"HS_ERR", 0x40, 1, 0x0, false, [⟨0, 1, .w1c, 0⟩, ⟨1, 1, .w1c, 0⟩, ⟨2, 1, .w1c, 0⟩, ⟨3, 1, .w1c, 0⟩, ⟨4, 1, .w1c, 0⟩, ⟨5, 1, .w1c, 0⟩, ⟨6, 1, .w1c, 0⟩, ⟨7, 1, .w1c, 0⟩]⟩,
    ⟨"HS_DIR_CE_CNT", 0x44, 1, 0x0, false, [⟨0, 32, .rc, 0⟩]⟩,
    ⟨"HS_FSEL", 0x100, 1, 0x0, false, [⟨0, 5, .rw, 0⟩]⟩,
    ⟨"HS_FDIR", 0x108, 1, 0x0, true, [⟨0, 18, .rwf, 0⟩, ⟨32, 18, .rwf, 0⟩, ⟨50, 1, .rwf, 0⟩, ⟨51, 1, .ro, 0⟩]⟩ ] ++
  [
    ⟨"HS_FOCC", 0x110, 1, 0x0, false, [⟨0, 22, .ro, 0⟩]⟩,
    ⟨"HS_QUERY_ADDR", 0x200, 1, 0x0, true, [⟨0, 52, .rw, 0⟩, ⟨63, 1, .wo, 0⟩]⟩,
    ⟨"HS_QUERY_RESULT", 0x208, 1, 0x0, true, [⟨0, 1, .ro, 0⟩, ⟨1, 1, .ro, 0⟩, ⟨2, 1, .ro, 0⟩, ⟨3, 1, .ro, 0⟩, ⟨4, 4, .ro, 0⟩, ⟨8, 4, .ro, 0⟩, ⟨12, 1, .ro, 0⟩, ⟨13, 1, .ro, 0⟩, ⟨14, 18, .ro, 0⟩, ⟨32, 28, .ro, 0⟩, ⟨60, 1, .ro, 0⟩, ⟨61, 1, .ro, 0⟩]⟩,
    ⟨"HS_QUERY_SHARERS", 0x210, 1, 0x0, true, [⟨0, 56, .ro, 0⟩]⟩,
    ⟨"HS_SEEN", 0x1000, 512, 0x4, false, [⟨0, 32, .ro, 0⟩]⟩,
    ⟨"HS_TN_CTL", 0x300, 1, 0x0, false, [⟨0, 1, .rw, 1⟩]⟩,
    ⟨"HS_TN_POLICER", 0x118, 1, 0x0, true, [⟨0, 12, .ro, 0⟩, ⟨16, 8, .rwf, 0⟩, ⟨32, 12, .rwf, 0⟩, ⟨44, 1, .rwf, 0⟩]⟩,
    ⟨"HS_TN_CNT", 0x308, 1, 0x0, true, [⟨0, 32, .rc, 0⟩, ⟨32, 32, .rc, 0⟩]⟩,
    ⟨"HS_TN_OUT", 0x310, 1, 0x0, true, [⟨0, 32, .rc, 0⟩, ⟨32, 32, .rc, 0⟩]⟩,
    ⟨"HS_TN_HOME", 0x318, 1, 0x0, false, [⟨0, 32, .rc, 0⟩]⟩,
    ⟨"HS_TN_PEND", 0x31C, 1, 0x0, false, [⟨0, 11, .ro, 0⟩]⟩,
    ⟨"HS_AC", 0x500, 1, 0x0, true, [⟨0, 16, .ro, 0⟩, ⟨16, 16, .ro, 0⟩, ⟨32, 16, .rc, 0⟩, ⟨48, 16, .rc, 0⟩]⟩ ]

/-- The registers of block EF. -/
def rowsEf : List RegRow :=
  [
    ⟨"EF_ID", 0x0, 1, 0x0, true, [⟨0, 5, .ro, 0⟩, ⟨5, 7, .ro, 0⟩, ⟨12, 7, .ro, 0⟩, ⟨19, 1, .ro, 0⟩, ⟨20, 2, .ro, 0⟩, ⟨22, 11, .ro, 0⟩]⟩,
    ⟨"EF_RES", 0x8, 1, 0x0, true, [⟨0, 14, .ro, 0⟩, ⟨16, 22, .ro, 0⟩, ⟨38, 22, .ro, 0⟩]⟩,
    ⟨"EF_DONE", 0x10, 1, 0x0, true, [⟨0, 64, .w1c, 0⟩]⟩,
    ⟨"EF_DB", 0x1000, 64, 0x40, true, [⟨0, 4, .wo, 0⟩, ⟨4, 1, .wo, 0⟩, ⟨5, 1, .wo, 0⟩, ⟨16, 10, .wo, 0⟩, ⟨32, 32, .wo, 0⟩]⟩,
    ⟨"EF_SLOT", 0x1008, 64, 0x40, true, [⟨0, 4, .ro, 0⟩, ⟨4, 8, .ro, 0⟩, ⟨12, 13, .ro, 0⟩, ⟨25, 1, .ro, 0⟩, ⟨26, 1, .ro, 0⟩, ⟨27, 1, .ro, 0⟩, ⟨32, 32, .ro, 0⟩]⟩,
    ⟨"EF_SEQ", 0x1010, 64, 0x40, true, [⟨0, 64, .ro, 0⟩]⟩,
    ⟨"EF_ABORT", 0x1018, 64, 0x40, true, [⟨0, 52, .ro, 0⟩]⟩ ]

/-- The registers of block AC. -/
def rowsAc : List RegRow :=
  [
    ⟨"AC_CTL", 0x0, 1, 0x0, false, [⟨0, 1, .rw, 1⟩, ⟨1, 8, .rw, 0xBE⟩]⟩,
    ⟨"AC_STATUS", 0x8, 1, 0x0, true, [⟨0, 14, .ro, 0⟩, ⟨14, 22, .ro, 0⟩, ⟨36, 22, .ro, 0⟩]⟩,
    ⟨"AC_SEQ", 0x10, 1, 0x0, true, [⟨0, 64, .ro, 0⟩]⟩,
    ⟨"AC_CNT", 0x18, 1, 0x0, true, [⟨0, 32, .rc, 0⟩, ⟨32, 32, .rc, 0⟩]⟩,
    ⟨"AC_ERR", 0x20, 1, 0x0, false, [⟨0, 1, .w1c, 0⟩, ⟨1, 1, .w1c, 0⟩, ⟨2, 1, .w1c, 0⟩, ⟨3, 1, .w1c, 0⟩]⟩,
    ⟨"AC_REVIVE", 0x28, 1, 0x0, true, [⟨0, 32, .ro, 0⟩, ⟨32, 32, .ro, 0⟩]⟩,
    ⟨"AC_ABORT_CNT", 0x100, 32, 0x4, false, [⟨0, 32, .rc, 0⟩]⟩ ]

/-- The registers of block LN. -/
def rowsLn : List RegRow :=
  [
    ⟨"LN_CTL", 0x0, 1, 0x0, false, [⟨0, 1, .rw, 0⟩, ⟨1, 1, .wo, 0⟩, ⟨2, 1, .wo, 0⟩, ⟨3, 1, .rw, 1⟩, ⟨4, 1, .rw, 1⟩, ⟨5, 1, .rw, 1⟩]⟩,
    ⟨"LN_STATUS", 0x8, 1, 0x0, false, [⟨0, 4, .ro, 0⟩, ⟨4, 3, .ro, 0⟩, ⟨7, 1, .ro, 0⟩, ⟨8, 1, .ro, 0⟩, ⟨9, 1, .ro, 0⟩, ⟨10, 1, .ro, 0⟩, ⟨11, 1, .ro, 0⟩, ⟨12, 4, .ro, 0⟩]⟩,
    ⟨"LN_TRAIN", 0x10, 1, 0x0, false, [⟨0, 16, .ro, 0⟩, ⟨16, 3, .ro, 0⟩]⟩,
    ⟨"LN_TXFIR", 0x18, 1, 0x0, false, [⟨0, 8, .ro, 0⟩, ⟨8, 8, .ro, 0⟩, ⟨16, 8, .ro, 0x3F⟩, ⟨24, 8, .ro, 0⟩]⟩,
    ⟨"LN_ADAPT_STAMP", 0x20, 1, 0x0, false, [⟨0, 16, .ro, 0⟩, ⟨16, 8, .ro, 0⟩, ⟨24, 4, .ro, 0⟩, ⟨28, 1, .ro, 0⟩]⟩,
    ⟨"LN_ADAPT_TIME", 0x28, 1, 0x0, true, [⟨0, 64, .ro, 0⟩]⟩,
    ⟨"LN_MARGIN", 0x30, 1, 0x0, false, [⟨0, 8, .ro, 0⟩, ⟨8, 6, .ro, 0⟩, ⟨14, 1, .ro, 0⟩, ⟨15, 1, .ro, 0⟩]⟩,
    ⟨"LN_MARGIN_MIN", 0x34, 1, 0x0, false, [⟨0, 8, .rw, 0xF⟩, ⟨8, 6, .rw, 6⟩, ⟨16, 8, .rw, 1⟩, ⟨24, 8, .rw, 0x60⟩]⟩,
    ⟨"LN_RETUNE", 0x38, 1, 0x0, true, [⟨0, 16, .rc, 0⟩, ⟨16, 16, .rc, 0⟩, ⟨32, 16, .rc, 0⟩, ⟨48, 4, .ro, 0⟩, ⟨52, 1, .ro, 0⟩, ⟨53, 1, .ro, 0⟩]⟩,
    ⟨"LN_FEC", 0x40, 1, 0x0, true, [⟨0, 32, .rc, 0⟩, ⟨32, 32, .rc, 0⟩]⟩,
    ⟨"LN_FEC_SYM", 0x48, 1, 0x0, false, [⟨0, 32, .rc, 0⟩]⟩,
    ⟨"LN_ERR", 0x50, 1, 0x0, false, [⟨0, 1, .w1c, 0⟩, ⟨1, 1, .w1c, 0⟩, ⟨2, 1, .w1c, 0⟩, ⟨3, 1, .w1c, 0⟩, ⟨4, 1, .w1c, 0⟩, ⟨5, 1, .w1c, 0⟩]⟩ ] ++
  [
    ⟨"LN_PARTNER", 0x80, 1, 0x0, true, [⟨0, 64, .ro, 0⟩]⟩,
    ⟨"LN_PARTNER_INFO", 0x88, 1, 0x0, false, [⟨0, 10, .ro, 0⟩, ⟨10, 7, .ro, 0⟩, ⟨17, 4, .ro, 0⟩, ⟨21, 1, .ro, 0⟩]⟩,
    ⟨"LN_PRBS_CTL", 0x100, 1, 0x0, false, [⟨0, 1, .rw, 0⟩, ⟨1, 3, .rw, 0⟩, ⟨4, 1, .rw, 0⟩, ⟨5, 3, .rw, 0⟩, ⟨8, 1, .rw, 0⟩, ⟨9, 2, .rw, 0⟩, ⟨11, 1, .rw, 0⟩, ⟨12, 1, .w1c, 0⟩]⟩,
    ⟨"LN_PRBS_INJ", 0x104, 1, 0x0, false, [⟨0, 1, .wo, 0⟩, ⟨1, 1, .wo, 0⟩, ⟨2, 8, .rw, 1⟩, ⟨10, 6, .rw, 0⟩, ⟨16, 1, .rw, 0⟩, ⟨17, 1, .w1c, 0⟩]⟩,
    ⟨"LN_PRBS_STATUS", 0x108, 1, 0x0, false, [⟨0, 1, .ro, 0⟩, ⟨16, 16, .rc, 0⟩]⟩,
    ⟨"LN_PRBS_BITS", 0x110, 1, 0x0, true, [⟨0, 64, .ro, 0⟩]⟩,
    ⟨"LN_PRBS_ERRS", 0x118, 1, 0x0, true, [⟨0, 64, .ro, 0⟩]⟩,
    ⟨"LN_TEST_CFG", 0x120, 1, 0x0, false, [⟨0, 1, .rw, 0⟩, ⟨1, 3, .rw, 6⟩, ⟨4, 1, .rw, 0⟩, ⟨5, 2, .rw, 2⟩, ⟨7, 4, .rw, 4⟩, ⟨11, 1, .rw, 0⟩, ⟨12, 1, .rw, 0⟩]⟩ ]

/-- The registers of block DC. -/
def rowsDc : List RegRow :=
  [
    ⟨"DC_CTL", 0x0, 1, 0x0, false, [⟨0, 1, .rw, 1⟩, ⟨1, 7, .rw, 0xA⟩]⟩,
    ⟨"DC_STATUS", 0x8, 1, 0x0, false, [⟨0, 8, .ro, 0⟩]⟩,
    ⟨"DC_JOB_CFG", 0x100, 8, 0x40, true, [⟨0, 12, .ro, 0⟩, ⟨16, 12, .ro, 0⟩, ⟨32, 5, .ro, 0⟩, ⟨40, 16, .ro, 0⟩]⟩,
    ⟨"DC_JOB_STATE", 0x108, 8, 0x40, false, [⟨0, 3, .ro, 0⟩, ⟨4, 4, .ro, 0⟩, ⟨8, 2, .ro, 0⟩, ⟨10, 9, .ro, 0⟩]⟩,
    ⟨"DC_JOB_PTR", 0x110, 8, 0x40, true, [⟨0, 40, .ro, 0⟩]⟩,
    ⟨"DC_JOB_CNT", 0x118, 8, 0x40, true, [⟨0, 24, .rc, 0⟩, ⟨24, 8, .rc, 0⟩, ⟨32, 32, .rc, 0⟩]⟩ ]

/-- The registers of block PC. -/
def rowsPc : List RegRow :=
  [
    ⟨"PC_BUS", 0x0, 1, 0x0, true, [⟨0, 16, .ro, 0⟩, ⟨16, 16, .ro, 0⟩, ⟨32, 16, .ro, 0⟩, ⟨48, 16, .ro, 0⟩]⟩,
    ⟨"PC_FEED", 0x8, 1, 0x0, false, [⟨0, 1, .ro, 0⟩, ⟨1, 1, .ro, 0⟩, ⟨2, 1, .ro, 0⟩, ⟨3, 1, .ro, 0⟩, ⟨4, 1, .ro, 0⟩, ⟨5, 1, .ro, 0⟩, ⟨6, 1, .ro, 0⟩]⟩,
    ⟨"PC_SUPV", 0x10, 1, 0x0, true, [⟨0, 16, .rwf, 0x2A30⟩, ⟨16, 16, .rwf, 0x2328⟩, ⟨32, 11, .rwf, 0⟩]⟩,
    ⟨"PC_SUPV_STATUS", 0x18, 1, 0x0, false, [⟨0, 1, .ro, 0⟩, ⟨1, 1, .ro, 0⟩, ⟨2, 1, .ro, 0⟩, ⟨3, 1, .ro, 0⟩, ⟨4, 1, .ro, 0⟩]⟩,
    ⟨"PC_EVENTS", 0x20, 1, 0x0, false, [⟨0, 1, .w1c, 0⟩, ⟨1, 1, .w1c, 0⟩, ⟨2, 1, .w1c, 0⟩, ⟨3, 1, .w1c, 0⟩, ⟨4, 1, .w1c, 0⟩, ⟨5, 1, .w1c, 0⟩, ⟨6, 1, .w1c, 0⟩, ⟨7, 1, .w1c, 0⟩, ⟨8, 1, .w1c, 0⟩]⟩,
    ⟨"PC_DIP", 0x28, 1, 0x0, true, [⟨0, 16, .ro, 0⟩, ⟨16, 16, .ro, 0⟩, ⟨32, 32, .rc, 0⟩]⟩,
    ⟨"PC_RAIL", 0x30, 1, 0x0, false, [⟨0, 6, .ro, 0⟩, ⟨6, 1, .ro, 0⟩, ⟨7, 1, .ro, 0⟩, ⟨8, 6, .w1c, 0⟩]⟩ ]

/-- The registers of block SPC. -/
def rowsSpc : List RegRow :=
  [
    ⟨"SPC_CFG", 0x0, 1, 0x0, true, [⟨0, 14, .rwf, 0⟩, ⟨14, 1, .rwf, 0⟩, ⟨15, 1, .rwf, 0⟩, ⟨16, 13, .rwf, 0⟩, ⟨29, 3, .rwf, 0⟩, ⟨32, 15, .rwf, 0⟩, ⟨48, 14, .rwf, 0⟩, ⟨62, 1, .rwf, 0⟩, ⟨63, 1, .rwf, 0⟩]⟩,
    ⟨"SPC_CFG2", 0x8, 1, 0x0, true, [⟨0, 15, .rwf, 0⟩, ⟨16, 16, .rwf, 0⟩, ⟨32, 16, .rwf, 0⟩, ⟨48, 8, .rwf, 0⟩]⟩,
    ⟨"SPC_LIMIT", 0x10, 1, 0x0, false, [⟨0, 13, .ro, 0⟩]⟩,
    ⟨"SPC_STATE", 0x18, 1, 0x0, false, [⟨0, 3, .ro, 0⟩, ⟨3, 1, .ro, 0⟩, ⟨4, 1, .ro, 0⟩, ⟨5, 3, .ro, 0⟩, ⟨8, 3, .ro, 0⟩, ⟨11, 1, .ro, 0⟩, ⟨12, 1, .ro, 0⟩]⟩,
    ⟨"SPC_MEAS", 0x20, 1, 0x0, true, [⟨0, 16, .ro, 0⟩, ⟨16, 16, .ro, 0⟩, ⟨32, 16, .ro, 0⟩, ⟨48, 16, .ro, 0⟩]⟩,
    ⟨"SPC_TIMER", 0x28, 1, 0x0, false, [⟨0, 16, .ro, 0⟩, ⟨16, 16, .ro, 0⟩]⟩,
    ⟨"SPC_ZERO", 0x30, 1, 0x0, false, [⟨0, 16, .ro, 0⟩, ⟨16, 16, .ro, 0⟩]⟩,
    ⟨"SPC_CNT", 0x38, 1, 0x0, true, [⟨0, 16, .rc, 0⟩, ⟨16, 16, .rc, 0⟩, ⟨32, 16, .rc, 0⟩, ⟨48, 16, .rc, 0⟩]⟩,
    ⟨"SPC_ERR", 0x40, 1, 0x0, false, [⟨0, 1, .w1c, 0⟩, ⟨1, 1, .w1c, 0⟩, ⟨2, 1, .w1c, 0⟩, ⟨3, 1, .w1c, 0⟩]⟩ ]

/-- The registers of block KS. -/
def rowsKs : List RegRow :=
  [
    ⟨"KS_DRAIN_STATUS", 0x100, 1, 0x0, false, [⟨0, 3, .ro, 7⟩, ⟨3, 1, .ro, 0⟩, ⟨4, 1, .ro, 0⟩, ⟨5, 1, .ro, 0⟩, ⟨6, 1, .ro, 0⟩, ⟨7, 1, .ro, 0⟩, ⟨8, 1, .w1c, 0⟩]⟩,
    ⟨"KS_DRAIN_TIME", 0x108, 1, 0x0, true, [⟨0, 16, .ro, 0⟩, ⟨16, 16, .ro, 0⟩, ⟨32, 16, .ro, 0⟩, ⟨48, 16, .ro, 0⟩]⟩,
    ⟨"KS_DRAIN_CNT", 0x110, 1, 0x0, true, [⟨0, 22, .ro, 0⟩, ⟨22, 22, .ro, 0⟩, ⟨44, 20, .ro, 0⟩]⟩,
    ⟨"KS_DRAIN_CUT", 0x118, 1, 0x0, false, [⟨0, 16, .ro, 0⟩, ⟨16, 8, .ro, 0⟩]⟩,
    ⟨"KS_RETAIN_STATUS", 0x120, 1, 0x0, true, [⟨0, 2, .ro, 0⟩, ⟨2, 1, .ro, 0⟩, ⟨16, 16, .ro, 0⟩, ⟨32, 32, .ro, 0⟩]⟩,
    ⟨"KS_REVIVE_STATUS", 0x128, 1, 0x0, true, [⟨0, 3, .ro, 7⟩, ⟨3, 1, .ro, 0⟩, ⟨4, 1, .ro, 0⟩, ⟨32, 16, .ro, 0⟩, ⟨48, 16, .ro, 0⟩]⟩,
    ⟨"KS_REVIVE_CFG", 0x130, 1, 0x0, false, [⟨0, 14, .rws, 0x7D0⟩]⟩,
    ⟨"KS_LOSS", 0x140, 1, 0x0, true, [⟨0, 1, .w1c, 0⟩, ⟨1, 1, .w1c, 1⟩, ⟨2, 4, .ro, 0⟩, ⟨32, 32, .ro, 0⟩]⟩,
    ⟨"KS_LOSS_CNT", 0x148, 1, 0x0, true, [⟨0, 32, .ro, 0⟩, ⟨32, 32, .ro, 0⟩]⟩,
    ⟨"KS_LOSS_SEQ", 0x150, 1, 0x0, true, [⟨0, 64, .ro, 0⟩]⟩ ]

/-- The registers of block FC. -/
def rowsFc : List RegRow :=
  [
    ⟨"FC_PIN_LEVEL", 0x0, 1, 0x0, false, [⟨0, 2, .rw, 2⟩, ⟨4, 2, .rw, 1⟩]⟩,
    ⟨"FC_SUMMARY", 0x8, 1, 0x0, true, [⟨0, 11, .ro, 0⟩, ⟨16, 11, .ro, 0⟩, ⟨32, 11, .ro, 0⟩, ⟨48, 11, .ro, 0⟩, ⟨59, 1, .ro, 0⟩, ⟨60, 1, .ro, 0⟩, ⟨61, 1, .ro, 0⟩]⟩,
    ⟨"FC_ALERT", 0x10, 1, 0x0, false, [⟨0, 1, .w1c, 0⟩, ⟨1, 11, .ro, 0⟩]⟩,
    ⟨"FC_FERR", 0x100, 4, 0x8, true, [⟨0, 64, .ro, 0⟩]⟩,
    ⟨"FC_FERR_CTL", 0x120, 1, 0x0, false, [⟨0, 1, .w1c, 0⟩, ⟨1, 1, .ro, 0⟩]⟩,
    ⟨"FC_FERR_CNT", 0x128, 1, 0x0, false, [⟨0, 32, .rc, 0⟩]⟩,
    ⟨"FC_SEL", 0x200, 1, 0x0, false, [⟨0, 11, .rw, 0⟩]⟩,
    ⟨"FC_SRC", 0x208, 1, 0x0, true, [⟨0, 2, .rwf, 0⟩, ⟨2, 2, .rwf, 0⟩, ⟨4, 5, .rwf, 0⟩, ⟨9, 1, .ro, 0⟩, ⟨10, 2, .ro, 0⟩, ⟨12, 1, .ro, 0⟩, ⟨13, 1, .ro, 0⟩, ⟨14, 1, .ro, 0⟩, ⟨32, 32, .ro, 0⟩]⟩,
    ⟨"FC_SRC_CNT", 0x210, 1, 0x0, true, [⟨0, 16, .ro, 0⟩, ⟨32, 32, .rc, 0⟩]⟩,
    ⟨"FC_INJECT", 0x300, 1, 0x0, false, [⟨0, 11, .rwp, 0⟩, ⟨11, 5, .rwp, 0⟩, ⟨16, 1, .rwp, 0⟩, ⟨17, 1, .rwp, 0⟩]⟩,
    ⟨"FC_LOG_COUNT", 0x400, 1, 0x0, false, [⟨0, 13, .ro, 0⟩, ⟨16, 16, .rc, 0⟩]⟩,
    ⟨"FC_LOG_ACK", 0x408, 1, 0x0, false, [⟨0, 13, .wo, 0⟩]⟩ ] ++
  [
    ⟨"FC_PEND", 0x1000, 40, 0x4, false, [⟨0, 32, .w1c, 0⟩]⟩,
    ⟨"FC_RAIL", 0x1100, 40, 0x4, false, [⟨0, 32, .w1c, 0⟩]⟩ ]

/-- The registers of block FZ. -/
def rowsFz : List RegRow :=
  [
    ⟨"FZ_CTL", 0x0, 1, 0x0, false, [⟨0, 1, .rwp, 0⟩, ⟨1, 1, .rwp, 0⟩, ⟨2, 1, .rwp, 0⟩, ⟨3, 11, .rwp, 0⟩]⟩,
    ⟨"FZ_STATUS", 0x8, 1, 0x0, false, [⟨0, 1, .ro, 0⟩, ⟨1, 3, .ro, 0⟩, ⟨4, 1, .ro, 0⟩, ⟨5, 1, .w1c, 0⟩]⟩,
    ⟨"FZ_BEAT", 0x10, 1, 0x0, true, [⟨0, 64, .ro, 0⟩]⟩,
    ⟨"FZ_TIME", 0x18, 1, 0x0, true, [⟨0, 64, .ro, 0⟩]⟩,
    ⟨"FZ_CAP_CTL", 0x100, 1, 0x0, false, [⟨0, 10, .rw, 0⟩, ⟨10, 1, .wo, 0⟩, ⟨11, 1, .wo, 0⟩]⟩,
    ⟨"FZ_CAP_STATUS", 0x108, 1, 0x0, true, [⟨0, 1, .ro, 0⟩, ⟨1, 4, .ro, 0⟩, ⟨5, 1, .w1c, 0⟩, ⟨6, 1, .w1c, 0⟩, ⟨32, 32, .ro, 0⟩]⟩ ]

/-- The registers of block SL. -/
def rowsSl : List RegRow :=
  [
    ⟨"SL_CTL", 0x0, 1, 0x0, false, [⟨0, 1, .rw, 0⟩, ⟨1, 1, .rw, 0⟩, ⟨2, 1, .wo, 0⟩, ⟨3, 1, .ro, 0⟩]⟩,
    ⟨"SL_COUNT", 0x8, 1, 0x0, false, [⟨0, 12, .ro, 0⟩]⟩,
    ⟨"SL_ACK", 0x10, 1, 0x0, false, [⟨0, 12, .wo, 0⟩]⟩,
    ⟨"SL_FILT_CTL", 0x100, 2, 0x40, false, [⟨0, 1, .rw, 0⟩, ⟨1, 8, .rw, 0⟩]⟩,
    ⟨"SL_FILT_PORTS", 0x108, 2, 0x40, false, [⟨0, 32, .rw, 0⟩]⟩,
    ⟨"SL_FILT_FL", 0x110, 2, 0x40, false, [⟨0, 32, .rw, 0⟩]⟩,
    ⟨"SL_FILT_LO", 0x118, 2, 0x40, true, [⟨0, 52, .rw, 0⟩]⟩,
    ⟨"SL_FILT_HI", 0x120, 2, 0x40, true, [⟨0, 52, .rw, 0⟩]⟩ ]

/-- The registers of block MBX. -/
def rowsMbx : List RegRow :=
  [
    ⟨"MBX_DB", 0x0, 1, 0x0, false, [⟨0, 1, .wo, 0⟩]⟩,
    ⟨"MBX_STATUS", 0x8, 1, 0x0, false, [⟨0, 1, .ro, 0⟩, ⟨1, 1, .w1c, 0⟩, ⟨2, 1, .w1c, 0⟩, ⟨3, 1, .ro, 0⟩]⟩ ]

/-- The rows of a block.  The arbiter set lies at offset 0x0800 of each plane, slice and Keep channel instance. -/
def rowsOf : Block → List RegRow
  | .chip => rowsChip
  | .fc => rowsFc
  | .fz => rowsFz
  | .pc => rowsPc
  | .spc => rowsSpc
  | .tl => rowsTl
  | .pt => rowsPt
  | .ln => rowsLn
  | .xb => rowsXb ++ rowsArb
  | .hs => rowsHs ++ rowsArb
  | .fl => rowsFl
  | .ac => rowsAc
  | .dc => rowsDc
  | .sl => rowsSl
  | .ks => rowsKs
  | .ksch => rowsArb
  | .mg => rowsMg
  | .ef => rowsEf
  | .mbx => rowsMbx
  | .regionStore => []

/-- The span of the addresses of BAR0: the window of R36.  Above it the model keys the mailbox BAR at 0x2_0000_0000 and
the engine function of upstream port q at 0x1_0000_0000 + q × 0x1_0000 (DESIGN CHOICE, assumption 4: a key of the
register file, no address of the device). -/
def bar0Size : Nat := 0x10000000

/-- The block instance that holds an address, as (block, instance base), by R36 Table 10; none outside every row. -/
def locateBlock (a : Nat) : Option (Block × Nat) :=
  if a < 0x100000 then some (.chip, 0)
  else if a < 0x200000 then some (.fc, 0x100000)
  else if a < 0x400000 then some (.fz, 0x200000)
  else if a < 0x410000 then some (.pc, 0x400000)
  else if a < 0x412000 then some (.spc, 0x410000 + (a - 0x410000) / 0x100 * 0x100)
  else if a < 0x1000000 then none
  else if a < 0x1400000 then
    let t := 0x1000000 + (a - 0x1000000) / 0x10000 * 0x10000
    let o := a - t
    if o < 0x4000 then some (.tl, t)
    else if o < 0x8000 then some (.pt, 0x4000 + t + (o - 0x4000) / 0x2000 * 0x2000)
    else if o < 0xA000 then some (.ln, 0x8000 + t + (o - 0x8000) / 0x400 * 0x400)
    else some (.tl, t)
  else if a < 0x2000000 then none
  else if a < 0x2080000 then some (.xb, 0x2000000 + (a - 0x2000000) / 0x10000 * 0x10000)
  else if a < 0x3000000 then none
  else if a < 0x3400000 then some (.hs, 0x3000000 + (a - 0x3000000) / 0x10000 * 0x10000)
  else if a < 0x4000000 then none
  else if a < 0x4020000 then some (.fl, 0x4000000 + (a - 0x4000000) / 0x1000 * 0x1000)
  else if a < 0x5000000 then none
  else if a < 0x5400000 then some (.ac, 0x5000000)
  else if a < 0x5800000 then some (.dc, 0x5400000)
  else if a < 0x5840000 then some (.sl, 0x5800000 + (a - 0x5800000) / 0x10000 * 0x10000)
  else if a < 0x6000000 then none
  else if a < 0x8000000 then some (.regionStore, 0x6000000)
  else if a < 0x9000000 then
    if 0x8010000 ≤ a ∧ a < 0x8018000 then some (.ksch, 0x8010000 + (a - 0x8010000) / 0x1000 * 0x1000)
    else some (.ks, 0x8000000)
  else if a < 0x10000000 then some (.mg, 0x9000000)
  else if 0x100000000 ≤ a ∧ a < 0x100800000 then some (.ef, 0x100000000 + (a - 0x100000000) / 0x10000 * 0x10000)
  else if 0x200000000 ≤ a ∧ a < 0x200100000 then some (.mbx, 0x200000000)
  else none

/-- Whether offset o of a block instance starts an element of a register row. -/
def RegRow.startsAt (r : RegRow) (o : Nat) : Bool :=
  if r.count ≤ 1 then o == r.off
  else r.off ≤ o && (o - r.off) % r.stride == 0 && (o - r.off) / r.stride < r.count

/-- The register row that starts at an address. -/
def rowAt (a : Nat) : Option RegRow :=
  match locateBlock a with
  | none => none
  | some (b, base) => (rowsOf b).find? fun r => r.startsAt (a - base)

/-- The register that holds the 32-bit word at an address: its row, its first address, and whether the word is the
upper half of a 64-bit register (R5). -/
def wordAt (a : Nat) : Option (RegRow × Nat × Bool) :=
  match rowAt a with
  | some r => some (r, a, false)
  | none =>
    if a < 4 then none else
    match rowAt (a - 4) with
    | some r => if r.wide then some (r, a - 4, true) else none
    | none => none

/-- The value of a register's fields at reset (R7). -/
def RegRow.resetValue (r : RegRow) : BitVec 64 :=
  r.fields.foldl (fun v f => v ||| BitVec.ofNat 64 (f.reset <<< f.lo)) 0

/-- The value at reset of the register that starts at an address; 0 where none does. -/
def resetAt (a : Nat) : BitVec 64 :=
  match rowAt a with
  | some r => r.resetValue
  | none => 0

end Sys2Proof.Machine
end

