-- ==== Sys2Proof/Machine/State.lean ====
section
/-!
DEFINITION. Machine/State.lean: the state of the block, as plain data: every register, table, queue, buffer, counter, mode
and pin the specification gives the PJ880, and the queue of waiting commands.  INVENTORY.md lists each piece with the
rule that names it.
-/
namespace Sys2Proof.Machine

/-- The register file: a sparse table keyed by register address; a register that is not listed holds its reset value
(R7).  Registers that show a structure of the model are views of it (Machine/Access.lean) and are not listed here. -/
abbrev RegFile := Tab Word

/-- The device's input pins and supplies, as the companion and the always-on domain see them (R28, R337 to R346, R453
to R456). -/
structure Pins where
  /-- VAUX present: at or above 2.8 V (R340). -/
  vaux : Bool := true
  /-- VAUX in tolerance (R337). -/
  vauxOk : Bool := true
  /-- Rails 2 to 7: bit r set while rail r is in tolerance. -/
  railsOk : Nat := 0xFC
  /-- Level of PWRON_RESET_N. -/
  pwronResetN : Bool := false
  perstN : Bool := true
  pwrfailN : Bool := true
  /-- SEAL_N high: the seal loop is open. -/
  sealOpen : Bool := false
  presenceN : Bool := true
  /-- The strap pins (R455). -/
  strapBootSrc : Nat := 0
  strapMportEn : Bool := false
  strapI3cAddr : Nat := 0
  deriving DecidableEq, Repr

/-- Mode and reset sequencing beside CHIP_MODE (R21, R26, R28 to R33, R345). -/
structure ModeState where
  /-- A keyed CHIP_RESET write has been taken and its cold reset is 1 µs away. -/
  resetScheduled : Bool := false
  /-- In RESET after a loss of VAUX with the main rails up, waiting for VAUX to return (R28). -/
  vauxWait : Bool := false
  /-- Held in reset by BELOW_RESET as if PWRON_RESET_N were low (R345 Table 2). -/
  busHold : Bool := false
  /-- Firmware runs; false while the boot ROM runs or the firmware does not. -/
  fwRunning : Bool := false
  /-- The running firmware came from the pending slot (R21, R428). -/
  fwFromPending : Bool := false
  /-- The identity key has been derived since the cold boot (R433). -/
  identityReady : Bool := false
  /-- The seed is read-locked (R428). -/
  seedLocked : Bool := false
  /-- The full self-test of the SRAM and the Keep stack has passed since the cold boot (R428 step 6). -/
  selfTested : Bool := false
  deriving DecidableEq, Repr

/-- CHIP_TIME and CHIP_BEAT beside their registers (R23 to R25). -/
structure TimeState where
  /-- Ticks to withhold at the next beat (R25). -/
  withheld : Nat := 0
  /-- Ticks of the slew still to be added (positive) or withheld (negative). -/
  slew : Int := 0
  deriving DecidableEq, Repr

/-- Sensor conditions that stand until reset (R13). -/
structure SensorState where
  hold8 : Bool := false
  hold75 : Bool := false
  /-- Sensors that fail their self-check, bit n for sensor n. -/
  failed : Nat := 0
  deriving DecidableEq, Repr

/-- What the collector keeps for one source (R391). -/
structure SrcState where
  pending : Bool := false
  recSev : Nat := 0
  flacons : BitVec 32 := 0
  nofl : Bool := false
  escCount : Nat := 0
  /-- The rail bit of FC_RAIL. -/
  rail : Bool := false
  /-- A rail fault stands now. -/
  railNow : Bool := false
  total : Nat := 0
  deriving DecidableEq, Repr

/-- A hold of the always-on domain (R387). -/
structure HeldSrc where
  count : Nat
  time : Nat
  deriving DecidableEq, Repr

/-- A log entry (R395 Table 4). -/
structure LogEntry where
  time : Nat
  source : Nat
  severity : Nat
  rail : Bool
  escalated : Bool
  flacon : Option FlaconIx
  mode : Nat
  deferred : Bool
  addr : Nat
  deriving DecidableEq, Repr

/-- A SEVERITY record in force (R49, R382). -/
structure SevRec where
  first : Nat
  last : Nat
  severity : Nat
  escalate : Nat
  railSev : Nat
  deriving DecidableEq, Repr

/-- The fault collector (R381 to R396) and the fence bus (R18). -/
structure FaultState where
  src : Tab SrcState := []
  sev : List SevRec := []
  log : List LogEntry := []
  held : Tab HeldSrc := []
  /-- Occurrences raised and not yet taken by the collector. -/
  raised : List Occ := []
  /-- Notices raised on the fence bus and not yet applied. -/
  notices : List Notice := []
  /-- The collector runs; stopped in OFF, RESET, RETAIN and FROZEN (R386), and until its first MCLK after them. -/
  running : Bool := false
  /-- QUARANTINE has been entered since the last reset: a pending S3 fault (R391); CHIP_TIME at its entry. -/
  quar : Bool := false
  quarAt : Option Nat := none
  /-- A watchdog expiry is among the occurrences that the collector takes now (R21, R31). -/
  wdog : Bool := false
  /-- FAULT_N and ALERT_N driven low (R393, R394); held in FROZEN. -/
  faultLow : Bool := false
  alertLow : Bool := false
  deriving DecidableEq, Repr

/-- Freeze, capture and JTAG (R399 to R404). -/
structure FreezeState where
  /-- Segments of the transfer that runs, lowest first. -/
  capSegs : List Nat := []
  /-- The instruction in the JTAG instruction register, by its IEEE 1149.1 name. -/
  jtag : JtagInstr := .idcode
  /-- Boundary register, as last preloaded. -/
  boundary : List Bool := []
  deriving DecidableEq, Repr

/-- One Sillage entry (R406 Table 8). -/
structure SilEntry where
  time : Nat
  port : Nat
  point : Nat
  mc : Nat
  flacon : Nat
  tent : Bool
  poison : Bool
  tailBad : Bool
  uvc : Bool
  addr : Nat
  opcode : Nat
  io : Bool
  priv : Nat
  svc : Nat
  srcEid : Nat
  dstEid : Nat
  tag : Nat
  cells : Nat
  lost : Nat
  data : Word
  deriving DecidableEq, Repr

/-- The FIFO of one quadrant (R405 to R409). -/
structure SilFifo where
  entries : List SilEntry := []
  /-- Entries dropped since the last one written. -/
  lost : Nat := 0
  /-- CHIP_TIME of the last entry written, and the entries written at it (R405). -/
  stamp : Nat := 0
  taken : Nat := 0
  deriving DecidableEq, Repr

/-- A lower half held for its upper half: its register, its value, and whether another write by the path has come between
(R5). -/
structure HeldHalf where
  addr : Nat
  low : Nat
  broken : Bool := false
  deriving DecidableEq, Repr

/-- Register access beside the registers (R5). -/
structure IoState where
  /-- Read latches, by path: register address and the latched upper half. -/
  latch : Tab (Nat × Nat) := []
  /-- Write holds, by path. -/
  hold : Tab HeldHalf := []
  /-- MSI-X tables written, 32-bit words by address / 4 of the model's one address space: of the engine functions (R182) and
  of MPORT (R416). -/
  msixTab : Tab (BitVec 32) := []
  deriving DecidableEq, Repr

/-! ### The Formula (02) -/

/-- DEVICE (R47). -/
structure DeviceRec where
  switchId : Nat := 0
  mgmtEid : Nat := 0
  fcPinLevel : Nat := 2
  alertLevel : Nat := 1
  pwrwarnMv : Nat := 10800
  resetMv : Nat := 9000
  rideUs : Nat := 0
  holdupUs : Nat := 0
  vauxHours : Nat := 0
  drainMs : Nat := 1
  deriving DecidableEq, Repr

/-- ARBITER (R48). -/
structure ArbiterRec where
  planeN : Nat := 4
  sliceN : Nat := 4
  keepN : Nat := 4
  deriving DecidableEq, Repr

/-- DELEGATION (R57). -/
structure DelegRec where
  path : Nat
  eid : Nat
  groups : Nat
  flacons : Nat
  deriving DecidableEq, Repr

/-- FLACON (R50). -/
structure FlaconRec where
  index : Nat
  durability : Nat := 0
  topnoteEn : Bool := false
  watchEn : Bool := false
  p1Allowed : Bool := false
  cellsGuar : Nat := 0
  /-- CELLS_ALPHA, signed. -/
  cellsAlpha : Int := 0
  spillGuar : Nat := 0
  dirSets : Nat := 0
  accordTrackers : Nat := 0
  accordSlots : Nat := 0
  sliceMask : Nat := 0
  stageLines : Nat := 0
  retainReserve : Nat := 0
  regionQuota : Nat := 0
  serviceMap : Nat := 0
  topnoteRate : Nat := 0
  topnoteBurst : Nat := 0
  mirrorMbps : Nat := 0
  /-- NAME, 16 bytes: informational, but a record that differs in it differs (R62). -/
  name : Nat := 0
  deriving DecidableEq, Repr

/-- PROTOCOL of a port (R51). -/
inductive Protocol where
  | cxl | pcie | ictil | flocet
  deriving DecidableEq, Repr

/-- ROLE of a port (R51). -/
inductive Role where
  | upstream | downstream | fabric
  deriving DecidableEq, Repr

/-- PORT (R51). -/
structure PortRec where
  port : Nat
  /-- 0xFF for Ictil and Flocet ports, which all Flacons share. -/
  flacon : Nat
  firstLane : Nat
  width : Nat
  protocol : Protocol
  role : Role
  maxRate : Nat
  anchored : Bool := false
  sparing : Bool := false
  dateline : Bool := false
  hotplug : Bool := false
  laneReverse : Bool := false
  ideRequired : Bool := false
  gpf : Bool := false
  cableM : Nat := 0
  lingerMs : Nat := 0
  /-- 0xFF for none. -/
  slot : Nat := 0xFF
  lingerCap : Nat := 0
  txPolarity : Nat := 0
  rxPolarity : Nat := 0
  partnerId : Nat := 0
  deriving DecidableEq, Repr

/-- One way of a decoder (R53). -/
structure DecTarget where
  eid : Nat
  /-- A downstream port, or 0xFF for a remote endpoint reached by ROUTE. -/
  port : Nat
  ld : Nat
  /-- DPA offset in units of 256 MiB. -/
  dpa : Nat
  deriving DecidableEq, Repr

/-- DECODER (R53). -/
structure DecoderRec where
  index : Nat
  flacon : Nat
  shared : Bool
  persistent : Bool
  gpfProtected : Bool
  gran : Nat
  base : Nat
  size : Nat
  targets : List DecTarget
  deriving DecidableEq, Repr

/-- BINDING (R54). -/
structure BindingRec where
  flacon : Nat
  usp : Nat
  dsp : Nat
  ld : Nat
  vppb : Nat
  deriving DecidableEq, Repr

/-- REGION (R54). -/
structure RegionRec where
  index : Nat
  flacon : Nat
  ns : Bool
  perms : Nat
  start : Nat
  stop : Nat
  deriving DecidableEq, Repr

/-- ROUTE (R54). -/
structure RouteRec where
  first : Nat
  last : Nat
  ports : List Nat
  deriving DecidableEq, Repr

/-- WFQ (R55). -/
structure WfqRec where
  port : Nat
  flacon : Nat
  weight : Nat
  weightMin : Nat
  weightMax : Nat
  deriving DecidableEq, Repr

/-- SHAPER (R55). -/
structure ShaperRec where
  port : Nat
  flacon : Nat
  rate : Nat
  burst : Nat
  maxRate : Nat
  deriving DecidableEq, Repr

/-- One time-gate entry (R55). -/
structure GateEntry where
  start : Nat
  classes : Nat
  len : Nat
  deriving DecidableEq, Repr

/-- TIMEGATE (R55). -/
structure GateRec where
  port : Nat
  cycle : Nat
  entries : List GateEntry
  deriving DecidableEq, Repr

/-- SLOTPOWER (R56). -/
structure SlotPowerRec where
  channel : Nat
  retries : Nat
  extDiode : Bool
  autoOn : Bool
  ramp : Nat
  limit : Nat
  faultUs : Nat
  shunt : Nat
  fetRth : Nat
  fetCth : Nat
  fetTmax : Nat
  vout : Nat
  pgQual : Nat
  deriving DecidableEq, Repr

/-- A whole Formula, as its records stand in file order within each type. -/
structure Formula where
  generation : Nat := 0
  digest : Line := 0
  device : DeviceRec := {}
  arbiter : ArbiterRec := {}
  severity : List SevRec := []
  deleg : List DelegRec := []
  flacons : List FlaconRec := []
  ports : List PortRec := []
  decoders : List DecoderRec := []
  bindings : List BindingRec := []
  regions : List RegionRec := []
  routes : List RouteRec := []
  wfq : List WfqRec := []
  shapers : List ShaperRec := []
  gates : List GateRec := []
  slots : List SlotPowerRec := []
  deriving DecidableEq, Repr

/-- The Formula in force and the commit machinery (R39, R41, R61 to R64). -/
structure FormulaState where
  /-- The Formula in force; none until one has been applied in COMPOSE (R37). -/
  inForce : Option Formula := none
  /-- The slot in force (0 is A). -/
  slot : Nat := 0
  /-- The Formula that the RECOMPOSE in progress applies, and its slot. -/
  next : Option (Formula × Nat) := none
  /-- A LIVE commit to repeat after REVIVE reaches SERVE: its slot (R64). -/
  repeatLive : Option Nat := none
  /-- Ports whose first training attempt the RETRAIN step waits for. -/
  retrain : List Nat := []
  deriving DecidableEq, Repr

/-! ### Messages, cells and queues (03) -/

/-- Where an admitted cell's slot is charged (R84, R87). -/
inductive Tier where
  | fast | spill | resp | writeback | prefetch
  deriving DecidableEq, Repr

/-- A cell (R65).  A BODY or TAIL cell keeps its message's header, which its HEAD carries. -/
structure Cell where
  kind : Kind
  msg : Msg
  /-- The further messages of a PACKED cell, in entry order. -/
  more : List Msg := []
  index : Nat := 0
  seq : Nat := 0
  /-- Source: tile 0 to 63, or 64 + slice. -/
  src : Nat
  /-- Destination: port 0 to 127, or 128 + slice. -/
  dst : Nat
  tailBad : Bool := false
  tier : Tier := .fast
  line : Option Line := none
  /-- ECC state of the buffer slot: header uncorrectable, payload uncorrectable. -/
  hdrUe : Bool := false
  payUe : Bool := false
  /-- The buffer slot that holds it or is kept for it (R69): a fast slot, or 2^20 + spill slot; none for a cell without
  one. -/
  slot : Option Nat := none
  /-- The chip port by which its message came in; none from a slice or an engine (R72). -/
  inPort : Option Nat := none
  deriving DecidableEq, Repr

/-- A DRAIN cell (R80): the fence's plane and kind, and for each class the highest SEQ sent on that plane. -/
structure DrainCell where
  plane : Nat
  fault : Bool
  high : List (Option Nat)
  deriving DecidableEq, Repr

/-- What travels on a plane. -/
inductive Flight where
  | cell (c : Cell)
  | drain (d : DrainCell)
  deriving DecidableEq, Repr

/-- A stream: its state at the source and at its resequencer (R77 to R79). -/
structure Stream where
  /-- Next SEQ; not reduced modulo 4,096 (cells carry it reduced). -/
  next : Nat := 0
  /-- Cells sprayed whose release has not returned to the source. -/
  out : Nat := 0
  /-- Between the HEAD and the TAIL of a multi-cell message. -/
  busy : Bool := false
  /-- The last number sent on each plane. -/
  lastOn : Tab Nat := []
  /-- Cells granted and not yet sprayed. -/
  backlog : List Cell := []
  /-- The lowest number not released at the resequencer. -/
  want : Nat := 0
  /-- Cells held for reordering, with their full numbers. -/
  held : Tab Cell := []
  /-- Numbers skipped and not yet passed. -/
  skip : List Nat := []
  /-- Releases not yet returned. -/
  back : Nat := 0
  /-- The HEAD of the multi-cell message being linked and the number of its TAIL; whether one of its cells was skipped. -/
  cur : Option (Cell × Nat) := none
  gap : Bool := false
  /-- The message being linked has been flushed: its later cells are discarded as they arrive (R93). -/
  cut : Bool := false
  deriving DecidableEq, Repr

/-- One expected DRAIN exchange of a fence: source, destination unit, planes arrived, values. -/
structure DrainWait where
  src : Nat
  unit : Nat
  got : Nat := 0
  high : List (Option Nat) := []
  deriving DecidableEq, Repr

/-- A standing fence of a plane (R80, R81). -/
structure PlaneFence where
  fault : Bool
  /-- The sources have taken the notice and sent the DRAIN cells of this fence. -/
  noticed : Bool := false
  /-- The sources do not spray to the plane. -/
  stopped : Bool := false
  /-- XB_PLANE_LOST or XB_PLANE_FENCED has been raised for it. -/
  raised : Bool := false
  /-- The plane is in use again, and this fence's DRAIN exchange goes on. -/
  lifted : Bool := false
  /-- Planes on which the DRAIN cells were sent. -/
  planes : Nat := 0
  waits : List DrainWait := []
  skipped : Nat := 0
  deriving DecidableEq, Repr

/-- A message that waits whole (R70), and its destination. -/
structure Waiting where
  msg : Msg
  more : List Msg := []
  dst : Nat
  /-- Where it waits: an ingress port, or 128 + slice. -/
  place : Nat := 0
  /-- The sub-channel whose receive storage of a fabric port it stays in. -/
  rx : Option Nat := none
  /-- It has no ingress tag yet (R66). -/
  noTag : Bool := false
  /-- The later cells of a multi-cell message that has come whole. -/
  body : List (Option Line × Bool) := []
  /-- Its number in the order in which messages came to wait (R158). -/
  no : Nat := 0
  /-- A read that is still to be cut at region boundaries, once it has a tag (R236). -/
  split : Bool := false
  deriving DecidableEq, Repr

/-- A multi-cell message whose cells are still arriving at an ingress port. -/
structure Arriving where
  msg : Msg
  dst : Nat
  /-- Next cell's index. -/
  next : Nat := 1
  tier : Tier := .fast
  /-- Admitted; otherwise it waits, or its cells are discarded. -/
  admitted : Bool := false
  /-- TL_CTL.CT_EN when its head arrived (R71). -/
  ct : Bool := true
  /-- Buffer slots kept for the cells still to come. -/
  slots : List Nat := []
  discard : Bool := false
  /-- Cells received while the message waits or is held (R70, R71), with a bad mark each. -/
  got : List (Option Line × Bool) := []
  /-- The allowed parts of a straddling write, sent when its data is complete (R235). -/
  parts : List (Nat × Msg) := []
  /-- The Sillage entry under construction, with the time of the head (R405). -/
  sil : Option SilEntry := none
  deriving DecidableEq, Repr

/-- An open packed cell of a tile (R68): 1 to 3 messages so far. -/
structure PackOpen where
  dst : Nat
  msgs : List Msg
  deriving DecidableEq, Repr

/-- The ingress tag of an outstanding request (R66, R175, R231). -/
structure TagRec where
  flacon : Nat
  epoch : Nat
  op : Nat
  io : Bool
  addr : Nat
  len : Nat := 64
  srcEid : Nat
  /-- The requester's own tag on its link. -/
  ltag : Nat := 0
  /-- Responses still to be sent. -/
  need : Nat := 1
  /-- Addresses of the completions of a split read not yet linked, in order, and completions that came early (R236). -/
  order : List Nat := []
  early : List Cell := []
  deriving DecidableEq, Repr

/-- An outbound record of a fabric port's link tag or a standard port's message (R283, R311); FREE ones are not
listed. -/
structure OutRec where
  msg : Msg
  dropped : Bool := false
  /-- FSEQ of the flit that carried it. -/
  fseq : Nat := 0
  /-- Answers still expected. -/
  left : Nat := 1
  deriving DecidableEq, Repr

/-- Confirm gate entry states of R174 Table 2; FREE entries are not listed. -/
inductive GateSt where
  | held | earlyC | earlyX | orphan
  deriving DecidableEq, Repr

/-- A confirm gate entry. -/
structure GateEnt where
  st : GateSt
  addr : Nat
  cell : Option Cell := none
  /-- CHIP_BEAT when it was held. -/
  since : Nat := 0
  deriving DecidableEq, Repr

/-- The use of the cell buffer (R84, R87). -/
structure BufState where
  /-- U_f and V_f. -/
  fast : Tab Nat := []
  spill : Tab Nat := []
  /-- Response reserve cells in use, by port, and by 128 + slice. -/
  resp : Tab Nat := []
  /-- Snoop-writeback reserve cells in use, by slice (R85). -/
  wb : Tab Nat := []
  /-- Cells in the prefetch window, by port. -/
  pre : Tab Nat := []
  /-- Slots in use or kept for a cell, and the Flacon each is charged to: fast slots, and spill slots from 2^20 on (R34,
  R69). -/
  slots : Tab Nat := []
  deriving DecidableEq, Repr

/-- The switch core. -/
structure CoreState where
  /-- Queues by number (R83), head first. -/
  queues : Tab (List Cell) := []
  /-- Streams, by (source × 128 + destination unit) × 8 + class; units are tiles 0 to 63 and 64 + slice. -/
  streams : Tab Stream := []
  /-- Cells on planes, oldest first, by (plane × 128 + source) × 128 + unit. -/
  flight : Tab (List Flight) := []
  /-- The next plane of each source's rotation. -/
  pointer : Tab Nat := []
  /-- Units each source has sent to since the plane was last unfenced, by plane × 128 + source. -/
  sent : Tab (List Nat) := []
  fences : Tab PlaneFence := []
  buf : BufState := {}
  /-- Waiting messages, by ingress port × 8 + class; slices as 128 + slice in place of the port. -/
  wait : Tab (List Waiting) := []
  /-- The number that the next message to wait gets. -/
  waitNo : Nat := 0
  /-- Multi-cell messages arriving, by port × 8 + class. -/
  arriving : Tab Arriving := []
  pack : Tab (List PackOpen) := []
  /-- Ingress tags, by port × 4096 + tag. -/
  tags : Tab TagRec := []
  /-- Outbound records, by port × 4096 + link tag. -/
  otags : Tab OutRec := []
  /-- Confirm gate entries, by port × 4096 + tag. -/
  gate : Tab GateEnt := []
  /-- Posted writes to slices whose CMP has not returned, by port: slice and count (R158). -/
  posted : Tab (List Nat) := []
  /-- Admissions of the beat in progress, by tile: beat and count (R74). -/
  thr : Tab (Nat × Nat) := []
  deriving DecidableEq, Repr

/-! ### Arbitration and scheduling (04) -/

/-- A common arbiter (R99): loss counts and ages by requester, the rotation list, the grant count. -/
structure ArbState where
  list : List Nat := []
  loss : Tab Nat := []
  age : Tab Nat := []
  count : Nat := 0
  fallback : Bool := false
  resync : Bool := false
  /-- Last owner, on which the grant parks. -/
  owner : Option Nat := none
  /-- The grant is parked: the last round saw no requester beside the owner (R103). -/
  parked : Bool := true
  /-- The park is to be evaluated anew: a BASE of its owner has been written (R104). -/
  reeval : Bool := false
  /-- The requester whose LAST unit is granted now: it has no part in the next decision (R102). -/
  done : Option Nat := none
  grants : Nat := 0
  starve : Nat := 0
  voids : Nat := 0
  maxWait : Nat := 0
  parkedUses : Nat := 0
  deriving DecidableEq, Repr

/-- Fair queueing of one Flacon on one port (R109 to R111). -/
structure WfqEnt where
  weight : Nat := 1
  weightMin : Nat := 1
  weightMax : Nat := 4095
  tag : Nat := 0
  /-- Held no eligible queue at its last consideration (R110). -/
  blocked : Bool := false
  deriving DecidableEq, Repr

/-- A shaper (R113 to R116); tokens in 1/65,536 byte. -/
structure Shaper where
  rate : Nat := 0
  burst : Nat := 0
  maxRate : Nat := 0
  /-- A rate or burst that waits for the next refill (R115). -/
  pendRate : Option Nat := none
  pendBurst : Option Nat := none
  tokens : Int := 0
  last : Nat := 0
  /-- The beat at which its wheel slot fires; the slot is its low 16 bits. -/
  slot : Option Nat := none
  deriving DecidableEq, Repr

/-- Scheduling of one port. -/
structure SchedPort where
  vtime : Nat := 0
  wfq : Tab WfqEnt := []
  shapers : Tab Shaper := []
  /-- The last Flacon served with MC0 (R108).  DESIGN CHOICE (log entry 69): the rotation starts at Flacon 0. -/
  mc0Last : Nat := 31
  /-- Times an eligible queue has been passed over, by Flacon × 8 + class (R108). -/
  passed : Tab Nat := []
  /-- The queue whose started multi-cell message holds the port (R112): Flacon, class, source. -/
  hold : Option (Nat × Nat × Nat) := none
  /-- The heads that wait for a window of their class and have been counted: queue, source, SEQ (R120). -/
  gateHeld : List (Nat × Nat × Nat) := []
  gates : List GateEntry := []
  /-- Sillage entries under construction, by (Flacon × 8 + class) × 128 + source. -/
  sil : Tab SilEntry := []
  /-- Multi-cell messages found bad after some of their cells have gone on a link, by (Flacon × 8 + class) × 128 + source:
  their TAIL is to be marked (R75). -/
  badMsg : List Nat := []
  /-- The SHORT words and the UNGATED mask that the next cycle start puts in force: entries long enough again wait for it
  (R122). -/
  gateBack : Option (List Nat × Nat) := none
  /-- The gate table has gone live and its origin awaits the first beat boundary (R117). -/
  gateNew : Bool := false
  deriving DecidableEq, Repr

structure SchedState where
  /-- Arbiters: plane output n × 128 + output at 0 to 1023; slice at 1024 + slice; Keep channel at 1088 + channel. -/
  arb : Tab ArbState := []
  /-- Bytes granted in the window in progress, by Keep channel × 8 + share (R101). -/
  keepUsed : Tab Nat := []
  /-- Spill accesses of the Keep windows in progress, by channel (R35, R88). -/
  spillUsed : Tab Nat := []
  /-- The Flacon that had the last turn of the spill accesses (R86). -/
  spillTurn : Nat := 31
  port : Tab SchedPort := []
  /-- Topnote policer tokens, by Flacon × 64 + slice (R125). -/
  topnote : Tab Nat := []
  /-- The beat from which a Flacon's present 100 beats are counted (R125). -/
  topnoteFrom : Tab Nat := []
  /-- Mirror policer tokens by Flacon, in 1/800 byte; full where not listed (R126). -/
  mirror : Tab Nat := []
  deriving DecidableEq, Repr

/-! ### Access control (08) -/

/-- A region entry (R226 Table 4) as it should read. -/
structure RegionEnt where
  flacon : Nat
  ns : Bool
  start : Nat
  stop : Nat
  perms : Nat
  epoch : Nat
  deriving DecidableEq, Repr

/-- One generation of a Flacon's decoders and bindings (R233). -/
structure DecGen where
  decoders : List DecoderRec := []
  bindings : List BindingRec := []
  deriving DecidableEq, Repr

/-- Access control of one Flacon. -/
structure FlAccess where
  cur : DecGen := {}
  old : DecGen := {}
  /-- The epoch at which the current generation became current. -/
  changedAt : Nat := 0
  /-- Outstanding accesses, by epoch (R231). -/
  outst : Tab Nat := []
  deriving DecidableEq, Repr

structure AccessState where
  /-- Tiles, slices and Flacons whose FENCE_TILE, FENCE_SLICE and FENCE_FLACON have been applied, and QUARANTINE's
  containment (R18, R20). -/
  fencedTiles : List Nat := []
  fencedSlices : List Nat := []
  fencedFlacons : List Nat := []
  contained : Bool := false
  regions : Tab RegionEnt := []
  /-- Uncorrectable entries: quadrant copy and index (R225). -/
  bad : List (Nat × Nat) := []
  /-- Region caches of the tiles, most recently used first. -/
  cache : Tab (List Nat) := []
  fl : Tab FlAccess := []
  deriving DecidableEq, Repr

/-! ### Home slices (05, 06) -/

/-- A directory entry (R134, R135).  An entry in state I is not listed. -/
structure DirEnt where
  /-- STATE: 1 to 4 for S1 to S4, 5 SG, 6 A. -/
  st : Nat
  tag : Nat
  /-- PTR0 on. -/
  ptrs : List Nat := []
  /-- GROUPS, in state SG. -/
  groups : Nat := 0
  deriving DecidableEq, Repr

/-- A frame of the hot tier (R138): the set it holds, its last use, whether its contents have changed. -/
structure Frame where
  set : Nat
  used : Nat := 0
  dirty : Bool := false
  deriving DecidableEq, Repr

/-- A set of the directory: its entries by way, and each way's last use. -/
structure DirSet where
  ways : Tab DirEnt := []
  used : Tab Nat := []
  deriving DecidableEq, Repr

/-- What a tracker waits for (R138, R139, R156, R149). -/
inductive TrkPhase where
  /-- The backing set is being read. -/
  | reading
  /-- Its eviction frees a way. -/
  | way
  /-- In the victim-overflow queue. -/
  | voq
  /-- The directory has answered; snoops and memory reads are out. -/
  | active
  /-- The grant has been made and the line released; a memory read is still to come back. -/
  | granted
  /-- An I/O request between two of its lines, which waits for room in the conflict store (R143, R158): it holds no line. -/
  | between
  deriving DecidableEq, Repr

/-- A transaction tracker (R143, R144). -/
structure Tracker where
  id : Nat
  /-- The line's address, its set in the slice and its tag. -/
  line : Nat
  set : Nat
  tag : Nat
  flacon : Nat
  /-- The request it holds, and the buffer cell of its data. -/
  req : Msg
  cell : Option Cell := none
  ph : TrkPhase := .reading
  /-- It evicts the line for another request (R156). -/
  evict : Bool := false
  /-- The way it has taken for the line. -/
  way : Option Nat := none
  /-- Endpoints whose answers it waits for. -/
  waits : List Nat := []
  /-- The recorded owner it has snooped. -/
  owner : Option Nat := none
  /-- The owner's data, and whether it is poisoned (R151). -/
  ownerData : Option (Line × Bool) := none
  /-- The owner kept a clean shared copy. -/
  ownerKeeps : Bool := false
  /-- The owner answered RSP_I_WB and its data has not come. -/
  wbComing : Bool := false
  /-- The owner's copy was lost (R160). -/
  lost : Bool := false
  /-- The request completes with GO_ERR and poison (R140, R163). -/
  bad : Bool := false
  /-- The grant needs memory data; a MEM_RD is outstanding; its data. -/
  needMem : Bool := false
  memOut : Bool := false
  memData : Option (Line × Bool) := none
  /-- The MEM_RD was a Topnote (R168); its data went out tentative and no notice has been sent. -/
  topnote : Bool := false
  tentSent : Bool := false
  deriving DecidableEq, Repr

/-- A snoop record (R143): the snoop's line and endpoint; whether it holds a cell of the snoop-writeback reserve (R85). -/
structure SnoopRec where
  line : Nat
  flacon : Nat
  eid : Nat
  reserve : Bool
  /-- A writeback cell has been charged to that reserve cell. -/
  charged : Bool := false
  /-- It went to the line's recorded owner; the owner's data has been taken (R151). -/
  owner : Bool := false
  taken : Bool := false
  /-- The port it left by (R160). -/
  port : Option Nat := none
  deriving DecidableEq, Repr

/-- A line that is write-pending (R148): the data of the cell that carried it, and what its end answers. -/
structure WritePend where
  line : Nat
  flacon : Nat
  epoch : Nat
  data : Line
  poison : Bool
  /-- The answer sent when the write ends: the request it answers. -/
  answer : Option Msg := none
  /-- It is a WR_FULL, answered GO_ERR on an error; otherwise a writeback. -/
  full : Bool := false
  /-- The second, poisoned write is under way. -/
  retry : Bool := false
  /-- The cell is charged to the snoop-writeback reserve. -/
  reserve : Bool := false
  /-- The buffer cell that holds the data, as charged. -/
  cell : Option Cell := none
  /-- A sealed line written from its staging slot: the SEQ of its Accord (R200). -/
  sealSeq : Option Nat := none
  deriving DecidableEq, Repr

/-- A request in the conflict store, with the buffer cell of its data. -/
structure SliceReq where
  msg : Msg
  cell : Option Cell := none
  deriving DecidableEq, Repr

/-- One home slice. -/
structure SliceState where
  sets : Tab DirSet := []
  /-- Hot-tier frames, by group × 8 + frame. -/
  frames : Tab Frame := []
  /-- A count of lookups, which dates uses. -/
  tick : Nat := 0
  trackers : List Tracker := []
  /-- The conflict store, oldest first. -/
  conflict : List SliceReq := []
  /-- The next tracker's number. -/
  nextId : Nat := 0
  snoops : List SnoopRec := []
  pend : List WritePend := []
  /-- Writes that wait for an earlier write of their line. -/
  later : List WritePend := []
  /-- The seen map: endpoint and the Flacon it was recorded for. -/
  seen : Tab Nat := []
  /-- Sets with an uncorrectable entry (R140). -/
  bad : List Nat := []
  /-- Snoops held for a record, a reserve cell or a grant's TX_DONE (R85, R137, R152). -/
  held : List Msg := []
  /-- Grants marked for notice and not yet transmitted: line and endpoint (R152). -/
  notices : List (Nat × Nat) := []
  /-- The resequencer's counts of numbers skipped and of cells discarded (R79, R81). -/
  reseqSkip : Nat := 0
  reseqRange : Nat := 0
  deriving DecidableEq, Repr

/-! ### Accords (07) -/

/-- Where an Accord stands, from the grant of its tracker on (R184 Table 3). -/
inductive AcPhase where
  | opened | queued | prepare | sealing | persist
  deriving DecidableEq, Repr

/-- A mark of an Accord on a line (R190 to R193). -/
structure Mark where
  line : Nat
  sln : Nat
  slice : Nat
  set : Nat
  tag : Nat
  /-- A stage mark; otherwise a watch mark. -/
  staged : Bool
  /-- The staging slot holds the line's value, with the written bytes merged in. -/
  filled : Bool := false
  data : Line := 0
  /-- Bytes written, laid over the committed value when it comes. -/
  be : BitVec 64 := 0
  slot : Nat := 0
  epoch : Nat := 0
  /-- Pinned by PREPARE, until its flip (R202). -/
  pinned : Bool := false
  /-- Endpoints whose answers to the SNP_INV of PREPARE are awaited, and the owner among them. -/
  waits : List Nat := []
  owner : Option Nat := none
  deriving DecidableEq, Repr

/-- A tracker of the Accord engine. -/
structure Accord where
  /-- The open sequence number (R196), by which messages of the Accord name it; none until the tracker is granted. -/
  age : Option Nat := none
  flacon : Nat
  /-- Port × 64 + slot; none once the engine function has been reset (R209). -/
  place : Option Nat
  ph : AcPhase := .opened
  watch : Bool := false
  /-- NOTIFY in force (R185). -/
  notify : Bool := false
  window : Nat := 0
  marks : List Mark := []
  /-- Alias lines sent to slices whose stage notice has not returned, and those of them staged or discarded (R198). -/
  out : Nat := 0
  ready : Nat := 0
  /-- RETAIN_RESERVE slots charged, and staging slots of the commit record. -/
  charge : Nat := 0
  recSlots : List Nat := []
  /-- Slices still to take PREPARE; that have; that have answered READY. -/
  asked : List Nat := []
  taken : List Nat := []
  answered : List Nat := []
  /-- Slices that cannot prepare for a cause of their own (R199), with the line. -/
  refused : List (Nat × Nat) := []
  /-- The commit record is written; slices still to take FLIP; that have, and whose acknowledgement is to come. -/
  recorded : Bool := false
  flips : List Nat := []
  acks : List Nat := []
  seq : Nat := 0
  /-- The epoch it counts as an access of, from PREPARE to the end of its seal (R208). -/
  epoch : Option Nat := none
  deriving DecidableEq, Repr

/-- A sealed line whose MEM_CMP has not returned. -/
structure SealedLine where
  line : Nat
  sln : Nat
  slice : Nat
  slot : Nat
  data : Line
  poison : Bool := false
  epoch : Nat := 0
  /-- Its flip has been taken: the slice writes it. -/
  flipped : Bool := false
  deriving DecidableEq, Repr

/-- A sealed Accord with lines not yet written, and its commit record (R203). -/
structure Sealed where
  seq : Nat
  /-- Durability class 0 to 2. -/
  cls : Nat
  flacon : Nat
  tracker : Nat
  /-- Staging slots of the record. -/
  recSlots : List Nat := []
  charge : Nat := 0
  /-- n and CHIP_TIME at seal. -/
  count : Nat
  time : Nat
  lines : List SealedLine
  /-- The commit record, one line for each of its slots; none for class D0. -/
  record : List Line := []
  /-- The staging slots that the record names: none of them is reallocated while it is held (R364). -/
  names : List Nat := []
  deriving DecidableEq, Repr

/-- An alias TLP that waits for its slot's tracker (R186). -/
structure AliasTlp where
  write : Bool
  offset : Nat
  bytes : List Byte := []
  len : Nat := 0
  ltag : Nat := 0
  env : LookupEnv := {}
  /-- Its TEE attribute (R218). -/
  tee : Bool := false
  /-- A staging slot that it reads or merges into is uncorrectable (R207). -/
  ue : Bool := false
  deriving DecidableEq, Repr

/-- The Accord engine and the staging partition of the Keep stack. -/
structure AccordState where
  /-- The tracker of each slot in OPEN to PERSIST, by port × 64 + slot. -/
  slots : Tab Nat := []
  /-- Alias TLPs that wait, by port × 64 + slot. -/
  waits : Tab (List AliasTlp) := []
  trk : Tab Accord := []
  nextAge : Nat := 0
  /-- The state of each staging slot in use: 1 data, 2 record head, 3 record body (R203). -/
  stage : Tab Nat := []
  /-- Sealed Accords not yet written out, in SEQ order. -/
  seals : List Sealed := []
  /-- Trackers in QUEUED, in the order of their COMMITs; those of them that are ready, in the order in which they became so
  (R198). -/
  commitQ : List Nat := []
  readyQ : List Nat := []
  /-- Slices where an abort has released marks (R207): what waited there goes on at the end of the command. -/
  wake : List Nat := []
  deriving DecidableEq, Repr


/-! ### Lanes (09) -/

/-- A lane beside its registers. -/
structure LaneState where
  /-- STS shown for each tap, C(−2) first (R251). -/
  sts : List Nat := [0, 0, 0, 0]
  /-- The last IDENT frame, how many like it have come in a row, and whether the partner has acknowledged (R252). -/
  ident : Option IdentFrame := none
  identCount : Nat := 0
  identAck : Bool := false
  /-- The lane has completed IDENT, or has left the attempt. -/
  identDone : Bool := false
  leftAttempt : Bool := false
  /-- The level of the re-tune in progress, 0 for none, and its cause (R260). -/
  level : Nat := 0
  cause : Nat := 0
  /-- Consecutive measurements below, and not below, a minimum. -/
  lows : Nat := 0
  goods : Nat := 0
  /-- No re-tune of level 1 or 2 starts until margins recover or a temperature or host trigger fires (R260). -/
  stuck : Bool := false
  /-- A trigger that waits (R258, R261). -/
  waiting : Option Nat := none
  /-- Trigger 3 has asked for a measurement at once (R259). -/
  loadDue : Bool := false
  /-- A host margining run: under way, or waiting for a level to end; the level that follows waits for it (R258, R261). -/
  hostRun : Bool := false
  hostWait : Bool := false
  levelHeld : Bool := false
  /-- The setup a LINKTEST run took when it started, and whether its checker counts (R267). -/
  test : Option Word := none
  counting : Bool := false
  deriving DecidableEq, Repr


/-! ### Ictil and Flocet links (10) -/

/-- A cell placed in a flit slot: its sub-channel and whether it uses the shared pool. -/
structure SlotOut where
  cell : Cell
  sub : Nat
  pool : Bool
  deriving DecidableEq, Repr

/-- A stored flit (R279): its FSEQ, slots and bypass content. -/
structure FlitRec where
  fseq : Nat
  slots : List SlotOut := []
  bypass : Option Bypass := none
  deriving DecidableEq, Repr

/-- A cell in receive storage: its sub-channel, whether it holds a pool cell. -/
structure RxCell where
  sub : Nat
  pool : Bool
  slot : SlotIn
  /-- Parsed and checked; its message waits (R70). -/
  taken : Bool := false
  /-- Further messages of a PACKED cell that have not left it (R66). -/
  left : Nat := 0
  deriving DecidableEq, Repr

/-- One link layer session (R272 to R295). -/
structure LinkState where
  txNext : Nat := 0
  acked : Option Nat := none
  stored : List FlitRec := []
  /-- FSEQ from which stored flits are being resent. -/
  resend : Option Nat := none
  /-- One flit only is resent (Flocet). -/
  resendOne : Bool := false
  /-- ACK_V has been received. -/
  ackIn : Bool := false
  /-- Consecutive replays from the same FSEQ. -/
  replays : Nat := 0
  replayFrom : Nat := 0
  /-- E, the FSEQ expected next; a flit has been accepted. -/
  rxNext : Nat := 0
  rxAny : Bool := false
  /-- A NAK for E is outstanding; NAKs for the same E. -/
  nakOut : Bool := false
  nakCount : Nat := 0
  /-- A NAK is to be carried by the next flit sent. -/
  nakSend : Bool := false
  /-- Flocet: later good flits kept, with their FSEQ. -/
  kept : Tab FlitIn := []
  /-- Receiver's credit counts CRG, by counter. -/
  crg : Tab Nat := []
  /-- Counters that have changed since last sent. -/
  crgDirty : List Nat := []
  crgLast : Nat := 16
  /-- Transmitter's debits, and the counts received, by counter. -/
  debits : Tab Nat := []
  crd : Tab Nat := []
  xoffIn : Nat := 0
  /-- Sub-channels over their share of the pool, and the pool at or below its headroom (R277). -/
  xoffOut : Nat := 0
  xoffAll : Bool := false
  rx : List RxCell := []
  /-- Cells chosen for the flit being filled. -/
  filling : List SlotOut := []
  /-- MC0 messages and link-control messages waiting for the bypass slot. -/
  bypassMc0 : List Msg := []
  bypassLc : List LinkCtl := []
  /-- Port lanes carrying data, in block order, in each direction. -/
  txMap : List Nat := []
  rxMap : List Nat := []
  /-- The MAP_ID last received. -/
  rxMapId : Nat := 0
  /-- The mask last received in RX_LANES, and the mask last sent. -/
  rxLanes : Nat := 0
  /-- A restart: only NULL flits with LL_INIT go until both have been exchanged (R291). -/
  restarting : Bool := false
  initSent : Bool := false
  initIn : Option LlCaps := none
  /-- The LL_INIT sent offered to resume. -/
  initOffer : Bool := false
  /-- The session before the restart may be resumed: the lanes never left ACTIVE (R294). -/
  lanesKept : Bool := true
  /-- CHIP_TIME at which the session was last resumed (R296). -/
  resumedAt : Option Nat := none
  /-- Partner's declared cable length and identity, from IDENT. -/
  partnerCable : Nat := 0
  partner : Nat := 0
  deriving DecidableEq, Repr

/-- Cells in receive storage by credit kind and sub-channel, those of the flits that a Flocet receiver keeps among them
(R282). -/
def LinkState.heldCells (l : LinkState) : List (Bool × Nat) :=
  (l.rx.map fun c => (c.pool, c.sub)) ++ l.kept.flatMap fun e => e.2.slots.map fun x => (x.pool, x.sub.val)

/-- Receive storage held by a sub-channel, of the pool or dedicated. -/
def LinkState.heldBy (l : LinkState) (pool : Bool) (v : Nat) : Nat := (l.heldCells.filter (· == (pool, v))).length

/-- Pool cells in use. -/
def LinkState.poolUsed (l : LinkState) : Nat := (l.heldCells.filter (·.1)).length

/-! ### CXL and PCIe ports (11, 12) -/

/-- A standard port beside its registers. -/
structure StdState where
  /-- HDM decoder 0 of function 0: committed base and size (R303). -/
  hdm : Option (Nat × Nat) := none
  /-- The endpoint whose removal from the directory is running (R314). -/
  walkEid : Nat := 0
  /-- The partner identity read at the last DL_Up (R312); none: the device has none. -/
  partner : Option Word := none
  /-- Link IDE keys programmed, by direction (R308). -/
  keyTx : Option (BitVec 256) := none
  keyRx : Option (BitVec 256) := none
  /-- The keys of a downstream link that has gone down, which the chip manager restores to the same device (R312). -/
  heldTx : Option (BitVec 256) := none
  heldRx : Option (BitVec 256) := none
  /-- CHIP_TIME at which lingering cells were last released (R312). -/
  resumedAt : Option Nat := none
  /-- The GPF phase-2 duration that the device reports, in µs (R309). -/
  gpf2 : Nat := 0
  /-- The last DL_Up met the identity of the device before it: its lingering cells go once it is restored (R312). -/
  same : Bool := false
  /-- A Type-1 or Type-2 device is enabled below the port (R306). -/
  cacheDev : Bool := false
  /-- The GPF phase the device has been sent and not answered, and the last one it answered (R309). -/
  gpfSent : Option Nat := none
  gpfDone : Nat := 0
  /-- An LD's or PPB's reset is asserted by the fabric manager. -/
  fmReset : Bool := false
  deriving DecidableEq, Repr

/-- A GPF phase that a host, or DRYDOWN (port 128), has started (R309, R363). -/
structure GpfFlow where
  port : Nat
  phase : Nat
  /-- It waits for the host's admitted writes. -/
  held : Bool := false
  /-- Downstream ports whose answer it awaits. -/
  waits : List Nat := []
  deriving DecidableEq, Repr

/-- The emulated slot of a vPPB (R322, R330). -/
structure VppbState where
  /-- Slot Control, as the host last wrote it. -/
  control : BitVec 16 := 0
  attnPressed : Bool := false
  powerFault : Bool := false
  presenceChanged : Bool := false
  dllsc : Bool := false
  cmdDone : Bool := false
  /-- A Slot Control write whose Command Completed is 1 µs away. -/
  cmdPending : Bool := false
  /-- Link Disable set by the host. -/
  linkDisable : Bool := false
  /-- An unbind of option 0 or 1 that waits (R330). -/
  unbind : Option Nat := none
  /-- The host has written Power Controller Control off since an option 1 unbind began. -/
  offWritten : Bool := false
  deriving DecidableEq, Repr

/-! ### Decant (12) -/

/-- A chunk in flight (R332, R333). -/
structure Chunk where
  /-- Which copy of the chunk this is, from 1. -/
  times : Nat := 1
  dirty : Bool := false
  /-- Its read is done and its writes are out. -/
  writing : Bool := false
  poison : Bool := false
  epoch : Nat := 0
  deriving DecidableEq, Repr

/-- A Decant job (R331 to R336). -/
structure DecantJob where
  src : Nat
  tgt : Nat
  flacon : Nat
  rate : Nat
  /-- Job state and cause codes of R336 Table 5. -/
  st : Nat := 1
  cause : Nat := 0
  tries : Nat := 0
  total : Nat := 0
  /-- The lowest chunk not yet started. -/
  next : Nat := 0
  flight : Tab Chunk := []
  /-- The HOLD has cleared toward the old devices and a retry is due (R335). -/
  retry : Bool := false
  /-- FLIP_LIMIT in force for the HOLD begun. -/
  limit : Nat := 10
  /-- The epoch of the flip. -/
  flipEpoch : Nat := 0
  deriving DecidableEq, Repr

/-! ### Power companion and slot channels (13) -/

/-- A slot channel beside its registers (R349 to R357). -/
structure ChannelState where
  /-- A turn-on command waits for the channel to reach OFF, or for the charge pump. -/
  onRequested : Bool := false
  /-- The external diode is not used until the record next goes live (R352). -/
  diodeBad : Bool := false
  deriving DecidableEq, Repr

/-- The companion beside its registers. -/
structure PowerState where
  ch : Tab ChannelState := []
  /-- The warning episode in progress has ended its ride-through by a warning (R345). -/
  warned : Bool := false
  deriving DecidableEq, Repr

/-! ### DRYDOWN, RETAIN and REVIVE (14) -/

/-- The retention record (R365). -/
structure RetentionRec where
  valid : Bool
  formulaSlot : Nat
  digest : Line
  fwSlot : Nat
  crc : Nat
  time : Nat
  slots : Tab Nat
  heldRecords : Nat
  heldLines : Nat
  lowestSeq : Nat
  flacons : Nat
  drainStatus : Word
  drainTime : Word
  drainCnt : Word
  drainCut : Word
  taint : Bool
  deriving DecidableEq, Repr

/-- The table store as DRYDOWN saves it to the table save partition (R34, R359). -/
structure SavedTables where
  /-- RWS fields, FL_EPOCH and AC_SEQ. -/
  regs : RegFile := []
  fml : FormulaState := {}
  regions : Tab RegionEnt := []
  fl : Tab FlAccess := []
  /-- Weights and shaper settings in force. -/
  port : Tab SchedPort := []
  deriving DecidableEq, Repr

/-- What the Keep stack holds across RETAIN (R34, R359). -/
structure KeepState where
  /-- The Keep stack is in self-refresh. -/
  selfRefresh : Bool := false
  /-- The table save partition. -/
  tables : Option SavedTables := none
  /-- The sealed records held, as the saved staging-slot index marks them (R203, R364). -/
  held : List Sealed := []
  /-- CHIP_TIME at RETAIN entry; sensor 14 has been read since. -/
  since : Nat := 0
  tjRead : Bool := false
  deriving DecidableEq, Repr

/-- The drain sequencer beside its registers (R361 to R368). -/
structure DrainState where
  /-- CHIP_TIME at DRYDOWN entry. -/
  entry : Nat := 0
  /-- The state of each slot machine at DRYDOWN entry, by channel (R365). -/
  slots : Tab Nat := []
  /-- A rail has left tolerance before step 1 of R367. -/
  railCut : Bool := false
  /-- The table save is complete. -/
  saved : Bool := false
  /-- The drain began in REVIVE before the tables were restored: what the Keep stack holds stays (R377). -/
  early : Bool := false
  deriving DecidableEq, Repr

/-! ### Management, identity and presence (16) -/

/-- The one-time-programmable fuses (R430 Table 6).  Fields stored twice read as the OR of their copies (R431), so one
copy stands here; a digest entry is none while unprogrammed, and reads revoked while its bit in badEntries is set. -/
structure Fuses where
  serial : Word := 0
  seed : BitVec 256 := 0
  lifecycle : BitVec 4 := 0
  vendorKey : Tab Line := []
  vendorRevoke : BitVec 4 := 0
  ownerKey : Tab Line := []
  ownerRevoke : BitVec 4 := 0
  /-- Programmed bits of the MIN_SVN thermometer. -/
  minSvn : Nat := 0
  sealEvents : Nat := 0
  sealRearms : Nat := 0
  /-- Digest entries that read uncorrectable: bits 0 to 3 vendor, 4 to 7 owner. -/
  badEntries : BitVec 8 := 0
  /-- Another field reads uncorrectable (0x0811). -/
  fieldErr : Bool := false
  deriving DecidableEq, Repr

/-- A staging of a flash slot (R421): the sectors erased since it began. -/
structure Staging where
  sectors : List Nat := []
  deriving DecidableEq, Repr

/-- An extent of dynamic capacity that a Flacon's map holds (R315): the device's port, and whether its release is under
way. -/
structure DcHeld where
  flacon : Nat
  port : Nat
  extent : DcExtent
  releasing : Bool := false
  deriving DecidableEq, Repr

/-- Management state beside its registers (R412 to R442). -/
structure MgmtState where
  fuses : Fuses := {}
  /-- The xSPI flash: cells that differ from the erased byte 0xFF (R38). -/
  flash : List Host.Cell := []
  /-- The flash does not answer (0x0815). -/
  flashAbsent : Bool := false
  /-- Stagings in progress: slot 0, 1 Formula A, B; 2, 3 firmware A, B. -/
  staging : Tab Staging := []
  /-- BAR2 request buffer, as last written. -/
  reqBuf : List Byte := []
  /-- BAR2 response buffer. -/
  respBuf : List Byte := []
  i3cReq : List Byte := []
  i3cResp : List Byte := []
  /-- Endpoint ID by binding: 1 MCTP over MPORT, 3 MCTP over I3C (R416). -/
  mctpEid : Tab Nat := []
  /-- The pin has been high since VAUX rise, so its next fall opens the window (R436). -/
  presenceArmed : Bool := true
  /-- CHIP_TIME at the last opening of the presence window. -/
  presenceAt : Nat := 0
  /-- The response message limit of the fabric manager API, as last set (R315). -/
  fmLimit : Nat := 0
  /-- Extents of dynamic capacity (R315). -/
  extents : List DcHeld := []
  /-- MPORT link up. -/
  mportUp : Bool := false
  /-- MPORT enabled (R428 step 5, CHIP_STRAPS.MPORT_EN). -/
  mportEn : Bool := false
  deriving DecidableEq, Repr

/-! ### The whole state -/

/-- The state of the block. -/
structure State where
  /-- The register file (R3, R7). -/
  regs : RegFile := []
  io : IoState := {}
  pins : Pins := {}
  mode : ModeState := {}
  time : TimeState := {}
  sensor : SensorState := {}
  flt : FaultState := {}
  frz : FreezeState := {}
  /-- Sillage FIFOs, by quadrant. -/
  sil : Tab SilFifo := []
  /-- Sillage entries on their way to the mirror rings (R410). -/
  mirrorOut : List SilEntry := []
  fml : FormulaState := {}
  pwr : PowerState := {}
  /-- The retention record of the always-on domain (R365). -/
  retention : Option RetentionRec := none
  /-- KS_RETAIN_LOSS has been raised for the loss that KS_LOSS reports (R380). -/
  lossRaised : Bool := false
  /-- The Keep stack (R34 Table 9). -/
  keep : KeepState := {}
  mgmt : MgmtState := {}
  /-- What the block has sent or driven, newest first (the model's own record of its outputs). -/
  out : List Out := []
  /-- The model's own counter of free values (assumption 2). -/
  freeIx : Nat := 0
  /-- Commands waiting, first in, first out. -/
  pending : List Instr := []
  core : CoreState := {}
  sched : SchedState := {}
  acc : AccessState := {}
  /-- Home slices. -/
  home : Tab SliceState := []
  /-- Decant jobs, by number (R331). -/
  decant : Tab DecantJob := []
  /-- Link layers of the fabric ports, by port. -/
  link : Tab LinkState := []
  /-- Standard ports, by port. -/
  std : Tab StdState := []

  /-- The Accord engine. -/
  acd : AccordState := {}
  /-- Lanes, by number. -/
  lane : Tab LaneState := []
  /-- vPPBs, by upstream port × 256 + vPPB. -/
  vppb : Tab VppbState := []
  /-- GPF phases in progress. -/
  gpf : List GpfFlow := []
  /-- The drain sequencer (R361). -/
  drain : DrainState := {}
  /-- Slot machines that restart in REVIVE at their next debounced presence: channel, and the state at DRYDOWN entry
  (R376). -/
  hpRestart : Tab Nat := []

  deriving DecidableEq, Repr

/-- The machine right after reset (R7): VAUX in tolerance, PWRON_RESET_N still low, mode RESET with cause 0x01, every
register at its reset value, every structure empty, nothing waiting.  The choices in it are those of assumption 3. -/
def State.reset : State := {}

/-- Why the block can stop with a fault.  No command of the table does: every event the specification describes has an
effect it states.  The one constructor keeps the type inhabited for the interface; nothing raises it (safe). -/
inductive Fault where
  | unreachable
  deriving DecidableEq, Repr

/-- Why the block can refuse a command.  notModelled is raised by the dispatch alone, for a command that has no meaning
yet (safe: nothing is claimed of it). -/
inductive Refusal where
  | notModelled (mnemonic : String)
  deriving DecidableEq, Repr

/-- The outcome of a command or a step. -/
abbrev Result := Host.Outcome State Fault Refusal

end Sys2Proof.Machine
end

