-- ==== Sys2Proof/Machine/Tab.lean ====
section
/-!
DEFINITION. Machine/Tab.lean: reading and writing tables keyed by number, in the one form with rising keys.
-/
namespace Sys2Proof.Machine

variable {α : Type}

/-- The entry of key k, if there is one. -/
def tabFind (t : Tab α) (k : Nat) : Option α :=
  match t with
  | [] => none
  | (j, v) :: r => if j = k then some v else tabFind r k

/-- The entry of key k, or d. -/
def tabGet (t : Tab α) (k : Nat) (d : α) : α := (tabFind t k).getD d

/-- The table with key k bound to v. -/
def tabPut (t : Tab α) (k : Nat) (v : α) : Tab α :=
  match t with
  | [] => [(k, v)]
  | (j, w) :: r =>
    if k < j then (k, v) :: (j, w) :: r
    else if k = j then (k, v) :: r
    else (j, w) :: tabPut r k v

/-- The table without key k. -/
def tabDel (t : Tab α) (k : Nat) : Tab α :=
  match t with
  | [] => []
  | (j, w) :: r => if j = k then tabDel r k else (j, w) :: tabDel r k

/-- The table with the entry of key k (d where there is none) changed by f. -/
def tabMod (t : Tab α) (k : Nat) (d : α) (f : α → α) : Tab α := tabPut t k (f (tabGet t k d))

/-- The keys whose entry satisfies p. -/
def tabKeys (t : Tab α) (p : α → Bool) : List Nat := (t.filter fun e => p e.2).map (·.1)

/-- Every entry changed by f. -/
def tabMap (t : Tab α) (f : Nat → α → α) : Tab α := t.map fun e => (e.1, f e.1 e.2)

/-- The canonical form of a table: keys strictly rising. -/
def tabSorted : Tab α → Bool
  | [] => true
  | [_] => true
  | (j, _) :: (k, w) :: r => decide (j < k) && tabSorted ((k, w) :: r)

/-- The first of the numbers below n that p accepts. -/
def firstBelow (n : Nat) (p : Nat → Bool) : Option Nat := (List.range n).find? p

/-- The lowest key from k on that a table does not list. -/
def tabGap : Tab α → Nat → Nat
  | [], k => k
  | (j, _) :: r, k => if j < k then tabGap r k else if j = k then tabGap r (k + 1) else k

/-- Bit i of a mask. -/
def bitAt (m : Nat) (i : Nat) : Bool := m.testBit i

/-- A mask with bit i set. -/
def setBitAt (m : Nat) (i : Nat) : Nat := m ||| 2 ^ i

/-- A mask with bit i clear. -/
def clrBitAt (m : Nat) (i : Nat) : Nat := if m.testBit i then m - 2 ^ i else m

end Sys2Proof.Machine
end

