-- ==== Sys2Proof/Machine/Ops.lean ====
section
/-!
DEFINITION. Machine/Ops.lean: the named operations that every meaning uses: reading and writing a register field,
counters (R10), the mode (R27), raising an occurrence (R381), emitting an output, taking a free value.
-/
namespace Sys2Proof.Machine

/-! ### Fields and bytes -/

/-- Bits placed in a word. -/
def at64 (x lo width : Nat) : Nat := x % 2 ^ width * 2 ^ lo

def b2n (b : Bool) : Nat := if b then 1 else 0

/-- The bytes of a number, lowest first. -/
def bytesOf (n x : Nat) : List Byte := (List.range n).map fun i => BitVec.ofNat 8 (x / 2 ^ (8 * i))

/-- The number that bytes spell, lowest first. -/
def natOf (l : List Byte) : Nat := l.foldr (fun b n => b.toNat + 256 * n) 0

/-! ### Register contents -/

/-- Field f of a register's contents. -/
def getFld (v : Word) (f : Fld) : Nat := (v.toNat / 2 ^ f.lo) % 2 ^ f.width

/-- A register's contents with field f set to x (its low bits). -/
def setFld (v : Word) (f : Fld) (x : Nat) : Word :=
  BitVec.ofNat 64 (v.toNat - getFld v f * 2 ^ f.lo + x % 2 ^ f.width * 2 ^ f.lo)

/-- The contents held for the register at address a: its reset value where the file does not list it (R7). -/
def regGet (r : RegFile) (a : Nat) : Word := tabGet r a (resetAt a)

/-- The register file with the register at address a holding v, in the one form that lists no reset value. -/
def regPut (r : RegFile) (a : Nat) (v : Word) : RegFile :=
  if v = resetAt a then tabDel r a else tabPut r a v

/-- The canonical form of a register file: addresses strictly rising, no entry at its reset value. -/
def RegFile.wf (r : RegFile) : Bool := tabSorted r && r.all fun e => e.2 != resetAt e.1

/-- The contents of register a. -/
def State.reg (s : State) (a : Nat) : Word := regGet s.regs a

/-- The state with register a holding v. -/
def State.setReg (s : State) (a : Nat) (v : Word) : State := { s with regs := regPut s.regs a v }

/-- Field f of register a. -/
def State.rd (s : State) (a : Nat) (f : Fld) : Nat := getFld (s.reg a) f

/-- The state with field f of register a set to x. -/
def State.wr (s : State) (a : Nat) (f : Fld) (x : Nat) : State := s.setReg a (setFld (s.reg a) f x)

/-- Whether field f of register a is not 0. -/
def State.on (s : State) (a : Nat) (f : Fld) : Bool := s.rd a f != 0

/-- The state with field f of register a set to 1. -/
def State.set1 (s : State) (a : Nat) (f : Fld) : State := s.wr a f 1

/-- The state with field f of register a set to 0. -/
def State.set0 (s : State) (a : Nat) (f : Fld) : State := s.wr a f 0

/-- The state with field f of register a set from a truth value. -/
def State.wrB (s : State) (a : Nat) (f : Fld) (b : Bool) : State := s.wr a f (if b then 1 else 0)

/-- A counter field advanced by n, saturating at its all-ones value (R10). -/
def State.addTo (s : State) (a : Nat) (f : Fld) (n : Nat) : State :=
  s.wr a f (min (2 ^ f.width - 1) (s.rd a f + n))

/-- A counter field advanced by 1. -/
def State.inc (s : State) (a : Nat) (f : Fld) : State := s.addTo a f 1

/-- Bit i of field f of register a set. -/
def State.setBitOf (s : State) (a : Nat) (f : Fld) (i : Nat) : State := s.wr a f (setBitAt (s.rd a f) i)

/-- A signed field's contents. -/
def State.rdS (s : State) (a : Nat) (f : Fld) : Int :=
  let x := s.rd a f
  if x < 2 ^ (f.width - 1) then (x : Int) else (x : Int) - 2 ^ f.width

/-- The field contents that stand for a signed number. -/
def signedBits (w : Nat) (x : Int) : Nat := (x % (2 : Int) ^ w).toNat

/-- A signed field set. -/
def State.wrS (s : State) (a : Nat) (f : Fld) (x : Int) : State := s.wr a f (signedBits f.width x)

/-! ### Outputs, free values, occurrences -/

/-- The state with output o sent. -/
def State.emit (s : State) (o : Out) : State := { s with out := o :: s.out }

/-- An MSI-X message of MPORT, which goes while its link is up (R413). -/
def State.msix (s : State) (vector : Nat) : State := if s.mgmt.mportUp then s.emit (.msix vector) else s

/-- The next free value of w bits, and the state with the counter advanced (assumption 2). -/
def State.free (s : State) (w : Nat) : BitVec w × State :=
  (Config.freeBits w s.freeIx, { s with freeIx := s.freeIx + 1 })

/-- An occurrence of source n raised against Flacon f (none: chip-wide), with what the record bus carries (R381, R383).
The collector takes it at the end of the command that raises it (Machine/Settle.lean). -/
def State.raiseAt (s : State) (n : Nat) (f : Option Nat) (info : AccessRec) : State :=
  let fl : Option FlaconIx := match f with
    | some i => if h : i < 32 then some ⟨i, h⟩ else none
    | none => none
  { s with flt := { s.flt with raised := s.flt.raised ++ [{ source := n, flacon := fl, info := info }] } }

/-- An occurrence without an access behind it. -/
def State.raise (s : State) (n : Nat) (f : Option Nat) : State := s.raiseAt n f {}

/-- A notice put on the fence bus (R18). -/
def State.notify (s : State) (n : Notice) : State :=
  if s.flt.notices.contains n then s else { s with flt := { s.flt with notices := s.flt.notices ++ [n] } }

/-- A notice taken off the fence bus. -/
def State.takeNotice (s : State) (n : Notice) : State :=
  { s with flt := { s.flt with notices := s.flt.notices.filter (· != n) } }

/-- Apply a change for each element of a list, in order. -/
def State.each {α : Type} (s : State) (l : List α) (f : α → State → State) : State := l.foldl (fun t x => f x t) s

/-- Apply a change where a condition holds. -/
def State.when (s : State) (b : Bool) (f : State → State) : State := if b then f s else s

/-! ### The mode -/

/-- The modes of R27 Table 6, by code. -/
inductive Mode where
  | off | reset | boot | compose | serve | recompose | drydown | retain | revive | frozen | quarantine | linktest
  deriving DecidableEq, Repr

def Mode.code : Mode → Nat
  | .off => 0 | .reset => 1 | .boot => 2 | .compose => 3 | .serve => 4 | .recompose => 5
  | .drydown => 6 | .retain => 7 | .revive => 8 | .frozen => 9 | .quarantine => 10 | .linktest => 11

/-- The mode of a code; codes 12 to 15 name none. -/
def Mode.ofCode : Nat → Mode
  | 1 => .reset | 2 => .boot | 3 => .compose | 4 => .serve | 5 => .recompose | 6 => .drydown | 7 => .retain
  | 8 => .revive | 9 => .frozen | 10 => .quarantine | 11 => .linktest | _ => .off

/-- The mode in force, CHIP_MODE.MODE. -/
def State.md (s : State) : Mode := Mode.ofCode (s.rd Reg.CHIP_MODE Fld.CHIP_MODE.MODE)

/-- QUARANTINE containment is in force (R397): in QUARANTINE, and in a DRYDOWN that it reached (R368). -/
def State.quarantined (s : State) : Bool := s.md == .quarantine || s.acc.contained

/-- A completed transition: PREV_MODE takes the old mode and CAUSE the cause (R28). -/
def State.goMode (s : State) (m : Mode) (cause : Nat) : State :=
  let old := s.rd Reg.CHIP_MODE Fld.CHIP_MODE.MODE
  ((s.wr Reg.CHIP_MODE Fld.CHIP_MODE.PREV_MODE old).wr Reg.CHIP_MODE Fld.CHIP_MODE.MODE m.code).wr
    Reg.CHIP_MODE Fld.CHIP_MODE.CAUSE cause

/-- Whether the mode in force is one of a list. -/
def State.inMode (s : State) (l : List Mode) : Bool := l.contains s.md

/-- The modes in which the main clocks run (Table 6). -/
def Mode.clocked : Mode → Bool
  | .off | .reset | .retain | .frozen => false
  | _ => true

/-- SERVE, RECOMPOSE and QUARANTINE: the modes in which a power warning starts DRYDOWN (Table 7). -/
def Mode.serving : Mode → Bool
  | .serve | .recompose | .quarantine => true
  | _ => false

/-- CHIP_TIME now. -/
def State.now (s : State) : Nat := s.rd Reg.CHIP_TIME Fld.CHIP_TIME.TIME

/-- CHIP_BEAT now. -/
def State.beat (s : State) : Nat := s.rd Reg.CHIP_BEAT Fld.CHIP_BEAT.BEAT

/-- Whether the presence window lets a gated action act (R437). -/
def State.presenceOk (s : State) : Bool :=
  s.on Reg.MG_PRESENCE Fld.MG_PRESENCE.OPEN && !s.on Reg.MG_SEAL Fld.MG_SEAL.SEAL_BROKEN

/-! ### The Formula in force -/

/-- The record of port q under the Formula in force. -/
def State.portRec (s : State) (q : Nat) : Option PortRec :=
  match s.fml.inForce with
  | none => none
  | some f => f.ports.find? fun p => p.port == q

/-- A change of a port that the Formula in force names; no change without one. -/
def State.atPort (s : State) (q : Nat) (k : State → PortRec → State) : State :=
  match s.portRec q with
  | some p => k s p
  | none => s

/-- The record of Flacon f under the Formula in force. -/
def State.flaconRec (s : State) (f : Nat) : Option FlaconRec :=
  match s.fml.inForce with
  | none => none
  | some g => g.flacons.find? fun r => r.index == f

/-- The Flacons that have a record. -/
def State.flacons (s : State) : List Nat :=
  match s.fml.inForce with
  | none => []
  | some g => g.flacons.map (·.index)

/-- The ports that have a record. -/
def State.ports (s : State) : List PortRec :=
  match s.fml.inForce with
  | none => []
  | some g => g.ports

/-- The Flacon of port q: none for a fabric port or a port without a record. -/
def State.portFlacon (s : State) (q : Nat) : Option Nat :=
  match s.portRec q with
  | none => none
  | some p => if p.flacon < 32 then some p.flacon else none

/-- The port that names slot channel n. -/
def State.slotPort (s : State) (n : Nat) : Option Nat :=
  (s.ports.find? fun p => p.slot == n).map (·.port)

/-- The Flacon of the port that names slot channel n (R358). -/
def State.slotFlacon (s : State) (n : Nat) : Option Nat :=
  match s.slotPort n with
  | none => none
  | some q => s.portFlacon q

/-- The lanes of a port, in lane order. -/
def PortRec.lanes (p : PortRec) : List Nat := (List.range p.width).map (p.firstLane + ·)

/-- The port that a lane belongs to. -/
def State.lanePort (s : State) (l : Nat) : Option PortRec :=
  s.ports.find? fun p => decide (p.firstLane ≤ l) && decide (l < p.firstLane + p.width)

/-- The tile of a port, and the quadrant of a tile. -/
def tileOf (q : Nat) : Nat := q / 2
def quadOf (tile : Nat) : Nat := tile / 16

/-- Fault source numbers of R381. -/
def srcTile (i k : Nat) : Nat := 8 * i + k
def srcSlice (i k : Nat) : Nat := 512 + 5 * i + k
def srcQuad (i k : Nat) : Nat := 832 + 24 * i + k
def srcSlot (i k : Nat) : Nat := 928 + 6 * i + k
def srcPlane (i k : Nat) : Nat := 1120 + 2 * i + k
def srcArb (i : Nat) : Nat := 1136 + i

/-! The chip sources of R381 Table 2. -/
def Src.DIR_GEOMETRY : Nat := 1168
def Src.HS_ALL_PINNED : Nat := 1169
def Src.HS_STRAY_WB : Nat := 1170
def Src.HS_BAD_OP : Nat := 1171
def Src.HS_DEV_BISNP : Nat := 1172
def Src.FL_NO_FLACON : Nat := 1173
def Src.FL_REGION_CE : Nat := 1174
def Src.FL_REGION_UE : Nat := 1175
def Src.FL_REGION_MULTI_HIT : Nat := 1176
def Src.FL_REGION_OVERLAP : Nat := 1177
def Src.FL_ACCESS_DENIED : Nat := 1178
def Src.AC_STAGE_UE : Nat := 1179
def Src.AC_PREP_TIMEOUT : Nat := 1180
def Src.AC_REPLAY_ERR : Nat := 1181
def Src.AC_D0_LOST : Nat := 1182
def Src.DC_CANCELLED : Nat := 1183
def Src.KS_DRAIN_LIMIT : Nat := 1184
def Src.KS_RETAIN_LOSS : Nat := 1185
def Src.KS_REVIVE_TAINT : Nat := 1186
def Src.KS_CE : Nat := 1187
def Src.KS_CHANNEL : Nat := 1188
def Src.PC_RAIL : Nat := 1189
def Src.PC_VAUX_LOW : Nat := 1190
def Src.PC_FEED_LOST : Nat := 1191
def Src.PC_FEED_REVERSE : Nat := 1192
def Src.PC_FEED_FET : Nat := 1193
def Src.PC_DIP : Nat := 1194
def Src.PC_WARN_IGNORED : Nat := 1195
def Src.CHIP_SENSOR : Nat := 1196
def Src.CHIP_WATCHDOG : Nat := 1197
def Src.MG_SEAL_BROKEN : Nat := 1198
def Src.MG_RWP_REFUSED : Nat := 1199
def Src.FZ_REQ_IGNORED : Nat := 1200

end Sys2Proof.Machine
end

