-- ==== Sys2Proof/Machine/Loss.lean ====
section
/-!
DEFINITION. Machine/Loss.lean: the loss report of the always-on domain (R379) and the mirror it reads.
-/
namespace Sys2Proof.Machine

/-- Record a loss (R379): CAUSE keeps the first cause; masks and counts accumulate until LOST is cleared; SEQ keeps the
lowest.  Counts of none are unknown and read all ones. -/
def State.recordLoss (s : State) (cause flacons : Nat) (seq : Nat) (counts : Option (Nat × Nat)) : State :=
  let first := !s.on Reg.KS_LOSS Fld.KS_LOSS.LOST
  let s1 := s.when first fun t => (t.set1 Reg.KS_LOSS Fld.KS_LOSS.LOST).wr Reg.KS_LOSS Fld.KS_LOSS.CAUSE cause
  let s2 := s1.wr Reg.KS_LOSS Fld.KS_LOSS.FLACONS (s1.rd Reg.KS_LOSS Fld.KS_LOSS.FLACONS ||| flacons)
  let s3 := match counts with
    | some (r, l) => (s2.addTo Reg.KS_LOSS_CNT Fld.KS_LOSS_CNT.RECORDS r).addTo Reg.KS_LOSS_CNT Fld.KS_LOSS_CNT.LINES l
    | none => s2.setReg Reg.KS_LOSS_CNT (BitVec.ofNat 64 (2 ^ 64 - 1))
  let old := s.rd Reg.KS_LOSS_SEQ Fld.KS_LOSS_SEQ.SEQ
  let s4 := s3.wr Reg.KS_LOSS_SEQ Fld.KS_LOSS_SEQ.SEQ (if first then seq else min old seq)
  { s4 with lossRaised := false }

/-- A REVIVE, or a drain that cut one, whose tables are not yet restored: the Keep stack alone holds the sealed records. -/
def State.tablesAway (s : State) : Bool :=
  decide (s.rd Reg.KS_REVIVE_STATUS Fld.KS_REVIVE_STATUS.PHASE < 4) || (s.md == .drydown && s.drain.early)

/-- The sealed records that a loss would take now: while the tables are away those the Keep stack holds, otherwise those
with lines not yet written. -/
def State.atRisk (s : State) : List Sealed := if s.tablesAway then s.keep.held else s.acd.seals

/-- The lowest SEQ of a list of sealed records and the Flacons that own them. -/
def sealsMirror : List Sealed → Option (Nat × Nat)
  | [] => none
  | x :: r => some (r.foldl (fun n (y : Sealed) => min n y.seq) x.seq, (x :: r).foldl (fun m (y : Sealed) => setBitAt m y.flacon) 0)

/-- The lowest unwritten SEQ and the Flacons that own unwritten sealed lines, as the always-on domain mirrors them
(R379). -/
def State.unwrittenMirror (s : State) : Option (Nat × Nat) := sealsMirror s.atRisk

/-- Records and lines of a list of sealed records. -/
def sealsCount (l : List Sealed) : Nat × Nat := (l.length, l.foldl (fun n (x : Sealed) => n + x.lines.length) 0)

/-- A loss of what stands at risk: recorded only where there is any; in REVIVE its counts are known, outside REVIVE they
read unknown (R379). -/
def State.reportUnwritten (s : State) (cause : Nat) : State :=
  match s.unwrittenMirror with
  | none => s
  | some (seq, fl) => s.recordLoss cause fl seq (if s.md = .revive then some (sealsCount s.atRisk) else none)

end Sys2Proof.Machine
end

