-- ==== Sys2Proof/Machine/Faults.lean ====
section
/-!
DEFINITION. Machine/Faults.lean: the fault collector (R381 to R396) and freeze (R399, R400).  Taking an occurrence is
one operation, State.handle; entering FROZEN and entering QUARANTINE are one operation each.
-/
namespace Sys2Proof.Machine

/-! ### Sources and severities -/

/-- Default severities by offset, R381 Tables 1 and 2. -/
def sevTile : List Nat := [3, 1, 1, 0, 1, 0, 0, 1]
def sevSlice : List Nat := [1, 2, 1, 1, 3]
def sevQuad : List Nat := [1, 2, 0, 1, 0, 1, 1, 1, 1, 0, 1, 1, 1, 1, 1, 2, 2, 0, 1, 1, 1, 0]
def sevSlot : List Nat := [1, 1, 1, 0, 1, 1]
def sevPlane : List Nat := [3, 1]
def sevChip : List Nat :=
  [2, 1, 1, 2, 0, 1, 1, 2, 2, 1, 1, 2, 1, 2, 1, 0, 1, 1, 3, 1, 3, 3, 1, 1, 0, 1, 0, 0, 1, 3, 1, 0, 0]

/-- The default severity of a source; none for a reserved number (R381). -/
def defaultSev (n : Nat) : Option Nat :=
  if n < 512 then sevTile[n % 8]?
  else if n < 832 then sevSlice[(n - 512) % 5]?
  else if n < 928 then sevQuad[(n - 832) % 24]?
  else if n < 1120 then sevSlot[(n - 928) % 6]?
  else if n < 1136 then sevPlane[(n - 1120) % 2]?
  else if n < 1153 then some 1
  else if n < 1168 then none
  else sevChip[n - 1168]?

/-- Whether a source's severity is fixed: TN_CANCELLED_ERR and CHIP_WATCHDOG (Tables 1 and 2). -/
def sevFixed (n : Nat) : Bool :=
  n == Src.CHIP_WATCHDOG || (832 ≤ n && n < 928 && (n - 832) % 24 == 2)

/-- An occurrence that never drives a pin: one of a source fixed at S0, TN_CANCELLED_ERR, unless it is a rail fault, whose
severity is at least 1 (R177, R384). -/
def pinless (n sev : Nat) : Bool := sevFixed n && sev == 0

/-- The SEVERITY record that covers a source (R49). -/
def State.sevRec (s : State) (n : Nat) : Option SevRec := s.flt.sev.find? fun r => decide (r.first ≤ n) && decide (n ≤ r.last)

/-- The severity in force of a source (R382). -/
def State.sevOf (s : State) (n : Nat) : Nat :=
  let d := (defaultSev n).getD 0
  if sevFixed n then d else
  match s.sevRec n with
  | some r => r.severity
  | none => d

/-- The rail severity of a source (R384). -/
def State.railSevOf (s : State) (n : Nat) : Nat :=
  match s.sevRec n with
  | some r => r.railSev
  | none => max 1 ((defaultSev n).getD 0)

/-- ESCALATE of a source (R388). -/
def State.escalateOf (s : State) (n : Nat) : Nat :=
  match s.sevRec n with
  | some r => r.escalate
  | none => 0

/-- What the collector keeps for source n. -/
def State.srcOf (s : State) (n : Nat) : SrcState := tabGet s.flt.src n {}

def State.modSrc (s : State) (n : Nat) (f : SrcState → SrcState) : State :=
  { s with flt := { s.flt with src := tabMod s.flt.src n {} f } }

/-! ### Access records (R238 Table 7) -/

/-- The four words of an access record. -/
def recWords (r : AccessRec) : List Word :=
  [ BitVec.ofNat 64 (at64 r.addr 0 52 + at64 r.kind 52 4 + at64 r.mc 56 3 + at64 r.flacon 59 5),
    BitVec.ofNat 64 (at64 r.srcEid 0 14 + at64 r.port 14 7 + at64 r.priv 21 2 + at64 (b2n r.noDecoder) 23 1
      + at64 (b2n r.noRegion) 24 1 + at64 (b2n r.multiHit) 25 1 + at64 (b2n r.straddle) 26 1 + at64 r.needed 27 3
      + at64 r.region 32 16 + at64 r.typ 48 8),
    BitVec.ofNat 64 (at64 r.epoch 0 32 + at64 r.source 32 11),
    BitVec.ofNat 64 r.time ]

/-- Store the words of a record at four consecutive 64-bit registers. -/
def State.putRec (s : State) (a : Nat) (r : AccessRec) : State :=
  ((recWords r).zip (List.range 4)).foldl (fun t e => t.setReg (a + 8 * e.2) e.1) s

/-! ### The pins -/

/-- Modes in which FAULT_N and ALERT_N are driven (R393). -/
def Mode.drivesFault : Mode → Bool
  | .boot | .compose | .serve | .recompose | .drydown | .revive | .quarantine | .linktest => true
  | _ => false

/-- Whether some pending fault is at or above FC_PIN_LEVEL.LEVEL (R393). -/
def State.faultPending (s : State) : Bool :=
  let lvl := s.rd Reg.FC_PIN_LEVEL Fld.FC_PIN_LEVEL.LEVEL
  s.flt.src.any (fun e => e.2.pending && decide (lvl ≤ e.2.recSev) && !pinless e.1 e.2.recSev)
  || (decide (lvl ≤ 2) && (List.range 32).any fun f => s.on (Reg.FL_STATUS f) Fld.FL_STATUS.FENCED)
  || s.flt.quar

/-- FAULT_N and ALERT_N brought to the levels of R393 and R394; they hold in FROZEN and are released in OFF, RESET and
RETAIN.  A fall of ALERT_N raises the I3C target's in-band interrupt (R415). -/
def State.refreshPins (s : State) : State :=
  let m := s.md
  if m = .frozen then s else
  let fl := m.drivesFault && s.faultPending
  let al := m.drivesFault && s.on Reg.FC_ALERT Fld.FC_ALERT.PENDING
  let o1 : List Out := if fl = s.flt.faultLow then [] else [.pin .faultN (!fl)]
  let o2 : List Out := if al = s.flt.alertLow then [] else if al then [.ibi, .pin .alertN false] else [.pin .alertN true]
  { s with out := o2 ++ o1 ++ s.out, flt := { s.flt with faultLow := fl, alertLow := al } }

/-! ### Freeze -/

/-- The chip stops (R400): FZ_STATUS, FZ_BEAT and FZ_TIME record it, clocks stop, lanes go to electrical idle, MPORT
goes down, the collector stops, the Keep stack goes into self-refresh at the multiplier in force.  Durable Accord state that is not yet in memory is reported lost (R211, R379), and the
retain-valid flag is cleared, since the one exit from FROZEN is a cold boot (R33, R368, R377). -/
def State.enterFrozen (s : State) (cause : Nat) (clean : Bool) : State :=
  let s0 := s.set0 Reg.CHIP_MODE Fld.CHIP_MODE.RETAIN_VALID
  let s1 := s0.reportUnwritten 5
  let s2 := (s1.setReg Reg.FZ_BEAT (s1.reg Reg.CHIP_BEAT)).setReg Reg.FZ_TIME (s1.reg Reg.CHIP_TIME)
  let s3 := ((s2.set1 Reg.FZ_STATUS Fld.FZ_STATUS.FROZEN).wr Reg.FZ_STATUS Fld.FZ_STATUS.CAUSE cause).wrB
    Reg.FZ_STATUS Fld.FZ_STATUS.CLEAN clean
  let mult := s.rd Reg.CHIP_TJ Fld.CHIP_TJ.REFRESH_MULT
  let s4 := (((s3.wr Reg.KS_RETAIN_STATUS Fld.KS_RETAIN_STATUS.REFRESH_MULT mult).goMode .frozen 0x11).emit
    (.clocks false)).emit .lanesIdle
  { s4 with
    keep := { s4.keep with selfRefresh := true }
    flt := { s4.flt with running := false }
    mode := { s4.mode with fwRunning := false, resetScheduled := false }
    mgmt := { s4.mgmt with mportUp := false } }

/-- Modes in which a freeze request freezes (Table 7). -/
def Mode.freezable : Mode → Bool
  | .boot | .compose | .serve | .recompose | .revive | .quarantine | .linktest => true
  | _ => false

/-- Modes in which a freeze request is ignored and logged (R30). -/
def Mode.ignoresFreeze : Mode → Bool
  | .drydown | .retain | .reset => true
  | _ => false

/-! ### Taking an occurrence -/

/-- KS_RETAIN_LOSS is raised at the next entry into SERVE or QUARANTINE after a loss (R380). -/
def State.raiseLossOnEntry (s : State) : State :=
  if s.on Reg.KS_LOSS Fld.KS_LOSS.LOST && !s.lossRaised then
    { (s.raise Src.KS_RETAIN_LOSS none) with lossRaised := true }
  else s

/-- QUARANTINE is entered (R28, R397): the notice goes out on the fence bus. -/
def State.enterQuarantine (s : State) (cause : Nat) : State :=
  let s1 := (s.goMode .quarantine cause).notify .quarantine
  State.raiseLossOnEntry { s1 with flt := { s1.flt with quar := true, quarAt := some s.now } }

/-- An entry of the log ring (R395): dropped and counted when 4,096 are held. -/
def State.logEntry (s : State) (e : LogEntry) : State :=
  if s.flt.log.length < 4096 then { s with flt := { s.flt with log := s.flt.log ++ [e] } }
  else s.inc Reg.FC_LOG_COUNT Fld.FC_LOG_COUNT.DROPPED

/-- First-error capture, chip-wide and of the Flacon (R240, R396). -/
def State.captureFirst (s : State) (o : Occ) (rail : Bool) : State :=
  let r : AccessRec := if rail then { source := o.source } else
    { o.info with source := o.source, time := s.now, flacon := match o.flacon with | some f => f.val | none => o.info.flacon }
  let s1 :=
    if s.on Reg.FC_FERR_CTL Fld.FC_FERR_CTL.VALID then
      (s.set1 Reg.FC_FERR_CTL Fld.FC_FERR_CTL.MORE).inc Reg.FC_FERR_CNT Fld.FC_FERR_CNT.COUNT
    else (s.putRec (Reg.FC_FERR 0) r).set1 Reg.FC_FERR_CTL Fld.FC_FERR_CTL.VALID
  match o.flacon with
  | none => s1
  | some f =>
    if s1.on (Reg.FL_FERR_CTL f.val) Fld.FL_FERR_CTL.VALID then
      (s1.set1 (Reg.FL_FERR_CTL f.val) Fld.FL_FERR_CTL.MORE).inc (Reg.FL_FERR_CNT f.val) Fld.FL_FERR_CNT.COUNT
    else (s1.putRec (Reg.FL_FERR f.val 0) r).set1 (Reg.FL_FERR_CTL f.val) Fld.FL_FERR_CTL.VALID

/-- ALERT_N's latch (R394); MSI-X vector 1 when PENDING is set (R413). -/
def State.alert (s : State) (n sev : Nat) : State :=
  if sev < s.rd Reg.FC_PIN_LEVEL Fld.FC_PIN_LEVEL.ALERT_LEVEL ∨ pinless n sev then s
  else if s.on Reg.FC_ALERT Fld.FC_ALERT.PENDING then s
  else ((s.set1 Reg.FC_ALERT Fld.FC_ALERT.PENDING).wr Reg.FC_ALERT Fld.FC_ALERT.FIRST_SOURCE n).msix 1

/-- Flacon f is fenced by source n (R241): FENCED, FENCE_SOURCE and the notice. -/
def State.fence (s : State) (f n : Nat) : State :=
  if s.on (Reg.FL_STATUS f) Fld.FL_STATUS.FENCED then s.set0 (Reg.FL_STATUS f) Fld.FL_STATUS.UNFENCING
  else
    let s1 := (s.set1 (Reg.FL_STATUS f) Fld.FL_STATUS.FENCED).wr (Reg.FL_STATUS f) Fld.FL_STATUS.FENCE_SOURCE n
    if h : f < 32 then s1.notify (.fenceFlacon ⟨f, h⟩) else s1

/-- The cause of QUARANTINE is 0x0E where a watchdog expiry is among the conditions of its MCLK (R21, R28, R31): one taken
with it, or one that comes at the CHIP_TIME of its entry (assumption 1). -/
def State.quarCause (s : State) : State :=
  if s.flt.quarAt = some s.now then s.wr Reg.CHIP_MODE Fld.CHIP_MODE.CAUSE 0x0E else s

/-- The further reaction of an occurrence at the severity handled (R385, R386).  A watchdog expiry in DRYDOWN is logged
only: it neither contains nor taints (R21, R360). -/
def State.react (s : State) (o : Occ) (sev : Nat) : State :=
  if sev = 2 then
    match o.flacon with
    | some f => s.fence f.val o.source
    | none => s
  else if sev = 3 then
    match s.md with
    | .compose | .serve | .recompose | .revive =>
      s.enterQuarantine (if s.flt.wdog ∨ o.source = Src.CHIP_WATCHDOG then 0x0E else 0x0F)
    | .quarantine => if o.source = Src.CHIP_WATCHDOG then s.quarCause else s
    | .drydown =>
      if o.source = Src.CHIP_WATCHDOG then s
      else (s.set1 Reg.KS_DRAIN_STATUS Fld.KS_DRAIN_STATUS.TAINT).notify .quarantine
    | _ => s
  else s

/-- The severity at which an occurrence is handled, from the severity in force (R386). -/
def handledSev (m : Mode) (o : Occ) (sev : Nat) : Nat :=
  if sev = 2 then
    if m = .boot ∨ m = .linktest then 1
    else if o.flacon = none then 3 else 2
  else sev

/-- The collector takes one occurrence (R385): log, counts, pending state, capture, alert, reaction.  rail: it is a rail
fault at its rail severity (R384).  deferred: it was held (R387). -/
def State.handle (s : State) (o : Occ) (rail : Bool) (deferred : Option HeldSrc) : State :=
  match defaultSev o.source with
  | none => s
  | some _ =>
  let k := s.srcOf o.source
  let base := if rail then s.railSevOf o.source else s.sevOf o.source
  let e := s.escalateOf o.source
  let n := match deferred with | some h => h.count | none => 1
  let counted := decide (base = 1) && !rail && decide (1 ≤ e)
  let esc := counted && decide (2 ^ e ≤ k.escCount + n)
  let sev := handledSev s.md o (if esc then 2 else base)
  let k' : SrcState := { k with
    pending := true
    recSev := if k.pending then max k.recSev sev else sev
    flacons := match o.flacon with | some f => k.flacons ||| BitVec.ofNat 32 (2 ^ f.val) | none => k.flacons
    nofl := k.nofl || o.flacon.isNone
    escCount := if esc then 0 else if counted then k.escCount + n else k.escCount
    total := min (2 ^ 32 - 1) (k.total + n) }
  let s1 := s.modSrc o.source fun _ => k'
  let s2 := s1.logEntry {
    time := match deferred with | some h => h.time | none => s.now
    source := o.source, severity := sev, rail := rail, escalated := esc, flacon := o.flacon,
    mode := s.rd Reg.CHIP_MODE Fld.CHIP_MODE.MODE, deferred := deferred.isSome,
    addr := o.info.addr / 64 % 2 ^ 32 }
  let s3 := if 1 ≤ sev then s2.captureFirst o rail else s2
  (s3.alert o.source sev).react o sev

/-- The always-on domain holds an occurrence while the collector is stopped: chip sources 1,189 to 1,200, with VAUX
present (R387).  Others do not arise there. -/
def State.holdOcc (s : State) (o : Occ) : State :=
  if 1189 ≤ o.source ∧ o.source ≤ 1200 ∧ s.pins.vaux then
    let h := tabGet s.flt.held o.source { count := 0, time := s.now }
    { s with flt := { s.flt with held := tabPut s.flt.held o.source { h with count := min 255 (h.count + 1) } } }
  else s

/-- Whether an occurrence is the one that FZ_CTL waits for (R399). -/
def State.isFreezeSource (s : State) (o : Occ) : Bool :=
  s.on Reg.FZ_CTL Fld.FZ_CTL.ON_SOURCE && s.rd Reg.FZ_CTL Fld.FZ_CTL.SOURCE == o.source

/-- One occurrence reaches the collector: held while it is stopped; not seen while a rail fault stands on its source
(R383); withheld where it is the source that requests a
freeze; handled otherwise.  Where the freeze is ignored the occurrence is handled and FZ_REQ_IGNORED raised (R399). -/
def State.take (s : State) (o : Occ) (rail : Bool) : State :=
  if !s.flt.running then s.holdOcc o
  else if !rail && (s.srcOf o.source).railNow then s
  else if s.isFreezeSource o && s.md.freezable then s.enterFrozen 4 true
  else if s.isFreezeSource o && s.md.ignoresFreeze then
    let s1 := (s.handle o rail none).set1 Reg.FZ_STATUS Fld.FZ_STATUS.IGNORED
    s1.handle { source := Src.FZ_REQ_IGNORED } false none
  else s.handle o rail none

/-- The collector's first MCLK after a stop: every held source once, in ascending number (R387). -/
def State.takeHeld (s : State) : State :=
  let held := s.flt.held
  let s1 := { s with flt := { s.flt with running := true, held := [] } }
  held.foldl (fun t e => t.handle { source := e.1 } false (some e.2)) s1

/-- The collector takes every occurrence raised, in ascending source number for those raised together (R390). -/
def State.collectAll (s : State) : List Occ → State
  | [] => s
  | o :: r => State.collectAll (s.take o false) r

/-- An occurrence put into a list in ascending source number, and within its source in ascending port (R390). -/
def insertOcc (o : Occ) : List Occ → List Occ
  | [] => [o]
  | p :: r =>
    if o.source < p.source ∨ (o.source = p.source ∧ o.info.port < p.info.port) then o :: p :: r else p :: insertOcc o r

/-- One round of the collector over what stands raised: an occurrence that requests a freeze comes before the others, since
a freeze is taken before QUARANTINE (R31). -/
def State.collect (s : State) : State :=
  let all := s.flt.raised.foldl (fun acc o => insertOcc o acc) []
  let freezes (o : Occ) : Bool := s.flt.running && s.md.freezable && s.isFreezeSource o
  let l := all.filter freezes ++ all.filter fun o => !freezes o
  State.collectAll { s with flt := { s.flt with raised := [], wdog := all.any fun o => o.source == Src.CHIP_WATCHDOG } } l

end Sys2Proof.Machine
end

