-- ==== Sys2Proof/Machine/Perm.lean ====
section
/-!
DEFINITION. Machine/Perm.lean: which path may write registers (R414), and the delegations of R57.
-/
namespace Sys2Proof.Machine

/-- The management path number of an access path (R412): BAR0 lies on path 0, the engine functions and the JTAG network on
none. -/
def pathNo : AccessPath → Option Nat
  | .bar0 => some 0
  | .mgmt p => some p.val
  | .engine _ => none
  | .jtag => none

/-- Whether writes of a path take effect (R414).  The engine function's writes and those of the JTAG network are not BAR0
writes.  Before a Formula is applied path 0 alone holds the groups (R424). -/
def State.mayWrite (s : State) (p : AccessPath) : Bool :=
  match pathNo p with
  | none => true
  | some k =>
    match s.fml.inForce with
    | none => k == 0
    | some f =>
      if f.deleg.isEmpty then k == 0
      else f.deleg.any fun d => d.path == k && d.groups % 2 ^ 11 == 2 ^ 11 - 1 && d.flacons == 2 ^ 32 - 1

/-- A write that R414 refuses changes nothing and is counted; another has its effect. -/
def State.ifWritable (s : State) (p : AccessPath) (k : State → State) : State :=
  if s.mayWrite p then k s else s.inc Reg.MG_BAR0_WR Fld.MG_BAR0_WR.REFUSED

/-- Whether a path and source EID hold a command group for a set of Flacons (R57). -/
def State.holdsGroup (s : State) (path eid group flacons : Nat) : Bool :=
  match s.fml.inForce with
  | none => path == 0
  | some f =>
    if f.deleg.isEmpty then path == 0
    else f.deleg.any fun d => d.path == path && (d.eid == 0xFF || d.eid == eid) && d.groups.testBit group
      && (d.flacons &&& flacons == flacons)

end Sys2Proof.Machine
end

