-- ==== Sys2Proof/Machine/Messages.lean ====
section
/-!
DEFINITION. Machine/Messages.lean: message classes and opcodes (R94, R141, R171), endpoint IDs (R300), port states, the
ports of a route (R285), decoders (R215) and home geometry (R130 to R133).
-/
namespace Sys2Proof.Machine

/-! Coherent opcodes of R141 Table 3 and R171. -/
def Op.RD_SHARED : Nat := 0x01
def Op.RD_OWN : Nat := 0x02
def Op.RD_CUR : Nat := 0x03
def Op.OWN_NODATA : Nat := 0x04
def Op.EVICT_CLEAN : Nat := 0x05
def Op.BI_CONFLICT : Nat := 0x06
def Op.WR_FULL : Nat := 0x10
def Op.WB_DIRTY : Nat := 0x11
def Op.WB_SNP_I : Nat := 0x12
def Op.WB_SNP_S : Nat := 0x13
def Op.SNP_INV : Nat := 0x20
def Op.SNP_DATA : Nat := 0x21
def Op.SNP_CUR : Nat := 0x22
def Op.RSP_I : Nat := 0x30
def Op.RSP_S : Nat := 0x31
def Op.RSP_I_WB : Nat := 0x32
def Op.RSP_I_LOST : Nat := 0x33
def Op.CMP : Nat := 0x40
def Op.GO_S : Nat := 0x41
def Op.GO_E : Nat := 0x42
def Op.GO_I : Nat := 0x43
def Op.GO_ERR : Nat := 0x44
def Op.BI_CONFLICT_ACK : Nat := 0x45
def Op.DATA : Nat := 0x50
def Op.MEM_RD : Nat := 0x60
def Op.MEM_WR : Nat := 0x61
def Op.MEM_DATA : Nat := 0x62
def Op.MEM_CMP : Nat := 0x63
def Op.TX_DONE : Nat := 0x70
def Op.TN_CONFIRM : Nat := 0x71
def Op.TN_CANCEL : Nat := 0x72

/-- The class each opcode travels on (R141 Table 3); none for an opcode not listed. -/
def classOf (op : Nat) : Option Nat :=
  if 0x01 ≤ op ∧ op ≤ 0x06 then some 4
  else if 0x10 ≤ op ∧ op ≤ 0x13 then some 5
  else if 0x20 ≤ op ∧ op ≤ 0x22 then some 3
  else if 0x30 ≤ op ∧ op ≤ 0x33 then some 1
  else if 0x40 ≤ op ∧ op ≤ 0x45 then some 1
  else if op = 0x50 then some 2
  else if op = 0x60 then some 4
  else if op = 0x61 then some 5
  else if op = 0x62 then some 2
  else if op = 0x63 then some 1
  else if op = 0x70 ∨ op = 0x71 ∨ op = 0x72 then some 0
  else none

/-- A writeback that answers a snoop. -/
def isSnoopWb (m : Msg) : Bool := !m.io && (m.op == Op.WB_SNP_I || m.op == Op.WB_SNP_S)

/-- Dependence ranks of R94 Table 8; wb: a writeback caused by a snoop. -/
def rankOf (mc : Nat) (wb : Bool) : Nat :=
  match mc with
  | 0 => 2 | 1 => 1 | 2 => 1 | 3 => 4 | 4 => 5 | 5 => if wb then 3 else 5 | _ => 6

/-- Coherent requests whose answer carries data. -/
def readsData (op : Nat) : Bool := op == Op.RD_SHARED || op == Op.RD_OWN || op == Op.RD_CUR

/-- The line of an address. -/
def lineOf (a : Nat) : Nat := a / 64 * 64

/-! ### Port states -/

/-- A fabric port: PROTOCOL Ictil or Flocet. -/
def PortRec.fabric (p : PortRec) : Bool := p.protocol == .ictil || p.protocol == .flocet

/-- Link states of R290 Table 7. -/
def State.linkState (s : State) (q : Nat) : Nat := s.rd (Reg.PT_LL_STATUS q) Fld.PT_LL_STATUS.STATE

/-- The slot state of a port with HOTPLUG (R319 Table 2). -/
def State.hpState (s : State) (q : Nat) : Nat := s.rd (Reg.PT_HP_STATUS q) Fld.PT_HP_STATUS.STATE

/-- The port carries traffic: a fabric port in UP, a standard port with its data link up (R290, R310), and its slot, where
it has one, ACTIVE or draining in OFFING (R321, R326). -/
def State.portUp (s : State) (q : Nat) : Bool :=
  match s.portRec q with
  | none => false
  | some p =>
    if p.fabric then s.linkState q == 2
    else s.on (Reg.PT_STD_STATUS q) Fld.PT_STD_STATUS.DL_UP && (!p.hotplug || s.hpState q == 6 || s.hpState q == 7)

/-- The port lingers (R293, R312). -/
def State.portLingers (s : State) (q : Nat) : Bool :=
  match s.portRec q with
  | none => false
  | some p => if p.fabric then s.linkState q == 3 else s.on (Reg.PT_STD_STATUS q) Fld.PT_STD_STATUS.LINGER

/-- A tile fenced by FENCE_TILE: other tiles treat its ports as down (R18). -/
def State.tileFenced (s : State) (t : Nat) : Bool := s.acc.fencedTiles.contains t

/-- A port with IDE_REQUIRED whose IDE is not secure: it carries only configuration requests to the switch's own functions,
DOE traffic and link management (R308), none of which stands as a message here. -/
def State.ideBlocks (s : State) (p : PortRec) : Bool :=
  !p.fabric && p.ideRequired && s.rd (Reg.PT_STD_STATUS p.port) Fld.PT_STD_STATUS.IDE != 2

/-- A port from which new messages are turned away: its slot's removal is under way (R326), or IDE_REQUIRED is not met at
a downstream port (R308). -/
def State.portShut (s : State) (q : Nat) : Bool :=
  match s.portRec q with
  | none => true
  | some p => !p.fabric && ((decide (p.slot < 32) && s.hpState q == 7)
      || (p.role == .downstream && s.ideBlocks p))

/-- Messages may be queued toward the port. -/
def State.portTakes (s : State) (q : Nat) : Bool :=
  ((s.portUp q && !s.portShut q) || s.portLingers q) && !s.tileFenced (tileOf q)

/-! ### Endpoint IDs (R300) -/

/-- Whether some BINDING or DECODER TARGET of a Formula names (port, LD). -/
def namesLd (f : Formula) (q ld : Nat) : Bool :=
  f.bindings.any (fun b => b.dsp == q && b.ld == ld) ||
  f.decoders.any (fun d => d.targets.any fun t => t.port == q && t.ld == ld)

/-- The endpoints of a Formula in ascending (PORT, LD) order, each port's own endpoint first: port and LD (none for
the port's own). -/
def endpoints (f : Formula) : List (Nat × Option Nat) :=
  let std := (List.range 128).filter fun q => f.ports.any fun p => p.port == q && !p.fabric
  std.flatMap fun q => (q, none) :: ((List.range 16).filter (namesLd f q)).map fun l => (q, some l)

/-- The EID of a port's own endpoint. -/
def State.portEid (s : State) (q : Nat) : Nat :=
  match s.fml.inForce with
  | none => 0
  | some f => f.device.mgmtEid + 1 + (endpoints f).idxOf (q, none)

/-- The endpoint an EID stands for, where it is one of this switch's. -/
def State.eidEndpoint (s : State) (e : Nat) : Option (Nat × Option Nat) :=
  match s.fml.inForce with
  | none => none
  | some f => if f.device.mgmtEid < e then (endpoints f)[e - f.device.mgmtEid - 1]? else none

/-- MGMT_EID, the switch endpoint (R159). -/
def State.mgmtEid (s : State) : Nat :=
  match s.fml.inForce with
  | none => 0
  | some f => f.device.mgmtEid

/-! ### Routes (R285) -/

/-- One bit of CRC-16 with polynomial 0x1021, most significant bit first. -/
def crc16Bit (c : Nat) (b : Bool) : Nat :=
  let x := (c >>> 15) % 2 = 1
  let y := (c * 2) % 65536
  if x != b then y ^^^ 0x1021 else y

/-- CRC-16 of the low n bits of x, most significant first. -/
def crc16 (c x : Nat) : Nat → Nat
  | 0 => c
  | n + 1 => crc16 (crc16Bit c (x.testBit n)) x n

/-- The number that the equal-cost choice reduces: DST_EID, SRC_EID and, for coherent messages, ADDR[51:6]. -/
def routeHash (dst src : Nat) (line : Option Nat) : Nat :=
  let c := crc16 (crc16 0xFFFF dst 14) src 14
  match line with
  | some a => crc16 c (a / 64 % 2 ^ 46) 46
  | none => c

/-- The port that leads to an endpoint: this switch's own port, or the route's choice among ports UP or in LINGER. -/
def State.routeTo (s : State) (dst src : Nat) (line : Option Nat) : Option Nat :=
  match s.eidEndpoint dst with
  | some (q, _) => some q
  | none =>
    match s.fml.inForce with
    | none => none
    | some f =>
      match f.routes.find? fun r => decide (r.first ≤ dst) && decide (dst ≤ r.last) with
      | none => none
      | some r =>
        let l := r.ports.filter s.portTakes
        l[routeHash dst src line % l.length]?

/-! ### Decoders (R215, R233) -/

def State.flAcc (s : State) (f : Nat) : FlAccess := tabGet s.acc.fl f {}

def State.modAcc (s : State) (f : Nat) (g : FlAccess → FlAccess) : State :=
  { s with acc := { s.acc with fl := tabMod s.acc.fl f {} g } }

/-- FL_EPOCH of Flacon f. -/
def State.epochOf (s : State) (f : Nat) : Nat := s.rd (Reg.FL_EPOCH f) Fld.FL_EPOCH.EPOCH

/-- Epoch a lies before epoch b, modulo 2^32 (R229). -/
def epochBefore (a b : Nat) : Bool :=
  let d := (2 ^ 32 + b - a % 2 ^ 32) % 2 ^ 32
  decide (1 ≤ d) && decide (d < 2 ^ 31)

/-- The decoders and bindings of f that were current at epoch e (R233). -/
def State.genAt (s : State) (f e : Nat) : DecGen :=
  let a := s.flAcc f
  if epochBefore e a.changedAt then a.old else a.cur

/-- The decoder of a list that an address hits. -/
def findDecoder (l : List DecoderRec) (a : Nat) : Option DecoderRec :=
  l.find? fun d => decide (d.base ≤ a) && decide (a < d.base + d.size)

/-- The way and DPA of an address (R215). -/
def wayDpa (d : DecoderRec) (a : Nat) : Nat × Nat :=
  let o := a - d.base
  let w := d.targets.length
  let way := (o >>> d.gran) % w
  let off := ((d.targets[way]?).map (·.dpa)).getD 0
  (way, off * 2 ^ 28 + ((o >>> (d.gran + Nat.log2 w)) <<< d.gran) + o % 2 ^ d.gran)

/-- The target and DPA of an address. -/
def decTarget (d : DecoderRec) (a : Nat) : Option (DecTarget × Nat) :=
  let (way, dpa) := wayDpa d a
  (d.targets[way]?).map fun t => (t, dpa)

/-! ### Home geometry (R130 to R133) -/

/-- The SHARED decoders of a list. -/
def sharedDecs (l : List DecoderRec) : List DecoderRec := l.filter (·.shared)

/-- L_f: the number of shared lines. -/
def sharedLines (l : List DecoderRec) : Nat := (sharedDecs l).foldl (fun n d => n + d.size / 64) 0

/-- SLN of an address in SHARED decoder d (R130). -/
def slnOf (l : List DecoderRec) (d : DecoderRec) (a : Nat) : Nat :=
  ((((sharedDecs l).filter fun e => decide (e.index < d.index)).foldl (fun n e => n + e.size) 0) + (a - d.base)) / 64

/-- The set bits of a slice mask, in order. -/
def maskBits (m : Nat) (n : Nat) : List Nat := (List.range n).filter m.testBit

/-- The XOR of the consecutive 7-bit fields of y (at most n of them). -/
def fold7 : Nat → Nat → Nat
  | 0, _ => 0
  | n + 1, y => (y % 128) ^^^ fold7 n (y / 128)

/-- Where a shared line lives: slice, set within the slice, tag. -/
structure Home where
  slice : Nat
  set : Nat
  tag : Nat
  deriving DecidableEq, Repr

/-- B_f(n): the sets of Flacons below f on slice n (R132). -/
def setBase (fl : List FlaconRec) (f n : Nat) : Nat :=
  (fl.filter fun r => decide (r.index < f) && r.sliceMask.testBit n).foldl (fun a r => a + r.dirSets) 0

/-- R131, R132: the home of shared line number sln of Flacon r. -/
def homeOf (fl : List FlaconRec) (r : FlaconRec) (sln : Nat) : Home :=
  let bits := maskBits r.sliceMask 64
  let k := bits.length
  let g := sln / 64
  let l := sln % 64
  let y := g / k
  let idx := (g % k + fold7 10 y) % k
  let n := (bits[idx]?).getD 0
  let z := y * 64 + l
  { slice := n, set := setBase fl r.index n + z % r.dirSets, tag := z / r.dirSets }

/-- The condition of R133. -/
def geometryOk (r : FlaconRec) (decs : List DecoderRec) : Bool :=
  let k := (maskBits r.sliceMask 64).length
  let lf := sharedLines decs
  if lf = 0 then true
  else decide (r.dirSets ≠ 0) && decide (k ≠ 0) &&
    decide (64 * (((lf + 63) / 64 + k - 1) / k) ≤ 2 ^ 28 * r.dirSets)

/-- Whether Flacon f's directory is well formed. -/
def State.geomOk (s : State) (f : Nat) : Bool :=
  match s.flaconRec f with
  | none => false
  | some r => geometryOk r (s.flAcc f).cur.decoders

/-- The Flacon records in force. -/
def State.flaconRecs (s : State) : List FlaconRec :=
  match s.fml.inForce with
  | none => []
  | some g => g.flacons

/-- The home of a byte address of Flacon f, where it hits a SHARED decoder of the generation of epoch e. -/
def State.homeAt (s : State) (f e a : Nat) : Option Home :=
  match s.flaconRec f with
  | none => none
  | some r =>
    let l := (s.genAt f e).decoders
    match findDecoder l a with
    | none => none
    | some d => if d.shared then some (homeOf s.flaconRecs r (slnOf l d a)) else none

end Sys2Proof.Machine
end

