-- ==== Sys2Proof/Machine/Region.lean ====
section
/-!
DEFINITION. Machine/Region.lean: privilege (R218, R219), region lookups (R220 to R226), violation reports (R237 to R239),
rule epochs (R229 to R234).
-/
namespace Sys2Proof.Machine

/-! ### Privilege (R218 Table 2, R219) -/

/-- The level at which a message that arrives on port p is checked. -/
def State.privOf (s : State) (p : PortRec) (m : Msg) : Nat :=
  if p.fabric then (if m.priv = 0 then 2 else m.priv)
  else if p.role = .downstream then 3
  else if m.tee && s.rd (Reg.PT_STD_STATUS p.port) Fld.PT_STD_STATUS.IDE == 2
      && s.on (Reg.FL_CFG p.flacon) Fld.FL_CFG.P1_ALLOWED then 1
  else 2

/-! ### Permissions (R221 Table 3) -/

/-- Access kind codes of Table 3. -/
def kindOf (io : Bool) (op : Nat) : Nat :=
  if io then (if op = 0x40 ∨ op = 0x60 then 4 else if 0x4C ≤ op ∧ op ≤ 0x4E ∨ 0x6C ≤ op ∧ op ≤ 0x6E then 5 else 3)
  else if op = Op.RD_SHARED ∨ op = Op.RD_CUR then 0
  else if op = Op.RD_OWN ∨ op = Op.OWN_NODATA then 1
  else 2

/-- Permissions a kind needs: bit 0 R, bit 1 W, bit 2 X.  atomicHome: an atomic on a SHARED decoder. -/
def needsOf (kind : Nat) (sharedDec : Bool) : Nat :=
  match kind with
  | 0 => 1 | 1 => 3 | 2 => 2 | 3 => 1 | 4 => 2
  | 5 => if sharedDec then 7 else 3
  | 6 => 5 | 7 => 6 | 8 => 5 | 9 => 6
  | _ => 3

/-- Whether an access is never checked (R222). -/
def unchecked (m : Msg) : Bool :=
  if m.io then m.mc == 1 || m.mc == 2
  else !(m.op == Op.RD_SHARED || m.op == Op.RD_OWN || m.op == Op.RD_CUR || m.op == Op.OWN_NODATA || m.op == Op.WR_FULL)

/-- PERMS of a region at privilege p. -/
def permsAt (perms p : Nat) : Nat := perms / 2 ^ (3 * p) % 8

/-! ### The region table -/

/-- Whether all four quadrant copies of entry i are bad. -/
def State.allBad (s : State) (i : Nat) : Bool := [0, 1, 2, 3].all fun c => s.acc.bad.contains (c, i)

/-- Regions of f that cover an address and that a tile can read, out of its cache or of a copy, by rising index.  A reader
that is no tile, from number 64 on, has no cache. -/
def State.regionsAt (s : State) (tile f a : Nat) : List (Nat × RegionEnt) :=
  s.acc.regions.filter fun e => e.2.flacon == f && decide (e.2.start ≤ a) && decide (a < e.2.stop)
    && ((tabGet s.acc.cache tile []).contains e.1 || !s.allBad e.1)

/-- The next address after a at which a region of f starts or ends, at most stop. -/
def State.nextBound (s : State) (f a stop : Nat) : Nat :=
  s.acc.regions.foldl (fun n e =>
    if e.2.flacon = f then
      let n1 := if a < e.2.start ∧ e.2.start < n then e.2.start else n
      if a < e.2.stop ∧ e.2.stop < n1 then e.2.stop else n1
    else n) stop

/-- One part of an access between region boundaries (R235): its span, the region it lies in, whether it is allowed, and
whether two regions cover it. -/
structure Part where
  start : Nat
  stop : Nat
  region : Option Nat
  multi : Bool
  allowed : Bool
  ns : Bool
  deriving DecidableEq, Repr

/-- The parts of the span from a to stop as a tile reads them, in address order. -/
def State.partsOf (s : State) (tile f priv needs : Nat) (a stop : Nat) : Nat → List Part
  | 0 => []
  | n + 1 =>
    if stop ≤ a then [] else
    let b := s.nextBound f a stop
    let p : Part := match s.regionsAt tile f a with
      | [] => { start := a, stop := b, region := none, multi := false, allowed := false, ns := false }
      | [(i, r)] =>
        { start := a, stop := b, region := some i, multi := false,
          allowed := permsAt r.perms priv &&& needs == needs, ns := r.ns }
      | (i, r) :: _ => { start := a, stop := b, region := some i, multi := true, allowed := false, ns := r.ns }
    p :: s.partsOf tile f priv needs b stop n

/-- Bring one region index to the front of a tile's cache of 2,048 entries (R224), counting hits and misses.  An entry that
no copy can give is not cached. -/
def State.touchRegion (s : State) (tile i : Nat) (parity : Bool) : State :=
  let l := tabGet s.acc.cache tile []
  let hit := l.contains i && !parity
  let s1 := if hit then s.inc (Reg.TL_RCACHE tile) Fld.TL_RCACHE.HITS
    else s.inc (Reg.TL_RCACHE tile) Fld.TL_RCACHE.MISSES
  let s2 := s1.when (l.contains i && parity) fun t => t.inc (Reg.TL_RCACHE_ERR tile) Fld.TL_RCACHE_ERR.PARITY
  let others := l.filter (· != i)
  let now := if hit || !s2.allBad i then (i :: others).take 2048 else others
  { s2 with acc := { s2.acc with cache := tabPut s2.acc.cache tile now } }

/-- R225: a tile reads entry i from its own quadrant's copy, and with that bad from the next ones, North, East, South, West,
wrapping around.  The bad copies met are rewritten from the first good one and FL_REGION_CE raised; with no good one
FL_REGION_UE is raised against the Flacon of the access. -/
def State.repairRegion (s : State) (tile f i : Nat) : State :=
  if s.allBad i then s.raise Src.FL_REGION_UE (some f)
  else
    let order := (List.range 4).map fun k => (quadOf tile + k) % 4
    let met := order.takeWhile fun c => s.acc.bad.contains (c, i)
    if met.isEmpty then s
    else
      let left := s.acc.bad.filter fun e => !(e.2 == i && met.contains e.1)
      ({ s with acc := { s.acc with bad := left } }).raise Src.FL_REGION_CE none

/-- The region part of a lookup: what it finds bad, the cache, the repairs, in the order of the indices met.  One that was in
progress when the epoch switched has been restarted: it runs under the new epoch, and is counted (R230). -/
def State.lookupRegions (s : State) (f tile : Nat) (env : LookupEnv) (a stop : Nat) : State :=
  let bad : List (Nat × Nat) :=
    env.bad.foldl (fun l e => if l.contains (e.1.val, e.2) then l else l ++ [(e.1.val, e.2)]) s.acc.bad
  let s0 := ({ s with acc := { s.acc with bad := bad } } : State).when env.restarted fun t =>
    t.inc (Reg.TL_RCACHE_ERR tile) Fld.TL_RCACHE_ERR.RESTARTS
  let met := s0.acc.regions.filter fun e => e.2.flacon == f && decide (e.2.start < stop) && decide (a < e.2.stop)
  met.foldl (fun t e =>
    let t1 := if (tabGet t.acc.cache tile []).contains e.1 && !env.parity then t else t.repairRegion tile f e.1
    t1.touchRegion tile e.1 env.parity) s0

/-! ### Violations -/

/-- A violation report of Flacon f (R238, R239): FL_ACCESS_DENIED, the latch or the counts. -/
def State.deny (s : State) (f : Nat) (r : AccessRec) : State :=
  let r' := { r with source := Src.FL_ACCESS_DENIED, time := s.now, flacon := f }
  let s1 := (s.raiseAt Src.FL_ACCESS_DENIED (some f) r').inc (Reg.FL_VIOL_CNT f) Fld.FL_VIOL_CNT.REPORTS
  if s1.on (Reg.FL_VIOL_CTL f) Fld.FL_VIOL_CTL.VALID then
    s1.inc (Reg.FL_VIOL_CNT f) Fld.FL_VIOL_CNT.UNLATCHED
  else (s1.putRec (Reg.FL_VIOL f 0) r').set1 (Reg.FL_VIOL_CTL f) Fld.FL_VIOL_CTL.VALID

/-- What an access record says of a message (R238 Table 7). -/
def recOf (m : Msg) (kind needed : Nat) : AccessRec :=
  { addr := m.addr, kind := kind, mc := m.mc, flacon := m.flacon, srcEid := m.srcEid, port := m.port, priv := m.priv,
    needed := needed, typ := m.op, epoch := m.epoch }

/-- The report of a checked access with a forbidden part: exactly one, with the lowest forbidden address (R237). -/
def State.denyParts (s : State) (m : Msg) (kind needed : Nat) (parts : List Part) : State :=
  match parts.find? fun p => !p.allowed with
  | none => s
  | some p =>
    let r := { recOf m kind needed with
      addr := p.start, noRegion := p.region.isNone, multiHit := p.multi, straddle := decide (1 < parts.length),
      region := p.region.getD 0 }
    let s1 := s.when (parts.any (·.multi)) fun t => t.raiseAt Src.FL_REGION_MULTI_HIT (some m.flacon) r
    s1.deny m.flacon r

/-! ### Rule epochs -/

/-- The difference of two epochs, modulo 2^32. -/
def epochDiff (a b : Nat) : Nat := (2 ^ 32 + a - b % 2 ^ 32) % 2 ^ 32

/-- An access of f checked under epoch e becomes outstanding (R231). -/
def State.openAccess (s : State) (f e : Nat) : State :=
  s.modAcc f fun a => { a with outst := tabMod a.outst e 0 (· + 1) }

/-- An outstanding access of f of epoch e ends. -/
def State.closeAccess (s : State) (f e : Nat) : State :=
  s.modAcc f fun a =>
    let n := tabGet a.outst e 0
    { a with outst := if n ≤ 1 then tabDel a.outst e else tabPut a.outst e (n - 1) }

/-- No access of f of an epoch before e is outstanding (R234). -/
def State.drainedTo (s : State) (f e : Nat) : Bool := (s.flAcc f).outst.all fun x => !epochBefore x.1 e

/-- Whether f's epoch may advance now (R232); changes: the advance changes decoders or bindings (R233). -/
def State.canAdvance (s : State) (f : Nat) (changes : Bool) : Bool :=
  let e := s.epochOf f
  let a := s.flAcc f
  a.outst.all fun x => decide (epochDiff e x.1 < 7) && !(changes && epochBefore x.1 a.changedAt)

/-- Region entries written with the epoch they took effect at. -/
def putRegions (t : Tab RegionEnt) (l : List (Nat × Option RegionEnt)) : Tab RegionEnt :=
  l.foldl (fun r e => match e.2 with | some x => tabPut r e.1 x | none => tabDel r e.1) t

/-- The switch MCLK of R230: new entries and a new generation become current, FL_EPOCH advances, every tile drops its
cache entries of f. -/
def State.epochStep (s : State) (f : Nat) (regions : List (Nat × Option RegionEnt)) (gen : Option DecGen) : State :=
  let e := (s.epochOf f + 1) % 2 ^ 32
  let mine := (s.acc.regions.filter fun x => x.2.flacon == f).map (·.1)
  let s1 := s.wr (Reg.FL_EPOCH f) Fld.FL_EPOCH.EPOCH e
  let s2 := { s1 with acc := { s1.acc with
    regions := putRegions s1.acc.regions (regions.map fun x => (x.1, x.2.map fun r => { r with epoch := e }))
    bad := s1.acc.bad.filter fun b => !(regions.any fun x => x.1 == b.2)
    cache := s1.acc.cache.map fun c => (c.1, c.2.filter fun i => !mine.contains i) } }
  match gen with
  | none => s2
  | some g => s2.modAcc f fun a => { a with old := a.cur, cur := g, changedAt := e }

/-- Valid regions of f. -/
def State.regionCount (s : State) (f : Nat) : Nat := (s.acc.regions.filter fun x => x.2.flacon == f).length

/-- FL_REGIONS.COUNT brought up to date. -/
def State.showRegions (s : State) (f : Nat) : State :=
  s.wr (Reg.FL_REGIONS f) Fld.FL_REGIONS.COUNT (s.regionCount f)

end Sys2Proof.Machine
end

