-- ==== Sys2Proof/Machine/Sillage.lean ====
section
/-!
DEFINITION. Machine/Sillage.lean: the Sillage FIFOs and their filters (R405 to R409, R411).
-/
namespace Sys2Proof.Machine

/-- Modes in which Sillage records (R411). -/
def Mode.records : Mode → Bool
  | .compose | .serve | .recompose | .revive | .quarantine => true
  | _ => false

/-- Whether a message carries an address: not a response or a control message. -/
def hasAddr (m : Msg) : Bool := !(m.io && (m.mc == 1 || m.mc == 2))

/-- Whether message m on port q passes filter n of quadrant k (R407). -/
def State.filterPasses (s : State) (k n q : Nat) (m : Msg) : Bool :=
  let c := Reg.SL_FILT_CTL k n
  let hi := s.rd (Reg.SL_FILT_HI k n) Fld.SL_FILT_HI.HI
  s.on c Fld.SL_FILT_CTL.EN && (s.rd c Fld.SL_FILT_CTL.CLASSES).testBit m.mc
  && (s.rd (Reg.SL_FILT_PORTS k n) Fld.SL_FILT_PORTS.PORTS).testBit (q % 32)
  && (s.rd (Reg.SL_FILT_FL k n) Fld.SL_FILT_FL.FLACONS).testBit m.flacon
  && (hi == 0 || (hasAddr m && decide (s.rd (Reg.SL_FILT_LO k n) Fld.SL_FILT_LO.LO ≤ m.addr) && decide (m.addr < hi)))

/-- The FIFO of quadrant k. -/
def State.silFifo (s : State) (k : Nat) : SilFifo := tabGet s.sil k {}

/-- A TLP's native header behind its prefixes, each four bytes that bear format 4 (PRESUMED, assumption 76). -/
def tlpHeader : List Byte → List Byte
  | a :: b :: c :: d :: r => if a.toNat / 32 = 4 then tlpHeader r else a :: b :: c :: d :: r
  | l => l

/-- DATA of an entry (R406 Table 8): TLP header bytes 0 to 7, or the first payload bytes of coherent data.  The header of a
TLP that the switch makes is an opaque constant (assumption 76). -/
def silData (m : Msg) : Word :=
  if m.io then
    if m.hdr.isEmpty then (Config.completionHeader m.op m.len m.addr m.tag m.srcEid).setWidth 64
    else BitVec.ofNat 64 (natOf ((tlpHeader m.hdr).take 8))
  else match m.data with | [] => 0 | l :: _ => l.setWidth 64

/-- The entry of a message that passes point p (0 ingress, 1 egress) of port q now: none where Sillage does not record
it. -/
def State.silEntry (s : State) (p q : Nat) (m : Msg) : Option SilEntry :=
  let k := quadOf (tileOf q)
  if s.md.records && s.on (Reg.SL_CTL k) Fld.SL_CTL.EN && s.rd (Reg.SL_CTL k) Fld.SL_CTL.POINT == p
      && (s.filterPasses k 0 q m || s.filterPasses k 1 q m) then
    some {
      time := s.now % 2 ^ 40, port := q, point := p, mc := m.mc, flacon := m.flacon, tent := m.tent, poison := m.poison,
      tailBad := false, uvc := m.uvc, addr := if hasAddr m then m.addr else 0, opcode := if m.io then 0 else m.op,
      io := m.io, priv := m.priv, svc := m.svc, srcEid := m.srcEid, dstEid := m.dstEid, tag := m.tag, cells := m.cells,
      lost := 0, data := silData m }
  else none

/-- The four words of an entry (R406 Table 8). -/
def SilEntry.words (e : SilEntry) : List Word :=
  [BitVec.ofNat 64 (at64 e.time 0 40 + at64 e.port 40 7 + at64 e.point 47 1 + at64 e.mc 48 3 + at64 e.flacon 51 5
     + at64 (b2n e.tent) 56 1 + at64 (b2n e.poison) 57 1 + at64 (b2n e.tailBad) 58 1 + at64 (b2n e.uvc) 59 1),
   BitVec.ofNat 64 (at64 e.addr 0 52 + at64 e.opcode 52 7 + at64 (b2n e.io) 59 1 + at64 e.priv 60 2 + at64 e.svc 62 2),
   BitVec.ofNat 64 (at64 e.srcEid 0 14 + at64 e.dstEid 14 14 + at64 e.tag 28 12 + at64 e.cells 40 7 + at64 e.lost 48 8),
   e.data]

/-- Whether Flacon f mirrors its entries (R410). -/
def State.mirrors (s : State) (f : Nat) : Bool :=
  s.on (Reg.FL_MIRROR_CTL f) Fld.FL_MIRROR_CTL.EN && decide (0 < (((s.flaconRec f).map (·.mirrorMbps)).getD 0))

/-- Entries that a FIFO takes in one beat: 2 in each of its 16 CCLK (R405; DEDUCED, assumption 82: CHIP_TIME moves by beats). -/
def silPerBeat : Nat := 32

/-- An entry written to its quadrant's FIFO of 2,048 entries, or dropped and counted (R405, R408); one written goes to its
Flacon's mirror ring too, but for a tentative cell's (R410). -/
def State.silPut (s : State) (e : SilEntry) : State :=
  let k := quadOf (tileOf e.port)
  let f := s.silFifo k
  let n := if f.stamp = s.now then f.taken else 0
  if f.entries.length < 2048 ∧ n < silPerBeat then
    let e1 := { e with lost := min 255 f.lost }
    { s with
      sil := tabPut s.sil k { entries := f.entries ++ [e1], stamp := s.now, taken := n + 1 }
      mirrorOut := if s.mirrors e.flacon && !e.tent then s.mirrorOut ++ [e1] else s.mirrorOut }
  else { s with sil := tabPut s.sil k { f with lost := f.lost + 1 } }

/-- Quadrant k's FIFO, and every entry under construction at its points, discarded (R409). -/
def State.silFlush (s : State) (k : Nat) : State :=
  let mine (q : Nat) : Bool := quadOf (tileOf q) == k
  { s with
    sil := tabPut s.sil k {}
    core := { s.core with arriving := s.core.arriving.map fun e =>
      (e.1, if mine (e.1 / 8) then { e.2 with sil := none } else e.2) }
    sched := { s.sched with port := s.sched.port.map fun e => (e.1, if mine e.1 then { e.2 with sil := [] } else e.2) } }

/-- The n oldest entries of quadrant k removed (R408). -/
def State.silAck (s : State) (k n : Nat) : State :=
  let f := s.silFifo k
  { s with sil := tabPut s.sil k { f with entries := f.entries.drop n } }

end Sys2Proof.Machine
end

