-- ==== Sys2Proof/Machine/Buffer.lean ====
section
/-!
DEFINITION. Machine/Buffer.lean: the cell buffer: queues (R83), charges and reserves (R84 to R88), admission (R87),
push-out (R89, R90), prefetch (R86).
-/
namespace Sys2Proof.Machine

/-! ### Queues -/

/-- Queue numbers of R83: dst is a port, or 128 + slice. -/
def queueNo (dst mc f : Nat) : Nat :=
  if dst < 128 then (dst * 8 + mc) * 32 + f else 32768 + ((dst - 128) * 8 + mc) * 32 + f

def State.queue (s : State) (n : Nat) : List Cell := tabGet s.core.queues n []

def State.putQueue (s : State) (n : Nat) (l : List Cell) : State :=
  { s with core := { s.core with queues := match l with
    | [] => tabDel s.core.queues n
    | _ => tabPut s.core.queues n l } }

/-- The queues of a port that hold cells. -/
def State.portQueues (s : State) (q : Nat) : List (Nat × List Cell) :=
  s.core.queues.filter fun e => decide (q * 256 ≤ e.1) && decide (e.1 < q * 256 + 256)

/-- Cells held in a port's queues. -/
def State.portCells (s : State) (q : Nat) : Nat := (s.portQueues q).foldl (fun n e => n + e.2.length) 0

/-- Service class of class mc in Flacon f: SERVICE_MAP holds two bits for each class (R50). -/
def State.serviceOf (s : State) (f mc : Nat) : Nat :=
  s.rd (Reg.FL_CFG f) Fld.FL_CFG.SERVICE_MAP / 4 ^ mc % 4

/-! ### Charges -/

def State.usedFast (s : State) (f : Nat) : Nat := tabGet s.core.buf.fast f 0
def State.usedSpill (s : State) (f : Nat) : Nat := tabGet s.core.buf.spill f 0

def State.modBuf (s : State) (g : BufState → BufState) : State := { s with core := { s.core with buf := g s.core.buf } }

/-- A count in a table, kept without zero entries. -/
def putCount (t : Tab Nat) (k n : Nat) : Tab Nat := if n = 0 then tabDel t k else tabPut t k n

/-- A high-water mark raised to x. -/
def State.hwm (s : State) (f : Nat) (g : Fld) (x : Nat) : State :=
  if s.rd (Reg.FL_BUF_HWM f) g < x then s.wr (Reg.FL_BUF_HWM f) g x else s

/-- Charge n cells of Flacon f, bound for dst, to a tier. -/
def State.charge (s : State) (t : Tier) (f dst n : Nat) : State :=
  match t with
  | .fast =>
    let u := s.usedFast f + n
    (s.modBuf fun b => { b with fast := putCount b.fast f u }).hwm f Fld.FL_BUF_HWM.FAST u
  | .spill =>
    let u := s.usedSpill f + n
    (s.modBuf fun b => { b with spill := putCount b.spill f u }).hwm f Fld.FL_BUF_HWM.SPILL u
  | .resp => s.modBuf fun b => { b with resp := putCount b.resp dst (tabGet b.resp dst 0 + n) }
  | .prefetch => s.modBuf fun b => { b with pre := putCount b.pre dst (tabGet b.pre dst 0 + n) }
  | .writeback => s

/-- Release n cells.  A cell of the snoop-writeback reserve returns under R85, not here. -/
def State.release (s : State) (t : Tier) (f dst n : Nat) : State :=
  match t with
  | .fast => s.modBuf fun b => { b with fast := putCount b.fast f (s.usedFast f - n) }
  | .spill => s.modBuf fun b => { b with spill := putCount b.spill f (s.usedSpill f - n) }
  | .resp => s.modBuf fun b => { b with resp := putCount b.resp dst (tabGet b.resp dst 0 - n) }
  | .prefetch => s.modBuf fun b => { b with pre := putCount b.pre dst (tabGet b.pre dst 0 - n) }
  | .writeback => s

/-! ### Slots (R15, R34, R69) -/

/-- The Keep stack channel that holds the directory backing entries of slice n (R15). -/
def sliceChannel (n : Nat) : Nat := n % 8

/-- The Keep stack channel of spill slot k: partitions are interleaved by 4 KiB, 32 slots of 128 bytes (R15, R69). -/
def spillChannel (k : Nat) : Nat := k / 32 % 8

/-- The Keep stack channel of staging slot k: 64 lines of 64 bytes to 4 KiB (R15). -/
def stageChannel (k : Nat) : Nat := k / 64 % 8

/-- The first slot of a tier in the table of slots: fast slots lie from 0, spill slots from 2^20. -/
def slotBase (t : Tier) : Nat := match t with | .spill => 2 ^ 20 | _ => 0

/-- The n lowest free slots from k on.  DESIGN CHOICE (assumption 67): which free slot a cell takes is not laid down. -/
def freeSlots (t : Tab Nat) (k : Nat) : Nat → List Nat
  | 0 => []
  | n + 1 => tabGap t k :: freeSlots t (tabGap t k + 1) n

/-- n slots of a tier taken for cells charged to Flacon f. -/
def State.allot (s : State) (t : Tier) (f n : Nat) : List Nat × State :=
  let l := freeSlots s.core.buf.slots (slotBase t) n
  (l, s.modBuf fun b => { b with slots := l.foldl (fun u k => tabPut u k f) b.slots })

/-- A slot given back. -/
def State.freeSlot (s : State) (k : Nat) : State := s.modBuf fun b => { b with slots := tabDel b.slots k }

/-- A slot of a tier, charged to Flacon f for dst, given back with its charge. -/
def State.giveBack (s : State) (t : Tier) (f dst k : Nat) : State := (s.release t f dst 1).freeSlot k

/-- Release the slot of one cell. -/
def State.freeCell (s : State) (c : Cell) : State :=
  match c.slot with
  | some k => s.giveBack c.tier c.msg.flacon c.dst k
  | none => s

/-- Snoop-writeback reserve cells of slice n in use (R85). -/
def State.wbUsed (s : State) (n : Nat) : Nat := tabGet s.core.buf.wb n 0
def State.wbTake (s : State) (n : Nat) : State := s.modBuf fun b => { b with wb := putCount b.wb n (s.wbUsed n + 1) }
def State.wbReturn (s : State) (n : Nat) : State := s.modBuf fun b => { b with wb := putCount b.wb n (s.wbUsed n - 1) }

/-! ### Room (R87) -/

/-- ⌊2^a × x⌋. -/
def scale (a : Int) (x : Int) : Int := if 0 ≤ a then x * 2 ^ a.toNat else x / 2 ^ (-a).toNat

/-- D_f, E_f: what exceeds the guarantee. -/
def above (u g : Nat) : Nat := u - g

/-- F: free cells of the fast shared pool, which the Formula divides; 0 without one (R7, R34). -/
def State.poolFast (s : State) : Int :=
  if s.fml.inForce.isNone then 0 else
  let l := s.flaconRecs
  let p : Int := 983040 - (l.foldl (fun n r => n + r.cellsGuar) 0 : Nat)
  p - (l.foldl (fun n r => n + above (s.usedFast r.index) r.cellsGuar) 0 : Nat)

/-- FS: free cells of the spill shared pool; 0 without a Formula. -/
def State.poolSpill (s : State) : Int :=
  if s.fml.inForce.isNone then 0 else
  let l := s.flaconRecs
  let p : Int := 2883584 - (l.foldl (fun n r => n + r.spillGuar) 0 : Nat)
  p - (l.foldl (fun n r => n + above (s.usedSpill r.index) r.spillGuar) 0 : Nat)

/-- One pair of steps: guaranteed, or dynamic. -/
def roomIn (u g n : Nat) (a pool : Int) : Bool :=
  decide (u + n ≤ g) || decide ((above u g : Int) + n - (g - u : Nat) ≤ scale a pool)

def State.fastRoom (s : State) (f n : Nat) : Bool :=
  match s.flaconRec f with
  | none => false
  | some r => roomIn (s.usedFast f) r.cellsGuar n r.cellsAlpha s.poolFast

/-- Spill accesses that the Keep arbitration window still gives (R35, R88): 160 accesses of 128 bytes in each 80 ns over
the eight channels, 140 at refresh ×4, 120 at ×8. -/
def State.spillCap (s : State) : Nat :=
  match s.rd Reg.CHIP_TJ Fld.CHIP_TJ.REFRESH_MULT with
  | 2 => 140
  | 3 => 120
  | _ => 160

/-- Accesses that channel ch's window still gives: the caps are enforced for each channel at one eighth (R35). -/
def State.spillSlots (s : State) (ch : Nat) : Nat := s.spillCap / 8 - tabGet s.sched.spillUsed ch 0

/-- Accesses to spill slots made in their channels' windows. -/
def State.useSpillSlots (s : State) (l : List Nat) : State :=
  { s with sched := { s.sched with spillUsed := l.foldl (fun t k => tabMod t (spillChannel k) 0 (· + 1)) s.sched.spillUsed } }

/-- The spill slot of a cell in the spill tier. -/
def spillSlotOf (c : Cell) : Option Nat := if c.tier = .spill then c.slot.map (· - 2 ^ 20) else none

/-- Spill cells of channel ch that the prefetch windows have room for: their reads go before writes (R86, R91). -/
def State.readsWaiting (s : State) (ch : Nat) : Nat :=
  (List.range 128).foldl (fun n q =>
    let mine := ((s.portQueues q).flatMap (·.2)).filter fun c => match spillSlotOf c with
      | some k => spillChannel k == ch
      | none => false
    n + min mine.length (256 - tabGet s.core.buf.pre q 0)) 0

/-- Writes to the spill slots of a list find write slots in their channels' windows (R88). -/
def State.spillWrites (s : State) (l : List Nat) : Bool :=
  (List.range 8).all fun ch =>
    let n := (l.filter fun k => spillChannel k == ch).length
    n == 0 || decide (n + s.readsWaiting ch ≤ s.spillSlots ch)

def State.spillRoom (s : State) (f n : Nat) : Bool :=
  match s.flaconRec f with
  | none => false
  | some r => roomIn (s.usedSpill f) r.spillGuar n r.cellsAlpha s.poolSpill &&
      s.spillWrites ((freeSlots s.core.buf.slots (slotBase .spill) n).map (· - 2 ^ 20))

/-! ### Push-out (R89, R90) -/

/-- Whether the tail of a cell's message has been written behind it in its queue. -/
def tailWritten (c : Cell) (rest : List Cell) : Bool :=
  match c.kind with
  | .single | .packed | .tail => true
  | _ => rest.any fun d => d.kind == .tail && d.src == c.src

/-- Positions in a queue, from the position k on, of cells of service class v that push-out may take. -/
def victimsFrom (v : Nat) : List Cell → Nat → List Nat
  | [], _ => []
  | c :: r, k =>
    let l := victimsFrom v r (k + 1)
    if 16 ≤ k ∧ c.tier = .fast ∧ c.msg.svc = v ∧ tailWritten c r then k :: l else l

/-- Fast-tier cells of a queue. -/
def fastCells (l : List Cell) : Nat := (l.filter fun c => c.tier == .fast).length

/-- A queue put into a list with falling fast-tier counts, ties by rising number. -/
def insertByFast (e : Nat × List Cell) : List (Nat × List Cell) → List (Nat × List Cell)
  | [] => [e]
  | d :: r => if fastCells d.2 < fastCells e.2 then e :: d :: r else d :: insertByFast e r

/-- Candidate victims of Flacon g and service class v, in the order of R89: queue number and position.  A cell's service
class is the one in its header, which a mirror cell does not have from its class (R410). -/
def State.victims (s : State) (g v : Nat) : List (Nat × Nat) :=
  let qs := s.core.queues.filter fun e => decide (e.1 < 32768) && e.1 % 32 == g
  let sorted := qs.foldl (fun acc e => insertByFast e acc) []
  sorted.flatMap fun e => (victimsFrom v e.2 0).reverse.map fun k => (e.1, k)

/-- A Flacon put into a list with falling dynamic counts, ties by rising index. -/
def insertByOver (d : Nat → Nat) (g : Nat) : List Nat → List Nat
  | [] => [g]
  | h :: r => if d h < d g then g :: h :: r else h :: insertByOver d g r

/-- All candidates for an arrival of n cells of Flacon f. -/
def State.allVictims (s : State) (f n : Nat) : List (Nat × Nat) :=
  let d (g : Nat) : Nat := match s.flaconRec g with | some r => above (s.usedFast g) r.cellsGuar | none => 0
  let others := ((s.flacons.filter fun g => g != f && decide (d f + n < d g)).foldl (fun acc g => insertByOver d g acc) [])
  (f :: others).flatMap fun g => s.victims g 2 ++ s.victims g 1

/-- One victim cell moved to the spill tier; its place in its queue stays. -/
def State.moveVictim (s : State) (q k : Nat) : State :=
  let g := q % 32
  let l := s.queue q
  let (sl, s0) := ((s.release .fast g 0 1).charge .spill g 0 1).allot .spill g 1
  let s1 := match (l[k]?).bind (·.slot) with | some j => s0.freeSlot j | none => s0
  let s2 := (s1.putQueue q (l.modify k fun c => { c with tier := .spill, slot := sl.head? })).useSpillSlots
    (sl.map (· - 2 ^ 20))
  s2.inc (Reg.FL_PUSHOUT g) Fld.FL_PUSHOUT.VICTIM

/-- Move victims until n have moved: the number still wanted, and the state. -/
def moveVictims : List (Nat × Nat) → Nat → State → Nat × State
  | [], n, s => (n, s)
  | _ :: _, 0, s => (0, s)
  | (q, k) :: r, n + 1, s =>
    if s.spillRoom (q % 32) 1 then moveVictims r n (s.moveVictim q k) else moveVictims r (n + 1) s

/-- A push-out for n cells of Flacon f: moves all its victims, or nothing. -/
def State.pushOut (s : State) (f n : Nat) : Option State :=
  match moveVictims (s.allVictims f n) n s with
  | (0, t) => some (t.addTo (Reg.FL_PUSHOUT f) Fld.FL_PUSHOUT.GAINED n)
  | _ => none

/-- Room in a response reserve: 64 cells for each port, 128 for each slice (R84 Table 6). -/
def State.respRoom (s : State) (dst n : Nat) : Bool :=
  decide (tabGet s.core.buf.resp dst 0 + n ≤ if dst < 128 then 64 else 128)

/-- n cells of Flacon f bound for dst charged to a tier, with their slots. -/
def State.admitTo (s : State) (t : Tier) (f dst n : Nat) : Tier × List Nat × State := (t, (s.charge t f dst n).allot t f n)

/-- Admission (R87): the tier that takes all n cells of message m bound for dst, their slots, and the state with them
charged.  wbCharge: its line has an outstanding snoop that holds a reserve cell for it (R85). -/
def State.takeRoom (s : State) (m : Msg) (n dst : Nat) (wbCharge : Bool) : Option (Tier × List Nat × State) :=
  let f := m.flacon
  let egress := decide (dst < 128)
  if wbCharge && !egress && m.mc == 5 then some (s.admitTo .writeback f dst n)
  else if s.fastRoom f n then some (s.admitTo .fast f dst n)
  else
    match (if m.svc = 0 ∧ egress then s.pushOut f n else none) with
    | some t => some (t.admitTo .fast f dst n)
    | none =>
      if egress && s.spillRoom f n then
        let (t, l, s1) := s.admitTo .spill f dst n
        some (t, l, s1.useSpillSlots (l.map (· - 2 ^ 20)))
      else if !m.tent && decide (m.mc ≤ 2) && s.respRoom dst n then some (s.admitTo .resp f dst n)
      else none

/-! ### Prefetch (R86) -/

/-- The first spill cell of a queue, if any: its position. -/
def firstSpill (l : List Cell) : Option Nat := l.findIdx? fun c => c.tier == .spill

/-- The place of a queue in a Flacon's order of transmission (R108): MC0, then service class, rank, class. -/
def State.sendOrder (s : State) (n : Nat) : Nat :=
  let c := n / 32 % 8
  if c = 0 then 0 else 1 + s.serviceOf (n % 32) c * 100 +
    rankOf c (match s.queue n with | h :: _ => isSnoopWb h.msg | [] => false) * 10 + c

/-- Of a list, the element with the least key; ties to the earlier. -/
def leastBy {α : Type} (key : α → Nat) : List α → Option α
  | [] => none
  | x :: r =>
    match leastBy key r with
    | none => some x
    | some y => if key y < key x then some y else some x

/-- The next spill cell of a port, its queue and position: the Flacon whose turn it is among those with spill cells there,
and of its queues the one that is sent first (R86).  DEDUCED (assumption 55): turns go in ascending Flacon number. -/
def State.nextSpill (s : State) (q : Nat) : Option (Nat × Nat) :=
  let l := (s.portQueues q).filterMap fun e => (firstSpill e.2).map fun k => (e.1, k)
  let turn (f : Nat) : Nat := (f + 31 - s.sched.spillTurn) % 32
  match leastBy turn (l.map fun e => e.1 % 32) with
  | none => none
  | some f => leastBy (fun e => s.sendOrder e.1) (l.filter fun e => e.1 % 32 == f)

/-- One spill cell brought into the port's window of 256 cells. -/
def State.prefetch (s : State) (q : Nat) : State :=
  if 256 ≤ tabGet s.core.buf.pre q 0 then s else
  match s.nextSpill q with
  | none => s
  | some (n, k) =>
    let old := ((s.queue n)[k]?).bind (·.slot)
    let at_ := (old.getD 0) - 2 ^ 20
    if s.spillSlots (spillChannel at_) = 0 then s else
    let f := n % 32
    let (sl, s0) := ((s.release .spill f q 1).charge .prefetch f q 1).allot .prefetch f 1
    let s1 := match old with | some j => s0.freeSlot j | none => s0
    let s2 := (s1.putQueue n ((s.queue n).modify k fun c => { c with tier := .prefetch, slot := sl.head? })).useSpillSlots [at_]
    { s2 with sched := { s2.sched with spillTurn := f } }

end Sys2Proof.Machine
end

