-- ==== Sys2Proof/Machine/Hash.lean ====
section
/-!
DEFINITION. Machine/Hash.lean: SHAKE256 with a 64-byte output (R43, R425) and CRC-32
(R38, R270).  SHAKE256 is the sponge of FIPS 202 with rate 136 bytes and domain bits 1111 (PRESUMED, assumption 7); the bit
order of CRC-32 is the one in general use for that polynomial, least significant bit first (PRESUMED, assumption 8).
Lanes and CRC registers are plain numbers below 2^64 and 2^32.
-/
namespace Sys2Proof.Machine

/-- Rotate a 64-bit lane left. -/
def rotl64 (x n : Nat) : Nat := ((x <<< n) % 2 ^ 64) ||| (x >>> (64 - n))

/-- Entry i of a list of lanes. -/
def laneAt (a : List Nat) (i : Nat) : Nat := a.getD i 0

/-- Round constants of the permutation. -/
def keccakRC : List Nat := [
  0x0000000000000001, 0x0000000000008082, 0x800000000000808A, 0x8000000080008000, 0x000000000000808B,
  0x0000000080000001, 0x8000000080008081, 0x8000000000008009, 0x000000000000008A, 0x0000000000000088,
  0x0000000080008009, 0x000000008000000A, 0x000000008000808B, 0x800000000000008B, 0x8000000000008089,
  0x8000000000008003, 0x8000000000008002, 0x8000000000000080, 0x000000000000800A, 0x800000008000000A,
  0x8000000080008081, 0x8000000000008080, 0x0000000080000001, 0x8000000080008008 ]

/-- For each lane of the rho and pi result, in index order x + 5y: the lane it comes from and its rotation. -/
def keccakRhoPi : List (Nat × Nat) := [
  (0, 0), (6, 44), (12, 43), (18, 21), (24, 14), (3, 28), (9, 20), (10, 3), (16, 45), (22, 61), (1, 1), (7, 6),
  (13, 25), (19, 8), (20, 18), (4, 27), (5, 36), (11, 10), (17, 15), (23, 56), (2, 62), (8, 55), (14, 39), (15, 41),
  (21, 2) ]

/-- One round of the permutation. -/
def keccakRound (a : List Nat) (rc : Nat) : List Nat :=
  let c := (List.range 5).map fun x =>
    laneAt a x ^^^ laneAt a (x + 5) ^^^ laneAt a (x + 10) ^^^ laneAt a (x + 15) ^^^ laneAt a (x + 20)
  let d := (List.range 5).map fun x => laneAt c ((x + 4) % 5) ^^^ rotl64 (laneAt c ((x + 1) % 5)) 1
  let t := (List.range 25).map fun i => laneAt a i ^^^ laneAt d (i % 5)
  let b := keccakRhoPi.map fun e => rotl64 (laneAt t e.1) e.2
  let r := (List.range 25).map fun i =>
    let y := i / 5 * 5
    laneAt b i ^^^ ((2 ^ 64 - 1 - laneAt b (y + (i + 1) % 5)) &&& laneAt b (y + (i + 2) % 5))
  match r with
  | h :: l => (h ^^^ rc) :: l
  | [] => []

def keccakF (a : List Nat) : List Nat := keccakRC.foldl keccakRound a

/-- The little-endian number of a list of bytes. -/
def leNat : List Byte → Nat
  | [] => 0
  | b :: r => b.toNat + 256 * leNat r

/-- The n low bytes of a number, little-endian. -/
def leBytes (x : Nat) : Nat → List Byte
  | 0 => []
  | n + 1 => BitVec.ofNat 8 x :: leBytes (x / 256) n

/-- The lanes of a 136-byte block. -/
def blockLanes (b : List Byte) : Nat → List Nat
  | 0 => []
  | n + 1 => leNat (b.take 8) :: blockLanes (b.drop 8) n

/-- Absorb one block. -/
def absorb (st : List Nat) (b : List Byte) : List Nat :=
  let l := blockLanes b 17
  keccakF ((List.range 25).map fun i => laneAt st i ^^^ laneAt l i)

/-- Pad the message's last part to a whole block: domain and first padding bit 0x1F, last bit 0x80. -/
def padBlock (b : List Byte) : List Byte :=
  let p := b ++ [0x1F#8] ++ List.replicate (135 - b.length) 0#8
  p.take 135 ++ [p.getD 135 0 ||| 0x80#8]

/-- Absorb a message of up to n whole blocks and its padded rest. -/
def absorbAll (st : List Nat) (m : List Byte) : Nat → List Nat
  | 0 => absorb st (padBlock (m.take 135))
  | n + 1 => if m.length < 136 then absorb st (padBlock m) else absorbAll (absorb st (m.take 136)) (m.drop 136) n

/-- SHAKE256 of a message, 64 bytes, byte 0 in the low bits. -/
def shake256 (m : List Byte) : Line :=
  let st := absorbAll (List.replicate 25 0) m (m.length / 136 + 1)
  BitVec.ofNat 512 (st.take 8 |>.foldr (fun l acc => l + 2 ^ 64 * acc) 0)

/-- One bit step of CRC-32. -/
def crc32Bit (c : Nat) : Nat := if c % 2 = 1 then (c / 2) ^^^ 0xEDB88320 else c / 2

/-- One byte of CRC-32. -/
def crc32Byte (c : Nat) (b : Byte) : Nat :=
  let x := c ^^^ b.toNat
  crc32Bit (crc32Bit (crc32Bit (crc32Bit (crc32Bit (crc32Bit (crc32Bit (crc32Bit x)))))))

/-- CRC-32: polynomial 0x04C1_1DB7, initial value all ones, result inverted (R270). -/
def crc32 (m : List Byte) : Nat := (m.foldl crc32Byte 0xFFFFFFFF) ^^^ 0xFFFFFFFF

/-- One bit step of CRC-64. -/
def crc64Bit (c : Nat) : Nat :=
  if c.testBit 63 then (2 * c % 2 ^ 64) ^^^ 0x42F0E1EBA9EA3693 else 2 * c

/-- One byte of CRC-64. -/
def crc64Byte (c : Nat) (b : Byte) : Nat :=
  crc64Bit (crc64Bit (crc64Bit (crc64Bit (crc64Bit (crc64Bit (crc64Bit (crc64Bit (c ^^^ (2 ^ 56 * b.toNat)))))))))

/-- CRC-64: polynomial 0x42F0_E1EB_A9EA_3693, initial value all ones, result inverted (R365).  DEDUCED (assumption 81): the
bits of a byte enter from the highest. -/
def crc64 (m : List Byte) : Nat := (m.foldl crc64Byte 0xFFFFFFFFFFFFFFFF) ^^^ 0xFFFFFFFFFFFFFFFF

end Sys2Proof.Machine
end

