-- ==== Sys2Proof/Machine/CellLayout.lean ====
section
/-!
DEFINITION. Machine/CellLayout.lean: the bits of a cell (R65 to R68) and of a buffer slot (R69): what the fields of Cell, Msg and DrainCell are in the hardware's words.
-/
namespace Sys2Proof.Machine

/-! ### Payloads (R67) -/

/-- The payload of an I/O write as one number, byte 0 lowest. -/
def payloadNat (l : List Line) : Nat := l.foldr (fun d x => x * 2 ^ 512 + d.toNat) 0

/-- n bytes of data from byte o on, in lines of 64. -/
def spanLines (x o n : Nat) : List Line :=
  (List.range ((n + 63) / 64)).map fun i => BitVec.ofNat 512 (x / 2 ^ (8 * o + 512 * i))

/-- Payload line i of a message's cells: a TLP's prefixes and native header stand first and its data follows; a coherent
message's line is its data. -/
def payloadLine (m : Msg) (i : Nat) : Option Line :=
  if m.hdr.isEmpty then m.data[i]?
  else if 64 * i < m.hdr.length + 64 * m.data.length then
    some (BitVec.ofNat 512 ((natOf m.hdr + payloadNat m.data * 2 ^ (8 * m.hdr.length)) / 2 ^ (512 * i)))
  else none

/-- The data that payload lines hold behind h bytes of prefixes and header. -/
def dataBehind (h : Nat) (l : List Line) : List Line :=
  if h = 0 then l else spanLines (payloadNat l) h (64 * l.length - h)

/-- The part of a message's data that starts o bytes into it, n bytes. -/
def dataSpan (l : List Line) (o n : Nat) : List Line :=
  if o % 64 = 0 then (l.drop (o / 64)).take ((n + 63) / 64) else spanLines (payloadNat l) o n

/-! ### The header (R65) -/

/-- KIND (R65 Table 1); 5 is DRAIN, 6 and 7 are reserved. -/
def kindCode : Kind → Nat
  | .single => 0 | .head => 1 | .body => 2 | .tail => 3 | .packed => 4

def drainCode : Nat := 5

/-- The routing word, bits [47:0] (R65 Table 1).  src: tile, or 64 + slice; dst: port, or 128 + slice, whose top bit is the
slice flag of both fields. -/
def routingWord (kind mc flacon seq src dst : Nat) (tailBad tent : Bool) (svc priv : Nat) (uvc : Bool) (epoch : Nat) : Nat :=
  at64 kind 0 3 + at64 mc 3 3 + at64 flacon 6 5 + at64 seq 11 12 + at64 src 23 7 + at64 dst 30 8
    + at64 (b2n tailBad) 38 1 + at64 (b2n tent) 39 1 + at64 svc 40 2 + at64 priv 42 2 + at64 (b2n uvc) 44 1
    + at64 epoch 45 3

/-- The message word of a coherent message, from bit 48 (R65 Table 2). -/
def coherentWord (m : Msg) : Nat :=
  at64 (m.addr / 64) 0 46 + at64 m.op 46 7 + at64 (b2n m.poison) 53 1 + at64 m.srcEid 54 14 + at64 m.tag 68 12

/-- The message word of an I/O message's SINGLE or HEAD cell. -/
def ioWord (m : Msg) : Nat :=
  at64 (m.pbar.getD 0) 0 12 + at64 (b2n m.pbar.isSome) 12 1 + at64 (b2n m.ro) 13 1 + at64 m.srcEid 14 14
    + at64 m.cells 28 7

/-- The message word of a cell, header bits [127:48]. -/
def messageWord (c : Cell) : Nat :=
  match c.kind with
  | .single => if c.msg.io then ioWord c.msg else coherentWord c.msg
  | .head => ioWord c.msg
  | .body | .tail => at64 c.index 0 7
  | .packed => at64 c.more.length 0 2

/-- The 128-bit header of a cell. -/
def headerWord (c : Cell) : Nat :=
  let m := c.msg
  routingWord (kindCode c.kind) m.mc m.flacon c.seq c.src c.dst c.tailBad m.tent m.svc m.priv m.uvc m.epoch
    + messageWord c * 2 ^ 48

/-! ### The payload (R67, R68, R80, R167) -/

/-- An entry of a PACKED cell: the message word in bytes 0 to 9, the protocol fields that it has no room for in bytes 10 to
15, NO_SPEC in byte 15, bit 7 (R68, R167).  The fields' places in bytes 10 to 15 are not given: an opaque constant. -/
def packedEntry (m : Msg) : Nat :=
  at64 (coherentWord m) 0 80 + at64 (Config.packedFields m.op m.ltag m.ld m.len).toNat 80 47 + at64 (b2n m.noSpec) 127 1

/-- The 64 bytes of a cell's payload.  A SINGLE MC4 cell without data bears NO_SPEC in bit 0 (R167); an unused payload is
an unspecified value of no meaning, 0 here. -/
def payloadBits (c : Cell) : Nat :=
  match c.kind with
  | .packed => ((c.msg :: c.more).map packedEntry).foldr (fun e x => e + x * 2 ^ 128) 0
  | .single => match c.line with
    | some l => l.toNat
    | none => if c.msg.mc = 4 then b2n c.msg.noSpec else 0
  | .head | .body | .tail => (c.line.map (·.toNat)).getD 0

/-- The 80 bytes of a cell, as one number (R65). -/
def cellBits (c : Cell) : BitVec 640 := BitVec.ofNat 640 (headerWord c + payloadBits c * 2 ^ 128)

/-- The 80 bytes of a DRAIN cell from source src to destination dst (R65, R80): payload halfword c is the highest SEQ of
class c, bits [11:0], and its valid bit 15. -/
def drainBits (d : DrainCell) (src dst : Nat) : BitVec 640 :=
  let word (h : Option Nat) : Nat := match h with | some x => at64 x 0 12 + 2 ^ 15 | none => 0
  BitVec.ofNat 640 (routingWord drainCode 0 0 0 src dst false false 0 0 false 0
    + (at64 d.plane 0 3 + at64 (b2n d.fault) 3 1) * 2 ^ 48
    + (d.high.map word).foldr (fun e x => e + x * 2 ^ 16) 0 * 2 ^ 128)

/-- The sideband CRC with which a cell crosses a plane (R69); its polynomial is not given. -/
def cellCrc (b : BitVec 640) : BitVec 32 := Config.planeCrc b

/-! ### Buffer slots (R69) -/

/-- The first spill slot in the model's numbering of both tiers: fast slot k is k, spill slot k is 2^20 + k. -/
def spillBase : Nat := 2 ^ 20

/-- The link pointer: the slot of the next cell of the queue, its tier, valid (R69). -/
def linkPointer : Option Nat → Nat
  | none => 0
  | some k => if k < spillBase then at64 k 0 20 + 2 ^ 23 else at64 (k - spillBase) 0 22 + 2 ^ 22 + 2 ^ 23

/-- Bytes 0 to 95 of a slot: cell, link pointer, and one check byte for each of twelve codewords of 56 bits (R69 Table 3).
Codewords 0 to 2 cover the header; the SEC-DED code is not given. -/
def slotBits (c : Cell) (next : Option Nat) : BitVec 768 :=
  let w := (cellBits c).toNat + linkPointer next * 2 ^ 640
  BitVec.ofNat 768 (w + ((List.range 12).map fun i => (Config.slotEcc (BitVec.ofNat 56 (w / 2 ^ (56 * i)))).toNat).foldr
    (fun e x => e + x * 256) 0 * 2 ^ 672)

/-- The size of a slot: 96 bytes on the SRAM, 128 in the Keep stack, whose last 32 are written 0. -/
def slotBytes (k : Nat) : Nat := if k < spillBase then 96 else 128

/-- The cell in a buffer slot and the slot of the next cell of its queue. -/
def State.slotCell (s : State) (k : Nat) : Option (Cell × Option Nat) :=
  s.core.queues.findSome? fun e =>
    (e.2.zip ((e.2.drop 1).map some ++ [none])).findSome? fun p =>
      if p.1.slot == some k then some (p.1, p.2.bind (·.slot)) else none

/-- A slot's contents; a slot without a cell holds what it last held, which the model does not keep. -/
def State.bufferImage (s : State) (k : Nat) : Option (BitVec 768) := (s.slotCell k).map fun e => slotBits e.1 e.2

end Sys2Proof.Machine
end

