-- ==== Sys2Proof/Machine/Planes.lean ====
section
/-!
DEFINITION. Machine/Planes.lean: spraying over the planes (R77, R78), plane fences (R80 to R82), resequencing (R79, R81),
linking onto queues, waiting and admission of whole messages (R70, R71, R74).
-/
namespace Sys2Proof.Machine

/-! ### Keys -/

/-- The unit of a destination: a tile for a port, 64 + slice for a slice. -/
def unitOf (dst : Nat) : Nat := if dst < 128 then dst / 2 else 64 + (dst - 128)
def streamKey (src unit mc : Nat) : Nat := (src * 128 + unit) * 8 + mc
def flightKey (plane src unit : Nat) : Nat := (plane * 128 + src) * 128 + unit

def State.stream (s : State) (k : Nat) : Stream := tabGet s.core.streams k {}
def State.putStream (s : State) (k : Nat) (t : Stream) : State :=
  { s with core := { s.core with streams := tabPut s.core.streams k t } }
def State.flightOf (s : State) (k : Nat) : List Flight := tabGet s.core.flight k []
def State.putFlight (s : State) (k : Nat) (l : List Flight) : State :=
  { s with core := { s.core with flight := match l with
    | [] => tabDel s.core.flight k
    | _ => tabPut s.core.flight k l } }

/-! ### Spraying -/

/-- Whether sources spray to plane n: no fence whose notice they have taken stands. -/
def State.planeActive (s : State) (n : Nat) : Bool :=
  match tabFind s.core.fences n with
  | some f => !f.stopped
  | none => true

def State.activePlanes (s : State) : List Nat := (List.range 8).filter s.planeActive

/-- The next active plane of a source's rotation. -/
def State.nextPlane (s : State) (src : Nat) : Option Nat :=
  let p := tabGet s.core.pointer src 0
  ((List.range 8).map fun i => (p + i) % 8).find? s.planeActive

/-- A destination unit noted as sent to, for every plane (R80). -/
def noteSent (t : Tab (List Nat)) (src unit : Nat) : Tab (List Nat) :=
  (List.range 8).foldl (fun t n => tabMod t (n * 128 + src) [] fun l => if l.contains unit then l else l ++ [unit]) t

/-- Send one cell on plane n with the next SEQ of its stream. -/
def State.sprayOn (s : State) (n : Nat) (c : Cell) : State :=
  let unit := unitOf c.dst
  let k := streamKey c.src unit c.msg.mc
  let st := s.stream k
  let s1 := s.putStream k { st with next := st.next + 1, out := st.out + 1, lastOn := tabPut st.lastOn n st.next }
  let fk := flightKey n c.src unit
  let s2 := s1.putFlight fk (s1.flightOf fk ++ [.cell { c with seq := st.next % 4096 }])
  { s2 with core := { s2.core with
    pointer := tabPut s2.core.pointer c.src ((n + 1) % 8), sent := noteSent s2.core.sent c.src unit } }

/-- Spray what a stream has granted and not sent, while its window of 256 is open (R78). -/
def State.sprayBacklog (s : State) (k : Nat) : Nat → State
  | 0 => s
  | n + 1 =>
    let st := s.stream k
    match st.backlog with
    | [] => s
    | c :: r =>
      if 256 ≤ st.out then s else
      match s.nextPlane c.src with
      | none => s
      | some p => ((s.putStream k { st with backlog := r }).sprayOn p c).sprayBacklog k n

/-- A granted cell joins its stream and goes as soon as the window lets it. -/
def State.spray (s : State) (c : Cell) : State :=
  let k := streamKey c.src (unitOf c.dst) c.msg.mc
  let st := s.stream k
  let busy := match c.kind with | .head => true | .tail => false | _ => st.busy
  let s1 := s.putStream k { st with backlog := st.backlog ++ [c], busy := busy }
  s1.sprayBacklog k (st.backlog.length + 1)

/-- The cells of a whole message, in order (R67): one SINGLE or PACKED cell, or HEAD, BODY and TAIL; slots: the buffer
slots kept for them. -/
def cellsOf (m : Msg) (more : List Msg) (src dst : Nat) (t : Tier) (slots : List Nat) (port : Option Nat) : List Cell :=
  if m.cells ≤ 1 then
    [{ kind := if more.isEmpty then .single else .packed, msg := m, more := more, src := src, dst := dst, tier := t,
       line := payloadLine m 0, slot := slots[0]?, inPort := port }]
  else (List.range m.cells).map fun i =>
    { kind := if i = 0 then .head else if i + 1 = m.cells then .tail else .body, msg := m, index := i, src := src,
      dst := dst, tier := t, line := payloadLine m i, slot := slots[i]?, inPort := port }

/-! ### Posted barriers (R96) -/

/-- Whether a cell is the MC6 cell of the given stream number. -/
def isSeq (src x : Nat) (c : Cell) : Bool := c.src == src && c.msg.mc == 6 && c.seq == x % 4096

/-- Whether the MC6 cell that a barrier names has neither been transmitted nor flushed. -/
def State.barrierStands (s : State) (src unit x : Nat) : Bool :=
  let st := s.stream (streamKey src unit 6)
  decide (st.want ≤ x) || (s.core.queues.any fun e =>
    decide (e.1 < 32768) && decide (e.1 / 512 = unit) && e.2.any (isSeq src x))

/-- The barrier a message takes when its tile sprays it: the last MC6 cell of its tile to the same egress tile. -/
def State.barrierFor (s : State) (m : Msg) (src dst : Nat) : Option Nat :=
  if m.io && !m.ro && (m.mc == 7 || m.mc == 1 || m.mc == 2) && decide (dst < 128) then
    let n := (s.stream (streamKey src (unitOf dst) 6)).next
    if n = 0 then none else some (n - 1)
  else none

/-! ### Admission of whole messages -/

/-- The outstanding snoop whose reserve cell a writeback is charged to (R85): of its line and its endpoint, holding a cell
that no writeback has taken. -/
def wbSnoop (m : Msg) (r : SnoopRec) : Bool :=
  r.line == lineOf m.addr && r.flacon == m.flacon && r.eid == m.srcEid && r.reserve && !r.charged

/-- Whether an MC5 cell is charged to the snoop-writeback reserve.  DEDUCED (assumption 55): the MC5 cell of R85 is a
writeback of the endpoint snooped, which R84 and R87 call caused by the snoop. -/
def State.wbCharged (s : State) (m : Msg) (dst : Nat) : Bool :=
  decide (128 ≤ dst) && m.mc == 5 && !m.io && (m.op == Op.WB_DIRTY || m.op == Op.WB_SNP_I || m.op == Op.WB_SNP_S) &&
  ((tabGet s.home (dst - 128) {}).snoops.any (wbSnoop m))

/-- The reserve cell of the snoop that a writeback answers is taken by it. -/
def State.chargeWb (s : State) (m : Msg) (dst : Nat) : State :=
  let x := tabGet s.home (dst - 128) {}
  match x.snoops.findIdx? (wbSnoop m) with
  | none => s
  | some i =>
    let y : SliceState := { x with snoops := x.snoops.modify i fun r => { r with charged := true } }
    { s with home := tabPut s.home (dst - 128) y }

/-- R158: a posted write, or a read without Relaxed Ordering, bound for a slice waits while an earlier posted write of
its port to a different slice has not returned its CMP. -/
def State.postedHold (s : State) (m : Msg) (dst : Nat) : Bool :=
  m.io && decide (128 ≤ dst) && !m.ro && (m.mc == 6 || m.mc == 7)
  && (tabGet s.core.posted m.port []).any (· != dst - 128)

/-- Cells of earlier admissions that take up slots of the beat in progress: 12 go in each beat. -/
def State.thrCarry (s : State) (tile : Nat) : Nat :=
  match tabFind s.core.thr tile with
  | some (b, k) => k - 12 * (s.beat - b)
  | none => 0

/-- The throttle of R74: a tile admits at most 12 cells in a beat while CHIP_TJ.THROTTLE is set; a message of more cells
takes whole beats. -/
def State.throttled (s : State) (tile n : Nat) : Bool :=
  s.on Reg.CHIP_TJ Fld.CHIP_TJ.THROTTLE && decide (12 < s.thrCarry tile + min n 12)

def State.noteAdmitted (s : State) (tile n : Nat) : State :=
  { s with core := { s.core with thr := tabPut s.core.thr tile (s.beat, s.thrCarry tile + n) } }

/-- The key of a waiting list: an ingress port, or 128 + slice, with the class. -/
def waitKey (at_ mc : Nat) : Nat := at_ * 8 + mc

def State.waiting (s : State) (k : Nat) : List Waiting := tabGet s.core.wait k []
def State.putWaiting (s : State) (k : Nat) (l : List Waiting) : State :=
  { s with core := { s.core with wait := match l with
    | [] => tabDel s.core.wait k
    | _ => tabPut s.core.wait k l } }

/-! ### Accord write-out in a drain (R210, R363) -/

/-- The order of write-out: D2, then D1, then D0, within a class by SEQ (R210). -/
def writeOutOrder (l : List Sealed) : List Sealed := [2, 1, 0].flatMap fun c => l.filter fun x => x.cls == c

/-- The SEQ of the sealed Accord a slice's MEM_WR writes out for. -/
def State.sealOf (s : State) (m : Msg) : Option Nat :=
  match m.slice with
  | some n =>
    if m.io || m.op != Op.MEM_WR then none else
    ((tabGet s.home n {}).pend.find? fun w => w.line == m.addr && w.flacon == m.flacon).bind (·.sealSeq)
  | none => none

/-- Phase C of a drain has begun. -/
def State.closing (s : State) : Bool := s.md == .drydown && decide (2 ≤ s.rd Reg.KS_DRAIN_STATUS Fld.KS_DRAIN_STATUS.PHASE)

/-- A sealed line's MEM_WR has left its slice (R363): it neither waits behind another of its line nor for admission. -/
def State.lineIssued (s : State) (x : Sealed) (l : SealedLine) : Bool :=
  ((tabGet s.home l.slice {}).pend.any fun w => w.sealSeq == some x.seq && w.line == l.line)
    && !((s.waiting (waitKey (128 + l.slice) 5)).any fun w => w.msg.op == Op.MEM_WR && w.msg.addr == l.line
      && w.msg.flacon == x.flacon)

/-- Every line of an Accord is issued before any line of the next (R363): one before seq has a line that is not. -/
def State.earlierUnissued (s : State) (seq : Nat) : Bool :=
  ((writeOutOrder s.acd.seals).takeWhile fun x => x.seq != seq).any fun x => x.lines.any fun l => !s.lineIssued x l

/-- From phase C on a sealed line waits for the Accords before its own, and other MC5 traffic for sealed lines that could go
(R363). -/
def State.writeOutHolds (s : State) (m : Msg) : Bool :=
  s.closing && m.mc == 5 && match s.sealOf m with
    | some q => s.earlierUnissued q
    | none => s.core.wait.any fun e => e.2.any fun w => match s.sealOf w.msg with
      | some q => !s.earlierUnissued q
      | none => false

/-- The place of a message in its waiting list from phase C on: sealed lines first, in the order of write-out. -/
def State.writeRank (s : State) (m : Msg) : Nat :=
  let l := (writeOutOrder s.acd.seals).map (·.seq)
  match s.sealOf m with
  | some q => l.idxOf q
  | none => l.length

/-- A waiting list with w put behind those that go before it: all of them, but for write-out from phase C on. -/
def State.waitBehind (s : State) (l : List Waiting) (w : Waiting) : List Waiting :=
  if s.closing then
    let ahead := l.takeWhile fun x => decide (s.writeRank x.msg ≤ s.writeRank w.msg)
    ahead ++ w :: l.drop ahead.length
  else l ++ [w]

/-- The waiting lists of MC5 as phase C takes them over. -/
def State.waitsByRank (s : State) : State :=
  { s with core := { s.core with wait := s.core.wait.map fun e =>
    if e.1 % 8 = 5 then (e.1, e.2.foldl (fun l w => s.waitBehind l w) []) else e } }

/-- A message whose first cells may go now: admitted whole (R70); the tier granted, the slots, and the state.  Cells of a
tile count in its throttle. -/
def State.tryAdmit (s : State) (src dst : Nat) (m : Msg) : Option (Tier × List Nat × State) :=
  if (s.stream (streamKey src (unitOf dst) m.mc)).busy || s.writeOutHolds m then none
  else if s.postedHold m dst then none
  else if decide (src < 64) && s.throttled src m.cells then none
  else
    match s.takeRoom m m.cells dst (s.wbCharged m dst) with
    | none => none
    | some (t, l, s1) =>
      let s2 := if t = .writeback then s1.chargeWb m dst else s1
      some (t, l, if src < 64 then s2.noteAdmitted src m.cells else s2)

/-- Noted at admission: the posted write to a slice (R158). -/
def State.notePosted (s : State) (m : Msg) (dst : Nat) : State :=
  if m.io && m.mc == 6 && decide (128 ≤ dst) then
    { s with core := { s.core with posted := tabMod s.core.posted m.port [] (· ++ [dst - 128]) } }
  else s

/-- A whole message admitted and sprayed from source src, or none where it must wait; port: the chip port it came in by. -/
def State.send? (s : State) (src dst : Nat) (m : Msg) (more : List Msg) (port : Option Nat := none) : Option State :=
  match s.tryAdmit src dst m with
  | none => none
  | some (t, l, s1) =>
    let m1 := { m with pbar := s1.barrierFor m src dst }
    some (((cellsOf m1 more src dst t l port).foldl (fun u c => u.spray c) s1).notePosted m dst)

/-- A message joins its class's waiting list at its place, at the end but for write-out (R363). -/
def State.addWaiting (s : State) (w : Waiting) : State :=
  let k := waitKey w.place w.msg.mc
  let t := s.putWaiting k (s.waitBehind (s.waiting k) { w with no := s.core.waitNo })
  { t with core := { t.core with waitNo := s.core.waitNo + 1 } }

/-- The waiting place of a source: a slice as 128 + slice; a tile as the port of the message, or its even port. -/
def waitPlace (src : Nat) (m : Msg) : Nat :=
  if 64 ≤ src then 128 + (src - 64) else if m.port / 2 = src then m.port else 2 * src

/-- A message that waits is counted against its Flacon once (FL_ADMIT_STALL). -/
def State.makeWait (s : State) (src dst : Nat) (m : Msg) (more : List Msg) : State :=
  (s.addWaiting { msg := m, more := more, dst := dst, place := waitPlace src m }).inc (Reg.FL_ADMIT_STALL m.flacon)
    Fld.FL_ADMIT_STALL.COUNT

/-- A whole message sent, or made to wait behind its own class (R70). -/
def State.send (s : State) (src dst : Nat) (m : Msg) (more : List Msg := []) : State :=
  if !(s.waiting (waitKey (waitPlace src m) m.mc)).isEmpty then s.makeWait src dst m more else
  match s.send? src dst m more with
  | some t => t
  | none => s.makeWait src dst m more

/-! ### Linking onto queues -/

/-- Fair-queueing entry of Flacon f on port q. -/
def State.schedPort (s : State) (q : Nat) : SchedPort := tabGet s.sched.port q {}
def State.modSched (s : State) (q : Nat) (g : SchedPort → SchedPort) : State :=
  { s with sched := { s.sched with port := tabMod s.sched.port q {} g } }

/-- R110: Flacon f wakes on port q with S_f = V. -/
def State.wake (s : State) (q f : Nat) : State :=
  s.modSched q fun p => { p with wfq := tabMod p.wfq f {} fun e => { e with tag := p.vtime, blocked := false } }

/-- Whether Flacon f holds cells on port q. -/
def State.holdsCells (s : State) (q f : Nat) : Bool := (s.portQueues q).any fun e => e.1 % 32 == f

/-- A cell linked at the tail of its queue. -/
def State.enqueue (s : State) (c : Cell) : State :=
  let n := queueNo c.dst c.msg.mc c.msg.flacon
  let s1 := if c.dst < 128 ∧ !s.holdsCells c.dst c.msg.flacon then s.wake c.dst c.msg.flacon else s
  s1.putQueue n (s1.queue n ++ [c])

/-- Completions of a split read linked in address order (R236); others at once. -/
def State.linkOrdered (s : State) (c : Cell) : State :=
  let k := c.dst * 4096 + c.msg.tag
  if c.msg.io && (c.msg.mc == 1 || c.msg.mc == 2) && decide (c.dst < 128) then
    match tabFind s.core.tags k with
    | some r =>
      match r.order with
      | [] => s.enqueue c
      | a :: rest =>
        if c.msg.addr = a then
          let s1 := s.enqueue c
          let put (t : State) (r : TagRec) : State := { t with core := { t.core with tags := tabPut t.core.tags k r } }
          let rec go : List Nat → List Cell → Nat → State → State
            | o, early, 0, t => put t { r with order := o, early := early }
            | [], early, _, t => put t { r with order := [], early := early }
            | b :: o, early, n + 1, t =>
              match early.find? fun d => d.msg.addr == b with
              | some d => go o (early.filter fun e => e.msg.addr != b) n (t.enqueue d)
              | none => put t { r with order := b :: o, early := early }
          go rest r.early (r.early.length + 1) s1
        else { s with core := { s.core with tags := tabPut s.core.tags k { r with early := r.early ++ [c] } } }
    | none => s.enqueue c
  else s.enqueue c

/-! ### Resequencing -/

/-- The full number that a SEQ stands for: the one of its value within the 4,096 from want on. -/
def fullSeq (want seq : Nat) : Nat := want + (4096 + seq - want % 4096) % 4096

/-- A released cell of a stream is linked.  After a skipped cell a message ends with a marked TAIL, whether or not its HEAD
came (R81); the later cells of a message that was flushed are discarded (R93). -/
def State.linkOf (s : State) (k : Nat) (c : Cell) (x : Nat) : State :=
  let st := s.stream k
  match c.kind with
  | .head =>
    (s.putStream k { st with cur := some (c, x + c.msg.cells - 1), gap := false, cut := false }).linkOrdered c
  | .body =>
    if st.cut then s.freeCell c
    else if st.cur.isNone then
      (s.putStream k { st with cur := some (c, x + c.msg.cells - 1 - c.index), gap := true }).linkOrdered c
    else s.linkOrdered c
  | .tail =>
    if st.cut then (s.putStream k { st with cut := false }).freeCell c else
    (s.putStream k { st with cur := none, gap := false }).linkOrdered
      { c with tailBad := c.tailBad || st.gap || st.cur.isNone }
  | _ => (s.putStream k { st with cut := false }).linkOrdered c

/-- A skipped number is passed: the message it belongs to is bad; where its TAIL was skipped the message ends here. -/
def State.passSkip (s : State) (k x : Nat) : State :=
  let st := s.stream k
  match st.cur with
  | none => s
  | some (c, e) =>
    if x = e then
      (s.putStream k { st with cur := none, gap := false }).linkOrdered
        { c with kind := .tail, index := c.msg.cells - 1, seq := x % 4096, tailBad := true, line := none, slot := none,
                 hdrUe := false, payUe := false }
    else s.putStream k { st with gap := true }

/-- Release cells in SEQ order: a held number is linked, a skipped one passed. -/
def State.releaseSeq (s : State) (k : Nat) : Nat → State
  | 0 => s
  | n + 1 =>
    let st := s.stream k
    let x := st.want
    if st.skip.contains x then
      ((s.putStream k { st with want := x + 1, skip := st.skip.filter (· != x), back := st.back + 1 }).passSkip k
        x).releaseSeq k n
    else
      match tabFind st.held x with
      | some c =>
        ((s.putStream k { st with want := x + 1, held := tabDel st.held x, back := st.back + 1 }).linkOf k c
          x).releaseSeq k n
      | none => s

/-- A count of a slice's resequencer advanced; it saturates as the tiles' 16-bit counts do (R10). -/
def State.sliceCount (s : State) (unit : Nat) (g : SliceState → SliceState) : State :=
  { s with home := tabMod s.home (unit - 64) {} g }

/-- R79 discard: the cell's slot freed, RESEQ_RANGE counted and raised at its unit.  DEDUCED (assumption 35): a slice has
no fault source of that name, so the source of the tile that sent the cell reports it. -/
def State.reseqRange (s : State) (unit : Nat) (c : Cell) : State :=
  let s1 := s.freeCell c
  if unit < 64 then
    ((s1.inc (Reg.TL_RESEQ unit) Fld.TL_RESEQ.RANGE).set1 (Reg.TL_ERR unit) Fld.TL_ERR.RESEQ_RANGE).raise
      (srcTile unit 2) none
  else
    let s2 := s1.sliceCount unit fun x => { x with reseqRange := min 65535 (x.reseqRange + 1) }
    if c.src < 64 then s2.raise (srcTile c.src 2) none else s2

/-- A cell arrives from a plane at its resequencer (R79). -/
def State.reseqArrive (s : State) (unit : Nat) (c : Cell) : State :=
  let k := streamKey c.src unit c.msg.mc
  let st := s.stream k
  let x := fullSeq st.want c.seq
  if st.want + 256 ≤ x ∨ st.skip.contains x then s.reseqRange unit c
  else
    let held := tabPut st.held x c
    let s1 := s.putStream k { st with held := held }
    let occ := held.length
    let s2 := if unit < 64 ∧ s1.rd (Reg.TL_RESEQ unit) Fld.TL_RESEQ.MAX_OCC < occ ∧ x ≠ st.want
      then s1.wr (Reg.TL_RESEQ unit) Fld.TL_RESEQ.MAX_OCC occ else s1
    s2.releaseSeq k (held.length + st.skip.length + 1)

/-! ### Plane fences -/

def State.putFence (s : State) (n : Nat) (f : PlaneFence) : State :=
  { s with core := { s.core with fences := tabPut s.core.fences n f } }

/-- Sources have stopped spraying to plane n under a fence that stands. -/
def State.planeStopped (s : State) (n : Nat) : Bool := !s.planeActive n

/-- A fence of plane n begins (R80): XB_STATUS shows it and the notice goes out.  A plane whose administrative fence stands
stays out of the rotation. -/
def State.beginFence (s : State) (n : Nat) (fault : Bool) : State :=
  let s1 := s.putFence n { fault := fault, stopped := s.planeStopped n }
  let s2 := ((s1.set1 (Reg.XB_CTL n) Fld.XB_CTL.FENCE_REQ).set1 (Reg.XB_STATUS n) Fld.XB_STATUS.FENCED).wrB
    (Reg.XB_STATUS n) Fld.XB_STATUS.FAULT_FENCE fault
  let s3 := s2.set0 (Reg.XB_STATUS n) Fld.XB_STATUS.DRAINED
  if h : n < 8 then s3.notify (.fencePlane ⟨n, h⟩) else s3

/-- The notice FENCE_PLANE n is taken off the bus. -/
def State.dropFenceNotice (s : State) (n : Nat) : State := if h : n < 8 then s.takeNotice (.fencePlane ⟨n, h⟩) else s

/-- The highest SEQ that a source sent on plane n to a unit, for each class. -/
def State.highOn (s : State) (n src unit : Nat) : List (Option Nat) :=
  (List.range 8).map fun c => tabFind (s.stream (streamKey src unit c)).lastOn n

/-- A fence is complete: DRAINED; a fault fence that skipped nothing raises XB_PLANE_FENCED (R81).  One that has been
lifted leaves nothing behind. -/
def State.fenceDrained (s : State) (n : Nat) (f : PlaneFence) : State :=
  if f.noticed && f.waits.all fun w => w.got == f.planes then
    let s1 := if f.lifted then { s with core := { s.core with fences := tabDel s.core.fences n } }
      else s.set1 (Reg.XB_STATUS n) Fld.XB_STATUS.DRAINED
    if f.fault ∧ f.skipped = 0 ∧ !f.raised then
      (if f.lifted then s1 else s1.putFence n { f with raised := true }).raise (srcPlane n 1) none
    else s1
  else s

/-- A fence of plane n stands: begun and not lifted. -/
def State.fenceStands (s : State) (n : Nat) : Bool :=
  match tabFind s.core.fences n with
  | some f => !f.lifted
  | none => false

/-- The notice FENCE_PLANE n reaches the sources (R18, R80): they stop spraying to it and send their DRAIN cells.  A notice
of a plane that no fence names begins an administrative one. -/
def State.applyFencePlane (s : State) (n : Nat) : State :=
  let s := if s.fenceStands n then s else (s.beginFence n false).dropFenceNotice n
  match tabFind s.core.fences n with
  | none => s
  | some f =>
    if f.noticed then s else
    let dests : List (Nat × Nat) :=
      (List.range 128).flatMap fun src => (tabGet s.core.sent (n * 128 + src) []).map fun u => (src, u)
    let targets := if f.fault then s.activePlanes.filter (· != n) else s.activePlanes
    let mask := targets.foldl setBitAt 0
    let f1 : PlaneFence := { f with noticed := true, stopped := true, planes := mask, waits := dests.map fun d => { src := d.1, unit := d.2 } }
    let s1 := dests.foldl (fun t d =>
      let cell : DrainCell := { plane := n, fault := f.fault, high := s.highOn n d.1 d.2 }
      targets.foldl (fun u p => u.putFlight (flightKey p d.1 d.2) (u.flightOf (flightKey p d.1 d.2) ++ [.drain cell])) t) s
    let s2 := (List.range 64).foldl (fun t i =>
      t.wr (Reg.TL_SPRAY i) Fld.TL_SPRAY.ACTIVE (clrBitAt (t.rd (Reg.TL_SPRAY i) Fld.TL_SPRAY.ACTIVE) n)) s1
    (s2.putFence n f1).fenceDrained n f1

/-- The notice UNFENCE_PLANE n reaches the sources (R82): they spray to it again; a DRAIN exchange that is not complete
goes on, so that what a fault lost is still skipped (R81). -/
def State.applyUnfencePlane (s : State) (n : Nat) : State :=
  let s1 := { s with core := { s.core with
    fences := match tabFind s.core.fences n with
      | some f => if f.noticed && !f.waits.all fun w => w.got == f.planes then
          tabPut s.core.fences n { f with lifted := true, stopped := false } else tabDel s.core.fences n
      | none => s.core.fences
    sent := s.core.sent.filter fun e => decide (e.1 / 128 ≠ n) } }
  let s2 := (List.range 64).foldl (fun t i => t.setBitOf (Reg.TL_SPRAY i) Fld.TL_SPRAY.ACTIVE n) s1
  (((s2.set0 (Reg.XB_CTL n) Fld.XB_CTL.FENCE_REQ).set0 (Reg.XB_STATUS n) Fld.XB_STATUS.FENCED).set0
    (Reg.XB_STATUS n) Fld.XB_STATUS.FAULT_FENCE).set0 (Reg.XB_STATUS n) Fld.XB_STATUS.DRAINED

/-- The numbers of a stream up to the DRAIN value that have not arrived. -/
def missing (st : Stream) (high : Option Nat) : List Nat :=
  match high with
  | none => []
  | some h => ((List.range (h + 1 - st.want)).map (st.want + ·)).filter fun x =>
      (tabFind st.held x).isNone && !st.skip.contains x

/-- Skip what a fault fence lost of one stream (R81). -/
def State.skipStream (s : State) (n src unit c : Nat) (high : Option Nat) : State :=
  let k := streamKey src unit c
  let st := s.stream k
  let l := missing st high
  if l.isEmpty then s else
  let s1 := s.putStream k { st with skip := st.skip ++ l }
  let s2 := if unit < 64 then s1.addTo (Reg.TL_RESEQ unit) Fld.TL_RESEQ.SKIP l.length
    else s1.sliceCount unit fun x => { x with reseqSkip := min 65535 (x.reseqSkip + l.length) }
  let s3 := match tabFind s2.core.fences n with
    | some f =>
      let s4 := s2.putFence n { f with skipped := f.skipped + l.length, raised := true }
      if f.skipped = 0 then s4.raise (srcPlane n 0) none else s4
    | none => s2
  s3.releaseSeq k (st.held.length + st.skip.length + l.length + 1)

/-- A DRAIN cell arrives (R81). -/
def State.drainArrive (s : State) (p src unit : Nat) (d : DrainCell) : State :=
  match tabFind s.core.fences d.plane with
  | none => s
  | some f =>
    let mark (w : DrainWait) : DrainWait :=
      if w.src = src ∧ w.unit = unit then { w with got := setBitAt w.got p, high := d.high } else w
    let f1 := { f with waits := f.waits.map mark }
    let s1 := s.putFence d.plane f1
    let all := f1.waits.any fun w => w.src == src && w.unit == unit && w.got == f1.planes
    let s2 := if all && f.fault then
        (List.range 8).foldl (fun t c => t.skipStream d.plane src unit c ((d.high[c]?).getD none)) s1
      else s1
    match tabFind s2.core.fences d.plane with
    | some f2 => s2.fenceDrained d.plane f2
    | none => s2

/-- The oldest thing in flight from src to unit on plane p arrives: a cell (drain = false), with what a read of its buffer
slot will find, or a DRAIN cell. -/
def State.planeArrive (s : State) (p src unit : Nat) (drain : Bool) (ecc : EccFinding) : State :=
  let k := flightKey p src unit
  match s.flightOf k with
  | [] => s
  | x :: r =>
    match x, drain with
    | .cell c, false => (s.putFlight k r).reseqArrive unit { c with hdrUe := ecc.header, payUe := ecc.payload }
    | .drain d, true => (s.putFlight k r).drainArrive p src unit d
    | _, _ => s

/-- A plane fault (R80): with a CRC failure, the cell is lost at the plane output. -/
def State.planeFault (s : State) (n : Nat) (crc : Option (Nat × Nat)) : State :=
  let s1 := match crc with
    | none => s
    | some (src, unit) =>
      let k := flightKey n src unit
      match s.flightOf k with
      | .cell c :: r =>
        let t := (s.putFlight k r).freeCell c
        if unit < 64 then t.set1 (Reg.TL_ERR unit) Fld.TL_ERR.PLANE_CRC else t
      | _ => s
  match tabFind s1.core.fences n with
  | some f => if f.fault && !f.lifted then s1 else s1.beginFence n true
  | none => s1.beginFence n true

/-- Releases returned to the source (R78). -/
def State.reseqRelease (s : State) (src unit mc : Nat) : State :=
  let k := streamKey src unit mc
  let st := s.stream k
  (s.putStream k { st with out := st.out - st.back, back := 0 }).sprayBacklog k st.backlog.length

end Sys2Proof.Machine
end

