-- ==== Sys2Proof/Machine/Decant.lean ====
section
/-!
DEFINITION. Machine/Decant.lean: Decant jobs as the rest of the switch meets them (R331 to R336): which chunk a write
touches, mirroring, holding, cancelling.
-/
namespace Sys2Proof.Machine

def State.job (s : State) (j : Nat) : Option DecantJob := tabFind s.decant j
def State.putJob (s : State) (j : Nat) (x : DecantJob) : State := { s with decant := tabPut s.decant j x }

/-- A job in COPY or HOLD. -/
def DecantJob.running (x : DecantJob) : Bool := x.st == 1 || x.st == 2

/-- Decoder i of Flacon f, current generation. -/
def State.decoder (s : State) (f i : Nat) : Option DecoderRec := (s.flAcc f).cur.decoders.find? fun d => d.index == i

/-- The job whose source window holds an address of Flacon f, and the chunk. -/
def State.decantAt (s : State) (f a : Nat) : Option (Nat × DecantJob × Nat) :=
  s.decant.findSome? fun e =>
    if e.2.running && e.2.flacon == f then
      match s.decoder f e.2.src with
      | some d => if d.base ≤ a ∧ a < d.base + d.size then some (e.1, e.2, (a - d.base) / 4096) else none
      | none => none
    else none

/-- COPIED: below the lowest chunk not started, and not in flight. -/
def DecantJob.copied (x : DecantJob) (c : Nat) : Bool := decide (c < x.next) && (tabFind x.flight c).isNone

/-- Whether a message writes memory: a coherent write or write-back, MEM_WR, an I/O memory write. -/
def isWrite (m : Msg) : Bool := if m.io then kindOf true m.op == 4 else m.mc == 5

/-- A write is held at the egress while the fifth copy of its chunk runs (R333). -/
def State.decantHoldsWrite (s : State) (m : Msg) : Bool :=
  isWrite m &&
  match s.decantAt m.flacon m.addr with
  | some (_, x, c) => match tabFind x.flight c with | some k => decide (5 ≤ k.times) | none => false
  | none => false

/-- An access waits at its ingress tile while the window of a job in HOLD holds it (R335). -/
def State.decantHoldsAccess (s : State) (m : Msg) : Bool :=
  match s.decantAt m.flacon m.addr with
  | some (_, x, _) => x.st == 2 && m.epoch == x.flipEpoch
  | none => false

/-- The copy of a write that goes to the target device (R333). -/
def mirrorCopy (m : Msg) (tg : DecTarget) (dpa : Nat) (key : Option Nat) : Msg :=
  { m with
    op := if m.io then m.op else Op.MEM_WR, svc := 2, port := 0x7F, tag := 0, ltag := 0, slice := none,
    dstEid := tg.eid, ld := tg.ld, dpa := some dpa, mirrorOf := some (key.getD 0), notice := false }

/-- One more answer awaited under a key. -/
def State.oneMoreAnswer (s : State) (key : Option Nat) : State :=
  match key with
  | none => s
  | some k =>
    match tabFind s.core.otags k with
    | some r => { s with core := { s.core with otags := tabPut s.core.otags k { r with left := r.left + 1 } } }
    | none => s

/-- A write leaves the egress of port q for S's devices (R333): its chunk is marked dirty, or a mirror copy goes to T's devices.
key: the outbound record of the write, where it has one. -/
def State.decantMirror (s : State) (q : Nat) (m : Msg) (key : Option Nat) : State :=
  if !isWrite m || m.mirrorOf.isSome then s else
  match s.decantAt m.flacon m.addr with
  | none => s
  | some (j, x, c) =>
    match tabFind x.flight c with
    | some k => s.putJob j { x with flight := tabPut x.flight c { k with dirty := true } }
    | none =>
      if !x.copied c then s else
      match s.decoder m.flacon x.src, s.decoder m.flacon x.tgt with
      | some d, some t =>
        match decTarget t (t.base + (m.addr - d.base)) with
        | none => s
        | some (tg, dpa) =>
          ((s.inc (Reg.DC_JOB_CNT j) Fld.DC_JOB_CNT.MIRRORED).oneMoreAnswer key).send (tileOf q) tg.port
            (mirrorCopy m tg dpa key)
      | _, _ => s

/-- DC_JOB_STATE, DC_JOB_CFG, DC_JOB_PTR and DC_STATUS brought up to date for job j. -/
def State.showJob (s : State) (j : Nat) : State :=
  match s.job j with
  | none => s
  | some x =>
    let s1 := (((s.wr (Reg.DC_JOB_STATE j) Fld.DC_JOB_STATE.STATE x.st).wr (Reg.DC_JOB_STATE j)
      Fld.DC_JOB_STATE.CAUSE x.cause).wr (Reg.DC_JOB_STATE j) Fld.DC_JOB_STATE.FLIP_TRIES x.tries).wr
      (Reg.DC_JOB_STATE j) Fld.DC_JOB_STATE.IN_FLIGHT x.flight.length
    let s2 := (((s1.wr (Reg.DC_JOB_CFG j) Fld.DC_JOB_CFG.SRC x.src).wr (Reg.DC_JOB_CFG j) Fld.DC_JOB_CFG.TGT x.tgt).wr
      (Reg.DC_JOB_CFG j) Fld.DC_JOB_CFG.FLACON x.flacon).wr (Reg.DC_JOB_CFG j) Fld.DC_JOB_CFG.RATE_MBPS x.rate
    let low := match x.flight with | [] => x.next | (c, _) :: _ => c
    let s3 := s2.wr (Reg.DC_JOB_PTR j) Fld.DC_JOB_PTR.COPIED low
    let run := s3.rd Reg.DC_STATUS Fld.DC_STATUS.RUNNING
    s3.wr Reg.DC_STATUS Fld.DC_STATUS.RUNNING (if x.running then setBitAt run j else clrBitAt run j)

/-- The devices of two decoders exchanged: TARGET, WAYS, GRAN, PERSISTENT and GPF_PROTECTED (R335). -/
def swapDecoders (l : List DecoderRec) (a b : Nat) : List DecoderRec :=
  match l.find? fun d => d.index == a, l.find? fun d => d.index == b with
  | some x, some y => l.map fun d =>
      let o := if d.index = a then y else if d.index = b then x else d
      { d with targets := o.targets, gran := o.gran, persistent := o.persistent, gpfProtected := o.gpfProtected }
  | _, _ => l

/-- A standing HOLD clears toward the old devices; the epoch does not advance (R335). -/
def State.holdBack (s : State) (x : DecantJob) : State :=
  if x.st ≠ 2 then s else
  s.modAcc x.flacon fun a => { a with cur := { a.cur with decoders := swapDecoders a.cur.decoders x.src x.tgt } }

/-- The HOLD of a job can clear toward the new devices now (R335). -/
def State.clearsNow (s : State) (x : DecantJob) : Bool := x.st == 2 && s.drainedTo x.flacon x.flipEpoch

/-- Job j is cancelled (R336): the cause is recorded and, unless a command did it, DC_CANCELLED raised.  A HOLD that can
clear wins over the cancel: the job is DONE. -/
def State.cancelJob (s : State) (j cause : Nat) : State :=
  match s.job j with
  | none => s
  | some x =>
    if !x.running then s else
    if s.clearsNow x ∧ cause ≠ 6 then (s.putJob j { x with st := 3 }).showJob j else
    let s1 := x.flight.foldl (fun t c => t.closeAccess x.flacon c.2.epoch) (s.holdBack x)
    let s2 := (s1.putJob j { x with st := 4, cause := cause, flight := [], retry := false }).showJob j
    if cause = 1 then s2 else s2.raise Src.DC_CANCELLED (some x.flacon)

/-- Every running job that p accepts is cancelled. -/
def State.cancelJobs (s : State) (p : DecantJob → Bool) (cause : Nat) : State :=
  (tabKeys s.decant fun x => x.running && p x).foldl (fun t j => t.cancelJob j cause) s

/-- The ports that a decoder targets. -/
def DecoderRec.ports (d : DecoderRec) : List Nat := d.targets.map (·.port)

/-- Jobs with a port among those their decoders target (R336: DL_Down). -/
def State.jobUses (s : State) (q : Nat) (x : DecantJob) : Bool :=
  let has (i : Nat) : Bool := match s.decoder x.flacon i with | some d => d.ports.contains q | none => false
  has x.src || has x.tgt

end Sys2Proof.Machine
end

