-- ==== Sys2Proof/Machine/Ends.lean ====
section
/-!
DEFINITION. Machine/Ends.lean: how messages end: ingress tags (R66, R175), the confirm gate (R174 to R177), error
completions and flushed messages (R93 Table 7, R214, R292), flushes.
-/
namespace Sys2Proof.Machine

/-! ### Ingress tags -/

def tagKey (q t : Nat) : Nat := q * 4096 + t

/-- The record of tag t of port q; 4096 stands for no tag. -/
def State.tagRec (s : State) (q t : Nat) : Option TagRec :=
  if t < 4096 then tabFind s.core.tags (tagKey q t) else none

/-- The first of a port's 4,096 keys that a table does not list. -/
def freeKey {α : Type} (t : Tab α) (q : Nat) : Option Nat :=
  let k := tabGap t (tagKey q 0)
  if k < tagKey q 4096 then some (k - tagKey q 0) else none

/-- R175: a tag is freed when its responses have been sent and its gate entry is FREE; its access then ends (R231). -/
def State.freeTag (s : State) (q t : Nat) : State :=
  match s.tagRec q t with
  | none => s
  | some r =>
    if r.need = 0 ∧ (tabFind s.core.gate (tagKey q t)).isNone then
      ({ s with core := { s.core with tags := tabDel s.core.tags (tagKey q t) } }).closeAccess r.flacon r.epoch
    else s

/-- One response of a tag has been sent, or will never be. -/
def State.respSent (s : State) (q t : Nat) : State :=
  match s.tagRec q t with
  | none => s
  | some r =>
    ({ s with core := { s.core with tags := tabPut s.core.tags (tagKey q t) { r with need := r.need - 1 } } }).freeTag q t

/-! ### The confirm gate -/

def State.gateOf (s : State) (q t : Nat) : Option GateEnt := tabFind s.core.gate (tagKey q t)

/-- The entry set, or FREE. -/
def State.setGate (s : State) (q t : Nat) (g : Option GateEnt) : State :=
  match g with
  | some e => { s with core := { s.core with gate := tabPut s.core.gate (tagKey q t) e } }
  | none => ({ s with core := { s.core with gate := tabDel s.core.gate (tagKey q t) } }).freeTag q t

/-- A cell that was HELD since a beat is held no longer: PT_TN_WAIT keeps the longest time, in CCLK. -/
def State.heldSince (s : State) (q since : Nat) : State :=
  let held := (s.beat - since) * 16
  if s.rd (Reg.PT_TN_WAIT q) Fld.PT_TN_WAIT.MAX_HOLD < held then
    s.wr (Reg.PT_TN_WAIT q) Fld.PT_TN_WAIT.MAX_HOLD (min held (2 ^ 32 - 1)) else s

/-- A held or arriving cell is confirmed: counted here and for its Flacon (R178). -/
def State.gateConfirm (s : State) (q : Nat) (c : Cell) (since : Nat) : State :=
  ((s.inc (Reg.PT_TN_CNT q) Fld.PT_TN_CNT.CONFIRMED).inc (Reg.FL_TN c.msg.flacon) Fld.FL_TN.CONFIRMED).heldSince q since

/-- Errors held with a tentative cell that is freed unconfirmed raise TN_CANCELLED_ERR (R177). -/
def State.cancelledErr (s : State) (q : Nat) (c : Cell) : State :=
  if c.payUe then
    ((s.set1 (Reg.PT_TN_ERR q) Fld.PT_TN_ERR.CANCELLED_ERR).inc (Reg.PT_TN_ERR q)
      Fld.PT_TN_ERR.CANCELLED_ERR_CNT).raise (srcQuad (quadOf (tileOf q)) 2) (some c.msg.flacon)
  else s

/-- A tentative cell is freed at the gate, cancelled or orphaned (R174).  The response it stood for is still to come: the
plain DATA that follows a cancel. -/
def State.gateDrop (s : State) (q : Nat) (c : Cell) (since : Nat) : State :=
  ((((s.freeCell c).inc (Reg.PT_TN_CNT q) Fld.PT_TN_CNT.CANCELLED).inc (Reg.FL_TN c.msg.flacon)
    Fld.FL_TN.CANCELLED).heldSince q since).cancelledErr q c

/-- A tentative cell is flushed or discarded before it reached the gate: an early notice's entry becomes FREE (R174).
Whether its response will never be sent: a cancelled one is followed by plain DATA. -/
def State.gateLost (s : State) (m : Msg) : Bool × State :=
  match m.tent, s.gateOf m.port m.tag with
  | true, some g => if g.st = .earlyX then (false, s.setGate m.port m.tag none)
      else if g.st = .earlyC then (true, s.setGate m.port m.tag none) else (true, s)
  | _, _ => (true, s)

/-- TN_GATE_MISMATCH (R176): cell and notice discarded, a held slot freed, the entry FREE. -/
def State.gateMismatch (s : State) (q t f : Nat) (g : GateEnt) : State :=
  let s1 := match g.cell with | some c => (s.freeCell c).heldSince q g.since | none => s
  ((s1.setGate q t none).set1 (Reg.PT_TN_ERR q) Fld.PT_TN_ERR.MISMATCH).raise (srcQuad (quadOf (tileOf q)) 1) (some f)

/-- A tentative cell reaches the gate of port q (R174 Table 2): the cell to pass on to formatting, and the state. -/
def State.gateCell (s : State) (q : Nat) (c : Cell) : Option Cell × State :=
  let t := c.msg.tag
  match s.gateOf q t with
  | none => (none, s.setGate q t (some { st := .held, addr := c.msg.addr, cell := some c, since := s.beat }))
  | some g =>
    if g.addr ≠ c.msg.addr ∨ g.st = .held ∨ g.st = .orphan then
      (none, (s.freeCell c).gateMismatch q t c.msg.flacon g)
    else if g.st = .earlyC then (some c, (s.setGate q t none).gateConfirm q c s.beat)
    else (none, (s.setGate q t none).gateDrop q c s.beat)

/-- A notice reaches the gate of port q. -/
def State.gateNotice (s : State) (q t addr f : Nat) (confirm : Bool) : Option Cell × State :=
  match s.gateOf q t with
  | none => (none, s.setGate q t (some { st := if confirm then .earlyC else .earlyX, addr := addr }))
  | some g =>
    if g.addr ≠ addr then (none, s.gateMismatch q t f g)
    else match g.st, g.cell with
      | .held, some c =>
        if confirm then (some c, (s.setGate q t none).gateConfirm q c g.since)
        else (none, (s.setGate q t none).gateDrop q c g.since)
      | .orphan, _ => (none, (if confirm then s.respSent q t else s).setGate q t none)
      | _, _ => (none, s.gateMismatch q t f g)

/-- Held cells that p accepts are freed and their entries left in ORPHAN, which waits for the notice (R174, R181). -/
def State.orphanGates (s : State) (p : Nat → Cell → Bool) : State :=
  s.core.gate.foldl (fun u e =>
    match e.2.st, e.2.cell with
    | .held, some c =>
      if p (e.1 / 4096) c then
        ({ u with core := { u.core with gate := tabPut u.core.gate e.1 { e.2 with st := .orphan, cell := none } } }).gateDrop
          (e.1 / 4096) c e.2.since
      else u
    | _, _ => u) s

/-! ### Replies made by the switch -/

/-- The answer to a request, of the opcode given, as its requester gets it; it starts on the lower virtual channel
(R97). -/
def replyTo (m : Msg) (op : Nat) (home : Nat) : Msg :=
  { m with mc := (classOf op).getD 1, op := op, cells := 1, srcEid := home, dstEid := m.srcEid, noSpec := false,
           pbar := none, be := BitVec.allOnes 64, err := false, ur := false, data := [], poison := false, tent := false,
           dpa := none, uvc := false }

/-- A completion of an I/O request for the span from a, n bytes: with data (CplD) or without (Cpl), behind its native
header of 12 bytes; ep: poisoned. -/
def ioCompletion (m : Msg) (a n : Nat) (withData err ep : Bool) : Msg :=
  { m with io := true, accord := none, mc := if withData then 2 else 1, op := if withData then 0x4A else 0x0A, addr := a, len := n,
           hdr := bytesOf 12 (Config.completionHeader (if withData then 0x4A else 0x0A) n a m.tag m.srcEid).toNat
           cells := if withData then cellCount 12 n else 1, dstEid := m.srcEid, err := err, ur := false,
           poison := ep, pbar := none, data := [], dpa := none, uvc := false }

/-- Whether an MC7 request returns data: memory, I/O and configuration reads and atomic operations, by its Fmt/Type
(R94). -/
def returnsData (m : Msg) : Bool :=
  decide (m.op / 64 = 0) || (decide (0x4C ≤ m.op) && decide (m.op ≤ 0x4E)) || (decide (0x6C ≤ m.op) && decide (m.op ≤ 0x6E))

/-- The class of the completions of an MC7 request: MC2 where the request returns data, else MC1, whatever the completion
carries (R94). -/
def completionClass (m : Msg) : Nat := if returnsData m then 2 else 1

/-- The completion that ends an I/O request in error, Unsupported Request or Completer Abort. -/
def errCompletion (m : Msg) (ur : Bool) : Msg :=
  { ioCompletion m m.addr m.len false true false with mc := completionClass m, ur := ur }

/-- Whether an I/O request is answered with data: a read, by its Fmt/Type; else without. -/
def ioReads (m : Msg) : Bool := m.io && m.mc == 7 && (kindOf true m.op == 3 || kindOf true m.op == 5)

/-- The data of a poisoned answer: open (assumption 2). -/
def poisonOf (m : Msg) : Line := Config.poisonData m.addr m.tag m.epoch m.srcEid

/-- The answers that end a request in error (R93 Table 7, R214, R292): poison for reads, an error response for writes,
Completer Abort for non-posted I/O, or Unsupported Request (R214, R216); a snoop is answered RSP_I_LOST (R160); a slice's memory requests come back as
poisoned MEM_DATA and MEM_CMP with error. -/
def errReplies (m : Msg) (home : Nat) (ur : Bool := false) : List Msg :=
  if m.io then (if m.mc = 7 then [errCompletion m ur] else [])
  else if m.mc = 3 then [{ replyTo m Op.RSP_I_LOST home with srcEid := m.dstEid }]
  else if m.mc = 4 ∨ m.mc = 5 then
    if m.op = Op.MEM_RD then [{ replyTo m Op.MEM_DATA home with poison := true, data := [poisonOf m] }]
    else if m.op = Op.MEM_WR then [{ replyTo m Op.MEM_CMP home with err := true }]
    else if readsData m.op then
      [replyTo m Op.GO_ERR home, { replyTo m Op.DATA home with poison := true, data := [poisonOf m] }]
    else if m.op = Op.BI_CONFLICT then [replyTo m Op.BI_CONFLICT_ACK home]
    else [replyTo m Op.GO_ERR home]
  else []

/-- Where the answer to a message goes: its slice, or its port; none for an engine's message. -/
def replyDst (m : Msg) : Option Nat :=
  match m.slice with
  | some n => some (128 + n)
  | none => if m.port < 128 then some m.port else none

/-- An answer sent from source src; toward a port that takes nothing it is discarded, and its tag's response counts as
sent.  No plane joins a slice to a slice (R14): what a slice answers to itself joins its own home queue, in no slot of the
buffer. -/
def State.sendReply (s : State) (src : Nat) (m : Msg) : State :=
  match replyDst m with
  | none => s
  | some d =>
    if 128 ≤ d ∧ src = d - 64 then
      s.enqueue { kind := .single, msg := m, src := src, dst := d, tier := .resp, line := payloadLine m 0 }
    else if d < 128 ∧ !s.portTakes d then (if m.mc = 1 ∨ m.mc = 2 then s.respSent d m.tag else s)
    else s.send src d m

/-- A posted write is ended before its last cell left: its access ends, and the slice it was bound for is awaited no
longer (R158, R231). -/
def State.endPosted (s : State) (m : Msg) : State :=
  let s1 := s.closeAccess m.flacon m.epoch
  if m.port < 128 then
    { s1 with core := { s1.core with posted := tabMod s1.core.posted m.port [] fun l => match m.slice with
      | some n => l.erase n
      | none => l } }
  else s1

/-- A snoop that will not reach its endpoint returns its reserve cell to its slice at once (R93). -/
def State.snoopFlushed (s : State) (m : Msg) : State :=
  match m.slice with
  | none => s
  | some n =>
    let x := tabGet s.home n {}
    match x.snoops.findIdx? fun r => r.line == lineOf m.addr && r.flacon == m.flacon && r.eid == m.dstEid && r.reserve && !r.charged with
    | none => s
    | some i =>
      let y : SliceState := { x with snoops := x.snoops.modify i fun r => { r with reserve := false } }
      ({ s with home := tabPut s.home n y }).wbReturn n

/-- A message ended by the switch at source src (R93 Table 7); ur: an I/O request ends as Unsupported Request. -/
def State.endMsg (s : State) (src : Nat) (m : Msg) (ur : Bool := false) : State :=
  if m.mc = 1 ∨ m.mc = 2 then
    if m.port < 128 ∧ m.slice.isNone then
      let (gone, t) := s.gateLost m
      if gone then t.respSent m.port m.tag else t
    else s
  else if m.mc = 0 then s
  else if m.io ∧ m.mc = 6 then s.endPosted m
  else (errReplies m s.mgmtEid ur).foldl (fun t r => t.sendReply src r) (if m.mc = 3 then s.snoopFlushed m else s)

/-! ### Flushes -/

/-- The heads of a queue's messages, with how many cells of each it holds, removed cells apart: messages of a cell
list. -/
def headMsgs (l : List Cell) : List Msg :=
  l.flatMap fun c => match c.kind with
    | .single | .head => [c.msg]
    | .packed => c.msg :: c.more
    | _ => []

/-- The cells still to arrive of the message that is being sprayed from tile src to dst in class mc are to be discarded,
and the slots kept for them given back. -/
def State.stopArriving (s : State) (src dst mc : Nat) : State :=
  s.core.arriving.foldl (fun t e =>
    let a := e.2
    if tileOf (e.1 / 8) = src ∧ e.1 % 8 = mc ∧ a.dst = dst ∧ a.admitted ∧ !a.discard then
      let t1 := a.slots.foldl (fun u k => u.giveBack a.tier a.msg.flacon dst k) t
      { t1 with core := { t1.core with arriving := tabPut t1.core.arriving e.1 { a with discard := true, slots := [] } } }
    else t) s

/-- A multi-cell message whose tail has not arrived: its later cells are to be discarded (R93), those that are on their way
where they are released, those still to come at their tile. -/
def State.discardRest (s : State) (l : List Cell) : State :=
  let heads := l.filter fun c => c.kind == .head && !(l.any fun d => d.kind == .tail && d.src == c.src)
  heads.foldl (fun t c =>
    let k := streamKey c.src (unitOf c.dst) c.msg.mc
    let st := t.stream k
    let open_ : Bool := match st.cur with
      | some (_, e) => decide (st.next + st.backlog.length ≤ e)
      | none => false
    let t1 := t.putStream k { st with cur := none, gap := false, cut := true, busy := st.busy && !open_ }
    if open_ then t1.stopArriving c.src c.dst c.msg.mc else t1) s

/-- One queue flushed (R93): its cells freed, its messages ended; the number of messages. -/
def State.flushQueue (s : State) (n : Nat) : Nat × State :=
  let l := s.queue n
  let src := match l with | [] => 0 | c :: _ => unitOf c.dst
  let ms := headMsgs l
  let s1 := l.foldl (fun t c => t.freeCell c) ((s.putQueue n []).discardRest l)
  (ms.length, ms.foldl (fun t m => t.endMsg src m) s1)

/-- Every queue of port q that p accepts (class, Flacon) flushed, with its waiting messages left where they are; flushed
messages are counted at the port. -/
def State.flushPort (s : State) (q : Nat) (p : Nat → Nat → Bool) : State :=
  ((s.portQueues q).filter fun e => p (e.1 / 32 % 8) (e.1 % 32)).foldl (fun t e =>
    let (k, u) := t.flushQueue e.1
    u.addTo (Reg.PT_FLUSH_CNT q) Fld.PT_FLUSH_CNT.COUNT k) s

/-- Cells of port q held at its gate that p accepts (by Flacon) go to ORPHAN. -/
def State.flushGate (s : State) (q : Nat) (p : Nat → Bool) : State :=
  s.orphanGates fun r c => r == q && p c.msg.flacon

end Sys2Proof.Machine
end

