-- ==== Sys2Proof/Machine/Arb.lean ====
section
/-!
DEFINITION. Machine/Arb.lean: the common arbiter (R98 to R105) and the Keep channel's windows (R35, R101).
-/
namespace Sys2Proof.Machine

/-- An arbiter's number in the table: plane n × 128 + output, 1024 + slice, 1088 + channel. -/
def arbNo : ArbIx → Nat
  | .plane n o => n.val * 128 + o.val
  | .slice n => 1024 + n.val
  | .keep n => 1088 + n.val

/-- The instance of the register set that serves an arbiter. -/
def arbInst : ArbIx → ArbInst
  | .plane n _ => .plane n
  | .slice n => .slice n
  | .keep n => .keep n

/-- The base of an instance: its arbiter registers lie at 0x0800 from it (04). -/
def arbBase : ArbInst → Nat
  | .plane n => Reg.XB_CTL n.val
  | .slice n => Reg.HS_CTL n.val
  | .keep n => 0x8010000 + n.val * 0x1000

/-- The arbiters of an instance. -/
def arbsOf : ArbInst → List Nat
  | .plane n => (List.range 128).map (n.val * 128 + ·)
  | .slice n => [1024 + n.val]
  | .keep n => [1088 + n.val]

/-- The arbiter that ARB_SEL selects in an instance. -/
def State.arbSelected (s : State) (i : ArbInst) : Nat :=
  match i with
  | .plane n => n.val * 128 + s.rd (Reg.ARB_SEL (arbBase i)) Fld.ARB_SEL.OUTPUT
  | .slice n => 1024 + n.val
  | .keep n => 1088 + n.val

/-- Requesters of an arbiter (R98 Table 1). -/
def requesters : ArbIx → Nat
  | .plane _ o => if o.val < 64 then 128 else 64
  | .slice _ => 36
  | .keep _ => 7

/-- Requesters of an instance's family, for ARB_PRIO. -/
def familySize : ArbInst → Nat
  | .plane _ => 128
  | .slice _ => 36
  | .keep _ => 7

/-- The ARB_PARITY source of an instance (R381 Table 1). -/
def paritySrc : ArbInst → Nat
  | .plane n => srcArb n.val
  | .keep n => srcArb (8 + n.val)
  | .slice _ => srcArb 16

def State.arb (s : State) (k : Nat) : ArbState := tabGet s.sched.arb k {}
def State.putArb (s : State) (k : Nat) (a : ArbState) : State :=
  { s with sched := { s.sched with arb := tabPut s.sched.arb k a } }

/-- The rotation list, which holds the requesters in index order at reset (R100). -/
def ArbState.order (a : ArbState) (n : Nat) : List Nat := if a.list.isEmpty then List.range n else a.list

/-- The best requester of a list by a value; ties to the earlier place. -/
def bestOf (v : Nat → Nat) : List Nat → Option Nat
  | [] => none
  | x :: r =>
    match bestOf v r with
    | none => some x
    | some y => if v x < v y then some y else some x

/-- Effective priority E_i = min(7, BASE_i + L_i) (R99). -/
def effPrio (base : Nat → Nat) (a : ArbState) (i : Nat) : Nat := min 7 (base i + tabGet a.loss i 0)

/-- A normal decision among the eligible requesters (R100): the winner and the arbiter afterwards. -/
def ArbState.decide (a : ArbState) (n starveN : Nat) (base : Nat → Nat) (elig : List Nat) : Option Nat × ArbState :=
  let order := (a.order n).filter elig.contains
  let c := a.count + 1
  let starve := c == starveN
  let win := if starve then bestOf (fun i => tabGet a.age i 0) order else bestOf (effPrio base a) order
  match win with
  | none => (none, a)
  | some w =>
    let losers := order.filter (· != w)
    (some w, { a with
      list := (a.order n).filter (· != w) ++ [w]
      loss := losers.foldl (fun t i => tabPut t i (min 7 (tabGet a.loss i 0 + 1))) (tabDel a.loss w)
      age := losers.foldl (fun t i => tabPut t i (min 65535 (tabGet a.age i 0 + 1))) (tabDel a.age w)
      count := if starve then 0 else c
      owner := some w
      parked := false
      grants := min (2 ^ 64 - 1) (a.grants + 1)
      starve := if starve then min (2 ^ 32 - 1) (a.starve + 1) else a.starve
      maxWait := max a.maxWait (tabGet a.age w 0) })

/-- A decision in fallback (R105): the eligible requester with the earliest place. -/
def ArbState.decideFallback (a : ArbState) (n : Nat) (elig : List Nat) : Option Nat × ArbState :=
  match (a.order n).find? elig.contains with
  | none => (none, a)
  | some w => (some w, { a with
      list := (a.order n).filter (· != w) ++ [w], owner := some w, parked := false, grants := min (2 ^ 64 - 1) (a.grants + 1) })

/-- L, A and C cleared and normal arbitration resumed (R105). -/
def ArbState.resynced (a : ArbState) : ArbState := { a with loss := [], age := [], count := 0, fallback := false, resync := false }

/-- Bytes that requester r of Keep channel ch may receive in a window (R35): spill 32 GB/s, or 28 or 24 at refresh ×4 and
×8, for its reads and writes together; Accord staging 20 GB/s. -/
def State.keepCap (s : State) (r : Nat) : Option Nat :=
  if r = 1 ∨ r = 2 then some (s.spillCap * 16) else if r = 3 then some 1600 else none

/-- The share that a requester's bytes count toward: spill reads and writes share one. -/
def keepShare (r : Nat) : Nat := if r = 2 then 1 else r

/-- Bytes of its window that channel ch has given to everyone but Decant and table save. -/
def State.keepOthers (s : State) (ch : Nat) : Nat :=
  [0, 1, 3, 6].foldl (fun n r => n + tabGet s.sched.keepUsed (ch * 8 + r) 0) 0

/-- Bytes that the other requesters may take of a window's 8,192 (102.4 GB/s for 80 ns): Decant and table save keep 32, an
eighth of 3.2 GB/s (R35).  DEDUCED (assumption 71): R35 guarantees them this share and R101 masks by caps. -/
def keepOthersCap : Nat := 8160

/-- The directory's floor stands: it has received fewer than 4,000 bytes in the window (R101). -/
def State.keepFloor (s : State) (ch : Nat) : Bool := decide (tabGet s.sched.keepUsed (ch * 8) 0 < 4000)

/-- Whether a cap masks requester r of channel ch (R35, R101); none does from phase C of a drain on (R363). -/
def State.keepMasked (s : State) (ch r : Nat) : Bool :=
  !s.closing && ((match s.keepCap r with
   | none => false
   | some c => decide (c ≤ tabGet s.sched.keepUsed (ch * 8 + keepShare r) 0))
  || (r != 4 && r != 5 && !(r == 0 && s.keepFloor ch) && decide (keepOthersCap ≤ s.keepOthers ch)))

/-- From phase C of a drain on, Accord staging and table save take the Keep channels ahead of every other requester
(R363). -/
def State.keepAhead (s : State) (ids : List Nat) : List Nat :=
  if s.closing && ids.any (fun i => i == 3 || i == 5) then ids.filter fun i => i == 3 || i == 5 else ids

/-- Bytes granted to requester r of channel ch in the window. -/
def State.keepGranted (s : State) (ch r n : Nat) : State :=
  let k := ch * 8 + keepShare r
  { s with sched := { s.sched with keepUsed := tabPut s.sched.keepUsed k (tabGet s.sched.keepUsed k 0 + n) } }

/-- R145: a slice has no room for a new request. -/
def State.homeGated (s : State) (n : Nat) : Bool :=
  let x := tabGet s.home n {}
  decide (1024 ≤ x.trackers.length) || decide (2048 ≤ x.conflict.length) || decide (2048 ≤ x.snoops.length)
    || decide (8 ≤ (x.trackers.filter fun t => t.ph == .voq).length)

/-- The home queue group of Flacon f at slice n holds what a gated slice takes too: an MC0, MC1 or MC2 head, or a writeback
of the snoop-writeback list (R145). -/
def State.groupFree (s : State) (n f : Nat) : Bool :=
  ([0, 1, 2].any fun c => !(s.queue (queueNo (128 + n) c f)).isEmpty)
    || (s.queue (queueNo (128 + n) 5 f)).any fun c => c.tier == .writeback

/-- The Flacon a request is made for: at a slice, of requester 0 to 31 its own number. -/
def flaconOfReq (ix : ArbIx) (r : ArbReq) : Option Nat :=
  match ix with
  | .slice _ => if r.who < 32 then some r.who else r.flacon.map (·.val)
  | _ => r.flacon.map (·.val)

/-- Requesters that are eligible (R101, R145): their Flacon is not fenced, no cap masks them, a gated slice takes what they
ask for. -/
def State.arbEligible (s : State) (ix : ArbIx) (req : List ArbReq) : List Nat :=
  let l := req.filter fun r => decide (r.who < requesters ix) && (match flaconOfReq ix r with
    | some f => !s.on (Reg.FL_STATUS f) Fld.FL_STATUS.FENCED
    | none => true)
  let ids := l.map (·.who)
  match ix with
  | .plane _ _ => ids
  | .slice n => ids.filter fun i => !(decide (i < 32) && s.homeGated n.val && !s.groupFree n.val i)
  | .keep ch => s.keepAhead (ids.filter fun i => !s.keepMasked ch.val i)

/-- A round's outcome noted at the Keep channel. -/
def State.noteWin (s : State) (ix : ArbIx) (w bytes : Nat) : State :=
  match ix with
  | .keep ch => s.keepGranted ch.val w bytes
  | _ => s

/-- The unit a requester is granted is its LAST (R102). -/
def lastOf (req : List ArbReq) (w : Nat) : Option Nat := if req.any fun r => r.who == w && r.last then some w else none

/-- A parity failure, checked in every round (R105): fallback is entered, and reported once. -/
def State.arbParity (s : State) (ix : ArbIx) (bad : Bool) : State :=
  let k := arbNo ix
  let a := s.arb k
  let s1 := s.putArb k { a with fallback := a.fallback || bad }
  if bad && !a.fallback then
    (s1.set1 (Reg.ARB_STATUS (arbBase (arbInst ix))) Fld.ARB_STATUS.PARITY_ERR).raise (paritySrc (arbInst ix)) none
  else s1

/-- One round of an arbiter (R100 to R105).  req: the requests seen; bytes: the access at a Keep channel; parityBad:
a loss count's parity fails; withdrawn: a fence withdraws the winner's request after the decision (R102). -/
def State.arbRound (s : State) (ix : ArbIx) (req : List ArbReq) (bytes : Nat) (parityBad withdrawn : Bool) : State :=
  let k := arbNo ix
  let inst := arbInst ix
  let s0 := if (s.arb k).resync then s.putArb k (s.arb k).resynced else s
  let s := s0.arbParity ix parityBad
  let a := s.arb k
  let elig := (s.arbEligible ix req).filter fun i => a.done != some i
  let floor := match ix with
    | .keep ch => elig.contains 0 && s.keepFloor ch.val
    | _ => false
  if floor then (s.putArb k { a with done := lastOf req 0 }).noteWin ix 0 bytes
  else if elig.isEmpty then s.putArb k { a with parked := true, done := none }
  else if !a.reeval && a.owner.any fun o => elig == [o] then
    (s.putArb k { a with
      parkedUses := min (2 ^ 32 - 1) (a.parkedUses + 1), parked := true, done := lastOf req (a.owner.getD 0) }).noteWin ix
        (a.owner.getD 0) bytes
  else
    let n := requesters ix
    let base (i : Nat) : Nat := s.rd (Reg.ARB_PRIO (arbBase inst) i) Fld.ARB_PRIO.BASE
    let starveN := s.rd (Reg.ARB_STATUS (arbBase inst)) Fld.ARB_STATUS.STARVE_N
    let (win, a2) := if a.fallback then a.decideFallback n elig else a.decide n starveN base elig
    let void := withdrawn && win.isSome
    let a3 := { a2 with
      reeval := false, done := if void then none else win.bind (lastOf req)
      voids := if void then min 65535 (a2.voids + 1) else a2.voids }
    let s1 := s.putArb k a3
    match win with
    | some w => if void then s1 else s1.noteWin ix w bytes
    | none => s1

/-- The end of a Keep channel's 80 ns window (R101): caps unmasked, the floor count restarted, the channel's spill accesses
given anew. -/
def State.keepWindowEnd (s : State) (ch : Nat) : State :=
  { s with sched := { s.sched with
    keepUsed := s.sched.keepUsed.filter fun e => decide (e.1 / 8 ≠ ch)
    spillUsed := tabDel s.sched.spillUsed ch } }

/-- R105: every arbiter of the instance that is in fallback resynchronises at its next round boundary. -/
def State.arbResync (s : State) (i : ArbInst) : State :=
  (arbsOf i).foldl (fun t k => if (t.arb k).fallback then t.putArb k { t.arb k with resync := true } else t) s

/-- The counters of the selected arbiter cleared. -/
def State.arbClear (s : State) (i : ArbInst) : State :=
  let k := s.arbSelected i
  s.putArb k { s.arb k with grants := 0, starve := 0, voids := 0, maxWait := 0, parkedUses := 0 }

/-- A BASE written (R104): the next decision begun uses it, and the park of its requester is evaluated anew; indices beyond
the family's requesters have no effect. -/
def State.arbPrio (s : State) (i : ArbInst) (n base : Nat) : State :=
  if n < familySize i then
    (arbsOf i).foldl (fun t k =>
      if (t.arb k).parked && (t.arb k).owner == some n then t.putArb k { t.arb k with reeval := true } else t)
      (s.wr (Reg.ARB_PRIO (arbBase i) n) Fld.ARB_PRIO.BASE base)
  else s

end Sys2Proof.Machine
end

