-- ==== Sys2Proof/Machine/Gates.lean ====
section
/-!
DEFINITION. Machine/Gates.lean: fair queueing tags (R109 to R111), calendar shapers (R113 to R116), time gates (R117 to
R122).
-/
namespace Sys2Proof.Machine

/-! ### Start tags -/

def tagMod : Nat := 2 ^ 40

/-- Tag a lies at or before tag b, modulo 2^40 (R109). -/
def tagLe (a b : Nat) : Bool := decide ((b + tagMod - a % tagMod) % tagMod < 2 ^ 39)

def tagMax (a b : Nat) : Nat := if tagLe a b then b else a

/-- A message of Flacon f is chosen on port q (R109). -/
def State.wfqCharge (s : State) (q f cells : Nat) : State :=
  s.modSched q fun p =>
    let e := tabGet p.wfq f {}
    let v := tagMax p.vtime e.tag
    { p with vtime := v, wfq := tabPut p.wfq f { e with tag := (e.tag + cells * 65536 / max 1 e.weight) % tagMod } }

/-- R110: a Flacon that held cells without an eligible queue has its lead capped when it next has one. -/
def State.wfqSettle (s : State) (q : Nat) (eligible : Nat → Bool) : State :=
  ((List.range 32).filter (s.holdsCells q)).foldl (fun t f =>
    t.modSched q fun p =>
      let e := tabGet p.wfq f {}
      if eligible f then
        (if e.blocked then
          { p with wfq := tabPut p.wfq f { e with
              tag := tagMax e.tag ((p.vtime + tagMod - 4194304) % tagMod), blocked := false } }
        else p)
      else { p with wfq := tabPut p.wfq f { e with blocked := true } }) s

/-! ### Shapers -/

/-- INC = round(RATE_MBPS × 81.92) (R113). -/
def shaperInc (rate : Nat) : Nat := (rate * 8192 + 50) / 100

def Shaper.cap (x : Shaper) : Int := (x.burst : Int) * 65536

/-- R115: refill at the rate in force, then take up a changed rate and burst. -/
def Shaper.refill (x : Shaper) (beat : Nat) : Shaper :=
  let t := x.tokens + (shaperInc x.rate : Int) * ((beat - x.last : Nat) : Int)
  let y : Shaper := { x with rate := x.pendRate.getD x.rate, burst := x.pendBurst.getD x.burst, pendRate := none,
                             pendBurst := none, last := beat }
  { y with tokens := min t y.cap }

/-- R114: a shaper at or below 0 is placed on the wheel. -/
def Shaper.place (x : Shaper) (beat : Nat) : Shaper :=
  if 0 < x.tokens ∨ x.rate = 0 then { x with slot := none } else
  let inc := shaperInc x.rate
  let d := min 65535 (((-x.tokens).toNat / max 1 inc) + 1)
  { x with slot := some (beat + d) }

/-- Eligible: unshaped, or tokens above 0 (R113). -/
def Shaper.eligible (x : Shaper) : Bool := x.rate == 0 || decide (0 < x.tokens)

/-- Each transmitted cell is charged 64 bytes, down to −4,160 bytes (R113, R115). -/
def Shaper.charge (x : Shaper) (cells beat : Nat) : Shaper :=
  if x.rate = 0 then x else
  let y := x.refill beat
  let z := { y with tokens := max (-(4160 * 65536)) (y.tokens - (cells : Int) * 64 * 65536) }
  if z.slot.isSome then z else z.place beat

def State.shaper (s : State) (q f : Nat) : Shaper := tabGet (s.schedPort q).shapers f {}

def State.shaperCharge (s : State) (q f cells : Nat) : State :=
  if (tabFind (s.schedPort q).shapers f).isNone then s else
  s.modSched q fun p => { p with shapers := tabMod p.shapers f {} fun x => x.charge cells s.beat }

/-- The shapers whose slot the wheel has reached, in (port, Flacon) order (R116). -/
def State.dueShapers (s : State) : List (Nat × Nat) :=
  s.sched.port.flatMap fun p => p.2.shapers.filterMap fun e =>
    match e.2.slot with
    | some k => if k ≤ s.beat then some (p.1, e.1) else none
    | none => none

/-- One shaper fired: refilled, and placed again while at or below 0; a late one is counted. -/
def State.fireShaper (s : State) (q f : Nat) : State :=
  let x := s.shaper q f
  let late := x.slot != some s.beat
  let s1 := s.modSched q fun p => { p with shapers := tabPut p.shapers f ({ (x.refill s.beat) with slot := none }.place s.beat) }
  if late then s1.inc (Reg.PT_SHAPE_LATE q) Fld.PT_SHAPE_LATE.LATE else s1

/-- The wheel fires at most 32 shapers in a beat (R116). -/
def State.fireWheel (s : State) : State := (s.dueShapers.take 32).foldl (fun t e => t.fireShaper e.1 e.2) s

/-! ### Rates -/

/-- Mb/s of a rate code of PT_STD_STATUS.RATE. -/
def stdRate (code : Nat) : Nat :=
  match code with
  | 0 => 2500 | 1 => 5000 | 2 => 8000 | 3 => 16000 | 4 => 32000 | _ => 64000

/-- Lanes that carry data toward the partner. -/
def State.txLanes (s : State) (q : Nat) : Nat := s.rd (Reg.PT_LL_STATUS q) Fld.PT_LL_STATUS.TX_LANES

/-- Current lane rate × width of a port, in Mb/s (R119). -/
def State.portRate (s : State) (q : Nat) : Nat :=
  match s.portRec q with
  | none => 0
  | some p =>
    if p.fabric then s.txLanes q * 100000
    else s.rd (Reg.PT_STD_STATUS q) Fld.PT_STD_STATUS.WIDTH * stdRate (s.rd (Reg.PT_STD_STATUS q) Fld.PT_STD_STATUS.RATE)

/-- Beats that a number of bytes takes at a rate in Mb/s: ⌈B × 8 / rate / 10 ns⌉. -/
def beatsFor (bytes rate : Nat) : Nat := if rate = 0 then 0 else (bytes * 800 + rate - 1) / rate

/-- The guard band (R119). -/
def guardBand (fabric : Bool) (rate : Nat) : Nat := beatsFor (if fabric then 80 else 5200) rate

/-! ### Time gates -/

/-- Entry i of a port treated as closed (R122). -/
def State.entryShort (s : State) (q i : Nat) : Bool :=
  (s.rd (Reg.PT_GATE_SHORT q (i / 32)) Fld.PT_GATE_SHORT.SHORT).testBit (i % 32)

/-- The entries that open class c, those treated as closed left out. -/
def State.gateEntries (s : State) (q c : Nat) : List GateEntry :=
  (((s.schedPort q).gates.zip (List.range 256)).filter fun e => e.1.classes.testBit c && !s.entryShort q e.2).map (·.1)

/-- Class c is gated on port q (R118, R122). -/
def State.gated (s : State) (q c : Nat) : Bool :=
  s.rd (Reg.PT_GATE_CFG q) Fld.PT_GATE_CFG.CYCLE_BEATS != 0 && c != 0
  && ((s.schedPort q).gates.any fun e => e.classes.testBit c)
  && !(s.rd (Reg.PT_GATE_ERR q) Fld.PT_GATE_ERR.UNGATED).testBit c

/-- The cycle position now (R117). -/
def State.gatePos (s : State) (q : Nat) : Nat :=
  (2 ^ 64 + s.beat - s.rd (Reg.PT_GATE_ORIGIN q) Fld.PT_GATE_ORIGIN.ORIGIN) % 2 ^ 64
    % max 1 (s.rd (Reg.PT_GATE_CFG q) Fld.PT_GATE_CFG.CYCLE_BEATS)

/-- Where the window that holds position p ends, windows that touch counted as one (R120); p itself where closed. -/
def windowEnd (l : List GateEntry) (cycle p : Nat) : Nat → Nat
  | 0 => p
  | n + 1 =>
    match l.find? fun e => decide (e.start ≤ p % cycle) && decide (p % cycle < e.start + e.len) with
    | some e => windowEnd l cycle (p - p % cycle + (e.start + e.len)) n
    | none => p

/-- Whether a message of n cells of class c may start on port q now (R118, R120, R121).  DESIGN CHOICE (log entry 72):
between a gate table's going live and the first beat boundary, which sets its origin, its classes are closed. -/
def State.gateAdmits (s : State) (q c cells : Nat) (fabric : Bool) : Bool :=
  if !s.gated q c then true else
  if (s.schedPort q).gateNew then false else
  let cycle := max 1 (s.rd (Reg.PT_GATE_CFG q) Fld.PT_GATE_CFG.CYCLE_BEATS)
  let l := s.gateEntries q c
  let p := s.gatePos q
  let left := windowEnd l cycle p (2 * l.length + 1) - p
  let g := s.rd (Reg.PT_GATE_STATE q) Fld.PT_GATE_STATE.GUARD
  decide (0 < left) &&
    (decide (g ≤ left) || decide (beatsFor (80 * if fabric then 1 else cells) (s.portRate q) ≤ left))

/-- Classes open now, for PT_GATE_STATE.OPEN. -/
def State.gateOpenMask (s : State) (q : Nat) : Nat :=
  ((List.range 8).filter fun c => !s.gated q c || !(s.schedPort q).gateNew &&
    (s.gateEntries q c).any fun e => decide (e.start ≤ s.gatePos q) && decide (s.gatePos q < e.start + e.len)).foldl
    setBitAt 0

/-- The eight words of PT_GATE_SHORT that mark the given entries. -/
def shortWords (l : List Nat) : List Nat :=
  (List.range 8).map fun w => (l.filter fun i => i / 32 == w).foldl (fun m i => setBitAt m (i % 32)) 0

/-- PT_GATE_SHORT and UNGATED as given (R122). -/
def State.putShort (s : State) (q : Nat) (words : List Nat) (ungated : Nat) : State :=
  ((words.zip (List.range 8)).foldl (fun t e => t.wr (Reg.PT_GATE_SHORT q e.2) Fld.PT_GATE_SHORT.SHORT e.1) s).wr
    (Reg.PT_GATE_ERR q) Fld.PT_GATE_ERR.UNGATED ungated

/-- The classes every entry of which is among those treated as closed (R122). -/
def allShort (es : List (GateEntry × Nat)) (short : List Nat) : Nat :=
  ((List.range 8).filter fun c => c != 0 && es.any (fun e => e.1.classes.testBit c)
    && es.all fun e => !e.1.classes.testBit c || short.contains e.2).foldl setBitAt 0

/-- R122: the port's width or rate has changed: G, and the entries shorter than it, treated as closed at once; an entry
long enough again, and a class gated again, wait for the next cycle start. -/
def State.regate (s : State) (q : Nat) : State :=
  match s.portRec q with
  | none => s
  | some p =>
    let g := guardBand p.fabric (s.portRate q)
    let s1 := s.wr (Reg.PT_GATE_STATE q) Fld.PT_GATE_STATE.GUARD g
    let es := ((s1.schedPort q).gates.zip (List.range 256))
    if es.isEmpty then s1 else
    let closed := (es.filter fun e => s1.entryShort q e.2).map (·.2)
    let short := (es.filter fun e => decide (e.1.len < g)).map (·.2)
    let now := (es.filter fun e => closed.contains e.2 || short.contains e.2).map (·.2)
    let old := s1.rd (Reg.PT_GATE_ERR q) Fld.PT_GATE_ERR.UNGATED
    let un := old ||| allShort es now
    let s2 := s1.putShort q (shortWords now) un
    let s3 := if un ≠ old then s2.set1 (Reg.PT_GATE_ERR q) Fld.PT_GATE_ERR.FALLBACK else s2
    let back := if now == short && un == allShort es short then none else some (shortWords short, allShort es short)
    let s5 := s3.modSched q fun x => { x with gateBack := back }
    let newly := short.any fun i => !closed.contains i
    if newly then (s5.set1 (Reg.PT_GATE_ERR q) Fld.PT_GATE_ERR.SHORT).raise (srcQuad (quadOf (tileOf q)) 3) (s.portFlacon q)
    else s5

/-- At a cycle start, entries long enough again are restored and their classes gated again (R122). -/
def State.gateCycleStart (s : State) (q : Nat) : State :=
  match (s.schedPort q).gateBack with
  | some (words, mask) =>
    if s.gatePos q = 0 ∧ !(s.schedPort q).gateNew then
      (s.putShort q words mask).modSched q fun x => { x with gateBack := none }
    else s
  | none => s

/-- R117: the first beat boundary after the port's gate table went live is its origin. -/
def State.gateOrigin (s : State) (q : Nat) : State :=
  if (s.schedPort q).gateNew then
    (s.wr (Reg.PT_GATE_ORIGIN q) Fld.PT_GATE_ORIGIN.ORIGIN s.beat).modSched q fun x => { x with gateNew := false }
  else s

/-- The port's gate table goes live: its entries are held against G, and its origin awaits a beat boundary. -/
def State.gateLive (s : State) (q : Nat) : State :=
  (s.modSched q fun x => { x with gateNew := true }).regate q

end Sys2Proof.Machine
end

