-- ==== Sys2Proof/Machine/Sched.lean ====
section
/-!
DEFINITION. Machine/Sched.lean: the egress scheduler (R107, R108, R112) and what transmitting a message does (R72, R75,
R76, R96, R283, R311).
-/
namespace Sys2Proof.Machine

/-! ### Link credits of a fabric port (R276, R277) -/

def State.linkSt (s : State) (q : Nat) : LinkState := tabGet s.link q {}
def State.putLink (s : State) (q : Nat) (l : LinkState) : State := { s with link := tabPut s.link q l }
def State.modLink (s : State) (q : Nat) (g : LinkState → LinkState) : State := s.putLink q (g (s.linkSt q))

/-- Initial credits of a counter: 16 for a sub-channel, 64 for the bypass slot. -/
def initialCredits (k : Nat) : Nat := if k = 16 then 64 else 16

/-- Credits the transmitter may use of counter k. -/
def LinkState.available (l : LinkState) (k : Nat) : Nat :=
  let d := (65536 + tabGet l.crd k 0 - tabGet l.debits k 0) % 65536
  if d ≤ initialCredits k then d else 0

/-- Whether a cell of sub-channel v may go, and whether on the shared pool (R277). -/
def LinkState.slotFor (l : LinkState) (v : Nat) : Option Bool :=
  if 16 ≤ l.filling.length then none
  else if !l.xoffIn.testBit v then some true
  else if 0 < l.available v then some false
  else none

/-! ### Messages that expect an answer -/

/-- R283: MC3 snoops, MC4 and MC5 requests other than snoop writebacks, MC7 requests. -/
def expectsAnswer (m : Msg) : Bool :=
  if m.io then m.mc == 7 else m.mc == 3 || m.mc == 4 || (m.mc == 5 && m.op != Op.WB_SNP_I && m.op != Op.WB_SNP_S)

/-- Answers it expects: a grant and its data, or one. -/
def answersOf (m : Msg) : Nat := if !m.io && readsData m.op then 2 else 1

/-! ### Eligibility (R107) -/

/-- The cells of the message at the head of a queue, the rest of the queue, and whether its last cell is there. -/
def takeMsg : List Cell → List Cell × List Cell × Bool
  | [] => ([], [], false)
  | c :: r =>
    match c.kind with
    | .single | .packed | .tail => ([c], r, true)
    | _ =>
      let mine := r.takeWhile fun d => !(d.kind == .tail && d.src == c.src)
      let after := r.drop mine.length
      let (a, b) := mine.partition fun d => d.src == c.src
      match after with
      | [] => (c :: a, b, false)
      | t :: l => (c :: a ++ [t], b ++ l, true)

/-- The sub-channel on which a message leaves port p (R273, R97). -/
def subOf (p : PortRec) (m : Msg) : Nat := 2 * m.mc + if m.uvc || p.dateline then 1 else 0

/-- The head message of a queue may start (R72, R112): all its cells are in the buffer, or the port it came in by is at
least as fast as this one. -/
def State.mayStart (s : State) (p : PortRec) (l : List Cell) : Bool :=
  match l with
  | [] => false
  | c :: _ =>
    if p.fabric then true
    else (takeMsg l).2.2 || (match c.inPort with
      | some q => decide (s.portRate p.port ≤ s.portRate q)
      | none => false)

/-- Whether port p has a free outbound record, where the message needs one. -/
def State.recordFree (s : State) (p : PortRec) (m : Msg) : Bool :=
  !expectsAnswer m || (freeKey s.core.otags p.port).isSome

/-- The head message of queue (class c, Flacon f) of port p is eligible, given the standard port's credits by
sub-channel. -/
def State.eligible (s : State) (p : PortRec) (credits : BitVec 16) (c f : Nat) : Bool :=
  let q := p.port
  match s.queue (queueNo q c f) with
  | [] => false
  | h :: r =>
    let m := h.msg
    let start := h.kind == .single || h.kind == .head || h.kind == .packed
    s.mayStart p (h :: r)
    && (match m.pbar with | some x => !start || !s.barrierStands h.src (unitOf q) x | none => true)
    && (if p.fabric then ((s.linkSt q).slotFor (subOf p m)).isSome
          || (c == 0 && (s.linkSt q).bypassMc0.isEmpty && decide (0 < (s.linkSt q).available 16))
        else credits.getLsbD (subOf p m))
    && s.gateAdmits q c m.cells p.fabric
    && (s.shaper q f).eligible
    && !s.on (Reg.FL_STATUS f) Fld.FL_STATUS.FENCED
    && (!start || s.recordFree p m)
    && !s.decantHoldsWrite m

/-! ### Choice (R108) -/

/-- Whether the head of a queue is a writeback that answers a snoop: its rank is 3 (R94 Table 8). -/
def State.headRank (s : State) (n : Nat) : Nat :=
  rankOf (n / 32 % 8) (match s.queue n with | h :: _ => isSnoopWb h.msg | [] => false)

/-- The best class of Flacon f on port q by service class, then rank, then class number. -/
def State.bestClass (s : State) (q f : Nat) (l : List Nat) : Option Nat :=
  bestOf (fun c => 1000 - (s.serviceOf f c * 100 + s.headRank (queueNo q c f) * 10)) l

/-- The queue chosen on port p: class and Flacon. -/
def State.choose (s : State) (p : PortRec) (credits : BitVec 16) : Option (Nat × Nat) :=
  let x := s.schedPort p.port
  let mc0 := ((List.range 32).map fun i => (x.mc0Last + 1 + i) % 32).find? fun f => s.eligible p credits 0 f
  match mc0 with
  | some f => some (0, f)
  | none =>
    let el (f : Nat) : List Nat := [1, 2, 3, 4, 5, 6, 7].filter fun c => s.eligible p credits c f
    let fl := (List.range 32).filter fun f => !(el f).isEmpty
    let best := fl.foldl (fun (b : Option Nat) f =>
      match b with
      | none => some f
      | some g => if tagLe (tabGet x.wfq g {}).tag (tabGet x.wfq f {}).tag then some g else some f) none
    match best with
    | none => none
    | some f =>
      match (el f).find? fun c => decide (64 ≤ tabGet x.passed (f * 8 + c) 0) with
      | some c => some (c, f)
      | none => (s.bestClass p.port f (el f)).map fun c => (c, f)

/-- The counts of R108's exception after a choice. -/
def State.notePassed (s : State) (p : PortRec) (credits : BitVec 16) (c f : Nat) : State :=
  if c = 0 then s.modSched p.port fun x => { x with mc0Last := f } else
  let el := [1, 2, 3, 4, 5, 6, 7].map fun k => (k, s.eligible p credits k f)
  s.modSched p.port fun x => { x with passed := el.foldl (fun t e =>
    if e.1 = c ∨ !e.2 then tabDel t (f * 8 + e.1) else tabPut t (f * 8 + e.1) (tabGet t (f * 8 + e.1) 0 + 1)) x.passed }

/-- The heads of a port's queues that their class's gate makes wait now: queue, source, SEQ. -/
def State.gateWaits (s : State) (p : PortRec) : List (Nat × Nat × Nat) :=
  (s.portQueues p.port).filterMap fun e =>
    match e.2 with
    | [] => none
    | h :: _ =>
      if s.gateAdmits p.port (e.1 / 32 % 8) h.msg.cells p.fabric then none else some (e.1, h.src, h.seq)

/-- PT_GATE_HELD counts each wait of a head message for the next window of its class, once (R120). -/
def State.noteGateHeld (s : State) (p : PortRec) : State :=
  let now := s.gateWaits p
  let fresh := now.filter fun w => !(s.schedPort p.port).gateHeld.contains w
  let s1 := s.addTo (Reg.PT_GATE_HELD p.port) Fld.PT_GATE_HELD.HELD fresh.length
  if now = (s.schedPort p.port).gateHeld then s1 else s1.modSched p.port fun x => { x with gateHeld := now }

/-! ### Transmitting -/

/-- A message of the switch sent from the egress tile of port q to slice n. -/
def State.tellSlice (s : State) (q n : Nat) (m : Msg) : State := s.send (tileOf q) (128 + n) m

/-- An answer leaves: its tag on the link is the requester's own (R283), and its ingress tag has one answer less.  A
tentative cell that crosses a link is sent with its confirmation (R175, R178). -/
def State.answerLeaves (s : State) (q : Nat) (m : Msg) : State :=
  if (m.mc = 1 ∨ m.mc = 2) ∧ m.port = q ∧ (m.slice.isNone ∨ m.notice) ∧ !m.tent then s.respSent q m.tag else s

/-- Open the outbound record of a message that expects an answer: its key, and the state. -/
def State.openRecord (s : State) (q : Nat) (m : Msg) : Option Nat × State :=
  if !expectsAnswer m then (none, s) else
  match freeKey s.core.otags q with
  | none => (none, s)
  | some i =>
    let k := tagKey q i
    let r : OutRec := { msg := m, left := answersOf m, fseq := (s.linkSt q).txNext }
    (some k, { s with core := { s.core with otags := tabPut s.core.otags k r } })

/-- The tag a message bears on the link of port q. -/
def State.linkTag (s : State) (q : Nat) (m : Msg) (key : Option Nat) : Nat :=
  match key with
  | some k => k % 4096
  | none => match s.tagRec q m.tag with | some r => r.ltag | none => m.ltag

/-- A CXL.cache write of a device to a line of a SHARED decoder: its tile pulls the data and consumes the answer (R306). -/
def pulledOp (io : Bool) (op : Nat) : Bool := !io && (op == Op.WB_DIRTY || op == Op.WR_FULL)

/-- The answer of such a write ends at its tile. -/
def State.consumedHere (s : State) (p : PortRec) (m : Msg) : Bool :=
  !p.fabric && p.role == .downstream && m.mc == 1 && m.port == p.port && m.slice.isNone && (match s.tagRec p.port m.tag with
    | some r => pulledOp r.io r.op && ((findDecoder (s.genAt r.flacon r.epoch).decoders r.addr).map (·.shared)).getD false
    | none => false)

/-- Port-based flits run on port q (R301). -/
def State.pbrRuns (s : State) (q : Nat) : Bool := s.on (Reg.PT_STD_STATUS q) Fld.PT_STD_STATUS.PBR

/-- A message as it stands on the link of port p; under port-based routing its source is the switch's own ID (R301). -/
def State.linkForm (s : State) (p : PortRec) (m : Msg) (key : Option Nat) : Msg :=
  { m with
    ltag := s.linkTag p.port m key, pbar := none, uvc := m.uvc || p.dateline
    priv := if p.fabric ∧ m.priv = 0 then 2 else m.priv
    srcEid := if !p.fabric ∧ s.pbrRuns p.port then s.mgmtEid % 4096 else m.srcEid }

/-- The slice that a message with a notice came from is told that it has gone. -/
def State.tellGone (s : State) (q : Nat) (m : Msg) : State :=
  match m.notice, m.slice with
  | true, some n => s.tellSlice q n { m with mc := 0, op := Op.TX_DONE, cells := 1, data := [], slice := some n, notice := false }
  | _, _ => s

/-- What sending message m on port q does: records, tags, notices, the end of a posted access, the mirror, the count of
poison sent; nullified: the TLP was nullified (R76).  With it the message as it stands on the link. -/
def State.sendForm (s : State) (p : PortRec) (m : Msg) (nullified : Bool) : Msg × State :=
  let q := p.port
  let (key, s1) := if nullified then (none, s) else s.openRecord q m
  let form := s1.linkForm p m key
  let s2 := (if s.consumedHere p m then s1 else s1.emit (.sent q form nullified)).answerLeaves q m
  let s3 := if m.io ∧ m.mc = 6 then s2.endPosted m else s2
  let s4 := s3.tellGone q m
  let s5 := if m.poison ∧ !nullified ∧ !p.fabric then s4.inc (Reg.PT_STD_POISON q) Fld.PT_STD_POISON.OUT else s4
  (form, if nullified then s5 else s5.decantMirror q m key)

def State.finishSend (s : State) (p : PortRec) (m : Msg) (nullified : Bool) : State := (s.sendForm p m nullified).2

/-- Messages sent one after another, in their forms on the link. -/
def State.sendForms (s : State) (p : PortRec) : List Msg → List Msg × State
  | [] => ([], s)
  | m :: r =>
    let (x, t) := s.sendForm p m false
    let (l, u) := t.sendForms p r
    (x :: l, u)

/-- CB_PAYLOAD_UE and CB_HDR_UE (R75). -/
def State.payloadUe (s : State) (q : Nat) (m : Msg) : State :=
  (s.set1 (Reg.TL_ERR (tileOf q)) Fld.TL_ERR.PAYLOAD_UE).raiseAt (srcTile (tileOf q) 1) (some m.flacon) (recOf m 0 0)
def State.headerUe (s : State) (q : Nat) : State :=
  (s.set1 (Reg.TL_ERR (tileOf q)) Fld.TL_ERR.HDR_UE).raise (srcTile (tileOf q) 0) none

/-- Send a whole message from a standard port under R76 Table 5.  tailBad: its TAIL is marked; payUe: a payload error
was found in one of its cells. -/
def State.sendStd (s : State) (p : PortRec) (m : Msg) (tailBad payUe : Bool) : State :=
  let q := p.port
  let s1 := if payUe then s.payloadUe q m else s
  if 1 < m.cells then
    if tailBad ∨ payUe then (s1.finishSend p m true).inc (Reg.PT_BAD q) Fld.PT_BAD.NULLIFIED
    else s1.finishSend p m false
  else if payUe then (s1.finishSend p { m with poison := true } false).inc (Reg.PT_BAD q) Fld.PT_BAD.POISONED
  else s1.finishSend p m false

/-- Every message of a single-cell unit: one, or the entries of a PACKED cell in order. -/
def unitMsgs (c : Cell) : List Msg := c.msg :: c.more

/-- The key under which a port notes something of a multi-cell message until its TAIL goes: Flacon, class and source. -/
def msgKey (c : Cell) : Nat := (c.msg.flacon * 8 + c.msg.mc) * 128 + c.src

/-- A chosen cell passes the egress observation point of port q; last: its message's tail goes with it.  Each message makes
one entry, written with its tail and bearing the time of its head (R405). -/
def State.silEgress (s : State) (q : Nat) (c : Cell) (last : Bool) : State :=
  if c.kind = .single ∨ c.kind = .packed then
    (unitMsgs c).foldl (fun t m => match t.silEntry 1 q m with | some e => t.silPut e | none => t) s
  else
    let k := msgKey c
    let e := if c.kind = .head then s.silEntry 1 q c.msg else tabFind (s.schedPort q).sil k
    let s1 := s.modSched q fun x => { x with sil := match e with
      | some e => if last then tabDel x.sil k else tabPut x.sil k e
      | none => tabDel x.sil k }
    match e, last with
    | some e, true => s1.silPut { e with tailBad := c.tailBad }
    | _, _ => s1

/-- A PRIV P1 request is never sent on a link whose IDE is not secure (R308). -/
def State.teeBlocked (s : State) (p : PortRec) (m : Msg) : Bool :=
  !p.fabric && m.priv == 1 && decide (3 ≤ m.mc) && s.rd (Reg.PT_STD_STATUS p.port) Fld.PT_STD_STATUS.IDE != 2

/-- A cell passed on by the confirm gate is formatted and sent, poisoned where R177 requires. -/
def State.sendConfirmed (s : State) (p : PortRec) (c : Cell) : State :=
  let s1 := s.freeCell c
  let s2 := if c.payUe then s1.payloadUe p.port c.msg else s1
  let m := { c.msg with tent := false, poison := c.msg.poison || c.payUe }
  if p.fabric then
    let (form, s3) := s2.sendForm p m false
    s3.modLink p.port fun l =>
      { l with filling := l.filling ++ [{ cell := { c with msg := form }, sub := subOf p m, pool := true }] }
  else if c.payUe then (s2.finishSend p m false).inc (Reg.PT_BAD p.port) Fld.PT_BAD.POISONED
  else s2.finishSend p m false

/-- Whether a tentative cell and its notice cross this port's link: one of a slice here, on an Ictil link whose partner
takes them (R173, R284). -/
def State.tentCrosses (s : State) (p : PortRec) (c : Cell) : Bool :=
  p.protocol == .ictil && decide (64 ≤ c.src) && s.on (Reg.PT_LL_STATUS p.port) Fld.PT_LL_STATUS.PARTNER_TENT_OK

/-- Whether a tentative cell is stopped at this port's gate. -/
def State.gateStops (s : State) (p : PortRec) (c : Cell) : Bool := c.msg.tent && !s.tentCrosses p c

/-- A confirm or cancel notice. -/
def isNotice (m : Msg) : Bool := !m.io && (m.op == Op.TN_CONFIRM || m.op == Op.TN_CANCEL)

/-- A cell whose header is uncorrectable is discarded (R76 Table 5); an early notice waits for it no longer (R174). -/
def State.loseCell (s : State) (q : Nat) (c : Cell) : State := (((s.freeCell c).gateLost c.msg).2).headerUe q

/-- A tentative cell chosen on port p goes to the gate, and on where its confirm came early. -/
def State.cellToGate (s : State) (p : PortRec) (c : Cell) : State :=
  match s.gateCell p.port c with
  | (some d, s1) => s1.sendConfirmed p d
  | (none, s1) => s1

/-- The notices of a cell act at the gate of port p; a held cell that one confirms is sent. -/
def State.noticesToGate (s : State) (p : PortRec) (c : Cell) : State :=
  (unitMsgs c).foldl (fun t m =>
    match t.gateNotice p.port m.tag m.addr m.flacon (m.op == Op.TN_CONFIRM) with
    | (some d, s1) => s1.sendConfirmed p d
    | (none, s1) => s1) (s.freeCell c)

/-- A message sent on a standard port, but that a P1 request which its link may not carry ends in error under R216 (R308). -/
def State.sendSecure (s : State) (p : PortRec) (m : Msg) (nullify bad : Bool) : State :=
  if s.teeBlocked p m then
    (s.deny m.flacon { recOf m (kindOf m.io m.op) 0 with noDecoder := true }).endMsg (tileOf p.port) m true
  else s.sendStd p m nullify bad

/-- One single-cell unit chosen on a standard port.  Table 5 of R76 has no row for a payload error of a coherent cell
without data, or of a PACKED cell: every message of it goes poisoned (DESIGN CHOICE, assumption 68). -/
def State.sendUnitStd (s : State) (p : PortRec) (c : Cell) (ecc : EccFinding) : State :=
  let q := p.port
  let c := { c with payUe := c.payUe || ecc.payload, hdrUe := c.hdrUe || ecc.header }
  if c.hdrUe then s.loseCell q c
  else if s.gateStops p c then s.cellToGate p c
  else if isNotice c.msg then s.noticesToGate p c
  else (unitMsgs c).foldl (fun t m => t.sendSecure p m false c.payUe) (s.freeCell c)

/-- The confirms among notices that cross the link of port q: the response of each has been sent with them (R175). -/
def State.noticesCross (s : State) (q : Nat) (l : List Msg) : State :=
  l.foldl (fun t m => if isNotice m && m.op == Op.TN_CONFIRM && m.port == q then t.respSent q m.tag else t) s

/-- A cell of a multi-cell message read at a fabric port: an uncorrectable payload, or an earlier one of its message,
marks its TAIL (R75). -/
def State.markTail (s : State) (q : Nat) (c : Cell) : Cell × State :=
  let bad := c.payUe || (s.schedPort q).badMsg.contains (msgKey c)
  let note (l : List Nat) : State := s.modSched q fun x => { x with badMsg := l ++ x.badMsg.filter (· != msgKey c) }
  match c.kind with
  | .head => (c, note (if c.payUe then [msgKey c] else []))
  | .body => (c, if bad then note [msgKey c] else s)
  | .tail => ({ c with tailBad := c.tailBad || bad }, note [])
  | _ => ({ c with msg := { c.msg with poison := c.msg.poison || c.payUe }
                   more := c.more.map fun m => { m with poison := m.poison || c.payUe } }, s)

/-- A cell takes the bypass slot's queue, or a slot of the flit being filled, with its credit. -/
def State.placeCell (s : State) (p : PortRec) (c : Cell) : State :=
  let q := p.port
  let l := s.linkSt q
  let v := subOf p c.msg
  if c.msg.mc = 0 ∧ l.bypassMc0.isEmpty ∧ 0 < l.available 16 ∧ c.kind = .single then
    s.modLink q fun x => { x with
      bypassMc0 := x.bypassMc0 ++ [c.msg], debits := tabMod x.debits 16 0 (fun d => (d + 1) % 65536) }
  else match l.slotFor v with
    | none => s
    | some pool =>
      s.modLink q fun x => { x with
        filling := x.filling ++ [{ cell := c, sub := v, pool := pool }]
        debits := if pool then x.debits else tabMod x.debits v 0 fun d => (d + 1) % 65536 }

/-- One cell chosen on a fabric port: it takes a slot of the flit being filled, or the bypass slot.  A payload error found
in a tentative cell that crosses raises no fault while it is tentative: it crosses poisoned (R177). -/
def State.sendCellFabric (s : State) (p : PortRec) (c : Cell) (ecc : EccFinding) : State :=
  let q := p.port
  let c := { c with payUe := c.payUe || ecc.payload, hdrUe := c.hdrUe || ecc.header }
  if c.hdrUe then s.loseCell q c
  else if s.gateStops p c then s.cellToGate p c
  else if isNotice c.msg && (!s.tentCrosses p c || (s.gateOf q c.msg.tag).isSome) then s.noticesToGate p c
  else
    let s1 := if c.payUe ∧ !c.msg.tent then s.payloadUe q c.msg else s
    let (d, s2) := (s1.freeCell c).markTail q c
    if c.kind == .single || c.kind == .packed || c.kind == .head then
      let (forms, s3) := (s2.noticesCross q (unitMsgs d)).sendForms p (unitMsgs d)
      s3.placeCell p { d with msg := forms.headD d.msg, more := forms.tail }
    else s2.placeCell p { d with msg := s2.linkForm p d.msg none }

/-- The started message of a standard port goes on until its TAIL has been sent (R112). -/
def State.continueMsg (s : State) (p : PortRec) (f c src : Nat) (ecc : EccFinding) : State :=
  let q := p.port
  let n := queueNo q c f
  let l := s.queue n
  let (mine, rest) := l.partition fun d => d.src == src && (d.kind == .body || d.kind == .tail)
  let upto := mine.takeWhile fun d => d.kind != .tail
  match mine.drop upto.length with
  | [] => upto.foldl (fun t d => t.freeCell d) (s.putQueue n rest)
  | t :: more =>
    let s1 := (t :: upto).foldl (fun u d => u.freeCell d) (s.putQueue n (more ++ rest))
    let bad := (t :: upto).any (·.payUe)
    let lost := ecc.header || (t :: upto).any (·.hdrUe)
    let s2 := ((if lost then s1.headerUe q else s1).sendSecure p t.msg (t.tailBad || lost) (bad || ecc.payload)).silEgress q t true
    let s3 := s2.modSched q fun x => { x with hold := none }
    if s3.gated q c ∧ !s3.gateAdmits q c 0 false then
      ((s3.set1 (Reg.PT_GATE_ERR q) Fld.PT_GATE_ERR.OVERRUN).inc (Reg.PT_GATE_ERR q) Fld.PT_GATE_ERR.OVERRUN_CNT).raise
        (srcQuad (quadOf (tileOf q)) 4) (some f)
    else s3

/-- The chosen queue's head is taken: charged to its Flacon's tag and shaper, observed, and sent.  A multi-cell TLP that
lost a cell to a header error, or whose HEAD was skipped (R81), is nullified with its last cell. -/
def State.takeChosen (s : State) (p : PortRec) (c f : Nat) (ecc : EccFinding) : State :=
  let q := p.port
  let n := queueNo q c f
  match s.queue n with
  | [] => s
  | h :: r =>
    let cells := if p.fabric then 1 else h.msg.cells
    let s1 := (s.wfqCharge q f cells).shaperCharge q f cells
    if p.fabric then
      let last := h.kind == .single || h.kind == .packed || h.kind == .tail
      ((s1.putQueue n r).silEgress q h last).sendCellFabric p h ecc
    else if h.kind = .single ∨ h.kind = .packed then ((s1.putQueue n r).silEgress q h true).sendUnitStd p h ecc
    else
      let (mine, rest, whole) := takeMsg (h :: r)
      let s2 := mine.foldl (fun t d => t.freeCell d) (s1.putQueue n rest)
      let lost := ecc.header || mine.any (·.hdrUe)
      let s3 := if lost then s2.headerUe q else s2
      if whole then
        let tail := mine.getLastD h
        (s3.silEgress q { h with tailBad := tail.tailBad || lost } true).sendSecure p h.msg (tail.tailBad || lost)
          (ecc.payload || mine.any (·.payUe))
      else (s3.silEgress q h false).modSched q fun x => { x with hold := some (f, c, h.src) }

/-- One cell slot of port q (R108). -/
def State.egress (s : State) (q : Nat) (credits : BitVec 16) (ecc : EccFinding) : State :=
  match s.portRec q with
  | none => s
  | some p =>
    if !s.portUp q then s else
    match (s.schedPort q).hold with
    | some (f, c, src) => s.continueMsg p f c src ecc
    | none =>
      let s1 := (s.noteGateHeld p).wfqSettle q fun f => (List.range 8).any fun c => s.eligible p credits c f
      match s1.choose p credits with
      | none => s1
      | some (c, f) => (s1.notePassed p credits c f).takeChosen p c f ecc

end Sys2Proof.Machine
end

