-- ==== Sys2Proof/Machine/Ingress.lean ====
section
/-!
DEFINITION. Machine/Ingress.lean: a message's way through its ingress tile (R70): parse, lookup (R127, R214 to R217,
R303), region check (R221, R235 to R237), packing (R68), admission.
-/
namespace Sys2Proof.Machine

/-! ### Parsing (R304 Table 3, R306 Table 4) -/

/-- The internal opcode of a CXL message; none for a combination not listed. -/
def cxlOpcode : CxlOp → Option Nat
  | .memRd .data => some Op.RD_SHARED
  | .memRd .inv => some Op.RD_OWN
  | .memRd .cur => some Op.RD_CUR
  | .memRd .noOp => some Op.RD_CUR
  | .memInv .inv => some Op.OWN_NODATA
  | .memInv _ => none
  | .memClnEvct => some Op.EVICT_CLEAN
  | .memWr .noOp .i => some Op.WB_DIRTY
  | .memWr .noOp .s => some Op.WB_SNP_S
  | .memWr .inv _ => some Op.WR_FULL
  | .memWr _ _ => none
  | .memWrPtl => some Op.WR_FULL
  | .biRspI => some Op.RSP_I
  | .biRspS => some Op.RSP_S
  | .biRspE => some Op.RSP_S
  | .biConflict => some Op.BI_CONFLICT
  | .rdShared => some Op.RD_SHARED
  | .rdOwn => some Op.RD_OWN
  | .rdCurr => some Op.RD_CUR
  | .rdOwnNoData => some Op.OWN_NODATA
  | .cleanEvict => some Op.EVICT_CLEAN
  | .cleanEvictNoData => some Op.EVICT_CLEAN
  | .dirtyEvict => some Op.WB_DIRTY
  | .itoMWr => some Op.WR_FULL
  | .wrCur => some Op.WR_FULL
  | .cacheMemWr => some Op.WR_FULL
  | .rspIHitI => some Op.RSP_I
  | .rspIHitSE => some Op.RSP_I
  | .rspSHitSE => some Op.RSP_S
  | .rspIFwdM => some Op.WB_SNP_I
  | .rspSFwdM => some Op.WB_SNP_S

/-- A request: what an ingress check is made for, and what an error completion ends. -/
def isRequest (m : Msg) : Bool := decide (4 ≤ m.mc)

/-- A snoop answer or writeback that answers a snoop. -/
def answersSnoop (m : Msg) : Bool :=
  !m.io && (m.op == Op.RSP_I || m.op == Op.RSP_S || m.op == Op.RSP_I_WB || m.op == Op.RSP_I_LOST
    || m.op == Op.WB_SNP_I || m.op == Op.WB_SNP_S)

/-! ### Ingress tags -/

/-- Whether a request takes an ingress tag: every request but a posted write (R66, R231). -/
def takesTag (m : Msg) : Bool := isRequest m && !(m.io && m.mc == 6)

/-- A tag taken for message m on its port, with the number of answers it awaits; none while all 4,096 are in use. -/
def State.takeTag (s : State) (m : Msg) (need : Nat) (order : List Nat) : Option (Msg × State) :=
  match freeKey s.core.tags m.port with
  | none => none
  | some t =>
    let r : TagRec := { flacon := m.flacon, epoch := m.epoch, op := m.op, io := m.io, addr := m.addr, len := m.len,
                        srcEid := m.srcEid, ltag := m.ltag, need := need, order := order }
    some ({ m with tag := t }, { s with core := { s.core with tags := tabPut s.core.tags (tagKey m.port t) r } })

/-! ### Receive storage of a fabric port -/

/-- From phase C of a drain on, request credits are withheld (R361 Table 2): sub-channels of MC4 to MC7. -/
def State.creditsHeld (s : State) (v : Nat) : Bool :=
  s.md == .drydown && decide (2 ≤ s.rd Reg.KS_DRAIN_STATUS Fld.KS_DRAIN_STATUS.PHASE) && decide (8 ≤ v)

/-- Free one cell of sub-channel v that left the receive storage into the switch: a dedicated cell's credit returns
(R276).  A PACKED cell stays until its last message has left it (R66). -/
def State.rxFree (s : State) (q v : Nat) (p : RxCell → Bool) : State :=
  let l := s.linkSt q
  match l.rx.findIdx? fun c => c.sub == v && p c with
  | none => s
  | some i =>
    if 0 < ((l.rx[i]?).map (·.left)).getD 0 then
      s.putLink q { l with rx := l.rx.modify i fun c => { c with left := c.left - 1 } }
    else
    let pool := ((l.rx[i]?).map (·.pool)).getD false || s.creditsHeld v
    s.putLink q { l with
      rx := l.rx.eraseIdx i
      crg := if pool then l.crg else tabMod l.crg v 16 fun n => (n + 1) % 65536
      crgDirty := if pool ∨ l.crgDirty.contains v then l.crgDirty else l.crgDirty ++ [v] }

/-- A message that came from receive storage has left it. -/
def State.rxDone (s : State) (q : Nat) (rx : Option Nat) : State :=
  match rx with
  | some v => s.rxFree q v (·.taken)
  | none => s

/-- A message that waited leaves the receive storage with n further cells of its own. -/
def State.rxDoneN (s : State) (q : Nat) (rx : Option Nat) (n : Nat) : State :=
  (List.range (n + 1)).foldl (fun t _ => t.rxDone q rx) s

/-- The oldest message of sub-channel v not yet taken, marked taken. -/
def State.rxTake (s : State) (q v : Nat) : Option (SlotIn × State) :=
  let l := s.linkSt q
  match l.rx.findIdx? fun c => c.sub == v && !c.taken && (c.slot.kind == .single || c.slot.kind == .head || c.slot.kind == .packed) with
  | none => none
  | some i =>
    match l.rx[i]? with
    | none => none
    | some c => some (c.slot, s.putLink q { l with rx := l.rx.set i { c with taken := true, left := c.slot.more.length } })

/-! ### Admission at an ingress tile -/

/-- Cells a port in LINGER may hold (R293). -/
def State.lingerFull (s : State) (q : Nat) : Bool :=
  s.portLingers q && (match s.portRec q with | some p => decide (p.lingerCap ≤ s.portCells q) | none => true)

/-- A message that may not go to its destination: its port takes none, or lingers at its cap (R292, R293, R311), or it is a
request for a fenced slice (R18). -/
def State.refuses (s : State) (dst : Nat) (m : Msg) : Bool :=
  if 128 ≤ dst then isRequest m && s.acc.fencedSlices.contains (dst - 128)
  else !s.portTakes dst || s.lingerFull dst

/-- A refusal at a lingering port's cap is counted. -/
def State.countRefused (s : State) (dst : Nat) : State :=
  if dst < 128 ∧ s.portTakes dst then s.inc (Reg.PT_LL_LINGER dst) Fld.PT_LL_LINGER.CAP_REFUSED else s

/-- A message refused by its destination is ended at once; none where it may go on. -/
def State.refusedAt (s : State) (dst : Nat) (m : Msg) (src : Nat) : Option State :=
  if s.refuses dst m then some ((s.countRefused dst).endMsg src m) else none

/-- Every message of a unit that its destination refuses is ended (R68). -/
def State.endRefused (s : State) (w : Waiting) : State :=
  (w.msg :: w.more).foldl (fun t m => t.endMsg (tileOf w.place) m) (s.countRefused w.dst)

/-- A multi-cell message arriving at a port. -/
def State.arrivingAt (s : State) (q mc : Nat) : Option Arriving := tabFind s.core.arriving (waitKey q mc)
def State.putArriving (s : State) (q mc : Nat) (a : Option Arriving) : State :=
  { s with core := { s.core with arriving := match a with
    | some x => tabPut s.core.arriving (waitKey q mc) x
    | none => tabDel s.core.arriving (waitKey q mc) } }

/-- A later cell of the multi-cell message m from tile src, in its slot (R71). -/
def laterCell (m : Msg) (port src dst i : Nat) (t : Tier) (slot : Option Nat) (line : Option Line) (last bad : Bool) : Cell :=
  { kind := if last then .tail else .body, msg := m, index := i, src := src, dst := dst, tier := t, line := line,
    tailBad := last && bad, slot := slot, inPort := some port }

/-- Cells of message m that came while it waited, sprayed after its HEAD; index i on, in the slots kept for them. -/
def State.sprayRest (s : State) (m : Msg) (port dst : Nat) (t : Tier) : List (Option Line × Bool) → List Nat → Nat → State
  | [], _, _ => s
  | (l, bad) :: r, k, i =>
    (s.spray (laterCell m port (tileOf port) dst i t k.head? l (decide (i + 1 = m.cells)) bad)).sprayRest m port dst t r k.tail
      (i + 1)

/-- R158: a read without Relaxed Ordering bound for a slice waits behind posted writes of its port to other slices that
came before it and still wait. -/
def State.behindPosted (s : State) (w : Waiting) : Bool :=
  let m := w.msg
  m.io && m.mc == 7 && !m.ro && decide (128 ≤ w.dst)
    && (s.waiting (waitKey w.place 6)).any fun x => decide (x.no < w.no) && decide (128 ≤ x.dst) && x.dst != w.dst

/-- A multi-cell message that a tile holds until its last byte has come: its HEAD arrived while TL_CTL.CT_EN was 0
(R71). -/
def State.heldWhole (s : State) (w : Waiting) : Bool :=
  decide (1 < w.msg.cells) && w.body.isEmpty && (match s.arrivingAt w.place w.msg.mc with
    | some a => !a.ct
    | none => false)

/-- Try to admit a message at its tile: the throttle (R74), its stream, its posted order, room for all its cells.  A
multi-cell message's HEAD is sprayed, with the cells that have come. -/
def State.admitAt (s : State) (w : Waiting) : Option State :=
  let m := w.msg
  let port := w.place
  let tile := tileOf port
  if s.behindPosted w || s.heldWhole w then none
  else if m.cells ≤ 1 ∨ (w.body.isEmpty ∧ (s.arrivingAt port m.mc).isNone) then
    (s.send? tile w.dst m w.more (some port)).map fun t => t.rxDone port w.rx
  else
    let whole := !w.body.isEmpty
    let a := (s.arrivingAt port m.mc).getD { msg := m, dst := w.dst }
    let got := if whole then w.body else a.got
    match s.tryAdmit tile w.dst m with
    | none => none
    | some (t, slots, s1) =>
      let m1 := { m with pbar := s1.barrierFor m tile w.dst }
      let head : Cell := { kind := .head, msg := m1, src := tile, dst := w.dst, tier := t, line := payloadLine m1 0,
                           slot := slots.head?, inPort := some port }
      let s2 := ((s1.spray head).sprayRest m1 port w.dst t got slots.tail 1).notePosted m w.dst
      let s3 := if whole then s2
        else s2.putArriving port m.mc (some { a with
          msg := m1, dst := w.dst, tier := t, admitted := true, next := got.length + 1, got := []
          slots := slots.drop (got.length + 1) })
      some (s3.rxDoneN port w.rx got.length)

/-- A waiting message ends without admission: its receive storage is freed and its later cells discarded. -/
def State.dropWaiting (s : State) (w : Waiting) : State :=
  let m := w.msg
  if m.cells ≤ 1 then s.rxDone w.place w.rx
  else if !w.body.isEmpty then s.rxDoneN w.place w.rx w.body.length
  else
    let a := s.arrivingAt w.place m.mc
    (s.rxDoneN w.place w.rx ((a.map (·.got.length)).getD 0)).putArriving w.place m.mc
      (a.map fun (x : Arriving) => { x with discard := true, got := [] })

/-- A message whose tag or admission must wait joins its class's waiting list (R70). -/
def State.waitAt (s : State) (w : Waiting) : State :=
  let s1 := s.addWaiting w
  let s2 := if s.heldWhole w then s1 else s1.inc (Reg.FL_ADMIT_STALL w.msg.flacon) Fld.FL_ADMIT_STALL.COUNT
  let tile := tileOf w.place
  if s.throttled tile w.msg.cells then s2.inc (Reg.TL_ADMIT tile) Fld.TL_ADMIT.THROTTLED else s2

/-- Admit a message that came in at a place, behind those of its class that wait, or make it wait. -/
def State.enter (s : State) (w : Waiting) : State :=
  if s.refuses w.dst w.msg then (s.endRefused w).dropWaiting w
  else if !(s.waiting (waitKey w.place w.msg.mc)).isEmpty then s.waitAt w
  else
    match s.admitAt { w with no := s.core.waitNo } with
    | some t => t
    | none => s.waitAt w

/-- Give a request its tag and enter it; with no tag free it waits (R66). -/
def State.enterTagged (s : State) (w : Waiting) (need : Nat) (order : List Nat) : State :=
  if !takesTag w.msg then s.enter w else
  match s.takeTag w.msg need order with
  | some (m, t) => t.enter { w with msg := m }
  | none => s.waitAt { w with noTag := true }

/-- ADMISSION_RETRY: the oldest message waiting at a place in a class tries again (R87). -/
def State.retryAt (s : State) (at_ mc : Nat) : State :=
  let k := waitKey at_ mc
  match s.waiting k with
  | [] => s
  | w :: r =>
    let s0 := s.putWaiting k r
    if 128 ≤ at_ then
      match s.send? (64 + (at_ - 128)) w.dst w.msg w.more with
      | some t => t.putWaiting k r
      | none => s
    else
    let w := { w with place := at_ }
    if w.noTag then
      match s0.takeTag w.msg (answersOf w.msg) [] with
      | none => s
      | some (m, t) =>
        match t.admitAt { w with msg := m, noTag := false } with
        | some u => u
        | none => t.putWaiting k ({ w with msg := m, noTag := false } :: r)
    else if s0.refuses w.dst w.msg then (s0.endRefused w).dropWaiting w
    else
      match s0.admitAt w with
      | some t => t
      | none => if s.throttled (tileOf at_) w.msg.cells then s.inc (Reg.TL_ADMIT (tileOf at_)) Fld.TL_ADMIT.THROTTLED else s

/-! ### Packing (R68) -/

/-- A message that may be packed: coherent, without data. -/
def packable (m : Msg) : Bool := !m.io && m.data.isEmpty && decide (m.cells ≤ 1)

/-- Whether two messages may share a PACKED cell. -/
def packMatch (a b : Msg) : Bool :=
  a.mc == b.mc && a.flacon == b.flacon && a.svc == b.svc && a.priv == b.priv && a.epoch == b.epoch && a.uvc == b.uvc

/-- Close one open packed cell: one message is a SINGLE cell. -/
def State.closePack (s : State) (o : PackOpen) : State :=
  match o.msgs with
  | [] => s
  | m :: r => s.enter { msg := m, more := r, dst := o.dst, place := m.port }

/-- A packable message joins an open cell of its tile, which goes when it holds four, or opens one. -/
def State.pack (s : State) (m : Msg) (dst : Nat) : State :=
  let tile := tileOf m.port
  let l := tabGet s.core.pack tile []
  let put (t : State) (l : List PackOpen) : State :=
    { t with core := { t.core with pack := if l.isEmpty then tabDel t.core.pack tile else tabPut t.core.pack tile l } }
  match l.findIdx? fun o => o.dst == dst && (o.msgs.all fun x => packMatch x m) with
  | none => put s (l ++ [{ dst := dst, msgs := [m] }])
  | some i =>
    match l[i]? with
    | none => s
    | some o =>
      if o.msgs.length = 3 then (put s (l.eraseIdx i)).closePack { o with msgs := o.msgs ++ [m] }
      else put s (l.set i { o with msgs := o.msgs ++ [m] })

/-- PACK_WAIT has passed for the tile's oldest open cell. -/
def State.packExpiry (s : State) (tile : Nat) : State :=
  match tabGet s.core.pack tile [] with
  | [] => s
  | o :: r =>
    ({ s with core := { s.core with pack := if r.isEmpty then tabDel s.core.pack tile else tabPut s.core.pack tile r } }).closePack o

/-- Open packed cells of the same stream close ahead of a message that is not packed into them. -/
def State.closePacksFor (s : State) (tile dst mc : Nat) : State :=
  let l := tabGet s.core.pack tile []
  let same (o : PackOpen) : Bool := unitOf o.dst == unitOf dst && (o.msgs.any fun m => m.mc == mc)
  let keep := l.filter fun o => !same o
  let s1 := { s with core := { s.core with pack := if keep.isEmpty then tabDel s.core.pack tile else tabPut s.core.pack tile keep } }
  (l.filter same).foldl (fun t o => t.closePack o) s1

/-- A message passes the ingress observation point of port q, after its lookup; the entry of one of several cells is written
with its tail (R405). -/
def State.silIngress (s : State) (q : Nat) (m : Msg) : State :=
  match s.silEntry 0 q m with
  | none => s
  | some e =>
    if m.cells ≤ 1 then s.silPut e
    else s.putArriving q m.mc ((s.arrivingAt q m.mc).map fun (a : Arriving) => { a with sil := some e })

/-- A checked message is observed, tagged and packed or entered. -/
def State.forward (s : State) (m : Msg) (dst : Nat) (rx : Option Nat) (need : Nat) (order : List Nat) : State :=
  let s1 := s.silIngress m.port m
  if packable m && rx.isNone && s1.on (Reg.TL_CTL (tileOf m.port)) Fld.TL_CTL.PACK_EN
      && !s1.refuses dst m && (s1.waiting (waitKey m.port m.mc)).isEmpty then
    if takesTag m then
      match s1.takeTag m need order with
      | some (m1, t) => t.pack m1 dst
      | none => s1.waitAt { msg := m, dst := dst, place := m.port, noTag := true }
    else s1.pack m dst
  else (s1.closePacksFor (tileOf m.port) dst m.mc).enterTagged { msg := m, dst := dst, place := m.port, rx := rx } need order

/-! ### Lookup -/

/-- A binding of the generation of epoch e that f's port and vPPB have (R217). -/
def State.bindingOfVppb (s : State) (f e q v : Nat) : Option BindingRec :=
  (s.genAt f e).bindings.find? fun b => b.usp == q && b.vppb == v
/-- The upstream port bound to a downstream port and LD. -/
def State.boundUsp (s : State) (f e q ld : Nat) : Option Nat :=
  ((s.genAt f e).bindings.find? fun b => b.dsp == q && b.ld == ld).map (·.usp)

/-- The error answer of a request that was never outstanding: it bears the requester's own tag.  ur: a non-posted I/O
request ends as Unsupported Request, otherwise with Completer Abort. -/
def State.endUnadmitted (s : State) (m : Msg) (ur : Bool := false) : State :=
  if m.io ∧ m.mc = 6 then s
  else if isRequest m then s.endMsg (tileOf m.port) { m with tag := 4096 } ur
  else s

/-- The later cells of a message that ends at ingress are discarded. -/
def State.dropRest (s : State) (m : Msg) : State :=
  if 1 < m.cells then
    s.putArriving m.port m.mc ((s.arrivingAt m.port m.mc).map fun a => { a with discard := true })
  else s

/-- A request refused at ingress (R214, R216): an error answer, posted writes discarded; with a violation report where
one is given. -/
def State.refuse (s : State) (m : Msg) (rx : Option Nat) (report : Option AccessRec) (ur : Bool := false) : State :=
  let s1 := match report with | some r => s.deny m.flacon r | none => s
  ((s1.endUnadmitted m ur).rxDone m.port rx).dropRest m

/-- A message discarded at ingress without an answer. -/
def State.discardIn (s : State) (m : Msg) (rx : Option Nat) : State := (s.rxDone m.port rx).dropRest m

/-! ### Region checks and straddling accesses (R221, R235 to R237) -/

/-- A sub-access of a checked request: the span, as a message of its own, behind a header of the request's length (log
entry 76). -/
def partMsg (m : Msg) (p : Part) : Msg :=
  if p.start = m.addr ∧ p.stop = m.addr + m.len then { m with noSpec := m.noSpec || p.ns } else
  let n := p.stop - p.start
  { m with addr := p.start, len := n, cells := if m.mc = 6 then cellCount m.hdr.length n else m.cells
           noSpec := m.noSpec || p.ns, data := dataSpan m.data (p.start - m.addr) n }

/-- Round a forbidden span of a read out to 128-byte blocks (R236). -/
def poisonSpan (m : Msg) (p : Part) : Nat × Nat :=
  (max m.addr (p.start / 128 * 128), min (m.addr + m.len) ((p.stop + 127) / 128 * 128))

/-- Completions of a read with a forbidden part, in address order: start, stop, poisoned (R236).  Spans that share a
block with a forbidden part lie in the poisoned completion. -/
def readSpans (m : Msg) (parts : List Part) : List (Nat × Nat × Bool) :=
  let bad := (parts.filter fun p => !p.allowed).map (poisonSpan m)
  -- walk the 128-byte blocks, joining neighbours of one kind
  let first := m.addr / 128
  let last := (m.addr + m.len + 127) / 128
  ((List.range (last - first)).foldl (fun (acc : List (Nat × Nat × Bool)) i =>
    let a := max m.addr ((first + i) * 128)
    let b := min (m.addr + m.len) ((first + i + 1) * 128)
    let ep := bad.any fun x => decide (x.1 ≤ a) && decide (a < x.2)
    match acc with
    | (x, y, e) :: r => if e == ep && y == a && (ep || !(parts.any fun p => p.start == a)) then (x, b, e) :: r
        else (a, b, ep) :: acc
    | [] => [(a, b, ep)]) []).reverse

/-- The region check of a request of Flacon f at its tile: the parts it is cut into. -/
def State.checkParts (s : State) (m : Msg) (kind : Nat) (sharedDec : Bool) : List Part :=
  let tile := tileOf m.port
  if m.io then s.partsOf tile m.flacon m.priv (needsOf kind sharedDec) m.addr (m.addr + m.len) (m.len / 64 + 3)
  else s.partsOf tile m.flacon m.priv (needsOf kind sharedDec) (lineOf m.addr) (lineOf m.addr + 64) 2

/-- Messages of one arrival entered in order; the receive storage goes with the last of them. -/
def State.enterAll (s : State) (q : Nat) (rx : Option Nat) : List (Nat × Msg) → State
  | [] => s.rxDone q rx
  | [(d, m)] => s.enter { msg := m, dst := d, place := q, rx := rx }
  | (d, m) :: r => (s.enter { msg := m, dst := d, place := q }).enterAll q rx r

/-- A span of a split read as a message of its own; NO_SPEC where a region it lies in forbids speculation (R223). -/
def spanMsg (m : Msg) (parts : List Part) (e : Nat × Nat × Bool) : Msg :=
  { m with addr := e.1, len := e.2.1 - e.1,
           noSpec := m.noSpec || parts.any fun p => p.ns && decide (p.start < e.2.1) && decide (e.1 < p.stop) }

/-- Enter every part of a straddling access whose part is allowed; the forbidden spans of a read are completed here,
poisoned and all zero. -/
def State.enterParts (s : State) (m : Msg) (rx : Option Nat) (parts : List Part) (dstOf : Msg → Option (Nat × Msg)) : State :=
  if m.mc = 6 then
    let sends := (parts.filter (·.allowed)).filterMap fun p => dstOf (partMsg m p)
    if m.cells ≤ 1 then
      (sends.foldl (fun t _ => t.openAccess m.flacon m.epoch) s).enterAll m.port rx sends
    else
      let s0 := s.rxDone m.port rx
      s0.putArriving m.port m.mc ((s0.arrivingAt m.port m.mc).map fun a => { a with parts := sends, discard := true })
  else
    let spans := readSpans m parts
    match s.takeTag m spans.length (spans.map (·.1)) with
    | none => s.waitAt { msg := m, dst := tileOf m.port * 2, place := m.port, rx := rx, noTag := true, split := true }
    | some (m1, s1) =>
      let s2 := (spans.filter (·.2.2)).foldl (fun t e =>
        t.sendReply (tileOf m.port) { ioCompletion m1 e.1 (e.2.1 - e.1) true false true with
          data := List.replicate ((e.2.1 - e.1 + 63) / 64) 0 }) (s1.openAccess m.flacon m.epoch)
      let good := spans.filter fun e => !e.2.2
      let sends := good.filterMap fun e => dstOf (spanMsg m1 parts e)
      let s3 := (List.range (good.length - sends.length)).foldl (fun t _ => t.respSent m.port m1.tag) s2
      s3.enterAll m.port rx sends

/-! ### The way of a request -/

/-- Where a decoder sends a message: DST and the message as it goes on (R127, R215). -/
def State.decoderDst (s : State) (m : Msg) (d : DecoderRec) : Option (Nat × Msg) :=
  if d.shared then
    (s.homeAt m.flacon m.epoch m.addr).map fun h => (128 + h.slice, { m with slice := some h.slice })
  else
    match decTarget d m.addr with
    | none => none
    | some (t, dpa) =>
      if t.port < 128 then some (t.port, { m with ld := t.ld, dpa := some dpa, dstEid := t.eid })
      else (s.routeTo t.eid m.srcEid (if m.io then none else some (lineOf m.addr))).map fun q => (q, { m with dstEid := t.eid })

/-- ADMISSION_RETRY, where the message at the head of the waiting list may be held by a Decant flip: held it stays; once
released it goes to the devices its window then has (R335). -/
def State.retryWaiting (s : State) (at_ mc : Nat) : State :=
  let k := waitKey at_ mc
  match s.waiting k with
  | [] => s
  | w :: r =>
    let m := w.msg
    if at_ < 128 ∧ w.split then
      -- a read that could not be cut for want of a tag; those behind it keep their order
      if (freeKey s.core.tags m.port).isNone then s else
      match findDecoder (s.genAt m.flacon m.epoch).decoders m.addr with
      | none => s
      | some d =>
        let t := (s.putWaiting k []).enterParts m w.rx (s.checkParts m (kindOf m.io m.op) d.shared) fun x => s.decoderDst x d
        t.putWaiting k (t.waiting k ++ r)
    else if at_ < 128 ∧ isRequest m ∧ s.decantHoldsAccess m then s
    else if at_ < 128 ∧ m.port = at_ ∧ isRequest m ∧ m.dpa.isSome then
      match (findDecoder (s.genAt m.flacon m.epoch).decoders m.addr).bind (s.decoderDst m) with
      | some (d, x) => (s.putWaiting k ({ w with msg := x, dst := d } :: r)).retryAt at_ mc
      | none => s.retryAt at_ mc
    else s.retryAt at_ mc

/-- A request that hits a decoder: the region check, the HOLD of a Decant flip, and on. -/
def State.intoDecoder (s : State) (m : Msg) (d : DecoderRec) (rx : Option Nat) (env : LookupEnv) : State :=
  let kind := kindOf m.io m.op
  if d.shared && !s.geomOk m.flacon then (s.endUnadmitted m |>.rxDone m.port rx).dropRest m
  else
    let free := unchecked m
    let s1 := if free then s else
      s.lookupRegions m.flacon (tileOf m.port) env m.addr (m.addr + if m.io then m.len else 64)
    let parts := if free then [] else s1.checkParts m kind d.shared
    if parts.all (·.allowed) && decide (parts.length ≤ 1 ∨ ¬ m.io) then
      let ns := (parts.any (·.ns)) || !s1.on (Reg.FL_CFG m.flacon) Fld.FL_CFG.TOPNOTE_EN
      match s1.decoderDst { m with noSpec := m.noSpec || ns } d with
      | none => (s1.endUnadmitted m |>.rxDone m.port rx).dropRest m
      | some (dst, m1) =>
        let s2 := s1.openAccess m.flacon m.epoch
        if s2.decantHoldsAccess m1 then
          (s2.silIngress m.port m1).waitAt { msg := m1, dst := dst, place := m1.port, rx := rx, noTag := takesTag m1 }
        else s2.forward m1 dst rx (answersOf m1) []
    else if !m.io then
      s1.denyParts m kind (needsOf kind d.shared) parts |>.refuse m rx none
    else if parts.all (·.allowed) then (s1.silIngress m.port m).enterParts m rx parts fun x => s1.decoderDst x d
    else
      let s2 := s1.denyParts m kind (needsOf kind d.shared) parts
      (s2.silIngress m.port m).enterParts m rx parts fun x => s1.decoderDst x d

/-- What a report says of a request that hits no decoder. -/
def noDecoderRec (m : Msg) : AccessRec := { recOf m (kindOf m.io m.op) 0 with noDecoder := true }

/-- A device's request for the upstream port bound to its port and LD (R217, R306); refused where there is none. -/
def State.toBound (s : State) (p : PortRec) (m : Msg) (rx : Option Nat) : State :=
  match s.boundUsp m.flacon m.epoch p.port m.ld with
  | some u => (s.openAccess m.flacon m.epoch).forward { m with dstEid := s.portEid u } u rx (answersOf m) []
  | none => s.refuse m rx (if m.io then none else some (noDecoderRec m)) true

/-- A request that hits no decoder (R216, R306). -/
def State.noDecoder (s : State) (p : PortRec) (m : Msg) (rx : Option Nat) : State :=
  if !m.io ∧ m.op = Op.BI_CONFLICT then s.refuse m rx none
  else if p.role = .downstream ∧ !p.fabric then s.toBound p m rx
  else s.refuse m rx (some (noDecoderRec m)) true

/-- Requests of a fenced Flacon, in QUARANTINE, or under its containment in DRYDOWN (R368), are ended at ingress (R241
Table 8, R397). -/
def State.contained (s : State) (m : Msg) : Bool :=
  s.quarantined || s.on (Reg.FL_STATUS m.flacon) Fld.FL_STATUS.FENCED

/-- A fabric address from an upstream port's host physical address (R303): none where it forms none. -/
def State.hdmAddr (s : State) (q f a : Nat) : Option Nat :=
  match (tabGet s.std q {}).hdm with
  | none => none
  | some (base, size) =>
    if a < base ∨ base + size ≤ a then none
    else
      let low := ((s.flAcc f).cur.decoders.map (·.base)).foldl (fun (x : Option Nat) b => some (match x with | none => b | some y => min y b)) none
      low.map fun l => a - base + l

/-- A request to a bound vPPB goes to the port and logical device of its binding (R329). -/
def toBinding (m : Msg) (b : BindingRec) (eid : Nat) : Msg := { m with ld := b.ld, dstEid := eid }

/-- A request on a vPPB. -/
def State.lookupVppb (s : State) (p : PortRec) (m : Msg) (rx : Option Nat) (v : Nat) : State :=
  match s.bindingOfVppb m.flacon m.epoch p.port v with
  | some b => (s.openAccess m.flacon m.epoch).forward (toBinding m b (s.portEid b.dsp)) b.dsp rx (answersOf m) []
  | none => s.refuse m rx none true

/-- A request by its address.  CXL.cache traffic of a device goes to a SHARED decoder's home or to its host, never to
another decoder's target (R306). -/
def State.lookupAddr (s : State) (p : PortRec) (m : Msg) (rx : Option Nat) (env : LookupEnv) : State :=
  match findDecoder (s.genAt m.flacon m.epoch).decoders m.addr with
  | some d =>
    if p.protocol = .pcie ∧ p.role = .upstream then s.refuse m rx none true
    else if !p.fabric ∧ p.role = .downstream ∧ !m.io ∧ !d.shared then s.toBound p m rx
    else (if !p.fabric ∧ p.role = .downstream ∧ pulledOp m.io m.op then s.emit (.writePull p.port m.ltag) else s).intoDecoder m d rx env
  | none => s.noDecoder p m rx

/-- A request in transit on a fabric port goes by its route (R215). -/
def State.lookupRoute (s : State) (m : Msg) (rx : Option Nat) : State :=
  match s.routeTo m.dstEid m.srcEid (if m.io then none else some (lineOf m.addr)) with
  | some q => (s.openAccess m.flacon m.epoch).forward m q rx (answersOf m) []
  | none => (s.endUnadmitted m |>.rxDone m.port rx).dropRest m

/-- A request's lookup (R127, R215 to R217). -/
def State.lookup (s : State) (p : PortRec) (m : Msg) (rx : Option Nat) (env : LookupEnv) : State :=
  let own := m.dstEid == 0 || m.dstEid == s.mgmtEid || (s.eidEndpoint m.dstEid).isSome
  if p.fabric ∧ !own then s.lookupRoute m rx
  else match m.vppb with
  | some v => s.lookupVppb p m rx v
  | none => s.lookupAddr p m rx env

/-- A request's way into the switch. -/
def State.request (s : State) (p : PortRec) (m : Msg) (rx : Option Nat) (env : LookupEnv) : State :=
  if p.fabric ∧ (s.flaconRec m.flacon).isNone then
    (((s.endUnadmitted m true).rxDone m.port rx).dropRest m).raiseAt Src.FL_NO_FLACON none (recOf m (kindOf m.io m.op) 0)
  else if s.contained m then s.refuse m rx none
  else if s.ideBlocks p then s.refuse m rx (some (noDecoderRec m)) true
  else if p.protocol = .cxl ∧ p.role = .upstream ∧ !m.io then
    match s.hdmAddr p.port m.flacon m.addr with
    | none =>
      let s1 := (s.set1 (Reg.PT_STD_ERR p.port) Fld.PT_STD_ERR.HDM_UNCOMMITTED).raise
        (srcQuad (quadOf (tileOf p.port)) 21) (some m.flacon)
      s1.refuse m rx none
    | some a => s.lookup p { m with addr := a } rx env
  else s.lookup p m rx env

/-! ### Answers from the link -/

/-- The answer that completes a write whose mirror copy it waited for (R333). -/
def writeAnswer (m : Msg) (home : Nat) : Msg :=
  { (if m.io then ioCompletion m m.addr m.len false false false
     else replyTo m (if m.op = Op.MEM_WR then Op.MEM_CMP else Op.CMP) home) with err := m.err }

/-- An answer to an outbound record of port q: the message it completes, or none where it is stale, stray, or the write
still waits for its other half. -/
def State.closeRecord (s : State) (q : Nat) (m : Msg) : Option Msg × State :=
  let k := tagKey q m.ltag
  match (if m.ltag < 4096 then tabFind s.core.otags k else none) with
  | none => (none, s)
  | some r =>
    let put (t : State) (k : Nat) (x : OutRec) : State :=
      { t with core := { t.core with otags := if x.left = 0 then tabDel t.core.otags k else tabPut t.core.otags k x } }
    if r.dropped then
      (none, (put s k { r with left := r.left - 1 }).inc (Reg.PT_LL_EVENTS q) Fld.PT_LL_EVENTS.STALE)
    else
      let r1 := { r with left := r.left - 1 }
      match r.msg.mirrorOf with
      | some j =>
        let s1 := put s k r1
        match tabFind s1.core.otags j with
        | none => (none, s1)
        | some w =>
          let w1 := { w with left := w.left - 1, msg := { w.msg with err := w.msg.err || m.err } }
          let s2 := put s1 j w1
          if w1.left = 0 then (some (writeAnswer w1.msg s.mgmtEid), s2) else (none, s2)
      | none =>
        if isWrite r.msg && 0 < r1.left then
          (none, put s k { r1 with msg := { r1.msg with err := r1.msg.err || m.err } })
        else
          let out : Msg := { m with
            tag := r.msg.tag, port := r.msg.port, slice := r.msg.slice, flacon := r.msg.flacon, epoch := r.msg.epoch,
            addr := if m.io then m.addr else r.msg.addr, svc := r.msg.svc
            -- a snoop of a device or host bears no tag of this switch: its answer bears the one it came with
            ltag := if r.msg.tag < 4096 then 0 else r.msg.ltag,
            srcEid := if r.msg.mc = 3 then r.msg.dstEid else m.srcEid, dstEid := r.msg.srcEid,
            err := m.err || r.msg.err }
          -- tentative data is followed by its notice, a cancel by plain DATA (R283)
          let more := m.tent || (!m.io && m.op == Op.TN_CANCEL)
          (some out, put s k { r1 with left := r1.left + if more then 1 else 0 })

/-- The class of an I/O completion: that of the request it answers, MC2 where the request returns data (R94). -/
def State.classOfAnswer (s : State) (q : Nat) (m : Msg) : Nat :=
  match (if m.io && m.ltag < 4096 then tabFind s.core.otags (tagKey q m.ltag) else none) with
  | some r => completionClass r.msg
  | none => m.mc

/-- R150: a snoop answer without data, from a port whose WB_DIRTY of the snoop's line is outstanding. -/
def State.rspIWb (s : State) (q : Nat) (m : Msg) : Msg :=
  let line := match (if m.ltag < 4096 then tabFind s.core.otags (tagKey q m.ltag) else none) with
    | some r => lineOf r.msg.addr
    | none => lineOf m.addr
  if m.op = Op.RSP_I ∧ (s.core.tags.any fun e => e.1 / 4096 == q && e.2.op == Op.WB_DIRTY && !e.2.io
      && lineOf e.2.addr == line) then { m with op := Op.RSP_I_WB } else m

/-- A message that closes no record here, or whose requester is gone, is discarded. -/
def State.answerOn (s : State) (q : Nat) (a : Msg) (op : Nat) (rx : Option Nat) : State :=
  match replyDst a with
  | none => s.discardIn { a with port := q } rx
  | some d => (s.silIngress q { a with op := op }).enter { msg := { a with op := op, port := if a.slice.isSome then q else a.port }, dst := d, place := q, rx := rx }

/-- An answer, a snoop answer or a notice arrives on port q: admitted as every message is (R70, R71). -/
def State.answer (s : State) (q : Nat) (m : Msg) (rx : Option Nat) (fabric : Bool) : State :=
  if s.quarantined then s.discardIn m rx
  else if fabric ∧ (s.flaconRec m.flacon).isNone then (s.discardIn m rx).raise Src.FL_NO_FLACON none
  else
    let m0 := if answersSnoop m then s.rspIWb q m else m
    match s.closeRecord q m0 with
    | (none, s1) => s1.discardIn m rx
    | (some a, s1) => s1.answerOn q { a with mc := m.mc } m0.op rx

/-- Whether a device's snoop asks for a line that this switch homes (R129). -/
def State.snoopsShared (s : State) (f a : Nat) : Bool :=
  match findDecoder (s.flAcc f).cur.decoders a with
  | some d => d.shared
  | none => false

/-- Where a snoop goes: by its route from a fabric port (R285), from a device to its bound host (R305), from a host to the
device of its binding (R217). -/
def State.snoopDst (s : State) (p : PortRec) (m : Msg) : Option Nat :=
  if p.fabric then s.routeTo m.dstEid m.srcEid (some (lineOf m.addr))
  else if p.role = .downstream then s.boundUsp m.flacon m.epoch p.port m.ld
  else (m.vppb.bind (s.bindingOfVppb m.flacon m.epoch p.port)).map (·.dsp)

/-- The tile answers a snoop at once: no line. -/
def State.answerSnoop (s : State) (q : Nat) (m : Msg) : State :=
  s.sendReply (tileOf q) { replyTo m Op.RSP_I s.mgmtEid with port := q, tag := 4096, slice := none }

/-- A snoop arrives.  A device's for a line of a SHARED decoder is a fault of the device (R129). -/
def State.snoopIn (s : State) (p : PortRec) (m : Msg) (rx : Option Nat) : State :=
  if s.quarantined ∨ (p.fabric ∧ (s.flaconRec m.flacon).isNone) then
    let s1 := s.discardIn m rx
    if (s.flaconRec m.flacon).isNone then s1.raise Src.FL_NO_FLACON none else s1
  else if !p.fabric ∧ p.role = .downstream ∧ s.snoopsShared m.flacon m.addr then
    ((s.answerSnoop p.port m).discardIn m rx).raiseAt Src.HS_DEV_BISNP (some m.flacon) (recOf m 0 0)
  else
    match s.snoopDst p m with
    | some d => (s.silIngress p.port m).enter { msg := m, dst := d, place := p.port, rx := rx }
    | none => (s.answerSnoop p.port m).discardIn m rx

/-! ### Arrival -/

/-- The EID that a 12-bit port-based routing ID stands for (R301). -/
def State.pbrEid (s : State) (p : Nat) : Nat := (s.mgmtEid &&& 0x3000) ||| p % 4096

/-- The fields the ingress tile sets (R65, R214, R218, R219, R271). -/
def State.stamp (s : State) (p : PortRec) (m : Msg) : Msg :=
  let f := if p.fabric then m.flacon else p.flacon
  let m1 := { m with flacon := f, port := p.port, tag := 4096, slice := none, epoch := s.epochOf f, dpa := none,
                     mirrorOf := none, notice := false, pbar := none, svc := s.serviceOf f m.mc,
                     srcEid := if p.fabric then m.srcEid else s.portEid p.port
                     dstEid := if !p.fabric ∧ s.pbrRuns p.port then s.pbrEid m.dstEid else m.dstEid }
  { m1 with priv := s.privOf p m1 }

/-- Each poisoned message received is counted and reported (R307). -/
def State.notePoison (s : State) (p : PortRec) (m : Msg) : State :=
  if m.poison ∧ !p.fabric then
    ((s.inc (Reg.PT_STD_POISON p.port) Fld.PT_STD_POISON.IN).set1 (Reg.PT_STD_ERR p.port) Fld.PT_STD_ERR.POISON_IN).raiseAt
      (srcQuad (quadOf (tileOf p.port)) 17) (some m.flacon) (recOf m 0 0)
  else s

/-- A message of a device that runs port-based routing whose destination ID stands for no endpoint of the fabric
(R301). -/
def State.pbrOut (s : State) (p : PortRec) (m : Msg) : Bool :=
  let e := s.pbrEid m.dstEid
  !p.fabric && p.role == .downstream && s.pbrRuns p.port
    && !(e == s.mgmtEid || (s.eidEndpoint e).isSome || (s.routeTo e m.srcEid none).isSome)

/-- It is refused, and STD_PBR_RANGE raised. -/
def State.pbrRefuse (s : State) (p : PortRec) (m : Msg) (rx : Option Nat) : State :=
  let s1 := (s.set1 (Reg.PT_STD_ERR p.port) Fld.PT_STD_ERR.PBR_RANGE).raiseAt (srcQuad (quadOf (tileOf p.port)) 19)
    (some m.flacon) (recOf m (kindOf m.io m.op) 0)
  if m.mc = 3 then (s1.answerSnoop p.port m).discardIn m rx
  else s1.refuse m rx (some (noDecoderRec m)) true

/-- A parsed message on port p: an answer, a snoop or a request. -/
def State.parsed (s : State) (p : PortRec) (m : Msg) (rx : Option Nat) (env : LookupEnv) : State :=
  let m := if m.mc = 1 ∨ m.mc = 2 then { m with mc := s.classOfAnswer p.port m } else m
  let s1 := (s.notePoison p m).when (decide (1 < m.cells)) fun t =>
    t.putArriving p.port m.mc (some { msg := m, dst := 0, ct := s.on (Reg.TL_CTL (tileOf p.port)) Fld.TL_CTL.CT_EN })
  if m.mc ≤ 2 ∧ !(m.mc = 0 ∧ !isNotice m) then s1.answer p.port m rx p.fabric
  else if m.mc = 0 then s1.discardIn m rx
  else if s1.pbrOut p m then s1.pbrRefuse p m rx
  else if m.mc = 3 then s1.snoopIn p m rx
  else if answersSnoop m && (p.fabric || p.role == .downstream) && (match tabFind s.core.otags (tagKey p.port m.ltag) with
      | some r => r.msg.mc == 3 && lineOf r.msg.addr == lineOf m.addr | none => false) then
    -- modified data in answer to a snoop: it closes the snoop's record and goes to the slice that sent it
    let (a, s2) := s1.closeRecord p.port m
    match a with
    | some a => s2.answerOn p.port { a with tag := 4096 } m.op rx
    | none => s2.discardIn m rx
  else s1.request p m rx env

/-- An arrival out of receive storage. -/
def fromStore : Arrival → Bool
  | .stored _ => true
  | _ => false

/-- MESSAGE_ARRIVAL (R70).  A message of a port that is not up does not arrive; what receive storage holds goes on. -/
def State.arrive (s : State) (q : Nat) (a : Arrival) (env : LookupEnv) : State :=
  match s.portRec q with
  | none => s
  | some p =>
    if !s.portUp q && !fromStore a then s else
    match a with
    | .stored v =>
      if !p.fabric then s else
      match s.rxTake q v.val with
      | none => s
      | some (sl, s1) =>
        let one (t : State) (m : Msg) (rx : Option Nat) : State := t.parsed p (t.stamp p { m with uvc := v.val % 2 == 1 }) rx env
        sl.more.foldl (fun t m => one t m (some v.val)) (one s1 sl.msg (some v.val))
    | .link m => if p.fabric then s else s.parsed p { s.stamp p m with ltag := m.ltag } none env
    | .cxl c m =>
      if p.fabric ∨ p.protocol ≠ .cxl then s else
      let m0 := { s.stamp p m with ltag := m.ltag, io := false }
      match cxlOpcode c with
      | some op =>
        let m1 := { m0 with op := op, mc := (classOf op).getD 4 }
        s.parsed p { m1 with svc := s.serviceOf m1.flacon m1.mc } none env
      | none =>
        -- a combination not listed: refused on a SHARED line (R304), forwarded as it is elsewhere
        let a := (if p.role = .upstream then s.hdmAddr q m0.flacon m0.addr else some m0.addr).getD m0.addr
        match findDecoder (s.flAcc m0.flacon).cur.decoders a with
        | some d => if d.shared then (s.raiseAt Src.HS_BAD_OP (some m0.flacon) (recOf m0 0 0)).refuse m0 none none
                    else s.parsed p m0 none env
        | none => s.parsed p m0 none env

/-! ### BODY and TAIL cells (R71) -/

/-- A cell of a multi-cell message arrives at port q. -/
def State.bodyCell (s : State) (q mc : Nat) (line : Line) (last bad : Bool) : State :=
  match s.arrivingAt q mc with
  | none => s
  | some a =>
    let fin (t : State) : State :=
      if last then
        let t1 := match a.sil with | some e => t.silPut { e with tailBad := bad } | none => t
        t1.putArriving q mc none
      else t
    if a.discard then
      if last then
        let m := a.msg
        let lines := dataBehind m.hdr.length ((payloadLine m 0).toList ++ a.got.filterMap (·.1) ++ [line])
        let give (x : Msg) : Msg := { x with data := dataSpan lines (x.addr - m.addr) x.len }
        let parts := a.parts.map fun e => (e.1, give e.2)
        -- a part of several cells has come whole
        let enterPart (t : State) (e : Nat × Msg) : State :=
          let later := (List.range (e.2.cells - 1)).map fun i => (payloadLine e.2 (i + 1), false)
          (t.openAccess m.flacon m.epoch).enter { msg := e.2, dst := e.1, place := q, body := later }
        if bad then fin s else parts.foldl enterPart (fin s)
      else if a.parts.isEmpty then s
      else s.putArriving q mc (some { a with got := a.got ++ [(some line, bad)] })
    else if a.admitted then
      let s1 := s.spray (laterCell a.msg q (tileOf q) a.dst a.next a.tier a.slots.head? (some line) last bad)
      -- a message cut short has no use for the slots of the cells that will not come
      let s2 := if last then a.slots.tail.foldl (fun t k => t.giveBack a.tier a.msg.flacon a.dst k) s1 else s1
      fin (s2.putArriving q mc (some { a with next := a.next + 1, slots := a.slots.tail }))
    else
      let pad : List (Option Line × Bool) := List.replicate (if last then a.msg.cells - 2 - a.got.length else 0) (none, true)
      let got := a.got ++ pad ++ [(some line, bad)]
      if !last then s.putArriving q mc (some { a with got := got })
      else
        -- the message has come whole and still waits
        let k := waitKey q mc
        let l := s.waiting k
        match l.reverse.findIdx? fun w => decide (1 < w.msg.cells) && w.body.isEmpty with
        | none => fin s
        | some i =>
          let j := l.length - 1 - i
          fin (match l[j]? with
            | some w => s.putWaiting k (l.set j { w with body := got })
            | none => s)

/-- A body cell of a fabric port comes from its receive storage, which it leaves with its message (R276). -/
def State.storedBody (s : State) (q mc : Nat) : State :=
  let l := s.linkSt q
  match l.rx.findIdx? fun c => c.sub / 2 == mc && !c.taken && (c.slot.kind == .body || c.slot.kind == .tail) with
  | none => s
  | some i =>
    match l.rx[i]?, s.arrivingAt q mc with
    | some c, some a =>
      let s1 := s.putLink q { l with rx := l.rx.set i { c with taken := true } }
      let s2 := if a.admitted ∨ a.discard then s1.rxFree q c.sub (fun x => x.taken && (x.slot.kind == .body || x.slot.kind == .tail))
        else s1
      s2.bodyCell q mc (c.slot.line.getD 0) (c.slot.kind == .tail) c.slot.tailBad
    | some c, none => (s.putLink q { l with rx := l.rx.set i { c with taken := true } }).rxFree q c.sub
        (fun x => x.taken && (x.slot.kind == .body || x.slot.kind == .tail))
    | _, _ => s

end Sys2Proof.Machine
end

