-- ==== Sys2Proof/Machine/Mirror.lean ====
section
/-!
DEFINITION. Machine/Mirror.lean: mirror rings of Sillage (R410) and the policers of R125 and R126.
-/
namespace Sys2Proof.Machine

/-- MIRROR_MBPS of Flacon f: also what its policer gains in a beat, in 1/800 byte. -/
def State.mirrorRate (s : State) (f : Nat) : Nat := ((s.flaconRec f).map (·.mirrorMbps)).getD 0

/-- The bucket of a mirror policer, 4,096 bytes. -/
def mirrorCap : Nat := 4096 * 800

/-- Tokens of Flacon f's mirror policer. -/
def State.mirrorTokens (s : State) (f : Nat) : Nat := tabGet s.sched.mirror f mirrorCap

/-- A beat's refill of every mirror policer. -/
def State.mirrorRefill (s : State) : State :=
  let gain (e : Nat × Nat) : Nat × Nat := (e.1, min mirrorCap (e.2 + s.mirrorRate e.1))
  { s with sched := { s.sched with mirror := s.sched.mirror.map gain } }

/-- The refill of one Topnote policer of a (Flacon, slice) pair. -/
def State.topnoteGain (s : State) (e : Nat × Nat) : Nat × Nat :=
  match s.flaconRec (e.1 / 64) with
  | some r => (e.1, min r.topnoteBurst (e.2 + r.topnoteRate))
  | none => e

/-- Flacon f's 100 beats, counted from its table's going live, have passed (R125). -/
def State.topnoteDue (s : State) (f : Nat) : Bool := decide (tabGet s.sched.topnoteFrom f 0 + 100 ≤ s.beat)

/-- The refill of the Topnote policers of every Flacon whose 100 beats have passed; the next 100 begin (R125). -/
def State.topnoteRefill (s : State) : State :=
  { s with sched := { s.sched with
      topnote := s.sched.topnote.map fun e => if s.topnoteDue (e.1 / 64) then s.topnoteGain e else e
      topnoteFrom := s.flacons.foldl (fun t f => if s.topnoteDue f then tabMod t f 0 (· + 100) else t) s.sched.topnoteFrom } }

/-- log2 of the ring's size: 12 to 30, other values as the nearer bound. -/
def State.mirrorLog (s : State) (f : Nat) : Nat := min 30 (max 12 (s.rd (Reg.FL_MIRROR_CTL f) Fld.FL_MIRROR_CTL.SIZE_LOG2))

/-- An entry that is not mirrored. -/
def State.mirrorDrop (s : State) (f : Nat) : State := s.inc (Reg.FL_MIRROR_PTR f) Fld.FL_MIRROR_PTR.DROPPED

/-- The posted write of one entry, from the tile of its port: policed (R126), checked as kind 0xA at P0, and sent. -/
def State.mirrorSend (s : State) (e : SilEntry) : State :=
  let f := e.flacon
  if s.mirrorTokens f < 32 * 800 then s.mirrorDrop f else
  let s0 : State := { s with sched := { s.sched with mirror := tabPut s.sched.mirror f (s.mirrorTokens f - 32 * 800) } }
  let off := s.rd (Reg.FL_MIRROR_PTR f) Fld.FL_MIRROR_PTR.OFFSET
  let a := s.rd (Reg.FL_MIRROR_BASE f) Fld.FL_MIRROR_BASE.BASE / 4096 * 4096 + off
  let m : Msg := { io := true, mc := 6, op := 0x60, flacon := f, addr := a, len := 32, srcEid := s.mgmtEid, tag := 4096,
                   priv := 0, svc := 2, epoch := s.epochOf f,
                   data := [BitVec.ofNat 512 (e.words.foldr (fun w x => x * 2 ^ 64 + w.toNat) 0)] }
  match findDecoder (s.flAcc f).cur.decoders a with
  | none => (s0.deny f { recOf m 0xA 2 with noDecoder := true }).mirrorDrop f
  | some d =>
    let parts := s0.partsOf (tileOf e.port) f 0 2 a (a + 32) 3
    if !parts.all (·.allowed) then (s0.denyParts m 0xA 2 parts).mirrorDrop f
    else
      match s0.decoderDst m d with
      | none => s0.mirrorDrop f
      | some (dst, x) =>
        let s1 := s0.wr (Reg.FL_MIRROR_PTR f) Fld.FL_MIRROR_PTR.OFFSET ((off + 32) % 2 ^ s.mirrorLog f)
        let s2 := s1.openAccess f m.epoch
        match s2.refusedAt dst x (tileOf e.port) with
        | some t => t
        | none => s2.send (tileOf e.port) dst x

/-- Every entry on its way to a mirror ring goes. -/
def State.mirrorAll (s : State) : State :=
  s.mirrorOut.foldl (fun t e => t.mirrorSend e) { s with mirrorOut := [] }

end Sys2Proof.Machine
end

