-- ==== Sys2Proof/Machine/AccordOps.lean ====
section
/-!
DEFINITION. Machine/AccordOps.lean: the Accord engine's books: marks, staging slots, the reserve, results and aborts
(R185, R192, R207).
-/
namespace Sys2Proof.Machine

/-! Abort codes of R207 Table 7. -/
def Ab.HOST : Nat := 0x01
def Ab.NO_TRACKER : Nat := 0x02
def Ab.PLAIN_WRITE : Nat := 0x03
def Ab.WOUND : Nat := 0x04
def Ab.LINES : Nat := 0x05
def Ab.STAGING : Nat := 0x06
def Ab.MARKS : Nat := 0x07
def Ab.PERMISSION : Nat := 0x08
def Ab.NOT_SHARED : Nat := 0x09
def Ab.NOT_DURABLE : Nat := 0x0A
def Ab.PREP_TIMEOUT : Nat := 0x0B
def Ab.OWNER_LOST : Nat := 0x0C
def Ab.POISON : Nat := 0x0D
def Ab.EPOCH : Nat := 0x0E
def Ab.RECOMPOSE : Nat := 0x0F
def Ab.FENCED : Nat := 0x10
def Ab.LINK_DOWN : Nat := 0x11
def Ab.DRYDOWN : Nat := 0x12
def Ab.QUARANTINE : Nat := 0x13
def Ab.SLICE_LOST : Nat := 0x14
def Ab.ENGINE_OFF : Nat := 0x15
def Ab.WATCH_OFF : Nat := 0x16
def Ab.RESERVE : Nat := 0x17
def Ab.HOME_ERROR : Nat := 0x18

/-- The model's own opcodes of what an alias access asks of a slice: staging a line, reading one.  No cell carries them. -/
def Op.STAGE : Nat := 0x80
def Op.ALIAS_RD : Nat := 0x81

def State.modAcd (s : State) (g : AccordState → AccordState) : State := { s with acd := g s.acd }
def State.accord (s : State) (t : Nat) : Option Accord := tabFind s.acd.trk t
def State.putAccord (s : State) (t : Nat) (a : Accord) : State := s.modAcd fun x => { x with trk := tabPut x.trk t a }
def State.modAccord (s : State) (t : Nat) (g : Accord → Accord) : State :=
  match s.accord t with
  | some a => s.putAccord t (g a)
  | none => s

/-- The Accord a message belongs to, while its tracker still serves it (R194). -/
def State.accordOf (s : State) (m : Msg) : Option (Nat × Accord) :=
  match m.accord with
  | none => none
  | some (t, age) =>
    match s.accord t with
    | some a => if a.age = some age then some (t, a) else none
    | none => none

/-- OPEN, QUEUED or PREPARE. -/
def Accord.unsealed (a : Accord) : Bool := a.ph == .opened || a.ph == .queued || a.ph == .prepare

/-- The class of Flacon f: 0 D0, 1 D1, 2 D2. -/
def State.durability (s : State) (f : Nat) : Nat := ((s.flaconRec f).map (·.durability)).getD 0

/-! ### Marks -/

def Accord.markOn (a : Accord) (line : Nat) : Option Mark := a.marks.find? fun k => k.line == line
def Accord.staged (a : Accord) : List Mark := a.marks.filter (·.staged)

/-- The Accords with a mark on a line of Flacon f. -/
def State.marksOn (s : State) (f line : Nat) : List (Nat × Accord × Mark) :=
  s.acd.trk.filterMap fun e => if e.2.flacon = f then (e.2.markOn line).map fun k => (e.1, e.2, k) else none

/-- A line pinned by an Accord in PREPARE or SEAL (R195). -/
def State.linePinned (s : State) (f line : Nat) : Bool := (s.marksOn f line).any fun e => e.2.2.pinned

/-- Marks of slice n, of Flacon f or of all. -/
def State.sliceMarks (s : State) (n : Nat) (f : Option Nat) : Nat :=
  s.acd.trk.foldl (fun c e =>
    if f.all (· == e.2.flacon) then c + (e.2.marks.filter fun k => k.slice == n).length else c) 0

/-- A set of slice n that holds an entry an Accord's mark pins (R155, R193). -/
def State.setMarked (s : State) (n set tag : Nat) : Bool :=
  s.acd.trk.any fun e => e.2.marks.any fun k => k.slice == n && k.set == set && k.tag == tag

/-- Slices where an Accord holds marks. -/
def Accord.slices (a : Accord) : List Nat := (a.marks.map (·.slice)).eraseDups

/-- LINES of its slot shows its staged lines. -/
def State.showLines (s : State) (t : Nat) : State :=
  match s.accord t with
  | none => s
  | some a =>
    match a.place with
    | none => s
    | some p => s.wr (Reg.EF_SLOT (p / 64) (p % 64)) Fld.EF_SLOT.LINES (a.staged.filter (·.filled)).length

/-! ### Staging slots and the reserve (R192, R198) -/

/-- Staging slots charged to Flacon f. -/
def State.stagedOf (s : State) (f : Nat) : Nat :=
  s.acd.trk.foldl (fun c e =>
    if e.2.flacon = f ∧ e.2.unsealed then c + e.2.staged.length + e.2.recSlots.length else c)
    (s.acd.seals.foldl (fun c x => if x.flacon = f then c + x.lines.length + x.recSlots.length else c) 0)

def State.stageLines (s : State) (f : Nat) : Nat := ((s.flaconRec f).map (·.stageLines)).getD 0

/-- Free slots of the staging pool. -/
def State.stagePool (s : State) : Nat :=
  let own := s.flaconRecs.foldl (fun n r => n + r.stageLines) 0
  let used := s.flaconRecs.foldl (fun n r => n + above (s.stagedOf r.index) r.stageLines) 0
  2097152 - own - used

/-- Slots Flacon f can take now. -/
def State.stageFree (s : State) (f : Nat) : Nat := (s.stageLines f - s.stagedOf f) + s.stagePool

/-- The lowest staging slot that is free and that no held record names (R364). -/
def State.nextSlot (s : State) : Nat :=
  tabGap ((s.acd.seals.flatMap (·.names)).foldl (fun t k => tabPut t k 1) s.acd.stage) 0

/-- n staging slots taken, the lowest free ones, with the state given to each; none where they cannot all be had. -/
def State.takeSlots (s : State) (f : Nat) : List Nat → Option (List Nat × State)
  | [] => some ([], s)
  | st :: r =>
    let k := s.nextSlot
    if s.stageFree f < r.length + 1 ∨ 2097152 ≤ k then none else
    match (s.modAcd fun x => { x with stage := tabPut x.stage k st }).takeSlots f r with
    | some (l, t) => some (k :: l, t)
    | none => none

def State.freeSlots (s : State) (l : List Nat) : State :=
  s.modAcd fun x => { x with stage := l.foldl (fun t k => tabDel t k) x.stage }

/-- RETAIN_RESERVE slots charged to Flacon f. -/
def State.reserveOf (s : State) (f : Nat) : Nat :=
  s.acd.trk.foldl (fun c e => if e.2.flacon = f then c + e.2.charge else c)
    (s.acd.seals.foldl (fun c x => if x.flacon = f then c + x.charge else c) 0)

def State.retainReserve (s : State) (f : Nat) : Nat := ((s.flaconRec f).map (·.retainReserve)).getD 0

/-- Trackers of Flacon f in use. -/
def State.trackersOf (s : State) (f : Nat) : Nat :=
  (s.acd.trk.filter fun e => e.2.flacon == f).length

/-- Slots of a commit record of n lines (R203). -/
def recordSlots (n : Nat) : Nat := 1 + (n - 5 + 7) / 8

/-! ### Results and aborts -/

/-- The slot shows a result (R185): its bit in EF_DONE, and MSI-X vector s where NOTIFY is 1. -/
def State.slotResult (s : State) (place : Option Nat) (state code : Nat) (addr : Option Nat) (notify : Bool) : State :=
  match place with
  | none => s
  | some p =>
    let q := p / 64
    let k := p % 64
    let s1 := (s.wr (Reg.EF_SLOT q k) Fld.EF_SLOT.STATE state).wr (Reg.EF_SLOT q k) Fld.EF_SLOT.CODE code
    let s2 := match addr with | some a => s1.wr (Reg.EF_ABORT q k) Fld.EF_ABORT.ADDR a | none => s1
    let s3 := s2.setBitOf (Reg.EF_DONE q) Fld.EF_DONE.DONE k
    if notify then s3.emit (.engineMsix q k) else s3

/-- An abort is counted, chip-wide and of the Flacon. -/
def State.countAbort (s : State) (f code : Nat) : State :=
  ((s.inc Reg.AC_CNT Fld.AC_CNT.ABORTS).inc (Reg.AC_ABORT_CNT code) Fld.AC_ABORT_CNT.COUNT).inc (Reg.FL_AC_CNT f)
    Fld.FL_AC_CNT.ABORTS

/-- A stray alias TLP (R194): a write is discarded, a read completes with Completer Abort, STRAY is set. -/
def State.strayAlias (s : State) (p : Nat) (w : AliasTlp) : State :=
  let q := p / 64
  let s1 := s.set1 (Reg.EF_SLOT q (p % 64)) Fld.EF_SLOT.STRAY
  if w.write then s1
  else
    let f := (s.portFlacon q).getD 0
    let m : Msg := { io := true, mc := 7, op := 0x20, flacon := f, addr := w.offset, len := w.len, port := q, tag := 4096,
                     ltag := w.ltag, srcEid := s.portEid q, svc := s.serviceOf f 2, epoch := s.epochOf f }
    s1.sendReply (tileOf q) (ioCompletion m w.offset w.len false true false)

/-- The slot's tracker is free, and alias TLPs that wait for it are stray. -/
def State.dropTracker (s : State) (t : Nat) : State :=
  match s.accord t with
  | none => s
  | some a =>
    let s1 := s.modAcd fun x => { x with
      trk := tabDel x.trk t, commitQ := x.commitQ.filter (· != t), readyQ := x.readyQ.filter (· != t) }
    match a.place with
    | none => s1
    | some p =>
      let w := tabGet s1.acd.waits p []
      let s2 := s1.modAcd fun x => { x with slots := tabDel x.slots p, waits := tabDel x.waits p }
      w.foldl (fun u e => u.strayAlias p e) s2

/-- Slices where marks have been released: what waited for them goes on (R207). -/
def State.wakeSlices (s : State) (l : List Nat) : State :=
  if l.isEmpty then s else s.modAcd fun x => { x with wake := (x.wake ++ l).eraseDups }

/-- Abort the Accord of tracker t (R207).  A sealed Accord can no longer fail. -/
def State.abortAccord (s : State) (t code addr : Nat) : State :=
  match s.accord t with
  | none => s
  | some a =>
    if !a.unsealed then s else
    let s1 := s.freeSlots ((a.staged.map (·.slot)) ++ a.recSlots)
    let s2 := match a.epoch with | some e => s1.closeAccess a.flacon e | none => s1
    (((s2.slotResult a.place 7 code (some addr) a.notify).countAbort a.flacon code).dropTracker t).wakeSlices a.slices

/-- Every unsealed Accord that p accepts aborted. -/
def State.abortAll (s : State) (p : Accord → Bool) (code : Nat) : State :=
  (s.acd.trk.filter fun e => e.2.unsealed && p e.2).foldl (fun t e => t.abortAccord e.1 code 0) s

/-- A plain write of a line (R195): every Accord with a mark on it aborts that is in OPEN or QUEUED, or whose PREPARE has not
reached the slice (the slice's input order decides between the two); whether there was one. -/
def State.plainWrite (s : State) (f line : Nat) : Bool × State :=
  let l := (s.marksOn f line).filter fun e => e.2.1.unsealed && !e.2.2.pinned
  (!l.isEmpty, l.foldl (fun t e => t.abortAccord e.1 Ab.PLAIN_WRITE line) s)

/-- R208: the Accords of f in OPEN or QUEUED that hold a mark of an epoch before e. -/
def State.abortEpoch (s : State) (f e : Nat) : State :=
  s.abortAll (fun a => a.flacon == f && (a.ph == .opened || a.ph == .queued) && a.marks.any fun k => epochBefore k.epoch e)
    Ab.EPOCH

/-- A COMMITTED result (R185): the tracker is free, the outcome counted. -/
def State.commitAccord (s : State) (t : Nat) : State :=
  match s.accord t with
  | none => s
  | some a =>
    (((s.slotResult a.place 6 0 none a.notify).inc Reg.AC_CNT Fld.AC_CNT.COMMITS).inc (Reg.FL_AC_CNT a.flacon)
      Fld.FL_AC_CNT.COMMITS).dropTracker t

/-- A line of a sealed Accord has been written, or is lost: its slot and its reserve charge return; with the last line
the record's slots, and a D2 Accord in PERSIST is COMMITTED (R200, R204). -/
def State.sealedEnd (s : State) (seq line : Nat) : State :=
  match s.acd.seals.find? fun x => x.seq == seq with
  | none => s
  | some x =>
    let gone := x.lines.filter fun l => l.line == line
    let left := x.lines.filter fun l => l.line != line
    -- lines that returned MEM_CMP in phase C of a drain are counted (KS_DRAIN_CNT)
    let s0 := if s.md = .drydown ∧ s.rd Reg.KS_DRAIN_STATUS Fld.KS_DRAIN_STATUS.PHASE = 2 then
      s.addTo Reg.KS_DRAIN_CNT Fld.KS_DRAIN_CNT.WRITTEN gone.length else s
    let s1 := s0.freeSlots (gone.map (·.slot))
    if left.isEmpty then
      let s2 := (s1.freeSlots x.recSlots).modAcd fun y => { y with seals := y.seals.filter fun z => z.seq != seq }
      match s2.accord x.tracker with
      | some a => if a.ph = .persist ∧ a.seq = seq then s2.commitAccord x.tracker else s2
      | none => s2
    else s1.modAcd fun y => { y with seals := y.seals.map fun z =>
      if z.seq = seq then { z with lines := left, charge := z.charge - gone.length } else z }

/-- SET and the address of a shared line: the inverse of R130 over the SHARED decoders of a list. -/
def slnAddr (l : List DecoderRec) (sln : Nat) : Option Nat :=
  (sharedDecs l).findSome? fun d =>
    let first := slnOf l d d.base
    if first ≤ sln ∧ sln < first + d.size / 64 then some (d.base + (sln - first) * 64) else none

/-- The SLN of the line with the given slice, set and tag of Flacon r: the inverse of R131 and R132. -/
def slnOfHome (fl : List FlaconRec) (r : FlaconRec) (n set tag : Nat) : Nat :=
  let bits := maskBits r.sliceMask 64
  let k := bits.length
  let z := tag * r.dirSets + (set - setBase fl r.index n)
  let y := z / 64
  let idx := bits.idxOf n
  let g := y * k + (idx + k - fold7 10 y % k) % k
  g * 64 + z % 64

/-- The Flacon that owns a set of slice n (R132). -/
def State.setOwner (s : State) (n set : Nat) : Option FlaconRec :=
  s.flaconRecs.find? fun r => r.sliceMask.testBit n && decide (setBase s.flaconRecs r.index n ≤ set)
    && decide (set < setBase s.flaconRecs r.index n + r.dirSets)

/-- The line address of an entry. -/
def State.entryLine (s : State) (n set tag : Nat) : Nat :=
  match s.setOwner n set with
  | none => 0
  | some r => (slnAddr (s.flAcc r.index).cur.decoders (slnOfHome s.flaconRecs r n set tag)).getD 0

end Sys2Proof.Machine
end

