-- ==== Sys2Proof/Machine/Directory.lean ====
section
/-!
DEFINITION. Machine/Directory.lean: a home slice's directory: entries and copies (R134 to R137), the hot tier (R138,
R139), entry errors (R140), ways and victims (R155, R156), the query (HS_QUERY_ADDR).
-/
namespace Sys2Proof.Machine

def State.slice (s : State) (n : Nat) : SliceState := tabGet s.home n {}
def State.putSlice (s : State) (n : Nat) (x : SliceState) : State := { s with home := tabPut s.home n x }
def State.modSlice (s : State) (n : Nat) (g : SliceState → SliceState) : State := s.putSlice n (g (s.slice n))

/-! ### Entries -/

/-- The way and entry of a tag in a set. -/
def SliceState.entry (x : SliceState) (set tag : Nat) : Option (Nat × DirEnt) :=
  (tabGet x.sets set {}).ways.find? fun e => e.2.tag == tag

/-- The first frame of the hot tier that holds a set: its key. -/
def SliceState.frameOf (x : SliceState) (set : Nat) : Option Nat :=
  (x.frames.find? fun e => decide (e.1 / 8 = set % 512) && e.2.set == set).map (·.1)

/-- A way written: its entry, or I.  The set's frame has changed. -/
def SliceState.putWay (x : SliceState) (set way : Nat) (e : Option DirEnt) : SliceState :=
  let d := tabGet x.sets set {}
  let d1 : DirSet := match e with
    | some v => { ways := tabPut d.ways way v, used := tabPut d.used way (x.tick + 1) }
    | none => { ways := tabDel d.ways way, used := tabDel d.used way }
  { x with
    sets := if d1.ways.isEmpty then tabDel x.sets set else tabPut x.sets set d1
    tick := x.tick + 1
    frames := match x.frameOf set with
      | some k => tabMod x.frames k { set := set } fun (f : Frame) => { f with dirty := true }
      | none => x.frames }

/-- The group bit of an endpoint (R134). -/
def groupOf (eid : Nat) : Nat := eid / 256 % 56

/-- The endpoints a directory entry records (R135, R136): in SG every seen endpoint of a set group. -/
def SliceState.copies (x : SliceState) (e : DirEnt) : List Nat :=
  if e.st = 5 then (x.seen.map (·.1)).filter fun i => e.groups.testBit (groupOf i)
  else if e.st = 6 then e.ptrs.take 1
  else e.ptrs.take e.st

/-- An endpoint is recorded for Flacon f (R137). -/
def SliceState.see (x : SliceState) (eid f : Nat) : SliceState :=
  { x with seen := if (tabFind x.seen eid).isSome then x.seen else tabPut x.seen eid f }

/-- An entry of shared copies with one more sharer (R136). -/
def addSharer (e : DirEnt) (eid : Nat) : DirEnt :=
  if e.st = 5 then { e with groups := setBitAt e.groups (groupOf eid) }
  else if e.st = 4 then
    { st := 5, tag := e.tag, groups := (e.ptrs.take 4 ++ [eid]).foldl (fun g i => setBitAt g (groupOf i)) 0 }
  else { e with st := e.st + 1, ptrs := e.ptrs.take e.st ++ [eid] }

/-- The entry without one sharer: none when it was the last. -/
def dropSharer (e : DirEnt) (eid : Nat) : Option DirEnt :=
  if e.st = 5 then some e
  else if e.st = 6 then none
  else if e.st = 1 then none
  else some { e with st := e.st - 1, ptrs := (e.ptrs.take e.st).erase eid }

/-! ### Pins, frames (R138, R139, R155) -/

/-- Whether a tracker holds a line of slice n's set and tag. -/
def SliceState.held? (x : SliceState) (set tag : Nat) : Bool :=
  x.trackers.any fun t => t.ph != .granted && t.ph != .between && t.set == set && t.tag == tag

/-- An entry is pinned while a tracker holds its line or an Accord marks it. -/
def State.entryPinned (s : State) (n set tag : Nat) : Bool := (s.slice n).held? set tag || s.setMarked n set tag

/-- A frame holds a pinned entry. -/
def State.framePinned (s : State) (n set : Nat) : Bool :=
  (tabGet (s.slice n).sets set {}).ways.any fun e => s.entryPinned n set e.2.tag

/-- The least recently used value of a list of (number, date), lowest number first among equals. -/
def oldest : List (Nat × Nat) → Option Nat
  | [] => none
  | (k, d) :: r => some ((r.foldl (fun (b : Nat × Nat) e => if e.2 < b.2 then e else b) (k, d)).1)

/-- The frame of a set's group to fill: the least recently used without a pinned entry; none where all are pinned. -/
def State.frameFor (s : State) (n set : Nat) : Option Nat :=
  let x := s.slice n
  oldest ((List.range 8).filterMap fun i =>
    let k := set % 512 * 8 + i
    match tabFind x.frames k with
    | none => some (k, 0)
    | some f => if s.framePinned n f.set then none else some (k, f.used + 1))

/-- A lookup of a set in the hot tier: hit or miss, counted; a hit dates its frame. -/
def State.lookHot (s : State) (n set : Nat) : Bool × State :=
  let x := s.slice n
  match x.frameOf set with
  | some k =>
    (true, (s.inc (Reg.HS_HOT n) Fld.HS_HOT.HITS).putSlice n { x with
      tick := x.tick + 1
      frames := tabMod x.frames k { set := set } fun (f : Frame) => { f with used := x.tick + 1 } })
  | none => (false, s.inc (Reg.HS_HOT n) Fld.HS_HOT.MISSES)

/-- A backing set read into a frame: its ways start equally old (R138). -/
def State.fillFrame (s : State) (n set k : Nat) : State :=
  s.modSlice n fun x =>
    let d := tabGet x.sets set {}
    { x with
      tick := x.tick + 1
      frames := tabPut x.frames k { set := set, used := x.tick + 1 }
      sets := if d.ways.isEmpty then x.sets else tabPut x.sets set { d with used := [] } }

/-! ### Entry errors (R140) -/

/-- What a read of a set shows: a reserved STATE is an uncorrectable entry error (R135). -/
def SliceState.eccOf (x : SliceState) (set : Nat) (e : EntryEcc) : EntryEcc :=
  if (tabGet x.sets set {}).ways.any fun w => decide (6 < w.2.st) then .uncorrectable else e

/-- What an entry's ECC check finds; line: the line read for, which the capture shows (R165). -/
def State.dirEcc (s : State) (n set : Nat) (e : EntryEcc) (line : Nat) : State :=
  let own := (s.setOwner n set).map (·.index)
  let rec_ : AccessRec := { addr := line }
  match (s.slice n).eccOf set e with
  | .good => s
  | .corrected =>
    ((s.set1 (Reg.HS_ERR n) Fld.HS_ERR.DIR_CE).inc (Reg.HS_DIR_CE_CNT n) Fld.HS_DIR_CE_CNT.COUNT).raiseAt (srcSlice n 0) own rec_
  | .uncorrectable =>
    let x := s.slice n
    ((s.set1 (Reg.HS_ERR n) Fld.HS_ERR.DIR_UE).putSlice n { x with
      bad := if x.bad.contains set then x.bad else x.bad ++ [set] }).raiseAt (srcSlice n 1) own rec_

/-! ### Ways (R156) -/

/-- A way of a set that no entry uses and no tracker has taken. -/
def SliceState.freeWay (x : SliceState) (set : Nat) : Option Nat :=
  let d := tabGet x.sets set {}
  firstBelow 16 fun w => (tabFind d.ways w).isNone && !(x.trackers.any fun t => t.set == set && t.way == some w)

/-- The order in which victims are chosen: S1, S2 to S4, SG, A. -/
def victimRank (e : DirEnt) : Nat :=
  if e.st = 1 then 0 else if e.st ≤ 4 then 1 else if e.st = 5 then 2 else 3

/-- The victim of a full set: its way and entry. -/
def State.victim (s : State) (n set : Nat) : Option (Nat × DirEnt) :=
  let d := tabGet (s.slice n).sets set {}
  let l := d.ways.filter fun e => !s.entryPinned n set e.2.tag
  ([0, 1, 2, 3] : List Nat).findSome? fun r =>
    match oldest ((l.filter fun e => victimRank e.2 == r).map fun e => (e.1, tabGet d.used e.1 0)) with
    | none => none
    | some w => (tabFind d.ways w).map fun e => (w, e)

/-! ### The query -/

/-- Entry bits [87:32]: pointers, or the groups (R134). -/
def sharerBits (e : DirEnt) : Nat :=
  if e.st = 5 then e.groups % 2 ^ 56
  else (e.ptrs.take (if e.st = 6 then 1 else e.st)).foldr (fun p x => x * 2 ^ 14 + p % 2 ^ 14) 0

/-- An entry as its 96-bit word, the same in either tier (R134 Table 1): STATE, TAG, the pointers or groups, and the check
bits over the rest, by a code that the specification leaves to the chip. -/
def entryWord (e : DirEnt) : BitVec 96 :=
  let w : BitVec 88 := BitVec.ofNat 88 (e.st % 16 + e.tag % 2 ^ 28 * 2 ^ 4 + sharerBits e * 2 ^ 32)
  Config.dirEcc w ++ w

/-- A way's word in its set: of a free way STATE 0. -/
def wayWord (d : DirSet) (w : Nat) : BitVec 96 := entryWord ((tabFind d.ways w).getD { st := 0, tag := 0 })

/-- A backing set: 192 bytes, 16 ways of 12 bytes (R138). -/
def setWords (d : DirSet) : List (BitVec 96) := (List.range 16).map (wayWord d)

/-- Where set number set of slice n lies in the backing store (R15, R138): its Keep channel, and its offset in the slice's
24 MiB share of the channel's directory partition. -/
def backingPlace (n set : Nat) : Nat × Nat := (sliceChannel n, set * 192)

/-- HS_QUERY_ADDR.GO at slice n. -/
def State.dirQuery (s : State) (n : Nat) : State :=
  let a := lineOf (s.rd (Reg.HS_QUERY_ADDR n) Fld.HS_QUERY_ADDR.ADDR)
  let r := Reg.HS_QUERY_RESULT n
  let s0 := ((s.setReg r 0).setReg (Reg.HS_QUERY_SHARERS n) 0).set1 r Fld.HS_QUERY_RESULT.DONE
  let hit := s.flaconRecs.findSome? fun f =>
    match findDecoder (s.flAcc f.index).cur.decoders a with
    | some d => if d.shared then some (f, d) else none
    | none => none
  match hit with
  | none => s0.set1 r Fld.HS_QUERY_RESULT.NOT_SHARED
  | some (f, d) =>
    let l := (s.flAcc f.index).cur.decoders
    let bits := maskBits f.sliceMask 64
    if bits.isEmpty then s0.set1 r Fld.HS_QUERY_RESULT.NO_GEOMETRY else
    let g := slnOf l d a / 64
    let idx := (g % bits.length + fold7 10 (g / bits.length)) % bits.length
    let wrong := (bits[idx]?).getD 0 != n
    let s1 := s0.wrB r Fld.HS_QUERY_RESULT.WRONG_SLICE wrong
    if !geometryOk f l then s1.set1 r Fld.HS_QUERY_RESULT.NO_GEOMETRY
    else
      let h := homeOf s.flaconRecs f (slnOf l d a)
      let s2 := (s1.wr r Fld.HS_QUERY_RESULT.SET h.set).wr r Fld.HS_QUERY_RESULT.TAG h.tag
      if wrong then s2 else
      let x := s.slice n
      let s3 := (s2.wrB r Fld.HS_QUERY_RESULT.HOT (x.frameOf h.set).isSome).wrB r Fld.HS_QUERY_RESULT.WRITE_PEND
        (x.pend.any fun w => w.line == a)
      match x.entry h.set h.tag with
      | none => s3
      | some (w, e) =>
        ((((s3.set1 r Fld.HS_QUERY_RESULT.HIT).wr r Fld.HS_QUERY_RESULT.STATE e.st).wr r Fld.HS_QUERY_RESULT.WAY w).wrB
          r Fld.HS_QUERY_RESULT.PINNED (s.entryPinned n h.set h.tag)).wr (Reg.HS_QUERY_SHARERS n)
          Fld.HS_QUERY_SHARERS.SHARERS (sharerBits e)

end Sys2Proof.Machine
end

