-- ==== Sys2Proof/Machine/Home.lean ====
section
/-!
DEFINITION. Machine/Home.lean: a home slice at work: what it sends, its memory reads and writes (R147, R148), snoops
(R85, R137, R152, R160), Topnotes (R166 to R170), grants (R147 Table 6, R149) and conflict lists (R144).
-/
namespace Sys2Proof.Machine

/-! ### Sending -/

/-- A message of slice n toward a port or a slice, ended at once where the port takes none. -/
def State.sliceSend (s : State) (n dst : Nat) (m : Msg) : State :=
  match s.refusedAt dst m (64 + n) with
  | some t => t
  | none => s.send (64 + n) dst m

/-- An answer of slice n to its requester's port. -/
def State.sliceReply (s : State) (n : Nat) (m : Msg) : State :=
  if m.port < 128 then
    (if s.portTakes m.port then s.send (64 + n) m.port m
     else if m.mc = 1 ∨ m.mc = 2 then s.respSent m.port m.tag else s)
  else s

/-- The answers that fail a request. -/
def State.failRequest (s : State) (n : Nat) (m : Msg) : State :=
  if m.op = Op.STAGE then
    match s.accordOf m with
    | some (t, _) => (s.abortAccord t Ab.HOME_ERROR (lineOf m.addr))
    | none => s
  else if m.op = Op.ALIAS_RD then s.sliceReply n { ioCompletion m m.addr m.len true false true with slice := none }
  else if m.io ∧ m.mc = 6 then s.endPosted m
  else if m.io then s.sliceReply n { errCompletion m false with slice := none }
  else (errReplies m s.mgmtEid).foldl (fun t r => t.sliceReply n { r with slice := none }) s

/-- The address of the target of a shared line, its EID, LD and DPA: where MEM_RD and MEM_WR go (R147). -/
def State.memTarget (s : State) (f e line : Nat) : Option (Nat × DecTarget × Nat) :=
  match findDecoder (s.genAt f e).decoders line with
  | none => none
  | some d =>
    match decTarget d line with
    | none => none
    | some (t, dpa) =>
      if t.port < 128 then some (t.port, t, dpa)
      else (s.routeTo t.eid s.mgmtEid (some line)).map fun q => (q, t, dpa)

/-- A message addressed to a device of a decoder's target. -/
def toDevice (m : Msg) (t : DecTarget) (dpa : Nat) : Msg := { m with dstEid := t.eid, ld := t.ld, dpa := some dpa }

/-- A memory request of slice n for a line; with no way to its target it ends in error at once. -/
def State.memSend (s : State) (n : Nat) (m : Msg) : State :=
  match s.memTarget m.flacon m.epoch m.addr with
  | none => (errReplies m s.mgmtEid).foldl (fun t r => t.sendReply (64 + n) r) s
  | some (q, t, dpa) => s.sliceSend n q (toDevice m t dpa)

/-- MEM_RD of a tracker. -/
def State.memRead (s : State) (n : Nat) (t : Tracker) : State :=
  s.memSend n { mc := 4, op := Op.MEM_RD, flacon := t.flacon, addr := t.line, srcEid := s.mgmtEid, tag := t.id,
                epoch := t.req.epoch, svc := s.serviceOf t.flacon 4, slice := some n }

/-! ### Trackers -/

def SliceState.tracker (x : SliceState) (id : Nat) : Option Tracker := x.trackers.find? fun t => t.id == id
def State.tracker (s : State) (n id : Nat) : Option Tracker := (s.slice n).tracker id
def State.putTracker (s : State) (n : Nat) (t : Tracker) : State :=
  s.modSlice n fun x => { x with trackers := x.trackers.map fun u => if u.id = t.id then t else u }
def State.dropTrk (s : State) (n id : Nat) : State :=
  s.modSlice n fun x => { x with trackers := x.trackers.filter fun u => u.id != id }

/-- The tracker that holds a line. -/
def State.holder (s : State) (n f line : Nat) : Option Tracker :=
  (s.slice n).trackers.find? fun t => t.line == line && t.flacon == f && t.ph != .granted && t.ph != .between

/-! ### Writes to memory (R148) -/

/-- The MEM_WR of a write-pending line. -/
def State.issueWrite (s : State) (n : Nat) (w : WritePend) : State :=
  s.memSend n { mc := 5, op := Op.MEM_WR, flacon := w.flacon, addr := w.line, srcEid := s.mgmtEid, epoch := w.epoch,
                svc := s.serviceOf w.flacon 5, poison := w.poison, data := [w.data], slice := some n }

/-- A write joins: issued at once, or after the write of its line that is pending. -/
def State.addWrite (s : State) (n : Nat) (w : WritePend) : State :=
  let x := s.slice n
  if x.pend.any fun v => v.line == w.line && v.flacon == w.flacon then s.putSlice n { x with later := x.later ++ [w] }
  else (s.putSlice n { x with pend := x.pend ++ [w] }).issueWrite n w

/-- A lost line is written to memory poisoned, under an epoch; its data is a free value (assumption 2). -/
def State.addPoison (s : State) (n line f epoch : Nat) : State :=
  let g := s.free 512
  g.2.addWrite n { line := line, flacon := f, epoch := epoch, data := g.1, poison := true }

/-- The value a read of a write-pending line is served with: the newest write's (R148). -/
def State.pendValue (s : State) (n f line : Nat) : Option (Line × Bool) :=
  let x := s.slice n
  let mine (w : WritePend) : Bool := w.line == line && w.flacon == f
  match (x.pend.filter mine ++ x.later.filter mine).getLast? with
  | some w => some (w.data, w.poison)
  | none => none

/-! ### Snoops -/

/-- A snoop message of slice n. -/
def snoopMsg (home n f line eid op epoch svc : Nat) (reserve : Bool) : Msg :=
  { mc := 3, op := op, flacon := f, addr := line, srcEid := home, dstEid := eid, epoch := epoch, svc := svc,
    slice := some n, tee := reserve, tag := 4096 }

/-- Whether a snoop must be held (R85, R137, R152): no record, no reserve cell where it takes one, or a grant to its
endpoint whose TX_DONE has not come. -/
def State.mustHold (s : State) (n : Nat) (m : Msg) : Bool :=
  let x := s.slice n
  decide (2048 ≤ x.snoops.length) || (m.tee && decide (256 ≤ s.wbUsed n)) || x.notices.contains (m.addr, m.dstEid)

/-- Send one snoop, or hold it.  One whose endpoint has no route is answered RSP_I_LOST (R160). -/
def State.snoop (s : State) (n : Nat) (m : Msg) : State :=
  if s.mustHold n m then s.modSlice n fun x => { x with held := x.held ++ [m] }
  else
    let way := s.routeTo m.dstEid s.mgmtEid (some m.addr)
    let s1 := (s.modSlice n fun x => { x with snoops := x.snoops ++
      [{ line := m.addr, flacon := m.flacon, eid := m.dstEid, reserve := m.tee, owner := m.tee, port := way }] }).when m.tee
      fun t => t.wbTake n
    let out := { m with tee := false }
    match way with
    | some q => s1.sliceSend n q out
    | none => s1.endMsg (64 + n) out

/-- Held snoops tried again, in order. -/
def State.retryHeld (s : State) (n : Nat) : State :=
  let l := (s.slice n).held
  l.foldl (fun t m => t.snoop n m) (s.modSlice n fun x => { x with held := [] })

/-- Snoops of a line to a list of endpoints; owner: the recorded owner, whose snoop may return data. -/
def State.snoops (s : State) (n f line op epoch : Nat) (l : List Nat) (owner : Option Nat) : State :=
  l.foldl (fun t e => t.snoop n (snoopMsg t.mgmtEid n f line e op epoch (t.serviceOf f 3) (owner == some e))) s

/-! ### Topnotes -/

/-- Whether a coherent read qualifies but for its token (R166); DRYDOWN issues none (R181). -/
def State.topnoteFit (s : State) (n : Nat) (m : Msg) (handoff : Bool) : Bool :=
  readsData m.op && !m.io && !m.noSpec && !handoff && s.on (Reg.FL_CFG m.flacon) Fld.FL_CFG.TOPNOTE_EN
  && s.on (Reg.HS_TN_CTL n) Fld.HS_TN_CTL.EN && (s.pendValue n m.flacon (lineOf m.addr)).isNone && s.md != .drydown
  && !s.on (Reg.FL_STATUS m.flacon) Fld.FL_STATUS.AFFECTED

/-- Tokens of the policer of Flacon f at slice n: full until first used (R125). -/
def State.tokens (s : State) (f n : Nat) : Nat :=
  tabGet s.sched.topnote (f * 64 + n) (((s.flaconRec f).map (·.topnoteBurst)).getD 0)

def State.setTokens (s : State) (f n k : Nat) : State :=
  { s with sched := { s.sched with topnote := tabPut s.sched.topnote (f * 64 + n) k } }

/-- The Topnote policers of Flacons whose tables go live are full, and their 100 beats begin (R125). -/
def State.topnoteStart (s : State) (l : List Nat) : State :=
  { s with sched := { s.sched with
      topnote := s.sched.topnote.filter fun e => !l.contains (e.1 / 64)
      topnoteFrom := l.foldl (fun t f => tabPut t f s.beat) s.sched.topnoteFrom } }

/-- The notice for a tracker's tentative data (R170, R171). -/
def State.notice (s : State) (n : Nat) (t : Tracker) (confirm : Bool) : State :=
  let m := { replyTo t.req (if confirm then Op.TN_CONFIRM else Op.TN_CANCEL) s.mgmtEid with slice := none, addr := t.line }
  let s1 := (s.putTracker n { t with tentSent := false }).sliceReply n { m with mc := 0, svc := s.serviceOf t.flacon 0 }
  if confirm then s1 else s1.inc (Reg.HS_TN_OUT n) Fld.HS_TN_OUT.CANCEL_SENT

/-- Tentative data known wrong is cancelled. -/
def State.cancelTent (s : State) (n id : Nat) : State :=
  match s.tracker n id with
  | some t => if t.tentSent then s.notice n t false else s
  | none => s

/-- The DATA cell of a tracker's line, as its requester gets it. -/
def State.dataMsg (s : State) (t : Tracker) (v : Line × Bool) : Msg :=
  { replyTo t.req Op.DATA s.mgmtEid with slice := none, addr := t.line, data := [v.1], poison := v.2,
                                              svc := s.serviceOf t.flacon 2 }

/-- Topnote data before the grant (R169): sent tentative where it finds room, else kept. -/
def State.sendTent (s : State) (n : Nat) (t : Tracker) (v : Line × Bool) : State :=
  let m := { s.dataMsg t v with tent := true }
  if t.req.port < 128 ∧ s.portTakes t.req.port then
    match (if (s.waiting (waitKey (128 + n) 2)).isEmpty then s.send? (64 + n) t.req.port m [] else none) with
    | some u => (u.putTracker n { t with tentSent := true }).inc (Reg.HS_TN_OUT n) Fld.HS_TN_OUT.TENT_SENT
    | none => s.inc (Reg.HS_TN_HOME n) Fld.HS_TN_HOME.HELD_HOME
  else s

/-! ### What Table 6 asks of a request -/

/-- The opcode an I/O request acts by at a line: RD_CUR for a read, WR_FULL otherwise (R158). -/
def homeOp (m : Msg) : Nat := if m.io then (if kindOf true m.op = 3 then Op.RD_CUR else Op.WR_FULL) else m.op

/-- The span of line k that an I/O or alias request touches: first byte and end within the line. -/
def spanIn (m : Msg) (line : Nat) : Nat × Nat := (max m.addr line - line, min (m.addr + m.len) (line + 64) - line)

/-- Whether a request writes every byte of the line. -/
def wholeLine (m : Msg) (line : Nat) : Bool :=
  if m.io then kindOf true m.op == 4 && spanIn m line == (0, 64) else m.be == BitVec.allOnes 64

/-- The snoops of Table 6: endpoints and opcode, and the owner among them. -/
def snoopPlan (op : Nat) (watch : Bool) (e : Option DirEnt) (copies : List Nat) (r : Nat) : List Nat × Nat × Option Nat :=
  match e with
  | none => ([], 0, none)
  | some e =>
    let owner := if e.st = 6 then e.ptrs[0]? else none
    let others := copies.filter (· != r)
    if op = Op.RD_SHARED then
      match owner with
      | some o => if o = r then ([], 0, none) else ([o], Op.SNP_DATA, owner)
      | none => ([], 0, none)
    else if op = Op.RD_OWN ∨ op = Op.OWN_NODATA then (others, Op.SNP_INV, if owner == some r then none else owner)
    else if op = Op.RD_CUR then (match owner with | some o => ([o], Op.SNP_CUR, owner) | none => ([], 0, none))
    else if op = Op.ALIAS_RD then
      (match owner with | some o => ([o], if watch then Op.SNP_DATA else Op.SNP_CUR, owner) | none => ([], 0, none))
    else if op = Op.STAGE then (match owner with | some o => ([o], Op.SNP_DATA, owner) | none => ([], 0, none))
    else if op = Op.WR_FULL then (copies, Op.SNP_INV, owner)
    else ([], 0, none)

/-- Whether the grant needs the line's value. -/
def needsValue (m : Msg) (line : Nat) (e : Option DirEnt) (copies : List Nat) : Bool :=
  let op := homeOp m
  if op = Op.OWN_NODATA then !(copies.contains m.srcEid && (e.any fun v => decide (v.st ≤ 5)))
  else if op = Op.WR_FULL ∨ op = Op.STAGE then !wholeLine m line
  else op == Op.RD_SHARED || op == Op.RD_OWN || op == Op.RD_CUR || op == Op.ALIAS_RD

/-- Whether a request allocates an entry out of I (R147). -/
def allocates (op : Nat) : Bool := op == Op.RD_SHARED || op == Op.RD_OWN || op == Op.OWN_NODATA

/-! ### Bytes of a line -/

/-- Mask of the bits of bytes a to b - 1. -/
def byteMask (a b : Nat) : Line := BitVec.ofNat 512 (2 ^ (8 * b) - 2 ^ (8 * a))

/-- Mask of the bits of the bytes a byte enable names. -/
def beMask (be : BitVec 64) : Line :=
  BitVec.ofNat 512 ((List.range 64).foldl (fun x i => if be.getLsbD i then x + 0xFF * 2 ^ (8 * i) else x) 0)

/-- New bytes laid over old ones. -/
def overlay (old new mask : Line) : Line := (old &&& ~~~mask) ||| (new &&& mask)


/-- The part of an I/O payload that falls into a line, at its place. -/
def payloadAt (m : Msg) (line : Nat) : Line :=
  let x := payloadNat m.data
  if m.addr ≤ line then BitVec.ofNat 512 (x / 2 ^ (8 * (line - m.addr)) % 2 ^ 512)
  else BitVec.ofNat 512 (x * 2 ^ (8 * (m.addr - line)) % 2 ^ 512)

/-- The new value of an atomic operand of n bytes: FetchAdd, Swap, or Compare and Swap (whose payload holds the compare
value and then the swap value). -/
def atomicNew (op n old x : Nat) : Nat :=
  let w := 2 ^ (8 * n)
  if op % 32 = 0x0C then (old + x) % w
  else if op % 32 = 0x0D then x % w
  else if old = x % w then x / w % w else old

/-! ### Grants (R147, R149) -/

/-- A grant: its GO cell, marked for notice toward a device's cache (R152), with its TX_DONE awaited. -/
def State.sendGo (s : State) (n : Nat) (t : Tracker) (op : Nat) : State :=
  let dev := match s.portRec t.req.port with | some p => !p.fabric && p.role == .downstream | none => false
  let notice := dev && (op == Op.GO_S || op == Op.GO_E || op == Op.GO_I)
  let m := { replyTo t.req op s.mgmtEid with addr := t.line, svc := s.serviceOf t.flacon 1 }
  let s1 := if notice then s.modSlice n fun x => { x with notices := x.notices ++ [(t.line, t.req.srcEid)] } else s
  s1.sliceReply n { m with notice := notice, slice := if notice then some n else none }

/-- The grant's data: nothing more where tentative data is confirmed by it. -/
def State.sendData (s : State) (n : Nat) (t : Tracker) (v : Line × Bool) : State :=
  if t.tentSent then
    if t.ownerData.isSome then (s.notice n t false).sliceReply n (s.dataMsg t v) else s.notice n t true
  else s.sliceReply n (s.dataMsg t v)

/-- The line released: the tracker stays only for a memory read that is out (Table 4). -/
def State.releaseTrk (s : State) (n id : Nat) : State :=
  match s.tracker n id with
  | none => s
  | some t => if t.memOut then s.putTracker n { t with ph := .granted, way := none, waits := [] } else s.dropTrk n id

/-- The line's entry set by a grant. -/
def State.setEntry (s : State) (n : Nat) (t : Tracker) (e : Option DirEnt) : State :=
  let x := s.slice n
  match x.entry t.set t.tag, t.way with
  | some (w, _), _ => s.putSlice n (x.putWay t.set w e)
  | none, some w => s.putSlice n (x.putWay t.set w e)
  | none, none => s

/-- A WritePend of a tracker's request. -/
def pendOf (t : Tracker) (v : Line) (poison full : Bool) : WritePend :=
  { line := t.line, flacon := t.flacon, epoch := t.req.epoch, data := v, poison := poison, answer := some { t.req with dpa := none }, full := full,
    cell := t.cell }

/-- The entry after RD_SHARED (Table 6). -/
def afterShared (t : Tracker) (e : Option DirEnt) (copies : List Nat) : DirEnt :=
  let r := t.req.srcEid
  match e with
  | none => { st := 1, tag := t.tag, ptrs := [r] }
  | some v =>
    if v.st = 6 then
      (match v.ptrs[0]? with
       | some o => if o ≠ r ∧ t.ownerKeeps then { st := 2, tag := t.tag, ptrs := [o, r] } else { st := 1, tag := t.tag, ptrs := [r] }
       | none => { st := 1, tag := t.tag, ptrs := [r] })
    else if copies.contains r then v else addSharer v r

/-- The entry after a snoop that left the owner with at most a shared copy (R190). -/
def afterOwner (t : Tracker) (e : Option DirEnt) : Option DirEnt :=
  match e with
  | none => none
  | some v =>
    if v.st ≠ 6 then some v
    else if t.ownerKeeps then some { st := 1, tag := t.tag, ptrs := v.ptrs.take 1 } else none

/-- A staging fill or a watched alias read has its value (R190, R191): defined with the Accords, given to the slice as
the effect it has on the mark. -/
def State.fillMark (s : State) (m : Msg) (line : Nat) (v : Line × Bool) : State :=
  match s.accordOf m with
  | none => s
  | some (k, a) =>
    if v.2 then s.abortAccord k Ab.POISON line
    else
      (s.putAccord k { a with ready := a.ready + 1, marks := a.marks.map fun x =>
        if x.line = line then { x with filled := true, data := overlay v.1 x.data (beMask x.be) } else x }).showLines k

/-- The effect of a tracker's grant, all its conditions met, with its value. -/
def State.grantEffect (s : State) (n : Nat) (t : Tracker) (v : Line × Bool) : State :=
  let x := s.slice n
  let e := (x.entry t.set t.tag).map (·.2)
  let copies := match e with | some d => x.copies d | none => []
  let r := t.req.srcEid
  let op := homeOp t.req
  let see (u : State) : State := u.modSlice n fun y => y.see r t.flacon
  if t.req.op = Op.STAGE then (s.setEntry n t (afterOwner t e)).fillMark t.req t.line v
  else if t.req.op = Op.ALIAS_RD then
    let keep := match s.accordOf t.req with
      | some (_, a) => if a.watch then s.setEntry n t (afterOwner t e) else s
      | none => s
    keep.sliceReply n { ioCompletion t.req t.req.addr t.req.len true false v.2 with
      slice := none, data := [v.1 >>> (8 * (t.req.addr - t.line))] }
  else if t.req.io then
    let k := kindOf true t.req.op
    if k = 3 then s
    else if k = 4 then
      let (a, b) := spanIn t.req t.line
      let w := overlay v.1 (payloadAt t.req t.line) (byteMask a b)
      (s.setEntry n t none).addWrite n { pendOf t w (t.req.poison || v.2) false with cell := none }
    else
      let (a, _) := spanIn t.req t.line
      let len := if t.req.op % 32 = 0x0E then t.req.len / 2 else t.req.len
      let old := v.1.toNat / 2 ^ (8 * a) % 2 ^ (8 * len)
      let w := overlay v.1 (BitVec.ofNat 512 (atomicNew t.req.op len old (payloadNat t.req.data) * 2 ^ (8 * a)))
        (byteMask a (a + len))
      let s1 := (s.setEntry n t none).addWrite n { pendOf t w v.2 false with answer := none, cell := none }
      s1.sliceReply n { ioCompletion t.req t.req.addr len true false v.2 with
        slice := none, data := [BitVec.ofNat 512 old] }
  else if op = Op.RD_SHARED then
    (see (s.setEntry n t (some (afterShared t e copies)))).sendGo n t Op.GO_S |>.sendData n t v
  else if op = Op.RD_OWN then
    ((see (s.setEntry n t (some { st := 6, tag := t.tag, ptrs := [r] }))).sendGo n t Op.GO_E).sendData n t v
  else if op = Op.OWN_NODATA then
    let s1 := (see (s.setEntry n t (some { st := 6, tag := t.tag, ptrs := [r] }))).sendGo n t Op.GO_E
    if t.needMem then s1.sendData n t v else s1
  else if op = Op.RD_CUR then (s.sendGo n t Op.GO_I).sendData n t v
  else if op = Op.WR_FULL then
    let w := if wholeLine t.req t.line then (t.req.data[0]?).getD 0 else overlay v.1 ((t.req.data[0]?).getD 0) (beMask t.req.be)
    (s.setEntry n t none).addWrite n (pendOf t w (t.req.poison || (v.2 && !wholeLine t.req t.line)) true)
  else if op = Op.EVICT_CLEAN then
    let s1 := match e with
      | some d => if copies.contains r && d.st != 5 then s.setEntry n t (dropSharer d r) else s
      | none => s
    s1.sliceReply n { replyTo t.req Op.CMP s.mgmtEid with slice := none }
  else s

/-- A writeback of the line's recorded owner, or a stray one (Table 6, R154). -/
def State.ownWriteback (s : State) (n : Nat) (t : Tracker) : State :=
  let x := s.slice n
  let e := (x.entry t.set t.tag).map (·.2)
  let r := t.req.srcEid
  let mine := match e with | some d => d.st == 6 && d.ptrs[0]? == some r | none => false
  if mine then
    let next : Option DirEnt := if t.req.op = Op.WB_SNP_S then some { st := 1, tag := t.tag, ptrs := [r] } else none
    (s.setEntry n t next).addWrite n (pendOf t ((t.req.data[0]?).getD 0) t.req.poison false)
  else
    let s1 := match t.cell with | some c => s.freeCell c | none => s
    let s2 := ((s1.set1 (Reg.HS_ERR n) Fld.HS_ERR.STRAY_WB).inc (Reg.HS_RACE n) Fld.HS_RACE.STRAY_WB).raiseAt
      Src.HS_STRAY_WB (some t.flacon) (recOf t.req 0 0)
    s2.sliceReply n { replyTo t.req Op.CMP s.mgmtEid with slice := none }

/-- Whether an opcode is a writeback. -/
def isWriteback (op : Nat) : Bool := op == Op.WB_DIRTY || op == Op.WB_SNP_I || op == Op.WB_SNP_S

/-- A plain write of R195. -/
def plainWriteReq (m : Msg) : Bool :=
  if m.io then kindOf true m.op != 3
  else m.op == Op.RD_OWN || m.op == Op.OWN_NODATA || m.op == Op.WR_FULL || isWriteback m.op

end Sys2Proof.Machine
end

