-- ==== Sys2Proof/Machine/Slice.lean ====
section
/-!
DEFINITION. Machine/Slice.lean: how a slice takes a request (R142 to R147, R156), the marks alias accesses place (R190 to
R196), and what it does when data, answers, writebacks and completions reach it (R148 to R154, R160).
-/
namespace Sys2Proof.Machine

/-- The line a request is at: of an I/O request the line it has come to (R158). -/
def reqLine (m : Msg) : Nat := if m.io then m.dpa.getD (lineOf m.addr) else lineOf m.addr

/-- An alias access of an Accord that its tracker still serves. -/
def isAlias (m : Msg) : Bool := m.op == Op.STAGE || m.op == Op.ALIAS_RD

def State.freeCell? (s : State) (c : Option Cell) : State :=
  match c with
  | some c => s.freeCell c
  | none => s

/-! ### Starting a request -/

/-- A tracker enters the victim-overflow queue (R156).  While its 8 places are taken (R143) the tracker stays where it is: it
waits for a way of its set, or has the set read again. -/
def State.enterVoq (s : State) (n : Nat) (t : Tracker) : State :=
  let x := s.slice n
  if t.ph ≠ .voq ∧ 8 ≤ (x.trackers.filter fun u => u.ph == .voq).length then
    s.putTracker n { t with ph := if (x.frameOf t.set).isSome then .way else .reading }
  else
  let s1 := (s.putTracker n { t with ph := .voq }).set1 (Reg.HS_ERR n) Fld.HS_ERR.ALL_PINNED
  (s1.inc (Reg.HS_VOQ_CNT n) Fld.HS_VOQ_CNT.WAITS).raiseAt Src.HS_ALL_PINNED (some t.flacon) (recOf t.req 0 0)

/-- The directory result of a tracker: its way, its snoops, its memory read (R147, R156). -/
def State.act (s : State) (n id : Nat) : State :=
  match s.tracker n id with
  | none => s
  | some t =>
    let x := s.slice n
    if x.bad.contains t.set then (((s.cancelTent n id).freeCell? t.cell).failRequest n t.req).releaseTrk n id else
    let e := (x.entry t.set t.tag).map (·.2)
    let copies := match e with | some d => x.copies d | none => []
    let op := homeOp t.req
    let need := allocates op && e.isNone && t.way.isNone
    match need, x.freeWay t.set with
    | true, none =>
      (match s.victim n t.set with
       | none => s.enterVoq n t
       | some (_, v) =>
         -- the victim's line takes a tracker of its own
         if 1024 ≤ x.trackers.length then s.putTracker n { t with ph := .way } else
         let line := s.entryLine n t.set v.tag
         let c := x.copies v
         let owner := if v.st = 6 then v.ptrs[0]? else none
         let ev : Tracker := { id := x.nextId, line := line, set := t.set, tag := v.tag, flacon := t.flacon,
                               req := { flacon := t.flacon, addr := line, epoch := t.req.epoch }, ph := .active, evict := true,
                               waits := c, owner := owner }
         let s1 := s.putTracker n { t with ph := .way }
         let s2 := s1.modSlice n fun y => { y with trackers := y.trackers ++ [ev], nextId := y.nextId + 1 }
         let s3 := (s2.inc (Reg.HS_EVICT n) Fld.HS_EVICT.EVICTIONS).addTo (Reg.HS_EVICT n) Fld.HS_EVICT.SNOOPS c.length
         s3.snoops n t.flacon line Op.SNP_INV t.req.epoch c owner)
    | true, some w => s.putTracker n { t with way := some w, ph := .way }
    | false, _ =>
      let watch := match s.accordOf t.req with | some (_, a) => a.watch | none => false
      let (l, sop, owner) := snoopPlan op watch e copies t.req.srcEid
      let val := needsValue t.req t.line e copies
      let pv := s.pendValue n t.flacon t.line
      let t1 := { t with ph := .active, waits := l, owner := owner, needMem := val,
                         memData := if val ∧ t.memData.isNone ∧ !t.memOut then pv else t.memData }
      let t2 := { t1 with memOut := t1.memOut || (val && t1.memData.isNone) }
      let s1 := s.putTracker n t2
      let s2 := if t2.memOut ∧ !t.memOut then s1.memRead n t2 else s1
      s2.snoops n t.flacon t.line sop t.req.epoch l owner

/-- A request whose line is free starts: it fails where its Flacon or set cannot be served (R133, R140, R163), and
otherwise takes a tracker, speculates, and looks the directory up. -/
def State.startReq (s : State) (n : Nat) (m : Msg) (cell : Option Cell) (handoff : Bool) : State :=
  let line := reqLine m
  match s.homeAt m.flacon m.epoch line with
  | none => (s.freeCell? cell).failRequest n m
  | some h =>
    let x := s.slice n
    if h.slice ≠ n ∨ x.bad.contains h.set ∨ !s.geomOk m.flacon ∨ s.on (Reg.FL_STATUS m.flacon) Fld.FL_STATUS.FENCED then
      (s.freeCell? cell).failRequest n m
    else
      let (hit, s0) := if plainWriteReq m && !isWriteback m.op then s.plainWrite m.flacon line else (false, s)
      let s1 := s0.when hit fun t => t.inc (Reg.HS_AC n) Fld.HS_AC.PLAIN_ABORTS
      let t : Tracker := { id := x.nextId, line := line, set := h.set, tag := h.tag, flacon := m.flacon, req := m, cell := cell }
      let fit := s1.topnoteFit n m handoff
      let go := fit && decide (0 < s1.tokens m.flacon n)
      let s2 := if go then (s1.setTokens m.flacon n (s1.tokens m.flacon n - 1)).inc (Reg.HS_TN_CNT n) Fld.HS_TN_CNT.ISSUED
        else if fit then s1.inc (Reg.HS_TN_CNT n) Fld.HS_TN_CNT.DENIED else s1
      let t1 := { t with topnote := go, memOut := go }
      let s3 := s2.modSlice n fun y => { y with trackers := y.trackers ++ [t1], nextId := y.nextId + 1 }
      let s4 := if go then s3.memRead n t1 else s3
      if handoff then s4.act n t1.id
      else
        match s4.lookHot n h.set with
        | (true, u) => u.act n t1.id
        | (false, u) => if (u.frameFor n h.set).isNone then u.enterVoq n t1 else u

/-! ### Marks (R190 to R196) -/

/-- How an alias access stands with the marks on its line. -/
inductive MarkOutcome where
  /-- Its Accord is gone or has aborted: it is over, but for a read's answer. -/
  | ended
  /-- It waits for a seal's flip. -/
  | wait
  /-- It goes on. -/
  | go
  deriving DecidableEq, Repr

/-- Marks of other Accords on a line with which a mark of Accord t conflicts (R196). -/
def State.rivals (s : State) (t f line : Nat) (stage : Bool) : List (Nat × Accord × Mark) :=
  (s.marksOn f line).filter fun e => e.1 != t && (stage || e.2.2.staged)

/-- A seal's flip holds an alias access back (R196). -/
def State.sealHolds (s : State) (m : Msg) : Bool :=
  isAlias m && (match s.accordOf m with
    | some (t, a) => (s.rivals t a.flacon (lineOf m.addr) (m.op == Op.STAGE)).any fun e => e.2.1.ph == .sealing
    | none => false)

/-- Settle conflicts by age (R196 Table 5). -/
def State.settleMarks (s : State) (m : Msg) (stage : Bool) (line : Nat) : MarkOutcome × State :=
  match s.accordOf m with
  | none => (.ended, s)
  | some (t, a) =>
    let l := s.rivals t a.flacon line stage
    if l.any fun e => e.2.1.ph == .sealing then (.wait, s)
    else if l.any fun e => decide ((e.2.1.age.getD 0) < (a.age.getD 0)) then (.ended, s.abortAccord t Ab.WOUND line)
    else (.go, l.foldl (fun u e => u.abortAccord e.1 Ab.WOUND line) s)

/-- Place the mark of an alias access whose conflicts are settled; false where a limit aborted its Accord (R192,
R205). -/
def State.placeMark (s : State) (n : Nat) (m : Msg) (h : Home) (stage : Bool) : Bool × State :=
  let line := lineOf m.addr
  match s.accordOf m with
  | none => (false, s)
  | some (t, a) =>
    let l := (s.genAt a.flacon m.epoch).decoders
    let d := findDecoder l line
    let durable := d.any fun x => x.persistent || x.gpfProtected
    let new : Mark := { line := line, sln := match d with | some x => slnOf l x line | none => 0, slice := n, set := h.set,
                        tag := h.tag, staged := stage, epoch := m.epoch }
    if stage && s.durability a.flacon == 2 && !durable then (false, s.abortAccord t Ab.NOT_DURABLE line)
    else
      match a.markOn line with
      | none =>
        if 4096 ≤ a.marks.length then (false, s.abortAccord t Ab.LINES line)
        else if 4 * (((s.flaconRec a.flacon).map (·.accordTrackers)).getD 0) ≤ s.sliceMarks n (some a.flacon) then
          (false, s.abortAccord t Ab.MARKS line)
        else if !stage then (true, s.putAccord t { a with marks := a.marks ++ [new] })
        else
          match s.takeSlots a.flacon [1] with
          | some ([k], u) => (true, u.putAccord t { a with marks := a.marks ++ [{ new with slot := k }] })
          | _ => (false, s.abortAccord t Ab.STAGING line)
      | some k =>
        if !stage || k.staged then (true, s)
        else
          match s.takeSlots a.flacon [1] with
          | some ([j], u) => (true, u.putAccord t { a with marks := a.marks.map fun (x : Mark) =>
              if x.line = line then { x with staged := true, slot := j, epoch := m.epoch } else x })
          | _ => (false, s.abortAccord t Ab.STAGING line)

/-- One stage of the tracker is over: its stage notice is to return (R198). -/
def State.stageOver (s : State) (m : Msg) : State :=
  match s.accordOf m with
  | some (t, a) => s.putAccord t { a with ready := a.ready + 1 }
  | none => s

/-- A request joins its line's conflict list (R144); a plain one that waits on a pin is counted (R195). -/
def State.joinConflict (s : State) (n : Nat) (m : Msg) (cell : Option Cell) : State :=
  let s1 := s.modSlice n fun x => { x with conflict := x.conflict ++ [{ msg := m, cell := cell }] }
  if s.linePinned m.flacon (reqLine m) && !isAlias m then s1.inc (Reg.HS_AC n) Fld.HS_AC.PIN_WAITS else s1

/-- A first access to the line: its mark, then its fill. -/
def State.markAndStart (s : State) (n : Nat) (m : Msg) (handoff stage : Bool) : State :=
  let line := lineOf m.addr
  let marks := match s.accordOf m with
    | some (_, a) => stage || (a.watch && (a.ph == .opened || a.ph == .queued))
    | none => false
  if !marks then s.startReq n m none handoff else
  match s.settleMarks m stage line with
  | (.wait, u) => u.joinConflict n m none
  | (.ended, u) => if stage then u else u.sliceReply n { ioCompletion m m.addr m.len true false true with slice := none }
  | (.go, u) =>
    match u.homeAt m.flacon m.epoch line with
    | none => u.failRequest n m
    | some h =>
      match u.placeMark n m h stage with
      | (false, v) => if stage then v else v.sliceReply n { ioCompletion m m.addr m.len true false true with slice := none }
      | (true, v) =>
        let v1 := match v.accordOf m with
          | some (t, a) => if stage then v.putAccord t { a with marks := a.marks.map fun (x : Mark) =>
              if x.line = line then { x with be := m.be, data := (m.data[0]?).getD 0 } else x } else v
          | none => v
        v1.startReq n m none handoff

/-- An alias access at a free line (R190, R191). -/
def State.startAlias (s : State) (n : Nat) (m : Msg) (handoff : Bool) : State :=
  let line := lineOf m.addr
  let stage := m.op == Op.STAGE
  match s.accordOf m with
  | none => if stage then s else s.startReq n m none handoff
  | some (t, a) =>
    match a.markOn line with
    | some k =>
      if k.staged && k.filled then
        if m.err && (!stage || m.be != BitVec.allOnes 64) then
          -- the slot's data is uncorrectable: before its seal the Accord aborts (R207)
          let s1 := s.abortAccord t Ab.POISON line
          if stage then s1 else s1.sliceReply n { ioCompletion m m.addr m.len true false true with slice := none }
        else if stage then
          ((s.putAccord t { a with ready := a.ready + 1, marks := a.marks.map fun (x : Mark) =>
            if x.line = line then { x with data := overlay x.data ((m.data[0]?).getD 0) (beMask m.be) } else x }).showLines t)
        else s.sliceReply n { ioCompletion m m.addr m.len true false false with
          slice := none, data := [k.data >>> (8 * (m.addr - line))] }
      else s.markAndStart n m handoff stage
    | none => s.markAndStart n m handoff stage
/-- Whether a pin of an Accord holds a request on its line back: every plain one, and an alias read of another Accord's line
that places no mark (R191, R202); what places a mark settles the conflict by age instead (R196). -/
def State.pinHolds (s : State) (m : Msg) : Bool :=
  if !isAlias m then s.linePinned m.flacon (reqLine m)
  else match s.accordOf m with
    | none => s.linePinned m.flacon (lineOf m.addr)
    | some (t, a) =>
      let marks := m.op == Op.STAGE || (a.watch && (a.ph == .opened || a.ph == .queued))
      !marks && (a.markOn (lineOf m.addr)).isNone && s.linePinned m.flacon (lineOf m.addr)

/-- A request reaches the head of the slice's input: it joins a held or pinned line's conflict list, or starts. -/
def State.takeReq (s : State) (n : Nat) (m : Msg) (cell : Option Cell) : State :=
  let line := reqLine m
  if (s.holder n m.flacon line).isSome then s.joinConflict n m cell
  else if s.pinHolds m then s.joinConflict n m cell
  else if isAlias m then s.startAlias n m false
  else s.startReq n m cell false

/-! ### Progress inside the slice -/

/-- A tracker whose conditions of R149 are met. -/
def Tracker.ready (t : Tracker) : Bool :=
  t.ph == .active && t.waits.isEmpty && (!t.needMem || t.memData.isSome || t.ownerData.isSome)

/-- What an I/O request carries on to its next line, if it has one. -/
def nextLine (m : Msg) (line : Nat) (v : Line × Bool) : Option Msg :=
  if m.io ∧ line + 64 < m.addr + m.len ∧ kindOf true m.op ≠ 5 then
    some (if kindOf true m.op = 3 then { m with dpa := some (line + 64), data := m.data ++ [v.1], poison := m.poison || v.2 }
          else { m with dpa := some (line + 64) })
  else none

/-- The completion of an I/O read whose last line has been read (R158). -/
def State.endRead (s : State) (n : Nat) (m : Msg) (v : Line × Bool) : State :=
  let x := payloadNat (m.data ++ [v.1]) / 2 ^ (8 * (m.addr % 64))
  let d : List Line := (List.range ((m.len + 63) / 64)).map fun i => BitVec.ofNat 512 (x / 2 ^ (512 * i) % 2 ^ 512)
  s.sliceReply n { ioCompletion m m.addr m.len true false (m.poison || v.2) with slice := none, data := d }

/-- An I/O request goes on to its next line; with that line held and the conflict store full it waits, holding no line
(R143). -/
def State.nextStart (s : State) (n : Nat) (m : Msg) : State :=
  let x := s.slice n
  if 2048 ≤ x.conflict.length ∧ ((s.holder n m.flacon (reqLine m)).isSome ∨ s.linePinned m.flacon (reqLine m)) then
    s.modSlice n fun y => { y with
      trackers := y.trackers ++ [{ id := y.nextId, line := reqLine m, set := 0, tag := 0, flacon := m.flacon, req := m, ph := .between }]
      nextId := y.nextId + 1 }
  else s.takeReq n m none

/-- A ready tracker grants, releases its line, and an I/O request goes on to its next line. -/
def State.grant (s : State) (n : Nat) (t : Tracker) : State :=
  if t.evict then (s.setEntry n t none).dropTrk n t.id
  else
    let v := (match t.ownerData with | some d => some d | none => t.memData).getD (0, false)
    let s1 := if isWriteback t.req.op && !t.req.io then
        (let u := s.ownWriteback n t
         let (hit, w) := if (s.slice n).pend.length + (s.slice n).later.length < (u.slice n).pend.length + (u.slice n).later.length
           then u.plainWrite t.flacon t.line else (false, u)
         w.when hit fun y => y.inc (Reg.HS_AC n) Fld.HS_AC.PLAIN_ABORTS)
      else s.grantEffect n t v
    let s2 := s1.releaseTrk n t.id
    match nextLine t.req t.line v with
    | some m => s2.nextStart n m
    | none => if t.req.io ∧ kindOf true t.req.op = 3 ∧ t.req.op ≠ Op.ALIAS_RD then s2.endRead n t.req v else s2

/-! ### Answers (R151, R160) -/

/-- RSP_I_LOST from the recorded owner (R160). -/
def State.ownerLost (s : State) (n : Nat) (t : Tracker) : State :=
  let s1 := ((s.set1 (Reg.HS_ERR n) Fld.HS_ERR.OWNER_LOST).inc (Reg.HS_RACE n) Fld.HS_RACE.OWNER_LOST).raiseAt (srcSlice n 2)
    (some t.flacon) { recOf t.req 0 0 with addr := t.line }
  match s1.accordOf t.req with
  | some (k, _) =>
    (s1.abortAccord k Ab.OWNER_LOST t.line).addPoison n t.line t.flacon t.req.epoch
  | none => s1.addPoison n t.line t.flacon t.req.epoch

/-- A snoop answer of endpoint eid for a line (R151). -/
def State.snoopAnswer (s : State) (n f op line eid : Nat) : State :=
  let x := s.slice n
  match x.snoops.find? fun r => r.line == line && r.eid == eid && r.flacon == f with
  | none => s.inc (Reg.HS_ANS_CNT n) Fld.HS_ANS_CNT.STRAY
  | some r =>
    let drop (u : State) : State :=
      ((u.modSlice n fun y => { y with snoops := y.snoops.erase r }).when (r.reserve && !r.charged) fun v =>
        v.wbReturn n).retryHeld n
    let ht := s.holder n f line
    match (match ht with | some t => if t.waits.contains eid then some t else none | none => none) with
    | some t =>
      if op = Op.RSP_I_WB ∧ t.owner = some eid then s.putTracker n { t with wbComing := true }
      else
        let t1 := { t with waits := t.waits.erase eid, ownerKeeps := t.ownerKeeps || (op == Op.RSP_S && t.owner == some eid) }
        if op = Op.RSP_I_LOST ∧ t.owner = some eid then
          let g := s.free 512
          let t2 := { t1 with lost := true, ownerData := some (g.1, true) }
          (((drop g.2).putTracker n t2).cancelTent n t.id).ownerLost n t2
        else
          let s1 := (drop s).putTracker n t1
          if op = Op.RSP_I_LOST then s1.inc (Reg.HS_ANS_CNT n) Fld.HS_ANS_CNT.SHARER_LOST else s1
    | none =>
      match (s.marksOn f line).find? fun e => e.2.2.waits.contains eid with
      | some (k, a, mark) =>
        if op = Op.RSP_I_WB ∧ mark.owner = some eid then s
        else
          let s1 := drop s
          if op = Op.RSP_I_LOST ∧ mark.owner = some eid then
            let s2 := ((s1.set1 (Reg.HS_ERR n) Fld.HS_ERR.OWNER_LOST).inc (Reg.HS_RACE n) Fld.HS_RACE.OWNER_LOST).raiseAt
              (srcSlice n 2) (some f) { addr := line }
            (s2.abortAccord k Ab.OWNER_LOST line).addPoison n line f mark.epoch
          else
            let s2 := if op = Op.RSP_I_LOST then s1.inc (Reg.HS_ANS_CNT n) Fld.HS_ANS_CNT.SHARER_LOST else s1
            s2.putAccord k { a with marks := a.marks.map fun y =>
              if y.line = line then { y with waits := y.waits.erase eid } else y }
      | none => (drop s).inc (Reg.HS_RACE n) Fld.HS_RACE.LATE_ANSWER

/-! ### Writebacks (R151, R154, R199) -/

/-- A stray writeback (R154): its data discarded, CMP, HS_STRAY_WB. -/
def State.strayWb (s : State) (n : Nat) (m : Msg) : State :=
  (((s.set1 (Reg.HS_ERR n) Fld.HS_ERR.STRAY_WB).inc (Reg.HS_RACE n) Fld.HS_RACE.STRAY_WB).raiseAt
    Src.HS_STRAY_WB (some m.flacon) (recOf m 0 0)).sliceReply n { replyTo m Op.CMP s.mgmtEid with slice := none }

/-- The cell of a writeback whose data is not wanted is given back, and the reserve cell it was charged to. -/
def State.dropWb (s : State) (n : Nat) (cell : Option Cell) (resv : Bool) : State :=
  (s.freeCell? cell).when resv fun u => u.wbReturn n

/-- A writeback reaches slice n, in the cell that carries it. -/
def State.writeback (s : State) (n : Nat) (m : Msg) (cell : Option Cell) : State :=
  let line := lineOf m.addr
  let eid := m.srcEid
  let x := s.slice n
  let snp := m.op != Op.WB_DIRTY
  let v : Line × Bool := ((m.data[0]?).getD 0, m.poison)
  let resv := match cell with | some c => c.tier == .writeback | none => false
  let w : WritePend := { line := line, flacon := m.flacon, epoch := m.epoch, data := v.1, poison := v.2, answer := some m,
                         reserve := resv, cell := cell }
  let rec? := x.snoops.find? fun r => r.line == line && r.eid == eid && r.flacon == m.flacon
  let isHeld := x.held.any fun h => h.addr == line && h.dstEid == eid && h.flacon == m.flacon
  -- a snoop answered by this writeback has its record closed; its reserve cell returns with the write
  let close (u : State) : State := match rec? with
    | some r => ((u.modSlice n fun y => { y with snoops := y.snoops.erase r }).when (r.reserve && !resv && !r.charged) fun z =>
        z.wbReturn n).retryHeld n
    | none => u
  -- a late answer to a snoop of the owner repeats data already taken; one of a sharer is stray
  let late (u : State) : State :=
    let u1 := (close u).dropWb n cell resv
    if rec?.any (·.owner) then u1 else u1.strayWb n m
  match s.holder n m.flacon line with
  | some t =>
    if t.owner = some eid ∧ t.ownerData.isNone ∧ (rec?.isSome ∨ isHeld) then
      let t1 := { t with ownerData := some v, waits := t.waits.erase eid, ownerKeeps := m.op == Op.WB_SNP_S }
      let s1 := (if snp || t.wbComing then close s else
        s.modSlice n fun y => { y with
          -- a snoop that was still held has no more to ask
          held := y.held.filter fun h => !(h.addr == line && h.dstEid == eid && h.flacon == m.flacon)
          snoops := y.snoops.map fun r =>
            if r.line = line ∧ r.eid = eid ∧ r.flacon = m.flacon then { r with reserve := r.reserve && !resv, taken := true }
            else r })
      let s2 := (s1.putTracker n t1).cancelTent n t.id
      if homeOp t.req = Op.WR_FULL ∧ wholeLine t.req line ∧ !t.evict then
        (s2.dropWb n cell resv).sliceReply n { replyTo m Op.CMP s.mgmtEid with slice := none }
      else s2.addWrite n w
    else if snp && rec?.isSome then
      (late s).when (t.waits.contains eid) fun u => u.putTracker n { t with waits := t.waits.erase eid }
    else s.joinConflict n m cell
  | none =>
    match (s.marksOn m.flacon line).find? fun e => e.2.2.waits.contains eid with
    | some (k, _, _) =>
      (((close s).addWrite n w).inc (Reg.HS_AC n) Fld.HS_AC.PLAIN_ABORTS).abortAccord k Ab.PLAIN_WRITE line
    | none =>
      -- what asked for the owner's data is gone, and nobody has taken it: the owner writes back of its own accord (R154)
      if snp && rec?.any (fun r => r.owner && !r.taken) then (close s).takeReq n m cell
      else if snp && rec?.isSome then late s
      else s.takeReq n m cell

/-! ### Progress -/

/-- A tracker waits for a way that no eviction is under way to free, and one could be: its set has a victim, and a tracker
is free for it (R156). -/
def State.wantsEvict (s : State) (n : Nat) (t : Tracker) : Bool :=
  let x := s.slice n
  let inSet (p : Tracker → Bool) : Nat := (x.trackers.filter fun u => u.set == t.set && p u).length
  decide (x.trackers.length < 1024) && (s.victim n t.set).isSome
    && decide (inSet (·.evict) < inSet fun u => u.ph == .way && u.way.isNone)

/-- A writeback in the conflict store that a tracker takes as its owner's data: it came before the tracker had snooped
(R151, R153). -/
def State.takesOwnerData (s : State) (n : Nat) (m : Msg) : Bool :=
  isWriteback m.op && !m.io && (match s.holder n m.flacon (lineOf m.addr) with
    | some t => t.ph == .active && t.owner == some m.srcEid && t.ownerData.isNone
    | none => false)

/-- One thing a slice can do now: take a waiting owner's data, grant, let a waiting request take its way, or hand a freed
line on (R144). -/
def State.sliceStep (s : State) (n : Nat) : Option State :=
  let x := s.slice n
  match x.conflict.find? fun c => s.takesOwnerData n c.msg with
  | some c => some ((s.putSlice n { x with conflict := x.conflict.erase c }).writeback n c.msg c.cell)
  | none =>
  match x.trackers.find? (·.ready) with
  | some t => some (s.grant n t)
  | none =>
    match x.trackers.find? fun t => t.ph == .way && (t.way.isSome || (x.freeWay t.set).isSome || s.wantsEvict n t) with
    | some t => some (s.act n t.id)
    | none =>
      match x.conflict.findIdx? fun c =>
          (s.holder n c.msg.flacon (reqLine c.msg)).isNone && !s.pinHolds c.msg && !s.sealHolds c.msg with
      | some i =>
        (match x.conflict[i]? with
         | none => none
         | some c =>
           let s1 := s.putSlice n { x with conflict := x.conflict.eraseIdx i }
           some (if isAlias c.msg then s1.startAlias n c.msg true else s1.startReq n c.msg c.cell true))
      | none =>
        match x.trackers.find? fun t => t.ph == .between && (decide (x.conflict.length < 2048) ||
            ((s.holder n t.flacon t.line).isNone && !s.linePinned t.flacon t.line)) with
        | some t => some ((s.dropTrk n t.id).takeReq n t.req none)
        | none => none

/-- The slice works until nothing more can go now. -/
def State.settleSlice (s : State) (n : Nat) : Nat → State
  | 0 => s
  | k + 1 => match s.sliceStep n with
    | some t => t.settleSlice n k
    | none => s

/-- Rounds that suffice: each tracker and each conflict entry moves at most a few times. -/
def State.sliceFuel (s : State) (n : Nat) : Nat :=
  let x := s.slice n
  4 * (x.trackers.length + x.conflict.length) + 80

def State.runSlice (s : State) (n : Nat) : State := s.settleSlice n (s.sliceFuel n)

/-- Every slice that has something to do. -/
def State.runSlices (s : State) : State := (s.home.map (·.1)).foldl (fun t n => t.runSlice n) s

/-! ### Memory answers (R147 to R149) -/

/-- MEM_DATA reaches slice n for tracker id. -/
def State.memData (s : State) (n : Nat) (m : Msg) : State :=
  match s.tracker n m.tag with
  | none => s
  | some t =>
    if t.ph = .granted then s.dropTrk n t.id
    else
      let v : Line × Bool := ((m.data[0]?).getD 0, m.poison)
      let t1 := { t with memOut := false, memData := some v }
      let s1 := s.putTracker n t1
      if t.topnote && !t1.ready && t.ownerData.isNone then s1.sendTent n t1 v else s1

/-- The answer of a write that has ended: CMP, or GO_ERR for a WR_FULL in error; an I/O write answers with its last
line. -/
def State.writeAnswered (s : State) (n : Nat) (w : WritePend) (err : Bool) : State :=
  match w.answer with
  | none => s
  | some m =>
    if m.io then
      let x := s.slice n
      let same (v : WritePend) : Bool := v.answer == some m
      if x.pend.any same || x.later.any same || (x.trackers.any fun t => { t.req with dpa := none } == m)
          || (x.conflict.any fun c => { c.msg with dpa := none } == m) then s
      else s.endPosted m
    else s.sliceReply n { replyTo m (if err && w.full then Op.GO_ERR else Op.CMP) s.mgmtEid with slice := none }

/-- The write-pending state of a line ends: its cell and reserve return, a sealed line is written, and the next write of
the line goes. -/
def State.writeEnds (s : State) (n : Nat) (w : WritePend) (answer err : Bool) : State :=
  let x := s.slice n
  let s1 := s.putSlice n { x with pend := x.pend.erase w }
  let s2 := (s1.freeCell? w.cell).when w.reserve fun t => t.wbReturn n
  let s3 := if answer then s2.writeAnswered n w err else s2
  let s4 := match w.sealSeq with | some q => s3.sealedEnd q w.line | none => s3
  let y := s4.slice n
  match y.later.find? fun v => v.line == w.line && v.flacon == w.flacon with
  | none => s4.retryHeld n
  | some v => ((s4.putSlice n { y with later := y.later.erase v, pend := y.pend ++ [v] }).issueWrite n v).retryHeld n

/-- MEM_CMP reaches slice n for a line (R148). -/
def State.memCmp (s : State) (n : Nat) (m : Msg) : State :=
  let line := lineOf m.addr
  match (s.slice n).pend.find? fun w => w.line == line && w.flacon == m.flacon with
  | none => s
  | some w =>
    if !m.err then s.writeEnds n w (!w.retry) false
    else
      let s1 := (s.set1 (Reg.HS_ERR n) Fld.HS_ERR.MEM_WR_ERR).raiseAt (srcSlice n 3) (some w.flacon) { recOf m 0 0 with addr := line }
      if w.retry then s1.writeEnds n w false true
      else
        let w1 := { w with poison := true, retry := true, answer := none }
        let s2 := s1.modSlice n fun x => { x with pend := x.pend.map fun v => if v = w then w1 else v }
        (s2.writeAnswered n w true).issueWrite n w1

/-! ### Other messages -/

/-- BI_CONFLICT is answered on the stream of the slice's grants to its endpoint (R152). -/
def State.biConflict (s : State) (n : Nat) (m : Msg) : State :=
  (s.inc (Reg.HS_RACE n) Fld.HS_RACE.CONFLICT_ACK).sliceReply n { replyTo m Op.BI_CONFLICT_ACK s.mgmtEid with slice := none }

/-- TX_DONE: the grant has gone; snoops that waited for it go (R152). -/
def State.txDone (s : State) (n : Nat) (m : Msg) : State :=
  (s.modSlice n fun x => { x with notices := x.notices.erase (lineOf m.addr, m.dstEid) }).retryHeld n

/-- A cell that carries an opcode not listed, or a listed one on the wrong class (R141). -/
def State.badOp (s : State) (n : Nat) (m : Msg) : State :=
  (s.set1 (Reg.HS_ERR n) Fld.HS_ERR.BAD_OP).raiseAt Src.HS_BAD_OP (some m.flacon) (recOf m 0 0)

/-- An opcode the slice accepts on the message's class. -/
def opAtSlice (m : Msg) : Bool :=
  m.io || (classOf m.op == some m.mc && m.op != Op.TN_CONFIRM && m.op != Op.TN_CANCEL
    && !(Op.SNP_INV ≤ m.op && m.op ≤ Op.SNP_CUR) && !(Op.CMP ≤ m.op && m.op ≤ Op.DATA)
    && m.op != Op.MEM_RD && m.op != Op.MEM_WR)

/-! ### Fences (R163) -/

/-- The transactions of slice n that p accepts complete at once with GO_ERR and poison (R140, R163). -/
def State.failTrackers (s : State) (n : Nat) (p : Tracker → Bool) : State :=
  (s.slice n).trackers.foldl (fun u t =>
    if !p t ∨ t.ph = .granted then u
    else if t.evict then u.dropTrk n t.id
    else (((u.cancelTent n t.id).freeCell? t.cell).failRequest n t.req).releaseTrk n t.id) s

/-- Every transaction of Flacon f at slice n completes at once with GO_ERR and poison (R163). -/
def State.failSlice (s : State) (n f : Nat) : State := s.failTrackers n fun t => t.flacon == f

/-- A set is read and checked, from either tier, for a line (R140): with an uncorrectable entry every transaction of the set
fails. -/
def State.dirRead (s : State) (n set : Nat) (e : EntryEcc) (line : Nat) : State :=
  let t := s.dirEcc n set e line
  if (t.slice n).bad.contains set then t.failTrackers n fun k => k.set == set && k.ph != .between else t

end Sys2Proof.Machine
end

