-- ==== Sys2Proof/Machine/Accord.lean ====
section
/-!
DEFINITION. Machine/Accord.lean: the engine function and the Accord engine: doorbells (R182 to R186, R464), alias accesses
(R187 to R194), the commit (R198 to R205), chip events (R209).
-/
namespace Sys2Proof.Machine

/-! ### The engine function -/

/-- Port q presents an engine function that answers now (R182). -/
def State.engineUp (s : State) (q : Nat) : Bool :=
  match s.portRec q with
  | none => false
  | some p => !p.fabric && p.role == .upstream && s.portUp q && s.inMode [.compose, .serve, .recompose, .revive, .quarantine, .drydown]

/-- Slots enabled at port q: ACCORD_SLOTS of its Flacon. -/
def State.slotsOf (s : State) (q : Nat) : Nat :=
  match s.portFlacon q with
  | none => 0
  | some f => ((s.flaconRec f).map (·.accordSlots)).getD 0

def State.slotState (s : State) (q k : Nat) : Nat := s.rd (Reg.EF_SLOT q k) Fld.EF_SLOT.STATE

/-- A doorbell ignored. -/
def State.dbErr (s : State) (q k : Nat) : State := s.set1 (Reg.EF_SLOT q k) Fld.EF_SLOT.DB_ERR

/-- Accords run: not in COMPOSE, nor in REVIVE before OPEN (R464). -/
def State.accordsRun (s : State) : Bool :=
  s.md != .compose && !(s.md == .revive && decide (s.rd Reg.KS_REVIVE_STATUS Fld.KS_REVIVE_STATUS.PHASE < 6))

/-- The first cause for which an OPEN fails (R464). -/
def State.openCause (s : State) (f : Nat) (watch : Bool) : Option Nat :=
  if s.md = .drydown then some Ab.DRYDOWN
  else if s.md = .quarantine then some Ab.QUARANTINE
  else if s.on (Reg.FL_STATUS f) Fld.FL_STATUS.FENCED then some Ab.FENCED
  else if s.md = .recompose ∧ s.on (Reg.FL_STATUS f) Fld.FL_STATUS.AFFECTED then some Ab.RECOMPOSE
  else if !s.on Reg.AC_CTL Fld.AC_CTL.EN ∨ !s.accordsRun then some Ab.ENGINE_OFF
  else if watch ∧ !(((s.flaconRec f).map (·.watchEn)).getD false) then some Ab.WATCH_OFF
  else if ((s.flaconRec f).map (·.accordTrackers)).getD 0 ≤ s.trackersOf f then some Ab.NO_TRACKER
  else none

/-- The OPEN doorbell (R184). -/
def State.doorOpen (s : State) (q k cookie window : Nat) (watch notify : Bool) : State :=
  match s.portFlacon q with
  | none => s
  | some f =>
    let st := s.slotState q k
    if !(st = 0 ∨ st = 6 ∨ st = 7) then s.dbErr q k
    else
      let r := Reg.EF_SLOT q k
      let s1 := (((s.setReg r 0).wr r Fld.EF_SLOT.COOKIE cookie).wrB r Fld.EF_SLOT.WATCH watch)
      let s2 := (s1.setReg (Reg.EF_SEQ q k) 0).setReg (Reg.EF_ABORT q k) 0
      match s.openCause f watch with
      | some c => (s2.slotResult (some (q * 64 + k)) 7 c (some 0) notify).countAbort f c
      | none =>
        let t := tabGap s2.acd.trk 0
        let a : Accord := { flacon := f, place := some (q * 64 + k), watch := watch, notify := notify, window := window }
        ((s2.wr r Fld.EF_SLOT.STATE 1).putAccord t a).modAcd fun x => { x with slots := tabPut x.slots (q * 64 + k) t }

/-- The tracker of a slot. -/
def State.slotTracker (s : State) (q k : Nat) : Option (Nat × Accord) :=
  match tabFind s.acd.slots (q * 64 + k) with
  | none => none
  | some t => (s.accord t).map fun a => (t, a)

/-- The COMMIT doorbell. -/
def State.doorCommit (s : State) (q k : Nat) (notify : Bool) : State :=
  match s.slotState q k, s.slotTracker q k with
  | 1, some (t, a) =>
    (((s.wr (Reg.EF_SLOT q k) Fld.EF_SLOT.STATE 2).set0 (Reg.EF_SLOT q k) Fld.EF_SLOT.DB_ERR).putAccord t
      { a with ph := .queued, notify := notify }).modAcd fun x => { x with commitQ := x.commitQ ++ [t] }
  | _, _ => s.dbErr q k

/-- The ABORT doorbell. -/
def State.doorAbort (s : State) (q k : Nat) : State :=
  match s.slotTracker q k with
  | some (t, a) =>
    if a.unsealed then
      ((s.set0 (Reg.EF_SLOT q k) Fld.EF_SLOT.DB_ERR).abortAccord t Ab.HOST 0).runSlices
    else s.dbErr q k
  | none => s.dbErr q k

/-- The CLEAR doorbell. -/
def State.doorClear (s : State) (q k : Nat) : State :=
  let st := s.slotState q k
  if st = 6 ∨ st = 7 then
    let stray := s.on (Reg.EF_SLOT q k) Fld.EF_SLOT.STRAY
    (((s.setReg (Reg.EF_SLOT q k) 0).setReg (Reg.EF_SEQ q k) 0).setReg (Reg.EF_ABORT q k) 0).wrB (Reg.EF_SLOT q k)
      Fld.EF_SLOT.STRAY stray
  else s.dbErr q k

/-- A doorbell operation at slot k of port q, in a slot that is enabled. -/
def State.atDoor (s : State) (q k : Nat) (op : State → State) : State :=
  if !s.engineUp q then s
  else if s.slotsOf q ≤ k then s.dbErr q k
  else op s

/-- A write of EF_DB (R183, R184): one 64-bit write of an operation; any other is ignored and sets DB_ERR. -/
def State.doorbell (s : State) (q k : Nat) (whole : Bool) (w : Word) : State :=
  s.atDoor q k fun s =>
    if !whole then s.dbErr q k
    else
      match getFld w Fld.EF_DB.OP with
      | 1 => s.doorOpen q k (getFld w Fld.EF_DB.COOKIE) (getFld w Fld.EF_DB.WINDOW) (getFld w Fld.EF_DB.WATCH != 0)
          (getFld w Fld.EF_DB.NOTIFY != 0)
      | 2 => s.doorCommit q k (getFld w Fld.EF_DB.NOTIFY != 0)
      | 3 => s.doorAbort q k
      | 4 => s.doorClear q k
      | _ => s.dbErr q k

/-! ### Alias accesses -/

/-- EF_ID.WINDOWS: ⌈L_f / 2^30⌉. -/
def State.windows (s : State) (f : Nat) : Nat := (2 ^ 30 - 1 + sharedLines (s.flAcc f).cur.decoders) / 2 ^ 30

/-- The pieces of an alias access from offset o, n bytes: fabric address and length within each line; none where one maps
to no line (R187). -/
def State.aliasParts (s : State) (f window : Nat) : Nat → Nat → Nat → Option (List (Nat × Nat))
  | _, _, 0 => some []
  | o, n, fuel + 1 =>
    if n = 0 then some [] else
    let len := min n (64 - o % 64)
    let sln := window * 2 ^ 30 + o / 64
    if s.windows f ≤ window ∨ 2 ^ 36 ≤ o then none else
    match slnAddr (s.flAcc f).cur.decoders sln with
    | none => none
    | some a => (s.aliasParts f window (o + len) (n - len) fuel).map fun l => (a + o % 64, len) :: l

/-- The bytes of a list as a line, byte 0 at place i. -/
def lineOfBytes (l : List Byte) (i : Nat) : Line :=
  BitVec.ofNat 512 ((l.foldr (fun b x => x * 256 + b.toNat) 0) * 2 ^ (8 * i) % 2 ^ 512)

/-- Byte enables i to i + n - 1. -/
def beSpan (i n : Nat) : BitVec 64 := BitVec.ofNat 64 (2 ^ (i + n) - 2 ^ i)

/-- The base of every message of an alias access.  Its err says that the staging slot it meets is uncorrectable. -/
def State.aliasMsg (s : State) (q f : Nat) (p : PortRec) (w : AliasTlp) : Msg :=
  let m : Msg := { mc := if w.write then 5 else 4, op := if w.write then Op.STAGE else Op.ALIAS_RD, flacon := f, port := q,
                   tag := 4096, ltag := w.ltag, srcEid := s.portEid q, epoch := s.epochOf f, noSpec := true
                   tee := w.tee, err := w.ue }
  { m with priv := s.privOf p m, svc := s.serviceOf f m.mc }

/-- The pieces sent to their slices: each write counted until its stage notice returns (R198). -/
def State.sendAlias (s : State) (m : Msg) (t age : Nat) : List (Nat × Nat × List Byte) → State
  | [] => s
  | (a, n, b) :: r =>
    let x : Msg := { m with addr := a, len := n, accord := some (t, age), be := beSpan (a % 64) n,
                            data := if m.op = Op.STAGE then [lineOfBytes b (a % 64)] else [] }
    match s.homeAt m.flacon m.epoch a with
    | none => s.sendAlias m t age r
    | some h =>
      let s1 := if m.op = Op.STAGE then s.modAccord t fun y => { y with out := y.out + 1 } else s
      ((s1.takeReq h.slice x none).runSlice h.slice).sendAlias m t age r

/-- Each piece with its bytes. -/
def withBytes : List (Nat × Nat) → List Byte → List (Nat × Nat × List Byte)
  | [], _ => []
  | (a, n) :: r, b => (a, n, b.take n) :: withBytes r (b.drop n)

/-- An alias read waits in its tile for an ingress tag (R66), as it waits for its tracker (R186). -/
def State.holdAlias (s : State) (q t : Nat) (w : AliasTlp) : State :=
  match (s.accord t).bind (·.place) with
  | some p => s.modAcd fun x => { x with waits := tabMod x.waits p [] (· ++ [w]) }
  | none => s.strayAlias (q * 64) w

/-- An alias access of a slot whose tracker serves it (R187, R188, R190, R191). -/
def State.doAlias (s : State) (q : Nat) (p : PortRec) (t : Nat) (a : Accord) (w : AliasTlp) : State :=
  let f := a.flacon
  let n := if w.write then w.bytes.length else w.len
  let m := s.aliasMsg q f p w
  let kind := if w.write then 7 else 6
  match s.aliasParts f a.window w.offset n (n + 1) with
  | none =>
    let s1 := s.abortAccord t Ab.NOT_SHARED 0
    (if w.write then s1 else s1.sendReply (tileOf q)
      (errCompletion { m with io := true, mc := 7, op := 0x20, addr := w.offset, len := n } true)).runSlices
  | some pieces =>
    let s0 := pieces.foldl (fun u e => u.lookupRegions f (tileOf q) w.env e.1 (e.1 + e.2)) s
    let needs := needsOf kind true
    let parts := pieces.map fun e => (e, s0.partsOf (tileOf q) f m.priv needs e.1 (e.1 + e.2) 65)
    let all := parts.flatMap (·.2)
    let multi := decide (1 < (all.map fun x => (x.region, x.allowed)).eraseDups.length)
    match all.find? fun x => !x.allowed with
    | none =>
      if w.write then s0.sendAlias m t (a.age.getD 0) (withBytes pieces w.bytes)
      else
        let rd := { m with io := true, mc := 7, op := 0x20, addr := (pieces.head?.map (·.1)).getD 0, len := n }
        (match s0.takeTag rd pieces.length (pieces.map (·.1)) with
         | none => s0.holdAlias p.port t w
         | some (m1, s1) => (s1.openAccess f m.epoch).sendAlias { m with tag := m1.tag } t
             (a.age.getD 0) (pieces.map fun e => (e.1, e.2, [])))
    | some bad =>
      let r := { recOf m kind needs with addr := bad.start, noRegion := bad.region.isNone, multiHit := bad.multi,
                                         straddle := multi, region := bad.region.getD 0, typ := if w.write then 0x60 else 0x20 }
      let s1 := (s0.when (all.any (·.multi)) fun u => u.raiseAt Src.FL_REGION_MULTI_HIT (some f) r).deny f r
      if w.write then (s1.abortAccord t Ab.PERMISSION (lineOf bad.start)).runSlices
      else
        let rd := { m with io := true, mc := 7, op := 0x20, addr := (pieces.head?.map (·.1)).getD 0, len := n }
        match s1.takeTag rd pieces.length (pieces.map (·.1)) with
        | none => s0.holdAlias p.port t w
        | some (m1, s2) =>
          let m2 := { m with tag := m1.tag }
          let good := (parts.filter fun e => e.2.all (·.allowed)).map fun e => (e.1.1, e.1.2, ([] : List Byte))
          -- the allowed parts are read as R191 gives them and place no mark: the Accord aborts for PERMISSION alone
          let s3 := ((s2.modAccord t fun x => { x with watch := false }).openAccess f m.epoch).sendAlias m2 t (a.age.getD 0) good
          let s4 := (parts.filter fun e => !(e.2.all (·.allowed))).foldl (fun u e =>
            u.sendReply (tileOf q) { ioCompletion m2 e.1.1 e.1.2 true false true with slice := none }) s3
          (s4.abortAccord t Ab.PERMISSION (lineOf bad.start)).runSlices

/-- An alias TLP reaches its tile (R186, R194): stray, waiting for the tracker, or taken. -/
def State.aliasAccess (s : State) (q k : Nat) (w : AliasTlp) : State :=
  match s.portRec q with
  | none => s
  | some p =>
    if !s.engineUp q then s
    else if s.ideBlocks p then
      let m : Msg := { s.aliasMsg q p.flacon p w with io := true, mc := if w.write then 6 else 7, addr := w.offset, len := w.len }
      s.refuse m none (some (noDecoderRec m)) true
    else if 64 ≤ k then s
    else
      match s.slotTracker q k with
      | none => s.strayAlias (q * 64 + k) w
      | some (t, a) =>
        if w.write && a.ph != .opened then s.strayAlias (q * 64 + k) w
        else if a.age.isNone ∨ (!w.write ∧ !(tabGet s.acd.waits (q * 64 + k) []).isEmpty) then
          s.modAcd fun x => { x with waits := tabMod x.waits (q * 64 + k) [] (· ++ [w]) }
        else s.doAlias q p t a w

/-- The tracker is granted (R186, R196): the Accord has its age, and alias TLPs that waited go on in order. -/
def State.grantTracker (s : State) (q k : Nat) : State :=
  match s.slotTracker q k with
  | none => s
  | some (t, a) =>
    if a.age.isSome then s else
    let w := tabGet s.acd.waits (q * 64 + k) []
    let s1 := (s.putAccord t { a with age := some s.acd.nextAge }).modAcd fun x =>
      { x with nextAge := x.nextAge + 1, waits := tabDel x.waits (q * 64 + k) }
    w.foldl (fun u e => match u.portRec q, u.slotTracker q k with
      | some p, some (j, b) => u.doAlias q p j b e
      | _, _ => u.strayAlias (q * 64 + k) e) s1

/-- The next alias read that waits for a tag and can have one: its port, its slot, and those behind it. -/
def State.aliasNext (s : State) : Option (Nat × Nat × AliasTlp × List AliasTlp) :=
  s.acd.waits.findSome? fun e =>
    match e.2, s.slotTracker (e.1 / 64) (e.1 % 64) with
    | w :: r, some (_, a) =>
      if a.age.isSome && (freeKey s.core.tags (e.1 / 64)).isSome then some (e.1 / 64, e.1 % 64, w, r) else none
    | _, _ => none

/-- Alias reads that waited for tags go on, as many as there are. -/
def State.aliasGo (s : State) : Nat → State
  | 0 => s
  | n + 1 =>
    match s.aliasNext with
    | none => s
    | some (q, k, w, r) =>
      let s1 := s.modAcd fun x => { x with
        waits := if r.isEmpty then tabDel x.waits (q * 64 + k) else tabPut x.waits (q * 64 + k) r }
      (match s.portRec q, s.slotTracker q k with
       | some p, some (t, a) => s1.doAlias q p t a w
       | _, _ => s1).aliasGo n

/-- Every alias read that waits and can go. -/
def State.aliasReads (s : State) : State := s.aliasGo ((s.acd.waits.map (·.2.length)).foldl (· + ·) 0)

/-- A stage notice returns to the tile (R198). -/
def State.stageNotice (s : State) (t : Nat) : State :=
  s.modAccord t fun a => if 0 < a.ready then { a with ready := a.ready - 1, out := a.out - 1 } else a

/-! ### Commit -/

/-- The charge of an Accord against RETAIN_RESERVE: its staged lines and the slots of its record (R198). -/
def Accord.needs (a : Accord) : Nat :=
  let n := a.staged.length
  n + if n = 0 then 0 else recordSlots n

/-- A QUEUED Accord becomes ready when its stages are done and, of class D1, it holds its reserve charge, which it takes as
soon as the reserve has it; one that the reserve can never hold aborts (R198). -/
def State.noteReady (s : State) (t : Nat) : State :=
  match s.accord t with
  | none => s
  | some a =>
    if a.ph ≠ .queued ∨ a.out ≠ 0 ∨ a.age.isNone ∨ s.acd.readyQ.contains t then s else
    let ready (u : State) : State := u.modAcd fun x => { x with readyQ := x.readyQ ++ [t] }
    if s.durability a.flacon ≠ 1 then ready s
    else if s.retainReserve a.flacon < a.needs then s.abortAccord t Ab.RESERVE 0
    else if s.retainReserve a.flacon < s.reserveOf a.flacon + a.needs then s
    else ready (s.putAccord t { a with charge := a.needs })

/-- Every QUEUED Accord that has become ready, in the order of the COMMITs. -/
def State.readyAll (s : State) : State := s.acd.commitQ.foldl (fun u t => u.noteReady t) s

/-- Slices where an abort released marks run, and those that this releases in turn. -/
def State.runWoken (s : State) : Nat → State
  | 0 => s
  | k + 1 =>
    match s.acd.wake with
    | [] => s
    | l => (l.foldl (fun u n => u.runSlice n) (s.modAcd fun x => { x with wake := [] })).runWoken k

/-- What waits in the Accord engine for nothing more goes on: ready Accords, slices with released marks, alias reads. -/
def State.accordsGo (s : State) : State :=
  let t := s.readyAll
  (t.runWoken (t.acd.trk.length + 1)).aliasReads

/-- 8-byte words side by side, the first lowest. -/
def wordsNat (l : List Nat) : Nat := l.foldr (fun w x => w % 2 ^ 64 + 2 ^ 64 * x) 0

/-- A line entry of a commit record: SLN and staging slot (R203). -/
def recordEntry (l : SealedLine) : Nat := l.sln % 2 ^ 40 + 2 ^ 40 * (l.slot % 2 ^ 21)

/-- The commit record of a sealed Accord as its slots hold it (R203): the fields and five entries, then eight to a slot. -/
def commitRecord (x : Sealed) : List Line :=
  let e := x.lines.map recordEntry
  let fields := [x.seq, x.tracker % 2 ^ 16 + 2 ^ 16 * (x.flacon % 2 ^ 8) + 2 ^ 24 * (x.cls % 2 ^ 8) + 2 ^ 32 * (x.count % 2 ^ 16),
    x.time]
  BitVec.ofNat 512 (wordsNat (fields ++ e.take 5))
    :: (List.range (recordSlots x.count - 1)).map fun i => BitVec.ofNat 512 (wordsNat ((e.drop (5 + 8 * i)).take 8))

/-- SEAL's first steps, or the end of an Accord with nothing staged (R200, R201). -/
def State.prepareDone (s : State) (t : Nat) : State :=
  match s.accord t with
  | none => s
  | some a =>
    let seq := (s.rd Reg.AC_SEQ Fld.AC_SEQ.SEQ + 1) % 2 ^ 64
    let s1 := s.wr Reg.AC_SEQ Fld.AC_SEQ.SEQ seq
    let s2 := match a.place with
      | some p => s1.wr (Reg.EF_SEQ (p / 64) (p % 64)) Fld.EF_SEQ.SEQ seq
      | none => s1
    let st := a.staged
    if st.isEmpty then
      let s3 := match a.epoch with | some e => s2.closeAccess a.flacon e | none => s2
      ((s3.wr (Reg.FL_AC_SEALED a.flacon) Fld.FL_AC_SEALED.SEQ seq).commitAccord t).runSlices
    else
      let cls := s.durability a.flacon
      let x : Sealed := { seq := seq, cls := cls, flacon := a.flacon, tracker := t, recSlots := a.recSlots, charge := a.charge,
                          count := st.length, time := s.now, lines := st.map fun k =>
                            { line := k.line, sln := k.sln, slice := k.slice, slot := k.slot, data := k.data, epoch := k.epoch } }
      let x1 := if cls = 0 then x else { x with record := commitRecord x, names := x.lines.map (·.slot) }
      let a1 := { a with ph := .sealing, seq := seq, recSlots := [], charge := 0, recorded := cls == 0,
                         flips := if cls = 0 then a.slices else [] }
      let s3 := (s2.putAccord t a1).modAcd fun y => { y with seals := y.seals ++ [x1] }
      match a.place with
      | some p => s3.wr (Reg.EF_SLOT (p / 64) (p % 64)) Fld.EF_SLOT.STATE 4
      | none => s3

/-- The oldest of a list of epochs. -/
def oldestEpoch : List Nat → Option Nat
  | [] => none
  | e :: r => some (r.foldl (fun x y => if epochBefore y x then y else x) e)

/-- The engine takes an Accord that is ready: the one that has been ready longest (R198). -/
def State.prepareStart (s : State) (t : Nat) : State :=
  match s.accord t with
  | none => s
  | some a =>
    if a.ph ≠ .queued ∨ s.acd.readyQ.head? ≠ some t then s else
      let n := a.staged.length
      let want := if s.durability a.flacon = 0 ∨ n = 0 then [] else 2 :: List.replicate (recordSlots n - 1) 3
      match s.takeSlots a.flacon want with
      | none => (s.abortAccord t Ab.STAGING 0).runSlices
      | some (l, s1) =>
        let e := (oldestEpoch (a.marks.map (·.epoch))).getD (s.epochOf a.flacon)
        let a1 := { a with ph := .prepare, recSlots := l, asked := a.slices, epoch := some e }
        let s2 := ((s1.putAccord t a1).openAccess a.flacon e).modAcd fun x => { x with
          commitQ := x.commitQ.filter (· != t), readyQ := x.readyQ.filter (· != t) }
        let s3 := match a.place with
          | some p => s2.wr (Reg.EF_SLOT (p / 64) (p % 64)) Fld.EF_SLOT.STATE 3
          | none => s2
        if a1.asked.isEmpty then s3.prepareDone t else s3

/-- A slice takes PREPARE (R199): its marked lines are pinned and the copies of its staged lines snooped.  It waits while
a tracker holds one of them. -/
def State.prepareAt (s : State) (n t : Nat) : State :=
  match s.accord t with
  | none => s
  | some a =>
    if a.ph ≠ .prepare ∨ !a.asked.contains n then s else
    let mine := a.marks.filter fun k => k.slice == n
    if mine.any fun k => (s.holder n a.flacon k.line).isSome then s else
    let x := s.slice n
    let refuse := !s.geomOk a.flacon || s.on (Reg.FL_STATUS a.flacon) Fld.FL_STATUS.FENCED
    match mine.find? fun k => refuse || x.bad.contains k.set with
    | some k => s.putAccord t { a with asked := a.asked.erase n, taken := a.taken ++ [n], refused := a.refused ++ [(n, k.line)] }
    | none =>
      let copiesOf (k : Mark) : List Nat × Option Nat :=
        match x.entry k.set k.tag with
        | some (_, e) => if k.staged then (x.copies e, if e.st = 6 then e.ptrs[0]? else none) else ([], none)
        | none => ([], none)
      let a1 := { a with asked := a.asked.erase n, taken := a.taken ++ [n], marks := a.marks.map fun (k : Mark) =>
        if k.slice = n then { k with pinned := true, waits := (copiesOf k).1, owner := (copiesOf k).2 } else k }
      mine.foldl (fun u k => u.snoops n a.flacon k.line Op.SNP_INV k.epoch (copiesOf k).1 (copiesOf k).2) (s.putAccord t a1)

/-- Every snoop of the Accord's lines at slice n is answered. -/
def Accord.preparedAt (a : Accord) (n : Nat) : Bool :=
  a.taken.contains n && (a.marks.all fun k => k.slice != n || (k.pinned && k.waits.isEmpty))

/-- The entries of an Accord's staged lines at slice n whose copies are gone. -/
def State.freeStaged (s : State) (n : Nat) (a : Accord) : State :=
  (a.marks.filter fun k => k.slice == n && k.staged).foldl (fun u k =>
    match (u.slice n).entry k.set k.tag with
    | some (w, _) => u.modSlice n fun x => x.putWay k.set w none
    | none => u) s

/-- READY or NO reaches the engine (R199). -/
def State.prepareAnswer (s : State) (n t : Nat) : State :=
  match s.accord t with
  | none => s
  | some a =>
    if a.ph ≠ .prepare ∨ a.answered.contains n then s else
    match a.refused.find? fun e => e.1 == n with
    | some (_, line) => (s.abortAccord t Ab.HOME_ERROR line).runSlices
    | none =>
      if !a.preparedAt n then s else
      let a1 := { a with answered := a.answered ++ [n] }
      let s1 := (s.freeStaged n a).putAccord t a1
      if a1.slices.all a1.answered.contains then s1.prepareDone t else s1

/-- PREP_LIMIT has elapsed (R199). -/
def State.prepTimeout (s : State) (t : Nat) : State :=
  match s.accord t with
  | none => s
  | some a =>
    if a.ph ≠ .prepare then s
    else ((s.set1 Reg.AC_ERR Fld.AC_ERR.PREP_TIMEOUT).raise Src.AC_PREP_TIMEOUT (some a.flacon)).abortAccord t Ab.PREP_TIMEOUT 0
      |>.runSlices

/-- A sealed line goes to memory from its staging slot, poisoned where the slot's data is uncorrectable (R200, R212). -/
def State.writeSealed (s : State) (n : Nat) (x : Sealed) (l : SealedLine) (ue : Bool) : State :=
  let s1 := if ue then (s.set1 Reg.AC_ERR Fld.AC_ERR.STAGE_UE).raiseAt Src.AC_STAGE_UE (some x.flacon) { addr := l.line } else s
  let s2 := s1.modAcd fun y => { y with seals := y.seals.map fun z =>
    if z.seq = x.seq then { z with lines := z.lines.map fun k =>
      if k.line = l.line then { k with flipped := true, poison := k.poison || ue } else k } else z }
  s2.addWrite n { line := l.line, flacon := x.flacon, epoch := l.epoch, data := l.data, poison := l.poison || ue,
                  sealSeq := some x.seq }

/-- The same where no command tells of the slot's data: whether it is uncorrectable is a free value (assumption 2). -/
def State.writeStaged (s : State) (n : Nat) (x : Sealed) (l : SealedLine) : State :=
  let g := s.free 1
  g.2.writeSealed n x l (g.1 == 1)

/-- A slice takes FLIP (R200): its staged lines become write-pending from their slots, marks and pins go, and the lines'
conflict lists run. -/
def State.flipAt (s : State) (n t : Nat) (ue : List Nat) : State :=
  match s.accord t with
  | none => s
  | some a =>
    if a.ph ≠ .sealing ∨ !a.flips.contains n then s else
    let a1 := { a with flips := a.flips.erase n, acks := a.acks ++ [n], marks := a.marks.filter fun k => k.slice != n }
    let s1 := s.putAccord t a1
    -- at a slice with watch marks only, no line is left to write
    (match s.acd.seals.find? fun (x : Sealed) => x.seq == a.seq with
     | none => s1
     | some x => (x.lines.filter fun (l : SealedLine) => l.slice == n && !l.flipped).foldl
         (fun u l => u.writeSealed n x l (ue.contains l.line)) s1).runSlice n

/-- The seal is complete (R200, R204). -/
def State.sealDone (s : State) (t : Nat) : State :=
  match s.accord t with
  | none => s
  | some a =>
    let s1 := s.wr (Reg.FL_AC_SEALED a.flacon) Fld.FL_AC_SEALED.SEQ a.seq
    let s2 := match a.epoch with | some e => s1.closeAccess a.flacon e | none => s1
    if s.durability a.flacon = 2 ∧ s.acd.seals.any fun x => x.seq == a.seq then
      let s3 := s2.putAccord t { a with ph := .persist, epoch := none }
      match a.place with
      | some p => s3.wr (Reg.EF_SLOT (p / 64) (p % 64)) Fld.EF_SLOT.STATE 5
      | none => s3
    else s2.commitAccord t

/-- The seal is complete where no slice has a flip to take or to acknowledge. -/
def State.sealCheck (s : State) (t : Nat) : State :=
  match s.accord t with
  | none => s
  | some a => if a.ph = .sealing ∧ a.recorded ∧ a.flips.isEmpty ∧ a.acks.isEmpty then s.sealDone t else s

/-- The commit record is durable: FLIP goes to each involved slice (R200).  Where fences have taken every one (R209), the seal
is complete. -/
def State.recordWritten (s : State) (t : Nat) : State :=
  (s.modAccord t fun a =>
    if a.ph == .sealing && !a.recorded then { a with recorded := true, flips := a.slices } else a).sealCheck t

/-- An acknowledged flip reaches the engine. -/
def State.flipAck (s : State) (n t : Nat) : State :=
  match s.accord t with
  | none => s
  | some a =>
    if a.ph ≠ .sealing ∨ !a.acks.contains n then s else
    (s.putAccord t { a with acks := a.acks.erase n }).sealCheck t

/-! ### Chip events (R209 Table 10) -/

/-- The port's slots abort with LINK_DOWN; a sealed Accord's result is not reported. -/
def State.accordPortDown (s : State) (q : Nat) : State :=
  let mine (a : Accord) : Bool := match a.place with | some p => p / 64 == q | none => false
  let s1 := s.abortAll mine Ab.LINK_DOWN
  (s1.modAcd fun x => { x with
    trk := tabMap x.trk fun _ a => if mine a then { a with place := none } else a
    slots := x.slots.filter fun e => e.1 / 64 != q
    waits := x.waits.filter fun e => e.1 / 64 != q }).runSlices

/-- The MSI-X table words of addresses lo to hi - 1 at reset. -/
def State.msixReset (s : State) (lo hi : Nat) : State :=
  { s with io := { s.io with msixTab := s.io.msixTab.filter fun e => !(decide (lo ≤ 4 * e.1) && decide (4 * e.1 < hi)) } }

/-- Reset of the engine function: every slot IDLE, its registers and its MSI-X table at their reset values. -/
def State.engineReset (s : State) (q : Nat) : State :=
  let s1 := (s.accordPortDown q).msixReset (0x100000000 + q * 0x10000) (0x100010000 + q * 0x10000)
  ((List.range 64).foldl (fun u k => ((u.setReg (Reg.EF_SLOT q k) 0).setReg (Reg.EF_SEQ q k) 0).setReg (Reg.EF_ABORT q k) 0)
    s1).setReg (Reg.EF_DONE q) 0

/-- FENCE_SLICE n: unsealed Accords with a mark there abort SLICE_LOST; the engine writes the slice's sealed lines from
staging directly (R209, R212). -/
def State.accordSliceLost (s : State) (n : Nat) : State :=
  let s1 := s.abortAll (fun a => a.marks.any fun k => k.slice == n) Ab.SLICE_LOST
  let s2 := s1.acd.trk.foldl (fun u e =>
    if e.2.ph = .sealing then u.putAccord e.1 { e.2 with
      marks := e.2.marks.filter fun k => k.slice != n
      acks := if e.2.flips.contains n then e.2.acks ++ [n] else e.2.acks
      flips := e.2.flips.erase n } else u) s1
  s2.acd.seals.foldl (fun u x =>
    (x.lines.filter fun l => l.slice == n && !l.flipped).foldl (fun v l => v.writeStaged n x l) u) s2

end Sys2Proof.Machine
end

