-- ==== Sys2Proof/Machine/Epochs.lean ====
section
/-!
DEFINITION. Machine/Epochs.lean: advancing a Flacon's rule epoch with what it changes (R229 to R233), region batches (R227,
R228).
-/
namespace Sys2Proof.Machine

/-- One advance (R230): tables and epoch, Accords with older marks (R208), the count of regions. -/
def State.advance (s : State) (f : Nat) (regions : List (Nat × Option RegionEnt)) (gen : Option DecGen) : State :=
  let s1 := (s.epochStep f regions gen).showRegions f
  (s1.abortEpoch f (s1.epochOf f)).runSlices

/-- Whether a range lies wholly inside the decoders of a list, which may adjoin (R54): walk from a to stop. -/
def coveredBy (l : List DecoderRec) (a stop : Nat) : Nat → Bool
  | 0 => decide (stop ≤ a)
  | n + 1 => if stop ≤ a then true else match findDecoder l a with
    | some d => coveredBy l (d.base + d.size) stop n
    | none => false

/-- Statuses of R227 Table 5, which bind, DCD and Decant commands share in part. -/
inductive RegionStatus where
  | ok | outOfFormula | regionOverlap | indexInUse | indexFree | wrongFlacon | badField | epochBusy | flaconFenced
  | recomposeBusy
  deriving DecidableEq, Repr

/-- The check of one operation against a table (R227 step 3). -/
def State.checkRegionOp (s : State) (f : Nat) (t : Tab RegionEnt) (o : RegionOp) : RegionStatus :=
  let remove := o.kind == .remove
  let here := tabFind t o.index
  if !remove && (decide (o.stop ≤ o.start) || o.start % 64 != 0 || o.stop % 64 != 0 || decide (2 ^ 52 ≤ o.start)
      || decide (2 ^ 52 ≤ o.stop) || decide (4096 ≤ o.perms)) then .badField
  else if o.kind = .insert ∧ here.isSome then .indexInUse
  else if o.kind ≠ .insert ∧ here.isNone then .indexFree
  else if o.kind ≠ .insert ∧ (here.any fun r => r.flacon != f) then .wrongFlacon
  else if remove then .ok
  else if !coveredBy (s.flAcc f).cur.decoders o.start o.stop 4096 then .outOfFormula
  else if o.kind = .insert ∧ ((s.flaconRec f).map (·.regionQuota)).getD 0 ≤ (t.filter fun r => r.2.flacon == f).length then
    .outOfFormula
  else if t.any fun r => r.1 != o.index && decide (r.2.start < o.stop) && decide (o.start < r.2.stop) then .regionOverlap
  else .ok

/-- The table after an operation. -/
def applyRegionOp (f : Nat) (t : Tab RegionEnt) (o : RegionOp) : Tab RegionEnt :=
  match o.kind with
  | .remove => tabDel t o.index
  | _ => tabPut t o.index { flacon := f, ns := o.ns, start := o.start, stop := o.stop, perms := o.perms, epoch := 0 }

/-- The operations of a batch checked in turn: the first failing one with its status, or the table left. -/
def State.checkBatch (s : State) (f : Nat) : Tab RegionEnt → List RegionOp → Nat → RegionStatus × Nat
  | _, [], _ => (.ok, 0)
  | t, o :: r, i =>
    match s.checkRegionOp f t o with
    | .ok => s.checkBatch f (applyRegionOp f t o) r (i + 1)
    | e => (e, i)

/-- The whole-command checks that region, bind, DCD and Decant commands share (R227 step 2, R241). -/
def State.flaconBusy (s : State) (f : Nat) : Option RegionStatus :=
  if s.on (Reg.FL_STATUS f) Fld.FL_STATUS.FENCED then some .flaconFenced
  else if s.on (Reg.FL_STATUS f) Fld.FL_STATUS.AFFECTED then some .recomposeBusy
  else none

/-- A batch of region operations (R227): status, failing operation, state. -/
def State.regionBatch (s : State) (f : Nat) (ops : List RegionOp) : RegionStatus × Nat × State :=
  match s.flaconBusy f with
  | some e => (e, 0, s)
  | none =>
    match s.checkBatch f s.acc.regions ops 1 with
    | (.ok, _) =>
      if !s.canAdvance f false then (.epochBusy, 0, s)
      else
        let t := ops.foldl (fun t o => applyRegionOp f t o) s.acc.regions
        let ch := (ops.map (·.index)).eraseDups.map fun i => (i, tabFind t i)
        (.ok, 0, s.advance f ch none)
    | (.regionOverlap, i) =>
      let a := ((ops[i - 1]?).map (·.start)).getD 0
      (.regionOverlap, i, s.raiseAt Src.FL_REGION_OVERLAP (some f) { addr := a, kind := 0xA })
    | (e, i) => (e, i, s)

end Sys2Proof.Machine
end

