-- ==== Sys2Proof/Machine/Contain.lean ====
section
/-!
DEFINITION. Machine/Contain.lean: containment: what each fence notice does (R18 Table 4, R163, R164, R181, R209, R241,
R397), and how a Flacon is unfenced (R242).
-/
namespace Sys2Proof.Machine

/-- Queues that p accepts (class, Flacon), of ports and slices, flushed (R93); Accord write-out stays (R209). -/
def State.flushQueues (s : State) (p : Nat → Nat → Bool) : State :=
  let writeOut (c : Cell) : Bool := (s.sealOf c.msg).isSome
  let sel := s.core.queues.filter fun e => p (e.1 / 32 % 8) (e.1 % 32)
  sel.foldl (fun t e =>
    let keep := e.2.filter writeOut
    let t1 := t.putQueue e.1 (e.2.filter fun c => !writeOut c)
    let (k, u) := t1.flushQueue e.1
    let u1 := if keep.isEmpty then u else u.putQueue e.1 keep
    if e.1 < 32768 then u1.addTo (Reg.PT_FLUSH_CNT (e.1 / 256)) Fld.PT_FLUSH_CNT.COUNT k else u1) s

/-- Waiting messages and open packed cells that p accepts are ended; Accord write-out stays (R209). -/
def State.endWaiting (s : State) (p0 : Msg → Bool) : State :=
  let p (m : Msg) : Bool := p0 m && (s.sealOf m).isNone
  let gone := s.core.wait.flatMap fun e => (e.2.filter fun w => p w.msg).map fun w => (e.1, w)
  let s1 : State := { s with core := { s.core with
    wait := (s.core.wait.map fun e => (e.1, e.2.filter fun w => !p w.msg)).filter fun e => !e.2.isEmpty } }
  let packs := s1.core.pack.flatMap fun e => (e.2.flatMap (·.msgs)).filter p
  let s2 : State := { s1 with core := { s1.core with
    pack := (s1.core.pack.map fun e => (e.1, e.2.filter fun o => !(o.msgs.any p))).filter fun e => !e.2.isEmpty } }
  let src (k : Nat) : Nat := if k / 8 < 128 then k / 16 else 64 + (k / 8 - 128)
  let s3 := gone.foldl (fun t e =>
    let m := if e.2.noTag then { e.2.msg with tag := 4096 } else e.2.msg
    ((m :: e.2.more).foldl (fun u x => u.endMsg (src e.1) x) t).dropWaiting e.2) s2
  packs.foldl (fun t m => t.endMsg (tileOf m.port) m) s3

/-- FENCE_FLACON f (R18, R241 Table 8): its ports are fenced and its traffic in flight ends.  One already in effect changes
nothing (R20). -/
def State.containFlacon (s : State) (f : Nat) : State :=
  if s.acc.fencedFlacons.contains f then s else
  let s0 := ({ s with acc := { s.acc with fencedFlacons := s.acc.fencedFlacons ++ [f] } } : State).set1 (Reg.FL_STATUS f)
    Fld.FL_STATUS.FENCED
  let s1 := s0.flushQueues fun _ g => g == f
  let s2 := s1.endWaiting fun m => m.flacon == f
  let s3 := s2.orphanGates fun _ c => c.msg.flacon == f
  let s4 := s3.abortAll (fun a => a.flacon == f) Ab.FENCED
  let s5 := (s4.home.map (·.1)).foldl (fun t n => t.failSlice n f) s4
  (s5.cancelJobs (fun j => j.flacon == f) 3).runSlices

/-- A port's held cells and gate entries: cells of slice n freed and their entries FREE (R181). -/
def State.gatesSliceLost (s : State) (n : Nat) : State :=
  s.core.gate.foldl (fun t e =>
    match e.2.cell with
    | some c => if c.src = 64 + n then
        (((t.freeCell c).heldSince (e.1 / 4096) e.2.since).cancelledErr (e.1 / 4096) c).setGate (e.1 / 4096) (e.1 % 4096) none
      else t
    | none => t) s

/-- FENCE_SLICE n (R18, R164). -/
def State.containSlice (s : State) (n : Nat) : State :=
  if s.acc.fencedSlices.contains n then s else
  let s1 := { s with acc := { s.acc with fencedSlices := s.acc.fencedSlices ++ [n] } }
  let s2 := (s1.gatesSliceLost n).raise (srcSlice n 4) none
  (s2.accordSliceLost n).runSlices

/-- FENCE_TILE n (R18): its ports count as down elsewhere; snoops to endpoints behind it end as lost (R160). -/
def State.containTile (s : State) (n : Nat) : State :=
  if s.acc.fencedTiles.contains n then s else
  let s1 := { s with acc := { s.acc with fencedTiles := s.acc.fencedTiles ++ [n] } }
  let behind (r : SnoopRec) : Bool := match r.port with | some q => tileOf q == n | none => false
  (s1.home.foldl (fun t e =>
    (e.2.snoops.filter behind).foldl (fun u r => u.snoopAnswer e.1 r.flacon Op.RSP_I_LOST r.line r.eid) t) s1).runSlices

/-- QUARANTINE containment (R397 Table 5).  Already in effect, it changes nothing (R20). -/
def State.containAll (s : State) : State :=
  if s.acc.contained then s else
  let slices := s.home.map (·.1)
  let s0 : State := { s with acc := { s.acc with contained := true } }
  let s1 := slices.foldl (fun t n => (t.slice n).trackers.foldl (fun u k => u.cancelTent n k.id) t)
    (s0.abortAll (fun _ => true) Ab.QUARANTINE)
  let s2 := slices.foldl (fun t n => (List.range 32).foldl (fun u f => u.failSlice n f) t) s1
  let s4 := slices.foldl (fun t n => t.modSlice n fun x => { x with conflict := x.conflict.filter fun c => isAlias c.msg }) s2
  let ended := slices.flatMap fun n => ((s2.slice n).conflict.filter fun c => !isAlias c.msg).map fun c => (n, c)
  let s5 := ended.foldl (fun t e => (t.freeCell? e.2.cell).failRequest e.1 e.2.msg) s4
  let s6 := (s5.flushQueues fun _ _ => true).endWaiting fun _ => true
  let s7 := s6.orphanGates fun _ _ => true
  let s9 := s7.cancelJobs (fun _ => true) 8
  let s10 := (s9.ports.filter fun p => p.protocol == .cxl).foldl (fun t p =>
    t.set1 (Reg.PT_STD_STATUS p.port) Fld.PT_STD_STATUS.VIRAL_TX) s9
  s10.runSlices

/-! ### Unfencing (R242) -/

/-- f's directory sets and seen-map bits cleared in every slice (R163, R137). -/
def State.clearDirectory (s : State) (f : Nat) : State :=
  (s.home.map (·.1)).foldl (fun t n =>
    let own (set : Nat) : Bool := match t.setOwner n set with | some r => r.index == f | none => false
    t.modSlice n fun x => { x with
      sets := x.sets.filter fun e => !own e.1
      seen := x.seen.filter fun e => e.2 != f
      bad := x.bad.filter fun e => !own e
      frames := x.frames.filter fun e => !own e.2.set }) s

/-- No flush of f is in progress and none of its accesses is outstanding. -/
def State.fenceDry (s : State) (f : Nat) : Bool :=
  s.drainedTo f (s.epochOf f + 1) && !(s.core.queues.any fun e => e.1 % 32 == f && !e.2.isEmpty)

end Sys2Proof.Machine
end

