-- ==== Sys2Proof/Machine/Flash.lean ====
section
/-!
DEFINITION. Machine/Flash.lean: the xSPI flash as sparse memory with erased byte 0xFF, its layout (R38), and the flash
directory (R38, R426).
-/
namespace Sys2Proof.Machine

/-- What an unlisted address of the flash reads as: the erased byte (assumption 9). -/
def erased : Byte := 0xFF#8

/-- Size of the flash in bytes: 64 MiB (R38). -/
def flashSize : Nat := 0x4000000

/-- The byte at address a. -/
def memGet (m : List Host.Cell) (a : Nat) : Byte := tabGet m a erased

/-- Memory with byte b at address a, in canonical form: a cell with the erased byte is not listed. -/
def memPut (m : List Host.Cell) (a : Nat) (b : Byte) : List Host.Cell := if b = erased then tabDel m a else tabPut m a b

/-- The canonical form: addresses strictly rising, no cell holding the erased byte. -/
def Memory.wf (m : List Host.Cell) : Bool := tabSorted m && m.all fun c => c.2 != erased

/-- n bytes from address a on, from cells whose addresses are not below a. -/
def memWalk : List Host.Cell → Nat → Nat → List Byte
  | _, _, 0 => []
  | [], a, n + 1 => erased :: memWalk [] (a + 1) n
  | (k, v) :: r, a, n + 1 => if k = a then v :: memWalk r (a + 1) n else erased :: memWalk ((k, v) :: r) (a + 1) n

/-- n bytes from address a on. -/
def memRange (m : List Host.Cell) (a n : Nat) : List Byte := memWalk (m.dropWhile fun c => decide (c.1 < a)) a n

/-- Bytes stored from address a on. -/
def memStore (m : List Host.Cell) (a : Nat) : List Byte → List Host.Cell
  | [] => m
  | b :: r => memStore (memPut m a b) (a + 1) r

/-- Erase n bytes from address a on. -/
def memErase (m : List Host.Cell) (a n : Nat) : List Host.Cell := m.filter fun c => decide (c.1 < a ∨ a + n ≤ c.1)

/-- Program bytes from address a on: programming only clears bits (R421). -/
def memProgram (m : List Host.Cell) (a : Nat) : List Byte → List Host.Cell
  | [] => m
  | b :: r => memProgram (memPut m a (memGet m a &&& b)) (a + 1) r

/-! ### Layout (R38 Table 1) -/

def fmlSlotBase (slot : Nat) : Nat := if slot = 0 then 0x2000000 else 0x3000000
def fmlSlotSize : Nat := 0x1000000
def fwSlotBase (slot : Nat) : Nat := if slot = 0 then 0x100000 else 0x900000
def fwSlotSize : Nat := 0x800000
def certBase : Nat := 0x10000
def sectorSize : Nat := 0x10000

/-! ### The flash directory (R426) -/

/-- The fields of a directory copy. -/
structure Directory where
  seq : Nat
  fmlActive : Nat
  fmlPendingValid : Bool
  fmlPending : Nat
  fwActive : Nat
  fwPendingValid : Bool
  fwPending : Nat
  deriving DecidableEq, Repr

/-- The bytes of a copy without its CRC: 0x000 to 0xFFB. -/
def Directory.body (d : Directory) : List Byte :=
  leBytes 0x52494454 4 ++ leBytes d.seq 4 ++
  [BitVec.ofNat 8 d.fmlActive, if d.fmlPendingValid then 1 else 0, BitVec.ofNat 8 d.fmlPending,
   BitVec.ofNat 8 d.fwActive, if d.fwPendingValid then 1 else 0, BitVec.ofNat 8 d.fwPending] ++
  List.replicate 4078 0

/-- A copy whole. -/
def Directory.bytes (d : Directory) : List Byte := d.body ++ leBytes (crc32 d.body) 4

/-- The copy in a 4 KiB block, where its MAGIC and CRC are good. -/
def parseDirectory (b : List Byte) : Option Directory :=
  if leNat (b.take 4) = 0x52494454 ∧ leNat (b.drop 0xFFC) = crc32 (b.take 0xFFC) then
    some {
      seq := leNat ((b.drop 4).take 4)
      fmlActive := (b.getD 8 0).toNat % 2
      fmlPendingValid := b.getD 9 0 != 0
      fmlPending := (b.getD 10 0).toNat % 2
      fwActive := (b.getD 11 0).toNat % 2
      fwPendingValid := b.getD 12 0 != 0
      fwPending := (b.getD 13 0).toNat % 2 }
  else none

/-- The directory used, and the copy that the next write goes to (R426).  With no good copy: both slots A, nothing
pending, next write to copy 0 with SEQ 1. -/
structure DirUse where
  dir : Directory
  next : Nat
  bad : Bool
  deriving DecidableEq, Repr

def defaultDirectory : Directory :=
  { seq := 0, fmlActive := 0, fmlPendingValid := false, fmlPending := 0, fwActive := 0, fwPendingValid := false,
    fwPending := 0 }

/-- Which of two copies is used (R426). -/
def chooseDirectory (a b : Option Directory) : DirUse :=
  match a, b with
  | none, none => { dir := defaultDirectory, next := 0, bad := true }
  | some d, none => { dir := d, next := 1, bad := false }
  | none, some d => { dir := d, next := 0, bad := false }
  | some d, some e =>
    let k := (2 ^ 32 + e.seq - d.seq) % 2 ^ 32
    if 1 ≤ k ∧ k < 2 ^ 31 then { dir := e, next := 0, bad := false } else { dir := d, next := 1, bad := false }

/-- The directory in the flash. -/
def readDirectory (m : List Host.Cell) : DirUse :=
  chooseDirectory (parseDirectory (memRange m 0 0x1000)) (parseDirectory (memRange m 0x1000 0x1000))

/-- The flash with the directory rewritten, in the copy not in use, with the next SEQ (R38, R426). -/
def writeDirectory (m : List Host.Cell) (f : Directory → Directory) : List Host.Cell :=
  let u := readDirectory m
  let d := { f u.dir with seq := (u.dir.seq + 1) % 2 ^ 32 }
  let a := u.next * 0x1000
  memStore (memErase m a 0x1000) a d.bytes

/-- The state with the directory rewritten and the registers that show it brought up to date. -/
def State.putDirectory (s : State) (f : Directory → Directory) : State :=
  let m := writeDirectory s.mgmt.flash f
  let d := (readDirectory m).dir
  let s1 := { s with mgmt := { s.mgmt with flash := m } }
  ((((s1.wrB Reg.MG_FML_STATUS Fld.MG_FML_STATUS.PENDING_VALID d.fmlPendingValid).wr
    Reg.MG_FML_STATUS Fld.MG_FML_STATUS.PENDING_SLOT d.fmlPending).wrB
    Reg.MG_FW_STATUS Fld.MG_FW_STATUS.PENDING_VALID d.fwPendingValid).wr
    Reg.MG_FW_STATUS Fld.MG_FW_STATUS.PENDING_SLOT d.fwPending)

/-- The directory in force. -/
def State.directory (s : State) : Directory := (readDirectory s.mgmt.flash).dir

end Sys2Proof.Machine
end

