-- ==== Sys2Proof/Machine/Modes.lean ====
section
/-!
DEFINITION. Machine/Modes.lean: resets and the transitions of R28 that several events share: what a reset keeps, entry
into RESET, a cold boot, entry into REVIVE.
-/
namespace Sys2Proof.Machine

/-- Registers that the always-on domain and the companion on VAUX keep through RESET and RETAIN (R23, R24, R28, R345,
R379, R455 and the PC_EVENTS, MG_PRESENCE and MG_SEAL headings).  DESIGN CHOICE (assumption 66): the companion's readings
PC_BUS, PC_FEED, PC_SUPV_STATUS and PC_RAIL are among them, since it goes on sampling; MG_I3C holds the address that the
straps give. -/
def alwaysOnRegs : List Nat := [
  Reg.CHIP_MODE, Reg.CHIP_STRAPS, Reg.CHIP_TIME, Reg.PC_BUS, Reg.PC_FEED, Reg.PC_SUPV_STATUS, Reg.PC_EVENTS, Reg.PC_DIP,
  Reg.PC_RAIL, Reg.KS_LOSS, Reg.KS_LOSS_CNT, Reg.KS_LOSS_SEQ, Reg.MG_PRESENCE, Reg.MG_SEAL, Reg.MG_I3C ]

/-- Registers that stay with the retained state while the retain-valid flag stands (R359, R365). -/
def retainedRegs : List Nat := [
  Reg.CHIP_BEAT, Reg.KS_DRAIN_STATUS, Reg.KS_DRAIN_TIME, Reg.KS_DRAIN_CNT, Reg.KS_DRAIN_CUT, Reg.KS_RETAIN_STATUS ]

/-- Registers that RETAIN keeps beside those: the slot channels, which the companion runs (R366, R376), and sensors 14 and
15, which the always-on domain reads (R12). -/
def keptInRetain (a : Nat) : Bool :=
  (decide (0x410000 ≤ a) && decide (a < 0x412000)) || a == Reg.CHIP_TSENSE 14 || a == Reg.CHIP_TSENSE 15

/-- What is left of the state when the main domains lose it: the always-on domain and the companion, fuses and flash,
the pins, and, with retain set, the Keep stack and the retained registers (R28, R359).  channels: RETAIN is entered, in
which the slot channels stay as they are, what holds until reset still holds (R13), and a fenced slice stays fenced: only
a cold boot returns it to service (R164). -/
def State.lose (s : State) (retain channels : Bool) : State :=
  { State.reset with
    regs := s.regs.filter fun e =>
      alwaysOnRegs.contains e.1 || (retain && retainedRegs.contains e.1) || (channels && keptInRetain e.1)
    pins := s.pins
    sensor := if channels then s.sensor else {}
    flt := { held := s.flt.held }
    pwr := if channels then s.pwr else { s.pwr with ch := [] }
    retention := if retain then s.retention else none
    keep := if retain then s.keep else {}
    acc := { State.reset.acc with fencedSlices := if channels then s.acc.fencedSlices else [] }
    lossRaised := s.lossRaised
    mgmt := { fuses := s.mgmt.fuses, flash := s.mgmt.flash, flashAbsent := s.mgmt.flashAbsent,
              presenceArmed := s.mgmt.presenceArmed, presenceAt := s.mgmt.presenceAt }
    out := s.out
    freeIx := s.freeIx
    pending := s.pending }

/-- The same; READOUT_EN stays until PWRON_RESET_N (R401). -/
def State.wipe (s : State) (retain channels : Bool) : State :=
  (s.lose retain channels).wrB Reg.FZ_CTL Fld.FZ_CTL.READOUT_EN (s.on Reg.FZ_CTL Fld.FZ_CTL.READOUT_EN)

/-- Whether retained state awaits REVIVE. -/
def State.retainValid (s : State) : Bool := s.on Reg.CHIP_MODE Fld.CHIP_MODE.RETAIN_VALID

/-- RESET is entered (R28): outputs at their reset states, main clocks off, nothing of the main domains kept; the
retain-valid flag and what it guards stay only if already set. -/
def State.intoReset (s : State) (cause : Nat) : State :=
  let s1 := s.wipe s.retainValid false
  (((s1.goMode .reset cause).wr Reg.CHIP_MODE Fld.CHIP_MODE.PREV_MODE (s.rd Reg.CHIP_MODE Fld.CHIP_MODE.MODE)).emit
    (.clocks false)).emit .lanesIdle

/-- The straps are latched into CHIP_STRAPS, and the I3C static address follows them (R455, R415). -/
def State.latchStraps (s : State) : State :=
  (((s.wr Reg.CHIP_STRAPS Fld.CHIP_STRAPS.BOOT_SRC s.pins.strapBootSrc).wrB
    Reg.CHIP_STRAPS Fld.CHIP_STRAPS.MPORT_EN s.pins.strapMportEn).wr
    Reg.CHIP_STRAPS Fld.CHIP_STRAPS.I3C_ADDR s.pins.strapI3cAddr).wr
    Reg.MG_I3C Fld.MG_I3C.STATIC_ADDR (0x68 + s.pins.strapI3cAddr % 4)

/-- MPORT comes up at BOOT entry where the strap enables it and PERST_N is high (R412, R32). -/
def State.mportAtBoot (s : State) : State :=
  let en := s.on Reg.CHIP_STRAPS Fld.CHIP_STRAPS.MPORT_EN
  { s with mgmt := { s.mgmt with mportEn := en, mportUp := en && s.pins.perstN } }

/-- The fused registers show the fuses (R430, R442). -/
def ownerEntry (f : Fuses) : Option Nat :=
  ([3, 2, 1, 0] : List Nat).find? fun i =>
    (tabFind f.ownerKey i).isSome && !f.ownerRevoke.getLsbD i && !f.badEntries.getLsbD (4 + i)

/-- The owner-key digest in force (R430): the highest programmed, readable and unrevoked entry. -/
def ownerDigest (f : Fuses) : Option Line :=
  match ownerEntry f with
  | none => none
  | some i => tabFind f.ownerKey i

/-- SEAL_BROKEN: a break awaits its fuse bit, or SEAL_EVENTS exceeds SEAL_REARMS (R439). -/
def State.sealBrokenNow (s : State) : Bool :=
  s.on Reg.MG_SEAL Fld.MG_SEAL.FUSE_PENDING || decide (s.mgmt.fuses.sealRearms < s.mgmt.fuses.sealEvents)

/-- MG_SEAL brought up to date with the seal fuses (R439). -/
def State.showSeal (s : State) : State :=
  let f := s.mgmt.fuses
  ((s.wr Reg.MG_SEAL Fld.MG_SEAL.EVENTS f.sealEvents).wr Reg.MG_SEAL Fld.MG_SEAL.REARMS f.sealRearms).wrB
    Reg.MG_SEAL Fld.MG_SEAL.SEAL_BROKEN s.sealBrokenNow

/-- The registers that show fuses, brought up to date. -/
def State.showFuses (s : State) : State :=
  let f := s.mgmt.fuses
  let o := ownerEntry f
  let d := (ownerDigest f).getD 0
  let s1 := s.setReg Reg.CHIP_SERIAL f.serial
  let s2 := (((((s1.wr Reg.MG_LIFECYCLE Fld.MG_LIFECYCLE.STATE f.lifecycle.toNat).wrB
    Reg.MG_LIFECYCLE Fld.MG_LIFECYCLE.OWNER_SET o.isSome).wr
    Reg.MG_LIFECYCLE Fld.MG_LIFECYCLE.OWNER_ENTRY (o.getD 0)).wr
    Reg.MG_LIFECYCLE Fld.MG_LIFECYCLE.VENDOR_REVOKE f.vendorRevoke.toNat).wr
    Reg.MG_LIFECYCLE Fld.MG_LIFECYCLE.OWNER_REVOKE f.ownerRevoke.toNat).wr
    Reg.MG_LIFECYCLE Fld.MG_LIFECYCLE.MIN_SVN f.minSvn
  let s3 := s2.showSeal
  (List.range 16).foldl (fun t n => t.setReg (Reg.MG_OWNER_DIGEST n)
    (BitVec.ofNat 64 (d.toNat / 2 ^ (32 * n) % 2 ^ 32))) s3

/-- Fields of kept registers that a cold boot returns to their reset values (R7): the rail faults, the count of dips, the
dynamic address of the I3C target. -/
def State.dropLatched (s : State) : State :=
  (((s.set0 Reg.PC_RAIL Fld.PC_RAIL.FAULT).set0 Reg.PC_DIP Fld.PC_DIP.COUNT).set0 Reg.MG_I3C Fld.MG_I3C.DYN_VALID).set0
    Reg.MG_I3C Fld.MG_I3C.DYN_ADDR

/-- BOOT is entered for a cold boot (R7, R23, R24, R28): every register at its reset value, CHIP_TIME and CHIP_BEAT 0,
nothing retained used; the boot ROM runs. -/
def State.coldBoot (s : State) (cause : Nat) : State :=
  let prev := s.rd Reg.CHIP_MODE Fld.CHIP_MODE.MODE
  let s1 := (s.wipe false false).dropLatched
  let s2 := ((s1.setReg Reg.CHIP_TIME 0).set0 Reg.CHIP_MODE Fld.CHIP_MODE.RETAIN_VALID).goMode .boot cause
  let s3 := (s2.wr Reg.CHIP_MODE Fld.CHIP_MODE.PREV_MODE prev).emit (.clocks true)
  s3.showFuses.mportAtBoot

/-- REVIVE is entered from RESET or RETAIN (R28, R373): phase LOAD. -/
def State.intoRevive (s : State) : State :=
  let prev := s.rd Reg.CHIP_MODE Fld.CHIP_MODE.MODE
  let s1 := ((s.goMode .revive 0x03).wr Reg.CHIP_MODE Fld.CHIP_MODE.PREV_MODE prev).emit (.clocks true)
  let s2 := ((s1.wr Reg.KS_REVIVE_STATUS Fld.KS_REVIVE_STATUS.PHASE 0).set0 Reg.KS_REVIVE_STATUS
    Fld.KS_REVIVE_STATUS.DRY).set0 Reg.KS_REVIVE_STATUS Fld.KS_REVIVE_STATUS.QUARANTINED
  s2.showFuses.mportAtBoot

/-- RESET is left (R28): for REVIVE with the retain-valid flag, otherwise for BOOT. -/
def State.leaveReset (s : State) : State :=
  if s.retainValid then s.intoRevive else s.coldBoot 0x02

/-- BOOT recovery (R28, R428): RECOVERY and the error are shown and only the boot ROM mailbox serves; cause 0x06. -/
def State.bootRecovery (s : State) (code : Nat) : State :=
  let s1 := ((s.set1 Reg.CHIP_BOOT_STATUS Fld.CHIP_BOOT_STATUS.RECOVERY).wr
    Reg.CHIP_BOOT_STATUS Fld.CHIP_BOOT_STATUS.ERROR code).set1 Reg.MBX_STATUS Fld.MBX_STATUS.RECOVERY
  let s2 := s1.goMode .boot 0x06
  { s2 with mode := { s2.mode with fwRunning := false } }

/-- In BOOT recovery. -/
def State.inRecovery (s : State) : Bool :=
  s.md == .boot && s.on Reg.CHIP_BOOT_STATUS Fld.CHIP_BOOT_STATUS.RECOVERY

end Sys2Proof.Machine
end

