-- ==== Sys2Proof/Machine/FormulaFile.lean ====
section
/-!
DEFINITION. Machine/FormulaFile.lean: the Formula as bytes (R42 to R56) and its validation (R58, R59, R463).
-/
namespace Sys2Proof.Machine

/-- A validation failure (MG_FML_ERR). -/
structure FmlErr where
  code : Nat
  record : Nat := 0xFFFF
  offset : Nat := 0
  aux : Nat := 0
  deriving DecidableEq, Repr

/-- One check of a record or a header: whether it holds, and what its failure reports. -/
structure Chk where
  ok : Bool
  code : Nat
  off : Nat
  aux : Nat := 0
  deriving DecidableEq, Repr

/-- The failure of the first check, in the order listed, that does not hold. -/
def firstFail (l : List Chk) (record : Nat) : Option FmlErr :=
  (l.find? fun (c : Chk) => !c.ok).map fun (c : Chk) => { code := c.code, record := record, offset := c.off, aux := min c.aux 0xFFFF }

/-- A little-endian number of n bytes at offset o. -/
def leAt (b : List Byte) (o n : Nat) : Nat := leNat ((b.drop o).take n)

/-- Bytes o to o + n - 1 are all 0. -/
def zeros (b : List Byte) (o n : Nat) : Bool := ((b.drop o).take n).all (· == 0)

/-- A check per byte from o on that it is 0. -/
def zeroEach (b : List Byte) (code o n : Nat) : List Chk := (List.range n).map fun i => ⟨zeros b (o + i) 1, code, o + i, 0⟩

/-! ### Stages 1 and 2: header and trailer -/

def headerChecks (b : List Byte) (serial : Nat) : List Chk :=
  let len := leAt b 8 4
  [ ⟨leAt b 0 4 == 0x4C4D4654, 0x0101, 0x00, 0⟩,
    ⟨leAt b 5 1 == 1, 0x0102, 0x04, 0⟩,
    ⟨leAt b 6 2 == 128, 0x0102, 0x06, 0⟩,
    ⟨decide (3224 ≤ len) && decide (len ≤ 16777216) && len % 8 == 0, 0x0103, 0x08, 0⟩,
    ⟨leAt b 0x14 2 == 0x0880, 0x0104, 0x14, 0⟩,
    ⟨decide (leAt b 0x16 1 ≤ 0xA1), 0x0104, 0x16, 0⟩,
    ⟨leAt b 0x17 1 / 2 == 0, 0x0106, 0x17, 0⟩,
    ⟨leAt b 0x18 8 == (if leAt b 0x17 1 % 2 = 1 then serial else 0), 0x0105, 0x18, 0⟩ ] ++ zeroEach b 0x0106 0x24 28

/-- The trailer's checks; sigOk: the signature verifies over DIGEST (R43). -/
def trailerChecks (b : List Byte) (owner : Option Line) (sigOk : Bool) : List Chk :=
  let len := leAt b 8 4
  let t := b.drop (len - 3096)
  [ ⟨leAt t 0 4 == 0x47495354, 0x0111, 0, 0⟩, ⟨leAt t 4 2 == 1793, 0x0111, 4, 0⟩, ⟨leAt t 6 2 == 1280, 0x0111, 6, 0⟩ ] ++
  zeroEach t 0x0111 8 8 ++
  [ ⟨owner.isSome, 0x0112, 16, 0⟩, ⟨some (shake256 ((t.drop 16).take 1793)) == owner, 0x0113, 16, 0⟩ ] ++
  zeroEach t 0x0111 1809 7 ++
  [ ⟨sigOk, 0x0114, 1816, 0⟩,
    ⟨shake256 (b.take 0x40 ++ ((b.drop 128).take (len - 3096 - 128))) == BitVec.ofNat 512 (leAt b 0x40 64), 0x0115, 0x40, 0⟩ ]

/-! ### Stage 3: framing -/

/-- A record as framed. -/
structure RawRec where
  idx : Nat
  ty : Nat
  bytes : List Byte
  deriving DecidableEq, Repr

/-- A number of n bytes at offset o of a record. -/
def RawRec.u (r : RawRec) (o n : Nat) : Nat := leAt r.bytes o n

/-- The record types with their minimum and maximum counts (R46 Table 4). -/
def recordTypes : List (Nat × Nat × Nat) :=
  [ (0x0001, 1, 1), (0x0002, 1, 1), (0x0003, 0, 256), (0x0004, 0, 64), (0x0010, 1, 32), (0x0020, 1, 128), (0x0030, 0, 4096),
    (0x0031, 0, 2048), (0x0040, 0, 65536), (0x0050, 0, 4096), (0x0060, 0, 4096), (0x0061, 0, 4096), (0x0062, 0, 128),
    (0x0070, 0, 32) ]

/-- The length of a record of a type (Table 4), from its bytes where it varies. -/
def recordLen (ty : Nat) (b : List Byte) : Nat :=
  match ty with
  | 0x0001 => 64 | 0x0002 => 16 | 0x0003 => 16 | 0x0004 => 24 | 0x0010 => 128 | 0x0020 => 48
  | 0x0030 => 32 + 8 * leAt b 0x0C 1
  | 0x0031 => 16 | 0x0040 => 32 | 0x0050 => 24 | 0x0060 => 16 | 0x0061 => 24
  | 0x0062 => 16 + 8 * leAt b 0x0A 2
  | _ => 32

/-- The key of a record (Table 4) and the offset of its first field; none for the types with one record. -/
def RawRec.key (r : RawRec) : Option (Nat × Nat) :=
  match r.ty with
  | 0x0003 => some (r.u 8 2, 8)
  | 0x0004 => some (r.u 8 2, 8)
  | 0x0010 => some (r.u 8 1, 8)
  | 0x0020 => some (r.u 8 1, 8)
  | 0x0030 => some (r.u 8 2, 8)
  | 0x0031 => some (r.u 0x0A 2, 0x0A)
  | 0x0040 => some (r.u 8 2, 8)
  | 0x0050 => some (r.u 8 2, 8)
  | 0x0060 => some (r.u 8 2, 8)
  | 0x0061 => some (r.u 8 2, 8)
  | 0x0062 => some (r.u 8 1, 8)
  | 0x0070 => some (r.u 8 1, 8)
  | _ => none

/-- Records framed from the bytes between header and trailer: the records, or the first failure.  DESIGN CHOICE (log entry
73): DUPLICATE reports the offset of the first field of the key. -/
def frame (b : List Byte) (acc : List RawRec) (prev : Nat) : Nat → List RawRec × Option FmlErr
  | 0 => (acc, none)
  | fuel + 1 =>
    if b.isEmpty then (acc, none) else
    let i := acc.length
    let ty := leAt b 0 2
    let len := leAt b 4 4
    let r : RawRec := { idx := i, ty := ty, bytes := b.take len }
    let same := acc.filter fun x => x.ty == ty
    let dup : Option RawRec := match r.key with | some k => same.find? fun (x : RawRec) => x.key == some k | none => none
    let known := recordTypes.find? fun e => e.1 == ty
    let checks : List Chk := [
      ⟨known.isSome, 0x0202, 0, ty⟩, ⟨decide (prev ≤ ty), 0x0204, 0, ty⟩,
      ⟨decide (same.length < (known.map (·.2.2)).getD 0), 0x0205, 0, ty⟩,
      ⟨leAt b 2 1 == 1, 0x0203, 2, leAt b 2 1⟩, ⟨leAt b 3 1 == 0, 0x0203, 3, leAt b 2 1⟩,
      ⟨decide (8 ≤ len) && len % 8 == 0 && decide (len ≤ b.length) && len == recordLen ty b, 0x0201, 4, 0⟩,
      ⟨dup.isNone, 0x0207, (r.key.map (·.2)).getD 0, (dup.map (·.idx)).getD 0⟩ ]
    match firstFail checks i with
    | some e => (acc, some e)
    | none => frame (b.drop len) (acc ++ [r]) ty fuel

/-- The checks of stage 3 that need the whole file. -/
def countChecks (b : List Byte) (l : List RawRec) : List Chk :=
  ⟨leAt b 0x0C 4 == l.length, 0x0205, 0x0C, 0⟩ ::
  recordTypes.map fun e => ⟨decide (e.2.1 ≤ (l.filter fun r => r.ty == e.1).length), 0x0206, 0, e.1⟩

/-! ### Stage 4: fields -/

/-- A field in its range. -/
def RawRec.rng (r : RawRec) (o n lo hi : Nat) : Chk := ⟨decide (lo ≤ r.u o n) && decide (r.u o n ≤ hi), 0x0301, o, 0⟩
/-- Reserved bytes. -/
def RawRec.res (r : RawRec) (o n : Nat) : Chk := ⟨zeros r.bytes o n, 0x0302, o, 0⟩
/-- Reserved bits: the field below 2^w. -/
def RawRec.bits (r : RawRec) (o n w : Nat) : Chk := ⟨decide (r.u o n < 2 ^ w), 0x0302, o, 0⟩
/-- Any other requirement on a field's range. -/
def ranged (b : Bool) (o : Nat) : Chk := ⟨b, 0x0301, o, 0⟩
/-- An LD, or 0xFF. -/
def ldOk (x : Nat) : Bool := decide (x ≤ 15) || x == 0xFF

/-- Stage 4 of one record.  DESIGN CHOICE (log entry 73): a port number above 127 is FIELD_RANGE here wherever a record
names a chip port, before any reference is checked. -/
def RawRec.fieldChecks (r : RawRec) : List Chk :=
  match r.ty with
  | 0x0001 =>
    [ r.rng 0x08 2 0 1023, r.rng 0x0A 2 0 16383, r.rng 0x0C 1 0 3, r.rng 0x0D 1 0 3, r.res 0x0E 2, r.rng 0x10 2 9000 11500,
      ranged (decide (8000 ≤ r.u 0x12 2) && decide (r.u 0x12 2 ≤ 10000) && decide (r.u 0x12 2 + 500 ≤ r.u 0x10 2)) 0x12,
      r.rng 0x14 2 0 2000, r.rng 0x1A 2 1 1000, r.res 0x1C 36 ]
  | 0x0002 => [ r.rng 8 1 4 255, r.rng 9 1 4 255, r.rng 0x0A 1 4 255, r.res 0x0B 5 ]
  | 0x0003 =>
    [ r.rng 8 2 0 1279, r.rng 0x0A 2 (r.u 8 2) 1279, r.rng 0x0C 1 0 3, r.rng 0x0D 1 0 16, r.rng 0x0E 1 0 3, r.res 0x0F 1 ]
  | 0x0004 => [ r.rng 8 1 0 3, r.res 0x0A 2, r.bits 0x0C 4 11, r.res 0x14 4 ]
  | 0x0010 =>
    [ r.rng 8 1 0 31, r.rng 9 1 0 2, r.bits 0x0A 2 3, ranged (decide (r.u 0x10 1 ≤ 3) || decide (0xFC ≤ r.u 0x10 1)) 0x10,
      r.res 0x11 3, r.rng 0x18 4 0 131072, r.rng 0x1C 2 0 8192, r.rng 0x1E 1 0 64, r.res 0x1F 1,
      ranged (decide (r.u 0x2C 4 ≤ r.u 0x28 4) && ((r.u 0x2C 4 != 0) == (r.u 9 1 == 1))) 0x2C,
      r.rng 0x30 4 0 65536, ranged ((List.range 8).all fun k => r.u 0x34 2 / 4 ^ k % 4 != 3) 0x34, r.res 0x36 2,
      r.rng 0x38 2 0 255, r.rng 0x3A 2 0 4095, r.res 0x50 48 ]
  | 0x0020 =>
    let prot := r.u 0x0D 1
    let std := prot == 0 || prot == 1
    let w := r.u 0x0C 1
    let lane := r.u 0x0A 2
    let aligned := if w = 4 then lane % 4 == 0 else if w = 8 then lane % 8 == 0 else if w = 16 then lane % 16 == 0 else true
    [ r.rng 8 1 0 127,
      ranged (if std then decide (r.u 9 1 ≤ 31) else r.u 9 1 == 0xFF) 9,
      r.rng 0x0A 2 0 511, ⟨aligned, 0x0303, 0x0A, 0⟩, ranged (w == 4 || w == 8 || w == 16) 0x0C, r.rng 0x0D 1 0 3,
      r.rng 0x0E 1 0 2,
      ranged (if std then decide (1 ≤ r.u 0x0F 1) && decide (r.u 0x0F 1 ≤ 6) else r.u 0x0F 1 == 0) 0x0F,
      r.bits 0x10 2 7, r.rng 0x12 2 0 (if std then 0 else 250), r.rng 0x14 1 0 100,
      ranged (decide (r.u 0x15 1 ≤ 31) || r.u 0x15 1 == 0xFF) 0x15, r.res 0x16 2, r.rng 0x18 4 0 65536, r.res 0x28 8 ]
  | 0x0030 =>
    let ways := r.u 0x0C 1
    let base := r.u 0x10 8
    let size := r.u 0x18 8
    [ r.rng 8 2 0 4095, r.rng 0x0A 1 0 31, r.bits 0x0B 1 3, ranged ([1, 2, 4, 8, 16].contains ways) 0x0C,
      r.rng 0x0D 1 8 14, r.res 0x0E 2, ranged (decide (base < 2 ^ 52)) 0x10, ⟨base % 2 ^ 28 == 0, 0x0303, 0x10, 0⟩,
      ranged (size != 0 && size % (ways * 2 ^ 28) == 0 && decide (base + size ≤ 2 ^ 52)) 0x18 ] ++
    (List.range ways).map fun i =>
      let o := 0x20 + 8 * i
      ranged (decide (r.u o 2 < 16384) && (decide (r.u (o + 2) 1 ≤ 127) || r.u (o + 2) 1 == 0xFF) && ldOk (r.u (o + 3) 1)) o
  | 0x0031 =>
    [ r.rng 8 1 0 31, r.rng 9 1 0 127, r.rng 0x0A 1 0 127, ranged (ldOk (r.u 0x0B 1)) 0x0B, r.res 0x0D 3 ]
  | 0x0040 =>
    let a := r.u 0x10 8
    let z := r.u 0x18 8
    [ r.rng 0x0A 1 0 31, r.bits 0x0B 1 1, r.rng 0x0C 2 0 4095, r.res 0x0E 2, ranged (decide (a < 2 ^ 52)) 0x10,
      ⟨a % 64 == 0, 0x0303, 0x10, 0⟩, ranged (decide (z < 2 ^ 52) && decide (a < z)) 0x18, ⟨z % 64 == 0, 0x0303, 0x18, 0⟩ ]
  | 0x0050 =>
    let n := r.u 0x0C 1
    [ r.rng 8 2 0 16383, r.rng 0x0A 2 (r.u 8 2) 16383, r.rng 0x0C 1 1 8, r.res 0x0D 3,
      ranged ((List.range 8).all fun i => if i < n then decide (r.u (0x10 + i) 1 ≤ 127) else r.u (0x10 + i) 1 == 0xFF) 0x10 ]
  | 0x0060 =>
    [ r.rng 8 1 0 127, r.rng 9 1 0 31, r.rng 0x0A 2 1 4095, r.rng 0x0C 2 1 (r.u 0x0A 2), r.rng 0x0E 2 (r.u 0x0A 2) 4095 ]
  | 0x0061 =>
    [ r.rng 8 1 0 127, r.rng 9 1 0 31, r.res 0x0A 2, r.rng 0x0C 4 10 800000, r.rng 0x10 4 64 1048576,
      r.rng 0x14 4 (r.u 0x0C 4) 800000 ]
  | 0x0062 => [ r.rng 8 1 0 127, r.res 9 1, r.rng 0x0A 2 1 256, r.rng 0x0C 4 1 100000 ]
  | _ =>
    [ r.rng 8 1 0 31, r.rng 9 1 0 7, r.bits 0x0A 2 2, r.rng 0x0C 2 100 10000, r.rng 0x0E 2 500 8000, r.rng 0x10 2 250 32000,
      r.rng 0x12 2 500 20000, r.rng 0x18 1 100 175, r.res 0x19 1, ranged (r.u 0x1A 2 == 3300 || r.u 0x1A 2 == 12000) 0x1A,
      r.rng 0x1C 2 100 10000, r.res 0x1E 2 ]

/-! ### The records -/

def RawRec.device (r : RawRec) : DeviceRec :=
  { switchId := r.u 8 2, mgmtEid := r.u 0x0A 2, fcPinLevel := r.u 0x0C 1, alertLevel := r.u 0x0D 1, pwrwarnMv := r.u 0x10 2,
    resetMv := r.u 0x12 2, rideUs := r.u 0x14 2, holdupUs := r.u 0x16 2, vauxHours := r.u 0x18 2, drainMs := r.u 0x1A 2 }

def RawRec.arbiter (r : RawRec) : ArbiterRec := { planeN := r.u 8 1, sliceN := r.u 9 1, keepN := r.u 0x0A 1 }

def RawRec.severity (r : RawRec) : SevRec :=
  { first := r.u 8 2, last := r.u 0x0A 2, severity := r.u 0x0C 1, escalate := r.u 0x0D 1, railSev := r.u 0x0E 1 }

def RawRec.deleg (r : RawRec) : DelegRec :=
  { path := r.u 8 1, eid := r.u 9 1, groups := r.u 0x0C 4, flacons := r.u 0x10 4 }

def RawRec.flacon (r : RawRec) : FlaconRec :=
  let fl := r.u 0x0A 2
  let al : Int := if r.u 0x10 1 < 128 then r.u 0x10 1 else (r.u 0x10 1 : Int) - 256
  { index := r.u 8 1, durability := r.u 9 1, topnoteEn := fl.testBit 0, watchEn := fl.testBit 1, p1Allowed := fl.testBit 2,
    cellsGuar := r.u 0x0C 4, cellsAlpha := al, spillGuar := r.u 0x14 4, dirSets := r.u 0x18 4, accordTrackers := r.u 0x1C 2,
    accordSlots := r.u 0x1E 1, sliceMask := r.u 0x20 8, stageLines := r.u 0x28 4, retainReserve := r.u 0x2C 4,
    regionQuota := r.u 0x30 4, serviceMap := r.u 0x34 2, topnoteRate := r.u 0x38 2, topnoteBurst := r.u 0x3A 2,
    mirrorMbps := r.u 0x3C 4, name := r.u 0x40 16 }

def RawRec.port (r : RawRec) : PortRec :=
  let fl := r.u 0x10 2
  { port := r.u 8 1, flacon := r.u 9 1, firstLane := r.u 0x0A 2, width := r.u 0x0C 1
    protocol := match r.u 0x0D 1 with | 0 => .cxl | 1 => .pcie | 2 => .ictil | _ => .flocet
    role := match r.u 0x0E 1 with | 0 => .upstream | 1 => .downstream | _ => .fabric
    maxRate := r.u 0x0F 1, anchored := fl.testBit 0, sparing := fl.testBit 1, dateline := fl.testBit 2
    hotplug := fl.testBit 3, laneReverse := fl.testBit 4, ideRequired := fl.testBit 5, gpf := fl.testBit 6
    cableM := r.u 0x12 2, lingerMs := r.u 0x14 1, slot := r.u 0x15 1, lingerCap := r.u 0x18 4, txPolarity := r.u 0x1C 2
    rxPolarity := r.u 0x1E 2, partnerId := r.u 0x20 8 }

def RawRec.decoder (r : RawRec) : DecoderRec :=
  let fl := r.u 0x0B 1
  { index := r.u 8 2, flacon := r.u 0x0A 1, shared := fl.testBit 0, persistent := fl.testBit 1
    gpfProtected := fl.testBit 2, gran := r.u 0x0D 1, base := r.u 0x10 8, size := r.u 0x18 8
    targets := (List.range (r.u 0x0C 1)).map fun i =>
      { eid := r.u (0x20 + 8 * i) 2, port := r.u (0x22 + 8 * i) 1, ld := r.u (0x23 + 8 * i) 1, dpa := r.u (0x24 + 8 * i) 4 } }

def RawRec.binding (r : RawRec) : BindingRec :=
  { flacon := r.u 8 1, usp := r.u 9 1, dsp := r.u 0x0A 1, ld := r.u 0x0B 1, vppb := r.u 0x0C 1 }

def RawRec.region (r : RawRec) : RegionRec :=
  { index := r.u 8 2, flacon := r.u 0x0A 1, ns := (r.u 0x0B 1).testBit 0, perms := r.u 0x0C 2, start := r.u 0x10 8
    stop := r.u 0x18 8 }

def RawRec.route (r : RawRec) : RouteRec :=
  { first := r.u 8 2, last := r.u 0x0A 2, ports := (List.range (r.u 0x0C 1)).map fun i => r.u (0x10 + i) 1 }

def RawRec.wfqRec (r : RawRec) : WfqRec :=
  { port := r.u 8 1, flacon := r.u 9 1, weight := r.u 0x0A 2, weightMin := r.u 0x0C 2, weightMax := r.u 0x0E 2 }

def RawRec.shaperRec (r : RawRec) : ShaperRec :=
  { port := r.u 8 1, flacon := r.u 9 1, rate := r.u 0x0C 4, burst := r.u 0x10 4, maxRate := r.u 0x14 4 }

def RawRec.gateRec (r : RawRec) : GateRec :=
  { port := r.u 8 1, cycle := r.u 0x0C 4
    entries := (List.range (r.u 0x0A 2)).map fun i =>
      { start := r.u (0x10 + 8 * i) 3, classes := r.u (0x13 + 8 * i) 1, len := r.u (0x14 + 8 * i) 4 } }

def RawRec.slotRec (r : RawRec) : SlotPowerRec :=
  let fl := r.u 0x0A 2
  { channel := r.u 8 1, retries := r.u 9 1, extDiode := fl.testBit 0, autoOn := fl.testBit 1, ramp := r.u 0x0C 2
    limit := r.u 0x0E 2, faultUs := r.u 0x10 2, shunt := r.u 0x12 2, fetRth := r.u 0x14 2, fetCth := r.u 0x16 2
    fetTmax := r.u 0x18 1, vout := r.u 0x1A 2, pgQual := r.u 0x1C 2 }

/-- The records of a type. -/
def ofType (l : List RawRec) (ty : Nat) : List RawRec := l.filter fun r => r.ty == ty

/-- A whole Formula from its framed records. -/
def buildFormula (b : List Byte) (l : List RawRec) : Formula :=
  { generation := leAt b 0x10 4
    digest := BitVec.ofNat 512 (leAt b 0x40 64)
    device := ((ofType l 0x0001).head?.map (·.device)).getD {}
    arbiter := ((ofType l 0x0002).head?.map (·.arbiter)).getD {}
    severity := (ofType l 0x0003).map (·.severity)
    deleg := (ofType l 0x0004).map (·.deleg)
    flacons := (ofType l 0x0010).map (·.flacon)
    ports := (ofType l 0x0020).map (·.port)
    decoders := (ofType l 0x0030).map (·.decoder)
    bindings := (ofType l 0x0031).map (·.binding)
    regions := (ofType l 0x0040).map (·.region)
    routes := (ofType l 0x0050).map (·.route)
    wfq := (ofType l 0x0060).map (·.wfqRec)
    shapers := (ofType l 0x0061).map (·.shaperRec)
    gates := (ofType l 0x0062).map (·.gateRec)
    slots := (ofType l 0x0070).map (·.slotRec) }

/-! ### Stage 5: structure -/

/-- The first of the earlier records that p accepts: its index. -/
def earlier (before : List RawRec) (ty : Nat) (p : RawRec → Bool) : Option Nat := ((ofType before ty).find? p).map (·.idx)

/-- A reference that holds, or the failure naming an earlier record. -/
def clash (hit : Option Nat) (code off : Nat) : Chk := ⟨hit.isNone, code, off, hit.getD 0⟩

def spansMeet (a b c d : Nat) : Bool := decide (a < d) && decide (c < b)

/-- Whether a range lies wholly inside the decoders of Flacon f, which may adjoin (R54). -/
def insideDecoders (l : List DecoderRec) (f : Nat) (a stop : Nat) : Nat → Bool
  | 0 => false
  | n + 1 =>
    if stop ≤ a then true else
    match l.find? fun d => d.flacon == f && decide (d.base ≤ a) && decide (a < d.base + d.size) with
    | some d => insideDecoders l f (d.base + d.size) stop n
    | none => false

/-- The EID that R300 gives a (PORT, LD). -/
def ruleEid (f : Formula) (q ld : Nat) : Option Nat :=
  let l := endpoints f
  let e := (q, if ld = 0xFF then none else some ld)
  if l.contains e then some (f.device.mgmtEid + 1 + l.idxOf e) else none

def RawRec.structChecks (r : RawRec) (f : Formula) (before : List RawRec) : List Chk :=
  let hasFl (x : Nat) : Bool := f.flacons.any fun g => g.index == x
  let known (x o : Nat) : Chk := ⟨hasFl x, 0x0405, o, x⟩
  let portAt (q : Nat) : Option PortRec := f.ports.find? fun p => p.port == q
  let isPort (q : Nat) (role : Role) (fl : Nat) : Bool := match portAt q with
    | some p => p.role == role && p.flacon == fl
    | none => false
  match r.ty with
  | 0x0003 =>
    [ clash (earlier before 0x0003 fun x => spansMeet (x.u 8 2) (x.u 0x0A 2 + 1) (r.u 8 2) (r.u 0x0A 2 + 1)) 0x040D 8 ]
  | 0x0004 =>
    [ ⟨!(r.u 8 1 % 2 == 0 && r.u 9 1 != 0xFF), 0x040C, 9, 0⟩,
      ⟨!(r.u 0x0C 4 / 256 % 4 != 0 && r.u 0x10 4 != 0xFFFFFFFF), 0x040C, 0x0C, 0⟩ ]
  | 0x0020 =>
    let p := r.port
    let tile := p.firstLane / 8
    let std := !p.fabric
    let last := (((endpoints f).zip (List.range 4096)).filter fun e => e.1.1 == p.port).foldl (fun n e => max n e.2) 0
    let lanesHit := earlier before 0x0020 fun x =>
      spansMeet (x.u 0x0A 2) (x.u 0x0A 2 + x.u 0x0C 1) p.firstLane (p.firstLane + p.width)
      || (p.width == 16 && x.u 8 1 == p.port + 2)
    let ups := (ofType before 0x0020).filter fun x => x.u 0x0E 1 == 0
    [ clash (earlier before 0x0020 fun x => x.u 0x0C 1 == 16 && p.port == x.u 8 1 + 2) 0x0401 8,
      ⟨if p.width = 16 then p.port == 2 * tile else p.port / 2 == tile, 0x0402, 8, 0⟩,
      ⟨!(std && decide (16383 < f.device.mgmtEid + 1 + last)), 0x0409, 8, 0⟩ ] ++
    (if p.flacon = 0xFF then [] else [known p.flacon 9]) ++
    [ clash lanesHit 0x0401 0x0A,
      ⟨!(p.role == .upstream && p.fabric) && !(p.role == .fabric && std), 0x0403, 0x0E, 0⟩,
      ⟨!(p.role == .upstream && decide (64 ≤ ups.length)), 0x0404, 0x0E, 0⟩,
      ⟨!(p.sparing && !(p.protocol == .ictil && decide (8 ≤ p.width))) && !(p.dateline && std)
        && !(p.gpf && p.protocol != .cxl) && !(p.hotplug && !(p.role == .downstream && p.slot != 0xFF)), 0x0403, 0x10, 0⟩,
      clash (if p.slot = 0xFF then none else earlier before 0x0020 fun x => x.u 0x15 1 == p.slot) 0x040A 0x15 ]
  | 0x0030 =>
    let d := r.decoder
    let mask := ((f.flacons.find? fun g => g.index == d.flacon).map (·.sliceMask)).getD 1
    [ known d.flacon 0x0A, ⟨!(d.shared && mask == 0), 0x040E, 0x0B, d.flacon⟩,
      clash (earlier before 0x0030 fun x => spansMeet (x.u 0x10 8) (x.u 0x10 8 + x.u 0x18 8) d.base (d.base + d.size)) 0x0406
        0x10 ] ++
    (d.targets.zip (List.range 16)).map fun e =>
      let t := e.1
      let good := if t.port = 0xFF then f.routes.any fun x => decide (x.first ≤ t.eid) && decide (t.eid ≤ x.last)
        else isPort t.port .downstream d.flacon && ruleEid f t.port t.ld == some t.eid
      ⟨good, 0x0409, 0x20 + 8 * e.2, 0⟩
  | 0x0031 =>
    let x := r.binding
    [ known x.flacon 8, ⟨isPort x.usp .upstream x.flacon, 0x0409, 9, 0⟩, ⟨isPort x.dsp .downstream x.flacon, 0x0409, 0x0A, 0⟩ ]
  | 0x0040 =>
    let x := r.region
    [ known x.flacon 0x0A,
      clash (earlier before 0x0040 fun y => spansMeet (y.u 0x10 8) (y.u 0x18 8) x.start x.stop) 0x0407 0x10,
      ⟨insideDecoders f.decoders x.flacon x.start x.stop 4097, 0x0408, 0x10, 0⟩ ]
  | 0x0050 =>
    let x := r.route
    let own := f.device.mgmtEid
    let top := own + (endpoints f).length
    [ clash (earlier before 0x0050 fun y => spansMeet (y.u 8 2) (y.u 0x0A 2 + 1) x.first (x.last + 1)) 0x040B 8,
      ⟨!spansMeet x.first (x.last + 1) own (top + 1), 0x040B, 8, 0xFFFF⟩,
      ⟨x.ports.all fun q => (portAt q).any fun p => p.role == .fabric, 0x0409, 0x10, 0⟩ ]
  | 0x0060 | 0x0061 =>
    [ ⟨(portAt (r.u 8 1)).any fun p => p.flacon == 0xFF || p.flacon == r.u 9 1, 0x0409, 8, 0⟩, known (r.u 9 1) 9 ]
  | 0x0062 => [ ⟨(portAt (r.u 8 1)).isSome, 0x0409, 8, 0⟩ ]
  | _ => []

/-! ### Stage 6: shares (R59) -/

/-- The total of a share field over the FLACON records before a record and the record itself. -/
def shareTotal (before : List RawRec) (r : RawRec) (o n : Nat) : Nat :=
  (ofType before 0x0010).foldl (fun t x => t + x.u o n) (r.u o n)

def share (before : List RawRec) (r : RawRec) (o n limit code : Nat) : Chk :=
  let t := shareTotal before r o n
  ⟨decide (t ≤ limit), code, o, t - limit⟩

/-- The DIR_SETS total of slice n over a list of FLACON records. -/
def sliceSets (l : List RawRec) (n : Nat) : Nat :=
  l.foldl (fun t x => if (x.u 0x20 8).testBit n then t + x.u 0x18 4 else t) 0

/-- Stage 6 of one record (R59).  DESIGN CHOICE (log entry 73): REGION records beyond their Flacon's quota are reported at
the first such record, at its FLACON field (OFFSET 0x0A). -/
def RawRec.shareChecks (r : RawRec) (f : Formula) (all before : List RawRec) : List Chk :=
  match r.ty with
  | 0x0010 =>
    let g := r.flacon
    let durable := f.decoders.any fun d => d.flacon == g.index && (d.persistent || d.gpfProtected)
    let durOk := if g.durability = 1 then decide (8000 ≤ f.device.holdupUs) && f.device.vauxHours != 0
      else if g.durability = 2 then durable else true
    let low := (List.range 64).find? fun n => decide (131072 < sliceSets (ofType all 0x0010) n)
    let dirOk := match low with
      | some n => !(decide (131072 < sliceSets (ofType before 0x0010 ++ [r]) n)
          && decide (sliceSets (ofType before 0x0010) n ≤ 131072))
      | none => true
    [ ⟨durOk, 0x0509, 9, g.index⟩, share before r 0x0C 4 983040 0x0501, share before r 0x14 4 2883584 0x0502,
      ⟨dirOk, 0x0503, 0x18, low.getD 0⟩, share before r 0x1C 2 8192 0x0504, share before r 0x28 4 2097152 0x0505,
      ⟨decide (shareTotal before r 0x30 4 ≤ 65536), 0x0506, 0x30, g.index⟩,
      ⟨!(g.topnoteEn && g.topnoteRate == 0), 0x0509, 0x38, g.index⟩ ]
  | 0x0030 =>
    let sum (l : List RawRec) : Nat := l.foldl (fun t x => t + x.u 0x18 8) 0
    let l := ofType before 0x0030 ++ [r]
    [ ⟨decide (sum l ≤ 2 ^ 48), 0x0507, 0x18, 0⟩,
      ⟨!(r.decoder.shared && decide (2 ^ 46 < sum (l.filter fun x => x.decoder.shared))), 0x0508, 0x18, 0⟩ ]
  | 0x0040 =>
    let fl := r.u 0x0A 1
    let quota := ((f.flacons.find? fun g => g.index == fl).map (·.regionQuota)).getD 0
    let n := ((ofType before 0x0040).filter fun x => x.u 0x0A 1 == fl).length + 1
    [ ⟨decide (n ≤ quota), 0x0506, 0x0A, fl⟩ ]
  | _ => []

/-! ### Stage 7: schedules (R119) -/

/-- Lane rate codes 1 to 6, in 0.1 Gb/s (R51). -/
def rateTenths (c : Nat) : Nat := match c with | 1 => 25 | 2 => 50 | 3 => 80 | 4 => 160 | 5 => 320 | _ => 640

/-- The guard band of a port record: ⌈B × 8 / (lanes × lane rate) / 10 ns⌉ beats. -/
def formulaGuard (p : PortRec) : Nat :=
  let (b, rate) := if p.fabric then (80, 1000) else (5200, rateTenths p.maxRate)
  (b * 8 + p.width * rate - 1) / (p.width * rate)

/-- Two entries share a class other than MC0 and overlap. -/
def entriesClash (a b : GateEntry) : Bool :=
  (a.classes &&& b.classes) / 2 != 0 && spansMeet a.start (a.start + a.len) b.start (b.start + b.len)

/-- Stage 7 of one TIMEGATE record (R55, R59).  DESIGN CHOICE (log entry 73): two entries of equal START_BEAT stand in
ascending order. -/
def RawRec.gateChecks (r : RawRec) (f : Formula) : List Chk :=
  if r.ty ≠ 0x0062 then [] else
  let g := r.gateRec
  let need := ((f.ports.find? fun p => p.port == g.port).map formulaGuard).getD 0
  (List.range g.entries.length).flatMap fun i =>
    match g.entries[i]? with
    | none => []
    | some e =>
      let prior := g.entries.take i
      let ordered := match prior.getLast? with | some x => decide (x.start ≤ e.start) | none => true
      [ ⟨ordered && !(prior.any (entriesClash e)), 0x0602, 0x10 + 8 * i, i⟩,
        ⟨decide (need ≤ e.len), 0x0601, 0x14 + 8 * i, i⟩, ⟨decide (e.start + e.len ≤ g.cycle), 0x0603, 0x14 + 8 * i, i⟩ ]

/-! ### Validation -/

/-- The first failure over the records in file order; each check list sees the records before. -/
def overRecords (g : RawRec → List RawRec → List Chk) : List RawRec → List RawRec → Option FmlErr
  | _, [] => none
  | before, r :: rest =>
    match firstFail (g r before) r.idx with
    | some e => some e
    | none => overRecords g (before ++ [r]) rest

/-- Validate a Formula image (R58): the Formula, or the first failure. -/
def validate (b : List Byte) (serial : Nat) (owner : Option Line) (sigOk : Bool) : Formula ⊕ FmlErr :=
  match firstFail (headerChecks b serial) 0xFFFF with
  | some e => .inr e
  | none =>
  match firstFail (trailerChecks b owner sigOk) 0xFFFF with
  | some e => .inr e
  | none =>
  let len := leAt b 8 4
  match frame ((b.drop 128).take (len - 3096 - 128)) [] 0 len with
  | (_, some e) => .inr e
  | (l, none) =>
  match firstFail (countChecks b l) 0xFFFF with
  | some e => .inr e
  | none =>
  match overRecords (fun r _ => r.fieldChecks) [] l with
  | some e => .inr e
  | none =>
  let f := buildFormula b l
  match overRecords (fun r before => r.structChecks f before) [] l with
  | some e => .inr e
  | none =>
  match overRecords (fun r before => r.shareChecks f l before) [] l with
  | some e => .inr e
  | none =>
  match overRecords (fun r _ => r.gateChecks f) [] l with
  | some e => .inr e
  | none => .inl f

/-- The image in a Formula slot: LENGTH bytes, or the header alone where LENGTH is beyond the slot. -/
def slotImage (m : List Host.Cell) (slot : Nat) : List Byte :=
  let len := leNat (memRange m (fmlSlotBase slot + 8) 4)
  memRange m (fmlSlotBase slot) (if len ≤ fmlSlotSize then max len 128 else 128)

/-- The DIGEST field in the header of a slot (R41). -/
def slotDigest (m : List Host.Cell) (slot : Nat) : Line := BitVec.ofNat 512 (leNat (memRange m (fmlSlotBase slot + 0x40) 64))

/-- The Formula slot validated under the fuses in force. -/
def State.validateSlot (s : State) (slot : Nat) (sigOk : Bool) : Formula ⊕ FmlErr :=
  validate (slotImage s.mgmt.flash slot) s.mgmt.fuses.serial.toNat (ownerDigest s.mgmt.fuses) sigOk

/-- A validation's result shown in MG_FML_ERR and CHIP_BOOT_STATUS.ERROR (R58).  DESIGN CHOICE (log entry 73): an AUX above
0xFFFF is capped for every code, and a RECORD index shows its low 16 bits. -/
def State.showFmlErr (s : State) (e : FmlErr) : State :=
  ((((s.wr Reg.MG_FML_ERR Fld.MG_FML_ERR.CODE e.code).wr Reg.MG_FML_ERR Fld.MG_FML_ERR.RECORD e.record).wr
    Reg.MG_FML_ERR Fld.MG_FML_ERR.OFFSET e.offset).wr Reg.MG_FML_ERR Fld.MG_FML_ERR.AUX e.aux).wr
    Reg.CHIP_BOOT_STATUS Fld.CHIP_BOOT_STATUS.ERROR e.code

end Sys2Proof.Machine
end

