-- ==== Sys2Proof/Machine/LaneOps.lean ====
section
/-!
DEFINITION. Machine/LaneOps.lean: lanes: places and stages (R245, R249), transmitter taps (R251), stamps (R256), re-tunes
(R259 to R261), tests (R263 to R267).
-/
namespace Sys2Proof.Machine

/-! Stages of R249 Table 2; 8 is standard link training. -/
def Stage.OFF : Nat := 0
def Stage.DETECT : Nat := 1
def Stage.TRAIN : Nat := 2
def Stage.LOCK : Nat := 3
def Stage.IDENT : Nat := 4
def Stage.ACTIVE : Nat := 5
def Stage.WAIT : Nat := 6
def Stage.TEST : Nat := 7
def Stage.STD : Nat := 8

def State.stage (s : State) (l : Nat) : Nat := s.rd (Reg.LN_STATUS l) Fld.LN_STATUS.STAGE
def State.setStage (s : State) (l x : Nat) : State := s.wr (Reg.LN_STATUS l) Fld.LN_STATUS.STAGE x

def State.laneSt (s : State) (l : Nat) : LaneState := tabGet s.lane l {}
def State.modLane (s : State) (l : Nat) (g : LaneState → LaneState) : State := { s with lane := tabMod s.lane l {} g }

/-- Chip lane of port lane i (R245). -/
def PortRec.chipLane (p : PortRec) (i : Nat) : Nat := p.firstLane + if p.laneReverse then p.width - 1 - i else i

/-- Port lane of chip lane l. -/
def PortRec.portLane (p : PortRec) (l : Nat) : Nat :=
  if p.laneReverse then p.firstLane + p.width - 1 - l else l - p.firstLane

/-- A port's first training attempt has ended (R253). -/
def State.attemptDone (s : State) (q : Nat) : State :=
  { s with fml := { s.fml with retrain := s.fml.retrain.filter (· != q) } }

/-- Modes in which bring-up runs (R253). -/
def State.lanesTrain (s : State) : Bool := s.inMode [.compose, .serve, .recompose, .revive]

/-- A lane in service: an Ictil or Flocet lane ACTIVE, a CXL or PCIe lane of a port whose link is up. -/
def State.laneActive (s : State) (l : Nat) : Bool :=
  s.stage l == Stage.ACTIVE ||
  (s.stage l == Stage.STD && match s.lanePort l with | some p => s.portUp p.port | none => false)

/-! ### Bring-up -/

/-- An entry into DETECT is counted (LN_TRAIN.ATTEMPTS). -/
def State.toDetect (s : State) (l : Nat) : State := (s.setStage l Stage.DETECT).inc (Reg.LN_TRAIN l) Fld.LN_TRAIN.ATTEMPTS

/-- Locks lost and IDENT forgotten. -/
def State.dropLocks (s : State) (l : Nat) : State :=
  (((s.set0 (Reg.LN_STATUS l) Fld.LN_STATUS.CDR_LOCK).set0 (Reg.LN_STATUS l) Fld.LN_STATUS.CW_LOCK).set0 (Reg.LN_STATUS l)
    Fld.LN_STATUS.BLOCK_LOCK).modLane l fun x =>
    { x with ident := none, identCount := 0, identAck := false, identDone := false, leftAttempt := false }

/-- The lane leaves service or its attempt for WAIT. -/
def State.toWait (s : State) (l : Nat) : State := (s.dropLocks l).setStage l Stage.WAIT

/-- A re-tune in progress is abandoned (R261). -/
def State.abandonRetune (s : State) (l : Nat) : State :=
  ((s.modLane l fun x => { x with level := 0, levelHeld := false, waiting := none, loadDue := false }).set0 (Reg.LN_RETUNE l) Fld.LN_RETUNE.ACTIVE).set0
    (Reg.LN_RETUNE l) Fld.LN_RETUNE.PENDING

/-- The lane in electrical idle, out of bring-up. -/
def State.toOff (s : State) (l : Nat) : State := ((s.abandonRetune l).dropLocks l).setStage l Stage.OFF

/-! ### Tests that stop -/

/-- The generator, the checker and the loopback of a lane off (R266); outside LINKTEST its transmitter is idle again. -/
def State.stopTest (s : State) (l : Nat) : State :=
  let s1 := (s.wr (Reg.LN_PRBS_CTL l) ⟨0, 12⟩ 0).set0 (Reg.LN_PRBS_STATUS l) Fld.LN_PRBS_STATUS.CHK_LOCK
  if s.md != .linktest && s.stage l == Stage.TEST then s1.setStage l Stage.OFF else s1

/-- The lanes whose register of a family holds a value that p accepts, among those not at reset. -/
def State.lanesWith (s : State) (reg : Nat → Nat) (p : Word → Bool) : List Nat :=
  (List.range 512).filter fun l => match tabFind s.regs (reg l) with | some w => p w | none => false

/-- Every test that runs outside LINKTEST stops: no test runs in DRYDOWN and QUARANTINE (R266). -/
def State.stopTests (s : State) : State :=
  (s.lanesWith Reg.LN_STATUS fun w => getFld w Fld.LN_STATUS.STAGE == Stage.TEST).foldl (fun t l => t.stopTest l) s

/-- Bring-up of a port's lanes starts (R249): DETECT, or standard training; a disabled lane stays OFF, or under its test. -/
def State.startLane (s : State) (p : PortRec) (l : Nat) : State :=
  let s0 := ((s.wr (Reg.LN_STATUS l) Fld.LN_STATUS.PORT_LANE (p.portLane l)).wrB (Reg.LN_STATUS l) Fld.LN_STATUS.RX_INV
    (p.rxPolarity.testBit (p.portLane l))).wr (Reg.LN_STATUS l) Fld.LN_STATUS.RATE (if p.fabric then 6 else 0)
  if s0.on (Reg.LN_CTL l) Fld.LN_CTL.DISABLE then (if s0.stage l = Stage.TEST then s0 else s0.toOff l)
  else
    let s1 := (if s0.stage l = Stage.TEST then s0.stopTest l else s0).dropLocks l
    if p.fabric then s1.toDetect l else s1.setStage l Stage.STD

/-! ### Transmitter taps (R251) -/

/-- Ranges of the taps C(−2), C(−1), C(0), C(+1), in 1/64 of full swing. -/
def tapRange : List (Int × Int) := [(0, 8), (-20, 0), (32, 63), (-20, 0)]

def tapSum (l : List Int) : Nat := l.foldl (fun n x => n + x.natAbs) 0

/-- The presets. -/
def presetTaps : Nat → List Int
  | 1 => [0, 0, 63, 0]
  | 3 => [2, -12, 43, -6]
  | _ => [0, -8, 47, -8]

def State.taps (s : State) (l : Nat) : List Int :=
  [s.rdS (Reg.LN_TXFIR l) Fld.LN_TXFIR.CM2, s.rdS (Reg.LN_TXFIR l) Fld.LN_TXFIR.CM1, s.rdS (Reg.LN_TXFIR l) Fld.LN_TXFIR.C0,
   s.rdS (Reg.LN_TXFIR l) Fld.LN_TXFIR.CP1]

def State.setTaps (s : State) (l : Nat) (t : List Int) : State :=
  (((s.wrS (Reg.LN_TXFIR l) Fld.LN_TXFIR.CM2 (t.getD 0 0)).wrS (Reg.LN_TXFIR l) Fld.LN_TXFIR.CM1 (t.getD 1 0)).wrS
    (Reg.LN_TXFIR l) Fld.LN_TXFIR.C0 (t.getD 2 0)).wrS (Reg.LN_TXFIR l) Fld.LN_TXFIR.CP1 (t.getD 3 0)

/-- A transmitter starts TRAIN: at PRESET2, with no request answered (R251). -/
def State.startFir (s : State) (l : Nat) : State := (s.setTaps l (presetTaps 2)).modLane l fun x => { x with sts := [0, 0, 0, 0] }

/-- One tap's request: the taps and the STS it is answered with. -/
def tapStep (t : List Int) (i req sts : Nat) : List Int × Nat :=
  if sts ≠ 0 then (t, if req = 0 then 0 else sts)
  else if req = 1 ∨ req = 2 then
    let x := t.getD i 0 + (if req = 1 then 1 else -1)
    let u := t.set i x
    let (lo, hi) := tapRange.getD i (0, 0)
    if lo ≤ x ∧ x ≤ hi ∧ tapSum u ≤ 63 then (u, 1) else (t, if req = 1 then 3 else 2)
  else (t, 0)

/-- The requests of a training frame or an FIR_REQ handled: taps and STS (R251). -/
def State.firRequest (s : State) (l req preset : Nat) : State :=
  let x := s.laneSt l
  if preset ≠ 0 then (s.setTaps l (presetTaps preset)).modLane l fun y => { y with sts := [1, 1, 1, 1] }
  else
    let (t, sts) := ([0, 1, 2, 3] : List Nat).foldl (fun (acc : List Int × List Nat) i =>
      let (u, a) := tapStep acc.1 i (req / 4 ^ i % 4) (x.sts.getD i 0)
      (u, acc.2 ++ [a])) (s.taps l, [])
    (s.setTaps l t).modLane l fun y => { y with sts := sts }

/-- The STS byte of a lane. -/
def State.stsByte (s : State) (l : Nat) : Nat :=
  (s.laneSt l).sts.foldr (fun a n => n * 4 + a % 4) 0

/-! ### Stamps (R256) -/

/-- The TJ a stamp takes, and whether it came from CHIP_TJ. -/
def State.stampTj (s : State) (l : Nat) : Nat × Bool :=
  let k := 6 + 2 * quadOf (l / 8)
  let ok (n : Nat) : Bool := s.on (Reg.CHIP_TSENSE n) Fld.CHIP_TSENSE.VALID
  let v (n : Nat) : Int := s.rdS (Reg.CHIP_TSENSE n) Fld.CHIP_TSENSE.TEMP
  let raw (n : Nat) : Nat := s.rd (Reg.CHIP_TSENSE n) Fld.CHIP_TSENSE.TEMP
  if ok k && ok (k + 1) then ((if v k < v (k + 1) then raw (k + 1) else raw k), false)
  else if ok k then (raw k, false)
  else if ok (k + 1) then (raw (k + 1), false)
  else (s.rd Reg.CHIP_TJ Fld.CHIP_TJ.TJ_MAX, true)

/-- A completed adaptation stamps the lane. -/
def State.stamp' (s : State) (l load cause : Nat) : State :=
  let (tj, src) := s.stampTj l
  let r := Reg.LN_ADAPT_STAMP l
  ((((s.wr r Fld.LN_ADAPT_STAMP.TJ tj).wr r Fld.LN_ADAPT_STAMP.LOAD load).wr r Fld.LN_ADAPT_STAMP.CAUSE cause).wrB r
    Fld.LN_ADAPT_STAMP.TJ_SRC src).setReg (Reg.LN_ADAPT_TIME l) (s.reg Reg.CHIP_TIME)

/-! ### Re-tunes (R259 to R261) -/

/-- Both margins at or above their minimums. -/
def State.marginsOk (s : State) (l v h : Nat) : Bool :=
  decide (s.rd (Reg.LN_MARGIN_MIN l) Fld.LN_MARGIN_MIN.V_MIN ≤ v) && decide (s.rd (Reg.LN_MARGIN_MIN l) Fld.LN_MARGIN_MIN.H_MIN ≤ h)

/-- The lanes of a lane's port. -/
def State.portLanesOf (s : State) (l : Nat) : List Nat := match s.lanePort l with | some p => p.lanes | none => []

/-- A trigger on a lane (R259, R261): dropped during its own re-tune and in DRYDOWN and QUARANTINE, held while a host run
or another lane of its port goes on; otherwise level L1 starts. -/
def State.trigger (s : State) (l cause : Nat) : State :=
  let x := s.laneSt l
  if s.md = .drydown ∨ s.md = .quarantine ∨ !s.laneActive l ∨ x.level ≠ 0 then s
  else if x.stuck && cause != 2 && cause != 4 then s
  else if x.hostRun || (s.portLanesOf l).any fun k => k != l && (s.laneSt k).level != 0 then
    (s.modLane l fun y => { y with waiting := some cause }).set1 (Reg.LN_RETUNE l) Fld.LN_RETUNE.PENDING
  else
    let r := Reg.LN_RETUNE l
    ((((s.modLane l fun y => { y with level := 1, cause := cause, waiting := none, stuck := false }).inc r
      Fld.LN_RETUNE.L1).wr r Fld.LN_RETUNE.LAST_CAUSE cause).set1 r Fld.LN_RETUNE.ACTIVE).set0 r Fld.LN_RETUNE.PENDING

/-- Triggers that wait on a port's lanes start, lowest lane first. -/
def State.startWaiting (s : State) (lanes : List Nat) : State :=
  if lanes.any fun k => (s.laneSt k).level != 0 then s else
  match lanes.find? fun k => (s.laneSt k).waiting.isSome && !(s.laneSt k).hostRun with
  | none => s
  | some k => s.trigger k ((s.laneSt k).waiting.getD 0)

/-- Trigger 2 (R259): TJ has moved by more than 15 °C since the stamp. -/
def State.tempTrigger (s : State) (l : Nat) : State :=
  let any := (List.range 14).any fun n => s.on (Reg.CHIP_TSENSE n) Fld.CHIP_TSENSE.VALID
  let f : Fld := ⟨0, 16⟩
  let now : Int := getFldS (BitVec.ofNat 64 (s.stampTj l).1) f
  let old := s.rdS (Reg.LN_ADAPT_STAMP l) Fld.LN_ADAPT_STAMP.TJ
  if any && s.on (Reg.LN_CTL l) Fld.LN_CTL.TEMP_TRIG_EN && decide (240 < (now - old).natAbs) then s.trigger l 2 else s
where
  /-- A signed field of a word. -/
  getFldS (w : Word) (f : Fld) : Int :=
    let x := getFld w f
    if x < 2 ^ (f.width - 1) then (x : Int) else (x : Int) - 2 ^ f.width

/-- Trigger 3 (R259): LOAD has moved by more than LOAD_DELTA since the stamp.  It asks for a measurement at once. -/
def State.loadTrigger (s : State) (l load : Nat) : State :=
  let old := s.rd (Reg.LN_ADAPT_STAMP l) Fld.LN_ADAPT_STAMP.LOAD
  let delta := if old < load then load - old else old - load
  let x := s.laneSt l
  if s.md != .drydown && s.md != .quarantine && s.laneActive l && x.level == 0 && !x.stuck
      && s.on (Reg.LN_CTL l) Fld.LN_CTL.LOAD_TRIG_EN && decide (s.rd (Reg.LN_MARGIN_MIN l) Fld.LN_MARGIN_MIN.LOAD_DELTA < delta) then
    s.modLane l fun y => { y with loadDue := true }
  else s

/-- The measurement that trigger 3 asked for: margins that hold leave only a new LOAD and CAUSE in the stamp (R259). -/
def State.loadMeasured (s : State) (l load : Nat) (ok : Bool) : State :=
  if (s.laneSt l).level ≠ 0 then s
  else if ok then (s.wr (Reg.LN_ADAPT_STAMP l) Fld.LN_ADAPT_STAMP.LOAD load).wr (Reg.LN_ADAPT_STAMP l) Fld.LN_ADAPT_STAMP.CAUSE 3
  else s.trigger l 3

/-- Milliseconds between the monitor's measurements (R258, R259): MON_INT, halved while no sensor of the die is left, at
least 1. -/
def State.monInterval (s : State) (l : Nat) : Nat :=
  let n := max 1 (s.rd (Reg.LN_MARGIN_MIN l) Fld.LN_MARGIN_MIN.MON_INT)
  if (List.range 14).any fun k => s.on (Reg.CHIP_TSENSE k) Fld.CHIP_TSENSE.VALID then n else max 1 (n / 2)

/-- A measurement shown in LN_MARGIN. -/
def State.showMargin (s : State) (l v h : Nat) : State :=
  let r := Reg.LN_MARGIN l
  (((s.wr r Fld.LN_MARGIN.V_MV v).wr r Fld.LN_MARGIN.H h).set1 r Fld.LN_MARGIN.VALID).wrB r Fld.LN_MARGIN.LOW (!s.marginsOk l v h)

/-- A monitor measurement (R258, R259). -/
def State.measure (s : State) (l v h load : Nat) : State :=
  let x := s.laneSt l
  if !s.laneActive l ∨ !s.on (Reg.LN_CTL l) Fld.LN_CTL.MON_EN ∨ x.hostRun then s else
  let ok := s.marginsOk l v h
  let lows := if ok then 0 else x.lows + 1
  let goods := if ok then x.goods + 1 else 0
  let s1 := (s.showMargin l v h).modLane l fun y =>
    { y with lows := lows, goods := goods, stuck := y.stuck && decide (goods < 2), loadDue := false }
  if 2 ≤ lows then
    let s2 := (s1.set1 (Reg.LN_ERR l) Fld.LN_ERR.MARGIN_LOW).raise (srcTile (l / 8) 6) none
    (s2.modLane l fun y => { y with lows := 0 }).trigger l 1
  else
    let s2 := s1.tempTrigger l
    if x.loadDue then s2.loadMeasured l load ok else s2.loadTrigger l load

/-- Level L2 of a lane's re-tune starts. -/
def State.startL2 (s : State) (l : Nat) : State :=
  (s.modLane l fun y => { y with level := 2, levelHeld := false }).inc (Reg.LN_RETUNE l) Fld.LN_RETUNE.L2

/-- A level of a re-tune ends with a measurement (R260): the state, and whether the lane has failed (L3). -/
def State.levelDone (s : State) (l v h load : Nat) : State × Bool :=
  let x := s.laneSt l
  let r := Reg.LN_RETUNE l
  let finish (t : State) : State :=
    let t1 := (t.modLane l fun y => { y with level := 0, hostRun := y.hostRun || y.hostWait, hostWait := false }).set0 r
      Fld.LN_RETUNE.ACTIVE
    t1.startWaiting (t1.portLanesOf l)
  if x.level = 0 ∨ x.levelHeld then (s, false)
  else
    let s1 := s.showMargin l v h
    if s1.marginsOk l v h then (finish (s1.stamp' l load x.cause), false)
    else
      let flocet := match s.lanePort l with | some p => p.protocol == .flocet | none => false
      if x.level = 1 ∧ !flocet then
        -- a host run that came during the level goes before the next one (R261)
        if x.hostWait then
          (s1.modLane l fun y => { y with hostRun := true, hostWait := false, levelHeld := true }, false)
        else (s1.startL2 l, false)
      else if 2 * v < s1.rd (Reg.LN_MARGIN_MIN l) Fld.LN_MARGIN_MIN.V_MIN ∨ 2 * h < s1.rd (Reg.LN_MARGIN_MIN l) Fld.LN_MARGIN_MIN.H_MIN then
        (finish (s1.inc r Fld.LN_RETUNE.L3), true)
      else
        let s2 := (s1.set1 (Reg.LN_ERR l) Fld.LN_ERR.RETUNE_FAIL).raise (srcTile (l / 8) 7) none
        (finish (s2.modLane l fun y => { y with stuck := true, goods := 0 }), false)

/-! ### Tests (R263 to R267) -/

/-- Whether a generator, checker or loopback may run on a lane (R266). -/
def State.testAllowed (s : State) (l : Nat) : Bool :=
  s.md == .linktest ||
  (s.inMode [.compose, .serve, .recompose] && ((s.lanePort l).isNone || s.on (Reg.LN_CTL l) Fld.LN_CTL.DISABLE))

/-- Whether a value of LN_PRBS_CTL starts something the register in force does not run. -/
def prbsStarts (old new : Word) : Bool :=
  (getFld new Fld.LN_PRBS_CTL.GEN_EN == 1 && getFld old Fld.LN_PRBS_CTL.GEN_EN == 0)
  || (getFld new Fld.LN_PRBS_CTL.CHK_EN == 1 && getFld old Fld.LN_PRBS_CTL.CHK_EN == 0)
  || (getFld new Fld.LN_PRBS_CTL.LOOPBACK != 0 && getFld old Fld.LN_PRBS_CTL.LOOPBACK != getFld new Fld.LN_PRBS_CTL.LOOPBACK)

/-- Outside LINKTEST a lane in electrical idle shows TEST while a generator, checker or loopback runs on it, OFF
otherwise (R249 Table 2). -/
def State.showTest (s : State) (l : Nat) : State :=
  let w := s.reg (Reg.LN_PRBS_CTL l)
  let runs := getFld w Fld.LN_PRBS_CTL.GEN_EN == 1 || getFld w Fld.LN_PRBS_CTL.CHK_EN == 1
    || getFld w Fld.LN_PRBS_CTL.LOOPBACK != 0
  if s.md != .linktest && (s.stage l == Stage.OFF || s.stage l == Stage.TEST) then
    s.setStage l (if runs then Stage.TEST else Stage.OFF)
  else s

/-- A write of LN_PRBS_CTL (R263, R266): its fields below REFUSED, whose 1 clears it. -/
def State.prbsWrite (s : State) (l : Nat) (w : Word) : State :=
  let r := Reg.LN_PRBS_CTL l
  let old := s.reg r
  let s0 := if getFld w Fld.LN_PRBS_CTL.REFUSED = 1 then s.set0 r Fld.LN_PRBS_CTL.REFUSED else s
  if prbsStarts old w && !s.testAllowed l then s0.set1 r Fld.LN_PRBS_CTL.REFUSED
  else
    let s1 := (s0.wr r ⟨0, 12⟩ (w.toNat % 2 ^ 12)).showTest l
    if getFld w Fld.LN_PRBS_CTL.CHK_EN = 1 ∧ getFld old Fld.LN_PRBS_CTL.CHK_EN = 0 then
      ((s1.setReg (Reg.LN_PRBS_BITS l) 0).setReg (Reg.LN_PRBS_ERRS l) 0).set0 (Reg.LN_PRBS_STATUS l) Fld.LN_PRBS_STATUS.CHK_LOCK
    else if getFld w Fld.LN_PRBS_CTL.CHK_EN = 0 then s1.set0 (Reg.LN_PRBS_STATUS l) Fld.LN_PRBS_STATUS.CHK_LOCK
    else s1

/-- Bits inverted on a lane (R264): refused on an ACTIVE lane of an anchored port; into live data only with TARGET set,
otherwise after a running generator. -/
def State.inject (s : State) (l bits : Nat) : State :=
  let active := s.laneActive l
  let anchored := match s.lanePort l with | some p => p.anchored | none => false
  if active && anchored then s.set1 (Reg.LN_PRBS_INJ l) Fld.LN_PRBS_INJ.REFUSED
  else if (active && s.on (Reg.LN_PRBS_INJ l) Fld.LN_PRBS_INJ.TARGET) || s.on (Reg.LN_PRBS_CTL l) Fld.LN_PRBS_CTL.GEN_EN then
    s.emit (.injected l bits)
  else s

/-- BURST (R264): BURST_LEN consecutive bits; 0 acts as 1. -/
def State.injectBurst (s : State) (l : Nat) : State := s.inject l (max 1 (s.rd (Reg.LN_PRBS_INJ l) Fld.LN_PRBS_INJ.BURST_LEN))

/-- A LINKTEST run starts (R267). -/
def State.testStart (s : State) (l : Nat) : State :=
  if s.md ≠ .linktest ∨ !s.on (Reg.LN_TEST_CFG l) Fld.LN_TEST_CFG.EN then s else
  let cfg := s.reg (Reg.LN_TEST_CFG l)
  let s1 := ((s.modLane l fun x => { x with test := some cfg, counting := false }).wr (Reg.LN_STATUS l) Fld.LN_STATUS.RATE
    (getFld cfg Fld.LN_TEST_CFG.RATE)).wr (Reg.LN_STATUS l) Fld.LN_STATUS.RX_INV (getFld cfg Fld.LN_TEST_CFG.RX_INV)
  if getFld cfg Fld.LN_TEST_CFG.ADAPT = 1 then (s1.setTaps l (presetTaps 2)).toDetect l
  else
    -- at the rates of CXL and PCIe the preset is the standard's own
    (if getFld cfg Fld.LN_TEST_CFG.RATE = 6 then s1.setTaps l (presetTaps (getFld cfg Fld.LN_TEST_CFG.PRESET)) else s1).setStage l
      Stage.TEST

/-- The 10 ms of a test without ADAPT have passed. -/
def State.testCounts (s : State) (l : Nat) : State :=
  if s.md = .linktest ∧ s.stage l = Stage.TEST then s.modLane l fun x => { x with counting := true } else s

/-- The checker of lane l locks after 64 bits without error (R263). -/
def State.chkLock (s : State) (l : Nat) : State :=
  if s.on (Reg.LN_PRBS_CTL l) Fld.LN_PRBS_CTL.CHK_EN && s.testAllowed l
      && (s.md != .linktest || (s.laneSt l).counting || (s.laneSt l).test.all fun w => getFld w Fld.LN_TEST_CFG.ADAPT == 1) then
    s.set1 (Reg.LN_PRBS_STATUS l) Fld.LN_PRBS_STATUS.CHK_LOCK
  else s

/-- Bits and errors counted up to a loss of lock (R263). -/
def State.chkLoss (s : State) (l bits errs : Nat) : State :=
  if !s.on (Reg.LN_PRBS_STATUS l) Fld.LN_PRBS_STATUS.CHK_LOCK then s
  else (((s.addTo (Reg.LN_PRBS_BITS l) Fld.LN_PRBS_BITS.BITS bits).addTo (Reg.LN_PRBS_ERRS l) Fld.LN_PRBS_ERRS.ERRORS errs).inc
    (Reg.LN_PRBS_STATUS l) Fld.LN_PRBS_STATUS.LOCK_LOSS).set0 (Reg.LN_PRBS_STATUS l) Fld.LN_PRBS_STATUS.CHK_LOCK

/-- Every lane of LINKTEST in electrical idle (R267): counts and stamps keep their values. -/
def State.testsEnd (s : State) : State :=
  (List.range 512).foldl (fun t l =>
    if t.stage l = Stage.OFF ∧ t.reg (Reg.LN_PRBS_CTL l) = 0 then t
    else ((((t.wr (Reg.LN_PRBS_CTL l) ⟨0, 12⟩ 0).set0 (Reg.LN_PRBS_STATUS l) Fld.LN_PRBS_STATUS.CHK_LOCK).modLane l fun x =>
      { x with test := none, counting := false }).toOff l)) s

end Sys2Proof.Machine
end

