-- ==== Sys2Proof/Machine/Link.lean ====
section
/-!
DEFINITION. Machine/Link.lean: the Ictil and Flocet link layer: storage and pacing (R275, R277), lane maps (R286 to R289),
link states, restarts and linger (R290 to R295), flits sent and received (R272, R276 to R282).
-/
namespace Sys2Proof.Machine

/-! ### Sizes and pacing -/

/-- Replay flits F and pool P of Table 5. -/
def replayFlits (width : Nat) : Nat := if width = 16 then 307 else if width = 8 then 153 else 76
def poolSize (width : Nat) : Nat := if width = 16 then 4659 else if width = 8 then 2201 else 972

/-- RTT in ns (R277). -/
def rttNs (p : PortRec) (l : LinkState) : Nat := 10 * max p.cableM l.partnerCable + 400

/-- H: 16 × ⌈RTT / t_p⌉, with n data lanes, t_f = 102,400/n ps and t_p the larger of t_f and 16 × RTT / (P − 80). -/
def headroom (width rtt n : Nat) : Nat :=
  16 * min ((102399 + rtt * 1000 * n) / 102400) ((poolSize width - 80 + 15) / 16)

/-- t_p > t_f. -/
def paced (width rtt n : Nat) : Bool := decide (102400 * (poolSize width - 80) < 16 * rtt * 1000 * n)

/-- An error of the link layer: its bit of PT_LL_ERR and its fault (R297). -/
def State.linkErr (s : State) (q : Nat) (f : Fld) (k : Nat) : State :=
  (s.set1 (Reg.PT_LL_ERR q) f).raise (srcQuad (quadOf (tileOf q)) k) none

/-! ### Lane maps (R286) -/

/-- The healthy-lane mask of the port's own receiver: ACTIVE lanes, which have completed IDENT. -/
def State.healthMask (s : State) (p : PortRec) : Nat :=
  ((List.range p.width).filter fun i => s.stage (p.chipLane i) == Stage.ACTIVE).foldl setBitAt 0

/-- The lanes of tile half h in a map. -/
def halfLanes (map : List Nat) (h : Nat) : List Nat := map.filter fun i => i / 8 == h

/-- The data lanes of tile half h: with SPARING seven of its eight lanes, the spare in place of one that failed.  A lane
that comes back after that is its half's spare (R286): seven lanes of the map in use that are all healthy stay. -/
def halfMap (sparing : Bool) (mask h : Nat) (cur : List Nat) : Option (List Nat) :=
  let up (i : Nat) : Bool := mask.testBit (8 * h + i)
  if sparing then
    if (halfLanes cur h).length = 7 ∧ (halfLanes cur h).all mask.testBit then some (halfLanes cur h) else
    match (List.range 7).filter fun i => !up i with
    | [] => some ((List.range 7).map (8 * h + ·))
    | [x] => if up 7 then some (((List.range 8).filter (· != x)).map (8 * h + ·)) else none
    | _ => none
  else if (List.range 8).all up then some ((List.range 8).map (8 * h + ·)) else none

/-- The full-width candidate, from the map in use. -/
def fullMap (p : PortRec) (mask : Nat) (cur : List Nat) : Option (List Nat) :=
  if p.width = 16 then
    match halfMap p.sparing mask 0 cur, halfMap p.sparing mask 1 cur with
    | some a, some b => some (a ++ b)
    | _, _ => none
  else if p.width = 8 then halfMap p.sparing mask 0 cur
  else if (List.range p.width).all mask.testBit then some (List.range p.width) else none

/-- The first fully healthy group of four. -/
def quadMap (width mask : Nat) : Option (List Nat) :=
  (((List.range (width / 4)).map fun g => (List.range 4).map (4 * g + ·)).find? fun l => l.all mask.testBit)

/-- The map a mask allows where cur is in use ([] at a session's start); the empty list is the map of None. -/
def laneMap (p : PortRec) (mask : Nat) (cur : List Nat) : List Nat :=
  match fullMap p mask cur with
  | some l => l
  | none =>
    let x8 := if p.width = 16 then (halfMap p.sparing mask 0 cur).or (halfMap p.sparing mask 1 cur) else none
    match x8 with
    | some l => l
    | none => (quadMap p.width mask).getD []

/-- Full width in data lanes. -/
def fullWidth (p : PortRec) : Nat := if p.sparing ∧ 8 ≤ p.width then p.width / 8 * 7 else p.width

/-- In tile half h the spare takes a failed lane's place (R287): its seven data lanes are others than before, or the first
of the half's that its lane 7 is one of. -/
def spareSwap (p : PortRec) (old map : List Nat) (h : Nat) : Bool :=
  p.sparing && (halfLanes map h).length == 7 && halfLanes map h != halfLanes old h &&
    ((halfLanes old h).length == 7 || map.contains (8 * h + 7))

/-- A map change that keeps the width and swaps spares only (R288). -/
def onlySwaps (p : PortRec) (old map : List Nat) : Bool :=
  old.length == map.length && (List.range 2).all fun h => halfLanes map h == halfLanes old h || spareSwap p old map h

/-- SPARE_USED of a map: lane 7 of the half carries data (R286). -/
def spareUsed (p : PortRec) (l : List Nat) : Nat :=
  if !p.sparing then 0 else (if l.contains 7 then 1 else 0) + (if l.contains 15 then 2 else 0)

/-- PT_LL_STATUS's map fields, and what follows the width: H, pacing, the guard band (R277, R287). -/
def State.showMap (s : State) (p : PortRec) : State :=
  let q := p.port
  let l := s.linkSt q
  let r := Reg.PT_LL_STATUS q
  let rtt := rttNs p l
  let n := l.txMap.length
  let idle (t : State) (i : Nat) : State :=
    t.wrB (Reg.LN_STATUS (p.chipLane i)) Fld.LN_STATUS.SPARE
      (p.sparing && t.stage (p.chipLane i) == Stage.ACTIVE && !l.txMap.isEmpty && !l.txMap.contains i)
  let s := if p.sparing then (List.range p.width).foldl idle s else s
  (((((((s.wr r Fld.PT_LL_STATUS.TX_LANES n).wr r Fld.PT_LL_STATUS.RX_LANES l.rxMap.length).wr r Fld.PT_LL_STATUS.SPARE_USED
    (spareUsed p l.txMap)).wr r Fld.PT_LL_STATUS.RTT_NS rtt).wr r Fld.PT_LL_STATUS.HEADROOM (headroom p.width rtt n)).wrB r
    Fld.PT_LL_STATUS.PACED (paced p.width rtt n)).wrB r Fld.PT_LL_STATUS.FLOCET (p.protocol == .flocet)).regate q

/-! ### Sessions (R290) -/

def State.setLink (s : State) (q x : Nat) : State := s.wr (Reg.PT_LL_STATUS q) Fld.PT_LL_STATUS.STATE x

/-- The port's link runs: its map is not None. -/
def State.linkRuns (s : State) (q : Nat) : Bool := !(s.linkSt q).txMap.isEmpty

/-- LL_WIDTH_DOWN (R297): the transmitter's new map is narrower than full width. -/
def State.noteWidth (s : State) (p : PortRec) : State :=
  if (s.linkSt p.port).txMap.length < fullWidth p then s.linkErr p.port Fld.PT_LL_ERR.WIDTH 10 else s

/-- A new session (R289, R290): every count restarts, RX_LANES goes out, the map of R286 over the ACTIVE lanes.  A
restart's exchange in progress goes on (R291); cells still in receive storage keep its room and return no credit. -/
def State.linkStart (s : State) (p : PortRec) : State :=
  let q := p.port
  let l := s.linkSt q
  let mask := s.healthMask p
  let map := laneMap p mask []
  if map.isEmpty then s else
  let n : LinkState := {
    rx := l.rx.map fun (c : RxCell) => { c with pool := true }
    bypassLc := [.rxLanes mask], txMap := map, rxMap := map, rxLanes := mask
    restarting := l.restarting, initSent := l.initSent, initIn := l.initIn, initOffer := false
    partnerCable := l.partnerCable, partner := l.partner }
  ((((s.putLink q n).setLink q 1).wr (Reg.PT_LL_STATUS q) Fld.PT_LL_STATUS.MAP_ID 0).showMap p).noteWidth p

/-! ### The link-drop rule (R292) -/

/-- A record's remaining answers are made here, in error; the record is left DROPPED. -/
def State.dropRecord (s : State) (k : Nat) (r : OutRec) : State :=
  let q := k / 4096
  let src := tileOf q
  match r.msg.mirrorOf with
  | some _ =>
    let (a, s1) := s.closeRecord q { ioCompletion r.msg r.msg.addr r.msg.len false true false with ltag := k % 4096 }
    match a with
    | some x => s1.sendReply src x
    | none => s1
  | none =>
    let all := errReplies r.msg s.mgmtEid
    let put (t : State) : State := { t with core := { t.core with otags := tabPut t.core.otags k { r with dropped := true } } }
    -- the gate entry of a request completed here becomes FREE (R181)
    let s1 := put s
    let s2 := if r.msg.slice.isSome ∨ 128 ≤ r.msg.port then s1 else
      match s1.gateOf r.msg.port r.msg.tag with
      | some g => match g.cell with
        | some c => ((s1.freeCell c).heldSince r.msg.port g.since).setGate r.msg.port r.msg.tag none
        | none => s1.setGate r.msg.port r.msg.tag none
      | none => s1
    (all.drop (all.length - r.left)).foldl (fun t m => t.sendReply src m) s2

/-- The outbound records of port q, OUT ones or DROPPED ones. -/
def State.recordsOf (s : State) (q : Nat) (dropped : Bool) : List (Nat × OutRec) :=
  s.core.otags.filter fun e => e.1 / 4096 == q && e.2.dropped == dropped

/-- Every OUT record of a port completed. -/
def State.dropRecords (s : State) (q : Nat) : State :=
  (s.recordsOf q false).foldl (fun t e => match tabFind t.core.otags e.1 with
    | some r => if r.dropped then t else t.dropRecord e.1 r
    | none => t) s

/-- Every DROPPED record of a port that p accepts freed. -/
def State.freeDropped (s : State) (q : Nat) (p : OutRec → Bool) : State :=
  { s with core := { s.core with otags := s.core.otags.filter fun e => !(e.1 / 4096 == q && e.2.dropped && p e.2) } }

/-- Slots of requests leave the stored flits and the flit being filled. -/
def SlotOut.keep? (x : SlotOut) : Option SlotOut :=
  match unitMsgs x.cell |>.filter fun m => !expectsAnswer m with
  | [] => none
  | m :: r => some { x with cell := { x.cell with msg := m, more := r } }

/-- R292 on port q. -/
def State.linkDrop (s : State) (q : Nat) : State :=
  let s1 := s.modLink q fun l => { l with
    stored := l.stored.map fun (f : FlitRec) => { f with slots := f.slots.filterMap SlotOut.keep? }
    filling := l.filling.filterMap SlotOut.keep? }
  s1.dropRecords q

/-! ### LINGER and its end (R293 to R295) -/

/-- Sub-channel v of port q has a message whose TAIL has not been received. -/
def State.cutAt (s : State) (q v : Nat) : Bool :=
  match ((s.linkSt q).rx.filter fun (c : RxCell) => c.sub == v).getLast? with
  | some c => c.slot.kind == Kind.head || c.slot.kind == Kind.body
  | none => match s.arrivingAt q (v / 2) with
    | some a => a.msg.uvc == (v % 2 == 1)
    | none => false

/-- A TAIL marked TAIL_BAD in sub-channel v. -/
def badTail (v : Nat) : RxCell :=
  { sub := v, pool := true
    slot := { kind := .tail, sub := Fin.ofNat 16 v, pool := true, msg := {}, tailBad := true, line := some 0 } }

/-- Messages cut short on receive end with a TAIL cell marked TAIL_BAD. -/
def State.cutShort (s : State) (q : Nat) : State :=
  (List.range 16).foldl (fun t v =>
    if t.cutAt q v then t.modLink q fun (l : LinkState) => { l with rx := l.rx ++ [badTail v] } else t) s

/-- Responses and posted writes in a port's stored flits and its flit being filled are discarded and counted. -/
def State.discardStored (s : State) (q : Nat) : State :=
  let l := s.linkSt q
  let cells := (l.stored.flatMap (·.slots)) ++ l.filling
  let n := cells.foldl (fun n c => n + ((headMsgs [c.cell]).filter fun m => m.mc == 1 || m.mc == 2 || m.mc == 6).length) 0
  (s.modLink q fun l => { l with stored := [], filling := [], bypassMc0 := [] }).addTo (Reg.PT_FLUSH_CNT q) Fld.PT_FLUSH_CNT.COUNT n

/-- LINGER, or INIT, ends in DOWN.  keep: the queued cells wait for the partner's new session (Flocet, R294). -/
def State.linkDown (s : State) (p : PortRec) (keep : Bool) : State :=
  let q := p.port
  let lingered := s.linkState q == 3
  let cells := s.portCells q
  let s1 := if lingered ∧ 0 < cells ∧ !keep then s.linkErr q Fld.PT_LL_ERR.FLUSH 12 else s
  let s2 := (if keep then s1 else s1.flushPort q fun _ _ => true).flushGate q fun _ => true
  let s3 := ((s2.discardStored q).freeDropped q fun _ => true).cutShort q
  let s4 := if lingered then s3.inc (Reg.PT_LL_EVENTS q) Fld.PT_LL_EVENTS.FLUSHES else s3
  let s5 := (s4.setLink q 0).modLink q fun l => { l with txMap := [], rxMap := [] }
  (s5.showMap p).linkStart p

/-- The port's link leaves UP or INIT (R290, R292): UP lingers, or goes DOWN at once with a window of 0. -/
def State.leaveUp (s : State) (p : PortRec) : State :=
  let q := p.port
  let st := s.linkState q
  if st = 2 then
    let s1 := ((s.linkErr q Fld.PT_LL_ERR.DOWN 11).setLink q 3).linkDrop q
    if p.lingerMs = 0 then s1.linkDown p false else s1
  else if st = 1 then (s.linkDrop q).linkDown p false
  else s

/-- A lane of a port leaves service or its attempt for WAIT, unless it is off or under test. -/
def State.laneBack (s : State) (l : Nat) : State :=
  if s.stage l = Stage.OFF ∨ s.stage l = Stage.TEST ∨ s.stage l = Stage.STD then s
  else (s.abandonRetune l).toWait l

/-- Lanes of a fabric port lose their clock: they go to WAIT and the link drops (R26); with no lane left ACTIVE, what
lingers ends (Table 7). -/
def State.lanesDrop (s : State) (p : PortRec) (gone : List Nat) : State :=
  let s1 := (p.lanes.filter gone.contains).foldl (fun t l => t.laneBack l) s
  let s2 := (s1.modLink p.port fun l => { l with lanesKept := false }).leaveUp p
  if s2.linkState p.port = 3 ∧ (p.lanes.all fun l => s2.stage l != Stage.ACTIVE) then s2.linkDown p false else s2

/-- Every lane of a fabric port goes to WAIT: the link leaves UP, and what lingers ends (Table 7). -/
def State.lanesToWait (s : State) (p : PortRec) : State :=
  let s0 := p.lanes.foldl (fun t l => t.laneBack l) s
  -- a lane that enters WAIT ends the port's first attempt (R253)
  let s1 := if p.lanes.any fun l => s0.stage l == Stage.WAIT then s0.attemptDone p.port else s0
  let s2 := (s1.modLink p.port fun l => { l with lanesKept := false }).leaveUp p
  let s3 := if s2.linkState p.port = 3 then s2.linkDown p false else s2
  s3.modLink p.port fun l => { l with restarting := false, initSent := false, initIn := none }

/-- A link-layer restart (R291): the exchange of LL_INIT begins. -/
def State.linkRestart (s : State) (p : PortRec) : State :=
  let q := p.port
  if s.linkState q = 1 ∨ s.linkState q = 2 then
    let s1 := (s.inc (Reg.PT_LL_EVENTS q) Fld.PT_LL_EVENTS.RESTARTS).modLink q fun l =>
      { l with restarting := true, initSent := false, initIn := none, initOffer := false, lanesKept := true }
    s1.leaveUp p
  else s

/-- A resume (R294). -/
def State.linkResume (s : State) (p : PortRec) (rxNext : Nat) : State :=
  let q := p.port
  let after (x : Nat) : Bool := decide ((4096 + x - rxNext) % 4096 < 2048)
  let s1 := s.modLink q fun l =>
    let keep := l.stored.filter fun f => after f.fseq
    { l with stored := keep, acked := some ((4095 + rxNext) % 4096), resend := keep.head?.map (·.fseq), resendOne := false,
             restarting := false, nakOut := false, nakSend := false, resumedAt := some s.now }
  ((s1.freeDropped q fun r => after r.fseq).inc (Reg.PT_LL_EVENTS q) Fld.PT_LL_EVENTS.RESUMES).setLink q 2

/-- The exchange of LL_INIT is complete once both have gone: resumed, or a new session (R291, R294). -/
def State.settleInit (s : State) (p : PortRec) : State :=
  let q := p.port
  let l := s.linkSt q
  match l.restarting && l.initSent, l.initIn with
  | true, some caps =>
    if s.linkState q ≠ 3 then s.modLink q fun x => { x with restarting := false }
    else
      let first := ((l.stored.head?).map (·.fseq)).getD l.txNext
      let inside := decide ((4096 + caps.rxNext - first) % 4096 ≤ (4096 + l.txNext - first) % 4096)
      if l.initOffer && caps.resume && l.lanesKept && inside then s.linkResume p caps.rxNext
      else
        let s1 := s.modLink q fun x => { x with restarting := false }
        s1.linkDown p (p.protocol == .flocet)
  | _, _ => s

/-- LINK_UP (R290): ACK_V and all 17 credit counters have been received. -/
def State.settleUp (s : State) (q : Nat) : State :=
  let l := s.linkSt q
  if s.linkState q = 1 ∧ l.ackIn ∧ (List.range 17).all (fun k => (tabFind l.crd k).isSome) ∧ !l.restarting then s.setLink q 2 else s

/-! ### Map changes (R287, R288) -/

/-- The transmitter takes the map that the partner's mask allows. -/
def State.txMapChange (s : State) (p : PortRec) (mask : Nat) : State :=
  let q := p.port
  let l := s.linkSt q
  let map := laneMap p mask l.txMap
  if s.linkState q = 0 ∨ map = l.txMap then s.modLink q fun x => { x with rxLanes := mask }
  else if map.isEmpty then
    ((s.modLink q fun x => { x with rxLanes := mask, txMap := [], lanesKept := false }).showMap p).leaveUp p
  else if p.anchored ∧ l.txMap.length < map.length then s.modLink q fun x => { x with rxLanes := mask }
  else if p.anchored ∧ !onlySwaps p l.txMap map then s.lanesToWait p
  else
    let r := Reg.PT_LL_STATUS q
    let s1 := s.modLink q fun x => { x with rxLanes := mask, txMap := map }
    let s2 := s1.wr r Fld.PT_LL_STATUS.MAP_ID ((s.rd r Fld.PT_LL_STATUS.MAP_ID + 1) % 4)
    let s3 := if (List.range 2).any (spareSwap p l.txMap map) then s2.linkErr q Fld.PT_LL_ERR.SPARE 9 else s2
    (s3.noteWidth p).showMap p

/-- The port's own receiver mask has changed: RX_LANES is sent; with no map left the link goes down.  An anchored port whose
receiver loses more than a spare can cover takes a full link reset instead (R288). -/
def State.rxMaskChange (s : State) (p : PortRec) : State :=
  let q := p.port
  if s.linkState q = 0 then s else
  let mask := s.healthMask p
  let old := (s.linkSt q).rxMap
  let map := laneMap p mask old
  let s1 := s.modLink q fun l => { l with bypassLc := (l.bypassLc.filter fun c => match c with | .rxLanes _ => false | _ => true)
                                                      ++ [.rxLanes mask] }
  if map.isEmpty then
    let s2 := (s1.modLink q fun l => { l with lanesKept := false }).leaveUp p
    if s2.linkState q = 3 ∧ (p.lanes.all fun l => s2.stage l != Stage.ACTIVE) then s2.linkDown p false else s2
  else if p.anchored ∧ map ≠ old ∧ map.length ≤ old.length ∧ !onlySwaps p old map then s1.lanesToWait p
  else s1

/-! ### Link control (R274) -/

/-- A link-control message takes effect. -/
def State.linkControl (s : State) (p : PortRec) (c : LinkCtl) : State :=
  let q := p.port
  match c with
  | .rxLanes mask => s.txMapChange p (mask % 2 ^ p.width)
  | .firReq lane req =>
    if p.width ≤ lane then s else
    let l := p.chipLane lane
    let s1 := s.firRequest l (req.toNat % 256) (req.toNat / 256)
    s1.modLink q fun x => { x with bypassLc := x.bypassLc ++ [.firSts lane (BitVec.ofNat 8 (s1.stsByte l))] }
  | .firSts _ _ => s
  | .llInit caps =>
    let tent (t : State) : State := t.wrB (Reg.PT_LL_STATUS q) Fld.PT_LL_STATUS.PARTNER_TENT_OK caps.tentOk
    let l := s.linkSt q
    if l.restarting then ((tent s).modLink q fun x => { x with initIn := some caps }).settleInit p
    else if s.linkState q = 2 then
      let s1 := (tent s).linkRestart p
      (s1.modLink q fun x => { x with initIn := some caps }).settleInit p
    else s

/-! ### Transmitting (R272, R279) -/

/-- Replays from one FSEQ, counted; the eighth in a row restarts the link (R279). -/
def State.startReplay (s : State) (p : PortRec) (f : Nat) (one : Bool) : State :=
  let q := p.port
  let l := s.linkSt q
  if (l.stored.find? fun x => x.fseq == f).isNone then s else
  let n := if l.replays ≠ 0 ∧ l.replayFrom = f then l.replays + 1 else 1
  let s1 := s.modLink q fun x => { x with resend := some f, resendOne := one, replays := n, replayFrom := f }
  if n = 8 then
    ((s1.modLink q fun x => { x with replays := 0 }).linkErr q Fld.PT_LL_ERR.REPLAY 7).linkRestart p
  else s1

/-- A slot as it crosses the link, with its link tag. -/
def SlotOut.onWire (x : SlotOut) : SlotIn :=
  { kind := x.cell.kind, sub := Fin.ofNat 16 x.sub, pool := x.pool, msg := x.cell.msg, more := x.cell.more,
    tailBad := x.cell.tailBad, line := x.cell.line, index := x.cell.index }

/-- XOFF with its hysteresis (R277). -/
def State.xoffUpdate (s : State) (p : PortRec) : State :=
  let q := p.port
  let l := s.linkSt q
  let size := poolSize p.width
  let held (v : Nat) : Nat := l.heldBy true v
  let free := size - l.poolUsed
  let h := s.rd (Reg.PT_LL_STATUS q) Fld.PT_LL_STATUS.HEADROOM
  let all := if free ≤ h then true else if h + 64 ≤ free then false else l.xoffAll
  let subs := ((List.range 16).filter fun v =>
    if size < 2 * held v then true else if 2 * held v + 128 < size then false else l.xoffOut.testBit v).foldl setBitAt 0
  s.putLink q { l with xoffAll := all, xoffOut := subs }

/-- The XOFF bits sent. -/
def LinkState.xoffSent (l : LinkState) : Nat := if l.xoffAll then 65535 else l.xoffOut

/-- Emit one flit with the port's current control fields. -/
def State.emitFlit (s : State) (p : PortRec) (fseq : Nat) (null : Bool) (slots : List SlotOut) (by_ : Option Bypass) : State :=
  let q := p.port
  let s0 := s.xoffUpdate p
  let l := s0.linkSt q
  let sel := match l.crgDirty with | k :: _ => k | [] => (l.crgLast + 1) % 17
  let f : FlitIn := {
    fseq := Fin.ofNat 4096 fseq, ackSeq := Fin.ofNat 4096 (4095 + l.rxNext), nak := l.nakSend, ackV := l.rxAny
    crdSel := Fin.ofNat 17 sel, crd := BitVec.ofNat 16 (tabGet l.crg sel (initialCredits sel))
    mapId := Fin.ofNat 4 (s0.rd (Reg.PT_LL_STATUS q) Fld.PT_LL_STATUS.MAP_ID), null := null, xoff := BitVec.ofNat 16 l.xoffSent
    slots := slots.map SlotOut.onWire, bypass := by_ }
  let s1 := if l.nakSend then s0.inc (Reg.PT_LL_REPLAY q) Fld.PT_LL_REPLAY.NAKS else s0
  (s1.modLink q fun x => { x with
    nakSend := false, crgDirty := x.crgDirty.tail, crgLast := if l.crgDirty.isEmpty then sel else x.crgLast }).emit (.flit q f)

/-- A new flit: the bypass slot's oldest message and the cells placed since the last one, or a NULL flit. -/
def State.newFlit (s : State) (p : PortRec) : State :=
  let q := p.port
  let l := s.linkSt q
  let full := decide (replayFlits p.width ≤ l.stored.length)
  let (by_, lc, mc0) : Option Bypass × List LinkCtl × List Msg :=
    match l.bypassLc, l.bypassMc0 with
    | c :: r, m => (some (.lc c), r, m)
    | [], m :: r => (some (.mc0 m), [], r)
    | [], [] => (none, [], [])
  if full ∨ (l.filling.isEmpty ∧ by_.isNone) then s.emitFlit p l.txNext true [] none
  else
    let s1 := s.emitFlit p l.txNext false l.filling by_
    s1.modLink q fun x => { x with
      stored := x.stored ++ [{ fseq := x.txNext, slots := x.filling, bypass := by_ }]
      txNext := (x.txNext + 1) % 4096, filling := [], bypassLc := lc, bypassMc0 := mc0 }

/-- FLIT_SEND: a flit start of port q. -/
def State.flitSend (s : State) (q : Nat) : State :=
  match s.portRec q with
  | none => s
  | some p =>
    let l := s.linkSt q
    if !p.fabric ∨ s.linkState q = 0 ∨ l.txMap.isEmpty then s
    else if l.restarting then
      let caps : LlCaps := {
        version := 1, rxNext := l.rxNext, tentOk := p.protocol == .ictil
        resume := !s.on (Reg.PT_LL_CTL q) Fld.PT_LL_CTL.NO_RESUME && p.protocol == .ictil && s.linkState q == 3 }
      let s1 := s.emitFlit p l.txNext true [] (some (.lc (.llInit caps)))
      (s1.modLink q fun x => { x with initSent := true, initOffer := (if x.initSent then x.initOffer else caps.resume) }).settleInit p
    else if s.linkState q = 3 then s
    else match l.resend with
      | some f =>
        -- flits acknowledged since are no longer stored: what follows them is resent (R279)
        match (l.stored.find? fun x => x.fseq == f).or (if l.resendOne then none else l.stored.head?) with
        | none => (s.modLink q fun x => { x with resend := none }).newFlit p
        | some r =>
          let next := if l.resendOne then none else (l.stored.find? fun x => x.fseq == (r.fseq + 1) % 4096).map (·.fseq)
          ((s.emitFlit p r.fseq false r.slots r.bypass).inc (Reg.PT_LL_REPLAY q) Fld.PT_LL_REPLAY.FLITS).modLink q fun x =>
            { x with resend := next }
      | none => s.newFlit p

/-! ### Receiving (R276 to R278, R282) -/

/-- A NAK for E is sent with the next flit, unless one is outstanding (R278); the eighth for one E restarts a Flocet link
(R282). -/
def State.sendNak (s : State) (p : PortRec) (again : Bool) : State :=
  let q := p.port
  let l := s.linkSt q
  if l.nakOut ∧ !again then s else
  let n := l.nakCount + 1
  let s1 := s.modLink q fun x => { x with nakOut := true, nakSend := true, nakCount := n }
  if p.protocol = .flocet ∧ n = 8 then
    ((s1.modLink q fun x => { x with nakCount := 0 }).linkErr q Fld.PT_LL_ERR.REPLAY 7).linkRestart p
  else s1

/-- The control fields of a good flit: acknowledgement, NAK, credit, XOFF, map. -/
def State.useControl (s : State) (p : PortRec) (f : FlitIn) : State :=
  let q := p.port
  let l := s.linkSt q
  let a := f.ackSeq.val
  let first := ((l.stored.head?).map (·.fseq)).getD l.txNext
  let n := (4097 + a - first) % 4096
  let s1 := if !f.ackV then s else
    let t := s.modLink q fun x => { x with ackIn := true }
    if n ≤ l.stored.length then t.modLink q fun x => { x with stored := x.stored.drop n, acked := some a } else t
  let s2 := if f.nak then s1.startReplay p ((a + 1) % 4096) (p.protocol == .flocet) else s1
  -- credits
  let k := f.crdSel.val
  let d := (65536 + f.crd.toNat - tabGet l.debits k 0) % 65536
  let s3 := if initialCredits k < d then (s2.linkErr q Fld.PT_LL_ERR.CREDIT 5).linkRestart p
    else s2.modLink q fun x => { x with crd := tabPut x.crd k f.crd.toNat }
  let s4 := s3.modLink q fun x => { x with xoffIn := f.xoff.toNat }
  let s5 := if f.mapId.val = l.rxMapId then s4 else
    (s4.modLink q fun x => { x with rxMapId := f.mapId.val, rxMap := laneMap p (s4.healthMask p) x.rxMap }).showMap p
  s5.settleUp q

/-- A slot taken into receive storage; a pool cell with the pool full is an error (R277). -/
def State.takeSlot (s : State) (p : PortRec) (x : SlotIn) : State :=
  let q := p.port
  let l := s.linkSt q
  if x.pool ∧ poolSize p.width ≤ l.poolUsed then
    (s.linkErr q Fld.PT_LL_ERR.POOL 6).linkRestart p
  else s.putLink q { l with rx := l.rx ++ [{ sub := x.sub.val, pool := x.pool, slot := x }] }

/-- The bypass slot of an accepted flit: an MC0 message goes into the switch and its entry is freed. -/
def State.takeBypass (s : State) (p : PortRec) : Option Bypass → State
  | none => s
  | some (.lc c) => s.linkControl p c
  | some (.mc0 m) =>
    let s1 := s.modLink p.port fun l => { l with
      crg := tabMod l.crg 16 64 fun n => (n + 1) % 65536
      crgDirty := if l.crgDirty.contains 16 then l.crgDirty else l.crgDirty ++ [16] }
    s1.parsed p (s1.stamp p m) none {}

/-- A flit accepted with FSEQ = E. -/
def State.acceptFlit (s : State) (p : PortRec) (f : FlitIn) : State :=
  let s1 := s.modLink p.port fun l => { l with rxNext := (l.rxNext + 1) % 4096, rxAny := true, nakOut := false, nakCount := 0 }
  (f.slots.foldl (fun t x => t.takeSlot p x) s1).takeBypass p f.bypass

/-- Flits that a Flocet receiver kept are accepted in order once the gap before them has closed (R282). -/
def State.acceptKept (s : State) (p : PortRec) : Nat → State
  | 0 => s
  | n + 1 =>
    let l := s.linkSt p.port
    match tabFind l.kept l.rxNext with
    | none => if l.kept.isEmpty then s else s.sendNak p false
    | some f => ((s.modLink p.port fun x => { x with kept := tabDel x.kept l.rxNext }).acceptFlit p f).acceptKept p n

/-- FLIT_RECEIVE on port q (R278). -/
def State.flitReceive (s : State) (q : Nat) (f : FlitIn) : State :=
  match s.portRec q with
  | none => s
  | some p =>
    if !p.fabric ∨ s.linkState q = 0 then s
    else if f.bad then s.sendNak p false
    else
      let s1 := s.useControl p f
      let l := s1.linkSt q
      let d := (4096 + f.fseq.val - l.rxNext) % 4096
      if f.null then
        (match f.bypass with
         | some (.lc (.llInit caps)) => s1.linkControl p (.llInit caps)
         | _ => s1)
      else if s1.linkState q = 0 then s1
      else if d = 0 then
        let s2 := s1.acceptFlit p f
        ((if p.protocol = .flocet then s2.acceptKept p 4096 else s2).settleUp q).xoffUpdate p
      else if d < 2048 then
        let s2 := if p.protocol = .flocet ∧ (tabFind l.kept f.fseq.val).isNone then
          s1.modLink q fun x => { x with kept := tabPut x.kept f.fseq.val f } else s1
        s2.sendNak p false
      else s1

/-- The NAK for E has gone unanswered for 2 × RTT + 1 µs. -/
def State.nakExpiry (s : State) (q : Nat) : State :=
  match s.portRec q with
  | some p => if p.fabric ∧ (s.linkSt q).nakOut then s.sendNak p true else s
  | none => s

/-- No acknowledgement for 2 × RTT + 1 µs: everything stored is resent from the oldest flit (R279). -/
def State.replayTimeout (s : State) (q : Nat) : State :=
  match s.portRec q, (s.linkSt q).stored with
  | some p, r :: _ => if s.linkState q = 1 ∨ s.linkState q = 2 then s.startReplay p r.fseq false else s
  | _, _ => s

/-- LL_INIT_TIMEOUT (R291). -/
def State.initTimeout (s : State) (q : Nat) : State :=
  match s.portRec q with
  | some p => if (s.linkSt q).restarting ∧ (s.linkSt q).initIn.isNone then s.lanesToWait p else s
  | none => s

/-- LINGER_EXPIRY (R295).  A window that ends in the MCLK in which a resume was agreed wins (R296): the link comes up as a
new session. -/
def State.lingerExpiry (s : State) (q : Nat) : State :=
  match s.portRec q with
  | some p =>
    if !p.fabric then s
    else if s.linkState q = 3 then s.linkDown p false
    else if s.linkState q = 2 ∧ (s.linkSt q).resumedAt = some s.now then
      let r := Reg.PT_LL_EVENTS q
      ((s.wr r Fld.PT_LL_EVENTS.RESUMES (s.rd r Fld.PT_LL_EVENTS.RESUMES - 1)).setLink q 3).linkDown p false
    else s
  | none => s

/-- A link-control message received on a port whose link runs. -/
def State.controlMessage (s : State) (q : Nat) (c : LinkCtl) : State :=
  s.atPort q fun t p => if p.fabric ∧ t.linkState q ≠ 0 then t.linkControl p c else t

/-- PT_LL_CTL.RESTART (R291). -/
def State.restartPort (s : State) (q : Nat) : State :=
  s.atPort q fun t p => if p.fabric then t.linkRestart p else t

end Sys2Proof.Machine
end

