-- ==== Sys2Proof/Machine/LaneEvents.lean ====
section
/-!
DEFINITION. Machine/LaneEvents.lean: bring-up of Ictil and Flocet lanes (R249 to R254), lane failures (R248), writes of
LN_CTL, host margining (R258, R261), codeword counts (R247).
-/
namespace Sys2Proof.Machine

/-- The port of an Ictil or Flocet lane. -/
def State.fabricPort (s : State) (l : Nat) : Option PortRec :=
  match s.lanePort l with
  | some p => if p.fabric then some p else none
  | none => none

/-- A bring-up stage of a lane has failed: WAIT, with FAIL_STAGE (R249 Table 2); late: it timed out (R268). -/
def State.stageFail (s : State) (l stage : Nat) (late : Bool) : State :=
  let s1 := (s.toWait l).wr (Reg.LN_TRAIN l) Fld.LN_TRAIN.FAIL_STAGE stage
  let s2 := if late then (s1.set1 (Reg.LN_ERR l) Fld.LN_ERR.TRAIN_FAIL).raise (srcTile (l / 8) 3) none else s1
  match s.fabricPort l with
  | some p => s2.attemptDone p.port
  | none => s2

/-- A lane of a LINKTEST run. -/
def State.testLane (s : State) (l : Nat) : Bool := s.md == .linktest && (s.laneSt l).test.isSome

/-- Signal present for 1 ms. -/
def State.signalDetected (s : State) (l : Nat) : State :=
  if s.stage l = Stage.DETECT then (s.startFir l).setStage l Stage.TRAIN else s

/-- A training frame (R250, R251): one with a bad CRC is ignored; an inverted marker corrects the receiver (R245). -/
def State.trainingFrame (s : State) (l : Nat) (f : TrainFrame) : State :=
  if s.stage l ≠ Stage.TRAIN ∨ !f.good then s else
  let r := Reg.LN_STATUS l
  let s1 := if f.inverted then s.wrB r Fld.LN_STATUS.RX_INV (!s.on r Fld.LN_STATUS.RX_INV) else s
  s1.firRequest l f.req.toNat f.preset.toNat

/-- Both ends have shown RX_READY: the stamp of a training (R256), then LOCK; a LINKTEST lane stays in TEST (R267). -/
def State.trainDone (s : State) (l load : Nat) : State :=
  if s.stage l ≠ Stage.TRAIN then s else
  let s1 := (s.stamp' l load 0).set1 (Reg.LN_STATUS l) Fld.LN_STATUS.CDR_LOCK
  if s.testLane l then (s1.setStage l Stage.TEST).modLane l fun x => { x with counting := true }
  else s1.setStage l Stage.LOCK

/-- 500 ms in TRAIN. -/
def State.trainTimeout (s : State) (l : Nat) : State :=
  if s.stage l ≠ Stage.TRAIN then s
  else if s.testLane l then
    let cfg := (s.laneSt l).test.getD 0
    let s1 := (((s.wr (Reg.LN_TRAIN l) Fld.LN_TRAIN.FAIL_STAGE 2).set1 (Reg.LN_ERR l) Fld.LN_ERR.TRAIN_FAIL).raise
      (srcTile (l / 8) 3) none).setTaps l (presetTaps (getFld cfg Fld.LN_TEST_CFG.PRESET))
    (s1.setStage l Stage.TEST).modLane l fun x => { x with counting := true }
  else s.stageFail l 2 true

/-- Codeword and block lock. -/
def State.laneLocked (s : State) (l : Nat) : State :=
  if s.stage l ≠ Stage.LOCK then s
  else ((s.setStage l Stage.IDENT).set1 (Reg.LN_STATUS l) Fld.LN_STATUS.CW_LOCK).set1 (Reg.LN_STATUS l) Fld.LN_STATUS.BLOCK_LOCK

/-- 10 ms in LOCK. -/
def State.lockTimeout (s : State) (l : Nat) : State :=
  if s.stage l = Stage.LOCK then s.stageFail l 3 true else s

/-! ### IDENT (R252) -/

/-- The lanes of a port in a stage. -/
def State.lanesIn (s : State) (p : PortRec) (stages : List Nat) : List Nat := p.lanes.filter fun l => stages.contains (s.stage l)

/-- The port's lanes go back to WAIT, FAIL_STAGE 4: partner mismatch. -/
def State.identRefused (s : State) (p : PortRec) : State :=
  ((s.lanesIn p [Stage.LOCK, Stage.IDENT]).foldl (fun t l => t.stageFail l 4 false) s)

/-- Lanes of a port that have completed IDENT go ACTIVE, and the link starts, or takes them in (R289). -/
def State.activate (s : State) (p : PortRec) (lanes : List Nat) : State :=
  let q := p.port
  match lanes.findSome? fun l => (s.laneSt l).ident with
  | none => s
  | some f =>
    if p.partnerId ≠ 0 ∧ BitVec.ofNat 64 p.partnerId ≠ f.identity then
      let s1 := lanes.foldl (fun t l => t.set1 (Reg.LN_ERR l) Fld.LN_ERR.PARTNER) s
      (s1.identRefused p).raise (srcQuad (quadOf (tileOf q)) 0) none
    else if f.flocet ≠ (p.protocol == .flocet) then
      (s.identRefused p).linkErr q Fld.PT_LL_ERR.MODE 8
    else
      let one (t : State) (l : Nat) : State :=
        let g := ((t.laneSt l).ident).getD f
        let r := Reg.LN_PARTNER_INFO l
        ((((((t.setStage l Stage.ACTIVE).setReg (Reg.LN_PARTNER l) g.identity).wr r Fld.LN_PARTNER_INFO.SWITCH_ID g.switchId).wr r
          Fld.LN_PARTNER_INFO.PORT g.port).wr r Fld.LN_PARTNER_INFO.LANE g.lane).wrB r Fld.LN_PARTNER_INFO.FLOCET g.flocet).set0
          (Reg.LN_MARGIN l) Fld.LN_MARGIN.VALID
      let s1 := (lanes.foldl one s).attemptDone q
      let same := decide ((s.linkSt q).partner = f.identity.toNat)
      let s2 := (s1.modLink q fun x => { x with partner := f.identity.toNat, partnerCable := f.cable }).wrB
        (Reg.PT_LL_STATUS q) Fld.PT_LL_STATUS.PARTNER_TENT_OK f.caps.tentOk
      if s2.linkState q = 0 then s2.linkStart p
      else if s2.linkState q = 3 ∧ !(s2.linkSt q).restarting then s2.linkDown p (p.protocol == .flocet && same)
      else s2.rxMaskChange p

/-- The lanes of a port that have completed IDENT and wait for the others. -/
def State.identReady (s : State) (p : PortRec) : List Nat :=
  (s.lanesIn p [Stage.IDENT]).filter fun l => (s.laneSt l).identDone

/-- LANE_IDENT_DONE: every lane still in the attempt has completed IDENT; a lane that comes back to a port in service
joins alone. -/
def State.identDone (s : State) (p : PortRec) : State :=
  let ready := s.identReady p
  if ready.isEmpty then s
  else if !(s.lanesIn p [Stage.ACTIVE]).isEmpty then s.activate p ready
  else if (s.lanesIn p [Stage.DETECT, Stage.TRAIN, Stage.LOCK, Stage.IDENT]).length = ready.length then s.activate p ready
  else s

/-- PORT_IDENT_TIMEOUT: lanes that have not completed IDENT leave the attempt. -/
def State.identTimeout (s : State) (p : PortRec) : State :=
  let late := (s.lanesIn p [Stage.LOCK, Stage.IDENT]).filter fun l => !(s.laneSt l).identDone
  let s1 := late.foldl (fun t l => t.stageFail l 4 true) s
  let ready := s1.identReady p
  if ready.isEmpty then s1 else s1.activate p ready

/-- An IDENT frame of lane l; good: its CRC. -/
def State.identFrame (s : State) (l : Nat) (f : IdentFrame) (good : Bool) : State :=
  match s.fabricPort l with
  | none => s
  | some p =>
    if s.stage l ≠ Stage.IDENT then s
    else if !good then s.modLane l fun x => { x with ident := none, identCount := 0 }
    else
      let other := p.lanes.findSome? fun k => if k = l then none else
        if s.stage k = Stage.IDENT ∨ s.stage k = Stage.ACTIVE then (s.laneSt k).ident else none
      let differs := match other with
        | some g => g.identity != f.identity || g.port != f.port
        | none => false
      if differs then s.stageFail l 4 false
      else
        let s1 := s.modLane l fun x =>
          let n := if x.ident = some f then x.identCount + 1 else 1
          { x with ident := some f, identCount := n, identAck := x.identAck || f.ack
                   identDone := x.identDone || (decide (3 ≤ n) && (x.identAck || f.ack)) }
        s1

/-! ### Service -/

/-- 100 ms in WAIT. -/
def State.waitExpiry (s : State) (l : Nat) : State :=
  if s.stage l = Stage.WAIT ∧ s.lanesTrain ∧ !s.on (Reg.LN_CTL l) Fld.LN_CTL.DISABLE then s.toDetect l else s

/-- A lane failure is declared (R248): a spare's does not touch the port (R254); the others change its map. -/
def State.laneFail (s : State) (l : Nat) : State :=
  if !s.laneActive l then s else
  let s1 := ((s.abandonRetune l).set1 (Reg.LN_ERR l) Fld.LN_ERR.LANE_FAIL).raise (srcTile (l / 8) 4) none
  match s.fabricPort l with
  | some p => (s1.toWait l).rxMaskChange p
  | none => s1

/-- LN_CTL.DISABLE set or cleared (R249, R266). -/
def State.laneDisable (s : State) (l : Nat) (on : Bool) : State :=
  let s1 := s.wrB (Reg.LN_CTL l) Fld.LN_CTL.DISABLE on
  if on then
    let s2 := s1.laneFail l
    if s2.stage l = Stage.TEST then s2 else s2.toOff l
  else if s.on (Reg.LN_CTL l) Fld.LN_CTL.DISABLE then
    let s2 := (s1.wr (Reg.LN_PRBS_CTL l) ⟨0, 12⟩ 0).set0 (Reg.LN_PRBS_STATUS l) Fld.LN_PRBS_STATUS.CHK_LOCK
    match s.lanePort l with
    | some p => if s.lanesTrain then s2.startLane p l else s2
    | none => (s2.modLane l fun x => { x with test := none, counting := false }).toOff l
  else s1

/-- A host margining run starts on a lane of a CXL or PCIe port. -/
def State.hostMargin (s : State) (l : Nat) : State :=
  match s.lanePort l with
  | some p =>
    if p.fabric ∨ !s.laneActive l then s
    else if (s.laneSt l).level ≠ 0 then s.modLane l fun x => { x with hostWait := true }
    else s.modLane l fun x => { x with hostRun := true }
  | none => s

/-- It ends: what waited on the lane starts. -/
def State.hostMarginEnd (s : State) (l : Nat) : State :=
  let s1 := s.modLane l fun x => { x with hostRun := false, hostWait := false }
  if (s.laneSt l).levelHeld then s1.startL2 l else s1.startWaiting (s.portLanesOf l)

/-- Triggers 2 and 3 of every lane at a temperature update (R259); loads: the activity of each quadrant's lanes over the
last 100 µs. -/
def State.tempTriggers (s : State) (loads : List (BitVec 8)) : State :=
  s.ports.foldl (fun t p => p.lanes.foldl (fun u l =>
    match loads[quadOf (l / 8)]? with
    | some x => (u.tempTrigger l).loadTrigger l x.toNat
    | none => u.tempTrigger l) t) s

/-- Re-tunes abandoned on the lanes of the ports that p accepts (R261). -/
def State.abandonPorts (s : State) (p : PortRec → Bool) : State :=
  (s.ports.filter p).foldl (fun t r => r.lanes.foldl (fun u l => if (u.laneSt l).level ≠ 0 ∨ (u.laneSt l).waiting.isSome then
    u.abandonRetune l else u) t) s

/-- Codewords decoded on a lane (R247, R268). -/
def State.noteFec (s : State) (x : LaneFec) : State :=
  let l := x.lane.val
  if s.stage l ≠ Stage.ACTIVE then s else
  let s1 := ((s.addTo (Reg.LN_FEC l) Fld.LN_FEC.CORRECTED x.corrected).addTo (Reg.LN_FEC l) Fld.LN_FEC.UNCORRECTED
    x.uncorrected).addTo (Reg.LN_FEC_SYM l) Fld.LN_FEC_SYM.SYMBOLS x.symbols
  if 0 < x.uncorrected then (s1.set1 (Reg.LN_ERR l) Fld.LN_ERR.FEC_UE).raise (srcTile (l / 8) 5) none else s1

/-- A level of a re-tune ends (R260): an L3 is a lane failure. -/
def State.retuneLevel (s : State) (l v h load : Nat) : State :=
  let (t, failed) := s.levelDone l v h load
  if failed then t.laneFail l else t

/-- LN_TEST_CFG written (R267): a run starts where EN goes from 0 to 1, and ends where it goes to 0. -/
def State.testCfgWrite (s : State) (l : Nat) (w : Word) : State :=
  let r := Reg.LN_TEST_CFG l
  let was := s.on r Fld.LN_TEST_CFG.EN
  let s1 := s.wr r ⟨0, 13⟩ (w.toNat % 2 ^ 13)
  if s1.on r Fld.LN_TEST_CFG.EN then (if was then s1 else s1.testStart l)
  else if (s1.laneSt l).test.isSome then (s1.modLane l fun x => { x with test := none, counting := false }).toOff l
  else s1

end Sys2Proof.Machine
end

