-- ==== Sys2Proof/Machine/Ports.lean ====
section
/-!
DEFINITION. Machine/Ports.lean: CXL and PCIe ports: links going down and coming up (R310 to R314), HDM decoder 0 (R303),
viral (R307), link IDE (R308), Global Persistent Flush (R309), what a vPPB shows its host (R322).
-/
namespace Sys2Proof.Machine

def State.stdSt (s : State) (q : Nat) : StdState := tabGet s.std q {}
def State.modStd (s : State) (q : Nat) (g : StdState → StdState) : State := { s with std := tabMod s.std q {} g }

/-- An error of a standard port: its bit of PT_STD_ERR and its fault, against the port's Flacon (R317). -/
def State.stdErr (s : State) (q : Nat) (f : Fld) (k : Nat) : State :=
  (s.set1 (Reg.PT_STD_ERR q) f).raise (srcQuad (quadOf (tileOf q)) k) (s.portFlacon q)

def State.setLtssm (s : State) (q x : Nat) : State := s.wr (Reg.PT_STD_STATUS q) Fld.PT_STD_STATUS.LTSSM x
def State.ide (s : State) (q : Nat) : Nat := s.rd (Reg.PT_STD_STATUS q) Fld.PT_STD_STATUS.IDE

/-! ### vPPBs (R322) -/

def vppbKey (q v : Nat) : Nat := q * 256 + v
def State.vppbSt (s : State) (q v : Nat) : VppbState := tabGet s.vppb (vppbKey q v) {}
def State.modVppb (s : State) (q v : Nat) (g : VppbState → VppbState) : State :=
  { s with vppb := tabMod s.vppb (vppbKey q v) {} g }

/-- Bindings in force of every Flacon. -/
def State.allBindings (s : State) : List BindingRec := s.acc.fl.flatMap fun e => e.2.cur.bindings

/-- The vPPBs bound to a downstream port: upstream port and vPPB. -/
def State.vppbsOf (s : State) (q : Nat) : List (Nat × Nat) :=
  (s.allBindings.filter fun b => b.dsp == q).map fun b => (b.usp, b.vppb)

/-- An event shown in a vPPB's Slot Status: bit k of Slot Control enables its interrupt, under bit 5 (the standard's
Slot Control layout). -/
def State.vppbEvent (s : State) (q v k : Nat) (g : VppbState → VppbState) : State :=
  let s1 := s.modVppb q v g
  let c := (s.vppbSt q v).control
  if c.getLsbD 5 && c.getLsbD k then s1.emit (.hotplug q v) else s1

def State.noteDllsc (s : State) (l : List (Nat × Nat)) : State :=
  l.foldl (fun t e => t.vppbEvent e.1 e.2 12 fun x => { x with dllsc := true }) s
def State.notePresence (s : State) (l : List (Nat × Nat)) : State :=
  l.foldl (fun t e => t.vppbEvent e.1 e.2 3 fun x => { x with presenceChanged := true }) s

/-! ### Flushing a port -/

/-- Cells of port q's queues that p accepts, of whole messages, flushed (R93) and counted. -/
def State.flushCells (s : State) (q : Nat) (p : Cell → Bool) : State :=
  (s.portQueues q).foldl (fun t e =>
    let l := t.queue e.1
    let keep := l.filter fun c => !p c
    let gone := l.filter p
    if gone.isEmpty then t else
    let t1 := (t.putQueue e.1 keep).discardRest gone
    let ms := headMsgs gone
    let t2 := ms.foldl (fun u m => u.endMsg (tileOf q) m) (gone.foldl (fun u c => u.freeCell c) t1)
    t2.addTo (Reg.PT_FLUSH_CNT q) Fld.PT_FLUSH_CNT.COUNT ms.length) s

/-- A message whose transmission had started on port q is ended as flushed (R312). -/
def State.endStarted (s : State) (q : Nat) : State :=
  match (s.schedPort q).hold with
  | none => s
  | some (f, c, src) =>
    let s0 := s.modSched q fun x => { x with hold := none }
    let n := queueNo q c f
    let (mine, rest) := (s0.queue n).partition fun d => d.src == src && (d.kind == .body || d.kind == .tail)
    let upto := mine.takeWhile fun d => d.kind != .tail
    let (gone, back) := match mine.drop upto.length with
      | t :: more => (upto ++ [t], more)
      | [] => (upto, [])
    let head := match gone with
      | d :: _ => some { d with kind := Kind.head }
      | [] => ((s0.stream (streamKey src (unitOf q) c)).cur).map (·.1)
    let s1 := gone.foldl (fun t d => t.freeCell d) (s0.putQueue n (back ++ rest))
    match head with
    | some h => (((h :: gone) |> s1.discardRest).endMsg (tileOf q) h.msg).inc (Reg.PT_FLUSH_CNT q) Fld.PT_FLUSH_CNT.COUNT
    | none => s1

/-- TLPs cut short on receive at port q end with TAIL_BAD (R311). -/
def State.cutIngress (s : State) (q : Nat) : State :=
  (List.range 8).foldl (fun t c => match t.arrivingAt q c with
    | some _ => t.bodyCell q c 0 true true
    | none => t) s

/-! ### Down (R310 to R313) -/

/-- The linger of a downstream port ends in a flush (R312). -/
def State.stdLingerEnd (s : State) (q : Nat) : State :=
  if !s.on (Reg.PT_STD_STATUS q) Fld.PT_STD_STATUS.LINGER then s else
  let s1 := s.set0 (Reg.PT_STD_STATUS q) Fld.PT_STD_STATUS.LINGER
  if s.portCells q = 0 then s1
  else (s1.stdErr q Fld.PT_STD_ERR.LINGER_FLUSH 14).flushPort q fun _ _ => true

/-- A hot reset of the device or LD that a binding joins, unless a decoder targets it (R313, R330). -/
def State.resetBound (s : State) (b : BindingRec) : State :=
  let p := s.portRec b.dsp
  let targeted := s.acc.fl.any fun e => e.2.cur.decoders.any fun d => d.targets.any fun t => t.port == b.dsp && t.ld == b.ld
  let mld := s.acc.fl.any fun e => (e.2.cur.bindings.any fun x => x.dsp == b.dsp && x.ld != b.ld)
    || e.2.cur.decoders.any fun d => d.targets.any fun t => t.port == b.dsp && t.ld != b.ld
  if p.isNone || targeted then s
  else if mld then s.emit (.hotReset b.dsp (some b.ld)) else s.emit (.hotReset b.dsp none)

/-- DL_Down of an upstream port is a reset of its host's virtual hierarchy (R313), and starts the directory walk (R314). -/
def State.hierarchyReset (s : State) (p : PortRec) : State :=
  let q := p.port
  let st := Reg.PT_STD_STATUS q
  let s1 := (s.flushPort q fun _ _ => true).flushGate q fun _ => true
  let s2 := ((((s1.modStd q fun x => { x with hdm := none }).setReg (Reg.PT_STD_HDM q) 0).set0 st
    Fld.PT_STD_STATUS.HDM_COMMITTED).set0 st Fld.PT_STD_STATUS.HDM_SHORT).engineReset q
  let s3 : State := { s2 with vppb := (s2.vppb.filter fun e => e.1 / 256 != q || e.2.unbind.isSome).map fun e =>
    (e.1, if e.1 / 256 = q then { unbind := e.2.unbind } else e.2) }
  let s4 := (s3.allBindings.filter fun b => b.usp == q).foldl (fun t b => t.resetBound b) s3
  if p.protocol = .cxl then
    (s4.set1 st Fld.PT_STD_STATUS.WALK).modStd q fun x => { x with walkEid := s4.portEid q }
  else s4

/-- A downstream port's I/O goes at once; its MC0 to MC5 cells linger, unless none may (R312). -/
def State.downstreamDown (s : State) (p : PortRec) (linger : Bool) : State :=
  let q := p.port
  let s1 := s.flushCells q fun c => decide (6 ≤ c.msg.mc) || c.msg.io
  let s2 := (s1.flushGate q fun _ => true).cancelJobs (fun j => s1.jobUses q j) 4
  let s3 := s2.modStd q fun x => { x with cacheDev := false, gpfSent := none, gpfDone := 0 }
  if linger && p.lingerMs != 0 then s3.set1 (Reg.PT_STD_STATUS q) Fld.PT_STD_STATUS.LINGER
  else (s3.set1 (Reg.PT_STD_STATUS q) Fld.PT_STD_STATUS.LINGER).stdLingerEnd q

/-- DL_Down of a standard port. -/
def State.stdDown (s : State) (p : PortRec) (linger : Bool) : State :=
  let q := p.port
  let st := Reg.PT_STD_STATUS q
  if !s.on st Fld.PT_STD_STATUS.DL_UP then s else
  let s1 := ((((s.set0 st Fld.PT_STD_STATUS.DL_UP).setLtssm q 0).inc (Reg.PT_STD_EVENTS q) Fld.PT_STD_EVENTS.DOWNS).wr st
    Fld.PT_STD_STATUS.IDE 0).stdErr q Fld.PT_STD_ERR.LINK_DOWN 13
  let keep := p.role == .downstream
  let s2 := (s1.modStd q fun x => { x with
    keyTx := none, keyRx := none, heldTx := if keep then x.keyTx else none, heldRx := if keep then x.keyRx else none })
    |>.abandonPorts fun r => r.port == q
  let n := (s2.recordsOf q false).length
  let s3 := ((s2.dropRecords q).freeDropped q fun _ => true).addTo (Reg.PT_STD_EVENTS q) Fld.PT_STD_EVENTS.DROP_CPL n
  let s4 := (s3.cutIngress q).endStarted q
  let s5 := if p.role = .upstream then s4.hierarchyReset p else s4.downstreamDown p linger
  -- the slot of a HOTPLUG port returns to LINKING (R319)
  let s6 := if p.hotplug ∧ s.hpState q = 6 then
      (s5.wr (Reg.PT_HP_STATUS q) Fld.PT_HP_STATUS.STATE 4).noteDllsc (s5.vppbsOf q)
    else if !p.hotplug ∧ p.role = .downstream then s5.noteDllsc (s5.vppbsOf q) else s5
  -- an unbind of option 0 waits for this (R330)
  (s6.attemptDone q).regate q

/-- A port is taken down: a fabric port's lanes go to WAIT, a standard link goes down. -/
def State.takeDown (s : State) (p : PortRec) (linger : Bool) : State :=
  if p.fabric then s.lanesToWait p else s.stdDown p linger

/-- A hot reset of a standard link by this switch: down, and training again. -/
def State.stdHotReset (s : State) (p : PortRec) : State :=
  ((s.emit (.hotReset p.port none)).stdDown p true).setLtssm p.port 7

/-! ### The directory walk (R314) -/

/-- An endpoint leaves one slice's sets of Flacon f. -/
def State.walkSlice (s : State) (n f eid : Nat) : State :=
  let own (set : Nat) : Bool := match s.setOwner n set with | some r => r.index == f | none => false
  (s.slice n).sets.foldl (fun t e =>
    if !own e.1 then t else
    e.2.ways.foldl (fun u w =>
      let d := w.2
      if d.st = 5 then u
      else if d.st = 6 then
        (if d.ptrs.head? = some eid then
          let line := u.entryLine n e.1 d.tag
          let u1 := ((u.modSlice n fun x => x.putWay e.1 w.1 none).set1 (Reg.HS_ERR n) Fld.HS_ERR.OWNER_LOST).inc
            (Reg.HS_RACE n) Fld.HS_RACE.OWNER_LOST
          (u1.raiseAt (srcSlice n 2) (some f) { addr := line, flacon := f }).addPoison n line f (u1.epochOf f)
        else u)
      else if (d.ptrs.take d.st).contains eid then u.modSlice n fun x => x.putWay e.1 w.1 (dropSharer d eid)
      else u) t) s

/-- DIRECTORY_WALK_DONE: the endpoint has left every slice; the port's CXL.mem credits are released. -/
def State.walkDone (s : State) (q : Nat) : State :=
  let st := Reg.PT_STD_STATUS q
  if !s.on st Fld.PT_STD_STATUS.WALK then s else
  match s.portFlacon q with
  | none => s.set0 st Fld.PT_STD_STATUS.WALK
  | some f =>
    let eid := (s.stdSt q).walkEid
    ((s.home.map (·.1)).foldl (fun t n => t.walkSlice n f eid) s).set0 st Fld.PT_STD_STATUS.WALK

/-! ### Up (R312) -/

/-- CXL.cache devices enabled below the downstream ports bound to an upstream port. -/
def State.cacheDevices (s : State) (usp : Nat) : Nat :=
  ((s.allBindings.filter fun b => b.usp == usp && (s.stdSt b.dsp).cacheDev).map (·.dsp)).eraseDups.length

/-- A CXL.cache device is enabled, unless it is the 17th of its upstream port (R306). -/
def State.enableCache (s : State) (q : Nat) : State :=
  match (s.allBindings.find? fun b => b.dsp == q).map (·.usp) with
  | none => s
  | some u => if 16 ≤ s.cacheDevices u then s.stdErr q Fld.PT_STD_ERR.CACHE_LIMIT 20
    else s.modStd q fun x => { x with cacheDev := true }

/-- The lingering cells of a port whose device has come back and been restored are sent (R312). -/
def State.stdResume (s : State) (q : Nat) : State :=
  if s.on (Reg.PT_STD_STATUS q) Fld.PT_STD_STATUS.LINGER ∧ (s.stdSt q).same then
    ((s.set0 (Reg.PT_STD_STATUS q) Fld.PT_STD_STATUS.LINGER).inc (Reg.PT_STD_EVENTS q) Fld.PT_STD_EVENTS.RESUMES).modStd q
      fun x => { x with resumedAt := some s.now }
  else s

/-- The linger window of port q ends.  In the MCLK in which the restore completed the window wins (R312). -/
def State.stdWindowEnd (s : State) (q : Nat) : State :=
  let r := Reg.PT_STD_STATUS q
  let e := Reg.PT_STD_EVENTS q
  if !s.on r Fld.PT_STD_STATUS.LINGER ∧ s.on r Fld.PT_STD_STATUS.DL_UP ∧ (s.stdSt q).resumedAt = some s.now then
    ((s.set1 r Fld.PT_STD_STATUS.LINGER).wr e Fld.PT_STD_EVENTS.RESUMES (s.rd e Fld.PT_STD_EVENTS.RESUMES - 1)).stdLingerEnd q
  else s.stdLingerEnd q

/-- Link IDE keys in force; secure once both directions have one (R308). -/
def State.putKeys (s : State) (q : Nat) (tx rx : Option (BitVec 256)) : State :=
  (s.modStd q fun x => { x with keyTx := tx, keyRx := rx, heldTx := none, heldRx := none }).wr (Reg.PT_STD_STATUS q)
    Fld.PT_STD_STATUS.IDE (if tx.isSome && rx.isSome then 2 else if tx.isSome || rx.isSome then 1 else 0)

/-- The chip manager restores to the same device, within its window, the link's IDE keys (R312). -/
def State.restoreKeys (s : State) (q : Nat) : State :=
  let x := s.stdSt q
  if s.on (Reg.PT_STD_STATUS q) Fld.PT_STD_STATUS.LINGER ∧ x.same then s.putKeys q x.heldTx x.heldRx
  else s.modStd q fun y => { y with heldTx := none, heldRx := none }

/-- DL_UP of port q. -/
def State.stdUp (s : State) (p : PortRec) (l : StdLink) : State :=
  let q := p.port
  let st := Reg.PT_STD_STATUS q
  if p.fabric ∨ s.on st Fld.PT_STD_STATUS.DL_UP ∨ (s.stdSt q).fmReset then s else
  let s1 := ((((((s.set1 st Fld.PT_STD_STATUS.DL_UP).setLtssm q 3).wr st Fld.PT_STD_STATUS.RATE (min l.rate.val (p.maxRate - 1))).wr st
    Fld.PT_STD_STATUS.WIDTH l.width.val).wr st Fld.PT_STD_STATUS.FLIT l.flit.val).wrB st Fld.PT_STD_STATUS.PBR
      (l.pbr && p.protocol == .cxl && p.role == .downstream && l.flit.val != 0)).set0 st Fld.PT_STD_STATUS.VIRAL_RX
  let s2 := (s1.attemptDone q).regate q
  if p.role = .upstream then s2
  else
    let same := l.dsn.isSome && (s.stdSt q).partner == l.dsn
    let s3 := match l.dsn with
      | some d => (s2.setReg (Reg.PT_STD_PARTNER q) d).set1 st Fld.PT_STD_STATUS.DSN_VALID
      | none => (s2.setReg (Reg.PT_STD_PARTNER q) 0).set0 st Fld.PT_STD_STATUS.DSN_VALID
    let s4 := (s3.modStd q fun x => { x with partner := l.dsn, same := same, gpf2 := l.gpf2 }).restoreKeys q
    let s5 := if same then s4 else s4.stdLingerEnd q
    let s6 := if l.cache ∧ p.protocol = .cxl then s5.enableCache q else s5
    if p.hotplug then
      (if s6.hpState q = 4 then s6.wr (Reg.PT_HP_STATUS q) Fld.PT_HP_STATUS.STATE 5 else s6)
    else (s6.stdResume q).noteDllsc (s6.vppbsOf q)

/-- A link that has passed through Recovery (R310): at a new rate its lanes take a stamp (R256, R259). -/
def State.stdRecovery (s : State) (p : PortRec) (rate width load : Nat) : State :=
  let q := p.port
  let st := Reg.PT_STD_STATUS q
  if p.fabric ∨ !s.on st Fld.PT_STD_STATUS.DL_UP then s else
  let s1 := (s.inc (Reg.PT_STD_EVENTS q) Fld.PT_STD_EVENTS.RECOVERIES).setLtssm q 3
  if p.anchored then s1
  else
    let old := s.rd st Fld.PT_STD_STATUS.RATE
    let s2 := ((s1.wr st Fld.PT_STD_STATUS.RATE rate).wr st Fld.PT_STD_STATUS.WIDTH width).regate q
    if rate ≠ old then p.lanes.foldl (fun t l => t.stamp' l load 5) s2 else s2

/-- PARTNER_RATE_CHANGE (R310): on an anchored port a hot reset in its place. -/
def State.partnerRate (s : State) (p : PortRec) (rate width load : Nat) : State :=
  if p.fabric ∨ !s.on (Reg.PT_STD_STATUS p.port) Fld.PT_STD_STATUS.DL_UP then s
  else if p.anchored then s.stdHotReset p else s.stdRecovery p rate width load

/-! ### HDM decoder 0 (R303) -/

/-- LOW and HIGH of a Flacon's decoders. -/
def spanOf (l : List DecoderRec) : Nat × Nat :=
  match l with
  | [] => (0, 0)
  | d :: r => r.foldl (fun (b : Nat × Nat) e => (min b.1 e.base, max b.2 (e.base + e.size))) (d.base, d.base + d.size)

/-- A host's commit of HDM decoder 0. -/
def State.hdmCommit (s : State) (p : PortRec) (base size ways : Nat) : State :=
  let q := p.port
  let st := Reg.PT_STD_STATUS q
  if p.protocol ≠ .cxl ∨ p.role ≠ .upstream ∨ !s.on st Fld.PT_STD_STATUS.DL_UP then s
  else if ways ≠ 1 ∨ size = 0 ∨ base % 2 ^ 28 ≠ 0 ∨ size % 2 ^ 28 ≠ 0 ∨ 2 ^ 52 < base + size then s.emit (.hdm q false)
  else
    let (low, high) := spanOf (s.flAcc p.flacon).cur.decoders
    ((((s.modStd q fun x => { x with hdm := some (base, size) }).wr (Reg.PT_STD_HDM q) Fld.PT_STD_HDM.BASE base).set1 st
      Fld.PT_STD_STATUS.HDM_COMMITTED).wrB st Fld.PT_STD_STATUS.HDM_SHORT (decide (size < high - low))).emit (.hdm q true)

/-! ### Viral and IDE (R307, R308) -/

/-- The CXL ports on which a Flacon's viral is asserted: its upstream ports, and downstream ports that no decoder of
another Flacon targets. -/
def State.viralPorts (s : State) (f : Nat) : List PortRec :=
  s.ports.filter fun p => p.protocol == .cxl && p.flacon == f &&
    (p.role == .upstream || !(s.acc.fl.any fun e => e.1 != f && e.2.cur.decoders.any fun d => d.ports.contains p.port))

/-- VIRAL_RECEIVED. -/
def State.viralIn (s : State) (p : PortRec) : State :=
  let q := p.port
  if p.protocol ≠ .cxl ∨ !s.on (Reg.PT_STD_STATUS q) Fld.PT_STD_STATUS.DL_UP then s else
  let s1 := (s.set1 (Reg.PT_STD_STATUS q) Fld.PT_STD_STATUS.VIRAL_RX).stdErr q Fld.PT_STD_ERR.VIRAL_IN 16
  (s1.viralPorts p.flacon).foldl (fun t r => t.set1 (Reg.PT_STD_STATUS r.port) Fld.PT_STD_STATUS.VIRAL_TX) s1

/-- The Flacon's viral ends with its fault; in QUARANTINE every CXL port keeps it until reset. -/
def State.viralClear (s : State) (f : Nat) : State :=
  if s.quarantined then s else
  (s.viralPorts f).foldl (fun t r => t.set0 (Reg.PT_STD_STATUS r.port) Fld.PT_STD_STATUS.VIRAL_TX) s

/-- Link IDE keys programmed in one direction; secure once both have them. -/
def State.ideKey (s : State) (q : Nat) (tx : Bool) (key : BitVec 256) : State :=
  if !s.on (Reg.PT_STD_STATUS q) Fld.PT_STD_STATUS.DL_UP then s else
  let x := s.stdSt q
  s.putKeys q (if tx then some key else x.keyTx) (if tx then x.keyRx else some key)

/-- IDE_FAILURE: the fault, the keys discarded, the link down. -/
def State.ideFail (s : State) (p : PortRec) : State :=
  let q := p.port
  if p.fabric ∨ s.ide q = 0 then s else
  (((s.stdErr q Fld.PT_STD_ERR.IDE_FAIL 15).putKeys q none none).stdDown p true).wr (Reg.PT_STD_STATUS q) Fld.PT_STD_STATUS.IDE 3

/-! ### Global Persistent Flush (R309) -/

/-- GPF downstream ports bound to a host or targeted by a decoder of its Flacon. -/
def State.gpfPorts (s : State) (q : Nat) : List Nat :=
  let f := (s.portFlacon q).getD 32
  (s.ports.filter fun p => p.gpf && p.role == .downstream && !p.fabric && s.on (Reg.PT_STD_STATUS p.port) Fld.PT_STD_STATUS.DL_UP
    && ((s.allBindings.any fun b => b.usp == q && b.dsp == p.port)
      || (s.flAcc f).cur.decoders.any fun d => d.ports.contains p.port)).map (·.port)

/-- A write of the host on port q that has been admitted and has not been completed or ended. -/
def State.hostWrites (s : State) (q : Nat) : Bool :=
  (s.core.tags.any fun e => e.1 / 4096 == q && isWrite { ({} : Msg) with io := e.2.io, op := e.2.op, mc := (classOf e.2.op).getD 7 })
  || (s.core.queues.any fun e => e.2.any fun c => c.msg.port == q && isWrite c.msg && decide (4 ≤ c.msg.mc))
  || !(tabGet s.core.posted q []).isEmpty

/-- A flow sends its phase to the devices that have not had it. -/
def State.gpfSend (s : State) (g : GpfFlow) (ports : List Nat) : State × GpfFlow :=
  let ask := ports.filter fun q => decide ((s.stdSt q).gpfDone < g.phase)
  let s1 := ask.foldl (fun t q =>
    if (t.stdSt q).gpfSent = some g.phase then t
    else (t.emit (.gpf q g.phase)).modStd q fun x => { x with gpfSent := some g.phase }) s
  (s1, { g with held := false, waits := ask })

/-- A flow whose phase is answered everywhere answers its host and closes. -/
def State.gpfClose (s : State) : State :=
  let done := s.gpf.filter fun g => !g.held && g.waits.isEmpty && decide (g.port < 128)
  let s1 : State := { s with gpf := s.gpf.filter fun g => !(!g.held && g.waits.isEmpty && decide (g.port < 128)) }
  done.foldl (fun t g => t.emit (.gpfAnswer g.port g.phase)) s1

/-- Flows held for their host's writes go on once those have ended. -/
def State.gpfAdvance (s : State) : State :=
  if !(s.gpf.any (·.held)) then s else
  let step (t : State) (g : GpfFlow) : State :=
    if g.held && !t.hostWrites g.port then
      let (u, h) := t.gpfSend g (t.gpfPorts g.port)
      { u with gpf := u.gpf ++ [h] }
    else { t with gpf := t.gpf ++ [g] }
  (s.gpf.foldl step { s with gpf := [] }).gpfClose

/-- A host's GPF phase request on port q. -/
def State.gpfRequest (s : State) (p : PortRec) (phase : Nat) : State :=
  let q := p.port
  if !p.gpf ∨ p.role ≠ .upstream ∨ p.fabric ∨ !s.portUp q ∨ (s.gpf.any fun g => g.port == q && g.phase == phase) then s else
  let g : GpfFlow := { port := q, phase := phase, held := true }
  ({ s with gpf := s.gpf ++ [g] } : State).gpfAdvance

/-- A device's answer to a GPF phase serves every flow that waits on it. -/
def State.gpfAnswer (s : State) (q phase : Nat) : State :=
  if (s.stdSt q).gpfSent ≠ some phase then s else
  let s1 := s.modStd q fun x => { x with gpfSent := none, gpfDone := max x.gpfDone phase }
  ({ s1 with gpf := s1.gpf.map fun (g : GpfFlow) => if g.phase = phase then { g with waits := g.waits.erase q } else g } : State).gpfClose

/-- The phase timeouts that the GPF DVSEC of function 0 reports, in µs (R309): 1 ms, and the longest phase-2 duration that a
targeted port reports plus 100. -/
def State.gpfTimeouts (s : State) (q : Nat) : Nat × Nat :=
  (1000, ((s.gpfPorts q).map fun d => (s.stdSt d).gpf2).foldl max 0 + 100)

/-- A host's GPF phase past its timeout is answered anyway. -/
def State.gpfTimeout (s : State) (q phase : Nat) : State :=
  if !(s.gpf.any fun g => g.port == q && g.phase == phase) then s else
  let s1 : State := { s with gpf := s.gpf.filter fun g => !(g.port == q && g.phase == phase) }
  (s1.emit (.gpfAnswer q phase)).stdErr q Fld.PT_STD_ERR.GPF_TIMEOUT 18

/-- LN_CTL.RETRAIN (R249): every lane of the lane's port to WAIT, the link down; on a CXL or PCIe port the link back to
Detect. -/
def State.laneRetrain (s : State) (l : Nat) : State :=
  match s.lanePort l with
  | some p => s.takeDown p true
  | none => s

end Sys2Proof.Machine
end

