-- ==== Sys2Proof/Machine/Power.lean ====
section
/-!
DEFINITION. Machine/Power.lean: the power companion: rails (R340), feeds (R342, R343), bus supervision (R344 to R346),
slot channels (R347 to R357).
-/
namespace Sys2Proof.Machine

/-! ### Readings -/

/-- PC_BUS takes the readings that came with an event; BELOW_RESET clears at RESET_MV + 100 mV (R344). -/
def State.showBus (s : State) (m : BusMeas) : State :=
  let s := if s.rd Reg.PC_SUPV Fld.PC_SUPV.RESET_MV + 100 ≤ m.vbus then
    s.set0 Reg.PC_SUPV_STATUS Fld.PC_SUPV_STATUS.BELOW_RESET else s
  (((s.wr Reg.PC_BUS Fld.PC_BUS.VBUS_MV m.vbus).wr Reg.PC_BUS Fld.PC_BUS.FEED_A_MV m.feedA).wr Reg.PC_BUS
    Fld.PC_BUS.FEED_B_MV m.feedB).wr Reg.PC_BUS Fld.PC_BUS.VAUX_MV m.vaux

/-- The companion has supply: VAUX is present. -/
def State.companionOn (s : State) : Bool := s.pins.vaux && s.md != .off

/-! ### Rails (R340) -/

/-- A main rail out of tolerance. -/
def State.railOut (s : State) (r : Nat) : State :=
  let bit := r
  let s1 : State := { s with pins := { s.pins with railsOk := clrBitAt s.pins.railsOk (r + 2) } }
  let s2 := s1.wr Reg.PC_RAIL Fld.PC_RAIL.GOOD (clrBitAt (s1.rd Reg.PC_RAIL Fld.PC_RAIL.GOOD) bit)
  match s.md with
  | .boot | .compose | .serve | .recompose | .revive | .quarantine | .linktest =>
    (s2.setBitOf Reg.PC_RAIL Fld.PC_RAIL.FAULT bit).raise Src.PC_RAIL none
  | .drydown =>
    -- before step 1 of R367 the record will never be marked valid, and what could be lost is recorded (R368)
    let s3 := s2.setBitOf Reg.PC_RAIL Fld.PC_RAIL.FAULT bit
    if s3.drain.railCut then s3 else { s3.reportUnwritten 4 with drain := { s3.drain with railCut := true } }
  | _ => s2

/-- The rails are in tolerance, as R338 requires before PWRON_RESET_N rises. -/
def State.railsIn (s : State) : State :=
  ({ s with pins := { s.pins with railsOk := 0xFC } }).wr Reg.PC_RAIL Fld.PC_RAIL.GOOD 0x3F

/-- VAUX outside ±5 %. -/
def State.vauxLow (s : State) (m : BusMeas) : State :=
  if !s.companionOn then s else
  let s1 : State := { s with pins := { s.pins with vauxOk := false } }
  (((s1.showBus m).set0 Reg.PC_RAIL Fld.PC_RAIL.VAUX_GOOD).set1 Reg.PC_EVENTS Fld.PC_EVENTS.VAUX_LOW).raise Src.PC_VAUX_LOW none

/-! ### Feeds (R342, R343) -/

def feedPresent (f : FeedIx) : Fld := if f.val = 0 then Fld.PC_FEED.A_PRESENT else Fld.PC_FEED.B_PRESENT
def feedConduct (f : FeedIx) : Fld := if f.val = 0 then Fld.PC_FEED.A_CONDUCT else Fld.PC_FEED.B_CONDUCT
def feedBlocked (f : FeedIx) : Fld := if f.val = 0 then Fld.PC_FEED.A_BLOCKED else Fld.PC_FEED.B_BLOCKED
def feedLostBit (f : FeedIx) : Fld := if f.val = 0 then Fld.PC_EVENTS.FEED_A_LOST else Fld.PC_EVENTS.FEED_B_LOST

/-- A feed's gate driven, or not. -/
def State.feedGate (s : State) (f : FeedIx) (on : Bool) : State :=
  let f2 : Fin 2 := Fin.ofNat 2 f.val
  if s.on Reg.PC_FEED (feedConduct f) = on then s
  else (s.wrB Reg.PC_FEED (feedConduct f) on).emit (.pin (.feedGate f2) on)

/-- A feed that may conduct does: present, not blocked, the charge pump running. -/
def State.feedTry (s : State) (f : FeedIx) : State :=
  if s.on Reg.PC_FEED (feedPresent f) && !s.on Reg.PC_FEED (feedBlocked f) && s.on Reg.PC_FEED Fld.PC_FEED.PUMP_OK then
    s.feedGate f true else s

def State.feedReverse (s : State) (f : FeedIx) (m : BusMeas) : State :=
  if !s.companionOn then s else
  ((((s.showBus m).feedGate f false).set1 Reg.PC_FEED (feedBlocked f)).set1 Reg.PC_EVENTS Fld.PC_EVENTS.FEED_REVERSE).raise
    Src.PC_FEED_REVERSE none

def State.feedUnblock (s : State) (f : FeedIx) (m : BusMeas) : State :=
  if !s.companionOn then s else ((s.showBus m).set0 Reg.PC_FEED (feedBlocked f)).feedTry f

def State.feedPresentNow (s : State) (f : FeedIx) (m : BusMeas) : State :=
  if !s.companionOn then s else ((s.showBus m).set1 Reg.PC_FEED (feedPresent f)).feedTry f

def State.feedLost (s : State) (f : FeedIx) (m : BusMeas) : State :=
  if !s.companionOn ∨ !s.on Reg.PC_FEED (feedPresent f) then s else
  let s1 := (((s.showBus m).set0 Reg.PC_FEED (feedPresent f)).feedGate f false).set1 Reg.PC_EVENTS (feedLostBit f)
  if s.md.serving then s1.raise Src.PC_FEED_LOST none else s1

def State.feedFet (s : State) (f : FeedIx) (m : BusMeas) : State :=
  if !s.companionOn ∨ !s.on Reg.PC_FEED (feedConduct f) then s else
  ((s.showBus m).set1 Reg.PC_EVENTS Fld.PC_EVENTS.FEED_FET).raise Src.PC_FEED_FET none

/-! ### Bus supervision (R344 to R346) -/

/-- Modes in which BELOW_RESET resets the device (Table 2). -/
def Mode.busResets : Mode → Bool
  | .boot | .compose | .revive | .linktest => true
  | _ => false

/-- A warning as it begins (Table 2); DRYDOWN starts where the mode serves (Machine/Settle.lean). -/
def State.warning (s : State) : State :=
  let s1 : State := { s with pwr := { s.pwr with warned := true } }
  match s.md with
  | .boot | .compose | .revive | .linktest | .frozen =>
    (s1.set1 Reg.PC_EVENTS Fld.PC_EVENTS.WARN_IGNORED).raise Src.PC_WARN_IGNORED none
  | _ => s1

/-- A warning stands (R345). -/
def State.warningStands (s : State) : Bool :=
  (s.on Reg.PC_SUPV_STATUS Fld.PC_SUPV_STATUS.WARN && s.pwr.warned) || s.on Reg.PC_SUPV_STATUS Fld.PC_SUPV_STATUS.PWRFAIL

/-- The ride-through ends with WARN set. -/
def State.rideEnds (s : State) : State :=
  if s.on Reg.PC_SUPV_STATUS Fld.PC_SUPV_STATUS.RIDING then (s.set0 Reg.PC_SUPV_STATUS Fld.PC_SUPV_STATUS.RIDING).warning else s

/-- WARN is set: an episode begins. -/
def State.busWarn (s : State) (m : BusMeas) : State :=
  if !s.companionOn ∨ s.on Reg.PC_SUPV_STATUS Fld.PC_SUPV_STATUS.WARN then s else
  let s1 : State := { s with pwr := { s.pwr with warned := false } }
  let s2 := ((((s1.showBus m).set1 Reg.PC_SUPV_STATUS Fld.PC_SUPV_STATUS.WARN).set1 Reg.PC_SUPV_STATUS
    Fld.PC_SUPV_STATUS.RIDING).wr Reg.PC_DIP Fld.PC_DIP.MIN_MV (min m.vbus 65535)).wr Reg.PC_DIP Fld.PC_DIP.LEN_US 0
  if s2.rd Reg.PC_SUPV Fld.PC_SUPV.RIDE_US = 0 then s2.rideEnds else s2

/-- Modes whose Dip column names a dip. -/
def Mode.dips : Mode → Bool
  | .serve | .recompose | .quarantine | .boot | .compose | .revive | .linktest | .drydown | .frozen => true
  | _ => false

/-- WARN clears: the episode's figures, and a dip if it ended within RIDE_US (R346). -/
def State.busWarnClear (s : State) (m : BusMeas) (minMv lenUs : Nat) : State :=
  if !s.companionOn ∨ !s.on Reg.PC_SUPV_STATUS Fld.PC_SUPV_STATUS.WARN then s else
  let dip := s.on Reg.PC_SUPV_STATUS Fld.PC_SUPV_STATUS.RIDING && s.md.dips
  let s1 : State := { s with pwr := { s.pwr with warned := false } }
  let s2 := ((((s1.showBus m).set0 Reg.PC_SUPV_STATUS Fld.PC_SUPV_STATUS.WARN).set0 Reg.PC_SUPV_STATUS
    Fld.PC_SUPV_STATUS.RIDING).wr Reg.PC_DIP Fld.PC_DIP.MIN_MV (min minMv 65535)).wr Reg.PC_DIP Fld.PC_DIP.LEN_US (min lenUs 65535)
  if !dip then s2
  else
    let s3 := s2.inc Reg.PC_DIP Fld.PC_DIP.COUNT
    if s.md = .drydown then s3 else (s3.set1 Reg.PC_EVENTS Fld.PC_EVENTS.DIP).raise Src.PC_DIP none

/-- BELOW_RESET is set (Table 2). -/
def State.belowReset (s : State) (m : BusMeas) : State :=
  if !s.companionOn ∨ s.on Reg.PC_SUPV_STATUS Fld.PC_SUPV_STATUS.BELOW_RESET then s else
  let s1 := ((s.showBus m).set1 Reg.PC_SUPV_STATUS Fld.PC_SUPV_STATUS.BELOW_RESET).rideEnds
  if s.md.busResets then
    let s2 := (s1.set1 Reg.PC_EVENTS Fld.PC_EVENTS.BUS_RESET).intoReset 0x01
    { s2 with mode := { s2.mode with busHold := true } }
  else if s.md = .drydown ∨ s.md = .frozen then s1.set1 Reg.PC_EVENTS Fld.PC_EVENTS.BUS_RESET
  else s1

/-- The bus at or above PWRWARN_MV + 100 mV for 10 ms. -/
def State.busBack (s : State) (m : BusMeas) : State :=
  if !s.companionOn then s else
  let s1 := (s.showBus m).set0 Reg.PC_SUPV_STATUS Fld.PC_SUPV_STATUS.BELOW_RESET
  if !s.mode.busHold then s1
  else
    let s2 : State := { s1 with mode := { s1.mode with busHold := false } }
    if s2.md = .reset ∧ s2.pins.pwronResetN ∧ !s2.mode.vauxWait then s2.leaveReset else s2

def State.pwrfail (s : State) (on : Bool) : State :=
  if !s.companionOn then s else
  let s1 : State := { s with pins := { s.pins with pwrfailN := !on } }
  if on then
    (if s.on Reg.PC_SUPV_STATUS Fld.PC_SUPV_STATUS.PWRFAIL then s1
     else
      let w := s.pwr.warned
      let s2 := (s1.set1 Reg.PC_SUPV_STATUS Fld.PC_SUPV_STATUS.PWRFAIL).warning
      { s2 with pwr := { s2.pwr with warned := w } })
  else s1.set0 Reg.PC_SUPV_STATUS Fld.PC_SUPV_STATUS.PWRFAIL

/-- Power is good (R346). -/
def State.powerGood (s : State) : Bool :=
  !s.on Reg.PC_SUPV_STATUS Fld.PC_SUPV_STATUS.WARN && !s.on Reg.PC_SUPV_STATUS Fld.PC_SUPV_STATUS.PWRFAIL
  && !s.on Reg.PC_SUPV_STATUS Fld.PC_SUPV_STATUS.BELOW_RESET && s.pins.railsOk == 0xFC

/-! ### Slot channels: states of R349 Table 4 -/

def Ch.OFF : Nat := 0
def Ch.ZERO : Nat := 1
def Ch.RAMP : Nat := 2
def Ch.QUAL : Nat := 3
def Ch.ON : Nat := 4
def Ch.COOL : Nat := 5
def Ch.LATCHED : Nat := 6
def Ch.DOWN : Nat := 7

def State.ch (s : State) (n : Nat) : Nat := s.rd (Reg.SPC_STATE n) Fld.SPC_STATE.STATE
def State.setCh (s : State) (n x : Nat) : State := s.wr (Reg.SPC_STATE n) Fld.SPC_STATE.STATE x

def State.modChan (s : State) (n : Nat) (g : ChannelState → ChannelState) : State :=
  { s with pwr := { s.pwr with ch := tabMod s.pwr.ch n {} g } }

/-- SPC_MEAS and SPC_TIMER take the readings that came with an event. -/
def State.showChan (s : State) (n : Nat) (m : ChanMeas) : State :=
  let r := Reg.SPC_MEAS n
  let ext := s.on (Reg.SPC_CFG n) Fld.SPC_CFG.EXT_DIODE
  (((((s.wr r Fld.SPC_MEAS.IOUT_MA m.iout).wr r Fld.SPC_MEAS.VOUT_MV m.vout).wrS r Fld.SPC_MEAS.T_MODEL m.tModel).wrS r
    Fld.SPC_MEAS.T_DIODE (if ext then m.tDiode else 0)).wr (Reg.SPC_TIMER n) Fld.SPC_TIMER.FAULT_ELAPSED m.faultUs).wr
    (Reg.SPC_TIMER n) Fld.SPC_TIMER.COOL_ELAPSED (min m.coolMs 65535)

/-- The gate of channel n, as the pin record shows it. -/
def State.chGate (s : State) (n : Nat) (on : Bool) : State := s.emit (.pin (.spcGate (Fin.ofNat 32 n)) on)

/-- PG of the channel, and of its slot's port. -/
def State.setPg (s : State) (n : Nat) (b : Bool) : State :=
  let s1 := s.wrB (Reg.SPC_STATE n) Fld.SPC_STATE.PG b
  match s.slotPort n with
  | some q => s1.wrB (Reg.PT_HP_STATUS q) Fld.PT_HP_STATUS.PG b
  | none => s1

/-- The slot's port, where it has HOTPLUG. -/
def State.hotPort (s : State) (n : Nat) : Option PortRec :=
  match s.slotPort n with
  | some q => match s.portRec q with
    | some p => if p.hotplug then some p else none
    | none => none
  | none => none

/-- A latched channel puts its slot in FAULT (R319, R354, R358). -/
def State.slotLatched (s : State) (n : Nat) : State :=
  let s1 := s.raise (srcSlot n 1) (s.slotFlacon n)
  match s.hotPort n with
  | none => s1
  | some p =>
    if s1.hpState p.port ≠ 2 then s1 else
    let s2 := (s1.wr (Reg.PT_HP_STATUS p.port) Fld.PT_HP_STATUS.STATE 8).set1 (Reg.PT_HP_EVENTS p.port) Fld.PT_HP_EVENTS.PWR_FAULT
    (s2.vppbsOf p.port).foldl (fun t e => t.vppbEvent e.1 e.2 1 fun x => { x with powerFault := true }) s2

/-- LATCHED. -/
def State.latch (s : State) (n : Nat) : State :=
  (((s.setCh n Ch.LATCHED).chGate n false).set1 (Reg.SPC_ERR n) Fld.SPC_ERR.LATCHED).slotLatched n

/-- An offset zero begins. -/
def State.startZero (s : State) (n : Nat) : State :=
  (s.set1 (Reg.SPC_STATE n) Fld.SPC_STATE.ZEROING).set0 (Reg.SPC_STATE n) Fld.SPC_STATE.ZERO_DUE

/-- The channel to OFF, gate low, timer 0. -/
def State.chOff (s : State) (n : Nat) : State :=
  let r := Reg.SPC_STATE n
  let s1 := (((s.setCh n Ch.OFF).set0 r Fld.SPC_STATE.IN_LIMIT).setPg n false).wr (Reg.SPC_TIMER n) Fld.SPC_TIMER.FAULT_ELAPSED 0
  let s2 := if s.ch n = Ch.OFF then s1 else s1.chGate n false
  if s2.on r Fld.SPC_STATE.ZERO_DUE then s2.startZero n else s2

/-- A turn-on command, from OFF; it waits while the channel still ramps down, or without the charge pump. -/
def State.chTurnOn (s : State) (n : Nat) : State :=
  if !s.on (Reg.SPC_CFG n) Fld.SPC_CFG.VALID then s
  else if s.ch n = Ch.DOWN ∨ (s.ch n = Ch.OFF ∧ !s.on Reg.PC_FEED Fld.PC_FEED.PUMP_OK) then
    s.modChan n fun x => { x with onRequested := true }
  else if s.ch n ≠ Ch.OFF then s
  else
  ((((s.modChan n fun x => { x with onRequested := false }).setCh n Ch.ZERO).wr (Reg.SPC_STATE n) Fld.SPC_STATE.RETRIES_LEFT (s.rd (Reg.SPC_CFG n) Fld.SPC_CFG.RETRIES)).wr
    (Reg.SPC_TIMER n) Fld.SPC_TIMER.FAULT_ELAPSED 0).startZero n

/-- A turn-on command that waited is served. -/
def State.chServe (s : State) (n : Nat) : State := if (tabGet s.pwr.ch n {}).onRequested then s.chTurnOn n else s

/-- States ZERO to ON. -/
def chLive (x : Nat) : Bool := decide (Ch.ZERO ≤ x) && decide (x ≤ Ch.ON)

/-- An orderly off command. -/
def State.chRampOff (s : State) (n : Nat) : State :=
  let s := s.modChan n fun x => { x with onRequested := false }
  if chLive (s.ch n) then ((s.setCh n Ch.DOWN).setPg n false).set0 (Reg.SPC_STATE n) Fld.SPC_STATE.IN_LIMIT
  else if s.ch n = Ch.COOL ∨ s.ch n = Ch.LATCHED then s.chOff n
  else s

/-- An immediate off command. -/
def State.chNow (s : State) (n : Nat) : State :=
  let s1 := s.modChan n fun x => { x with onRequested := false }
  if s.ch n = Ch.OFF then s1 else s1.chOff n

/-- The supply on SPC_SRC lies within 95 % to 115 % of VOUT_MV (R348). -/
def State.supplyOk (s : State) (n mv : Nat) : Bool :=
  let v := if s.on (Reg.SPC_CFG n) Fld.SPC_CFG.VOUT_12V then 12000 else 3300
  decide (95 * v ≤ 100 * mv) && decide (100 * mv ≤ 115 * v)

def State.spcCfgErr (s : State) (n : Nat) : State :=
  (s.set1 (Reg.SPC_ERR n) Fld.SPC_ERR.CFG).raise (srcSlot n 4) (s.slotFlacon n)

/-- An offset zero is done (R356): in ZERO the ramp starts, where the supply allows it. -/
def State.zeroDone (s : State) (n : Nat) (offset tref : Int) (srcMv : Nat) : State :=
  if !s.on (Reg.SPC_STATE n) Fld.SPC_STATE.ZEROING then s else
  let s1 := (((s.set0 (Reg.SPC_STATE n) Fld.SPC_STATE.ZEROING).set0 (Reg.SPC_STATE n) Fld.SPC_STATE.ZERO_DUE).wrS
    (Reg.SPC_ZERO n) Fld.SPC_ZERO.OFFSET offset).wrS (Reg.SPC_ZERO n) Fld.SPC_ZERO.T_ZERO tref
  if s.ch n ≠ Ch.ZERO then s1
  else if s.supplyOk n srcMv then ((s1.setCh n Ch.RAMP).inc (Reg.SPC_CNT n) Fld.SPC_CNT.RAMPS).chGate n true
  else (s1.spcCfgErr n).latch n

def State.rampDone (s : State) (n : Nat) (m : ChanMeas) : State :=
  if s.ch n = Ch.RAMP then (s.showChan n m).setCh n Ch.QUAL else s

/-- Qualified for PG_QUAL_US: the fault timer wins over power-good (R357). -/
def State.pgDone (s : State) (n : Nat) (m : ChanMeas) : State :=
  if s.ch n = Ch.QUAL ∧ !s.on (Reg.SPC_STATE n) Fld.SPC_STATE.IN_LIMIT then
    let s1 := ((s.showChan n m).setCh n Ch.ON).setPg n true
    if s1.on (Reg.SPC_STATE n) Fld.SPC_STATE.ZERO_DUE then s1.startZero n else s1
  else s

def State.outputLow (s : State) (n : Nat) (m : ChanMeas) : State :=
  if s.ch n = Ch.ON then ((s.showChan n m).setCh n Ch.QUAL).setPg n false else s

def State.inLimit (s : State) (n : Nat) (m : ChanMeas) : State :=
  if !chLive (s.ch n) then s else
  let s1 := (s.showChan n m).set1 (Reg.SPC_STATE n) Fld.SPC_STATE.IN_LIMIT
  if s.ch n = Ch.ON then (s1.setCh n Ch.QUAL).setPg n false else s1

def State.inLimitClear (s : State) (n : Nat) (m : ChanMeas) : State :=
  if s.on (Reg.SPC_STATE n) Fld.SPC_STATE.IN_LIMIT then
    (s.showChan n m).set0 (Reg.SPC_STATE n) Fld.SPC_STATE.IN_LIMIT else s

/-- A trip in RAMP, QUAL or ON; cause 1 TIMER, 2 THERMAL, 3 HARD, 4 DIODE. -/
def State.trip (s : State) (n cause : Nat) (m : ChanMeas) : State :=
  let st := s.ch n
  if st ≠ Ch.RAMP ∧ st ≠ Ch.QUAL ∧ st ≠ Ch.ON then s else
  let r := Reg.SPC_STATE n
  let cnt := if cause = 1 then Fld.SPC_CNT.TIMER_TRIPS else if cause = 3 then Fld.SPC_CNT.HARD_TRIPS else Fld.SPC_CNT.THERMAL_TRIPS
  let s1 := ((((((s.showChan n m).wr r Fld.SPC_STATE.LAST_TRIP cause).inc (Reg.SPC_CNT n) cnt).set1 (Reg.SPC_ERR n)
    Fld.SPC_ERR.TRIP).raise (srcSlot n 3) (s.slotFlacon n)).set0 r Fld.SPC_STATE.IN_LIMIT).setPg n false
  let s2 := (s1.wr (Reg.SPC_TIMER n) Fld.SPC_TIMER.FAULT_ELAPSED 0).wr (Reg.SPC_TIMER n) Fld.SPC_TIMER.COOL_ELAPSED 0
  if 0 < s.rd r Fld.SPC_STATE.RETRIES_LEFT then
    let s3 := (s2.setCh n Ch.COOL).chGate n false
    if s3.on r Fld.SPC_STATE.ZERO_DUE then s3.startZero n else s3
  else s2.latch n

def State.diodeOut (s : State) (n : Nat) (m : ChanMeas) : State :=
  if !s.on (Reg.SPC_CFG n) Fld.SPC_CFG.EXT_DIODE then s else
  (((s.showChan n m).modChan n fun x => { x with diodeBad := true }).set1 (Reg.SPC_ERR n) Fld.SPC_ERR.DIODE).raise (srcSlot n 5)
    (s.slotFlacon n)

def State.coolDone (s : State) (n : Nat) (m : ChanMeas) : State :=
  if s.ch n ≠ Ch.COOL then s else
  let r := Reg.SPC_STATE n
  (((s.showChan n m).setCh n Ch.ZERO).wr r Fld.SPC_STATE.RETRIES_LEFT (s.rd r Fld.SPC_STATE.RETRIES_LEFT - 1)).startZero n

def State.rampDownDone (s : State) (n : Nat) (m : ChanMeas) : State :=
  if s.ch n = Ch.DOWN then ((s.showChan n m).chOff n).chServe n else s

/-- The bus below 7.0 V: no charge pump, feeds and channels off, no trip counted (R342, R357). -/
def State.busBelow7 (s : State) (m : BusMeas) : State :=
  if !s.companionOn then s else
  let s1 := (((s.showBus m).set0 Reg.PC_FEED Fld.PC_FEED.PUMP_OK).feedGate (Fin.ofNat _ 0) false).feedGate (Fin.ofNat _ 1) false
  (List.range 32).foldl (fun t n => t.chNow n) s1

/-- The charge pump runs again: feeds that may conduct do. -/
def State.pumpStart (s : State) (m : BusMeas) : State :=
  if !s.companionOn then s else
  (List.range 32).foldl (fun t n => t.chServe n)
    ((((s.showBus m).set1 Reg.PC_FEED Fld.PC_FEED.PUMP_OK).feedTry (Fin.ofNat _ 0)).feedTry (Fin.ofNat _ 1))

/-- A channel's T_ref is its external diode, until that reads out of range, and sensor 15 otherwise (R352). -/
def State.usesDiode (s : State) (n : Nat) : Bool :=
  s.on (Reg.SPC_CFG n) Fld.SPC_CFG.EXT_DIODE && !(tabGet s.pwr.ch n {}).diodeBad
def State.tref (s : State) (n : Nat) : Int :=
  if s.usesDiode n then s.rdS (Reg.SPC_MEAS n) Fld.SPC_MEAS.T_DIODE else s.rdS (Reg.CHIP_TSENSE 15) Fld.CHIP_TSENSE.TEMP

/-- T_ref of a channel has moved by more than 10 °C since its last zero (R356): a zero starts, or falls due.  diode: the
reading is the external diode's. -/
def State.trefMoved (s : State) (n : Nat) (diode : Bool) : State :=
  let r := Reg.SPC_STATE n
  let t := s.tref n
  if !s.on (Reg.SPC_CFG n) Fld.SPC_CFG.VALID ∨ s.usesDiode n ≠ diode ∨ (!diode ∧ !s.on (Reg.CHIP_TSENSE 15) Fld.CHIP_TSENSE.VALID)
      ∨ s.on r Fld.SPC_STATE.ZEROING ∨ (t - s.rdS (Reg.SPC_ZERO n) Fld.SPC_ZERO.T_ZERO).natAbs ≤ 160 then s
  else
    let st := s.ch n
    if st = Ch.OFF ∨ st = Ch.LATCHED ∨ st = Ch.COOL ∨ (st = Ch.ON ∧ !s.on r Fld.SPC_STATE.IN_LIMIT) then s.startZero n
    else if st = Ch.ZERO then s
    else s.set1 r Fld.SPC_STATE.ZERO_DUE

/-- A channel's SLOTPOWER record goes live (R348, R355). -/
def State.chGoLive (s : State) (r : SlotPowerRec) : State :=
  let n := r.channel
  let sense := r.limit * r.shunt / 1000
  let ok := decide (2000 ≤ sense) && decide (sense ≤ 50000)
  let c := Reg.SPC_CFG n
  let s1 := ((((((((s.wr c Fld.SPC_CFG.RAMP_MV_MS r.ramp).wrB c Fld.SPC_CFG.EXT_DIODE r.extDiode).wrB c Fld.SPC_CFG.AUTO_ON
    r.autoOn).wr c Fld.SPC_CFG.LIMIT_MAX_MA r.limit).wr c Fld.SPC_CFG.RETRIES r.retries).wr c Fld.SPC_CFG.FAULT_US r.faultUs).wr c
    Fld.SPC_CFG.PG_QUAL_US r.pgQual).wrB c Fld.SPC_CFG.VOUT_12V (r.vout == 12000)).wrB c Fld.SPC_CFG.VALID ok
  let d := Reg.SPC_CFG2 n
  let s2 := (((s1.wr d Fld.SPC_CFG2.SHUNT_UOHM r.shunt).wr d Fld.SPC_CFG2.FET_RTH r.fetRth).wr d Fld.SPC_CFG2.FET_CTH r.fetCth).wr d
    Fld.SPC_CFG2.FET_TMAX r.fetTmax
  let s3 := (s2.wr (Reg.SPC_LIMIT n) Fld.SPC_LIMIT.LIMIT_MA r.limit).modChan n fun x => { x with diodeBad := false }
  if ok then s3 else (s3.chNow n).spcCfgErr n

/-- A channel whose record is gone. -/
def State.chGone (s : State) (n : Nat) : State :=
  ((s.chNow n).setReg (Reg.SPC_CFG n) 0).setReg (Reg.SPC_CFG2 n) 0

/-- SET_LIMIT's bounds (R355). -/
def State.limitOk (s : State) (n ma : Nat) : Bool :=
  decide (500 ≤ ma) && decide (ma ≤ s.rd (Reg.SPC_CFG n) Fld.SPC_CFG.LIMIT_MAX_MA)
  && decide (2000 ≤ ma * s.rd (Reg.SPC_CFG2 n) Fld.SPC_CFG2.SHUNT_UOHM / 1000)

end Sys2Proof.Machine
end

