-- ==== Sys2Proof/Machine/HotPlug.lean ====
section
/-!
DEFINITION. Machine/HotPlug.lean: the slot machine (R318 to R327), binding (R328 to R330), Decant jobs as commands drive
them (R331 to R336).
-/
namespace Sys2Proof.Machine

/-! ### Command statuses (R420 Table 2) -/

def St.OK : Nat := 0x0000
def St.OUT_OF_FORMULA : Nat := 0x0001
def St.NOT_DELEGATED : Nat := 0x0002
def St.FLACON_FENCED : Nat := 0x0003
def St.EPOCH_BUSY : Nat := 0x0004
def St.MODE : Nat := 0x0005
def St.BLOCK_FENCED : Nat := 0x0006
def St.IN_USE : Nat := 0x0007
def St.BUSY : Nat := 0x0008
def St.NOT_PRESENT : Nat := 0x0009
def St.REGION_OVERLAP : Nat := 0x000A
def St.INDEX_IN_USE : Nat := 0x000B
def St.INDEX_FREE : Nat := 0x000C
def St.WRONG_FLACON : Nat := 0x000D
def St.BAD_FIELD : Nat := 0x000E
def St.RECOMPOSE_BUSY : Nat := 0x000F
def St.NOT_LOCAL : Nat := 0x0010
def St.REGION_PERMS : Nat := 0x0011
def St.NOT_DURABLE : Nat := 0x0012
def St.PORT_DOWN : Nat := 0x0013
def St.NO_PRESENCE : Nat := 0x0014
def St.SEALED : Nat := 0x0015
def St.BAD_SIGNATURE : Nat := 0x0016
def St.INVALID : Nat := 0x0017
def St.UNSUPPORTED : Nat := 0x0018
def St.BAD_LENGTH : Nat := 0x0019
def St.FLASH_ERROR : Nat := 0x001A
def St.FUSE_ERROR : Nat := 0x001B
def St.LIFECYCLE : Nat := 0x001C

/-- The status code of a region, bind, DCD or Decant check. -/
def regionCode : RegionStatus → Nat
  | .ok => St.OK | .outOfFormula => St.OUT_OF_FORMULA | .regionOverlap => St.REGION_OVERLAP | .indexInUse => St.INDEX_IN_USE
  | .indexFree => St.INDEX_FREE | .wrongFlacon => St.WRONG_FLACON | .badField => St.BAD_FIELD | .epochBusy => St.EPOCH_BUSY
  | .flaconFenced => St.FLACON_FENCED | .recomposeBusy => St.RECOMPOSE_BUSY

/-! ### The slot machine (R319 Table 2) -/

def Hp.EMPTY : Nat := 0
def Hp.PRESENT : Nat := 1
def Hp.POWERING : Nat := 2
def Hp.POWERED : Nat := 3
def Hp.LINKING : Nat := 4
def Hp.ENUM : Nat := 5
def Hp.ACTIVE : Nat := 6
def Hp.OFFING : Nat := 7
def Hp.FAULT : Nat := 8

def State.setHp (s : State) (q x : Nat) : State := s.wr (Reg.PT_HP_STATUS q) Fld.PT_HP_STATUS.STATE x

/-- Modes in which a slot machine takes transitions (R320). -/
def Mode.slots : Mode → Bool
  | .compose | .serve | .recompose | .revive | .quarantine => true
  | _ => false

/-- The port whose slot machine slot n is: it has HOTPLUG, or a SLOTPOWER record. -/
def State.slotMachine (s : State) (n : Nat) : Option PortRec :=
  match s.slotPort n with
  | some q => match s.portRec q with
    | some p => if p.hotplug ∨ s.on (Reg.SPC_CFG n) Fld.SPC_CFG.VALID then some p else none
    | none => none
  | none => none

/-- SLOT_PERST_N driven low, or released. -/
def State.setPerst (s : State) (p : PortRec) (low : Bool) : State :=
  if s.on (Reg.PT_HP_STATUS p.port) Fld.PT_HP_STATUS.PERST = low then s
  else (s.wrB (Reg.PT_HP_STATUS p.port) Fld.PT_HP_STATUS.PERST low).emit (.pin (.slotPerstN (Fin.ofNat 32 p.slot)) (!low))

/-- SLOT_CLKREQ_N driven low, or released. -/
def State.setClk (s : State) (p : PortRec) (on : Bool) : State :=
  if s.on (Reg.PT_HP_STATUS p.port) Fld.PT_HP_STATUS.CLK_ON = on then s
  else (s.wrB (Reg.PT_HP_STATUS p.port) Fld.PT_HP_STATUS.CLK_ON on).emit (.pin (.slotClkreqN (Fin.ofNat 32 p.slot)) (!on))

/-- A request refused, counted at the port (R320, R325). -/
def State.hpRefuse (s : State) (p : PortRec) (code : Nat) : Nat × State :=
  (code, (s.set1 (Reg.PT_HP_EVENTS p.port) Fld.PT_HP_EVENTS.REFUSED).inc (Reg.PT_HP_CNT p.port) Fld.PT_HP_CNT.REFUSALS)

/-- A power-on request (R319, R320). -/
def State.slotOn (s : State) (p : PortRec) : Nat × State :=
  let st := s.hpState p.port
  if s.md = .quarantine ∨ !s.md.slots then s.hpRefuse p St.MODE
  else if st = Hp.EMPTY then s.hpRefuse p St.NOT_PRESENT
  else if st ≠ Hp.PRESENT ∨ !s.on (Reg.SPC_CFG p.slot) Fld.SPC_CFG.VALID then s.hpRefuse p St.BUSY
  else (St.OK, (s.setHp p.port Hp.POWERING).chTurnOn p.slot)

/-- AUTO_ON, on entry to PRESENT in COMPOSE or SERVE. -/
def State.autoOn (s : State) (p : PortRec) : State :=
  if s.inMode [.compose, .serve] && s.on (Reg.SPC_CFG p.slot) Fld.SPC_CFG.AUTO_ON then (s.slotOn p).2 else s

/-- A slot leaves FAULT for PRESENT: gate held low, the module in reset, the link down. -/
def State.slotUnfault (s : State) (p : PortRec) : State :=
  (((s.stdDown p false).setPerst p true).chNow p.slot).setHp p.port Hp.PRESENT

/-- A present slot restarts in REVIVE from its channel, and from its state at DRYDOWN entry (R376). -/
def State.slotRestart (s : State) (p : PortRec) (was : Nat) : State :=
  if s.ch p.slot = Ch.ON then (s.setHp p.port Hp.POWERED).setClk p true
  else
    let s1 := s.setHp p.port Hp.PRESENT
    if was ≠ Hp.FAULT ∧ (s.on (Reg.SPC_CFG p.slot) Fld.SPC_CFG.AUTO_ON ∨ (Hp.POWERING ≤ was ∧ was ≤ Hp.ACTIVE)) then
      (s1.slotOn p).2 else s1

/-- Presence debounced low (R319). -/
def State.slotArrive (s : State) (n : Nat) : State :=
  match s.slotMachine n with
  | none => s
  | some p =>
    let q := p.port
    let s1 := ((s.set1 (Reg.PT_HP_STATUS q) Fld.PT_HP_STATUS.PRSNT).set1 (Reg.PT_HP_EVENTS q) Fld.PT_HP_EVENTS.PRSNT_CHG)
    if s.md.slots ∧ p.hotplug ∧ s.hpState q = Hp.EMPTY then
      match tabFind s.hpRestart n with
      | some was => ({ s1 with hpRestart := tabDel s1.hpRestart n } : State).slotRestart p was
      | none => ((s1.setHp q Hp.PRESENT).notePresence (s1.vppbsOf q)).autoOn p
    else s1

/-- Presence debounced high: EMPTY, or a surprise removal (R327). -/
def State.slotLoss (s : State) (n : Nat) : State :=
  match s.slotMachine n with
  | none => s
  | some p =>
    let q := p.port
    let s1 := (s.set0 (Reg.PT_HP_STATUS q) Fld.PT_HP_STATUS.PRSNT).set1 (Reg.PT_HP_EVENTS q) Fld.PT_HP_EVENTS.PRSNT_CHG
    let st := s.hpState q
    if !s.md.slots ∨ !p.hotplug then s1
    else if st = Hp.PRESENT then (s1.setHp q Hp.EMPTY).notePresence (s1.vppbsOf q)
    else if st = Hp.FAULT then ((s1.slotUnfault p).setHp q Hp.EMPTY).notePresence (s1.vppbsOf q)
    else if Hp.POWERING ≤ st ∧ st ≤ Hp.ACTIVE then
      let s2 := (((s1.setPerst p true).chNow n).stdDown p false).stdLingerEnd q
      let s3 := ((s2.setHp q Hp.OFFING).set1 (Reg.PT_HP_EVENTS q) Fld.PT_HP_EVENTS.SURPRISE).inc (Reg.PT_HP_CNT q)
        Fld.PT_HP_CNT.SURPRISES
      ((s3.raise (srcSlot n 0) (s3.portFlacon q)).notePresence (s3.vppbsOf q)).noteDllsc (s3.vppbsOf q)
    else s1

/-- An attention button press (R323). -/
def State.slotAttn (s : State) (n : Nat) : State :=
  match s.slotMachine n with
  | none => s
  | some p =>
    let s1 := s.set1 (Reg.PT_HP_EVENTS p.port) Fld.PT_HP_EVENTS.ATTN
    (s1.vppbsOf p.port).foldl (fun t e => t.vppbEvent e.1 e.2 0 fun x => { x with attnPressed := true }) s1

/-- The slot sees power-good. -/
def State.slotPowerGood (s : State) (n : Nat) : State :=
  match s.slotMachine n with
  | none => s
  | some p =>
    if s.md.slots ∧ s.hpState p.port = Hp.POWERING ∧ s.ch n = Ch.ON then (s.setHp p.port Hp.POWERED).setClk p true else s

/-- The slot sees power-good lost: the module in reset at once, the port down, POWERING again while the channel retries. -/
def State.slotPowerLoss (s : State) (n : Nat) : State :=
  match s.slotMachine n with
  | none => s
  | some p =>
    let st := s.hpState p.port
    if s.md.slots ∧ Hp.POWERED ≤ st ∧ st ≤ Hp.ACTIVE ∧ s.ch n ≠ Ch.ON then
      let s1 := (((s.setPerst p true).stdDown p true).setHp p.port Hp.POWERING)
      if s1.ch n = Ch.LATCHED then s1.slotLatched n else s1
    else s

/-- 100 ms since power-good: the module leaves reset. -/
def State.slotPerst (s : State) (n : Nat) : State :=
  match s.slotMachine n with
  | none => s
  | some p =>
    if s.md.slots ∧ s.hpState p.port = Hp.POWERED ∧ s.ch n = Ch.ON then
      (s.setPerst p false).setHp p.port (if p.hotplug then Hp.LINKING else Hp.ACTIVE)
    else s

/-- Enumeration as R321 finds it: the capacity in bytes of each LD read. -/
def State.enumOk (s : State) (p : PortRec) (lds : List (Nat × Nat)) : Bool :=
  let q := p.port
  let targets := s.acc.fl.flatMap fun e => e.2.cur.decoders.flatMap fun d =>
    (d.targets.filter fun t => t.port == q).map fun t => (t.ld, t.dpa * 2 ^ 28 + d.size / max 1 d.targets.length)
  let bound := (s.allBindings.filter fun b => b.dsp == q).map (·.ld)
  (targets.all fun t => match tabFind lds t.1 with | some c => decide (t.2 ≤ c) | none => false)
  && (bound.all fun l => (tabFind lds l).isSome) && (!p.ideRequired || s.ide q == 2)

/-- SLOT_ENUM_DONE: the slot is ACTIVE, or in FAULT with the port up and carrying nothing. -/
def State.slotEnum (s : State) (n : Nat) (lds : List (Nat × Nat)) : State :=
  match s.slotMachine n with
  | none => s
  | some p =>
    let q := p.port
    if !s.md.slots ∨ s.hpState q ≠ Hp.ENUM then s
    else if s.enumOk p lds then
      -- each LD's HDM decoder 0: base 0, one way, its capacity; CXL.mem is enabled (R321)
      let s1 := if p.protocol = .cxl then s.emit (.enabled q lds) else s
      (((s1.setHp q Hp.ACTIVE).inc (Reg.PT_HP_CNT q) Fld.PT_HP_CNT.INSERTS).stdResume q).noteDllsc (s.vppbsOf q)
    else
      (((s.stdLingerEnd q).setHp q Hp.FAULT).set1 (Reg.PT_HP_EVENTS q) Fld.PT_HP_EVENTS.ENUM_FAIL).raise (srcSlot n 2)
        (s.portFlacon q)

/-- The output has fallen below 10 % of VOUT_MV. -/
def State.slotDischarged (s : State) (n : Nat) : State :=
  match s.slotMachine n with
  | none => s
  | some p =>
    if s.md.slots ∧ s.hpState p.port = Hp.OFFING then
      let s1 := s.setClk p false
      if s.on (Reg.PT_HP_STATUS p.port) Fld.PT_HP_STATUS.PRSNT ∨ !p.hotplug then s1.setHp p.port Hp.PRESENT
      else (s1.setHp p.port Hp.EMPTY).notePresence (s1.vppbsOf p.port)
    else s

/-! ### Orderly removal (R325, R326) -/

/-- A module in use: some decoder that targets its port has a window granted at P1, P2 or P3, or is in a Decant job. -/
def State.portInUse (s : State) (q : Nat) : Bool :=
  s.acc.fl.any fun e => e.2.cur.decoders.any fun d => d.ports.contains q &&
    ((s.acc.regions.any fun r => r.2.flacon == e.1 && decide (r.2.start < d.base + d.size) && decide (d.base < r.2.stop)
        && decide (8 ≤ r.2.perms))
     || s.decant.any fun j => j.2.running && j.2.flacon == e.1 && (j.2.src == d.index || j.2.tgt == d.index))

/-- A removal request. -/
def State.slotOff (s : State) (p : PortRec) : Nat × State :=
  let st := s.hpState p.port
  if !s.md.slots then s.hpRefuse p St.MODE
  else if st = Hp.FAULT then (St.OK, s.slotUnfault p)
  else if st = Hp.EMPTY then s.hpRefuse p St.NOT_PRESENT
  else if st = Hp.PRESENT then (St.OK, s)
  else if st = Hp.OFFING then s.hpRefuse p St.BUSY
  else if s.portInUse p.port then s.hpRefuse p St.IN_USE
  else
    (St.OK, (((s.setHp p.port Hp.OFFING).inc (Reg.PT_HP_CNT p.port) Fld.PT_HP_CNT.REMOVALS).noteDllsc (s.vppbsOf p.port)))

/-- The drain of a removal ends: what is still queued is flushed and the module is put in reset. -/
def State.removalDrained (s : State) (n : Nat) : State :=
  match s.slotMachine n with
  | none => s
  | some p =>
    if s.md.slots ∧ s.hpState p.port = Hp.OFFING ∧ !s.on (Reg.PT_HP_STATUS p.port) Fld.PT_HP_STATUS.PERST then
      ((s.flushPort p.port fun _ _ => true).flushGate p.port fun _ => true).setPerst p true
    else s

/-- 100 µs later the port is taken down and the gate ramps off. -/
def State.removalDown (s : State) (n : Nat) : State :=
  match s.slotMachine n with
  | none => s
  | some p =>
    if s.md.slots ∧ s.hpState p.port = Hp.OFFING ∧ s.on (Reg.PT_HP_STATUS p.port) Fld.PT_HP_STATUS.PERST then
      ((s.stdDown p false).stdLingerEnd p.port).chRampOff n
    else s

/-- SLOT_FAULT_CLEAR: a latched channel to OFF, its slot from FAULT to PRESENT. -/
def State.slotClear (s : State) (p : PortRec) : Nat × State :=
  if !s.md.slots then (St.MODE, s)
  else
    let s1 := if s.ch p.slot = Ch.LATCHED then s.chNow p.slot else s
    if s1.hpState p.port = Hp.FAULT then
      let s2 := s1.slotUnfault p
      (St.OK, if s2.on (Reg.PT_HP_STATUS p.port) Fld.PT_HP_STATUS.PRSNT then s2.autoOn p else s2)
    else (St.OK, s1)

/-! ### vPPB writes and binding (R322, R324, R328 to R330) -/

/-- The binding of a vPPB in force. -/
def State.bindingAt (s : State) (u v : Nat) : Option (Nat × BindingRec) :=
  s.acc.fl.findSome? fun e => (e.2.cur.bindings.find? fun b => b.usp == u && b.vppb == v).map fun b => (e.1, b)

/-- A binding leaves: the epoch advances, the vPPB shows an empty slot, an untargeted device is reset (R330). -/
def State.unbindNow (s : State) (f : Nat) (b : BindingRec) : State :=
  let gen := (s.flAcc f).cur
  let s1 := s.advance f [] (some { gen with bindings := gen.bindings.filter fun x => !(x.usp == b.usp && x.vppb == b.vppb) })
  let s2 := (s1.modVppb b.usp b.vppb fun x => { x with unbind := none, offWritten := false, linkDisable := false })
  ((s2.notePresence [(b.usp, b.vppb)]).noteDllsc [(b.usp, b.vppb)]).resetBound b

/-- A waiting unbind completes once its condition holds and the epoch can advance. -/
def State.tryUnbind (s : State) (u v : Nat) : State :=
  match s.bindingAt u v with
  | none => s
  | some (f, b) =>
    let x := s.vppbSt u v
    let ready := match x.unbind with
      | some 0 => x.linkDisable || !s.portUp b.dsp || s.hpState b.dsp == Hp.OFFING
      | some _ => x.offWritten
      | none => false
    if ready && s.canAdvance f true then s.unbindNow f b else s

/-- Slot Control written by the host: Command Completed follows. -/
def State.slotControl (s : State) (u v : Nat) (w : BitVec 16) : State :=
  s.modVppb u v fun x => { x with control := w, cmdPending := true }

/-- Power Controller Control written by the host (R324). -/
def State.hostPower (s : State) (u v : Nat) (on : Bool) : State :=
  let s1 := s.modVppb u v fun x => { x with cmdPending := true, offWritten := x.offWritten || (!on && x.unbind == some 1) }
  match s1.bindingAt u v with
  | none => s1
  | some (_, b) =>
    match s1.portRec b.dsp with
    | none => s1
    | some p =>
      if !p.hotplug then s1
      else if on then (s1.slotOn p).2
      else
        let s2 := if Hp.POWERING ≤ s1.hpState p.port ∧ s1.hpState p.port ≠ Hp.OFFING then (s1.slotOff p).2 else s1
        s2.tryUnbind u v

/-- 1 µs after a Slot Control write. -/
def State.cmdCompleted (s : State) (u v : Nat) : State :=
  if (s.vppbSt u v).cmdPending then s.vppbEvent u v 4 fun x => { x with cmdPending := false, cmdDone := true } else s

/-- The host sets Link Disable on a vPPB. -/
def State.vppbLinkDisable (s : State) (u v : Nat) : State :=
  (s.modVppb u v fun x => { x with linkDisable := true }).tryUnbind u v

/-- BIND (R60, R328, R329): LD 0 to 15 by Table 7 of R60, so 0xFF only from a BINDING record. -/
def State.bind (s : State) (b : BindingRec) : Nat × State :=
  let f := (s.portFlacon b.usp).getD 32
  let ok := match s.portRec b.usp, s.portRec b.dsp with
    | some u, some d => !u.fabric && !d.fabric && u.role == .upstream && d.role == .downstream && u.flacon == d.flacon
      && decide (b.ld < 16)
    | _, _ => false
  if !s.inMode [.serve, .recompose] then (St.MODE, s)
  else if !ok then (St.OUT_OF_FORMULA, s)
  else match s.flaconBusy f with
    | some e => (regionCode e, s)
    | none =>
      if s.allBindings.any fun x => (x.dsp == b.dsp && x.ld == b.ld) || (x.usp == b.usp && x.vppb == b.vppb) then (St.IN_USE, s)
      else if !s.canAdvance f true then (St.EPOCH_BUSY, s)
      else
        let gen := (s.flAcc f).cur
        let s1 := s.advance f [] (some { gen with bindings := gen.bindings ++ [{ b with flacon := f }] })
        let s2 := s1.notePresence [(b.usp, b.vppb)]
        (St.OK, if s2.portUp b.dsp then s2.noteDllsc [(b.usp, b.vppb)] else s2)

/-- UNBIND with an option (R330). -/
def State.unbind (s : State) (u v opt : Nat) : Nat × State :=
  if !s.inMode [.serve, .recompose] then (St.MODE, s)
  else match s.bindingAt u v with
    | none => (St.BAD_FIELD, s)
    | some (f, b) =>
      match s.flaconBusy f with
      | some e => (regionCode e, s)
      | none =>
        if opt = 2 then (if s.canAdvance f true then (St.OK, s.unbindNow f b) else (St.EPOCH_BUSY, s))
        else if opt = 1 then
          (St.OK, s.vppbEvent u v 0 fun x => { x with attnPressed := true, unbind := some 1, offWritten := false })
        else (St.OK, (s.modVppb u v fun x => { x with unbind := some 0 }).tryUnbind u v)

/-! ### Decant (R331 to R336) -/

/-- Whether every byte of a window of f holds the bits of a mask, and none of another. -/
def State.windowGrants (s : State) (f a stop need none_ : Nat) : Nat → Bool
  | 0 => decide (stop ≤ a)
  | n + 1 => if stop ≤ a then true else
    match s.acc.regions.find? fun r => r.2.flacon == f && decide (r.2.start ≤ a) && decide (a < r.2.stop) with
    | some r => (r.2.perms &&& need == need) && (r.2.perms &&& none_ == 0) && s.windowGrants f r.2.stop stop need none_ n
    | none => false

/-- The check of a copy access to chunk c of a job, at P0 (R221): kind 8 reads the source window, kind 9 writes the target's.
The access and its parts where one of them is forbidden. -/
def State.copyBarred (s : State) (x : DecantJob) (kind c : Nat) : Option (Msg × List Part) :=
  match s.decoder x.flacon (if kind = 8 then x.src else x.tgt) with
  | none => none
  | some d =>
    let a := d.base + 4096 * c
    -- the engine is no tile: it reads the region copies themselves
    let parts := s.partsOf 64 x.flacon 0 (needsOf kind false) a (a + 4096) 66
    if parts.all (·.allowed) then none
    else some ({ io := true, mc := if kind = 8 then 7 else 6, op := if kind = 8 then 0x20 else 0x60, flacon := x.flacon, addr := a
                 len := 4096, srcEid := s.mgmtEid, port := 0x7F, epoch := s.epochOf x.flacon }, parts)

/-- A forbidden copy access is reported and completes with error, which cancels the job (R237, R332; log entry 79). -/
def State.copyDenied (s : State) (j kind : Nat) (b : Msg × List Part) : State :=
  (s.denyParts b.1 kind (needsOf kind false) b.2).cancelJob j 5

/-- The chunks of a job that may start now are read: at most 256 in flight (R332). -/
def State.issueChunks (s : State) (j : Nat) : State :=
  match s.job j with
  | none => s
  | some x =>
    if x.st ≠ 1 then s else
    let n := min (256 - x.flight.length) (x.total - x.next)
    match (List.range n).findSome? fun i => s.copyBarred x 8 (x.next + i) with
    | some b => s.copyDenied j 8 b
    | none =>
    let e := s.epochOf x.flacon
    let y := (List.range n).foldl (fun (y : DecantJob) i =>
      { y with flight := tabPut y.flight (x.next + i) { epoch := e } }) x
    let s1 := (List.range n).foldl (fun t _ => t.openAccess x.flacon e) s
    (s1.putJob j { y with next := x.next + n }).showJob j

/-- The first job that does not run. -/
def State.freeJob (s : State) : Option Nat :=
  (List.range 8).find? fun j => match s.job j with | some x => !x.running | none => true

/-- How DECANT_START from decoder a of Flacon f to decoder b of Flacon g is answered (R331). -/
def State.decantCode (s : State) (f g src tgt rate : Nat) (a b : DecoderRec) : Nat :=
  let used (i : Nat) : Bool := s.decant.any fun e => e.2.running && (e.2.src == i || e.2.tgt == i)
  let ends (d : DecoderRec) : Nat × Nat := (d.base, d.base + d.size)
  if s.md ≠ .serve ∨ !s.on Reg.DC_CTL Fld.DC_CTL.EN then St.MODE
  else if rate < 100 ∨ 50000 < rate then St.BAD_FIELD
  else if g ≠ f ∨ a.size ≠ b.size then St.OUT_OF_FORMULA
  else match s.flaconBusy f with
    | some e => regionCode e
    | none =>
      if s.freeJob.isNone ∨ used src ∨ used tgt ∨ src = tgt then St.BUSY
      else if a.ports.contains 0xFF ∨ b.ports.contains 0xFF ∨ b.shared then St.NOT_LOCAL
      else if !s.windowGrants f (ends a).1 (ends a).2 0x5 0 4096 ∨ !s.windowGrants f (ends b).1 (ends b).2 0x6 0xFF8 4096 then
        St.REGION_PERMS
      else if s.durability f = 2 ∧ (a.persistent ∨ a.gpfProtected) ∧ !b.persistent ∧ !b.gpfProtected then St.NOT_DURABLE
      else if (a.ports ++ b.ports).any fun q => !s.portUp q then St.PORT_DOWN
      else St.OK

/-- The Flacon and record of the decoder of an index. -/
def State.decoderAt (s : State) (i : Nat) : Option (Nat × DecoderRec) :=
  s.acc.fl.findSome? fun e => (e.2.cur.decoders.find? fun d => d.index == i).map fun d => (e.1, d)

/-- DECANT_START (Table 4): status and job. -/
def State.decantStart (s : State) (f src tgt rate : Nat) : Nat × Nat × State :=
  match s.decoder f src, s.decoderAt tgt with
  | some a, some (g, b) =>
    let code := s.decantCode f g src tgt rate a b
    if code ≠ St.OK then (code, 0, s)
    else
      let j := s.freeJob.getD 0
      let s1 := s.putJob j { src := src, tgt := tgt, flacon := f, rate := rate, total := a.size / 4096 }
      (St.OK, j, (((s1.setReg (Reg.DC_JOB_CNT j) 0)).showJob j).issueChunks j)
  | _, _ => (if s.md ≠ .serve ∨ !s.on Reg.DC_CTL Fld.DC_CTL.EN then St.MODE else St.OUT_OF_FORMULA, 0, s)

/-- DECANT_CANCEL: refused once the job is no longer running. -/
def State.decantCancel (s : State) (j : Nat) : Nat × State :=
  match s.job j with
  | some x => if x.running && !s.clearsNow x then (St.OK, s.cancelJob j 1) else (St.BUSY, s.cancelJob j 1)
  | none => (St.BUSY, s)

/-- DECANT_RATE. -/
def State.decantRate (s : State) (j rate : Nat) : Nat × State :=
  match s.job j with
  | some x =>
    if rate < 100 ∨ 50000 < rate then (St.BAD_FIELD, s)
    else if x.running then (St.OK, (s.putJob j { x with rate := rate }).showJob j) else (St.BUSY, s)
  | none => (St.BUSY, s)

/-- A chunk has been read; its writes go out. -/
def State.chunkRead (s : State) (j c : Nat) (poison err : Bool) : State :=
  match s.job j with
  | none => s
  | some x =>
    match (if x.st = 1 then tabFind x.flight c else none) with
    | none => s
    | some k =>
      if k.writing then s
      else if err then s.cancelJob j 5
      else
        match s.copyBarred x 9 c with
        | some b => s.copyDenied j 9 b
        | none =>
        let s1 := if poison then s.inc (Reg.DC_JOB_CNT j) Fld.DC_JOB_CNT.POISON else s
        s1.putJob j { x with flight := tabPut x.flight c { k with writing := true, poison := poison } }

/-- A chunk's writes have completed: COPIED, or copied again if it was written meanwhile (R333). -/
def State.chunkWritten (s : State) (j c : Nat) (err : Bool) : State :=
  match s.job j with
  | none => s
  | some x =>
    match (if x.st = 1 then tabFind x.flight c else none) with
    | none => s
    | some k =>
      if !k.writing then s
      else if err then s.cancelJob j 5
      else if k.dirty then
        match s.copyBarred x 8 c with
        | some b => s.copyDenied j 8 b
        | none =>
        ((s.inc (Reg.DC_JOB_CNT j) Fld.DC_JOB_CNT.RECOPIES).putJob j { x with
          flight := tabPut x.flight c { k with times := k.times + 1, dirty := false, writing := false, poison := false } }).showJob j
      else
        ((s.putJob j { x with flight := tabDel x.flight c }).closeAccess x.flacon k.epoch).issueChunks j |>.showJob j

/-- DECANT_FLIP: a flip whose HOLD ran out is tried again by DECANT_FLIP_RETRY only. -/
def State.firstFlip (s : State) (j : Nat) (flip : State) : State :=
  match s.job j with
  | some x => if x.retry then s else flip
  | none => s

/-- The flip (R335): the epoch advances with the exchanged decoders; a window that is not SHARED is held. -/
def State.decantFlip (s : State) (j : Nat) : State :=
  match s.job j with
  | none => s
  | some x =>
    if x.st ≠ 1 ∨ x.next < x.total ∨ !x.flight.isEmpty ∨ !s.canAdvance x.flacon true then s else
    let gen := (s.flAcc x.flacon).cur
    let shared := match s.decoder x.flacon x.src with | some d => d.shared | none => false
    let s1 := s.advance x.flacon [] (some { gen with decoders := swapDecoders gen.decoders x.src x.tgt })
    let lim := max 1 (min 100 (s.rd Reg.DC_CTL Fld.DC_CTL.FLIP_LIMIT))
    let y := { x with st := if shared then 3 else 2, retry := false, limit := lim, flipEpoch := s1.epochOf x.flacon }
    (s1.putJob j y).showJob j

/-- No access of an older epoch is outstanding: the HOLD clears toward the new devices. -/
def State.holdClear (s : State) (j : Nat) : State :=
  match s.job j with
  | none => s
  | some x => if x.st = 2 ∧ s.drainedTo x.flacon x.flipEpoch then (s.putJob j { x with st := 3 }).showJob j else s

/-- The HOLD has stood for FLIP_LIMIT. -/
def State.flipTimeout (s : State) (j : Nat) : State :=
  match s.job j with
  | none => s
  | some x =>
    if x.st ≠ 2 then s else
    let s1 := (s.holdBack x).putJob j { x with st := 1, tries := x.tries + 1, retry := true }
    if 3 ≤ x.tries + 1 then s1.cancelJob j 6 else s1.showJob j

/-- 1 ms later the flip is tried again. -/
def State.flipRetry (s : State) (j : Nat) : State :=
  match s.job j with
  | some x => if x.retry then s.decantFlip j else s
  | none => s

end Sys2Proof.Machine
end

