-- ==== Sys2Proof/Machine/Live.lean ====
section
/-!
DEFINITION. Machine/Live.lean: tables going live (R37, R40): what an applied Formula sets, in COMPOSE, at SWITCH in
RECOMPOSE, and again in REVIVE.
-/
namespace Sys2Proof.Machine

/-! ### The Formula in force -/

/-- The registers that show which Formula is in force (MG_FML_STATUS, MG_FML_DIGEST, CHIP_BOOT_STATUS). -/
def State.showFormula (s : State) : State :=
  match s.fml.inForce with
  | none => s
  | some f =>
    let s1 := ((s.wr Reg.MG_FML_STATUS Fld.MG_FML_STATUS.ACTIVE_SLOT s.fml.slot).wr Reg.MG_FML_STATUS
      Fld.MG_FML_STATUS.GENERATION f.generation).wr Reg.CHIP_BOOT_STATUS Fld.CHIP_BOOT_STATUS.FORMULA_SLOT s.fml.slot
    (List.range 16).foldl (fun t n => t.wr (Reg.MG_FML_DIGEST n) Fld.MG_FML_DIGEST.DIGEST
      (f.digest.toNat / 2 ^ (32 * n) % 2 ^ 32)) s1

/-- DEVICE and ARBITER take effect (R47, R48).  DEDUCED (log entry 70): a Formula's tables also go live at SWITCH, so
FC_PIN_LEVEL is set from the DEVICE record again there. -/
def State.liveDevice (s : State) (f : Formula) : State :=
  let d := f.device
  let s1 := (s.wr Reg.FC_PIN_LEVEL Fld.FC_PIN_LEVEL.LEVEL d.fcPinLevel).wr Reg.FC_PIN_LEVEL Fld.FC_PIN_LEVEL.ALERT_LEVEL
    d.alertLevel
  let s2 := ((s1.wr Reg.PC_SUPV Fld.PC_SUPV.PWRWARN_MV d.pwrwarnMv).wr Reg.PC_SUPV Fld.PC_SUPV.RESET_MV d.resetMv).wr
    Reg.PC_SUPV Fld.PC_SUPV.RIDE_US d.rideUs
  let starve (t : State) (i : ArbInst) (n : Nat) : State := t.wr (Reg.ARB_STATUS (arbBase i)) Fld.ARB_STATUS.STARVE_N n
  let s3 := (List.range 8).foldl (fun t n => starve t (.plane (Fin.ofNat 8 n)) f.arbiter.planeN) s2
  let s4 := (List.range 64).foldl (fun t n => starve t (.slice (Fin.ofNat 64 n)) f.arbiter.sliceN) s3
  (List.range 8).foldl (fun t n => starve t (.keep (Fin.ofNat 8 n)) f.arbiter.keepN) s4

/-- A Flacon's registers under its record, or without one. -/
def State.showFlacon (s : State) (i : Nat) : State :=
  match s.flaconRec i with
  | none =>
    ((s.setReg (Reg.FL_CFG i) 0).set0 (Reg.FL_STATUS i) Fld.FL_STATUS.CONFIGURED).wr (Reg.FL_REGIONS i)
      Fld.FL_REGIONS.QUOTA 0
  | some r =>
    let c := Reg.FL_CFG i
    ((((((s.wrB c Fld.FL_CFG.TOPNOTE_EN r.topnoteEn).wrB c Fld.FL_CFG.WATCH_EN r.watchEn).wrB c Fld.FL_CFG.P1_ALLOWED
      r.p1Allowed).wr c Fld.FL_CFG.DURABILITY r.durability).wr c Fld.FL_CFG.SERVICE_MAP r.serviceMap).set1 (Reg.FL_STATUS i)
      Fld.FL_STATUS.CONFIGURED).wr (Reg.FL_REGIONS i) Fld.FL_REGIONS.QUOTA r.regionQuota

/-- The directory geometry of a Flacon is checked as its home tables are built (R133). -/
def State.checkGeometry (s : State) (i : Nat) : State :=
  if sharedLines (s.flAcc i).cur.decoders ≠ 0 ∧ !s.geomOk i then
    let mask := match s.flaconRec i with | some r => r.sliceMask | none => 0
    ((List.range 64).foldl (fun t n => if mask.testBit n then t.set1 (Reg.HS_ERR n) Fld.HS_ERR.GEOMETRY else t) s).raise
      Src.DIR_GEOMETRY (some i)
  else s

/-- The decoders and bindings of Flacon i under a Formula. -/
def Formula.genOf (f : Formula) (i : Nat) : DecGen :=
  { decoders := f.decoders.filter fun d => d.flacon == i, bindings := f.bindings.filter fun b => b.flacon == i }

/-- The region entries of Flacon i under a Formula. -/
def Formula.regionsOf (f : Formula) (i : Nat) : List (Nat × RegionEnt) :=
  (f.regions.filter fun r => r.flacon == i).map fun r =>
    (r.index, { flacon := r.flacon, ns := r.ns, start := r.start, stop := r.stop, perms := r.perms, epoch := 1 })

/-! ### Ports -/

/-- LOW and HIGH of a CXL upstream port (R303). -/
def State.showSpan (s : State) (p : PortRec) : State :=
  if p.protocol = .cxl ∧ p.role = .upstream then
    let (lo, hi) := spanOf (s.flAcc p.flacon).cur.decoders
    (s.wr (Reg.PT_STD_SPAN p.port) Fld.PT_STD_SPAN.LOW (lo / 2 ^ 28)).wr (Reg.PT_STD_SPAN p.port) Fld.PT_STD_SPAN.HIGH
      (hi / 2 ^ 28)
  else s

/-- The RWF fields of a port's registers that its record sets, at their reset values (R37). -/
def State.unshowPort (s : State) (q : Nat) : State :=
  let c := Reg.PT_LL_CFG q
  ((s.wr (Reg.PT_HP_STATUS q) Fld.PT_HP_STATUS.SLOT 0).setReg c (resetAt c)).setReg (Reg.PT_STD_SPAN q)
    (resetAt (Reg.PT_STD_SPAN q))

/-- The RWF fields of a port's registers, from its record; a field that the record does not set keeps its reset value
(R37). -/
def State.showPort (s0 : State) (p : PortRec) : State :=
  let q := p.port
  let s := s0.unshowPort q
  let s1 := if p.slot = 0xFF then s else s.wr (Reg.PT_HP_STATUS q) Fld.PT_HP_STATUS.SLOT p.slot
  let c := Reg.PT_LL_CFG q
  let s2 := if !p.fabric then s1 else
    (((((s1.wr c Fld.PT_LL_CFG.CABLE_M p.cableM).wr c Fld.PT_LL_CFG.LINGER_MS p.lingerMs).wrB c Fld.PT_LL_CFG.ANCHORED
      p.anchored).wrB c Fld.PT_LL_CFG.SPARING p.sparing).wrB c Fld.PT_LL_CFG.DATELINE p.dateline).wr c
      Fld.PT_LL_CFG.LINGER_CAP p.lingerCap
  s2.showSpan p

/-- A shaper under its SHAPER record: one that is new starts full; one that stands takes a changed rate and burst at its
next refill, and keeps its tokens and its wheel slot (R115). -/
def ShaperRec.live (r : ShaperRec) (old : Option Shaper) (beat : Nat) : Shaper :=
  match old with
  | some x => { x with maxRate := r.maxRate, pendRate := some r.rate, pendBurst := some r.burst }
  | none => { rate := r.rate, burst := r.burst, maxRate := r.maxRate, tokens := (r.burst : Int) * 65536, last := beat }

/-- Weights and shapers of the pairs of a port that sel accepts, as the Formula sets them. -/
def State.liveSched (s : State) (f : Formula) (q : Nat) (sel : Nat → Bool) : State :=
  let w := (f.wfq.filter fun r => r.port == q && sel r.flacon)
  let h := (f.shapers.filter fun r => r.port == q && sel r.flacon)
  s.modSched q fun (x : SchedPort) =>
    let wfq := w.foldl (fun t (r : WfqRec) => tabMod t r.flacon {} fun (e : WfqEnt) =>
      { e with weight := r.weight, weightMin := r.weightMin, weightMax := r.weightMax })
      (x.wfq.map fun e => (e.1, if sel e.1 then { e.2 with weight := 1, weightMin := 1, weightMax := 4095 } else e.2))
    let shapers := h.foldl (fun t (r : ShaperRec) => tabPut t r.flacon (r.live (tabFind x.shapers r.flacon) s.beat))
      (x.shapers.filter fun e => !sel e.1)
    { x with wfq := wfq, shapers := shapers }

/-- A port's time gate as the Formula sets it (R117). -/
def State.liveGate (s : State) (f : Formula) (q : Nat) : State :=
  let g := (f.gates.find? fun r => r.port == q)
  let es := (g.map (·.entries)).getD []
  let c := Reg.PT_GATE_CFG q
  let s1 := (s.wr c Fld.PT_GATE_CFG.CYCLE_BEATS ((g.map (·.cycle)).getD 0)).wr c Fld.PT_GATE_CFG.COUNT es.length
  let s2 := (List.range 256).foldl (fun t n =>
    match es[n]? with
    | some e => ((t.wr (Reg.PT_GATE_ENTRY q n) Fld.PT_GATE_ENTRY.START_BEAT e.start).wr (Reg.PT_GATE_ENTRY q n)
        Fld.PT_GATE_ENTRY.CLASS_MASK e.classes).wr (Reg.PT_GATE_ENTRY q n) Fld.PT_GATE_ENTRY.LEN_BEATS e.len
    | none => t.setReg (Reg.PT_GATE_ENTRY q n) 0) s1
  let s3 := (s2.putShort q (shortWords []) 0).modSched q fun (x : SchedPort) =>
    { x with gates := es, gateBack := none, gateNew := false }
  if es.isEmpty then s3 else s3.gateLive q

/-- Bring-up of a port begins (R249): its first training attempt is awaited. -/
def State.startPort (s : State) (p : PortRec) : State :=
  let s1 : State := { s with fml := { s.fml with retrain := s.fml.retrain ++ [p.port] } }
  let s2 := p.lanes.foldl (fun t l => (t.setReg (Reg.LN_TRAIN l) 0).startLane p l) s1
  if p.fabric then s2 else s2.setLtssm p.port 0

/-- A slot machine starts (R319): with HOTPLUG, from the debounced presence; without, its channel is powered. -/
def State.startSlot (s : State) (p : PortRec) : State :=
  if p.slot = 0xFF then s
  else if p.hotplug then
    (if s.on (Reg.PT_HP_STATUS p.port) Fld.PT_HP_STATUS.PRSNT then (s.setHp p.port Hp.PRESENT).autoOn p
     else s.setHp p.port Hp.EMPTY)
  else if s.on (Reg.SPC_CFG p.slot) Fld.SPC_CFG.VALID then (s.setHp p.port Hp.POWERING).chTurnOn p.slot
  else s

/-- The slot channels under a Formula: each record goes live, a channel without one stays off (R56, R348). -/
def State.liveChannel (s : State) (f : Formula) (n : Nat) : State :=
  match f.slots.find? fun r => r.channel == n with
  | some r => s.chGoLive r
  | none => s.chGone n

/-! ### A whole Formula -/

/-- What goes live with a Formula beside access tables, weights and ports: the Formula in force, DEVICE, ARBITER,
SEVERITY and the Flacons' registers. -/
def State.liveBase (s : State) (f : Formula) (slot : Nat) : State :=
  let s1 : State := { s with
    fml := { s.fml with inForce := some f, slot := slot }
    flt := { s.flt with sev := f.severity } }
  (List.range 32).foldl (fun t i => t.showFlacon i) (s1.showFormula.liveDevice f)

/-- The counts and stamps of every lane, which clear as tables go live in COMPOSE (R267). -/
def laneCounts (l : Nat) : List Nat :=
  [Reg.LN_TRAIN l, Reg.LN_ADAPT_STAMP l, Reg.LN_ADAPT_TIME l, Reg.LN_RETUNE l, Reg.LN_FEC l, Reg.LN_FEC_SYM l,
    Reg.LN_PRBS_STATUS l, Reg.LN_PRBS_BITS l, Reg.LN_PRBS_ERRS l]

/-- They are at their reset values. -/
def State.clearLaneCounts (s : State) : State :=
  let mine (a : Nat) : Bool := match locateBlock a with
    | some (.ln, b) => (laneCounts ((b - 0x1000000) / 0x10000 * 8 + (b % 0x10000 - 0x8000) / 0x400)).contains a
    | _ => false
  { s with regs := s.regs.filter fun e => !mine e.1 }

/-- COMPOSE (R40): every table of a Formula goes live, every epoch is 1, every port and slot starts. -/
def State.compose (s : State) (f : Formula) (slot : Nat) : State :=
  let s1 := (s.clearLaneCounts).liveBase f slot
  let s2 := f.flacons.foldl (fun (t : State) r =>
    let i := r.index
    let t1 := (t.wr (Reg.FL_EPOCH i) Fld.FL_EPOCH.EPOCH 1).modAcc i fun (a : FlAccess) =>
      { a with cur := f.genOf i, old := f.genOf i, changedAt := 1 }
    let t2 : State := { t1 with acc := { t1.acc with
      regions := (f.regionsOf i).foldl (fun m e => tabPut m e.1 e.2) t1.acc.regions } }
    (t2.showRegions i).checkGeometry i) s1
  let s3 := (List.range 32).foldl (fun t n => t.liveChannel f n) s2
  let s4 := f.ports.foldl (fun (t : State) p => (((t.showPort p).liveSched f p.port fun _ => true).liveGate f p.port).startPort p) s3
  (f.ports.foldl (fun t p => t.startSlot p) s4).topnoteStart (f.flacons.map (·.index))

end Sys2Proof.Machine
end

