-- ==== Sys2Proof/Machine/Drain.lean ====
section
/-!
DEFINITION. Machine/Drain.lean: DRYDOWN and RETAIN (R359 to R372).
-/
namespace Sys2Proof.Machine

/-- The drain phase shown (R361 Table 2). -/
def State.drainPhase (s : State) : Nat := s.rd Reg.KS_DRAIN_STATUS Fld.KS_DRAIN_STATUS.PHASE
def State.setDrainPhase (s : State) (x : Nat) : State := s.wr Reg.KS_DRAIN_STATUS Fld.KS_DRAIN_STATUS.PHASE x

/-- The drain is in one of these phases. -/
def State.drainIn (s : State) (l : List Nat) : Bool := s.md == .drydown && l.contains s.drainPhase

/-- Microseconds since DRYDOWN entry: 1,600 CCLK ticks each (R24). -/
def State.drainUs (s : State) : Nat := min 65535 ((s.now - s.drain.entry) / 1600)

/-- Downstream ports with GPF whose link is up (R361, R366). -/
def State.gpfDevices (s : State) : List Nat :=
  (s.ports.filter fun p => p.gpf && p.role == .downstream && !p.fabric
    && s.on (Reg.PT_STD_STATUS p.port) Fld.PT_STD_STATUS.DL_UP).map (·.port)

/-- The number that names the drain among the GPF flows. -/
def drainFlow : Nat := 128

/-- The drain sends a GPF phase to every downstream port with GPF. -/
def State.drainGpf (s : State) (phase : Nat) : State :=
  let (t, g) := s.gpfSend { port := drainFlow, phase := phase } s.gpfDevices
  { t with gpf := t.gpf ++ [g] }

/-- Ports that have not answered the drain's GPF phase. -/
def State.drainWaits (s : State) (phase : Nat) : List Nat :=
  (s.gpf.filter fun g => g.port == drainFlow && g.phase == phase).flatMap (·.waits)

/-- The drain's GPF phase ends: each port that has not answered raises STD_GPF_TIMEOUT and is counted (R362, R366). -/
def State.endDrainGpf (s : State) (phase : Nat) : State :=
  let late := s.drainWaits phase
  let s1 : State := { s with gpf := s.gpf.filter fun g => !(g.port == drainFlow && g.phase == phase) }
  late.foldl (fun t q => (t.stdErr q Fld.PT_STD_ERR.GPF_TIMEOUT 18).inc Reg.KS_DRAIN_CUT Fld.KS_DRAIN_CUT.GPF_TIMEOUTS) s1

/-! ### Entry: phase A (R361, R64, R181, R209, R261, R336) -/

/-- A RECOMPOSE that DRYDOWN meets before SWITCH is repeated after REVIVE; from SWITCH on it stands (R64).  It is no longer
in progress: no Flacon is affected.  DESIGN CHOICE (log entry 27): in PHASE 4, SWITCH, it counts as before SWITCH until the
tables have changed. -/
def State.recomposeCut (s : State) : State :=
  let s0 := (List.range 32).foldl (fun t i => t.set0 (Reg.FL_STATUS i) Fld.FL_STATUS.AFFECTED) s
  let s1 := s0.wr Reg.MG_FML_STATUS Fld.MG_FML_STATUS.PHASE 0
  match s.fml.next with
  | some (_, slot) => { s1 with fml := { s1.fml with next := none, repeatLive := some slot, retrain := [] } }
  | none => { s1 with fml := { s1.fml with retrain := [] } }

/-- DRYDOWN is entered (cause 0x0A). -/
def State.drydownEntry (s : State) : State :=
  let tainted := s.md == .quarantine
  let s1 := if s.md = .recompose then s.recomposeCut else s
  let s2 := ((((((s1.goMode .drydown 0x0A).wr Reg.KS_REVIVE_STATUS Fld.KS_REVIVE_STATUS.PHASE 7).setReg Reg.KS_DRAIN_STATUS
    0).setReg Reg.KS_DRAIN_TIME 0).setReg Reg.KS_DRAIN_CNT 0).setReg Reg.KS_DRAIN_CUT 0).wrB Reg.KS_DRAIN_STATUS
    Fld.KS_DRAIN_STATUS.TAINT tainted
  let slots := (s2.ports.filter fun p => p.slot != 0xFF).foldl (fun t (p : PortRec) => tabPut t p.slot (s2.hpState p.port)) []
  let s3 : State := { s2 with
    mode := { s2.mode with resetScheduled := false }
    drain := { entry := s2.now, early := s.tablesAway, slots := slots } }
  let s5 := ((s3.abortAll (fun _ => true) Ab.DRYDOWN).cancelJobs (fun _ => true) 7).abandonPorts (fun _ => true) |>.stopTests
  (s5.runSlices).drainGpf 1

/-- Every Accord is settled: none is unsealed or still sealing. -/
def State.accordsSettled (s : State) : Bool := s.acd.trk.all fun e => e.2.ph == .persist

/-- Phase A ends. -/
def State.drainStopDone (s : State) : State :=
  if s.drainIn [0] && s.accordsSettled then s.setDrainPhase 1 else s

/-! ### Phases B and C (R362, R363) -/

/-- The engine takes over every sealed line not yet issued (R363): those that wait are put in the order of R210, and those not
yet flipped join them from their staging slots (R212). -/
def State.writeOut (s : State) : State :=
  (writeOutOrder s.acd.seals).foldl (fun t (x : Sealed) =>
    (x.lines.filter fun (l : SealedLine) => !l.flipped).foldl (fun u l => u.writeStaged l.slice x l) t)
    s.waitsByRank

/-- Phase C begins: request credits are withheld, write-out runs. -/
def State.drainClose (s : State) : State :=
  ((s.wr Reg.KS_DRAIN_TIME Fld.KS_DRAIN_TIME.B_END s.drainUs).setDrainPhase 2).writeOut

/-- Phase B ends at its own condition. -/
def State.drainFlushDone (s : State) : State :=
  if s.drainIn [1] && (s.drainWaits 1).isEmpty && s.gpf.all (fun g => g.port == drainFlow) then
    (s.endDrainGpf 1).drainClose else s

/-- Phase B, or A within it, ends at its limit. -/
def State.drainFlushLimit (s : State) : State :=
  if s.drainIn [0, 1] then
    (((s.set1 Reg.KS_DRAIN_STATUS Fld.KS_DRAIN_STATUS.CUT_B).endDrainGpf 1).raise Src.KS_DRAIN_LIMIT none).drainClose
  else s

/-- Phase D begins. -/
def State.drainSave (s : State) : State :=
  (s.wr Reg.KS_DRAIN_TIME Fld.KS_DRAIN_TIME.C_END s.drainUs).setDrainPhase 3

/-- Phase C ends at its own condition. -/
def State.drainCloseDone (s : State) : State :=
  if s.drainIn [2] && s.core.otags.all (fun e => e.2.dropped) && s.home.all (fun e => e.2.trackers.isEmpty)
      && s.acd.seals.isEmpty then s.drainSave else s

/-- Every request still outstanding is completed upstream, and counted once at its ingress tag (R362). -/
def State.cutRequests (s : State) : State :=
  let n := s.core.tags.length
  let s1 := s.ports.foldl (fun t p => t.dropRecords p.port) s
  let slices := s1.home.map (·.1)
  let s2 := slices.foldl (fun t n => (List.range 32).foldl (fun u f => u.failSlice n f) t) s1
  let ended := slices.flatMap fun n => ((s2.slice n).conflict.filter fun c => !isAlias c.msg).map fun c => (n, c)
  let s3 := slices.foldl (fun t n => t.modSlice n fun x => { x with conflict := [] }) s2
  let s4 := ended.foldl (fun t e => (t.freeCell? e.2.cell).failRequest e.1 e.2.msg) s3
  let s5 := (s4.flushQueues fun mc _ => decide (3 ≤ mc)).endWaiting fun m => decide (3 ≤ m.mc)
  s5.addTo Reg.KS_DRAIN_CUT Fld.KS_DRAIN_CUT.REQUESTS n

/-- What remains of D0 Accords is dropped: AC_D0_LOST once for each (R210). -/
def State.dropD0 (s : State) : State :=
  (s.acd.seals.filter fun x => x.cls == 0).foldl (fun t (x : Sealed) =>
    let t1 := (t.addTo Reg.KS_DRAIN_CNT Fld.KS_DRAIN_CNT.D0_DROPPED x.lines.length).set1 Reg.AC_ERR
      Fld.AC_ERR.D0_LOST |>.raise Src.AC_D0_LOST (some x.flacon)
    (t1.freeSlots ((x.lines.map (·.slot)) ++ x.recSlots)).modAcd fun y => { y with seals := y.seals.filter fun z => z.seq != x.seq }) s

/-- Phase C ends at its limit. -/
def State.drainCloseLimit (s : State) : State :=
  if s.drainIn [2] then
    (((s.set1 Reg.KS_DRAIN_STATUS Fld.KS_DRAIN_STATUS.CUT_C).cutRequests.dropD0).raise Src.KS_DRAIN_LIMIT none).drainSave
  else s

/-! ### Phase D (R365) -/

/-- The contents of a register with every field but its RWS fields at reset. -/
def rwsOnly (a : Nat) (v : Word) : Word :=
  match rowAt a with
  | none => resetAt a
  | some r => (r.fields.filter fun f => f.ty == .rws).foldl (fun w f => setFld w ⟨f.lo, f.width⟩ (getFld v ⟨f.lo, f.width⟩))
      (resetAt a)

/-- Registers saved whole: FL_EPOCH of every Flacon and AC_SEQ. -/
def savedWhole : List Nat := Reg.AC_SEQ :: (List.range 32).map Reg.FL_EPOCH

/-- The register fields saved with the table store (R359). -/
def savedRegs (r : RegFile) : RegFile :=
  (r.map fun e => (e.1, if savedWhole.contains e.1 then e.2 else rwsOnly e.1 e.2)).filter fun e => e.2 != resetAt e.1

/-- The table store's image. -/
def State.tableImage (s : State) : SavedTables :=
  { regs := savedRegs s.regs, fml := s.fml, regions := s.acc.regions
    fl := s.acc.fl.map fun e => (e.1, { e.2 with outst := [] })
    port := s.sched.port.map fun e => (e.1, { wfq := e.2.wfq.map fun w => (w.1, { w.2 with tag := 0, blocked := false })
                                              shapers := e.2.shapers }) }

/-- A sealed record as its saved index marks it: its unwritten lines. -/
def heldForm (x : Sealed) : Sealed := { x with lines := x.lines.map fun (l : SealedLine) => { l with flipped := false } }

/-- The table save is complete (R365): the image and its index stand in the Keep stack, the retention record in the always-on
domain, and phase E sends GPF phase 2.  DEDUCED (assumption 81): in a drain of a REVIVE whose tables are not yet restored the
retained image, index and record stand as they are, as R377 has the next REVIVE replay from them. -/
def State.tableSaveDone (s : State) : State :=
  if !s.drainIn [3] then s else
  if s.drain.early then (({ s with drain := { s.drain with saved := true } } : State).setDrainPhase 4).drainGpf 2 else
  let held := s.acd.seals.map heldForm
  let (n, lines) := sealsCount held
  let s1 : State := { s with freeIx := s.freeIx + 1 }
  let s2 := s1.wr Reg.KS_DRAIN_CNT Fld.KS_DRAIN_CNT.RETAINED lines
  let m := (sealsMirror held).getD (0, 0)
  let r : RetentionRec := {
    valid := false, formulaSlot := s.fml.slot, digest := (s.fml.inForce.map (·.digest)).getD 0
    fwSlot := s.rd Reg.MG_FW_STATUS Fld.MG_FW_STATUS.SLOT, crc := crc64 (Config.tableImage s.freeIx), time := s.now, slots := s.drain.slots
    heldRecords := n, heldLines := lines, lowestSeq := m.1, flacons := m.2
    drainStatus := s2.reg Reg.KS_DRAIN_STATUS, drainTime := s2.reg Reg.KS_DRAIN_TIME, drainCnt := s2.reg Reg.KS_DRAIN_CNT
    drainCut := s2.reg Reg.KS_DRAIN_CUT, taint := s2.on Reg.KS_DRAIN_STATUS Fld.KS_DRAIN_STATUS.TAINT }
  (({ s2 with
    keep := { s2.keep with tables := some s2.tableImage, held := held }
    retention := some r
    drain := { s2.drain with saved := true } } : State).setDrainPhase 4).drainGpf 2

/-! ### Phase E (R366) -/

/-- Every port is taken down: Link Disable downstream, electrical idle upstream, fabric lanes to OFF; queues are flushed
without linger and every SLOT_PERST_N goes low. -/
def State.allPortsDown (s : State) : State :=
  let s1 := s.ports.foldl (fun (t : State) p =>
    let t1 := t.takeDown p false
    if p.fabric then p.lanes.foldl (fun u l => u.toOff l) t1
    else if p.role == .downstream then t1.setLtssm p.port 5 else t1) s
  let s2 := (s1.flushQueues fun _ _ => true).endWaiting fun _ => true
  s2.ports.foldl (fun t p => if p.slot = 0xFF then t else t.setPerst p true) s2

/-- Phase 2 is answered everywhere, or 800 µs have passed. -/
def State.drainPortsDown (s : State) : State :=
  if !s.drainIn [4] then s else
  let cut := !(s.drainWaits 2).isEmpty
  let s1 := (s.endDrainGpf 2).when cut fun t => t.set1 Reg.KS_DRAIN_STATUS Fld.KS_DRAIN_STATUS.CUT_E
  s1.allPortsDown

/-! ### Phase F (R367) -/

/-- Whether the part is DECOMMISSIONED (R432): bit 2 of the lifecycle fuses. -/
def State.decommissioned (s : State) : Bool := s.mgmt.fuses.lifecycle.getLsbD 2

/-- What the drain has ended or flushed leaves the state (R359): cells, queues, trackers, open Accords, link state, gates,
Sillage. -/
def State.quench (s : State) : State :=
  { s with core := {}, drain := {}, home := [], acd := {}, link := [], gpf := [], sil := [], decant := []
           acc := { s.acc with contained := false, fl := s.acc.fl.map fun e => (e.1, { e.2 with outst := [] }) }
           sched := { s.sched with
             arb := [], keepUsed := [], spillUsed := []
             port := s.sched.port.map fun e => (e.1, ({ wfq := e.2.wfq.map fun w => (w.1, { w.2 with tag := 0, blocked := false })
                                                        shapers := e.2.shapers, gates := e.2.gates } : SchedPort)) } }

/-- RETAIN is entered (cause 0x0B): the Keep stack in self-refresh on the retention regulator, the main clocks stopped,
everything of the main domains lost. -/
def State.enterRetain (s : State) : State :=
  let s1 := s.goMode .retain 0x0B
  let t := (s1.wipe true true).emit (.clocks false)
  let t1 := (t.set1 Reg.PC_RAIL Fld.PC_RAIL.KEEP_ON_VAUX).setReg Reg.KS_RETAIN_STATUS 0
  { t1.wr Reg.KS_RETAIN_STATUS Fld.KS_RETAIN_STATUS.REFRESH_MULT (s.rd Reg.CHIP_TJ Fld.CHIP_TJ.REFRESH_MULT) with
    keep := { t1.keep with selfRefresh := true, since := s.now, tjRead := false } }

/-- REVIVE is entered as a dry restart (cause 0x0C): phase RESTORE. -/
def State.enterDry (s : State) : State :=
  let s1 := (s.quench.goMode .revive 0x0C).set1 Reg.KS_DRAIN_STATUS Fld.KS_DRAIN_STATUS.DRY
  ((s1.setReg Reg.KS_REVIVE_STATUS 0).wr Reg.KS_REVIVE_STATUS Fld.KS_REVIVE_STATUS.PHASE 3).set1 Reg.KS_REVIVE_STATUS
    Fld.KS_REVIVE_STATUS.DRY

/-- Phase F: the record is marked valid where it may be, and the drain hands off. -/
def State.drainHandoff (s : State) : State :=
  let mark := !s.decommissioned && !s.drain.railCut && (s.drain.saved || s.drain.early)
  let s1 := s.wr Reg.KS_DRAIN_TIME Fld.KS_DRAIN_TIME.F_END s.drainUs
  let report (r : RetentionRec) : RetentionRec := { r with
    valid := mark, taint := s1.on Reg.KS_DRAIN_STATUS Fld.KS_DRAIN_STATUS.TAINT
    drainStatus := s1.reg Reg.KS_DRAIN_STATUS, drainTime := s1.reg Reg.KS_DRAIN_TIME, drainCnt := s1.reg Reg.KS_DRAIN_CNT
    drainCut := s1.reg Reg.KS_DRAIN_CUT }
  let s2 := ({ s1 with retention := s1.retention.map report } : State).setDrainPhase 7
  if mark then
    let s3 := s2.set1 Reg.CHIP_MODE Fld.CHIP_MODE.RETAIN_VALID
    if s3.powerGood then s3.enterDry else s3.enterRetain
  else
    -- lines that the save did not reach are lost with the main rails (R379)
    (s2.when (!s.drain.saved) fun t => t.reportUnwritten 4).enterRetain

/-- Every link is down: phase E ends and phase F hands off. -/
def State.drainLinksDown (s : State) : State :=
  let down (p : PortRec) : Bool := if p.fabric then s.linkState p.port == 0 && p.lanes.all fun l => s.stage l == Stage.OFF
    else !s.on (Reg.PT_STD_STATUS p.port) Fld.PT_STD_STATUS.DL_UP
  if s.drainIn [4] && s.ports.all down then
    (s.wr Reg.KS_DRAIN_TIME Fld.KS_DRAIN_TIME.E_END s.drainUs).drainHandoff
  else s

/-- Phase D or E reaches its limit: D ends with what has been saved, E with the links taken down; F hands off (R361). -/
def State.drainPhaseLimit (s : State) : State :=
  if s.drainIn [3] then (s.setDrainPhase 4).drainGpf 2
  else if s.drainIn [4] then
    let s1 := s.drainPortsDown
    (s1.wr Reg.KS_DRAIN_TIME Fld.KS_DRAIN_TIME.E_END s1.drainUs).drainHandoff
  else s

/-! ### RETAIN (R370 to R372) -/

/-- KS_RETAIN_STATUS.SECONDS brought up to date. -/
def State.retainSeconds (s : State) : State :=
  if s.md = .retain then
    s.wr Reg.KS_RETAIN_STATUS Fld.KS_RETAIN_STATUS.SECONDS (min (2 ^ 32 - 1) ((s.now - s.keep.since) / 1600000000))
  else s

/-- RETAIN is left (R372): for REVIVE with the retain-valid flag, otherwise for BOOT. -/
def State.retainExit (s : State) : State :=
  if s.md = .retain ∧ s.pins.pwronResetN ∧ s.powerGood then s.retainSeconds.leaveReset else s

end Sys2Proof.Machine
end

