-- ==== Sys2Proof/Machine/Firmware.lean ====
section
/-!
DEFINITION. Machine/Firmware.lean: firmware images (R425), their checks (R429 Table 5), starting the firmware.  Whether a
signature verifies comes with the command (assumption 10).
-/
namespace Sys2Proof.Machine

/-- The image in a firmware slot: LENGTH bytes, or the header alone where LENGTH is beyond the slot. -/
def fwImage (m : List Host.Cell) (slot : Nat) : List Byte :=
  let len := leNat (memRange m (fwSlotBase slot + 8) 4)
  memRange m (fwSlotBase slot) (if len ≤ fwSlotSize then max len 128 else 128)

/-- The VENDOR_KEY entry with a digest, programmed, readable and unrevoked. -/
def vendorEntry (f : Fuses) (d : Line) : Option Nat :=
  ([0, 1, 2, 3] : List Nat).find? fun i =>
    tabFind f.vendorKey i == some d && !f.vendorRevoke.getLsbD i && !f.badEntries.getLsbD i

/-- The checks of a firmware image in the order of Table 5: the first code that applies, or none. -/
def fwCheck (b : List Byte) (f : Fuses) (sigOk : Bool) : Option Nat :=
  let len := leAt b 8 4
  if leAt b 0 4 ≠ 0x49574654 ∨ leAt b 5 1 ≠ 1 ∨ leAt b 6 2 ≠ 128 then some 0x0801
  else if len < 4096 ∨ 8388608 < len ∨ len % 8 ≠ 0 then some 0x0802
  else if leAt b 0x14 2 ≠ 0x0880 ∨ 0xA1 < leAt b 0x16 1 then some 0x0803
  else
    let t := b.drop (len - 3096)
    if leAt t 0 4 ≠ 0x47495354 ∨ leAt t 4 2 ≠ 1793 ∨ leAt t 6 2 ≠ 1280 ∨ !zeros t 8 8 ∨ !zeros t 1809 7 then some 0x0804
    else if (vendorEntry f (shake256 ((t.drop 16).take 1793))).isNone then some 0x0805
    else if !sigOk then some 0x0806
    else if shake256 (b.take 0x40 ++ ((b.drop 128).take (len - 3096 - 128))) ≠ BitVec.ofNat 512 (leAt b 0x40 64) then some 0x0807
    else if leAt b 0x0C 4 < f.minSvn then some 0x0808
    else none

/-- A digest shown over sixteen 32-bit registers. -/
def State.showDigest (s : State) (r : Nat → Nat) (d : Nat) : State :=
  (List.range 16).foldl (fun t n => t.setReg (r n) (BitVec.ofNat 64 (d / 2 ^ (32 * n) % 2 ^ 32))) s

/-- A firmware slot that passed is measured and loaded: MG_FW_STATUS, MG_MEAS_FW, CHIP_BOOT_STATUS.FW_SLOT. -/
def State.loadFirmware (s : State) (slot : Nat) : State :=
  let b := fwImage s.mgmt.flash slot
  let len := leAt b 8 4
  let key := (vendorEntry s.mgmt.fuses (shake256 (((b.drop (len - 3096)).drop 16).take 1793))).getD 0
  let s1 := (((s.wr Reg.MG_FW_STATUS Fld.MG_FW_STATUS.SLOT slot).wr Reg.MG_FW_STATUS Fld.MG_FW_STATUS.VENDOR_KEY key).wr
    Reg.MG_FW_STATUS Fld.MG_FW_STATUS.SVN (leAt b 0x0C 4)).wr Reg.MG_FW_STATUS Fld.MG_FW_STATUS.VERSION (leAt b 0x10 4)
  let s2 := (s1.showDigest Reg.MG_MEAS_FW (leAt b 0x40 64)).wr Reg.CHIP_BOOT_STATUS Fld.CHIP_BOOT_STATUS.FW_SLOT slot
  { s2 with mode := { s2.mode with fwRunning := true, seedLocked := true } }

/-- The first of a list of firmware slots that passes, or the code of the last that failed. -/
def State.pickFirmware (s : State) (sig : SigVerdict) : List Nat → Nat → Nat ⊕ Nat
  | [], code => .inr code
  | n :: r, _ =>
    match fwCheck (fwImage s.mgmt.flash n) s.mgmt.fuses (sig.of n) with
    | none => .inl n
    | some c => s.pickFirmware sig r c

/-- The directory fields that registers show, brought up to date. -/
def State.showDirectory (s : State) : State :=
  let d := s.directory
  (((s.wrB Reg.MG_FML_STATUS Fld.MG_FML_STATUS.PENDING_VALID d.fmlPendingValid).wr Reg.MG_FML_STATUS
    Fld.MG_FML_STATUS.PENDING_SLOT d.fmlPending).wrB Reg.MG_FW_STATUS Fld.MG_FW_STATUS.PENDING_VALID d.fwPendingValid).wr
    Reg.MG_FW_STATUS Fld.MG_FW_STATUS.PENDING_SLOT d.fwPending

/-- MPORT is enabled as the firmware starts where the strap did not enable it before (R428 step 5). -/
def State.mportAtFirmware (s : State) : State :=
  if s.mgmt.mportEn then s else { s with mgmt := { s.mgmt with mportEn := true, mportUp := s.pins.perstN } }

/-- The pending firmware's flag is cleared (R428, R21). -/
def State.dropPendingFw (s : State) : State :=
  if s.mode.fwFromPending then
    { s.putDirectory (fun d => { d with fwPendingValid := false }) with mode := { s.mode with fwFromPending := false } }
  else s

/-- A boot that stops in recovery after the firmware has started (R428). -/
def State.bootStops (s : State) (code : Nat) : State := s.dropPendingFw.bootRecovery code

/-- BOOT_SRC as latched (R427). -/
def State.bootSrc (s : State) : Nat := s.rd Reg.CHIP_STRAPS Fld.CHIP_STRAPS.BOOT_SRC

/-- The boot ROM from step 4 on (R428): firmware slots tried, the first to pass started. -/
def State.startFirmware (s : State) (sig : SigVerdict) : State :=
  if s.mgmt.flashAbsent then s.bootRecovery 0x0815 else
  let d := s.directory
  let pend := d.fwPendingValid && s.bootSrc != 1
  let order := ((if pend then [d.fwPending] else []) ++ [d.fwActive, 1 - d.fwActive]).eraseDups
  match s.pickFirmware sig order 0 with
  | .inr c => (s.when pend fun t => t.putDirectory fun x => { x with fwPendingValid := false }).bootRecovery c
  | .inl n =>
    let fromPend := pend && n == d.fwPending
    let s1 := s.when (pend && !fromPend) fun t => t.putDirectory fun x => { x with fwPendingValid := false }
    let s2 := (s1.loadFirmware n).mportAtFirmware
    { s2 with mode := { s2.mode with fwFromPending := fromPend } }

/-- The reference is seen and ROOTCLK is locked. -/
def State.rootLocked (s : State) : State :=
  (s.set1 Reg.CHIP_CLK_STATUS Fld.CHIP_CLK_STATUS.REF_OK).set1 Reg.CHIP_CLK_STATUS Fld.CHIP_CLK_STATUS.ROOT_LOCK

/-- The boot ROM from step 1 on. -/
def State.bootRom (s : State) (sig : SigVerdict) : State :=
  if s.md ≠ .boot ∨ s.mode.fwRunning ∨ s.inRecovery then s else
  let s1 := s.rootLocked.takeHeld.showDirectory
  if s1.mgmt.fuses.fieldErr then s1.bootRecovery 0x0811
  else if s1.mgmt.fuses.lifecycle = 0 then s1.bootRecovery 0x0812
  else if s1.bootSrc = 2 then s1.bootRecovery 0
  else if s1.bootSrc = 3 then s1.bootRecovery 0x0816
  else
    let s2 := s1.when ((readDirectory s1.mgmt.flash).bad && !s1.mgmt.flashAbsent) fun t =>
      t.wr Reg.CHIP_BOOT_STATUS Fld.CHIP_BOOT_STATUS.ERROR 0x0810
    s2.startFirmware sig

/-- Step 6 of the boot (R428, R433): the identity key is derived, beside the full self-test of the SRAM and the Keep
stack.  A DECOMMISSIONED part derives no key. -/
def State.identityDone (s : State) (sramOk keepOk : Bool) : State :=
  if s.md ≠ .boot ∨ !s.mode.fwRunning ∨ s.mode.selfTested then s
  else if !sramOk then s.bootStops 0x0813
  else if !keepOk then s.bootStops 0x0814
  else
    let dead := s.mgmt.fuses.lifecycle.getLsbD 2
    let s1 := s.wrB Reg.MG_LIFECYCLE Fld.MG_LIFECYCLE.IDENTITY_READY (!dead)
    { s1 with mode := { s1.mode with selfTested := true, identityReady := !dead } }

end Sys2Proof.Machine
end

