-- ==== Sys2Proof/Machine/Recompose.lean ====
section
/-!
DEFINITION. Machine/Recompose.lean: the Formula at boot (R39, R40) and RECOMPOSE (R61 to R64).
-/
namespace Sys2Proof.Machine

/-! ### A cold boot (R39) -/

/-- The slots tried in turn: the first Formula that passes and its slot, and the first failure met. -/
def State.tryFormulas (s : State) (sig : SigVerdict) : List Nat → Option FmlErr → Option (Formula × Nat) × Option FmlErr
  | [], e => (none, e)
  | n :: r, e =>
    match s.validateSlot n (sig.of n) with
    | .inl f => (some (f, n), e)
    | .inr x => s.tryFormulas sig r (e.or (some x))

/-- The report of a boot's validations: the first failure, or 0. -/
def State.showBootErr (s : State) (e : Option FmlErr) : State :=
  match e with
  | some x => s.showFmlErr x
  | none => s.setReg Reg.MG_FML_ERR 0

/-- The directory after a Formula has been applied at boot: a pending slot that passed is ACTIVE, one that was tried is no
longer pending, and firmware that came from its pending slot is active (R39, R428). -/
def State.bootDirectory (s : State) (pend : Bool) (slot : Nat) : State :=
  let d := s.directory
  if pend ∨ s.mode.fwFromPending then
    let s1 := s.putDirectory fun x => { x with
      fmlActive := if pend && slot == d.fmlPending then slot else x.fmlActive
      fmlPendingValid := x.fmlPendingValid && !pend
      fwActive := if s.mode.fwFromPending then d.fwPending else x.fwActive
      fwPendingValid := x.fwPendingValid && !s.mode.fwFromPending }
    { s1 with mode := { s1.mode with fwFromPending := false } }
  else s

/-- The firmware tries the Formula slots and applies the first that passes: COMPOSE (cause 0x04), or BOOT recovery. -/
def State.bootFormula (s : State) (sig : SigVerdict) : State :=
  if s.md ≠ .boot ∨ !s.mode.fwRunning ∨ !s.mode.selfTested ∨ s.inRecovery then s else
  let d := s.directory
  let pend := d.fmlPendingValid && s.bootSrc != 1
  let order := ((if pend then [d.fmlPending] else []) ++ [d.fmlActive, 1 - d.fmlActive]).eraseDups
  match s.tryFormulas sig order none with
  | (some (f, n), e) => (((s.showBootErr e).bootDirectory pend n).goMode .compose 0x04).compose f n
  | (none, e) =>
    let s1 := (s.showBootErr e).when pend fun t => t.putDirectory fun x => { x with fmlPendingValid := false }
    s1.bootStops ((e.map (·.code)).getD 0)

/-- COMPOSE ends: every table is written and every port has made its first training attempt (R28, R253). -/
def State.composeDone (s : State) : State :=
  let waits (q : Nat) : Bool := match s.portRec q with | some p => p.fabric | none => false
  if s.md = .compose ∧ !s.fml.retrain.any waits then
    let s1 := s.goMode .serve 0x07
    ({ s1 with fml := { s1.fml with retrain := [] } } : State).raiseLossOnEntry
  else s

/-! ### Comparing two Formulas (R62) -/

/-- The same records, in any order. -/
def sameSet {α : Type} [BEq α] (a b : List α) : Bool := a.all b.contains && b.all a.contains

/-- The Flacon that a port belongs to under a Formula: 0xFF for a shared port, and where there is none. -/
def Formula.portOwner (f : Formula) (q : Nat) : Nat := ((f.ports.find? fun p => p.port == q).map (·.flacon)).getD 0xFF

/-- The Flacon that a slot channel belongs to: that of the port that names it. -/
def Formula.slotOwner (f : Formula) (n : Nat) : Nat := ((f.ports.find? fun p => p.slot == n).map (·.flacon)).getD 0xFF

/-- Whether the records that belong to Flacon i are the same under two Formulas; i = 0xFF: those that belong to none. -/
def sameRecords (a b : Formula) (i : Nat) : Bool :=
  sameSet (a.flacons.filter fun r => r.index == i) (b.flacons.filter fun r => r.index == i)
  && sameSet (a.ports.filter fun r => r.flacon == i) (b.ports.filter fun r => r.flacon == i)
  && sameSet (a.decoders.filter fun r => r.flacon == i) (b.decoders.filter fun r => r.flacon == i)
  && sameSet (a.bindings.filter fun r => r.flacon == i) (b.bindings.filter fun r => r.flacon == i)
  && sameSet (a.regions.filter fun r => r.flacon == i) (b.regions.filter fun r => r.flacon == i)
  && sameSet (a.wfq.filter fun r => r.flacon == i) (b.wfq.filter fun r => r.flacon == i)
  && sameSet (a.shapers.filter fun r => r.flacon == i) (b.shapers.filter fun r => r.flacon == i)
  && sameSet (a.gates.filter fun r => a.portOwner r.port == i) (b.gates.filter fun r => b.portOwner r.port == i)
  && sameSet (a.slots.filter fun r => a.slotOwner r.channel == i) (b.slots.filter fun r => b.slotOwner r.channel == i)

/-- A change that a LIVE commit cannot make. -/
def chipwideChange (a b : Formula) : Bool :=
  a.device != b.device || a.arbiter != b.arbiter || !sameSet a.routes b.routes || !sameRecords a b 0xFF

/-- The Flacons a change affects. -/
def affectedBy (a b : Formula) : List Nat := (List.range 32).filter fun i => !sameRecords a b i

/-! ### QUIESCE and DRAIN (R63) -/

/-- Flacon f is affected by the RECOMPOSE in progress. -/
def State.affected (s : State) (f : Nat) : Bool := s.on (Reg.FL_STATUS f) Fld.FL_STATUS.AFFECTED

def State.affectedFlacons (s : State) : List Nat := (List.range 32).filter s.affected

def State.recomposePhase (s : State) : Nat := s.rd Reg.MG_FML_STATUS Fld.MG_FML_STATUS.PHASE

/-- A port that takes no new requests: they wait at the link (R63, R363, R375). -/
def State.withholds (s : State) (q : Nat) : Bool :=
  match s.portRec q with
  | none => false
  | some p => !p.fabric &&
    ((s.md == .drydown && decide (2 ≤ s.drainPhase) && p.role == .upstream)
     || (s.md == .recompose && decide (2 ≤ s.recomposePhase) && decide (s.recomposePhase ≤ 4) && s.affected p.flacon)
     || (s.md == .revive && decide (s.rd Reg.KS_REVIVE_STATUS Fld.KS_REVIVE_STATUS.PHASE < 6) && p.role == .upstream))

/-- The entries of affected Flacons at slice n: set and entry. -/
def State.affectedEntries (s : State) (n : Nat) : List (Nat × DirEnt) :=
  (s.slice n).sets.flatMap fun e =>
    match s.setOwner n e.1 with
    | some r => if s.affected r.index then e.2.ways.map fun w => (e.1, w.2) else []
    | none => []

/-- A back-invalidation starts: a tracker that evicts the entry. -/
def State.evictEntry (s : State) (n set : Nat) (v : DirEnt) : State :=
  match s.setOwner n set with
  | none => s
  | some r =>
    let x := s.slice n
    let line := s.entryLine n set v.tag
    let c := x.copies v
    let owner := if v.st = 6 then v.ptrs[0]? else none
    let e := s.epochOf r.index
    let ev : Tracker := { id := x.nextId, line := line, set := set, tag := v.tag, flacon := r.index,
                          req := { flacon := r.index, addr := line, epoch := e }, ph := .active, evict := true, waits := c,
                          owner := owner }
    let s1 := s.modSlice n fun y => { y with trackers := y.trackers ++ [ev], nextId := y.nextId + 1 }
    let s2 := (s1.inc (Reg.HS_EVICT n) Fld.HS_EVICT.EVICTIONS).addTo (Reg.HS_EVICT n) Fld.HS_EVICT.SNOOPS c.length
    s2.snoops n r.index line Op.SNP_INV e c owner

/-- Entries of affected Flacons that nothing holds are back-invalidated, while trackers are free. -/
def State.backInvalidate (s : State) : State :=
  if s.md = .recompose ∧ s.recomposePhase = 3 then
    (s.home.map (·.1)).foldl (fun t n =>
      ((t.affectedEntries n).foldl (fun u e =>
        if u.entryPinned n e.1 e.2.tag ∨ 1024 ≤ (u.slice n).trackers.length then u else u.evictEntry n e.1 e.2) t).runSlice n) s
  else s

/-- A validation that passed: CODE is 0, and is copied into CHIP_BOOT_STATUS.ERROR.  DEDUCED (log entry 73): the copy is
made of a passing validation's CODE too. -/
def State.showFmlOk (s : State) : State :=
  (s.setReg Reg.MG_FML_ERR 0).wr Reg.CHIP_BOOT_STATUS Fld.CHIP_BOOT_STATUS.ERROR 0

/-- A LIVE commit of a slot (R61, R62): a status, its DETAIL, the state. -/
def State.commitLive (s : State) (slot : Nat) (sigOk : Bool) : Nat × Nat × State :=
  if s.md = .recompose then (St.INVALID, 0x0702, s)
  else if s.md ≠ .serve then (St.INVALID, 0x0703, s)
  else
    match s.validateSlot slot sigOk with
    | .inr e =>
      let s1 := s.showFmlErr e
      (St.INVALID, (s1.reg Reg.MG_FML_ERR).toNat, s1)
    | .inl f =>
      let s1 := s.showFmlOk
      let old := s.fml.inForce.getD {}
      if chipwideChange old f then (St.INVALID, 0x0701, s1)
      else
        let l := affectedBy old f
        let s2 := (s1.goMode .recompose 0x08).setReg Reg.MG_FML_AFFECTED (BitVec.ofNat 64 (l.foldl setBitAt 0))
        let s3 := (List.range 32).foldl (fun t i => t.wrB (Reg.FL_STATUS i) Fld.FL_STATUS.AFFECTED (l.contains i)) s2
        let s4 : State := { s3 with fml := { s3.fml with next := some (f, slot) } }
        let s5 := s4.abortAll (fun a => l.contains a.flacon) Ab.RECOMPOSE
        let s6 := s5.cancelJobs (fun j => l.contains j.flacon) 2
        (St.OK, 0, (s6.runSlices.wr Reg.MG_FML_STATUS Fld.MG_FML_STATUS.PHASE 3).backInvalidate)

/-- A NEXT_BOOT commit of a slot (R61). -/
def State.commitNextBoot (s : State) (slot : Nat) (sigOk : Bool) : Nat × Nat × State :=
  if s.md = .serve ∨ s.inRecovery then
    match s.validateSlot slot sigOk with
    | .inr e =>
      let s1 := s.showFmlErr e
      (St.INVALID, (s1.reg Reg.MG_FML_ERR).toNat, s1)
    | .inl _ =>
      let s1 := s.showFmlOk
      (St.OK, 0, s1.putDirectory fun d => { d with fmlPending := slot, fmlPendingValid := true })
  else (St.MODE, 0, s)

/-- Nothing of Flacon f is left in flight (R63, R179): no access outstanding, queue, entry, tracker, gate entry, seal or
Accord. -/
def State.drainedOf (s : State) (f : Nat) : Bool :=
  s.fenceDry f
  && s.home.all (fun e => (s.affectedEntries e.1).isEmpty && e.2.trackers.all fun t => t.flacon != f)
  && s.core.gate.all (fun e => match e.2.cell with | some c => c.msg.flacon != f | none => s.portFlacon (e.1 / 4096) != some f)
  && s.acd.seals.all (fun x => x.flacon != f) && s.acd.trk.all fun e => e.2.flacon != f

/-- DRAIN ends at its own condition. -/
def State.recomposeDrained (s : State) : State :=
  if s.md = .recompose ∧ s.recomposePhase = 3 ∧ s.affectedFlacons.all s.drainedOf then
    s.wr Reg.MG_FML_STATUS Fld.MG_FML_STATUS.PHASE 4
  else s

/-- Lines whose back-invalidation is unfinished are poisoned in memory, and their entries go. -/
def State.poisonUnfinished (s : State) (f : Nat) : State :=
  (s.home.map (·.1)).foldl (fun t n =>
    let l := (t.affectedEntries n).filter fun e => (t.setOwner n e.1).map (·.index) == some f
    let t1 := t.modSlice n fun x => { x with trackers := x.trackers.filter fun k => !(k.evict && k.flacon == f) }
    l.foldl (fun u e =>
      let line := u.entryLine n e.1 e.2.tag
      let u1 := u.addPoison n line f (u.epochOf f)
      match (u1.slice n).entry e.1 e.2.tag with
      | some (w, _) => u1.modSlice n fun x => x.putWay e.1 w none
      | none => u1) t1) s

/-- DRAIN_MS has elapsed: remaining requests end in error, queues and held gate cells are flushed, unfinished lines are
poisoned. -/
def State.recomposeTimeout (s : State) : State :=
  if s.md = .recompose ∧ s.recomposePhase = 3 then
    let s1 := s.affectedFlacons.foldl (fun (t : State) f =>
      let t1 := (t.ports.filter fun p => p.flacon == f).foldl (fun u p => u.flushGate p.port fun _ => true) t
      let t2 := (t1.flushQueues fun _ g => g == f).endWaiting fun m => m.flacon == f
      let t3 := t2.orphanGates fun _ c => c.msg.flacon == f
      let t4 := (t3.home.map (·.1)).foldl (fun u n =>
        let gone := (u.slice n).conflict.filter fun c => c.msg.flacon == f && !isAlias c.msg
        let u1 := u.modSlice n fun x => { x with conflict := x.conflict.filter fun c => !(c.msg.flacon == f && !isAlias c.msg) }
        (gone.foldl (fun v c => (v.freeCell? c.cell).failRequest n c.msg) u1).failSlice n f) t3
      let t5 := (t4.ports.filter fun p => p.flacon == f).foldl (fun u p => u.dropRecords p.port) t4
      t5.poisonUnfinished f) s
    ((s1.set1 Reg.MG_FML_STATUS Fld.MG_FML_STATUS.DRAIN_TIMEOUT).wr Reg.MG_FML_STATUS Fld.MG_FML_STATUS.PHASE 4).runSlices
  else s

/-! ### SWITCH and RETRAIN (R63) -/

/-- A set's number after the Flacons' directory shares have changed: none where it belonged to an affected Flacon. -/
def State.setMoves (s : State) (new : List FlaconRec) (n set : Nat) : Option Nat :=
  match s.setOwner n set with
  | none => none
  | some r => if s.affected r.index then none else some (set - setBase s.flaconRecs r.index n + setBase new r.index n)

/-- Directory sets of unaffected Flacons keep their contents at their places of R132; those of affected Flacons are
empty. -/
def State.rehome (s : State) (new : List FlaconRec) : State :=
  let s1 := (s.home.map (·.1)).foldl (fun (t : State) n =>
    let mv := s.setMoves new n
    t.modSlice n fun (x : SliceState) => { x with
      sets := x.sets.foldl (fun m e => match mv e.1 with | some k => tabPut m k e.2 | none => m) []
      frames := x.frames.filter fun e => mv e.2.set == some e.2.set
      trackers := x.trackers.map fun (k : Tracker) => { k with set := (mv k.set).getD k.set }
      bad := x.bad.filterMap mv }) s
  s1.modAcd fun a => { a with trk := tabMap a.trk fun _ (t : Accord) =>
    { t with marks := t.marks.map fun (k : Mark) => { k with set := (s.setMoves new k.slice k.set).getD k.set } } }

/-- Two PORT records between which the port need not train again. -/
def sameLink (a b : PortRec) : Bool :=
  a.port == b.port && a.firstLane == b.firstLane && a.width == b.width && a.protocol == b.protocol && a.role == b.role

/-- The affected tables change in one MCLK: the new Formula is in force, and epochs advance.  The fields of a port that is
gone return to their reset values (R37); the policers of an affected Flacon start full (R125). -/
def State.switchTables (s : State) (f : Formula) (slot : Nat) : State :=
  let l := s.affectedFlacons
  let s1 := (s.rehome f.flacons).liveBase f slot
  let gone := (s1.acc.regions.filter fun r => l.contains r.2.flacon).map (·.1)
  let s2 : State := { s1 with acc := { s1.acc with
    regions := s1.acc.regions.filter fun r => !l.contains r.2.flacon
    cache := s1.acc.cache.map fun c => (c.1, c.2.filter fun i => !gone.contains i) } }
  let s3 := l.foldl (fun (t : State) i =>
    (t.advance i ((f.regionsOf i).map fun e => (e.1, some e.2)) (some (f.genOf i))).checkGeometry i) s2
  let s4 := f.ports.foldl (fun (t : State) p =>
    let t1 := t.liveSched f p.port fun g => l.contains g
    if l.contains p.flacon then (t1.showPort p).liveGate f p.port else t1) s3
  let left := (s.ports.map (·.port)).filter fun q => !f.ports.any fun p => p.port == q
  let s5 := left.foldl (fun (t : State) q => ((t.unshowPort q).liveSched f q fun _ => true).liveGate f q) s4
  (s5.topnoteStart l).putDirectory fun d => { d with fmlActive := slot }

/-- SWITCH: it waits while an affected Flacon's epoch cannot advance (R232). -/
def State.recomposeSwitch (s : State) : State :=
  match s.md == .recompose && s.recomposePhase == 4 && s.affectedFlacons.all (fun f => s.canAdvance f true), s.fml.next with
  | true, some (f, slot) =>
    let l := s.affectedFlacons
    let old := s.ports.filter fun p => l.contains p.flacon
    let new := f.ports.filter fun p => l.contains p.flacon
    let kept (p : PortRec) (m : List PortRec) : Bool := m.any (sameLink p)
    let s1 := (old.filter fun p => !kept p new).foldl (fun (t : State) p =>
      p.lanes.foldl (fun u k => u.toOff k) (t.takeDown p false)) s
    let chans := ((old ++ new).filter fun p => p.slot != 0xFF).map (·.slot)
    let s2 := s1.switchTables f slot
    let s3 := chans.eraseDups.foldl (fun t n => t.liveChannel f n) s2
    let s4 := (new.filter fun p => !kept p old).foldl (fun t p => t.startPort p) s3
    let s5 := (new.filter fun p => !(old.any fun x => x.port == p.port && x.slot == p.slot)).foldl (fun t p => t.startSlot p) s4
    (({ s5 with fml := { s5.fml with next := none } } : State).wr Reg.MG_FML_STATUS Fld.MG_FML_STATUS.PHASE 5).runSlices
  | _, _ => s

/-- RETRAIN ends: SERVE (cause 0x09). -/
def State.recomposeRetrained (s : State) : State :=
  if s.md = .recompose ∧ s.recomposePhase = 5 then
    let s1 := ((s.goMode .serve 0x09).wr Reg.MG_FML_STATUS Fld.MG_FML_STATUS.PHASE 0).set1 Reg.MG_FML_STATUS
      Fld.MG_FML_STATUS.LIVE_DONE
    let s2 := (List.range 32).foldl (fun t i => t.set0 (Reg.FL_STATUS i) Fld.FL_STATUS.AFFECTED) s1
    ({ s2 with fml := { s2.fml with retrain := [] } } : State).raiseLossOnEntry
  else s

end Sys2Proof.Machine
end

