-- ==== Sys2Proof/Machine/Revive.lean ====
section
/-!
DEFINITION. Machine/Revive.lean: REVIVE (R373 to R378) and the clearing of the loss report (R379).
-/
namespace Sys2Proof.Machine

def State.revivePhase (s : State) : Nat := s.rd Reg.KS_REVIVE_STATUS Fld.KS_REVIVE_STATUS.PHASE
def State.setRevivePhase (s : State) (x : Nat) : State := s.wr Reg.KS_REVIVE_STATUS Fld.KS_REVIVE_STATUS.PHASE x

/-- REVIVE is in phase x; an S3 fault does not stop its phases (R377). -/
def State.reviveIn (s : State) (x : Nat) : Bool := s.inMode [.revive, .quarantine] && s.revivePhase == x

/-- A dry restart (R373). -/
def State.reviveDry (s : State) : Bool := s.on Reg.KS_REVIVE_STATUS Fld.KS_REVIVE_STATUS.DRY

/-- What the retained state cannot be used for (R374): RETAIN_VALID cleared, the loss recorded, a cold boot (0x10). -/
def State.reviveFail (s : State) (cause : Nat) : State :=
  let s1 := s.set0 Reg.CHIP_MODE Fld.CHIP_MODE.RETAIN_VALID
  let s2 := match sealsMirror s.keep.held with
    | some (seq, fl) => s1.recordLoss cause fl seq (some (sealsCount s.keep.held))
    | none => s1
  s2.coldBoot 0x10

/-! ### LOAD, FIRMWARE, CHECK -/

/-- LOAD ends: the Keep stack is back in service on its main supply. -/
def State.reviveLoaded (s : State) : State :=
  if s.reviveIn 0 then
    let s1 := (s.rootLocked.takeHeld.set0 Reg.PC_RAIL Fld.PC_RAIL.KEEP_ON_VAUX).setRevivePhase 1
    { s1 with keep := { s1.keep with selfRefresh := false } }
  else s

/-- FIRMWARE ends: the retained slot, or the other, runs; the identity key is derived, but on a DECOMMISSIONED part. -/
def State.reviveFirmware (s : State) (sig : SigVerdict) : State :=
  match s.reviveIn 1, s.retention with
  | true, some r =>
    (match s.pickFirmware sig [r.fwSlot, 1 - r.fwSlot] 0 with
     | .inr _ => s.reviveFail 3
     | .inl n =>
       let s1 := ((s.loadFirmware n).mportAtFirmware.showDirectory).wrB Reg.MG_LIFECYCLE Fld.MG_LIFECYCLE.IDENTITY_READY
         (!s.decommissioned)
       ({ s1 with mode := { s1.mode with selfTested := true, identityReady := !s.decommissioned } } : State).setRevivePhase 2)
  | _, _ => s

/-- CHECK ends: the record, and the digest in the header of the retained slot (R41). -/
def State.reviveChecked (s : State) (recordOk : Bool) : State :=
  if !s.reviveIn 2 then s else
  match s.retention with
  | none => s.reviveFail 2
  | some r =>
    if !recordOk || !r.valid then s.reviveFail 2
    else if slotDigest s.mgmt.flash r.formulaSlot ≠ r.digest then s.reviveFail 1
    else s.setRevivePhase 3

/-! ### RESTORE -/

/-- The saved RWS fields laid over the registers, FL_EPOCH and AC_SEQ whole. -/
def State.restoreRegs (s : State) (r : RegFile) : State :=
  r.foldl (fun (t : State) e =>
    if savedWhole.contains e.1 then t.setReg e.1 e.2 else
    match rowAt e.1 with
    | none => t
    | some row => t.setReg e.1 ((row.fields.filter fun f => f.ty == .rws).foldl
        (fun w f => setFld w ⟨f.lo, f.width⟩ (getFld e.2 ⟨f.lo, f.width⟩)) (t.reg e.1))) s

/-- The state of each staging slot that the held records use: line data, record head, record body (R203). -/
def heldStage (l : List Sealed) : Tab Nat :=
  l.foldl (fun t (x : Sealed) =>
    let t1 := x.lines.foldl (fun u (k : SealedLine) => tabPut u k.slot 1) t
    match x.recSlots with
    | [] => t1
    | h :: r => r.foldl (fun u k => tabPut u k 3) (tabPut t1 h 2)) []

/-- The table store restored: the Formula in force, regions, decoders, weights, the sealed records. -/
def State.restoreTables (s : State) (k : SavedTables) : State :=
  match k.fml.inForce with
  | none => s
  | some f =>
    let s1 := s.restoreRegs k.regs
    let s2 : State := { s1 with
      fml := { k.fml with retrain := [] }
      acc := { s1.acc with regions := k.regions, fl := k.fl }
      acd := { s1.acd with seals := s1.keep.held, stage := heldStage s1.keep.held } }
    let s3 := f.flacons.foldl (fun t r => t.showRegions r.index) (s2.liveBase f k.fml.slot)
    let s4 := (List.range 32).foldl (fun t n => if t.reg (Reg.SPC_CFG n) = 0 then t.liveChannel f n else t) s3
    k.port.foldl (fun t e => t.modSched e.1 fun (x : SchedPort) => { x with
      wfq := e.2.wfq
      shapers := e.2.shapers.map fun h => (h.1, { h.2 with tokens := h.2.cap, last := s.beat, slot := none }) }) s4

/-- The slot machine of a port as LINK begins (R376): with HOTPLUG it waits for its presence, debounced afresh. -/
def State.slotAtLink (s : State) (p : PortRec) : State :=
  if p.slot = 0xFF then s
  else if p.hotplug then
    let was := match s.retention with | some r => tabGet r.slots p.slot 0 | none => 0
    let s1 := (s.setHp p.port Hp.EMPTY).set0 (Reg.PT_HP_STATUS p.port) Fld.PT_HP_STATUS.PRSNT
    { s1 with hpRestart := tabPut s1.hpRestart p.slot was }
  else if s.ch p.slot = Ch.ON then (s.setHp p.port Hp.POWERED).setClk p true
  else s.startSlot p

/-- LINK begins: every port trains from the start. -/
def State.reviveLink (s : State) : State :=
  match s.fml.inForce with
  | none => s
  | some f =>
    let s1 := f.ports.foldl (fun (t : State) p => ((t.showPort p).liveGate f p.port).startPort p) (s.setRevivePhase 4)
    s1.ports.foldl (fun t p => t.slotAtLink p) s1

/-- A dry restart's RESTORE: directory and seen maps are clear, gates, shapers and policers reset. -/
def State.restoreDry (s : State) : State :=
  let s1 : State := { s with
    home := [], hpRestart := []
    sched := { s.sched with
      mirror := []
      port := s.sched.port.map fun e => (e.1, { e.2 with
        shapers := e.2.shapers.map fun h => (h.1, { h.2 with tokens := h.2.cap, last := s.beat, slot := none }) }) }
    acd := { s.acd with seals := s.keep.held, stage := heldStage s.keep.held }
    fml := { s.fml with retrain := [] } }
  s1.topnoteStart s.flacons

/-- RESTORE ends; ok: the image's CRC is good and the Keep stack returned it without an uncorrectable error.  A dry restart
only clears and resets, but where its drain cut a REVIVE before the tables were restored (assumption 81). -/
def State.reviveRestored (s : State) (ok : Bool) : State :=
  if !s.reviveIn 3 then s
  else if s.reviveDry ∧ s.fml.inForce.isSome then (s.restoreDry.setReg Reg.AC_REVIVE 0).reviveLink
  else
    match ok, s.keep.tables with
    | true, some k => ((s.restoreTables k).setReg Reg.AC_REVIVE 0).reviveLink
    | _, _ => s.reviveFail 2

/-! ### REPLAY (R375) -/

/-- The port a held line targets, under the restored tables. -/
def State.heldPort (s : State) (x : Sealed) (l : SealedLine) : Option Nat :=
  (s.memTarget x.flacon (s.epochOf x.flacon) l.line).map (·.1)

/-- Whether the port of a held line is up. -/
def State.heldUp (s : State) (x : Sealed) (l : SealedLine) : Bool :=
  match s.heldPort x l with | some q => s.portUp q | none => false

/-- A held record that cannot be replayed: its slots are free, AC_REPLAY_ERR, and its loss. -/
def State.skipRecord (s : State) (x : Sealed) : State :=
  let s1 := (s.freeSlots ((x.lines.map (·.slot)) ++ x.recSlots)).modAcd fun y =>
    { y with seals := y.seals.filter fun z => z.seq != x.seq }
  ((s1.set1 Reg.AC_ERR Fld.AC_ERR.REPLAY_ERR).raise Src.AC_REPLAY_ERR (some x.flacon)).recordLoss 8 (2 ^ x.flacon) x.seq (some (1, x.lines.length))

/-- A held record replayed: each line goes to its target (R212). -/
def State.replayRecord (s : State) (x : Sealed) : State :=
  let s1 := (s.inc Reg.AC_REVIVE Fld.AC_REVIVE.RECORDS).addTo Reg.AC_REVIVE Fld.AC_REVIVE.LINES x.lines.length
  x.lines.foldl (fun t (l : SealedLine) => t.writeStaged l.slice x { l with epoch := t.epochOf x.flacon }) s1

/-- Replay: the held records in SEQ order; bad lists those whose checks fail. -/
def State.replay (s : State) (bad : List Nat) : State :=
  s.acd.seals.foldl (fun t (x : Sealed) =>
    if bad.contains x.seq ∨ !(x.lines.all fun l => s.heldUp x l) then t.skipRecord x else t.replayRecord x) (s.setRevivePhase 5)

/-- Replay begins where every targeted port is up. -/
def State.replayStart (s : State) (bad : List Nat) : State :=
  if s.reviveIn 4 ∧ s.acd.seals.all fun x => x.lines.all fun l => s.heldUp x l then s.replay bad else s

/-- PORT_WAIT_MS has passed since LINK began. -/
def State.replayAnyway (s : State) (bad : List Nat) : State := if s.reviveIn 4 then s.replay bad else s

/-! ### OPEN -/

/-- What OPEN leaves of the retained state: nothing. -/
def State.dropRetained (s : State) : State :=
  let s1 := s.set0 Reg.CHIP_MODE Fld.CHIP_MODE.RETAIN_VALID
  { s1 with retention := none, keep := { s1.keep with tables := none, held := [] } }

/-- REVIVE ends in QUARANTINE. -/
def State.endQuarantined (s : State) : State :=
  (s.dropRetained.set1 Reg.KS_REVIVE_STATUS Fld.KS_REVIVE_STATUS.QUARANTINED).setRevivePhase 7

/-- The taint of the drain before: KS_REVIVE_TAINT, and QUARANTINE (R373, R380). -/
def State.reviveTaint (s : State) : State :=
  let s1 := s.take { source := Src.KS_REVIVE_TAINT } false
  if s1.md = .frozen then s1
  else (if s1.md = .quarantine then s1 else s1.enterQuarantine 0x0F).endQuarantined

/-- A LIVE commit that DRYDOWN cut is made again (R64). -/
def State.repeatCommit (s : State) (sigOk : Bool) : State :=
  match s.fml.repeatLive with
  | none => s
  | some slot => (({ s with fml := { s.fml with repeatLive := none } } : State).commitLive slot sigOk).2.2

/-- Every held record has been replayed or skipped, and the fabric ports have made their first attempt: OPEN, then SERVE
(cause 0x0D).  deviceMs, totalMs: the times of R378. -/
def State.replayDone (s : State) (deviceMs totalMs : Nat) (sigOk : Bool) : State :=
  let waits (q : Nat) : Bool := match s.portRec q with | some p => p.fabric | none => false
  if !s.reviveIn 5 ∨ !s.acd.seals.isEmpty then s
  else
    let taint := match s.retention with | some r => r.taint | none => false
    let s0 := (s.wr Reg.KS_REVIVE_STATUS Fld.KS_REVIVE_STATUS.DEVICE_MS (min deviceMs 65535)).wr Reg.KS_REVIVE_STATUS
      Fld.KS_REVIVE_STATUS.TOTAL_MS (min totalMs 65535)
    if (s.md ≠ .quarantine ∧ s.fml.retrain.any waits) ∨ !(s.flacons.all fun f => s.canAdvance f false) then s
    else
      let s1 := s0.flacons.foldl (fun t f => t.advance f [] none) (s0.setRevivePhase 6)
      if s.md = .quarantine then s1.endQuarantined else
      let s2 : State := ({ s1 with
        sched := { s1.sched with mirror := [] }
        fml := { s1.fml with retrain := [] } } : State).topnoteStart s1.flacons
      if taint then s2.reviveTaint
      else
        let s3 := (s2.dropRetained.setRevivePhase 7).set1 Reg.CHIP_BOOT_STATUS Fld.CHIP_BOOT_STATUS.REVIVED
        ((s3.goMode .serve 0x0D).raiseLossOnEntry).repeatCommit sigOk

/-! ### The loss report -/

/-- KS_LOSS.LOST is cleared, and with it what it reports (R379). -/
def State.lossClear (s : State) : State :=
  if s.on Reg.KS_LOSS Fld.KS_LOSS.LOST then
    let s1 := ((s.set0 Reg.KS_LOSS Fld.KS_LOSS.LOST).wr Reg.KS_LOSS Fld.KS_LOSS.CAUSE 0).wr Reg.KS_LOSS Fld.KS_LOSS.FLACONS 0
    { (s1.setReg Reg.KS_LOSS_CNT 0).setReg Reg.KS_LOSS_SEQ 0 with lossRaised := false }
  else s

end Sys2Proof.Machine
end

