-- ==== Sys2Proof/Machine/System.lean ====
section
/-!
DEFINITION. Machine/System.lean: sensors (R12, R13, R370, R461), the firmware watchdog (R21), time (R22 to R25), clocks
(R26), resets and mode requests (R28), presence and seal (R436, R439).
-/
namespace Sys2Proof.Machine

/-! ### Sensors -/

/-- A temperature field as a signed number. -/
def State.temp (s : State) (n : Nat) : Int := s.rdS (Reg.CHIP_TSENSE n) Fld.CHIP_TSENSE.TEMP

def State.tempValid (s : State) (n : Nat) : Bool := s.on (Reg.CHIP_TSENSE n) Fld.CHIP_TSENSE.VALID

/-- A sensor is read: its reading, or the failure of its self-check, reported as it begins (R13). -/
def State.readSensor (s : State) (n : Nat) (r : SensorReading) : State :=
  let a := Reg.CHIP_TSENSE n
  match r with
  | some x =>
    let s1 := (s.wrS a Fld.CHIP_TSENSE.TEMP x).set1 a Fld.CHIP_TSENSE.VALID
    { s1 with sensor := { s1.sensor with failed := clrBitAt s1.sensor.failed n } }
  | none =>
    let s1 := s.set0 a Fld.CHIP_TSENSE.VALID
    if s1.sensor.failed.testBit n then s1
    else ({ s1 with sensor := { s1.sensor with failed := setBitAt s1.sensor.failed n } } : State).raise Src.CHIP_SENSOR none

/-- The refresh step after an evaluation (R461 Table 16): up at once, down one step. -/
def refreshStep (cur : Nat) (x : Int) : Nat :=
  let up := if 2000 < x then 3 else if 1680 < x then 2 else if 1360 < x then 1 else 0
  let down := (cur = 3 ∧ x ≤ 1952) ∨ (cur = 2 ∧ x ≤ 1632) ∨ (cur = 1 ∧ x ≤ 1312)
  if cur < up then up else if down then cur - 1 else cur

/-- The refresh multiplier is evaluated; a failed sensor 14 holds it at ×8 (R13). -/
def State.evalRefresh (s : State) (a : Nat) (f : Fld) : State :=
  let s1 : State := if s.sensor.failed.testBit 14 then { s with sensor := { s.sensor with hold8 := true } } else s
  if s1.sensor.hold8 then s1.wr a f 3
  else if s1.tempValid 14 then s1.wr a f (refreshStep (s1.rd a f) (s1.temp 14))
  else s1

/-- The hottest valid sensor of 0 to 13, the lowest number among equals. -/
def State.hottest (s : State) : Option (Nat × Int) :=
  (List.range 14).foldl (fun b n =>
    if !s.tempValid n then b else match b with
    | none => some (n, s.temp n)
    | some (_, x) => if x < s.temp n then some (n, s.temp n) else b) none

/-- TJ_MAX and the throttle (R12, R13, R461). -/
def State.evalThrottle (s : State) : State :=
  let a := Reg.CHIP_TJ
  let all := (List.range 14).all fun n => s.sensor.failed.testBit n
  let s1 : State := if all then { s with sensor := { s.sensor with hold75 := true } } else s
  let s2 := match s1.hottest with
    | none => s1
    | some (n, x) =>
      let t := (s1.wrS a Fld.CHIP_TJ.TJ_MAX x).wr a Fld.CHIP_TJ.TJ_SRC n
      if 2000 < x then t.set1 a Fld.CHIP_TJ.THROTTLE else if x ≤ 1952 then t.set0 a Fld.CHIP_TJ.THROTTLE else t
  if s2.sensor.hold75 then s2.set1 a Fld.CHIP_TJ.THROTTLE else s2

/-- KS_RETAIN_STATUS in RETAIN (R370). -/
def State.retainTemp (s : State) : State :=
  if !s.tempValid 14 then s else
  let a := Reg.KS_RETAIN_STATUS
  let x := s.temp 14
  let s1 := if s.keep.tjRead ∧ x ≤ s.rdS a Fld.KS_RETAIN_STATUS.MAX_TJ then s else s.wrS a Fld.KS_RETAIN_STATUS.MAX_TJ x
  let s2 := if 2400 < x then s1.set1 a Fld.KS_RETAIN_STATUS.OVERTEMP else s1
  { s2 with keep := { s2.keep with tjRead := true } }

/-- A sensor update: every sensor in the modes in which the main clocks run, sensors 14 and 15 in RETAIN, and in FROZEN, where
the always-on domain manages the refresh as in RETAIN (R400; DEDUCED, assumption 82: KS_RETAIN_STATUS shows its multiplier). -/
def State.sensorUpdate (s : State) (l : List SensorReading) (loads : List (BitVec 8)) : State :=
  let readAll (ns : List Nat) : State := ns.foldl (fun t n => match l[n]? with | some r => t.readSensor n r | none => t) s
  if s.md = .retain then
    ((readAll [14, 15]).evalRefresh Reg.KS_RETAIN_STATUS Fld.KS_RETAIN_STATUS.REFRESH_MULT).retainTemp.retainSeconds
  else if s.md = .frozen then (readAll [14, 15]).evalRefresh Reg.KS_RETAIN_STATUS Fld.KS_RETAIN_STATUS.REFRESH_MULT
  else if s.md.clocked then
    let s1 := ((readAll (List.range 16)).evalRefresh Reg.CHIP_TJ Fld.CHIP_TJ.REFRESH_MULT).evalThrottle
    (List.range 32).foldl (fun t n => t.trefMoved n false) (s1.tempTriggers loads)
  else s

/-! ### The watchdog (R21) -/

/-- The watchdog expires: CHIP_WATCHDOG, WDOG, and the firmware restarts; in BOOT the boot goes on from step 4. -/
def State.watchdog (s : State) (sig : SigVerdict) : State :=
  if !s.mode.fwRunning ∨ !s.md.clocked then s else
  let s1 := (s.raise Src.CHIP_WATCHDOG none).set1 Reg.CHIP_BOOT_STATUS Fld.CHIP_BOOT_STATUS.WDOG
  if s.md = .boot then
    let s2 := s1.dropPendingFw
    ({ s2 with mode := { s2.mode with selfTested := false } } : State).startFirmware sig
  else s1

/-! ### Time (R24, R25) -/

/-- The slew to come, and SLEWING. -/
def State.setSlew (s : State) (d : Int) : State :=
  ({ s with time := { s.time with slew := d } }).wrB Reg.CHIP_TIME_CTL Fld.CHIP_TIME_CTL.SLEWING (d ≠ 0)

/-- CHIP_TIME advanced by n ticks; like every counter it stays at all ones (R10), so it never decreases (R24). -/
def State.addTime (s : State) (n : Nat) : State := s.addTo Reg.CHIP_TIME Fld.CHIP_TIME.TIME n

/-- A correction of CHIP_TIME: stepped at once where it is positive and STEP is set, slewed otherwise; it replaces the
rest of a slew in progress. -/
def State.correctTime (s : State) (d : Int) : State :=
  if 0 < d ∧ s.on Reg.CHIP_TIME_CTL Fld.CHIP_TIME_CTL.STEP then (s.addTime d.toNat).setSlew 0 else s.setSlew d

/-- The correction that a value of CHIP_TIME_ADJ spells: a magnitude and its sign. -/
def timeDelta (w : Nat) : Int := if w.testBit 31 then -((w % 2 ^ 31 : Nat) : Int) else ((w % 2 ^ 31 : Nat) : Int)

/-- 16 beats of a slew: one tick added, or withheld from the beat to come. -/
def State.slewStep (s : State) : State :=
  if !s.md.clocked then s
  else if 0 < s.time.slew then (s.addTime 1).setSlew (s.time.slew - 1)
  else if s.time.slew < 0 then
    ({ s with time := { s.time with withheld := s.time.withheld + 1 } } : State).setSlew (s.time.slew + 1)
  else s

/-- A completed PTM exchange. -/
def State.ptm (s : State) (d : Int) : State :=
  let q := s.rd Reg.CHIP_TIME_CTL Fld.CHIP_TIME_CTL.PTM_PORT
  let upstream : Bool := match s.portRec q with | some p => !p.fabric && p.role == .upstream | none => false
  if s.on Reg.CHIP_TIME_CTL Fld.CHIP_TIME_CTL.PTM_EN ∧ upstream ∧ s.portUp q ∧ s.md.clocked then s.correctTime d else s

/-- A beat boundary: CHIP_BEAT counts it once ROOTCLK is locked (R23), and origins and gate cycles that begin there begin (R117). -/
def State.beatBoundary (s : State) : State :=
  if s.on Reg.CHIP_CLK_STATUS Fld.CHIP_CLK_STATUS.ROOT_LOCK then
    let s1 := s.inc Reg.CHIP_BEAT Fld.CHIP_BEAT.BEAT
    s1.ports.foldl (fun t p => (t.gateOrigin p.port).gateCycleStart p.port) s1
  else s

/-- One beat of the main clocks, or one AOCLK tick where they are stopped with VAUX present (R22 to R24). -/
def State.tick (s : State) : State :=
  if s.md.clocked then
    let w := min 16 s.time.withheld
    (({ s with time := { s.time with withheld := s.time.withheld - w } } : State).addTime (16 - w)).beatBoundary
  else if s.pins.vaux ∧ s.md ≠ .off then (s.addTime 64).retainSeconds
  else s

/-! ### Clocks (R26) -/

/-- The reference, or ROOTCLK lock, is lost: FROZEN with cause REF_LOST, unclean. -/
def State.refLost (s : State) (refSeen : Bool) : State :=
  if !s.md.clocked then s else
  let a := Reg.CHIP_CLK_STATUS
  let s1 := ((s.set1 a Fld.CHIP_CLK_STATUS.REF_LOST).wrB a Fld.CHIP_CLK_STATUS.REF_OK refSeen).set0 a
    Fld.CHIP_CLK_STATUS.ROOT_LOCK
  s1.enterFrozen 3 false

/-- A SerDes PLL of quadrant ⌊k/2⌋ loses lock: the lanes it serves go down, as a link drop of their ports (R26).  Lanes of
no port, which a lane test may run, go down alone. -/
def State.sdsUnlock (s : State) (k : Nat) (lanes : List Nat) : State :=
  if !s.md.clocked then s else
  let s1 := s.setBitOf Reg.CHIP_CLK_STATUS Fld.CHIP_CLK_STATUS.SDS_UNLOCK k
  let mine := lanes.filter fun l => quadOf (l / 8) == k / 2
  let s2 := (mine.filter fun l => (s1.lanePort l).isNone).foldl (fun (t : State) l => t.toOff l) s1
  (s2.ports.filter fun p => p.lanes.any mine.contains).foldl (fun (t : State) p =>
    if p.fabric then t.lanesDrop p mine else t.stdDown p true) s2

/-! ### Resets (R28) -/

/-- What remains once the always-on domain has lost its supply: fuses, flash, pins. -/
def State.aoLost (s : State) : State :=
  { State.reset with
    pins := { s.pins with vaux := false, vauxOk := false }
    mgmt := { fuses := s.mgmt.fuses, flash := s.mgmt.flash, flashAbsent := s.mgmt.flashAbsent }
    out := s.out, freeIx := s.freeIx, pending := s.pending }

/-- VAUX below 2.8 V: OFF, or RESET where the main rails stay up. -/
def State.vauxLoss (s : State) (mainLost : Bool) : State :=
  if s.md = .off then s else
  let prev := s.rd Reg.CHIP_MODE Fld.CHIP_MODE.MODE
  let t := (s.aoLost.emit (.clocks false)).emit .lanesIdle
  if mainLost then
    let t1 := t.wr Reg.CHIP_MODE Fld.CHIP_MODE.MODE Mode.off.code
    { t1 with pins := { t1.pins with railsOk := 0 } }
  else
    let t1 := (t.goMode .reset 0x01).wr Reg.CHIP_MODE Fld.CHIP_MODE.PREV_MODE prev
    { t1 with mode := { t1.mode with vauxWait := true } }

/-- VAUX enters tolerance: the always-on domain starts, with the seal latch as its fuses have it (R439). -/
def State.vauxRise (s : State) (sealHigh : Bool) : State :=
  let s1 : State := { s with
    pins := { s.pins with vaux := true, vauxOk := true, sealOpen := sealHigh }
    mgmt := { s.mgmt with presenceArmed := s.pins.presenceN } }
  let s2 := s1.showSeal.set1 Reg.PC_RAIL Fld.PC_RAIL.VAUX_GOOD
  if s.md = .off then s2.goMode .reset 0x01
  else if s.pins.vaux then { s with pins := { s.pins with vauxOk := true } }.set1 Reg.PC_RAIL Fld.PC_RAIL.VAUX_GOOD
  else s2

/-- RESET is left where nothing holds it. -/
def State.tryLeaveReset (s : State) : State :=
  if s.md = .reset ∧ s.pins.pwronResetN ∧ s.pins.vaux ∧ !s.mode.busHold then
    let s1 : State := { s with mode := { s.mode with vauxWait := false } }
    s1.leaveReset
  else s

/-- VAUX has been back for 1 ms: the always-on domain starts afresh, so that a PWRON_RESET_N that stands high is a release to
it, with which the straps are latched (DEDUCED, assumption 31). -/
def State.vauxBack (s : State) : State :=
  if !s.mode.vauxWait then s else if s.pins.pwronResetN then s.latchStraps.tryLeaveReset else s.tryLeaveReset

/-- PWRON_RESET_N is released (R338: every rail has been in tolerance): the straps are latched (R455). -/
def State.resetRelease (s : State) : State :=
  let s1 : State := { s with pins := { s.pins with pwronResetN := true } }
  if s.md = .off then s1 else s1.railsIn.latchStraps.tryLeaveReset

/-- PWRON_RESET_N goes low: the window and READOUT_EN close (R401, R436) and every mode but OFF and RETAIN goes to RESET; durable state that is not
retained is reported lost (R368, R379). -/
def State.resetAssert (s : State) : State :=
  let s1 := ({ s with pins := { s.pins with pwronResetN := false } } : State).set0 Reg.FZ_CTL Fld.FZ_CTL.READOUT_EN
  let s2 := s1.set0 Reg.MG_PRESENCE Fld.MG_PRESENCE.OPEN
  match s.md with
  | .off => s1
  | .reset => { s2 with mode := { s2.mode with busHold := false } }
  | .retain => s2
  | .drydown =>
    (if s.retainValid ∨ s.drain.railCut then s2 else s2.reportUnwritten 4).intoReset 0x01
  | .frozen => s2.intoReset 0x01
  | _ => (if s.retainValid then s2 else s2.reportUnwritten 7).intoReset 0x01

/-- The keyed write of CHIP_RESET. -/
def State.chipReset (s : State) (key : Nat) : State :=
  if key ≠ 0x5EED0880 then s
  else match s.md with
  | .drydown => s.set1 Reg.KS_DRAIN_STATUS Fld.KS_DRAIN_STATUS.RESET_IGNORED
  | .off | .retain | .frozen | .reset => s
  | _ => { s with mode := { s.mode with resetScheduled := true } }

/-- 1 µs later: RESET, then BOOT with cause 0x13. -/
def State.chipResetStart (s : State) : State :=
  if !s.mode.resetScheduled ∨ s.inMode [.off, .retain, .drydown, .frozen, .reset] then s else
  (((s.reportUnwritten 6).set0 Reg.CHIP_MODE Fld.CHIP_MODE.RETAIN_VALID).intoReset 0x13).coldBoot 0x13

/-! ### Mode requests -/

/-- A request that Table 7 does not list from the current mode. -/
def State.reqErr (s : State) : State := s.set1 Reg.CHIP_MODE Fld.CHIP_MODE.REQ_ERR

/-- Whether a request of a target is allowed now. -/
def State.modeReqOk (s : State) (target : Nat) : Bool :=
  match s.md with
  | .boot => target == 11 && !s.inRecovery
  | .linktest => target == 2
  | .compose | .serve | .recompose | .revive => target == 10
  | _ => false

/-- CHIP_MODE_REQ.TARGET. -/
def State.modeReq (s : State) (target : Nat) : State :=
  if !s.modeReqOk target then s.reqErr
  else if target = 11 then
    let s1 := s.goMode .linktest 0x05
    -- the lanes whose LN_TEST_CFG.EN is 1 run (R267)
    (s1.lanesWith Reg.LN_TEST_CFG fun w => getFld w Fld.LN_TEST_CFG.EN == 1).foldl (fun t l => t.testStart l) s1
  else if target = 2 then
    let s1 := s.testsEnd.goMode .boot 0x12
    { s1 with sil := [] }
  else s.enterQuarantine 0x0F

/-- A reset of the MPORT endpoint: the response of a command accepted before it is discarded (R413). -/
def State.dropResponse (s : State) : State :=
  { s with mgmt := { s.mgmt with respBuf := [] } }.set0 Reg.MBX_STATUS Fld.MBX_STATUS.DONE

/-- PERST_N: the MPORT endpoint is in reset, or comes out of it (R32); a command taken before runs on, and its response is
discarded (R413). -/
def State.perst (s : State) (low : Bool) : State :=
  let s1 : State := { s with pins := { s.pins with perstN := !low } }
  if low then { s1 with mgmt := { s1.mgmt with mportUp := false } }.dropResponse
  else { s1 with mgmt := { s1.mgmt with mportUp := s1.mgmt.mportEn && s1.md.clocked } }

/-! ### Presence and the seal (R436, R439) -/

/-- The presence window closes. -/
def State.closeWindow (s : State) : State :=
  if s.on Reg.MG_PRESENCE Fld.MG_PRESENCE.OPEN then (s.set0 Reg.MG_PRESENCE Fld.MG_PRESENCE.OPEN).msix 2 else s

/-- A filtered fall of PRESENCE_N. -/
def State.press (s : State) : State :=
  let s1 : State := { s with pins := { s.pins with presenceN := false } }
  if s.md = .off then s1
  else
    let s2 := s1.set1 Reg.MG_PRESENCE Fld.MG_PRESENCE.LEVEL
    if !s.pins.presenceN ∨ !s.mgmt.presenceArmed ∨ s.on Reg.MG_SEAL Fld.MG_SEAL.SEAL_BROKEN then s2
    else
      let s3 := (s2.inc Reg.MG_PRESENCE Fld.MG_PRESENCE.PRESSES).set1 Reg.MG_PRESENCE Fld.MG_PRESENCE.OPEN
      let s4 : State := { s3 with mgmt := { s3.mgmt with presenceAt := s3.now } }
      if s.on Reg.MG_PRESENCE Fld.MG_PRESENCE.OPEN then s4 else s4.msix 2

/-- A filtered rise of PRESENCE_N. -/
def State.unpress (s : State) : State :=
  let s1 : State := { s with pins := { s.pins with presenceN := true } }
  if s.md = .off then s1
  else ({ s1 with mgmt := { s1.mgmt with presenceArmed := true } }).set0 Reg.MG_PRESENCE Fld.MG_PRESENCE.LEVEL

/-- SEAL_N high for 1 ms. -/
def State.sealBreak (s : State) : State :=
  if s.md = .off ∨ !s.pins.vaux ∨ s.on Reg.MG_SEAL Fld.MG_SEAL.LOOP_OPEN then s else
  let s1 : State := { s with pins := { s.pins with sealOpen := true } }
  let a := Reg.MG_SEAL
  let s2 := ((s1.set1 a Fld.MG_SEAL.LOOP_OPEN).set1 a Fld.MG_SEAL.FUSE_PENDING).set1 a Fld.MG_SEAL.SEAL_BROKEN
  (s2.closeWindow.msix 3).raise Src.MG_SEAL_BROKEN none

/-- SEAL_N low again. -/
def State.sealClose (s : State) : State :=
  let s1 : State := { s with pins := { s.pins with sealOpen := false } }
  if s.md = .off ∨ !s.pins.vaux then s1 else s1.set0 Reg.MG_SEAL Fld.MG_SEAL.LOOP_OPEN

/-- A pending break's SEAL_EVENTS bit is programmed, in a mode with main rails. -/
def State.sealFuse (s : State) : State :=
  if s.md.clocked ∧ s.on Reg.MG_SEAL Fld.MG_SEAL.FUSE_PENDING then
    let s1 : State := { s with mgmt := { s.mgmt with fuses := { s.mgmt.fuses with
      sealEvents := min 15 (s.mgmt.fuses.sealEvents + 1) } } }
    (s1.set0 Reg.MG_SEAL Fld.MG_SEAL.FUSE_PENDING).showFuses
  else s

/-- The MPORT link goes down (R456): BAR0 and the mailbox cannot be reached. -/
def State.mportDown (s : State) : State := { s with mgmt := { s.mgmt with mportUp := false } }

end Sys2Proof.Machine
end

