-- ==== Sys2Proof/Machine/Settle.lean ====
section
/-!
DEFINITION. Machine/Settle.lean: what follows every command at once: the collector takes what was raised (R385), a power
warning that stands starts DRYDOWN (R345), what waits for nothing more goes on, and the fault pins follow.
-/
namespace Sys2Proof.Machine

/-- The collector's rounds: what handling raises is taken in the round after. -/
def State.collectThrough (s : State) : Nat → State
  | 0 => s
  | k + 1 => if s.flt.raised.isEmpty then s else s.collect.collectThrough k

/-- DRYDOWN starts where a warning stands in a mode that serves (R28, R345). -/
def State.checkWarning (s : State) : State := 
  if s.md.serving && s.warningStands then (s.set1 Reg.PC_EVENTS Fld.PC_EVENTS.DRYDOWN).drydownEntry else s

/-- Accords and what waits for them, mirror copies, a host's GPF phases and a RECOMPOSE's back-invalidations go on. -/
def State.advanceWaits (s : State) : State := if s.md.clocked then s.accordsGo.mirrorAll.gpfAdvance.backInvalidate else s

/-- What follows a command.  A warning that stands is taken before a fault that the command raised, and again where taking
the faults has brought a mode that serves (R31). -/
def State.settle (s : State) : State :=
  ((s.advanceWaits.checkWarning.collectThrough 4).checkWarning.collectThrough 4).refreshPins

/-- The outcome of a command that has its effect. -/
def done (s : State) : Result := .next s.settle

/-- What a command does in the modes in which the main clocks run (Table 6): elsewhere its event does not arise, and
nothing changes. -/
def State.clocked (s : State) (k : State → State) : State := if s.md.clocked then k s else s

/-- A command of the clocked blocks. -/
def whenClocked (s : State) (k : State → State) : Result := done (s.clocked k)

/-! ### Register triggers -/

/-- A register path that reaches the registers now (R28 Table 6, R32, R412, R428): BAR0 while MPORT is up; a management
path in the modes in which its commands are served; an engine function while it answers. -/
def State.reaches (s : State) (p : AccessPath) : Bool :=
  match p with
  | .bar0 => s.md.clocked && s.mgmt.mportUp
  | .mgmt k => s.md.clocked && s.md != .drydown && !s.inRecovery && (decide (2 ≤ k.val) || s.mgmt.mportUp)
  | .engine q => s.engineUp q.val
  | .jtag => false

/-- A write by a path comes between the halves of a pair that the path has begun (R5). -/
def State.breakHold (s : State) (p : AccessPath) : State :=
  match tabFind s.io.hold p.key with
  | some h => { s with io := { s.io with hold := tabPut s.io.hold p.key { h with broken := true } } }
  | none => s

/-- A write that acts, through a path: it has its effect where the path reaches the registers and may write (R414). -/
def State.written (s : State) (p : AccessPath) (k : State → State) : Result :=
  done (if s.reaches p then s.ifWritable p fun t => k (t.breakHold p) else s)

/-- The test access port works (R404): VDD_IO, rail 7, is in tolerance. -/
def State.tapWorks (s : State) : Bool := s.md != .off && s.pins.railsOk.testBit 7

/-- A write of an FZ register, which JTAG reaches wherever the test access port works (R401, R404). -/
def State.writtenFz (s : State) (p : AccessPath) (k : State → State) : Result :=
  if p = .jtag then done (if s.tapWorks then k s else s) else s.written p k

/-- A write of an RWP field at a BAR0 offset (R437): refused, logged and raised where the window does not let it act. -/
def State.rwpWrite (s : State) (offset : Nat) (k : State → State) : State :=
  if s.presenceOk then k s
  else
    let r := Reg.MG_RWP_LOG
    (((s.wr r Fld.MG_RWP_LOG.OFFSET offset).wrB r Fld.MG_RWP_LOG.SEALED (s.on Reg.MG_SEAL Fld.MG_SEAL.SEAL_BROKEN)).inc r
      Fld.MG_RWP_LOG.COUNT).raise Src.MG_RWP_REFUSED none

end Sys2Proof.Machine
end

