-- ==== Sys2Proof/Machine/CoreEvents.lean ====
section
/-!
DEFINITION. Machine/CoreEvents.lean: arrivals that credits withhold (R63, R314), requests written to the planes' and the
ports' control registers (R80, R82, R93), and the cells that a scheduler's choice brings to a confirm gate (R174).
-/
namespace Sys2Proof.Machine

/-- An arrival that is a request. -/
def arrivalIsReq : Arrival → Bool
  | .link m => isRequest m
  | .cxl c _ => match cxlOpcode c with | some op => decide (4 ≤ (classOf op).getD 4) | none => true
  | .stored _ => false

/-- An arrival that is a coherent request. -/
def arrivalIsCoherentReq : Arrival → Bool
  | .link m => isRequest m && !m.io
  | a => arrivalIsReq a

/-- Whether an arrival is withheld at the link: a port that withholds its credits takes no request (R63, R363, R375); one
whose directory walk runs takes no coherent request (R314). -/
def State.withheldAt (s : State) (q : Nat) (a : Arrival) : Bool :=
  (s.withholds q && arrivalIsReq a) || (s.on (Reg.PT_STD_STATUS q) Fld.PT_STD_STATUS.WALK && arrivalIsCoherentReq a)

/-- A message arrives (R70), unless its credits are withheld. -/
def State.messageIn (s : State) (q : Nat) (a : Arrival) (env : LookupEnv) : State :=
  if s.withheldAt q a then s else s.arrive q a env

/-- A BODY or TAIL cell arrives (R71): of a fabric port from its receive storage. -/
def State.bodyIn (s : State) (q mc : Nat) (line : Line) (last bad : Bool) : State :=
  match s.portRec q with
  | none => s
  | some p => if p.fabric then s.storedBody q mc else s.bodyCell q mc line last bad

/-! ### Plane fences -/

/-- Planes without a fence, standing or notified. -/
def State.unfenced (s : State) : List Nat := (List.range 8).filter fun n => !s.fenceStands n

/-- XB_CTL.FENCE_REQ written 1: an administrative fence, refused where it would leave no active plane. -/
def State.planeFenceReq (s : State) (n : Nat) : State :=
  if s.fenceStands n then s
  else if s.unfenced.length ≤ 1 then s.set1 (Reg.XB_STATUS n) Fld.XB_STATUS.REFUSED
  else s.beginFence n false

/-- XB_CTL.FENCE_REQ written 0: UNFENCE_PLANE goes out; refused for a fault fence until its fault has been raised and
cleared (R82). -/
def State.planeUnfenceReq (s : State) (n : Nat) : State :=
  match tabFind s.core.fences n with
  | none => s
  | some f =>
    if f.lifted then s
    else if f.fault && (!f.raised || (s.srcOf (srcPlane n 0)).pending || (s.srcOf (srcPlane n 1)).pending) then
      s.set1 (Reg.XB_STATUS n) Fld.XB_STATUS.REFUSED
    else if h : n < 8 then
      (if s.flt.notices.contains (.unfencePlane ⟨n, h⟩) then s else s.notify (.unfencePlane ⟨n, h⟩))
    else s

/-! ### Port flush (R93) -/

def State.flFenced (s : State) (f : Nat) : Bool := s.on (Reg.FL_STATUS f) Fld.FL_STATUS.FENCED

/-- PT_FLUSH_CTL.GO: the selected classes of the Flacons in PT_FLUSH_FL; refused on a port that is up where one of them is
not fenced.  Every selected message ends at once, so BUSY reads 0. -/
def State.flushGo (s : State) (q : Nat) : State :=
  let classes := s.rd (Reg.PT_FLUSH_CTL q) Fld.PT_FLUSH_CTL.CLASSES
  let mask := s.rd (Reg.PT_FLUSH_FL q) Fld.PT_FLUSH_FL.FLACONS
  if s.portUp q && (List.range 32).any fun f => mask.testBit f && !s.flFenced f then
    s.set1 (Reg.PT_FLUSH_CTL q) Fld.PT_FLUSH_CTL.REFUSED
  else
    -- held cells are data responses (MC2)
    (s.flushPort q fun c f => bitAt classes c && mask.testBit f).flushGate q fun f => bitAt classes 2 && mask.testBit f

/-! ### The confirm gate -/

/-- The head of the queue that the scheduler of port q chooses now, where it is free to choose (R108, R112). -/
def State.chosenHead (s : State) (q : Nat) (credits : BitVec 16) : Option Cell :=
  match s.portRec q with
  | none => none
  | some p =>
    if !s.portUp q ∨ (s.schedPort q).hold.isSome then none
    else
      let s1 := (s.noteGateHeld p).wfqSettle q fun f => (List.range 8).any fun c => s.eligible p credits c f
      match s1.choose p credits with
      | none => none
      | some (c, f) => (s.queue (queueNo q c f)).head?

/-- A cell slot of port q, where what the scheduler chooses is a cell that the event names. -/
def State.egressOf (s : State) (q : Nat) (credits : BitVec 16) (ecc : EccFinding) (mine : Cell → Bool) : State :=
  match s.chosenHead q credits with
  | some c => if mine c then s.egress q credits ecc else s
  | none => s

end Sys2Proof.Machine
end

