-- ==== Sys2Proof/Machine/FaultEvents.lean ====
section
/-!
DEFINITION. Machine/FaultEvents.lean: occurrences and rail faults from outside (R383, R384), clearing (R392, R394, R395),
test occurrences, freeze requests (R399), the capture port (R402, R403), JTAG (R404).
-/
namespace Sys2Proof.Machine

/-! ### Occurrences and rail faults -/

/-- An occurrence of a source of R381; reserved numbers are never raised. -/
def State.occur (s : State) (o : Occ) : State :=
  if (defaultSev o.source).isNone then s else { s with flt := { s.flt with raised := s.flt.raised ++ [o] } }

/-- The ports that a source's instance serves: those of its tile, quadrant or slot; none for the sources of the chip. -/
def State.servedPorts (s : State) (n : Nat) : List PortRec :=
  if n < 512 then s.ports.filter fun p => tileOf p.port == n / 8
  else if 832 ≤ n ∧ n < 928 then s.ports.filter fun p => quadOf (tileOf p.port) == (n - 832) / 24
  else if 928 ≤ n ∧ n < 1120 then s.ports.filter fun p => p.slot == (n - 928) / 6
  else []

/-- The Flacon that a rail fault is raised against (R384): that of every port the source's instance serves, where it is
one Flacon. -/
def State.railFlacon (s : State) (n : Nat) : Option Nat :=
  match s.servedPorts n with
  | [] => none
  | p :: r => if p.flacon < 32 ∧ (r.all fun x => x.flacon == p.flacon) then some p.flacon else none

/-- Equal levels on a source's pair: a rail fault is raised once, as it begins (R383, R384). -/
def State.railFault (s : State) (n : Nat) : State :=
  if (defaultSev n).isNone ∨ !s.flt.running ∨ (s.srcOf n).railNow then s
  else
    let fl : Option FlaconIx := match s.railFlacon n with
      | some i => if h : i < 32 then some ⟨i, h⟩ else none
      | none => none
    (s.modSrc n fun k => { k with rail := true, railNow := true }).take { source := n, flacon := fl } true

/-- Opposite levels in 16 samples: the rail fault ends. -/
def State.railFaultEnd (s : State) (n : Nat) : State :=
  if (s.srcOf n).railNow then s.modSrc n fun k => { k with railNow := false } else s

/-! ### Clearing -/

/-- A source's pending state cleared (R392).  Clearing STD_VIRAL_IN ends viral of its Flacons that are not fenced
(R307). -/
def State.clearSource (s : State) (n : Nat) : State :=
  let k := s.srcOf n
  if !k.pending && k.escCount = 0 then s
  else
    let s1 := s.modSrc n fun k => { k with pending := false, recSev := 0, flacons := 0, nofl := false, escCount := 0 }
    if 832 ≤ n ∧ n < 928 ∧ (n - 832) % 24 = 16 then
      (List.range 32).foldl (fun t f => if k.flacons.toNat.testBit f && !t.on (Reg.FL_STATUS f) Fld.FL_STATUS.FENCED then
        t.viralClear f else t) s1
    else s1

/-- Ones written to a word of FC_PEND (R392). -/
def State.clearPend (s : State) (w mask : Nat) : State :=
  (List.range 32).foldl (fun t i => if mask.testBit i then t.clearSource (32 * w + i) else t) s

/-- Ones written to a word of FC_RAIL: a bit whose rail fault still stands stays (R392). -/
def State.clearRail (s : State) (w mask : Nat) : State :=
  (List.range 32).foldl (fun t i => if mask.testBit i && (t.srcOf (32 * w + i)).rail && !(t.srcOf (32 * w + i)).railNow then
    t.modSrc (32 * w + i) fun k => { k with rail := false } else t) s

/-- FC_ALERT.PENDING cleared (R394). -/
def State.clearAlert (s : State) : State := s.set0 Reg.FC_ALERT Fld.FC_ALERT.PENDING

/-- FC_FERR_CTL.VALID cleared: the capture is armed again, and MORE clears with it (R396). -/
def State.clearFerr (s : State) : State :=
  (s.set0 Reg.FC_FERR_CTL Fld.FC_FERR_CTL.VALID).set0 Reg.FC_FERR_CTL Fld.FC_FERR_CTL.MORE

/-- The n oldest log entries removed (R395). -/
def State.logAck (s : State) (n : Nat) : State := { s with flt := { s.flt with log := s.flt.log.drop n } }

/-! ### Test occurrences and freeze requests -/

/-- A write of FC_INJECT (R385): its fields, and with GO one occurrence. -/
def State.injectFault (s : State) (w : Nat) : State :=
  s.rwpWrite 0x100300 fun t =>
    let r := Reg.FC_INJECT
    let t1 := ((t.wr r Fld.FC_INJECT.SOURCE (w % 2 ^ 11)).wr r Fld.FC_INJECT.FLACON (w / 2 ^ 11 % 32)).wrB r
      Fld.FC_INJECT.FLACON_V (w.testBit 16)
    if w.testBit 17 then
      t1.occur { source := w % 2 ^ 11
                 flacon := if w.testBit 16 then some ⟨w / 2 ^ 11 % 32, Nat.mod_lt _ (by decide)⟩ else none }
    else t1

/-- A request to freeze (R30, R399). -/
def State.freezeRequest (s : State) (cause : Nat) : State :=
  if s.md.freezable then s.enterFrozen cause true
  else if s.md.ignoresFreeze then (s.set1 Reg.FZ_STATUS Fld.FZ_STATUS.IGNORED).raise Src.FZ_REQ_IGNORED none
  else s

/-- A write of FZ_CTL (R399, R401): READOUT_EN once set stays until PWRON_RESET_N. -/
def State.freezeWrite (s : State) (w : Nat) : State :=
  s.rwpWrite 0x200000 fun t =>
    let r := Reg.FZ_CTL
    let t1 := ((t.wrB r Fld.FZ_CTL.READOUT_EN (t.on r Fld.FZ_CTL.READOUT_EN || w.testBit 1)).wrB r Fld.FZ_CTL.ON_SOURCE
      (w.testBit 2)).wr r Fld.FZ_CTL.SOURCE (w / 8 % 2 ^ 11)
    if w.testBit 0 then t1.freezeRequest 2 else t1

/-! ### Capture port (R402, R403) -/

/-- The segments of Table 6: their sizes in MiB. -/
def segmentMiB : List Nat := [16, 96, 48, 32, 24, 24, 1536, 352, 128, 32]

/-- Blocks of 4,096 bytes in a segment. -/
def segmentBlocks (k : Nat) : Nat := segmentMiB.getD k 0 * 256

/-- Byte o of a segment as stored (R402).  The buffer tiers are their slots in number order, with their own ECC bytes and the
Keep slot's last 32 bytes 0; what a slot without a cell last held, and the layout of every other segment, are not given
(log entry 77). -/
def State.segmentByte (s : State) (k o : Nat) : Byte :=
  let free := Config.segmentByte k o s.freeIx
  if k = 1 then
    match s.bufferImage (o / 96) with
    | some x => BitVec.ofNat 8 (x.toNat / 2 ^ (8 * (o % 96)))
    | none => free
  else if k = 7 then
    match s.bufferImage (spillBase + o / 128) with
    | some x => if o % 128 < 96 then BitVec.ofNat 8 (x.toNat / 2 ^ (8 * (o % 128))) else 0
    | none => if o % 128 < 96 then free else 0
  else free

/-- Block i of segment k as it leaves the capture port, 4,116 bytes (R403 Table 7). -/
def State.captureBlock (s : State) (k i : Nat) : List Byte :=
  let last := i + 1 == segmentBlocks k
  let unclean := !s.on Reg.FZ_STATUS Fld.FZ_STATUS.CLEAN
  let b := bytesOf 2 0xA55A ++ bytesOf 1 k ++ bytesOf 1 (b2n last + 2 * b2n unclean) ++ bytesOf 4 i
    ++ bytesOf 8 s.mgmt.fuses.serial.toNat ++ (List.range 4096).map fun j => s.segmentByte k (4096 * i + j)
  b ++ bytesOf 4 (crc32 b)

/-- Readout of chip state is allowed (R401). -/
def State.readoutOk (s : State) : Bool := s.on Reg.FZ_CTL Fld.FZ_CTL.READOUT_EN && s.md == .frozen

/-- A transfer ends whole: DONE, and every block of its segments, State.captureBlock in block order, has been sent. -/
def State.captureDone (s : State) : State :=
  let r := Reg.FZ_CAP_STATUS
  if !s.on r Fld.FZ_CAP_STATUS.BUSY then s
  else
    let l := s.frz.capSegs
    let s1 := l.foldl (fun t k => t.emit (.capture k (segmentBlocks k))) s
    let s2 := ((s1.set0 r Fld.FZ_CAP_STATUS.BUSY).set1 r Fld.FZ_CAP_STATUS.DONE).wr r Fld.FZ_CAP_STATUS.BLOCKS
      ((l.map segmentBlocks).foldl (· + ·) 0)
    { s2.wr r Fld.FZ_CAP_STATUS.SEGMENT (l.getLastD 0) with frz := { s2.frz with capSegs := [] } }

/-- FZ_CAP_CTL.START (R401, R403); one with no segment selected has nothing to send, and one while a transfer runs does
not restart it. -/
def State.captureStart (s : State) (seg : Nat) : State :=
  let r := Reg.FZ_CAP_STATUS
  let s0 := s.wr Reg.FZ_CAP_CTL Fld.FZ_CAP_CTL.SEG (seg % 2 ^ 10)
  if !s.readoutOk then s0.set1 r Fld.FZ_CAP_STATUS.REFUSED
  else if s.on r Fld.FZ_CAP_STATUS.BUSY then s0
  else
    let l := (List.range 10).filter fun k => seg.testBit k
    let s1 := ((s0.set1 r Fld.FZ_CAP_STATUS.BUSY).wr r Fld.FZ_CAP_STATUS.SEGMENT (l.headD 0)).wr r Fld.FZ_CAP_STATUS.BLOCKS 0
    let s2 : State := { s1 with frz := { s1.frz with capSegs := l } }
    if l.isEmpty then s2.captureDone else s2

/-- FZ_CAP_CTL.ABORT: the transfer stops at the end of the block being sent, which nothing here fixes (assumption 2). -/
def State.captureAbort (s : State) : State :=
  let r := Reg.FZ_CAP_STATUS
  if !s.on r Fld.FZ_CAP_STATUS.BUSY then s
  else
    let (n, s1) := s.free 32
    { (s1.set0 r Fld.FZ_CAP_STATUS.BUSY).wr r Fld.FZ_CAP_STATUS.BLOCKS n.toNat with frz := { s1.frz with capSegs := [] } }

/-! ### JTAG (R404) -/

/-- The IDCODE of R404. -/
def idcode : Nat := 0x10880C7B

def State.setJtag (s : State) (i : JtagInstr) : State := { s with frz := { s.frz with jtag := i } }

def State.jtagIdcode (s : State) : State := if s.tapWorks then (s.setJtag .idcode).emit (.tdo idcode) else s

/-- BYPASS: the one-bit register captures 0 (IEEE 1149.1). -/
def State.jtagBypass (s : State) : State := if s.tapWorks then (s.setJtag .bypass).emit (.tdo 0) else s

/-- SAMPLE/PRELOAD: the boundary register preloaded. -/
def State.jtagPreload (s : State) (bits : List Bool) : State :=
  if s.tapWorks then { s.setJtag .samplePreload with frz := { s.frz with jtag := .samplePreload, boundary := bits } } else s

/-- EXTEST: taken only with READOUT_EN in RESET or FROZEN; the boundary register drives the outputs. -/
def State.jtagExtest (s : State) : State :=
  if s.tapWorks && s.on Reg.FZ_CTL Fld.FZ_CTL.READOUT_EN && s.inMode [.reset, .frozen] then
    (s.setJtag .extest).emit (.pin .boundary true)
  else s

/-- A segment instrument read by one bit: 0 without the conditions of R401, otherwise bit n of the segment.  DEDUCED (log
entry 82): bit 0 of a byte goes first. -/
def State.jtagSegment (s : State) (k n : Nat) : State :=
  if !s.tapWorks then s
  else if s.readoutOk then (s.setJtag .network).emit (.tdo (b2n ((s.segmentByte k (n / 8)).getLsbD (n % 8))))
  else (s.setJtag .network).emit (.tdo 0)

end Sys2Proof.Machine
end

