-- ==== Sys2Proof/Machine/FlaconEvents.lean ====
section
/-!
DEFINITION. Machine/FlaconEvents.lean: unfencing a Flacon (R242, R243, R392), and the epoch drain test (R234).
-/
namespace Sys2Proof.Machine

/-- FL_FAULT.CLEAR of Flacon f: whether it was taken.  Refused in QUARANTINE and while unfencing; without effect for a
Flacon that is not fenced.  The Flacon's viral ends with its fault (R307). -/
def State.flFaultClear (s : State) (f : Nat) : Bool × State :=
  let st := Reg.FL_STATUS f
  if !s.on st Fld.FL_STATUS.FENCED then (true, s)
  else if s.md = .quarantine ∨ s.on st Fld.FL_STATUS.UNFENCING then
    (false, s.set1 (Reg.FL_FAULT f) Fld.FL_FAULT.REFUSED)
  else (true, (s.set1 st Fld.FL_STATUS.UNFENCING).viralClear f)

/-- The CXL and PCIe ports of Flacon f. -/
def State.stdPortsOf (s : State) (f : Nat) : List PortRec := s.ports.filter fun p => !p.fabric && p.flacon == f

/-- The notice that fences f is still on the bus. -/
def State.fenceComes (s : State) (f : Nat) : Bool :=
  s.flt.notices.any fun n => match n with | .fenceFlacon g => g.val == f | _ => false

/-- Steps 2 to 5 of R242, once the fence has taken effect and nothing of f is in flight; they wait while f's epoch cannot
advance (R232). -/
def State.unfence (s : State) (f : Nat) : State :=
  let st := Reg.FL_STATUS f
  if !s.on st Fld.FL_STATUS.UNFENCING ∨ s.fenceComes f ∨ !s.fenceDry f ∨ !s.canAdvance f false then s
  else
    let s1 := (s.clearDirectory f).advance f [] none
    let s2 := (s1.stdPortsOf f).foldl (fun t p => t.stdDown p false) s1
    let s3 : State := { s2 with acc := { s2.acc with fencedFlacons := s2.acc.fencedFlacons.filter (· != f) } }
    (s3.set0 st Fld.FL_STATUS.UNFENCING).set0 st Fld.FL_STATUS.FENCED

end Sys2Proof.Machine
end

