-- ==== Sys2Proof/Machine/HomeEvents.lean ====
section
/-!
DEFINITION. Machine/HomeEvents.lean: what reaches a home slice from its home queues (R142 to R145), its backing store
(R138 to R140) and its victim-overflow queue (R156), and a device's back-invalidate snoop (R129).
-/
namespace Sys2Proof.Machine

/-! ### Home queues -/

/-- The queue of class mc and Flacon f at slice n. -/
def homeQueue (n mc f : Nat) : Nat := queueNo (128 + n) mc f

/-- A message as a slice takes it: the data of its cells joined, poisoned where one of them is bad. -/
def joinCells (m : Msg) (cells : List Cell) : Msg :=
  let bad := m.poison || cells.any fun c => c.tailBad || c.payUe
  if cells.length ≤ 1 then { m with poison := bad }
  else { m with data := dataBehind m.hdr.length (cells.map fun c => c.line.getD 0), poison := bad }

/-- A cell of slice n with an uncorrectable header is discarded (R76 Table 5).  DEDUCED (assumption 35): a slice has no
fault source of that name, so the source of the tile that sent the cell reports it. -/
def State.loseHome (s : State) (c : Cell) : State :=
  let s1 := s.freeCell c
  if c.src < 64 then s1.raise (srcTile c.src 0) none else s1

/-- Cells with an uncorrectable header at the head of a home queue are discarded. -/
def State.dropLost (s : State) (q : Nat) : State :=
  let l := s.queue q
  let bad := l.takeWhile (·.hdrUe)
  if bad.isEmpty then s else bad.foldl (fun t c => t.loseHome c) (s.putQueue q (l.drop bad.length))

/-- The message at the head of a list of a home queue's cells: itself, the cell that keeps its data for a coherent write,
and the state with the rest of the list put back by put.  The further messages of a packed cell stay; a message whose tail
has not come is not taken. -/
def State.takeFrom (s : State) (l : List Cell) (put : State → List Cell → State) : Option (Msg × Option Cell × State) :=
  match l with
  | [] => none
  | h :: r =>
    match h.more with
    | m :: l => some (h.msg, none, put s ({ h with msg := m, more := l, kind := if l.isEmpty then .single else .packed } :: r))
    | [] =>
      let (mine, rest, whole) := takeMsg (h :: r)
      if !whole then none
      else
        let s1 := put s rest
        let m := joinCells h.msg mine
        if m.mc = 5 ∧ !m.io then some (m, some h, s1) else some (m, none, mine.foldl (fun t c => t.freeCell c) s1)

/-- Cells charged to the snoop-writeback reserve lie on a separate list of the MC5 queue (R142). -/
def onReserve (c : Cell) : Bool := c.tier == .writeback

/-- The cells of a home queue but those on the reserve list. -/
def State.homeList (s : State) (q : Nat) : List Cell := (s.queue q).filter fun c => !onReserve c

/-- The message at the head of a home queue, the reserve list left aside. -/
def State.takeHome (s : State) (q : Nat) : Option (Msg × Option Cell × State) :=
  s.takeFrom (s.homeList q) fun t l => t.putQueue q ((s.queue q).filter onReserve ++ l)

/-- The message at the head of a home queue, as it stands there. -/
def State.homeHead (s : State) (q : Nat) : Option Msg := ((s.homeList q).head?).map (·.msg)

/-- What the home queue group of Flacon f at slice n is served with next (R94, R98, R142): the class of lowest rank, ties to
the lower class, and whether it is the reserve list, of rank 3.  A gated slice takes nothing above that rank (R145).  A
message whose tail has not come is passed over. -/
def State.groupNext (s : State) (n f : Nat) : Option (Nat × Bool) :=
  let ready (c : Nat) : Bool := (s.takeHome (homeQueue n c f)).isSome
  match [1, 2, 0].find? ready with
  | some c => some (c, false)
  | none =>
    if (s.queue (homeQueue n 5 f)).any onReserve then some (5, true)
    else if s.homeGated n then none
    else ([3, 4, 5, 6, 7].find? ready).map fun c => (c, false)

def State.sliceFenced (s : State) (n : Nat) : Bool := s.acc.fencedSlices.contains n

/-- A message of one class taken from its home queue where it is its group's next and its opcode is one that the event
names; at a fenced slice it is lost (R19). -/
def State.takeAnswer (s : State) (n mc f : Nat) (mine : Msg → Bool) (k : Msg → State → State) : State :=
  let q := homeQueue n mc f
  let s := s.dropLost q
  match s.homeHead q with
  | none => s
  | some h =>
    if !mine h ∨ s.groupNext n f ≠ some (mc, false) then s
    else
      match s.takeHome q with
      | none => s
      | some (m, _, t) => if t.sliceFenced n then t else (k m t).runSlice n

/-- A request that will find its set in the hot tier reads it there: the check of that read (R140). -/
def State.hotRead (s : State) (n : Nat) (m : Msg) (ecc : EntryEcc) : State :=
  match s.homeAt m.flacon m.epoch (reqLine m) with
  | none => s
  | some h =>
    if h.slice = n ∧ ((s.slice n).frameOf h.set).isSome ∧ (s.holder n m.flacon (reqLine m)).isNone then
      s.dirRead n h.set ecc (reqLine m)
    else s

/-- A request taken by slice n (R142 to R147), the next of its group: one it cannot take waits in its home queue (R145); a
writeback and a BI_CONFLICT on their own classes have commands of their own. -/
def State.sliceTake (s : State) (n mc f : Nat) (ecc : EntryEcc) : State :=
  let q := homeQueue n mc f
  let s := s.dropLost q
  match s.homeHead q with
  | none => s
  | some h =>
    if mc < 3 ∨ (!h.io && ((isWriteback h.op && mc == 5) || (h.op == Op.BI_CONFLICT && mc == 4)))
        ∨ s.quarantined ∨ s.groupNext n f ≠ some (mc, false) then s
    else
      match s.takeHome q with
      | none => s
      | some (m, cell, t) =>
        if t.sliceFenced n then (t.freeCell? cell).failRequest n m
        else if !opAtSlice m then ((t.freeCell? cell).badOp n m).runSlice n
        else ((t.hotRead n m ecc).takeReq n m cell).runSlice n

/-- A writeback taken by slice n, the next of its group: first those on the reserve list, which R145 does not hold. -/
def State.writebackTake (s : State) (n f : Nat) : State :=
  let q := homeQueue n 5 f
  let s := s.dropLost q
  let go (t : State) (c : Cell) : State :=
    let m := joinCells c.msg [c]
    if t.sliceFenced n then t.dropWb n (some c) (onReserve c)
    else if !isWriteback m.op then ((t.dropWb n (some c) (onReserve c)).badOp n m).runSlice n
    else (t.writeback n m (some c)).runSlice n
  match s.groupNext n f with
  | some (5, true) =>
    (match (s.queue q).find? onReserve with
     | some c => go (s.putQueue q ((s.queue q).erase c)) c
     | none => s)
  | some (5, false) =>
    (match s.homeList q with
     | c :: r => if isWriteback c.msg.op && !c.msg.io then go (s.putQueue q ((s.queue q).filter onReserve ++ r)) c else s
     | [] => s)
  | _ => s

/-! ### Directory reads -/

/-- Trackers of slice n that wait for a backing set. -/
def State.readersOf (s : State) (n set : Nat) : List Nat :=
  ((s.slice n).trackers.filter fun t => t.ph == .reading && t.set == set).map (·.id)

/-- A set brought into the hot tier for the trackers that wait on it: a frame is filled, and each has its directory
result; with every frame of the group pinned they enter the victim-overflow queue (R139). -/
def State.setRead (s : State) (n set : Nat) (l : List Nat) : State :=
  match (s.slice n).frameOf set with
  | some _ => l.foldl (fun t id => t.act n id) s
  | none =>
    match s.frameFor n set with
    | some k => l.foldl (fun t id => t.act n id) (s.fillFrame n set k)
    | none => l.foldl (fun t id => match t.tracker n id with | some k => t.enterVoq n k | none => t) s

/-- A backing set read completes. -/
def State.backingRead (s : State) (n set : Nat) (ecc : EntryEcc) : State :=
  let l := s.readersOf n set
  match l.head?.bind (s.tracker n) with
  | none => s
  | some t => ((s.dirRead n set ecc t.line).setRead n set l).runSlice n

/-- A request of the victim-overflow queue can go: its set's or its frame group's pin has been released. -/
def State.voqFree (s : State) (n : Nat) (t : Tracker) : Bool :=
  let x := s.slice n
  t.ph == .voq && (match x.frameOf t.set with
    | some _ => (x.freeWay t.set).isSome || (s.victim n t.set).isSome
    | none => (s.frameFor n t.set).isSome)

/-- The oldest request of the victim-overflow queue that can go is tried again: with its set in the hot tier it looks for a
way once more, otherwise its set is read again. -/
def State.voqRetry (s : State) (n : Nat) : State :=
  match (s.slice n).trackers.find? (s.voqFree n) with
  | none => s
  | some t =>
    if ((s.slice n).frameOf t.set).isSome then (s.act n t.id).runSlice n
    else s.putTracker n { t with ph := .reading }

/-- A scrub read of a backing set (R140). -/
def State.scrub (s : State) (n set : Nat) (ecc : EntryEcc) : State :=
  if s.on (Reg.HS_CTL n) Fld.HS_CTL.SCRUB_EN then
    let tag := match (tabGet (s.slice n).sets set {}).ways with | e :: _ => e.2.tag | [] => 0
    (s.dirRead n set ecc (s.entryLine n set tag)).runSlice n
  else s

/-! ### A device's back-invalidate snoop (R129) -/

/-- A BISnp of a downstream device for an address of a SHARED decoder: answered RSP_I at once. -/
def State.deviceBisnp (s : State) (q addr ltag : Nat) : State :=
  match s.portRec q with
  | none => s
  | some p =>
    if p.fabric ∨ p.role ≠ .downstream ∨ !s.portUp q ∨ !s.snoopsShared p.flacon addr then s
    else
      let m : Msg := { mc := 1, op := Op.RSP_I, flacon := p.flacon, addr := lineOf addr, srcEid := s.mgmtEid,
                       dstEid := s.portEid q, tag := 4096, ltag := ltag, port := q, epoch := s.epochOf p.flacon,
                       svc := s.serviceOf p.flacon 1 }
      (s.send (tileOf q) q m).raiseAt Src.HS_DEV_BISNP (some p.flacon) { addr := addr, flacon := p.flacon, port := q, mc := 3 }

end Sys2Proof.Machine
end

