-- ==== Sys2Proof/Machine/Views.lean ====
section
/-!
DEFINITION. Machine/Views.lean: what the registers and windows that show a structure of the state read as: queues,
reserves, links, Flacons, arbiters, slices, the Accord engine, the fault collector, Sillage, the region store.  Every
other register reads as the register file holds it.
-/
namespace Sys2Proof.Machine

/-- Fields of a register written over its contents. -/
def withFlds (v : Word) : List (Fld × Nat) → Word
  | [] => v
  | (f, x) :: r => withFlds (setFld v f x) r

/-! ### Ports (03, 04, 06, 10, 11) -/

/-- The fair-queueing entry and the shaper of the Flacon that PT_SCHED_SEL selects on port q. -/
def State.schedSel (s : State) (q : Nat) : Nat := s.rd (Reg.PT_SCHED_SEL q) Fld.PT_SCHED_SEL.FLACON

/-- The queue of port q that PT_QSEL selects. -/
def State.queueSel (s : State) (q : Nat) : List Cell :=
  s.queue (queueNo q (s.rd (Reg.PT_QSEL q) Fld.PT_QSEL.MC) (s.rd (Reg.PT_QSEL q) Fld.PT_QSEL.FLACON))

/-- PT_WFQ of the selected Flacon. -/
def wfqWord (e : WfqEnt) : Word :=
  withFlds 0 [(Fld.PT_WFQ.WEIGHT, e.weight), (Fld.PT_WFQ.WEIGHT_MIN, e.weightMin), (Fld.PT_WFQ.WEIGHT_MAX, e.weightMax)]

/-- PT_LL_CREDIT: the counter that PT_LL_CRSEL selects, 0 to 15 a sub-channel, 16 the bypass slot; others read 0. -/
def State.creditWord (s : State) (q : Nat) : Word :=
  let k := s.rd (Reg.PT_LL_CRSEL q) Fld.PT_LL_CRSEL.SUBCH
  let l := s.linkSt q
  if 16 < k then 0 else
  withFlds 0 [
    (Fld.PT_LL_CREDIT.TX_AVAIL, l.available k), (Fld.PT_LL_CREDIT.TX_XOFF, b2n (l.xoffIn.testBit k)),
    (Fld.PT_LL_CREDIT.RX_HELD, l.heldBy false k),
    (Fld.PT_LL_CREDIT.RX_XOFF, b2n (decide (k < 16) && l.xoffSent.testBit k)),
    (Fld.PT_LL_CREDIT.RX_POOL, l.heldBy true k)]

/-- Gate entries of port q in states that p accepts. -/
def State.gateCount (s : State) (q : Nat) (p : GateSt → Bool) : Nat :=
  (s.core.gate.filter fun e => e.1 / 4096 == q && p e.2.st).length

/-- The tentative cells of the selected queue that its gate holds: they keep their slots (R178).  They are data responses
(MC2) of their Flacon. -/
def State.gateSel (s : State) (q : Nat) : List Cell :=
  (s.core.gate.filterMap fun e => if e.1 / 4096 == q then e.2.cell else none).filter fun c =>
    c.msg.mc == s.rd (Reg.PT_QSEL q) Fld.PT_QSEL.MC && c.msg.flacon == s.rd (Reg.PT_QSEL q) Fld.PT_QSEL.FLACON

/-- The registers of port q that show its queues, scheduling, gate and link. -/
def State.shownPt (s : State) (q o : Nat) (v : Word) : Word :=
  let x := s.schedPort q
  let f := s.schedSel q
  let e := tabGet x.wfq f {}
  let h := tabGet x.shapers f {}
  match o with
  | 0x108 =>
    let c := s.queueSel q ++ s.gateSel q
    withFlds 0 [(Fld.PT_QOCC.FAST, fastCells c + (c.filter fun y => y.tier == .prefetch).length),
      (Fld.PT_QOCC.SPILL, (c.filter fun y => y.tier == .spill).length)]
  | 0x130 => withFlds 0 [(Fld.PT_RESV.RESP, tabGet s.core.buf.resp q 0), (Fld.PT_RESV.PREFETCH, tabGet s.core.buf.pre q 0)]
  | 0x208 => wfqWord e
  | 0x210 => withFlds 0 [(Fld.PT_WFQ_TAG.START, e.tag), (Fld.PT_WFQ_TAG.QUEUED, b2n (s.holdsCells q f))]
  | 0x218 => withFlds 0 [(Fld.PT_VTIME.V, x.vtime)]
  | 0x220 => withFlds 0 [(Fld.PT_SHAPE.RATE_MBPS, h.rate), (Fld.PT_SHAPE.MAX_RATE_MBPS, h.maxRate)]
  | 0x228 => withFlds 0 [(Fld.PT_SHAPE_BURST.BURST_BYTES, h.burst)]
  | 0x230 =>
    withFlds 0 [(Fld.PT_SHAPE_TOKENS.TOKENS, signedBits 40 h.tokens), (Fld.PT_SHAPE_TOKENS.ON_WHEEL, b2n h.slot.isSome),
      (Fld.PT_SHAPE_TOKENS.SLOT, h.slot.getD 0)]
  | 0x310 => withFlds v [(Fld.PT_GATE_STATE.OPEN, s.gateOpenMask q)]
  | 0x400 =>
    withFlds 0 [(Fld.PT_TN_GATE.HELD, s.gateCount q (· == .held)), (Fld.PT_TN_GATE.OTHER, s.gateCount q (· != .held))]
  | 0x618 =>
    let l := s.linkSt q
    withFlds 0 [(Fld.PT_LL_SEQ.TX_NEXT, l.txNext), (Fld.PT_LL_SEQ.TX_ACKED, l.acked.getD 0), (Fld.PT_LL_SEQ.RX_NEXT, l.rxNext),
      (Fld.PT_LL_SEQ.STORED, l.stored.length)]
  | 0x628 => s.creditWord q
  | 0x630 =>
    match s.portRec q with
    | some p =>
      if p.protocol = .ictil ∨ p.protocol = .flocet then
        withFlds 0 [(Fld.PT_LL_POOL.SIZE, poolSize p.width), (Fld.PT_LL_POOL.USED, (s.linkSt q).poolUsed)]
      else 0
    | none => 0
  | 0x640 =>
    match s.portRec q with
    | some p =>
      if p.protocol = .ictil ∨ p.protocol = .flocet then
        withFlds 0 [(Fld.PT_LL_OTAG.OUT, (s.recordsOf q false).length), (Fld.PT_LL_OTAG.DROPPED, (s.recordsOf q true).length)]
      else 0
    | none => 0
  | 0x650 =>
    withFlds v [(Fld.PT_LL_LINGER.HELD,
      if s.rd (Reg.PT_LL_STATUS q) Fld.PT_LL_STATUS.STATE = 3 then s.portCells q else 0)]
  | 0x720 =>
    match s.portRec q with
    | some p =>
      if p.protocol = .cxl ∨ p.protocol = .pcie then withFlds 0 [(Fld.PT_STD_OREC.OUT, (s.recordsOf q false).length)] else 0
    | none => 0
  | _ => v

/-- Messages that wait for admission at tile t. -/
def State.waitingAt (s : State) (t : Nat) : Nat :=
  s.core.wait.foldl (fun n e => if e.1 / 16 = t then n + e.2.length else n) 0

/-! ### Arbiters (04) -/

/-- The registers of the arbiter set of an instance. -/
def State.shownArb (s : State) (i : ArbInst) (o : Nat) (v : Word) : Word :=
  let a := s.arb (s.arbSelected i)
  match o with
  | 0x804 =>
    withFlds v [(Fld.ARB_STATUS.FALLBACK, b2n a.fallback),
      (Fld.ARB_STATUS.ANY_FALLBACK, b2n ((arbsOf i).any fun k => (s.arb k).fallback))]
  | 0x810 => BitVec.ofNat 64 a.grants
  | 0x818 =>
    withFlds 0 [(Fld.ARB_COUNTS.STARVE_GRANTS, a.starve), (Fld.ARB_COUNTS.VOID, a.voids), (Fld.ARB_COUNTS.MAX_WAIT, a.maxWait)]
  | 0x820 => withFlds 0 [(Fld.ARB_PARKED.PARKED, a.parkedUses)]
  | _ => v

/-- The instance whose arbiter set holds an offset of a block, if the offset lies in one. -/
def arbInstAt (b : Block) (base o : Nat) : Option ArbInst :=
  if o < 0x800 ∨ 0xC00 ≤ o then none else
  match b with
  | .xb => some (.plane (Fin.ofNat 8 ((base - 0x2000000) / 0x10000)))
  | .hs => some (.slice (Fin.ofNat 64 ((base - 0x3000000) / 0x10000)))
  | .ksch => some (.keep (Fin.ofNat 8 ((base - 0x8010000) / 0x1000)))
  | _ => none

/-! ### Slices (05, 06, 07) -/

/-- Entries of Flacon f in use in slice n. -/
def State.entriesOf (s : State) (n f : Nat) : Nat :=
  match s.flaconRec f with
  | none => 0
  | some r =>
    if !r.sliceMask.testBit n then 0 else
    let b := setBase s.flaconRecs f n
    (s.slice n).sets.foldl (fun k e => if b ≤ e.1 ∧ e.1 < b + r.dirSets then k + e.2.ways.length else k) 0

/-- The registers of slice n that show its resources, its directory and its policers. -/
def State.shownHs (s : State) (n o : Nat) (v : Word) : Word :=
  let x := s.slice n
  let f := s.rd (Reg.HS_FSEL n) Fld.HS_FSEL.FLACON
  let r := s.flaconRec f
  match o with
  | 0x4 => withFlds 0 [(Fld.HS_RESV.SNOOP, s.wbUsed n), (Fld.HS_RESV.RESP, tabGet s.core.buf.resp (128 + n) 0)]
  | 0x8 =>
    withFlds 0 [(Fld.HS_STATUS.TRACKERS, x.trackers.length), (Fld.HS_STATUS.CONFLICT, x.conflict.length),
      (Fld.HS_STATUS.SNOOP_REC, x.snoops.length), (Fld.HS_STATUS.VOQ, (x.trackers.filter fun t => t.ph == .voq).length),
      (Fld.HS_STATUS.GATED, b2n (s.homeGated n))]
  | 0x108 =>
    let inMask := match r with | some g => g.sliceMask.testBit n | none => false
    withFlds 0 [(Fld.HS_FDIR.SET_BASE, if r.isSome then setBase s.flaconRecs f n else 0),
      (Fld.HS_FDIR.SETS, if inMask then (r.map (·.dirSets)).getD 0 else 0), (Fld.HS_FDIR.IN_MASK, b2n inMask),
      (Fld.HS_FDIR.GEOM_OK, b2n (s.geomOk f))]
  | 0x110 => withFlds 0 [(Fld.HS_FOCC.VALID, s.entriesOf n f)]
  | 0x118 =>
    match r with
    | none => 0
    | some g =>
      withFlds 0 [(Fld.HS_TN_POLICER.TOKENS, s.tokens f n), (Fld.HS_TN_POLICER.RATE, g.topnoteRate),
        (Fld.HS_TN_POLICER.BURST, g.topnoteBurst), (Fld.HS_TN_POLICER.TN_EN, b2n g.topnoteEn)]
  | 0x31C => withFlds 0 [(Fld.HS_TN_PEND.PEND, (x.trackers.filter (·.tentSent)).length)]
  | 0x500 => withFlds v [(Fld.HS_AC.MARKS, s.sliceMarks n none), (Fld.HS_AC.FMARKS, s.sliceMarks n (some f))]
  | _ =>
    if 0x1000 ≤ o ∧ o < 0x1800 then
      let k := (o - 0x1000) / 4
      BitVec.ofNat 64 (((List.range 32).filter fun i => (tabFind x.seen (32 * k + i)).isSome).foldl setBitAt 0)
    else v

/-! ### Flacons and the Accord engine (03, 07, 08) -/

/-- Epochs of Flacon f with accesses outstanding. -/
def State.epochsOut (s : State) (f : Nat) : List Nat := tabKeys (s.flAcc f).outst fun k => 0 < k

/-- The registers of Flacon f that show its use of resources and its epochs. -/
def State.shownFl (s : State) (f o : Nat) (v : Word) : Word :=
  match o with
  | 0x200 => withFlds 0 [(Fld.FL_BUF_FAST.USED, s.usedFast f)]
  | 0x204 => withFlds 0 [(Fld.FL_BUF_SPILL.USED, s.usedSpill f)]
  | 0x400 =>
    withFlds 0 [(Fld.FL_AC_USE.TRACKERS, s.trackersOf f), (Fld.FL_AC_USE.STAGED, s.stagedOf f),
      (Fld.FL_AC_USE.RESERVE, s.reserveOf f)]
  | 0x18 =>
    withFlds v [(Fld.FL_EPOCH_DRAIN.DONE, b2n (s.drainedTo f (s.rd (Reg.FL_EPOCH_DRAIN f) Fld.FL_EPOCH_DRAIN.TARGET))),
      (Fld.FL_EPOCH_DRAIN.EPOCHS, (s.epochsOut f).length)]
  | 0x20 => withFlds 0 [(Fld.FL_EPOCH_OLDEST.OLDEST, (oldestEpoch (s.epochsOut f)).getD (s.epochOf f))]
  | _ => v

/-- The registers of the Accord engine. -/
def State.shownAc (s : State) (o : Nat) (v : Word) : Word :=
  match o with
  | 0x8 =>
    withFlds 0 [(Fld.AC_STATUS.OPEN, s.acd.trk.length), (Fld.AC_STATUS.STAGED, s.acd.stage.length),
      (Fld.AC_STATUS.UNWRITTEN, s.acd.seals.foldl (fun n x => n + x.lines.length) 0)]
  | _ => v

/-- The registers of the engine function of port q. -/
def State.shownEf (s : State) (q o : Nat) (v : Word) : Word :=
  match s.portFlacon q with
  | none => v
  | some f =>
    match s.flaconRec f with
    | none => v
    | some r =>
      match o with
      | 0x0 =>
        withFlds 0 [(Fld.EF_ID.FLACON, f), (Fld.EF_ID.PORT, q), (Fld.EF_ID.SLOTS, r.accordSlots), (Fld.EF_ID.WATCH_OK, b2n r.watchEn),
          (Fld.EF_ID.DURABILITY, r.durability), (Fld.EF_ID.WINDOWS, s.windows f)]
      | 0x8 =>
        withFlds 0 [(Fld.EF_RES.TRACKERS_FREE, r.accordTrackers - s.trackersOf f), (Fld.EF_RES.STAGE_FREE, s.stageFree f),
          (Fld.EF_RES.RESERVE_FREE, s.retainReserve f - s.reserveOf f)]
      | _ => v

/-! ### Faults and trace (15) -/

/-- Sources pending at a recorded severity. -/
def State.pendAt (s : State) (sev : Nat) : Nat := (s.flt.src.filter fun e => e.2.pending && e.2.recSev == sev).length

/-- 32 bits, one per source of word k, of a property the collector keeps. -/
def State.srcBits (s : State) (k : Nat) (p : SrcState → Bool) : Nat :=
  ((List.range 32).filter fun i => p (s.srcOf (32 * k + i))).foldl setBitAt 0

/-- The registers of the fault collector. -/
def State.shownFc (s : State) (o : Nat) (v : Word) : Word :=
  let n := s.rd Reg.FC_SEL Fld.FC_SEL.SOURCE
  let x := s.srcOf n
  match o with
  | 0x8 =>
    withFlds 0 [(Fld.FC_SUMMARY.PEND_S0, s.pendAt 0), (Fld.FC_SUMMARY.PEND_S1, s.pendAt 1), (Fld.FC_SUMMARY.PEND_S2, s.pendAt 2),
      (Fld.FC_SUMMARY.PEND_S3, s.pendAt 3), (Fld.FC_SUMMARY.QUARANTINE, b2n s.flt.quar),
      (Fld.FC_SUMMARY.FAULT, b2n s.flt.faultLow), (Fld.FC_SUMMARY.ALERT, b2n s.flt.alertLow)]
  | 0x208 =>
    if (defaultSev n).isNone then 0 else
    withFlds 0 [(Fld.FC_SRC.SEV, s.sevOf n), (Fld.FC_SRC.RAIL_SEV, s.railSevOf n), (Fld.FC_SRC.ESCALATE, s.escalateOf n),
      (Fld.FC_SRC.FIXED, b2n (sevFixed n)), (Fld.FC_SRC.REC_SEV, x.recSev), (Fld.FC_SRC.PENDING, b2n x.pending),
      (Fld.FC_SRC.RAIL, b2n x.railNow), (Fld.FC_SRC.NOFL, b2n x.nofl), (Fld.FC_SRC.FLACONS, x.flacons.toNat)]
  | 0x210 => withFlds 0 [(Fld.FC_SRC_CNT.ESC_COUNT, x.escCount), (Fld.FC_SRC_CNT.TOTAL, x.total)]
  | 0x400 => withFlds v [(Fld.FC_LOG_COUNT.COUNT, s.flt.log.length)]
  | _ =>
    if 0x1000 ≤ o ∧ o < 0x10A0 then BitVec.ofNat 64 (s.srcBits ((o - 0x1000) / 4) (·.pending))
    else if 0x1100 ≤ o ∧ o < 0x11A0 then BitVec.ofNat 64 (s.srcBits ((o - 0x1100) / 4) (·.rail))
    else v

/-- The two words of a log entry (R395 Table 4). -/
def LogEntry.words (e : LogEntry) : List Word :=
  [BitVec.ofNat 64 e.time,
   BitVec.ofNat 64 (at64 e.source 0 11 + at64 e.severity 11 2 + at64 (b2n e.rail) 13 1 + at64 (b2n e.escalated) 14 1
     + at64 (b2n e.flacon.isSome) 15 1 + at64 ((e.flacon.map (·.val)).getD 0) 16 5 + at64 e.mode 24 4
     + at64 (b2n e.deferred) 28 1 + at64 (e.addr / 64) 32 32)]

/-! ### Management and power (13, 16) -/

/-- Seconds left of the presence window (R436): CHIP_TIME counts ticks of 625 ps. -/
def State.presenceLeft (s : State) : Nat :=
  if s.on Reg.MG_PRESENCE Fld.MG_PRESENCE.OPEN then 120 - (s.now - s.mgmt.presenceAt) / 1600000000 else 0

/-- The registers of block MG. -/
def State.shownMg (s : State) (o : Nat) (v : Word) : Word :=
  match o with
  | 0x8 => withFlds v [(Fld.MG_PRESENCE.REMAINING, s.presenceLeft)]
  | 0x220 => withFlds v [(Fld.MG_BAR0_WR.WRITABLE, b2n (s.mayWrite .bar0))]
  | _ =>
    if 0x100 ≤ o ∧ o < 0x140 then BitVec.ofNat 64 (Config.romMeasurement.toNat / 2 ^ (32 * ((o - 0x100) / 4)) % 2 ^ 32)
    else v

/-! ### The whole register -/

/-- What the register at address a reads as now: the register file's contents, with the fields that show a structure of
the state laid over them. -/
def State.shown (s : State) (a : Nat) : Word :=
  let v := s.reg a
  match locateBlock a with
  | none => 0
  | some (b, base) =>
    let o := a - base
    match arbInstAt b base o with
    | some i => s.shownArb i o v
    | none =>
      match b with
      | .tl => if o = 0x30 then withFlds v [(Fld.TL_ADMIT.WAITING, s.waitingAt ((base - 0x1000000) / 0x10000))] else v
      | .pt => s.shownPt ((base - 0x1000000) / 0x10000 * 2 + (base % 0x10000 - 0x4000) / 0x2000) o v
      | .xb =>
        if o = 0x100 then withFlds 0 [(Fld.XB_POOL_FAST.FREE, s.poolFast.toNat)]
        else if o = 0x104 then withFlds 0 [(Fld.XB_POOL_SPILL.FREE, s.poolSpill.toNat)]
        else v
      | .hs => s.shownHs ((base - 0x3000000) / 0x10000) o v
      | .fl => s.shownFl ((base - 0x4000000) / 0x1000) o v
      | .ac => s.shownAc o v
      | .ef => s.shownEf ((base - 0x100000000) / 0x10000) o v
      | .fc => s.shownFc o v
      | .sl =>
        if o = 0x8 then withFlds 0 [(Fld.SL_COUNT.COUNT, (s.silFifo ((base - 0x5800000) / 0x10000)).entries.length)] else v
      | .mg => s.shownMg o v
      | .pc => if o = 0x18 then withFlds v [(Fld.PC_SUPV_STATUS.POWER_GOOD, b2n s.powerGood)] else v
      | _ => v

/-! ### Windows -/

/-- Word w of region entry i in quadrant copy c (R226 Table 4).  A free entry reads as zeros; what an uncorrectable copy
reads as is stated nowhere (assumption 2). -/
def State.regionWord (s : State) (c i w : Nat) : Word × State :=
  if s.acc.bad.contains (c, i) then ((s.free 64).1, (s.free 64).2) else
  let ws : List Word := match tabFind s.acc.regions i with
    | none => [0, 0, 0]
    | some e =>
      [BitVec.ofNat 64 (at64 e.start 0 52 + at64 1 52 1 + at64 (b2n e.ns) 53 1 + at64 e.flacon 54 5),
       BitVec.ofNat 64 (at64 e.stop 0 52 + at64 e.perms 52 12), BitVec.ofNat 64 (at64 e.epoch 0 32)]
  (if w < 3 then (ws[w]?).getD 0 else Config.regionEcc ((ws[0]?).getD 0) ((ws[1]?).getD 0) ((ws[2]?).getD 0), s)

/-- Whether an address lies in a window: the log ring (R395), the Sillage FIFOs (R408), the region store (R226). -/
def inWindow (a : Nat) : Bool :=
  (decide (0x110000 ≤ a) && decide (a < 0x120000))
    || (decide (0x5800000 ≤ a) && decide (a < 0x5840000) && decide (0x8000 ≤ a % 0x10000))
    || (decide (0x6000000 ≤ a) && decide (a < 0x6800000))

/-- The 8 bytes of a window at an 8-byte boundary. -/
def State.windowWord (s : State) (a : Nat) : Word × State :=
  if a < 0x120000 then
    let o := a - 0x110000
    (match s.flt.log[o / 16]? with
     | some e => (e.words[o % 16 / 8]?).getD 0
     | none => 0, s)
  else if a < 0x5840000 then
    let o := a % 0x10000 - 0x8000
    (match (s.silFifo ((a - 0x5800000) / 0x10000)).entries[o / 32]? with
     | some e => if o / 32 < 1024 then (e.words[o % 32 / 8]?).getD 0 else 0
     | none => 0, s)
  else s.regionWord ((a - 0x6000000) / 0x200000) ((a - 0x6000000) % 0x200000 / 32) (a % 32 / 8)

end Sys2Proof.Machine
end

