-- ==== Sys2Proof/Machine/Access.lean ====
section
/-!
DEFINITION. Machine/Access.lean: reading and writing a register: the field types of R8, the split accesses of R5, the
registers whose writes act, the address checks of R4 and R36.
-/
namespace Sys2Proof.Machine

/-! ### Field types (R8 Table 3) -/

/-- What a write leaves in a register's contents, by the types of its fields.  RWP fields are written by the operations
that check the presence window. -/
def storeFields (fs : List FieldRow) (old new : Word) : Word :=
  fs.foldl (fun v f =>
    let x := getFld new ⟨f.lo, f.width⟩
    let o := getFld old ⟨f.lo, f.width⟩
    match f.ty with
    | .rw | .rws => setFld v ⟨f.lo, f.width⟩ x
    | .w1c => setFld v ⟨f.lo, f.width⟩ (o - (o &&& x))
    | .w1s => setFld v ⟨f.lo, f.width⟩ (o ||| x)
    | .ro | .wo | .rc | .rwp | .rwf => v) old

/-- A register's contents with its RC fields from bit lo on cleared (R5, R8). -/
def clearRc (fs : List FieldRow) (lo : Nat) (v : Word) : Word :=
  fs.foldl (fun w f => if f.ty = .rc ∧ lo ≤ f.lo then setFld w ⟨f.lo, f.width⟩ 0 else w) v

/-! ### Reads -/

/-- RC contents that a structure of the state holds, cleared by a read from bit lo on: the counters of the selected
arbiter (R100), FC_SRC_CNT.TOTAL. -/
def State.clearView (s : State) (b : Block) (base o lo : Nat) : State :=
  match arbInstAt b base o with
  | some i =>
    let k := s.arbSelected i
    let a := s.arb k
    match o with
    | 0x810 => s.putArb k { a with grants := if lo = 0 then 0 else a.grants % 2 ^ 32 }
    | 0x818 => s.putArb k { a with starve := if lo = 0 then 0 else a.starve, voids := 0, maxWait := 0 }
    | 0x820 => s.putArb k { a with parkedUses := 0 }
    | _ => s
  | none =>
    if b = .fc ∧ o = 0x210 then
      let n := s.rd Reg.FC_SEL Fld.FC_SEL.SOURCE
      if (tabFind s.flt.src n).isSome then s.modSrc n fun x => { x with total := 0 } else s
    else s

/-- The RC fields of a register cleared from bit lo on. -/
def State.readClears (s : State) (r : RegRow) (a lo : Nat) : State :=
  if !r.fields.any fun f => f.ty == .rc && decide (lo ≤ f.lo + f.width - 1) then s else
  let s1 := s.setReg a (clearRc r.fields lo (s.reg a))
  match locateBlock a with
  | none => s1
  | some (b, base) => s1.clearView b base (a - base) lo

/-- A read of a whole register: what it shows, and the state with its RC fields cleared from bit lo on. -/
def State.readReg (s : State) (r : RegRow) (a lo : Nat) : Word × State := (s.shown a, s.readClears r a lo)

def State.setLatch (s : State) (p : AccessPath) (v : Option (Nat × Nat)) : State :=
  { s with io := { s.io with latch := match v with
    | some x => tabPut s.io.latch p.key x
    | none => tabDel s.io.latch p.key } }

/-- Whether an access at an address is one of R5's path: on MPORT the path is BAR0 alone, and an access to the mailbox
BAR leaves its latch and its hold as they are. -/
def onPath (p : AccessPath) (a : Nat) : Bool := p != .bar0 || decide (a < bar0Size)

/-- A write at an address comes between the halves of a pair that its path has begun (R5). -/
def State.breakHoldAt (s : State) (p : AccessPath) (a : Nat) : State := if onPath p a then s.breakHold p else s

/-- A read of another register releases the path's latch (R5). -/
def State.releaseLatch (s : State) (p : AccessPath) (a : Nat) : State :=
  if !onPath p a then s else
  match tabFind s.io.latch p.key with
  | some (r, _) => if r = a then s else s.setLatch p none
  | none => s

/-- A word of an MSI-X table, four to a vector: of an engine function's 64 vectors at 0x8000 of its BAR0 (R182, R183), of
MPORT's 4 at 0x3_0000 of its BAR2.  The PBA beside it reads 0: a vector is sent when it is signalled (assumption 78). -/
def inMsixTab (a : Nat) : Bool :=
  (decide (0x100000000 ≤ a) && decide (a < 0x100800000) && decide (0x8000 ≤ a % 0x10000) && decide (a % 0x10000 < 0x8400))
    || (decide (0x200030000 ≤ a) && decide (a < 0x200030040))

/-- The word of an MSI-X table at an address: 0 until written (assumption 78). -/
def State.msixWord (s : State) (a : Nat) : Nat := (tabGet s.io.msixTab (a / 4) 0).toNat

/-- A word of an MSI-X table written. -/
def State.putMsixWord (s : State) (a x : Nat) : State :=
  let w := BitVec.ofNat 32 x
  { s with io := { s.io with msixTab := if w = 0 then tabDel s.io.msixTab (a / 4) else tabPut s.io.msixTab (a / 4) w } }

/-- A 32-bit read of the word at an address that the path reaches. -/
def State.read32 (s : State) (p : AccessPath) (a : Nat) : Nat × State :=
  if inMsixTab a then (s.msixWord a, s.releaseLatch p a)
  else if inWindow a then
    let w := (s.releaseLatch p a).windowWord (a / 8 * 8)
    (w.1.toNat / 2 ^ (8 * (a % 8)) % 2 ^ 32, w.2)
  else
    match wordAt a with
    | none => (0, s)
    | some (r, ra, upper) =>
      if upper then
        match tabFind s.io.latch p.key with
        | some (x, v) =>
          if x = ra then (v, s.setLatch p none)
          else
            let w := (s.setLatch p none).readReg r ra 32
            (w.1.toNat / 2 ^ 32, w.2)
        | none =>
          let w := s.readReg r ra 32
          (w.1.toNat / 2 ^ 32, w.2)
      else
        let w := (s.releaseLatch p ra).readReg r ra 0
        (w.1.toNat % 2 ^ 32, if r.wide then w.2.setLatch p (some (ra, w.1.toNat / 2 ^ 32)) else w.2)

/-- A 64-bit read: one 64-bit register whole, without the latch; otherwise the two words. -/
def State.read64 (s : State) (p : AccessPath) (a : Nat) : Nat × State :=
  if inWindow a then
    let w := (s.releaseLatch p a).windowWord a
    (w.1.toNat, w.2)
  else
    match rowAt a with
    | some r =>
      if r.wide then
        let w := (s.releaseLatch p a).readReg r a 0
        (w.1.toNat, w.2)
      else
        let lo := s.read32 p a
        let hi := lo.2.read32 p (a + 4)
        (lo.1 + hi.1 * 2 ^ 32, hi.2)
    | none =>
      let lo := s.read32 p a
      let hi := lo.2.read32 p (a + 4)
      (lo.1 + hi.1 * 2 ^ 32, hi.2)

/-! ### Writes -/

/-- A write of the fields that have no behaviour of their own. -/
def State.storeReg (s : State) (r : RegRow) (a : Nat) (w : Word) : State :=
  s.setReg a (storeFields r.fields (s.reg a) w)

/-- Writes of port q's registers. -/
def State.writePt (s : State) (q o : Nat) (w : Word) : State :=
  match o with
  | 0x114 => if getFld w Fld.PT_FLUSH_CTL.GO = 1 then s.flushGo q else s
  | 0x608 => if getFld w Fld.PT_LL_CTL.RESTART = 1 then s.restartPort q else s
  | _ => s

/-- LN_CTL as written: a changed DISABLE acts, then RETRAIN, then RETUNE. -/
def State.lnCtlWrite (s : State) (l : Nat) (w : Word) : State :=
  let r := Reg.LN_CTL l
  let dis := getFld w Fld.LN_CTL.DISABLE = 1
  let s1 := ((s.wr r Fld.LN_CTL.MON_EN (getFld w Fld.LN_CTL.MON_EN)).wr r Fld.LN_CTL.TEMP_TRIG_EN
    (getFld w Fld.LN_CTL.TEMP_TRIG_EN)).wr r Fld.LN_CTL.LOAD_TRIG_EN (getFld w Fld.LN_CTL.LOAD_TRIG_EN)
  let s2 := if s1.on r Fld.LN_CTL.DISABLE = decide dis then s1 else s1.laneDisable l (decide dis)
  let s3 := if getFld w Fld.LN_CTL.RETRAIN = 1 then s2.laneRetrain l else s2
  if getFld w Fld.LN_CTL.RETUNE = 1 then s3.trigger l 4 else s3

/-- LN_PRBS_INJ as written: the settings, then INJECT and BURST.  A rate asked of an ACTIVE lane of an anchored port is
refused as the other forms are (R264). -/
def State.prbsInjWrite (s : State) (r : RegRow) (l : Nat) (w : Word) : State :=
  let a := Reg.LN_PRBS_INJ l
  let anchored := match s.lanePort l with | some p => p.anchored | none => false
  let barred := s.laneActive l && anchored && getFld w Fld.LN_PRBS_INJ.RATE_EXP != 0
  let rate := s.rd a Fld.LN_PRBS_INJ.RATE_EXP
  let s1 := s.storeReg r a w
  let s2 := if barred then (s1.wr a Fld.LN_PRBS_INJ.RATE_EXP rate).set1 a Fld.LN_PRBS_INJ.REFUSED else s1
  let s3 := if getFld w Fld.LN_PRBS_INJ.INJECT = 1 then s2.inject l 1 else s2
  if getFld w Fld.LN_PRBS_INJ.BURST = 1 then s3.injectBurst l else s3

/-- Writes of lane l's registers. -/
def State.writeLn (s : State) (r : RegRow) (l o a : Nat) (w : Word) : State :=
  match o with
  | 0x0 => s.lnCtlWrite l w
  | 0x100 => s.prbsWrite l w
  | 0x104 => s.prbsInjWrite r l w
  | 0x120 => s.testCfgWrite l w
  | _ => s.storeReg r a w

/-- FL_FERR_CTL.VALID of Flacon f cleared: the capture is armed again, and MORE clears with it (R240). -/
def State.flFerrClear (s : State) (f : Nat) : State :=
  (s.set0 (Reg.FL_FERR_CTL f) Fld.FL_FERR_CTL.VALID).set0 (Reg.FL_FERR_CTL f) Fld.FL_FERR_CTL.MORE

/-- FL_VIOL_CTL.VALID of Flacon f cleared: the latch is armed again (R239). -/
def State.flViolClear (s : State) (f : Nat) : State := s.set0 (Reg.FL_VIOL_CTL f) Fld.FL_VIOL_CTL.VALID

/-- FL_MIRROR_CTL written: a change of SIZE_LOG2 resets PTR (R410). -/
def State.mirrorCtl (s : State) (f : Nat) (en size : Nat) : State :=
  let c := Reg.FL_MIRROR_CTL f
  let s1 := (s.wr c Fld.FL_MIRROR_CTL.EN en).wr c Fld.FL_MIRROR_CTL.SIZE_LOG2 size
  if s.rd c Fld.FL_MIRROR_CTL.SIZE_LOG2 = size then s1 else s1.wr (Reg.FL_MIRROR_PTR f) Fld.FL_MIRROR_PTR.OFFSET 0

/-- Writes of Flacon f's registers. -/
def State.writeFl (s : State) (r : RegRow) (f o a : Nat) (w : Word) : State :=
  match o with
  | 0x30 =>
    let s1 := s.storeReg r a w
    if getFld w Fld.FL_FAULT.CLEAR = 1 then (s1.flFaultClear f).2 else s1
  | 0x120 => if getFld w Fld.FL_VIOL_CTL.VALID = 1 then s.flViolClear f else s
  | 0x160 => if getFld w Fld.FL_FERR_CTL.VALID = 1 then s.flFerrClear f else s
  | 0x508 => s.mirrorCtl f (getFld w Fld.FL_MIRROR_CTL.EN) (getFld w Fld.FL_MIRROR_CTL.SIZE_LOG2)
  | _ => s.storeReg r a w

/-- Writes of the fault collector's registers. -/
def State.writeFc (s : State) (r : RegRow) (o a : Nat) (w : Word) : State :=
  match o with
  | 0x10 => if getFld w Fld.FC_ALERT.PENDING = 1 then s.clearAlert else s
  | 0x120 => if getFld w Fld.FC_FERR_CTL.VALID = 1 then s.clearFerr else s
  | 0x300 => s.injectFault w.toNat
  | 0x408 => s.logAck (getFld w Fld.FC_LOG_ACK.N)
  | _ =>
    if 0x1000 ≤ o ∧ o < 0x10A0 then s.clearPend ((o - 0x1000) / 4) (w.toNat % 2 ^ 32)
    else if 0x1100 ≤ o ∧ o < 0x11A0 then s.clearRail ((o - 0x1100) / 4) (w.toNat % 2 ^ 32)
    else s.storeReg r a w

/-- Writes of the freeze registers: ABORT before START. -/
def State.writeFz (s : State) (r : RegRow) (o a : Nat) (w : Word) : State :=
  match o with
  | 0x0 => s.freezeWrite w.toNat
  | 0x100 =>
    let s1 := s.storeReg r a w
    let s2 := if getFld w Fld.FZ_CAP_CTL.ABORT = 1 then s1.captureAbort else s1
    if getFld w Fld.FZ_CAP_CTL.START = 1 then s2.captureStart (getFld w Fld.FZ_CAP_CTL.SEG) else s2
  | _ => s.storeReg r a w

/-- Writes of Sillage quadrant k's registers: a filter written so is no longer one that a command set (R407). -/
def State.writeSl (s : State) (r : RegRow) (k o a : Nat) (w : Word) : State :=
  match o with
  | 0x0 =>
    let s1 := s.storeReg r a w
    if getFld w Fld.SL_CTL.FLUSH = 1 then s1.silFlush k else s1
  | 0x10 => s.silAck k (getFld w Fld.SL_ACK.N)
  | _ => if 0x100 ≤ o then (s.storeReg r a w).set0 (Reg.SL_CTL k) Fld.SL_CTL.CMD_SET else s.storeReg r a w

/-- Writes of the arbiter set of an instance. -/
def State.writeArb (s : State) (r : RegRow) (i : ArbInst) (o a : Nat) (w : Word) : State :=
  match o with
  | 0x800 =>
    let s1 := if getFld w Fld.ARB_CTL.RESYNC = 1 then s.arbResync i else s
    if getFld w Fld.ARB_CTL.CLR_STATS = 1 then s1.arbClear i else s1
  | _ =>
    if 0x900 ≤ o ∧ o < 0xB00 then s.arbPrio i ((o - 0x900) / 4) (getFld w Fld.ARB_PRIO.BASE) else s.storeReg r a w

/-- Writes of block CHIP. -/
def State.writeChip (s : State) (r : RegRow) (o a : Nat) (w : Word) : State :=
  match o with
  | 0x14 => s.modeReq (getFld w Fld.CHIP_MODE_REQ.TARGET)
  | 0x1C => s.chipReset (getFld w Fld.CHIP_RESET.KEY)
  | 0x38 => s.correctTime (timeDelta (w.toNat % 2 ^ 32))
  | _ => s.storeReg r a w

/-- A write of a whole register takes effect (R8, and the effects its fields name).  mbx: what MBX_DB.GO does. -/
def State.writeReg (s : State) (mbx : State → State) (r : RegRow) (a : Nat) (w : Word) : State :=
  match locateBlock a with
  | none => s
  | some (b, base) =>
    let o := a - base
    match arbInstAt b base o with
    | some i => s.writeArb r i o a w
    | none =>
      match b with
      | .chip => s.writeChip r o a w
      | .fc => s.writeFc r o a w
      | .fz => s.writeFz r o a w
      | .pt =>
        (s.storeReg r a w).writePt ((base - 0x1000000) / 0x10000 * 2 + (base % 0x10000 - 0x4000) / 0x2000) o w
      | .ln => s.writeLn r ((base - 0x1000000) / 0x10000 * 8 + (base % 0x10000 - 0x8000) / 0x400) o a w
      | .xb =>
        let n := (base - 0x2000000) / 0x10000
        if o = 0 then (if getFld w Fld.XB_CTL.FENCE_REQ = 1 then s.planeFenceReq n else s.planeUnfenceReq n)
        else s.storeReg r a w
      | .hs =>
        let n := (base - 0x3000000) / 0x10000
        let s1 := s.storeReg r a w
        if o = 0x200 ∧ getFld w Fld.HS_QUERY_ADDR.GO = 1 then s1.dirQuery n else s1
      | .fl => s.writeFl r ((base - 0x4000000) / 0x1000) o a w
      | .sl => s.writeSl r ((base - 0x5800000) / 0x10000) o a w
      | .ks =>
        if o = 0x140 then
          let s1 := if getFld w Fld.KS_LOSS.LOST = 1 then s.lossClear else s
          if getFld w Fld.KS_LOSS.AO_FRESH = 1 then s1.set0 a Fld.KS_LOSS.AO_FRESH else s1
        else s.storeReg r a w
      | .mg =>
        let s1 := s.storeReg r a w
        if o = 0x8 ∧ getFld w Fld.MG_PRESENCE.CLOSE = 1 then s1.closeWindow else s1
      | .mbx => if o = 0 then (if getFld w Fld.MBX_DB.GO = 1 then mbx s else s) else s.storeReg r a w
      | .ef =>
        let q := (base - 0x100000000) / 0x10000
        if 0x1000 ≤ o ∧ o % 0x40 = 0 then s.doorbell q ((o - 0x1000) / 0x40) true w else s.storeReg r a w
      | _ => s.storeReg r a w

/-- The path's hold set, or gone. -/
def State.setHold (s : State) (p : AccessPath) (h : Option HeldHalf) : State :=
  { s with io := { s.io with hold := match h with
    | some x => tabPut s.io.hold p.key x
    | none => tabDel s.io.hold p.key } }

/-- A torn write: it changes nothing and is recorded, but not on an engine function (R5). -/
def State.torn (s : State) (p : AccessPath) (a : Nat) : State :=
  let code : Option Nat := match p with
    | .bar0 => some 0
    | .mgmt k => some (1 + k.val)
    | .engine _ | .jtag => none
  match code with
  | none => s
  | some c =>
    ((s.set1 Reg.CHIP_ACCESS_ERR Fld.CHIP_ACCESS_ERR.TORN).wr Reg.CHIP_ACCESS_ERR Fld.CHIP_ACCESS_ERR.PATH c).wr
      Reg.CHIP_ACCESS_ADDR Fld.CHIP_ACCESS_ADDR.OFFSET a

/-- A register whose write must come whole in one 64-bit access: a doorbell (R183). -/
def isDoorbell (a : Nat) : Bool :=
  decide (0x100000000 ≤ a) && decide (a < 0x100800000) && decide (0x1000 ≤ a % 0x10000) && decide (a % 0x10000 < 0x2000)
    && a % 0x40 / 8 == 0

/-- The request buffer of BAR2 with bytes written at an offset; what lies before them and was never written is 0
(assumption 3). -/
def State.bufferWrite (s : State) (o : Nat) (l : List Byte) : State :=
  let b := s.mgmt.reqBuf
  let pre := b.take o ++ List.replicate (o - b.length) 0
  { s with mgmt := { s.mgmt with reqBuf := pre ++ l ++ b.drop (o + l.length) } }

/-- The model's key of the request buffer and the response buffer of BAR2 (R417, assumption 4). -/
def inReqBuf (a : Nat) : Bool := decide (0x200010000 ≤ a) && decide (a < 0x200020000)
def inRespBuf (a : Nat) : Bool := decide (0x200020000 ≤ a) && decide (a < 0x200030000)

/-- A 32-bit write of the word at an address, where the path may write. -/
def State.write32 (s : State) (mbx : State → State) (p : AccessPath) (a x : Nat) : State :=
  if inReqBuf a then (s.breakHoldAt p a).bufferWrite (a - 0x200010000) (bytesOf 4 x)
  else if inMsixTab a then (s.breakHoldAt p a).putMsixWord a x else
  match wordAt a with
  | none => s.breakHoldAt p a
  | some (r, ra, upper) =>
    if !r.wide then (s.breakHoldAt p a).writeReg mbx r ra (BitVec.ofNat 64 (x % 2 ^ 32))
    else if isDoorbell ra then (s.breakHoldAt p a).doorbell ((ra - 0x100000000) / 0x10000) ((ra % 0x10000 - 0x1000) / 0x40) false 0
    else if !upper then s.setHold p (some { addr := ra, low := x % 2 ^ 32 })
    else
      match tabFind s.io.hold p.key with
      | none => s.torn p ra
      | some h =>
        if h.addr = ra ∧ !h.broken then
          (s.setHold p none).writeReg mbx r ra (BitVec.ofNat 64 (h.low + x % 2 ^ 32 * 2 ^ 32))
        else if h.addr = ra then (s.setHold p none).torn p ra
        else (s.breakHoldAt p a).torn p ra

/-- A 64-bit write: one 64-bit register whole, without the hold; otherwise the two words. -/
def State.write64 (s : State) (mbx : State → State) (p : AccessPath) (a : Nat) (w : Word) : State :=
  if inReqBuf a then (s.breakHoldAt p a).bufferWrite (a - 0x200010000) (bytesOf 8 w.toNat) else
  match rowAt a with
  | some r =>
    if r.wide then (s.breakHoldAt p a).writeReg mbx r a w
    else (s.write32 mbx p a (w.toNat % 2 ^ 32)).write32 mbx p (a + 4) (w.toNat / 2 ^ 32)
  | none => (s.write32 mbx p a (w.toNat % 2 ^ 32)).write32 mbx p (a + 4) (w.toNat / 2 ^ 32)

/-! ### Accesses -/

/-- Where a path's address lies in the model's one address space: BAR0, BAR2 of MPORT, the BAR0 of an engine function. -/
def fullAddr (p : AccessPath) (a : Nat) : Option Nat :=
  match p with
  | .bar0 => if a < bar0Size ∨ (0x200000000 ≤ a ∧ a < 0x200040000) then some a else none
  | .mgmt _ | .jtag => if a < bar0Size then some a else none
  | .engine q => if a < 0x10000 then some (0x100000000 + q.val * 0x10000 + a) else none

/-- The checks of R4 and R36: the address of an access that goes on, or how it completes. -/
def checkAccess (p : AccessPath) (a size : Nat) : Except Completion Nat :=
  if size ≠ 4 ∧ size ≠ 8 then .error .completerAbort
  else if a % size ≠ 0 then .error .completerAbort
  else
    match fullAddr p a with
    | none => .error .unsupportedRequest
    | some x =>
      if x < bar0Size ∧ !inWindow x ∧ (locateBlock x).isNone then .error .unsupportedRequest else .ok x

/-- A path that reaches an address now: JTAG reaches the freeze registers, in every mode but OFF (R33, R401, R404). -/
def State.reachesAt (s : State) (p : AccessPath) (a : Nat) : Bool :=
  if p = .jtag then decide (0x200000 ≤ a) && decide (a < 0x400000) && s.md != .off else s.reaches p

/-- A read that reaches the registers: how it completes (R4, R5, R36), and the state after it. -/
def State.readAt (s : State) (p : AccessPath) (a size : Nat) : Completion × State :=
  match checkAccess p a size with
  | .error c => (c, s)
  | .ok x =>
    if inRespBuf x then
      (.success (BitVec.ofNat 64 (natOf ((s.mgmt.respBuf.drop (x - 0x200020000)).take size))), s)
    else if inReqBuf x then
      (.success (BitVec.ofNat 64 (natOf ((s.mgmt.reqBuf.drop (x - 0x200010000)).take size))), s)
    else
      let r := if size = 8 then s.read64 p x else s.read32 p x
      (.success (BitVec.ofNat 64 r.1), r.2)

/-- A read by a path. -/
def State.read (s : State) (p : AccessPath) (a size : Nat) : Completion × State :=
  if s.reachesAt p a then s.readAt p a size else (.noResponse, s)

/-- A doorbell written with a size other than 4 or 8 bytes: ignored, and DB_ERR set (R183). -/
def State.doorbellSize (s : State) (p : AccessPath) (a size : Nat) : State :=
  match p, fullAddr p a with
  | .engine q, some x =>
    if size ≠ 4 ∧ size ≠ 8 ∧ isDoorbell x then s.doorbell q.val ((a - 0x1000) / 0x40) false 0 else s
  | _, _ => s

/-- A write that reaches the registers: how it completes (R4, R5, R9, R36, R414), and the state after it. -/
def State.writeAt (s : State) (mbx : State → State) (p : AccessPath) (a size : Nat) (w : Word) : Completion × State :=
  match checkAccess p a size with
  | .error c => (c, s.doorbellSize p a size)
  | .ok x =>
    let act (t : State) : State := if size = 8 then t.write64 mbx p x w else t.write32 mbx p x (w.toNat % 2 ^ 32)
    (.success 0, if x < bar0Size ∧ p ≠ .jtag then s.ifWritable p act else act s)

/-- A write by a path. -/
def State.write (s : State) (mbx : State → State) (p : AccessPath) (a size : Nat) (w : Word) : Completion × State :=
  if s.reachesAt p a then s.writeAt mbx p a size w else (.noResponse, s)

end Sys2Proof.Machine
end

