-- ==== Sys2Proof/Machine/CertChain.lean ====
section
/-!
DEFINITION. Machine/CertChain.lean: the certificates in the flash (R434): their fields, and the chain.
-/
namespace Sys2Proof.Machine

/-- Bytes of one certificate. -/
def certSize : Nat := 3208

/-- A certificate. -/
structure Cert where
  magic : Nat
  version : Nat
  /-- 0 root, 1 intermediate, 2 device identity. -/
  kind : Nat
  serial : Nat
  notBefore : Nat
  subject : List Byte
  subjectKey : List Byte
  issuer : Line
  signature : List Byte

/-- The fields of a certificate's bytes. -/
def certOf (b : List Byte) : Cert :=
  { magic := leAt b 0 4, version := leAt b 4 2, kind := leAt b 6 2, serial := leAt b 8 8, notBefore := leAt b 16 8
    subject := (b.drop 24).take 40, subjectKey := (b.drop 64).take 1793
    issuer := BitVec.ofNat 512 (leAt b 1864 64), signature := (b.drop 1928).take 1280 }

/-- The bytes of certificate i, which follows those before it from the base of the chain. -/
def certBytes (m : List Host.Cell) (i : Nat) : List Byte := memRange m (certBase + certSize * i) certSize

/-- The chain has ended before or at certificate i: a MAGIC of all ones. -/
def certEnded (m : List Host.Cell) (i : Nat) : Bool :=
  (List.range (i + 1)).any fun k => leAt (memRange m (certBase + certSize * k) 4) 0 4 == 0xFFFFFFFF

/-- What a certificate's issuer has signed. -/
def certSigned (b : List Byte) : Line := shake256 (b.take 1928)

/-- A certificate whose form is that of R434: MAGIC, VERSION, padding, the part's serial in a device identity, its own key's
digest as the issuer of a root. -/
def certOk (b : List Byte) (serial : Nat) : Bool :=
  let c := certOf b
  c.magic == 0x54524354 && c.version == 1 && zeros b 1857 7 && (c.kind != 2 || c.serial == serial)
    && (c.kind != 0 || c.issuer == shake256 c.subjectKey)

end Sys2Proof.Machine
end

