-- ==== Sys2Proof/Machine/Notices.lean ====
section
/-!
DEFINITION. Machine/Notices.lean: the notices of the fence bus (R18) in the order of R20, and the management commands that
meet one at their block.
-/
namespace Sys2Proof.Machine

/-- The code of a notice (R18 Table 4). -/
def noticeCode : Notice → Nat
  | .fencePlane _ => 1
  | .fenceSlice _ => 2
  | .fenceTile _ => 3
  | .fenceFlacon _ => 4
  | .quarantine => 5
  | .unfencePlane _ => 6

/-- What a notice does in every block that it concerns; one already in effect changes nothing (R18, R20). -/
def State.applyNotice (s : State) (m : Notice) : State :=
  match m with
  | .fencePlane n => s.applyFencePlane n.val
  | .fenceSlice n => s.containSlice n.val
  | .fenceTile n => s.containTile n.val
  | .fenceFlacon f => (s.containFlacon f.val).abandonPorts fun p => p.flacon == f.val
  | .quarantine => (s.containAll.abandonPorts fun _ => true).stopTests
  | .unfencePlane n => s.applyUnfencePlane n.val

/-- The notices that wait on the bus with a code below k, in ascending code order (R20). -/
def State.noticesBelow (s : State) (k : Nat) : List Notice :=
  (List.range k).flatMap fun c => s.flt.notices.filter fun n => noticeCode n == c

/-- Notices taken off the bus and applied in turn. -/
def State.applyNotices (s : State) (l : List Notice) : State := l.foldl (fun t n => (t.takeNotice n).applyNotice n) s

/-- A notice reaches the domain managers: those of a lower code that wait with it are applied before it (R20).  DESIGN
CHOICE (log entry 75): the notices that wait on the bus together count as raised in one MCLK. -/
def State.noticeArrives (s : State) (n : Notice) : State := s.applyNotices (s.noticesBelow (noticeCode n) ++ [n])

/-! ### Commands at a fenced block -/

/-- The ports that a command acts on. -/
def State.cmdPorts (s : State) : MgmtCmd → List Nat
  | .bind _ u d _ _ => [u.toNat, d.toNat]
  | .unbind u _ _ => [u.toNat]
  | .powerOn n | .powerOff n | .slotFaultClear n | .setLimit n _ => (s.slotPort n.toNat).toList
  | .setWeight q _ _ | .setRate q _ _ => [q.toNat]
  | .retrain q => [q.toNat]
  | .laneDisable l _ => ((s.lanePort l.toNat).map (·.port)).toList
  | _ => []

/-- The Flacons of a command's ports, and the one it names itself. -/
def State.cmdFlacons (s : State) (c : MgmtCmd) : List Nat :=
  ((s.cmdPorts c).filterMap s.portFlacon) ++
    match c with
    | .bind f _ _ _ _ | .setWeight _ f _ | .setRate _ f _ | .regionBatch f _ _ | .mirrorSet f _ _ => [f.toNat]
    | .decantStart a b _ => s.acc.fl.filterMap fun e =>
        if e.2.cur.decoders.any fun d => d.index == a.toNat || d.index == b.toNat then some e.1 else none
    | .decantCancel j | .decantRate j _ => ((s.job j.toNat).map (·.flacon)).toList
    | _ => []

/-- The block instance that a register write acts on, in the terms of the notices: tile, slice, plane or Flacon. -/
def writeTarget (a : Nat) : Option Notice :=
  match locateBlock a with
  | some (.tl, _) | some (.pt, _) | some (.ln, _) => some (.fenceTile (Fin.ofNat 64 ((a - 0x1000000) / 0x10000)))
  | some (.xb, _) => some (.fencePlane (Fin.ofNat 8 ((a - 0x2000000) / 0x10000)))
  | some (.hs, _) => some (.fenceSlice (Fin.ofNat 64 ((a - 0x3000000) / 0x10000)))
  | some (.fl, _) => some (.fenceFlacon (Fin.ofNat 32 ((a - 0x4000000) / 0x1000)))
  | _ => none

/-- A command acts on a block that a fence notice fences. -/
def State.meets (s : State) (c : MgmtCmd) (n : Notice) : Bool :=
  let target : Option Notice := match c with | .writeReg a _ _ => writeTarget a.toNat | _ => none
  match n with
  | .fenceTile k => (s.cmdPorts c).any (fun q => tileOf q == k.val) || target == some n
  | .fenceFlacon f => (s.cmdFlacons c).contains f.val || target == some n
  | .quarantine => !(s.cmdPorts c).isEmpty || !(s.cmdFlacons c).isEmpty || target.isSome
  | .fencePlane _ | .fenceSlice _ => target == some n
  | .unfencePlane _ => false

/-- The fence notices that wait for a block that a command acts on: the command and the notice reach it in one MCLK
(R20; log entry 75). -/
def State.fencesMet (s : State) (c : MgmtCmd) : List Notice := s.flt.notices.filter (s.meets c)

/-- R20: the fences are applied, those of lower codes first, and the command leaves its block unchanged. -/
def State.fenceFirst (s : State) (l : List Notice) : State :=
  l.foldl (fun t n => if t.flt.notices.contains n then t.noticeArrives n else t) s

end Sys2Proof.Machine
end

