-- ==== Sys2Proof/Machine/Mailbox.lean ====
section
/-!
DEFINITION. Machine/Mailbox.lean: the management commands of R421: who may send them (R57, R423, R424, R428), what each
does, and how it is answered (R417 to R420).
-/
namespace Sys2Proof.Machine

/-- How a command ends: its status, DETAIL and body (R418). -/
structure Reply where
  status : Nat := St.OK
  detail : Nat := 0
  body : List Byte := []

/-- The opcodes of Table 3. -/
def mgmtOpcode : MgmtCmd → Nat
  | .identify => 0x0001 | .readReg .. => 0x0002 | .writeReg .. => 0x0003 | .readLog .. => 0x0004
  | .faultClear .. => 0x0010 | .bind .. => 0x0020 | .unbind .. => 0x0021
  | .powerOn .. => 0x0030 | .powerOff .. => 0x0031 | .slotFaultClear .. => 0x0032 | .setLimit .. => 0x0033
  | .setWeight .. => 0x0040 | .setRate .. => 0x0041 | .regionBatch .. => 0x0050
  | .decantStart .. => 0x0060 | .decantCancel .. => 0x0061 | .decantRate .. => 0x0062
  | .traceSet .. => 0x0070 | .traceRead .. => 0x0071 | .traceFlush .. => 0x0072 | .mirrorSet .. => 0x0073
  | .retrain .. => 0x0080 | .laneDisable .. => 0x0081 | .modeReq .. => 0x0082
  | .formulaStage .. => 0x0090 | .fwStage .. => 0x0091 | .attest .. => 0x00B0 | .getCert .. => 0x00B1
  | .formulaCommit .. => 0x0100 | .fwCommit .. => 0x0101 | .ownerKey .. => 0x0102 | .keepErase => 0x0103
  | .fuseProgram .. => 0x0104 | .sealRearm => 0x0110 | .unknown o => o.toNat

/-! ### Flacons touched (R423) -/

def everyFlacon : Nat := 2 ^ 32 - 1

def flMask (f : Nat) : Nat := if f < 32 then 2 ^ f else everyFlacon

/-- The Flacon of a port: every Flacon for a shared port, and where no record names the port. -/
def State.portMask (s : State) (q : Nat) : Nat :=
  match s.portFlacon q with
  | some f => flMask f
  | none => everyFlacon

def State.slotMask (s : State) (n : Nat) : Nat :=
  match s.slotPort n with
  | some q => s.portMask q
  | none => everyFlacon

/-- The Flacon of a decoder, by index over every Flacon's current decoders. -/
def State.decoderFlacon (s : State) (i : Nat) : Option Nat :=
  s.acc.fl.findSome? fun e => if e.2.cur.decoders.any fun d => d.index == i then some e.1 else none

def State.decoderMask (s : State) (i : Nat) : Nat :=
  match s.decoderFlacon i with
  | some f => flMask f
  | none => everyFlacon

def State.jobMask (s : State) (j : Nat) : Nat :=
  match s.job j with
  | some x => flMask x.flacon
  | none => everyFlacon

/-- The Flacons that a read of a BAR0 offset touches. -/
def State.offsetMask (s : State) (a : Nat) : Nat :=
  match locateBlock a with
  | some (.pt, b) => s.portMask ((b - 0x1000000) / 0x10000 * 2 + (b % 0x10000 - 0x4000) / 0x2000)
  | some (.spc, b) => s.slotMask ((b - 0x410000) / 0x100)
  | some (.fl, b) => flMask ((b - 0x4000000) / 0x1000)
  | _ => everyFlacon

/-- The Flacons in both filters of a quadrant, where a command set them; otherwise every Flacon (R407). -/
def State.traceMask (s : State) (k : Nat) : Nat :=
  if s.on (Reg.SL_CTL k) Fld.SL_CTL.CMD_SET then
    s.rd (Reg.SL_FILT_FL k 0) Fld.SL_FILT_FL.FLACONS ||| s.rd (Reg.SL_FILT_FL k 1) Fld.SL_FILT_FL.FLACONS
  else everyFlacon

/-- The Flacons a FAULT_CLEAR needs (R392). -/
def State.clearMask (s : State) (target index : Nat) : Nat :=
  if target = 0 then
    let x := s.srcOf index
    if x.nofl then everyFlacon else x.flacons.toNat
  else if target ≤ 3 then flMask index
  else everyFlacon

/-- The command group of a command and the Flacons it touches (R421, R423); none for an ungrouped, presence-gated or
owner-signed command, and for WRITE_REG, which R414 rules. -/
def State.groupOf (s : State) : MgmtCmd → Option (Nat × Nat)
  | .readReg a _ => some (0, s.offsetMask a.toNat)
  | .readLog _ => some (0, everyFlacon)
  | .faultClear t i => some (7, s.clearMask t.toNat i.toNat)
  | .bind f u d _ _ => some (1, flMask f.toNat ||| s.portMask u.toNat ||| s.portMask d.toNat)
  | .unbind u _ _ => some (1, s.portMask u.toNat)
  | .powerOn n => some (2, s.slotMask n.toNat)
  | .powerOff n => some (2, s.slotMask n.toNat)
  | .slotFaultClear n => some (2, s.slotMask n.toNat)
  | .setLimit n _ => some (2, s.slotMask n.toNat)
  | .setWeight q f _ => some (3, flMask f.toNat ||| s.portMask q.toNat)
  | .setRate q f _ => some (3, flMask f.toNat ||| s.portMask q.toNat)
  | .regionBatch f _ _ => some (4, flMask f.toNat)
  | .decantStart a b _ => some (5, s.decoderMask a.toNat ||| s.decoderMask b.toNat)
  | .decantCancel j => some (5, s.jobMask j.toNat)
  | .decantRate j _ => some (5, s.jobMask j.toNat)
  | .traceSet _ _ _ f g => some (6, f.flacons.toNat ||| g.flacons.toNat)
  | .traceRead k => some (0, s.traceMask k.toNat)
  | .traceFlush k => some (6, s.traceMask k.toNat)
  | .mirrorSet f _ _ => some (6, flMask f.toNat)
  | .retrain q => some (8, s.portMask q.toNat)
  | .laneDisable _ _ => some (8, everyFlacon)
  | .modeReq _ => some (8, everyFlacon)
  | .formulaStage .. => some (9, everyFlacon)
  | .fwStage .. => some (9, everyFlacon)
  | .identify | .writeReg .. | .attest _ | .getCert _ | .formulaCommit .. | .fwCommit _ | .ownerKey .. | .keepErase
  | .fuseProgram .. | .sealRearm | .unknown _ => none

/-- Commands refused with MODE while no Formula has been applied (R424). -/
def needsFormula : MgmtCmd → Bool
  | .bind .. | .unbind .. | .powerOn _ | .powerOff _ | .slotFaultClear _ | .setLimit .. | .setWeight .. | .setRate ..
  | .regionBatch .. | .decantStart .. | .decantCancel _ | .decantRate .. | .traceSet .. | .mirrorSet .. | .retrain _
  | .laneDisable .. => true
  | .faultClear t _ => decide (1 ≤ t.toNat) && decide (t.toNat ≤ 3)
  | .identify | .readReg .. | .writeReg .. | .readLog _ | .traceRead _ | .traceFlush _ | .modeReq _ | .formulaStage ..
  | .fwStage .. | .attest _ | .getCert _ | .formulaCommit .. | .fwCommit _ | .ownerKey .. | .keepErase | .fuseProgram ..
  | .sealRearm | .unknown _ => false

/-- Commands the boot ROM mailbox accepts in BOOT recovery (R428, and OWNER_KEY by R437). -/
def recoveryAccepts : MgmtCmd → Bool
  | .identify | .readReg .. | .formulaStage .. | .fwStage .. | .fwCommit _ | .fuseProgram .. | .keepErase | .getCert _
  | .ownerKey .. => true
  | .formulaCommit _ m => m == 1
  | .writeReg .. | .readLog _ | .faultClear .. | .bind .. | .unbind .. | .powerOn _ | .powerOff _ | .slotFaultClear _
  | .setLimit .. | .setWeight .. | .setRate .. | .regionBatch .. | .decantStart .. | .decantCancel _ | .decantRate ..
  | .traceSet .. | .traceRead _ | .traceFlush _ | .mirrorSet .. | .retrain _ | .laneDisable .. | .modeReq _ | .attest _
  | .sealRearm | .unknown _ => false

/-- Commands answered when they reach MGMT_EID from a fabric port or a host (R416). -/
def remoteAnswers : MgmtCmd → Bool
  | .identify | .getCert _ | .attest _ => true
  | _ => false

/-- Commands gated by presence (R437). -/
def gatedCmd : MgmtCmd → Bool
  | .formulaCommit .. | .fwCommit _ | .ownerKey .. | .keepErase | .fuseProgram .. => true
  | _ => false

/-- An opcode that Table 3 does not list. -/
def isUnknown : MgmtCmd → Bool
  | .unknown _ => true
  | _ => false

/-! ### What each command does -/

def bad (s : State) : Reply × State := ({ status := St.BAD_FIELD }, s)

/-- A status, and the state it leaves. -/
def replied (r : Nat × State) : Reply × State := ({ status := r.1 }, r.2)

def ok (s : State) : Reply × State := ({}, s)

/-- IDENTIFY: the registers named, in their order, each in its own width. -/
def State.identifyBody (s : State) : List Byte :=
  bytesOf 4 (s.shown Reg.CHIP_ID).toNat ++ bytesOf 8 (s.shown Reg.CHIP_SERIAL).toNat ++ bytesOf 4 (s.shown Reg.CHIP_MODE).toNat
    ++ bytesOf 4 (s.shown Reg.MG_LIFECYCLE).toNat ++ bytesOf 4 ((s.shown Reg.MG_FML_STATUS).toNat / 2 ^ 32)
    ++ bytesOf 8 (s.shown Reg.MG_FW_STATUS).toNat

/-- READ_REG: a completion other than success has no status of its own. -/
def State.cmdReadReg (s : State) (p : Fin 4) (a size : Nat) : Reply × State :=
  match s.readAt (.mgmt p) a size with
  | (.success v, t) => ({ body := bytesOf size v.toNat }, t)
  | (_, t) => bad t

/-- WRITE_REG: one that R414 refuses completes normally. -/
def State.cmdWriteReg (s : State) (p : Fin 4) (a size : Nat) (v : Word) : Reply × State :=
  match s.writeAt id (.mgmt p) a size v with
  | (.success _, t) => ok t
  | (_, t) => bad t

/-- READ_LOG. -/
def State.cmdReadLog (s : State) (count : Nat) : Reply × State :=
  let n := min (min count 4094) s.flt.log.length
  let l := s.flt.log.take n
  let t := s.logAck n
  ({ detail := n + t.flt.log.length * 2 ^ 16, body := (l.flatMap LogEntry.words).flatMap fun w => bytesOf 8 w.toNat }, t)

/-- FAULT_CLEAR, of what the sender may clear (R392): a refused FL_FAULT.CLEAR is told by its cause. -/
def State.cmdFaultClear (s : State) (target index : Nat) : Reply × State :=
  match target with
  | 0 => if (defaultSev index).isSome then ok (s.clearSource index) else bad s
  | 1 =>
    if 32 ≤ index then bad s else
    match s.flFaultClear index with
    | (true, t) => ok t
    | (false, t) => ({ status := if s.md = .quarantine then St.MODE else St.BUSY }, t)
  | 2 => if index < 32 then ok (s.flFerrClear index) else bad s
  | 3 => if index < 32 then ok (s.flViolClear index) else bad s
  | 4 => ok s.clearFerr
  | 5 => ok s.clearAlert
  | _ => bad s

/-- BIND. -/
def State.cmdBind (s : State) (f u d ld v : Nat) : Reply × State :=
  if 32 ≤ f ∨ 128 ≤ u ∨ 128 ≤ d then bad s
  else if s.inMode [.serve, .recompose] ∧ s.portFlacon u ≠ some f then ({ status := St.OUT_OF_FORMULA }, s)
  else replied (s.bind { flacon := f, usp := u, dsp := d, ld := ld, vppb := v })

/-- UNBIND. -/
def State.cmdUnbind (s : State) (u v opt : Nat) : Reply × State :=
  if 128 ≤ u ∨ 2 < opt then bad s else replied (s.unbind u v opt)

/-- A slot command: on ports with HOTPLUG only (R60). -/
def State.onSlot (s : State) (n : Nat) (k : PortRec → Nat × State) : Reply × State :=
  if 32 ≤ n then bad s else
  match s.slotMachine n with
  | none => ({ status := St.OUT_OF_FORMULA }, s)
  | some p => if p.hotplug then replied (k p) else ({ status := St.OUT_OF_FORMULA }, s)

/-- SET_LIMIT (R355). -/
def State.setLimit (s : State) (n ma : Nat) : Nat × State :=
  if s.limitOk n ma then (St.OK, s.wr (Reg.SPC_LIMIT n) Fld.SPC_LIMIT.LIMIT_MA ma) else (St.OUT_OF_FORMULA, s)

/-- Whether a (port, Flacon) pair exists under the Formula in force: a shared port, or the Flacon's own. -/
def State.pairOk (s : State) (q f : Nat) : Bool :=
  match s.portRec q with
  | some p => (s.flaconRec f).isSome && (p.flacon == 0xFF || p.flacon == f)
  | none => false

/-- SET_WEIGHT (R60, R111). -/
def State.cmdSetWeight (s : State) (q f w : Nat) : Reply × State :=
  if 128 ≤ q ∨ 32 ≤ f then bad s
  else
    let e := tabGet (s.schedPort q).wfq f {}
    if !s.pairOk q f ∨ w < e.weightMin ∨ e.weightMax < w then ({ status := St.OUT_OF_FORMULA }, s)
    else ok (s.modSched q fun (x : SchedPort) => { x with wfq := tabPut x.wfq f { e with weight := w } })

/-- SET_RATE (R60, R115): it applies at the shaper's next refill. -/
def State.cmdSetRate (s : State) (q f mbps : Nat) : Reply × State :=
  if 128 ≤ q ∨ 32 ≤ f then bad s
  else
    match tabFind (s.schedPort q).shapers f with
    | none => ({ status := St.OUT_OF_FORMULA }, s)
    | some e =>
      if mbps < 10 ∨ e.maxRate < mbps then ({ status := St.OUT_OF_FORMULA }, s)
      else ok (s.modSched q fun (x : SchedPort) => { x with shapers := tabPut x.shapers f { e with pendRate := some mbps } })

/-- Whether an entry of a REGION_BATCH is well formed (R422). -/
def entryOk (f : BitVec 8) (e : RegionEntry) : Bool :=
  decide (1 ≤ e.op.toNat) && decide (e.op.toNat ≤ 3) && e.flacon == f && decide (e.ns.toNat ≤ 1)
    && (e.op != 3 || (e.ns == 0 && e.perms == 0 && e.start == 0 && e.stop == 0))

def entryOp (e : RegionEntry) : RegionOp :=
  { kind := if e.op = 1 then .insert else if e.op = 2 then .change else .remove
    index := e.index.toNat, ns := e.ns != 0, perms := e.perms.toNat, start := e.start.toNat, stop := e.stop.toNat }

/-- REGION_BATCH (R227, R422): DETAIL numbers the operations from 1; 0 stands for the whole command. -/
def State.cmdRegionBatch (s : State) (f count : BitVec 8) (l : List RegionEntry) : Reply × State :=
  if l.length ≠ count.toNat then ({ status := St.BAD_LENGTH }, s)
  else if count = 0 ∨ 16 < count.toNat ∨ 32 ≤ f.toNat then bad s
  else
    match l.findIdx? fun e => !entryOk f e with
    | some i => ({ status := St.BAD_FIELD, detail := i + 1 }, s)
    | none =>
      let r := s.regionBatch f.toNat (l.map entryOp)
      ({ status := regionCode r.1, detail := r.2.1 }, r.2.2)

/-- DECANT_START: DETAIL gives the job. -/
def State.cmdDecantStart (s : State) (a b rate : Nat) : Reply × State :=
  let r := s.decantStart ((s.decoderFlacon a).getD 32) a b rate
  ({ status := r.1, detail := r.2.1 }, r.2.2)

/-- The registers of one filter written (R407). -/
def State.putFilter (s : State) (k n : Nat) (f : SilFilter) : State :=
  (((((s.wrB (Reg.SL_FILT_CTL k n) Fld.SL_FILT_CTL.EN f.en).wr (Reg.SL_FILT_CTL k n) Fld.SL_FILT_CTL.CLASSES f.classes.toNat).setReg
    (Reg.SL_FILT_PORTS k n) (f.ports.setWidth 64)).setReg (Reg.SL_FILT_FL k n) (f.flacons.setWidth 64)).setReg
    (Reg.SL_FILT_LO k n) (f.lo.setWidth 64)).setReg (Reg.SL_FILT_HI k n) (f.hi.setWidth 64)

/-- TRACE_SET: the quadrant's control and filters, and CMD_SET. -/
def State.cmdTraceSet (s : State) (k : Nat) (en egress : Bool) (f g : SilFilter) : Reply × State :=
  if 4 ≤ k then bad s else
  ok (((((s.wrB (Reg.SL_CTL k) Fld.SL_CTL.EN en).wrB (Reg.SL_CTL k) Fld.SL_CTL.POINT egress).putFilter k 0 f).putFilter k 1 g).set1
    (Reg.SL_CTL k) Fld.SL_CTL.CMD_SET)

/-- TRACE_READ: the oldest entries, as many as a response holds; none is consumed. -/
def State.cmdTraceRead (s : State) (k : Nat) : Reply × State :=
  if 4 ≤ k then bad s else
  let l := (s.silFifo k).entries.take 2047
  ({ detail := l.length, body := (l.flatMap SilEntry.words).flatMap fun w => bytesOf 8 w.toNat }, s)

/-- TRACE_FLUSH. -/
def State.cmdTraceFlush (s : State) (k : Nat) : Reply × State := if 4 ≤ k then bad s else ok (s.silFlush k)

/-- MIRROR_SET: FL_MIRROR_BASE and FL_MIRROR_CTL. -/
def State.cmdMirrorSet (s : State) (f : Nat) (base : Word) (ctl : Nat) : Reply × State :=
  if 32 ≤ f ∨ 2 ^ 52 ≤ base.toNat ∨ 64 ≤ ctl then bad s
  else ok ((s.wr (Reg.FL_MIRROR_BASE f) Fld.FL_MIRROR_BASE.BASE base.toNat).mirrorCtl f (ctl % 2) (ctl / 2))

/-- RETRAIN: refused where no port exists. -/
def State.cmdRetrain (s : State) (q : Nat) : Reply × State :=
  if 128 ≤ q then bad s else
  match s.portRec q with
  | some p => ok (s.takeDown p true)
  | none => ({ status := St.MODE }, s)

/-- LANE_DISABLE: LN_CTL.DISABLE. -/
def State.cmdLaneDisable (s : State) (l v : Nat) : Reply × State :=
  if 512 ≤ l ∨ 1 < v then bad s
  else if s.on (Reg.LN_CTL l) Fld.LN_CTL.DISABLE = decide (v = 1) then ok s
  else ok (s.laneDisable l (decide (v = 1)))

/-- The sectors of 64 KiB that a span of a slot covers. -/
def sectorsOf (offset len : Nat) : List Nat :=
  (List.range ((offset + len - 1) / sectorSize - offset / sectorSize + 1)).map (offset / sectorSize + ·)

/-- FORMULA_STAGE and FW_STAGE (R421): the staging's sectors erased as first written into, the data programmed and read
back.  key: 0, 1 the Formula slots, 2, 3 the firmware slots. -/
def State.stage? (s : State) (fw : Bool) (slot offset : Nat) (data : List Byte) : Reply × State :=
  let d := s.directory
  let size := if fw then fwSlotSize else fmlSlotSize
  let base := if fw then fwSlotBase slot else fmlSlotBase slot
  let key := if fw then 2 + slot else slot
  if data.length = 0 ∨ 65512 < data.length then ({ status := St.BAD_LENGTH }, s)
  else if 1 < slot ∨ offset % 256 ≠ 0 ∨ size < offset + data.length then bad s
  else if (if fw then d.fwActive else d.fmlActive) = slot then ({ status := St.IN_USE }, s)
  else if s.mgmt.flashAbsent then ({ status := St.FLASH_ERROR }, s)
  else
    let s1 := if fw then (if d.fwPendingValid && d.fwPending == slot then s.putDirectory fun x => { x with fwPendingValid := false } else s)
      else if d.fmlPendingValid && d.fmlPending == slot then s.putDirectory fun x => { x with fmlPendingValid := false } else s
    let done : List Nat := if offset = 0 then [] else (tabGet s1.mgmt.staging key {}).sectors
    let new := (sectorsOf offset data.length).filter fun x => !done.contains x
    let m1 := new.foldl (fun m x => memErase m (base + x * sectorSize) sectorSize) s1.mgmt.flash
    let m2 := memProgram m1 (base + offset) data
    let s2 : State := { s1 with mgmt := { s1.mgmt with
      flash := m2, staging := tabPut s1.mgmt.staging key { sectors := done ++ new } } }
    if memRange m2 (base + offset) data.length = data then ok s2 else ({ status := St.FLASH_ERROR }, s2)

/-- A commit of a slot has been taken: its staging is over (R421). -/
def State.endStaging (s : State) (key : Nat) : State := { s with mgmt := { s.mgmt with staging := tabDel s.mgmt.staging key } }

/-- FORMULA_COMMIT (R61, R437). -/
def State.cmdFormulaCommit (s : State) (slot mode : Nat) (v : MgmtVerdict) : Reply × State :=
  if 1 < slot ∨ 1 < mode then bad s
  else
    let s1 := s.endStaging slot
    let r := if mode = 0 then s1.commitLive slot v.sig else s1.commitNextBoot slot v.sig
    ({ status := r.1, detail := r.2.1 }, r.2.2)

/-- SERVE and BOOT recovery, the modes of most presence-gated commands (Table 8). -/
def State.serveOrRecovery (s : State) : Bool := s.md == .serve || s.inRecovery

/-- FW_COMMIT (R437). -/
def State.cmdFwCommit (s : State) (slot : Nat) (v : MgmtVerdict) : Reply × State :=
  if 1 < slot then bad s
  else if !s.serveOrRecovery then ({ status := St.MODE }, s)
  else
    let s1 := s.endStaging (2 + slot)
    match fwCheck (fwImage s1.mgmt.flash slot) s1.mgmt.fuses v.sig with
    | some code => ({ status := St.INVALID, detail := code }, s1)
    | none => ok (s1.putDirectory fun d => { d with fwPending := slot, fwPendingValid := true })

/-- OWNER_KEY (R441): sig is the old key's signature, sig2 that of the staged Formula. -/
def State.cmdOwnerKey (s : State) (slot : Nat) (key : List Byte) (v : MgmtVerdict) : Reply × State :=
  let f := s.mgmt.fuses
  let provisioned : Bool := f.lifecycle == 1
  let entry := (List.range 4).find? fun i => (tabFind f.ownerKey i).isNone && !f.badEntries.getLsbD (4 + i)
  if key.length ≠ 1793 then ({ status := St.BAD_LENGTH }, s)
  else if 1 < slot then bad s
  else if !s.serveOrRecovery then ({ status := St.MODE }, s)
  else if !provisioned ∧ ((ownerDigest f).isNone ∨ !v.sig) then ({ status := St.BAD_SIGNATURE }, s)
  else
    match entry with
    | none => ({ status := St.FUSE_ERROR }, s)
    | some i =>
      let digest := shake256 key
      if s.directory.fmlActive = slot then ({ status := St.INVALID }, s)
      else
        match validate (slotImage s.mgmt.flash slot) f.serial.toNat (some digest) v.sig2 with
        | .inr e =>
          let s1 := s.showFmlErr e
          ({ status := St.INVALID, detail := (s1.reg Reg.MG_FML_ERR).toNat }, s1)
        | .inl _ =>
          let old := match ownerEntry f with | some k => f.ownerRevoke ||| BitVec.ofNat 4 (2 ^ k) | none => f.ownerRevoke
          let f1 : Fuses := { f with
            ownerKey := tabPut f.ownerKey i digest, ownerRevoke := old, lifecycle := if provisioned then 3 else f.lifecycle }
          let s1 : State := { s with mgmt := { s.mgmt with fuses := f1 } }
          ok (s1.showFuses.putDirectory fun d => { d with fmlPending := slot, fmlPendingValid := true })

/-- KEEP_ERASE (R437): the Keep stack holds zeros, and nothing is retained. -/
def State.cmdKeepErase (s : State) : Reply × State :=
  if !(s.inRecovery || s.md == .linktest) then ({ status := St.MODE }, s)
  else
    let s1 : State := { s with keep := { s.keep with tables := none, held := [] }, retention := none }
    ok (s1.set0 Reg.CHIP_MODE Fld.CHIP_MODE.RETAIN_VALID)

/-- A lifecycle transition that FUSE_PROGRAM makes (R432). -/
def lifecycleOk (f : Fuses) (x : Nat) : Bool :=
  match f.lifecycle.toNat, x with
  | 0, 1 => f.serial != 0 && f.seed != 0 && !f.vendorKey.isEmpty
  | 1, 7 | 1, 15 | 3, 7 | 3, 15 => true
  | _, _ => false

/-- FUSE_PROGRAM (R431, R432). -/
def State.cmdFuse (s : State) (field x : Nat) : Reply × State :=
  let f := s.mgmt.fuses
  let put (g : Fuses) : Reply × State := ok ({ s with mgmt := { s.mgmt with fuses := g } } : State).showFuses
  if !s.serveOrRecovery then ({ status := St.MODE }, s)
  else
    match field with
    | 1 => if lifecycleOk f x then put { f with lifecycle := BitVec.ofNat 4 x } else ({ status := St.LIFECYCLE }, s)
    | 2 =>
      if 64 < x then bad s
      else if x < f.minSvn then ({ status := St.FUSE_ERROR }, s)
      else put { f with minSvn := x }
    | 3 =>
      let left := (List.range 4).any fun i => (tabFind f.vendorKey i).isSome && !f.badEntries.getLsbD i && !x.testBit i
      if 16 ≤ x then bad s
      else if x &&& f.vendorRevoke.toNat ≠ f.vendorRevoke.toNat ∨ !left then ({ status := St.FUSE_ERROR }, s)
      else put { f with vendorRevoke := BitVec.ofNat 4 x }
    | _ => bad s

/-- SEAL_REARM (R440). -/
def State.cmdSealRearm (s : State) (v : MgmtVerdict) : Reply × State :=
  let f := s.mgmt.fuses
  if s.pins.sealOpen then ({ status := St.SEALED }, s)
  else if (ownerDigest f).isNone ∨ !v.sig then ({ status := St.BAD_SIGNATURE }, s)
  else if f.sealRearms = f.sealEvents ∨ 15 ≤ f.sealRearms then ({ status := St.FUSE_ERROR }, s)
  else ok ({ s with mgmt := { s.mgmt with fuses := { f with sealRearms := f.sealRearms + 1 } } } : State).showFuses

/-- The fields of the fuse map, IDENTITY_SEED left out. -/
def fuseFields (f : Fuses) : List Nat :=
  [f.serial.toNat, f.lifecycle.toNat] ++ (List.range 4).map (fun i => (tabGet f.vendorKey i 0).toNat) ++ [f.vendorRevoke.toNat]
    ++ (List.range 4).map (fun i => (tabGet f.ownerKey i 0).toNat) ++ [f.ownerRevoke.toNat, f.minSvn, f.sealEvents, f.sealRearms]

/-- The digest that sixteen registers show. -/
def State.digestAt (s : State) (r : Nat → Nat) : List Byte := (List.range 16).flatMap fun n => bytesOf 4 (s.shown (r n)).toNat

/-- Bytes 0 to 399 of an attestation report (R435). -/
def State.reportHead (s : State) (nonce : BitVec 256) : List Byte :=
  let f := s.mgmt.fuses
  let flags := b2n (s.on Reg.MG_SEAL Fld.MG_SEAL.SEAL_BROKEN) + 2 * b2n (s.on Reg.CHIP_BOOT_STATUS Fld.CHIP_BOOT_STATUS.REVIVED)
    + 4 * b2n s.inRecovery + 8 * b2n (s.on Reg.MG_PRESENCE Fld.MG_PRESENCE.OPEN)
    + 16 * b2n (s.on Reg.FZ_CTL Fld.FZ_CTL.READOUT_EN)
  let slots := s.rd Reg.MG_FW_STATUS Fld.MG_FW_STATUS.SLOT + 2 * s.fml.slot
  bytesOf 4 0x54544154 ++ bytesOf 2 1 ++ bytesOf 2 1680 ++ bytesOf 8 f.serial.toNat ++ bytesOf 32 nonce.toNat
    ++ bytesOf 8 s.now ++ bytesOf 1 f.lifecycle.toNat ++ bytesOf 1 s.md.code ++ bytesOf 1 flags ++ bytesOf 1 slots
    ++ bytesOf 4 (s.rd Reg.MG_FW_STATUS Fld.MG_FW_STATUS.SVN) ++ bytesOf 4 ((s.fml.inForce.map (·.generation)).getD 0)
    ++ bytesOf 1 f.sealEvents ++ bytesOf 1 f.sealRearms ++ List.replicate 10 0
    ++ s.digestAt Reg.MG_MEAS_ROM ++ s.digestAt Reg.MG_MEAS_FW ++ s.digestAt Reg.MG_FML_DIGEST
    ++ bytesOf 64 (Config.fuseMapDigest (fuseFields f)).toNat ++ s.digestAt Reg.MG_OWNER_DIGEST

/-- The seed of the identity key pair (R433). -/
def identitySeed (f : Fuses) : Line := shake256 (bytesOf 32 f.seed.toNat ++ bytesOf 8 f.serial.toNat)

/-- ATTEST (R432, R433, R435), signed by the identity key over SHAKE256 of bytes 0 to 399. -/
def State.cmdAttest (s : State) (nonce : BitVec 256) : Reply × State :=
  if s.mgmt.fuses.lifecycle = 7 ∨ s.mgmt.fuses.lifecycle = 15 then ({ status := St.LIFECYCLE }, s)
  else if !s.mode.identityReady then ({ status := St.BUSY }, s)
  else
    let head := s.reportHead nonce
    let sig := Config.falconSign (identitySeed s.mgmt.fuses) (shake256 head) s.freeIx
    ({ body := head ++ bytesOf 1280 sig.toNat }, { s with freeIx := s.freeIx + 1 })

/-- GET_CERT (R434): the chain ends at the first MAGIC of all ones. -/
def State.cmdGetCert (s : State) (i : Nat) : Reply × State :=
  if s.mgmt.flashAbsent then ({ status := St.FLASH_ERROR }, s)
  else if certEnded s.mgmt.flash i then ({ status := St.NOT_PRESENT }, s)
  else ({ body := certBytes s.mgmt.flash i }, s)

/-- The effect of a command that may act. -/
def State.carryOut (s : State) (r : MgmtReq) : MgmtCmd → Reply × State
  | .identify => ({ body := s.identifyBody }, s)
  | .readReg a n => s.cmdReadReg r.path a.toNat n.toNat
  | .writeReg a n v => s.cmdWriteReg r.path a.toNat n.toNat v
  | .readLog n => s.cmdReadLog n.toNat
  | .faultClear t i => s.cmdFaultClear t.toNat i.toNat
  | .bind f u d l v => s.cmdBind f.toNat u.toNat d.toNat l.toNat v.toNat
  | .unbind u v o => s.cmdUnbind u.toNat v.toNat o.toNat
  | .powerOn n => s.onSlot n.toNat fun p => s.slotOn p
  | .powerOff n => s.onSlot n.toNat fun p => s.slotOff p
  | .slotFaultClear n => s.onSlot n.toNat fun p => s.slotClear p
  | .setLimit n x => s.onSlot n.toNat fun _ => s.setLimit n.toNat x.toNat
  | .setWeight q f w => s.cmdSetWeight q.toNat f.toNat w.toNat
  | .setRate q f x => s.cmdSetRate q.toNat f.toNat x.toNat
  | .regionBatch f n l => s.cmdRegionBatch f n l
  | .decantStart a b x => s.cmdDecantStart a.toNat b.toNat x.toNat
  | .decantCancel j => replied (s.decantCancel j.toNat)
  | .decantRate j x => replied (s.decantRate j.toNat x.toNat)
  | .traceSet k en eg f g => s.cmdTraceSet k.toNat en eg f g
  | .traceRead k => s.cmdTraceRead k.toNat
  | .traceFlush k => s.cmdTraceFlush k.toNat
  | .mirrorSet f b c => s.cmdMirrorSet f.toNat b c.toNat
  | .retrain q => s.cmdRetrain q.toNat
  | .laneDisable l v => s.cmdLaneDisable l.toNat v.toNat
  | .modeReq x => ok (s.modeReq x.toNat)
  | .formulaStage k o d => s.stage? false k.toNat o.toNat d
  | .fwStage k o d => s.stage? true k.toNat o.toNat d
  | .attest n => s.cmdAttest n
  | .getCert i => s.cmdGetCert i.toNat
  | .formulaCommit k m => s.cmdFormulaCommit k.toNat m.toNat r.v
  | .fwCommit k => s.cmdFwCommit k.toNat r.v
  | .ownerKey k key => s.cmdOwnerKey k.toNat key r.v
  | .keepErase => s.cmdKeepErase
  | .fuseProgram f x => s.cmdFuse f.toNat x.toNat
  | .sealRearm => s.cmdSealRearm r.v
  | .unknown _ => ({ status := St.UNSUPPORTED }, s)

/-! ### Taking a command -/

/-- Whether a management path carries commands now (R412, R428). -/
def State.pathUp (s : State) (p : Fin 4) : Bool :=
  s.md.clocked && (match p.val with
    | 0 => s.mgmt.mportUp && s.md != .drydown
    | 1 => s.mgmt.mportUp && s.md != .drydown && s.mode.fwRunning && !s.inRecovery
    | 2 => true
    | _ => s.mode.fwRunning && !s.inRecovery)

/-- Whether the sender holds what a command needs (R57, R414, R416, R423). -/
def State.authorised (s : State) (r : MgmtReq) (c : MgmtCmd) : Bool :=
  if r.remote then remoteAnswers c
  else
    match s.groupOf c with
    | none => true
    | some (g, fl) => s.holdsGroup r.path.val r.eid g fl

/-- A command from its checks to its effect, in the order the rules give: MODE in DRYDOWN (R419), the request's form (R418),
BOOT recovery (R428), the sender's grant (R423), the seal and presence (R437), R424, a fence that reaches its block with
it (R20), and then the command's own. -/
def State.command (s : State) (r : MgmtReq) (c : MgmtCmd) : Reply × State :=
  if s.md = .drydown ∨ (!s.mode.fwRunning ∧ !s.inRecovery) then ({ status := St.MODE }, s)
  else if isUnknown c then
    ({ status := St.UNSUPPORTED }, s)
  else if !r.lenOk then ({ status := St.BAD_LENGTH }, s)
  else if !r.resOk then bad s
  else if s.inRecovery ∧ !recoveryAccepts c then ({ status := St.MODE }, s)
  else if !s.inRecovery ∧ !s.authorised r c then ({ status := St.NOT_DELEGATED }, s)
  else if gatedCmd c ∧ s.on Reg.MG_SEAL Fld.MG_SEAL.SEAL_BROKEN then ({ status := St.SEALED }, s)
  else if gatedCmd c ∧ !s.on Reg.MG_PRESENCE Fld.MG_PRESENCE.OPEN then ({ status := St.NO_PRESENCE }, s)
  else if s.fml.inForce.isNone ∧ needsFormula c then ({ status := St.MODE }, s)
  else if !(s.fencesMet c).isEmpty then ({ status := St.BLOCK_FENCED }, s.fenceFirst (s.fencesMet c))
  else s.carryOut r c

/-- The bytes of a response (R418). -/
def responseBytes (opcode : Nat) (tag : Word) (x : Reply) : List Byte :=
  bytesOf 2 opcode ++ bytesOf 2 x.status ++ bytesOf 4 x.body.length ++ bytesOf 8 tag.toNat ++ bytesOf 8 x.detail ++ x.body

/-- The response goes to its path: the response buffer with DONE and vector 0 on path 0 (R417), the I3C target's response
on path 2, with an in-band interrupt (R415), a message on paths 1 and 3. -/
def State.respond (s : State) (p : Fin 4) (opcode : Nat) (tag : Word) (x : Reply) : State :=
  let b := responseBytes opcode tag x
  let s1 := s.emit (.response p.val opcode x.status tag x.detail x.body)
  match p.val with
  | 0 => (({ s1 with mgmt := { s1.mgmt with respBuf := b } } : State).set1 Reg.MBX_STATUS Fld.MBX_STATUS.DONE).msix 0
  | 2 => ({ s1 with mgmt := { s1.mgmt with i3cResp := b } } : State).emit .ibi
  | _ => s1

/-- A command accepted, or refused with NOT_DELEGATED, is counted (MG_PATH_CNT). -/
def State.countCmd (s : State) (p status : Nat) : State :=
  if status = St.NOT_DELEGATED then s.inc (Reg.MG_PATH_CNT p) Fld.MG_PATH_CNT.REFUSED
  else s.inc (Reg.MG_PATH_CNT p) Fld.MG_PATH_CNT.ACCEPTED

/-- Whether a command that came over a fabric port or from a host is taken now (R416). -/
def State.remoteUp (s : State) : Bool := s.md.clocked && s.mode.fwRunning && !s.inRecovery

/-- A request taken from its path, carried out and answered; one on a path that carries none now does not arise.  One that
came over a fabric port or from a host has none of the four paths: it is not counted, and its answer is a message. -/
def State.mailbox (s : State) (r : MgmtReq) (c : MgmtCmd) : State :=
  if r.remote then
    if !s.remoteUp then s
    else
      let x := s.command r c
      x.2.emit (.response 4 (mgmtOpcode c) x.1.status r.tag x.1.detail x.1.body)
  else if !s.pathUp r.path then s
  else
    let x := s.command r c
    (x.2.countCmd r.path.val x.1.status).respond r.path (mgmtOpcode c) r.tag x.1

end Sys2Proof.Machine
end

