-- ==== Sys2Proof/Machine/Request.lean ====
section
/-!
DEFINITION. Machine/Request.lean: a mailbox request as its bytes hold it (R418, R421, R422, R440, R441), taken from the
BAR2 request buffer (R417) or from the I3C target (R415).
-/
namespace Sys2Proof.Machine

/-- A request read from its bytes: the command, and whether its LENGTH and its reserved bytes are right. -/
structure Parsed where
  cmd : MgmtCmd
  tag : Word := 0
  lenOk : Bool
  resOk : Bool
  deriving DecidableEq, Repr

/-- Where the operands of a body lie, as (offset, size); what lies between them is reserved. -/
abbrev BodyShape := List (Nat × Nat)

/-- The register values of a TRACE_SET body: each at the next multiple of its own size, in the order of the registers
(assumption 12). -/
def filterShape (o : Nat) : BodyShape := [(o, 4), (o + 4, 4), (o + 8, 4), (o + 16, 8), (o + 24, 8)]

/-- The operands of a fixed body (R421 Table 3); none for a variable body or an unknown opcode. -/
def bodyShape (op : Nat) : Option BodyShape :=
  match op with
  | 0x0001 | 0x0103 => some []
  | 0x0002 => some [(0, 4), (4, 1)]
  | 0x0003 => some [(0, 4), (4, 1), (8, 8)]
  | 0x0004 => some [(0, 2)]
  | 0x0010 => some [(0, 1), (2, 2)]
  | 0x0020 => some [(0, 5)]
  | 0x0021 => some [(0, 3)]
  | 0x0030 | 0x0031 | 0x0032 | 0x0061 | 0x0071 | 0x0072 | 0x00B1 | 0x0101 => some [(0, 1)]
  | 0x0033 => some [(0, 1), (2, 2)]
  | 0x0040 | 0x0041 => some [(0, 2), (4, 4)]
  | 0x0060 => some [(0, 8)]
  | 0x0062 => some [(0, 1), (4, 4)]
  | 0x0070 => some ([(0, 1), (4, 4)] ++ filterShape 8 ++ filterShape 40)
  | 0x0073 => some [(0, 1), (8, 8), (16, 4)]
  | 0x0080 => some [(0, 2)]
  | 0x0081 => some [(0, 3)]
  | 0x0082 => some [(2, 1)]
  | 0x00B0 => some [(0, 32)]
  | 0x0100 => some [(0, 2)]
  | 0x0102 => some [(0, 1), (8, 1793), (1808, 1280)]
  | 0x0104 => some [(0, 1), (4, 4)]
  | 0x0110 => some [(0, 1280)]
  | _ => none

/-- The length of a body that ends with its last operand. -/
def shapeLen (l : BodyShape) : Nat := l.foldl (fun n x => max n (x.1 + x.2)) 0

/-- Whether the bytes of a body that no operand holds are 0. -/
def gapsZero (l : BodyShape) (body : List Byte) : Bool :=
  (List.range body.length).all fun i => l.any (fun x => decide (x.1 ≤ i) && decide (i < x.1 + x.2)) || body.getD i 0 == 0

/-- A field of a body. -/
def fieldAt (body : List Byte) (o n : Nat) : Nat := natOf ((body.drop o).take n)

/-- The registers of one filter in a TRACE_SET body. -/
def filterAt (body : List Byte) (o : Nat) : SilFilter :=
  let c := fieldAt body o 4
  { en := c % 2 = 1, classes := BitVec.ofNat 8 (c / 2), ports := BitVec.ofNat 32 (fieldAt body (o + 4) 4)
    flacons := BitVec.ofNat 32 (fieldAt body (o + 8) 4), lo := BitVec.ofNat 52 (fieldAt body (o + 16) 8)
    hi := BitVec.ofNat 52 (fieldAt body (o + 24) 8) }

/-- Reserved bits of the register values of a filter are 0. -/
def filterZero (body : List Byte) (o : Nat) : Bool :=
  decide (fieldAt body o 4 < 2 ^ 9) && decide (fieldAt body (o + 16) 8 < 2 ^ 52) && decide (fieldAt body (o + 24) 8 < 2 ^ 52)

/-- Entry i of a REGION_BATCH body (R422, R54). -/
def regionEntryAt (body : List Byte) (i : Nat) : RegionEntry :=
  let o := 4 + 32 * i
  { op := BitVec.ofNat 8 (fieldAt body o 1), index := BitVec.ofNat 16 (fieldAt body (o + 8) 2)
    flacon := BitVec.ofNat 8 (fieldAt body (o + 10) 1), ns := BitVec.ofNat 8 (fieldAt body (o + 11) 1)
    perms := BitVec.ofNat 16 (fieldAt body (o + 12) 2), start := BitVec.ofNat 64 (fieldAt body (o + 16) 8)
    stop := BitVec.ofNat 64 (fieldAt body (o + 24) 8) }

/-- The command that an opcode and its body spell. -/
def parseBody (op : Nat) (b : List Byte) : MgmtCmd :=
  let byte (o : Nat) : BitVec 8 := BitVec.ofNat 8 (fieldAt b o 1)
  let half (o : Nat) : BitVec 16 := BitVec.ofNat 16 (fieldAt b o 2)
  let word (o : Nat) : BitVec 32 := BitVec.ofNat 32 (fieldAt b o 4)
  let long (o : Nat) : Word := BitVec.ofNat 64 (fieldAt b o 8)
  match op with
  | 0x0001 => .identify
  | 0x0002 => .readReg (word 0) (byte 4)
  | 0x0003 => .writeReg (word 0) (byte 4) (long 8)
  | 0x0004 => .readLog (half 0)
  | 0x0010 => .faultClear (byte 0) (half 2)
  | 0x0020 => .bind (byte 0) (byte 1) (byte 2) (byte 3) (byte 4)
  | 0x0021 => .unbind (byte 0) (byte 1) (byte 2)
  | 0x0030 => .powerOn (byte 0)
  | 0x0031 => .powerOff (byte 0)
  | 0x0032 => .slotFaultClear (byte 0)
  | 0x0033 => .setLimit (byte 0) (half 2)
  | 0x0040 => .setWeight (byte 0) (byte 1) (word 4)
  | 0x0041 => .setRate (byte 0) (byte 1) (word 4)
  | 0x0050 => .regionBatch (byte 0) (byte 1) ((List.range ((b.length - 4) / 32)).map (regionEntryAt b))
  | 0x0060 => .decantStart (half 0) (half 2) (word 4)
  | 0x0061 => .decantCancel (byte 0)
  | 0x0062 => .decantRate (byte 0) (word 4)
  | 0x0070 => .traceSet (byte 0) (fieldAt b 4 4 % 2 = 1) (fieldAt b 4 4 / 2 % 2 = 1) (filterAt b 8) (filterAt b 40)
  | 0x0071 => .traceRead (byte 0)
  | 0x0072 => .traceFlush (byte 0)
  | 0x0073 => .mirrorSet (byte 0) (long 8) (word 16)
  | 0x0080 => .retrain (half 0)
  | 0x0081 => .laneDisable (half 0) (byte 2)
  | 0x0082 => .modeReq (byte 2)
  | 0x0090 => .formulaStage (byte 0) (word 4) (b.drop 8)
  | 0x0091 => .fwStage (byte 0) (word 4) (b.drop 8)
  | 0x00B0 => .attest (BitVec.ofNat 256 (fieldAt b 0 32))
  | 0x00B1 => .getCert (byte 0)
  | 0x0100 => .formulaCommit (byte 0) (byte 1)
  | 0x0101 => .fwCommit (byte 0)
  | 0x0102 => .ownerKey (byte 0) ((b.drop 8).take 1793)
  | 0x0103 => .keepErase
  | 0x0104 => .fuseProgram (byte 0) (word 4)
  | 0x0110 => .sealRearm
  | _ => .unknown (BitVec.ofNat 16 op)

/-- Whether a body has the length of its opcode (R418). -/
def bodyLenOk (op : Nat) (b : List Byte) : Bool :=
  match bodyShape op with
  | some l => b.length == shapeLen l
  | none =>
    match op with
    | 0x0050 => b.length == 4 + 32 * fieldAt b 1 1
    | 0x0090 | 0x0091 => decide (9 ≤ b.length) && decide (b.length ≤ 65520)
    | _ => true

/-- Whether the reserved bytes of a body are 0. -/
def bodyResOk (op : Nat) (b : List Byte) : Bool :=
  match bodyShape op with
  | some l => gapsZero l b && (op != 0x0070 || (decide (fieldAt b 4 4 < 4) && filterZero b 8 && filterZero b 40))
  | none =>
    match op with
    | 0x0050 =>
      gapsZero ([(0, 2)] ++ (List.range ((b.length - 4) / 32)).flatMap fun i =>
        [(4 + 32 * i, 1), (12 + 32 * i, 6), (20 + 32 * i, 16)]) b
    | 0x0090 | 0x0091 => gapsZero [(0, 1), (4, 4)] (b.take 8)
    | _ => true

/-- A request: the 16-byte header, and the body that follows it (R418).  all: the bytes are the whole transfer, so that
LENGTH must be what follows the header; otherwise they are the request buffer. -/
def parseRequest (all : Bool) (l : List Byte) : Parsed :=
  let op := fieldAt l 0 2
  let len := fieldAt l 4 4
  let body := (l.drop 16).take (min len 65520)
  let full := body ++ List.replicate (if all then 0 else min len 65520 - body.length) 0
  let framed := decide (len ≤ 65520) && (!all || (decide (16 ≤ l.length) && decide (l.length = 16 + len)))
  { cmd := parseBody op full, tag := BitVec.ofNat 64 (fieldAt l 8 8)
    lenOk := framed && bodyLenOk op full, resOk := fieldAt l 2 1 == 1 && fieldAt l 3 1 == 0 && bodyResOk op full }

/-- A parsed request taken from its path. -/
def State.takeParsed (s : State) (p : Fin 4) (q : Parsed) (v : MgmtVerdict) : State :=
  s.mailbox { path := p, lenOk := q.lenOk, resOk := q.resOk, tag := q.tag, v } q.cmd

/-- MBX_DB.GO: the request in the buffer is taken (R417).  The verdicts of the signatures it may carry are free values. -/
def State.mbxGo (s : State) : State :=
  let a := s.free 1
  let b := a.2.free 1
  b.2.takeParsed 0 (parseRequest false s.mgmt.reqBuf) { sig := a.1 == 1, sig2 := b.1 == 1 }

/-- The transfer of an I3C request (R415): bytes appended, of which the first 65,536 count; at the STOP it is taken. -/
def State.i3cAppend (s : State) (l : List Byte) (stop : Bool) (v : MgmtVerdict) : State :=
  let all := s.mgmt.i3cReq ++ l
  if !stop then { s with mgmt := { s.mgmt with i3cReq := all.take 65537 } }
  else
    let s1 : State := { s with mgmt := { s.mgmt with i3cReq := [] } }
    let q := parseRequest true (all.take 65536)
    s1.takeParsed 2 (if 65536 < all.length then { q with lenOk := false } else q) v

end Sys2Proof.Machine
end

