-- ==== Sys2Proof/Machine/ExecAccess.lean ====
section
/-!
DEFINITION. Machine/ExecAccess.lean: register accesses (R4, R5, R8, R36): writes and reads of 4 or 8 bytes, and the halves
of a 64-bit register.
-/
namespace Sys2Proof.Machine

/-- An access to an engine function over a link that may carry none of it, IDE_REQUIRED and not secure: refused as an I/O
request under R216 (R308). -/
def State.engineShut (s : State) (p : AccessPath) (a size : Nat) (write : Bool) : Option (Completion × State) :=
  match p with
  | .engine q =>
    match s.portRec q.val with
    | none => none
    | some r =>
      if s.engineUp q.val && s.ideBlocks r then
        let m : Msg := { io := true, mc := if write then 6 else 7, op := 0x20, flacon := r.flacon, addr := a, len := size,
                         port := q.val, srcEid := s.portEid q.val, priv := 2, epoch := s.epochOf r.flacon }
        some (if write then .noResponse else .unsupportedRequest, s.deny r.flacon (noDecoderRec m))
      else none
  | _ => none

/-- A register read by a path, and a write. -/
def State.readBy (s : State) (p : AccessPath) (a size : Nat) : Completion × State :=
  (s.engineShut p a size false).getD (s.read p a size)
def State.writeBy (s : State) (p : AccessPath) (a size : Nat) (w : Word) : Completion × State :=
  (s.engineShut p a size true).getD (s.write State.mbxGo p a size w)

/-- A read answered. -/
def State.answered (p : AccessPath) (r : Completion × State) : State :=
  match r.1 with
  | .noResponse => r.2
  | c => r.2.emit (.completion p c)

/-- A write, which is posted: only one that R4 or R36 turns away is answered. -/
def State.posted (p : AccessPath) (r : Completion × State) : State :=
  match r.1 with
  | .success _ | .noResponse => r.2
  | c => r.2.emit (.completion p c)

/-- REGISTER_WRITE (R8). -/
def execRegisterWrite (path : AccessPath) (addr size : Nat) (data : Word) (s : State) : Result :=
  done (State.posted path (s.writeBy path addr size data))

/-- RC_FIELD_READ (R8). -/
def execRcFieldRead (path : AccessPath) (addr size : Nat) (s : State) : Result :=
  done (State.answered path (s.readBy path addr size))

/-- LOWER_HALF_READ (R5): addr is that of the lower half. -/
def execLowerHalfRead (path : AccessPath) (addr : Nat) (s : State) : Result :=
  done (State.answered path (s.readBy path addr 4))

/-- UPPER_HALF_READ (R5): addr is that of the upper half. -/
def execUpperHalfRead (path : AccessPath) (addr : Nat) (s : State) : Result :=
  done (State.answered path (s.readBy path addr 4))

/-- LOWER_HALF_WRITE (R5). -/
def execLowerHalfWrite (path : AccessPath) (addr : Nat) (data : BitVec 32) (s : State) : Result :=
  done (State.posted path (s.writeBy path addr 4 (data.setWidth 64)))

/-- UPPER_HALF_WRITE (R5). -/
def execUpperHalfWrite (path : AccessPath) (addr : Nat) (data : BitVec 32) (s : State) : Result :=
  done (State.posted path (s.writeBy path addr 4 (data.setWidth 64)))

/-- The half that a path holds runs out: discarded, and torn (R5). -/
def State.holdExpire (s : State) (p : AccessPath) : State :=
  match tabFind s.io.hold p.key with
  | some h => (s.setHold p none).torn p h.addr
  | none => s

/-- HELD_HALF_EXPIRY (R5). -/
def execHeldHalfExpiry (path : AccessPath) (s : State) : Result := done (s.holdExpire path)

end Sys2Proof.Machine
end

