-- ==== Sys2Proof/Machine/ExecChip.lean ====
section
/-!
DEFINITION. Machine/ExecChip.lean: the commands of the fence bus (R18, R241, R397), time, clocks, modes and resets
(R21 to R32), the boot sequence (R428, R433, R39) and RECOMPOSE (R63).
-/
namespace Sys2Proof.Machine

/-! ### The fence bus -/

/-- FENCE_PLANE (R80). -/
def execFencePlane (n : PlaneIx) (s : State) : Result :=
  whenClocked s fun t => t.noticeArrives (.fencePlane n)

/-- UNFENCE_PLANE (R82). -/
def execUnfencePlane (n : PlaneIx) (s : State) : Result :=
  whenClocked s fun t => t.noticeArrives (.unfencePlane n)

/-- FENCE_SLICE (R18, R164, R181). -/
def execFenceSlice (n : SliceIx) (s : State) : Result :=
  whenClocked s fun t => t.noticeArrives (.fenceSlice n)

/-- FENCE_TILE (R18). -/
def execFenceTile (n : TileIx) (s : State) : Result :=
  whenClocked s fun t => t.noticeArrives (.fenceTile n)

/-- FENCE_FLACON (R241 Table 8): containment, and re-tunes of its ports abandoned (R261). -/
def execFenceFlacon (f : FlaconIx) (s : State) : Result :=
  whenClocked s fun t => t.noticeArrives (.fenceFlacon f)

/-- QUARANTINE (R397 Table 5): containment in every block, and re-tunes abandoned (R261). -/
def execQuarantine (s : State) : Result :=
  whenClocked s fun t => t.noticeArrives .quarantine

/-! ### Sensors, watchdog, time, clocks -/

/-- SENSOR_UPDATE (R12, R13, R461, R370). -/
def execSensorUpdate (readings : SensorReadings) (s : State) : Result := done (s.sensorUpdate readings.temps readings.loads)

/-- WATCHDOG_EXPIRY (R21). -/
def execWatchdogExpiry (sig : SigVerdict) (s : State) : Result := done (s.watchdog sig)

/-- CHIP_TIME_ADJ (R25): the signed correction written. -/
def execChipTimeAdj (path : AccessPath) (data : BitVec 32) (s : State) : Result :=
  s.written path fun t => t.correctTime (timeDelta data.toNat)

/-- TIME_SLEW_STEP (R25). -/
def execTimeSlewStep (s : State) : Result := done s.slewStep

/-- PTM_EXCHANGE (R25). -/
def execPtmExchange (correction : Int) (s : State) : Result := done (s.ptm correction)

/-- REF_LOST (R26). -/
def execRefLost (refSeen : Bool) (s : State) : Result := done (s.refLost refSeen)

/-- SDS_PLL_UNLOCK (R26). -/
def execSdsPllUnlock (pll : Fin 8) (lanes : List LaneIx) (s : State) : Result :=
  done (s.sdsUnlock pll.val (lanes.map (·.val)))

/-! ### Resets and modes -/

/-- VAUX_RISE (R28). -/
def execVauxRise (sealHigh : Bool) (s : State) : Result := done (s.vauxRise sealHigh)

/-- VAUX_LOSS (R28). -/
def execVauxLoss (mainRailsLost : Bool) (s : State) : Result := done (s.vauxLoss mainRailsLost)

/-- VAUX_RECOVERY_EXPIRY (R28). -/
def execVauxRecoveryExpiry (s : State) : Result := done s.vauxBack

/-- PWRON_RESET_RELEASE (R28, R338, R455). -/
def execPwronResetRelease (s : State) : Result := done s.resetRelease

/-- PWRON_RESET_ASSERT (R28, R368). -/
def execPwronResetAssert (s : State) : Result := done s.resetAssert

/-- CHIP_RESET (R28): the keyed write. -/
def execChipReset (path : AccessPath) (key : BitVec 32) (s : State) : Result :=
  s.written path fun t => t.chipReset key.toNat

/-- CHIP_RESET_START (R28). -/
def execChipResetStart (s : State) : Result := done s.chipResetStart

/-- MODE_REQ_LINKTEST (R28, R33). -/
def execModeReqLinktest (path : AccessPath) (s : State) : Result := s.written path fun t => t.modeReq 11

/-- MODE_REQ_BOOT (R28). -/
def execModeReqBoot (path : AccessPath) (s : State) : Result := s.written path fun t => t.modeReq 2

/-- MODE_REQ_QUARANTINE (R28, R31). -/
def execModeReqQuarantine (path : AccessPath) (s : State) : Result := s.written path fun t => t.modeReq 10

/-- PERST_N_ASSERT (R32). -/
def execPerstNAssert (s : State) : Result := done (s.perst true)

/-- PERST_N_RELEASE (R32). -/
def execPerstNRelease (s : State) : Result := done (s.perst false)

/-! ### Boot -/

/-- FIRMWARE_START (R428). -/
def execFirmwareStart (sig : SigVerdict) (s : State) : Result := done (s.bootRom sig)

/-- IDENTITY_KEY_DERIVED (R433). -/
def execIdentityKeyDerived (sramOk keepOk : Bool) (s : State) : Result := done (s.identityDone sramOk keepOk)

/-- FORMULA_BOOT_APPLY (R39, R40, R58). -/
def execFormulaBootApply (sig : SigVerdict) (s : State) : Result := done (s.bootFormula sig)

/-- COMPOSE_DONE (R28, R40). -/
def execComposeDone (s : State) : Result := done s.composeDone

/-! ### RECOMPOSE -/

/-- RECOMPOSE_DRAIN_DONE (R63). -/
def execRecomposeDrainDone (s : State) : Result := done s.recomposeDrained

/-- RECOMPOSE_DRAIN_TIMEOUT (R63). -/
def execRecomposeDrainTimeout (s : State) : Result := done s.recomposeTimeout

/-- RECOMPOSE_SWITCH (R63). -/
def execRecomposeSwitch (s : State) : Result := done s.recomposeSwitch

/-- RECOMPOSE_RETRAIN_DONE (R63). -/
def execRecomposeRetrainDone (s : State) : Result := done s.recomposeRetrained

end Sys2Proof.Machine
end

