-- ==== Sys2Proof/Machine/ExecCore.lean ====
section
/-!
DEFINITION. Machine/ExecCore.lean: the commands of the switch core (03), arbitration and scheduling (04) and the confirm
gates (06).
-/
namespace Sys2Proof.Machine

/-! ### Ingress -/

/-- MESSAGE_ARRIVAL (R70). -/
def execMessageArrival (port : PortIx) (a : Arrival) (env : LookupEnv) (s : State) : Result :=
  whenClocked s fun t => t.messageIn port.val a env

/-- ADMISSION_RETRY (R87): place at_ is a port, or 128 + slice. -/
def execAdmissionRetry (at_ : Fin 192) (mc : Fin 8) (s : State) : Result :=
  whenClocked s fun t => t.retryWaiting at_.val mc.val

/-- PACK_WAIT_EXPIRY (R68). -/
def execPackWaitExpiry (tile : TileIx) (s : State) : Result := whenClocked s fun t => t.packExpiry tile.val

/-- BODY_CELL_ARRIVAL (R71). -/
def execBodyCellArrival (port : PortIx) (mc : Fin 8) (line : Line) (last bad : Bool) (s : State) : Result :=
  whenClocked s fun t => t.bodyIn port.val mc.val line last bad

/-! ### Planes -/

/-- PLANE_CELL_ARRIVAL (R76, R79). -/
def execPlaneCellArrival (plane : PlaneIx) (src : Fin 128) (unit : PlaneTake) (s : State) : Result :=
  whenClocked s fun t => t.planeArrive plane.val src.val unit.unit.val false unit.ecc

/-- RESEQ_RELEASE (R78). -/
def execReseqRelease (src unit : Fin 128) (mc : Fin 8) (s : State) : Result :=
  whenClocked s fun t => t.reseqRelease src.val unit.val mc.val

/-- DRAIN_CELL_ARRIVAL (R81). -/
def execDrainCellArrival (plane : PlaneIx) (src unit : Fin 128) (s : State) : Result :=
  whenClocked s fun t => t.planeArrive plane.val src.val unit.val true {}

/-- PLANE_FAULT (R80). -/
def execPlaneFault (n : PlaneIx) (crc : Option (Fin 128 × Fin 128)) (s : State) : Result :=
  whenClocked s fun t => t.planeFault n.val (crc.map fun e => (e.1.val, e.2.val))

/-- PLANE_FENCE_REQ (R80, R82). -/
def execPlaneFenceReq (path : AccessPath) (n : PlaneIx) (s : State) : Result :=
  s.written path fun t => t.planeFenceReq n.val

/-- PLANE_UNFENCE_REQ (R82). -/
def execPlaneUnfenceReq (path : AccessPath) (n : PlaneIx) (s : State) : Result :=
  s.written path fun t => t.planeUnfenceReq n.val

/-! ### Egress -/

/-- SPILL_PREFETCH (R86, R88). -/
def execSpillPrefetch (port : PortIx) (s : State) : Result := whenClocked s fun t => t.prefetch port.val

/-- EGRESS_SCHEDULE (R108): credits are the standard link's, by sub-channel; ecc is what the buffer read finds. -/
def execEgressSchedule (port : PortIx) (credits : BitVec 16) (ecc : EccFinding) (s : State) : Result :=
  whenClocked s fun t => t.egress port.val credits ecc

/-- PT_FLUSH_GO (R93). -/
def execPtFlushGo (path : AccessPath) (port : PortIx) (s : State) : Result :=
  s.written path fun t => t.flushGo port.val

/-! ### Arbiters, shapers, policers -/

/-- ARBITER_ROUND (R100 to R105). -/
def execArbiterRound (arb : ArbIx) (req : List ArbReq) (bytes : Nat) (parityBad withdrawn : Bool) (s : State) : Result :=
  whenClocked s fun t => t.arbRound arb req bytes parityBad withdrawn

/-- KEEP_WINDOW_END (R101). -/
def execKeepWindowEnd (ch : Fin 8) (s : State) : Result := whenClocked s fun t => t.keepWindowEnd ch.val

/-- ARB_RESYNC (R105). -/
def execArbResync (path : AccessPath) (inst : ArbInst) (s : State) : Result := s.written path fun t => t.arbResync inst

/-- ARB_CLR_STATS (R100). -/
def execArbClrStats (path : AccessPath) (inst : ArbInst) (s : State) : Result := s.written path fun t => t.arbClear inst

/-- ARB_PRIO_WRITE (R104). -/
def execArbPrioWrite (path : AccessPath) (inst : ArbInst) (n : Fin 128) (base : Fin 8) (s : State) : Result :=
  s.written path fun t => t.arbPrio inst n.val base.val

/-- SHAPER_WHEEL_FIRE (R114 to R116). -/
def execShaperWheelFire (s : State) : Result := whenClocked s fun t => t.fireWheel

/-- TOPNOTE_REFILL (R125). -/
def execTopnoteRefill (s : State) : Result := whenClocked s State.topnoteRefill

/-- MIRROR_REFILL (R126). -/
def execMirrorRefill (s : State) : Result := whenClocked s fun t => t.mirrorRefill

/-! ### Confirm gates -/

/-- TENTATIVE_CELL_AT_GATE (R174): the scheduler chooses a tentative cell. -/
def execTentativeCellAtGate (port : PortIx) (credits : BitVec 16) (ecc : EccFinding) (s : State) : Result :=
  whenClocked s fun t => t.egressOf port.val credits ecc fun c => c.msg.tent

/-- TN_CONFIRM_ARRIVAL (R174, R176): the scheduler chooses a TN_CONFIRM. -/
def execTnConfirmArrival (port : PortIx) (credits : BitVec 16) (s : State) : Result :=
  whenClocked s fun t => t.egressOf port.val credits {} fun c => !c.msg.io && c.msg.op == Op.TN_CONFIRM

/-- TN_CANCEL_ARRIVAL (R174, R176). -/
def execTnCancelArrival (port : PortIx) (credits : BitVec 16) (s : State) : Result :=
  whenClocked s fun t => t.egressOf port.val credits {} fun c => !c.msg.io && c.msg.op == Op.TN_CANCEL

end Sys2Proof.Machine
end

