-- ==== Sys2Proof/Machine/ExecDrain.lean ====
section
/-!
DEFINITION. Machine/ExecDrain.lean: the commands of DRYDOWN, RETAIN and REVIVE (14).
-/
namespace Sys2Proof.Machine

/-- DRAIN_STOP_DONE (R361). -/
def execDrainStopDone (s : State) : Result := done s.drainStopDone

/-- DRAIN_FLUSH_DONE (R361 to R363). -/
def execDrainFlushDone (s : State) : Result := done s.drainFlushDone

/-- DRAIN_FLUSH_LIMIT (R362). -/
def execDrainFlushLimit (s : State) : Result := done s.drainFlushLimit

/-- DRAIN_CLOSE_DONE (R361, R365). -/
def execDrainCloseDone (s : State) : Result := done s.drainCloseDone

/-- DRAIN_CLOSE_LIMIT (R210, R362). -/
def execDrainCloseLimit (s : State) : Result := done s.drainCloseLimit

/-- TABLE_SAVE_DONE (R365, R366). -/
def execTableSaveDone (s : State) : Result := done s.tableSaveDone

/-- DRAIN_PORTS_DOWN (R366). -/
def execDrainPortsDown (s : State) : Result := done s.drainPortsDown

/-- DRAIN_LINKS_DOWN (R361, R367). -/
def execDrainLinksDown (s : State) : Result := done s.drainLinksDown

/-- DRAIN_PHASE_LIMIT (R361, R367). -/
def execDrainPhaseLimit (s : State) : Result := done s.drainPhaseLimit

/-- RETAIN_EXIT (R372). -/
def execRetainExit (s : State) : Result := done s.retainExit

/-- REVIVE_LOAD_DONE (R373). -/
def execReviveLoadDone (s : State) : Result := done s.reviveLoaded

/-- REVIVE_FIRMWARE_DONE (R373, R433). -/
def execReviveFirmwareDone (sig : SigVerdict) (s : State) : Result := done (s.reviveFirmware sig)

/-- REVIVE_CHECK_DONE (R374, R379). -/
def execReviveCheckDone (recordOk : Bool) (s : State) : Result := done (s.reviveChecked recordOk)

/-- REVIVE_RESTORE_DONE (R373, R376). -/
def execReviveRestoreDone (ok : Bool) (s : State) : Result := done (s.reviveRestored ok)

/-- REPLAY_START (R375). -/
def execReplayStart (bad : List Nat) (s : State) : Result := done (s.replayStart bad)

/-- REPLAY_PORT_WAIT_EXPIRY (R375). -/
def execReplayPortWaitExpiry (bad : List Nat) (s : State) : Result := done (s.replayAnyway bad)

/-- REPLAY_DONE (R373, R375). -/
def execReplayDone (deviceMs totalMs : Nat) (sigOk : Bool) (s : State) : Result :=
  done (s.replayDone deviceMs totalMs sigOk)

/-- KS_LOSS_CLEAR (R379). -/
def execKsLossClear (path : AccessPath) (s : State) : Result := s.written path fun t => t.lossClear

end Sys2Proof.Machine
end

