-- ==== Sys2Proof/Machine/ExecFaults.lean ====
section
/-!
DEFINITION. Machine/ExecFaults.lean: the commands of faults, freeze and trace (15).
-/
namespace Sys2Proof.Machine

/-- FAULT_OCCURRENCE (R383 to R391). -/
def execFaultOccurrence (occ : Occ) (s : State) : Result := done (s.occur occ)

/-- RAIL_FAULT (R383, R384). -/
def execRailFault (source : Nat) (s : State) : Result := done (s.railFault source)

/-- RAIL_FAULT_END (R383). -/
def execRailFaultEnd (source : Nat) (s : State) : Result := done (s.railFaultEnd source)

/-- FC_PEND_CLEAR (R392). -/
def execFcPendClear (path : AccessPath) (word : Fin 40) (mask : BitVec 32) (s : State) : Result :=
  s.written path fun t => t.clearPend word.val mask.toNat

/-- FC_ALERT_CLEAR (R394). -/
def execFcAlertClear (path : AccessPath) (s : State) : Result := s.written path fun t => t.clearAlert

/-- FC_LOG_ACK (R395): N has 13 bits. -/
def execFcLogAck (path : AccessPath) (n : Nat) (s : State) : Result := s.written path fun t => t.logAck (n % 2 ^ 13)

/-- FC_INJECT (R385, R437). -/
def execFcInject (path : AccessPath) (data : BitVec 32) (s : State) : Result :=
  s.written path fun t => t.injectFault data.toNat

/-- FREEZE_N_ASSERT (R30, R399, R400). -/
def execFreezeNAssert (s : State) : Result := done (s.freezeRequest 1)

/-- FZ_FREEZE_WRITE (R399, R401, R437). -/
def execFzFreezeWrite (path : AccessPath) (data : BitVec 32) (s : State) : Result :=
  s.writtenFz path fun t => t.freezeWrite data.toNat

/-- CAPTURE_START (R401, R403). -/
def execCaptureStart (path : AccessPath) (seg : BitVec 10) (s : State) : Result :=
  s.writtenFz path fun t => t.captureStart seg.toNat

/-- CAPTURE_ABORT (R403). -/
def execCaptureAbort (path : AccessPath) (s : State) : Result := s.writtenFz path fun t => t.captureAbort

/-- CAPTURE_DONE (R403). -/
def execCaptureDone (s : State) : Result := done s.captureDone

/-- JTAG_IDCODE (R404). -/
def execJtagIdcode (s : State) : Result := done s.jtagIdcode

/-- JTAG_BYPASS (R404). -/
def execJtagBypass (s : State) : Result := done s.jtagBypass

/-- JTAG_SAMPLE_PRELOAD (R404). -/
def execJtagSamplePreload (bits : List Bool) (s : State) : Result := done (s.jtagPreload bits)

/-- JTAG_EXTEST (R404). -/
def execJtagExtest (s : State) : Result := done s.jtagExtest

/-- JTAG_SEGMENT_READ (R401, R404). -/
def execJtagSegmentRead (seg : Fin 10) (bit : Nat) (s : State) : Result := done (s.jtagSegment seg.val bit)

/-- SL_ACK (R408): N has 12 bits. -/
def execSlAck (path : AccessPath) (k : QuadIx) (n : Nat) (s : State) : Result :=
  s.written path fun t => t.silAck k.val (n % 2 ^ 12)

/-- SL_FLUSH (R409). -/
def execSlFlush (path : AccessPath) (k : QuadIx) (s : State) : Result := s.written path fun t => t.silFlush k.val

end Sys2Proof.Machine
end

