-- ==== Sys2Proof/Machine/ExecFlacon.lean ====
section
/-!
DEFINITION. Machine/ExecFlacon.lean: the commands of Accords (07) and of Flacons' registers (08).
-/
namespace Sys2Proof.Machine

/-! ### The engine function -/

/-- ACCORD_OPEN (R184, R464). -/
def execAccordOpen (port : PortIx) (slot : Fin 64) (cookie : BitVec 32) (window : BitVec 10) (watch notify : Bool)
    (s : State) : Result :=
  done (s.atDoor port.val slot.val fun t => t.doorOpen port.val slot.val cookie.toNat window.toNat watch notify)

/-- ACCORD_TRACKER_GRANT (R186, R196). -/
def execAccordTrackerGrant (port : PortIx) (slot : Fin 64) (s : State) : Result :=
  whenClocked s fun t => t.grantTracker port.val slot.val

/-- ACCORD_COMMIT (R184). -/
def execAccordCommit (port : PortIx) (slot : Fin 64) (notify : Bool) (s : State) : Result :=
  done (s.atDoor port.val slot.val fun t => t.doorCommit port.val slot.val notify)

/-- ACCORD_ABORT (R184, R207). -/
def execAccordAbort (port : PortIx) (slot : Fin 64) (s : State) : Result :=
  done (s.atDoor port.val slot.val fun t => t.doorAbort port.val slot.val)

/-- ACCORD_CLEAR (R184). -/
def execAccordClear (port : PortIx) (slot : Fin 64) (s : State) : Result :=
  done (s.atDoor port.val slot.val fun t => t.doorClear port.val slot.val)

/-- ALIAS_WRITE (R187, R188, R190). -/
def execAliasWrite (port : PortIx) (slot : Fin 64) (offset : Nat) (bytes : List Byte) (ltag : Nat) (env : AliasEnv)
    (s : State) : Result :=
  whenClocked s fun t => t.aliasAccess port.val slot.val
    { write := true, offset := offset, bytes := bytes, len := bytes.length, ltag := ltag, env := env.lookup, tee := env.tee
      ue := env.ue }

/-- ALIAS_READ (R187, R188, R191). -/
def execAliasRead (port : PortIx) (slot : Fin 64) (offset len ltag : Nat) (env : AliasEnv) (s : State) :
    Result :=
  whenClocked s fun t => t.aliasAccess port.val slot.val
    { write := false, offset := offset, len := len, ltag := ltag, env := env.lookup, tee := env.tee, ue := env.ue }

/-- ENGINE_FUNCTION_FLR (R209). -/
def execEngineFunctionFlr (port : PortIx) (s : State) : Result :=
  done (if s.engineUp port.val then s.engineReset port.val else s)

/-! ### The Accord engine -/

/-- STAGE_NOTICE (R198). -/
def execStageNotice (tracker : Nat) (s : State) : Result := whenClocked s fun t => t.stageNotice tracker

/-- ACCORD_PREPARE_START (R198). -/
def execAccordPrepareStart (tracker : Nat) (s : State) : Result := whenClocked s fun t => t.prepareStart tracker

/-- PREPARE_AT_SLICE (R199). -/
def execPrepareAtSlice (n : SliceIx) (tracker : Nat) (s : State) : Result :=
  whenClocked s fun t => (t.prepareAt n.val tracker).runSlice n.val

/-- PREPARE_ANSWER (R199 to R201). -/
def execPrepareAnswer (n : SliceIx) (tracker : Nat) (s : State) : Result :=
  whenClocked s fun t => t.prepareAnswer n.val tracker

/-- PREP_TIMEOUT (R199). -/
def execPrepTimeout (tracker : Nat) (s : State) : Result := whenClocked s fun t => t.prepTimeout tracker

/-- COMMIT_RECORD_WRITTEN (R200). -/
def execCommitRecordWritten (tracker : Nat) (s : State) : Result := whenClocked s fun t => t.recordWritten tracker

/-- FLIP_AT_SLICE (R200, R212): ue are the lines whose staging slots read uncorrectable. -/
def execFlipAtSlice (n : SliceIx) (tracker : Nat) (ue : List Nat) (s : State) : Result :=
  whenClocked s fun t => t.flipAt n.val tracker ue

/-- FLIP_ACK (R200, R204). -/
def execFlipAck (n : SliceIx) (tracker : Nat) (s : State) : Result := whenClocked s fun t => t.flipAck n.val tracker

/-! ### Flacon registers -/

/-- EPOCH_DRAIN_TARGET (R234): DONE and EPOCHS are read from the accesses outstanding. -/
def execEpochDrainTarget (path : AccessPath) (f : FlaconIx) (target : BitVec 32) (s : State) : Result :=
  s.written path fun t => t.wr (Reg.FL_EPOCH_DRAIN f.val) Fld.FL_EPOCH_DRAIN.TARGET target.toNat

/-- FL_FAULT_CLEAR (R242, R392). -/
def execFlFaultClear (path : AccessPath) (f : FlaconIx) (s : State) : Result :=
  s.written path fun t => (t.flFaultClear f.val).2

/-- UNFENCE_DRAIN_DONE (R242). -/
def execUnfenceDrainDone (f : FlaconIx) (s : State) : Result := whenClocked s fun t => t.unfence f.val

end Sys2Proof.Machine
end

