-- ==== Sys2Proof/Machine/Fm.lean ====
section
/-!
DEFINITION. Machine/Fm.lean: the fabric manager API (R315, R316): who may send a command, how a refusal is told, and the
commands of this switch; commands to a device are carried to it, and its answer is the command's operand.
-/
namespace Sys2Proof.Machine

/-- The answer to a fabric manager command: return code, Vendor Specific Extended Status, and the payload that the
specification gives. -/
structure FmReply where
  code : Nat := 0
  ext : Nat := 0
  data : List Byte := []

/-- Return codes of R316. -/
def Fm.SUCCESS : Nat := 0x0000
def Fm.BACKGROUND : Nat := 0x0001
def Fm.INVALID : Nat := 0x0002
def Fm.UNSUPPORTED : Nat := 0x0003

/-- A refusal: Invalid Input with the extended status of Table 6 (and 0x0007 IN_USE, R328), whose values are the mailbox's
(R420); a reason that has none there leaves the extended status open. -/
def State.fmRefuse (s : State) (status : Nat) : FmReply × State :=
  if 1 ≤ status ∧ status ≤ 7 then ({ code := Fm.INVALID, ext := status }, s)
  else
    let g := s.free 16
    ({ code := Fm.INVALID, ext := g.1.toNat }, g.2)

/-- A mailbox status told as a fabric manager's return code; a recomposing Flacon is told as MODE. -/
def State.fmStatus (s : State) (status : Nat) : FmReply × State :=
  if status = St.OK then ({}, s)
  else if status = St.RECOMPOSE_BUSY then s.fmRefuse St.MODE
  else s.fmRefuse status

/-- Command groups of R57 that the API uses. -/
def Grp.READ : Nat := 0
def Grp.BIND : Nat := 1
def Grp.WEIGHT : Nat := 3
def Grp.FAULT_CLEAR : Nat := 7
def Grp.LINK : Nat := 8
def Grp.DCD : Nat := 10

/-- The groups of the commands that go to a device in a tunnel (R315 Table 5). -/
def tunnelGroup (opcode : Nat) : Option Nat :=
  if [0x5400, 0x5401, 0x5403, 0x5405, 0x5406, 0x5408, 0x5600, 0x5601, 0x5603].contains opcode then some Grp.READ
  else if [0x5404, 0x5407, 0x5409].contains opcode then some Grp.WEIGHT
  else if [0x5602, 0x5604, 0x5605].contains opcode then some Grp.DCD
  else none

/-- Whether a command of the API arrives now (R412): its path carries MCTP. -/
def State.fmUp (s : State) (r : FmReq) : Bool :=
  if r.remote then s.remoteUp else (r.path == 1 || r.path == 3) && s.pathUp r.path

/-- A command authorised under R57 for a group and Flacons, in SERVE unless it only reads (Table 6), carried out and
answered; counted at its path. -/
def State.fm (s : State) (r : FmReq) (opcode group flacons : Nat) (k : State → FmReply × State) : State :=
  if !s.fmUp r then s
  else
    let granted := !r.remote && s.holdsGroup r.path.val r.eid group flacons
    let x := if !granted then s.fmRefuse St.NOT_DELEGATED
      else if group ≠ Grp.READ ∧ s.md ≠ .serve then s.fmRefuse St.MODE
      else k s
    let t := if r.remote then x.2 else x.2.countCmd r.path.val (if granted then St.OK else St.NOT_DELEGATED)
    t.emit (.fmAnswer r.path.val opcode x.1.code x.1.ext x.1.data)

/-- An opcode that Table 5 does not list. -/
def State.fmUnknown (s : State) (r : FmReq) (opcode : Nat) : State :=
  if !s.fmUp r then s
  else if r.remote then (s.fmRefuse St.NOT_DELEGATED).2.emit (.fmAnswer r.path.val opcode Fm.INVALID St.NOT_DELEGATED [])
  else s.emit (.fmAnswer r.path.val opcode Fm.UNSUPPORTED 0 [])

/-- A command that reads what the switch knows: its payload is the fabric manager API's. -/
def fmPlain (s : State) : FmReply × State := ({}, s)

/-- A command carried to the device of a port, whose answer it gives. -/
def State.fmCarry (s : State) (port opcode : Nat) (payload answer : List Byte) : FmReply × State :=
  match s.portRec port with
  | some p =>
    if p.fabric || p.role != .downstream then s.fmRefuse St.OUT_OF_FORMULA
    else if !s.portUp port then s.fmRefuse St.PORT_DOWN
    else ({ data := answer }, s.emit (.fmForward port opcode payload))
  | none => s.fmRefuse St.OUT_OF_FORMULA

/-- A command to the device of a port, for a group. -/
def State.fmDevice (s : State) (r : FmReq) (opcode group port : Nat) (payload answer : List Byte) : State :=
  s.fm r opcode group (s.portMask port) fun t => t.fmCarry port opcode payload answer

/-- Physical Port Control: the standard's operations, 0 to assert and 1 to release PERST, 2 to reset the port. -/
def State.fmPortControl (s : State) (port op : Nat) : FmReply × State :=
  match s.portRec port with
  | none => s.fmRefuse St.OUT_OF_FORMULA
  | some p =>
    if p.fabric || p.role != .downstream then s.fmRefuse St.OUT_OF_FORMULA
    else
      match op with
      | 0 =>
        let s1 := (s.stdDown p true).modStd port fun x => { x with fmReset := true }
        ({ code := Fm.BACKGROUND }, if p.hotplug then s1.setPerst p true else s1)
      | 1 =>
        let s1 := (s.modStd port fun x => { x with fmReset := false }).setLtssm port 0
        ({ code := Fm.BACKGROUND }, if p.hotplug then s1.setPerst p false else s1)
      | 2 => ({ code := Fm.BACKGROUND }, s.stdHotReset p)
      | _ => s.fmRefuse St.BAD_FIELD

/-- Bind vPPB (R328, R329). -/
def State.fmBind (s : State) (usp vppb dsp ld : Nat) : FmReply × State :=
  let r := s.bind { flacon := (s.portFlacon usp).getD 32, usp, dsp, ld := if ld = 0xFFFF then 0xFF else ld, vppb }
  r.2.fmStatus r.1

/-- Unbind vPPB (R330). -/
def State.fmUnbind (s : State) (usp vppb opt : Nat) : FmReply × State :=
  if 2 < opt then s.fmRefuse St.BAD_FIELD
  else
    let r := s.unbind usp vppb opt
    r.2.fmStatus r.1

/-! ### Dynamic capacity (R315) -/

/-- Whether every extent lies inside the decoders of Flacon f (R60). -/
def State.extentsInside (s : State) (f : Nat) (l : List DcExtent) : Bool :=
  l.all fun x => decide (0 < x.len) && coveredBy (s.flAcc f).cur.decoders x.start (x.start + x.len) 4096

/-- The checks that an add and a release share. -/
def State.dcRefused (s : State) (port f : Nat) (l : List DcExtent) : Option Nat :=
  if !(s.portRec port).any fun p => !p.fabric && p.role == .downstream then some St.OUT_OF_FORMULA
  else if s.on (Reg.FL_STATUS f) Fld.FL_STATUS.FENCED then some St.FLACON_FENCED
  else if !s.extentsInside f l then some St.OUT_OF_FORMULA
  else if !s.portUp port then some St.PORT_DOWN
  else none

/-- Initiate Dynamic Capacity Add: the rule epoch advances (R229). -/
def State.dcAdd (s : State) (port f : Nat) (l : List DcExtent) : FmReply × State :=
  match s.dcRefused port f l with
  | some e => s.fmRefuse e
  | none =>
    if !s.canAdvance f false then s.fmRefuse St.EPOCH_BUSY
    else
      let s1 := s.advance f [] none
      let held := l.map fun x => ({ flacon := f, port, extent := x } : DcHeld)
      let s2 : State := { s1 with mgmt := { s1.mgmt with extents := s1.mgmt.extents ++ held } }
      ({ code := Fm.BACKGROUND }, s2.emit (.fmForward port 0x5604 []))

/-- Initiate Dynamic Capacity Release: the rule epoch advances, and the extents wait for the device. -/
def State.dcRelease (s : State) (port f : Nat) (l : List DcExtent) : FmReply × State :=
  match s.dcRefused port f l with
  | some e => s.fmRefuse e
  | none =>
    if !s.canAdvance f false then s.fmRefuse St.EPOCH_BUSY
    else
      let s1 := s.advance f [] none
      let mark (x : DcHeld) : DcHeld :=
        if x.flacon = f ∧ x.port = port ∧ l.contains x.extent then { x with releasing := true } else x
      let s2 : State := { s1 with mgmt := { s1.mgmt with extents := s1.mgmt.extents.map mark } }
      ({ code := Fm.BACKGROUND }, s2.emit (.fmForward port 0x5605 []))

/-- The device reports a release complete: the extents leave the Flacon's map. -/
def State.dcReleased (s : State) (port : Nat) (l : List DcExtent) : State :=
  { s with mgmt := { s.mgmt with
    extents := s.mgmt.extents.filter fun x => !(x.port == port && x.releasing && l.contains x.extent) } }

end Sys2Proof.Machine
end

