-- ==== Sys2Proof/Machine/ExecFm.lean ====
section
/-!
DEFINITION. Machine/ExecFm.lean: the fabric manager API commands of R315 Table 5.
-/
namespace Sys2Proof.Machine

/-- Identify (R315). -/
def execFmIdentify (r : FmReq) (s : State) : Result :=
  done (s.fm r 0x0001 Grp.READ everyFlacon fmPlain)

/-- Background Operation Status (R315). -/
def execFmBackgroundOperationStatus (r : FmReq) (s : State) : Result :=
  done (s.fm r 0x0002 Grp.READ everyFlacon fmPlain)

/-- Get Response Message Limit (R315): the limit last set. -/
def execFmGetResponseMessageLimit (r : FmReq) (s : State) : Result :=
  done (s.fm r 0x0003 Grp.READ everyFlacon fun t => ({ data := bytesOf 1 t.mgmt.fmLimit }, t))

/-- Set Response Message Limit (R315). -/
def execFmSetResponseMessageLimit (r : FmReq) (limit : BitVec 8) (s : State) : Result :=
  done (s.fm r 0x0004 Grp.READ everyFlacon fun t =>
    ({ data := bytesOf 1 limit.toNat }, { t with mgmt := { t.mgmt with fmLimit := limit.toNat } }))

/-- Get Event Records (R315). -/
def execFmGetEventRecords (r : FmReq) (s : State) : Result :=
  done (s.fm r 0x0100 Grp.READ everyFlacon fmPlain)

/-- Clear Event Records (R315). -/
def execFmClearEventRecords (r : FmReq) (s : State) : Result :=
  done (s.fm r 0x0101 Grp.FAULT_CLEAR everyFlacon fmPlain)

/-- Identify Switch Device (R315). -/
def execFmIdentifySwitchDevice (r : FmReq) (s : State) : Result :=
  done (s.fm r 0x5100 Grp.READ everyFlacon fmPlain)

/-- Get Physical Port State (R315): it touches the Flacons of the ports it names. -/
def execFmGetPhysicalPortState (r : FmReq) (ports : List (BitVec 8)) (s : State) : Result :=
  done (s.fm r 0x5101 Grp.READ (ports.foldl (fun m q => m ||| s.portMask q.toNat) 0) fmPlain)

/-- Physical Port Control (R315). -/
def execFmPhysicalPortControl (r : FmReq) (port op : BitVec 8) (s : State) : Result :=
  done (s.fm r 0x5102 Grp.LINK (s.portMask port.toNat) fun t => t.fmPortControl port.toNat op.toNat)

/-- Send PPB CXL.io Configuration Request (R315). -/
def execFmSendPpbConfigRequest (r : FmReq) (port : BitVec 8) (write : Bool) (payload answer : List Byte) (s : State) : Result :=
  done (s.fmDevice r 0x5103 (if write then Grp.BIND else Grp.READ) port.toNat payload answer)

/-- Get Virtual CXL Switch Info (R315). -/
def execFmGetVirtualCxlSwitchInfo (r : FmReq) (usp : BitVec 8) (s : State) : Result :=
  done (s.fm r 0x5200 Grp.READ (s.portMask usp.toNat) fmPlain)

/-- Bind vPPB (R315, R328). -/
def execFmBindVppb (r : FmReq) (usp vppb dsp : BitVec 8) (ld : BitVec 16) (s : State) : Result :=
  done (s.fm r 0x5201 Grp.BIND (s.portMask usp.toNat ||| s.portMask dsp.toNat) fun t =>
    t.fmBind usp.toNat vppb.toNat dsp.toNat ld.toNat)

/-- Unbind vPPB (R315, R330). -/
def execFmUnbindVppb (r : FmReq) (usp vppb option : BitVec 8) (s : State) : Result :=
  done (s.fm r 0x5202 Grp.BIND (s.portMask usp.toNat) fun t =>
    t.fmUnbind usp.toNat vppb.toNat option.toNat)

/-- Tunnel Management Command (R315): checked for the group of the tunnelled command. -/
def execFmTunnelManagementCommand (r : FmReq) (port : BitVec 8) (opcode : BitVec 16) (payload answer : List Byte) (s : State) :
    Result :=
  match tunnelGroup opcode.toNat with
  | some g => done (s.fmDevice r opcode.toNat g port.toNat payload answer)
  | none => done (s.fmUnknown r opcode.toNat)

/-- Send LD CXL.io Configuration Request (R315). -/
def execFmSendLdConfigRequest (r : FmReq) (port : BitVec 8) (write : Bool) (payload answer : List Byte) (s : State) : Result :=
  done (s.fmDevice r 0x5301 (if write then Grp.BIND else Grp.READ) port.toNat payload answer)

/-- Send LD CXL.io Memory Request (R315). -/
def execFmSendLdMemoryRequest (r : FmReq) (port : BitVec 8) (write : Bool) (payload answer : List Byte) (s : State) : Result :=
  done (s.fmDevice r 0x5302 (if write then Grp.BIND else Grp.READ) port.toNat payload answer)

/-- Get LD Info (R315). -/
def execFmGetLdInfo (r : FmReq) (port : BitVec 8) (payload answer : List Byte) (s : State) : Result :=
  done (s.fmDevice r 0x5400 Grp.READ port.toNat payload answer)

/-- Get LD Allocations (R315). -/
def execFmGetLdAllocations (r : FmReq) (port : BitVec 8) (payload answer : List Byte) (s : State) : Result :=
  done (s.fmDevice r 0x5401 Grp.READ port.toNat payload answer)

/-- Get QoS Control (R315). -/
def execFmGetQosControl (r : FmReq) (port : BitVec 8) (payload answer : List Byte) (s : State) : Result :=
  done (s.fmDevice r 0x5403 Grp.READ port.toNat payload answer)

/-- Get QoS Status (R315). -/
def execFmGetQosStatus (r : FmReq) (port : BitVec 8) (payload answer : List Byte) (s : State) : Result :=
  done (s.fmDevice r 0x5405 Grp.READ port.toNat payload answer)

/-- Get QoS Allocated BW (R315). -/
def execFmGetQosAllocatedBw (r : FmReq) (port : BitVec 8) (payload answer : List Byte) (s : State) : Result :=
  done (s.fmDevice r 0x5406 Grp.READ port.toNat payload answer)

/-- Get QoS BW Limit (R315). -/
def execFmGetQosBwLimit (r : FmReq) (port : BitVec 8) (payload answer : List Byte) (s : State) : Result :=
  done (s.fmDevice r 0x5408 Grp.READ port.toNat payload answer)

/-- Set QoS Control (R315). -/
def execFmSetQosControl (r : FmReq) (port : BitVec 8) (payload answer : List Byte) (s : State) : Result :=
  done (s.fmDevice r 0x5404 Grp.WEIGHT port.toNat payload answer)

/-- Set QoS Allocated BW (R315). -/
def execFmSetQosAllocatedBw (r : FmReq) (port : BitVec 8) (payload answer : List Byte) (s : State) : Result :=
  done (s.fmDevice r 0x5407 Grp.WEIGHT port.toNat payload answer)

/-- Set QoS BW Limit (R315). -/
def execFmSetQosBwLimit (r : FmReq) (port : BitVec 8) (payload answer : List Byte) (s : State) : Result :=
  done (s.fmDevice r 0x5409 Grp.WEIGHT port.toNat payload answer)

/-- Get DCD Info (R315). -/
def execFmGetDcdInfo (r : FmReq) (port : BitVec 8) (payload answer : List Byte) (s : State) : Result :=
  done (s.fmDevice r 0x5600 Grp.READ port.toNat payload answer)

/-- Get Host DC Region Configuration (R315). -/
def execFmGetHostDcRegionConfig (r : FmReq) (port : BitVec 8) (payload answer : List Byte) (s : State) : Result :=
  done (s.fmDevice r 0x5601 Grp.READ port.toNat payload answer)

/-- Set DC Region Configuration (R315). -/
def execFmSetDcRegionConfig (r : FmReq) (port : BitVec 8) (payload answer : List Byte) (s : State) : Result :=
  done (s.fmDevice r 0x5602 Grp.DCD port.toNat payload answer)

/-- Get DC Region Extent Lists (R315). -/
def execFmGetDcRegionExtentLists (r : FmReq) (port : BitVec 8) (payload answer : List Byte) (s : State) : Result :=
  done (s.fmDevice r 0x5603 Grp.READ port.toNat payload answer)

/-- Initiate Dynamic Capacity Add (R315). -/
def execFmInitiateDcAdd (r : FmReq) (port flacon : BitVec 8) (extents : List DcExtent) (s : State) : Result :=
  done (s.fm r 0x5604 Grp.DCD (s.portMask port.toNat ||| flMask flacon.toNat) fun t =>
    t.dcAdd port.toNat flacon.toNat extents)

/-- Initiate Dynamic Capacity Release (R315). -/
def execFmInitiateDcRelease (r : FmReq) (port flacon : BitVec 8) (extents : List DcExtent) (s : State) : Result :=
  done (s.fm r 0x5605 Grp.DCD (s.portMask port.toNat ||| flMask flacon.toNat) fun t =>
    t.dcRelease port.toNat flacon.toNat extents)

/-- DC_RELEASE_COMPLETE (R315). -/
def execDcReleaseComplete (port : PortIx) (extents : List DcExtent) (s : State) : Result :=
  whenClocked s fun t => t.dcReleased port.val extents

/-- An opcode not in Table 5 (R316). -/
def execFmUnsupported (r : FmReq) (opcode : BitVec 16) (s : State) : Result := done (s.fmUnknown r opcode.toNat)

end Sys2Proof.Machine
end

