-- ==== Sys2Proof/Machine/ExecHome.lean ====
section
/-!
DEFINITION. Machine/ExecHome.lean: the commands of the home slices (05, 06): what they take from their home queues, their
directory reads, and the notices of their grants.
-/
namespace Sys2Proof.Machine

/-- SLICE_REQUEST_TAKEN (R140, R142 to R147): the request at the head of queue (class mc, Flacon f) of slice n. -/
def execSliceRequestTaken (n : SliceIx) (mc : Fin 8) (f : SliceTake) (s : State) : Result :=
  whenClocked s fun t => t.sliceTake n.val mc.val f.flacon.val f.ecc

/-- BACKING_SET_READ_DONE (R138 to R140). -/
def execBackingSetReadDone (n : SliceIx) (set : Fin 131072) (ecc : EntryEcc) (s : State) : Result :=
  whenClocked s fun t => t.backingRead n.val set.val ecc

/-- VICTIM_OVERFLOW_RETRY (R156). -/
def execVictimOverflowRetry (n : SliceIx) (s : State) : Result := whenClocked s fun t => t.voqRetry n.val

/-- DIRECTORY_SCRUB (R140). -/
def execDirectoryScrub (n : SliceIx) (set : Fin 131072) (ecc : EntryEcc) (s : State) : Result :=
  whenClocked s fun t => t.scrub n.val set.val ecc

/-- MEM_DATA_ARRIVAL (R147, R169). -/
def execMemDataArrival (n : SliceIx) (f : FlaconIx) (s : State) : Result :=
  whenClocked s fun t => t.takeAnswer n.val 2 f.val (fun _ => true) fun m u =>
    if m.op = Op.MEM_DATA then u.memData n.val m else u.badOp n.val m

/-- SNOOP_ANSWER_ARRIVAL (R151, R160); a cell of its class that carries another opcode is discarded (R141). -/
def execSnoopAnswerArrival (n : SliceIx) (f : FlaconIx) (s : State) : Result :=
  whenClocked s fun t => t.takeAnswer n.val 1 f.val (fun h => h.op != Op.MEM_CMP) fun m u =>
    if Op.RSP_I ≤ m.op ∧ m.op ≤ Op.RSP_I_LOST then u.snoopAnswer n.val m.flacon m.op (lineOf m.addr) m.srcEid
    else u.badOp n.val m

/-- WRITEBACK_ARRIVAL (R148, R151, R154). -/
def execWritebackArrival (n : SliceIx) (f : FlaconIx) (s : State) : Result :=
  whenClocked s fun t => t.writebackTake n.val f.val

/-- MEM_CMP_ARRIVAL (R148, R204). -/
def execMemCmpArrival (n : SliceIx) (f : FlaconIx) (s : State) : Result :=
  whenClocked s fun t => t.takeAnswer n.val 1 f.val (fun h => h.op == Op.MEM_CMP) fun m u => u.memCmp n.val m

/-- BI_CONFLICT (R152): it is a request, and waits like one (R145). -/
def execBiConflict (n : SliceIx) (f : FlaconIx) (s : State) : Result :=
  whenClocked s fun t =>
    t.takeAnswer n.val 4 f.val (fun h => !h.io && h.op == Op.BI_CONFLICT) fun m u => u.biConflict n.val m

/-- TX_DONE (R152). -/
def execTxDone (n : SliceIx) (f : FlaconIx) (s : State) : Result :=
  whenClocked s fun t => t.takeAnswer n.val 0 f.val (fun _ => true) fun m u =>
    if m.op = Op.TX_DONE then u.txDone n.val m else u.badOp n.val m

/-- DEVICE_BISNP (R129). -/
def execDeviceBisnp (port : PortIx) (addr : Nat) (ltag : Nat) (s : State) : Result :=
  whenClocked s fun t => t.deviceBisnp port.val addr ltag

/-- HS_QUERY: a write of HS_QUERY_ADDR with GO set. -/
def execHsQuery (path : AccessPath) (n : SliceIx) (addr : BitVec 52) (s : State) : Result :=
  s.written path fun t => (t.wr (Reg.HS_QUERY_ADDR n.val) Fld.HS_QUERY_ADDR.ADDR addr.toNat).dirQuery n.val

end Sys2Proof.Machine
end

