-- ==== Sys2Proof/Machine/ExecLanes.lean ====
section
/-!
DEFINITION. Machine/ExecLanes.lean: the commands of lanes (09): bring-up, margins, re-tunes, tests.
-/
namespace Sys2Proof.Machine

/-! ### Bring-up -/

/-- LANE_SIGNAL_DETECTED (R249). -/
def execLaneSignalDetected (lane : LaneIx) (s : State) : Result := whenClocked s fun t => t.signalDetected lane.val

/-- TRAINING_FRAME (R250, R251). -/
def execTrainingFrame (lane : LaneIx) (f : TrainFrame) (s : State) : Result :=
  whenClocked s fun t => t.trainingFrame lane.val f

/-- LANE_TRAIN_DONE (R249, R256). -/
def execLaneTrainDone (lane : LaneIx) (load : BitVec 8) (s : State) : Result :=
  whenClocked s fun t => t.trainDone lane.val load.toNat

/-- LANE_TRAIN_TIMEOUT (R249, R268). -/
def execLaneTrainTimeout (lane : LaneIx) (s : State) : Result := whenClocked s fun t => t.trainTimeout lane.val

/-- LANE_LOCKED (R247, R249). -/
def execLaneLocked (lane : LaneIx) (s : State) : Result := whenClocked s fun t => t.laneLocked lane.val

/-- LANE_LOCK_TIMEOUT (R249). -/
def execLaneLockTimeout (lane : LaneIx) (s : State) : Result := whenClocked s fun t => t.lockTimeout lane.val

/-- IDENT_FRAME (R252). -/
def execIdentFrame (lane : LaneIx) (f : IdentFrame) (good : Bool) (s : State) : Result :=
  whenClocked s fun t => t.identFrame lane.val f good

/-- LANE_IDENT_DONE (R252, R281, R289). -/
def execLaneIdentDone (port : PortIx) (s : State) : Result :=
  whenClocked s fun t => t.atPort port.val fun u p => if p.fabric then u.identDone p else u

/-- PORT_IDENT_TIMEOUT (R252). -/
def execPortIdentTimeout (port : PortIx) (s : State) : Result :=
  whenClocked s fun t => t.atPort port.val fun u p => if p.fabric then u.identTimeout p else u

/-- LANE_WAIT_EXPIRY (R249). -/
def execLaneWaitExpiry (lane : LaneIx) (s : State) : Result := whenClocked s fun t => t.waitExpiry lane.val

/-- LANE_FAILURE (R248). -/
def execLaneFailure (lane : LaneIx) (s : State) : Result := whenClocked s fun t => t.laneFail lane.val

/-! ### Margins and re-tunes -/

/-- MARGIN_MEASUREMENT (R258, R259). -/
def execMarginMeasurement (lane : LaneIx) (v : BitVec 8) (h : BitVec 6) (load : BitVec 8) (s : State) : Result :=
  whenClocked s fun t => t.measure lane.val v.toNat h.toNat load.toNat

/-- RETUNE_LEVEL_DONE (R260). -/
def execRetuneLevelDone (lane : LaneIx) (v : BitVec 8) (h : BitVec 6) (load : BitVec 8) (s : State) : Result :=
  whenClocked s fun t => t.retuneLevel lane.val v.toNat h.toNat load.toNat

/-- LN_RETUNE (R259): trigger 4. -/
def execLnRetune (path : AccessPath) (lane : LaneIx) (s : State) : Result := s.written path fun t => t.trigger lane.val 4

/-- LN_RETRAIN (R249). -/
def execLnRetrain (path : AccessPath) (lane : LaneIx) (s : State) : Result := s.written path fun t => t.laneRetrain lane.val

/-- LN_DISABLE (R248, R249, R266). -/
def execLnDisable (path : AccessPath) (lane : LaneIx) (on : Bool) (s : State) : Result :=
  s.written path fun t => t.laneDisable lane.val on

/-- HOST_MARGINING_START (R258, R261). -/
def execHostMarginingStart (lane : LaneIx) (s : State) : Result := whenClocked s fun t => t.hostMargin lane.val

/-- HOST_MARGINING_END (R258). -/
def execHostMarginingEnd (lane : LaneIx) (s : State) : Result := whenClocked s fun t => t.hostMarginEnd lane.val

/-! ### Tests -/

/-- LN_PRBS_CTL_WRITE (R263, R266). -/
def execLnPrbsCtlWrite (path : AccessPath) (lane : LaneIx) (data : BitVec 32) (s : State) : Result :=
  s.written path fun t => t.prbsWrite lane.val (data.setWidth 64)

/-- LN_INJECT (R264): the next bit. -/
def execLnInject (path : AccessPath) (lane : LaneIx) (s : State) : Result := s.written path fun t => t.inject lane.val 1

/-- LN_BURST (R264): BURST_LEN bits. -/
def execLnBurst (path : AccessPath) (lane : LaneIx) (s : State) : Result := s.written path fun t => t.injectBurst lane.val

/-- LN_TEST_START (R267). -/
def execLnTestStart (path : AccessPath) (lane : LaneIx) (data : BitVec 32) (s : State) : Result :=
  s.written path fun t => t.testCfgWrite lane.val (data.setWidth 64)

/-- LINKTEST_ADAPT_EXPIRY (R267). -/
def execLinktestAdaptExpiry (lane : LaneIx) (s : State) : Result := whenClocked s fun t => t.testCounts lane.val

/-- PRBS_CHECKER_LOCK (R263). -/
def execPrbsCheckerLock (lane : LaneIx) (s : State) : Result := whenClocked s fun t => t.chkLock lane.val

/-- PRBS_CHECKER_LOCK_LOSS (R263). -/
def execPrbsCheckerLockLoss (lane : LaneIx) (bits errs : Nat) (s : State) : Result :=
  whenClocked s fun t => t.chkLoss lane.val bits errs

end Sys2Proof.Machine
end

