-- ==== Sys2Proof/Machine/ExecLink.lean ====
section
/-!
DEFINITION. Machine/ExecLink.lean: the commands of Ictil and Flocet links (10).
-/
namespace Sys2Proof.Machine

/-- FLIT_SEND (R272 to R280). -/
def execFlitSend (port : PortIx) (s : State) : Result := whenClocked s fun t => t.flitSend port.val

/-- FLIT_RECEIVE (R278, R279), with the codewords decoded since the flit before (R247). -/
def execFlitReceive (port : PortIx) (f : FlitIn) (fec : List LaneFec) (s : State) : Result :=
  whenClocked s fun t => (fec.foldl (fun u x => u.noteFec x) t).flitReceive port.val f

/-- NAK_REPEAT_EXPIRY (R278). -/
def execNakRepeatExpiry (port : PortIx) (s : State) : Result := whenClocked s fun t => t.nakExpiry port.val

/-- REPLAY_TIMEOUT (R279). -/
def execReplayTimeout (port : PortIx) (s : State) : Result := whenClocked s fun t => t.replayTimeout port.val

/-- RX_LANES (R286, R287). -/
def execRxLanes (port : PortIx) (mask : BitVec 16) (s : State) : Result :=
  whenClocked s fun t => t.controlMessage port.val (.rxLanes mask.toNat)

/-- FIR_REQ (R251, R274). -/
def execFirReq (port : PortIx) (lane : Fin 16) (req : BitVec 10) (s : State) : Result :=
  whenClocked s fun t => t.controlMessage port.val (.firReq lane.val req)

/-- FIR_STS (R251, R274): the partner's answer, which the level's own measurement follows. -/
def execFirSts (port : PortIx) (lane : Fin 16) (sts : BitVec 8) (s : State) : Result :=
  whenClocked s fun t => t.controlMessage port.val (.firSts lane.val sts)

/-- LL_INIT (R291, R294). -/
def execLlInit (port : PortIx) (caps : LlCaps) (s : State) : Result :=
  whenClocked s fun t => t.controlMessage port.val (.llInit caps)

/-- PT_LL_RESTART (R291). -/
def execPtLlRestart (path : AccessPath) (port : PortIx) (s : State) : Result :=
  s.written path fun t => t.restartPort port.val

/-- LL_INIT_TIMEOUT (R291). -/
def execLlInitTimeout (port : PortIx) (s : State) : Result := whenClocked s fun t => t.initTimeout port.val

/-- LINGER_EXPIRY (R293, R295, R312). -/
def execLingerExpiry (port : PortIx) (s : State) : Result :=
  whenClocked s fun t => (t.lingerExpiry port.val).stdWindowEnd port.val

end Sys2Proof.Machine
end

