-- ==== Sys2Proof/Machine/ExecMgmt.lean ====
section
/-!
DEFINITION. Machine/ExecMgmt.lean: the management commands of R421 on the four paths, the mailbox (R417), MPORT's reset
(R413), the I3C target (R415, R371) and MCTP (R416).
-/
namespace Sys2Proof.Machine

/-- FORMULA_STAGE (R421). -/
def execFormulaStage (r : MgmtReq) (slot : BitVec 8) (offset : BitVec 32) (data : List Byte) (s : State) : Result :=
  done (s.mailbox r (.formulaStage slot offset data))

/-- FW_STAGE (R421). -/
def execFwStage (r : MgmtReq) (slot : BitVec 8) (offset : BitVec 32) (data : List Byte) (s : State) : Result :=
  done (s.mailbox r (.fwStage slot offset data))

/-- FORMULA_COMMIT with mode LIVE (R61, R62, R437). -/
def execFormulaCommitLive (r : MgmtReq) (slot : BitVec 8) (s : State) : Result :=
  done (s.mailbox r (.formulaCommit slot 0))

/-- FORMULA_COMMIT with mode NEXT_BOOT (R61, R437). -/
def execFormulaCommitNextBoot (r : MgmtReq) (slot : BitVec 8) (s : State) : Result :=
  done (s.mailbox r (.formulaCommit slot 1))

/-- REGION_BATCH (R227, R422). -/
def execRegionBatch (r : MgmtReq) (flacon count : BitVec 8) (entries : List RegionEntry) (s : State) : Result :=
  done (s.mailbox r (.regionBatch flacon count entries))

/-- POWER_ON (R319, R325). -/
def execPowerOn (r : MgmtReq) (slot : BitVec 8) (s : State) : Result :=
  done (s.mailbox r (.powerOn slot))

/-- POWER_OFF (R325). -/
def execPowerOff (r : MgmtReq) (slot : BitVec 8) (s : State) : Result :=
  done (s.mailbox r (.powerOff slot))

/-- SLOT_FAULT_CLEAR (R319, R349). -/
def execSlotFaultClear (r : MgmtReq) (slot : BitVec 8) (s : State) : Result :=
  done (s.mailbox r (.slotFaultClear slot))

/-- SET_LIMIT (R355). -/
def execSetLimit (r : MgmtReq) (slot : BitVec 8) (ma : BitVec 16) (s : State) : Result :=
  done (s.mailbox r (.setLimit slot ma))

/-- BIND (R328). -/
def execBind (r : MgmtReq) (flacon usp dsp ld vppb : BitVec 8) (s : State) : Result :=
  done (s.mailbox r (.bind flacon usp dsp ld vppb))

/-- UNBIND with option 0 (R330). -/
def execUnbindWaitLinkDown (r : MgmtReq) (usp vppb : BitVec 8) (s : State) : Result :=
  done (s.mailbox r (.unbind usp vppb 0))

/-- UNBIND with option 1 (R330). -/
def execUnbindManaged (r : MgmtReq) (usp vppb : BitVec 8) (s : State) : Result :=
  done (s.mailbox r (.unbind usp vppb 1))

/-- UNBIND with option 2 (R330). -/
def execUnbindSurprise (r : MgmtReq) (usp vppb : BitVec 8) (s : State) : Result :=
  done (s.mailbox r (.unbind usp vppb 2))

/-- DECANT_START (R331). -/
def execDecantStart (r : MgmtReq) (src tgt : BitVec 16) (rate : BitVec 32) (s : State) : Result :=
  done (s.mailbox r (.decantStart src tgt rate))

/-- DECANT_CANCEL (R336). -/
def execDecantCancel (r : MgmtReq) (job : BitVec 8) (s : State) : Result :=
  done (s.mailbox r (.decantCancel job))

/-- DECANT_RATE (R334). -/
def execDecantRate (r : MgmtReq) (job : BitVec 8) (rate : BitVec 32) (s : State) : Result :=
  done (s.mailbox r (.decantRate job rate))

/-- IDENTIFY (R421). -/
def execIdentify (r : MgmtReq) (s : State) : Result :=
  done (s.mailbox r .identify)

/-- READ_REG (R421). -/
def execReadReg (r : MgmtReq) (offset : BitVec 32) (size : BitVec 8) (s : State) : Result :=
  done (s.mailbox r (.readReg offset size))

/-- WRITE_REG (R414). -/
def execWriteReg (r : MgmtReq) (offset : BitVec 32) (size : BitVec 8) (value : Word) (s : State) : Result :=
  done (s.mailbox r (.writeReg offset size value))

/-- READ_LOG (R421, R395). -/
def execReadLog (r : MgmtReq) (count : BitVec 16) (s : State) : Result :=
  done (s.mailbox r (.readLog count))

/-- FAULT_CLEAR of a source's pending state (R392). -/
def execFaultClearSource (r : MgmtReq) (source : BitVec 16) (s : State) : Result :=
  done (s.mailbox r (.faultClear 0 source))

/-- FAULT_CLEAR of FL_FAULT (R392). -/
def execFaultClearFlacon (r : MgmtReq) (flacon : BitVec 16) (s : State) : Result :=
  done (s.mailbox r (.faultClear 1 flacon))

/-- FAULT_CLEAR of FL_FERR_CTL (R392). -/
def execFaultClearFlFerr (r : MgmtReq) (flacon : BitVec 16) (s : State) : Result :=
  done (s.mailbox r (.faultClear 2 flacon))

/-- FAULT_CLEAR of FL_VIOL_CTL (R392). -/
def execFaultClearFlViol (r : MgmtReq) (flacon : BitVec 16) (s : State) : Result :=
  done (s.mailbox r (.faultClear 3 flacon))

/-- FAULT_CLEAR of FC_FERR_CTL (R392). -/
def execFaultClearFcFerr (r : MgmtReq) (s : State) : Result :=
  done (s.mailbox r (.faultClear 4 0))

/-- FAULT_CLEAR of FC_ALERT (R392). -/
def execFaultClearAlert (r : MgmtReq) (s : State) : Result :=
  done (s.mailbox r (.faultClear 5 0))

/-- SET_WEIGHT (R111). -/
def execSetWeight (r : MgmtReq) (port flacon : BitVec 8) (weight : BitVec 32) (s : State) : Result :=
  done (s.mailbox r (.setWeight port flacon weight))

/-- SET_RATE (R115). -/
def execSetRate (r : MgmtReq) (port flacon : BitVec 8) (mbps : BitVec 32) (s : State) : Result :=
  done (s.mailbox r (.setRate port flacon mbps))

/-- TRACE_SET (R407). -/
def execTraceSet (r : MgmtReq) (quad : BitVec 8) (en egress : Bool) (f0 f1 : SilFilter) (s : State) : Result :=
  done (s.mailbox r (.traceSet quad en egress f0 f1))

/-- TRACE_READ (R407). -/
def execTraceRead (r : MgmtReq) (quad : BitVec 8) (s : State) : Result :=
  done (s.mailbox r (.traceRead quad))

/-- TRACE_FLUSH (R409). -/
def execTraceFlush (r : MgmtReq) (quad : BitVec 8) (s : State) : Result :=
  done (s.mailbox r (.traceFlush quad))

/-- MIRROR_SET (R410). -/
def execMirrorSet (r : MgmtReq) (flacon : BitVec 8) (base : Word) (ctl : BitVec 32) (s : State) : Result :=
  done (s.mailbox r (.mirrorSet flacon base ctl))

/-- RETRAIN (R421). -/
def execRetrain (r : MgmtReq) (port : BitVec 16) (s : State) : Result :=
  done (s.mailbox r (.retrain port))

/-- LANE_DISABLE (R421). -/
def execLaneDisable (r : MgmtReq) (lane : BitVec 16) (value : BitVec 8) (s : State) : Result :=
  done (s.mailbox r (.laneDisable lane value))

/-- MODE_REQ (R424, R28). -/
def execModeReq (r : MgmtReq) (target : BitVec 8) (s : State) : Result :=
  done (s.mailbox r (.modeReq target))

/-- FW_COMMIT (R437). -/
def execFwCommit (r : MgmtReq) (slot : BitVec 8) (s : State) : Result :=
  done (s.mailbox r (.fwCommit slot))

/-- OWNER_KEY (R441). -/
def execOwnerKey (r : MgmtReq) (slot : BitVec 8) (key : List Byte) (s : State) : Result :=
  done (s.mailbox r (.ownerKey slot key))

/-- KEEP_ERASE (R437). -/
def execKeepErase (r : MgmtReq) (s : State) : Result :=
  done (s.mailbox r .keepErase)

/-- FUSE_PROGRAM of LIFECYCLE (R432). -/
def execFuseProgramLifecycle (r : MgmtReq) (value : BitVec 32) (s : State) : Result :=
  done (s.mailbox r (.fuseProgram 1 value))

/-- FUSE_PROGRAM of MIN_SVN (R431). -/
def execFuseProgramMinSvn (r : MgmtReq) (value : BitVec 32) (s : State) : Result :=
  done (s.mailbox r (.fuseProgram 2 value))

/-- FUSE_PROGRAM of VENDOR_REVOKE (R431). -/
def execFuseProgramVendorRevoke (r : MgmtReq) (value : BitVec 32) (s : State) : Result :=
  done (s.mailbox r (.fuseProgram 3 value))

/-- SEAL_REARM (R440). -/
def execSealRearm (r : MgmtReq) (s : State) : Result :=
  done (s.mailbox r .sealRearm)

/-- ATTEST (R435). -/
def execAttest (r : MgmtReq) (nonce : BitVec 256) (s : State) : Result :=
  done (s.mailbox r (.attest nonce))

/-- GET_CERT (R434). -/
def execGetCert (r : MgmtReq) (index : BitVec 8) (s : State) : Result :=
  done (s.mailbox r (.getCert index))

/-- A request with an opcode that Table 3 does not list (R418). -/
def execUnsupportedOpcode (r : MgmtReq) (opcode : BitVec 16) (s : State) : Result :=
  done (s.mailbox r (.unknown opcode))

/-! ### The mailbox, MPORT, I3C and MCTP -/

/-- MAILBOX_GO_WHILE_BUSY (R417): ignored, but for GO_ERR. -/
def execMailboxGoWhileBusy (s : State) : Result :=
  done (if s.pathUp 0 then s.set1 Reg.MBX_STATUS Fld.MBX_STATUS.GO_ERR else s)

/-- MPORT_FLR (R413): a command taken runs on, and its response is discarded. -/
def execMportFlr (s : State) : Result :=
  done (if s.pathUp 0 then s.dropResponse.msixReset 0x200030000 0x200030040 else s)

/-- The registers that the I3C target shows in RETAIN (R371). -/
def retainShown : List Nat :=
  [Reg.CHIP_ID, Reg.CHIP_SERIAL, Reg.CHIP_MODE, Reg.CHIP_TIME, Reg.CHIP_TSENSE 14, Reg.CHIP_TSENSE 15, Reg.PC_BUS,
    Reg.PC_SUPV_STATUS, Reg.PC_EVENTS, Reg.KS_RETAIN_STATUS, Reg.KS_LOSS, Reg.KS_LOSS_CNT, Reg.KS_LOSS_SEQ]

/-- A 32-bit word in RETAIN: a word of a register that R371 names, or 0. -/
def State.retainWord (s : State) (a : Nat) : Nat :=
  match wordAt a with
  | some (_, ra, upper) =>
    if retainShown.contains ra then (if upper then (s.shown ra).toNat / 2 ^ 32 else (s.shown ra).toNat % 2 ^ 32) else 0
  | none => 0

/-- What an I3C private read after operation 0x01 returns (R415, R371): the 8 bytes at the offset.  DESIGN CHOICE (log entry
74): it is an access of management path 2, and uses that path's latch (R5).  A read that R4 or R36
turns away has no bytes that the specification states: a free value. -/
def State.i3cRead (s : State) (a : Nat) : State :=
  if s.md = .retain then
    s.emit (.i3c (bytesOf 4 (s.retainWord a) ++ bytesOf 4 (s.retainWord (a + 4))))
  else if !s.pathUp 2 then s
  else
    match s.readAt (.mgmt 2) a 8 with
    | (.success v, t) => t.emit (.i3c (bytesOf 8 v.toNat))
    | (_, t) => let f := t.free 64; f.2.emit (.i3c (bytesOf 8 f.1.toNat))

/-- I3C_READ (R415, R371). -/
def execI3cRead (offset : BitVec 32) (s : State) : Result := done (s.i3cRead offset.toNat)

/-- I3C_REQUEST (R415): bytes appended, and the request taken at the STOP. -/
def execI3cRequest (bytes : List Byte) (stop : Bool) (v : MgmtVerdict) (s : State) : Result :=
  done (if s.pathUp 2 then s.i3cAppend bytes stop v else s)

/-- I3C_RESPONSE (R415): the private reads that follow return the response from its first byte. -/
def execI3cResponse (s : State) : Result := done (if s.pathUp 2 then s.emit (.i3c s.mgmt.i3cResp) else s)

/-- The I3C target's dynamic address (MG_I3C). -/
def State.i3cAddress (s : State) (addr : BitVec 7) : State :=
  if s.pathUp 2 then (s.wr Reg.MG_I3C Fld.MG_I3C.DYN_ADDR addr.toNat).set1 Reg.MG_I3C Fld.MG_I3C.DYN_VALID else s

/-- I3C_SETDASA (R415). -/
def execI3cSetdasa (addr : BitVec 7) (s : State) : Result := done (s.i3cAddress addr)

/-- I3C_ENTDAA (R415). -/
def execI3cEntdaa (addr : BitVec 7) (s : State) : Result := done (s.i3cAddress addr)

/-- MCTP_SET_ENDPOINT_ID (R416): the endpoint ID on that binding, paths 1 and 3. -/
def execMctpSetEndpointId (path : Fin 4) (eid : BitVec 8) (s : State) : Result :=
  done (if (path = 1 ∨ path = 3) ∧ s.pathUp path then
    { s with mgmt := { s.mgmt with mctpEid := tabPut s.mgmt.mctpEid path.val eid.toNat } } else s)

end Sys2Proof.Machine
end

