-- ==== Sys2Proof/Machine/ExecPorts.lean ====
section
/-!
DEFINITION. Machine/ExecPorts.lean: the commands of CXL and PCIe ports (11).
-/
namespace Sys2Proof.Machine

/-- DL_DOWN (R311 to R314). -/
def execDlDown (port : PortIx) (s : State) : Result :=
  whenClocked s fun t => t.atPort port.val fun u p => if p.fabric then u else u.stdDown p true

/-- DIRECTORY_WALK_DONE (R314). -/
def execDirectoryWalkDone (port : PortIx) (s : State) : Result := whenClocked s fun t => t.walkDone port.val

/-- DL_UP (R310, R312, R321). -/
def execDlUp (port : PortIx) (l : StdLink) (s : State) : Result :=
  whenClocked s fun t => t.atPort port.val fun u p => if t.lanesTrain then u.stdUp p l else u

/-- LINK_RECOVERY (R256, R310). -/
def execLinkRecovery (port : PortIx) (rate : Fin 6) (width : Fin 17) (load : BitVec 8) (s : State) : Result :=
  whenClocked s fun t => t.atPort port.val fun u p => u.stdRecovery p rate.val width.val load.toNat

/-- PARTNER_RATE_CHANGE (R310). -/
def execPartnerRateChange (port : PortIx) (rate : Fin 6) (width : Fin 17) (load : BitVec 8) (s : State) : Result :=
  whenClocked s fun t => t.atPort port.val fun u p => u.partnerRate p rate.val width.val load.toNat

/-- HDM_COMMIT (R303). -/
def execHdmCommit (port : PortIx) (base size ways : Nat) (s : State) : Result :=
  whenClocked s fun t => t.atPort port.val fun u p => u.hdmCommit p base size ways

/-- VIRAL_RECEIVED (R307). -/
def execViralReceived (port : PortIx) (s : State) : Result :=
  whenClocked s fun t => t.atPort port.val fun u p => u.viralIn p

/-- IDE_KM (R308): an upstream link's keys, from its host. -/
def execIdeKm (port : PortIx) (tx : Bool) (key : BitVec 256) (s : State) : Result :=
  whenClocked s fun t => t.atPort port.val fun u p =>
    if p.fabric ∨ p.role ≠ .upstream then u else u.ideKey port.val tx key

/-- IDE_FAILURE (R308). -/
def execIdeFailure (port : PortIx) (s : State) : Result :=
  whenClocked s fun t => t.atPort port.val fun u p => u.ideFail p

/-- GPF_PHASE1_REQUEST (R309). -/
def execGpfPhase1Request (port : PortIx) (s : State) : Result :=
  whenClocked s fun t => t.atPort port.val fun u p => u.gpfRequest p 1

/-- GPF_PHASE2_REQUEST (R309). -/
def execGpfPhase2Request (port : PortIx) (s : State) : Result :=
  whenClocked s fun t => t.atPort port.val fun u p => u.gpfRequest p 2

/-- GPF_DEVICE_ANSWER (R309). -/
def execGpfDeviceAnswer (port : PortIx) (phase : Fin 3) (s : State) : Result :=
  whenClocked s fun t => t.gpfAnswer port.val phase.val

/-- GPF_TIMEOUT (R309). -/
def execGpfTimeout (port : PortIx) (phase : Fin 3) (s : State) : Result :=
  whenClocked s fun t => t.gpfTimeout port.val phase.val

end Sys2Proof.Machine
end

