-- ==== Sys2Proof/Machine/ExecPower.lean ====
section
/-!
DEFINITION. Machine/ExecPower.lean: the commands of the power companion (13): rails, feeds, bus, slot channels.
-/
namespace Sys2Proof.Machine

/-! ### Rails, feeds and the bus -/

/-- RAIL_OUT_OF_TOLERANCE (R340). -/
def execRailOutOfTolerance (rail : Fin 6) (s : State) : Result := done (s.railOut rail.val)

/-- VAUX_LOW (R340). -/
def execVauxLow (m : BusMeas) (s : State) : Result := done (s.vauxLow m)

/-- FEED_REVERSE (R342). -/
def execFeedReverse (feed : FeedIx) (m : BusMeas) (s : State) : Result := done (s.feedReverse feed m)

/-- FEED_PRESENT (R343). -/
def execFeedPresent (feed : FeedIx) (m : BusMeas) (s : State) : Result := done (s.feedPresentNow feed m)

/-- FEED_LOST (R343). -/
def execFeedLost (feed : FeedIx) (m : BusMeas) (s : State) : Result := done (s.feedLost feed m)

/-- FEED_FET_DROP (R343). -/
def execFeedFetDrop (feed : FeedIx) (m : BusMeas) (s : State) : Result := done (s.feedFet feed m)

/-- FEED_UNBLOCK (R342). -/
def execFeedUnblock (feed : FeedIx) (m : BusMeas) (s : State) : Result := done (s.feedUnblock feed m)

/-- BUS_WARN_SET (R344). -/
def execBusWarnSet (m : BusMeas) (s : State) : Result := done (s.busWarn m)

/-- RIDE_THROUGH_EXPIRY (R345). -/
def execRideThroughExpiry (s : State) : Result := done s.rideEnds

/-- BUS_WARN_CLEAR (R345, R346). -/
def execBusWarnClear (m : BusMeas) (minMv lenUs : Nat) (s : State) : Result := done (s.busWarnClear m minMv lenUs)

/-- BUS_BELOW_RESET (R345). -/
def execBusBelowReset (m : BusMeas) (s : State) : Result := done (s.belowReset m)

/-- BUS_RESET_RECOVERY (R345). -/
def execBusResetRecovery (m : BusMeas) (s : State) : Result := done (s.busBack m)

/-- PWRFAIL_ASSERT (R344). -/
def execPwrfailAssert (s : State) : Result := done (s.pwrfail true)

/-- PWRFAIL_CLEAR (R344, R346). -/
def execPwrfailClear (s : State) : Result := done (s.pwrfail false)

/-- CHARGE_PUMP_START (R342). -/
def execChargePumpStart (m : BusMeas) (s : State) : Result := done (s.pumpStart m)

/-- BUS_BELOW_7V (R342, R357). -/
def execBusBelow7v (m : BusMeas) (s : State) : Result := done (s.busBelow7 m)

/-! ### Slot channels -/

/-- OFFSET_ZERO_DONE (R349, R356). -/
def execOffsetZeroDone (ch : SlotIx) (offset tref : Int) (srcMv : Nat) (s : State) : Result :=
  done (s.zeroDone ch.val offset tref srcMv)

/-- RAMP_COMPLETE (R349). -/
def execRampComplete (ch : SlotIx) (m : ChanMeas) (s : State) : Result := done ((s.rampDone ch.val m).trefMoved ch.val true)

/-- PG_QUALIFIED (R349, R357). -/
def execPgQualified (ch : SlotIx) (m : ChanMeas) (s : State) : Result := done ((s.pgDone ch.val m).trefMoved ch.val true)

/-- CHANNEL_OUTPUT_LOW (R349). -/
def execChannelOutputLow (ch : SlotIx) (m : ChanMeas) (s : State) : Result := done ((s.outputLow ch.val m).trefMoved ch.val true)

/-- CHANNEL_IN_LIMIT (R350). -/
def execChannelInLimit (ch : SlotIx) (m : ChanMeas) (s : State) : Result := done ((s.inLimit ch.val m).trefMoved ch.val true)

/-- IN_LIMIT_CLEAR (R350). -/
def execInLimitClear (ch : SlotIx) (m : ChanMeas) (s : State) : Result := done ((s.inLimitClear ch.val m).trefMoved ch.val true)

/-- FAULT_TIMER_TRIP (R351, R354). -/
def execFaultTimerTrip (ch : SlotIx) (m : ChanMeas) (s : State) : Result := done ((s.trip ch.val 1 m).trefMoved ch.val true)

/-- THERMAL_TRIP (R352, R354). -/
def execThermalTrip (ch : SlotIx) (m : ChanMeas) (diode : Bool) (s : State) : Result :=
  done ((s.trip ch.val (if diode then 4 else 2) m).trefMoved ch.val true)

/-- SPC_DIODE (R352). -/
def execSpcDiode (ch : SlotIx) (m : ChanMeas) (s : State) : Result := done ((s.diodeOut ch.val m).trefMoved ch.val true)

/-- HARD_TRIP (R353, R354). -/
def execHardTrip (ch : SlotIx) (m : ChanMeas) (s : State) : Result := done ((s.trip ch.val 3 m).trefMoved ch.val true)

/-- COOL_DOWN_DONE (R354). -/
def execCoolDownDone (ch : SlotIx) (m : ChanMeas) (s : State) : Result := done ((s.coolDone ch.val m).trefMoved ch.val true)

/-- RAMP_DOWN_DONE (R349). -/
def execRampDownDone (ch : SlotIx) (m : ChanMeas) (s : State) : Result := done ((s.rampDownDone ch.val m).trefMoved ch.val true)

end Sys2Proof.Machine
end

