-- ==== Sys2Proof/Machine/ExecPresence.lean ====
section
/-!
DEFINITION. Machine/ExecPresence.lean: the presence window and the seal (R436 to R439), and the loss of MPORT's link (R456).
-/
namespace Sys2Proof.Machine

/-- PRESENCE_PRESS (R436). -/
def execPresencePress (s : State) : Result := done s.press

/-- PRESENCE_RELEASE (R436). -/
def execPresenceRelease (s : State) : Result := done s.unpress

/-- PRESENCE_WINDOW_EXPIRY (R436). -/
def execPresenceWindowExpiry (s : State) : Result := done s.closeWindow

/-- PRESENCE_CLOSE (R436). -/
def execPresenceClose (path : AccessPath) (s : State) : Result := s.written path fun t => t.closeWindow

/-- SEAL_BREAK (R439). -/
def execSealBreak (s : State) : Result := done s.sealBreak

/-- SEAL_LOOP_CLOSE (R439). -/
def execSealLoopClose (s : State) : Result := done s.sealClose

/-- SEAL_EVENT_FUSE_PROGRAMMED (R439). -/
def execSealEventFuseProgrammed (s : State) : Result := done s.sealFuse

/-- MPORT_LINK_DOWN (R456). -/
def execMportLinkDown (s : State) : Result := done s.mportDown

end Sys2Proof.Machine
end

