-- ==== Sys2Proof/Machine/ExecSlots.lean ====
section
/-!
DEFINITION. Machine/ExecSlots.lean: the events of slots, vPPBs and Decant jobs (12); the commands to them are in
Machine/ExecMgmt.lean.
-/
namespace Sys2Proof.Machine

/-! ### Slots -/

/-- SLOT_PRESENCE_ARRIVE (R319). -/
def execSlotPresenceArrive (n : SlotIx) (s : State) : Result := done (s.slotArrive n.val)

/-- SLOT_PRESENCE_LOSS (R319, R327). -/
def execSlotPresenceLoss (n : SlotIx) (s : State) : Result := done (s.slotLoss n.val)

/-- ATTENTION_BUTTON_PRESS (R323). -/
def execAttentionButtonPress (n : SlotIx) (s : State) : Result := done (s.slotAttn n.val)

/-- SLOT_POWER_GOOD (R319). -/
def execSlotPowerGood (n : SlotIx) (s : State) : Result := done (s.slotPowerGood n.val)

/-- SLOT_POWER_GOOD_LOSS (R319). -/
def execSlotPowerGoodLoss (n : SlotIx) (s : State) : Result := done (s.slotPowerLoss n.val)

/-- SLOT_PERST_DELAY_EXPIRY (R319). -/
def execSlotPerstDelayExpiry (n : SlotIx) (s : State) : Result := done (s.slotPerst n.val)

/-- SLOT_ENUM_DONE (R321). -/
def execSlotEnumDone (n : SlotIx) (lds : List (Nat × Nat)) (s : State) : Result := done (s.slotEnum n.val lds)

/-- SLOT_OUTPUT_DISCHARGED (R319). -/
def execSlotOutputDischarged (n : SlotIx) (s : State) : Result := done (s.slotDischarged n.val)

/-- REMOVAL_DRAIN_END (R326). -/
def execRemovalDrainEnd (n : SlotIx) (s : State) : Result := done (s.removalDrained n.val)

/-- REMOVAL_PORT_DOWN_DELAY (R326). -/
def execRemovalPortDownDelay (n : SlotIx) (s : State) : Result := done (s.removalDown n.val)

/-! ### vPPBs -/

/-- HOST_POWER_CONTROL_WRITE (R324). -/
def execHostPowerControlWrite (usp : PortIx) (vppb : Fin 256) (on : Bool) (s : State) : Result :=
  whenClocked s fun t => t.hostPower usp.val vppb.val on

/-- SLOT_CONTROL_WRITE (R322). -/
def execSlotControlWrite (usp : PortIx) (vppb : Fin 256) (data : BitVec 16) (s : State) : Result :=
  whenClocked s fun t => t.slotControl usp.val vppb.val data

/-- COMMAND_COMPLETED (R322). -/
def execCommandCompleted (usp : PortIx) (vppb : Fin 256) (s : State) : Result :=
  whenClocked s fun t => t.cmdCompleted usp.val vppb.val

/-- VPPB_LINK_DISABLE (R330). -/
def execVppbLinkDisable (usp : PortIx) (vppb : Fin 256) (s : State) : Result :=
  whenClocked s fun t => t.vppbLinkDisable usp.val vppb.val

/-- UNBIND_COMPLETE (R330). -/
def execUnbindComplete (usp : PortIx) (vppb : Fin 256) (s : State) : Result :=
  whenClocked s fun t => t.tryUnbind usp.val vppb.val

/-! ### Decant -/

/-- DECANT_CHUNK_READ_DONE (R332, R334). -/
def execDecantChunkReadDone (j : JobIx) (c : Nat) (poison err : Bool) (s : State) : Result :=
  whenClocked s fun t => t.chunkRead j.val c poison err

/-- DECANT_CHUNK_WRITE_DONE (R332, R333). -/
def execDecantChunkWriteDone (j : JobIx) (c : Nat) (err : Bool) (s : State) : Result :=
  whenClocked s fun t => t.chunkWritten j.val c err

/-- DECANT_FLIP (R335). -/
def execDecantFlip (j : JobIx) (s : State) : Result := whenClocked s fun t => t.firstFlip j.val (t.decantFlip j.val)

/-- DECANT_HOLD_CLEAR (R335). -/
def execDecantHoldClear (j : JobIx) (s : State) : Result := whenClocked s fun t => t.holdClear j.val

/-- DECANT_FLIP_TIMEOUT (R335). -/
def execDecantFlipTimeout (j : JobIx) (s : State) : Result := whenClocked s fun t => t.flipTimeout j.val

/-- DECANT_FLIP_RETRY (R335). -/
def execDecantFlipRetry (j : JobIx) (s : State) : Result := whenClocked s fun t => t.flipRetry j.val

end Sys2Proof.Machine
end

