-- ==== Sys2Proof/Machine/Dispatch.lean ====
section
/-!
DEFINITION. Machine/Dispatch.lean: the meaning of each command.
-/
namespace Sys2Proof.Machine

def exec (i : Instr) (s : State) : Host.Outcome State Fault Refusal :=
  match i with
  | .registerWrite path addr size data => Sys2Proof.Machine.execRegisterWrite path addr size data s
  | .rcFieldRead path addr size => Sys2Proof.Machine.execRcFieldRead path addr size s
  | .lowerHalfRead path addr => Sys2Proof.Machine.execLowerHalfRead path addr s
  | .upperHalfRead path addr => Sys2Proof.Machine.execUpperHalfRead path addr s
  | .lowerHalfWrite path addr data => Sys2Proof.Machine.execLowerHalfWrite path addr data s
  | .upperHalfWrite path addr data => Sys2Proof.Machine.execUpperHalfWrite path addr data s
  | .heldHalfExpiry path => Sys2Proof.Machine.execHeldHalfExpiry path s
  | .sensorUpdate readings => Sys2Proof.Machine.execSensorUpdate readings s
  | .fencePlane n => Sys2Proof.Machine.execFencePlane n s
  | .unfencePlane n => Sys2Proof.Machine.execUnfencePlane n s
  | .fenceSlice n => Sys2Proof.Machine.execFenceSlice n s
  | .fenceTile n => Sys2Proof.Machine.execFenceTile n s
  | .fenceFlacon f => Sys2Proof.Machine.execFenceFlacon f s
  | .quarantine => Sys2Proof.Machine.execQuarantine s
  | .watchdogExpiry sig => Sys2Proof.Machine.execWatchdogExpiry sig s
  | .chipTimeAdj path data => Sys2Proof.Machine.execChipTimeAdj path data s
  | .timeSlewStep => Sys2Proof.Machine.execTimeSlewStep s
  | .ptmExchange correction => Sys2Proof.Machine.execPtmExchange correction s
  | .refLost refSeen => Sys2Proof.Machine.execRefLost refSeen s
  | .sdsPllUnlock pll lanes => Sys2Proof.Machine.execSdsPllUnlock pll lanes s
  | .vauxRise sealHigh => Sys2Proof.Machine.execVauxRise sealHigh s
  | .vauxLoss mainRailsLost => Sys2Proof.Machine.execVauxLoss mainRailsLost s
  | .vauxRecoveryExpiry => Sys2Proof.Machine.execVauxRecoveryExpiry s
  | .pwronResetRelease => Sys2Proof.Machine.execPwronResetRelease s
  | .pwronResetAssert => Sys2Proof.Machine.execPwronResetAssert s
  | .chipReset path key => Sys2Proof.Machine.execChipReset path key s
  | .chipResetStart => Sys2Proof.Machine.execChipResetStart s
  | .modeReqLinktest path => Sys2Proof.Machine.execModeReqLinktest path s
  | .modeReqBoot path => Sys2Proof.Machine.execModeReqBoot path s
  | .modeReqQuarantine path => Sys2Proof.Machine.execModeReqQuarantine path s
  | .perstNAssert => Sys2Proof.Machine.execPerstNAssert s
  | .perstNRelease => Sys2Proof.Machine.execPerstNRelease s
  | .firmwareStart sig => Sys2Proof.Machine.execFirmwareStart sig s
  | .identityKeyDerived sramOk keepOk => Sys2Proof.Machine.execIdentityKeyDerived sramOk keepOk s
  | .formulaBootApply sig => Sys2Proof.Machine.execFormulaBootApply sig s
  | .composeDone => Sys2Proof.Machine.execComposeDone s
  | .formulaStage r slot offset data => Sys2Proof.Machine.execFormulaStage r slot offset data s
  | .fwStage r slot offset data => Sys2Proof.Machine.execFwStage r slot offset data s
  | .formulaCommitLive r slot => Sys2Proof.Machine.execFormulaCommitLive r slot s
  | .formulaCommitNextBoot r slot => Sys2Proof.Machine.execFormulaCommitNextBoot r slot s
  | .recomposeDrainDone => Sys2Proof.Machine.execRecomposeDrainDone s
  | .recomposeDrainTimeout => Sys2Proof.Machine.execRecomposeDrainTimeout s
  | .recomposeSwitch => Sys2Proof.Machine.execRecomposeSwitch s
  | .recomposeRetrainDone => Sys2Proof.Machine.execRecomposeRetrainDone s
  | .messageArrival port a env => Sys2Proof.Machine.execMessageArrival port a env s
  | .admissionRetry at_ mc => Sys2Proof.Machine.execAdmissionRetry at_ mc s
  | .packWaitExpiry tile => Sys2Proof.Machine.execPackWaitExpiry tile s
  | .bodyCellArrival port mc line last bad => Sys2Proof.Machine.execBodyCellArrival port mc line last bad s
  | .planeCellArrival plane src unit => Sys2Proof.Machine.execPlaneCellArrival plane src unit s
  | .reseqRelease src unit mc => Sys2Proof.Machine.execReseqRelease src unit mc s
  | .drainCellArrival plane src unit => Sys2Proof.Machine.execDrainCellArrival plane src unit s
  | .planeFault n crc => Sys2Proof.Machine.execPlaneFault n crc s
  | .planeFenceReq path n => Sys2Proof.Machine.execPlaneFenceReq path n s
  | .planeUnfenceReq path n => Sys2Proof.Machine.execPlaneUnfenceReq path n s
  | .spillPrefetch port => Sys2Proof.Machine.execSpillPrefetch port s
  | .egressSchedule port credits ecc => Sys2Proof.Machine.execEgressSchedule port credits ecc s
  | .txDone n f => Sys2Proof.Machine.execTxDone n f s
  | .ptFlushGo path port => Sys2Proof.Machine.execPtFlushGo path port s
  | .arbiterRound arb req bytes parityBad withdrawn => Sys2Proof.Machine.execArbiterRound arb req bytes parityBad withdrawn s
  | .keepWindowEnd ch => Sys2Proof.Machine.execKeepWindowEnd ch s
  | .arbResync path inst => Sys2Proof.Machine.execArbResync path inst s
  | .arbClrStats path inst => Sys2Proof.Machine.execArbClrStats path inst s
  | .arbPrioWrite path inst n base => Sys2Proof.Machine.execArbPrioWrite path inst n base s
  | .shaperWheelFire => Sys2Proof.Machine.execShaperWheelFire s
  | .topnoteRefill => Sys2Proof.Machine.execTopnoteRefill s
  | .sliceRequestTaken n mc f => Sys2Proof.Machine.execSliceRequestTaken n mc f s
  | .backingSetReadDone n set ecc => Sys2Proof.Machine.execBackingSetReadDone n set ecc s
  | .victimOverflowRetry n => Sys2Proof.Machine.execVictimOverflowRetry n s
  | .directoryScrub n set ecc => Sys2Proof.Machine.execDirectoryScrub n set ecc s
  | .memDataArrival n f => Sys2Proof.Machine.execMemDataArrival n f s
  | .snoopAnswerArrival n f => Sys2Proof.Machine.execSnoopAnswerArrival n f s
  | .writebackArrival n f => Sys2Proof.Machine.execWritebackArrival n f s
  | .memCmpArrival n f => Sys2Proof.Machine.execMemCmpArrival n f s
  | .biConflict n f => Sys2Proof.Machine.execBiConflict n f s
  | .deviceBisnp port addr ltag => Sys2Proof.Machine.execDeviceBisnp port addr ltag s
  | .hsQuery path n addr => Sys2Proof.Machine.execHsQuery path n addr s
  | .tentativeCellAtGate port credits ecc => Sys2Proof.Machine.execTentativeCellAtGate port credits ecc s
  | .tnConfirmArrival port credits => Sys2Proof.Machine.execTnConfirmArrival port credits s
  | .tnCancelArrival port credits => Sys2Proof.Machine.execTnCancelArrival port credits s
  | .accordOpen port slot cookie window watch notify => Sys2Proof.Machine.execAccordOpen port slot cookie window watch notify s
  | .accordTrackerGrant port slot => Sys2Proof.Machine.execAccordTrackerGrant port slot s
  | .accordCommit port slot notify => Sys2Proof.Machine.execAccordCommit port slot notify s
  | .accordAbort port slot => Sys2Proof.Machine.execAccordAbort port slot s
  | .accordClear port slot => Sys2Proof.Machine.execAccordClear port slot s
  | .aliasWrite port slot offset bytes ltag env => Sys2Proof.Machine.execAliasWrite port slot offset bytes ltag env s
  | .aliasRead port slot offset len ltag env => Sys2Proof.Machine.execAliasRead port slot offset len ltag env s
  | .stageNotice tracker => Sys2Proof.Machine.execStageNotice tracker s
  | .accordPrepareStart tracker => Sys2Proof.Machine.execAccordPrepareStart tracker s
  | .prepareAtSlice n tracker => Sys2Proof.Machine.execPrepareAtSlice n tracker s
  | .prepareAnswer n tracker => Sys2Proof.Machine.execPrepareAnswer n tracker s
  | .prepTimeout tracker => Sys2Proof.Machine.execPrepTimeout tracker s
  | .commitRecordWritten tracker => Sys2Proof.Machine.execCommitRecordWritten tracker s
  | .flipAtSlice n tracker ue => Sys2Proof.Machine.execFlipAtSlice n tracker ue s
  | .flipAck n tracker => Sys2Proof.Machine.execFlipAck n tracker s
  | .engineFunctionFlr port => Sys2Proof.Machine.execEngineFunctionFlr port s
  | .regionBatch r flacon count entries => Sys2Proof.Machine.execRegionBatch r flacon count entries s
  | .epochDrainTarget path f target => Sys2Proof.Machine.execEpochDrainTarget path f target s
  | .flFaultClear path f => Sys2Proof.Machine.execFlFaultClear path f s
  | .unfenceDrainDone f => Sys2Proof.Machine.execUnfenceDrainDone f s
  | .laneSignalDetected lane => Sys2Proof.Machine.execLaneSignalDetected lane s
  | .trainingFrame lane f => Sys2Proof.Machine.execTrainingFrame lane f s
  | .laneTrainDone lane load => Sys2Proof.Machine.execLaneTrainDone lane load s
  | .laneTrainTimeout lane => Sys2Proof.Machine.execLaneTrainTimeout lane s
  | .laneLocked lane => Sys2Proof.Machine.execLaneLocked lane s
  | .laneLockTimeout lane => Sys2Proof.Machine.execLaneLockTimeout lane s
  | .identFrame lane f good => Sys2Proof.Machine.execIdentFrame lane f good s
  | .laneIdentDone port => Sys2Proof.Machine.execLaneIdentDone port s
  | .portIdentTimeout port => Sys2Proof.Machine.execPortIdentTimeout port s
  | .laneWaitExpiry lane => Sys2Proof.Machine.execLaneWaitExpiry lane s
  | .laneFailure lane => Sys2Proof.Machine.execLaneFailure lane s
  | .marginMeasurement lane v h load => Sys2Proof.Machine.execMarginMeasurement lane v h load s
  | .retuneLevelDone lane v h load => Sys2Proof.Machine.execRetuneLevelDone lane v h load s
  | .lnRetune path lane => Sys2Proof.Machine.execLnRetune path lane s
  | .lnRetrain path lane => Sys2Proof.Machine.execLnRetrain path lane s
  | .lnDisable path lane on => Sys2Proof.Machine.execLnDisable path lane on s
  | .hostMarginingStart lane => Sys2Proof.Machine.execHostMarginingStart lane s
  | .hostMarginingEnd lane => Sys2Proof.Machine.execHostMarginingEnd lane s
  | .lnPrbsCtlWrite path lane data => Sys2Proof.Machine.execLnPrbsCtlWrite path lane data s
  | .lnInject path lane => Sys2Proof.Machine.execLnInject path lane s
  | .lnBurst path lane => Sys2Proof.Machine.execLnBurst path lane s
  | .lnTestStart path lane data => Sys2Proof.Machine.execLnTestStart path lane data s
  | .linktestAdaptExpiry lane => Sys2Proof.Machine.execLinktestAdaptExpiry lane s
  | .flitSend port => Sys2Proof.Machine.execFlitSend port s
  | .flitReceive port f fec => Sys2Proof.Machine.execFlitReceive port f fec s
  | .nakRepeatExpiry port => Sys2Proof.Machine.execNakRepeatExpiry port s
  | .replayTimeout port => Sys2Proof.Machine.execReplayTimeout port s
  | .rxLanes port mask => Sys2Proof.Machine.execRxLanes port mask s
  | .firReq port lane req => Sys2Proof.Machine.execFirReq port lane req s
  | .firSts port lane sts => Sys2Proof.Machine.execFirSts port lane sts s
  | .llInit port caps => Sys2Proof.Machine.execLlInit port caps s
  | .ptLlRestart path port => Sys2Proof.Machine.execPtLlRestart path port s
  | .llInitTimeout port => Sys2Proof.Machine.execLlInitTimeout port s
  | .lingerExpiry port => Sys2Proof.Machine.execLingerExpiry port s
  | .dlDown port => Sys2Proof.Machine.execDlDown port s
  | .directoryWalkDone port => Sys2Proof.Machine.execDirectoryWalkDone port s
  | .dlUp port l => Sys2Proof.Machine.execDlUp port l s
  | .hdmCommit port base size ways => Sys2Proof.Machine.execHdmCommit port base size ways s
  | .viralReceived port => Sys2Proof.Machine.execViralReceived port s
  | .ideKm port tx key => Sys2Proof.Machine.execIdeKm port tx key s
  | .ideFailure port => Sys2Proof.Machine.execIdeFailure port s
  | .gpfPhase1Request port => Sys2Proof.Machine.execGpfPhase1Request port s
  | .gpfPhase2Request port => Sys2Proof.Machine.execGpfPhase2Request port s
  | .gpfDeviceAnswer port phase => Sys2Proof.Machine.execGpfDeviceAnswer port phase s
  | .gpfTimeout port phase => Sys2Proof.Machine.execGpfTimeout port phase s
  | .partnerRateChange port rate width load => Sys2Proof.Machine.execPartnerRateChange port rate width load s
  | .fmIdentify r => Sys2Proof.Machine.execFmIdentify r s
  | .fmBackgroundOperationStatus r => Sys2Proof.Machine.execFmBackgroundOperationStatus r s
  | .fmGetResponseMessageLimit r => Sys2Proof.Machine.execFmGetResponseMessageLimit r s
  | .fmSetResponseMessageLimit r limit => Sys2Proof.Machine.execFmSetResponseMessageLimit r limit s
  | .fmGetEventRecords r => Sys2Proof.Machine.execFmGetEventRecords r s
  | .fmClearEventRecords r => Sys2Proof.Machine.execFmClearEventRecords r s
  | .fmIdentifySwitchDevice r => Sys2Proof.Machine.execFmIdentifySwitchDevice r s
  | .fmGetPhysicalPortState r ports => Sys2Proof.Machine.execFmGetPhysicalPortState r ports s
  | .fmPhysicalPortControl r port op => Sys2Proof.Machine.execFmPhysicalPortControl r port op s
  | .fmSendPpbConfigRequest r port write payload answer => Sys2Proof.Machine.execFmSendPpbConfigRequest r port write payload answer s
  | .fmGetVirtualCxlSwitchInfo r usp => Sys2Proof.Machine.execFmGetVirtualCxlSwitchInfo r usp s
  | .fmBindVppb r usp vppb dsp ld => Sys2Proof.Machine.execFmBindVppb r usp vppb dsp ld s
  | .fmUnbindVppb r usp vppb option => Sys2Proof.Machine.execFmUnbindVppb r usp vppb option s
  | .fmTunnelManagementCommand r port opcode payload answer => Sys2Proof.Machine.execFmTunnelManagementCommand r port opcode payload answer s
  | .fmSendLdConfigRequest r port write payload answer => Sys2Proof.Machine.execFmSendLdConfigRequest r port write payload answer s
  | .fmSendLdMemoryRequest r port write payload answer => Sys2Proof.Machine.execFmSendLdMemoryRequest r port write payload answer s
  | .fmGetLdInfo r port payload answer => Sys2Proof.Machine.execFmGetLdInfo r port payload answer s
  | .fmGetLdAllocations r port payload answer => Sys2Proof.Machine.execFmGetLdAllocations r port payload answer s
  | .fmGetQosControl r port payload answer => Sys2Proof.Machine.execFmGetQosControl r port payload answer s
  | .fmGetQosStatus r port payload answer => Sys2Proof.Machine.execFmGetQosStatus r port payload answer s
  | .fmGetQosAllocatedBw r port payload answer => Sys2Proof.Machine.execFmGetQosAllocatedBw r port payload answer s
  | .fmGetQosBwLimit r port payload answer => Sys2Proof.Machine.execFmGetQosBwLimit r port payload answer s
  | .fmSetQosControl r port payload answer => Sys2Proof.Machine.execFmSetQosControl r port payload answer s
  | .fmSetQosAllocatedBw r port payload answer => Sys2Proof.Machine.execFmSetQosAllocatedBw r port payload answer s
  | .fmSetQosBwLimit r port payload answer => Sys2Proof.Machine.execFmSetQosBwLimit r port payload answer s
  | .fmGetDcdInfo r port payload answer => Sys2Proof.Machine.execFmGetDcdInfo r port payload answer s
  | .fmGetHostDcRegionConfig r port payload answer => Sys2Proof.Machine.execFmGetHostDcRegionConfig r port payload answer s
  | .fmSetDcRegionConfig r port payload answer => Sys2Proof.Machine.execFmSetDcRegionConfig r port payload answer s
  | .fmGetDcRegionExtentLists r port payload answer => Sys2Proof.Machine.execFmGetDcRegionExtentLists r port payload answer s
  | .fmInitiateDcAdd r port flacon extents => Sys2Proof.Machine.execFmInitiateDcAdd r port flacon extents s
  | .fmInitiateDcRelease r port flacon extents => Sys2Proof.Machine.execFmInitiateDcRelease r port flacon extents s
  | .dcReleaseComplete port extents => Sys2Proof.Machine.execDcReleaseComplete port extents s
  | .fmUnsupported r opcode => Sys2Proof.Machine.execFmUnsupported r opcode s
  | .slotPresenceArrive n => Sys2Proof.Machine.execSlotPresenceArrive n s
  | .slotPresenceLoss n => Sys2Proof.Machine.execSlotPresenceLoss n s
  | .attentionButtonPress n => Sys2Proof.Machine.execAttentionButtonPress n s
  | .slotPowerGood n => Sys2Proof.Machine.execSlotPowerGood n s
  | .slotPowerGoodLoss n => Sys2Proof.Machine.execSlotPowerGoodLoss n s
  | .slotPerstDelayExpiry n => Sys2Proof.Machine.execSlotPerstDelayExpiry n s
  | .slotEnumDone n lds => Sys2Proof.Machine.execSlotEnumDone n lds s
  | .slotOutputDischarged n => Sys2Proof.Machine.execSlotOutputDischarged n s
  | .hostPowerControlWrite usp vppb on => Sys2Proof.Machine.execHostPowerControlWrite usp vppb on s
  | .slotControlWrite usp vppb data => Sys2Proof.Machine.execSlotControlWrite usp vppb data s
  | .powerOn r slot => Sys2Proof.Machine.execPowerOn r slot s
  | .powerOff r slot => Sys2Proof.Machine.execPowerOff r slot s
  | .removalDrainEnd n => Sys2Proof.Machine.execRemovalDrainEnd n s
  | .removalPortDownDelay n => Sys2Proof.Machine.execRemovalPortDownDelay n s
  | .slotFaultClear r slot => Sys2Proof.Machine.execSlotFaultClear r slot s
  | .setLimit r slot ma => Sys2Proof.Machine.execSetLimit r slot ma s
  | .bind r flacon usp dsp ld vppb => Sys2Proof.Machine.execBind r flacon usp dsp ld vppb s
  | .unbindWaitLinkDown r usp vppb => Sys2Proof.Machine.execUnbindWaitLinkDown r usp vppb s
  | .unbindManaged r usp vppb => Sys2Proof.Machine.execUnbindManaged r usp vppb s
  | .unbindSurprise r usp vppb => Sys2Proof.Machine.execUnbindSurprise r usp vppb s
  | .unbindComplete usp vppb => Sys2Proof.Machine.execUnbindComplete usp vppb s
  | .decantStart r src tgt rate => Sys2Proof.Machine.execDecantStart r src tgt rate s
  | .decantCancel r job => Sys2Proof.Machine.execDecantCancel r job s
  | .decantRate r job rate => Sys2Proof.Machine.execDecantRate r job rate s
  | .decantChunkReadDone j c poison err => Sys2Proof.Machine.execDecantChunkReadDone j c poison err s
  | .decantChunkWriteDone j c err => Sys2Proof.Machine.execDecantChunkWriteDone j c err s
  | .decantFlip j => Sys2Proof.Machine.execDecantFlip j s
  | .decantHoldClear j => Sys2Proof.Machine.execDecantHoldClear j s
  | .decantFlipTimeout j => Sys2Proof.Machine.execDecantFlipTimeout j s
  | .decantFlipRetry j => Sys2Proof.Machine.execDecantFlipRetry j s
  | .railOutOfTolerance rail => Sys2Proof.Machine.execRailOutOfTolerance rail s
  | .vauxLow m => Sys2Proof.Machine.execVauxLow m s
  | .feedReverse feed m => Sys2Proof.Machine.execFeedReverse feed m s
  | .feedPresent feed m => Sys2Proof.Machine.execFeedPresent feed m s
  | .feedLost feed m => Sys2Proof.Machine.execFeedLost feed m s
  | .feedFetDrop feed m => Sys2Proof.Machine.execFeedFetDrop feed m s
  | .busWarnSet m => Sys2Proof.Machine.execBusWarnSet m s
  | .rideThroughExpiry => Sys2Proof.Machine.execRideThroughExpiry s
  | .busWarnClear m minMv lenUs => Sys2Proof.Machine.execBusWarnClear m minMv lenUs s
  | .busBelowReset m => Sys2Proof.Machine.execBusBelowReset m s
  | .busResetRecovery m => Sys2Proof.Machine.execBusResetRecovery m s
  | .pwrfailAssert => Sys2Proof.Machine.execPwrfailAssert s
  | .offsetZeroDone ch offset tref srcMv => Sys2Proof.Machine.execOffsetZeroDone ch offset tref srcMv s
  | .rampComplete ch m => Sys2Proof.Machine.execRampComplete ch m s
  | .pgQualified ch m => Sys2Proof.Machine.execPgQualified ch m s
  | .channelOutputLow ch m => Sys2Proof.Machine.execChannelOutputLow ch m s
  | .channelInLimit ch m => Sys2Proof.Machine.execChannelInLimit ch m s
  | .faultTimerTrip ch m => Sys2Proof.Machine.execFaultTimerTrip ch m s
  | .thermalTrip ch m diode => Sys2Proof.Machine.execThermalTrip ch m diode s
  | .spcDiode ch m => Sys2Proof.Machine.execSpcDiode ch m s
  | .hardTrip ch m => Sys2Proof.Machine.execHardTrip ch m s
  | .coolDownDone ch m => Sys2Proof.Machine.execCoolDownDone ch m s
  | .rampDownDone ch m => Sys2Proof.Machine.execRampDownDone ch m s
  | .busBelow7v m => Sys2Proof.Machine.execBusBelow7v m s
  | .drainStopDone => Sys2Proof.Machine.execDrainStopDone s
  | .drainFlushDone => Sys2Proof.Machine.execDrainFlushDone s
  | .drainFlushLimit => Sys2Proof.Machine.execDrainFlushLimit s
  | .drainCloseDone => Sys2Proof.Machine.execDrainCloseDone s
  | .drainCloseLimit => Sys2Proof.Machine.execDrainCloseLimit s
  | .tableSaveDone => Sys2Proof.Machine.execTableSaveDone s
  | .drainPortsDown => Sys2Proof.Machine.execDrainPortsDown s
  | .drainLinksDown => Sys2Proof.Machine.execDrainLinksDown s
  | .drainPhaseLimit => Sys2Proof.Machine.execDrainPhaseLimit s
  | .retainExit => Sys2Proof.Machine.execRetainExit s
  | .reviveLoadDone => Sys2Proof.Machine.execReviveLoadDone s
  | .reviveFirmwareDone sig => Sys2Proof.Machine.execReviveFirmwareDone sig s
  | .reviveCheckDone recordOk => Sys2Proof.Machine.execReviveCheckDone recordOk s
  | .reviveRestoreDone ok => Sys2Proof.Machine.execReviveRestoreDone ok s
  | .replayStart bad => Sys2Proof.Machine.execReplayStart bad s
  | .replayPortWaitExpiry bad => Sys2Proof.Machine.execReplayPortWaitExpiry bad s
  | .replayDone deviceMs totalMs sigOk => Sys2Proof.Machine.execReplayDone deviceMs totalMs sigOk s
  | .ksLossClear path => Sys2Proof.Machine.execKsLossClear path s
  | .faultOccurrence occ => Sys2Proof.Machine.execFaultOccurrence occ s
  | .railFault source => Sys2Proof.Machine.execRailFault source s
  | .railFaultEnd source => Sys2Proof.Machine.execRailFaultEnd source s
  | .fcPendClear path word mask => Sys2Proof.Machine.execFcPendClear path word mask s
  | .fcAlertClear path => Sys2Proof.Machine.execFcAlertClear path s
  | .fcLogAck path n => Sys2Proof.Machine.execFcLogAck path n s
  | .fcInject path data => Sys2Proof.Machine.execFcInject path data s
  | .freezeNAssert => Sys2Proof.Machine.execFreezeNAssert s
  | .fzFreezeWrite path data => Sys2Proof.Machine.execFzFreezeWrite path data s
  | .captureStart path seg => Sys2Proof.Machine.execCaptureStart path seg s
  | .captureAbort path => Sys2Proof.Machine.execCaptureAbort path s
  | .captureDone => Sys2Proof.Machine.execCaptureDone s
  | .jtagIdcode => Sys2Proof.Machine.execJtagIdcode s
  | .jtagBypass => Sys2Proof.Machine.execJtagBypass s
  | .jtagSamplePreload bits => Sys2Proof.Machine.execJtagSamplePreload bits s
  | .jtagExtest => Sys2Proof.Machine.execJtagExtest s
  | .jtagSegmentRead seg bit => Sys2Proof.Machine.execJtagSegmentRead seg bit s
  | .slAck path k n => Sys2Proof.Machine.execSlAck path k n s
  | .slFlush path k => Sys2Proof.Machine.execSlFlush path k s
  | .identify r => Sys2Proof.Machine.execIdentify r s
  | .readReg r offset size => Sys2Proof.Machine.execReadReg r offset size s
  | .writeReg r offset size value => Sys2Proof.Machine.execWriteReg r offset size value s
  | .readLog r count => Sys2Proof.Machine.execReadLog r count s
  | .faultClearSource r source => Sys2Proof.Machine.execFaultClearSource r source s
  | .faultClearFlacon r flacon => Sys2Proof.Machine.execFaultClearFlacon r flacon s
  | .faultClearFlFerr r flacon => Sys2Proof.Machine.execFaultClearFlFerr r flacon s
  | .faultClearFlViol r flacon => Sys2Proof.Machine.execFaultClearFlViol r flacon s
  | .faultClearFcFerr r => Sys2Proof.Machine.execFaultClearFcFerr r s
  | .faultClearAlert r => Sys2Proof.Machine.execFaultClearAlert r s
  | .setWeight r port flacon weight => Sys2Proof.Machine.execSetWeight r port flacon weight s
  | .setRate r port flacon mbps => Sys2Proof.Machine.execSetRate r port flacon mbps s
  | .traceSet r quad en egress f0 f1 => Sys2Proof.Machine.execTraceSet r quad en egress f0 f1 s
  | .traceRead r quad => Sys2Proof.Machine.execTraceRead r quad s
  | .traceFlush r quad => Sys2Proof.Machine.execTraceFlush r quad s
  | .mirrorSet r flacon base ctl => Sys2Proof.Machine.execMirrorSet r flacon base ctl s
  | .retrain r port => Sys2Proof.Machine.execRetrain r port s
  | .laneDisable r lane value => Sys2Proof.Machine.execLaneDisable r lane value s
  | .modeReq r target => Sys2Proof.Machine.execModeReq r target s
  | .fwCommit r slot => Sys2Proof.Machine.execFwCommit r slot s
  | .ownerKey r slot key => Sys2Proof.Machine.execOwnerKey r slot key s
  | .keepErase r => Sys2Proof.Machine.execKeepErase r s
  | .fuseProgramLifecycle r value => Sys2Proof.Machine.execFuseProgramLifecycle r value s
  | .fuseProgramMinSvn r value => Sys2Proof.Machine.execFuseProgramMinSvn r value s
  | .fuseProgramVendorRevoke r value => Sys2Proof.Machine.execFuseProgramVendorRevoke r value s
  | .sealRearm r => Sys2Proof.Machine.execSealRearm r s
  | .attest r nonce => Sys2Proof.Machine.execAttest r nonce s
  | .getCert r index => Sys2Proof.Machine.execGetCert r index s
  | .unsupportedOpcode r opcode => Sys2Proof.Machine.execUnsupportedOpcode r opcode s
  | .mailboxGoWhileBusy => Sys2Proof.Machine.execMailboxGoWhileBusy s
  | .mportFlr => Sys2Proof.Machine.execMportFlr s
  | .i3cRead offset => Sys2Proof.Machine.execI3cRead offset s
  | .i3cRequest bytes stop v => Sys2Proof.Machine.execI3cRequest bytes stop v s
  | .i3cResponse => Sys2Proof.Machine.execI3cResponse s
  | .i3cSetdasa addr => Sys2Proof.Machine.execI3cSetdasa addr s
  | .i3cEntdaa addr => Sys2Proof.Machine.execI3cEntdaa addr s
  | .mctpSetEndpointId path eid => Sys2Proof.Machine.execMctpSetEndpointId path eid s
  | .presencePress => Sys2Proof.Machine.execPresencePress s
  | .presenceWindowExpiry => Sys2Proof.Machine.execPresenceWindowExpiry s
  | .presenceClose path => Sys2Proof.Machine.execPresenceClose path s
  | .sealBreak => Sys2Proof.Machine.execSealBreak s
  | .sealEventFuseProgrammed => Sys2Proof.Machine.execSealEventFuseProgrammed s
  | .pwrfailClear => Sys2Proof.Machine.execPwrfailClear s
  | .prbsCheckerLock lane => Sys2Proof.Machine.execPrbsCheckerLock lane s
  | .prbsCheckerLockLoss lane bits errs => Sys2Proof.Machine.execPrbsCheckerLockLoss lane bits errs s
  | .vppbLinkDisable usp vppb => Sys2Proof.Machine.execVppbLinkDisable usp vppb s
  | .inLimitClear ch m => Sys2Proof.Machine.execInLimitClear ch m s
  | .chargePumpStart m => Sys2Proof.Machine.execChargePumpStart m s
  | .feedUnblock feed m => Sys2Proof.Machine.execFeedUnblock feed m s
  | .sealLoopClose => Sys2Proof.Machine.execSealLoopClose s
  | .presenceRelease => Sys2Proof.Machine.execPresenceRelease s
  | .commandCompleted usp vppb => Sys2Proof.Machine.execCommandCompleted usp vppb s
  | .mportLinkDown => Sys2Proof.Machine.execMportLinkDown s
  | .linkRecovery port rate width load => Sys2Proof.Machine.execLinkRecovery port rate width load s
  | .mirrorRefill => Sys2Proof.Machine.execMirrorRefill s

end Sys2Proof.Machine
end

