-- ==== Sys2Proof/Safety.lean ====
section
/-!
DEFINITION. Safety.lean: the terms of the claims: pins that follow the faults, a state in which nothing waits on the end of
a command, the canonical forms, a path that may write.
-/
namespace Sys2Proof.Machine

/-- FAULT_N and ALERT_N stand where R393 and R394 put them; in FROZEN they hold their level. -/
def State.pinsFollow (s : State) : Bool :=
  s.md == .frozen
    || (s.flt.faultLow == (s.md.drivesFault && s.faultPending)
      && s.flt.alertLow == (s.md.drivesFault && s.on Reg.FC_ALERT Fld.FC_ALERT.PENDING))

/-- Nothing in the Accord engine waits to go on: every QUEUED Accord has become ready, no slice has marks to release, no
alias read can have a tag. -/
def State.engineRests (s : State) : Bool :=
  s.acd.commitQ.all s.acd.readyQ.contains && s.acd.wake.isEmpty && s.aliasNext.isNone

/-- Nothing waits that the end of a command acts on: no occurrence raised, no mirror copy, no GPF phase held, no power
warning standing in a mode that serves, no RECOMPOSE drain, nothing in the Accord engine. -/
def State.quiet (s : State) : Bool :=
  s.engineRests && s.flt.raised.isEmpty && s.mirrorOut.isEmpty && !(s.gpf.any (·.held)) && !(s.md.serving && s.warningStands)
    && !(s.md == .recompose && s.recomposePhase == 3)

/-- A path that reaches the registers and may write them (R28, R412, R414). -/
def State.mayAct (s : State) (p : AccessPath) : Bool := s.reaches p && s.mayWrite p

/-- The outcome is a next state, and P holds of that state. -/
def Answers (r : Result) (P : State → Prop) : Prop := ∃ t, r = .next t ∧ P t

/-- The outcome is the next state that `State.settle` makes of a state u of which P holds: u is what the command itself
leaves, and `settle` is what follows every command at once (the collector takes what was raised, the pins follow). -/
def Leaves (r : Result) (P : State → Prop) : Prop := ∃ u, r = .next u.settle ∧ P u

/-- Every register outside a list reads in t as in s. -/
def State.regsBut (t s : State) (l : List Nat) : Prop := ∀ a, a ∉ l → t.reg a = s.reg a

/-- t is s but for registers of the list. -/
def State.onlyRegs (t s : State) (l : List Nat) : Prop := t = { s with regs := t.regs } ∧ t.regsBut s l

/-- t is in mode m, entered from the mode of s for the given cause (R28). -/
def State.entered (t s : State) (m : Mode) (cause : Nat) : Prop :=
  t.md = m ∧ t.rd Reg.CHIP_MODE Fld.CHIP_MODE.CAUSE = cause ∧
    t.rd Reg.CHIP_MODE Fld.CHIP_MODE.PREV_MODE = s.rd Reg.CHIP_MODE Fld.CHIP_MODE.MODE

/-- An access of a path that reaches the registers and is well formed falls at x of the model's one address space. -/
def State.opensAt (s : State) (p : AccessPath) (a size x : Nat) : Prop :=
  s.reachesAt p a = true ∧ checkAccess p a size = .ok x ∧ inRespBuf x = false ∧ inReqBuf x = false ∧ inWindow x = false

/-- The same for a write, by a path that may write (R414). -/
def State.opensWrite (s : State) (p : AccessPath) (a size x : Nat) : Prop :=
  s.opensAt p a size x ∧ (p = .jtag ∨ s.mayWrite p = true)

/-- Nothing is held in the home array: no line of a slice, no queued or waiting message, no gate entry, no Accord. -/
def State.arrayEmpty (s : State) : Prop :=
  s.home = [] ∧ s.core.queues = [] ∧ s.core.wait = [] ∧ s.core.pack = [] ∧ s.core.gate = [] ∧ s.acd.trk = [] ∧
    s.acd.seals = []

/-- No lane runs a re-tune or waits for one. -/
def State.noRetune (s : State) : Prop := ∀ l, (s.laneSt l).level = 0 ∧ (s.laneSt l).waiting = none

/-- An occurrence of a source, of Flacon f or chip-wide, awaits the collector. -/
def State.hasRaised (s : State) (n : Nat) (f : Option FlaconIx) : Prop := ∃ o ∈ s.flt.raised, o.source = n ∧ o.flacon = f

/-- The scheduler of port q, which holds no started message, chooses the head h of the queue of class c and Flacon f (R108). -/
def State.picks (s : State) (q : Nat) (credits : BitVec 16) (p : PortRec) (c f : Nat) (h : Cell) (r : List Cell) : Prop :=
  s.portRec q = some p ∧ p.port = q ∧ s.portUp q = true ∧ (s.schedPort q).hold = none ∧
    ((s.noteGateHeld p).wfqSettle q fun g => (List.range 8).any fun k => s.eligible p credits k g).choose p credits =
      some (c, f) ∧ s.queue (queueNo q c f) = h :: r

/-- The home queue group of Flacon f at slice n, which is not fenced, is served next with c, a sound single-cell message at
the head of its queue of class mc; r is the rest of that queue (R142). -/
def State.serves (s : State) (n mc f : Nat) (c : Cell) (r : List Cell) : Prop :=
  s.queue (homeQueue n mc f) = c :: r ∧ c.kind = .single ∧ c.more = [] ∧ c.hdrUe = false ∧ c.payUe = false ∧
    c.tailBad = false ∧ (∀ d ∈ c :: r, onReserve d = false) ∧ s.groupNext n f = some (mc, false) ∧ s.sliceFenced n = false

/-- No slice has a transaction or a waiting request. -/
def State.slicesIdle (s : State) : Prop := ∀ n, (s.slice n).trackers = [] ∧ (s.slice n).conflict = []

/-- The same, with the Flacon by its number. -/
def State.hasRaisedOn (s : State) (n : Nat) (f : Option Nat) : Prop :=
  ∃ o ∈ s.flt.raised, o.source = n ∧ o.flacon.map (·.val) = f

/-- Port q has nothing under way: no outbound record, no message arriving or being sent; no lane is re-tuned, no copy job
runs. -/
def State.portIdle (s : State) (q : Nat) : Prop :=
  s.arrayEmpty ∧ s.core.otags = [] ∧ (∀ c < 8, s.arrivingAt q c = none) ∧ (s.schedPort q).hold = none ∧ s.noRetune ∧
    s.decant = []

/-- A fabric manager command that is taken, is granted to its sender, and may act in the mode of s (R315, R316, R57). -/
def State.fmGrants (s : State) (r : FmReq) (group flacons : Nat) : Prop :=
  s.fmUp r = true ∧ r.remote = false ∧ s.holdsGroup r.path.val r.eid group flacons = true ∧ (group = Grp.READ ∨ s.md = .serve)

/-- The fabric manager commands of this switch and of its devices, each with its opcode, its group and the Flacons it
touches (R315 Table 5). -/
def State.fmOf (s : State) : Instr → Option (FmReq × Nat × Nat × Nat)
  | .fmIdentify r => some (r, 0x0001, Grp.READ, everyFlacon)
  | .fmBackgroundOperationStatus r => some (r, 0x0002, Grp.READ, everyFlacon)
  | .fmGetResponseMessageLimit r => some (r, 0x0003, Grp.READ, everyFlacon)
  | .fmSetResponseMessageLimit r _ => some (r, 0x0004, Grp.READ, everyFlacon)
  | .fmGetEventRecords r => some (r, 0x0100, Grp.READ, everyFlacon)
  | .fmClearEventRecords r => some (r, 0x0101, Grp.FAULT_CLEAR, everyFlacon)
  | .fmIdentifySwitchDevice r => some (r, 0x5100, Grp.READ, everyFlacon)
  | .fmPhysicalPortControl r q _ => some (r, 0x5102, Grp.LINK, s.portMask q.toNat)
  | .fmSendPpbConfigRequest r q w _ _ => some (r, 0x5103, if w then Grp.BIND else Grp.READ, s.portMask q.toNat)
  | .fmGetVirtualCxlSwitchInfo r q => some (r, 0x5200, Grp.READ, s.portMask q.toNat)
  | .fmBindVppb r u _ d _ => some (r, 0x5201, Grp.BIND, s.portMask u.toNat ||| s.portMask d.toNat)
  | .fmUnbindVppb r u _ _ => some (r, 0x5202, Grp.BIND, s.portMask u.toNat)
  | .fmSendLdConfigRequest r q w _ _ => some (r, 0x5301, if w then Grp.BIND else Grp.READ, s.portMask q.toNat)
  | .fmSendLdMemoryRequest r q w _ _ => some (r, 0x5302, if w then Grp.BIND else Grp.READ, s.portMask q.toNat)
  | .fmGetLdInfo r q _ _ => some (r, 0x5400, Grp.READ, s.portMask q.toNat)
  | .fmGetLdAllocations r q _ _ => some (r, 0x5401, Grp.READ, s.portMask q.toNat)
  | .fmGetQosControl r q _ _ => some (r, 0x5403, Grp.READ, s.portMask q.toNat)
  | .fmSetQosControl r q _ _ => some (r, 0x5404, Grp.WEIGHT, s.portMask q.toNat)
  | .fmGetQosStatus r q _ _ => some (r, 0x5405, Grp.READ, s.portMask q.toNat)
  | .fmGetQosAllocatedBw r q _ _ => some (r, 0x5406, Grp.READ, s.portMask q.toNat)
  | .fmSetQosAllocatedBw r q _ _ => some (r, 0x5407, Grp.WEIGHT, s.portMask q.toNat)
  | .fmGetQosBwLimit r q _ _ => some (r, 0x5408, Grp.READ, s.portMask q.toNat)
  | .fmSetQosBwLimit r q _ _ => some (r, 0x5409, Grp.WEIGHT, s.portMask q.toNat)
  | .fmGetDcdInfo r q _ _ => some (r, 0x5600, Grp.READ, s.portMask q.toNat)
  | .fmGetHostDcRegionConfig r q _ _ => some (r, 0x5601, Grp.READ, s.portMask q.toNat)
  | .fmSetDcRegionConfig r q _ _ => some (r, 0x5602, Grp.DCD, s.portMask q.toNat)
  | .fmGetDcRegionExtentLists r q _ _ => some (r, 0x5603, Grp.READ, s.portMask q.toNat)
  | .fmInitiateDcAdd r q f _ => some (r, 0x5604, Grp.DCD, s.portMask q.toNat ||| flMask f.toNat)
  | .fmInitiateDcRelease r q f _ => some (r, 0x5605, Grp.DCD, s.portMask q.toNat ||| flMask f.toNat)
  | _ => none

/-- The commands that are carried to the device of a port, with their payload and the device's answer. -/
def fmCarried (r : FmReq) (q : BitVec 8) (w : Bool) (b a : List Byte) : List Instr :=
  [.fmSendPpbConfigRequest r q w b a, .fmSendLdConfigRequest r q w b a, .fmSendLdMemoryRequest r q w b a,
   .fmGetLdInfo r q b a, .fmGetLdAllocations r q b a, .fmGetQosControl r q b a, .fmGetQosStatus r q b a,
   .fmGetQosAllocatedBw r q b a, .fmGetQosBwLimit r q b a, .fmSetQosControl r q b a, .fmSetQosAllocatedBw r q b a,
   .fmSetQosBwLimit r q b a, .fmGetDcdInfo r q b a, .fmGetHostDcRegionConfig r q b a, .fmSetDcRegionConfig r q b a,
   .fmGetDcRegionExtentLists r q b a]

/-- A management command that passes every check before its own (R418, R419, R423, R424, R428, R437): its path carries
commands, its form is right, its sender holds its group, the seal is whole and presence shown where it needs them. -/
def State.takes (s : State) (r : MgmtReq) (c : MgmtCmd) : Prop :=
  r.remote = false ∧ s.pathUp r.path = true ∧ s.md ≠ .drydown ∧ (s.mode.fwRunning = true ∨ s.inRecovery = true) ∧
    isUnknown c = false ∧ r.lenOk = true ∧ r.resOk = true ∧ (s.inRecovery = true → recoveryAccepts c = true) ∧
    (s.inRecovery = false → s.authorised r c = true) ∧
    (gatedCmd c = true → s.on Reg.MG_SEAL Fld.MG_SEAL.SEAL_BROKEN = false ∧ s.on Reg.MG_PRESENCE Fld.MG_PRESENCE.OPEN = true) ∧
    (needsFormula c = true → s.fml.inForce ≠ none)

/-- The response to command c of request r has gone out, with this status, DETAIL and body (R418). -/
def State.repliedTo (t : State) (r : MgmtReq) (c : MgmtCmd) (status detail : Nat) (body : List Byte) : Prop :=
  Out.response r.path.val (mgmtOpcode c) status r.tag detail body ∈ t.out

/-- The registers that taking and answering a command may write: its path's counters, and on path 0 MBX_STATUS. -/
def mgmtRegs (r : MgmtReq) : List Nat := [Reg.MG_PATH_CNT r.path.val, Reg.MBX_STATUS]

/-- PC_BUS shows the companion's readings. -/
def State.showsBus (t : State) (m : BusMeas) : Prop :=
  t.rd Reg.PC_BUS Fld.PC_BUS.VBUS_MV = m.vbus % 2 ^ 16 ∧ t.rd Reg.PC_BUS Fld.PC_BUS.FEED_A_MV = m.feedA % 2 ^ 16 ∧
    t.rd Reg.PC_BUS Fld.PC_BUS.FEED_B_MV = m.feedB % 2 ^ 16 ∧ t.rd Reg.PC_BUS Fld.PC_BUS.VAUX_MV = m.vaux % 2 ^ 16

/-- The registers of slot channel n that an event of it may write, and the status of the port that names it. -/
def State.chanRegs (s : State) (n : Nat) : List Nat :=
  [Reg.SPC_STATE n, Reg.SPC_MEAS n, Reg.SPC_TIMER n, Reg.SPC_CNT n, Reg.SPC_ERR n, Reg.SPC_ZERO n] ++
    match s.slotPort n with
    | some q => [Reg.PT_HP_STATUS q]
    | none => []

/-- The commands of the mailbox, each with its request and what it asks for (R421 Table 3). -/
def mgmtOf : Instr → Option (MgmtReq × MgmtCmd)
  | .formulaStage r slot offset data => some (r, .formulaStage slot offset data)
  | .fwStage r slot offset data => some (r, .fwStage slot offset data)
  | .formulaCommitLive r slot => some (r, .formulaCommit slot 0)
  | .formulaCommitNextBoot r slot => some (r, .formulaCommit slot 1)
  | .regionBatch r flacon count entries => some (r, .regionBatch flacon count entries)
  | .powerOn r slot => some (r, .powerOn slot)
  | .powerOff r slot => some (r, .powerOff slot)
  | .slotFaultClear r slot => some (r, .slotFaultClear slot)
  | .setLimit r slot ma => some (r, .setLimit slot ma)
  | .bind r flacon usp dsp ld vppb => some (r, .bind flacon usp dsp ld vppb)
  | .unbindWaitLinkDown r usp vppb => some (r, .unbind usp vppb 0)
  | .unbindManaged r usp vppb => some (r, .unbind usp vppb 1)
  | .unbindSurprise r usp vppb => some (r, .unbind usp vppb 2)
  | .decantStart r src tgt rate => some (r, .decantStart src tgt rate)
  | .decantCancel r job => some (r, .decantCancel job)
  | .decantRate r job rate => some (r, .decantRate job rate)
  | .identify r => some (r, .identify)
  | .readReg r offset size => some (r, .readReg offset size)
  | .writeReg r offset size value => some (r, .writeReg offset size value)
  | .readLog r count => some (r, .readLog count)
  | .faultClearSource r source => some (r, .faultClear 0 source)
  | .faultClearFlacon r flacon => some (r, .faultClear 1 flacon)
  | .faultClearFlFerr r flacon => some (r, .faultClear 2 flacon)
  | .faultClearFlViol r flacon => some (r, .faultClear 3 flacon)
  | .faultClearFcFerr r => some (r, .faultClear 4 0)
  | .faultClearAlert r => some (r, .faultClear 5 0)
  | .setWeight r port flacon weight => some (r, .setWeight port flacon weight)
  | .setRate r port flacon mbps => some (r, .setRate port flacon mbps)
  | .traceSet r quad en egress f0 f1 => some (r, .traceSet quad en egress f0 f1)
  | .traceRead r quad => some (r, .traceRead quad)
  | .traceFlush r quad => some (r, .traceFlush quad)
  | .mirrorSet r flacon base ctl => some (r, .mirrorSet flacon base ctl)
  | .retrain r port => some (r, .retrain port)
  | .laneDisable r lane value => some (r, .laneDisable lane value)
  | .modeReq r target => some (r, .modeReq target)
  | .fwCommit r slot => some (r, .fwCommit slot)
  | .ownerKey r slot key => some (r, .ownerKey slot key)
  | .keepErase r => some (r, .keepErase)
  | .fuseProgramLifecycle r value => some (r, .fuseProgram 1 value)
  | .fuseProgramMinSvn r value => some (r, .fuseProgram 2 value)
  | .fuseProgramVendorRevoke r value => some (r, .fuseProgram 3 value)
  | .sealRearm r => some (r, .sealRearm)
  | .attest r nonce => some (r, .attest nonce)
  | .getCert r index => some (r, .getCert index)
  | .unsupportedOpcode r opcode => some (r, .unknown opcode)
  | _ => none

/-- A management request that reaches the checks of its command: not from a fabric port or a host, on a path that carries
commands, outside DRYDOWN, with firmware running or in BOOT recovery (R412, R416, R419, R428). -/
def State.hears (s : State) (r : MgmtReq) : Prop :=
  r.remote = false ∧ s.pathUp r.path = true ∧ s.md ≠ .drydown ∧ (s.mode.fwRunning = true ∨ s.inRecovery = true)

/-- Its form is right: an opcode of Table 3, LENGTH and the reserved bytes as R418 asks. -/
def goodForm (r : MgmtReq) (c : MgmtCmd) : Prop := isUnknown c = false ∧ r.lenOk = true ∧ r.resOk = true

/-- Its path may send it in the mode of s (R423, R428). -/
def State.lets (s : State) (r : MgmtReq) (c : MgmtCmd) : Prop :=
  (s.inRecovery = true → recoveryAccepts c = true) ∧ (s.inRecovery = false → s.authorised r c = true)

/-- t is what a command that is turned away leaves of s: its answer is this status alone, and nothing but the counts and
MBX_STATUS changes. -/
def State.turnsAway (t s : State) (r : MgmtReq) (c : MgmtCmd) (status : Nat) : Prop :=
  t.repliedTo r c status 0 [] ∧ t.regsBut s (mgmtRegs r) ∧ t.mgmt.flash = s.mgmt.flash ∧ t.mgmt.fuses = s.mgmt.fuses ∧
    t.acc = s.acc ∧ t.home = s.home ∧ t.fml = s.fml ∧ t.sched = s.sched ∧ t.flt.log = s.flt.log ∧ t.flt.src = s.flt.src

/-- The registers that show fuses (R430, R442). -/
def fuseRegs : List Nat :=
  [Reg.CHIP_SERIAL, Reg.MG_LIFECYCLE, Reg.MG_SEAL] ++ (List.range 16).map fun n => Reg.MG_OWNER_DIGEST n

/-- The registers that show the directory. -/
def dirRegs : List Nat := [Reg.MG_FML_STATUS, Reg.MG_FW_STATUS]

/-- The OWNER_KEY entry that a new key takes: the lowest that is neither programmed nor unreadable (R441). -/
def Fuses.freeEntry (f : Fuses) (i : Nat) : Prop :=
  i < 4 ∧ tabFind f.ownerKey i = none ∧ f.badEntries.getLsbD (4 + i) = false ∧
    ∀ j < i, (tabFind f.ownerKey j).isSome = true ∨ f.badEntries.getLsbD (4 + j) = true

end Sys2Proof.Machine
end

