-- ==== Sys2Proof/Certificates/Slice0/Obligations.lean ====
section
/-!
DEFINITION. Certificates/Slice0/Obligations.lean: the statements for the provers.  Each says for which states and operands a
command answers, and what the state it leaves holds.  Answers speaks of the state that the command leaves; Leaves of that
state before State.settle, which ends every command, has run.
-/
open Sys2Proof Sys2Proof.Machine

/-- Time (R25): a slew adds or withholds one tick each 16 beats and SLEWING shows whether any remains; a written correction
starts a slew, or steps CHIP_TIME at once where it is positive and STEP is set; a PTM exchange does the same on the enabled
upstream port.  Nothing else changes. -/
def Obligations.TimeCorrections : Prop :=
  (∀ (s : State), s.quiet = true → s.md.clocked = true → 0 < s.time.slew → s.now < 2 ^ 64 - 1 →
    Answers (exec .timeSlewStep s) fun t =>
      t.now = s.now + 1 ∧ t.time.slew = s.time.slew - 1 ∧
      (t.on Reg.CHIP_TIME_CTL Fld.CHIP_TIME_CTL.SLEWING ↔ s.time.slew ≠ 1) ∧
      t.regsBut s [Reg.CHIP_TIME, Reg.CHIP_TIME_CTL] ∧ t.mgmt = s.mgmt ∧ t.core = s.core) ∧
  (∀ (s : State), s.quiet = true → s.md.clocked = true → s.time.slew < 0 →
    Answers (exec .timeSlewStep s) fun t =>
      t.now = s.now ∧ t.time.slew = s.time.slew + 1 ∧ t.time.withheld = s.time.withheld + 1 ∧
      (t.on Reg.CHIP_TIME_CTL Fld.CHIP_TIME_CTL.SLEWING ↔ s.time.slew ≠ -1) ∧ t.regsBut s [Reg.CHIP_TIME_CTL]) ∧
  (∀ (s : State) (p : AccessPath) (w : BitVec 32), s.quiet = true → s.mayAct p = true →
    ¬ (0 < timeDelta w.toNat ∧ s.on Reg.CHIP_TIME_CTL Fld.CHIP_TIME_CTL.STEP) →
    Answers (exec (.chipTimeAdj p w) s) fun t =>
      t.time.slew = timeDelta w.toNat ∧
      (t.on Reg.CHIP_TIME_CTL Fld.CHIP_TIME_CTL.SLEWING ↔ timeDelta w.toNat ≠ 0) ∧ t.regsBut s [Reg.CHIP_TIME_CTL]) ∧
  (∀ (s : State) (p : AccessPath) (w : BitVec 32), s.quiet = true → s.mayAct p = true →
    0 < timeDelta w.toNat → s.on Reg.CHIP_TIME_CTL Fld.CHIP_TIME_CTL.STEP = true → s.now + timeDelta w.toNat < 2 ^ 64 →
    Answers (exec (.chipTimeAdj p w) s) fun t =>
      t.now = s.now + timeDelta w.toNat ∧ t.time.slew = 0 ∧
      t.on Reg.CHIP_TIME_CTL Fld.CHIP_TIME_CTL.SLEWING = false ∧ t.regsBut s [Reg.CHIP_TIME, Reg.CHIP_TIME_CTL]) ∧
  (∀ (s : State) (d : Int), s.quiet = true → s.md.clocked = true → d < 0 →
    s.on Reg.CHIP_TIME_CTL Fld.CHIP_TIME_CTL.PTM_EN = true →
    (∃ r, s.portRec (s.rd Reg.CHIP_TIME_CTL Fld.CHIP_TIME_CTL.PTM_PORT) = some r ∧ r.fabric = false ∧ r.role = .upstream) →
    s.portUp (s.rd Reg.CHIP_TIME_CTL Fld.CHIP_TIME_CTL.PTM_PORT) = true →
    Answers (exec (.ptmExchange d) s) fun t =>
      t.time.slew = d ∧ t.on Reg.CHIP_TIME_CTL Fld.CHIP_TIME_CTL.SLEWING = true ∧ t.regsBut s [Reg.CHIP_TIME_CTL])

/-- Power and reset (R28, R368, R455): what VAUX and PWRON_RESET_N do to the mode, the rails shown and what is kept. -/
def Obligations.PowerAndReset : Prop :=
  (∀ (s : State) (b : Bool), s.md = .off →
    Leaves (exec (.vauxRise b) s) fun u =>
      u.entered s .reset 0x01 ∧ u.on Reg.PC_RAIL Fld.PC_RAIL.VAUX_GOOD = true ∧ u.pins.vaux = true ∧ u.pins.sealOpen = b ∧
      u.mgmt.flash = s.mgmt.flash ∧
      u.on Reg.MG_SEAL Fld.MG_SEAL.SEAL_BROKEN = u.sealBrokenNow ∧ u.regsBut s [Reg.CHIP_MODE, Reg.PC_RAIL, Reg.MG_SEAL]) ∧
  (∀ (s : State), s.md ≠ .off →
    Leaves (exec (.vauxLoss true) s) fun u =>
      u.md = .off ∧ u.pins.vaux = false ∧ u.mgmt.flash = s.mgmt.flash ∧ u.mgmt.fuses = s.mgmt.fuses ∧
      u.regsBut .reset [Reg.CHIP_MODE]) ∧
  (∀ (s : State), s.md ≠ .off →
    Leaves (exec (.vauxLoss false) s) fun u =>
      u.entered s .reset 0x01 ∧ u.mgmt.flash = s.mgmt.flash ∧ u.mgmt.fuses = s.mgmt.fuses ∧ u.regsBut .reset [Reg.CHIP_MODE]) ∧
  (∀ (s : State), s.md = .reset → s.mode.vauxWait = true → s.pins.pwronResetN = true → s.pins.vaux = true →
    s.mode.busHold = false → s.on Reg.CHIP_MODE Fld.CHIP_MODE.RETAIN_VALID = false →
    Leaves (exec .vauxRecoveryExpiry s) fun u =>
      u.entered s .boot 0x02 ∧ u.now = 0 ∧ u.beat = 0 ∧ u.mode.vauxWait = false ∧ u.mgmt.flash = s.mgmt.flash) ∧
  (∀ (s : State), s.md = .reset → s.pins.vaux = true → s.mode.busHold = false →
    s.on Reg.CHIP_MODE Fld.CHIP_MODE.RETAIN_VALID = false →
    Leaves (exec .pwronResetRelease s) fun u =>
      u.entered s .boot 0x02 ∧ u.now = 0 ∧ u.beat = 0 ∧ u.pins.pwronResetN = true ∧ u.pins.railsOk = 0xFC ∧
      u.mgmt.flash = s.mgmt.flash) ∧
  (∀ (s : State), s.md = .reset → s.pins.vaux = true → s.mode.busHold = false →
    s.on Reg.CHIP_MODE Fld.CHIP_MODE.RETAIN_VALID = true →
    Leaves (exec .pwronResetRelease s) fun u =>
      u.entered s .revive 0x03 ∧ u.pins.pwronResetN = true ∧ u.now = s.now ∧ u.keep = s.keep ∧
      u.rd Reg.KS_REVIVE_STATUS Fld.KS_REVIVE_STATUS.PHASE = 0) ∧
  (∀ (s : State), s.md = .serve → s.on Reg.CHIP_MODE Fld.CHIP_MODE.RETAIN_VALID = false → s.unwrittenMirror = none →
    Leaves (exec .pwronResetAssert s) fun u =>
      u.entered s .reset 0x01 ∧ u.pins.pwronResetN = false ∧ u.on Reg.MG_PRESENCE Fld.MG_PRESENCE.OPEN = false ∧
      u.on Reg.FZ_CTL Fld.FZ_CTL.READOUT_EN = false ∧ u.now = s.now ∧ u.mgmt.flash = s.mgmt.flash ∧ u.fml.inForce = none ∧ u.home = []) ∧
  (∀ (s : State), s.quiet = true → s.md = .retain →
    Answers (exec .pwronResetAssert s) fun t =>
      t.md = .retain ∧ t.pins.pwronResetN = false ∧ t.on Reg.MG_PRESENCE Fld.MG_PRESENCE.OPEN = false ∧ t.keep = s.keep ∧
      t.on Reg.FZ_CTL Fld.FZ_CTL.READOUT_EN = false ∧ t.regsBut s [Reg.MG_PRESENCE, Reg.FZ_CTL])

/-- The keyed chip reset, mode requests and PERST_N (R28, R32, R33). -/
def Obligations.ResetAndModeRequests : Prop :=
  (∀ (s : State) (p : AccessPath), s.quiet = true → s.mayAct p = true → s.md.clocked = true → s.md ≠ .drydown →
    Answers (exec (.chipReset p 0x5EED0880) s) fun t => t.mode.resetScheduled = true ∧ t.regsBut s []) ∧
  (∀ (s : State) (p : AccessPath) (k : BitVec 32), s.quiet = true → s.mayAct p = true → k ≠ 0x5EED0880 →
    Answers (exec (.chipReset p k) s) fun t => t.mode = s.mode ∧ t.regsBut s []) ∧
  (∀ (s : State), s.md = .serve → s.mode.resetScheduled = true → s.unwrittenMirror = none →
    Leaves (exec .chipResetStart s) fun u =>
      u.md = .boot ∧ u.rd Reg.CHIP_MODE Fld.CHIP_MODE.CAUSE = 0x13 ∧
      u.on Reg.CHIP_MODE Fld.CHIP_MODE.RETAIN_VALID = false ∧ u.now = 0 ∧ u.beat = 0 ∧ u.mode.resetScheduled = false ∧
      u.mgmt.flash = s.mgmt.flash ∧ u.mgmt.fuses = s.mgmt.fuses) ∧
  (∀ (s : State) (p : AccessPath), s.mayAct p = true → s.md = .boot → s.inRecovery = false →
    Leaves (exec (.modeReqLinktest p) s) fun u =>
      u.entered s .linktest 0x05 ∧
      (∀ l < 512, s.on (Reg.LN_TEST_CFG l) Fld.LN_TEST_CFG.EN = true →
        (u.laneSt l).test = some (s.reg (Reg.LN_TEST_CFG l))) ∧
      ((∀ l < 512, s.on (Reg.LN_TEST_CFG l) Fld.LN_TEST_CFG.EN = false) → u.regsBut s [Reg.CHIP_MODE])) ∧
  (∀ (s : State) (p : AccessPath), s.mayAct p = true → s.md = .linktest →
    Leaves (exec (.modeReqBoot p) s) fun u => u.md = .boot ∧ u.rd Reg.CHIP_MODE Fld.CHIP_MODE.CAUSE = 0x12) ∧
  (∀ (s : State) (p : AccessPath), s.mayAct p = true → s.md ∈ [Mode.compose, .serve, .recompose, .revive] →
    Leaves (exec (.modeReqQuarantine p) s) fun u =>
      u.entered s .quarantine 0x0F ∧ Notice.quarantine ∈ u.flt.notices ∧ u.flt.quar = true) ∧
  (∀ (s : State) (p : AccessPath), s.quiet = true → s.mayAct p = true → s.md ∈ [Mode.boot, .quarantine, .drydown] →
    Answers (exec (.modeReqQuarantine p) s) fun t =>
      t.md = s.md ∧ t.on Reg.CHIP_MODE Fld.CHIP_MODE.REQ_ERR = true ∧ t.regsBut s [Reg.CHIP_MODE]) ∧
  (∀ (s : State), s.quiet = true →
    Answers (exec .perstNAssert s) fun t =>
      t.pins.perstN = false ∧ t.reaches .bar0 = false ∧ t.mgmt.respBuf = [] ∧
      t.md = s.md ∧ t.link = s.link ∧ t.regsBut s [Reg.MBX_STATUS]) ∧
  (∀ (s : State), s.quiet = true → s.md.clocked = true → s.mgmt.mportEn = true →
    Answers (exec .perstNRelease s) fun t =>
      t.pins.perstN = true ∧ t.reaches .bar0 = true ∧ t.md = s.md ∧ t.link = s.link ∧ t.regsBut s [])

/-- An access of any other size or alignment completes with Completer Abort and changes no state (R4); in a state in which
nothing else waits on the end of a command, the completion is all that the command leaves. -/
def Obligations.BadAccessAborts : Prop :=
  ∀ (s : State) (p : AccessPath) (a size : Nat), s.quiet = true → s.pinsFollow = true → s.reachesAt p a = true →
    (size ≠ 4 ∧ size ≠ 8 ∨ a % size ≠ 0) →
    (∀ w, exec (.registerWrite p a size w) s = .next (s.emit (.completion p .completerAbort))) ∧
    exec (.rcFieldRead p a size) s = .next (s.emit (.completion p .completerAbort))

/-- Whole accesses (R5, R8): a read answers with what the register shows and clears its RC fields; a write of a register
without effects of its own leaves what Table 3 says; nothing else changes. -/
def Obligations.WholeAccesses : Prop :=
  (∀ (s : State) (p : AccessPath) (a x : Nat) (r : RegRow), s.opensAt p a 8 x → rowAt x = some r → r.wide = true →
    Leaves (exec (.rcFieldRead p a 8) s) fun u =>
      Out.completion p (.success ((s.releaseLatch p x).shown x)) ∈ u.out ∧ u.reg x = clearRc r.fields 0 (s.reg x) ∧
      u.regsBut s [x]) ∧
  (∀ (s : State) (p : AccessPath) (a x : Nat) (r : RegRow) (w : Word), s.opensWrite p a 8 x → rowAt x = some r →
    r.wide = true →
    exec (.registerWrite p a 8 w) s = done ((s.breakHold p).writeReg State.mbxGo r x w)) ∧
  (∀ (s : State) (p : AccessPath) (a x : Nat) (r : RegRow) (w : Word), s.opensWrite p a 4 x →
    rowAt x = some r → r.wide = false →
    exec (.registerWrite p a 4 w) s =
      done ((s.breakHold p).writeReg State.mbxGo r x (BitVec.ofNat 64 (w.toNat % 2 ^ 32)))) ∧
  (∀ (s : State) (p : AccessPath) (a x base : Nat) (r : RegRow) (w : Word), s.opensWrite p a 4 x →
    rowAt x = some r → r.wide = false → (locateBlock x = some (.pc, base) ∨ locateBlock x = some (.spc, base)) →
    Leaves (exec (.registerWrite p a 4 w) s) fun u =>
      u.reg x = storeFields r.fields (s.reg x) (BitVec.ofNat 64 (w.toNat % 2 ^ 32)) ∧ u.regsBut s [x] ∧ u.out = s.out)

/-- Split accesses (R5): the halves of a 64-bit register, the latch and the hold of the path, and a torn write. -/
def Obligations.SplitAccesses : Prop :=
  (∀ (s : State) (p : AccessPath) (a x : Nat) (r : RegRow), s.opensAt p a 4 x → rowAt x = some r → r.wide = true →
    Leaves (exec (.lowerHalfRead p a) s) fun u =>
      Out.completion p (.success (BitVec.ofNat 64 (((s.releaseLatch p x).shown x).toNat % 2 ^ 32))) ∈ u.out ∧
      tabFind u.io.latch p.key = some (x, ((s.releaseLatch p x).shown x).toNat / 2 ^ 32) ∧
      u.reg x = clearRc r.fields 0 (s.reg x) ∧ u.regsBut s [x]) ∧
  (∀ (s : State) (p : AccessPath) (a x b v : Nat) (r : RegRow), s.quiet = true → s.opensAt p a 4 x →
    wordAt x = some (r, b, true) → tabFind s.io.latch p.key = some (b, v) →
    Answers (exec (.upperHalfRead p a) s) fun t =>
      Out.completion p (.success (BitVec.ofNat 64 v)) ∈ t.out ∧ tabFind t.io.latch p.key = none ∧ t.regsBut s []) ∧
  (∀ (s : State) (p : AccessPath) (a x : Nat) (r : RegRow) (d : BitVec 32), s.quiet = true → s.opensWrite p a 4 x →
    rowAt x = some r → r.wide = true → isDoorbell x = false →
    Answers (exec (.lowerHalfWrite p a d) s) fun t =>
      tabFind t.io.hold p.key = some { addr := x, low := d.toNat } ∧ t.regsBut s [] ∧ t.mgmt = s.mgmt ∧ t.core = s.core) ∧
  (∀ (s : State) (p : AccessPath) (a x b : Nat) (r : RegRow) (d : BitVec 32) (h : HeldHalf), s.opensWrite p a 4 x →
    wordAt x = some (r, b, true) → r.wide = true → isDoorbell b = false → tabFind s.io.hold p.key = some h → h.addr = b →
    h.broken = false →
    exec (.upperHalfWrite p a d) s =
      done ((s.setHold p none).writeReg State.mbxGo r b (BitVec.ofNat 64 (h.low + d.toNat * 2 ^ 32)))) ∧
  (∀ (s : State) (p : AccessPath) (a x b : Nat) (r : RegRow) (d : BitVec 32), s.quiet = true → s.opensWrite p a 4 x →
    wordAt x = some (r, b, true) → r.wide = true → isDoorbell b = false → tabFind s.io.hold p.key = none → p = .bar0 →
    Answers (exec (.upperHalfWrite p a d) s) fun t =>
      t.on Reg.CHIP_ACCESS_ERR Fld.CHIP_ACCESS_ERR.TORN = true ∧
      t.rd Reg.CHIP_ACCESS_ERR Fld.CHIP_ACCESS_ERR.PATH = 0 ∧
      t.rd Reg.CHIP_ACCESS_ADDR Fld.CHIP_ACCESS_ADDR.OFFSET = b % 2 ^ Fld.CHIP_ACCESS_ADDR.OFFSET.width ∧
      t.regsBut s [Reg.CHIP_ACCESS_ERR, Reg.CHIP_ACCESS_ADDR]) ∧
  (∀ (s : State) (k : Fin 4) (h : HeldHalf), s.quiet = true → tabFind s.io.hold (AccessPath.mgmt k).key = some h →
    Answers (exec (.heldHalfExpiry (.mgmt k)) s) fun t =>
      tabFind t.io.hold (AccessPath.mgmt k).key = none ∧
      t.on Reg.CHIP_ACCESS_ERR Fld.CHIP_ACCESS_ERR.TORN = true ∧
      t.rd Reg.CHIP_ACCESS_ERR Fld.CHIP_ACCESS_ERR.PATH = 1 + k.val ∧
      t.regsBut s [Reg.CHIP_ACCESS_ERR, Reg.CHIP_ACCESS_ADDR])

/-- A write refused under R414 changes nothing but its count, and completes with no error. -/
def Obligations.RefusedWriteCounted : Prop :=
  ∀ (s : State) (p : AccessPath) (a x size : Nat) (w : Word), s.quiet = true → s.opensAt p a size x → x < bar0Size →
    p ≠ .jtag → s.mayWrite p = false →
    Answers (exec (.registerWrite p a size w) s) fun t =>
      t.rd Reg.MG_BAR0_WR Fld.MG_BAR0_WR.REFUSED =
        min (2 ^ Fld.MG_BAR0_WR.REFUSED.width - 1) (s.rd Reg.MG_BAR0_WR Fld.MG_BAR0_WR.REFUSED + 1) ∧
      t.onlyRegs { s with out := t.out, flt := t.flt } [Reg.MG_BAR0_WR]

/-- Register field types (R8): what a write leaves in each field, by its type, and which fields a read clears. -/
def Obligations.FieldTypes : Prop :=
  ∀ (fs : List FieldRow) (old new : Word) (f : FieldRow),
    (∀ g ∈ fs, g.lo + g.width ≤ 64) → fs.Pairwise (fun g h => g.lo + g.width ≤ h.lo ∨ h.lo + h.width ≤ g.lo) → f ∈ fs →
    (f.ty = .ro ∨ f.ty = .wo ∨ f.ty = .rc ∨ f.ty = .rwf →
      getFld (storeFields fs old new) ⟨f.lo, f.width⟩ = getFld old ⟨f.lo, f.width⟩) ∧
    (f.ty = .rw ∨ f.ty = .rws →
      getFld (storeFields fs old new) ⟨f.lo, f.width⟩ = getFld new ⟨f.lo, f.width⟩) ∧
    (∀ i < f.width, f.ty = .w1c →
      (getFld (storeFields fs old new) ⟨f.lo, f.width⟩).testBit i =
        ((getFld old ⟨f.lo, f.width⟩).testBit i && !(getFld new ⟨f.lo, f.width⟩).testBit i)) ∧
    (∀ i < f.width, f.ty = .w1s →
      (getFld (storeFields fs old new) ⟨f.lo, f.width⟩).testBit i =
        ((getFld old ⟨f.lo, f.width⟩).testBit i || (getFld new ⟨f.lo, f.width⟩).testBit i)) ∧
    getFld (clearRc fs 0 old) ⟨f.lo, f.width⟩ = (if f.ty = .rc then 0 else getFld old ⟨f.lo, f.width⟩)

/-- A counter field saturates at its all-ones value. -/
def Obligations.CountersSaturate : Prop :=
  ∀ (s : State) (a n : Nat) (f : Fld), f.lo + f.width ≤ 64 →
    (s.rd a f + n ≤ 2 ^ f.width - 1 → (s.addTo a f n).rd a f = s.rd a f + n) ∧
    (2 ^ f.width - 1 ≤ s.rd a f + n → (s.addTo a f n).rd a f = 2 ^ f.width - 1) ∧
    s.inc a f = s.addTo a f 1

/-- The notices of the fence bus (R18, R80, R82, R164, R241, R397): what each does, and that it is then taken.  The
containment of what the home array holds is stated where the array holds nothing but a Decant job; ports enter viral. -/
def Obligations.FenceNotices : Prop :=
  (∀ (s : State) (n : PlaneIx) (f : PlaneFence), s.md.clocked = true → tabFind s.core.fences n.val = some f →
    f.noticed = false → f.lifted = false →
    Leaves (exec (.fencePlane n) s) fun u =>
      (∃ g, tabFind u.core.fences n.val = some g ∧ g.noticed = true ∧ g.fault = f.fault) ∧
      (∀ i < 64, (u.rd (Reg.TL_SPRAY i) Fld.TL_SPRAY.ACTIVE).testBit n.val = false) ∧
      Notice.fencePlane n ∉ u.flt.notices) ∧
  (∀ (s : State) (n : PlaneIx), s.md.clocked = true → tabFind s.core.fences n.val = none →
    Leaves (exec (.fencePlane n) s) fun u =>
      (∃ g, tabFind u.core.fences n.val = some g ∧ g.noticed = true ∧ g.fault = false) ∧
      (∀ i < 64, (u.rd (Reg.TL_SPRAY i) Fld.TL_SPRAY.ACTIVE).testBit n.val = false) ∧
      u.on (Reg.XB_STATUS n.val) Fld.XB_STATUS.FENCED = true ∧ Notice.fencePlane n ∉ u.flt.notices) ∧
  (∀ (s : State) (n : PlaneIx), s.quiet = true → s.md.clocked = true → s.noticesBelow 6 = [] →
    (∀ f, tabFind s.core.fences n.val = some f → f.noticed = true → f.waits.all (fun w => w.got == f.planes) = true) →
    Answers (exec (.unfencePlane n) s) fun t =>
      tabFind t.core.fences n.val = none ∧
      (∀ i < 64, (t.rd (Reg.TL_SPRAY i) Fld.TL_SPRAY.ACTIVE).testBit n.val = true) ∧
      t.on (Reg.XB_STATUS n.val) Fld.XB_STATUS.FENCED = false ∧ t.on (Reg.XB_STATUS n.val) Fld.XB_STATUS.DRAINED = false ∧
      Notice.unfencePlane n ∉ t.flt.notices) ∧
  (∀ (s : State) (n : PlaneIx) (f : PlaneFence), s.quiet = true → s.md.clocked = true → s.noticesBelow 6 = [] →
    tabFind s.core.fences n.val = some f → f.noticed = true → f.waits.all (fun w => w.got == f.planes) = false →
    Answers (exec (.unfencePlane n) s) fun t =>
      (∃ g, tabFind t.core.fences n.val = some g ∧ g.lifted = true ∧ g.waits = f.waits) ∧
      (∀ i < 64, (t.rd (Reg.TL_SPRAY i) Fld.TL_SPRAY.ACTIVE).testBit n.val = true)) ∧
  (∀ (s : State) (n : SliceIx), s.md.clocked = true → s.arrayEmpty → n.val ∉ s.acc.fencedSlices →
    s.noticesBelow 2 = [] →
    Leaves (exec (.fenceSlice n) s) fun u =>
      u.acc.fencedSlices = s.acc.fencedSlices ++ [n.val] ∧ u.hasRaised (srcSlice n.val 4) none ∧
      Notice.fenceSlice n ∉ u.flt.notices ∧ u.regsBut s []) ∧
  (∀ (s : State) (n : SliceIx), s.quiet = true → s.md.clocked = true → n.val ∈ s.acc.fencedSlices →
    s.noticesBelow 2 = [] →
    Answers (exec (.fenceSlice n) s) fun t => t.acc = s.acc ∧ t.home = s.home ∧ t.regsBut s []) ∧
  (∀ (s : State) (n : TileIx), s.quiet = true → s.md.clocked = true → s.arrayEmpty → n.val ∉ s.acc.fencedTiles →
    s.noticesBelow 3 = [] →
    Answers (exec (.fenceTile n) s) fun t =>
      t.acc.fencedTiles = s.acc.fencedTiles ++ [n.val] ∧ Notice.fenceTile n ∉ t.flt.notices ∧ t.regsBut s []) ∧
  (∀ (s : State) (f : FlaconIx) (j : Nat) (x : DecantJob), s.md.clocked = true → s.arrayEmpty → s.noRetune →
    s.decant = [(j, x)] → x.st = 1 → x.flight = [] → x.flacon = f.val →
    f.val ∉ s.acc.fencedFlacons → s.noticesBelow 4 = [] →
    Leaves (exec (.fenceFlacon f) s) fun u =>
      u.acc.fencedFlacons = s.acc.fencedFlacons ++ [f.val] ∧
      u.on (Reg.FL_STATUS f.val) Fld.FL_STATUS.FENCED = true ∧
      (∃ y, tabFind u.decant j = some y ∧ y.st = 4 ∧ y.cause = 3) ∧ u.hasRaised Src.DC_CANCELLED (some f) ∧
      Notice.fenceFlacon f ∉ u.flt.notices ∧
      u.regsBut s [Reg.FL_STATUS f.val, Reg.DC_JOB_STATE j, Reg.DC_JOB_CFG j, Reg.DC_JOB_PTR j, Reg.DC_STATUS]) ∧
  (∀ (s : State) (f : FlaconIx), s.quiet = true → s.md.clocked = true → s.noRetune → f.val ∈ s.acc.fencedFlacons →
    s.noticesBelow 4 = [] →
    Answers (exec (.fenceFlacon f) s) fun t =>
      t.acc = s.acc ∧ t.home = s.home ∧ t.core = s.core ∧ Notice.fenceFlacon f ∉ t.flt.notices ∧ t.regsBut s []) ∧
  (∀ (s : State), s.quiet = true → s.md.clocked = true → s.arrayEmpty → s.noRetune → s.decant = [] →
    (∀ p ∈ s.ports, p.port < 128) → s.acc.contained = false → s.noticesBelow 5 = [] →
    (∀ l < 512, s.stage l ≠ Stage.TEST) →
    Answers (exec .quarantine s) fun t =>
      t.acc.contained = true ∧
      (∀ p ∈ s.ports, p.protocol = .cxl → t.on (Reg.PT_STD_STATUS p.port) Fld.PT_STD_STATUS.VIRAL_TX = true) ∧
      Notice.quarantine ∉ t.flt.notices ∧ t.regsBut s (s.ports.map fun p => Reg.PT_STD_STATUS p.port))

/-- Sensors, the firmware watchdog and the clocks (R12, R13, R21, R26, R370). -/
def Obligations.SensorsWatchdogClocks : Prop :=
  (∀ (s : State) (l : List SensorReading) (w : List (BitVec 8)) (x y : Int), s.quiet = true → s.md = .retain → l[14]? = some (some x) →
    l[15]? = some (some y) → -2048 ≤ x → x < 2048 → s.keep.tjRead = false →
    Answers (exec (.sensorUpdate { temps := l, loads := w }) s) fun t =>
      t.temp 14 = x ∧ t.tempValid 14 = true ∧ t.rdS Reg.KS_RETAIN_STATUS Fld.KS_RETAIN_STATUS.MAX_TJ = x ∧
      (2400 < x → t.on Reg.KS_RETAIN_STATUS Fld.KS_RETAIN_STATUS.OVERTEMP = true) ∧
      t.regsBut s [Reg.CHIP_TSENSE 14, Reg.CHIP_TSENSE 15, Reg.KS_RETAIN_STATUS]) ∧
  (∀ (s : State) (l : List SensorReading) (x y : Int), s.quiet = true → s.md = .frozen → l[14]? = some (some x) →
    l[15]? = some (some y) → -2048 ≤ x → x < 2048 → s.sensor.hold8 = false →
    Answers (exec (.sensorUpdate { temps := l, loads := [] }) s) fun t =>
      t.temp 14 = x ∧ t.tempValid 14 = true ∧
      t.rd Reg.KS_RETAIN_STATUS Fld.KS_RETAIN_STATUS.REFRESH_MULT =
        refreshStep (s.rd Reg.KS_RETAIN_STATUS Fld.KS_RETAIN_STATUS.REFRESH_MULT) x %
          2 ^ Fld.KS_RETAIN_STATUS.REFRESH_MULT.width ∧
      t.regsBut s [Reg.CHIP_TSENSE 14, Reg.CHIP_TSENSE 15, Reg.KS_RETAIN_STATUS]) ∧
  (∀ (s : State) (l : List SensorReading) (w : List (BitVec 8)), s.md.clocked = true → s.fml.inForce = none →
    (∀ n < 32, s.on (Reg.SPC_CFG n) Fld.SPC_CFG.VALID = false) → l.length = 16 →
    (∀ (n : Nat) (x : Int), l[n]? = some (some x) → -2048 ≤ x ∧ x < 2048) →
    Leaves (exec (.sensorUpdate { temps := l, loads := w }) s) fun u =>
      (∀ (n : Nat) (x : Int), l[n]? = some (some x) → u.temp n = x ∧ u.tempValid n = true) ∧
      (∀ n : Nat, l[n]? = some none → u.tempValid n = false ∧ u.sensor.failed.testBit n = true) ∧
      (∀ n : Nat, l[n]? = some none → s.sensor.failed.testBit n = false → u.hasRaised Src.CHIP_SENSOR none) ∧
      ((∃ n < 14, ∃ x, l[n]? = some (some x) ∧ 2000 < x) → u.on Reg.CHIP_TJ Fld.CHIP_TJ.THROTTLE = true)) ∧
  (∀ (s : State) (v : SigVerdict), s.md.clocked = true → s.md ≠ .boot → s.mode.fwRunning = true →
    Leaves (exec (.watchdogExpiry v) s) fun u =>
      u.hasRaised Src.CHIP_WATCHDOG none ∧ u.on Reg.CHIP_BOOT_STATUS Fld.CHIP_BOOT_STATUS.WDOG = true ∧
      u.mode.fwRunning = true ∧ u.regsBut s [Reg.CHIP_BOOT_STATUS]) ∧
  (∀ (s : State) (b : Bool), s.md.clocked = true → s.md ∉ [Mode.drydown, .revive] → s.unwrittenMirror = none →
    Leaves (exec (.refLost b) s) fun u =>
      u.entered s .frozen 0x11 ∧ u.on Reg.CHIP_CLK_STATUS Fld.CHIP_CLK_STATUS.REF_LOST = true ∧
      u.on Reg.CHIP_CLK_STATUS Fld.CHIP_CLK_STATUS.REF_OK = b ∧
      u.on Reg.CHIP_CLK_STATUS Fld.CHIP_CLK_STATUS.ROOT_LOCK = false ∧
      u.on Reg.FZ_STATUS Fld.FZ_STATUS.FROZEN = true ∧ u.rd Reg.FZ_STATUS Fld.FZ_STATUS.CAUSE = 3 ∧
      u.on Reg.FZ_STATUS Fld.FZ_STATUS.CLEAN = false ∧ u.reg Reg.FZ_TIME = s.reg Reg.CHIP_TIME ∧
      u.reg Reg.FZ_BEAT = s.reg Reg.CHIP_BEAT ∧ u.reaches .bar0 = false ∧
      u.regsBut s [Reg.CHIP_CLK_STATUS, Reg.FZ_BEAT, Reg.FZ_TIME, Reg.FZ_STATUS, Reg.CHIP_MODE, Reg.KS_RETAIN_STATUS]) ∧
  (∀ (s : State) (k : Fin 8) (l : List LaneIx), s.quiet = true → s.md.clocked = true → s.ports = [] →
    Answers (exec (.sdsPllUnlock k l) s) fun t =>
      (t.rd Reg.CHIP_CLK_STATUS Fld.CHIP_CLK_STATUS.SDS_UNLOCK).testBit k.val = true ∧ t.md = s.md ∧
      t.regsBut s [Reg.CHIP_CLK_STATUS]) ∧
  (∀ (s : State) (k : Fin 8) (l : LaneIx) (p : PortRec), s.md.clocked = true → s.lanePort l.val = some p → p.fabric = false →
    quadOf (l.val / 8) ≠ k.val / 2 → s.quiet = true →
    Answers (exec (.sdsPllUnlock k [l]) s) fun t =>
      (t.rd Reg.CHIP_CLK_STATUS Fld.CHIP_CLK_STATUS.SDS_UNLOCK).testBit k.val = true ∧
      t.regsBut s [Reg.CHIP_CLK_STATUS])

/-- The boot sequence (R28, R39, R428, R433): each way out of each step that the specification names. -/
def Obligations.BootSequence : Prop :=
  (∀ (s : State) (v : SigVerdict), s.md = .boot → s.mode.fwRunning = false → s.inRecovery = false → s.flt.held = [] →
    s.mgmt.fuses.fieldErr = true →
    Leaves (exec (.firmwareStart v) s) fun u =>
      u.inRecovery = true ∧ u.rd Reg.CHIP_MODE Fld.CHIP_MODE.CAUSE = 0x06 ∧
      u.rd Reg.CHIP_BOOT_STATUS Fld.CHIP_BOOT_STATUS.ERROR = 0x0811 ∧ u.mode.fwRunning = false) ∧
  (∀ (s : State) (v : SigVerdict), s.md = .boot → s.mode.fwRunning = false → s.inRecovery = false → s.flt.held = [] →
    s.mgmt.fuses.fieldErr = false → s.mgmt.fuses.lifecycle ≠ 0 → s.bootSrc ≠ 2 → s.bootSrc ≠ 3 →
    s.mgmt.flashAbsent = true →
    Leaves (exec (.firmwareStart v) s) fun u =>
      u.inRecovery = true ∧ u.rd Reg.CHIP_BOOT_STATUS Fld.CHIP_BOOT_STATUS.ERROR = 0x0815) ∧
  (∀ (s : State) (v : SigVerdict), s.md = .boot → s.mode.fwRunning = false → s.inRecovery = false → s.flt.held = [] →
    s.mgmt.fuses.fieldErr = false → s.mgmt.fuses.lifecycle ≠ 0 → s.bootSrc ≠ 2 → s.bootSrc ≠ 3 →
    s.mgmt.flashAbsent = false → s.directory.fwPendingValid = false →
    fwCheck (fwImage s.mgmt.flash s.directory.fwActive) s.mgmt.fuses (v.of s.directory.fwActive) = none →
    Leaves (exec (.firmwareStart v) s) fun u =>
      u.md = .boot ∧ u.mode.fwRunning = true ∧ u.mgmt.mportEn = true ∧
      u.rd Reg.MG_FW_STATUS Fld.MG_FW_STATUS.SLOT = s.directory.fwActive % 2 ^ Fld.MG_FW_STATUS.SLOT.width ∧
      u.on Reg.CHIP_CLK_STATUS Fld.CHIP_CLK_STATUS.ROOT_LOCK = true ∧ u.flt.running = true ∧
      u.mgmt.flash = s.mgmt.flash) ∧
  (∀ (s : State), s.quiet = true → s.md = .boot → s.mode.fwRunning = true → s.mode.selfTested = false →
    Answers (exec (.identityKeyDerived true true) s) fun t =>
      t.mode.selfTested = true ∧ t.mode.identityReady = !s.mgmt.fuses.lifecycle.getLsbD 2 ∧
      t.on Reg.MG_LIFECYCLE Fld.MG_LIFECYCLE.IDENTITY_READY = !s.mgmt.fuses.lifecycle.getLsbD 2 ∧
      t.md = .boot ∧ t.regsBut s [Reg.MG_LIFECYCLE]) ∧
  (∀ (s : State) (b : Bool), s.md = .boot → s.mode.fwRunning = true → s.mode.selfTested = false →
    s.mode.fwFromPending = false →
    Leaves (exec (.identityKeyDerived false b) s) fun u =>
      u.inRecovery = true ∧ u.rd Reg.CHIP_BOOT_STATUS Fld.CHIP_BOOT_STATUS.ERROR = 0x0813 ∧ u.mode.fwRunning = false ∧
      u.regsBut s [Reg.CHIP_MODE, Reg.CHIP_BOOT_STATUS, Reg.MBX_STATUS]) ∧
  (∀ (s : State) (v : SigVerdict) (f : Formula), s.md = .boot → s.mode.fwRunning = true → s.mode.selfTested = true →
    s.inRecovery = false → s.mode.fwFromPending = false → s.directory.fmlPendingValid = false →
    s.validateSlot s.directory.fmlActive (v.of s.directory.fmlActive) = .inl f →
    (∀ p ∈ f.ports, p.fabric = false ∧ p.slot = 0xFF) → f.slots = [] → (∀ n < 32, s.ch n = Ch.OFF) →
    Leaves (exec (.formulaBootApply v) s) fun u =>
      u.entered s .compose 0x04 ∧ u.fml.inForce = some f ∧ u.fml.slot = s.directory.fmlActive ∧ u.flt.sev = f.severity ∧
      u.mgmt.flash = s.mgmt.flash) ∧
  (∀ (s : State) (v : SigVerdict) (e e' : FmlErr), s.md = .boot → s.mode.fwRunning = true → s.mode.selfTested = true →
    s.inRecovery = false → s.mode.fwFromPending = false → s.directory.fmlPendingValid = false →
    s.validateSlot s.directory.fmlActive (v.of s.directory.fmlActive) = .inr e →
    s.validateSlot (1 - s.directory.fmlActive) (v.of (1 - s.directory.fmlActive)) = .inr e' →
    Leaves (exec (.formulaBootApply v) s) fun u =>
      u.inRecovery = true ∧ u.rd Reg.CHIP_MODE Fld.CHIP_MODE.CAUSE = 0x06 ∧
      u.rd Reg.CHIP_BOOT_STATUS Fld.CHIP_BOOT_STATUS.ERROR = e.code % 2 ^ Fld.CHIP_BOOT_STATUS.ERROR.width ∧
      u.fml.inForce = s.fml.inForce) ∧
  (∀ (s : State), s.md = .compose → (∀ q ∈ s.fml.retrain, ∀ p, s.portRec q = some p → p.fabric = false) →
    Leaves (exec .composeDone s) fun u =>
      u.entered s .serve 0x07 ∧ u.fml.retrain = [] ∧ u.regsBut s [Reg.CHIP_MODE]) ∧
  (∀ (s : State) (q : Nat) (p : PortRec), s.quiet = true → s.md = .compose → q ∈ s.fml.retrain → s.portRec q = some p →
    p.fabric = true →
    Answers (exec .composeDone s) fun t => t.md = .compose ∧ t.fml = s.fml ∧ t.regsBut s [])

/-- RECOMPOSE (R28, R63): the phases that the sequencer passes through. -/
def Obligations.RecomposePhases : Prop :=
  (∀ (s : State), s.md = .recompose → s.recomposePhase = 3 → s.affectedFlacons.all s.drainedOf = true →
    Leaves (exec .recomposeDrainDone s) fun u =>
      u.recomposePhase = 4 ∧ u.md = .recompose ∧ u.regsBut s [Reg.MG_FML_STATUS]) ∧
  (∀ (s : State), s.md = .recompose → s.recomposePhase = 3 → s.arrayEmpty →
    (∀ p ∈ s.ports, p.flacon ∉ s.affectedFlacons) →
    Leaves (exec .recomposeDrainTimeout s) fun u =>
      u.recomposePhase = 4 ∧ u.on Reg.MG_FML_STATUS Fld.MG_FML_STATUS.DRAIN_TIMEOUT = true ∧
      u.regsBut s [Reg.MG_FML_STATUS]) ∧
  (∀ (s : State) (f : Formula) (n : Nat), s.md = .recompose → s.recomposePhase = 4 → s.affectedFlacons = [] →
    s.fml.next = some (f, n) → f.ports = [] → s.home = [] →
    Leaves (exec .recomposeSwitch s) fun u =>
      u.recomposePhase = 5 ∧ u.fml.inForce = some f ∧ u.fml.next = none ∧ u.fml.slot = n ∧ u.md = .recompose) ∧
  (∀ (s : State), s.md = .recompose → s.recomposePhase = 5 →
    Leaves (exec .recomposeRetrainDone s) fun u =>
      u.entered s .serve 0x09 ∧ u.recomposePhase = 0 ∧ u.on Reg.MG_FML_STATUS Fld.MG_FML_STATUS.LIVE_DONE = true ∧
      u.affectedFlacons = [] ∧ u.fml.retrain = [] ∧
      u.regsBut s (Reg.CHIP_MODE :: Reg.MG_FML_STATUS :: (List.range 32).map Reg.FL_STATUS))

/-- Ingress (R68, R70, R71, R87): a posted write that arrives behind waiting messages of its class waits behind them; the
head of a waiting list is admitted whole or stays; a packed cell closed by PACK_WAIT goes on; a cell of a message that is
being discarded is dropped. -/
def Obligations.Ingress : Prop :=
  (∀ (s : State) (q : PortIx) (p : PortRec) (m : Msg) (v : Nat) (b : BindingRec) (env : LookupEnv),
    s.md.clocked = true → s.md ≠ .quarantine → s.withheldAt q.val (.link m) = false → s.portRec q.val = some p →
    s.portUp q.val = true → p.fabric = false → p.protocol = .pcie → p.role = .upstream → p.ideRequired = false →
    s.on (Reg.FL_STATUS p.flacon) Fld.FL_STATUS.FENCED = false → m.io = true → m.mc = 6 → m.cells ≤ 1 → m.poison = false →
    m.vppb = some v → s.bindingOfVppb p.flacon (s.epochOf p.flacon) q.val v = some b → s.portTakes b.dsp = true →
    s.lingerFull b.dsp = false → (∀ k < 4, s.on (Reg.SL_CTL k) Fld.SL_CTL.EN = false) → s.core.pack = [] →
    s.waiting (waitKey q.val 6) ≠ [] → p.port = q.val → s.closing = false →
    Leaves (exec (.messageArrival q (.link m) env) s) fun u =>
      ∃ w, u.waiting (waitKey q.val 6) = s.waiting (waitKey q.val 6) ++ [w] ∧ w.dst = b.dsp ∧ w.msg.addr = m.addr ∧
        w.msg.flacon = p.flacon ∧ w.msg.ld = b.ld ∧ w.noTag = false) ∧
  (∀ (s : State) (n : SliceIx) (c : Fin 8) (w : Waiting) (r : List Waiting) (t : State), s.md.clocked = true →
    s.waiting (waitKey (128 + n.val) c.val) = w :: r → s.send? (64 + n.val) w.dst w.msg w.more = some t →
    Leaves (exec (.admissionRetry ⟨128 + n.val, by omega⟩ c) s) fun u =>
      u.waiting (waitKey (128 + n.val) c.val) = r ∧ u.core.flight = t.core.flight ∧ u.core.buf = t.core.buf) ∧
  (∀ (s : State) (n : SliceIx) (c : Fin 8) (w : Waiting) (r : List Waiting), s.quiet = true → s.md.clocked = true →
    s.waiting (waitKey (128 + n.val) c.val) = w :: r → s.send? (64 + n.val) w.dst w.msg w.more = none →
    Answers (exec (.admissionRetry ⟨128 + n.val, by omega⟩ c) s) fun t => t.core = s.core ∧ t.regsBut s []) ∧
  (∀ (s : State) (n : TileIx) (o : PackOpen) (r : List PackOpen) (m : Msg) (l : List Msg), s.quiet = true →
    s.md.clocked = true → tabGet s.core.pack n.val [] = o :: r → o.msgs = m :: l → s.portTakes o.dst = true →
    o.dst < 128 → s.lingerFull o.dst = false → m.flacon < 32 → m.port < 128 →
    s.waiting (waitKey m.port m.mc) ≠ [] → s.closing = false →
    Answers (exec (.packWaitExpiry n) s) fun t =>
      t.waiting (waitKey m.port m.mc) = s.waiting (waitKey m.port m.mc) ++ [{ msg := m, more := l, dst := o.dst, place := m.port, no := s.core.waitNo }] ∧
      tabGet t.core.pack n.val [] = r ∧
      t.regsBut s [Reg.FL_ADMIT_STALL m.flacon, Reg.TL_ADMIT (tileOf m.port)]) ∧
  (∀ (s : State) (q : PortIx) (p : PortRec) (c : Fin 8) (d : Line) (bad : Bool) (a : Arriving), s.quiet = true →
    s.md.clocked = true → s.portRec q.val = some p → p.fabric = false → s.arrivingAt q.val c.val = some a →
    a.discard = true → a.parts = [] → a.sil = none →
    Answers (exec (.bodyCellArrival q c d true bad) s) fun t =>
      t.arrivingAt q.val c.val = none ∧ t.core.queues = s.core.queues ∧
      t.core.flight = s.core.flight ∧ t.regsBut s []) ∧
  (∀ (s : State) (q : PortIx) (p : PortRec) (c : Fin 8) (d : Line) (bad : Bool) (a : Arriving), s.quiet = true →
    s.md.clocked = true → s.portRec q.val = some p → p.fabric = false → s.arrivingAt q.val c.val = some a →
    a.discard = false → a.admitted = false →
    Answers (exec (.bodyCellArrival q c d false bad) s) fun t =>
      t.arrivingAt q.val c.val = some { a with got := a.got ++ [(some d, bad)] } ∧ t.regsBut s [])

/-- The planes (R78 to R82): a cell that comes in order is linked to its queue, one outside the window is discarded and
reported; releases reopen the window; a DRAIN cell is counted; a fault or a request fences a plane, and a request unfences it. -/
def Obligations.Planes : Prop :=
  (∀ (s : State) (n : PlaneIx) (src unit : Fin 128) (c : Cell) (r : List Flight) (e : EccFinding), s.md.clocked = true →
    s.flightOf (flightKey n.val src.val unit.val) = .cell c :: r → c.src = src.val → unit.val < 64 → c.dst < 128 →
    (let st := s.stream (streamKey c.src unit.val c.msg.mc)
     st.held = [] ∧ st.skip = [] ∧ fullSeq st.want c.seq = st.want) → c.kind = .single → c.msg.io = false →
    s.closing = false →
    Leaves (exec (.planeCellArrival n src { unit := unit, ecc := e }) s) fun u =>
      u.flightOf (flightKey n.val src.val unit.val) = r ∧
      (u.stream (streamKey c.src unit.val c.msg.mc)).want = (s.stream (streamKey c.src unit.val c.msg.mc)).want + 1 ∧
      (u.stream (streamKey c.src unit.val c.msg.mc)).back = (s.stream (streamKey c.src unit.val c.msg.mc)).back + 1 ∧
      u.queue (queueNo c.dst c.msg.mc c.msg.flacon) = s.queue (queueNo c.dst c.msg.mc c.msg.flacon) ++
        [{ c with hdrUe := e.header, payUe := e.payload }]) ∧
  (∀ (s : State) (n : PlaneIx) (src unit : Fin 128) (c : Cell) (r : List Flight) (e : EccFinding), s.md.clocked = true →
    s.flightOf (flightKey n.val src.val unit.val) = .cell c :: r → unit.val < 64 →
    (let st := s.stream (streamKey c.src unit.val c.msg.mc)
     st.want + 256 ≤ fullSeq st.want c.seq) →
    Leaves (exec (.planeCellArrival n src { unit := unit, ecc := e }) s) fun u =>
      u.flightOf (flightKey n.val src.val unit.val) = r ∧ u.core.streams = s.core.streams ∧
      u.core.queues = s.core.queues ∧ u.hasRaised (srcTile unit.val 2) none ∧
      u.on (Reg.TL_ERR unit.val) Fld.TL_ERR.RESEQ_RANGE = true ∧
      u.regsBut s [Reg.TL_RESEQ unit.val, Reg.TL_ERR unit.val]) ∧
  (∀ (s : State) (src unit : Fin 128) (c : Fin 8), s.quiet = true → s.md.clocked = true →
    (s.stream (streamKey src.val unit.val c.val)).backlog = [] →
    Answers (exec (.reseqRelease src unit c) s) fun t =>
      (let a := s.stream (streamKey src.val unit.val c.val)
       t.stream (streamKey src.val unit.val c.val) = { a with out := a.out - a.back, back := 0 }) ∧ t.regsBut s []) ∧
  (∀ (s : State) (n : PlaneIx) (src unit : Fin 128) (d : DrainCell) (r : List Flight) (f : PlaneFence), s.md.clocked = true →
    s.flightOf (flightKey n.val src.val unit.val) = .drain d :: r → tabFind s.core.fences d.plane = some f →
    f.fault = false →
    Leaves (exec (.drainCellArrival n src unit) s) fun u =>
      u.flightOf (flightKey n.val src.val unit.val) = r ∧
      (∃ g, tabFind u.core.fences d.plane = some g ∧ g.noticed = f.noticed ∧ g.planes = f.planes ∧
        ∀ w ∈ g.waits, w.src = src.val → w.unit = unit.val → w.got.testBit n.val = true ∧ w.high = d.high) ∧
      u.regsBut s [Reg.XB_STATUS d.plane]) ∧
  (∀ (s : State) (n : PlaneIx), s.quiet = true → s.md.clocked = true → tabFind s.core.fences n.val = none →
    Answers (exec (.planeFault n none) s) fun t =>
      tabFind t.core.fences n.val = some { fault := true, stopped := false } ∧ Notice.fencePlane n ∈ t.flt.notices ∧
      t.on (Reg.XB_STATUS n.val) Fld.XB_STATUS.FENCED = true ∧ t.on (Reg.XB_STATUS n.val) Fld.XB_STATUS.FAULT_FENCE = true ∧
      t.on (Reg.XB_STATUS n.val) Fld.XB_STATUS.DRAINED = false ∧
      t.regsBut s [Reg.XB_CTL n.val, Reg.XB_STATUS n.val]) ∧
  (∀ (s : State) (p : AccessPath) (n : PlaneIx), s.quiet = true → s.mayAct p = true → tabFind s.core.fences n.val = none →
    1 < s.unfenced.length →
    Answers (exec (.planeFenceReq p n) s) fun t =>
      tabFind t.core.fences n.val = some { fault := false } ∧ Notice.fencePlane n ∈ t.flt.notices ∧
      t.on (Reg.XB_STATUS n.val) Fld.XB_STATUS.FENCED = true ∧ t.on (Reg.XB_STATUS n.val) Fld.XB_STATUS.FAULT_FENCE = false ∧
      t.regsBut s [Reg.XB_CTL n.val, Reg.XB_STATUS n.val]) ∧
  (∀ (s : State) (p : AccessPath) (n : PlaneIx), s.quiet = true → s.mayAct p = true → tabFind s.core.fences n.val = none →
    s.unfenced.length ≤ 1 →
    Answers (exec (.planeFenceReq p n) s) fun t =>
      t.core = s.core ∧ t.on (Reg.XB_STATUS n.val) Fld.XB_STATUS.REFUSED = true ∧ t.regsBut s [Reg.XB_STATUS n.val]) ∧
  (∀ (s : State) (p : AccessPath) (n : PlaneIx) (f : PlaneFence), s.quiet = true → s.mayAct p = true →
    tabFind s.core.fences n.val = some f → f.lifted = false →
    (f.fault = true → f.raised = true ∧ (s.srcOf (srcPlane n.val 0)).pending = false ∧
      (s.srcOf (srcPlane n.val 1)).pending = false) →
    Answers (exec (.planeUnfenceReq p n) s) fun t =>
      Notice.unfencePlane n ∈ t.flt.notices ∧ t.core = s.core ∧ t.regsBut s []) ∧
  (∀ (s : State) (p : AccessPath) (n : PlaneIx) (f : PlaneFence), s.quiet = true → s.mayAct p = true →
    tabFind s.core.fences n.val = some f → f.fault = true → f.lifted = false →
    f.raised = false ∨ (s.srcOf (srcPlane n.val 0)).pending = true ∨ (s.srcOf (srcPlane n.val 1)).pending = true →
    Answers (exec (.planeUnfenceReq p n) s) fun t =>
      t.on (Reg.XB_STATUS n.val) Fld.XB_STATUS.REFUSED = true ∧ t.core = s.core ∧ t.flt.notices = s.flt.notices ∧
      t.regsBut s [Reg.XB_STATUS n.val])

/-- Egress (R75, R86, R88, R93, R108, R112, R174, R176): what the scheduler of a standard port does with the cell it
chooses, a cell brought into the prefetch window, a flush. -/
def Obligations.Egress : Prop :=
  (∀ (s : State) (q : PortIx) (p : PortRec) (cr : BitVec 16) (e : EccFinding), s.quiet = true → s.md.clocked = true →
    s.portRec q.val = some p → (s.schedPort q.val).hold = none → s.core.queues = [] →
    (s.schedPort q.val).gateHeld = [] →
    Answers (exec (.egressSchedule q cr e) s) fun t => t.core = s.core ∧ t.sched = s.sched ∧ t.regsBut s []) ∧
  (∀ (s : State) (q : PortIx) (p : PortRec) (cr : BitVec 16) (c f : Nat) (h : Cell) (r : List Cell), s.md.clocked = true →
    s.picks q.val cr p c f h r → p.fabric = false → h.kind = .single →
    Leaves (exec (.egressSchedule q cr { header := true }) s) fun u =>
      u.queue (queueNo q.val c f) = r ∧ u.hasRaised (srcTile (tileOf q.val) 0) none ∧
      u.on (Reg.TL_ERR (tileOf q.val)) Fld.TL_ERR.HDR_UE = true) ∧
  (∀ (s : State) (q : PortIx) (p : PortRec) (cr : BitVec 16) (c f : Nat) (h : Cell) (r : List Cell), s.md.clocked = true →
    s.picks q.val cr p c f h r → p.fabric = false → h.kind = .head → (takeMsg (h :: r)).2.2 = false →
    Leaves (exec (.egressSchedule q cr {}) s) fun u =>
      (u.schedPort q.val).hold = some (f, c, h.src) ∧ u.queue (queueNo q.val c f) = (takeMsg (h :: r)).2.1) ∧
  (∀ (s : State) (q : PortIx) (p : PortRec) (cr : BitVec 16) (c f : Nat) (h : Cell) (r : List Cell), s.md.clocked = true →
    s.picks q.val cr p c f h r → p.fabric = false → h.kind = .single → h.msg.tent = true → h.hdrUe = false →
    h.payUe = false → s.gateStops p h = true → s.gateOf q.val h.msg.tag = none →
    Leaves (exec (.tentativeCellAtGate q cr {}) s) fun u =>
      u.queue (queueNo q.val c f) = r ∧
      u.gateOf q.val h.msg.tag = some { st := .held, addr := h.msg.addr, cell := some h, since := s.beat }) ∧
  (∀ (s : State) (q : PortIx) (p : PortRec) (cr : BitVec 16) (c f : Nat) (h : Cell) (r : List Cell), s.md.clocked = true →
    s.picks q.val cr p c f h r → p.fabric = false → h.kind = .single → h.msg.tent = false → h.hdrUe = false →
    h.msg.io = false → h.msg.op = Op.TN_CONFIRM → s.gateOf q.val h.msg.tag = none →
    Leaves (exec (.tnConfirmArrival q cr) s) fun u =>
      u.queue (queueNo q.val c f) = r ∧ u.gateOf q.val h.msg.tag = some { st := .earlyC, addr := h.msg.addr }) ∧
  (∀ (s : State) (q : PortIx) (p : PortRec) (cr : BitVec 16) (c f : Nat) (h : Cell) (r : List Cell), s.md.clocked = true →
    s.picks q.val cr p c f h r → p.fabric = false → h.kind = .single → h.msg.tent = false → h.hdrUe = false →
    h.msg.io = false → h.msg.op = Op.TN_CANCEL → s.gateOf q.val h.msg.tag = none →
    Leaves (exec (.tnCancelArrival q cr) s) fun u =>
      u.queue (queueNo q.val c f) = r ∧ u.gateOf q.val h.msg.tag = some { st := .earlyX, addr := h.msg.addr }) ∧
  (∀ (s : State) (q : PortIx) (n k i : Nat) (c : Cell), s.quiet = true → s.md.clocked = true →
    tabGet s.core.buf.pre q.val 0 < 256 → s.nextSpill q.val = some (n, k) → (s.queue n)[k]? = some c →
    c.slot = some i → s.spillSlots (spillChannel (i - 2 ^ 20)) ≠ 0 →
    Answers (exec (.spillPrefetch q) s) fun t =>
      (∃ j, t.queue n = (s.queue n).set k { c with tier := .prefetch, slot := j }) ∧
      tabGet t.core.buf.pre q.val 0 = tabGet s.core.buf.pre q.val 0 + 1 ∧ t.regsBut s []) ∧
  (∀ (s : State) (p : AccessPath) (q : PortIx) (f : Fin 32), s.quiet = true → s.mayAct p = true → s.portUp q.val = true →
    (s.rd (Reg.PT_FLUSH_FL q.val) Fld.PT_FLUSH_FL.FLACONS).testBit f.val = true → s.flFenced f.val = false →
    Answers (exec (.ptFlushGo p q) s) fun t =>
      t.on (Reg.PT_FLUSH_CTL q.val) Fld.PT_FLUSH_CTL.REFUSED = true ∧ t.core = s.core ∧
      t.regsBut s [Reg.PT_FLUSH_CTL q.val]) ∧
  (∀ (s : State) (p : AccessPath) (q : PortIx) (c : Fin 8) (f : Fin 32) (h : Cell), s.mayAct p = true →
    s.portUp q.val = false ∨ s.flFenced f.val = true →
    s.rd (Reg.PT_FLUSH_FL q.val) Fld.PT_FLUSH_FL.FLACONS = 2 ^ f.val →
    s.rd (Reg.PT_FLUSH_CTL q.val) Fld.PT_FLUSH_CTL.CLASSES = 2 ^ c.val →
    s.core.queues = [(queueNo q.val c.val f.val, [h])] → s.core.gate = [] → h.kind = .single →
    c.val = 0 ∨ c.val = 6 ∧ h.msg.io = true → h.msg.mc = c.val →
    Leaves (exec (.ptFlushGo p q) s) fun u =>
      u.queue (queueNo q.val c.val f.val) = [] ∧
      u.rd (Reg.PT_FLUSH_CNT q.val) Fld.PT_FLUSH_CNT.COUNT =
        min (2 ^ Fld.PT_FLUSH_CNT.COUNT.width - 1) (s.rd (Reg.PT_FLUSH_CNT q.val) Fld.PT_FLUSH_CNT.COUNT + 1) ∧
      u.regsBut s [Reg.PT_FLUSH_CNT q.val]) ∧
  (∀ (s : State) (p : AccessPath) (q : PortIx), s.quiet = true → s.mayAct p = true → s.portUp q.val = false →
    s.portQueues q.val = [] → s.core.gate = [] →
    Answers (exec (.ptFlushGo p q) s) fun t => t.core = s.core ∧ t.regsBut s [])

/-- Arbiters (R99 to R105): a round with two or more eligible requesters, or none parked on: the winner loses its loss
count and its age and goes to the end of the list, every loser gains one; the winner has the highest effective priority but
in each Nth round.  A loss-count parity failure puts the arbiter in fallback. -/
def Obligations.ArbiterRounds : Prop :=
  (∀ (s : State) (ix : ArbIx) (req : List ArbReq) (n : Nat), s.quiet = true → s.md.clocked = true → (∀ ch, ix ≠ .keep ch) →
    (s.arb (arbNo ix)).resync = false → (s.arb (arbNo ix)).fallback = false → (s.arb (arbNo ix)).done = none →
    s.arbEligible ix req ≠ [] →
    (s.arb (arbNo ix)).reeval = true ∨ (∀ o, (s.arb (arbNo ix)).owner = some o → s.arbEligible ix req ≠ [o]) →
    (∀ i ∈ s.arbEligible ix req, i ∈ (s.arb (arbNo ix)).order (requesters ix)) →
    Answers (exec (.arbiterRound ix req n false false) s) fun t =>
      (∃ w ∈ s.arbEligible ix req, (t.arb (arbNo ix)).owner = some w ∧ (t.arb (arbNo ix)).list.getLast? = some w ∧
        tabGet (t.arb (arbNo ix)).loss w 0 = 0 ∧
        (∀ i ∈ s.arbEligible ix req, i ≠ w →
          tabGet (t.arb (arbNo ix)).loss i 0 = min 7 (tabGet (s.arb (arbNo ix)).loss i 0 + 1)) ∧
        ((s.arb (arbNo ix)).count + 1 ≠ s.rd (Reg.ARB_STATUS (arbBase (arbInst ix))) Fld.ARB_STATUS.STARVE_N →
          ∀ i ∈ s.arbEligible ix req,
            effPrio (fun k => s.rd (Reg.ARB_PRIO (arbBase (arbInst ix)) k) Fld.ARB_PRIO.BASE) (s.arb (arbNo ix)) i ≤
              effPrio (fun k => s.rd (Reg.ARB_PRIO (arbBase (arbInst ix)) k) Fld.ARB_PRIO.BASE) (s.arb (arbNo ix)) w)) ∧
      t.regsBut s []) ∧
  (∀ (s : State) (ix : ArbIx) (req : List ArbReq) (n o : Nat), s.quiet = true → s.md.clocked = true → (∀ ch, ix ≠ .keep ch) →
    (s.arb (arbNo ix)).resync = false → (s.arb (arbNo ix)).owner = some o → s.arbEligible ix req = [o] →
    (s.arb (arbNo ix)).done = none → (s.arb (arbNo ix)).reeval = false →
    Answers (exec (.arbiterRound ix req n false false) s) fun t =>
      (let a := s.arb (arbNo ix)
       t.arb (arbNo ix) = { a with parkedUses := min (2 ^ 32 - 1) (a.parkedUses + 1), parked := true, done := lastOf req o }) ∧
      t.regsBut s []) ∧
  (∀ (s : State) (ix : ArbIx) (req : List ArbReq) (n : Nat), s.quiet = true → s.md.clocked = true → (∀ ch, ix ≠ .keep ch) →
    (s.arb (arbNo ix)).resync = false → s.arbEligible ix req = [] →
    Answers (exec (.arbiterRound ix req n false false) s) fun t =>
      t.arb (arbNo ix) = { s.arb (arbNo ix) with parked := true, done := none } ∧ t.regsBut s []) ∧
  (∀ (s : State) (ix : ArbIx) (req : List ArbReq) (n : Nat), s.md.clocked = true →
    (s.arb (arbNo ix)).resync = false → (s.arb (arbNo ix)).fallback = false →
    Leaves (exec (.arbiterRound ix req n true false) s) fun u =>
      (u.arb (arbNo ix)).fallback = true ∧ u.hasRaised (paritySrc (arbInst ix)) none ∧
      u.on (Reg.ARB_STATUS (arbBase (arbInst ix))) Fld.ARB_STATUS.PARITY_ERR = true ∧
      u.regsBut s [Reg.ARB_STATUS (arbBase (arbInst ix))]) ∧
  (∀ (s : State) (p : AccessPath) (i : ArbInst), s.quiet = true → s.mayAct p = true →
    Answers (exec (.arbResync p i) s) fun t =>
      (∀ k ∈ arbsOf i, (s.arb k).fallback = true → (t.arb k).resync = true) ∧
      (∀ k ∈ arbsOf i, (s.arb k).fallback = false → t.arb k = s.arb k) ∧ t.regsBut s []) ∧
  (∀ (s : State) (p : AccessPath) (i : ArbInst), s.quiet = true → s.mayAct p = true →
    Answers (exec (.arbClrStats p i) s) fun t =>
      (let a := s.arb (s.arbSelected i)
       t.arb (s.arbSelected i) = { a with grants := 0, starve := 0, voids := 0, maxWait := 0, parkedUses := 0 }) ∧
      t.regsBut s []) ∧
  (∀ (s : State) (p : AccessPath) (i : ArbInst) (n : Fin 128) (b : Fin 8), s.quiet = true → s.mayAct p = true →
    n.val < familySize i →
    Answers (exec (.arbPrioWrite p i n b) s) fun t =>
      t.rd (Reg.ARB_PRIO (arbBase i) n.val) Fld.ARB_PRIO.BASE = b.val ∧
      (∀ k ∈ arbsOf i, (s.arb k).parked = true → (s.arb k).owner = some n.val → (t.arb k).reeval = true) ∧
      t.regsBut s [Reg.ARB_PRIO (arbBase i) n.val]) ∧
  (∀ (s : State) (p : AccessPath) (i : ArbInst) (n : Fin 128) (b : Fin 8), s.quiet = true → s.mayAct p = true →
    familySize i ≤ n.val → Answers (exec (.arbPrioWrite p i n b) s) fun t => t.regsBut s []) ∧
  (∀ (s : State) (c : Fin 8), s.quiet = true → s.md.clocked = true →
    Answers (exec (.keepWindowEnd c) s) fun t =>
      (∀ e ∈ t.sched.keepUsed, e.1 / 8 ≠ c.val) ∧ tabGet t.sched.spillUsed c.val 0 = 0 ∧ t.regsBut s [])

/-- Shapers and policers (R114 to R116, R125, R126): a shaper whose slot the wheel has reached is refilled, and counted
where it is late; each refill stops at the bucket's depth. -/
def Obligations.ShapersAndPolicers : Prop :=
  (∀ (s : State) (q f : Nat), s.quiet = true → s.md.clocked = true → q < 128 → s.dueShapers = [(q, f)] →
    Answers (exec .shaperWheelFire s) fun t =>
      t.shaper q f = ({ ((s.shaper q f).refill s.beat) with slot := none } : Shaper).place s.beat ∧
      (t.shaper q f).tokens ≤ (t.shaper q f).cap ∧
      ((s.shaper q f).slot = some s.beat → t.regsBut s []) ∧
      ((s.shaper q f).slot ≠ some s.beat →
        t.rd (Reg.PT_SHAPE_LATE q) Fld.PT_SHAPE_LATE.LATE =
          min (2 ^ Fld.PT_SHAPE_LATE.LATE.width - 1) (s.rd (Reg.PT_SHAPE_LATE q) Fld.PT_SHAPE_LATE.LATE + 1)) ∧
      t.regsBut s [Reg.PT_SHAPE_LATE q]) ∧
  (∀ (s : State), s.quiet = true → s.md.clocked = true → s.dueShapers = [] →
    Answers (exec .shaperWheelFire s) fun t => t.sched = s.sched ∧ t.regsBut s []) ∧
  (∀ (s : State), s.quiet = true → s.md.clocked = true →
    Answers (exec .topnoteRefill s) fun t =>
      t.sched.topnote.length = s.sched.topnote.length ∧
      (∀ e ∈ s.sched.topnote, tabGet s.sched.topnoteFrom (e.1 / 64) 0 + 100 ≤ s.beat →
        ∀ r, s.flaconRec (e.1 / 64) = some r →
        (e.1, min r.topnoteBurst (e.2 + r.topnoteRate)) ∈ t.sched.topnote) ∧
      (∀ e ∈ s.sched.topnote, s.beat < tabGet s.sched.topnoteFrom (e.1 / 64) 0 + 100 → e ∈ t.sched.topnote) ∧
      (s.flacons.Nodup → ∀ f ∈ s.flacons, tabGet t.sched.topnoteFrom f 0 =
        if tabGet s.sched.topnoteFrom f 0 + 100 ≤ s.beat then tabGet s.sched.topnoteFrom f 0 + 100
        else tabGet s.sched.topnoteFrom f 0) ∧ t.regsBut s []) ∧
  (∀ (s : State), s.quiet = true → s.md.clocked = true →
    Answers (exec .mirrorRefill s) fun t =>
      t.sched.mirror.length = s.sched.mirror.length ∧
      (∀ e ∈ s.sched.mirror, (e.1, min mirrorCap (e.2 + s.mirrorRate e.1)) ∈ t.sched.mirror) ∧ t.regsBut s [])

/-- Home slices: requests and the directory (R133, R138 to R147, R156): a read at an idle line takes a tracker and, where its
set is not in the hot tier, waits for the set; what ECC finds in a set; a request in the victim-overflow queue. -/
def Obligations.SliceRequests : Prop :=
  (∀ (s : State) (n : SliceIx) (f : FlaconIx) (c : Cell) (r : List Cell) (h : Home) (e : EntryEcc),
    s.md.clocked = true → s.quarantined = false → s.serves n.val 4 f.val c r → c.msg.io = false → c.msg.mc = 4 →
    c.msg.op = Op.RD_SHARED → c.msg.noSpec = true → s.slice n.val = {} → s.acd.trk = [] →
    s.homeAt c.msg.flacon c.msg.epoch (lineOf c.msg.addr) = some h → h.slice = n.val → s.geomOk c.msg.flacon = true →
    s.on (Reg.FL_STATUS c.msg.flacon) Fld.FL_STATUS.FENCED = false →
    Leaves (exec (.sliceRequestTaken n 4 { flacon := f, ecc := e }) s) fun u =>
      u.queue (homeQueue n.val 4 f.val) = r ∧
      (∃ t, (u.slice n.val).trackers = [t] ∧ t.line = lineOf c.msg.addr ∧ t.set = h.set ∧ t.tag = h.tag ∧
        t.flacon = c.msg.flacon ∧ t.req = c.msg ∧ t.ph = .reading ∧ t.topnote = false) ∧
      u.rd (Reg.HS_HOT n.val) Fld.HS_HOT.MISSES =
        min (2 ^ Fld.HS_HOT.MISSES.width - 1) (s.rd (Reg.HS_HOT n.val) Fld.HS_HOT.MISSES + 1) ∧
      u.regsBut s [Reg.HS_HOT n.val]) ∧
  (∀ (s : State) (n : SliceIx) (mc : Fin 8) (f : FlaconIx) (m : Msg) (e : EntryEcc), s.quiet = true → s.md.clocked = true →
    s.homeHead (homeQueue n.val mc.val f.val) = some m → s.homeGated n.val = true →
    (∀ d ∈ s.queue (homeQueue n.val mc.val f.val), d.hdrUe = false) →
    Answers (exec (.sliceRequestTaken n mc { flacon := f, ecc := e }) s) fun t => t.core = s.core ∧ t.home = s.home ∧ t.regsBut s []) ∧
  (∀ (s : State) (n : SliceIx) (f : FlaconIx) (c : Cell) (r : List Cell) (e : EntryEcc), s.md.clocked = true →
    s.quarantined = false → s.serves n.val 4 f.val c r → c.msg.io = false → c.msg.mc = 4 →
    c.msg.op = Op.MEM_RD → s.slice n.val = {} → c.msg.flacon = f.val →
    Leaves (exec (.sliceRequestTaken n 4 { flacon := f, ecc := e }) s) fun u =>
      u.queue (homeQueue n.val 4 f.val) = r ∧ u.slice n.val = {} ∧ u.hasRaised Src.HS_BAD_OP (some f) ∧
      u.on (Reg.HS_ERR n.val) Fld.HS_ERR.BAD_OP = true ∧ u.regsBut s [Reg.HS_ERR n.val]) ∧
  (∀ (s : State) (n : SliceIx) (set : Fin 131072) (t : Tracker), s.md.clocked = true → (s.slice n.val).trackers = [t] →
    t.ph = .reading → t.set = set.val → t.req.io = true → t.req.mc = 6 → t.req.op ≠ Op.STAGE → t.req.op ≠ Op.ALIAS_RD →
    t.tentSent = false → t.memOut = false → (s.slice n.val).frames = [] → (s.slice n.val).conflict = [] →
    (s.slice n.val).bad = [] →
    Leaves (exec (.backingSetReadDone n set .uncorrectable) s) fun u =>
      (u.slice n.val).bad = [set.val] ∧ (u.slice n.val).trackers = [] ∧
      (∃ f, u.hasRaised (srcSlice n.val 1) f) ∧ u.on (Reg.HS_ERR n.val) Fld.HS_ERR.DIR_UE = true) ∧
  (∀ (s : State) (n : SliceIx) (set : Fin 131072) (t : Tracker), s.md.clocked = true → s.slice n.val = { trackers := [t] } →
    t.ph = .reading → t.set = set.val → t.req.io = false → t.req.op = Op.RD_CUR → t.memData = none → t.memOut = false →
    t.way = none → s.acd.trk = [] →
    Leaves (exec (.backingSetReadDone n set .good) s) fun u =>
      (∃ k, (u.slice n.val).frameOf set.val = some k) ∧
      (u.slice n.val).trackers = [{ t with ph := .active, needMem := true, memOut := true, waits := [], owner := none }]) ∧
  (∀ (s : State) (n : SliceIx) (set : Fin 131072) (e : EntryEcc), s.quiet = true → s.md.clocked = true →
    s.readersOf n.val set.val = [] →
    Answers (exec (.backingSetReadDone n set e) s) fun t => t.home = s.home ∧ t.regsBut s []) ∧
  (∀ (s : State) (n : SliceIx) (t : Tracker), s.quiet = true → s.md.clocked = true → (s.slice n.val).trackers = [t] →
    t.ph = .voq → (s.slice n.val).frameOf t.set = none → (s.slice n.val).frames = [] →
    Answers (exec (.victimOverflowRetry n) s) fun x =>
      (x.slice n.val).trackers = [{ t with ph := .reading }] ∧ x.regsBut s []) ∧
  (∀ (s : State) (n : SliceIx) (set : Fin 131072), s.md.clocked = true →
    s.on (Reg.HS_CTL n.val) Fld.HS_CTL.SCRUB_EN = true →
    Leaves (exec (.directoryScrub n set .corrected) s) fun u =>
      u.on (Reg.HS_ERR n.val) Fld.HS_ERR.DIR_CE = true ∧ (∃ f, u.hasRaised (srcSlice n.val 0) f) ∧
      u.rd (Reg.HS_DIR_CE_CNT n.val) Fld.HS_DIR_CE_CNT.COUNT =
        min (2 ^ Fld.HS_DIR_CE_CNT.COUNT.width - 1) (s.rd (Reg.HS_DIR_CE_CNT n.val) Fld.HS_DIR_CE_CNT.COUNT + 1) ∧
      u.home = s.home ∧ u.regsBut s [Reg.HS_ERR n.val, Reg.HS_DIR_CE_CNT n.val]) ∧
  (∀ (s : State) (n : SliceIx) (set : Fin 131072) (e : EntryEcc), s.quiet = true → s.md.clocked = true →
    s.on (Reg.HS_CTL n.val) Fld.HS_CTL.SCRUB_EN = false →
    Answers (exec (.directoryScrub n set e) s) fun t => t.home = s.home ∧ t.regsBut s [])

/-- Home slices: answers and notices (R147, R148, R151, R152): what an answer does to the transaction that waits for it. -/
def Obligations.SliceAnswers : Prop :=
  (∀ (s : State) (n : SliceIx) (f : FlaconIx) (c : Cell) (r : List Cell) (t : Tracker), s.md.clocked = true →
    s.serves n.val 2 f.val c r → c.msg.mc = 2 → c.msg.op = Op.MEM_DATA → (s.slice n.val).trackers = [t] →
    (s.slice n.val).conflict = [] → c.msg.tag = t.id → t.ph = .active → t.waits ≠ [] → t.topnote = false →
    Leaves (exec (.memDataArrival n f) s) fun u =>
      u.queue (homeQueue n.val 2 f.val) = r ∧
      (u.slice n.val).trackers =
        [{ t with memOut := false, memData := some ((c.msg.data[0]?).getD 0, c.msg.poison) }] ∧ u.regsBut s []) ∧
  (∀ (s : State) (n : SliceIx) (f : FlaconIx) (c : Cell) (r : List Cell) (t : Tracker) (a b : Nat), s.md.clocked = true →
    s.serves n.val 1 f.val c r → c.msg.mc = 1 → c.msg.io = false → c.msg.op = Op.RSP_I → (s.slice n.val).trackers = [t] → (s.slice n.val).conflict = [] →
    (s.slice n.val).held = [] → c.msg.srcEid = a → a ≠ b → t.waits = [a, b] → t.ph = .active →
    t.line = lineOf c.msg.addr → t.flacon = c.msg.flacon →
    (s.slice n.val).snoops = [{ line := t.line, flacon := t.flacon, eid := a, reserve := false }] →
    Leaves (exec (.snoopAnswerArrival n f) s) fun u =>
      u.queue (homeQueue n.val 1 f.val) = r ∧ (u.slice n.val).snoops = [] ∧
      (u.slice n.val).trackers = [{ t with waits := [b] }] ∧ u.regsBut s []) ∧
  (∀ (s : State) (n : SliceIx) (f : FlaconIx) (c : Cell) (r : List Cell) (x : SnoopRec), s.md.clocked = true →
    s.serves n.val 5 f.val c r → c.msg.io = false → c.msg.op = Op.WB_SNP_I →
    s.slice n.val = { snoops := [x] } → x.line = lineOf c.msg.addr → x.eid = c.msg.srcEid → x.flacon = c.msg.flacon →
    x.reserve = false → s.acd.trk = [] → x.owner = true → x.taken = true →
    Leaves (exec (.writebackArrival n f) s) fun u =>
      u.queue (homeQueue n.val 5 f.val) = r ∧ u.slice n.val = {} ∧ u.regsBut s []) ∧
  (∀ (s : State) (n : SliceIx) (f : FlaconIx) (c : Cell) (r : List Cell) (x : SnoopRec), s.md.clocked = true →
    s.serves n.val 5 f.val c r → c.msg.io = false → c.msg.op = Op.WB_SNP_I →
    s.slice n.val = { snoops := [x] } → x.line = lineOf c.msg.addr → x.eid = c.msg.srcEid → x.flacon = c.msg.flacon →
    x.reserve = false → s.acd.trk = [] → x.owner = false →
    Leaves (exec (.writebackArrival n f) s) fun u =>
      (u.slice n.val).snoops = [] ∧
      u.rd (Reg.HS_RACE n.val) Fld.HS_RACE.STRAY_WB =
        min (2 ^ Fld.HS_RACE.STRAY_WB.width - 1) (s.rd (Reg.HS_RACE n.val) Fld.HS_RACE.STRAY_WB + 1)) ∧
  (∀ (s : State) (n : SliceIx) (f : FlaconIx) (c : Cell) (r : List Cell) (w : WritePend), s.md.clocked = true →
    s.serves n.val 1 f.val c r → c.msg.mc = 1 → c.msg.err = false → c.msg.op = Op.MEM_CMP → s.slice n.val = { pend := [w] } →
    w.line = lineOf c.msg.addr → w.flacon = c.msg.flacon → w.answer = none → w.sealSeq = none → w.cell = none →
    w.reserve = false →
    Leaves (exec (.memCmpArrival n f) s) fun u =>
      u.queue (homeQueue n.val 1 f.val) = r ∧ u.slice n.val = {} ∧ u.regsBut s []) ∧
  (∀ (s : State) (n : SliceIx) (f : FlaconIx) (c : Cell) (r : List Cell), s.md.clocked = true →
    s.serves n.val 4 f.val c r → c.msg.mc = 4 → c.msg.io = false → c.msg.op = Op.BI_CONFLICT → s.slice n.val = {} → c.msg.port < 128 → c.msg.flacon < 32 →
    s.portTakes c.msg.port = true → s.waiting (waitKey (128 + n.val) 1) ≠ [] →
    Leaves (exec (.biConflict n f) s) fun u =>
      u.queue (homeQueue n.val 4 f.val) = r ∧
      u.rd (Reg.HS_RACE n.val) Fld.HS_RACE.CONFLICT_ACK =
        min (2 ^ Fld.HS_RACE.CONFLICT_ACK.width - 1) (s.rd (Reg.HS_RACE n.val) Fld.HS_RACE.CONFLICT_ACK + 1) ∧
      (∃ w, u.waiting (waitKey (128 + n.val) 1) = s.waiting (waitKey (128 + n.val) 1) ++ [w] ∧
        w.msg.op = Op.BI_CONFLICT_ACK ∧ w.dst = c.msg.port ∧ w.msg.addr = c.msg.addr)) ∧
  (∀ (s : State) (n : SliceIx) (f : FlaconIx) (c : Cell) (r : List Cell), s.md.clocked = true →
    s.serves n.val 0 f.val c r → c.msg.mc = 0 → c.msg.op = Op.TX_DONE →
    s.slice n.val = { notices := [(lineOf c.msg.addr, c.msg.dstEid)] } →
    Leaves (exec (.txDone n f) s) fun u =>
      u.queue (homeQueue n.val 0 f.val) = r ∧ u.slice n.val = {} ∧ u.regsBut s []) ∧
  (∀ (s : State) (q : PortIx) (p : PortRec) (addr ltag : Nat) (f : FlaconIx) (d : DecoderRec), s.md.clocked = true →
    s.portRec q.val = some p → p.fabric = false → p.role = .downstream → s.portUp q.val = true → p.flacon = f.val →
    findDecoder (s.flAcc p.flacon).cur.decoders addr = some d → d.shared = true →
    Leaves (exec (.deviceBisnp q addr ltag) s) fun u => u.hasRaised Src.HS_DEV_BISNP (some f)) ∧
  (∀ (s : State) (p : AccessPath) (n : SliceIx) (a : BitVec 52), s.quiet = true → s.mayAct p = true → s.fml.inForce = none →
    Answers (exec (.hsQuery p n a) s) fun t =>
      t.rd (Reg.HS_QUERY_ADDR n.val) Fld.HS_QUERY_ADDR.ADDR = a.toNat ∧
      t.on (Reg.HS_QUERY_RESULT n.val) Fld.HS_QUERY_RESULT.DONE = true ∧
      t.on (Reg.HS_QUERY_RESULT n.val) Fld.HS_QUERY_RESULT.NOT_SHARED = true ∧
      t.on (Reg.HS_QUERY_RESULT n.val) Fld.HS_QUERY_RESULT.HIT = false ∧
      t.regsBut s [Reg.HS_QUERY_ADDR n.val, Reg.HS_QUERY_RESULT n.val, Reg.HS_QUERY_SHARERS n.val]) ∧
  (∀ (s : State) (p : AccessPath) (n : SliceIx) (a : BitVec 52), s.mayAct p = true →
    Leaves (exec (.hsQuery p n a) s) fun u => u.on (Reg.HS_QUERY_RESULT n.val) Fld.HS_QUERY_RESULT.DONE = true)

/-- Doorbells and alias accesses of the engine function (R184 to R187, R194, R196, R209, R464). -/
def Obligations.AccordDoorbells : Prop :=
  (∀ (s : State) (q : PortIx) (k : Fin 64) (c : BitVec 32) (w : BitVec 10) (b n : Bool) (f : Nat), s.quiet = true →
    s.engineUp q.val = true → k.val < s.slotsOf q.val → s.portFlacon q.val = some f → s.slotState q.val k.val ∈ [0, 6, 7] →
    s.openCause f b = none →
    Answers (exec (.accordOpen q k c w b n) s) fun t =>
      t.slotState q.val k.val = 1 ∧ t.rd (Reg.EF_SLOT q.val k.val) Fld.EF_SLOT.COOKIE = c.toNat ∧
      t.reg (Reg.EF_SEQ q.val k.val) = 0 ∧ t.reg (Reg.EF_ABORT q.val k.val) = 0 ∧
      (∃ i a, t.slotTracker q.val k.val = some (i, a) ∧ a.ph = .opened ∧ a.flacon = f ∧ a.window = w.toNat ∧ a.watch = b ∧
        a.notify = n ∧ a.marks = [] ∧ a.age = none) ∧
      t.regsBut s [Reg.EF_SLOT q.val k.val, Reg.EF_SEQ q.val k.val, Reg.EF_ABORT q.val k.val]) ∧
  (∀ (s : State) (q : PortIx) (k : Fin 64) (c : BitVec 32) (w : BitVec 10) (b n : Bool) (f x : Nat), s.quiet = true → x < 32 →
    s.engineUp q.val = true → k.val < s.slotsOf q.val → s.portFlacon q.val = some f → f < 32 →
    s.slotState q.val k.val ∈ [0, 6, 7] → s.openCause f b = some x →
    Answers (exec (.accordOpen q k c w b n) s) fun t =>
      t.slotState q.val k.val = 7 ∧ t.rd (Reg.EF_SLOT q.val k.val) Fld.EF_SLOT.CODE = x % 2 ^ Fld.EF_SLOT.CODE.width ∧
      (t.rd (Reg.EF_DONE q.val) Fld.EF_DONE.DONE).testBit k.val = true ∧ t.acd = s.acd) ∧
  (∀ (s : State) (q : PortIx) (k : Fin 64) (c : BitVec 32) (w : BitVec 10) (b n : Bool) (f : Nat), s.quiet = true →
    s.engineUp q.val = true → k.val < s.slotsOf q.val → s.portFlacon q.val = some f → s.slotState q.val k.val ∈ [1, 2, 3, 4, 5] →
    Answers (exec (.accordOpen q k c w b n) s) fun t =>
      t.on (Reg.EF_SLOT q.val k.val) Fld.EF_SLOT.DB_ERR = true ∧ t.slotState q.val k.val = s.slotState q.val k.val ∧
      t.acd = s.acd ∧ t.regsBut s [Reg.EF_SLOT q.val k.val]) ∧
  (∀ (s : State) (q : PortIx) (k : Fin 64) (i : Nat) (a : Accord), s.quiet = true → s.md.clocked = true →
    s.slotTracker q.val k.val = some (i, a) → a.age = none → tabGet s.acd.waits (q.val * 64 + k.val) [] = [] →
    Answers (exec (.accordTrackerGrant q k) s) fun t =>
      t.accord i = some { a with age := some s.acd.nextAge } ∧ t.acd.nextAge = s.acd.nextAge + 1 ∧ t.regsBut s []) ∧
  (∀ (s : State) (q : PortIx) (k : Fin 64) (n : Bool) (i : Nat) (a : Accord), s.engineUp q.val = true →
    k.val < s.slotsOf q.val → s.slotState q.val k.val = 1 → s.slotTracker q.val k.val = some (i, a) →
    Leaves (exec (.accordCommit q k n) s) fun u =>
      u.slotState q.val k.val = 2 ∧ u.accord i = some { a with ph := .queued, notify := n } ∧
      u.acd.commitQ = s.acd.commitQ ++ [i] ∧
      u.on (Reg.EF_SLOT q.val k.val) Fld.EF_SLOT.DB_ERR = false ∧ u.regsBut s [Reg.EF_SLOT q.val k.val]) ∧
  (∀ (s : State) (q : PortIx) (k : Fin 64) (n : Bool) (i : Nat) (a : Accord), s.quiet = true → s.md.clocked = true →
    s.engineUp q.val = true → k.val < s.slotsOf q.val → s.slotState q.val k.val = 1 →
    s.slotTracker q.val k.val = some (i, a) → a.out = 0 → a.age ≠ none → s.durability a.flacon ≠ 1 → i ∉ s.acd.readyQ →
    Answers (exec (.accordCommit q k n) s) fun t =>
      t.slotState q.val k.val = 2 ∧ t.acd.readyQ = s.acd.readyQ ++ [i] ∧ t.regsBut s [Reg.EF_SLOT q.val k.val]) ∧
  (∀ (s : State) (q : PortIx) (k : Fin 64) (n : Bool), s.quiet = true → s.engineUp q.val = true →
    k.val < s.slotsOf q.val → s.slotState q.val k.val ≠ 1 →
    Answers (exec (.accordCommit q k n) s) fun t =>
      t.on (Reg.EF_SLOT q.val k.val) Fld.EF_SLOT.DB_ERR = true ∧ t.acd = s.acd ∧ t.regsBut s [Reg.EF_SLOT q.val k.val]) ∧
  (∀ (s : State) (q : PortIx) (k : Fin 64) (i : Nat) (a : Accord), s.engineUp q.val = true → k.val < s.slotsOf q.val →
    s.slotTracker q.val k.val = some (i, a) → a.place = some (q.val * 64 + k.val) → a.unsealed = true → a.flacon < 32 →
    s.slicesIdle → tabGet s.acd.waits (q.val * 64 + k.val) [] = [] →
    Leaves (exec (.accordAbort q k) s) fun u =>
      u.slotState q.val k.val = 7 ∧ u.rd (Reg.EF_SLOT q.val k.val) Fld.EF_SLOT.CODE = Ab.HOST ∧
      u.slotTracker q.val k.val = none ∧ u.accord i = none ∧
      (u.rd (Reg.EF_DONE q.val) Fld.EF_DONE.DONE).testBit k.val = true) ∧
  (∀ (s : State) (q : PortIx) (k : Fin 64), s.quiet = true → s.engineUp q.val = true → k.val < s.slotsOf q.val →
    s.slotTracker q.val k.val = none →
    Answers (exec (.accordAbort q k) s) fun t =>
      t.on (Reg.EF_SLOT q.val k.val) Fld.EF_SLOT.DB_ERR = true ∧ t.acd = s.acd ∧ t.regsBut s [Reg.EF_SLOT q.val k.val]) ∧
  (∀ (s : State) (q : PortIx) (k : Fin 64), s.quiet = true → s.engineUp q.val = true → k.val < s.slotsOf q.val →
    s.slotState q.val k.val ∈ [6, 7] →
    Answers (exec (.accordClear q k) s) fun t =>
      t.slotState q.val k.val = 0 ∧ t.reg (Reg.EF_SEQ q.val k.val) = 0 ∧ t.reg (Reg.EF_ABORT q.val k.val) = 0 ∧
      t.on (Reg.EF_SLOT q.val k.val) Fld.EF_SLOT.STRAY = s.on (Reg.EF_SLOT q.val k.val) Fld.EF_SLOT.STRAY ∧ t.acd = s.acd ∧
      t.regsBut s [Reg.EF_SLOT q.val k.val, Reg.EF_SEQ q.val k.val, Reg.EF_ABORT q.val k.val]) ∧
  (∀ (s : State) (q : PortIx) (k : Fin 64) (o l : Nat) (b : List Byte) (e : LookupEnv) (x y : Bool), s.quiet = true →
    s.md.clocked = true → s.engineUp q.val = true → s.slotTracker q.val k.val = none →
    Answers (exec (.aliasWrite q k o b l { lookup := e, tee := x, ue := y }) s) fun t =>
      t.on (Reg.EF_SLOT q.val k.val) Fld.EF_SLOT.STRAY = true ∧ t.acd = s.acd ∧ t.core = s.core ∧
      t.regsBut s [Reg.EF_SLOT q.val k.val]) ∧
  (∀ (s : State) (q : PortIx) (k : Fin 64) (o l i : Nat) (b : List Byte) (e : LookupEnv) (a : Accord) (x y : Bool), s.quiet = true →
    s.md.clocked = true → s.engineUp q.val = true → s.slotTracker q.val k.val = some (i, a) → a.ph = .opened → a.age = none →
    Answers (exec (.aliasWrite q k o b l { lookup := e, tee := x, ue := y }) s) fun t =>
      tabGet t.acd.waits (q.val * 64 + k.val) [] = tabGet s.acd.waits (q.val * 64 + k.val) [] ++
        [{ write := true, offset := o, bytes := b, len := b.length, ltag := l, env := e, tee := x, ue := y }] ∧ t.regsBut s []) ∧
  (∀ (s : State) (q : PortIx) (k : Fin 64) (o n l i : Nat) (e : LookupEnv) (a : Accord) (x y : Bool), s.quiet = true →
    s.md.clocked = true → s.engineUp q.val = true → s.slotTracker q.val k.val = some (i, a) → a.age = none →
    Answers (exec (.aliasRead q k o n l { lookup := e, tee := x, ue := y }) s) fun t =>
      tabGet t.acd.waits (q.val * 64 + k.val) [] = tabGet s.acd.waits (q.val * 64 + k.val) [] ++
        [{ write := false, offset := o, len := n, ltag := l, env := e, tee := x, ue := y }] ∧ t.regsBut s []) ∧
  (∀ (s : State) (q : PortIx), s.quiet = true → s.engineUp q.val = true → s.acd.trk = [] → s.slicesIdle →
    Answers (exec (.engineFunctionFlr q) s) fun t =>
      (∀ k < 64, t.reg (Reg.EF_SLOT q.val k) = 0 ∧ t.reg (Reg.EF_SEQ q.val k) = 0 ∧ t.reg (Reg.EF_ABORT q.val k) = 0 ∧
        t.slotTracker q.val k = none) ∧ t.reg (Reg.EF_DONE q.val) = 0)

/-- The Accord engine (R195, R198 to R201, R204): stage notices, PREPARE at the engine and at a slice, its answers and its
time limit, the commit record, the flips and their acknowledgements. -/
def Obligations.AccordEngine : Prop :=
  (∀ (s : State) (i : Nat) (a : Accord), s.md.clocked = true → s.accord i = some a → 0 < a.ready →
    Leaves (exec (.stageNotice i) s) fun u =>
      u.accord i = some { a with ready := a.ready - 1, out := a.out - 1 } ∧ u.regsBut s []) ∧
  (∀ (s : State) (i p : Nat) (a : Accord), s.quiet = true → s.md.clocked = true → s.accord i = some a → a.ph = .queued →
    s.acd.readyQ.head? = some i → s.durability a.flacon = 0 → a.place = some p → a.slices ≠ [] →
    Answers (exec (.accordPrepareStart i) s) fun t =>
      (∃ b, t.accord i = some b ∧ b.ph = .prepare ∧ b.asked = a.slices ∧ b.marks = a.marks ∧ b.epoch ≠ none) ∧
      t.slotState (p / 64) (p % 64) = 3 ∧ t.regsBut s [Reg.EF_SLOT (p / 64) (p % 64)]) ∧
  (∀ (s : State) (i : Nat) (a : Accord), s.quiet = true → s.md.clocked = true → s.accord i = some a → a.ph = .queued →
    s.acd.readyQ.head? ≠ some i → Answers (exec (.accordPrepareStart i) s) fun t => t.acd = s.acd ∧ t.regsBut s []) ∧
  (∀ (s : State) (n : SliceIx) (i : Nat) (a : Accord), s.quiet = true → s.md.clocked = true → s.accord i = some a →
    a.ph = .prepare → n.val ∈ a.asked → s.slice n.val = {} → s.geomOk a.flacon = true →
    s.on (Reg.FL_STATUS a.flacon) Fld.FL_STATUS.FENCED = false →
    Answers (exec (.prepareAtSlice n i) s) fun t =>
      (∃ b, t.accord i = some b ∧ b.taken = a.taken ++ [n.val] ∧ b.asked = a.asked.erase n.val ∧
        (∀ k ∈ b.marks, k.slice = n.val → k.pinned = true ∧ k.waits = []) ∧ b.marks.length = a.marks.length) ∧
      t.regsBut s []) ∧
  (∀ (s : State) (n : SliceIx) (i m : Nat) (a : Accord), s.quiet = true → s.md.clocked = true → s.accord i = some a →
    a.ph = .prepare → n.val ∉ a.answered → a.refused = [] → a.preparedAt n.val = true → s.slice n.val = {} →
    m ∈ a.slices → m ∉ a.answered → m ≠ n.val →
    Answers (exec (.prepareAnswer n i) s) fun t =>
      t.accord i = some { a with answered := a.answered ++ [n.val] } ∧ t.regsBut s []) ∧
  (∀ (s : State) (i p : Nat) (a : Accord), s.md.clocked = true → s.accord i = some a → a.ph = .prepare → a.place = some p →
    a.flacon < 32 → s.slicesIdle → tabGet s.acd.waits p [] = [] →
    Leaves (exec (.prepTimeout i) s) fun u =>
      u.accord i = none ∧ u.slotState (p / 64) (p % 64) = 7 ∧
      u.rd (Reg.EF_SLOT (p / 64) (p % 64)) Fld.EF_SLOT.CODE = Ab.PREP_TIMEOUT ∧
      u.on Reg.AC_ERR Fld.AC_ERR.PREP_TIMEOUT = true ∧ (∃ f, u.hasRaised Src.AC_PREP_TIMEOUT (some f) ∧ f.val = a.flacon)) ∧
  (∀ (s : State) (i : Nat) (a : Accord), s.quiet = true → s.md.clocked = true → s.accord i = some a → a.ph = .sealing →
    a.recorded = false → a.slices ≠ [] →
    Answers (exec (.commitRecordWritten i) s) fun t =>
      t.accord i = some { a with recorded := true, flips := a.slices } ∧ t.regsBut s []) ∧
  (∀ (s : State) (n : SliceIx) (i : Nat) (a : Accord) (x : Sealed) (l : List Nat), s.quiet = true → s.md.clocked = true →
    s.accord i = some a → a.ph = .sealing → n.val ∈ a.flips → s.acd.seals.find? (fun y => y.seq == a.seq) = some x →
    (∀ k ∈ x.lines, k.slice ≠ n.val) → s.slicesIdle →
    Answers (exec (.flipAtSlice n i l) s) fun t =>
      (∃ b, t.accord i = some b ∧ b.flips = a.flips.erase n.val ∧ b.acks = a.acks ++ [n.val] ∧
        ∀ k ∈ b.marks, k.slice ≠ n.val) ∧ t.regsBut s []) ∧
  (∀ (s : State) (n : SliceIx) (i : Nat) (a : Accord), s.quiet = true → s.md.clocked = true → s.accord i = some a →
    a.ph = .sealing → n.val ∈ a.acks → a.flips ≠ [] →
    Answers (exec (.flipAck n i) s) fun t =>
      t.accord i = some { a with acks := a.acks.erase n.val } ∧ t.regsBut s [])

/-- Epochs and unfencing (R234, R242, R392, R398): the drain target, FL_FAULT.CLEAR taken and refused, the end of an
unfencing. -/
def Obligations.EpochAndUnfence : Prop :=
  (∀ (s : State) (p : AccessPath) (f : FlaconIx) (x : BitVec 32), s.quiet = true → s.mayAct p = true →
    Answers (exec (.epochDrainTarget p f x) s) fun t =>
      t.rd (Reg.FL_EPOCH_DRAIN f.val) Fld.FL_EPOCH_DRAIN.TARGET = x.toNat ∧ t.regsBut s [Reg.FL_EPOCH_DRAIN f.val]) ∧
  (∀ (s : State) (p : AccessPath) (f : FlaconIx), s.quiet = true → s.mayAct p = true →
    s.on (Reg.FL_STATUS f.val) Fld.FL_STATUS.FENCED = false →
    Answers (exec (.flFaultClear p f) s) fun t => t.regsBut s [] ∧ t.acc = s.acc) ∧
  (∀ (s : State) (p : AccessPath) (f : FlaconIx), s.quiet = true → s.mayAct p = true →
    s.on (Reg.FL_STATUS f.val) Fld.FL_STATUS.FENCED = true →
    (s.md = .quarantine ∨ s.on (Reg.FL_STATUS f.val) Fld.FL_STATUS.UNFENCING = true) →
    Answers (exec (.flFaultClear p f) s) fun t =>
      t.on (Reg.FL_FAULT f.val) Fld.FL_FAULT.REFUSED = true ∧ t.regsBut s [Reg.FL_FAULT f.val]) ∧
  (∀ (s : State) (p : AccessPath) (f : FlaconIx), s.quiet = true → s.mayAct p = true →
    s.on (Reg.FL_STATUS f.val) Fld.FL_STATUS.FENCED = true → s.md ≠ .quarantine →
    s.on (Reg.FL_STATUS f.val) Fld.FL_STATUS.UNFENCING = false → s.viralPorts f.val = [] →
    Answers (exec (.flFaultClear p f) s) fun t =>
      t.on (Reg.FL_STATUS f.val) Fld.FL_STATUS.UNFENCING = true ∧
      t.on (Reg.FL_STATUS f.val) Fld.FL_STATUS.FENCED = true ∧ t.regsBut s [Reg.FL_STATUS f.val]) ∧
  (∀ (s : State) (f : FlaconIx), s.md.clocked = true → s.on (Reg.FL_STATUS f.val) Fld.FL_STATUS.UNFENCING = true →
    s.fenceComes f.val = false → s.fenceDry f.val = true → s.canAdvance f.val false = true →
    Leaves (exec (.unfenceDrainDone f) s) fun u =>
      u.on (Reg.FL_STATUS f.val) Fld.FL_STATUS.FENCED = false ∧
      u.on (Reg.FL_STATUS f.val) Fld.FL_STATUS.UNFENCING = false) ∧
  (∀ (s : State) (f : FlaconIx), s.quiet = true → s.md.clocked = true → s.fenceDry f.val = false →
    Answers (exec (.unfenceDrainDone f) s) fun t => t.acc = s.acc ∧ t.home = s.home ∧ t.regsBut s [])

/-- Bring-up of Ictil and Flocet lanes (R248 to R253, R256, R268): the stages of Table 2, what moves a lane from each, and how
each ends. -/
def Obligations.LaneBringUp : Prop :=
  (∀ (s : State) (l : LaneIx), s.quiet = true → s.md.clocked = true → s.stage l.val = Stage.DETECT →
    Answers (exec (.laneSignalDetected l) s) fun t =>
      t.stage l.val = Stage.TRAIN ∧ t.taps l.val = [0, -8, 47, -8] ∧ (t.laneSt l.val).sts = [0, 0, 0, 0] ∧
      t.regsBut s [Reg.LN_STATUS l.val, Reg.LN_TXFIR l.val]) ∧
  (∀ (s : State) (l : LaneIx) (f : TrainFrame), s.quiet = true → s.md.clocked = true → s.stage l.val = Stage.TRAIN →
    f.good = true → f.preset = 1 →
    Answers (exec (.trainingFrame l f) s) fun t =>
      t.taps l.val = [0, 0, 63, 0] ∧ (t.laneSt l.val).sts = [1, 1, 1, 1] ∧
      t.on (Reg.LN_STATUS l.val) Fld.LN_STATUS.RX_INV = (s.on (Reg.LN_STATUS l.val) Fld.LN_STATUS.RX_INV ^^ f.inverted) ∧
      t.stage l.val = Stage.TRAIN ∧ t.regsBut s [Reg.LN_STATUS l.val, Reg.LN_TXFIR l.val]) ∧
  (∀ (s : State) (l : LaneIx) (f : TrainFrame), s.quiet = true → s.md.clocked = true → f.good = false →
    Answers (exec (.trainingFrame l f) s) fun t => t.lane = s.lane ∧ t.regsBut s []) ∧
  (∀ (s : State) (l : LaneIx) (x : BitVec 8), s.quiet = true → s.md.clocked = true → s.md ≠ .linktest →
    s.stage l.val = Stage.TRAIN →
    Answers (exec (.laneTrainDone l x) s) fun t =>
      t.stage l.val = Stage.LOCK ∧ t.on (Reg.LN_STATUS l.val) Fld.LN_STATUS.CDR_LOCK = true ∧
      t.rd (Reg.LN_ADAPT_STAMP l.val) Fld.LN_ADAPT_STAMP.LOAD = x.toNat ∧
      t.reg (Reg.LN_ADAPT_TIME l.val) = s.reg Reg.CHIP_TIME ∧
      t.regsBut s [Reg.LN_STATUS l.val, Reg.LN_ADAPT_STAMP l.val, Reg.LN_ADAPT_TIME l.val]) ∧
  (∀ (s : State) (l : LaneIx), s.md.clocked = true → s.md ≠ .linktest → s.stage l.val = Stage.TRAIN →
    Leaves (exec (.laneTrainTimeout l) s) fun u =>
      u.stage l.val = Stage.WAIT ∧ u.rd (Reg.LN_TRAIN l.val) Fld.LN_TRAIN.FAIL_STAGE = 2 ∧
      u.on (Reg.LN_ERR l.val) Fld.LN_ERR.TRAIN_FAIL = true ∧ u.hasRaised (srcTile (l.val / 8) 3) none ∧
      u.regsBut s [Reg.LN_STATUS l.val, Reg.LN_TRAIN l.val, Reg.LN_ERR l.val]) ∧
  (∀ (s : State) (l : LaneIx), s.quiet = true → s.md.clocked = true → s.stage l.val = Stage.LOCK →
    Answers (exec (.laneLocked l) s) fun t =>
      t.stage l.val = Stage.IDENT ∧ t.on (Reg.LN_STATUS l.val) Fld.LN_STATUS.CW_LOCK = true ∧
      t.on (Reg.LN_STATUS l.val) Fld.LN_STATUS.BLOCK_LOCK = true ∧ t.regsBut s [Reg.LN_STATUS l.val]) ∧
  (∀ (s : State) (l : LaneIx), s.md.clocked = true → s.stage l.val = Stage.LOCK →
    Leaves (exec (.laneLockTimeout l) s) fun u =>
      u.stage l.val = Stage.WAIT ∧ u.rd (Reg.LN_TRAIN l.val) Fld.LN_TRAIN.FAIL_STAGE = 3 ∧
      u.hasRaised (srcTile (l.val / 8) 3) none ∧ u.regsBut s [Reg.LN_STATUS l.val, Reg.LN_TRAIN l.val, Reg.LN_ERR l.val]) ∧
  (∀ (s : State) (l : LaneIx) (f : IdentFrame) (p : PortRec), s.quiet = true → s.md.clocked = true →
    s.fabricPort l.val = some p → s.stage l.val = Stage.IDENT → f.ack = true → (s.laneSt l.val).ident = some f →
    (s.laneSt l.val).identCount = 2 →
    (∀ k ∈ p.lanes, k ≠ l.val → s.stage k ≠ Stage.IDENT ∧ s.stage k ≠ Stage.ACTIVE) →
    Answers (exec (.identFrame l f true) s) fun t =>
      (t.laneSt l.val).ident = some f ∧ (t.laneSt l.val).identCount = 3 ∧ (t.laneSt l.val).identDone = true ∧
      t.regsBut s []) ∧
  (∀ (s : State) (l : LaneIx) (f : IdentFrame) (p : PortRec), s.quiet = true → s.md.clocked = true →
    s.fabricPort l.val = some p → s.stage l.val = Stage.IDENT →
    Answers (exec (.identFrame l f false) s) fun t =>
      (t.laneSt l.val).ident = none ∧ (t.laneSt l.val).identCount = 0 ∧ t.regsBut s []) ∧
  (∀ (s : State) (q : PortIx) (p : PortRec) (l : Nat) (f : IdentFrame), s.md.clocked = true → s.portRec q.val = some p →
    p.port = q.val → p.fabric = true → s.identReady p = [l] → l < 512 → s.lanesIn p [Stage.ACTIVE] ≠ [] →
    (s.laneSt l).ident = some f → p.partnerId ≠ 0 → BitVec.ofNat 64 p.partnerId ≠ f.identity →
    (∀ k ∈ p.lanes, k < 512) →
    Leaves (exec (.laneIdentDone q) s) fun u =>
      u.hasRaised (srcQuad (quadOf (tileOf q.val)) 0) none ∧ u.on (Reg.LN_ERR l) Fld.LN_ERR.PARTNER = true ∧
      u.stage l = Stage.WAIT) ∧
  (∀ (s : State) (q : PortIx) (p : PortRec) (l : Nat) (f : IdentFrame), s.md.clocked = true → s.portRec q.val = some p →
    p.port = q.val → p.fabric = true → p.sparing = false → s.identReady p = [l] → l < 512 →
    s.lanesIn p [Stage.ACTIVE] = [] → s.lanesIn p [Stage.DETECT, Stage.TRAIN, Stage.LOCK, Stage.IDENT] = [l] →
    (s.laneSt l).ident = some f → p.partnerId = 0 → f.flocet = (p.protocol == .flocet) → s.linkState q.val = 0 →
    Leaves (exec (.laneIdentDone q) s) fun u =>
      u.stage l = Stage.ACTIVE ∧ u.reg (Reg.LN_PARTNER l) = f.identity ∧ q.val ∉ u.fml.retrain) ∧
  (∀ (s : State) (q : PortIx) (p : PortRec) (l : Nat), s.md.clocked = true → s.portRec q.val = some p → p.fabric = true →
    l < 512 → s.lanesIn p [Stage.LOCK, Stage.IDENT] = [l] → (s.laneSt l).identDone = false →
    Leaves (exec (.portIdentTimeout q) s) fun u =>
      u.stage l = Stage.WAIT ∧ u.rd (Reg.LN_TRAIN l) Fld.LN_TRAIN.FAIL_STAGE = 4 ∧ u.hasRaised (srcTile (l / 8) 3) none) ∧
  (∀ (s : State) (l : LaneIx), s.quiet = true → s.lanesTrain = true → s.stage l.val = Stage.WAIT →
    s.on (Reg.LN_CTL l.val) Fld.LN_CTL.DISABLE = false →
    Answers (exec (.laneWaitExpiry l) s) fun t =>
      t.stage l.val = Stage.DETECT ∧
      t.rd (Reg.LN_TRAIN l.val) Fld.LN_TRAIN.ATTEMPTS =
        min (2 ^ Fld.LN_TRAIN.ATTEMPTS.width - 1) (s.rd (Reg.LN_TRAIN l.val) Fld.LN_TRAIN.ATTEMPTS + 1) ∧
      t.regsBut s [Reg.LN_STATUS l.val, Reg.LN_TRAIN l.val])

/-- Lanes in service (R248, R254, R258 to R261, R266): failures, margins, re-tunes, LN_CTL, host margining. -/
def Obligations.LaneService : Prop :=
  (∀ (s : State) (l : LaneIx), s.md.clocked = true → s.laneActive l.val = true → s.fabricPort l.val = none →
    Leaves (exec (.laneFailure l) s) fun u =>
      u.hasRaised (srcTile (l.val / 8) 4) none ∧ u.on (Reg.LN_ERR l.val) Fld.LN_ERR.LANE_FAIL = true ∧
      (u.laneSt l.val).level = 0 ∧ u.stage l.val = s.stage l.val ∧
      u.regsBut s [Reg.LN_ERR l.val, Reg.LN_RETUNE l.val]) ∧
  (∀ (s : State) (l : LaneIx) (p : PortRec), s.md.clocked = true → s.stage l.val = Stage.ACTIVE →
    s.fabricPort l.val = some p → p.port < 128 → s.linkState p.port = 0 →
    Leaves (exec (.laneFailure l) s) fun u =>
      u.hasRaised (srcTile (l.val / 8) 4) none ∧ u.stage l.val = Stage.WAIT ∧ (u.laneSt l.val).identDone = false ∧
      u.regsBut s [Reg.LN_ERR l.val, Reg.LN_RETUNE l.val, Reg.LN_STATUS l.val]) ∧
  (∀ (s : State) (l : LaneIx) (v : BitVec 8) (h : BitVec 6) (x : BitVec 8), s.quiet = true → s.md.clocked = true →
    s.laneActive l.val = true → s.on (Reg.LN_CTL l.val) Fld.LN_CTL.MON_EN = true → (s.laneSt l.val).hostRun = false →
    s.marginsOk l.val v.toNat h.toNat = true → s.on (Reg.LN_CTL l.val) Fld.LN_CTL.TEMP_TRIG_EN = false →
    s.on (Reg.LN_CTL l.val) Fld.LN_CTL.LOAD_TRIG_EN = false → (s.laneSt l.val).loadDue = false →
    Answers (exec (.marginMeasurement l v h x) s) fun t =>
      t.rd (Reg.LN_MARGIN l.val) Fld.LN_MARGIN.V_MV = v.toNat ∧ t.rd (Reg.LN_MARGIN l.val) Fld.LN_MARGIN.H = h.toNat ∧
      t.on (Reg.LN_MARGIN l.val) Fld.LN_MARGIN.VALID = true ∧ t.on (Reg.LN_MARGIN l.val) Fld.LN_MARGIN.LOW = false ∧
      (t.laneSt l.val).lows = 0 ∧ (t.laneSt l.val).goods = (s.laneSt l.val).goods + 1 ∧
      t.regsBut s [Reg.LN_MARGIN l.val]) ∧
  (∀ (s : State) (l : LaneIx) (v : BitVec 8) (h : BitVec 6) (x : BitVec 8), s.quiet = true → s.md.clocked = true →
    s.laneActive l.val = true → s.on (Reg.LN_CTL l.val) Fld.LN_CTL.MON_EN = true → (s.laneSt l.val).hostRun = false →
    s.marginsOk l.val v.toNat h.toNat = true → s.on (Reg.LN_CTL l.val) Fld.LN_CTL.TEMP_TRIG_EN = false →
    (s.laneSt l.val).loadDue = true → (s.laneSt l.val).level = 0 →
    Answers (exec (.marginMeasurement l v h x) s) fun t =>
      t.rd (Reg.LN_ADAPT_STAMP l.val) Fld.LN_ADAPT_STAMP.LOAD = x.toNat ∧
      t.rd (Reg.LN_ADAPT_STAMP l.val) Fld.LN_ADAPT_STAMP.CAUSE = 3 ∧ (t.laneSt l.val).loadDue = false ∧
      (t.laneSt l.val).level = 0 ∧ t.regsBut s [Reg.LN_MARGIN l.val, Reg.LN_ADAPT_STAMP l.val]) ∧
  (∀ (s : State) (l : LaneIx) (v : BitVec 8) (h : BitVec 6) (x : BitVec 8), s.md.clocked = true →
    s.laneActive l.val = true → s.on (Reg.LN_CTL l.val) Fld.LN_CTL.MON_EN = true → (s.laneSt l.val).hostRun = false →
    s.marginsOk l.val v.toNat h.toNat = false → (s.laneSt l.val).lows = 1 →
    Leaves (exec (.marginMeasurement l v h x) s) fun u =>
      u.on (Reg.LN_MARGIN l.val) Fld.LN_MARGIN.LOW = true ∧ u.on (Reg.LN_ERR l.val) Fld.LN_ERR.MARGIN_LOW = true ∧
      u.hasRaised (srcTile (l.val / 8) 6) none ∧ (u.laneSt l.val).lows = 0) ∧
  (∀ (s : State) (l : LaneIx) (v : BitVec 8) (h : BitVec 6) (x : BitVec 8), s.quiet = true → s.md.clocked = true →
    (s.laneSt l.val).level = 1 → (s.laneSt l.val).levelHeld = false →
    s.marginsOk l.val v.toNat h.toNat = true → s.lanePort l.val = none →
    Answers (exec (.retuneLevelDone l v h x) s) fun t =>
      (t.laneSt l.val).level = 0 ∧ t.on (Reg.LN_RETUNE l.val) Fld.LN_RETUNE.ACTIVE = false ∧
      t.rd (Reg.LN_ADAPT_STAMP l.val) Fld.LN_ADAPT_STAMP.LOAD = x.toNat ∧
      t.reg (Reg.LN_ADAPT_TIME l.val) = s.reg Reg.CHIP_TIME ∧
      t.regsBut s [Reg.LN_MARGIN l.val, Reg.LN_ADAPT_STAMP l.val, Reg.LN_ADAPT_TIME l.val, Reg.LN_RETUNE l.val]) ∧
  (∀ (s : State) (l : LaneIx) (v : BitVec 8) (h : BitVec 6) (x : BitVec 8), s.quiet = true → s.md.clocked = true →
    (s.laneSt l.val).level = 1 → (s.laneSt l.val).levelHeld = false → (s.laneSt l.val).hostWait = true →
    s.marginsOk l.val v.toNat h.toNat = false → (∀ p, s.lanePort l.val = some p → p.protocol ≠ .flocet) →
    Answers (exec (.retuneLevelDone l v h x) s) fun t =>
      (t.laneSt l.val).level = 1 ∧ (t.laneSt l.val).hostRun = true ∧ (t.laneSt l.val).levelHeld = true ∧
      t.regsBut s [Reg.LN_MARGIN l.val]) ∧
  (∀ (s : State) (l : LaneIx) (v : BitVec 8) (h : BitVec 6) (x : BitVec 8), s.quiet = true → s.md.clocked = true →
    (s.laneSt l.val).level = 1 → (s.laneSt l.val).levelHeld = false → (s.laneSt l.val).hostWait = false →
    s.marginsOk l.val v.toNat h.toNat = false → (∀ p, s.lanePort l.val = some p → p.protocol ≠ .flocet) →
    Answers (exec (.retuneLevelDone l v h x) s) fun t =>
      (t.laneSt l.val).level = 2 ∧
      t.rd (Reg.LN_RETUNE l.val) Fld.LN_RETUNE.L2 =
        min (2 ^ Fld.LN_RETUNE.L2.width - 1) (s.rd (Reg.LN_RETUNE l.val) Fld.LN_RETUNE.L2 + 1) ∧
      t.regsBut s [Reg.LN_MARGIN l.val, Reg.LN_RETUNE l.val]) ∧
  (∀ (s : State) (p : AccessPath) (l : LaneIx), s.quiet = true → s.mayAct p = true → s.md ≠ .drydown → s.md ≠ .quarantine →
    s.laneActive l.val = true → (s.laneSt l.val).level = 0 → (s.laneSt l.val).hostRun = false →
    (∀ k ∈ s.portLanesOf l.val, k ≠ l.val → (s.laneSt k).level = 0) →
    Answers (exec (.lnRetune p l) s) fun t =>
      (t.laneSt l.val).level = 1 ∧ (t.laneSt l.val).cause = 4 ∧ (t.laneSt l.val).waiting = none ∧
      t.on (Reg.LN_RETUNE l.val) Fld.LN_RETUNE.ACTIVE = true ∧
      t.rd (Reg.LN_RETUNE l.val) Fld.LN_RETUNE.LAST_CAUSE = 4 ∧ t.regsBut s [Reg.LN_RETUNE l.val]) ∧
  (∀ (s : State) (p : AccessPath) (l : LaneIx), s.quiet = true → s.mayAct p = true → s.md ≠ .drydown → s.md ≠ .quarantine →
    s.laneActive l.val = true → (s.laneSt l.val).level = 0 → (s.laneSt l.val).hostRun = true →
    Answers (exec (.lnRetune p l) s) fun t =>
      (t.laneSt l.val).waiting = some 4 ∧ (t.laneSt l.val).level = 0 ∧
      t.on (Reg.LN_RETUNE l.val) Fld.LN_RETUNE.PENDING = true ∧ t.regsBut s [Reg.LN_RETUNE l.val]) ∧
  (∀ (s : State) (p : AccessPath) (l : LaneIx) (r : PortRec), s.quiet = true → s.mayAct p = true →
    s.lanePort l.val = some r → r.fabric = true → r.port < 128 → (∀ k ∈ r.lanes, k < 512) → l.val ∈ r.lanes →
    s.linkState r.port = 0 → s.stage l.val ∉ [Stage.OFF, Stage.TEST, Stage.STD] →
    Answers (exec (.lnRetrain p l) s) fun t =>
      t.stage l.val = Stage.WAIT ∧ t.linkState r.port = 0 ∧ (t.laneSt l.val).level = 0 ∧ (t.laneSt l.val).identDone = false) ∧
  (∀ (s : State) (p : AccessPath) (l : LaneIx), s.quiet = true → s.mayAct p = true → s.laneActive l.val = false →
    s.stage l.val ≠ Stage.TEST → (∀ r, s.lanePort l.val = some r → r.port < 128) →
    Answers (exec (.lnDisable p l true) s) fun t =>
      t.on (Reg.LN_CTL l.val) Fld.LN_CTL.DISABLE = true ∧ t.stage l.val = Stage.OFF ∧
      (t.laneSt l.val).level = 0 ∧ t.regsBut s [Reg.LN_CTL l.val, Reg.LN_STATUS l.val, Reg.LN_RETUNE l.val]) ∧
  (∀ (s : State) (p : AccessPath) (l : LaneIx) (r : PortRec), s.quiet = true → s.mayAct p = true →
    s.lanePort l.val = some r → r.fabric = true → s.on (Reg.LN_CTL l.val) Fld.LN_CTL.DISABLE = true → s.lanesTrain = true →
    Answers (exec (.lnDisable p l false) s) fun t =>
      t.on (Reg.LN_CTL l.val) Fld.LN_CTL.DISABLE = false ∧ t.stage l.val = Stage.DETECT ∧
      t.on (Reg.LN_PRBS_STATUS l.val) Fld.LN_PRBS_STATUS.CHK_LOCK = false) ∧
  (∀ (s : State) (l : LaneIx) (p : PortRec), s.quiet = true → s.md.clocked = true → s.lanePort l.val = some p →
    p.fabric = false → s.laneActive l.val = true →
    Answers (exec (.hostMarginingStart l) s) fun t =>
      ((s.laneSt l.val).level = 0 → (t.laneSt l.val).hostRun = true) ∧
      ((s.laneSt l.val).level ≠ 0 → (t.laneSt l.val).hostWait = true) ∧ t.regsBut s []) ∧
  (∀ (s : State) (l : LaneIx), s.quiet = true → s.md.clocked = true → s.lanePort l.val = none →
    (s.laneSt l.val).levelHeld = false →
    Answers (exec (.hostMarginingEnd l) s) fun t =>
      (t.laneSt l.val).hostRun = false ∧ (t.laneSt l.val).hostWait = false ∧ t.regsBut s []) ∧
  (∀ (s : State) (l : LaneIx), s.quiet = true → s.md.clocked = true → (s.laneSt l.val).levelHeld = true →
    Answers (exec (.hostMarginingEnd l) s) fun t =>
      (t.laneSt l.val).level = 2 ∧ (t.laneSt l.val).levelHeld = false ∧ (t.laneSt l.val).hostRun = false ∧
      t.regsBut s [Reg.LN_RETUNE l.val])

/-- PRBS and LINKTEST (R263, R264, R266, R267). -/
def Obligations.LaneTests : Prop :=
  (∀ (s : State) (p : AccessPath) (l : LaneIx) (w : BitVec 32), s.quiet = true → s.mayAct p = true → s.testAllowed l.val = true →
    Answers (exec (.lnPrbsCtlWrite p l w) s) fun t =>
      t.rd (Reg.LN_PRBS_CTL l.val) ⟨0, 12⟩ = w.toNat % 2 ^ 12 ∧
      ((w.getLsbD 4 = true ∧ s.on (Reg.LN_PRBS_CTL l.val) Fld.LN_PRBS_CTL.CHK_EN = false) →
        t.reg (Reg.LN_PRBS_BITS l.val) = 0 ∧ t.reg (Reg.LN_PRBS_ERRS l.val) = 0 ∧
        t.on (Reg.LN_PRBS_STATUS l.val) Fld.LN_PRBS_STATUS.CHK_LOCK = false) ∧
      t.regsBut s [Reg.LN_PRBS_CTL l.val, Reg.LN_PRBS_BITS l.val, Reg.LN_PRBS_ERRS l.val, Reg.LN_PRBS_STATUS l.val,
        Reg.LN_STATUS l.val]) ∧
  (∀ (s : State) (p : AccessPath) (l : LaneIx) (w : BitVec 32), s.quiet = true → s.mayAct p = true → s.testAllowed l.val = false →
    w.getLsbD 0 = true → s.on (Reg.LN_PRBS_CTL l.val) Fld.LN_PRBS_CTL.GEN_EN = false →
    Answers (exec (.lnPrbsCtlWrite p l w) s) fun t =>
      t.on (Reg.LN_PRBS_CTL l.val) Fld.LN_PRBS_CTL.REFUSED = true ∧
      t.on (Reg.LN_PRBS_CTL l.val) Fld.LN_PRBS_CTL.GEN_EN = false ∧ t.regsBut s [Reg.LN_PRBS_CTL l.val]) ∧
  (∀ (s : State) (p : AccessPath) (l : LaneIx), s.quiet = true → s.mayAct p = true → s.laneActive l.val = false →
    s.on (Reg.LN_PRBS_CTL l.val) Fld.LN_PRBS_CTL.GEN_EN = true →
    Answers (exec (.lnInject p l) s) fun t => Out.injected l.val 1 ∈ t.out ∧ t.regsBut s []) ∧
  (∀ (s : State) (p : AccessPath) (l : LaneIx) (r : PortRec), s.quiet = true → s.mayAct p = true → s.laneActive l.val = true →
    s.lanePort l.val = some r → r.anchored = true →
    Answers (exec (.lnInject p l) s) fun t =>
      t.on (Reg.LN_PRBS_INJ l.val) Fld.LN_PRBS_INJ.REFUSED = true ∧ t.regsBut s [Reg.LN_PRBS_INJ l.val]) ∧
  (∀ (s : State) (p : AccessPath) (l : LaneIx), s.quiet = true → s.mayAct p = true → s.laneActive l.val = false →
    s.on (Reg.LN_PRBS_CTL l.val) Fld.LN_PRBS_CTL.GEN_EN = true →
    Answers (exec (.lnBurst p l) s) fun t =>
      Out.injected l.val (max 1 (s.rd (Reg.LN_PRBS_INJ l.val) Fld.LN_PRBS_INJ.BURST_LEN)) ∈ t.out ∧ t.regsBut s []) ∧
  (∀ (s : State) (p : AccessPath) (l : LaneIx) (w : BitVec 32), s.quiet = true → s.mayAct p = true → s.md = .linktest →
    s.on (Reg.LN_TEST_CFG l.val) Fld.LN_TEST_CFG.EN = false → w.getLsbD 0 = true → w.getLsbD 4 = true →
    Answers (exec (.lnTestStart p l w) s) fun t =>
      t.rd (Reg.LN_TEST_CFG l.val) ⟨0, 13⟩ = w.toNat % 2 ^ 13 ∧ t.stage l.val = Stage.DETECT ∧
      (t.laneSt l.val).test = some (t.reg (Reg.LN_TEST_CFG l.val)) ∧ (t.laneSt l.val).counting = false ∧
      t.taps l.val = [0, -8, 47, -8] ∧
      t.regsBut s [Reg.LN_TEST_CFG l.val, Reg.LN_STATUS l.val, Reg.LN_TXFIR l.val, Reg.LN_TRAIN l.val]) ∧
  (∀ (s : State) (l : LaneIx), s.quiet = true → s.md = .linktest → s.stage l.val = Stage.TEST →
    Answers (exec (.linktestAdaptExpiry l) s) fun t => (t.laneSt l.val).counting = true ∧ t.regsBut s []) ∧
  (∀ (s : State) (l : LaneIx), s.quiet = true → s.md.clocked = true → s.md ≠ .linktest → s.testAllowed l.val = true →
    s.on (Reg.LN_PRBS_CTL l.val) Fld.LN_PRBS_CTL.CHK_EN = true →
    Answers (exec (.prbsCheckerLock l) s) fun t =>
      t.on (Reg.LN_PRBS_STATUS l.val) Fld.LN_PRBS_STATUS.CHK_LOCK = true ∧ t.regsBut s [Reg.LN_PRBS_STATUS l.val]) ∧
  (∀ (s : State) (l : LaneIx) (n e : Nat), s.quiet = true → s.md.clocked = true →
    s.on (Reg.LN_PRBS_STATUS l.val) Fld.LN_PRBS_STATUS.CHK_LOCK = true →
    Answers (exec (.prbsCheckerLockLoss l n e) s) fun t =>
      t.on (Reg.LN_PRBS_STATUS l.val) Fld.LN_PRBS_STATUS.CHK_LOCK = false ∧
      t.rd (Reg.LN_PRBS_BITS l.val) Fld.LN_PRBS_BITS.BITS =
        min (2 ^ Fld.LN_PRBS_BITS.BITS.width - 1) (s.rd (Reg.LN_PRBS_BITS l.val) Fld.LN_PRBS_BITS.BITS + n) ∧
      t.rd (Reg.LN_PRBS_ERRS l.val) Fld.LN_PRBS_ERRS.ERRORS =
        min (2 ^ Fld.LN_PRBS_ERRS.ERRORS.width - 1) (s.rd (Reg.LN_PRBS_ERRS l.val) Fld.LN_PRBS_ERRS.ERRORS + e) ∧
      t.regsBut s [Reg.LN_PRBS_BITS l.val, Reg.LN_PRBS_ERRS l.val, Reg.LN_PRBS_STATUS l.val])

/-- Sending on an Ictil or Flocet link (R272, R274, R279, R291): a NULL flit, a new flit, a stored flit resent, a NAK repeated,
a replay after its time limit, an LL_INIT, and the eighth replay, which restarts the link. -/
def Obligations.FlitsSent : Prop :=
  (∀ (s : State) (q : PortIx) (p : PortRec), s.quiet = true → s.md.clocked = true → s.portRec q.val = some p →
    p.port = q.val → p.fabric = true → s.linkState q.val = 2 →
    (let l := s.linkSt q.val
     l.txMap ≠ [] ∧ l.restarting = false ∧ l.resend = none ∧ l.filling = [] ∧ l.bypassLc = [] ∧ l.bypassMc0 = [] ∧
       l.nakSend = false) →
    Answers (exec (.flitSend q) s) fun t =>
      (∃ f, Out.flit q.val f ∈ t.out ∧ f.null = true ∧ f.slots = [] ∧ f.bypass = none ∧
        f.fseq.val = (s.linkSt q.val).txNext % 4096 ∧ f.ackSeq.val = (4095 + (s.linkSt q.val).rxNext) % 4096 ∧
        f.ackV = (s.linkSt q.val).rxAny ∧ f.nak = false) ∧
      (t.linkSt q.val).txNext = (s.linkSt q.val).txNext ∧ (t.linkSt q.val).stored = (s.linkSt q.val).stored ∧ t.regsBut s []) ∧
  (∀ (s : State) (q : PortIx) (p : PortRec), s.quiet = true → s.md.clocked = true → s.portRec q.val = some p →
    p.port = q.val → p.fabric = true → s.linkState q.val = 2 →
    (let l := s.linkSt q.val
     l.txMap ≠ [] ∧ l.restarting = false ∧ l.resend = none ∧ l.filling ≠ [] ∧ l.bypassLc = [] ∧ l.bypassMc0 = [] ∧
       l.nakSend = false ∧ l.stored.length < replayFlits p.width) →
    Answers (exec (.flitSend q) s) fun t =>
      (∃ f, Out.flit q.val f ∈ t.out ∧ f.null = false ∧ f.slots = (s.linkSt q.val).filling.map SlotOut.onWire ∧
        f.fseq.val = (s.linkSt q.val).txNext % 4096) ∧
      (t.linkSt q.val).txNext = ((s.linkSt q.val).txNext + 1) % 4096 ∧ (t.linkSt q.val).filling = [] ∧
      (t.linkSt q.val).stored = (s.linkSt q.val).stored ++
        [{ fseq := (s.linkSt q.val).txNext, slots := (s.linkSt q.val).filling, bypass := none }] ∧ t.regsBut s []) ∧
  (∀ (s : State) (q : PortIx) (p : PortRec) (f : Nat) (r : FlitRec), s.quiet = true → s.md.clocked = true →
    s.portRec q.val = some p → p.port = q.val → p.fabric = true → s.linkState q.val = 2 →
    (let l := s.linkSt q.val
     l.txMap ≠ [] ∧ l.restarting = false ∧ l.resend = some f ∧ l.resendOne = true ∧ l.nakSend = false ∧
       l.stored.find? (fun x => x.fseq == f) = some r) →
    Answers (exec (.flitSend q) s) fun t =>
      (∃ g, Out.flit q.val g ∈ t.out ∧ g.null = false ∧ g.slots = r.slots.map SlotOut.onWire ∧ g.fseq.val = f % 4096) ∧
      (t.linkSt q.val).resend = none ∧ (t.linkSt q.val).stored = (s.linkSt q.val).stored ∧
      t.rd (Reg.PT_LL_REPLAY q.val) Fld.PT_LL_REPLAY.FLITS =
        min (2 ^ Fld.PT_LL_REPLAY.FLITS.width - 1) (s.rd (Reg.PT_LL_REPLAY q.val) Fld.PT_LL_REPLAY.FLITS + 1) ∧
      t.regsBut s [Reg.PT_LL_REPLAY q.val]) ∧
  (∀ (s : State) (q : PortIx) (p : PortRec), s.quiet = true → s.md.clocked = true → s.portRec q.val = some p →
    p.port = q.val → p.fabric = true → p.protocol = .ictil → s.linkState q.val = 3 →
    (let l := s.linkSt q.val
     l.txMap ≠ [] ∧ l.restarting = true ∧ l.initSent = false ∧ l.initIn = none ∧ l.nakSend = false) →
    Answers (exec (.flitSend q) s) fun t =>
      (∃ f c, Out.flit q.val f ∈ t.out ∧ f.null = true ∧ f.bypass = some (.lc (.llInit c)) ∧ c.version = 1 ∧
        c.rxNext = (s.linkSt q.val).rxNext ∧ c.resume = (!s.on (Reg.PT_LL_CTL q.val) Fld.PT_LL_CTL.NO_RESUME)) ∧
      (t.linkSt q.val).initSent = true ∧ (t.linkSt q.val).restarting = true ∧ t.regsBut s []) ∧
  (∀ (s : State) (q : PortIx) (p : PortRec), s.quiet = true → s.md.clocked = true → s.portRec q.val = some p →
    p.port = q.val → p.fabric = true → p.protocol = .ictil → (s.linkSt q.val).nakOut = true →
    Answers (exec (.nakRepeatExpiry q) s) fun t =>
      (t.linkSt q.val).nakSend = true ∧ (t.linkSt q.val).nakOut = true ∧
      (t.linkSt q.val).nakCount = (s.linkSt q.val).nakCount + 1 ∧ t.regsBut s []) ∧
  (∀ (s : State) (q : PortIx) (p : PortRec) (r : FlitRec) (m : List FlitRec), s.quiet = true → s.md.clocked = true →
    s.portRec q.val = some p → p.port = q.val → s.linkState q.val = 2 → (s.linkSt q.val).stored = r :: m →
    (s.linkSt q.val).replays = 0 →
    Answers (exec (.replayTimeout q) s) fun t =>
      (t.linkSt q.val).resend = some r.fseq ∧ (t.linkSt q.val).resendOne = false ∧ (t.linkSt q.val).replays = 1 ∧
      (t.linkSt q.val).stored = (s.linkSt q.val).stored ∧ t.regsBut s []) ∧
  (∀ (s : State) (q : PortIx) (p : PortRec) (r : FlitRec) (m : List FlitRec), s.md.clocked = true →
    s.portRec q.val = some p → p.port = q.val → s.linkState q.val = 2 → (s.linkSt q.val).stored = r :: m →
    (s.linkSt q.val).replays = 7 → (s.linkSt q.val).replayFrom = r.fseq → p.lingerMs ≠ 0 → s.core.otags = [] →
    Leaves (exec (.replayTimeout q) s) fun u =>
      u.linkState q.val = 3 ∧ (u.linkSt q.val).restarting = true ∧ (u.linkSt q.val).replays = 0 ∧
      u.on (Reg.PT_LL_ERR q.val) Fld.PT_LL_ERR.REPLAY = true ∧ u.hasRaised (srcQuad (quadOf (tileOf q.val)) 7) none ∧
      u.rd (Reg.PT_LL_EVENTS q.val) Fld.PT_LL_EVENTS.RESTARTS =
        min (2 ^ Fld.PT_LL_EVENTS.RESTARTS.width - 1) (s.rd (Reg.PT_LL_EVENTS q.val) Fld.PT_LL_EVENTS.RESTARTS + 1) ∧
      u.regsBut s [Reg.PT_LL_ERR q.val, Reg.PT_LL_EVENTS q.val, Reg.PT_LL_STATUS q.val])

/-- Receiving on an Ictil or Flocet link (R276 to R278): a flit with a bad CRC asks for a repeat, the one expected is taken, a
later one asks for a repeat, an earlier one is dropped; an acknowledgement frees what was stored. -/
def Obligations.FlitsReceived : Prop :=
  (∀ (s : State) (q : PortIx) (p : PortRec) (f : FlitIn), s.quiet = true → s.md.clocked = true → s.portRec q.val = some p →
    p.port = q.val → p.fabric = true → p.protocol = .ictil → s.linkState q.val ≠ 0 → f.bad = true →
    (s.linkSt q.val).nakOut = false →
    Answers (exec (.flitReceive q f []) s) fun t =>
      (t.linkSt q.val).nakSend = true ∧ (t.linkSt q.val).nakOut = true ∧ (t.linkSt q.val).rx = (s.linkSt q.val).rx ∧
      (t.linkSt q.val).rxNext = (s.linkSt q.val).rxNext ∧ t.regsBut s []) ∧
  (∀ (s : State) (q : PortIx) (p : PortRec) (f : FlitIn), s.quiet = true → s.md.clocked = true → s.portRec q.val = some p →
    p.port = q.val → p.fabric = true → p.protocol = .ictil → s.linkState q.val = 2 → f.bad = false → f.null = false →
    f.ackV = false → f.nak = false → f.bypass = none → f.mapId.val = (s.linkSt q.val).rxMapId →
    f.crd.toNat = tabGet (s.linkSt q.val).debits f.crdSel.val 0 → f.fseq.val = (s.linkSt q.val).rxNext →
    (s.linkSt q.val).rx.length + f.slots.length ≤ poolSize p.width →
    Answers (exec (.flitReceive q f []) s) fun t =>
      (t.linkSt q.val).rx = (s.linkSt q.val).rx ++ f.slots.map (fun x => { sub := x.sub.val, pool := x.pool, slot := x }) ∧
      (t.linkSt q.val).rxNext = ((s.linkSt q.val).rxNext + 1) % 4096 ∧ (t.linkSt q.val).rxAny = true ∧
      (t.linkSt q.val).nakOut = false ∧ (t.linkSt q.val).xoffIn = f.xoff.toNat ∧
      tabFind (t.linkSt q.val).crd f.crdSel.val = some f.crd.toNat ∧ t.regsBut s []) ∧
  (∀ (s : State) (q : PortIx) (p : PortRec) (f : FlitIn), s.quiet = true → s.md.clocked = true → s.portRec q.val = some p →
    p.port = q.val → p.fabric = true → p.protocol = .ictil → s.linkState q.val = 2 → f.bad = false → f.null = false →
    f.ackV = false → f.nak = false → f.mapId.val = (s.linkSt q.val).rxMapId →
    f.crd.toNat = tabGet (s.linkSt q.val).debits f.crdSel.val 0 → (s.linkSt q.val).nakOut = false →
    (let d := (4096 + f.fseq.val - (s.linkSt q.val).rxNext) % 4096
     d ≠ 0 ∧ d < 2048) →
    Answers (exec (.flitReceive q f []) s) fun t =>
      (t.linkSt q.val).nakSend = true ∧ (t.linkSt q.val).nakOut = true ∧ (t.linkSt q.val).rx = (s.linkSt q.val).rx ∧
      (t.linkSt q.val).rxNext = (s.linkSt q.val).rxNext ∧ t.regsBut s []) ∧
  (∀ (s : State) (q : PortIx) (p : PortRec) (f : FlitIn), s.quiet = true → s.md.clocked = true → s.portRec q.val = some p →
    p.port = q.val → p.fabric = true → s.linkState q.val = 2 → f.bad = false → f.null = false →
    f.ackV = false → f.nak = false → f.mapId.val = (s.linkSt q.val).rxMapId →
    f.crd.toNat = tabGet (s.linkSt q.val).debits f.crdSel.val 0 →
    2048 ≤ (4096 + f.fseq.val - (s.linkSt q.val).rxNext) % 4096 →
    Answers (exec (.flitReceive q f []) s) fun t =>
      (t.linkSt q.val).nakSend = (s.linkSt q.val).nakSend ∧ (t.linkSt q.val).rx = (s.linkSt q.val).rx ∧
      (t.linkSt q.val).rxNext = (s.linkSt q.val).rxNext ∧ t.core = s.core ∧ t.regsBut s []) ∧
  (∀ (s : State) (q : PortIx) (p : PortRec) (f : FlitIn) (n : Nat) (r : FlitRec) (m : List FlitRec), s.quiet = true →
    s.md.clocked = true → s.portRec q.val = some p → p.port = q.val → p.fabric = true → s.linkState q.val = 2 →
    f.bad = false → f.null = true → f.bypass = none → f.ackV = true → f.nak = false →
    f.mapId.val = (s.linkSt q.val).rxMapId → f.crd.toNat = tabGet (s.linkSt q.val).debits f.crdSel.val 0 →
    (s.linkSt q.val).stored = r :: m → n ≤ m.length → r.fseq < 4096 → f.ackSeq.val = (r.fseq + n) % 4096 →
    m.length < 1000 →
    Answers (exec (.flitReceive q f []) s) fun t =>
      (t.linkSt q.val).stored = m.drop n ∧ (t.linkSt q.val).acked = some f.ackSeq.val ∧ (t.linkSt q.val).ackIn = true ∧
      t.regsBut s []) ∧
  (∀ (s : State) (q : PortIx) (p : PortRec) (f : FlitIn), s.md.clocked = true → s.portRec q.val = some p →
    p.port = q.val → p.fabric = true → s.linkState q.val = 2 → p.lingerMs ≠ 0 → s.core.otags = [] →
    f.bad = false → f.null = true → f.bypass = none → f.ackV = false → f.nak = false →
    f.mapId.val = (s.linkSt q.val).rxMapId →
    initialCredits f.crdSel.val < (65536 + f.crd.toNat - tabGet (s.linkSt q.val).debits f.crdSel.val 0) % 65536 →
    Leaves (exec (.flitReceive q f []) s) fun u =>
      u.on (Reg.PT_LL_ERR q.val) Fld.PT_LL_ERR.CREDIT = true ∧ u.hasRaised (srcQuad (quadOf (tileOf q.val)) 5) none ∧
      u.linkState q.val = 3 ∧ (u.linkSt q.val).restarting = true)

/-- Link control and the states of a link (R251, R274, R287, R288, R291, R293 to R295): RX_LANES, FIR_REQ, FIR_STS, LL_INIT, a
restart by software, its time limit, and the end of a linger. -/
def Obligations.LinkControl : Prop :=
  (∀ (s : State) (q : PortIx) (p : PortRec) (m : BitVec 16), s.md.clocked = true → s.portRec q.val = some p →
    p.port = q.val → p.fabric = true → p.anchored = false → p.sparing = false → s.linkState q.val ≠ 0 →
    laneMap p (m.toNat % 2 ^ p.width) (s.linkSt q.val).txMap ≠ [] →
    laneMap p (m.toNat % 2 ^ p.width) (s.linkSt q.val).txMap ≠ (s.linkSt q.val).txMap →
    Leaves (exec (.rxLanes q m) s) fun u =>
      (u.linkSt q.val).txMap = laneMap p (m.toNat % 2 ^ p.width) (s.linkSt q.val).txMap ∧ (u.linkSt q.val).rxLanes = m.toNat % 2 ^ p.width ∧
      u.rd (Reg.PT_LL_STATUS q.val) Fld.PT_LL_STATUS.MAP_ID =
        (s.rd (Reg.PT_LL_STATUS q.val) Fld.PT_LL_STATUS.MAP_ID + 1) % 4 ∧
      u.rd (Reg.PT_LL_STATUS q.val) Fld.PT_LL_STATUS.TX_LANES =
        (laneMap p (m.toNat % 2 ^ p.width) (s.linkSt q.val).txMap).length % 2 ^ Fld.PT_LL_STATUS.TX_LANES.width ∧
      u.linkState q.val = s.linkState q.val ∧
      ((laneMap p (m.toNat % 2 ^ p.width) (s.linkSt q.val).txMap).length < fullWidth p →
        u.on (Reg.PT_LL_ERR q.val) Fld.PT_LL_ERR.WIDTH = true ∧ u.hasRaised (srcQuad (quadOf (tileOf q.val)) 10) none)) ∧
  (∀ (s : State) (q : PortIx) (p : PortRec) (m : BitVec 16), s.quiet = true → s.md.clocked = true →
    s.portRec q.val = some p → p.port = q.val → p.fabric = true → s.linkState q.val ≠ 0 →
    laneMap p (m.toNat % 2 ^ p.width) (s.linkSt q.val).txMap = (s.linkSt q.val).txMap →
    Answers (exec (.rxLanes q m) s) fun t =>
      (t.linkSt q.val).rxLanes = m.toNat % 2 ^ p.width ∧ (t.linkSt q.val).txMap = (s.linkSt q.val).txMap ∧ t.regsBut s []) ∧
  (∀ (s : State) (q : PortIx) (p : PortRec) (n : Fin 16) (x : BitVec 10), s.quiet = true → s.md.clocked = true →
    s.portRec q.val = some p → p.port = q.val → p.fabric = true → s.linkState q.val ≠ 0 → n.val < p.width →
    x.toNat / 256 = 3 →
    Answers (exec (.firReq q n x) s) fun t =>
      t.taps (p.chipLane n.val) = [2, -12, 43, -6] ∧ (t.laneSt (p.chipLane n.val)).sts = [1, 1, 1, 1] ∧
      (t.linkSt q.val).bypassLc = (s.linkSt q.val).bypassLc ++ [.firSts n.val 0x55] ∧
      t.regsBut s [Reg.LN_TXFIR (p.chipLane n.val)]) ∧
  (∀ (s : State) (q : PortIx) (n : Fin 16) (x : BitVec 8), s.quiet = true → s.md.clocked = true →
    Answers (exec (.firSts q n x) s) fun t => t.link = s.link ∧ t.lane = s.lane ∧ t.regsBut s []) ∧
  (∀ (s : State) (q : PortIx) (p : PortRec) (c : LlCaps), s.md.clocked = true → s.portRec q.val = some p →
    p.port = q.val → p.fabric = true → s.linkState q.val = 2 → (s.linkSt q.val).restarting = false → p.lingerMs ≠ 0 →
    s.core.otags = [] →
    Leaves (exec (.llInit q c) s) fun u =>
      u.linkState q.val = 3 ∧ (u.linkSt q.val).restarting = true ∧ (u.linkSt q.val).initIn = some c ∧
      (u.linkSt q.val).initSent = false ∧ u.on (Reg.PT_LL_STATUS q.val) Fld.PT_LL_STATUS.PARTNER_TENT_OK = c.tentOk ∧
      u.hasRaised (srcQuad (quadOf (tileOf q.val)) 11) none ∧ u.on (Reg.PT_LL_ERR q.val) Fld.PT_LL_ERR.DOWN = true ∧
      u.regsBut s [Reg.PT_LL_ERR q.val, Reg.PT_LL_EVENTS q.val, Reg.PT_LL_STATUS q.val]) ∧
  (∀ (s : State) (q : PortIx) (p : PortRec) (c : LlCaps), s.quiet = true → s.md.clocked = true →
    s.portRec q.val = some p → p.port = q.val → p.fabric = true → s.linkState q.val = 3 → c.resume = true →
    (let l := s.linkSt q.val
     l.restarting = true ∧ l.initSent = true ∧ l.initOffer = true ∧ l.lanesKept = true ∧ l.stored = [] ∧
       l.txNext < 4096 ∧ c.rxNext = l.txNext) → s.core.otags = [] →
    Answers (exec (.llInit q c) s) fun t =>
      t.linkState q.val = 2 ∧ (t.linkSt q.val).restarting = false ∧ (t.linkSt q.val).resend = none ∧
      (t.linkSt q.val).txNext = (s.linkSt q.val).txNext ∧ (t.linkSt q.val).rxNext = (s.linkSt q.val).rxNext ∧
      t.rd (Reg.PT_LL_EVENTS q.val) Fld.PT_LL_EVENTS.RESUMES =
        min (2 ^ Fld.PT_LL_EVENTS.RESUMES.width - 1) (s.rd (Reg.PT_LL_EVENTS q.val) Fld.PT_LL_EVENTS.RESUMES + 1) ∧
      t.regsBut s [Reg.PT_LL_STATUS q.val, Reg.PT_LL_EVENTS q.val]) ∧
  (∀ (s : State) (a : AccessPath) (q : PortIx) (p : PortRec), s.mayAct a = true → s.portRec q.val = some p →
    p.port = q.val → p.fabric = true → s.linkState q.val = 2 → p.lingerMs ≠ 0 → s.core.otags = [] →
    Leaves (exec (.ptLlRestart a q) s) fun u =>
      u.linkState q.val = 3 ∧ (u.linkSt q.val).restarting = true ∧ (u.linkSt q.val).initIn = none ∧
      (u.linkSt q.val).initSent = false ∧ (u.linkSt q.val).lanesKept = true ∧
      u.hasRaised (srcQuad (quadOf (tileOf q.val)) 11) none ∧
      u.rd (Reg.PT_LL_EVENTS q.val) Fld.PT_LL_EVENTS.RESTARTS =
        min (2 ^ Fld.PT_LL_EVENTS.RESTARTS.width - 1) (s.rd (Reg.PT_LL_EVENTS q.val) Fld.PT_LL_EVENTS.RESTARTS + 1) ∧
      u.regsBut s [Reg.PT_LL_ERR q.val, Reg.PT_LL_EVENTS q.val, Reg.PT_LL_STATUS q.val]) ∧
  (∀ (s : State) (q : PortIx) (p : PortRec), s.md.clocked = true → s.portRec q.val = some p → p.port = q.val →
    p.sparing = false → s.arrayEmpty → s.linkState q.val = 3 → (s.linkSt q.val).restarting = true →
    (s.linkSt q.val).initIn = none → (∀ k ∈ p.lanes, k < 512) →
    Leaves (exec (.llInitTimeout q) s) fun u =>
      (∀ k ∈ p.lanes, s.stage k ∉ [Stage.OFF, Stage.TEST, Stage.STD] → u.stage k = Stage.WAIT) ∧
      (u.linkSt q.val).restarting = false ∧ (u.linkSt q.val).initSent = false) ∧
  (∀ (s : State) (q : PortIx) (p : PortRec), s.md.clocked = true → s.portRec q.val = some p → p.port = q.val →
    p.fabric = true → p.sparing = false → s.arrayEmpty → s.linkState q.val = 3 →
    s.on (Reg.PT_STD_STATUS q.val) Fld.PT_STD_STATUS.LINGER = false → laneMap p (s.healthMask p) [] = [] →
    (∀ k < p.width, p.chipLane k < 512) →
    Leaves (exec (.lingerExpiry q) s) fun u =>
      u.linkState q.val = 0 ∧ (u.linkSt q.val).txMap = [] ∧ (u.linkSt q.val).stored = [] ∧
      u.rd (Reg.PT_LL_EVENTS q.val) Fld.PT_LL_EVENTS.FLUSHES =
        min (2 ^ Fld.PT_LL_EVENTS.FLUSHES.width - 1) (s.rd (Reg.PT_LL_EVENTS q.val) Fld.PT_LL_EVENTS.FLUSHES + 1) ∧
      u.rd (Reg.PT_LL_STATUS q.val) Fld.PT_LL_STATUS.TX_LANES = 0)

/-- Standard links down and up (R310 to R314): what DL_Down clears and records, the directory walk and its end, DL_Up,
recoveries and changes of rate. -/
def Obligations.StandardLinks : Prop :=
  (∀ (s : State) (q : PortIx) (p : PortRec), s.md.clocked = true → s.portRec q.val = some p → p.port = q.val →
    p.fabric = false → p.hotplug = false → p.role = .upstream → s.portIdle q.val →
    s.on (Reg.PT_STD_STATUS q.val) Fld.PT_STD_STATUS.DL_UP = true →
    Leaves (exec (.dlDown q) s) fun u =>
      u.on (Reg.PT_STD_STATUS q.val) Fld.PT_STD_STATUS.DL_UP = false ∧
      u.rd (Reg.PT_STD_STATUS q.val) Fld.PT_STD_STATUS.LTSSM = 0 ∧ u.ide q.val = 0 ∧
      u.rd (Reg.PT_STD_EVENTS q.val) Fld.PT_STD_EVENTS.DOWNS =
        min (2 ^ Fld.PT_STD_EVENTS.DOWNS.width - 1) (s.rd (Reg.PT_STD_EVENTS q.val) Fld.PT_STD_EVENTS.DOWNS + 1) ∧
      u.on (Reg.PT_STD_ERR q.val) Fld.PT_STD_ERR.LINK_DOWN = true ∧
      u.hasRaisedOn (srcQuad (quadOf (tileOf q.val)) 13) (s.portFlacon q.val) ∧
      (u.stdSt q.val).keyTx = none ∧ (u.stdSt q.val).keyRx = none ∧ (u.stdSt q.val).hdm = none ∧
      u.reg (Reg.PT_STD_HDM q.val) = 0 ∧ u.on (Reg.PT_STD_STATUS q.val) Fld.PT_STD_STATUS.HDM_COMMITTED = false ∧
      (p.protocol = .cxl → u.on (Reg.PT_STD_STATUS q.val) Fld.PT_STD_STATUS.WALK = true ∧
        (u.stdSt q.val).walkEid = s.portEid q.val) ∧ q.val ∉ u.fml.retrain) ∧
  (∀ (s : State) (q : PortIx) (p : PortRec), s.md.clocked = true → s.portRec q.val = some p → p.port = q.val →
    p.fabric = false → p.hotplug = false → p.role = .downstream → p.lingerMs ≠ 0 → s.portIdle q.val →
    s.on (Reg.PT_STD_STATUS q.val) Fld.PT_STD_STATUS.DL_UP = true →
    Leaves (exec (.dlDown q) s) fun u =>
      u.on (Reg.PT_STD_STATUS q.val) Fld.PT_STD_STATUS.DL_UP = false ∧
      u.on (Reg.PT_STD_STATUS q.val) Fld.PT_STD_STATUS.LINGER = true ∧ u.ide q.val = 0 ∧
      u.hasRaisedOn (srcQuad (quadOf (tileOf q.val)) 13) (s.portFlacon q.val) ∧ (u.stdSt q.val).cacheDev = false ∧
      ∀ e ∈ s.vppbsOf q.val, (u.vppbSt e.1 e.2).dllsc = true) ∧
  (∀ (s : State) (q : PortIx), s.quiet = true → s.md.clocked = true → s.home = [] →
    s.on (Reg.PT_STD_STATUS q.val) Fld.PT_STD_STATUS.WALK = true →
    Answers (exec (.directoryWalkDone q) s) fun t =>
      t.on (Reg.PT_STD_STATUS q.val) Fld.PT_STD_STATUS.WALK = false ∧ t.regsBut s [Reg.PT_STD_STATUS q.val]) ∧
  (∀ (s : State) (q : PortIx) (p : PortRec) (l : StdLink), s.md.clocked = true → s.portRec q.val = some p →
    p.port = q.val → p.fabric = false → p.role = .upstream → s.lanesTrain = true → (s.stdSt q.val).fmReset = false →
    s.on (Reg.PT_STD_STATUS q.val) Fld.PT_STD_STATUS.DL_UP = false →
    Leaves (exec (.dlUp q l) s) fun u =>
      u.on (Reg.PT_STD_STATUS q.val) Fld.PT_STD_STATUS.DL_UP = true ∧
      u.rd (Reg.PT_STD_STATUS q.val) Fld.PT_STD_STATUS.LTSSM = 3 ∧
      u.rd (Reg.PT_STD_STATUS q.val) Fld.PT_STD_STATUS.RATE = min l.rate.val (p.maxRate - 1) ∧
      u.rd (Reg.PT_STD_STATUS q.val) Fld.PT_STD_STATUS.WIDTH = l.width.val ∧
      u.rd (Reg.PT_STD_STATUS q.val) Fld.PT_STD_STATUS.FLIT = l.flit.val ∧
      u.on (Reg.PT_STD_STATUS q.val) Fld.PT_STD_STATUS.VIRAL_RX = false ∧ q.val ∉ u.fml.retrain) ∧
  (∀ (s : State) (q : PortIx) (p : PortRec) (l : StdLink) (d : Word), s.md.clocked = true → s.portRec q.val = some p →
    p.port = q.val → p.fabric = false → p.role = .downstream → p.hotplug = true → s.hpState q.val = 4 →
    s.lanesTrain = true → (s.stdSt q.val).fmReset = false → l.dsn = some d → l.cache = false →
    s.on (Reg.PT_STD_STATUS q.val) Fld.PT_STD_STATUS.DL_UP = false →
    s.on (Reg.PT_STD_STATUS q.val) Fld.PT_STD_STATUS.LINGER = false →
    Leaves (exec (.dlUp q l) s) fun u =>
      u.on (Reg.PT_STD_STATUS q.val) Fld.PT_STD_STATUS.DL_UP = true ∧ u.hpState q.val = 5 ∧
      u.reg (Reg.PT_STD_PARTNER q.val) = d ∧ u.on (Reg.PT_STD_STATUS q.val) Fld.PT_STD_STATUS.DSN_VALID = true ∧
      (u.stdSt q.val).partner = some d ∧ (u.stdSt q.val).same = ((s.stdSt q.val).partner == some d)) ∧
  (∀ (s : State) (q : PortIx) (p : PortRec) (r : Fin 6) (w : Fin 17) (x : BitVec 8), s.quiet = true → s.md.clocked = true →
    s.portRec q.val = some p → p.port = q.val → p.fabric = false → p.anchored = true →
    s.on (Reg.PT_STD_STATUS q.val) Fld.PT_STD_STATUS.DL_UP = true →
    Answers (exec (.linkRecovery q r w x) s) fun t =>
      t.rd (Reg.PT_STD_EVENTS q.val) Fld.PT_STD_EVENTS.RECOVERIES =
        min (2 ^ Fld.PT_STD_EVENTS.RECOVERIES.width - 1) (s.rd (Reg.PT_STD_EVENTS q.val) Fld.PT_STD_EVENTS.RECOVERIES + 1) ∧
      t.rd (Reg.PT_STD_STATUS q.val) Fld.PT_STD_STATUS.LTSSM = 3 ∧
      t.rd (Reg.PT_STD_STATUS q.val) Fld.PT_STD_STATUS.RATE = s.rd (Reg.PT_STD_STATUS q.val) Fld.PT_STD_STATUS.RATE ∧
      t.rd (Reg.PT_STD_STATUS q.val) Fld.PT_STD_STATUS.WIDTH = s.rd (Reg.PT_STD_STATUS q.val) Fld.PT_STD_STATUS.WIDTH ∧
      t.regsBut s [Reg.PT_STD_EVENTS q.val, Reg.PT_STD_STATUS q.val]) ∧
  (∀ (s : State) (q : PortIx) (p : PortRec) (r : Fin 6) (w : Fin 17) (x : BitVec 8), s.md.clocked = true →
    s.portRec q.val = some p → p.port = q.val → p.fabric = false → p.anchored = false →
    r.val = s.rd (Reg.PT_STD_STATUS q.val) Fld.PT_STD_STATUS.RATE →
    s.on (Reg.PT_STD_STATUS q.val) Fld.PT_STD_STATUS.DL_UP = true →
    Leaves (exec (.linkRecovery q r w x) s) fun u =>
      u.rd (Reg.PT_STD_STATUS q.val) Fld.PT_STD_STATUS.RATE = r.val ∧
      u.rd (Reg.PT_STD_STATUS q.val) Fld.PT_STD_STATUS.WIDTH = w.val ∧
      u.rd (Reg.PT_STD_STATUS q.val) Fld.PT_STD_STATUS.LTSSM = 3 ∧ u.lane = s.lane) ∧
  (∀ (s : State) (q : PortIx) (p : PortRec) (r : Fin 6) (w : Fin 17) (x : BitVec 8), s.md.clocked = true →
    s.portRec q.val = some p → p.port = q.val → p.fabric = false → p.anchored = true → p.hotplug = false →
    p.role = .upstream → s.portIdle q.val → s.on (Reg.PT_STD_STATUS q.val) Fld.PT_STD_STATUS.DL_UP = true →
    Leaves (exec (.partnerRateChange q r w x) s) fun u =>
      Out.hotReset q.val none ∈ u.out ∧ u.on (Reg.PT_STD_STATUS q.val) Fld.PT_STD_STATUS.DL_UP = false ∧
      u.rd (Reg.PT_STD_STATUS q.val) Fld.PT_STD_STATUS.LTSSM = 7) ∧
  (∀ (s : State) (q : PortIx) (p : PortRec) (r : Fin 6) (w : Fin 17) (x : BitVec 8) (l : LaneIx), s.md.clocked = true →
    s.portRec q.val = some p → p.port = q.val → p.fabric = false → p.anchored = false →
    r.val ≠ s.rd (Reg.PT_STD_STATUS q.val) Fld.PT_STD_STATUS.RATE →
    s.on (Reg.PT_STD_STATUS q.val) Fld.PT_STD_STATUS.DL_UP = true → p.lanes = [l.val] →
    Leaves (exec (.partnerRateChange q r w x) s) fun u =>
      u.rd (Reg.PT_STD_STATUS q.val) Fld.PT_STD_STATUS.RATE = r.val ∧
      u.rd (Reg.LN_ADAPT_STAMP l.val) Fld.LN_ADAPT_STAMP.CAUSE = 5 ∧
      u.rd (Reg.LN_ADAPT_STAMP l.val) Fld.LN_ADAPT_STAMP.LOAD = x.toNat ∧
      u.reg (Reg.LN_ADAPT_TIME l.val) = s.reg Reg.CHIP_TIME)

/-- What CXL and PCIe ports do beside their links (R303, R307 to R309): HDM decoder 0, viral, link IDE, and Global Persistent
Flush. -/
def Obligations.PortServices : Prop :=
  (∀ (s : State) (q : PortIx) (p : PortRec) (b z : Nat), s.quiet = true → s.md.clocked = true →
    s.portRec q.val = some p → p.port = q.val → p.protocol = .cxl → p.role = .upstream →
    s.on (Reg.PT_STD_STATUS q.val) Fld.PT_STD_STATUS.DL_UP = true → z ≠ 0 → b % 2 ^ 28 = 0 → z % 2 ^ 28 = 0 →
    b + z ≤ 2 ^ 52 →
    Answers (exec (.hdmCommit q b z 1) s) fun t =>
      (t.stdSt q.val).hdm = some (b, z) ∧
      t.rd (Reg.PT_STD_HDM q.val) Fld.PT_STD_HDM.BASE = b % 2 ^ Fld.PT_STD_HDM.BASE.width ∧
      t.on (Reg.PT_STD_STATUS q.val) Fld.PT_STD_STATUS.HDM_COMMITTED = true ∧
      t.on (Reg.PT_STD_STATUS q.val) Fld.PT_STD_STATUS.HDM_SHORT =
        (let e := spanOf (s.flAcc p.flacon).cur.decoders
         decide (z < e.2 - e.1)) ∧
      t.regsBut s [Reg.PT_STD_HDM q.val, Reg.PT_STD_STATUS q.val]) ∧
  (∀ (s : State) (q : PortIx) (b z w : Nat), s.quiet = true → s.md.clocked = true →
    (w ≠ 1 ∨ z = 0 ∨ b % 2 ^ 28 ≠ 0 ∨ z % 2 ^ 28 ≠ 0 ∨ 2 ^ 52 < b + z) →
    Answers (exec (.hdmCommit q b z w) s) fun t => t.std = s.std ∧ t.regsBut s []) ∧
  (∀ (s : State) (q : PortIx) (p : PortRec), s.md.clocked = true → s.portRec q.val = some p → p.port = q.val →
    p.protocol = .cxl → s.on (Reg.PT_STD_STATUS q.val) Fld.PT_STD_STATUS.DL_UP = true →
    Leaves (exec (.viralReceived q) s) fun u =>
      u.on (Reg.PT_STD_STATUS q.val) Fld.PT_STD_STATUS.VIRAL_RX = true ∧
      u.hasRaisedOn (srcQuad (quadOf (tileOf q.val)) 16) (s.portFlacon q.val) ∧
      (∀ r ∈ s.viralPorts p.flacon, u.on (Reg.PT_STD_STATUS r.port) Fld.PT_STD_STATUS.VIRAL_TX = true)) ∧
  (∀ (s : State) (q : PortIx) (p : PortRec) (x : Bool) (k : BitVec 256), s.quiet = true → s.md.clocked = true →
    s.portRec q.val = some p → p.port = q.val → p.fabric = false → p.role = .upstream →
    s.on (Reg.PT_STD_STATUS q.val) Fld.PT_STD_STATUS.DL_UP = true →
    Answers (exec (.ideKm q x k) s) fun t =>
      (if x then (t.stdSt q.val).keyTx else (t.stdSt q.val).keyRx) = some k ∧
      (if x then (t.stdSt q.val).keyRx = (s.stdSt q.val).keyRx else (t.stdSt q.val).keyTx = (s.stdSt q.val).keyTx) ∧
      t.ide q.val = (if (t.stdSt q.val).keyTx.isSome ∧ (t.stdSt q.val).keyRx.isSome then 2 else 1) ∧
      t.regsBut s [Reg.PT_STD_STATUS q.val]) ∧
  (∀ (s : State) (q : PortIx) (p : PortRec), s.md.clocked = true → s.portRec q.val = some p → p.port = q.val →
    p.fabric = false → p.hotplug = false → p.role = .upstream → s.portIdle q.val → s.ide q.val ≠ 0 →
    s.on (Reg.PT_STD_STATUS q.val) Fld.PT_STD_STATUS.DL_UP = true →
    Leaves (exec (.ideFailure q) s) fun u =>
      u.ide q.val = 3 ∧ u.on (Reg.PT_STD_STATUS q.val) Fld.PT_STD_STATUS.DL_UP = false ∧
      (u.stdSt q.val).keyTx = none ∧ (u.stdSt q.val).keyRx = none ∧
      u.hasRaisedOn (srcQuad (quadOf (tileOf q.val)) 15) (s.portFlacon q.val) ∧
      u.hasRaisedOn (srcQuad (quadOf (tileOf q.val)) 13) (s.portFlacon q.val)) ∧
  (∀ (s : State) (q : PortIx) (p : PortRec) (c : Instr) (n : Nat), s.quiet = true → s.md.clocked = true →
    (c = .gpfPhase1Request q ∧ n = 1 ∨ c = .gpfPhase2Request q ∧ n = 2) → s.portRec q.val = some p → p.port = q.val →
    p.fabric = false → p.gpf = true → p.role = .upstream → s.portUp q.val = true → s.gpf = [] →
    s.hostWrites q.val = false → s.gpfPorts q.val = [] →
    Answers (exec c s) fun t => Out.gpfAnswer q.val n ∈ t.out ∧ t.gpf = [] ∧ t.regsBut s []) ∧
  (∀ (s : State) (q : PortIx) (p : PortRec) (d : Nat) (c : Instr) (n : Nat), s.quiet = true → s.md.clocked = true →
    (c = .gpfPhase1Request q ∧ n = 1 ∨ c = .gpfPhase2Request q ∧ n = 2) → s.portRec q.val = some p → p.port = q.val →
    p.fabric = false → p.gpf = true → p.role = .upstream → s.portUp q.val = true → s.gpf = [] →
    s.hostWrites q.val = false → s.gpfPorts q.val = [d] → (s.stdSt d).gpfDone < n → (s.stdSt d).gpfSent = none →
    Answers (exec c s) fun t =>
      Out.gpf d n ∈ t.out ∧ (t.stdSt d).gpfSent = some n ∧
      t.gpf = [{ port := q.val, phase := n, held := false, waits := [d] }] ∧ t.regsBut s []) ∧
  (∀ (s : State) (q : PortIx) (p : PortRec) (c : Instr) (n : Nat), s.md.clocked = true →
    (c = .gpfPhase1Request q ∧ n = 1 ∨ c = .gpfPhase2Request q ∧ n = 2) → s.portRec q.val = some p → p.port = q.val →
    p.fabric = false → p.gpf = true → p.role = .upstream → s.portUp q.val = true → s.gpf = [] →
    s.hostWrites q.val = true →
    Leaves (exec c s) fun u =>
      u.gpf = [{ port := q.val, phase := n, held := true, waits := [] }] ∧ u.out = s.out ∧ u.regsBut s []) ∧
  (∀ (s : State) (q h : PortIx) (n : Fin 3), s.quiet = true → s.md.clocked = true → (s.stdSt q.val).gpfSent = some n.val →
    s.gpf = [{ port := h.val, phase := n.val, held := false, waits := [q.val] }] →
    Answers (exec (.gpfDeviceAnswer q n) s) fun t =>
      (t.stdSt q.val).gpfSent = none ∧ (t.stdSt q.val).gpfDone = max (s.stdSt q.val).gpfDone n.val ∧
      Out.gpfAnswer h.val n.val ∈ t.out ∧ t.gpf = [] ∧ t.regsBut s []) ∧
  (∀ (s : State) (q : PortIx) (n : Fin 3) (g : GpfFlow), s.md.clocked = true → g ∈ s.gpf → g.port = q.val →
    g.phase = n.val →
    Leaves (exec (.gpfTimeout q n) s) fun u =>
      Out.gpfAnswer q.val n.val ∈ u.out ∧ g ∉ u.gpf ∧ u.on (Reg.PT_STD_ERR q.val) Fld.PT_STD_ERR.GPF_TIMEOUT = true ∧
      u.hasRaisedOn (srcQuad (quadOf (tileOf q.val)) 18) (s.portFlacon q.val) ∧ u.regsBut s [Reg.PT_STD_ERR q.val])

/-- The fabric manager API (R57, R315, R316): who may send a command and how a refusal is told, what the switch answers by
itself, and what it carries to a device. -/
def Obligations.FabricManager : Prop :=
  (∀ (s : State) (c : Instr) (r : FmReq) (o g m : Nat), s.quiet = true → s.fmOf c = some (r, o, g, m) → s.fmUp r = true →
    r.remote = false → s.holdsGroup r.path.val r.eid g m = false →
    Answers (exec c s) fun t =>
      Out.fmAnswer r.path.val o Fm.INVALID St.NOT_DELEGATED [] ∈ t.out ∧
      t.rd (Reg.MG_PATH_CNT r.path.val) Fld.MG_PATH_CNT.REFUSED =
        min (2 ^ Fld.MG_PATH_CNT.REFUSED.width - 1) (s.rd (Reg.MG_PATH_CNT r.path.val) Fld.MG_PATH_CNT.REFUSED + 1) ∧
      t.regsBut s [Reg.MG_PATH_CNT r.path.val]) ∧
  (∀ (s : State) (c : Instr) (r : FmReq) (o g m : Nat), s.quiet = true → s.fmOf c = some (r, o, g, m) → s.fmUp r = true →
    r.remote = false → s.holdsGroup r.path.val r.eid g m = true → g ≠ Grp.READ → s.md ≠ .serve →
    Answers (exec c s) fun t =>
      Out.fmAnswer r.path.val o Fm.INVALID St.MODE [] ∈ t.out ∧ t.regsBut s [Reg.MG_PATH_CNT r.path.val]) ∧
  (∀ (s : State) (c : Instr) (r : FmReq) (o : Nat), s.quiet = true →
    (c, o) ∈ [(Instr.fmIdentify r, 0x0001), (.fmBackgroundOperationStatus r, 0x0002), (.fmGetEventRecords r, 0x0100),
      (.fmIdentifySwitchDevice r, 0x5100)] → s.fmGrants r Grp.READ everyFlacon →
    Answers (exec c s) fun t =>
      Out.fmAnswer r.path.val o Fm.SUCCESS 0 [] ∈ t.out ∧
      t.rd (Reg.MG_PATH_CNT r.path.val) Fld.MG_PATH_CNT.ACCEPTED =
        min (2 ^ Fld.MG_PATH_CNT.ACCEPTED.width - 1) (s.rd (Reg.MG_PATH_CNT r.path.val) Fld.MG_PATH_CNT.ACCEPTED + 1) ∧
      t.regsBut s [Reg.MG_PATH_CNT r.path.val]) ∧
  (∀ (s : State) (r : FmReq), s.quiet = true → s.fmGrants r Grp.FAULT_CLEAR everyFlacon →
    Answers (exec (.fmClearEventRecords r) s) fun t =>
      Out.fmAnswer r.path.val 0x0101 Fm.SUCCESS 0 [] ∈ t.out ∧ t.regsBut s [Reg.MG_PATH_CNT r.path.val]) ∧
  (∀ (s : State) (r : FmReq) (q : BitVec 8), s.quiet = true → s.fmGrants r Grp.READ (s.portMask q.toNat) →
    Answers (exec (.fmGetVirtualCxlSwitchInfo r q) s) fun t =>
      Out.fmAnswer r.path.val 0x5200 Fm.SUCCESS 0 [] ∈ t.out ∧ t.regsBut s [Reg.MG_PATH_CNT r.path.val]) ∧
  (∀ (s : State) (r : FmReq) (l : List (BitVec 8)), s.quiet = true → s.fmGrants r Grp.READ everyFlacon →
    (∀ q ∈ l, s.portFlacon q.toNat = none) → l ≠ [] →
    Answers (exec (.fmGetPhysicalPortState r l) s) fun t =>
      Out.fmAnswer r.path.val 0x5101 Fm.SUCCESS 0 [] ∈ t.out ∧ t.regsBut s [Reg.MG_PATH_CNT r.path.val]) ∧
  (∀ (s : State) (r : FmReq) (x : BitVec 8), s.quiet = true → s.fmGrants r Grp.READ everyFlacon →
    Answers (exec (.fmSetResponseMessageLimit r x) s) fun t =>
      t.mgmt.fmLimit = x.toNat ∧ Out.fmAnswer r.path.val 0x0004 Fm.SUCCESS 0 (bytesOf 1 x.toNat) ∈ t.out ∧
      t.regsBut s [Reg.MG_PATH_CNT r.path.val]) ∧
  (∀ (s : State) (r : FmReq), s.quiet = true → s.fmGrants r Grp.READ everyFlacon →
    Answers (exec (.fmGetResponseMessageLimit r) s) fun t =>
      Out.fmAnswer r.path.val 0x0003 Fm.SUCCESS 0 (bytesOf 1 s.mgmt.fmLimit) ∈ t.out ∧ t.mgmt.fmLimit = s.mgmt.fmLimit ∧
      t.regsBut s [Reg.MG_PATH_CNT r.path.val]) ∧
  (∀ (s : State) (c : Instr) (r : FmReq) (q : BitVec 8) (w : Bool) (b a : List Byte) (o g m : Nat) (p : PortRec),
    s.quiet = true → c ∈ fmCarried r q w b a → s.fmOf c = some (r, o, g, m) → s.fmGrants r g m →
    s.portRec q.toNat = some p → p.fabric = false → p.role = .downstream → s.portUp q.toNat = true →
    Answers (exec c s) fun t =>
      Out.fmForward q.toNat o b ∈ t.out ∧ Out.fmAnswer r.path.val o Fm.SUCCESS 0 a ∈ t.out ∧
      t.regsBut s [Reg.MG_PATH_CNT r.path.val]) ∧
  (∀ (s : State) (c : Instr) (r : FmReq) (q : BitVec 8) (w : Bool) (b a : List Byte) (o g m : Nat),
    s.quiet = true → c ∈ fmCarried r q w b a → s.fmOf c = some (r, o, g, m) → s.fmGrants r g m →
    s.portRec q.toNat = none →
    Answers (exec c s) fun t =>
      Out.fmAnswer r.path.val o Fm.INVALID St.OUT_OF_FORMULA [] ∈ t.out ∧ t.regsBut s [Reg.MG_PATH_CNT r.path.val]) ∧
  (∀ (s : State) (r : FmReq) (q : BitVec 8) (x : BitVec 16) (b a : List Byte) (g : Nat) (p : PortRec), s.quiet = true →
    tunnelGroup x.toNat = some g → s.fmGrants r g (s.portMask q.toNat) → s.portRec q.toNat = some p → p.fabric = false →
    p.role = .downstream → s.portUp q.toNat = true →
    Answers (exec (.fmTunnelManagementCommand r q x b a) s) fun t =>
      Out.fmForward q.toNat x.toNat b ∈ t.out ∧ Out.fmAnswer r.path.val x.toNat Fm.SUCCESS 0 a ∈ t.out ∧
      t.regsBut s [Reg.MG_PATH_CNT r.path.val]) ∧
  (∀ (s : State) (r : FmReq) (x : BitVec 16), s.quiet = true → s.fmUp r = true → r.remote = false →
    Answers (exec (.fmUnsupported r x) s) fun t =>
      Out.fmAnswer r.path.val x.toNat Fm.UNSUPPORTED 0 [] ∈ t.out ∧ t.regsBut s [])

/-- What the fabric manager's commands change (R315, R328, R330): a port's reset, bindings, dynamic capacity. -/
def Obligations.FabricManagerActs : Prop :=
  (∀ (s : State) (r : FmReq) (q : BitVec 8) (p : PortRec), s.fmGrants r Grp.LINK (s.portMask q.toNat) →
    s.portRec q.toNat = some p → p.port = q.toNat → p.port < 128 → p.fabric = false → p.role = .downstream →
    s.portIdle q.toNat →
    Leaves (exec (.fmPhysicalPortControl r q 0) s) fun u =>
      (u.stdSt q.toNat).fmReset = true ∧ u.on (Reg.PT_STD_STATUS q.toNat) Fld.PT_STD_STATUS.DL_UP = false ∧
      (p.hotplug = true → u.on (Reg.PT_HP_STATUS q.toNat) Fld.PT_HP_STATUS.PERST = true) ∧
      Out.fmAnswer r.path.val 0x5102 Fm.BACKGROUND 0 [] ∈ u.out) ∧
  (∀ (s : State) (r : FmReq) (q : BitVec 8) (p : PortRec), s.quiet = true → s.fmGrants r Grp.LINK (s.portMask q.toNat) →
    s.portRec q.toNat = some p → p.port = q.toNat → p.port < 128 → p.fabric = false → p.role = .downstream →
    Answers (exec (.fmPhysicalPortControl r q 1) s) fun t =>
      (t.stdSt q.toNat).fmReset = false ∧ t.rd (Reg.PT_STD_STATUS q.toNat) Fld.PT_STD_STATUS.LTSSM = 0 ∧
      (p.hotplug = true → t.on (Reg.PT_HP_STATUS q.toNat) Fld.PT_HP_STATUS.PERST = false) ∧
      Out.fmAnswer r.path.val 0x5102 Fm.BACKGROUND 0 [] ∈ t.out ∧
      t.regsBut s [Reg.PT_STD_STATUS q.toNat, Reg.PT_HP_STATUS q.toNat, Reg.MG_PATH_CNT r.path.val]) ∧
  (∀ (s : State) (r : FmReq) (q : BitVec 8) (p : PortRec), s.fmGrants r Grp.LINK (s.portMask q.toNat) →
    s.portRec q.toNat = some p → p.port = q.toNat → p.port < 128 → p.fabric = false → p.role = .downstream →
    s.portIdle q.toNat →
    Leaves (exec (.fmPhysicalPortControl r q 2) s) fun u =>
      Out.hotReset q.toNat none ∈ u.out ∧ u.rd (Reg.PT_STD_STATUS q.toNat) Fld.PT_STD_STATUS.LTSSM = 7 ∧
      Out.fmAnswer r.path.val 0x5102 Fm.BACKGROUND 0 [] ∈ u.out) ∧
  (∀ (s : State) (r : FmReq) (u v d : BitVec 8) (l : BitVec 16) (a b : PortRec) (f : Nat),
    s.fmGrants r Grp.BIND (s.portMask u.toNat ||| s.portMask d.toNat) → s.md = .serve →
    s.portRec u.toNat = some a → s.portRec d.toNat = some b → a.fabric = false → b.fabric = false → a.role = .upstream →
    b.role = .downstream → a.flacon = f → b.flacon = f → f < 32 → l.toNat < 16 → s.flaconBusy f = none →
    s.canAdvance f true = true → s.arrayEmpty →
    (∀ x ∈ s.allBindings, ¬ (x.dsp = d.toNat ∧ x.ld = l.toNat) ∧ ¬ (x.usp = u.toNat ∧ x.vppb = v.toNat)) →
    Leaves (exec (.fmBindVppb r u v d l) s) fun t =>
      (t.flAcc f).cur.bindings = (s.flAcc f).cur.bindings ++
        [{ flacon := f, usp := u.toNat, dsp := d.toNat, ld := l.toNat, vppb := v.toNat }] ∧
      t.epochOf f = (s.epochOf f + 1) % 2 ^ 32 ∧ (t.vppbSt u.toNat v.toNat).presenceChanged = true ∧
      Out.fmAnswer r.path.val 0x5201 Fm.SUCCESS 0 [] ∈ t.out) ∧
  (∀ (s : State) (r : FmReq) (u v d : BitVec 8) (l : BitVec 16), s.quiet = true →
    s.fmGrants r Grp.BIND (s.portMask u.toNat ||| s.portMask d.toNat) → s.md = .serve → 16 ≤ l.toNat →
    Answers (exec (.fmBindVppb r u v d l) s) fun t =>
      Out.fmAnswer r.path.val 0x5201 Fm.INVALID St.OUT_OF_FORMULA [] ∈ t.out ∧ t.acc = s.acc ∧
      t.regsBut s [Reg.MG_PATH_CNT r.path.val]) ∧
  (∀ (s : State) (r : FmReq) (u v : BitVec 8) (b : BindingRec) (f : Nat), s.fmGrants r Grp.BIND (s.portMask u.toNat) →
    s.md = .serve → s.bindingAt u.toNat v.toNat = some (f, b) → b.usp = u.toNat → b.vppb = v.toNat → f < 32 →
    s.flaconBusy f = none → s.canAdvance f true = true → s.arrayEmpty →
    Leaves (exec (.fmUnbindVppb r u v 2) s) fun t =>
      (t.flAcc f).cur.bindings =
        ((s.flAcc f).cur.bindings.filter fun x => !(x.usp == u.toNat && x.vppb == v.toNat)) ∧
      t.epochOf f = (s.epochOf f + 1) % 2 ^ 32 ∧ (t.vppbSt u.toNat v.toNat).unbind = none ∧
      (t.vppbSt u.toNat v.toNat).presenceChanged = true ∧ (t.vppbSt u.toNat v.toNat).dllsc = true ∧
      Out.fmAnswer r.path.val 0x5202 Fm.SUCCESS 0 [] ∈ t.out) ∧
  (∀ (s : State) (r : FmReq) (u v : BitVec 8), s.quiet = true → s.fmGrants r Grp.BIND (s.portMask u.toNat) → s.md = .serve →
    s.bindingAt u.toNat v.toNat = none →
    Answers (exec (.fmUnbindVppb r u v 0) s) fun t =>
      (∃ x, Out.fmAnswer r.path.val 0x5202 Fm.INVALID x [] ∈ t.out) ∧ t.acc = s.acc ∧
      t.regsBut s [Reg.MG_PATH_CNT r.path.val]) ∧
  (∀ (s : State) (r : FmReq) (q f : BitVec 8) (l : List DcExtent), f.toNat < 32 → s.arrayEmpty →
    s.fmGrants r Grp.DCD (s.portMask q.toNat ||| flMask f.toNat) → s.dcRefused q.toNat f.toNat l = none →
    s.canAdvance f.toNat false = true →
    Leaves (exec (.fmInitiateDcAdd r q f l) s) fun u =>
      u.mgmt.extents = s.mgmt.extents ++ l.map (fun x => { flacon := f.toNat, port := q.toNat, extent := x }) ∧
      u.epochOf f.toNat = (s.epochOf f.toNat + 1) % 2 ^ 32 ∧ Out.fmForward q.toNat 0x5604 [] ∈ u.out ∧
      Out.fmAnswer r.path.val 0x5604 Fm.BACKGROUND 0 [] ∈ u.out) ∧
  (∀ (s : State) (r : FmReq) (q f : BitVec 8) (l : List DcExtent), s.quiet = true →
    s.fmGrants r Grp.DCD (s.portMask q.toNat ||| flMask f.toNat) → s.dcRefused q.toNat f.toNat l = none →
    s.canAdvance f.toNat false = false →
    Answers (exec (.fmInitiateDcAdd r q f l) s) fun t =>
      t.mgmt.extents = s.mgmt.extents ∧ Out.fmAnswer r.path.val 0x5604 Fm.INVALID St.EPOCH_BUSY [] ∈ t.out ∧
      t.regsBut s [Reg.MG_PATH_CNT r.path.val]) ∧
  (∀ (s : State) (r : FmReq) (q f : BitVec 8) (l : List DcExtent) (p : PortRec), s.quiet = true →
    s.fmGrants r Grp.DCD (s.portMask q.toNat ||| flMask f.toNat) → s.portRec q.toNat = some p → p.fabric = false →
    p.role = .downstream → s.on (Reg.FL_STATUS f.toNat) Fld.FL_STATUS.FENCED = true →
    Answers (exec (.fmInitiateDcAdd r q f l) s) fun t =>
      t.mgmt.extents = s.mgmt.extents ∧ Out.fmAnswer r.path.val 0x5604 Fm.INVALID St.FLACON_FENCED [] ∈ t.out ∧
      t.regsBut s [Reg.MG_PATH_CNT r.path.val]) ∧
  (∀ (s : State) (r : FmReq) (q f : BitVec 8) (l : List DcExtent), f.toNat < 32 → s.arrayEmpty →
    s.fmGrants r Grp.DCD (s.portMask q.toNat ||| flMask f.toNat) → s.dcRefused q.toNat f.toNat l = none →
    s.canAdvance f.toNat false = true →
    Leaves (exec (.fmInitiateDcRelease r q f l) s) fun u =>
      u.mgmt.extents = s.mgmt.extents.map (fun x => if x.flacon = f.toNat ∧ x.port = q.toNat ∧ x.extent ∈ l then
        { x with releasing := true } else x) ∧
      u.epochOf f.toNat = (s.epochOf f.toNat + 1) % 2 ^ 32 ∧ Out.fmForward q.toNat 0x5605 [] ∈ u.out ∧
      Out.fmAnswer r.path.val 0x5605 Fm.BACKGROUND 0 [] ∈ u.out) ∧
  (∀ (s : State) (q : PortIx) (l : List DcExtent), s.quiet = true → s.md.clocked = true →
    Answers (exec (.dcReleaseComplete q l) s) fun t =>
      t.mgmt.extents = (s.mgmt.extents.filter fun x => !(x.port == q.val && x.releasing && l.contains x.extent)) ∧
      t.regsBut s [])

/-- The slot machine (R319 to R327): presence, power, reset, enumeration, removal. -/
def Obligations.SlotMachine : Prop :=
  (∀ (s : State) (n : SlotIx) (p : PortRec), s.quiet = true → s.slotMachine n.val = some p → p.port < 128 →
    s.md.slots = true → p.hotplug = true → s.hpState p.port = Hp.EMPTY → tabFind s.hpRestart n.val = none →
    s.on (Reg.SPC_CFG p.slot) Fld.SPC_CFG.AUTO_ON = false → p.slot = n.val →
    Answers (exec (.slotPresenceArrive n) s) fun t =>
      t.hpState p.port = Hp.PRESENT ∧ t.on (Reg.PT_HP_STATUS p.port) Fld.PT_HP_STATUS.PRSNT = true ∧
      t.on (Reg.PT_HP_EVENTS p.port) Fld.PT_HP_EVENTS.PRSNT_CHG = true ∧
      (∀ e ∈ s.vppbsOf p.port, (t.vppbSt e.1 e.2).presenceChanged = true) ∧
      t.regsBut s [Reg.PT_HP_STATUS p.port, Reg.PT_HP_EVENTS p.port]) ∧
  (∀ (s : State) (n : SlotIx) (p : PortRec), s.quiet = true → s.slotMachine n.val = some p → p.port < 128 →
    s.md.slots = true → p.hotplug = true → s.hpState p.port = Hp.PRESENT →
    Answers (exec (.slotPresenceLoss n) s) fun t =>
      t.hpState p.port = Hp.EMPTY ∧ t.on (Reg.PT_HP_STATUS p.port) Fld.PT_HP_STATUS.PRSNT = false ∧
      t.on (Reg.PT_HP_EVENTS p.port) Fld.PT_HP_EVENTS.PRSNT_CHG = true ∧
      t.regsBut s [Reg.PT_HP_STATUS p.port, Reg.PT_HP_EVENTS p.port]) ∧
  (∀ (s : State) (n : SlotIx) (p : PortRec), s.slotMachine n.val = some p → p.port < 128 → s.md.slots = true →
    p.hotplug = true → p.fabric = false → s.hpState p.port = Hp.ACTIVE → s.portIdle p.port →
    Leaves (exec (.slotPresenceLoss n) s) fun u =>
      u.hpState p.port = Hp.OFFING ∧ u.on (Reg.PT_HP_EVENTS p.port) Fld.PT_HP_EVENTS.SURPRISE = true ∧
      u.hasRaisedOn (srcSlot n.val 0) (s.portFlacon p.port)) ∧
  (∀ (s : State) (n : SlotIx) (p : PortRec), s.quiet = true → s.slotMachine n.val = some p → p.port < 128 →
    Answers (exec (.attentionButtonPress n) s) fun t =>
      t.on (Reg.PT_HP_EVENTS p.port) Fld.PT_HP_EVENTS.ATTN = true ∧
      (∀ e ∈ s.vppbsOf p.port, (t.vppbSt e.1 e.2).attnPressed = true) ∧ t.regsBut s [Reg.PT_HP_EVENTS p.port]) ∧
  (∀ (s : State) (n : SlotIx) (p : PortRec), s.quiet = true → s.slotMachine n.val = some p → p.port < 128 →
    s.md.slots = true → s.hpState p.port = Hp.POWERING → s.ch n.val = Ch.ON →
    Answers (exec (.slotPowerGood n) s) fun t =>
      t.hpState p.port = Hp.POWERED ∧ t.on (Reg.PT_HP_STATUS p.port) Fld.PT_HP_STATUS.CLK_ON = true ∧
      t.regsBut s [Reg.PT_HP_STATUS p.port]) ∧
  (∀ (s : State) (n : SlotIx) (p : PortRec), s.quiet = true → s.slotMachine n.val = some p → p.port < 128 →
    s.md.slots = true → s.hpState p.port = Hp.POWERED → s.ch n.val = Ch.OFF →
    s.on (Reg.PT_STD_STATUS p.port) Fld.PT_STD_STATUS.DL_UP = false →
    Answers (exec (.slotPowerGoodLoss n) s) fun t =>
      t.hpState p.port = Hp.POWERING ∧ t.on (Reg.PT_HP_STATUS p.port) Fld.PT_HP_STATUS.PERST = true ∧
      t.regsBut s [Reg.PT_HP_STATUS p.port]) ∧
  (∀ (s : State) (n : SlotIx) (p : PortRec), s.quiet = true → s.slotMachine n.val = some p → p.port < 128 →
    s.md.slots = true → s.hpState p.port = Hp.POWERED → s.ch n.val = Ch.ON →
    Answers (exec (.slotPerstDelayExpiry n) s) fun t =>
      t.hpState p.port = (if p.hotplug then Hp.LINKING else Hp.ACTIVE) ∧
      t.on (Reg.PT_HP_STATUS p.port) Fld.PT_HP_STATUS.PERST = false ∧ t.regsBut s [Reg.PT_HP_STATUS p.port]) ∧
  (∀ (s : State) (n : SlotIx) (p : PortRec) (l : List (Nat × Nat)), s.quiet = true → s.slotMachine n.val = some p →
    p.port < 128 → s.md.slots = true → s.hpState p.port = Hp.ENUM → s.enumOk p l = true →
    Answers (exec (.slotEnumDone n l) s) fun t =>
      t.hpState p.port = Hp.ACTIVE ∧
      t.rd (Reg.PT_HP_CNT p.port) Fld.PT_HP_CNT.INSERTS =
        min (2 ^ Fld.PT_HP_CNT.INSERTS.width - 1) (s.rd (Reg.PT_HP_CNT p.port) Fld.PT_HP_CNT.INSERTS + 1) ∧
      (∀ e ∈ s.vppbsOf p.port, (t.vppbSt e.1 e.2).dllsc = true) ∧
      t.regsBut s [Reg.PT_HP_STATUS p.port, Reg.PT_HP_CNT p.port, Reg.PT_STD_STATUS p.port, Reg.PT_STD_EVENTS p.port]) ∧
  (∀ (s : State) (n : SlotIx) (p : PortRec) (l : List (Nat × Nat)), s.slotMachine n.val = some p →
    p.port < 128 → s.md.slots = true → s.hpState p.port = Hp.ENUM → s.enumOk p l = false →
    s.on (Reg.PT_STD_STATUS p.port) Fld.PT_STD_STATUS.LINGER = false →
    Leaves (exec (.slotEnumDone n l) s) fun u =>
      u.hpState p.port = Hp.FAULT ∧ u.on (Reg.PT_HP_EVENTS p.port) Fld.PT_HP_EVENTS.ENUM_FAIL = true ∧
      u.hasRaisedOn (srcSlot n.val 2) (s.portFlacon p.port) ∧
      u.regsBut s [Reg.PT_HP_STATUS p.port, Reg.PT_HP_EVENTS p.port]) ∧
  (∀ (s : State) (n : SlotIx) (p : PortRec), s.quiet = true → s.slotMachine n.val = some p → p.port < 128 →
    s.md.slots = true → s.hpState p.port = Hp.OFFING →
    Answers (exec (.slotOutputDischarged n) s) fun t =>
      t.hpState p.port =
        (if s.on (Reg.PT_HP_STATUS p.port) Fld.PT_HP_STATUS.PRSNT = true ∨ p.hotplug = false then Hp.PRESENT else Hp.EMPTY) ∧
      t.on (Reg.PT_HP_STATUS p.port) Fld.PT_HP_STATUS.CLK_ON = false ∧ t.regsBut s [Reg.PT_HP_STATUS p.port]) ∧
  (∀ (s : State) (n : SlotIx) (p : PortRec), s.quiet = true → s.slotMachine n.val = some p → p.port < 128 →
    s.md.slots = true → s.hpState p.port = Hp.OFFING → s.arrayEmpty →
    Answers (exec (.removalDrainEnd n) s) fun t =>
      t.hpState p.port = Hp.OFFING ∧ t.on (Reg.PT_HP_STATUS p.port) Fld.PT_HP_STATUS.PERST = true ∧
      t.regsBut s [Reg.PT_HP_STATUS p.port]) ∧
  (∀ (s : State) (n : SlotIx) (p : PortRec), s.slotMachine n.val = some p → p.port < 128 →
    s.md.slots = true → s.hpState p.port = Hp.OFFING → s.on (Reg.PT_HP_STATUS p.port) Fld.PT_HP_STATUS.PERST = true →
    s.on (Reg.PT_STD_STATUS p.port) Fld.PT_STD_STATUS.DL_UP = false →
    s.on (Reg.PT_STD_STATUS p.port) Fld.PT_STD_STATUS.LINGER = false → s.ch n.val = Ch.ON →
    Leaves (exec (.removalPortDownDelay n) s) fun u =>
      u.ch n.val = Ch.DOWN ∧ u.hpState p.port = Hp.OFFING ∧
      u.on (Reg.SPC_STATE n.val) Fld.SPC_STATE.IN_LIMIT = false)

/-- A host's writes to the slot of a vPPB, and bindings that end (R322, R324, R330). -/
def Obligations.VirtualSlots : Prop :=
  (∀ (s : State) (q : PortIx) (v : Fin 256) (w : BitVec 16), s.quiet = true → s.md.clocked = true →
    Answers (exec (.slotControlWrite q v w) s) fun t =>
      (t.vppbSt q.val v.val).control = w ∧ (t.vppbSt q.val v.val).cmdPending = true ∧ t.regsBut s []) ∧
  (∀ (s : State) (q : PortIx) (v : Fin 256), s.quiet = true → s.md.clocked = true →
    (s.vppbSt q.val v.val).cmdPending = true →
    Answers (exec (.commandCompleted q v) s) fun t =>
      (t.vppbSt q.val v.val).cmdPending = false ∧ (t.vppbSt q.val v.val).cmdDone = true ∧
      ((s.vppbSt q.val v.val).control.getLsbD 4 = true → (s.vppbSt q.val v.val).control.getLsbD 5 = true →
        Out.hotplug q.val v.val ∈ t.out) ∧ t.regsBut s []) ∧
  (∀ (s : State) (q : PortIx) (v : Fin 256) (b : Bool), s.quiet = true → s.md.clocked = true →
    s.bindingAt q.val v.val = none →
    Answers (exec (.hostPowerControlWrite q v b) s) fun t =>
      (t.vppbSt q.val v.val).cmdPending = true ∧ t.regsBut s []) ∧
  (∀ (s : State) (q : PortIx) (v : Fin 256) (f : Nat) (b : BindingRec) (p : PortRec), s.quiet = true →
    s.md.clocked = true → s.bindingAt q.val v.val = some (f, b) → s.portRec b.dsp = some p → p.port = b.dsp →
    p.port < 128 → p.hotplug = true → s.md.slots = true → s.portInUse p.port = false →
    s.hpState p.port ∈ [Hp.POWERING, Hp.POWERED, Hp.LINKING, Hp.ENUM, Hp.ACTIVE] →
    (s.vppbSt q.val v.val).unbind = none →
    Answers (exec (.hostPowerControlWrite q v false) s) fun t =>
      t.hpState p.port = Hp.OFFING ∧ (t.vppbSt q.val v.val).cmdPending = true ∧
      t.rd (Reg.PT_HP_CNT p.port) Fld.PT_HP_CNT.REMOVALS =
        min (2 ^ Fld.PT_HP_CNT.REMOVALS.width - 1) (s.rd (Reg.PT_HP_CNT p.port) Fld.PT_HP_CNT.REMOVALS + 1) ∧
      t.regsBut s [Reg.PT_HP_STATUS p.port, Reg.PT_HP_CNT p.port]) ∧
  (∀ (s : State) (q : PortIx) (v : Fin 256), s.quiet = true → s.md.clocked = true → s.bindingAt q.val v.val = none →
    Answers (exec (.vppbLinkDisable q v) s) fun t => (t.vppbSt q.val v.val).linkDisable = true ∧ t.regsBut s []) ∧
  (∀ (s : State) (q : PortIx) (v : Fin 256) (f : Nat) (b : BindingRec), s.md.clocked = true →
    s.bindingAt q.val v.val = some (f, b) → b.usp = q.val → b.vppb = v.val → f < 32 →
    (s.vppbSt q.val v.val).unbind = some 0 → s.canAdvance f true = true → s.arrayEmpty →
    Leaves (exec (.vppbLinkDisable q v) s) fun u =>
      (u.flAcc f).cur.bindings = ((s.flAcc f).cur.bindings.filter fun x => !(x.usp == q.val && x.vppb == v.val)) ∧
      u.epochOf f = (s.epochOf f + 1) % 2 ^ 32 ∧ (u.vppbSt q.val v.val).unbind = none) ∧
  (∀ (s : State) (q : PortIx) (v : Fin 256) (f : Nat) (b : BindingRec), s.md.clocked = true →
    s.bindingAt q.val v.val = some (f, b) → b.usp = q.val → b.vppb = v.val → f < 32 →
    (s.vppbSt q.val v.val).unbind = some 1 → (s.vppbSt q.val v.val).offWritten = true → s.canAdvance f true = true →
    s.arrayEmpty →
    Leaves (exec (.unbindComplete q v) s) fun u =>
      (u.flAcc f).cur.bindings = ((s.flAcc f).cur.bindings.filter fun x => !(x.usp == q.val && x.vppb == v.val)) ∧
      u.epochOf f = (s.epochOf f + 1) % 2 ^ 32 ∧ (u.vppbSt q.val v.val).unbind = none ∧
      (u.vppbSt q.val v.val).presenceChanged = true)

/-- The slot and binding commands of the mailbox (R328 to R330, R349, R355, R420, R421). -/
def Obligations.SlotCommands : Prop :=
  (∀ (s : State) (r : MgmtReq) (n : BitVec 8) (p : PortRec), n.toNat < 32 → s.takes r (.powerOn n) →
    s.slotMachine n.toNat = some p → p.slot = n.toNat → p.port < 128 → p.hotplug = true → s.md.slots = true →
    s.md ≠ .quarantine → s.hpState p.port = Hp.PRESENT → s.on (Reg.SPC_CFG n.toNat) Fld.SPC_CFG.VALID = true →
    s.ch n.toNat = Ch.DOWN →
    Leaves (exec (.powerOn r n) s) fun u =>
      u.hpState p.port = Hp.POWERING ∧ (tabGet u.pwr.ch n.toNat {}).onRequested = true ∧ u.repliedTo r (.powerOn n) St.OK 0 [] ∧
      u.regsBut s (Reg.PT_HP_STATUS p.port :: mgmtRegs r)) ∧
  (∀ (s : State) (r : MgmtReq) (n : BitVec 8) (p : PortRec), s.quiet = true → n.toNat < 32 → s.takes r (.powerOn n) →
    s.slotMachine n.toNat = some p → p.slot = n.toNat → p.port < 128 → p.hotplug = true → s.md.slots = true →
    s.md ≠ .quarantine → s.hpState p.port = Hp.EMPTY →
    Answers (exec (.powerOn r n) s) fun t =>
      t.repliedTo r (.powerOn n) St.NOT_PRESENT 0 [] ∧ t.on (Reg.PT_HP_EVENTS p.port) Fld.PT_HP_EVENTS.REFUSED = true ∧
      t.hpState p.port = Hp.EMPTY ∧ t.regsBut s (Reg.PT_HP_EVENTS p.port :: Reg.PT_HP_CNT p.port :: mgmtRegs r)) ∧
  (∀ (s : State) (r : MgmtReq) (n : BitVec 8) (p : PortRec), s.quiet = true → n.toNat < 32 → s.takes r (.powerOff n) →
    s.slotMachine n.toNat = some p → p.port < 128 → p.hotplug = true → s.md.slots = true →
    s.hpState p.port = Hp.ACTIVE → s.portInUse p.port = false →
    Answers (exec (.powerOff r n) s) fun t =>
      t.hpState p.port = Hp.OFFING ∧ t.repliedTo r (.powerOff n) St.OK 0 [] ∧
      (∀ e ∈ s.vppbsOf p.port, (t.vppbSt e.1 e.2).dllsc = true) ∧
      t.regsBut s (Reg.PT_HP_STATUS p.port :: Reg.PT_HP_CNT p.port :: mgmtRegs r)) ∧
  (∀ (s : State) (r : MgmtReq) (n : BitVec 8) (p : PortRec), s.quiet = true → n.toNat < 32 → s.takes r (.powerOff n) →
    s.slotMachine n.toNat = some p → p.port < 128 → p.hotplug = true → s.md.slots = true →
    s.hpState p.port = Hp.ACTIVE → s.portInUse p.port = true →
    Answers (exec (.powerOff r n) s) fun t =>
      t.hpState p.port = Hp.ACTIVE ∧ t.repliedTo r (.powerOff n) St.IN_USE 0 [] ∧
      t.on (Reg.PT_HP_EVENTS p.port) Fld.PT_HP_EVENTS.REFUSED = true ∧
      t.regsBut s (Reg.PT_HP_EVENTS p.port :: Reg.PT_HP_CNT p.port :: mgmtRegs r)) ∧
  (∀ (s : State) (r : MgmtReq) (n : BitVec 8) (p : PortRec), n.toNat < 32 → s.takes r (.slotFaultClear n) →
    s.slotMachine n.toNat = some p → p.slot = n.toNat → p.port < 128 → p.hotplug = true → s.md.slots = true →
    s.hpState p.port = Hp.FAULT → s.ch n.toNat = Ch.LATCHED →
    s.on (Reg.PT_STD_STATUS p.port) Fld.PT_STD_STATUS.DL_UP = false →
    s.on (Reg.PT_HP_STATUS p.port) Fld.PT_HP_STATUS.PRSNT = false →
    Leaves (exec (.slotFaultClear r n) s) fun u =>
      u.hpState p.port = Hp.PRESENT ∧ u.on (Reg.PT_HP_STATUS p.port) Fld.PT_HP_STATUS.PERST = true ∧
      u.ch n.toNat = Ch.OFF ∧ u.repliedTo r (.slotFaultClear n) St.OK 0 []) ∧
  (∀ (s : State) (r : MgmtReq) (n : BitVec 8) (x : BitVec 16) (p : PortRec), s.quiet = true → n.toNat < 32 →
    s.takes r (.setLimit n x) → s.slotMachine n.toNat = some p → p.hotplug = true →
    s.limitOk n.toNat x.toNat = true →
    Answers (exec (.setLimit r n x) s) fun t =>
      t.rd (Reg.SPC_LIMIT n.toNat) Fld.SPC_LIMIT.LIMIT_MA = x.toNat % 2 ^ Fld.SPC_LIMIT.LIMIT_MA.width ∧ t.repliedTo r (.setLimit n x) St.OK 0 [] ∧
      t.regsBut s (Reg.SPC_LIMIT n.toNat :: mgmtRegs r)) ∧
  (∀ (s : State) (r : MgmtReq) (n : BitVec 8) (x : BitVec 16) (p : PortRec), s.quiet = true → n.toNat < 32 →
    s.takes r (.setLimit n x) → s.slotMachine n.toNat = some p → p.hotplug = true →
    s.limitOk n.toNat x.toNat = false →
    Answers (exec (.setLimit r n x) s) fun t =>
      t.repliedTo r (.setLimit n x) St.OUT_OF_FORMULA 0 [] ∧ t.regsBut s (mgmtRegs r)) ∧
  (∀ (s : State) (r : MgmtReq) (f u d l v : BitVec 8) (a b : PortRec), s.takes r (.bind f u d l v) → s.md = .serve →
    f.toNat < 32 → u.toNat < 128 → d.toNat < 128 → s.portRec u.toNat = some a → s.portRec d.toNat = some b →
    a.fabric = false → b.fabric = false → a.role = .upstream → b.role = .downstream → a.flacon = f.toNat →
    b.flacon = f.toNat → l.toNat < 16 → s.flaconBusy f.toNat = none → s.canAdvance f.toNat true = true →
    s.arrayEmpty →
    (∀ x ∈ s.allBindings, ¬ (x.dsp = d.toNat ∧ x.ld = l.toNat) ∧ ¬ (x.usp = u.toNat ∧ x.vppb = v.toNat)) →
    Leaves (exec (.bind r f u d l v) s) fun t =>
      (t.flAcc f.toNat).cur.bindings = (s.flAcc f.toNat).cur.bindings ++
        [{ flacon := f.toNat, usp := u.toNat, dsp := d.toNat, ld := l.toNat, vppb := v.toNat }] ∧
      t.epochOf f.toNat = (s.epochOf f.toNat + 1) % 2 ^ 32 ∧ t.repliedTo r (.bind f u d l v) St.OK 0 []) ∧
  (∀ (s : State) (r : MgmtReq) (f u d l v : BitVec 8), s.quiet = true → s.takes r (.bind f u d l v) → s.md = .serve →
    u.toNat < 128 → d.toNat < 128 → 16 ≤ l.toNat →
    Answers (exec (.bind r f u d l v) s) fun t => t.turnsAway s r (.bind f u d l v) St.OUT_OF_FORMULA) ∧
  (∀ (s : State) (r : MgmtReq) (u v : BitVec 8) (f : Nat) (b : BindingRec), s.takes r (.unbind u v 2) → s.md = .serve →
    u.toNat < 128 → s.bindingAt u.toNat v.toNat = some (f, b) → b.usp = u.toNat → b.vppb = v.toNat → f < 32 →
    s.flaconBusy f = none → s.canAdvance f true = true → s.arrayEmpty →
    Leaves (exec (.unbindSurprise r u v) s) fun t =>
      (t.flAcc f).cur.bindings = ((s.flAcc f).cur.bindings.filter fun x => !(x.usp == u.toNat && x.vppb == v.toNat)) ∧
      t.epochOf f = (s.epochOf f + 1) % 2 ^ 32 ∧ (t.vppbSt u.toNat v.toNat).dllsc = true ∧
      t.repliedTo r (.unbind u v 2) St.OK 0 []) ∧
  (∀ (s : State) (r : MgmtReq) (u v : BitVec 8) (f : Nat) (b : BindingRec), s.quiet = true → s.takes r (.unbind u v 1) →
    s.md = .serve → u.toNat < 128 → s.bindingAt u.toNat v.toNat = some (f, b) → s.flaconBusy f = none →
    Answers (exec (.unbindManaged r u v) s) fun t =>
      (t.vppbSt u.toNat v.toNat).attnPressed = true ∧ (t.vppbSt u.toNat v.toNat).unbind = some 1 ∧
      (t.vppbSt u.toNat v.toNat).offWritten = false ∧ t.acc = s.acc ∧ t.repliedTo r (.unbind u v 1) St.OK 0 [] ∧
      t.regsBut s (mgmtRegs r)) ∧
  (∀ (s : State) (r : MgmtReq) (u v : BitVec 8) (f : Nat) (b : BindingRec), s.quiet = true → s.takes r (.unbind u v 0) →
    s.md = .serve → u.toNat < 128 → s.bindingAt u.toNat v.toNat = some (f, b) → s.flaconBusy f = none →
    (s.vppbSt u.toNat v.toNat).linkDisable = false → s.portUp b.dsp = true → s.hpState b.dsp ≠ Hp.OFFING →
    Answers (exec (.unbindWaitLinkDown r u v) s) fun t =>
      (t.vppbSt u.toNat v.toNat).unbind = some 0 ∧ t.acc = s.acc ∧ t.repliedTo r (.unbind u v 0) St.OK 0 [] ∧
      t.regsBut s (mgmtRegs r)) ∧
  (∀ (s : State) (c : Instr) (r : MgmtReq) (u v o : BitVec 8), s.quiet = true → s.takes r (.unbind u v o) →
    (c, o) ∈ [(Instr.unbindWaitLinkDown r u v, 0), (.unbindManaged r u v, 1), (.unbindSurprise r u v, 2)] →
    s.md = .serve → u.toNat < 128 → s.bindingAt u.toNat v.toNat = none →
    Answers (exec c s) fun t =>
      t.repliedTo r (.unbind u v o) St.BAD_FIELD 0 [] ∧ t.acc = s.acc ∧ t.regsBut s (mgmtRegs r))

/-- Decant jobs (R331 to R336): start, chunks read and written, the flip, its HOLD, its time limit and its retry, cancel and
rate. -/
def Obligations.DecantJobs : Prop :=
  (∀ (s : State) (r : MgmtReq) (a b : BitVec 16) (x : BitVec 32) (f g j : Nat) (d e : DecoderRec), s.quiet = true →
    s.takes r (.decantStart a b x) → s.decoderFlacon a.toNat = some f → s.decoder f a.toNat = some d →
    s.decoderAt b.toNat = some (g, e) → s.decantCode f g a.toNat b.toNat x.toNat d e = St.OK → s.freeJob = some j → j < 8 →
    (∀ i < 256, s.copyBarred { src := a.toNat, tgt := b.toNat, flacon := f, rate := x.toNat, total := d.size / 4096 } 8 i = none) →
    Answers (exec (.decantStart r a b x) s) fun t =>
      t.repliedTo r (.decantStart a b x) St.OK j [] ∧
      (∃ k, t.job j = some k ∧ k.src = a.toNat ∧ k.tgt = b.toNat ∧ k.flacon = f ∧ k.rate = x.toNat ∧ k.st = 1 ∧
        k.total = d.size / 4096 ∧ k.next = min 256 (d.size / 4096)) ∧
      t.rd (Reg.DC_JOB_STATE j) Fld.DC_JOB_STATE.STATE = 1 ∧ t.reg (Reg.DC_JOB_CNT j) = 0 ∧
      t.regsBut s (Reg.DC_JOB_CNT j :: Reg.DC_JOB_STATE j :: Reg.DC_JOB_CFG j :: Reg.DC_JOB_PTR j :: Reg.DC_STATUS ::
        mgmtRegs r)) ∧
  (∀ (s : State) (r : MgmtReq) (a b : BitVec 16) (x : BitVec 32) (f g : Nat) (d e : DecoderRec), s.quiet = true →
    s.takes r (.decantStart a b x) → s.decoderFlacon a.toNat = some f → s.decoder f a.toNat = some d →
    s.decoderAt b.toNat = some (g, e) → s.decantCode f g a.toNat b.toNat x.toNat d e ≠ St.OK →
    Answers (exec (.decantStart r a b x) s) fun t =>
      t.repliedTo r (.decantStart a b x) (s.decantCode f g a.toNat b.toNat x.toNat d e) 0 [] ∧ t.decant = s.decant ∧
      t.regsBut s (mgmtRegs r)) ∧
  (∀ (s : State) (r : MgmtReq) (j : BitVec 8) (k : DecantJob), s.quiet = true → s.takes r (.decantCancel j) → j.toNat < 8 →
    s.job j.toNat = some k → k.running = true → k.st ≠ 2 → k.flight = [] →
    Answers (exec (.decantCancel r j) s) fun t =>
      t.repliedTo r (.decantCancel j) St.OK 0 [] ∧
      t.job j.toNat = some { k with st := 4, cause := 1, flight := [], retry := false } ∧
      t.rd (Reg.DC_JOB_STATE j.toNat) Fld.DC_JOB_STATE.STATE = 4 ∧
      t.rd (Reg.DC_JOB_STATE j.toNat) Fld.DC_JOB_STATE.CAUSE = 1) ∧
  (∀ (s : State) (r : MgmtReq) (j : BitVec 8), s.quiet = true → s.takes r (.decantCancel j) →
    (∀ k, s.job j.toNat = some k → k.running = false) →
    Answers (exec (.decantCancel r j) s) fun t =>
      t.repliedTo r (.decantCancel j) St.BUSY 0 [] ∧ t.decant = s.decant ∧ t.regsBut s (mgmtRegs r)) ∧
  (∀ (s : State) (r : MgmtReq) (j : BitVec 8) (x : BitVec 32) (k : DecantJob), s.quiet = true →
    s.takes r (.decantRate j x) → j.toNat < 8 → s.job j.toNat = some k → k.running = true → 100 ≤ x.toNat →
    x.toNat ≤ 50000 →
    Answers (exec (.decantRate r j x) s) fun t =>
      t.repliedTo r (.decantRate j x) St.OK 0 [] ∧ t.job j.toNat = some { k with rate := x.toNat } ∧
      t.rd (Reg.DC_JOB_CFG j.toNat) Fld.DC_JOB_CFG.RATE_MBPS = x.toNat % 2 ^ Fld.DC_JOB_CFG.RATE_MBPS.width) ∧
  (∀ (s : State) (j : JobIx) (c : Nat) (b : Bool) (k : DecantJob) (e : Chunk), s.quiet = true → s.md.clocked = true →
    s.job j.val = some k → k.st = 1 → tabFind k.flight c = some e → e.writing = false → s.copyBarred k 9 c = none →
    Answers (exec (.decantChunkReadDone j c b false) s) fun t =>
      t.job j.val = some { k with flight := tabPut k.flight c { e with writing := true, poison := b } } ∧
      t.rd (Reg.DC_JOB_CNT j.val) Fld.DC_JOB_CNT.POISON =
        (if b then min (2 ^ Fld.DC_JOB_CNT.POISON.width - 1) (s.rd (Reg.DC_JOB_CNT j.val) Fld.DC_JOB_CNT.POISON + 1)
          else s.rd (Reg.DC_JOB_CNT j.val) Fld.DC_JOB_CNT.POISON) ∧
      t.regsBut s [Reg.DC_JOB_CNT j.val]) ∧
  (∀ (s : State) (j : JobIx) (c : Nat) (b : Bool) (k : DecantJob) (e : Chunk), s.md.clocked = true →
    s.job j.val = some k → k.st = 1 → k.flacon < 32 → tabFind k.flight c = some e → e.writing = false →
    Leaves (exec (.decantChunkReadDone j c b true) s) fun u =>
      u.job j.val = some { k with st := 4, cause := 5, flight := [], retry := false } ∧
      u.hasRaisedOn Src.DC_CANCELLED (some k.flacon)) ∧
  (∀ (s : State) (j : JobIx) (c : Nat) (b : Bool) (k : DecantJob) (e : Chunk), s.md.clocked = true →
    s.job j.val = some k → k.st = 1 → k.flacon < 32 → tabFind k.flight c = some e → e.writing = false →
    s.copyBarred k 9 c ≠ none →
    Leaves (exec (.decantChunkReadDone j c b false) s) fun u =>
      u.job j.val = some { k with st := 4, cause := 5, flight := [], retry := false } ∧
      u.hasRaisedOn Src.DC_CANCELLED (some k.flacon)) ∧
  (∀ (s : State) (j : JobIx) (c : Nat) (k : DecantJob) (e : Chunk), s.quiet = true → s.md.clocked = true →
    s.job j.val = some k → k.st = 1 → tabFind k.flight c = some e → e.writing = true → e.dirty = true → s.copyBarred k 8 c = none →
    Answers (exec (.decantChunkWriteDone j c false) s) fun t =>
      (let e' := { e with times := e.times + 1, dirty := false, writing := false, poison := false }
       t.job j.val = some { k with flight := tabPut k.flight c e' }) ∧
      t.rd (Reg.DC_JOB_CNT j.val) Fld.DC_JOB_CNT.RECOPIES =
        min (2 ^ Fld.DC_JOB_CNT.RECOPIES.width - 1) (s.rd (Reg.DC_JOB_CNT j.val) Fld.DC_JOB_CNT.RECOPIES + 1)) ∧
  (∀ (s : State) (j : JobIx) (c : Nat) (k : DecantJob) (e : Chunk), s.quiet = true → s.md.clocked = true →
    s.job j.val = some k → k.st = 1 → k.next = k.total → k.flight = [(c, e)] → e.writing = true → e.dirty = false →
    Answers (exec (.decantChunkWriteDone j c false) s) fun t =>
      t.job j.val = some { k with flight := [] } ∧
      t.rd (Reg.DC_JOB_PTR j.val) Fld.DC_JOB_PTR.COPIED = k.next % 2 ^ Fld.DC_JOB_PTR.COPIED.width ∧
      t.rd (Reg.DC_JOB_STATE j.val) Fld.DC_JOB_STATE.IN_FLIGHT = 0) ∧
  (∀ (s : State) (c : Instr) (j : JobIx) (k : DecantJob), s.md.clocked = true →
    (c = .decantFlip j ∨ c = .decantFlipRetry j ∧ k.retry = true) → s.job j.val = some k → k.st = 1 → k.next = k.total →
    k.flight = [] → k.flacon < 32 → s.canAdvance k.flacon true = true → s.arrayEmpty →
    (∃ d, s.decoder k.flacon k.src = some d ∧ d.shared = false) →
    Leaves (exec c s) fun u =>
      (u.flAcc k.flacon).cur.decoders = swapDecoders (s.flAcc k.flacon).cur.decoders k.src k.tgt ∧
      (∃ y, u.job j.val = some y ∧ y.st = 2 ∧ y.retry = false ∧ y.flipEpoch = (s.epochOf k.flacon + 1) % 2 ^ 32 ∧
        y.limit = max 1 (min 100 (s.rd Reg.DC_CTL Fld.DC_CTL.FLIP_LIMIT))) ∧
      u.rd (Reg.DC_JOB_STATE j.val) Fld.DC_JOB_STATE.STATE = 2) ∧
  (∀ (s : State) (j : JobIx) (k : DecantJob), s.quiet = true → s.md.clocked = true → s.job j.val = some k → k.st = 2 →
    s.drainedTo k.flacon k.flipEpoch = true →
    Answers (exec (.decantHoldClear j) s) fun t =>
      t.job j.val = some { k with st := 3 } ∧ t.rd (Reg.DC_JOB_STATE j.val) Fld.DC_JOB_STATE.STATE = 3 ∧ t.acc = s.acc) ∧
  (∀ (s : State) (j : JobIx) (k : DecantJob), s.quiet = true → s.md.clocked = true → s.job j.val = some k → k.st = 2 →
    k.tries < 2 →
    Answers (exec (.decantFlipTimeout j) s) fun t =>
      t.job j.val = some { k with st := 1, tries := k.tries + 1, retry := true } ∧
      (t.flAcc k.flacon).cur.decoders = swapDecoders (s.flAcc k.flacon).cur.decoders k.src k.tgt ∧
      t.rd (Reg.DC_JOB_STATE j.val) Fld.DC_JOB_STATE.STATE = 1) ∧
  (∀ (s : State) (j : JobIx) (k : DecantJob), s.md.clocked = true → s.job j.val = some k → k.st = 2 → k.tries = 2 →
    k.flacon < 32 →
    Leaves (exec (.decantFlipTimeout j) s) fun u =>
      (∃ y, u.job j.val = some y ∧ y.st = 4 ∧ y.cause = 6 ∧ y.tries = 3) ∧
      u.hasRaisedOn Src.DC_CANCELLED (some k.flacon))

/-- Rails, feeds and the charge pump (R340, R342, R343). -/
def Obligations.RailsAndFeeds : Prop :=
  (∀ (s : State) (r : Fin 6), s.md ∈ [Mode.boot, .compose, .serve, .recompose, .revive, .quarantine, .linktest] →
    Leaves (exec (.railOutOfTolerance r) s) fun u =>
      u.rd Reg.PC_RAIL Fld.PC_RAIL.GOOD = clrBitAt (s.rd Reg.PC_RAIL Fld.PC_RAIL.GOOD) r.val ∧
      (u.rd Reg.PC_RAIL Fld.PC_RAIL.FAULT).testBit r.val = true ∧ u.pins.railsOk = clrBitAt s.pins.railsOk (r.val + 2) ∧
      u.hasRaised Src.PC_RAIL none ∧ u.regsBut s [Reg.PC_RAIL]) ∧
  (∀ (s : State) (m : BusMeas), s.companionOn = true →
    Leaves (exec (.vauxLow m) s) fun u =>
      u.pins.vauxOk = false ∧ u.on Reg.PC_RAIL Fld.PC_RAIL.VAUX_GOOD = false ∧
      u.on Reg.PC_EVENTS Fld.PC_EVENTS.VAUX_LOW = true ∧ u.showsBus m ∧ u.hasRaised Src.PC_VAUX_LOW none ∧
      u.regsBut s [Reg.PC_BUS, Reg.PC_SUPV_STATUS, Reg.PC_RAIL, Reg.PC_EVENTS]) ∧
  (∀ (s : State) (f : FeedIx) (m : BusMeas), s.companionOn = true →
    Leaves (exec (.feedReverse f m) s) fun u =>
      u.on Reg.PC_FEED (feedConduct f) = false ∧ u.on Reg.PC_FEED (feedBlocked f) = true ∧
      u.on Reg.PC_EVENTS Fld.PC_EVENTS.FEED_REVERSE = true ∧ u.showsBus m ∧ u.hasRaised Src.PC_FEED_REVERSE none ∧
      u.regsBut s [Reg.PC_BUS, Reg.PC_SUPV_STATUS, Reg.PC_FEED, Reg.PC_EVENTS]) ∧
  (∀ (s : State) (f : FeedIx) (m : BusMeas), s.quiet = true → s.companionOn = true →
    Answers (exec (.feedPresent f m) s) fun t =>
      t.on Reg.PC_FEED (feedPresent f) = true ∧ t.showsBus m ∧
      (s.on Reg.PC_FEED (feedBlocked f) = false → s.on Reg.PC_FEED Fld.PC_FEED.PUMP_OK = true →
        t.on Reg.PC_FEED (feedConduct f) = true) ∧
      (s.on Reg.PC_FEED (feedBlocked f) = true ∨ s.on Reg.PC_FEED Fld.PC_FEED.PUMP_OK = false →
        t.on Reg.PC_FEED (feedConduct f) = s.on Reg.PC_FEED (feedConduct f)) ∧
      (s.rd Reg.PC_SUPV Fld.PC_SUPV.RESET_MV + 100 ≤ m.vbus →
        t.on Reg.PC_SUPV_STATUS Fld.PC_SUPV_STATUS.BELOW_RESET = false) ∧
      t.regsBut s [Reg.PC_BUS, Reg.PC_SUPV_STATUS, Reg.PC_FEED]) ∧
  (∀ (s : State) (f : FeedIx) (m : BusMeas), s.companionOn = true → s.on Reg.PC_FEED (feedPresent f) = true →
    s.md.serving = true →
    Leaves (exec (.feedLost f m) s) fun u =>
      u.on Reg.PC_FEED (feedPresent f) = false ∧ u.on Reg.PC_FEED (feedConduct f) = false ∧
      u.on Reg.PC_EVENTS (feedLostBit f) = true ∧ u.hasRaised Src.PC_FEED_LOST none ∧
      u.regsBut s [Reg.PC_BUS, Reg.PC_SUPV_STATUS, Reg.PC_FEED, Reg.PC_EVENTS]) ∧
  (∀ (s : State) (f : FeedIx) (m : BusMeas), s.quiet = true → s.companionOn = true → s.md.serving = false →
    s.on Reg.PC_FEED (feedPresent f) = true →
    Answers (exec (.feedLost f m) s) fun t =>
      t.on Reg.PC_FEED (feedPresent f) = false ∧ t.on Reg.PC_FEED (feedConduct f) = false ∧
      t.on Reg.PC_EVENTS (feedLostBit f) = true ∧ t.regsBut s [Reg.PC_BUS, Reg.PC_SUPV_STATUS, Reg.PC_FEED, Reg.PC_EVENTS]) ∧
  (∀ (s : State) (f : FeedIx) (m : BusMeas), s.companionOn = true → s.on Reg.PC_FEED (feedConduct f) = true →
    Leaves (exec (.feedFetDrop f m) s) fun u =>
      u.on Reg.PC_EVENTS Fld.PC_EVENTS.FEED_FET = true ∧ u.on Reg.PC_FEED (feedConduct f) = true ∧
      u.hasRaised Src.PC_FEED_FET none ∧ u.regsBut s [Reg.PC_BUS, Reg.PC_SUPV_STATUS, Reg.PC_EVENTS]) ∧
  (∀ (s : State) (f : FeedIx) (m : BusMeas), s.quiet = true → s.companionOn = true →
    s.on Reg.PC_FEED (feedPresent f) = true → s.on Reg.PC_FEED Fld.PC_FEED.PUMP_OK = true →
    Answers (exec (.feedUnblock f m) s) fun t =>
      t.on Reg.PC_FEED (feedBlocked f) = false ∧ t.on Reg.PC_FEED (feedConduct f) = true ∧ t.showsBus m ∧
      t.regsBut s [Reg.PC_BUS, Reg.PC_SUPV_STATUS, Reg.PC_FEED]) ∧
  (∀ (s : State) (m : BusMeas), s.quiet = true → s.companionOn = true →
    (∀ n, (tabGet s.pwr.ch n {}).onRequested = false) →
    Answers (exec (.chargePumpStart m) s) fun t =>
      t.on Reg.PC_FEED Fld.PC_FEED.PUMP_OK = true ∧
      (∀ f : FeedIx, s.on Reg.PC_FEED (feedPresent f) = true → s.on Reg.PC_FEED (feedBlocked f) = false →
        t.on Reg.PC_FEED (feedConduct f) = true) ∧ t.showsBus m ∧ t.regsBut s [Reg.PC_BUS, Reg.PC_SUPV_STATUS, Reg.PC_FEED]) ∧
  (∀ (s : State) (m : BusMeas), s.quiet = true → s.companionOn = true → (∀ n < 32, s.ch n = Ch.OFF) →
    Answers (exec (.busBelow7v m) s) fun t =>
      t.on Reg.PC_FEED Fld.PC_FEED.PUMP_OK = false ∧ (∀ f : FeedIx, t.on Reg.PC_FEED (feedConduct f) = false) ∧
      (∀ n < 32, t.ch n = Ch.OFF) ∧ t.showsBus m ∧ t.regsBut s [Reg.PC_BUS, Reg.PC_SUPV_STATUS, Reg.PC_FEED])

/-- Bus supervision (R344 to R346): WARN, the ride-through, a dip, BELOW_RESET, PWRFAIL_N. -/
def Obligations.BusSupervision : Prop :=
  (∀ (s : State) (m : BusMeas), s.companionOn = true → s.on Reg.PC_SUPV_STATUS Fld.PC_SUPV_STATUS.WARN = false →
    s.rd Reg.PC_SUPV Fld.PC_SUPV.RIDE_US ≠ 0 →
    Leaves (exec (.busWarnSet m) s) fun u =>
      u.on Reg.PC_SUPV_STATUS Fld.PC_SUPV_STATUS.WARN = true ∧ u.on Reg.PC_SUPV_STATUS Fld.PC_SUPV_STATUS.RIDING = true ∧
      u.rd Reg.PC_DIP Fld.PC_DIP.MIN_MV = min m.vbus 65535 ∧ u.rd Reg.PC_DIP Fld.PC_DIP.LEN_US = 0 ∧
      u.pwr.warned = false ∧ u.showsBus m ∧ u.regsBut s [Reg.PC_BUS, Reg.PC_SUPV_STATUS, Reg.PC_DIP]) ∧
  (∀ (s : State) (m : BusMeas), s.md.serving = true → s.companionOn = true →
    s.on Reg.PC_SUPV_STATUS Fld.PC_SUPV_STATUS.WARN = false → s.rd Reg.PC_SUPV Fld.PC_SUPV.RIDE_US = 0 →
    Leaves (exec (.busWarnSet m) s) fun u => u.warningStands = true ∧ u.md = s.md) ∧
  (∀ (s : State), s.md.serving = true → s.on Reg.PC_SUPV_STATUS Fld.PC_SUPV_STATUS.WARN = true →
    s.on Reg.PC_SUPV_STATUS Fld.PC_SUPV_STATUS.RIDING = true →
    Leaves (exec .rideThroughExpiry s) fun u =>
      u.warningStands = true ∧ u.on Reg.PC_SUPV_STATUS Fld.PC_SUPV_STATUS.RIDING = false ∧ u.md = s.md ∧
      u.regsBut s [Reg.PC_SUPV_STATUS]) ∧
  (∀ (s : State), s.md ∈ [Mode.boot, .compose, .revive, .linktest, .frozen] →
    s.on Reg.PC_SUPV_STATUS Fld.PC_SUPV_STATUS.RIDING = true →
    Leaves (exec .rideThroughExpiry s) fun u =>
      u.on Reg.PC_EVENTS Fld.PC_EVENTS.WARN_IGNORED = true ∧ u.hasRaised Src.PC_WARN_IGNORED none ∧ u.md = s.md ∧
      u.on Reg.PC_SUPV_STATUS Fld.PC_SUPV_STATUS.RIDING = false ∧ u.regsBut s [Reg.PC_SUPV_STATUS, Reg.PC_EVENTS]) ∧
  (∀ (s : State) (m : BusMeas) (a b : Nat), s.companionOn = true → s.on Reg.PC_SUPV_STATUS Fld.PC_SUPV_STATUS.WARN = true →
    s.on Reg.PC_SUPV_STATUS Fld.PC_SUPV_STATUS.RIDING = true → s.md = .serve →
    Leaves (exec (.busWarnClear m a b) s) fun u =>
      u.on Reg.PC_SUPV_STATUS Fld.PC_SUPV_STATUS.WARN = false ∧ u.on Reg.PC_SUPV_STATUS Fld.PC_SUPV_STATUS.RIDING = false ∧
      u.rd Reg.PC_DIP Fld.PC_DIP.MIN_MV = min a 65535 ∧ u.rd Reg.PC_DIP Fld.PC_DIP.LEN_US = min b 65535 ∧
      u.rd Reg.PC_DIP Fld.PC_DIP.COUNT =
        min (2 ^ Fld.PC_DIP.COUNT.width - 1) (s.rd Reg.PC_DIP Fld.PC_DIP.COUNT + 1) ∧
      u.on Reg.PC_EVENTS Fld.PC_EVENTS.DIP = true ∧ u.hasRaised Src.PC_DIP none ∧
      u.regsBut s [Reg.PC_BUS, Reg.PC_SUPV_STATUS, Reg.PC_DIP, Reg.PC_EVENTS]) ∧
  (∀ (s : State) (m : BusMeas) (a b : Nat), s.companionOn = true → s.on Reg.PC_SUPV_STATUS Fld.PC_SUPV_STATUS.WARN = true →
    s.on Reg.PC_SUPV_STATUS Fld.PC_SUPV_STATUS.RIDING = false →
    Leaves (exec (.busWarnClear m a b) s) fun u =>
      u.on Reg.PC_SUPV_STATUS Fld.PC_SUPV_STATUS.WARN = false ∧
      u.rd Reg.PC_DIP Fld.PC_DIP.COUNT = s.rd Reg.PC_DIP Fld.PC_DIP.COUNT ∧
      u.regsBut s [Reg.PC_BUS, Reg.PC_SUPV_STATUS, Reg.PC_DIP]) ∧
  (∀ (s : State) (m : BusMeas), s.companionOn = true → s.md.busResets = true →
    s.on Reg.PC_SUPV_STATUS Fld.PC_SUPV_STATUS.BELOW_RESET = false →
    s.on Reg.PC_SUPV_STATUS Fld.PC_SUPV_STATUS.RIDING = false →
    Leaves (exec (.busBelowReset m) s) fun u => u.entered s .reset 0x01 ∧ u.mode.busHold = true) ∧
  (∀ (s : State) (m : BusMeas), s.quiet = true → s.companionOn = true → s.md.serving = true →
    s.on Reg.PC_SUPV_STATUS Fld.PC_SUPV_STATUS.BELOW_RESET = false →
    s.on Reg.PC_SUPV_STATUS Fld.PC_SUPV_STATUS.RIDING = false →
    Answers (exec (.busBelowReset m) s) fun t =>
      t.md = s.md ∧ t.on Reg.PC_SUPV_STATUS Fld.PC_SUPV_STATUS.BELOW_RESET = true ∧ t.showsBus m ∧
      t.regsBut s [Reg.PC_BUS, Reg.PC_SUPV_STATUS]) ∧
  (∀ (s : State) (m : BusMeas), s.quiet = true → s.companionOn = true → s.mode.busHold = false →
    Answers (exec (.busResetRecovery m) s) fun t =>
      t.on Reg.PC_SUPV_STATUS Fld.PC_SUPV_STATUS.BELOW_RESET = false ∧ t.md = s.md ∧ t.showsBus m ∧
      t.regsBut s [Reg.PC_BUS, Reg.PC_SUPV_STATUS]) ∧
  (∀ (s : State) (m : BusMeas), s.companionOn = true → s.mode.busHold = true → s.md = .reset →
    s.pins.pwronResetN = true → s.mode.vauxWait = false → s.on Reg.CHIP_MODE Fld.CHIP_MODE.RETAIN_VALID = false →
    Leaves (exec (.busResetRecovery m) s) fun u => u.entered s .boot 0x02 ∧ u.mode.busHold = false) ∧
  (∀ (s : State), s.companionOn = true → s.md.serving = true →
    Leaves (exec .pwrfailAssert s) fun u =>
      u.on Reg.PC_SUPV_STATUS Fld.PC_SUPV_STATUS.PWRFAIL = true ∧ u.warningStands = true ∧ u.pins.pwrfailN = false ∧
      u.md = s.md ∧ u.regsBut s [Reg.PC_SUPV_STATUS]) ∧
  (∀ (s : State), s.quiet = true → s.companionOn = true →
    Answers (exec .pwrfailClear s) fun t =>
      t.on Reg.PC_SUPV_STATUS Fld.PC_SUPV_STATUS.PWRFAIL = false ∧ t.pins.pwrfailN = true ∧ t.md = s.md ∧
      t.regsBut s [Reg.PC_SUPV_STATUS])

/-- Slot channels (R347 to R357, Table 4). -/
def Obligations.SlotChannels : Prop :=
  (∀ (s : State) (n : SlotIx) (o r : Int) (v : Nat), s.quiet = true →
    s.on (Reg.SPC_STATE n.val) Fld.SPC_STATE.ZEROING = true → s.ch n.val = Ch.ZERO → s.supplyOk n.val v = true →
    Answers (exec (.offsetZeroDone n o r v) s) fun t =>
      t.ch n.val = Ch.RAMP ∧ t.on (Reg.SPC_STATE n.val) Fld.SPC_STATE.ZEROING = false ∧
      t.rd (Reg.SPC_CNT n.val) Fld.SPC_CNT.RAMPS =
        min (2 ^ Fld.SPC_CNT.RAMPS.width - 1) (s.rd (Reg.SPC_CNT n.val) Fld.SPC_CNT.RAMPS + 1) ∧
      Out.pin (.spcGate n) true ∈ t.out ∧
      t.regsBut s [Reg.SPC_STATE n.val, Reg.SPC_ZERO n.val, Reg.SPC_CNT n.val]) ∧
  (∀ (s : State) (n : SlotIx) (o r : Int) (v : Nat), s.on (Reg.SPC_STATE n.val) Fld.SPC_STATE.ZEROING = true →
    s.ch n.val = Ch.ZERO → s.supplyOk n.val v = false → (∀ q, s.slotPort n.val = some q → q < 128) →
    Leaves (exec (.offsetZeroDone n o r v) s) fun u =>
      u.ch n.val = Ch.LATCHED ∧ u.on (Reg.SPC_ERR n.val) Fld.SPC_ERR.CFG = true ∧
      u.on (Reg.SPC_ERR n.val) Fld.SPC_ERR.LATCHED = true ∧ u.hasRaisedOn (srcSlot n.val 4) (s.slotFlacon n.val) ∧
      u.hasRaisedOn (srcSlot n.val 1) (s.slotFlacon n.val)) ∧
  (∀ (s : State) (n : SlotIx) (m : ChanMeas), s.quiet = true → s.ch n.val = Ch.RAMP →
    Answers (exec (.rampComplete n m) s) fun t =>
      t.ch n.val = Ch.QUAL ∧ t.rd (Reg.SPC_MEAS n.val) Fld.SPC_MEAS.IOUT_MA = m.iout % 2 ^ 16 ∧
      t.rd (Reg.SPC_MEAS n.val) Fld.SPC_MEAS.VOUT_MV = m.vout % 2 ^ 16 ∧ t.regsBut s (s.chanRegs n.val)) ∧
  (∀ (s : State) (n : SlotIx) (m : ChanMeas), s.quiet = true → s.ch n.val = Ch.QUAL →
    s.on (Reg.SPC_STATE n.val) Fld.SPC_STATE.IN_LIMIT = false → (∀ q, s.slotPort n.val = some q → q < 128) →
    Answers (exec (.pgQualified n m) s) fun t =>
      t.ch n.val = Ch.ON ∧ t.on (Reg.SPC_STATE n.val) Fld.SPC_STATE.PG = true ∧
      (∀ q, s.slotPort n.val = some q → t.on (Reg.PT_HP_STATUS q) Fld.PT_HP_STATUS.PG = true) ∧
      t.regsBut s (s.chanRegs n.val)) ∧
  (∀ (s : State) (n : SlotIx) (m : ChanMeas), s.quiet = true → s.ch n.val = Ch.ON →
    (∀ q, s.slotPort n.val = some q → q < 128) →
    Answers (exec (.channelOutputLow n m) s) fun t =>
      t.ch n.val = Ch.QUAL ∧ t.on (Reg.SPC_STATE n.val) Fld.SPC_STATE.PG = false ∧ t.regsBut s (s.chanRegs n.val)) ∧
  (∀ (s : State) (n : SlotIx) (m : ChanMeas), s.quiet = true → s.ch n.val = Ch.ON →
    (∀ q, s.slotPort n.val = some q → q < 128) →
    Answers (exec (.channelInLimit n m) s) fun t =>
      t.ch n.val = Ch.QUAL ∧ t.on (Reg.SPC_STATE n.val) Fld.SPC_STATE.IN_LIMIT = true ∧
      t.on (Reg.SPC_STATE n.val) Fld.SPC_STATE.PG = false ∧ t.regsBut s (s.chanRegs n.val)) ∧
  (∀ (s : State) (n : SlotIx) (m : ChanMeas), s.quiet = true →
    s.on (Reg.SPC_STATE n.val) Fld.SPC_STATE.IN_LIMIT = true →
    Answers (exec (.inLimitClear n m) s) fun t =>
      t.on (Reg.SPC_STATE n.val) Fld.SPC_STATE.IN_LIMIT = false ∧ t.ch n.val = s.ch n.val ∧
      t.regsBut s (s.chanRegs n.val)) ∧
  (∀ (s : State) (n : SlotIx) (m : ChanMeas) (c : Instr) (k : Nat), s.ch n.val ∈ [Ch.RAMP, Ch.QUAL, Ch.ON] →
    (c, k) ∈ [(Instr.faultTimerTrip n m, 1), (.thermalTrip n m false, 2), (.hardTrip n m, 3), (.thermalTrip n m true, 4)] →
    0 < s.rd (Reg.SPC_STATE n.val) Fld.SPC_STATE.RETRIES_LEFT → (∀ q, s.slotPort n.val = some q → q < 128) →
    Leaves (exec c s) fun u =>
      u.ch n.val = Ch.COOL ∧ u.rd (Reg.SPC_STATE n.val) Fld.SPC_STATE.LAST_TRIP = k ∧
      u.on (Reg.SPC_STATE n.val) Fld.SPC_STATE.PG = false ∧ u.on (Reg.SPC_ERR n.val) Fld.SPC_ERR.TRIP = true ∧
      u.rd (Reg.SPC_TIMER n.val) Fld.SPC_TIMER.FAULT_ELAPSED = 0 ∧
      u.rd (Reg.SPC_TIMER n.val) Fld.SPC_TIMER.COOL_ELAPSED = 0 ∧ Out.pin (.spcGate n) false ∈ u.out ∧
      u.hasRaisedOn (srcSlot n.val 3) (s.slotFlacon n.val) ∧ u.regsBut s (s.chanRegs n.val)) ∧
  (∀ (s : State) (n : SlotIx) (m : ChanMeas) (c : Instr), s.ch n.val ∈ [Ch.RAMP, Ch.QUAL, Ch.ON] →
    c ∈ [Instr.faultTimerTrip n m, .thermalTrip n m false, .hardTrip n m, .thermalTrip n m true] →
    s.rd (Reg.SPC_STATE n.val) Fld.SPC_STATE.RETRIES_LEFT = 0 → (∀ q, s.slotPort n.val = some q → q < 128) →
    Leaves (exec c s) fun u =>
      u.ch n.val = Ch.LATCHED ∧ u.on (Reg.SPC_ERR n.val) Fld.SPC_ERR.LATCHED = true ∧
      u.hasRaisedOn (srcSlot n.val 3) (s.slotFlacon n.val) ∧ u.hasRaisedOn (srcSlot n.val 1) (s.slotFlacon n.val)) ∧
  (∀ (s : State) (n : SlotIx) (m : ChanMeas), s.on (Reg.SPC_CFG n.val) Fld.SPC_CFG.EXT_DIODE = true →
    Leaves (exec (.spcDiode n m) s) fun u =>
      (tabGet u.pwr.ch n.val {}).diodeBad = true ∧ u.on (Reg.SPC_ERR n.val) Fld.SPC_ERR.DIODE = true ∧
      u.hasRaisedOn (srcSlot n.val 5) (s.slotFlacon n.val) ∧ u.ch n.val = s.ch n.val ∧ u.regsBut s (s.chanRegs n.val)) ∧
  (∀ (s : State) (n : SlotIx) (m : ChanMeas), s.quiet = true → s.ch n.val = Ch.COOL →
    Answers (exec (.coolDownDone n m) s) fun t =>
      t.ch n.val = Ch.ZERO ∧ t.on (Reg.SPC_STATE n.val) Fld.SPC_STATE.ZEROING = true ∧
      t.rd (Reg.SPC_STATE n.val) Fld.SPC_STATE.RETRIES_LEFT = s.rd (Reg.SPC_STATE n.val) Fld.SPC_STATE.RETRIES_LEFT - 1 ∧
      t.regsBut s (s.chanRegs n.val)) ∧
  (∀ (s : State) (n : SlotIx) (m : ChanMeas), s.quiet = true → s.ch n.val = Ch.DOWN →
    (tabGet s.pwr.ch n.val {}).onRequested = false → (∀ q, s.slotPort n.val = some q → q < 128) →
    Answers (exec (.rampDownDone n m) s) fun t =>
      t.ch n.val = Ch.OFF ∧ Out.pin (.spcGate n) false ∈ t.out ∧
      t.rd (Reg.SPC_TIMER n.val) Fld.SPC_TIMER.FAULT_ELAPSED = 0 ∧ t.regsBut s (s.chanRegs n.val)) ∧
  (∀ (s : State) (n : SlotIx) (m : ChanMeas) (c : Instr), s.quiet = true → s.ch n.val = Ch.OFF →
    c ∈ [Instr.rampComplete n m, .pgQualified n m, .channelOutputLow n m, .channelInLimit n m, .faultTimerTrip n m,
      .thermalTrip n m true, .hardTrip n m, .coolDownDone n m, .rampDownDone n m] →
    (s.on (Reg.SPC_CFG n.val) Fld.SPC_CFG.VALID = false ∨
      (s.tref n.val - s.rdS (Reg.SPC_ZERO n.val) Fld.SPC_ZERO.T_ZERO).natAbs ≤ 160) →
    Answers (exec c s) fun t => t.pwr = s.pwr ∧ t.regsBut s [])

/-- The drain (R361 to R367): its phases A to F, what ends each, and what a limit cuts. -/
def Obligations.DrainPhases : Prop :=
  (∀ (s : State), s.quiet = true → s.md = .drydown → s.drainPhase = 0 → s.accordsSettled = true →
    Answers (exec .drainStopDone s) fun t => t.drainPhase = 1 ∧ t.md = .drydown ∧ t.regsBut s [Reg.KS_DRAIN_STATUS]) ∧
  (∀ (s : State), s.quiet = true → s.md = .drydown → s.accordsSettled = false →
    Answers (exec .drainStopDone s) fun t => t.acd = s.acd ∧ t.regsBut s []) ∧
  (∀ (s : State), s.quiet = true → s.md = .drydown → s.drainPhase = 1 → s.gpf = [] → s.acd.seals = [] →
    Answers (exec .drainFlushDone s) fun t =>
      t.drainPhase = 2 ∧ t.rd Reg.KS_DRAIN_TIME Fld.KS_DRAIN_TIME.B_END = s.drainUs ∧
      t.regsBut s [Reg.KS_DRAIN_STATUS, Reg.KS_DRAIN_TIME]) ∧
  (∀ (s : State) (q : PortIx), s.md = .drydown → s.drainPhase ∈ [0, 1] → s.acd.seals = [] →
    s.gpf = [{ port := drainFlow, phase := 1, held := false, waits := [q.val] }] →
    Leaves (exec .drainFlushLimit s) fun u =>
      u.drainPhase = 2 ∧ u.on Reg.KS_DRAIN_STATUS Fld.KS_DRAIN_STATUS.CUT_B = true ∧ u.gpf = [] ∧
      u.rd Reg.KS_DRAIN_TIME Fld.KS_DRAIN_TIME.B_END = s.drainUs ∧
      u.rd Reg.KS_DRAIN_CUT Fld.KS_DRAIN_CUT.GPF_TIMEOUTS =
        min (2 ^ Fld.KS_DRAIN_CUT.GPF_TIMEOUTS.width - 1) (s.rd Reg.KS_DRAIN_CUT Fld.KS_DRAIN_CUT.GPF_TIMEOUTS + 1) ∧
      u.hasRaised Src.KS_DRAIN_LIMIT none ∧ u.hasRaisedOn (srcQuad (quadOf (tileOf q.val)) 18) (s.portFlacon q.val) ∧
      u.regsBut s [Reg.KS_DRAIN_STATUS, Reg.KS_DRAIN_TIME, Reg.KS_DRAIN_CUT, Reg.PT_STD_ERR q.val]) ∧
  (∀ (s : State), s.quiet = true → s.md = .drydown → s.drainPhase = 2 → s.core.otags = [] →
    (∀ e ∈ s.home, e.2.trackers = []) → s.acd.seals = [] →
    Answers (exec .drainCloseDone s) fun t =>
      t.drainPhase = 3 ∧ t.rd Reg.KS_DRAIN_TIME Fld.KS_DRAIN_TIME.C_END = s.drainUs ∧
      t.regsBut s [Reg.KS_DRAIN_STATUS, Reg.KS_DRAIN_TIME]) ∧
  (∀ (s : State) (x : Sealed), s.md = .drydown → s.drainPhase = 2 → s.core.otags = [] → s.home = [] →
    s.core.queues = [] → s.core.wait = [] → s.core.pack = [] → s.acd.seals = [x] → x.cls = 0 → x.flacon < 32 →
    Leaves (exec .drainCloseLimit s) fun u =>
      u.drainPhase = 3 ∧ u.on Reg.KS_DRAIN_STATUS Fld.KS_DRAIN_STATUS.CUT_C = true ∧ u.acd.seals = [] ∧
      u.rd Reg.KS_DRAIN_CUT Fld.KS_DRAIN_CUT.REQUESTS = min (2 ^ Fld.KS_DRAIN_CUT.REQUESTS.width - 1)
        (s.rd Reg.KS_DRAIN_CUT Fld.KS_DRAIN_CUT.REQUESTS + s.core.tags.length) ∧
      u.rd Reg.KS_DRAIN_CNT Fld.KS_DRAIN_CNT.D0_DROPPED = min (2 ^ Fld.KS_DRAIN_CNT.D0_DROPPED.width - 1)
        (s.rd Reg.KS_DRAIN_CNT Fld.KS_DRAIN_CNT.D0_DROPPED + x.lines.length) ∧
      u.on Reg.AC_ERR Fld.AC_ERR.D0_LOST = true ∧ u.hasRaisedOn Src.AC_D0_LOST (some x.flacon) ∧
      u.hasRaised Src.KS_DRAIN_LIMIT none ∧
      u.regsBut s [Reg.KS_DRAIN_STATUS, Reg.KS_DRAIN_TIME, Reg.KS_DRAIN_CUT, Reg.KS_DRAIN_CNT, Reg.AC_ERR]) ∧
  (∀ (s : State), s.quiet = true → s.md = .drydown → s.drainPhase = 3 → s.gpfDevices = [] →
    (∀ p ∈ s.ports, p.port < 128) →
    Answers (exec .tableSaveDone s) fun t =>
      t.drainPhase = 4 ∧ t.drain.saved = true ∧ t.keep.held = s.acd.seals.map heldForm ∧ t.keep.tables ≠ none ∧
      (∃ r, t.retention = some r ∧ r.valid = false ∧ r.formulaSlot = s.fml.slot ∧ r.time = s.now ∧
        r.heldRecords = s.acd.seals.length ∧ r.slots = s.drain.slots) ∧
      t.regsBut s [Reg.KS_DRAIN_STATUS, Reg.KS_DRAIN_CNT]) ∧
  (∀ (s : State) (p : PortRec), s.md = .drydown → s.drainPhase = 4 → s.gpf = [] → s.ports = [p] → p.port < 128 →
    p.fabric = false → p.role = .downstream → p.slot < 32 → p.hotplug = false → s.portIdle p.port →
    Leaves (exec .drainPortsDown s) fun u =>
      u.on (Reg.PT_STD_STATUS p.port) Fld.PT_STD_STATUS.DL_UP = false ∧
      u.rd (Reg.PT_STD_STATUS p.port) Fld.PT_STD_STATUS.LTSSM = 5 ∧
      u.on (Reg.PT_HP_STATUS p.port) Fld.PT_HP_STATUS.PERST = true ∧ u.drainPhase = 4) ∧
  (∀ (s : State) (r : RetentionRec), s.md = .drydown → s.drainPhase = 4 →
    (∀ p ∈ s.ports, p.fabric = false ∧ s.on (Reg.PT_STD_STATUS p.port) Fld.PT_STD_STATUS.DL_UP = false) →
    s.decommissioned = false → s.drain.railCut = false → s.drain.saved = true → s.retention = some r →
    s.powerGood = false →
    Leaves (exec .drainLinksDown s) fun u =>
      u.entered s .retain 0x0B ∧ u.on Reg.CHIP_MODE Fld.CHIP_MODE.RETAIN_VALID = true ∧
      (∃ x, u.retention = some x ∧ x.valid = true ∧ x.digest = r.digest ∧ x.taint = s.on Reg.KS_DRAIN_STATUS
        Fld.KS_DRAIN_STATUS.TAINT) ∧ u.keep.held = s.keep.held ∧ u.keep.tables = s.keep.tables ∧ u.keep.selfRefresh = true ∧
      u.keep.since = s.now ∧ u.on Reg.PC_RAIL Fld.PC_RAIL.KEEP_ON_VAUX = true ∧ u.fml.inForce = none ∧ u.home = []) ∧
  (∀ (s : State) (r : RetentionRec), s.md = .drydown → s.drainPhase = 4 →
    (∀ p ∈ s.ports, p.fabric = false ∧ s.on (Reg.PT_STD_STATUS p.port) Fld.PT_STD_STATUS.DL_UP = false) →
    s.decommissioned = false → s.drain.railCut = false → s.drain.saved = true → s.retention = some r →
    s.powerGood = true →
    Leaves (exec .drainLinksDown s) fun u =>
      u.entered s .revive 0x0C ∧ u.on Reg.CHIP_MODE Fld.CHIP_MODE.RETAIN_VALID = true ∧ u.revivePhase = 3 ∧
      u.reviveDry = true ∧ u.drainPhase = 7 ∧ u.fml.inForce = s.fml.inForce ∧ u.home = [] ∧ u.keep = s.keep) ∧
  (∀ (s : State) (r : RetentionRec), s.md = .drydown → s.drainPhase = 4 →
    (∀ p ∈ s.ports, p.fabric = false ∧ s.on (Reg.PT_STD_STATUS p.port) Fld.PT_STD_STATUS.DL_UP = false) →
    s.drain.railCut = true → s.drain.saved = true → s.retention = some r →
    Leaves (exec .drainLinksDown s) fun u =>
      u.entered s .retain 0x0B ∧ (∃ x, u.retention = some x ∧ x.valid = false) ∧
      u.on Reg.CHIP_MODE Fld.CHIP_MODE.RETAIN_VALID = s.on Reg.CHIP_MODE Fld.CHIP_MODE.RETAIN_VALID) ∧
  (∀ (s : State), s.quiet = true → s.md = .drydown → s.drainPhase = 3 → s.gpfDevices = [] →
    (∀ p ∈ s.ports, p.port < 128) →
    Answers (exec .drainPhaseLimit s) fun t =>
      t.drainPhase = 4 ∧ t.drain.saved = s.drain.saved ∧ t.keep = s.keep ∧ t.regsBut s [Reg.KS_DRAIN_STATUS]) ∧
  (∀ (s : State) (r : RetentionRec), s.md = .drydown → s.drainPhase = 4 → s.gpf = [] → s.ports = [] →
    s.core.queues = [] → s.core.wait = [] → s.core.pack = [] → s.decommissioned = false → s.drain.railCut = false →
    s.drain.saved = true → s.retention = some r → s.powerGood = false →
    Leaves (exec .drainPhaseLimit s) fun u =>
      u.entered s .retain 0x0B ∧ u.on Reg.CHIP_MODE Fld.CHIP_MODE.RETAIN_VALID = true) ∧
  (∀ (s : State), s.md = .retain → s.pins.pwronResetN = true → s.powerGood = true →
    s.on Reg.CHIP_MODE Fld.CHIP_MODE.RETAIN_VALID = true →
    Leaves (exec .retainExit s) fun u => u.entered s .revive 0x03 ∧ u.revivePhase = 0 ∧ u.keep = s.keep ∧ u.now = s.now) ∧
  (∀ (s : State), s.md = .retain → s.pins.pwronResetN = true → s.powerGood = true →
    s.on Reg.CHIP_MODE Fld.CHIP_MODE.RETAIN_VALID = false →
    Leaves (exec .retainExit s) fun u => u.entered s .boot 0x02 ∧ u.now = 0 ∧ u.keep = {})

/-- REVIVE (R373 to R379): its phases, the cold boot of a restart that cannot be made, and the loss report. -/
def Obligations.RevivePhases : Prop :=
  (∀ (s : State), s.md = .revive → s.revivePhase = 0 → s.flt.held = [] →
    Leaves (exec .reviveLoadDone s) fun u =>
      u.revivePhase = 1 ∧ u.md = .revive ∧ u.on Reg.PC_RAIL Fld.PC_RAIL.KEEP_ON_VAUX = false ∧
      u.keep = { s.keep with selfRefresh := false } ∧ u.flt.running = true ∧
      u.regsBut s [Reg.KS_REVIVE_STATUS, Reg.PC_RAIL, Reg.CHIP_CLK_STATUS]) ∧
  (∀ (s : State) (v : SigVerdict) (r : RetentionRec) (n : Nat), s.md = .revive → s.revivePhase = 1 →
    s.retention = some r → s.pickFirmware v [r.fwSlot, 1 - r.fwSlot] 0 = .inl n → n < 2 →
    Leaves (exec (.reviveFirmwareDone v) s) fun u =>
      u.revivePhase = 2 ∧ u.md = .revive ∧ u.rd Reg.MG_FW_STATUS Fld.MG_FW_STATUS.SLOT = n ∧ u.mode.fwRunning = true ∧
      u.mode.identityReady = !s.decommissioned ∧ u.retention = s.retention) ∧
  (∀ (s : State) (v : SigVerdict) (r : RetentionRec) (n : Nat), s.md = .revive → s.revivePhase = 1 →
    s.retention = some r → s.pickFirmware v [r.fwSlot, 1 - r.fwSlot] 0 = .inr n →
    Leaves (exec (.reviveFirmwareDone v) s) fun u =>
      u.md = .boot ∧ u.rd Reg.CHIP_MODE Fld.CHIP_MODE.CAUSE = 0x10 ∧
      u.on Reg.CHIP_MODE Fld.CHIP_MODE.RETAIN_VALID = false ∧ u.retention = none) ∧
  (∀ (s : State) (r : RetentionRec), s.quiet = true → s.md = .revive → s.revivePhase = 2 → s.retention = some r →
    r.valid = true → slotDigest s.mgmt.flash r.formulaSlot = r.digest →
    Answers (exec (.reviveCheckDone true) s) fun t =>
      t.revivePhase = 3 ∧ t.md = .revive ∧ t.regsBut s [Reg.KS_REVIVE_STATUS]) ∧
  (∀ (s : State) (b : Bool) (x : Sealed), s.md = .revive → s.revivePhase = 2 → s.keep.held = [x] → x.flacon < 32 →
    x.seq < 2 ^ 64 → s.on Reg.KS_LOSS Fld.KS_LOSS.LOST = false →
    (b = false ∨ s.retention = none ∨ ∃ r, s.retention = some r ∧ r.valid = false) →
    Leaves (exec (.reviveCheckDone b) s) fun u =>
      u.md = .boot ∧ u.rd Reg.CHIP_MODE Fld.CHIP_MODE.CAUSE = 0x10 ∧
      u.on Reg.CHIP_MODE Fld.CHIP_MODE.RETAIN_VALID = false ∧ u.on Reg.KS_LOSS Fld.KS_LOSS.LOST = true ∧
      u.rd Reg.KS_LOSS Fld.KS_LOSS.CAUSE = 2 ∧ u.rd Reg.KS_LOSS_SEQ Fld.KS_LOSS_SEQ.SEQ = x.seq) ∧
  (∀ (s : State) (f : Formula), s.quiet = true → s.md = .revive → s.revivePhase = 3 → s.reviveDry = true →
    s.fml.inForce = some f → f.ports = [] →
    Answers (exec (.reviveRestoreDone true) s) fun t =>
      t.revivePhase = 4 ∧ t.acd.seals = s.keep.held ∧ t.home = [] ∧ t.reg Reg.AC_REVIVE = 0 ∧
      t.regsBut s [Reg.KS_REVIVE_STATUS, Reg.AC_REVIVE]) ∧
  (∀ (s : State), s.md = .revive → s.revivePhase = 3 → s.reviveDry = false →
    Leaves (exec (.reviveRestoreDone false) s) fun u =>
      u.md = .boot ∧ u.rd Reg.CHIP_MODE Fld.CHIP_MODE.CAUSE = 0x10 ∧
      u.on Reg.CHIP_MODE Fld.CHIP_MODE.RETAIN_VALID = false) ∧
  (∀ (s : State) (bad : List Nat), s.quiet = true → s.md = .revive → s.revivePhase = 4 → s.acd.seals = [] →
    Answers (exec (.replayStart bad) s) fun t => t.revivePhase = 5 ∧ t.regsBut s [Reg.KS_REVIVE_STATUS]) ∧
  (∀ (s : State) (bad : List Nat) (x : Sealed) (k : SealedLine), s.quiet = true → s.md = .revive → s.revivePhase = 4 →
    x ∈ s.acd.seals → k ∈ x.lines → s.heldUp x k = false →
    Answers (exec (.replayStart bad) s) fun t => t.revivePhase = 4 ∧ t.acd = s.acd ∧ t.regsBut s []) ∧
  (∀ (s : State) (x : Sealed), s.md = .revive → s.revivePhase = 4 → s.acd.seals = [x] → x.flacon < 32 →
    s.on Reg.KS_LOSS Fld.KS_LOSS.LOST = false →
    Leaves (exec (.replayPortWaitExpiry [x.seq]) s) fun u =>
      u.revivePhase = 5 ∧ u.acd.seals = [] ∧ u.on Reg.AC_ERR Fld.AC_ERR.REPLAY_ERR = true ∧
      u.hasRaisedOn Src.AC_REPLAY_ERR (some x.flacon) ∧ u.on Reg.KS_LOSS Fld.KS_LOSS.LOST = true ∧
      u.rd Reg.KS_LOSS Fld.KS_LOSS.CAUSE = 8 ∧
      u.regsBut s [Reg.KS_REVIVE_STATUS, Reg.AC_ERR, Reg.KS_LOSS, Reg.KS_LOSS_CNT, Reg.KS_LOSS_SEQ]) ∧
  (∀ (s : State) (a b : Nat) (v : Bool) (r : RetentionRec), s.md = .revive → s.revivePhase = 5 → s.arrayEmpty →
    s.retention = some r → r.taint = false → s.fml.retrain = [] → s.fml.repeatLive = none →
    (∀ f ∈ s.flacons, f < 32 ∧ s.canAdvance f false = true) →
    Leaves (exec (.replayDone a b v) s) fun u =>
      u.entered s .serve 0x0D ∧ u.revivePhase = 7 ∧ u.on Reg.CHIP_MODE Fld.CHIP_MODE.RETAIN_VALID = false ∧
      u.on Reg.CHIP_BOOT_STATUS Fld.CHIP_BOOT_STATUS.REVIVED = true ∧ u.retention = none ∧ u.keep.held = [] ∧
      u.keep.tables = none ∧ u.rd Reg.KS_REVIVE_STATUS Fld.KS_REVIVE_STATUS.DEVICE_MS = min a 65535 ∧
      u.rd Reg.KS_REVIVE_STATUS Fld.KS_REVIVE_STATUS.TOTAL_MS = min b 65535) ∧
  (∀ (s : State) (a b : Nat) (v : Bool), s.quiet = true → s.md = .revive → s.revivePhase = 5 → s.acd.seals ≠ [] →
    Answers (exec (.replayDone a b v) s) fun t => t.md = .revive ∧ t.revivePhase = 5 ∧ t.regsBut s []) ∧
  (∀ (s : State) (p : AccessPath), s.quiet = true → s.mayAct p = true → s.on Reg.KS_LOSS Fld.KS_LOSS.LOST = true →
    Answers (exec (.ksLossClear p) s) fun t =>
      t.on Reg.KS_LOSS Fld.KS_LOSS.LOST = false ∧ t.rd Reg.KS_LOSS Fld.KS_LOSS.CAUSE = 0 ∧
      t.rd Reg.KS_LOSS Fld.KS_LOSS.FLACONS = 0 ∧ t.reg Reg.KS_LOSS_CNT = 0 ∧ t.reg Reg.KS_LOSS_SEQ = 0 ∧
      t.regsBut s [Reg.KS_LOSS, Reg.KS_LOSS_CNT, Reg.KS_LOSS_SEQ])

/-- Occurrences (R381 to R391, R395): what the collector does with one at each severity, with one of a reserved number, and
with one it cannot take. -/
def Obligations.Occurrences : Prop :=
  (∀ (s : State) (o : Occ), s.quiet = true → s.flt.running = true → defaultSev o.source ≠ none →
    (s.srcOf o.source).railNow = false → s.isFreezeSource o = false → s.sevOf o.source ≤ 1 → s.escalateOf o.source = 0 →
    s.flt.log.length < 4096 →
    Answers (exec (.faultOccurrence o) s) fun t =>
      (∃ e, t.flt.log = s.flt.log ++ [e] ∧ e.source = o.source ∧ e.severity = s.sevOf o.source ∧ e.flacon = o.flacon ∧
        e.time = s.now ∧ e.rail = false ∧ e.escalated = false ∧ e.deferred = false) ∧
      (t.srcOf o.source).pending = true ∧
      (t.srcOf o.source).total = min (2 ^ 32 - 1) ((s.srcOf o.source).total + 1) ∧
      (s.rd Reg.FC_PIN_LEVEL Fld.FC_PIN_LEVEL.ALERT_LEVEL ≤ s.sevOf o.source →
        t.on Reg.FC_ALERT Fld.FC_ALERT.PENDING = true) ∧
      (1 ≤ s.sevOf o.source → t.on Reg.FC_FERR_CTL Fld.FC_FERR_CTL.VALID = true) ∧ t.md = s.md) ∧
  (∀ (s : State) (o : Occ) (f : FlaconIx), s.quiet = true → s.flt.running = true → defaultSev o.source ≠ none →
    (s.srcOf o.source).railNow = false → s.isFreezeSource o = false → s.sevOf o.source = 2 → o.flacon = some f →
    s.md ∈ [Mode.compose, .serve, .revive] → s.on (Reg.FL_STATUS f.val) Fld.FL_STATUS.FENCED = false →
    Answers (exec (.faultOccurrence o) s) fun t =>
      t.on (Reg.FL_STATUS f.val) Fld.FL_STATUS.FENCED = true ∧
      t.rd (Reg.FL_STATUS f.val) Fld.FL_STATUS.FENCE_SOURCE = o.source % 2 ^ Fld.FL_STATUS.FENCE_SOURCE.width ∧
      Notice.fenceFlacon f ∈ t.flt.notices ∧ (t.srcOf o.source).recSev ≥ 2 ∧
      (t.srcOf o.source).flacons.getLsbD f.val = true ∧ t.md = s.md) ∧
  (∀ (s : State) (o : Occ), s.quiet = true → s.flt.running = true → defaultSev o.source ≠ none →
    (s.srcOf o.source).railNow = false → s.isFreezeSource o = false → s.sevOf o.source = 3 → s.md = .serve →
    s.on Reg.KS_LOSS Fld.KS_LOSS.LOST = false → o.source ≠ Src.CHIP_WATCHDOG →
    Answers (exec (.faultOccurrence o) s) fun t =>
      t.entered s .quarantine 0x0F ∧ Notice.quarantine ∈ t.flt.notices ∧ t.flt.quar = true ∧
      (t.srcOf o.source).pending = true) ∧
  (∀ (s : State) (o : Occ), s.quiet = true → defaultSev o.source = none →
    Answers (exec (.faultOccurrence o) s) fun t => t.flt.src = s.flt.src ∧ t.flt.log = s.flt.log ∧ t.regsBut s []) ∧
  (∀ (s : State) (o : Occ), s.quiet = true → s.flt.running = true → defaultSev o.source ≠ none →
    (s.srcOf o.source).railNow = true →
    Answers (exec (.faultOccurrence o) s) fun t => t.flt.src = s.flt.src ∧ t.flt.log = s.flt.log ∧ t.regsBut s []) ∧
  (∀ (s : State) (o : Occ), s.quiet = true → s.flt.running = false → defaultSev o.source ≠ none → s.pins.vaux = true →
    1189 ≤ o.source → o.source ≤ 1200 → tabFind s.flt.held o.source = none →
    Answers (exec (.faultOccurrence o) s) fun t =>
      tabFind t.flt.held o.source = some { count := 1, time := s.now } ∧ t.flt.log = s.flt.log ∧ t.regsBut s []) ∧
  (∀ (s : State) (o : Occ), s.quiet = true → s.flt.running = true → defaultSev o.source ≠ none →
    (s.srcOf o.source).railNow = false → s.isFreezeSource o = true → s.md = .serve → s.unwrittenMirror = none →
    Answers (exec (.faultOccurrence o) s) fun t =>
      t.entered s .frozen 0x11 ∧ t.rd Reg.FZ_STATUS Fld.FZ_STATUS.CAUSE = 4 ∧ t.flt.log = s.flt.log ∧
      t.flt.running = false)

/-- Rail faults, clearing, and test occurrences (R383 to R385, R392, R394, R395, R437). -/
def Obligations.FaultRegisters : Prop :=
  (∀ (s : State) (n : Nat), s.quiet = true → s.flt.running = true → defaultSev n ≠ none → (s.srcOf n).railNow = false →
    s.isFreezeSource { source := n } = false → s.railSevOf n = 1 → s.flt.log.length < 4096 →
    Answers (exec (.railFault n) s) fun t =>
      (t.srcOf n).rail = true ∧ (t.srcOf n).railNow = true ∧ (t.srcOf n).pending = true ∧
      ∃ e, t.flt.log = s.flt.log ++ [e] ∧ e.source = n ∧ e.rail = true ∧ e.severity = 1) ∧
  (∀ (s : State) (n : Nat), s.quiet = true → (s.srcOf n).railNow = true →
    Answers (exec (.railFault n) s) fun t => t.flt.src = s.flt.src ∧ t.flt.log = s.flt.log ∧ t.regsBut s []) ∧
  (∀ (s : State) (n : Nat), s.quiet = true → (s.srcOf n).railNow = true →
    Answers (exec (.railFaultEnd n) s) fun t =>
      t.srcOf n = { s.srcOf n with railNow := false } ∧ t.flt.log = s.flt.log ∧ t.regsBut s []) ∧
  (∀ (s : State) (p : AccessPath) (w : Fin 40) (m : BitVec 32), s.quiet = true → s.mayAct p = true → w.val < 26 →
    Answers (exec (.fcPendClear p w m) s) fun t =>
      (∀ i < 32, m.getLsbD i = true →
        (t.srcOf (32 * w.val + i)).pending = false ∧ (t.srcOf (32 * w.val + i)).escCount = 0) ∧
      (∀ n, (n / 32 ≠ w.val ∨ m.getLsbD (n % 32) = false) → t.srcOf n = s.srcOf n) ∧ t.regsBut s []) ∧
  (∀ (s : State) (p : AccessPath), s.quiet = true → s.mayAct p = true →
    Answers (exec (.fcAlertClear p) s) fun t =>
      t.on Reg.FC_ALERT Fld.FC_ALERT.PENDING = false ∧
      t.rd Reg.FC_ALERT Fld.FC_ALERT.FIRST_SOURCE = s.rd Reg.FC_ALERT Fld.FC_ALERT.FIRST_SOURCE ∧
      t.flt.src = s.flt.src ∧ t.regsBut s [Reg.FC_ALERT]) ∧
  (∀ (s : State) (p : AccessPath) (n : Nat), s.quiet = true → s.mayAct p = true → n < 2 ^ 13 →
    Answers (exec (.fcLogAck p n) s) fun t => t.flt.log = s.flt.log.drop n ∧ t.flt.src = s.flt.src ∧ t.regsBut s []) ∧
  (∀ (s : State) (p : AccessPath) (w : BitVec 32), s.mayAct p = true → s.presenceOk = true → w.getLsbD 17 = true →
    w.getLsbD 16 = false → defaultSev (w.toNat % 2 ^ 11) ≠ none →
    Leaves (exec (.fcInject p w) s) fun u =>
      u.hasRaised (w.toNat % 2 ^ 11) none ∧ u.rd Reg.FC_INJECT Fld.FC_INJECT.SOURCE = w.toNat % 2 ^ 11 ∧
      u.regsBut s [Reg.FC_INJECT]) ∧
  (∀ (s : State) (p : AccessPath) (w : BitVec 32), s.quiet = true → s.mayAct p = true → s.presenceOk = true →
    w.getLsbD 17 = false →
    Answers (exec (.fcInject p w) s) fun t =>
      t.rd Reg.FC_INJECT Fld.FC_INJECT.SOURCE = w.toNat % 2 ^ 11 ∧ t.flt.src = s.flt.src ∧
      t.regsBut s [Reg.FC_INJECT]) ∧
  (∀ (s : State) (p : AccessPath) (w : BitVec 32), s.mayAct p = true → s.presenceOk = false →
    Leaves (exec (.fcInject p w) s) fun u =>
      u.hasRaised Src.MG_RWP_REFUSED none ∧ u.rd Reg.MG_RWP_LOG Fld.MG_RWP_LOG.OFFSET = 0x100300 ∧
      u.rd Reg.MG_RWP_LOG Fld.MG_RWP_LOG.COUNT =
        min (2 ^ Fld.MG_RWP_LOG.COUNT.width - 1) (s.rd Reg.MG_RWP_LOG Fld.MG_RWP_LOG.COUNT + 1) ∧
      u.regsBut s [Reg.MG_RWP_LOG])

/-- Freeze, the capture port and JTAG (R30, R399 to R404). -/
def Obligations.FreezeAndReadout : Prop :=
  (∀ (s : State), s.md ∈ [Mode.boot, .compose, .serve, .recompose, .quarantine, .linktest] → s.unwrittenMirror = none →
    Leaves (exec .freezeNAssert s) fun u =>
      u.entered s .frozen 0x11 ∧ u.on Reg.FZ_STATUS Fld.FZ_STATUS.FROZEN = true ∧
      u.rd Reg.FZ_STATUS Fld.FZ_STATUS.CAUSE = 1 ∧ u.on Reg.FZ_STATUS Fld.FZ_STATUS.CLEAN = true ∧
      u.reg Reg.FZ_BEAT = s.reg Reg.CHIP_BEAT ∧ u.reg Reg.FZ_TIME = s.reg Reg.CHIP_TIME ∧ Out.lanesIdle ∈ u.out ∧
      Out.clocks false ∈ u.out ∧ u.flt.running = false ∧ u.mgmt.mportUp = false ∧ u.core = s.core ∧ u.home = s.home ∧
      u.regsBut s [Reg.CHIP_MODE, Reg.FZ_BEAT, Reg.FZ_TIME, Reg.FZ_STATUS, Reg.KS_RETAIN_STATUS]) ∧
  (∀ (s : State), s.md ∈ [Mode.drydown, .retain, .reset] →
    Leaves (exec .freezeNAssert s) fun u =>
      u.md = s.md ∧ u.on Reg.FZ_STATUS Fld.FZ_STATUS.IGNORED = true ∧ u.hasRaised Src.FZ_REQ_IGNORED none ∧
      u.regsBut s [Reg.FZ_STATUS]) ∧
  (∀ (s : State), s.quiet = true → s.md = .frozen →
    Answers (exec .freezeNAssert s) fun t => t.md = .frozen ∧ t.regsBut s []) ∧
  (∀ (s : State) (w : BitVec 32), s.md = .serve → s.presenceOk = true → w.getLsbD 0 = true → s.unwrittenMirror = none →
    Leaves (exec (.fzFreezeWrite .jtag w) s) fun u =>
      u.entered s .frozen 0x11 ∧ u.rd Reg.FZ_STATUS Fld.FZ_STATUS.CAUSE = 2 ∧
      (w.getLsbD 1 = true → u.on Reg.FZ_CTL Fld.FZ_CTL.READOUT_EN = true)) ∧
  (∀ (s : State) (p : AccessPath) (w : BitVec 32), s.quiet = true → p ≠ .jtag → s.mayAct p = true → s.presenceOk = true →
    w.getLsbD 0 = false →
    Answers (exec (.fzFreezeWrite p w) s) fun t =>
      t.on Reg.FZ_CTL Fld.FZ_CTL.READOUT_EN = (s.on Reg.FZ_CTL Fld.FZ_CTL.READOUT_EN || w.getLsbD 1) ∧
      t.on Reg.FZ_CTL Fld.FZ_CTL.ON_SOURCE = w.getLsbD 2 ∧
      t.rd Reg.FZ_CTL Fld.FZ_CTL.SOURCE = w.toNat / 8 % 2 ^ 11 ∧ t.md = s.md ∧ t.regsBut s [Reg.FZ_CTL]) ∧
  (∀ (s : State) (g : BitVec 10), s.quiet = true → s.readoutOk = true →
    s.on Reg.FZ_CAP_STATUS Fld.FZ_CAP_STATUS.BUSY = false → g ≠ 0 →
    Answers (exec (.captureStart .jtag g) s) fun t =>
      t.on Reg.FZ_CAP_STATUS Fld.FZ_CAP_STATUS.BUSY = true ∧
      t.frz.capSegs = ((List.range 10).filter fun k => g.getLsbD k) ∧
      t.rd Reg.FZ_CAP_STATUS Fld.FZ_CAP_STATUS.BLOCKS = 0 ∧ t.rd Reg.FZ_CAP_CTL Fld.FZ_CAP_CTL.SEG = g.toNat ∧
      t.regsBut s [Reg.FZ_CAP_STATUS, Reg.FZ_CAP_CTL]) ∧
  (∀ (s : State) (p : AccessPath) (g : BitVec 10), s.quiet = true → p ≠ .jtag → s.mayAct p = true → s.md ≠ .frozen →
    Answers (exec (.captureStart p g) s) fun t =>
      t.on Reg.FZ_CAP_STATUS Fld.FZ_CAP_STATUS.REFUSED = true ∧ t.frz = s.frz ∧
      t.regsBut s [Reg.FZ_CAP_STATUS, Reg.FZ_CAP_CTL]) ∧
  (∀ (s : State), s.quiet = true → s.md ≠ .off → s.on Reg.FZ_CAP_STATUS Fld.FZ_CAP_STATUS.BUSY = true →
    Answers (exec (.captureAbort .jtag) s) fun t =>
      t.on Reg.FZ_CAP_STATUS Fld.FZ_CAP_STATUS.BUSY = false ∧ t.frz.capSegs = [] ∧
      t.on Reg.FZ_CAP_STATUS Fld.FZ_CAP_STATUS.DONE = s.on Reg.FZ_CAP_STATUS Fld.FZ_CAP_STATUS.DONE ∧
      t.regsBut s [Reg.FZ_CAP_STATUS]) ∧
  (∀ (s : State), s.quiet = true → s.on Reg.FZ_CAP_STATUS Fld.FZ_CAP_STATUS.BUSY = true →
    Answers (exec .captureDone s) fun t =>
      t.on Reg.FZ_CAP_STATUS Fld.FZ_CAP_STATUS.BUSY = false ∧ t.on Reg.FZ_CAP_STATUS Fld.FZ_CAP_STATUS.DONE = true ∧
      (∀ k ∈ s.frz.capSegs, Out.capture k (segmentBlocks k) ∈ t.out) ∧
      t.rd Reg.FZ_CAP_STATUS Fld.FZ_CAP_STATUS.BLOCKS = ((s.frz.capSegs.map segmentBlocks).foldl (· + ·) 0) % 2 ^ 32 ∧
      t.frz.capSegs = [] ∧ t.regsBut s [Reg.FZ_CAP_STATUS]) ∧
  (∀ (s : State), s.quiet = true → s.md ≠ .off →
    Answers (exec .jtagIdcode s) fun t =>
      Out.tdo 0x10880C7B ∈ t.out ∧ t.frz.jtag = .idcode ∧ t.frz.boundary = s.frz.boundary ∧ t.regsBut s []) ∧
  (∀ (s : State), s.quiet = true → s.md ≠ .off →
    Answers (exec .jtagBypass s) fun t => Out.tdo 0 ∈ t.out ∧ t.frz.jtag = .bypass ∧ t.regsBut s []) ∧
  (∀ (s : State) (b : List Bool), s.quiet = true → s.md ≠ .off →
    Answers (exec (.jtagSamplePreload b) s) fun t =>
      t.frz.boundary = b ∧ t.frz.jtag = .samplePreload ∧ t.regsBut s []) ∧
  (∀ (s : State), s.quiet = true → s.md = .frozen → s.on Reg.FZ_CTL Fld.FZ_CTL.READOUT_EN = true →
    Answers (exec .jtagExtest s) fun t => Out.pin .boundary true ∈ t.out ∧ t.frz.jtag = .extest ∧ t.regsBut s []) ∧
  (∀ (s : State), s.quiet = true → s.md = .serve →
    Answers (exec .jtagExtest s) fun t => t.frz = s.frz ∧ t.regsBut s []) ∧
  (∀ (s : State) (k : Fin 10) (n : Nat), s.quiet = true → s.md ≠ .off → s.readoutOk = false →
    Answers (exec (.jtagSegmentRead k n) s) fun t => Out.tdo 0 ∈ t.out ∧ t.frz.jtag = .network ∧ t.regsBut s []) ∧
  (∀ (s : State) (k : Fin 10) (n : Nat), s.quiet = true → s.readoutOk = true →
    Answers (exec (.jtagSegmentRead k n) s) fun t =>
      (∃ b < 2, Out.tdo b ∈ t.out) ∧ t.frz.jtag = .network ∧ t.regsBut s [])

/-- Sillage (R408, R409): entries acknowledged, a FIFO flushed. -/
def Obligations.Sillage : Prop :=
  (∀ (s : State) (p : AccessPath) (k : QuadIx) (n : Nat), s.quiet = true → s.mayAct p = true → n < 2 ^ 12 →
    Answers (exec (.slAck p k n) s) fun t =>
      (t.silFifo k.val).entries = (s.silFifo k.val).entries.drop n ∧ (t.silFifo k.val).lost = (s.silFifo k.val).lost ∧
      (∀ j, j ≠ k.val → t.silFifo j = s.silFifo j) ∧ t.regsBut s []) ∧
  (∀ (s : State) (p : AccessPath) (k : QuadIx), s.quiet = true → s.mayAct p = true →
    Answers (exec (.slFlush p k) s) fun t =>
      t.silFifo k.val = {} ∧ (∀ j, j ≠ k.val → t.silFifo j = s.silFifo j) ∧ t.core.queues = s.core.queues ∧
      t.regsBut s [])

/-- How management commands are turned away (R416, R418, R419, R423, R424, R428, R437): by the mode, an unknown opcode, a
wrong form, BOOT recovery, a grant that is not held, the seal, the presence window, and for want of a Formula. -/
def Obligations.MailboxRefusals : Prop :=
  (∀ (s : State) (c : Instr) (r : MgmtReq) (m : MgmtCmd), s.quiet = true → mgmtOf c = some (r, m) → r.remote = false →
    s.pathUp r.path = true → s.md = .drydown → Answers (exec c s) fun t => t.turnsAway s r m St.MODE) ∧
  (∀ (s : State) (r : MgmtReq) (o : BitVec 16), s.quiet = true → s.hears r →
    Answers (exec (.unsupportedOpcode r o) s) fun t => t.turnsAway s r (.unknown o) St.UNSUPPORTED) ∧
  (∀ (s : State) (c : Instr) (r : MgmtReq) (m : MgmtCmd), s.quiet = true → mgmtOf c = some (r, m) → s.hears r →
    isUnknown m = false → r.lenOk = false → Answers (exec c s) fun t => t.turnsAway s r m St.BAD_LENGTH) ∧
  (∀ (s : State) (c : Instr) (r : MgmtReq) (m : MgmtCmd), s.quiet = true → mgmtOf c = some (r, m) → s.hears r →
    isUnknown m = false → r.lenOk = true → r.resOk = false →
    Answers (exec c s) fun t => t.turnsAway s r m St.BAD_FIELD) ∧
  (∀ (s : State) (c : Instr) (r : MgmtReq) (m : MgmtCmd), s.quiet = true → mgmtOf c = some (r, m) → s.hears r →
    goodForm r m → s.inRecovery = true → recoveryAccepts m = false →
    Answers (exec c s) fun t => t.turnsAway s r m St.MODE) ∧
  (∀ (s : State) (c : Instr) (r : MgmtReq) (m : MgmtCmd), s.quiet = true → mgmtOf c = some (r, m) → s.hears r →
    goodForm r m → s.inRecovery = false → s.authorised r m = false →
    Answers (exec c s) fun t =>
      t.turnsAway s r m St.NOT_DELEGATED ∧
      t.rd (Reg.MG_PATH_CNT r.path.val) Fld.MG_PATH_CNT.REFUSED =
        min (2 ^ Fld.MG_PATH_CNT.REFUSED.width - 1) (s.rd (Reg.MG_PATH_CNT r.path.val) Fld.MG_PATH_CNT.REFUSED + 1)) ∧
  (∀ (s : State) (c : Instr) (r : MgmtReq) (m : MgmtCmd), s.quiet = true → mgmtOf c = some (r, m) → s.hears r →
    goodForm r m → s.lets r m → gatedCmd m = true → s.on Reg.MG_SEAL Fld.MG_SEAL.SEAL_BROKEN = true →
    Answers (exec c s) fun t => t.turnsAway s r m St.SEALED) ∧
  (∀ (s : State) (c : Instr) (r : MgmtReq) (m : MgmtCmd), s.quiet = true → mgmtOf c = some (r, m) → s.hears r →
    goodForm r m → s.lets r m → gatedCmd m = true → s.on Reg.MG_SEAL Fld.MG_SEAL.SEAL_BROKEN = false →
    s.on Reg.MG_PRESENCE Fld.MG_PRESENCE.OPEN = false →
    Answers (exec c s) fun t => t.turnsAway s r m St.NO_PRESENCE) ∧
  (∀ (s : State) (c : Instr) (r : MgmtReq) (m : MgmtCmd), s.quiet = true → mgmtOf c = some (r, m) → s.hears r →
    goodForm r m → s.lets r m → gatedCmd m = false → needsFormula m = true → s.fml.inForce = none →
    Answers (exec c s) fun t => t.turnsAway s r m St.MODE) ∧
  (∀ (s : State) (c : Instr) (r : MgmtReq) (m : MgmtCmd), s.quiet = true → mgmtOf c = some (r, m) → r.remote = true →
    s.remoteUp = true → s.md ≠ .drydown → goodForm r m → remoteAnswers m = false →
    Answers (exec c s) fun t =>
      Out.response 4 (mgmtOpcode m) St.NOT_DELEGATED r.tag 0 [] ∈ t.out ∧ t.regsBut s [] ∧ t.mgmt = s.mgmt ∧ t.acc = s.acc)

/-- Every command that its path takes is answered once (R417, R418): with its opcode and TAG; on the MPORT path the
response stands in the response buffer with DONE set, on the I3C path in the target's. -/
def Obligations.MailboxAnswers : Prop :=
  ∀ (s : State) (c : Instr) (r : MgmtReq) (m : MgmtCmd), mgmtOf c = some (r, m) → r.remote = false →
    s.pathUp r.path = true →
    Leaves (exec c s) fun u =>
      ∃ x : Reply, u.repliedTo r m x.status x.detail x.body ∧
        (r.path = 0 → u.on Reg.MBX_STATUS Fld.MBX_STATUS.DONE = true ∧
          u.mgmt.respBuf = bytesOf 2 (mgmtOpcode m) ++ bytesOf 2 x.status ++ bytesOf 4 x.body.length ++
            bytesOf 8 r.tag.toNat ++ bytesOf 8 x.detail ++ x.body) ∧
        (r.path = 2 → u.mgmt.i3cResp = bytesOf 2 (mgmtOpcode m) ++ bytesOf 2 x.status ++ bytesOf 4 x.body.length ++
            bytesOf 8 r.tag.toNat ++ bytesOf 8 x.detail ++ x.body)

/-- The commands that read (R395, R407, R414, R421, R432 to R435): IDENTIFY, READ_REG, WRITE_REG beside it, READ_LOG,
TRACE_READ, ATTEST and GET_CERT. -/
def Obligations.MailboxReads : Prop :=
  (∀ (s : State) (r : MgmtReq), s.quiet = true → s.takes r .identify →
    Answers (exec (.identify r) s) fun t =>
      t.repliedTo r .identify St.OK 0 (bytesOf 4 (s.shown Reg.CHIP_ID).toNat ++ bytesOf 8 (s.shown Reg.CHIP_SERIAL).toNat ++
        bytesOf 4 (s.shown Reg.CHIP_MODE).toNat ++ bytesOf 4 (s.shown Reg.MG_LIFECYCLE).toNat ++
        bytesOf 4 ((s.shown Reg.MG_FML_STATUS).toNat / 2 ^ 32) ++ bytesOf 8 (s.shown Reg.MG_FW_STATUS).toNat) ∧
      t.regsBut s (mgmtRegs r)) ∧
  (∀ (s : State) (r : MgmtReq) (a : BitVec 32) (x : Nat) (k : RegRow), s.takes r (.readReg a 8) →
    s.opensAt (.mgmt r.path) a.toNat 8 x → rowAt x = some k → k.wide = true →
    Leaves (exec (.readReg r a 8) s) fun u =>
      u.repliedTo r (.readReg a 8) St.OK 0 (bytesOf 8 ((s.releaseLatch (.mgmt r.path) x).shown x).toNat) ∧
      (x ∉ mgmtRegs r → u.reg x = clearRc k.fields 0 (s.reg x)) ∧ u.regsBut s (x :: mgmtRegs r)) ∧
  (∀ (s : State) (r : MgmtReq) (a : BitVec 32) (n : BitVec 8) (e : Completion), s.quiet = true → s.takes r (.readReg a n) →
    checkAccess (.mgmt r.path) a.toNat n.toNat = .error e →
    Answers (exec (.readReg r a n) s) fun t => t.turnsAway s r (.readReg a n) St.BAD_FIELD) ∧
  (∀ (s : State) (r : MgmtReq) (a : BitVec 32) (n : BitVec 8) (w : Word) (x : Nat), s.quiet = true →
    s.takes r (.writeReg a n w) → s.opensAt (.mgmt r.path) a.toNat n.toNat x → x < bar0Size →
    s.mayWrite (.mgmt r.path) = false →
    Answers (exec (.writeReg r a n w) s) fun t =>
      t.repliedTo r (.writeReg a n w) St.OK 0 [] ∧
      t.rd Reg.MG_BAR0_WR Fld.MG_BAR0_WR.REFUSED =
        min (2 ^ Fld.MG_BAR0_WR.REFUSED.width - 1) (s.rd Reg.MG_BAR0_WR Fld.MG_BAR0_WR.REFUSED + 1) ∧
      t.regsBut s (Reg.MG_BAR0_WR :: mgmtRegs r)) ∧
  (∀ (s : State) (r : MgmtReq) (a : BitVec 32) (w : Word) (x base : Nat) (k : RegRow), s.takes r (.writeReg a 4 w) →
    s.opensWrite (.mgmt r.path) a.toNat 4 x → rowAt x = some k → k.wide = false →
    (locateBlock x = some (.pc, base) ∨ locateBlock x = some (.spc, base)) →
    Leaves (exec (.writeReg r a 4 w) s) fun u =>
      u.repliedTo r (.writeReg a 4 w) St.OK 0 [] ∧
      u.reg x = storeFields k.fields (s.reg x) (BitVec.ofNat 64 (w.toNat % 2 ^ 32)) ∧ u.regsBut s (x :: mgmtRegs r)) ∧
  (∀ (s : State) (r : MgmtReq) (k : BitVec 16) (n : Nat), s.quiet = true → s.takes r (.readLog k) →
    n = min (min k.toNat 4094) s.flt.log.length →
    Answers (exec (.readLog r k) s) fun t =>
      t.repliedTo r (.readLog k) St.OK (n + (s.flt.log.length - n) * 2 ^ 16)
        (((s.flt.log.take n).flatMap LogEntry.words).flatMap fun w => bytesOf 8 w.toNat) ∧
      t.flt.log = s.flt.log.drop n ∧ t.flt.src = s.flt.src ∧ t.regsBut s (mgmtRegs r)) ∧
  (∀ (s : State) (r : MgmtReq) (k : BitVec 8) (l : List SilEntry), s.quiet = true → s.takes r (.traceRead k) → k.toNat < 4 →
    l = (s.silFifo k.toNat).entries.take 2047 →
    Answers (exec (.traceRead r k) s) fun t =>
      t.repliedTo r (.traceRead k) St.OK l.length ((l.flatMap SilEntry.words).flatMap fun w => bytesOf 8 w.toNat) ∧
      t.sil = s.sil ∧ t.regsBut s (mgmtRegs r)) ∧
  (∀ (s : State) (r : MgmtReq) (n : BitVec 256), s.quiet = true → s.takes r (.attest n) →
    s.mgmt.fuses.lifecycle ≠ 7 → s.mgmt.fuses.lifecycle ≠ 15 → s.mode.identityReady = true →
    Answers (exec (.attest r n) s) fun t =>
      ∃ b, t.repliedTo r (.attest n) St.OK 0 b ∧ b.length = 1680 ∧ b.take 400 = s.reportHead n ∧ t.regsBut s (mgmtRegs r)) ∧
  (∀ (s : State) (r : MgmtReq) (n : BitVec 256), s.quiet = true → s.takes r (.attest n) →
    (s.mgmt.fuses.lifecycle = 7 ∨ s.mgmt.fuses.lifecycle = 15) →
    Answers (exec (.attest r n) s) fun t => t.turnsAway s r (.attest n) St.LIFECYCLE) ∧
  (∀ (s : State) (r : MgmtReq) (n : BitVec 256), s.quiet = true → s.takes r (.attest n) →
    s.mgmt.fuses.lifecycle ≠ 7 → s.mgmt.fuses.lifecycle ≠ 15 → s.mode.identityReady = false →
    Answers (exec (.attest r n) s) fun t => t.turnsAway s r (.attest n) St.BUSY) ∧
  (∀ (s : State) (r : MgmtReq) (i : BitVec 8), s.quiet = true → s.takes r (.getCert i) → s.mgmt.flashAbsent = false →
    (∀ k ≤ i.toNat, leAt (memRange s.mgmt.flash (certBase + 3208 * k) 4) 0 4 ≠ 0xFFFFFFFF) →
    Answers (exec (.getCert r i) s) fun t =>
      t.repliedTo r (.getCert i) St.OK 0 (memRange s.mgmt.flash (certBase + 3208 * i.toNat) 3208) ∧
      t.regsBut s (mgmtRegs r)) ∧
  (∀ (s : State) (r : MgmtReq) (i : BitVec 8) (k : Nat), s.quiet = true → s.takes r (.getCert i) → s.mgmt.flashAbsent = false →
    k ≤ i.toNat → leAt (memRange s.mgmt.flash (certBase + 3208 * k) 4) 0 4 = 0xFFFFFFFF →
    Answers (exec (.getCert r i) s) fun t => t.turnsAway s r (.getCert i) St.NOT_PRESENT)

/-- FAULT_CLEAR (R392): the six targets, what each clears, and how it is refused. -/
def Obligations.FaultClears : Prop :=
  (∀ (s : State) (r : MgmtReq) (n : BitVec 16), s.quiet = true → s.takes r (.faultClear 0 n) →
    (defaultSev n.toNat).isSome = true → ¬(832 ≤ n.toNat ∧ n.toNat < 928 ∧ (n.toNat - 832) % 24 = 16) →
    Answers (exec (.faultClearSource r n) s) fun t =>
      t.repliedTo r (.faultClear 0 n) St.OK 0 [] ∧ (t.srcOf n.toNat).pending = false ∧ t.flt.log = s.flt.log ∧
      ((s.srcOf n.toNat).pending = true → (t.srcOf n.toNat).recSev = 0 ∧ (t.srcOf n.toNat).flacons = 0 ∧
        (t.srcOf n.toNat).nofl = false ∧ (t.srcOf n.toNat).escCount = 0) ∧
      (∀ k, k ≠ n.toNat → t.srcOf k = s.srcOf k) ∧ t.regsBut s (mgmtRegs r)) ∧
  (∀ (s : State) (r : MgmtReq) (n : BitVec 16), s.takes r (.faultClear 0 n) → 832 ≤ n.toNat → n.toNat < 928 →
    (n.toNat - 832) % 24 = 16 →
    Leaves (exec (.faultClearSource r n) s) fun u =>
      u.repliedTo r (.faultClear 0 n) St.OK 0 [] ∧ (u.srcOf n.toNat).pending = false ∧ u.md = s.md) ∧
  (∀ (s : State) (r : MgmtReq) (n : BitVec 16), s.quiet = true → s.takes r (.faultClear 0 n) →
    defaultSev n.toNat = none →
    Answers (exec (.faultClearSource r n) s) fun t => t.turnsAway s r (.faultClear 0 n) St.BAD_FIELD) ∧
  (∀ (s : State) (r : MgmtReq) (f : BitVec 16), s.quiet = true → s.takes r (.faultClear 1 f) → f.toNat < 32 →
    s.on (Reg.FL_STATUS f.toNat) Fld.FL_STATUS.FENCED = true → s.md ≠ .quarantine →
    s.on (Reg.FL_STATUS f.toNat) Fld.FL_STATUS.UNFENCING = false → s.viralPorts f.toNat = [] →
    Answers (exec (.faultClearFlacon r f) s) fun t =>
      t.repliedTo r (.faultClear 1 f) St.OK 0 [] ∧ t.on (Reg.FL_STATUS f.toNat) Fld.FL_STATUS.UNFENCING = true ∧
      t.on (Reg.FL_STATUS f.toNat) Fld.FL_STATUS.FENCED = true ∧ t.regsBut s (Reg.FL_STATUS f.toNat :: mgmtRegs r)) ∧
  (∀ (s : State) (r : MgmtReq) (f : BitVec 16), s.quiet = true → s.takes r (.faultClear 1 f) → f.toNat < 32 →
    s.on (Reg.FL_STATUS f.toNat) Fld.FL_STATUS.FENCED = true →
    (s.md = .quarantine ∨ s.on (Reg.FL_STATUS f.toNat) Fld.FL_STATUS.UNFENCING = true) →
    Answers (exec (.faultClearFlacon r f) s) fun t =>
      t.repliedTo r (.faultClear 1 f) (if s.md = .quarantine then St.MODE else St.BUSY) 0 [] ∧
      t.on (Reg.FL_FAULT f.toNat) Fld.FL_FAULT.REFUSED = true ∧ t.regsBut s (Reg.FL_FAULT f.toNat :: mgmtRegs r)) ∧
  (∀ (s : State) (r : MgmtReq) (f : BitVec 16), s.quiet = true → s.takes r (.faultClear 1 f) → f.toNat < 32 →
    s.on (Reg.FL_STATUS f.toNat) Fld.FL_STATUS.FENCED = false →
    Answers (exec (.faultClearFlacon r f) s) fun t => t.turnsAway s r (.faultClear 1 f) St.OK) ∧
  (∀ (s : State) (r : MgmtReq) (f : BitVec 16), s.quiet = true → s.takes r (.faultClear 2 f) → f.toNat < 32 →
    Answers (exec (.faultClearFlFerr r f) s) fun t =>
      t.repliedTo r (.faultClear 2 f) St.OK 0 [] ∧ t.on (Reg.FL_FERR_CTL f.toNat) Fld.FL_FERR_CTL.VALID = false ∧
      t.on (Reg.FL_FERR_CTL f.toNat) Fld.FL_FERR_CTL.MORE = false ∧ t.regsBut s (Reg.FL_FERR_CTL f.toNat :: mgmtRegs r)) ∧
  (∀ (s : State) (r : MgmtReq) (f : BitVec 16), s.quiet = true → s.takes r (.faultClear 3 f) → f.toNat < 32 →
    Answers (exec (.faultClearFlViol r f) s) fun t =>
      t.repliedTo r (.faultClear 3 f) St.OK 0 [] ∧ t.on (Reg.FL_VIOL_CTL f.toNat) Fld.FL_VIOL_CTL.VALID = false ∧
      t.regsBut s (Reg.FL_VIOL_CTL f.toNat :: mgmtRegs r)) ∧
  (∀ (s : State) (c : Instr) (r : MgmtReq) (f : BitVec 16) (k : BitVec 8), s.quiet = true →
    (c = .faultClearFlacon r f ∧ k = 1 ∨ c = .faultClearFlFerr r f ∧ k = 2 ∨ c = .faultClearFlViol r f ∧ k = 3) →
    s.takes r (.faultClear k f) → 32 ≤ f.toNat →
    Answers (exec c s) fun t => t.turnsAway s r (.faultClear k f) St.BAD_FIELD) ∧
  (∀ (s : State) (r : MgmtReq), s.quiet = true → s.takes r (.faultClear 4 0) →
    Answers (exec (.faultClearFcFerr r) s) fun t =>
      t.repliedTo r (.faultClear 4 0) St.OK 0 [] ∧ t.on Reg.FC_FERR_CTL Fld.FC_FERR_CTL.VALID = false ∧
      t.on Reg.FC_FERR_CTL Fld.FC_FERR_CTL.MORE = false ∧ t.regsBut s (Reg.FC_FERR_CTL :: mgmtRegs r)) ∧
  (∀ (s : State) (r : MgmtReq), s.quiet = true → s.takes r (.faultClear 5 0) →
    Answers (exec (.faultClearAlert r) s) fun t =>
      t.repliedTo r (.faultClear 5 0) St.OK 0 [] ∧ t.on Reg.FC_ALERT Fld.FC_ALERT.PENDING = false ∧
      (s.md ≠ .frozen → t.flt.alertLow = false) ∧ t.regsBut s (Reg.FC_ALERT :: mgmtRegs r))

/-- The commands that set (R60, R111, R115, R227, R407, R409, R410, R421, R422): weights, rates, trace filters, the mirror,
lanes and ports, and a batch of region operations. -/
def Obligations.MailboxSettings : Prop :=
  (∀ (s : State) (r : MgmtReq) (q f : BitVec 8) (w : BitVec 32) (e : WfqEnt), s.quiet = true → s.takes r (.setWeight q f w) →
    q.toNat < 128 → f.toNat < 32 → s.pairOk q.toNat f.toNat = true → e = tabGet (s.schedPort q.toNat).wfq f.toNat {} →
    e.weightMin ≤ w.toNat → w.toNat ≤ e.weightMax →
    Answers (exec (.setWeight r q f w) s) fun t =>
      t.repliedTo r (.setWeight q f w) St.OK 0 [] ∧
      tabGet (t.schedPort q.toNat).wfq f.toNat {} = { e with weight := w.toNat } ∧ t.regsBut s (mgmtRegs r)) ∧
  (∀ (s : State) (r : MgmtReq) (q f : BitVec 8) (w : BitVec 32) (e : WfqEnt), s.quiet = true → s.takes r (.setWeight q f w) →
    q.toNat < 128 → f.toNat < 32 → e = tabGet (s.schedPort q.toNat).wfq f.toNat {} →
    (s.pairOk q.toNat f.toNat = false ∨ w.toNat < e.weightMin ∨ e.weightMax < w.toNat) →
    Answers (exec (.setWeight r q f w) s) fun t => t.turnsAway s r (.setWeight q f w) St.OUT_OF_FORMULA) ∧
  (∀ (s : State) (r : MgmtReq) (q f : BitVec 8) (x : BitVec 32) (e : Shaper), s.quiet = true → s.takes r (.setRate q f x) →
    q.toNat < 128 → f.toNat < 32 → tabFind (s.schedPort q.toNat).shapers f.toNat = some e → 10 ≤ x.toNat →
    x.toNat ≤ e.maxRate →
    Answers (exec (.setRate r q f x) s) fun t =>
      t.repliedTo r (.setRate q f x) St.OK 0 [] ∧
      tabFind (t.schedPort q.toNat).shapers f.toNat = some { e with pendRate := some x.toNat } ∧ t.regsBut s (mgmtRegs r)) ∧
  (∀ (s : State) (r : MgmtReq) (q f : BitVec 8) (x : BitVec 32) (e : Shaper), s.quiet = true → s.takes r (.setRate q f x) →
    q.toNat < 128 → f.toNat < 32 → tabFind (s.schedPort q.toNat).shapers f.toNat = some e →
    (x.toNat < 10 ∨ e.maxRate < x.toNat) →
    Answers (exec (.setRate r q f x) s) fun t => t.turnsAway s r (.setRate q f x) St.OUT_OF_FORMULA) ∧
  (∀ (s : State) (r : MgmtReq) (k : BitVec 8) (en eg : Bool) (f g : SilFilter) (n : Nat) (x : SilFilter), s.quiet = true →
    s.takes r (.traceSet k en eg f g) → k.toNat < 4 → (n = 0 ∧ x = f ∨ n = 1 ∧ x = g) →
    Answers (exec (.traceSet r k en eg f g) s) fun t =>
      t.repliedTo r (.traceSet k en eg f g) St.OK 0 [] ∧ t.on (Reg.SL_CTL k.toNat) Fld.SL_CTL.EN = en ∧
      t.on (Reg.SL_CTL k.toNat) Fld.SL_CTL.POINT = eg ∧ t.on (Reg.SL_CTL k.toNat) Fld.SL_CTL.CMD_SET = true ∧
      t.on (Reg.SL_FILT_CTL k.toNat n) Fld.SL_FILT_CTL.EN = x.en ∧
      t.rd (Reg.SL_FILT_CTL k.toNat n) Fld.SL_FILT_CTL.CLASSES = x.classes.toNat ∧
      t.reg (Reg.SL_FILT_PORTS k.toNat n) = x.ports.setWidth 64 ∧ t.reg (Reg.SL_FILT_FL k.toNat n) = x.flacons.setWidth 64 ∧
      t.reg (Reg.SL_FILT_LO k.toNat n) = x.lo.setWidth 64 ∧ t.reg (Reg.SL_FILT_HI k.toNat n) = x.hi.setWidth 64) ∧
  (∀ (s : State) (r : MgmtReq) (k : BitVec 8), s.quiet = true → s.takes r (.traceFlush k) → k.toNat < 4 →
    Answers (exec (.traceFlush r k) s) fun t =>
      t.repliedTo r (.traceFlush k) St.OK 0 [] ∧ (t.silFifo k.toNat).entries = [] ∧
      (∀ j, j ≠ k.toNat → t.silFifo j = s.silFifo j) ∧ t.regsBut s (mgmtRegs r)) ∧
  (∀ (s : State) (r : MgmtReq) (f : BitVec 8) (b : Word) (x : BitVec 32), s.quiet = true → s.takes r (.mirrorSet f b x) →
    f.toNat < 32 → b.toNat < 2 ^ 52 → x.toNat < 64 →
    Answers (exec (.mirrorSet r f b x) s) fun t =>
      t.repliedTo r (.mirrorSet f b x) St.OK 0 [] ∧
      t.rd (Reg.FL_MIRROR_BASE f.toNat) Fld.FL_MIRROR_BASE.BASE = b.toNat % 2 ^ Fld.FL_MIRROR_BASE.BASE.width ∧
      t.rd (Reg.FL_MIRROR_CTL f.toNat) Fld.FL_MIRROR_CTL.EN = x.toNat % 2 ∧
      t.rd (Reg.FL_MIRROR_CTL f.toNat) Fld.FL_MIRROR_CTL.SIZE_LOG2 = x.toNat / 2 ∧
      (s.rd (Reg.FL_MIRROR_CTL f.toNat) Fld.FL_MIRROR_CTL.SIZE_LOG2 ≠ x.toNat / 2 →
        t.rd (Reg.FL_MIRROR_PTR f.toNat) Fld.FL_MIRROR_PTR.OFFSET = 0) ∧
      t.regsBut s (Reg.FL_MIRROR_BASE f.toNat :: Reg.FL_MIRROR_CTL f.toNat :: Reg.FL_MIRROR_PTR f.toNat :: mgmtRegs r)) ∧
  (∀ (s : State) (r : MgmtReq) (q : BitVec 16) (p : PortRec), s.takes r (.retrain q) → q.toNat < 128 →
    s.portRec q.toNat = some p → p.port = q.toNat → p.fabric = false → p.hotplug = false → p.role = .downstream →
    p.lingerMs ≠ 0 → s.portIdle q.toNat → s.on (Reg.PT_STD_STATUS q.toNat) Fld.PT_STD_STATUS.DL_UP = true →
    Leaves (exec (.retrain r q) s) fun u =>
      u.repliedTo r (.retrain q) St.OK 0 [] ∧ u.on (Reg.PT_STD_STATUS q.toNat) Fld.PT_STD_STATUS.DL_UP = false) ∧
  (∀ (s : State) (r : MgmtReq) (q : BitVec 16) (p : PortRec), s.quiet = true → s.takes r (.retrain q) → q.toNat < 128 →
    s.portRec q.toNat = some p → p.port = q.toNat → p.fabric = true → (∀ l ∈ p.lanes, l < 512) →
    s.linkState q.toNat = 0 →
    Answers (exec (.retrain r q) s) fun t =>
      t.repliedTo r (.retrain q) St.OK 0 [] ∧ t.linkState q.toNat = 0 ∧
      ∀ l ∈ p.lanes, s.stage l ∉ [Stage.OFF, Stage.TEST, Stage.STD] → t.stage l = Stage.WAIT) ∧
  (∀ (s : State) (r : MgmtReq) (q : BitVec 16), s.quiet = true → s.takes r (.retrain q) → q.toNat < 128 →
    s.portRec q.toNat = none →
    Answers (exec (.retrain r q) s) fun t => t.turnsAway s r (.retrain q) St.MODE) ∧
  (∀ (s : State) (r : MgmtReq) (l : BitVec 16), s.quiet = true → s.takes r (.laneDisable l 1) → l.toNat < 512 →
    s.on (Reg.LN_CTL l.toNat) Fld.LN_CTL.DISABLE = false → s.laneActive l.toNat = false → s.stage l.toNat ≠ Stage.TEST →
    (∀ p, s.lanePort l.toNat = some p → p.port < 128) →
    Answers (exec (.laneDisable r l 1) s) fun t =>
      t.repliedTo r (.laneDisable l 1) St.OK 0 [] ∧ t.on (Reg.LN_CTL l.toNat) Fld.LN_CTL.DISABLE = true ∧
      t.stage l.toNat = Stage.OFF ∧
      t.regsBut s ([Reg.LN_CTL l.toNat, Reg.LN_STATUS l.toNat, Reg.LN_RETUNE l.toNat] ++ mgmtRegs r)) ∧
  (∀ (s : State) (r : MgmtReq) (l : BitVec 16) (p : PortRec), s.quiet = true → s.takes r (.laneDisable l 0) → l.toNat < 512 →
    s.lanePort l.toNat = some p → p.fabric = true → s.on (Reg.LN_CTL l.toNat) Fld.LN_CTL.DISABLE = true →
    s.lanesTrain = true →
    Answers (exec (.laneDisable r l 0) s) fun t =>
      t.repliedTo r (.laneDisable l 0) St.OK 0 [] ∧ t.on (Reg.LN_CTL l.toNat) Fld.LN_CTL.DISABLE = false ∧
      t.stage l.toNat = Stage.DETECT) ∧
  (∀ (s : State) (r : MgmtReq) (l : BitVec 16) (v : BitVec 8), s.quiet = true → s.takes r (.laneDisable l v) →
    (512 ≤ l.toNat ∨ 1 < v.toNat) →
    Answers (exec (.laneDisable r l v) s) fun t => t.turnsAway s r (.laneDisable l v) St.BAD_FIELD) ∧
  (∀ (s : State) (r : MgmtReq) (x : BitVec 8), s.takes r (.modeReq x) → x.toNat = 11 → s.md = .boot → s.inRecovery = false →
    Leaves (exec (.modeReq r x) s) fun u =>
      u.repliedTo r (.modeReq x) St.OK 0 [] ∧ u.entered s .linktest 0x05 ∧
      ((∀ l < 512, s.on (Reg.LN_TEST_CFG l) Fld.LN_TEST_CFG.EN = false) → u.regsBut s (Reg.CHIP_MODE :: mgmtRegs r))) ∧
  (∀ (s : State) (r : MgmtReq) (x : BitVec 8), s.takes r (.modeReq x) → x.toNat = 10 →
    s.md ∈ [Mode.compose, .serve, .recompose, .revive] →
    Leaves (exec (.modeReq r x) s) fun u => u.repliedTo r (.modeReq x) St.OK 0 [] ∧ u.entered s .quarantine 0x0F) ∧
  (∀ (s : State) (r : MgmtReq) (x : BitVec 8), s.takes r (.modeReq x) → x.toNat = 2 → s.md = .linktest →
    Leaves (exec (.modeReq r x) s) fun u =>
      u.repliedTo r (.modeReq x) St.OK 0 [] ∧ u.md = .boot ∧ u.rd Reg.CHIP_MODE Fld.CHIP_MODE.CAUSE = 0x12) ∧
  (∀ (s : State) (r : MgmtReq) (x : BitVec 8), s.takes r (.modeReq x) → s.modeReqOk x.toNat = false →
    Leaves (exec (.modeReq r x) s) fun u =>
      u.repliedTo r (.modeReq x) St.OK 0 [] ∧ u.md = s.md ∧ u.on Reg.CHIP_MODE Fld.CHIP_MODE.REQ_ERR = true ∧
      u.regsBut s (Reg.CHIP_MODE :: mgmtRegs r))

/-- REGION_BATCH (R227, R230, R422): applied whole in one epoch advance, or not at all, with the number of the failing
entry. -/
def Obligations.RegionBatches : Prop :=
  (∀ (s : State) (r : MgmtReq) (f n : BitVec 8) (l : List RegionEntry), s.takes r (.regionBatch f n l) →
    l.length = n.toNat → 1 ≤ n.toNat → n.toNat ≤ 16 → f.toNat < 32 → (∀ e ∈ l, entryOk f e = true) →
    s.flaconBusy f.toNat = none → s.checkBatch f.toNat s.acc.regions (l.map entryOp) 1 = (.ok, 0) →
    s.canAdvance f.toNat false = true → s.acd.trk = [] → s.home = [] →
    Leaves (exec (.regionBatch r f n l) s) fun u =>
      u.repliedTo r (.regionBatch f n l) St.OK 0 [] ∧
      u.rd (Reg.FL_EPOCH f.toNat) Fld.FL_EPOCH.EPOCH = (s.epochOf f.toNat + 1) % 2 ^ 32 ∧
      (∀ i, (∀ e ∈ l, e.index.toNat ≠ i) → tabFind u.acc.regions i = tabFind s.acc.regions i) ∧
      u.regsBut s (Reg.FL_EPOCH f.toNat :: Reg.FL_REGIONS f.toNat :: mgmtRegs r)) ∧
  (∀ (s : State) (r : MgmtReq) (f : BitVec 8) (e : RegionEntry), s.takes r (.regionBatch f 1 [e]) → f.toNat < 32 →
    entryOk f e = true → (e.op = 1 ∨ e.op = 2) → s.flaconBusy f.toNat = none →
    s.checkRegionOp f.toNat s.acc.regions (entryOp e) = .ok → s.canAdvance f.toNat false = true → s.acd.trk = [] →
    s.home = [] →
    Leaves (exec (.regionBatch r f 1 [e]) s) fun u =>
      u.repliedTo r (.regionBatch f 1 [e]) St.OK 0 [] ∧
      tabFind u.acc.regions e.index.toNat = some { flacon := f.toNat, ns := e.ns != 0, start := e.start.toNat, stop := e.stop.toNat, perms := e.perms.toNat, epoch := (s.epochOf f.toNat + 1) % 2 ^ 32 }) ∧
  (∀ (s : State) (r : MgmtReq) (f n : BitVec 8) (l : List RegionEntry), s.quiet = true → s.takes r (.regionBatch f n l) →
    l.length ≠ n.toNat →
    Answers (exec (.regionBatch r f n l) s) fun t => t.turnsAway s r (.regionBatch f n l) St.BAD_LENGTH) ∧
  (∀ (s : State) (r : MgmtReq) (f n : BitVec 8) (l k : List RegionEntry) (e : RegionEntry) (x : List RegionEntry),
    s.quiet = true → s.takes r (.regionBatch f n l) → l.length = n.toNat → n.toNat ≤ 16 → f.toNat < 32 →
    l = k ++ e :: x → (∀ y ∈ k, entryOk f y = true) → entryOk f e = false →
    Answers (exec (.regionBatch r f n l) s) fun t =>
      t.repliedTo r (.regionBatch f n l) St.BAD_FIELD (k.length + 1) [] ∧ t.acc = s.acc ∧ t.regsBut s (mgmtRegs r)) ∧
  (∀ (s : State) (r : MgmtReq) (f n : BitVec 8) (l : List RegionEntry), s.quiet = true → s.takes r (.regionBatch f n l) →
    l.length = n.toNat → 1 ≤ n.toNat → n.toNat ≤ 16 → f.toNat < 32 → (∀ e ∈ l, entryOk f e = true) →
    s.on (Reg.FL_STATUS f.toNat) Fld.FL_STATUS.FENCED = true →
    Answers (exec (.regionBatch r f n l) s) fun t => t.turnsAway s r (.regionBatch f n l) St.FLACON_FENCED) ∧
  (∀ (s : State) (r : MgmtReq) (f n : BitVec 8) (l : List RegionEntry) (x : RegionStatus) (i : Nat), s.quiet = true →
    s.takes r (.regionBatch f n l) → l.length = n.toNat → 1 ≤ n.toNat → n.toNat ≤ 16 → f.toNat < 32 →
    (∀ e ∈ l, entryOk f e = true) → s.flaconBusy f.toNat = none →
    s.checkBatch f.toNat s.acc.regions (l.map entryOp) 1 = (x, i) → x ≠ .ok → x ≠ .regionOverlap →
    Answers (exec (.regionBatch r f n l) s) fun t =>
      t.repliedTo r (.regionBatch f n l) (regionCode x) i [] ∧ t.acc = s.acc ∧ t.regsBut s (mgmtRegs r)) ∧
  (∀ (s : State) (r : MgmtReq) (f n : BitVec 8) (l : List RegionEntry), s.quiet = true → s.takes r (.regionBatch f n l) →
    l.length = n.toNat → 1 ≤ n.toNat → n.toNat ≤ 16 → f.toNat < 32 → (∀ e ∈ l, entryOk f e = true) →
    s.flaconBusy f.toNat = none → s.checkBatch f.toNat s.acc.regions (l.map entryOp) 1 = (.ok, 0) →
    s.canAdvance f.toNat false = false →
    Answers (exec (.regionBatch r f n l) s) fun t => t.turnsAway s r (.regionBatch f n l) St.EPOCH_BUSY)

/-- Staging and committing (R61, R62, R421, R425, R437): FORMULA_STAGE, FW_STAGE, FORMULA_COMMIT and FW_COMMIT. -/
def Obligations.StagesAndCommits : Prop :=
  (∀ (s : State) (c : Instr) (r : MgmtReq) (k : BitVec 8) (d : List Byte) (m : MgmtCmd) (base : Nat),
    (c = .formulaStage r k 0 d ∧ m = .formulaStage k 0 d ∧ base = fmlSlotBase k.toNat ∧ s.directory.fmlActive ≠ k.toNat ∨
      c = .fwStage r k 0 d ∧ m = .fwStage k 0 d ∧ base = fwSlotBase k.toNat ∧ s.directory.fwActive ≠ k.toNat) →
    s.takes r m → Memory.wf s.mgmt.flash = true → k.toNat ≤ 1 → 1 ≤ d.length → d.length ≤ 65512 → s.mgmt.flashAbsent = false →
    Leaves (exec c s) fun u =>
      u.repliedTo r m St.OK 0 [] ∧ (∀ i b, d[i]? = some b → memGet u.mgmt.flash (base + i) = b) ∧
      (∀ a, 0x2000 ≤ a → (a < base ∨ base + 0x1000000 ≤ a) → memGet u.mgmt.flash a = memGet s.mgmt.flash a) ∧
      u.mgmt.fuses = s.mgmt.fuses ∧ u.fml = s.fml ∧ u.regsBut s (dirRegs ++ mgmtRegs r)) ∧
  (∀ (s : State) (c : Instr) (r : MgmtReq) (k : BitVec 8) (o : BitVec 32) (d : List Byte) (m : MgmtCmd) (a size : Nat),
    (c = .formulaStage r k o d ∧ m = .formulaStage k o d ∧ a = fmlSlotBase k.toNat + o.toNat ∧ size = fmlSlotSize ∧
        s.directory.fmlActive ≠ k.toNat ∨
      c = .fwStage r k o d ∧ m = .fwStage k o d ∧ a = fwSlotBase k.toNat + o.toNat ∧ size = fwSlotSize ∧
        s.directory.fwActive ≠ k.toNat) →
    s.takes r m → k.toNat ≤ 1 → o.toNat % 256 = 0 → o.toNat + d.length ≤ size → 1 ≤ d.length → d.length ≤ 65512 →
    s.mgmt.flashAbsent = false →
    Leaves (exec c s) fun u =>
      u.repliedTo r m (if memRange u.mgmt.flash a d.length = d then St.OK else St.FLASH_ERROR) 0 [] ∧
      u.mgmt.fuses = s.mgmt.fuses ∧ u.fml = s.fml ∧ u.regsBut s (dirRegs ++ mgmtRegs r)) ∧
  (∀ (s : State) (c : Instr) (r : MgmtReq) (k : BitVec 8) (o : BitVec 32) (d : List Byte) (m : MgmtCmd) (size : Nat),
    s.quiet = true →
    (c = .formulaStage r k o d ∧ m = .formulaStage k o d ∧ size = fmlSlotSize ∧ s.directory.fmlActive = k.toNat ∨
      c = .fwStage r k o d ∧ m = .fwStage k o d ∧ size = fwSlotSize ∧ s.directory.fwActive = k.toNat) →
    s.takes r m → k.toNat ≤ 1 → o.toNat % 256 = 0 → o.toNat + d.length ≤ size → 1 ≤ d.length → d.length ≤ 65512 →
    Answers (exec c s) fun t => t.turnsAway s r m St.IN_USE) ∧
  (∀ (s : State) (r : MgmtReq) (k : BitVec 8) (f : Formula), s.takes r (.formulaCommit k 1) → k.toNat ≤ 1 →
    (s.md = .serve ∨ s.inRecovery = true) → s.validateSlot k.toNat r.v.sig = .inl f →
    Leaves (exec (.formulaCommitNextBoot r k) s) fun u =>
      u.repliedTo r (.formulaCommit k 1) St.OK 0 [] ∧
      u.mgmt.flash = writeDirectory s.mgmt.flash (fun d => { d with fmlPending := k.toNat, fmlPendingValid := true }) ∧
      u.reg Reg.MG_FML_ERR = 0 ∧ u.fml = s.fml ∧ u.md = s.md ∧ u.mgmt.fuses = s.mgmt.fuses ∧
      u.regsBut s (Reg.MG_FML_ERR :: Reg.CHIP_BOOT_STATUS :: (dirRegs ++ mgmtRegs r))) ∧
  (∀ (s : State) (r : MgmtReq) (k : BitVec 8) (e : FmlErr), s.takes r (.formulaCommit k 1) → k.toNat ≤ 1 →
    (s.md = .serve ∨ s.inRecovery = true) → s.validateSlot k.toNat r.v.sig = .inr e →
    Leaves (exec (.formulaCommitNextBoot r k) s) fun u =>
      u.repliedTo r (.formulaCommit k 1) St.INVALID (u.reg Reg.MG_FML_ERR).toNat [] ∧
      u.rd Reg.MG_FML_ERR Fld.MG_FML_ERR.CODE = e.code % 2 ^ Fld.MG_FML_ERR.CODE.width ∧ u.mgmt.flash = s.mgmt.flash ∧
      u.regsBut s (Reg.MG_FML_ERR :: Reg.CHIP_BOOT_STATUS :: mgmtRegs r)) ∧
  (∀ (s : State) (r : MgmtReq) (k : BitVec 8), s.quiet = true → s.takes r (.formulaCommit k 1) → k.toNat ≤ 1 →
    s.md ≠ .serve → s.inRecovery = false →
    Answers (exec (.formulaCommitNextBoot r k) s) fun t => t.turnsAway s r (.formulaCommit k 1) St.MODE) ∧
  (∀ (s : State) (r : MgmtReq) (k : BitVec 8) (f g : Formula), s.takes r (.formulaCommit k 0) → k.toNat ≤ 1 → s.md = .serve →
    s.fml.inForce = some g → s.validateSlot k.toNat r.v.sig = .inl f → chipwideChange g f = false → s.arrayEmpty →
    s.decant = [] →
    Leaves (exec (.formulaCommitLive r k) s) fun u =>
      u.repliedTo r (.formulaCommit k 0) St.OK 0 [] ∧ u.entered s .recompose 0x08 ∧ u.recomposePhase = 3 ∧
      u.fml.next = some (f, k.toNat) ∧ u.fml.inForce = some g ∧
      (∀ i < 32, u.on (Reg.FL_STATUS i) Fld.FL_STATUS.AFFECTED = !sameRecords g f i) ∧ u.mgmt.flash = s.mgmt.flash) ∧
  (∀ (s : State) (r : MgmtReq) (k : BitVec 8) (f g : Formula), s.takes r (.formulaCommit k 0) → k.toNat ≤ 1 → s.md = .serve →
    s.fml.inForce = some g → s.validateSlot k.toNat r.v.sig = .inl f → chipwideChange g f = true →
    Leaves (exec (.formulaCommitLive r k) s) fun u =>
      u.repliedTo r (.formulaCommit k 0) St.INVALID 0x0701 [] ∧ u.md = .serve ∧ u.fml = s.fml) ∧
  (∀ (s : State) (r : MgmtReq) (k : BitVec 8), s.quiet = true → s.takes r (.formulaCommit k 0) → k.toNat ≤ 1 →
    s.md ≠ .serve →
    Answers (exec (.formulaCommitLive r k) s) fun t =>
      t.repliedTo r (.formulaCommit k 0) St.INVALID (if s.md = .recompose then 0x0702 else 0x0703) [] ∧ t.md = s.md ∧
      t.fml = s.fml ∧ t.regsBut s (mgmtRegs r)) ∧
  (∀ (s : State) (r : MgmtReq) (k : BitVec 8), s.takes r (.fwCommit k) → k.toNat ≤ 1 → s.serveOrRecovery = true →
    fwCheck (fwImage s.mgmt.flash k.toNat) s.mgmt.fuses r.v.sig = none →
    Leaves (exec (.fwCommit r k) s) fun u =>
      u.repliedTo r (.fwCommit k) St.OK 0 [] ∧
      u.mgmt.flash = writeDirectory s.mgmt.flash (fun d => { d with fwPending := k.toNat, fwPendingValid := true }) ∧
      u.md = s.md ∧ u.fml = s.fml ∧ u.regsBut s (dirRegs ++ mgmtRegs r)) ∧
  (∀ (s : State) (r : MgmtReq) (k : BitVec 8) (n : Nat), s.quiet = true → s.takes r (.fwCommit k) → k.toNat ≤ 1 →
    s.serveOrRecovery = true → fwCheck (fwImage s.mgmt.flash k.toNat) s.mgmt.fuses r.v.sig = some n →
    Answers (exec (.fwCommit r k) s) fun t =>
      t.repliedTo r (.fwCommit k) St.INVALID n [] ∧ t.mgmt.flash = s.mgmt.flash ∧ t.regsBut s (mgmtRegs r))

/-- Keys, fuses and the Keep stack (R431, R432, R437, R440, R441): OWNER_KEY, FUSE_PROGRAM, SEAL_REARM and KEEP_ERASE. -/
def Obligations.KeysAndFuses : Prop :=
  (∀ (s : State) (r : MgmtReq) (k : BitVec 8) (key : List Byte) (i : Nat) (f : Formula), s.takes r (.ownerKey k key) →
    key.length = 1793 → k.toNat ≤ 1 → s.serveOrRecovery = true →
    (s.mgmt.fuses.lifecycle = 1 ∨ (ownerDigest s.mgmt.fuses).isSome = true ∧ r.v.sig = true) → s.mgmt.fuses.freeEntry i →
    s.directory.fmlActive ≠ k.toNat →
    validate (slotImage s.mgmt.flash k.toNat) s.mgmt.fuses.serial.toNat (some (shake256 key)) r.v.sig2 = .inl f →
    Leaves (exec (.ownerKey r k key) s) fun u =>
      u.repliedTo r (.ownerKey k key) St.OK 0 [] ∧ tabFind u.mgmt.fuses.ownerKey i = some (shake256 key) ∧
      (∀ j, ownerEntry s.mgmt.fuses = some j → u.mgmt.fuses.ownerRevoke.getLsbD j = true) ∧
      u.mgmt.fuses.lifecycle = (if s.mgmt.fuses.lifecycle = 1 then 3 else s.mgmt.fuses.lifecycle) ∧
      u.mgmt.flash = writeDirectory s.mgmt.flash (fun d => { d with fmlPending := k.toNat, fmlPendingValid := true }) ∧
      u.fml = s.fml ∧ u.md = s.md) ∧
  (∀ (s : State) (r : MgmtReq) (k : BitVec 8) (key : List Byte), s.quiet = true → s.takes r (.ownerKey k key) →
    key.length = 1793 → k.toNat ≤ 1 → s.serveOrRecovery = true → s.mgmt.fuses.lifecycle ≠ 1 →
    (ownerDigest s.mgmt.fuses = none ∨ r.v.sig = false) →
    Answers (exec (.ownerKey r k key) s) fun t => t.turnsAway s r (.ownerKey k key) St.BAD_SIGNATURE) ∧
  (∀ (s : State) (r : MgmtReq) (x : BitVec 32), s.takes r (.fuseProgram 1 x) → s.serveOrRecovery = true →
    ((s.mgmt.fuses.lifecycle = 1 ∨ s.mgmt.fuses.lifecycle = 3) ∧ (x = 7 ∨ x = 15) ∨
      s.mgmt.fuses.lifecycle = 0 ∧ x = 1 ∧ s.mgmt.fuses.serial ≠ 0 ∧ s.mgmt.fuses.seed ≠ 0 ∧
        s.mgmt.fuses.vendorKey ≠ []) →
    Leaves (exec (.fuseProgramLifecycle r x) s) fun u =>
      u.repliedTo r (.fuseProgram 1 x) St.OK 0 [] ∧
      u.mgmt.fuses = { s.mgmt.fuses with lifecycle := x.setWidth 4 } ∧
      u.rd Reg.MG_LIFECYCLE Fld.MG_LIFECYCLE.STATE = x.toNat ∧ u.regsBut s (fuseRegs ++ mgmtRegs r)) ∧
  (∀ (s : State) (r : MgmtReq) (x : BitVec 32), s.quiet = true → s.takes r (.fuseProgram 1 x) → s.serveOrRecovery = true →
    ¬((s.mgmt.fuses.lifecycle = 1 ∨ s.mgmt.fuses.lifecycle = 3) ∧ (x = 7 ∨ x = 15) ∨
      s.mgmt.fuses.lifecycle = 0 ∧ x = 1 ∧ s.mgmt.fuses.serial ≠ 0 ∧ s.mgmt.fuses.seed ≠ 0 ∧
        s.mgmt.fuses.vendorKey ≠ []) →
    Answers (exec (.fuseProgramLifecycle r x) s) fun t => t.turnsAway s r (.fuseProgram 1 x) St.LIFECYCLE) ∧
  (∀ (s : State) (r : MgmtReq) (x : BitVec 32), s.takes r (.fuseProgram 2 x) → s.serveOrRecovery = true → x.toNat ≤ 64 →
    s.mgmt.fuses.minSvn ≤ x.toNat →
    Leaves (exec (.fuseProgramMinSvn r x) s) fun u =>
      u.repliedTo r (.fuseProgram 2 x) St.OK 0 [] ∧ u.mgmt.fuses = { s.mgmt.fuses with minSvn := x.toNat } ∧
      u.rd Reg.MG_LIFECYCLE Fld.MG_LIFECYCLE.MIN_SVN = x.toNat % 2 ^ Fld.MG_LIFECYCLE.MIN_SVN.width ∧
      u.regsBut s (fuseRegs ++ mgmtRegs r)) ∧
  (∀ (s : State) (r : MgmtReq) (x : BitVec 32), s.quiet = true → s.takes r (.fuseProgram 2 x) → s.serveOrRecovery = true →
    x.toNat ≤ 64 → x.toNat < s.mgmt.fuses.minSvn →
    Answers (exec (.fuseProgramMinSvn r x) s) fun t => t.turnsAway s r (.fuseProgram 2 x) St.FUSE_ERROR) ∧
  (∀ (s : State) (r : MgmtReq) (x : BitVec 32) (i : Nat), s.takes r (.fuseProgram 3 x) → s.serveOrRecovery = true →
    x.toNat < 16 → x.toNat &&& s.mgmt.fuses.vendorRevoke.toNat = s.mgmt.fuses.vendorRevoke.toNat → i < 4 →
    (tabFind s.mgmt.fuses.vendorKey i).isSome = true → s.mgmt.fuses.badEntries.getLsbD i = false →
    x.toNat.testBit i = false →
    Leaves (exec (.fuseProgramVendorRevoke r x) s) fun u =>
      u.repliedTo r (.fuseProgram 3 x) St.OK 0 [] ∧ u.mgmt.fuses = { s.mgmt.fuses with vendorRevoke := x.setWidth 4 } ∧
      u.rd Reg.MG_LIFECYCLE Fld.MG_LIFECYCLE.VENDOR_REVOKE = x.toNat ∧ u.regsBut s (fuseRegs ++ mgmtRegs r)) ∧
  (∀ (s : State) (r : MgmtReq) (x : BitVec 32), s.quiet = true → s.takes r (.fuseProgram 3 x) → s.serveOrRecovery = true →
    x.toNat < 16 →
    (x.toNat &&& s.mgmt.fuses.vendorRevoke.toNat ≠ s.mgmt.fuses.vendorRevoke.toNat ∨
      ∀ i < 4, (tabFind s.mgmt.fuses.vendorKey i).isSome = true → s.mgmt.fuses.badEntries.getLsbD i = false →
        x.toNat.testBit i = true) →
    Answers (exec (.fuseProgramVendorRevoke r x) s) fun t => t.turnsAway s r (.fuseProgram 3 x) St.FUSE_ERROR) ∧
  (∀ (s : State) (r : MgmtReq), s.takes r .sealRearm → s.pins.sealOpen = false →
    (ownerDigest s.mgmt.fuses).isSome = true → r.v.sig = true → s.mgmt.fuses.sealRearms ≠ s.mgmt.fuses.sealEvents →
    s.mgmt.fuses.sealRearms < 15 →
    Leaves (exec (.sealRearm r) s) fun u =>
      u.repliedTo r .sealRearm St.OK 0 [] ∧
      u.mgmt.fuses = { s.mgmt.fuses with sealRearms := s.mgmt.fuses.sealRearms + 1 } ∧
      u.rd Reg.MG_SEAL Fld.MG_SEAL.REARMS = s.mgmt.fuses.sealRearms + 1 ∧
      (u.on Reg.MG_SEAL Fld.MG_SEAL.SEAL_BROKEN = true ↔
        (s.on Reg.MG_SEAL Fld.MG_SEAL.FUSE_PENDING = true ∨ s.mgmt.fuses.sealRearms + 1 < s.mgmt.fuses.sealEvents)) ∧
      u.regsBut s (fuseRegs ++ mgmtRegs r)) ∧
  (∀ (s : State) (r : MgmtReq) (x : Nat), s.quiet = true → s.takes r .sealRearm →
    (s.pins.sealOpen = true ∧ x = St.SEALED ∨
      s.pins.sealOpen = false ∧ (ownerDigest s.mgmt.fuses = none ∨ r.v.sig = false) ∧ x = St.BAD_SIGNATURE ∨
      s.pins.sealOpen = false ∧ (ownerDigest s.mgmt.fuses).isSome = true ∧ r.v.sig = true ∧
        (s.mgmt.fuses.sealRearms = s.mgmt.fuses.sealEvents ∨ 15 ≤ s.mgmt.fuses.sealRearms) ∧ x = St.FUSE_ERROR) →
    Answers (exec (.sealRearm r) s) fun t => t.turnsAway s r .sealRearm x) ∧
  (∀ (s : State) (r : MgmtReq), s.takes r .keepErase → (s.inRecovery = true ∨ s.md = .linktest) →
    Leaves (exec (.keepErase r) s) fun u =>
      u.repliedTo r .keepErase St.OK 0 [] ∧ u.keep.tables = none ∧ u.keep.held = [] ∧ u.retention = none ∧
      u.on Reg.CHIP_MODE Fld.CHIP_MODE.RETAIN_VALID = false ∧ u.md = s.md ∧ u.regsBut s (Reg.CHIP_MODE :: mgmtRegs r)) ∧
  (∀ (s : State) (r : MgmtReq), s.quiet = true → s.takes r .keepErase → s.inRecovery = false → s.md ≠ .linktest →
    Answers (exec (.keepErase r) s) fun t =>
      t.turnsAway s r .keepErase St.MODE ∧ t.keep = s.keep ∧ t.retention = s.retention)

/-- MPORT, the I3C target and MCTP (R371, R413, R415 to R417, R456). -/
def Obligations.ManagementPaths : Prop :=
  (∀ (s : State), s.quiet = true → s.pathUp 0 = true →
    Answers (exec .mailboxGoWhileBusy s) fun t =>
      t.on Reg.MBX_STATUS Fld.MBX_STATUS.GO_ERR = true ∧ t.mgmt = s.mgmt ∧ t.regsBut s [Reg.MBX_STATUS]) ∧
  (∀ (s : State), s.quiet = true → s.pathUp 0 = true →
    Answers (exec .mportFlr s) fun t =>
      t.mgmt.respBuf = [] ∧ t.on Reg.MBX_STATUS Fld.MBX_STATUS.DONE = false ∧ t.mgmt.flash = s.mgmt.flash ∧
      t.regsBut s [Reg.MBX_STATUS]) ∧
  (∀ (s : State), s.quiet = true →
    Answers (exec .mportLinkDown s) fun t =>
      t.reaches .bar0 = false ∧ t.pathUp 0 = false ∧ t.pathUp 1 = false ∧ t.pathUp 2 = s.pathUp 2 ∧ t.regsBut s []) ∧
  (∀ (s : State) (a : BitVec 32) (x : Nat) (k : RegRow), s.md ≠ .retain → s.pathUp 2 = true →
    s.opensAt (.mgmt 2) a.toNat 8 x → rowAt x = some k → k.wide = true →
    Leaves (exec (.i3cRead a) s) fun u =>
      Out.i3c (bytesOf 8 ((s.releaseLatch (.mgmt 2) x).shown x).toNat) ∈ u.out ∧
      u.reg x = clearRc k.fields 0 (s.reg x) ∧ u.regsBut s [x]) ∧
  (∀ (s : State) (a : BitVec 32) (x : Nat) (k : RegRow), s.quiet = true → s.md = .retain →
    wordAt a.toNat = some (k, x, false) → wordAt (a.toNat + 4) = some (k, x, true) →
    Answers (exec (.i3cRead a) s) fun t =>
      (x ∈ retainShown → Out.i3c (bytesOf 4 ((s.shown x).toNat % 2 ^ 32) ++ bytesOf 4 ((s.shown x).toNat / 2 ^ 32)) ∈ t.out) ∧
      (x ∉ retainShown → Out.i3c (List.replicate 8 0) ∈ t.out) ∧ t.regsBut s []) ∧
  (∀ (s : State) (l : List Byte) (v : MgmtVerdict), s.quiet = true → s.pathUp 2 = true →
    (s.mgmt.i3cReq ++ l).length ≤ 65536 →
    Answers (exec (.i3cRequest l false v) s) fun t =>
      t.mgmt.i3cReq = s.mgmt.i3cReq ++ l ∧ t.mgmt.i3cResp = s.mgmt.i3cResp ∧ t.regsBut s []) ∧
  (∀ (s : State) (l : List Byte) (g : Word) (v : MgmtVerdict), s.quiet = true →
    s.hears { path := 2, tag := g, v := v } →
    s.mgmt.i3cReq ++ l = bytesOf 2 0x0001 ++ bytesOf 1 1 ++ bytesOf 1 0 ++ bytesOf 4 0 ++ bytesOf 8 g.toNat →
    Answers (exec (.i3cRequest l true v) s) fun t =>
      t.mgmt.i3cReq = [] ∧ Out.response 2 0x0001 St.OK g 0 s.identifyBody ∈ t.out ∧
      t.mgmt.i3cResp = bytesOf 2 0x0001 ++ bytesOf 2 St.OK ++ bytesOf 4 s.identifyBody.length ++ bytesOf 8 g.toNat ++
        bytesOf 8 0 ++ s.identifyBody ∧ t.regsBut s [Reg.MG_PATH_CNT 2]) ∧
  (∀ (s : State) (l : List Byte) (v : MgmtVerdict) (q : Parsed), s.quiet = true →
    s.hears { path := 2, tag := q.tag, v := v } → 65536 < (s.mgmt.i3cReq ++ l).length →
    q = parseRequest true ((s.mgmt.i3cReq ++ l).take 65536) → isUnknown q.cmd = false →
    Answers (exec (.i3cRequest l true v) s) fun t =>
      t.mgmt.i3cReq = [] ∧ Out.response 2 (mgmtOpcode q.cmd) St.BAD_LENGTH q.tag 0 [] ∈ t.out ∧
      t.regsBut s [Reg.MG_PATH_CNT 2]) ∧
  (∀ (s : State), s.quiet = true → s.pathUp 2 = true →
    Answers (exec .i3cResponse s) fun t => Out.i3c s.mgmt.i3cResp ∈ t.out ∧ t.mgmt = s.mgmt ∧ t.regsBut s []) ∧
  (∀ (s : State) (c : Instr) (a : BitVec 7), s.quiet = true → s.pathUp 2 = true →
    c ∈ [Instr.i3cSetdasa a, .i3cEntdaa a] →
    Answers (exec c s) fun t =>
      t.rd Reg.MG_I3C Fld.MG_I3C.DYN_ADDR = a.toNat ∧ t.on Reg.MG_I3C Fld.MG_I3C.DYN_VALID = true ∧
      t.rd Reg.MG_I3C Fld.MG_I3C.STATIC_ADDR = s.rd Reg.MG_I3C Fld.MG_I3C.STATIC_ADDR ∧ t.regsBut s [Reg.MG_I3C]) ∧
  (∀ (s : State) (p : Fin 4) (e : BitVec 8), s.quiet = true → s.pathUp p = true → (p = 1 ∨ p = 3) →
    Answers (exec (.mctpSetEndpointId p e) s) fun t =>
      tabFind t.mgmt.mctpEid p.val = some e.toNat ∧ (∀ k, k ≠ p.val → tabFind t.mgmt.mctpEid k = tabFind s.mgmt.mctpEid k) ∧
      t.regsBut s [])

/-- The presence window and the seal (R436, R439). -/
def Obligations.PresenceAndSeal : Prop :=
  (∀ (s : State), s.quiet = true → s.md ≠ .off → s.pins.presenceN = true → s.mgmt.presenceArmed = true →
    s.on Reg.MG_SEAL Fld.MG_SEAL.SEAL_BROKEN = false →
    Answers (exec .presencePress s) fun t =>
      t.on Reg.MG_PRESENCE Fld.MG_PRESENCE.OPEN = true ∧ t.on Reg.MG_PRESENCE Fld.MG_PRESENCE.LEVEL = true ∧
      t.mgmt.presenceAt = s.now ∧ t.pins.presenceN = false ∧
      t.rd Reg.MG_PRESENCE Fld.MG_PRESENCE.PRESSES =
        min (2 ^ Fld.MG_PRESENCE.PRESSES.width - 1) (s.rd Reg.MG_PRESENCE Fld.MG_PRESENCE.PRESSES + 1) ∧
      (s.mgmt.mportUp = true → s.on Reg.MG_PRESENCE Fld.MG_PRESENCE.OPEN = false → Out.msix 2 ∈ t.out) ∧
      t.regsBut s [Reg.MG_PRESENCE]) ∧
  (∀ (s : State), s.quiet = true → s.md ≠ .off →
    (s.pins.presenceN = false ∨ s.mgmt.presenceArmed = false ∨ s.on Reg.MG_SEAL Fld.MG_SEAL.SEAL_BROKEN = true) →
    Answers (exec .presencePress s) fun t =>
      t.on Reg.MG_PRESENCE Fld.MG_PRESENCE.OPEN = s.on Reg.MG_PRESENCE Fld.MG_PRESENCE.OPEN ∧
      t.mgmt.presenceAt = s.mgmt.presenceAt ∧ t.regsBut s [Reg.MG_PRESENCE]) ∧
  (∀ (s : State), s.quiet = true → s.md ≠ .off →
    Answers (exec .presenceRelease s) fun t =>
      t.mgmt.presenceArmed = true ∧ t.pins.presenceN = true ∧ t.on Reg.MG_PRESENCE Fld.MG_PRESENCE.LEVEL = false ∧
      t.on Reg.MG_PRESENCE Fld.MG_PRESENCE.OPEN = s.on Reg.MG_PRESENCE Fld.MG_PRESENCE.OPEN ∧ t.regsBut s [Reg.MG_PRESENCE]) ∧
  (∀ (s : State), s.quiet = true →
    Answers (exec .presenceWindowExpiry s) fun t =>
      t.on Reg.MG_PRESENCE Fld.MG_PRESENCE.OPEN = false ∧
      (s.mgmt.mportUp = true → s.on Reg.MG_PRESENCE Fld.MG_PRESENCE.OPEN = true → Out.msix 2 ∈ t.out) ∧
      t.regsBut s [Reg.MG_PRESENCE]) ∧
  (∀ (s : State) (p : AccessPath), s.quiet = true → s.mayAct p = true →
    Answers (exec (.presenceClose p) s) fun t =>
      t.on Reg.MG_PRESENCE Fld.MG_PRESENCE.OPEN = false ∧
      (s.mgmt.mportUp = true → s.on Reg.MG_PRESENCE Fld.MG_PRESENCE.OPEN = true → Out.msix 2 ∈ t.out) ∧
      t.regsBut s [Reg.MG_PRESENCE]) ∧
  (∀ (s : State), s.md ≠ .off → s.pins.vaux = true → s.on Reg.MG_SEAL Fld.MG_SEAL.LOOP_OPEN = false →
    Leaves (exec .sealBreak s) fun u =>
      u.on Reg.MG_SEAL Fld.MG_SEAL.SEAL_BROKEN = true ∧ u.on Reg.MG_SEAL Fld.MG_SEAL.LOOP_OPEN = true ∧
      u.on Reg.MG_SEAL Fld.MG_SEAL.FUSE_PENDING = true ∧ u.on Reg.MG_PRESENCE Fld.MG_PRESENCE.OPEN = false ∧
      u.pins.sealOpen = true ∧ (s.mgmt.mportUp = true → Out.msix 3 ∈ u.out) ∧ u.hasRaised Src.MG_SEAL_BROKEN none ∧
      u.mgmt.fuses = s.mgmt.fuses ∧ u.regsBut s [Reg.MG_SEAL, Reg.MG_PRESENCE]) ∧
  (∀ (s : State), s.quiet = true → s.md ≠ .off → s.pins.vaux = true →
    Answers (exec .sealLoopClose s) fun t =>
      t.on Reg.MG_SEAL Fld.MG_SEAL.LOOP_OPEN = false ∧ t.pins.sealOpen = false ∧
      t.on Reg.MG_SEAL Fld.MG_SEAL.SEAL_BROKEN = s.on Reg.MG_SEAL Fld.MG_SEAL.SEAL_BROKEN ∧ t.regsBut s [Reg.MG_SEAL]) ∧
  (∀ (s : State), s.quiet = true → s.md.clocked = true → s.on Reg.MG_SEAL Fld.MG_SEAL.FUSE_PENDING = true →
    Answers (exec .sealEventFuseProgrammed s) fun t =>
      t.mgmt.fuses.sealEvents = min 15 (s.mgmt.fuses.sealEvents + 1) ∧
      t.rd Reg.MG_SEAL Fld.MG_SEAL.EVENTS = min 15 (s.mgmt.fuses.sealEvents + 1) ∧
      t.on Reg.MG_SEAL Fld.MG_SEAL.FUSE_PENDING = false ∧
      (t.on Reg.MG_SEAL Fld.MG_SEAL.SEAL_BROKEN = true ↔ s.mgmt.fuses.sealRearms < min 15 (s.mgmt.fuses.sealEvents + 1)) ∧
      t.regsBut s fuseRegs) ∧
  (∀ (s : State), s.quiet = true → s.on Reg.MG_SEAL Fld.MG_SEAL.FUSE_PENDING = false →
    Answers (exec .sealEventFuseProgrammed s) fun t => t.mgmt = s.mgmt ∧ t.regsBut s [])

/-- A step takes the command at the front of the queue: it is that command's effect on the state with the queue's rest. -/
def Obligations.StepTakesFront : Prop :=
  ∀ (s : State) (c : Instr), step { s with pending := c :: s.pending } = exec c s

/-- An empty queue lets a beat pass, or an AOCLK tick where the main clocks stand still with VAUX present (R22 to R24).
The model's choice of when that happens is its own (assumption 13). -/
def Obligations.EmptyQueueTicks : Prop :=
  (∀ (s : State), s.pending = [] → s.quiet = true → s.md.clocked = true → s.ports = [] → s.time.withheld = 0 →
    s.on Reg.CHIP_CLK_STATUS Fld.CHIP_CLK_STATUS.ROOT_LOCK = true →
    Answers (step s) fun t =>
      t.beat = min (2 ^ Fld.CHIP_BEAT.BEAT.width - 1) (s.beat + 1) ∧ t.now = min (2 ^ 64 - 1) (s.now + 16) ∧
      t.pending = [] ∧ t.regsBut s [Reg.CHIP_BEAT, Reg.CHIP_TIME]) ∧
  (∀ (s : State), s.pending = [] → s.quiet = true → s.md.clocked = true → s.time.withheld = 0 →
    s.on Reg.CHIP_CLK_STATUS Fld.CHIP_CLK_STATUS.ROOT_LOCK = false →
    Answers (step s) fun t =>
      t.beat = s.beat ∧ t.now = min (2 ^ 64 - 1) (s.now + 16) ∧ t.pending = [] ∧ t.regsBut s [Reg.CHIP_TIME]) ∧
  (∀ (s : State), s.pending = [] → s.quiet = true → s.md.clocked = false → s.md ≠ .off → s.pins.vaux = true →
    Answers (step s) fun t =>
      t.now = min (2 ^ 64 - 1) (s.now + 64) ∧ t.beat = s.beat ∧ t.pending = [] ∧ t.regsBut s [Reg.CHIP_TIME, Reg.KS_RETAIN_STATUS]) ∧
  (∀ (s : State), s.pending = [] → s.quiet = true → s.md.clocked = false → (s.md = .off ∨ s.pins.vaux = false) →
    Answers (step s) fun t => t.now = s.now ∧ t.beat = s.beat ∧ t.regsBut s [])

/-- The machine at reset: RESET mode with no command waiting, no Formula in force, no time passed, the identification and
the thresholds of the register tables, and the invariants of the other statements. -/
def Obligations.ResetState : Prop :=
  State.reset.md = .reset ∧ State.reset.pending = [] ∧ State.reset.fml.inForce = none ∧ State.reset.home = [] ∧
    State.reset.out = [] ∧ State.reset.now = 0 ∧ State.reset.beat = 0 ∧ State.reset.pinsFollow = true ∧
    State.reset.quiet = true ∧ Memory.wf State.reset.mgmt.flash = true ∧
    State.reset.reg Reg.CHIP_ID = 0x0880A150 ∧ State.reset.rd Reg.PC_SUPV Fld.PC_SUPV.PWRWARN_MV = 10800 ∧
    State.reset.rd Reg.PC_SUPV Fld.PC_SUPV.RESET_MV = 9000 ∧ State.reset.rd Reg.FC_PIN_LEVEL Fld.FC_PIN_LEVEL.LEVEL = 2 ∧
    State.reset.rd Reg.FC_PIN_LEVEL Fld.FC_PIN_LEVEL.ALERT_LEVEL = 1

/-- Whatever the state and whatever a step does in it, the step leaves FAULT_N and ALERT_N at the levels of R393 and R394:
low exactly while a fault at or above the pin's level stands that is not of a source fixed at S0 (R177), held in FROZEN, released in OFF, RESET and RETAIN. -/
def Obligations.PinsFollowEveryStep : Prop :=
  ∀ (s t : State), step s = .next t →
    (t.md ≠ .frozen →
      (t.flt.faultLow = true ↔
        t.md.drivesFault = true ∧
          ((∃ e ∈ t.flt.src, e.2.pending = true ∧ t.rd Reg.FC_PIN_LEVEL Fld.FC_PIN_LEVEL.LEVEL ≤ e.2.recSev ∧
              pinless e.1 e.2.recSev = false) ∨
            (t.rd Reg.FC_PIN_LEVEL Fld.FC_PIN_LEVEL.LEVEL ≤ 2 ∧
              ∃ f < 32, t.on (Reg.FL_STATUS f) Fld.FL_STATUS.FENCED = true) ∨ t.flt.quar = true)) ∧
      (t.flt.alertLow = true ↔
        t.md.drivesFault = true ∧ t.on Reg.FC_ALERT Fld.FC_ALERT.PENDING = true)) ∧
    t.pinsFollow = true
end

