-- ==== Sys2Proof/Laws/Tab.lean ====
section
/-!
SUPPORT. Laws/Tab.lean: what reading a table gives after a write or a removal, and that both keep the keys rising.
-/
namespace Sys2Proof.Machine

variable {α : Type}

@[simp] theorem tabFind_nil (k : Nat) : tabFind ([] : Tab α) k = none := rfl

theorem tabFind_cons (j k : Nat) (v : α) (r : Tab α) :
    tabFind ((j, v) :: r) k = if j = k then some v else tabFind r k := rfl

/-- Reading after a write. -/
theorem tabFind_tabPut (t : Tab α) (k j : Nat) (v : α) :
    tabFind (tabPut t k v) j = if j = k then some v else tabFind t j := by
  induction t with
  | nil =>
    by_cases h : j = k
    · simp [tabPut, tabFind, h]
    · simp [tabPut, tabFind, h, Ne.symm h]
  | cons e r ih =>
    obtain ⟨i, w⟩ := e
    unfold tabPut
    split
    · by_cases h : j = k
      · simp [tabFind, h]
      · simp [tabFind, h, Ne.symm h]
    · split
      · rename_i hk
        subst hk
        by_cases h : j = k
        · simp [tabFind, h]
        · simp [tabFind, h, Ne.symm h]
      · rename_i h1 h2
        by_cases h : i = j
        · subst h
          have : ¬ i = k := fun e => h2 e.symm
          simp [tabFind, this]
        · simp [tabFind, h, ih]

/-- Reading after a removal. -/
theorem tabFind_tabDel (t : Tab α) (k j : Nat) :
    tabFind (tabDel t k) j = if j = k then none else tabFind t j := by
  induction t with
  | nil => simp [tabDel]
  | cons e r ih =>
    obtain ⟨i, w⟩ := e
    unfold tabDel
    by_cases hi : i = k
    · subst hi
      by_cases h : j = i
      · subst h
        simpa using ih
      · simp [ih, h, tabFind, Ne.symm h]
    · by_cases h : i = j
      · subst h
        simp [hi, tabFind]
      · simp [hi, tabFind, h, ih]

theorem tabGet_tabPut (t : Tab α) (k j : Nat) (v d : α) :
    tabGet (tabPut t k v) j d = if j = k then v else tabGet t j d := by
  unfold tabGet
  rw [tabFind_tabPut]
  split <;> rfl

theorem tabGet_tabDel (t : Tab α) (k j : Nat) (d : α) :
    tabGet (tabDel t k) j d = if j = k then d else tabGet t j d := by
  unfold tabGet
  rw [tabFind_tabDel]
  split <;> rfl

/-- Every key of a table lies above n. -/
def tabAbove (n : Nat) (t : Tab α) : Bool := t.all fun e => decide (n < e.1)

theorem tabSorted_cons (j : Nat) (v : α) (r : Tab α) :
    tabSorted ((j, v) :: r) = true ↔ (tabAbove j r = true ∧ tabSorted r = true) := by
  induction r generalizing j v with
  | nil => simp [tabSorted, tabAbove]
  | cons e r ih =>
    obtain ⟨k, w⟩ := e
    have step : tabSorted ((j, v) :: (k, w) :: r) = (decide (j < k) && tabSorted ((k, w) :: r)) := rfl
    rw [step, Bool.and_eq_true, decide_eq_true_iff, ih k w]
    simp only [tabAbove, List.all_cons, Bool.and_eq_true, decide_eq_true_iff, List.all_eq_true]
    constructor
    · rintro ⟨h, ha, hs⟩
      exact ⟨⟨h, fun x hx => Nat.lt_trans h (ha x hx)⟩, ha, hs⟩
    · rintro ⟨⟨h, _⟩, ha, hs⟩
      exact ⟨h, ha, hs⟩

/-- What holds of every entry and of the value written holds of every entry after a write. -/
theorem all_tabPut (p : Nat × α → Bool) (t : Tab α) (k : Nat) (v : α) (h : t.all p = true) (hv : p (k, v) = true) :
    (tabPut t k v).all p = true := by
  induction t with
  | nil => simp [tabPut, hv]
  | cons e r ih =>
    obtain ⟨i, w⟩ := e
    simp only [List.all_cons, Bool.and_eq_true] at h
    unfold tabPut
    split
    · simp [hv, h.1, h.2]
    · split
      · simp [hv, h.2]
      · simp [h.1, ih h.2]

theorem all_tabDel (p : Nat × α → Bool) (t : Tab α) (k : Nat) (h : t.all p = true) : (tabDel t k).all p = true := by
  induction t with
  | nil => rfl
  | cons e r ih =>
    obtain ⟨i, w⟩ := e
    simp only [List.all_cons, Bool.and_eq_true] at h
    unfold tabDel
    split
    · exact ih h.2
    · simp [h.1, ih h.2]

theorem tabAbove_tabPut (n k : Nat) (v : α) (t : Tab α) (hk : n < k) (h : tabAbove n t = true) :
    tabAbove n (tabPut t k v) = true := all_tabPut _ t k v h (by simpa using hk)

theorem tabAbove_tabDel (n k : Nat) (t : Tab α) (h : tabAbove n t = true) : tabAbove n (tabDel t k) = true :=
  all_tabDel _ t k h

/-- A write keeps the keys rising. -/
theorem tabSorted_tabPut (t : Tab α) (k : Nat) (v : α) (h : tabSorted t = true) : tabSorted (tabPut t k v) = true := by
  induction t with
  | nil => rfl
  | cons e r ih =>
    obtain ⟨i, w⟩ := e
    obtain ⟨ha, hs⟩ := (tabSorted_cons i w r).1 h
    unfold tabPut
    split
    · rename_i hk
      refine (tabSorted_cons k v _).2 ⟨?_, h⟩
      simp only [tabAbove, List.all_cons, Bool.and_eq_true, decide_eq_true_iff, List.all_eq_true] at ha ⊢
      exact ⟨hk, fun x hx => Nat.lt_trans hk (ha x hx)⟩
    · split
      · rename_i _ hk
        subst hk
        exact (tabSorted_cons k v r).2 ⟨ha, hs⟩
      · exact (tabSorted_cons i w _).2 ⟨tabAbove_tabPut i k v r (by omega) ha, ih hs⟩

/-- A removal keeps the keys rising. -/
theorem tabSorted_tabDel (t : Tab α) (k : Nat) (h : tabSorted t = true) : tabSorted (tabDel t k) = true := by
  induction t with
  | nil => rfl
  | cons e r ih =>
    obtain ⟨i, w⟩ := e
    obtain ⟨ha, hs⟩ := (tabSorted_cons i w r).1 h
    unfold tabDel
    split
    · exact ih hs
    · exact (tabSorted_cons i w _).2 ⟨tabAbove_tabDel i k r ha, ih hs⟩

end Sys2Proof.Machine
end

