-- ==== Sys2Proof/Laws/Flash.lean ====
section
/-!
SUPPORT. Laws/Flash.lean: the flash memory: a byte read after a write, and that every memory operation keeps the canonical
form.
-/
namespace Sys2Proof.Machine

/-- A byte read after a write. -/
theorem memGet_memPut (m : List Host.Cell) (a c : Nat) (b : Byte) :
    memGet (memPut m a b) c = if c = a then b else memGet m c := by
  unfold memGet memPut
  split
  · rename_i h
    rw [tabGet_tabDel, h]
  · rw [tabGet_tabPut]

theorem memPut_wf (m : List Host.Cell) (a : Nat) (b : Byte) (h : Memory.wf m = true) : Memory.wf (memPut m a b) = true := by
  unfold Memory.wf at *
  rw [Bool.and_eq_true] at *
  unfold memPut
  split
  · exact ⟨tabSorted_tabDel m a h.1, all_tabDel _ m a h.2⟩
  · rename_i hb
    exact ⟨tabSorted_tabPut m a b h.1, all_tabPut _ m a b h.2 (by simpa using hb)⟩

theorem memStore_wf (l : List Byte) (m : List Host.Cell) (a : Nat) (h : Memory.wf m = true) :
    Memory.wf (memStore m a l) = true := by
  induction l generalizing m a with
  | nil => exact h
  | cons b r ih => exact ih _ _ (memPut_wf m a b h)

theorem memProgram_wf (l : List Byte) (m : List Host.Cell) (a : Nat) (h : Memory.wf m = true) :
    Memory.wf (memProgram m a l) = true := by
  induction l generalizing m a with
  | nil => exact h
  | cons b r ih => exact ih _ _ (memPut_wf m a _ h)

theorem tabSorted_filter {α : Type} (p : Nat × α → Bool) (t : Tab α) (h : tabSorted t = true) :
    tabSorted (t.filter p) = true := by
  induction t with
  | nil => rfl
  | cons e r ih =>
    obtain ⟨j, v⟩ := e
    obtain ⟨ha, hs⟩ := (tabSorted_cons j v r).1 h
    rw [List.filter_cons]
    split
    · refine (tabSorted_cons j v _).2 ⟨?_, ih hs⟩
      unfold tabAbove at *
      rw [List.all_eq_true] at *
      exact fun x hx => ha x (List.mem_filter.1 hx).1
    · exact ih hs

theorem memErase_wf (m : List Host.Cell) (a n : Nat) (h : Memory.wf m = true) : Memory.wf (memErase m a n) = true := by
  unfold Memory.wf at *
  rw [Bool.and_eq_true] at *
  refine ⟨tabSorted_filter _ m h.1, ?_⟩
  rw [List.all_eq_true] at *
  exact fun x hx => h.2 x (List.mem_filter.1 hx).1

/-- Reset memory has the canonical form. -/
theorem reset_flash_wf : Memory.wf State.reset.mgmt.flash = true := rfl

/-- A byte outside the bytes stored reads as before. -/
theorem memGet_memStore_outside (l : List Byte) (m : List Host.Cell) (a c : Nat) (h : c < a ∨ a + l.length ≤ c) :
    memGet (memStore m a l) c = memGet m c := by
  induction l generalizing m a with
  | nil => rfl
  | cons b r ih =>
    simp only [List.length_cons] at h
    show memGet (memStore (memPut m a b) (a + 1) r) c = _
    rw [ih _ _ (by omega), memGet_memPut, if_neg (by omega)]

/-- A byte outside the bytes programmed reads as before. -/
theorem memGet_memProgram_outside (l : List Byte) (m : List Host.Cell) (a c : Nat) (h : c < a ∨ a + l.length ≤ c) :
    memGet (memProgram m a l) c = memGet m c := by
  induction l generalizing m a with
  | nil => rfl
  | cons b r ih =>
    simp only [List.length_cons] at h
    show memGet (memProgram (memPut m a (memGet m a &&& b)) (a + 1) r) c = _
    rw [ih _ _ (by omega), memGet_memPut, if_neg (by omega)]

end Sys2Proof.Machine
end

