-- ==== Sys2Proof/Laws/Regs.lean ====
section
/-!
SUPPORT. Laws/Regs.lean: reading a register or a field after a write, and the canonical form of the register file.
-/
namespace Sys2Proof.Machine

/-- The register file after a write of one register. -/
theorem regGet_regPut (r : RegFile) (a b : Nat) (v : Word) : regGet (regPut r a v) b = if b = a then v else regGet r b := by
  unfold regGet regPut
  split
  · rw [tabGet_tabDel]
    split
    · rename_i h1 h2
      rw [h1, h2]
    · rfl
  · rw [tabGet_tabPut]

/-- A write keeps the register file's canonical form. -/
theorem regPut_wf (r : RegFile) (a : Nat) (v : Word) (h : r.wf = true) : (regPut r a v).wf = true := by
  unfold RegFile.wf at *
  rw [Bool.and_eq_true] at h
  unfold regPut
  split
  · rw [Bool.and_eq_true]
    exact ⟨tabSorted_tabDel r a h.1, all_tabDel _ r a h.2⟩
  · rename_i hv
    rw [Bool.and_eq_true]
    exact ⟨tabSorted_tabPut r a v h.1, all_tabPut _ r a v h.2 (by simpa using hv)⟩

@[simp] theorem reg_setReg (s : State) (a b : Nat) (v : Word) : (s.setReg a v).reg b = if b = a then v else s.reg b :=
  regGet_regPut s.regs a b v

theorem reg_setReg_same (s : State) (a : Nat) (v : Word) : (s.setReg a v).reg a = v := by simp

theorem reg_setReg_ne (s : State) (a b : Nat) (v : Word) (h : b ≠ a) : (s.setReg a v).reg b = s.reg b := by simp [h]

theorem setReg_wf (s : State) (a : Nat) (v : Word) (h : s.regs.wf = true) : (s.setReg a v).regs.wf = true :=
  regPut_wf s.regs a v h

/-! ### Fields -/

theorem getFld_lt (v : Word) (f : Fld) : getFld v f < 2 ^ f.width := Nat.mod_lt _ (Nat.two_pow_pos _)

/-- A field's part of a word. -/
theorem getFld_le (v : Word) (f : Fld) : getFld v f * 2 ^ f.lo ≤ v.toNat := by
  unfold getFld
  calc v.toNat / 2 ^ f.lo % 2 ^ f.width * 2 ^ f.lo ≤ v.toNat / 2 ^ f.lo * 2 ^ f.lo :=
        Nat.mul_le_mul_right _ (Nat.mod_le _ _)
    _ ≤ v.toNat := Nat.div_mul_le_self _ _

/-- The word with the field removed is below 2^64 with any field value in its place. -/
theorem setFld_toNat (v : Word) (f : Fld) (x : Nat) (h : f.lo + f.width ≤ 64) :
    (setFld v f x).toNat = v.toNat - getFld v f * 2 ^ f.lo + x % 2 ^ f.width * 2 ^ f.lo := by
  have hv := v.isLt
  unfold setFld
  rw [BitVec.toNat_ofNat]
  apply Nat.mod_eq_of_lt
  have e : v.toNat = v.toNat / 2 ^ (f.lo + f.width) * 2 ^ (f.lo + f.width) + getFld v f * 2 ^ f.lo + v.toNat % 2 ^ f.lo := by
    unfold getFld
    have h1 := Nat.div_add_mod v.toNat (2 ^ f.lo)
    have h2 := Nat.div_add_mod (v.toNat / 2 ^ f.lo) (2 ^ f.width)
    rw [Nat.div_div_eq_div_mul, ← Nat.pow_add] at h2
    calc v.toNat = 2 ^ f.lo * (v.toNat / 2 ^ f.lo) + v.toNat % 2 ^ f.lo := h1.symm
      _ = 2 ^ f.lo * (2 ^ f.width * (v.toNat / 2 ^ (f.lo + f.width)) + v.toNat / 2 ^ f.lo % 2 ^ f.width) + v.toNat % 2 ^ f.lo := by
          rw [h2]
      _ = _ := by rw [Nat.pow_add]; ring
  have hq : v.toNat / 2 ^ (f.lo + f.width) < 2 ^ (64 - (f.lo + f.width)) := by
    apply Nat.div_lt_of_lt_mul
    rw [← Nat.pow_add]
    have : f.lo + f.width + (64 - (f.lo + f.width)) = 64 := by omega
    rw [this]
    exact hv
  have hm : v.toNat % 2 ^ f.lo < 2 ^ f.lo := Nat.mod_lt _ (Nat.two_pow_pos _)
  have hx : x % 2 ^ f.width < 2 ^ f.width := Nat.mod_lt _ (Nat.two_pow_pos _)
  have hmid : x % 2 ^ f.width * 2 ^ f.lo + v.toNat % 2 ^ f.lo < 2 ^ (f.lo + f.width) := by
    calc x % 2 ^ f.width * 2 ^ f.lo + v.toNat % 2 ^ f.lo < x % 2 ^ f.width * 2 ^ f.lo + 2 ^ f.lo := by omega
      _ = (x % 2 ^ f.width + 1) * 2 ^ f.lo := by ring
      _ ≤ 2 ^ f.width * 2 ^ f.lo := Nat.mul_le_mul_right _ hx
      _ = 2 ^ (f.lo + f.width) := by rw [Nat.pow_add]; ring
  calc v.toNat - getFld v f * 2 ^ f.lo + x % 2 ^ f.width * 2 ^ f.lo
      = v.toNat / 2 ^ (f.lo + f.width) * 2 ^ (f.lo + f.width) + (x % 2 ^ f.width * 2 ^ f.lo + v.toNat % 2 ^ f.lo) := by omega
    _ < v.toNat / 2 ^ (f.lo + f.width) * 2 ^ (f.lo + f.width) + 2 ^ (f.lo + f.width) := by omega
    _ = (v.toNat / 2 ^ (f.lo + f.width) + 1) * 2 ^ (f.lo + f.width) := by ring
    _ ≤ 2 ^ (64 - (f.lo + f.width)) * 2 ^ (f.lo + f.width) := Nat.mul_le_mul_right _ hq
    _ = 2 ^ 64 := by rw [← Nat.pow_add]; congr 1; omega

/-- A word with a field set, in its three parts. -/
theorem setFld_parts (v : Word) (f : Fld) (x : Nat) (h : f.lo + f.width ≤ 64) :
    (setFld v f x).toNat =
      v.toNat / 2 ^ (f.lo + f.width) * 2 ^ (f.lo + f.width) + x % 2 ^ f.width * 2 ^ f.lo + v.toNat % 2 ^ f.lo := by
  rw [setFld_toNat v f x h]
  have e : v.toNat = v.toNat / 2 ^ (f.lo + f.width) * 2 ^ (f.lo + f.width) + getFld v f * 2 ^ f.lo + v.toNat % 2 ^ f.lo := by
    unfold getFld
    have h1 := Nat.div_add_mod v.toNat (2 ^ f.lo)
    have h2 := Nat.div_add_mod (v.toNat / 2 ^ f.lo) (2 ^ f.width)
    rw [Nat.div_div_eq_div_mul, ← Nat.pow_add] at h2
    calc v.toNat = 2 ^ f.lo * (v.toNat / 2 ^ f.lo) + v.toNat % 2 ^ f.lo := h1.symm
      _ = 2 ^ f.lo * (2 ^ f.width * (v.toNat / 2 ^ (f.lo + f.width)) + v.toNat / 2 ^ f.lo % 2 ^ f.width) + v.toNat % 2 ^ f.lo := by
          rw [h2]
      _ = _ := by rw [Nat.pow_add]; ring
  omega

/-- The part of a word above a field, and the part below it, stay. -/
theorem setFld_high (v : Word) (f : Fld) (x : Nat) (h : f.lo + f.width ≤ 64) :
    (setFld v f x).toNat / 2 ^ (f.lo + f.width) = v.toNat / 2 ^ (f.lo + f.width) := by
  rw [setFld_parts v f x h]
  have hm : v.toNat % 2 ^ f.lo < 2 ^ f.lo := Nat.mod_lt _ (Nat.two_pow_pos _)
  have hx : x % 2 ^ f.width < 2 ^ f.width := Nat.mod_lt _ (Nat.two_pow_pos _)
  have hmid : x % 2 ^ f.width * 2 ^ f.lo + v.toNat % 2 ^ f.lo < 2 ^ (f.lo + f.width) := by
    calc x % 2 ^ f.width * 2 ^ f.lo + v.toNat % 2 ^ f.lo < x % 2 ^ f.width * 2 ^ f.lo + 2 ^ f.lo := by omega
      _ = (x % 2 ^ f.width + 1) * 2 ^ f.lo := by ring
      _ ≤ 2 ^ f.width * 2 ^ f.lo := Nat.mul_le_mul_right _ hx
      _ = 2 ^ (f.lo + f.width) := by rw [Nat.pow_add]; ring
  rw [Nat.add_assoc, Nat.add_comm, Nat.add_mul_div_right _ _ (Nat.two_pow_pos _), Nat.div_eq_of_lt hmid, Nat.zero_add]

theorem setFld_low (v : Word) (f : Fld) (x : Nat) (h : f.lo + f.width ≤ 64) :
    (setFld v f x).toNat % 2 ^ f.lo = v.toNat % 2 ^ f.lo := by
  rw [setFld_parts v f x h, Nat.pow_add]
  have : v.toNat / (2 ^ f.lo * 2 ^ f.width) * (2 ^ f.lo * 2 ^ f.width) + x % 2 ^ f.width * 2 ^ f.lo + v.toNat % 2 ^ f.lo
      = v.toNat % 2 ^ f.lo + 2 ^ f.lo * (v.toNat / (2 ^ f.lo * 2 ^ f.width) * 2 ^ f.width + x % 2 ^ f.width) := by ring
  rw [this, Nat.add_mul_mod_self_left, Nat.mod_mod]

/-- The field that was set. -/
theorem getFld_setFld (v : Word) (f : Fld) (x : Nat) (h : f.lo + f.width ≤ 64) :
    getFld (setFld v f x) f = x % 2 ^ f.width := by
  unfold getFld
  rw [setFld_parts v f x h, Nat.pow_add]
  have : v.toNat / (2 ^ f.lo * 2 ^ f.width) * (2 ^ f.lo * 2 ^ f.width) + x % 2 ^ f.width * 2 ^ f.lo + v.toNat % 2 ^ f.lo
      = v.toNat % 2 ^ f.lo + 2 ^ f.lo * (x % 2 ^ f.width + 2 ^ f.width * (v.toNat / (2 ^ f.lo * 2 ^ f.width))) := by ring
  rw [this, Nat.add_mul_div_left _ _ (Nat.two_pow_pos _), Nat.div_eq_of_lt (Nat.mod_lt _ (Nat.two_pow_pos _)), Nat.zero_add,
    Nat.add_mul_mod_self_left, Nat.mod_mod]

/-- Two fields share no bit. -/
def Fld.apart (f g : Fld) : Bool := decide (f.lo + f.width ≤ g.lo) || decide (g.lo + g.width ≤ f.lo)

/-- A field apart from the one that was set. -/
theorem getFld_setFld_apart (v : Word) (f g : Fld) (x : Nat) (h : f.lo + f.width ≤ 64) (ha : f.apart g = true) :
    getFld (setFld v f x) g = getFld v g := by
  unfold Fld.apart at ha
  rw [Bool.or_eq_true, decide_eq_true_iff, decide_eq_true_iff] at ha
  unfold getFld
  rcases ha with ha | ha
  · obtain ⟨d, hd⟩ := Nat.exists_eq_add_of_le ha
    rw [hd, Nat.pow_add, ← Nat.div_div_eq_div_mul, setFld_high v f x h, Nat.div_div_eq_div_mul]
  · have key : ∀ n : Nat, n / 2 ^ g.lo % 2 ^ g.width = n % 2 ^ f.lo % (2 ^ g.lo * 2 ^ g.width) / 2 ^ g.lo := by
      intro n
      rw [Nat.mod_mod_of_dvd _ (by rw [← Nat.pow_add]; exact Nat.pow_dvd_pow 2 ha), Nat.mod_mul_right_div_self]
    rw [key, key, setFld_low v f x h]

/-- A field read after a write of the same field. -/
theorem rd_wr (s : State) (a : Nat) (f : Fld) (x : Nat) (h : f.lo + f.width ≤ 64) :
    (s.wr a f x).rd a f = x % 2 ^ f.width := by
  unfold State.wr State.rd
  rw [reg_setReg_same, getFld_setFld _ _ _ h]

/-- A field read after a write of another field, of the same register or another. -/
theorem rd_wr_other (s : State) (a b : Nat) (f g : Fld) (x : Nat) (h : f.lo + f.width ≤ 64)
    (ha : b ≠ a ∨ f.apart g = true) : (s.wr a f x).rd b g = s.rd b g := by
  unfold State.wr State.rd
  rw [reg_setReg]
  split
  · rename_i e
    subst e
    exact getFld_setFld_apart _ _ _ _ h (ha.resolve_left (by simp))
  · rfl

/-- A flag after it has been set or cleared. -/
theorem on_set1 (s : State) (a : Nat) (f : Fld) (h : f.lo + f.width ≤ 64) (hw : 0 < f.width) : (s.set1 a f).on a f = true := by
  unfold State.on State.set1
  rw [rd_wr s a f 1 h, Nat.mod_eq_of_lt (Nat.one_lt_two_pow (by omega))]
  rfl

theorem on_set0 (s : State) (a : Nat) (f : Fld) (h : f.lo + f.width ≤ 64) : (s.set0 a f).on a f = false := by
  unfold State.on State.set0
  rw [rd_wr s a f 0 h, Nat.zero_mod]
  rfl

/-- A flag of another place. -/
theorem on_wr_other (s : State) (a b : Nat) (f g : Fld) (x : Nat) (h : f.lo + f.width ≤ 64)
    (ha : b ≠ a ∨ f.apart g = true) : (s.wr a f x).on b g = s.on b g := by
  unfold State.on
  rw [rd_wr_other s a b f g x h ha]

end Sys2Proof.Machine
end

