-- ==== Sys2Proof/Laws/State.lean ====
section
/-!
SUPPORT. Laws/State.lean: which fields of the state the named operations leave as they are, field by field.
-/
namespace Sys2Proof.Machine

/-! ### setReg -/

@[simp] theorem setReg_io (s : State) (a : Nat) (v : Word) : (s.setReg a v).io = s.io := rfl
@[simp] theorem setReg_pins (s : State) (a : Nat) (v : Word) : (s.setReg a v).pins = s.pins := rfl
@[simp] theorem setReg_mode (s : State) (a : Nat) (v : Word) : (s.setReg a v).mode = s.mode := rfl
@[simp] theorem setReg_time (s : State) (a : Nat) (v : Word) : (s.setReg a v).time = s.time := rfl
@[simp] theorem setReg_sensor (s : State) (a : Nat) (v : Word) : (s.setReg a v).sensor = s.sensor := rfl
@[simp] theorem setReg_flt (s : State) (a : Nat) (v : Word) : (s.setReg a v).flt = s.flt := rfl
@[simp] theorem setReg_frz (s : State) (a : Nat) (v : Word) : (s.setReg a v).frz = s.frz := rfl
@[simp] theorem setReg_sil (s : State) (a : Nat) (v : Word) : (s.setReg a v).sil = s.sil := rfl
@[simp] theorem setReg_mirrorOut (s : State) (a : Nat) (v : Word) : (s.setReg a v).mirrorOut = s.mirrorOut := rfl
@[simp] theorem setReg_fml (s : State) (a : Nat) (v : Word) : (s.setReg a v).fml = s.fml := rfl
@[simp] theorem setReg_pwr (s : State) (a : Nat) (v : Word) : (s.setReg a v).pwr = s.pwr := rfl
@[simp] theorem setReg_retention (s : State) (a : Nat) (v : Word) : (s.setReg a v).retention = s.retention := rfl
@[simp] theorem setReg_lossRaised (s : State) (a : Nat) (v : Word) : (s.setReg a v).lossRaised = s.lossRaised := rfl
@[simp] theorem setReg_keep (s : State) (a : Nat) (v : Word) : (s.setReg a v).keep = s.keep := rfl
@[simp] theorem setReg_mgmt (s : State) (a : Nat) (v : Word) : (s.setReg a v).mgmt = s.mgmt := rfl
@[simp] theorem setReg_out (s : State) (a : Nat) (v : Word) : (s.setReg a v).out = s.out := rfl
@[simp] theorem setReg_freeIx (s : State) (a : Nat) (v : Word) : (s.setReg a v).freeIx = s.freeIx := rfl
@[simp] theorem setReg_pending (s : State) (a : Nat) (v : Word) : (s.setReg a v).pending = s.pending := rfl
@[simp] theorem setReg_core (s : State) (a : Nat) (v : Word) : (s.setReg a v).core = s.core := rfl
@[simp] theorem setReg_sched (s : State) (a : Nat) (v : Word) : (s.setReg a v).sched = s.sched := rfl
@[simp] theorem setReg_acc (s : State) (a : Nat) (v : Word) : (s.setReg a v).acc = s.acc := rfl
@[simp] theorem setReg_home (s : State) (a : Nat) (v : Word) : (s.setReg a v).home = s.home := rfl
@[simp] theorem setReg_decant (s : State) (a : Nat) (v : Word) : (s.setReg a v).decant = s.decant := rfl
@[simp] theorem setReg_link (s : State) (a : Nat) (v : Word) : (s.setReg a v).link = s.link := rfl
@[simp] theorem setReg_std (s : State) (a : Nat) (v : Word) : (s.setReg a v).std = s.std := rfl
@[simp] theorem setReg_acd (s : State) (a : Nat) (v : Word) : (s.setReg a v).acd = s.acd := rfl
@[simp] theorem setReg_lane (s : State) (a : Nat) (v : Word) : (s.setReg a v).lane = s.lane := rfl
@[simp] theorem setReg_vppb (s : State) (a : Nat) (v : Word) : (s.setReg a v).vppb = s.vppb := rfl
@[simp] theorem setReg_gpf (s : State) (a : Nat) (v : Word) : (s.setReg a v).gpf = s.gpf := rfl
@[simp] theorem setReg_drain (s : State) (a : Nat) (v : Word) : (s.setReg a v).drain = s.drain := rfl
@[simp] theorem setReg_hpRestart (s : State) (a : Nat) (v : Word) : (s.setReg a v).hpRestart = s.hpRestart := rfl

/-! ### wr -/

@[simp] theorem wr_io (s : State) (a : Nat) (f : Fld) (x : Nat) : (s.wr a f x).io = s.io := rfl
@[simp] theorem wr_pins (s : State) (a : Nat) (f : Fld) (x : Nat) : (s.wr a f x).pins = s.pins := rfl
@[simp] theorem wr_mode (s : State) (a : Nat) (f : Fld) (x : Nat) : (s.wr a f x).mode = s.mode := rfl
@[simp] theorem wr_time (s : State) (a : Nat) (f : Fld) (x : Nat) : (s.wr a f x).time = s.time := rfl
@[simp] theorem wr_sensor (s : State) (a : Nat) (f : Fld) (x : Nat) : (s.wr a f x).sensor = s.sensor := rfl
@[simp] theorem wr_flt (s : State) (a : Nat) (f : Fld) (x : Nat) : (s.wr a f x).flt = s.flt := rfl
@[simp] theorem wr_frz (s : State) (a : Nat) (f : Fld) (x : Nat) : (s.wr a f x).frz = s.frz := rfl
@[simp] theorem wr_sil (s : State) (a : Nat) (f : Fld) (x : Nat) : (s.wr a f x).sil = s.sil := rfl
@[simp] theorem wr_mirrorOut (s : State) (a : Nat) (f : Fld) (x : Nat) : (s.wr a f x).mirrorOut = s.mirrorOut := rfl
@[simp] theorem wr_fml (s : State) (a : Nat) (f : Fld) (x : Nat) : (s.wr a f x).fml = s.fml := rfl
@[simp] theorem wr_pwr (s : State) (a : Nat) (f : Fld) (x : Nat) : (s.wr a f x).pwr = s.pwr := rfl
@[simp] theorem wr_retention (s : State) (a : Nat) (f : Fld) (x : Nat) : (s.wr a f x).retention = s.retention := rfl
@[simp] theorem wr_lossRaised (s : State) (a : Nat) (f : Fld) (x : Nat) : (s.wr a f x).lossRaised = s.lossRaised := rfl
@[simp] theorem wr_keep (s : State) (a : Nat) (f : Fld) (x : Nat) : (s.wr a f x).keep = s.keep := rfl
@[simp] theorem wr_mgmt (s : State) (a : Nat) (f : Fld) (x : Nat) : (s.wr a f x).mgmt = s.mgmt := rfl
@[simp] theorem wr_out (s : State) (a : Nat) (f : Fld) (x : Nat) : (s.wr a f x).out = s.out := rfl
@[simp] theorem wr_freeIx (s : State) (a : Nat) (f : Fld) (x : Nat) : (s.wr a f x).freeIx = s.freeIx := rfl
@[simp] theorem wr_pending (s : State) (a : Nat) (f : Fld) (x : Nat) : (s.wr a f x).pending = s.pending := rfl
@[simp] theorem wr_core (s : State) (a : Nat) (f : Fld) (x : Nat) : (s.wr a f x).core = s.core := rfl
@[simp] theorem wr_sched (s : State) (a : Nat) (f : Fld) (x : Nat) : (s.wr a f x).sched = s.sched := rfl
@[simp] theorem wr_acc (s : State) (a : Nat) (f : Fld) (x : Nat) : (s.wr a f x).acc = s.acc := rfl
@[simp] theorem wr_home (s : State) (a : Nat) (f : Fld) (x : Nat) : (s.wr a f x).home = s.home := rfl
@[simp] theorem wr_decant (s : State) (a : Nat) (f : Fld) (x : Nat) : (s.wr a f x).decant = s.decant := rfl
@[simp] theorem wr_link (s : State) (a : Nat) (f : Fld) (x : Nat) : (s.wr a f x).link = s.link := rfl
@[simp] theorem wr_std (s : State) (a : Nat) (f : Fld) (x : Nat) : (s.wr a f x).std = s.std := rfl
@[simp] theorem wr_acd (s : State) (a : Nat) (f : Fld) (x : Nat) : (s.wr a f x).acd = s.acd := rfl
@[simp] theorem wr_lane (s : State) (a : Nat) (f : Fld) (x : Nat) : (s.wr a f x).lane = s.lane := rfl
@[simp] theorem wr_vppb (s : State) (a : Nat) (f : Fld) (x : Nat) : (s.wr a f x).vppb = s.vppb := rfl
@[simp] theorem wr_gpf (s : State) (a : Nat) (f : Fld) (x : Nat) : (s.wr a f x).gpf = s.gpf := rfl
@[simp] theorem wr_drain (s : State) (a : Nat) (f : Fld) (x : Nat) : (s.wr a f x).drain = s.drain := rfl
@[simp] theorem wr_hpRestart (s : State) (a : Nat) (f : Fld) (x : Nat) : (s.wr a f x).hpRestart = s.hpRestart := rfl

/-! ### set1 -/

@[simp] theorem set1_io (s : State) (a : Nat) (f : Fld) : (s.set1 a f).io = s.io := rfl
@[simp] theorem set1_pins (s : State) (a : Nat) (f : Fld) : (s.set1 a f).pins = s.pins := rfl
@[simp] theorem set1_mode (s : State) (a : Nat) (f : Fld) : (s.set1 a f).mode = s.mode := rfl
@[simp] theorem set1_time (s : State) (a : Nat) (f : Fld) : (s.set1 a f).time = s.time := rfl
@[simp] theorem set1_sensor (s : State) (a : Nat) (f : Fld) : (s.set1 a f).sensor = s.sensor := rfl
@[simp] theorem set1_flt (s : State) (a : Nat) (f : Fld) : (s.set1 a f).flt = s.flt := rfl
@[simp] theorem set1_frz (s : State) (a : Nat) (f : Fld) : (s.set1 a f).frz = s.frz := rfl
@[simp] theorem set1_sil (s : State) (a : Nat) (f : Fld) : (s.set1 a f).sil = s.sil := rfl
@[simp] theorem set1_mirrorOut (s : State) (a : Nat) (f : Fld) : (s.set1 a f).mirrorOut = s.mirrorOut := rfl
@[simp] theorem set1_fml (s : State) (a : Nat) (f : Fld) : (s.set1 a f).fml = s.fml := rfl
@[simp] theorem set1_pwr (s : State) (a : Nat) (f : Fld) : (s.set1 a f).pwr = s.pwr := rfl
@[simp] theorem set1_retention (s : State) (a : Nat) (f : Fld) : (s.set1 a f).retention = s.retention := rfl
@[simp] theorem set1_lossRaised (s : State) (a : Nat) (f : Fld) : (s.set1 a f).lossRaised = s.lossRaised := rfl
@[simp] theorem set1_keep (s : State) (a : Nat) (f : Fld) : (s.set1 a f).keep = s.keep := rfl
@[simp] theorem set1_mgmt (s : State) (a : Nat) (f : Fld) : (s.set1 a f).mgmt = s.mgmt := rfl
@[simp] theorem set1_out (s : State) (a : Nat) (f : Fld) : (s.set1 a f).out = s.out := rfl
@[simp] theorem set1_freeIx (s : State) (a : Nat) (f : Fld) : (s.set1 a f).freeIx = s.freeIx := rfl
@[simp] theorem set1_pending (s : State) (a : Nat) (f : Fld) : (s.set1 a f).pending = s.pending := rfl
@[simp] theorem set1_core (s : State) (a : Nat) (f : Fld) : (s.set1 a f).core = s.core := rfl
@[simp] theorem set1_sched (s : State) (a : Nat) (f : Fld) : (s.set1 a f).sched = s.sched := rfl
@[simp] theorem set1_acc (s : State) (a : Nat) (f : Fld) : (s.set1 a f).acc = s.acc := rfl
@[simp] theorem set1_home (s : State) (a : Nat) (f : Fld) : (s.set1 a f).home = s.home := rfl
@[simp] theorem set1_decant (s : State) (a : Nat) (f : Fld) : (s.set1 a f).decant = s.decant := rfl
@[simp] theorem set1_link (s : State) (a : Nat) (f : Fld) : (s.set1 a f).link = s.link := rfl
@[simp] theorem set1_std (s : State) (a : Nat) (f : Fld) : (s.set1 a f).std = s.std := rfl
@[simp] theorem set1_acd (s : State) (a : Nat) (f : Fld) : (s.set1 a f).acd = s.acd := rfl
@[simp] theorem set1_lane (s : State) (a : Nat) (f : Fld) : (s.set1 a f).lane = s.lane := rfl
@[simp] theorem set1_vppb (s : State) (a : Nat) (f : Fld) : (s.set1 a f).vppb = s.vppb := rfl
@[simp] theorem set1_gpf (s : State) (a : Nat) (f : Fld) : (s.set1 a f).gpf = s.gpf := rfl
@[simp] theorem set1_drain (s : State) (a : Nat) (f : Fld) : (s.set1 a f).drain = s.drain := rfl
@[simp] theorem set1_hpRestart (s : State) (a : Nat) (f : Fld) : (s.set1 a f).hpRestart = s.hpRestart := rfl

/-! ### set0 -/

@[simp] theorem set0_io (s : State) (a : Nat) (f : Fld) : (s.set0 a f).io = s.io := rfl
@[simp] theorem set0_pins (s : State) (a : Nat) (f : Fld) : (s.set0 a f).pins = s.pins := rfl
@[simp] theorem set0_mode (s : State) (a : Nat) (f : Fld) : (s.set0 a f).mode = s.mode := rfl
@[simp] theorem set0_time (s : State) (a : Nat) (f : Fld) : (s.set0 a f).time = s.time := rfl
@[simp] theorem set0_sensor (s : State) (a : Nat) (f : Fld) : (s.set0 a f).sensor = s.sensor := rfl
@[simp] theorem set0_flt (s : State) (a : Nat) (f : Fld) : (s.set0 a f).flt = s.flt := rfl
@[simp] theorem set0_frz (s : State) (a : Nat) (f : Fld) : (s.set0 a f).frz = s.frz := rfl
@[simp] theorem set0_sil (s : State) (a : Nat) (f : Fld) : (s.set0 a f).sil = s.sil := rfl
@[simp] theorem set0_mirrorOut (s : State) (a : Nat) (f : Fld) : (s.set0 a f).mirrorOut = s.mirrorOut := rfl
@[simp] theorem set0_fml (s : State) (a : Nat) (f : Fld) : (s.set0 a f).fml = s.fml := rfl
@[simp] theorem set0_pwr (s : State) (a : Nat) (f : Fld) : (s.set0 a f).pwr = s.pwr := rfl
@[simp] theorem set0_retention (s : State) (a : Nat) (f : Fld) : (s.set0 a f).retention = s.retention := rfl
@[simp] theorem set0_lossRaised (s : State) (a : Nat) (f : Fld) : (s.set0 a f).lossRaised = s.lossRaised := rfl
@[simp] theorem set0_keep (s : State) (a : Nat) (f : Fld) : (s.set0 a f).keep = s.keep := rfl
@[simp] theorem set0_mgmt (s : State) (a : Nat) (f : Fld) : (s.set0 a f).mgmt = s.mgmt := rfl
@[simp] theorem set0_out (s : State) (a : Nat) (f : Fld) : (s.set0 a f).out = s.out := rfl
@[simp] theorem set0_freeIx (s : State) (a : Nat) (f : Fld) : (s.set0 a f).freeIx = s.freeIx := rfl
@[simp] theorem set0_pending (s : State) (a : Nat) (f : Fld) : (s.set0 a f).pending = s.pending := rfl
@[simp] theorem set0_core (s : State) (a : Nat) (f : Fld) : (s.set0 a f).core = s.core := rfl
@[simp] theorem set0_sched (s : State) (a : Nat) (f : Fld) : (s.set0 a f).sched = s.sched := rfl
@[simp] theorem set0_acc (s : State) (a : Nat) (f : Fld) : (s.set0 a f).acc = s.acc := rfl
@[simp] theorem set0_home (s : State) (a : Nat) (f : Fld) : (s.set0 a f).home = s.home := rfl
@[simp] theorem set0_decant (s : State) (a : Nat) (f : Fld) : (s.set0 a f).decant = s.decant := rfl
@[simp] theorem set0_link (s : State) (a : Nat) (f : Fld) : (s.set0 a f).link = s.link := rfl
@[simp] theorem set0_std (s : State) (a : Nat) (f : Fld) : (s.set0 a f).std = s.std := rfl
@[simp] theorem set0_acd (s : State) (a : Nat) (f : Fld) : (s.set0 a f).acd = s.acd := rfl
@[simp] theorem set0_lane (s : State) (a : Nat) (f : Fld) : (s.set0 a f).lane = s.lane := rfl
@[simp] theorem set0_vppb (s : State) (a : Nat) (f : Fld) : (s.set0 a f).vppb = s.vppb := rfl
@[simp] theorem set0_gpf (s : State) (a : Nat) (f : Fld) : (s.set0 a f).gpf = s.gpf := rfl
@[simp] theorem set0_drain (s : State) (a : Nat) (f : Fld) : (s.set0 a f).drain = s.drain := rfl
@[simp] theorem set0_hpRestart (s : State) (a : Nat) (f : Fld) : (s.set0 a f).hpRestart = s.hpRestart := rfl

/-! ### wrB -/

@[simp] theorem wrB_io (s : State) (a : Nat) (f : Fld) (b : Bool) : (s.wrB a f b).io = s.io := rfl
@[simp] theorem wrB_pins (s : State) (a : Nat) (f : Fld) (b : Bool) : (s.wrB a f b).pins = s.pins := rfl
@[simp] theorem wrB_mode (s : State) (a : Nat) (f : Fld) (b : Bool) : (s.wrB a f b).mode = s.mode := rfl
@[simp] theorem wrB_time (s : State) (a : Nat) (f : Fld) (b : Bool) : (s.wrB a f b).time = s.time := rfl
@[simp] theorem wrB_sensor (s : State) (a : Nat) (f : Fld) (b : Bool) : (s.wrB a f b).sensor = s.sensor := rfl
@[simp] theorem wrB_flt (s : State) (a : Nat) (f : Fld) (b : Bool) : (s.wrB a f b).flt = s.flt := rfl
@[simp] theorem wrB_frz (s : State) (a : Nat) (f : Fld) (b : Bool) : (s.wrB a f b).frz = s.frz := rfl
@[simp] theorem wrB_sil (s : State) (a : Nat) (f : Fld) (b : Bool) : (s.wrB a f b).sil = s.sil := rfl
@[simp] theorem wrB_mirrorOut (s : State) (a : Nat) (f : Fld) (b : Bool) : (s.wrB a f b).mirrorOut = s.mirrorOut := rfl
@[simp] theorem wrB_fml (s : State) (a : Nat) (f : Fld) (b : Bool) : (s.wrB a f b).fml = s.fml := rfl
@[simp] theorem wrB_pwr (s : State) (a : Nat) (f : Fld) (b : Bool) : (s.wrB a f b).pwr = s.pwr := rfl
@[simp] theorem wrB_retention (s : State) (a : Nat) (f : Fld) (b : Bool) : (s.wrB a f b).retention = s.retention := rfl
@[simp] theorem wrB_lossRaised (s : State) (a : Nat) (f : Fld) (b : Bool) : (s.wrB a f b).lossRaised = s.lossRaised := rfl
@[simp] theorem wrB_keep (s : State) (a : Nat) (f : Fld) (b : Bool) : (s.wrB a f b).keep = s.keep := rfl
@[simp] theorem wrB_mgmt (s : State) (a : Nat) (f : Fld) (b : Bool) : (s.wrB a f b).mgmt = s.mgmt := rfl
@[simp] theorem wrB_out (s : State) (a : Nat) (f : Fld) (b : Bool) : (s.wrB a f b).out = s.out := rfl
@[simp] theorem wrB_freeIx (s : State) (a : Nat) (f : Fld) (b : Bool) : (s.wrB a f b).freeIx = s.freeIx := rfl
@[simp] theorem wrB_pending (s : State) (a : Nat) (f : Fld) (b : Bool) : (s.wrB a f b).pending = s.pending := rfl
@[simp] theorem wrB_core (s : State) (a : Nat) (f : Fld) (b : Bool) : (s.wrB a f b).core = s.core := rfl
@[simp] theorem wrB_sched (s : State) (a : Nat) (f : Fld) (b : Bool) : (s.wrB a f b).sched = s.sched := rfl
@[simp] theorem wrB_acc (s : State) (a : Nat) (f : Fld) (b : Bool) : (s.wrB a f b).acc = s.acc := rfl
@[simp] theorem wrB_home (s : State) (a : Nat) (f : Fld) (b : Bool) : (s.wrB a f b).home = s.home := rfl
@[simp] theorem wrB_decant (s : State) (a : Nat) (f : Fld) (b : Bool) : (s.wrB a f b).decant = s.decant := rfl
@[simp] theorem wrB_link (s : State) (a : Nat) (f : Fld) (b : Bool) : (s.wrB a f b).link = s.link := rfl
@[simp] theorem wrB_std (s : State) (a : Nat) (f : Fld) (b : Bool) : (s.wrB a f b).std = s.std := rfl
@[simp] theorem wrB_acd (s : State) (a : Nat) (f : Fld) (b : Bool) : (s.wrB a f b).acd = s.acd := rfl
@[simp] theorem wrB_lane (s : State) (a : Nat) (f : Fld) (b : Bool) : (s.wrB a f b).lane = s.lane := rfl
@[simp] theorem wrB_vppb (s : State) (a : Nat) (f : Fld) (b : Bool) : (s.wrB a f b).vppb = s.vppb := rfl
@[simp] theorem wrB_gpf (s : State) (a : Nat) (f : Fld) (b : Bool) : (s.wrB a f b).gpf = s.gpf := rfl
@[simp] theorem wrB_drain (s : State) (a : Nat) (f : Fld) (b : Bool) : (s.wrB a f b).drain = s.drain := rfl
@[simp] theorem wrB_hpRestart (s : State) (a : Nat) (f : Fld) (b : Bool) : (s.wrB a f b).hpRestart = s.hpRestart := rfl

/-! ### addTo -/

@[simp] theorem addTo_io (s : State) (a : Nat) (f : Fld) (n : Nat) : (s.addTo a f n).io = s.io := rfl
@[simp] theorem addTo_pins (s : State) (a : Nat) (f : Fld) (n : Nat) : (s.addTo a f n).pins = s.pins := rfl
@[simp] theorem addTo_mode (s : State) (a : Nat) (f : Fld) (n : Nat) : (s.addTo a f n).mode = s.mode := rfl
@[simp] theorem addTo_time (s : State) (a : Nat) (f : Fld) (n : Nat) : (s.addTo a f n).time = s.time := rfl
@[simp] theorem addTo_sensor (s : State) (a : Nat) (f : Fld) (n : Nat) : (s.addTo a f n).sensor = s.sensor := rfl
@[simp] theorem addTo_flt (s : State) (a : Nat) (f : Fld) (n : Nat) : (s.addTo a f n).flt = s.flt := rfl
@[simp] theorem addTo_frz (s : State) (a : Nat) (f : Fld) (n : Nat) : (s.addTo a f n).frz = s.frz := rfl
@[simp] theorem addTo_sil (s : State) (a : Nat) (f : Fld) (n : Nat) : (s.addTo a f n).sil = s.sil := rfl
@[simp] theorem addTo_mirrorOut (s : State) (a : Nat) (f : Fld) (n : Nat) : (s.addTo a f n).mirrorOut = s.mirrorOut := rfl
@[simp] theorem addTo_fml (s : State) (a : Nat) (f : Fld) (n : Nat) : (s.addTo a f n).fml = s.fml := rfl
@[simp] theorem addTo_pwr (s : State) (a : Nat) (f : Fld) (n : Nat) : (s.addTo a f n).pwr = s.pwr := rfl
@[simp] theorem addTo_retention (s : State) (a : Nat) (f : Fld) (n : Nat) : (s.addTo a f n).retention = s.retention := rfl
@[simp] theorem addTo_lossRaised (s : State) (a : Nat) (f : Fld) (n : Nat) : (s.addTo a f n).lossRaised = s.lossRaised := rfl
@[simp] theorem addTo_keep (s : State) (a : Nat) (f : Fld) (n : Nat) : (s.addTo a f n).keep = s.keep := rfl
@[simp] theorem addTo_mgmt (s : State) (a : Nat) (f : Fld) (n : Nat) : (s.addTo a f n).mgmt = s.mgmt := rfl
@[simp] theorem addTo_out (s : State) (a : Nat) (f : Fld) (n : Nat) : (s.addTo a f n).out = s.out := rfl
@[simp] theorem addTo_freeIx (s : State) (a : Nat) (f : Fld) (n : Nat) : (s.addTo a f n).freeIx = s.freeIx := rfl
@[simp] theorem addTo_pending (s : State) (a : Nat) (f : Fld) (n : Nat) : (s.addTo a f n).pending = s.pending := rfl
@[simp] theorem addTo_core (s : State) (a : Nat) (f : Fld) (n : Nat) : (s.addTo a f n).core = s.core := rfl
@[simp] theorem addTo_sched (s : State) (a : Nat) (f : Fld) (n : Nat) : (s.addTo a f n).sched = s.sched := rfl
@[simp] theorem addTo_acc (s : State) (a : Nat) (f : Fld) (n : Nat) : (s.addTo a f n).acc = s.acc := rfl
@[simp] theorem addTo_home (s : State) (a : Nat) (f : Fld) (n : Nat) : (s.addTo a f n).home = s.home := rfl
@[simp] theorem addTo_decant (s : State) (a : Nat) (f : Fld) (n : Nat) : (s.addTo a f n).decant = s.decant := rfl
@[simp] theorem addTo_link (s : State) (a : Nat) (f : Fld) (n : Nat) : (s.addTo a f n).link = s.link := rfl
@[simp] theorem addTo_std (s : State) (a : Nat) (f : Fld) (n : Nat) : (s.addTo a f n).std = s.std := rfl
@[simp] theorem addTo_acd (s : State) (a : Nat) (f : Fld) (n : Nat) : (s.addTo a f n).acd = s.acd := rfl
@[simp] theorem addTo_lane (s : State) (a : Nat) (f : Fld) (n : Nat) : (s.addTo a f n).lane = s.lane := rfl
@[simp] theorem addTo_vppb (s : State) (a : Nat) (f : Fld) (n : Nat) : (s.addTo a f n).vppb = s.vppb := rfl
@[simp] theorem addTo_gpf (s : State) (a : Nat) (f : Fld) (n : Nat) : (s.addTo a f n).gpf = s.gpf := rfl
@[simp] theorem addTo_drain (s : State) (a : Nat) (f : Fld) (n : Nat) : (s.addTo a f n).drain = s.drain := rfl
@[simp] theorem addTo_hpRestart (s : State) (a : Nat) (f : Fld) (n : Nat) : (s.addTo a f n).hpRestart = s.hpRestart := rfl

/-! ### inc -/

@[simp] theorem inc_io (s : State) (a : Nat) (f : Fld) : (s.inc a f).io = s.io := rfl
@[simp] theorem inc_pins (s : State) (a : Nat) (f : Fld) : (s.inc a f).pins = s.pins := rfl
@[simp] theorem inc_mode (s : State) (a : Nat) (f : Fld) : (s.inc a f).mode = s.mode := rfl
@[simp] theorem inc_time (s : State) (a : Nat) (f : Fld) : (s.inc a f).time = s.time := rfl
@[simp] theorem inc_sensor (s : State) (a : Nat) (f : Fld) : (s.inc a f).sensor = s.sensor := rfl
@[simp] theorem inc_flt (s : State) (a : Nat) (f : Fld) : (s.inc a f).flt = s.flt := rfl
@[simp] theorem inc_frz (s : State) (a : Nat) (f : Fld) : (s.inc a f).frz = s.frz := rfl
@[simp] theorem inc_sil (s : State) (a : Nat) (f : Fld) : (s.inc a f).sil = s.sil := rfl
@[simp] theorem inc_mirrorOut (s : State) (a : Nat) (f : Fld) : (s.inc a f).mirrorOut = s.mirrorOut := rfl
@[simp] theorem inc_fml (s : State) (a : Nat) (f : Fld) : (s.inc a f).fml = s.fml := rfl
@[simp] theorem inc_pwr (s : State) (a : Nat) (f : Fld) : (s.inc a f).pwr = s.pwr := rfl
@[simp] theorem inc_retention (s : State) (a : Nat) (f : Fld) : (s.inc a f).retention = s.retention := rfl
@[simp] theorem inc_lossRaised (s : State) (a : Nat) (f : Fld) : (s.inc a f).lossRaised = s.lossRaised := rfl
@[simp] theorem inc_keep (s : State) (a : Nat) (f : Fld) : (s.inc a f).keep = s.keep := rfl
@[simp] theorem inc_mgmt (s : State) (a : Nat) (f : Fld) : (s.inc a f).mgmt = s.mgmt := rfl
@[simp] theorem inc_out (s : State) (a : Nat) (f : Fld) : (s.inc a f).out = s.out := rfl
@[simp] theorem inc_freeIx (s : State) (a : Nat) (f : Fld) : (s.inc a f).freeIx = s.freeIx := rfl
@[simp] theorem inc_pending (s : State) (a : Nat) (f : Fld) : (s.inc a f).pending = s.pending := rfl
@[simp] theorem inc_core (s : State) (a : Nat) (f : Fld) : (s.inc a f).core = s.core := rfl
@[simp] theorem inc_sched (s : State) (a : Nat) (f : Fld) : (s.inc a f).sched = s.sched := rfl
@[simp] theorem inc_acc (s : State) (a : Nat) (f : Fld) : (s.inc a f).acc = s.acc := rfl
@[simp] theorem inc_home (s : State) (a : Nat) (f : Fld) : (s.inc a f).home = s.home := rfl
@[simp] theorem inc_decant (s : State) (a : Nat) (f : Fld) : (s.inc a f).decant = s.decant := rfl
@[simp] theorem inc_link (s : State) (a : Nat) (f : Fld) : (s.inc a f).link = s.link := rfl
@[simp] theorem inc_std (s : State) (a : Nat) (f : Fld) : (s.inc a f).std = s.std := rfl
@[simp] theorem inc_acd (s : State) (a : Nat) (f : Fld) : (s.inc a f).acd = s.acd := rfl
@[simp] theorem inc_lane (s : State) (a : Nat) (f : Fld) : (s.inc a f).lane = s.lane := rfl
@[simp] theorem inc_vppb (s : State) (a : Nat) (f : Fld) : (s.inc a f).vppb = s.vppb := rfl
@[simp] theorem inc_gpf (s : State) (a : Nat) (f : Fld) : (s.inc a f).gpf = s.gpf := rfl
@[simp] theorem inc_drain (s : State) (a : Nat) (f : Fld) : (s.inc a f).drain = s.drain := rfl
@[simp] theorem inc_hpRestart (s : State) (a : Nat) (f : Fld) : (s.inc a f).hpRestart = s.hpRestart := rfl

/-! ### emit -/

@[simp] theorem emit_regs (s : State) (o : Out) : (s.emit o).regs = s.regs := rfl
@[simp] theorem emit_io (s : State) (o : Out) : (s.emit o).io = s.io := rfl
@[simp] theorem emit_pins (s : State) (o : Out) : (s.emit o).pins = s.pins := rfl
@[simp] theorem emit_mode (s : State) (o : Out) : (s.emit o).mode = s.mode := rfl
@[simp] theorem emit_time (s : State) (o : Out) : (s.emit o).time = s.time := rfl
@[simp] theorem emit_sensor (s : State) (o : Out) : (s.emit o).sensor = s.sensor := rfl
@[simp] theorem emit_flt (s : State) (o : Out) : (s.emit o).flt = s.flt := rfl
@[simp] theorem emit_frz (s : State) (o : Out) : (s.emit o).frz = s.frz := rfl
@[simp] theorem emit_sil (s : State) (o : Out) : (s.emit o).sil = s.sil := rfl
@[simp] theorem emit_mirrorOut (s : State) (o : Out) : (s.emit o).mirrorOut = s.mirrorOut := rfl
@[simp] theorem emit_fml (s : State) (o : Out) : (s.emit o).fml = s.fml := rfl
@[simp] theorem emit_pwr (s : State) (o : Out) : (s.emit o).pwr = s.pwr := rfl
@[simp] theorem emit_retention (s : State) (o : Out) : (s.emit o).retention = s.retention := rfl
@[simp] theorem emit_lossRaised (s : State) (o : Out) : (s.emit o).lossRaised = s.lossRaised := rfl
@[simp] theorem emit_keep (s : State) (o : Out) : (s.emit o).keep = s.keep := rfl
@[simp] theorem emit_mgmt (s : State) (o : Out) : (s.emit o).mgmt = s.mgmt := rfl
@[simp] theorem emit_freeIx (s : State) (o : Out) : (s.emit o).freeIx = s.freeIx := rfl
@[simp] theorem emit_pending (s : State) (o : Out) : (s.emit o).pending = s.pending := rfl
@[simp] theorem emit_core (s : State) (o : Out) : (s.emit o).core = s.core := rfl
@[simp] theorem emit_sched (s : State) (o : Out) : (s.emit o).sched = s.sched := rfl
@[simp] theorem emit_acc (s : State) (o : Out) : (s.emit o).acc = s.acc := rfl
@[simp] theorem emit_home (s : State) (o : Out) : (s.emit o).home = s.home := rfl
@[simp] theorem emit_decant (s : State) (o : Out) : (s.emit o).decant = s.decant := rfl
@[simp] theorem emit_link (s : State) (o : Out) : (s.emit o).link = s.link := rfl
@[simp] theorem emit_std (s : State) (o : Out) : (s.emit o).std = s.std := rfl
@[simp] theorem emit_acd (s : State) (o : Out) : (s.emit o).acd = s.acd := rfl
@[simp] theorem emit_lane (s : State) (o : Out) : (s.emit o).lane = s.lane := rfl
@[simp] theorem emit_vppb (s : State) (o : Out) : (s.emit o).vppb = s.vppb := rfl
@[simp] theorem emit_gpf (s : State) (o : Out) : (s.emit o).gpf = s.gpf := rfl
@[simp] theorem emit_drain (s : State) (o : Out) : (s.emit o).drain = s.drain := rfl
@[simp] theorem emit_hpRestart (s : State) (o : Out) : (s.emit o).hpRestart = s.hpRestart := rfl

/-! ### raiseAt -/

@[simp] theorem raiseAt_regs (s : State) (n : Nat) (f : Option Nat) (i : AccessRec) : (s.raiseAt n f i).regs = s.regs := rfl
@[simp] theorem raiseAt_io (s : State) (n : Nat) (f : Option Nat) (i : AccessRec) : (s.raiseAt n f i).io = s.io := rfl
@[simp] theorem raiseAt_pins (s : State) (n : Nat) (f : Option Nat) (i : AccessRec) : (s.raiseAt n f i).pins = s.pins := rfl
@[simp] theorem raiseAt_mode (s : State) (n : Nat) (f : Option Nat) (i : AccessRec) : (s.raiseAt n f i).mode = s.mode := rfl
@[simp] theorem raiseAt_time (s : State) (n : Nat) (f : Option Nat) (i : AccessRec) : (s.raiseAt n f i).time = s.time := rfl
@[simp] theorem raiseAt_sensor (s : State) (n : Nat) (f : Option Nat) (i : AccessRec) : (s.raiseAt n f i).sensor = s.sensor := rfl
@[simp] theorem raiseAt_frz (s : State) (n : Nat) (f : Option Nat) (i : AccessRec) : (s.raiseAt n f i).frz = s.frz := rfl
@[simp] theorem raiseAt_sil (s : State) (n : Nat) (f : Option Nat) (i : AccessRec) : (s.raiseAt n f i).sil = s.sil := rfl
@[simp] theorem raiseAt_mirrorOut (s : State) (n : Nat) (f : Option Nat) (i : AccessRec) : (s.raiseAt n f i).mirrorOut = s.mirrorOut := rfl
@[simp] theorem raiseAt_fml (s : State) (n : Nat) (f : Option Nat) (i : AccessRec) : (s.raiseAt n f i).fml = s.fml := rfl
@[simp] theorem raiseAt_pwr (s : State) (n : Nat) (f : Option Nat) (i : AccessRec) : (s.raiseAt n f i).pwr = s.pwr := rfl
@[simp] theorem raiseAt_retention (s : State) (n : Nat) (f : Option Nat) (i : AccessRec) : (s.raiseAt n f i).retention = s.retention := rfl
@[simp] theorem raiseAt_lossRaised (s : State) (n : Nat) (f : Option Nat) (i : AccessRec) : (s.raiseAt n f i).lossRaised = s.lossRaised := rfl
@[simp] theorem raiseAt_keep (s : State) (n : Nat) (f : Option Nat) (i : AccessRec) : (s.raiseAt n f i).keep = s.keep := rfl
@[simp] theorem raiseAt_mgmt (s : State) (n : Nat) (f : Option Nat) (i : AccessRec) : (s.raiseAt n f i).mgmt = s.mgmt := rfl
@[simp] theorem raiseAt_out (s : State) (n : Nat) (f : Option Nat) (i : AccessRec) : (s.raiseAt n f i).out = s.out := rfl
@[simp] theorem raiseAt_freeIx (s : State) (n : Nat) (f : Option Nat) (i : AccessRec) : (s.raiseAt n f i).freeIx = s.freeIx := rfl
@[simp] theorem raiseAt_pending (s : State) (n : Nat) (f : Option Nat) (i : AccessRec) : (s.raiseAt n f i).pending = s.pending := rfl
@[simp] theorem raiseAt_core (s : State) (n : Nat) (f : Option Nat) (i : AccessRec) : (s.raiseAt n f i).core = s.core := rfl
@[simp] theorem raiseAt_sched (s : State) (n : Nat) (f : Option Nat) (i : AccessRec) : (s.raiseAt n f i).sched = s.sched := rfl
@[simp] theorem raiseAt_acc (s : State) (n : Nat) (f : Option Nat) (i : AccessRec) : (s.raiseAt n f i).acc = s.acc := rfl
@[simp] theorem raiseAt_home (s : State) (n : Nat) (f : Option Nat) (i : AccessRec) : (s.raiseAt n f i).home = s.home := rfl
@[simp] theorem raiseAt_decant (s : State) (n : Nat) (f : Option Nat) (i : AccessRec) : (s.raiseAt n f i).decant = s.decant := rfl
@[simp] theorem raiseAt_link (s : State) (n : Nat) (f : Option Nat) (i : AccessRec) : (s.raiseAt n f i).link = s.link := rfl
@[simp] theorem raiseAt_std (s : State) (n : Nat) (f : Option Nat) (i : AccessRec) : (s.raiseAt n f i).std = s.std := rfl
@[simp] theorem raiseAt_acd (s : State) (n : Nat) (f : Option Nat) (i : AccessRec) : (s.raiseAt n f i).acd = s.acd := rfl
@[simp] theorem raiseAt_lane (s : State) (n : Nat) (f : Option Nat) (i : AccessRec) : (s.raiseAt n f i).lane = s.lane := rfl
@[simp] theorem raiseAt_vppb (s : State) (n : Nat) (f : Option Nat) (i : AccessRec) : (s.raiseAt n f i).vppb = s.vppb := rfl
@[simp] theorem raiseAt_gpf (s : State) (n : Nat) (f : Option Nat) (i : AccessRec) : (s.raiseAt n f i).gpf = s.gpf := rfl
@[simp] theorem raiseAt_drain (s : State) (n : Nat) (f : Option Nat) (i : AccessRec) : (s.raiseAt n f i).drain = s.drain := rfl
@[simp] theorem raiseAt_hpRestart (s : State) (n : Nat) (f : Option Nat) (i : AccessRec) : (s.raiseAt n f i).hpRestart = s.hpRestart := rfl

/-! ### raise -/

@[simp] theorem raise_regs (s : State) (n : Nat) (f : Option Nat) : (s.raise n f).regs = s.regs := rfl
@[simp] theorem raise_io (s : State) (n : Nat) (f : Option Nat) : (s.raise n f).io = s.io := rfl
@[simp] theorem raise_pins (s : State) (n : Nat) (f : Option Nat) : (s.raise n f).pins = s.pins := rfl
@[simp] theorem raise_mode (s : State) (n : Nat) (f : Option Nat) : (s.raise n f).mode = s.mode := rfl
@[simp] theorem raise_time (s : State) (n : Nat) (f : Option Nat) : (s.raise n f).time = s.time := rfl
@[simp] theorem raise_sensor (s : State) (n : Nat) (f : Option Nat) : (s.raise n f).sensor = s.sensor := rfl
@[simp] theorem raise_frz (s : State) (n : Nat) (f : Option Nat) : (s.raise n f).frz = s.frz := rfl
@[simp] theorem raise_sil (s : State) (n : Nat) (f : Option Nat) : (s.raise n f).sil = s.sil := rfl
@[simp] theorem raise_mirrorOut (s : State) (n : Nat) (f : Option Nat) : (s.raise n f).mirrorOut = s.mirrorOut := rfl
@[simp] theorem raise_fml (s : State) (n : Nat) (f : Option Nat) : (s.raise n f).fml = s.fml := rfl
@[simp] theorem raise_pwr (s : State) (n : Nat) (f : Option Nat) : (s.raise n f).pwr = s.pwr := rfl
@[simp] theorem raise_retention (s : State) (n : Nat) (f : Option Nat) : (s.raise n f).retention = s.retention := rfl
@[simp] theorem raise_lossRaised (s : State) (n : Nat) (f : Option Nat) : (s.raise n f).lossRaised = s.lossRaised := rfl
@[simp] theorem raise_keep (s : State) (n : Nat) (f : Option Nat) : (s.raise n f).keep = s.keep := rfl
@[simp] theorem raise_mgmt (s : State) (n : Nat) (f : Option Nat) : (s.raise n f).mgmt = s.mgmt := rfl
@[simp] theorem raise_out (s : State) (n : Nat) (f : Option Nat) : (s.raise n f).out = s.out := rfl
@[simp] theorem raise_freeIx (s : State) (n : Nat) (f : Option Nat) : (s.raise n f).freeIx = s.freeIx := rfl
@[simp] theorem raise_pending (s : State) (n : Nat) (f : Option Nat) : (s.raise n f).pending = s.pending := rfl
@[simp] theorem raise_core (s : State) (n : Nat) (f : Option Nat) : (s.raise n f).core = s.core := rfl
@[simp] theorem raise_sched (s : State) (n : Nat) (f : Option Nat) : (s.raise n f).sched = s.sched := rfl
@[simp] theorem raise_acc (s : State) (n : Nat) (f : Option Nat) : (s.raise n f).acc = s.acc := rfl
@[simp] theorem raise_home (s : State) (n : Nat) (f : Option Nat) : (s.raise n f).home = s.home := rfl
@[simp] theorem raise_decant (s : State) (n : Nat) (f : Option Nat) : (s.raise n f).decant = s.decant := rfl
@[simp] theorem raise_link (s : State) (n : Nat) (f : Option Nat) : (s.raise n f).link = s.link := rfl
@[simp] theorem raise_std (s : State) (n : Nat) (f : Option Nat) : (s.raise n f).std = s.std := rfl
@[simp] theorem raise_acd (s : State) (n : Nat) (f : Option Nat) : (s.raise n f).acd = s.acd := rfl
@[simp] theorem raise_lane (s : State) (n : Nat) (f : Option Nat) : (s.raise n f).lane = s.lane := rfl
@[simp] theorem raise_vppb (s : State) (n : Nat) (f : Option Nat) : (s.raise n f).vppb = s.vppb := rfl
@[simp] theorem raise_gpf (s : State) (n : Nat) (f : Option Nat) : (s.raise n f).gpf = s.gpf := rfl
@[simp] theorem raise_drain (s : State) (n : Nat) (f : Option Nat) : (s.raise n f).drain = s.drain := rfl
@[simp] theorem raise_hpRestart (s : State) (n : Nat) (f : Option Nat) : (s.raise n f).hpRestart = s.hpRestart := rfl

/-! ### takeNotice -/

@[simp] theorem takeNotice_regs (s : State) (n : Notice) : (s.takeNotice n).regs = s.regs := rfl
@[simp] theorem takeNotice_io (s : State) (n : Notice) : (s.takeNotice n).io = s.io := rfl
@[simp] theorem takeNotice_pins (s : State) (n : Notice) : (s.takeNotice n).pins = s.pins := rfl
@[simp] theorem takeNotice_mode (s : State) (n : Notice) : (s.takeNotice n).mode = s.mode := rfl
@[simp] theorem takeNotice_time (s : State) (n : Notice) : (s.takeNotice n).time = s.time := rfl
@[simp] theorem takeNotice_sensor (s : State) (n : Notice) : (s.takeNotice n).sensor = s.sensor := rfl
@[simp] theorem takeNotice_frz (s : State) (n : Notice) : (s.takeNotice n).frz = s.frz := rfl
@[simp] theorem takeNotice_sil (s : State) (n : Notice) : (s.takeNotice n).sil = s.sil := rfl
@[simp] theorem takeNotice_mirrorOut (s : State) (n : Notice) : (s.takeNotice n).mirrorOut = s.mirrorOut := rfl
@[simp] theorem takeNotice_fml (s : State) (n : Notice) : (s.takeNotice n).fml = s.fml := rfl
@[simp] theorem takeNotice_pwr (s : State) (n : Notice) : (s.takeNotice n).pwr = s.pwr := rfl
@[simp] theorem takeNotice_retention (s : State) (n : Notice) : (s.takeNotice n).retention = s.retention := rfl
@[simp] theorem takeNotice_lossRaised (s : State) (n : Notice) : (s.takeNotice n).lossRaised = s.lossRaised := rfl
@[simp] theorem takeNotice_keep (s : State) (n : Notice) : (s.takeNotice n).keep = s.keep := rfl
@[simp] theorem takeNotice_mgmt (s : State) (n : Notice) : (s.takeNotice n).mgmt = s.mgmt := rfl
@[simp] theorem takeNotice_out (s : State) (n : Notice) : (s.takeNotice n).out = s.out := rfl
@[simp] theorem takeNotice_freeIx (s : State) (n : Notice) : (s.takeNotice n).freeIx = s.freeIx := rfl
@[simp] theorem takeNotice_pending (s : State) (n : Notice) : (s.takeNotice n).pending = s.pending := rfl
@[simp] theorem takeNotice_core (s : State) (n : Notice) : (s.takeNotice n).core = s.core := rfl
@[simp] theorem takeNotice_sched (s : State) (n : Notice) : (s.takeNotice n).sched = s.sched := rfl
@[simp] theorem takeNotice_acc (s : State) (n : Notice) : (s.takeNotice n).acc = s.acc := rfl
@[simp] theorem takeNotice_home (s : State) (n : Notice) : (s.takeNotice n).home = s.home := rfl
@[simp] theorem takeNotice_decant (s : State) (n : Notice) : (s.takeNotice n).decant = s.decant := rfl
@[simp] theorem takeNotice_link (s : State) (n : Notice) : (s.takeNotice n).link = s.link := rfl
@[simp] theorem takeNotice_std (s : State) (n : Notice) : (s.takeNotice n).std = s.std := rfl
@[simp] theorem takeNotice_acd (s : State) (n : Notice) : (s.takeNotice n).acd = s.acd := rfl
@[simp] theorem takeNotice_lane (s : State) (n : Notice) : (s.takeNotice n).lane = s.lane := rfl
@[simp] theorem takeNotice_vppb (s : State) (n : Notice) : (s.takeNotice n).vppb = s.vppb := rfl
@[simp] theorem takeNotice_gpf (s : State) (n : Notice) : (s.takeNotice n).gpf = s.gpf := rfl
@[simp] theorem takeNotice_drain (s : State) (n : Notice) : (s.takeNotice n).drain = s.drain := rfl
@[simp] theorem takeNotice_hpRestart (s : State) (n : Notice) : (s.takeNotice n).hpRestart = s.hpRestart := rfl

/-! ### What they change -/

@[simp] theorem emit_out (s : State) (o : Out) : (s.emit o).out = o :: s.out := rfl
@[simp] theorem setReg_regs (s : State) (a : Nat) (v : Word) : (s.setReg a v).regs = regPut s.regs a v := rfl
@[simp] theorem emit_reg (s : State) (o : Out) (a : Nat) : (s.emit o).reg a = s.reg a := rfl
@[simp] theorem raiseAt_reg (s : State) (n : Nat) (f : Option Nat) (i : AccessRec) (a : Nat) : (s.raiseAt n f i).reg a = s.reg a := rfl
@[simp] theorem emit_md (s : State) (o : Out) : (s.emit o).md = s.md := rfl
@[simp] theorem raiseAt_md (s : State) (n : Nat) (f : Option Nat) (i : AccessRec) : (s.raiseAt n f i).md = s.md := rfl
@[simp] theorem takeNotice_reg (s : State) (n : Notice) (a : Nat) : (s.takeNotice n).reg a = s.reg a := rfl

end Sys2Proof.Machine
end

