-- ==== Sys2Proof/Laws/Settle.lean ====
section
/-!
SUPPORT. Laws/Settle.lean: what the end of a command does in a state in which nothing waits on it, and what bringing the
fault pins up to date leaves.
-/
namespace Sys2Proof.Machine

/-- Bringing the pins up to date changes the record of outputs and the two pin levels only. -/
theorem refreshPins_eq (s : State) : ∃ (l : List Out) (a b : Bool),
    s.refreshPins = { s with out := l ++ s.out, flt := { s.flt with faultLow := a, alertLow := b } } := by
  by_cases h : s.md = .frozen
  · exact ⟨[], s.flt.faultLow, s.flt.alertLow, if_pos h⟩
  · have e : s.refreshPins = _ := if_neg h
    rw [List.append_assoc] at e
    exact ⟨_, _, _, e.trans (by rw [← List.append_assoc])⟩

theorem refreshPins_reg (s : State) (a : Nat) : s.refreshPins.reg a = s.reg a := by
  obtain ⟨l, x, y, h⟩ := refreshPins_eq s
  rw [h]; rfl

theorem refreshPins_md (s : State) : s.refreshPins.md = s.md := by
  obtain ⟨l, x, y, h⟩ := refreshPins_eq s
  rw [h]; rfl

/-- An Accord engine in which nothing waits to go on stays as it is. -/
theorem accordsGo_rests (s : State) (h : s.engineRests = true) : s.accordsGo = s := by
  unfold State.engineRests at h
  simp only [Bool.and_eq_true, List.isEmpty_iff, Option.isNone_iff_eq_none] at h
  obtain ⟨⟨hq, hw⟩, ha⟩ := h
  have e1 : s.readyAll = s := by
    unfold State.readyAll
    generalize s.acd.commitQ = l at hq
    induction l with
    | nil => rfl
    | cons t r ih =>
      rw [List.all_cons, Bool.and_eq_true] at hq
      have e : s.noteReady t = s := by
        unfold State.noteReady
        split
        · rfl
        · rw [if_pos (.inr (.inr (.inr hq.1)))]
      rw [List.foldl_cons, e]
      exact ih hq.2
  have e2 : ∀ k, s.runWoken k = s := by
    intro k
    cases k with
    | zero => rfl
    | succ k => simp only [State.runWoken, hw]
  have e3 : ∀ k, s.aliasGo k = s := by
    intro k
    cases k with
    | zero => rfl
    | succ k => simp only [State.aliasGo, ha]
  unfold State.accordsGo State.aliasReads
  simp only [e1, e2, e3]

/-- A state in which nothing waits: the end of a command brings the pins up to date, and does no more. -/
theorem settle_quiet (s : State) (h : s.quiet = true) : s.settle = s.refreshPins := by
  unfold State.quiet at h
  simp only [Bool.and_eq_true, Bool.not_eq_true', List.isEmpty_iff, Bool.and_eq_false_iff, beq_eq_false_iff_ne] at h
  obtain ⟨⟨⟨⟨⟨ha, hr⟩, hm⟩, hg⟩, hw⟩, hb⟩ := h
  have e1 : s.mirrorAll = s := by
    unfold State.mirrorAll
    rw [hm]
    show { s with mirrorOut := [] } = s
    rw [← hm]
  have e2 : s.gpfAdvance = s := by
    unfold State.gpfAdvance
    rw [hg]; rfl
  have e3 : s.backInvalidate = s := by
    unfold State.backInvalidate
    rw [if_neg]
    rintro ⟨a, b⟩
    rcases hb with hb | hb
    · exact hb a
    · exact hb b
  have e4 : s.advanceWaits = s := by
    unfold State.advanceWaits
    split
    · rw [accordsGo_rests s ha, e1, e2, e3]
    · rfl
  have e5 : ∀ k, s.collectThrough k = s := by
    intro k
    cases k with
    | zero => rfl
    | succ k => simp [State.collectThrough, hr]
  have e6 : s.checkWarning = s := by
    unfold State.checkWarning
    rw [if_neg]
    rw [Bool.and_eq_true]
    rintro ⟨a, b⟩
    rcases hw with hw | hw
    · rw [hw] at a; exact Bool.noConfusion a
    · rw [hw] at b; exact Bool.noConfusion b
  unfold State.settle
  simp only [e4, e5, e6]

/-- In such a state every register is left as the command left it. -/
theorem settle_quiet_reg (s : State) (h : s.quiet = true) (a : Nat) : s.settle.reg a = s.reg a := by
  rw [settle_quiet s h, refreshPins_reg]

end Sys2Proof.Machine
end

