-- ==== Sys2Proof/Laws/Frame.lean ====
section
/-!
SUPPORT. Laws/Frame.lean: registers of an updated state, what keeps a state quiet, and what the end of a command adds.
-/
namespace Sys2Proof.Machine

/-- A state built field by field has its register file. -/
@[simp] theorem reg_mk (regs : RegFile) (io : IoState) (pins : Pins) (mode : ModeState) (time : TimeState) (sensor : SensorState) (flt : FaultState) (frz : FreezeState) (sil : Tab SilFifo) (mirrorOut : List SilEntry) (fml : FormulaState) (pwr : PowerState) (retention : Option RetentionRec) (lossRaised : Bool) (keep : KeepState) (mgmt : MgmtState) (out : List Out) (freeIx : Nat) (pending : List Instr) (core : CoreState) (sched : SchedState) (acc : AccessState) (home : Tab SliceState) (decant : Tab DecantJob) (link : Tab LinkState) (std : Tab StdState) (acd : AccordState) (lane : Tab LaneState) (vppb : Tab VppbState) (gpf : List GpfFlow) (drain : DrainState) (hpRestart : Tab Nat) (a : Nat) : State.reg (State.mk regs io pins mode time sensor flt frz sil mirrorOut fml pwr retention lossRaised keep mgmt out freeIx pending core sched acc home decant link std acd lane vppb gpf drain hpRestart) a = regGet regs a := rfl
/-- Reading the register file of a state is reading its register. -/
@[simp] theorem regGet_regs (s : State) (a : Nat) : regGet s.regs a = s.reg a := rfl
/-- What a register holds after a write of one field. -/
@[simp] theorem reg_wr (s : State) (a b : Nat) (f : Fld) (x : Nat) :
    (s.wr a f x).reg b = if b = a then setFld (s.reg a) f x else s.reg b := reg_setReg s a b _
/-- A register that is unchanged shows the same fields. -/
theorem rd_of_reg {s t : State} {a : Nat} (h : t.reg a = s.reg a) (f : Fld) : t.rd a f = s.rd a f := by
  unfold State.rd; rw [h]
/-- The Accord engine rests as long as its state and the ingress tags are unchanged. -/
theorem engineRests_keep {s u : State} (ha : u.acd = s.acd) (ht : u.core.tags = s.core.tags) : u.engineRests = s.engineRests := by
  unfold State.engineRests State.aliasNext State.slotTracker State.accord
  rw [ha, ht]
/-- What keeps a state quiet: nothing raised, mirrored or held, and the three registers unchanged. -/
theorem quiet_keep {s u : State} (h : s.quiet = true) (h1 : u.flt.raised = s.flt.raised) (h2 : u.mirrorOut = s.mirrorOut)
    (h3 : u.gpf = s.gpf) (h4 : u.pwr.warned = s.pwr.warned) (h5 : u.acd = s.acd)
    (h6 : u.core.tags = s.core.tags) (r1 : u.reg Reg.CHIP_MODE = s.reg Reg.CHIP_MODE)
    (r2 : u.reg Reg.PC_SUPV_STATUS = s.reg Reg.PC_SUPV_STATUS) (r3 : u.reg Reg.MG_FML_STATUS = s.reg Reg.MG_FML_STATUS) :
    u.quiet = true := by
  rw [← h]
  unfold State.quiet State.md State.warningStands State.recomposePhase State.on
  rw [engineRests_keep h5 h6, h1, h2, h3, h4, rd_of_reg r1, rd_of_reg r2, rd_of_reg r2, rd_of_reg r3]

/-- The end of a command in a quiet state: only the pins and the outputs may still change. -/
theorem answers_of {s u : State} {P : State → Prop} (h : s.quiet = true) (h1 : u.flt.raised = s.flt.raised)
    (h2 : u.mirrorOut = s.mirrorOut)
    (h3 : u.gpf = s.gpf) (h4 : u.pwr.warned = s.pwr.warned) (h5 : u.acd = s.acd)
    (h6 : u.core.tags = s.core.tags) (r1 : u.reg Reg.CHIP_MODE = s.reg Reg.CHIP_MODE)
    (r2 : u.reg Reg.PC_SUPV_STATUS = s.reg Reg.PC_SUPV_STATUS) (r3 : u.reg Reg.MG_FML_STATUS = s.reg Reg.MG_FML_STATUS)
    (hP : ∀ (l : List Out) (a b : Bool), P { u with out := l ++ u.out, flt := { u.flt with faultLow := a, alertLow := b } }) :
    Answers (done u) P := by
  refine ⟨_, rfl, ?_⟩
  rw [settle_quiet u (quiet_keep h h1 h2 h3 h4 h5 h6 r1 r2 r3)]
  obtain ⟨l, a, b, e⟩ := refreshPins_eq u
  rw [e]; exact hP l a b
/-- Breaking a held half changes the holds of the paths alone. -/
theorem breakHold_eq (s : State) (p : AccessPath) : ∃ h, s.breakHold p = { s with io := { s.io with hold := h } } := by
  unfold State.breakHold; split
  · exact ⟨_, rfl⟩
  · exact ⟨s.io.hold, rfl⟩
/-- A command that its path may give acts. -/
theorem written_eq (s : State) (p : AccessPath) (k : State → State) (h : s.mayAct p = true) : s.written p k = done (k (s.breakHold p)) := by
  unfold State.mayAct at h; simp at h
  simp [State.written, State.ifWritable, h]
/-- What a written command leaves, from what its effect leaves. -/
theorem written_answers {s : State} {p : AccessPath} {k : State → State} {P : State → Prop} (h : s.mayAct p = true)
   (hk : ∀ x, Answers (done (k { s with io := { s.io with hold := x } })) P) : Answers (s.written p k) P := by
  rw [written_eq _ _ _ h]
  obtain ⟨x, e⟩ := breakHold_eq s p
  rw [e]; exact hk x
/-- The same before the end of the command. -/
theorem written_leaves {s : State} {p : AccessPath} {k : State → State} {P : State → Prop} (h : s.mayAct p = true)
   (hk : ∀ x, Leaves (done (k { s with io := { s.io with hold := x } })) P) : Leaves (s.written p k) P := by
  rw [written_eq _ _ _ h]
  obtain ⟨x, e⟩ := breakHold_eq s p
  rw [e]; exact hk x
/-- A clocked operation acts while the main clocks run. -/
theorem clocked_eq (s : State) (k : State → State) (h : s.md.clocked = true) : s.clocked k = k s := by simp [State.clocked, h]
/-- What a clocked command leaves before its end. -/
theorem leaves_clocked {s : State} {k : State → State} {P : State → Prop} (h : s.md.clocked = true) (hP : P (k s)) : Leaves (whenClocked s k) P :=
  ⟨_, rfl, by rw [clocked_eq s k h]; exact hP⟩
/-- What a clocked command leaves. -/
theorem answers_clocked {s : State} {k : State → State} {P : State → Prop} (h : s.md.clocked = true) (hP : Answers (done (k s)) P) : Answers (whenClocked s k) P := by
  unfold whenClocked; rw [clocked_eq s k h]; exact hP

end Sys2Proof.Machine
end

