-- ==== Sys2Proof/Laws/Modes.lean ====
section
/-!
SUPPORT. Laws/Modes.lean: what a mode transition, a wipe and a cold boot leave.
-/
namespace Sys2Proof.Machine

/-- The mode from the code that CHIP_MODE shows. -/
theorem md_of_rd {u : State} {m : Mode} (h : u.rd Reg.CHIP_MODE Fld.CHIP_MODE.MODE = m.code) : u.md = m := by
  unfold State.md; rw [h]; cases m <;> rfl
/-- The mode is CHIP_MODE alone. -/
theorem md_of_reg {u s : State} (h : u.reg Reg.CHIP_MODE = s.reg Reg.CHIP_MODE) : u.md = s.md := by
  unfold State.md; rw [rd_of_reg h]
/-- A completed transition. -/
theorem goMode_spec (s : State) (m : Mode) (c : Nat) (hc : c < 256) :
    (s.goMode m c).entered s m c ∧ (s.goMode m c).onlyRegs s [Reg.CHIP_MODE] ∧
    ((s.goMode m c).on Reg.CHIP_MODE Fld.CHIP_MODE.RETAIN_VALID = s.on Reg.CHIP_MODE Fld.CHIP_MODE.RETAIN_VALID) := by
  refine ⟨⟨?_, ?_, ?_⟩, ⟨rfl, ?_⟩, ?_⟩
  · apply md_of_rd
    unfold State.goMode
    rw [rd_wr_other _ _ _ _ _ _ (by decide) (by decide), rd_wr _ _ _ _ (by decide)]
    cases m <;> rfl
  · unfold State.goMode
    rw [rd_wr _ _ _ _ (by decide)]
    exact Nat.mod_eq_of_lt hc
  · unfold State.goMode
    rw [rd_wr_other _ _ _ _ _ _ (by decide) (by decide), rd_wr_other _ _ _ _ _ _ (by decide) (by decide), rd_wr _ _ _ _ (by decide)]
    exact Nat.mod_eq_of_lt (getFld_lt _ _)
  · intro a ha
    simp only [List.mem_singleton] at ha
    simp [State.goMode, ha]
  · unfold State.goMode
    rw [on_wr_other _ _ _ _ _ _ (by decide) (by decide), on_wr_other _ _ _ _ _ _ (by decide) (by decide), on_wr_other _ _ _ _ _ _ (by decide) (by decide)]
/-- Reading a filtered register file. -/
theorem regGet_filter (r : RegFile) (p : Nat × Word → Bool) (q : Nat → Bool) (hp : ∀ e, p e = q e.1) (a : Nat) :
    regGet (r.filter p) a = if q a then regGet r a else resetAt a := by
  induction r with
  | nil => simp [regGet, tabGet]
  | cons e r ih =>
    obtain ⟨j, v⟩ := e
    rw [List.filter_cons]
    unfold regGet tabGet at *
    by_cases hj : j = a
    · subst hj
      rw [hp]; simp only
      split
      · simp [tabFind]
      · rw [ih]; simp_all
    · split
      · simp only [tabFind, if_neg hj]; exact ih
      · simp only [tabFind, if_neg hj]; exact ih
/-- What a wipe leaves in each register. -/
theorem wipe_reg (s : State) (r c : Bool) (a : Nat) (h : a ≠ Reg.FZ_CTL) : (s.wipe r c).reg a =
    if alwaysOnRegs.contains a || (r && retainedRegs.contains a) || (c && keptInRetain a) then s.reg a else resetAt a := by
  unfold State.wipe State.wrB
  rw [reg_wr, if_neg h]
  exact regGet_filter s.regs _ (fun a => alwaysOnRegs.contains a || (r && retainedRegs.contains a) || (c && keptInRetain a))
    (fun _ => rfl) a
/-- A fold keeps what each of its steps keeps. -/
theorem foldl_keep {α β : Type} (g : State → β) (f : State → α → State) (h : ∀ t x, g (f t x) = g t) (l : List α) (s : State) :
    g (l.foldl f s) = g s := by
  induction l generalizing s with
  | nil => rfl
  | cons x r ih => rw [List.foldl_cons, ih, h]
/-- Showing the fuses changes only the registers that show them. -/
theorem showFuses_reg (s : State) (a : Nat) (h : a ∉ [Reg.CHIP_SERIAL, Reg.MG_LIFECYCLE, Reg.MG_SEAL])
    (h2 : ∀ n, a ≠ Reg.MG_OWNER_DIGEST n) : s.showFuses.reg a = s.reg a := by
  unfold State.showFuses
  simp only [List.mem_cons, List.not_mem_nil, or_false, not_or] at h
  refine (foldl_keep (fun t => t.reg a) _ (fun t n => ?_) _ _).trans ?_
  · simp [h2 n]
  · simp [State.wrB, State.showSeal, h]
/-- The state without its register file: what a change of registers alone leaves. -/
def State.rest (s : State) : State := { s with regs := [] }
@[simp] theorem setReg_rest (s : State) (a : Nat) (v : Word) : (s.setReg a v).rest = s.rest := rfl
@[simp] theorem wr_rest (s : State) (a : Nat) (f : Fld) (x : Nat) : (s.wr a f x).rest = s.rest := rfl
@[simp] theorem set1_rest (s : State) (a : Nat) (f : Fld) : (s.set1 a f).rest = s.rest := rfl
@[simp] theorem set0_rest (s : State) (a : Nat) (f : Fld) : (s.set0 a f).rest = s.rest := rfl
@[simp] theorem wrB_rest (s : State) (a : Nat) (f : Fld) (b : Bool) : (s.wrB a f b).rest = s.rest := rfl
@[simp] theorem addTo_rest (s : State) (a : Nat) (f : Fld) (n : Nat) : (s.addTo a f n).rest = s.rest := rfl
@[simp] theorem inc_rest (s : State) (a : Nat) (f : Fld) : (s.inc a f).rest = s.rest := rfl
@[simp] theorem goMode_rest (s : State) (m : Mode) (c : Nat) : (s.goMode m c).rest = s.rest := rfl
/-- Two states that differ in their registers alone. -/
theorem eq_of_rest {t s : State} (h : t.rest = s.rest) : t = { s with regs := t.regs } := by
  cases t; cases s; simp only [State.rest, State.mk.injEq] at *; simp [h]
/-- Showing the fuses changes registers alone. -/
theorem showFuses_rest (s : State) : s.showFuses.rest = s.rest := by
  unfold State.showFuses
  simp only
  refine (foldl_keep State.rest (fun t n => t.setReg (Reg.MG_OWNER_DIGEST n) _) (fun t n => rfl) _ _).trans ?_
  rfl
/-- The management state is no register. -/
theorem rest_mgmt {t s : State} (h : t.rest = s.rest) : t.mgmt = s.mgmt := by
  have := congrArg State.mgmt h; exact this
/-- Nor are the mode and the pins. -/
theorem rest_mode {t s : State} (h : t.rest = s.rest) : t.mode = s.mode := by
  have := congrArg State.mode h; exact this
theorem rest_pins {t s : State} (h : t.rest = s.rest) : t.pins = s.pins := by
  have := congrArg State.pins h; exact this
/-- MPORT at boot touches the management state alone. -/
theorem mportAtBoot_keeps (s : State) : s.mportAtBoot.mgmt.flash = s.mgmt.flash ∧ s.mportAtBoot.mgmt.fuses = s.mgmt.fuses ∧
    s.mportAtBoot.mode = s.mode ∧ s.mportAtBoot.pins = s.pins := ⟨rfl, rfl, rfl, rfl⟩
/-- Dropping the latched fields changes registers alone. -/
theorem dropLatched_rest (s : State) : s.dropLatched.rest = s.rest := by
  unfold State.dropLatched; rw [set0_rest, set0_rest, set0_rest, set0_rest]
/-- So does keeping READOUT_EN. -/
theorem wipe_rest (s : State) (r c : Bool) : (s.wipe r c).rest = (s.lose r c).rest := by
  unfold State.wipe; rw [wrB_rest]
/-- A wipe for a cold boot keeps flash, fuses and pins. -/
theorem wipe_keeps (s : State) : (s.wipe false false).dropLatched.mgmt.flash = s.mgmt.flash ∧
    (s.wipe false false).dropLatched.mgmt.fuses = s.mgmt.fuses ∧ (s.wipe false false).dropLatched.mode = {} ∧
    (s.wipe false false).dropLatched.pins = s.pins := by
  have h := (dropLatched_rest (s.wipe false false)).trans (wipe_rest s false false)
  rw [rest_mgmt h, rest_mode h, rest_pins h]
  exact ⟨rfl, rfl, rfl, rfl⟩
/-- Clearing a field leaves every other register. -/
theorem reg_set0 (s : State) (a b : Nat) (f : Fld) (h : b ≠ a) : (s.set0 a f).reg b = s.reg b := by
  unfold State.set0; rw [reg_wr, if_neg h]
/-- It leaves the beat count at its reset value. -/
theorem wipe_beat (s : State) : (s.wipe false false).dropLatched.reg Reg.CHIP_BEAT = resetAt Reg.CHIP_BEAT := by
  have e : (s.wipe false false).dropLatched.reg Reg.CHIP_BEAT = (s.wipe false false).reg Reg.CHIP_BEAT := by
    unfold State.dropLatched
    rw [reg_set0 _ _ _ _ (by decide), reg_set0 _ _ _ _ (by decide), reg_set0 _ _ _ _ (by decide), reg_set0 _ _ _ _ (by decide)]
  rw [e, wipe_reg s false false _ (by decide)]
  simp +decide
/-- A cold boot, after its wipe: BOOT is entered, the time is 0, the fuses are shown. -/
theorem coldBoot_eq (s : State) (c : Nat) : s.coldBoot c =
    (((((((s.wipe false false).dropLatched.setReg Reg.CHIP_TIME 0).set0 Reg.CHIP_MODE Fld.CHIP_MODE.RETAIN_VALID).goMode
      .boot c).wr Reg.CHIP_MODE Fld.CHIP_MODE.PREV_MODE (s.rd Reg.CHIP_MODE Fld.CHIP_MODE.MODE)).emit
      (.clocks true)).showFuses.mportAtBoot) := rfl
theorem mportAtBoot_reg (t : State) (a : Nat) : t.mportAtBoot.reg a = t.reg a := rfl
/-- Registers that show no fuse keep their values while the fuses are shown and MPORT is set up. -/
theorem shown_reg (t : State) (a : Nat) (h : a = Reg.CHIP_MODE ∨ a = Reg.CHIP_TIME ∨ a = Reg.CHIP_BEAT) :
    t.showFuses.mportAtBoot.reg a = t.reg a := by
  rw [mportAtBoot_reg]
  apply showFuses_reg
  · rcases h with rfl | rfl | rfl <;> decide
  · intro n
    rcases h with rfl | rfl | rfl <;> simp [Reg.CHIP_MODE, Reg.CHIP_TIME, Reg.CHIP_BEAT, Reg.MG_OWNER_DIGEST] <;> omega
@[simp] theorem emit_rest (s : State) (o : Out) : (s.emit o).rest = s.rest.emit o := rfl
/-- What the parts of a cold boot after the wipe leave beside the registers. -/
theorem boot_rest (w : State) (c p : Nat) :
    (((((w.setReg Reg.CHIP_TIME 0).set0 Reg.CHIP_MODE Fld.CHIP_MODE.RETAIN_VALID).goMode .boot c).wr Reg.CHIP_MODE
      Fld.CHIP_MODE.PREV_MODE p).emit (.clocks true)).rest = (w.emit (.clocks true)).rest := by
  rw [emit_rest, wr_rest, goMode_rest, set0_rest, setReg_rest, emit_rest]
/-- What a cold boot leaves (R28). -/
theorem coldBoot_spec (s : State) (c : Nat) (hc : c < 256) : (s.coldBoot c).entered s .boot c ∧ (s.coldBoot c).now = 0 ∧ (s.coldBoot c).beat = 0 ∧
   (s.coldBoot c).on Reg.CHIP_MODE Fld.CHIP_MODE.RETAIN_VALID = false ∧ (s.coldBoot c).mgmt.flash = s.mgmt.flash ∧
   (s.coldBoot c).mgmt.fuses = s.mgmt.fuses ∧ (s.coldBoot c).mode = {} ∧ (s.coldBoot c).pins = s.pins := by
  rw [coldBoot_eq]
  have hb := wipe_beat s
  have hm := wipe_keeps s
  generalize (s.wipe false false).dropLatched = w at hb hm
  have hp : s.rd Reg.CHIP_MODE Fld.CHIP_MODE.MODE < 16 := getFld_lt _ _
  generalize hq : s.rd Reg.CHIP_MODE Fld.CHIP_MODE.MODE = p at hp
  have hr := (showFuses_rest (((((w.setReg Reg.CHIP_TIME 0).set0 Reg.CHIP_MODE Fld.CHIP_MODE.RETAIN_VALID).goMode .boot
    c).wr Reg.CHIP_MODE Fld.CHIP_MODE.PREV_MODE p).emit (.clocks true))).trans (boot_rest w c p)
  refine ⟨⟨?_, ?_, ?_⟩, ?_, ?_, ?_, ?_, ?_, ?_, ?_⟩
  · apply md_of_rd
    rw [rd_of_reg (shown_reg _ _ (.inl rfl)), rd_of_reg (emit_reg _ _ _)]
    simp +decide [State.rd, State.goMode, State.set0, getFld_setFld, getFld_setFld_apart]
  · rw [rd_of_reg (shown_reg _ _ (.inl rfl)), rd_of_reg (emit_reg _ _ _)]
    simp +decide [State.rd, State.goMode, State.set0, getFld_setFld, getFld_setFld_apart]; exact Nat.mod_eq_of_lt hc
  · rw [hq, rd_of_reg (shown_reg _ _ (.inl rfl)), rd_of_reg (emit_reg _ _ _)]
    simp +decide [State.rd, State.goMode, State.set0, getFld_setFld, getFld_setFld_apart]; exact Nat.mod_eq_of_lt hp
  · unfold State.now
    rw [rd_of_reg (shown_reg _ _ (.inr (.inl rfl))), rd_of_reg (emit_reg _ _ _)]
    simp +decide [State.rd, State.goMode, State.set0]
  · unfold State.beat
    rw [rd_of_reg (shown_reg _ _ (.inr (.inr rfl))), rd_of_reg (emit_reg _ _ _)]
    simp +decide [State.rd, State.goMode, State.set0, hb]
  · unfold State.on
    rw [rd_of_reg (shown_reg _ _ (.inl rfl)), rd_of_reg (emit_reg _ _ _)]
    simp +decide [State.rd, State.goMode, State.set0, getFld_setFld, getFld_setFld_apart]
  · rw [(mportAtBoot_keeps _).1, rest_mgmt hr, emit_mgmt]; exact hm.1
  · rw [(mportAtBoot_keeps _).2.1, rest_mgmt hr, emit_mgmt]; exact hm.2.1
  · rw [(mportAtBoot_keeps _).2.2.1, rest_mode hr, emit_mode]; exact hm.2.2.1
  · rw [(mportAtBoot_keeps _).2.2.2, rest_pins hr, emit_pins]; exact hm.2.2.2

end Sys2Proof.Machine
end

