-- ==== Sys2Proof/Machine/ChannelModel.lean ====
section
/-!
DEFINITION. Machine/ChannelModel.lean: the analog quantities of a slot channel as R347 to R354 define them.  A command of the
channel carries what they come to (ChanMeas); these are the definitions of its readings.
-/
namespace Sys2Proof.Machine

/-- The current in mA of a shunt of u µΩ, and the FET's drop in mV, from the Kelvin taps in µV and the output (R347). -/
def shuntCurrent (srcUv snsUv : Rat) (u : Nat) : Rat := (srcUv - snsUv) * 1000 / u
def fetDrop (snsMv outMv : Rat) : Rat := snsMv - outMv

/-- The hard comparator's level: four times the limit in force (R353). -/
def State.hardTripMa (s : State) (n : Nat) : Nat := 4 * s.rd (Reg.SPC_LIMIT n) Fld.SPC_LIMIT.LIMIT_MA

/-- The fault timer after dt µs (R351), in eighths of a µs. -/
def faultTimer (eighths dt : Nat) (inLimit : Bool) : Nat := if inLimit then eighths + 8 * dt else eighths - dt

/-- The fault timer trips: it has reached FAULT_US. -/
def State.timerTrips (s : State) (n eighths : Nat) : Bool :=
  decide (8 * s.rd (Reg.SPC_CFG n) Fld.SPC_CFG.FAULT_US ≤ eighths)

/-- One step of the thermal model (R352): the rise in K after dt s at p W. -/
def thermalStep (rise p dt rth cth : Rat) : Rat := rise + (p * dt - rise * dt / rth) / cth

/-- FET_RTH and FET_CTH of channel n in K/W and J/K. -/
def State.fetRth (s : State) (n : Nat) : Rat := (s.rd (Reg.SPC_CFG2 n) Fld.SPC_CFG2.FET_RTH : Rat) / 100
def State.fetCth (s : State) (n : Nat) : Rat := (s.rd (Reg.SPC_CFG2 n) Fld.SPC_CFG2.FET_CTH : Rat) / 1000

/-- The step of channel n every 10 µs. -/
def State.riseNext (s : State) (n : Nat) (rise p : Rat) : Rat := thermalStep rise p (1 / 100000) (s.fetRth n) (s.fetCth n)

/-- What a temperature in 1/16 °C trips (R352): 2 THERMAL for the model, 4 DIODE for the diode itself; 0 nothing. -/
def State.thermalCause (s : State) (n : Nat) (model diode : Int) : Nat :=
  let top : Int := 16 * s.rd (Reg.SPC_CFG2 n) Fld.SPC_CFG2.FET_TMAX
  if top ≤ model then 2 else if s.usesDiode n ∧ top ≤ diode then 4 else 0

/-- A diode reading in 1/16 °C that is out of range: below -50 °C or above 200 °C (R352). -/
def diodeBad (t : Int) : Bool := decide (t < -800) || decide (3200 < t)

/-- COOL may end (R354): 100 ms, a rise of at most 10 K, and the diode at most FET_TMAX - 20 °C. -/
def State.cooled (s : State) (n ms : Nat) (rise : Rat) (diode : Int) : Bool :=
  decide (100 ≤ ms) && decide (rise ≤ 10)
    && (!s.usesDiode n || decide (diode ≤ 16 * ((s.rd (Reg.SPC_CFG2 n) Fld.SPC_CFG2.FET_TMAX : Int) - 20)))

end Sys2Proof.Machine
end

