-- ==== Sys2Proof/Machine/LinkLayout.lean ====
section
/-!
DEFINITION. Machine/LinkLayout.lean: the bits that cross an Ictil lane: training control words and IDENT frames (R250, R252),
flits, their slots and their control (R269 to R271, R274).
-/
namespace Sys2Proof.Machine

/-! ### Training and IDENT -/

/-- The control word of a training frame (R250 Table 3). -/
def trainWord (req preset sts : Nat) (rxReady : Bool) (lane count : Nat) : Nat :=
  let w := at64 req 0 8 + at64 preset 8 2 + at64 sts 10 8 + at64 (b2n rxReady) 18 1 + at64 lane 19 4 + at64 count 24 16
  w + crc16 0xFFFF w 48 * 2 ^ 48

/-- LL_CAPS (R291 Table 8). -/
def capsBits (c : LlCaps) : Nat :=
  at64 c.version 0 8 + at64 c.rxNext 8 12 + at64 (b2n c.resume) 20 1 + at64 (b2n c.tentOk) 21 1

/-- LL_CAPS of an IDENT frame: RESUME and RX_NEXT are 0 (R291). -/
def identCaps (p : PortRec) : LlCaps := { version := 1, rxNext := 0, resume := false, tentOk := p.protocol == .ictil }

/-- The IDENT frame that port lane i of port p sends (R252 Table 4). -/
def State.identSent (s : State) (p : PortRec) (i : Nat) : IdentFrame := {
  identity := s.shown Reg.CHIP_SERIAL, switchId := (s.fml.inForce.map (·.device.switchId)).getD 0, port := p.port, width := p.width, lane := i
  sparing := p.sparing, flocet := p.protocol == .flocet, anchored := p.anchored
  ack := decide (3 ≤ (s.laneSt (p.chipLane i)).identCount), cable := p.cableM, caps := identCaps p }

/-- The 56 bytes of an IDENT frame. -/
def identBytes (f : IdentFrame) : List Byte :=
  let flags := b2n f.sparing + 2 * b2n f.flocet + 4 * b2n f.anchored + 128 * b2n f.ack
  let body := leBytes f.identity.toNat 8 ++ leBytes (at64 f.switchId 0 10) 2 ++ leBytes f.port 1 ++ leBytes f.width 1
    ++ leBytes f.lane 1 ++ leBytes flags 1 ++ leBytes f.cable 2 ++ leBytes (capsBits f.caps) 8 ++ List.replicate 28 0
  body ++ leBytes (crc32 body) 4

/-! ### Flits (R269 to R271) -/

/-- Block types of control blocks: a flit's start, idle between lane maps, and an IDENT frame (R252, R269). -/
def startBlock : Nat := 0x78
def idleBlock : Nat := 0x1E
def identBlock : Nat := 0xA9

/-- Block b of a stream goes to data lane b mod n of the map (R269). -/
def blockLane (map : List Nat) (b : Nat) : Option Nat := map[b % map.length]?

/-- The message word of a cell as it crosses: its link tag in place of TAG, and in bits [94:83] of an I/O message's header
cell (R271). -/
def linkWord (c : Cell) : Nat :=
  let m := c.msg
  match c.kind with
  | .single | .head =>
    if m.io then messageWord { c with msg := { m with pbar := none } } + at64 (if expectsAnswer m then m.ltag else 0) 35 12
    else messageWord { c with msg := { m with tag := m.ltag } }
  | _ => messageWord c

/-- A slot's cell, as far as it crosses. -/
def slotCellOf (x : SlotIn) : Cell :=
  { kind := x.kind, msg := x.msg, more := x.more, index := x.index, src := 0, dst := 0, tailBad := x.tailBad, line := x.line }

/-- The 14-byte slot header (R271 Table 3). -/
def slotHeader (x : SlotIn) : Nat :=
  let m := x.msg
  at64 (kindCode x.kind) 0 3 + at64 (x.sub.val / 2) 3 3 + at64 (x.sub.val % 2) 6 1 + at64 (b2n x.pool) 7 1 + at64 m.flacon 8 5
    + at64 m.priv 13 2 + at64 (b2n m.tent) 15 1 + at64 (b2n x.tailBad) 16 1 + at64 m.dstEid 17 14
    + at64 (linkWord (slotCellOf x)) 31 80

/-- A slot's 78 bytes; a slot with nothing to send has KIND 7, EMPTY. -/
def linkSlot : Option SlotIn → List Byte
  | some x =>
    let c := (slotCellOf x)
    let d := { c with msg := { c.msg with tag := c.msg.ltag }, more := c.more.map fun (m : Msg) => { m with tag := m.ltag } }
    leBytes (slotHeader x) 14 ++ leBytes (payloadBits d) 64
  | none => leBytes 7 14 ++ List.replicate 64 0

/-- The 128 bits of the bypass slot (R274 Table 4). -/
def bypassBits : Option Bypass → Nat
  | none => 0
  | some (.mc0 m) =>
    1 + at64 (b2n m.uvc) 2 1 + at64 m.flacon 3 5 + at64 m.dstEid 8 14 + at64 (coherentWord { m with tag := m.ltag }) 22 80
  | some (.lc c) => 2 + match c with
    | .rxLanes mask => at64 1 2 8 + at64 mask 10 16
    | .firReq lane req => at64 2 2 8 + at64 lane 10 4 + at64 req.toNat 14 10
    | .firSts lane sts => at64 3 2 8 + at64 lane 10 4 + at64 sts.toNat 14 8
    | .llInit caps => at64 4 2 8 + at64 (capsBits caps) 10 64

/-- Bytes 1 to 7 of the start block (R270 Table 2). -/
def flitControl (f : FlitIn) : Nat :=
  at64 f.fseq.val 0 12 + at64 f.ackSeq.val 12 12 + at64 (b2n f.nak) 24 1 + at64 (b2n f.ackV) 25 1 + at64 f.crdSel.val 26 5
    + at64 f.crd.toNat 31 16 + at64 f.mapId.val 47 2

/-- The 1,280 bytes of a flit (R269 Table 1), its CRC over start-block bytes 1 to 7, flit bytes 8 to 1,271 and end-block bytes
0 to 3 (R270). -/
def flitBytes (f : FlitIn) : List Byte :=
  let slots := (List.range 16).flatMap fun i => linkSlot f.slots[i]?
  let covered := leBytes (flitControl f) 7 ++ leBytes (bypassBits f.bypass) 16 ++ slots ++ leBytes (b2n f.null + f.xoff.toNat * 256) 4
  BitVec.ofNat 8 startBlock :: covered ++ leBytes (crc32 covered) 4

end Sys2Proof.Machine
end

