-- ==== Sys2Proof/Machine/Functions.lean ====
section
/-!
DEFINITION. Machine/Functions.lean: what the functions of an upstream port (R302 Table 2) and of MPORT (R413) report of
themselves, and the CDAT of function 0 (R303).
-/
namespace Sys2Proof.Machine

/-- A PCI Express function, as far as R302 and R413 name its configuration. -/
structure PciFunction where
  vendor : Nat := 0x1FC7
  device : Nat
  /-- Header type: 1 for a bridge, 0 for an endpoint; the multi-function bit. -/
  header : Nat
  multi : Bool
  /-- Class code; none where R302 gives none. -/
  classCode : Option Nat
  msixVectors : Nat
  /-- Device Serial Number; none without the capability. -/
  serial : Option Word
  flr : Bool

/-- Function 0, the upstream switch port. -/
def switchFunction : PciFunction :=
  { device := 0x0880, header := 1, multi := true, classCode := none, msixVectors := 0, serial := none, flr := false }

/-- Function 1, the engine function: a PCI Express endpoint with AER, power states D0 and D3hot, no ATS, ACS or SR-IOV. -/
def State.engineFunction (s : State) : PciFunction :=
  { device := 0x0881, header := 0, multi := false, classCode := some 0x058000, msixVectors := 64
    serial := some (s.shown Reg.CHIP_SERIAL), flr := true }

/-- The one function of MPORT (R413): a PCIe 4.0 x1 endpoint with AER, power states D0 and D3hot. -/
def State.mportFunction (s : State) : PciFunction :=
  { device := 0x0882, header := 0, multi := false, classCode := some 0x088000, msixVectors := 4
    serial := some (s.shown Reg.CHIP_SERIAL), flr := true }

/-- The BARs of MPORT, 64-bit and not prefetchable, and their sizes: the register window and the mailbox (R36, R413). -/
def mportBars : List (Nat × Nat) := [(0, 0x10000000), (2, 0x40000)]

/-- Where the MSI-X table and the pending-bit array of MPORT stand in BAR2 (R413). -/
def mportMsixTable : Nat := 0x30000
def mportMsixPba : Nat := 0x31000

/-- vPPBs of a host's virtual switch (R302). -/
def maxVppbs : Nat := 256

/-- A DSMAS entry of the CDAT (R303): HDM-DB or HDM-H, volatile or not. -/
structure Dsmas where
  base : Nat
  size : Nat
  hdmDb : Bool
  nonVolatile : Bool
  deriving DecidableEq, Repr

/-- The CDAT of a Flacon's upstream ports: one entry for each DECODER. -/
def State.cdat (s : State) (f : Nat) : List Dsmas :=
  (s.flAcc f).cur.decoders.map fun d =>
    { base := d.base, size := d.size, hdmDb := d.shared, nonVolatile := d.persistent || d.gpfProtected }

/-! ### The emulated slot of a vPPB (R322 Table 3), in the PCIe layout (PRESUMED, assumption 52) -/

/-- The downstream port that a vPPB is bound to, where it has HOTPLUG. -/
def State.vppbSlot (s : State) (u v : Nat) : Option PortRec :=
  match s.bindingAt u v with
  | some (_, b) => (s.portRec b.dsp).filter (·.hotplug)
  | none => none

/-- Slot Capabilities: attention button, power controller, hot-plug surprise, hot-plug capable, slot number; 0 without a
HOTPLUG port. -/
def State.slotCapabilities (s : State) (u v : Nat) : Nat :=
  match s.vppbSlot u v with
  | some p => 1 + 2 + 2 ^ 5 + 2 ^ 6 + p.slot * 2 ^ 19
  | none => 0

/-- Presence Detect State: 1 in PRESENT and every later state but FAULT with presence lost. -/
def State.presenceState (s : State) (q : Nat) : Bool :=
  decide (1 ≤ s.hpState q) && (s.hpState q != Hp.FAULT || s.on (Reg.PT_HP_STATUS q) Fld.PT_HP_STATUS.PRSNT)

/-- Slot Status. -/
def State.slotStatus (s : State) (u v : Nat) : Nat :=
  let x := s.vppbSt u v
  let pds := match s.vppbSlot u v with | some p => s.presenceState p.port | none => false
  at64 (b2n x.attnPressed) 0 1 + at64 (b2n x.powerFault) 1 1 + at64 (b2n x.presenceChanged) 3 1 + at64 (b2n x.cmdDone) 4 1
    + at64 (b2n pds) 6 1 + at64 (b2n x.dllsc) 8 1

/-- Data Link Layer Link Active: 1 only in ACTIVE (R321). -/
def State.linkActive (s : State) (u v : Nat) : Bool :=
  match s.vppbSlot u v with | some p => s.hpState p.port == Hp.ACTIVE | none => false

/-- Slot Control as it reads: Power Controller Control shows the slot's real power state (R324), 1 for off. -/
def State.slotControlShown (s : State) (u v : Nat) : Nat :=
  let off := match s.vppbSlot u v with
    | some p => decide (s.hpState p.port < Hp.POWERING) || s.hpState p.port == Hp.FAULT
    | none => true
  at64 (s.vppbSt u v).control.toNat 0 10 + at64 (b2n off) 10 1 + (s.vppbSt u v).control.toNat / 2 ^ 11 * 2 ^ 11

end Sys2Proof.Machine
end

