-- ==== Sys2Proof/Machine/Package.lean ====
section
/-!
DEFINITION. Machine/Package.lean: the ball map (R444 to R446) and the states of the outputs in each mode (R453).
-/
namespace Sys2Proof.Machine

/-! ### Balls -/

/-- What a ball carries: a supply, or a signal.  A pair's p is true for its P signal. -/
inductive BallSig where
  | gnd | rsvd | vddCore | vddSram | vddKeep | vddSds | vddSdsh | vddIo | vaux | vbus12
  | laneTx (lane : Nat) (p : Bool) | laneRx (lane : Nat) (p : Bool)
  | refclk (p : Bool) | sdsRefclk (k : Nat) (p : Bool) | mpRefclk (p : Bool) | mpTx (p : Bool) | mpRx (p : Bool)
  | xspiClk | xspiDqs | xspiCsN | xspiResetN | xspiDq (i : Nat)
  | tck | tms | tdi | tdo | trstN | i3cScl | i3cSda | capclk | capd (i : Nat)
  | presenceN | sealN | freezeN | faultN | alertN | pwronResetN | perstN
  | bootSrc (i : Nat) | mportEn | i3cAddr (i : Nat)
  | slotPrsntN (n : Nat) | slotAttnN (n : Nat) | slotPerstN (n : Nat) | slotClkreqN (n : Nat)
  | feedIn (x : Nat) | feedGate (x : Nat) | pwrfailN
  | spcGate (n : Nat) | spcSrc (n : Nat) | spcSns (n : Nat) | spcOut (n : Nat) | spcTd (n : Nat)
  deriving DecidableEq, Repr

/-- A ball of a lane band (R445): quadrant, depth from the package edge, and place along the edge, from 0. -/
def bandBall (quad depth along : Nat) : BallSig :=
  if depth % 2 = 1 then .gnd
  else
    let lane := 8 * (16 * quad + along / 4) + 2 * ((depth - 2) / 2 % 4) + along % 4 / 2
    if depth ≤ 8 then .laneTx lane (along % 2 == 0) else .laneRx lane (along % 2 == 0)

/-- The ring of the centre region that a ball lies on, from the outermost, 17, inward. -/
def ringOf (r c : Nat) : Nat := min (min r c) (min (81 - r) (81 - c))

/-- Row 21 of the centre region. -/
def clockRow (c : Nat) : BallSig :=
  if c = 21 ∨ c = 22 then .refclk (c == 21)
  else if 24 ≤ c ∧ c ≤ 34 ∧ c % 3 ≠ 2 then .sdsRefclk ((c - 24) / 3) (c % 3 == 0)
  else if c = 36 ∨ c = 37 then .mpRefclk (c == 36)
  else if c = 39 ∨ c = 40 then .mpTx (c == 39)
  else if c = 42 ∨ c = 43 then .mpRx (c == 42)
  else .gnd

/-- Row 22 of the centre region. -/
def controlRow (c : Nat) : BallSig :=
  if 25 ≤ c ∧ c ≤ 32 then .xspiDq (c - 25)
  else if 41 ≤ c ∧ c ≤ 48 then .capd (c - 41)
  else match c with
  | 21 => .xspiClk | 22 => .xspiDqs | 23 => .xspiCsN | 24 => .xspiResetN
  | 33 => .tck | 34 => .tms | 35 => .tdi | 36 => .tdo | 37 => .trstN | 38 => .i3cScl | 39 => .i3cSda | 40 => .capclk
  | 49 => .presenceN | 50 => .sealN | 51 => .freezeN | 52 => .faultN | 53 => .alertN | 54 => .pwronResetN | 55 => .perstN
  | 56 => .bootSrc 0 | 57 => .bootSrc 1 | 58 => .mportEn | 59 => .i3cAddr 0 | _ => .i3cAddr 1

/-- Rows 53 to 56: the slots' sideband, the feeds and VBUS12. -/
def slotRow (r c : Nat) : BallSig :=
  if c ≤ 52 then
    let n := c - 21
    if r = 53 then .slotPrsntN n else if r = 54 then .slotAttnN n else if r = 55 then .slotPerstN n else .slotClkreqN n
  else if r ≠ 53 then .vbus12
  else match c with
  | 53 => .feedIn 0 | 54 => .feedGate 0 | 55 => .feedIn 1 | 56 => .feedGate 1 | 57 => .pwrfailN | _ => .rsvd

/-- Rows 57 to 60: the pins of the slot channels. -/
def channelRow (r c : Nat) : BallSig :=
  let i := 40 * (r - 57) + (c - 21)
  let n := i / 5
  match i % 5 with
  | 0 => .spcGate n | 1 => .spcSrc n | 2 => .spcSns n | 3 => .spcOut n | _ => .spcTd n

/-- The centre region (R446 Table 3). -/
def centreBall (r c : Nat) : BallSig :=
  match ringOf r c with
  | 17 | 19 => .gnd
  | 18 => .vddSds
  | 20 => .vddSdsh
  | _ =>
    let odd := (r + c) % 2 == 1
    if r = 21 then clockRow c
    else if r = 22 then controlRow c
    else if r = 23 then (if c % 2 = 1 then .vddIo else .gnd)
    else if r = 24 then (if c % 2 = 1 then .vaux else .gnd)
    else if r ≤ 52 then
      if odd then .gnd else if r ≤ 46 then .vddCore else if r ≤ 50 then .vddSram else .vddKeep
    else if r ≤ 56 then slotRow r c
    else channelRow r c

/-- The signal of the ball at row r and column c, each from 1 to 80 (R444). -/
def ballAt (r c : Nat) : BallSig :=
  if r ≤ 16 ∧ c ≤ 64 then bandBall 0 r (c - 1)
  else if r ≤ 64 ∧ 65 ≤ c then bandBall 1 (81 - c) (r - 1)
  else if 65 ≤ r ∧ 17 ≤ c then bandBall 2 (81 - r) (80 - c)
  else if 17 ≤ r ∧ c ≤ 16 then bandBall 3 c (80 - r)
  else centreBall r c

/-! ### Outputs (R453 Table 10) -/

/-- The outputs, as the rows of Table 10 group them. -/
inductive OutSig where
  | laneTx | mportTx | xspi | tdo | i3cSda | capture | faultPins | slotPerst | slotClkreq | spcGate | feedGate
  deriving DecidableEq, Repr

/-- High impedance, driven low, electrical idle, a FET held off, as the function in force decides, held at the level of the
freeze boundary. -/
inductive OutLevel where
  | z | low | idle | off | function | held
  deriving DecidableEq, Repr

/-- Modes in which the sideband functions of the slots and lanes are in force. -/
def Mode.slotsRun : Mode → Bool
  | .compose | .serve | .recompose | .revive | .quarantine | .drydown => true
  | _ => false

/-- An output by its mode, before its supply is asked. -/
def State.outByMode (s : State) (x : OutSig) : OutLevel :=
  let m := s.md
  let unpowered := m == .off || m == .reset || m == .retain
  let late := m == .drydown && decide (4 ≤ s.drainPhase)
  match x with
  | .laneTx =>
    if unpowered then .z else if m == .boot || m == .frozen || late then .idle else .function
  | .mportTx =>
    if unpowered then .z else if m == .frozen || (m == .boot && !s.mgmt.mportEn) then .idle else .function
  | .xspi => if unpowered || m == .frozen then .z else .function
  | .tdo => if unpowered then .z else .function
  | .i3cSda => if m == .off || m == .reset || m == .frozen then .z else .function
  | .capture => if unpowered then .z else if m == .frozen then .function else .low
  | .faultPins => if unpowered then .z else if m == .frozen then .held else .function
  | .slotPerst => if m == .frozen then .held else if !m.slotsRun then .z else if late then .low else .function
  | .slotClkreq => if m == .frozen then .held else if m.slotsRun then .function else .z
  | .spcGate => if m.slotsRun || m == .retain || m == .frozen then .function else .off
  | .feedGate =>
    if (m == .off || m == .reset) && decide (s.rd Reg.PC_BUS Fld.PC_BUS.VBUS_MV < 7000) then .low else .function

/-- The outputs supplied from VDD_IO (R451). -/
def ioGroup : OutSig → Bool
  | .xspi | .tdo | .faultPins | .slotPerst | .slotClkreq => true
  | .laneTx | .mportTx | .i3cSda | .capture | .spcGate | .feedGate => false

/-- An output now: one of the IO group is in high impedance while VDD_IO, rail 7, is out of tolerance. -/
def State.outLevel (s : State) (x : OutSig) : OutLevel :=
  if ioGroup x && !s.pins.railsOk.testBit 7 then .z else s.outByMode x

end Sys2Proof.Machine
end

