-- ==== Sys2Proof/Tests/Slice0.lean ====
section
/-!
SUPPORT. Tests/Slice0.lean: the state builders of the tests; for each clause of each statement a concrete state and operands
that meet its hypotheses; each check of WellFormed refusing an ill-formed term; the CRCs' check values; small runs of commands whose result the
specification gives.
-/
namespace Sys2Proof.Tests

set_option Elab.async false

open Sys2Proof Sys2Proof.Machine

/-- Flacons 0 and 1. -/
def fl0 : FlaconRec := { index := 0, sliceMask := 1, dirSets := 16, accordTrackers := 4, accordSlots := 2, stageLines := 64, regionQuota := 8, durability := 1, watchEn := true, topnoteEn := true, topnoteRate := 10, topnoteBurst := 10, mirrorMbps := 1000, cellsGuar := 16, spillGuar := 16 }
def fl1 : FlaconRec := { index := 1, sliceMask := 1, dirSets := 16, regionQuota := 8 }
/-- An upstream port. -/
def pU : PortRec := { port := 0, flacon := 0, firstLane := 0, width := 4, protocol := .cxl, role := .upstream, maxRate := 6, lingerMs := 5 }
/-- A downstream port with a hot-plug slot. -/
def pH : PortRec := { port := 2, flacon := 0, firstLane := 8, width := 4, protocol := .cxl, role := .downstream, maxRate := 6, hotplug := true, slot := 0, lingerMs := 5 }
/-- A downstream port with a soldered device. -/
def pD : PortRec := { port := 4, flacon := 0, firstLane := 16, width := 4, protocol := .cxl, role := .downstream, maxRate := 6, lingerMs := 5, slot := 1 }
/-- An Ictil port. -/
def pF : PortRec := { port := 6, flacon := 0xFF, firstLane := 24, width := 8, protocol := .ictil, role := .fabric, maxRate := 0, anchored := true, sparing := true, cableM := 5, lingerMs := 5, lingerCap := 64 }
/-- A Flocet port. -/
def pG : PortRec := { port := 8, flacon := 0xFF, firstLane := 32, width := 8, protocol := .flocet, role := .fabric, maxRate := 0, cableM := 5 }
def dec0 : DecoderRec := { index := 0, flacon := 0, shared := true, persistent := true, gpfProtected := false, gran := 8, base := 0, size := 0x10000000, targets := [{ eid := 3, port := 2, ld := 0xFF, dpa := 0 }] }
def dec1 : DecoderRec := { index := 1, flacon := 0, shared := true, persistent := true, gpfProtected := false, gran := 8, base := 0x10000000, size := 0x10000000, targets := [{ eid := 4, port := 4, ld := 0xFF, dpa := 0 }] }
def bnd : BindingRec := { flacon := 0, usp := 0, dsp := 2, ld := 0xFF, vppb := 1 }
def slotA : SlotPowerRec := { channel := 0, retries := 1, extDiode := false, autoOn := false, ramp := 1000, limit := 2000, faultUs := 1000, shunt := 1000, fetRth := 500, fetCth := 500, fetTmax := 150, vout := 12000, pgQual := 100 }
def fmA : Formula :=
  { generation := 7, flacons := [fl0, fl1], ports := [pU, pH, pD, pF, pG], decoders := [dec0, dec1], bindings := [bnd], slots := [slotA], wfq := [{ port := 0, flacon := 0, weight := 4, weightMin := 1, weightMax := 8 }], shapers := [{ port := 0, flacon := 0, rate := 100, burst := 4096, maxRate := 1000 }] }
/-- A state in mode m under a Formula. -/
def mk (m : Mode) (f : Option Formula) : State :=
  { State.reset with
    regs := [(Reg.CHIP_MODE, BitVec.ofNat 64 m.code)]
    fml := { inForce := f }
    mgmt := { mportUp := true, mportEn := true, fuses := { serial := 5, seed := 1, lifecycle := 3, vendorKey := [(0, 1)], ownerKey := [(0, 2)] } }
    mode := { fwRunning := true, selfTested := true, identityReady := true }
    pins := { pwronResetN := true } }
def sv : State := mk .serve (some fmA)
def bt : State := mk .boot none
def row (a : Nat) : RegRow := (rowAt a).getD ⟨"", 0, 0, 0, false, []⟩
def z (n : Nat) : List Byte := List.replicate n 0
def ff (n : Nat) : List Byte := List.replicate n 255
def cellsAt (a : Nat) (l : List Byte) : List Host.Cell := (List.range' a l.length).zip l
/-- The fixed part of a Formula's header, its records, and its trailer's head. -/
def fmlPre : List Byte := leBytes 0x4C4D4654 4 ++ [0, 1] ++ leBytes 128 2 ++ leBytes 3480 4 ++ leBytes 4 4 ++ leBytes 9 4 ++ leBytes 0x880 2 ++ [0xA0, 0] ++ z 40
def rec0 : List Byte :=
  leBytes 1 2 ++ [1, 0] ++ leBytes 64 4 ++ z 8 ++ leBytes 10800 2 ++ leBytes 9000 2 ++ z 6 ++ leBytes 1 2 ++ z 36
def rec1 : List Byte := leBytes 2 2 ++ [1, 0] ++ leBytes 16 4 ++ [4, 4, 4] ++ z 5
def rec2 : List Byte := leBytes 0x10 2 ++ [1, 0] ++ leBytes 128 4 ++ z 16 ++ leBytes 16 4 ++ z 4 ++ leBytes 1 8 ++ z 88
def rec3 : List Byte := leBytes 0x20 2 ++ [1, 0] ++ leBytes 48 4 ++ z 4 ++ [4, 0, 0, 1] ++ z 5 ++ [255] ++ z 26
def fmlRecs : List Byte := rec0 ++ rec1 ++ rec2 ++ rec3
def sigHead : List Byte := leBytes 0x47495354 4 ++ leBytes 1793 2 ++ leBytes 1280 2 ++ z 8
def fwPre : List Byte := leBytes 0x49574654 4 ++ [0, 1] ++ leBytes 128 2 ++ leBytes 4096 4 ++ leBytes 1 4 ++ z 4 ++ leBytes 0x880 2 ++ [0xA0] ++ z 41
def keyDigest : Line := 0xce7026db278d91d2d1ac0cea8b5e9d3bf4d07401e828201d36f2d3c2d366f4a592745d544f0c34670dcae3ebb9f93c7d5ff46c6f7a88c1f4fb62754b951271b0#512
def fmlDigest : Line := 0x71733fcde556a43a25e11fce6f8bde889f9f3a3a05c6d5dd3c20d4ae96cc2217f399ff5434c334479cc9f54ea3f28bdd74df6b9e9400a5419ae9e35e9ca522cc#512
def fwDigest : Line := 0x542d7b8c7686835a4b9d9c1d8c8807100df482e535606013cf543b6d396c9ccb05fe450c6c5ac385f0b4bd913e236661fa38f0bcbd4e9c8cfd2ba32ff9483314#512
/-- Flash with firmware in slot 0 and a Formula in slot n, signed under a key of erased bytes. -/
def flashOf (n : Nat) : List Host.Cell :=
  cellsAt 0x100000 (fwPre ++ leBytes fwDigest.toNat 64) ++ cellsAt 0x1003E8 sigHead ++ cellsAt 0x100AF9 (z 7) ++
    cellsAt (fmlSlotBase n) (fmlPre ++ leBytes fmlDigest.toNat 64 ++ fmlRecs ++ sigHead) ++ cellsAt (fmlSlotBase n + 2193) (z 7)
/-- s with that flash, and the key's digest fused. -/
def img (s : State) (n : Nat) : State :=
  { s with mgmt := { s.mgmt with flash := flashOf n, fuses := { s.mgmt.fuses with vendorKey := [(0, keyDigest)], ownerKey := [(0, keyDigest)] } } }
def fmlX : Formula :=
  { generation := 9, digest := fmlDigest, device := { fcPinLevel := 0, alertLevel := 0, pwrwarnMv := 10800, resetMv := 9000, drainMs := 1 },
    arbiter := { planeN := 4, sliceN := 4, keepN := 4 }, flacons := [{ index := 0, dirSets := 16, sliceMask := 1 }],
    ports := [{ port := 0, flacon := 0, firstLane := 0, width := 4, protocol := .cxl, role := .upstream, maxRate := 1, slot := 255 }] }
/-- Port q has its data link up. -/
def dl (s : State) (q : Nat) : State := s.set1 (Reg.PT_STD_STATUS q) Fld.PT_STD_STATUS.DL_UP
def dcb (s : State) : State := s.modAcc 0 fun a => { a with outst := [(100, 1)] }
def ph (s : State) (n : Nat) : State := s.wr Reg.MG_FML_STATUS Fld.MG_FML_STATUS.PHASE n
/-- SERVE with the access tables live. -/
def svA : State := { sv with acc := { sv.acc with fl := [(0, { cur := { decoders := [dec0, dec1], bindings := [bnd] }, old := { decoders := [dec0, dec1], bindings := [bnd] }, changedAt := 0 })] } }
/-- The hot-plug slot ACTIVE with its link up, and the other links up. -/
def upAll : State := ((dl (dl (dl svA 0) 2) 4).wr (Reg.PT_HP_STATUS 2) Fld.PT_HP_STATUS.STATE 6)
def fence (f : PlaneFence) : State := { sv with core := { sv.core with fences := [(2, f)] } }
/-- A queue of port 0, class 4, Flacon 0. -/
def queued (l : List Cell) : State := { dl svA 0 with core := { sv.core with queues := [(queueNo 0 4 0, l)] } }
def cel (k : Kind) (m : Msg) : Cell := { kind := k, msg := m, src := 3, dst := 0, index := 1 }
/-- A queue of home slice 0, class mc, Flacon 0. -/
def homeQ (mc : Nat) (m : Msg) (x : SliceState) : State :=
  { svA with core := { svA.core with queues := [(homeQueue 0 mc 0, [{ kind := .single, msg := { m with mc := mc }, src := 3, dst := 128 }])] }, home := [(0, x)] }
def hc (mc : Nat) (m : Msg) : Cell := { kind := .single, msg := { m with mc := mc }, src := 3, dst := 128 }
def trk (p : TrkPhase) (m : Msg) : Tracker := { id := 3, line := 0, set := 5, tag := 0, flacon := 0, req := m, ph := p }
/-- Slot 0 of port 0 with tracker 7, in Accord a, and its slot register in state x. -/
def acs (a : Accord) (x : Nat) : State :=
  { (dl svA 0).wr (Reg.EF_SLOT 0 0) Fld.EF_SLOT.STATE x with acd := { sv.acd with slots := [(0, 7)], trk := [(7, a)] } }
/-- s with tracker 7 ready. -/
def rdy (s : State) : State := { s with acd := { s.acd with commitQ := [7], readyQ := [7] } }
def mrk : Mark := { line := 0, sln := 0, slice := 0, set := 5, tag := 0, staged := true }
def ac0 : Accord := { flacon := 0, place := some 0 }
/-- s with lane l in stage x. -/
def stg (s : State) (l x : Nat) : State := s.setStage l x
def lst (s : State) (l : Nat) (x : LaneState) : State := { s with lane := [(l, x)] }
/-- s with port q's link in state n and session l. -/
def lnk (s : State) (q n : Nat) (l : LinkState) : State := { s.wr (Reg.PT_LL_STATUS q) Fld.PT_LL_STATUS.STATE n with link := [(q, l)] }
/-- A port that declares its partner. -/
def pP : PortRec := { pF with partnerId := 9 }
def svP : State := mk .serve (some { fmA with ports := [pP] })
/-- Standard ports of other kinds. -/
def pNU : PortRec := { pU with anchored := true }
def pND : PortRec := { pD with anchored := true }
def pW : PortRec := { pD with width := 1 }
def pGU : PortRec := { pU with gpf := true }
def pGD : PortRec := { pD with gpf := true }
def svOf (l : List PortRec) : State := mk .serve (some { fmA with ports := l })
/-- SERVE, the tables live, path 3 delegated everything. -/
def fmD : Formula := { fmA with deleg := [{ path := 3, eid := 0xFF, groups := 0xFFFF, flacons := 0xFFFFFFFF }] }
def genA (b : List BindingRec) : FlAccess := { cur := { decoders := [dec0, dec1], bindings := b }, old := { decoders := [dec0, dec1], bindings := b }, changedAt := 0 }
def live (s : State) (b : List BindingRec) : State := { s with acc := { s.acc with fl := [(0, genA b)] } }
def svD : State := live (mk .serve (some fmD)) []
def hp (s : State) (x : Nat) : State := s.wr (Reg.PT_HP_STATUS 2) Fld.PT_HP_STATUS.STATE x
def chn (s : State) (x : Nat) : State := s.wr (Reg.SPC_STATE 0) Fld.SPC_STATE.STATE x
def svG : State := { dl (svOf [pGU, pGD]) 0 with acc := { sv.acc with fl := [(0, { genA [{ bnd with dsp := 4 }] with cur := { decoders := [], bindings := [{ bnd with dsp := 4 }] } })] } }
def decX : DecoderRec := { dec0 with shared := false }
def decY : DecoderRec := { dec1 with shared := false }
def genX : FlAccess := { cur := { decoders := [decX, decY], bindings := [] }, old := { decoders := [decX, decY], bindings := [] }, changedAt := 0 }
def rgn (a b p : Nat) : RegionEnt := { flacon := 0, ns := false, start := a, stop := b, perms := p, epoch := 0 }
/-- Ready for a copy from decoder 0 to decoder 1. -/
def dcA : State :=
  let s := hp (dl (dl (sv.set1 Reg.DC_CTL Fld.DC_CTL.EN) 2) 4) 6
  { s with acc := { s.acc with fl := [(0, genX)], regions := [(0, rgn 0 0x10000000 5), (1, rgn 0x10000000 0x20000000 6)] } }
def jb : DecantJob := { src := 0, tgt := 1, flacon := 0, rate := 100, total := 8 }
def dcJ (x : DecantJob) : State := { dcA with decant := [(0, x)] }
def norg (s : State) : State := { s with acc := { s.acc with regions := [] } }
def used : State := { svA with acc := { svA.acc with regions := [(0, rgn 0 0x1000 8)] } }
def ws (s : State) (b : Fld) : State := s.set1 Reg.PC_SUPV_STATUS b
def ride (s : State) (n : Nat) : State := s.wr Reg.PC_SUPV Fld.PC_SUPV.RIDE_US n
/-- A state of DRYDOWN in phase n, its ports l. -/
def dry (l : List PortRec) (n : Nat) : State := (mk .drydown (some { fmA with ports := l })).wr Reg.KS_DRAIN_STATUS Fld.KS_DRAIN_STATUS.PHASE n
def sl : Sealed := { seq := 3, cls := 0, flacon := 0, tracker := 7, count := 0, time := 0, lines := [{ line := 0, sln := 0, slice := 0, slot := 0, data := 5 }] }
def sld (s : State) (l : List Sealed) : State := { s with acd := { s.acd with seals := l } }
def rr : RetentionRec := { valid := true, formulaSlot := 0, digest := slotDigest [] 0, fwSlot := 0, crc := 0, time := 0, slots := [], heldRecords := 0, heldLines := 0, lowestSeq := 0, flacons := 0, drainStatus := 0, drainTime := 0, drainCnt := 0, drainCut := 0, taint := false }
/-- A drain whose tables are saved. -/
def drS (cut : Bool) (l : List PortRec) : State := { dry l 4 with drain := { saved := true, railCut := cut }, retention := some rr }
def rev (n : Nat) : State := { (mk .revive (some fmA)).wr Reg.KS_REVIVE_STATUS Fld.KS_REVIVE_STATUS.PHASE n with retention := some rr }
/-- s with the collector running. -/
def run (s : State) : State := { s with flt := { s.flt with running := true } }
/-- s with what the collector keeps for source n. -/
def src (s : State) (n : Nat) (x : SrcState) : State := { s with flt := { s.flt with src := [(n, x)] } }
/-- Presence shown. -/
def prs (s : State) : State := s.set1 Reg.MG_PRESENCE Fld.MG_PRESENCE.OPEN
def frz : State := (mk .frozen (some fmA)).set1 Reg.FZ_CTL Fld.FZ_CTL.READOUT_EN
def rcv : State := bt.set1 Reg.CHIP_BOOT_STATUS Fld.CHIP_BOOT_STATUS.RECOVERY
/-- s with its fuses as g makes them. -/
def fus (s : State) (g : Fuses → Fuses) : State := { s with mgmt := { s.mgmt with fuses := g s.mgmt.fuses } }
def ins : RegionEntry := { op := 1, flacon := 0, index := 5, perms := 5, start := 0, stop := 0x1000 }
def lv : State := live sv []
/-- A Flacon's epoch held back by an access of long ago. -/
def lag : State := { lv.wr (Reg.FL_EPOCH 0) Fld.FL_EPOCH.EPOCH 9 with acc := { lv.acc with fl := [(0, { genA [] with outst := [(1, 1)] })] } }
def wf8 : State := { sv with sched := { sv.sched with port := [(0, { wfq := [(0, { weight := 2, weightMin := 1, weightMax := 8 })], shapers := [(0, { rate := 100, burst := 4096, maxRate := 1000 })] })] } }
def badAt : Completion := match checkAccess (.mgmt 0) 0x102 4 with
  | .error e => e
  | .ok _ => .noResponse
def nextOf (s : State) : State := match step s with
  | .next t => t
  | _ => s
def errOf (s : State) : FmlErr := match s.validateSlot 0 true with
  | .inr e => e
  | .inl _ => { code := 0, offset := 0 }

/-- The key's digest. -/
theorem key_hash : shake256 (ff 1793) = keyDigest := by decide +kernel
/-- The Formula's digest. -/
theorem fml_hash : shake256 (fmlPre ++ fmlRecs) = fmlDigest := by decide +kernel
/-- The firmware's digest. -/
theorem fw_hash : shake256 (fwPre ++ ff 872) = fwDigest := by decide +kernel

/-- The Formula image. -/
def fmlImg : List Byte := fmlPre ++ leBytes fmlDigest.toNat 64 ++ fmlRecs ++ sigHead ++ ff 1793 ++ z 7 ++ ff 1280
/-- The firmware image. -/
def fwImg : List Byte := fwPre ++ leBytes fwDigest.toNat 64 ++ ff 872 ++ sigHead ++ ff 1793 ++ z 7 ++ ff 1280
theorem halves {l m : List Byte} (n : Nat) (h : l.take n = m.take n) (k : l.drop n = m.drop n) : l = m := by
  rw [← List.take_append_drop n l, h, k, List.take_append_drop]
theorem fml_img (n : Nat) (h : n < 2) : slotImage (flashOf n) n = fmlImg := by
  have : ∀ n < 2, slotImage (flashOf n) n = fmlImg := by decide +kernel
  exact this n h
theorem fw_img (n : Nat) (h : n < 2) : fwImage (flashOf n) 0 = fwImg := by
  have a : ∀ n < 2, (fwImage (flashOf n) 0).take 2048 = fwImg.take 2048 := by decide +kernel
  have b : ∀ n < 2, (fwImage (flashOf n) 0).drop 2048 = fwImg.drop 2048 := by decide +kernel
  exact halves 2048 (a n h) (b n h)
theorem fml_key : ((fmlImg.drop (leAt fmlImg 8 4 - 3096)).drop 16).take 1793 = ff 1793 := by decide +kernel
theorem fml_body : fmlImg.take 0x40 ++ ((fmlImg.drop 128).take (leAt fmlImg 8 4 - 3096 - 128)) = fmlPre ++ fmlRecs := by
  decide +kernel
theorem fw_key : ((fwImg.drop (leAt fwImg 8 4 - 3096)).drop 16).take 1793 = ff 1793 := by decide +kernel
theorem fw_body : fwImg.take 0x40 ++ ((fwImg.drop 128).take (leAt fwImg 8 4 - 3096 - 128)) = fwPre ++ ff 872 := by
  decide +kernel
theorem fml_trailer : firstFail (trailerChecks fmlImg (some keyDigest) true) 0xFFFF = none := by
  unfold trailerChecks
  simp only [fml_key, fml_body, key_hash, fml_hash]
  decide +kernel
/-- The records of the Formula image. -/
def fmlRaw : List RawRec := [⟨0, 1, rec0⟩, ⟨1, 2, rec1⟩, ⟨2, 0x10, rec2⟩, ⟨3, 0x20, rec3⟩]
theorem fml_recs : (fmlImg.drop 128).take (leAt fmlImg 8 4 - 3096 - 128) = fmlRecs := by decide +kernel
theorem fml_frame : frame fmlRecs [] 0 (leAt fmlImg 8 4) = (fmlRaw, none) := by decide +kernel
theorem fml_header : firstFail (headerChecks fmlImg 5) 0xFFFF = none := by decide +kernel
theorem fml_count : firstFail (countChecks fmlImg fmlRaw) 0xFFFF = none := by decide +kernel
theorem fml_build : buildFormula fmlImg fmlRaw = fmlX := by decide +kernel
theorem fml_field : overRecords (fun r _ => r.fieldChecks) [] fmlRaw = none := by decide +kernel
theorem fml_struct : overRecords (fun r before => r.structChecks fmlX before) [] fmlRaw = none := by decide +kernel
theorem fml_share : overRecords (fun r before => r.shareChecks fmlX fmlRaw before) [] fmlRaw = none := by decide +kernel
theorem fml_gate : overRecords (fun r _ => r.gateChecks fmlX) [] fmlRaw = none := by decide +kernel
theorem valid_of {b : List Byte} {n : Nat} {o : Option Line} {g : Bool} {body : List Byte} {l : List RawRec} {f : Formula}
    (h1 : firstFail (headerChecks b n) 0xFFFF = none) (h2 : firstFail (trailerChecks b o g) 0xFFFF = none)
    (h3 : (b.drop 128).take (leAt b 8 4 - 3096 - 128) = body) (h4 : frame body [] 0 (leAt b 8 4) = (l, none))
    (h5 : firstFail (countChecks b l) 0xFFFF = none) (h6 : buildFormula b l = f)
    (h7 : overRecords (fun r _ => r.fieldChecks) [] l = none)
    (h8 : overRecords (fun r before => r.structChecks f before) [] l = none)
    (h9 : overRecords (fun r before => r.shareChecks f l before) [] l = none)
    (h10 : overRecords (fun r _ => r.gateChecks f) [] l = none) : validate b n o g = .inl f := by
  unfold validate
  simp only [h1, h2, h3, h4, h5, h6, h7, h8, h9, h10]
theorem fml_valid : validate fmlImg 5 (some keyDigest) true = .inl fmlX :=
  valid_of fml_header fml_trailer fml_recs fml_frame fml_count fml_build fml_field fml_struct fml_share fml_gate
theorem fw_ok (f : Fuses) (h : (vendorEntry f keyDigest).isNone = false) (hs : f.minSvn = 0) : fwCheck fwImg f true = none := by
  unfold fwCheck
  simp only [fw_key, fw_body, key_hash, fw_hash, h, hs]
  decide +kernel
theorem slot_valid {s : State} {n m : Nat} {g : Bool} (h : m < 2) (hf : s.mgmt.flash = flashOf m) (hn : n = m) (hg : g = true)
    (hs : s.mgmt.fuses.serial.toNat = 5) (ho : ownerDigest s.mgmt.fuses = some keyDigest) : s.validateSlot n g = .inl fmlX := by
  unfold State.validateSlot
  rw [hf, hn, hg, hs, ho, fml_img m h]
  exact fml_valid
theorem slot_fw {s : State} {n m : Nat} {g : Bool} (h : m < 2) (hf : s.mgmt.flash = flashOf m) (hn : n = 0) (hg : g = true)
    (hv : (vendorEntry s.mgmt.fuses keyDigest).isNone = false) (hs : s.mgmt.fuses.minSvn = 0) :
    fwCheck (fwImage s.mgmt.flash n) s.mgmt.fuses g = none := by
  rw [hf, hn, hg, fw_img m h]
  exact fw_ok _ hv hs
theorem slot_key {s : State} {n : Nat} {g : Bool} (hf : s.mgmt.flash = flashOf 1) (hn : n = 1) (hg : g = true)
    (hs : s.mgmt.fuses.serial.toNat = 5) :
    validate (slotImage s.mgmt.flash n) s.mgmt.fuses.serial.toNat (some (shake256 (ff 1793))) g = .inl fmlX := by
  rw [hf, hn, hg, hs, key_hash, fml_img 1 (by decide)]
  exact fml_valid
theorem pick_fw {s : State} {v : SigVerdict} {n : Nat} {r : List Nat} {c : Nat}
    (h : fwCheck (fwImage s.mgmt.flash n) s.mgmt.fuses (v.of n) = none) : s.pickFirmware v (n :: r) c = .inl n := by
  unfold State.pickFirmware
  rw [h]

theorem of_all {α : Type} {o : Option α} {P : α → Prop} (h : ∀ x ∈ o.toList, P x) : ∀ x, o = some x → P x :=
  fun x e => h x (by simp [e])

theorem ok_of {ε α : Type} {e : Except ε α} {x : α} (h : e.toOption = some x) : e = .ok x := by
  cases e <;> simp_all [Except.toOption]

theorem error_of {ε α : Type} {e : Except ε α} {x : ε} (h : (match e with | .error y => some y | .ok _ => none) = some x) :
    e = .error x := by
  cases e <;> simp_all

theorem row_eq {a : Nat} (h : (rowAt a).isSome = true) : rowAt a = some (row a) := by
  unfold row
  cases e : rowAt a <;> simp_all

theorem noRetune_of {s : State} (h : s.lane = []) : s.noRetune := by
  intro l
  simp [State.laneSt, h, tabGet, tabFind]

theorem slicesIdle_of {s : State} (h : s.home = []) : s.slicesIdle := by
  intro n
  simp [State.slice, h, tabGet, tabFind]

theorem portIdle_of {s : State} {q : Nat}
    (h : (s.home = [] ∧ s.core.queues = [] ∧ s.core.wait = [] ∧ s.core.pack = [] ∧ s.core.gate = [] ∧ s.acd.trk = [] ∧
      s.acd.seals = []) ∧ s.core.otags = [] ∧ (∀ c < 8, s.arrivingAt q c = none) ∧ (s.schedPort q).hold = none ∧
      s.lane = [] ∧ s.decant = []) : s.portIdle q :=
  ⟨h.1, h.2.1, h.2.2.1, h.2.2.2.1, noRetune_of h.2.2.2.2.1, h.2.2.2.2.2⟩

theorem next_of {s : State} (h : (match step s with | .next _ => true | _ => false) = true) : step s = .next (nextOf s) := by
  unfold nextOf
  cases e : step s <;> simp_all

/-- The hypotheses of TimeCorrections, clause 1, hold together. -/
theorem test_TimeCorrections_1 :
    ∃ (s : State),
    s.quiet = true ∧
    s.md.clocked = true ∧
    0 < s.time.slew ∧
    s.now < 2 ^ 64 - 1 :=
  ⟨{ sv with time := { slew := 2 } },
    by decide +kernel⟩

/-- The hypotheses of TimeCorrections, clause 2, hold together. -/
theorem test_TimeCorrections_2 :
    ∃ (s : State),
    s.quiet = true ∧
    s.md.clocked = true ∧
    s.time.slew < 0 :=
  ⟨{ sv with time := { slew := -2 } },
    by decide +kernel⟩

/-- The hypotheses of TimeCorrections, clause 3, hold together. -/
theorem test_TimeCorrections_3 :
    ∃ (s : State) (p : AccessPath) (w : BitVec 32),
    s.quiet = true ∧
    s.mayAct p = true ∧
    (¬ (0 < timeDelta w.toNat ∧ s.on Reg.CHIP_TIME_CTL Fld.CHIP_TIME_CTL.STEP)) :=
  ⟨sv, .bar0, 0x80000005,
    by decide +kernel⟩

/-- The hypotheses of TimeCorrections, clause 4, hold together. -/
theorem test_TimeCorrections_4 :
    ∃ (s : State) (p : AccessPath) (w : BitVec 32),
    s.quiet = true ∧
    s.mayAct p = true ∧
    0 < timeDelta w.toNat ∧
    s.on Reg.CHIP_TIME_CTL Fld.CHIP_TIME_CTL.STEP = true ∧
    s.now + timeDelta w.toNat < 2 ^ 64 :=
  ⟨sv.set1 Reg.CHIP_TIME_CTL Fld.CHIP_TIME_CTL.STEP, .bar0, 5,
    by decide +kernel⟩

/-- The hypotheses of TimeCorrections, clause 5, hold together. -/
theorem test_TimeCorrections_5 :
    ∃ (s : State) (d : Int),
    s.quiet = true ∧
    s.md.clocked = true ∧
    d < 0 ∧
    s.on Reg.CHIP_TIME_CTL Fld.CHIP_TIME_CTL.PTM_EN = true ∧
    (∃ r, s.portRec (s.rd Reg.CHIP_TIME_CTL Fld.CHIP_TIME_CTL.PTM_PORT) = some r ∧ r.fabric = false ∧ r.role = .upstream) ∧
    s.portUp (s.rd Reg.CHIP_TIME_CTL Fld.CHIP_TIME_CTL.PTM_PORT) = true :=
  ⟨(dl sv 0).set1 Reg.CHIP_TIME_CTL Fld.CHIP_TIME_CTL.PTM_EN, -7,
    by decide +kernel⟩

/-- The hypotheses of PowerAndReset, clause 1, hold together. -/
theorem test_PowerAndReset_1 :
    ∃ (s : State) (_b : Bool),
    s.md = .off :=
  ⟨mk .off none, true,
    by decide +kernel⟩

/-- The hypotheses of PowerAndReset, clause 2, hold together. -/
theorem test_PowerAndReset_2 :
    ∃ (s : State),
    s.md ≠ .off :=
  ⟨sv,
    by decide +kernel⟩

/-- The hypotheses of PowerAndReset, clause 3, hold together. -/
theorem test_PowerAndReset_3 :
    ∃ (s : State),
    s.md ≠ .off :=
  ⟨sv,
    by decide +kernel⟩

/-- The hypotheses of PowerAndReset, clause 4, hold together. -/
theorem test_PowerAndReset_4 :
    ∃ (s : State),
    s.md = .reset ∧
    s.mode.vauxWait = true ∧
    s.pins.pwronResetN = true ∧
    s.pins.vaux = true ∧
    s.mode.busHold = false ∧
    s.on Reg.CHIP_MODE Fld.CHIP_MODE.RETAIN_VALID = false :=
  ⟨{ mk .reset none with mode := { vauxWait := true } },
    by decide +kernel⟩

/-- The hypotheses of PowerAndReset, clause 5, hold together. -/
theorem test_PowerAndReset_5 :
    ∃ (s : State),
    s.md = .reset ∧
    s.pins.vaux = true ∧
    s.mode.busHold = false ∧
    s.on Reg.CHIP_MODE Fld.CHIP_MODE.RETAIN_VALID = false :=
  ⟨mk .reset none,
    by decide +kernel⟩

/-- The hypotheses of PowerAndReset, clause 6, hold together. -/
theorem test_PowerAndReset_6 :
    ∃ (s : State),
    s.md = .reset ∧
    s.pins.vaux = true ∧
    s.mode.busHold = false ∧
    s.on Reg.CHIP_MODE Fld.CHIP_MODE.RETAIN_VALID = true :=
  ⟨(mk .reset none).set1 Reg.CHIP_MODE Fld.CHIP_MODE.RETAIN_VALID,
    by decide +kernel⟩

/-- The hypotheses of PowerAndReset, clause 7, hold together. -/
theorem test_PowerAndReset_7 :
    ∃ (s : State),
    s.md = .serve ∧
    s.on Reg.CHIP_MODE Fld.CHIP_MODE.RETAIN_VALID = false ∧
    s.unwrittenMirror = none :=
  ⟨sv,
    by decide +kernel⟩

/-- The hypotheses of PowerAndReset, clause 8, hold together. -/
theorem test_PowerAndReset_8 :
    ∃ (s : State),
    s.quiet = true ∧
    s.md = .retain :=
  ⟨mk .retain none,
    by decide +kernel⟩

/-- The hypotheses of ResetAndModeRequests, clause 1, hold together. -/
theorem test_ResetAndModeRequests_1 :
    ∃ (s : State) (p : AccessPath),
    s.quiet = true ∧
    s.mayAct p = true ∧
    s.md.clocked = true ∧
    s.md ≠ .drydown :=
  ⟨sv, .bar0,
    by decide +kernel⟩

/-- The hypotheses of ResetAndModeRequests, clause 2, hold together. -/
theorem test_ResetAndModeRequests_2 :
    ∃ (s : State) (p : AccessPath) (k : BitVec 32),
    s.quiet = true ∧
    s.mayAct p = true ∧
    k ≠ 0x5EED0880 :=
  ⟨sv, .bar0, 5,
    by decide +kernel⟩

/-- The hypotheses of ResetAndModeRequests, clause 3, hold together. -/
theorem test_ResetAndModeRequests_3 :
    ∃ (s : State),
    s.md = .serve ∧
    s.mode.resetScheduled = true ∧
    s.unwrittenMirror = none :=
  ⟨{ sv with mode := { fwRunning := true, resetScheduled := true } },
    by decide +kernel⟩

/-- The hypotheses of ResetAndModeRequests, clause 4, hold together. -/
theorem test_ResetAndModeRequests_4 :
    ∃ (s : State) (p : AccessPath),
    s.mayAct p = true ∧
    s.md = .boot ∧
    s.inRecovery = false :=
  ⟨bt, .bar0,
    by decide +kernel⟩

/-- The hypotheses of ResetAndModeRequests, clause 5, hold together. -/
theorem test_ResetAndModeRequests_5 :
    ∃ (s : State) (p : AccessPath),
    s.mayAct p = true ∧
    s.md = .linktest :=
  ⟨mk .linktest none, .bar0,
    by decide +kernel⟩

/-- The hypotheses of ResetAndModeRequests, clause 6, hold together. -/
theorem test_ResetAndModeRequests_6 :
    ∃ (s : State) (p : AccessPath),
    s.mayAct p = true ∧
    s.md ∈ [Mode.compose, .serve, .recompose, .revive] :=
  ⟨sv, .bar0,
    by decide +kernel⟩

/-- The hypotheses of ResetAndModeRequests, clause 7, hold together. -/
theorem test_ResetAndModeRequests_7 :
    ∃ (s : State) (p : AccessPath),
    s.quiet = true ∧
    s.mayAct p = true ∧
    s.md ∈ [Mode.boot, .quarantine, .drydown] :=
  ⟨bt, .mgmt 0,
    by decide +kernel⟩

/-- The hypotheses of ResetAndModeRequests, clause 8, hold together. -/
theorem test_ResetAndModeRequests_8 :
    ∃ (s : State),
    s.quiet = true :=
  ⟨sv,
    by decide +kernel⟩

/-- The hypotheses of ResetAndModeRequests, clause 9, hold together. -/
theorem test_ResetAndModeRequests_9 :
    ∃ (s : State),
    s.quiet = true ∧
    s.md.clocked = true ∧
    s.mgmt.mportEn = true :=
  ⟨sv,
    by decide +kernel⟩

/-- The hypotheses of BadAccessAborts, clause 1, hold together. -/
theorem test_BadAccessAborts_1 :
    ∃ (s : State) (p : AccessPath) (a : Nat) (size : Nat),
    s.quiet = true ∧
    s.pinsFollow = true ∧
    s.reachesAt p a = true ∧
    (size ≠ 4 ∧ size ≠ 8 ∨ a % size ≠ 0) :=
  ⟨sv, .bar0, 0x102, 4,
    by decide +kernel⟩

/-- The hypotheses of WholeAccesses, clause 1, hold together. -/
theorem test_WholeAccesses_1 :
    ∃ (s : State) (p : AccessPath) (a : Nat) (x : Nat) (r : RegRow),
    s.opensAt p a 8 x ∧
    rowAt x = some r ∧
    r.wide = true :=
  ⟨sv, .mgmt 0, Reg.MG_PATH_CNT 1, Reg.MG_PATH_CNT 1, row (Reg.MG_PATH_CNT 1),
    ⟨by decide +kernel, ok_of (by decide +kernel), by decide +kernel, by decide +kernel, by decide +kernel⟩, row_eq (by decide +kernel), by decide +kernel⟩

/-- The hypotheses of WholeAccesses, clause 2, hold together. -/
theorem test_WholeAccesses_2 :
    ∃ (s : State) (p : AccessPath) (a : Nat) (x : Nat) (r : RegRow) (_w : Word),
    s.opensWrite p a 8 x ∧
    rowAt x = some r ∧
    r.wide = true :=
  ⟨sv, .bar0, Reg.MG_PATH_CNT 1, Reg.MG_PATH_CNT 1, row (Reg.MG_PATH_CNT 1), 0,
    ⟨⟨by decide +kernel, ok_of (by decide +kernel), by decide +kernel, by decide +kernel, by decide +kernel⟩, by decide +kernel⟩, row_eq (by decide +kernel), by decide +kernel⟩

/-- The hypotheses of WholeAccesses, clause 3, hold together. -/
theorem test_WholeAccesses_3 :
    ∃ (s : State) (p : AccessPath) (a : Nat) (x : Nat) (r : RegRow) (_w : Word),
    s.opensWrite p a 4 x ∧
    rowAt x = some r ∧
    r.wide = false :=
  ⟨sv, .bar0, Reg.FC_PIN_LEVEL, Reg.FC_PIN_LEVEL, row Reg.FC_PIN_LEVEL, 1,
    ⟨⟨by decide +kernel, ok_of (by decide +kernel), by decide +kernel, by decide +kernel, by decide +kernel⟩, by decide +kernel⟩, row_eq (by decide +kernel), by decide +kernel⟩

/-- The hypotheses of WholeAccesses, clause 4, hold together. -/
theorem test_WholeAccesses_4 :
    ∃ (s : State) (p : AccessPath) (a : Nat) (x : Nat) (base : Nat) (r : RegRow) (_w : Word),
    s.opensWrite p a 4 x ∧
    rowAt x = some r ∧
    r.wide = false ∧
    (locateBlock x = some (.pc, base) ∨ locateBlock x = some (.spc, base)) :=
  ⟨sv, .bar0, Reg.PC_EVENTS, Reg.PC_EVENTS, 0x400000, row Reg.PC_EVENTS, 1,
    ⟨⟨by decide +kernel, ok_of (by decide +kernel), by decide +kernel, by decide +kernel, by decide +kernel⟩, by decide +kernel⟩, row_eq (by decide +kernel), by decide +kernel⟩

/-- The hypotheses of SplitAccesses, clause 1, hold together. -/
theorem test_SplitAccesses_1 :
    ∃ (s : State) (p : AccessPath) (a : Nat) (x : Nat) (r : RegRow),
    s.opensAt p a 4 x ∧
    rowAt x = some r ∧
    r.wide = true :=
  ⟨sv, .mgmt 0, Reg.MG_PATH_CNT 1, Reg.MG_PATH_CNT 1, row (Reg.MG_PATH_CNT 1),
    ⟨by decide +kernel, ok_of (by decide +kernel), by decide +kernel, by decide +kernel, by decide +kernel⟩, row_eq (by decide +kernel), by decide +kernel⟩

/-- The hypotheses of SplitAccesses, clause 2, hold together. -/
theorem test_SplitAccesses_2 :
    ∃ (s : State) (p : AccessPath) (a : Nat) (x : Nat) (b : Nat) (v : Nat) (r : RegRow),
    s.quiet = true ∧
    s.opensAt p a 4 x ∧
    wordAt x = some (r, b, true) ∧
    tabFind s.io.latch p.key = some (b, v) :=
  ⟨{ sv with io := { latch := [(0, Reg.MG_PATH_CNT 1, 77)] } }, .bar0, Reg.MG_PATH_CNT 1 + 4, Reg.MG_PATH_CNT 1 + 4, Reg.MG_PATH_CNT 1, 77, row (Reg.MG_PATH_CNT 1),
    by decide +kernel, ⟨by decide +kernel, ok_of (by decide +kernel), by decide +kernel, by decide +kernel, by decide +kernel⟩, by decide +kernel⟩

/-- The hypotheses of SplitAccesses, clause 3, hold together. -/
theorem test_SplitAccesses_3 :
    ∃ (s : State) (p : AccessPath) (a : Nat) (x : Nat) (r : RegRow) (_d : BitVec 32),
    s.quiet = true ∧
    s.opensWrite p a 4 x ∧
    rowAt x = some r ∧
    r.wide = true ∧
    isDoorbell x = false :=
  ⟨sv, .bar0, Reg.MG_PATH_CNT 1, Reg.MG_PATH_CNT 1, row (Reg.MG_PATH_CNT 1), 9,
    by decide +kernel, ⟨⟨by decide +kernel, ok_of (by decide +kernel), by decide +kernel, by decide +kernel, by decide +kernel⟩, by decide +kernel⟩, row_eq (by decide +kernel), by decide +kernel⟩

/-- The hypotheses of SplitAccesses, clause 4, hold together. -/
theorem test_SplitAccesses_4 :
    ∃ (s : State) (p : AccessPath) (a : Nat) (x : Nat) (b : Nat) (r : RegRow) (_d : BitVec 32) (h : HeldHalf),
    s.opensWrite p a 4 x ∧
    wordAt x = some (r, b, true) ∧
    r.wide = true ∧
    isDoorbell b = false ∧
    tabFind s.io.hold p.key = some h ∧
    h.addr = b ∧
    h.broken = false :=
  ⟨{ sv with io := { hold := [(0, { addr := Reg.MG_PATH_CNT 1, low := 9 })] } }, .bar0, Reg.MG_PATH_CNT 1 + 4, Reg.MG_PATH_CNT 1 + 4, Reg.MG_PATH_CNT 1, row (Reg.MG_PATH_CNT 1), 9, { addr := Reg.MG_PATH_CNT 1, low := 9 },
    ⟨⟨by decide +kernel, ok_of (by decide +kernel), by decide +kernel, by decide +kernel, by decide +kernel⟩, by decide +kernel⟩, by decide +kernel⟩

/-- The hypotheses of SplitAccesses, clause 5, hold together. -/
theorem test_SplitAccesses_5 :
    ∃ (s : State) (p : AccessPath) (a : Nat) (x : Nat) (b : Nat) (r : RegRow) (_d : BitVec 32),
    s.quiet = true ∧
    s.opensWrite p a 4 x ∧
    wordAt x = some (r, b, true) ∧
    r.wide = true ∧
    isDoorbell b = false ∧
    tabFind s.io.hold p.key = none ∧
    p = .bar0 :=
  ⟨sv, .bar0, Reg.MG_PATH_CNT 1 + 4, Reg.MG_PATH_CNT 1 + 4, Reg.MG_PATH_CNT 1, row (Reg.MG_PATH_CNT 1), 9,
    by decide +kernel, ⟨⟨by decide +kernel, ok_of (by decide +kernel), by decide +kernel, by decide +kernel, by decide +kernel⟩, by decide +kernel⟩, by decide +kernel⟩

/-- The hypotheses of SplitAccesses, clause 6, hold together. -/
theorem test_SplitAccesses_6 :
    ∃ (s : State) (k : Fin 4) (h : HeldHalf),
    s.quiet = true ∧
    tabFind s.io.hold (AccessPath.mgmt k).key = some h :=
  ⟨{ sv with io := { hold := [(2, { addr := Reg.MG_PATH_CNT 1, low := 9 })] } }, 1, { addr := Reg.MG_PATH_CNT 1, low := 9 },
    by decide +kernel⟩

/-- The hypotheses of RefusedWriteCounted, clause 1, hold together. -/
theorem test_RefusedWriteCounted_1 :
    ∃ (s : State) (p : AccessPath) (a : Nat) (x : Nat) (size : Nat) (_w : Word),
    s.quiet = true ∧
    s.opensAt p a size x ∧
    x < bar0Size ∧
    p ≠ .jtag ∧
    s.mayWrite p = false :=
  ⟨sv, .mgmt 3, Reg.FC_PIN_LEVEL, Reg.FC_PIN_LEVEL, 4, 1,
    by decide +kernel, ⟨by decide +kernel, ok_of (by decide +kernel), by decide +kernel, by decide +kernel, by decide +kernel⟩, by decide +kernel⟩

/-- The hypotheses of FieldTypes, clause 1, hold together. -/
theorem test_FieldTypes_1 :
    ∃ (fs : List FieldRow) (_old : Word) (_new : Word) (f : FieldRow),
    (∀ g ∈ fs, g.lo + g.width ≤ 64) ∧
    (fs.Pairwise (fun g h => g.lo + g.width ≤ h.lo ∨ h.lo + h.width ≤ g.lo)) ∧
    f ∈ fs :=
  ⟨(row (Reg.MG_PATH_CNT 1)).fields, 5, 6, ⟨0, 32, .rc, 0⟩,
    by decide +kernel⟩

/-- The hypotheses of CountersSaturate, clause 1, hold together. -/
theorem test_CountersSaturate_1 :
    ∃ (_s : State) (_a : Nat) (_n : Nat) (f : Fld),
    f.lo + f.width ≤ 64 :=
  ⟨sv, Reg.MG_BAR0_WR, 3, Fld.MG_BAR0_WR.REFUSED,
    by decide +kernel⟩

/-- The hypotheses of FenceNotices, clause 1, hold together. -/
theorem test_FenceNotices_1 :
    ∃ (s : State) (n : PlaneIx) (f : PlaneFence),
    s.md.clocked = true ∧
    tabFind s.core.fences n.val = some f ∧
    f.noticed = false ∧
    f.lifted = false :=
  ⟨{ sv with core := { sv.core with fences := [(2, { fault := false })] } }, 2, { fault := false },
    by decide +kernel⟩

/-- The hypotheses of FenceNotices, clause 2, hold together. -/
theorem test_FenceNotices_2 :
    ∃ (s : State) (n : PlaneIx),
    s.md.clocked = true ∧
    tabFind s.core.fences n.val = none :=
  ⟨sv, 2,
    by decide +kernel⟩

/-- The hypotheses of FenceNotices, clause 3, hold together. -/
theorem test_FenceNotices_3 :
    ∃ (s : State) (n : PlaneIx),
    s.quiet = true ∧
    s.md.clocked = true ∧
    s.noticesBelow 6 = [] ∧
    (∀ f, tabFind s.core.fences n.val = some f → f.noticed = true → f.waits.all (fun w => w.got == f.planes) = true) :=
  ⟨{ sv with core := { sv.core with fences := [(2, { fault := true, noticed := true })] } }, 2,
    by decide +kernel, by decide +kernel, by decide +kernel, of_all (by decide +kernel)⟩

/-- The hypotheses of FenceNotices, clause 4, hold together. -/
theorem test_FenceNotices_4 :
    ∃ (s : State) (n : PlaneIx) (f : PlaneFence),
    s.quiet = true ∧
    s.md.clocked = true ∧
    s.noticesBelow 6 = [] ∧
    tabFind s.core.fences n.val = some f ∧
    f.noticed = true ∧
    f.waits.all (fun w => w.got == f.planes) = false :=
  ⟨{ sv with core := { sv.core with fences := [(2, { fault := true, noticed := true, planes := 1, waits := [{ src := 0, unit := 0 }] })] } }, 2, { fault := true, noticed := true, planes := 1, waits := [{ src := 0, unit := 0 }] },
    by decide +kernel⟩

/-- The hypotheses of FenceNotices, clause 5, hold together. -/
theorem test_FenceNotices_5 :
    ∃ (s : State) (n : SliceIx),
    s.md.clocked = true ∧
    s.arrayEmpty ∧
    n.val ∉ s.acc.fencedSlices ∧
    s.noticesBelow 2 = [] :=
  ⟨sv, 3,
    by decide +kernel, by unfold State.arrayEmpty; decide +kernel, by decide +kernel⟩

/-- The hypotheses of FenceNotices, clause 6, hold together. -/
theorem test_FenceNotices_6 :
    ∃ (s : State) (n : SliceIx),
    s.quiet = true ∧
    s.md.clocked = true ∧
    n.val ∈ s.acc.fencedSlices ∧
    s.noticesBelow 2 = [] :=
  ⟨{ sv with acc := { sv.acc with fencedSlices := [3] } }, 3,
    by decide +kernel⟩

/-- The hypotheses of FenceNotices, clause 7, hold together. -/
theorem test_FenceNotices_7 :
    ∃ (s : State) (n : TileIx),
    s.quiet = true ∧
    s.md.clocked = true ∧
    s.arrayEmpty ∧
    n.val ∉ s.acc.fencedTiles ∧
    s.noticesBelow 3 = [] :=
  ⟨sv, 3,
    by decide +kernel, by decide +kernel, by unfold State.arrayEmpty; decide +kernel, by decide +kernel⟩

/-- The hypotheses of FenceNotices, clause 8, hold together. -/
theorem test_FenceNotices_8 :
    ∃ (s : State) (f : FlaconIx) (j : Nat) (x : DecantJob),
    s.md.clocked = true ∧
    s.arrayEmpty ∧
    s.noRetune ∧
    s.decant = [(j, x)] ∧
    x.st = 1 ∧
    x.flight = [] ∧
    x.flacon = f.val ∧
    f.val ∉ s.acc.fencedFlacons ∧
    s.noticesBelow 4 = [] :=
  ⟨{ sv with decant := [(1, { src := 0, tgt := 1, flacon := 0, rate := 100 })] }, 0, 1, { src := 0, tgt := 1, flacon := 0, rate := 100 },
    by decide +kernel, by unfold State.arrayEmpty; decide +kernel, noRetune_of (by decide +kernel), by decide +kernel⟩

/-- The hypotheses of FenceNotices, clause 9, hold together. -/
theorem test_FenceNotices_9 :
    ∃ (s : State) (f : FlaconIx),
    s.quiet = true ∧
    s.md.clocked = true ∧
    s.noRetune ∧
    f.val ∈ s.acc.fencedFlacons ∧
    s.noticesBelow 4 = [] :=
  ⟨{ sv with acc := { sv.acc with fencedFlacons := [0] } }, 0,
    by decide +kernel, by decide +kernel, noRetune_of (by decide +kernel), by decide +kernel⟩

/-- The hypotheses of FenceNotices, clause 10, hold together. -/
theorem test_FenceNotices_10 :
    ∃ (s : State),
    s.quiet = true ∧
    s.md.clocked = true ∧
    s.arrayEmpty ∧
    s.noRetune ∧
    s.decant = [] ∧
    (∀ p ∈ s.ports, p.port < 128) ∧
    s.acc.contained = false ∧
    s.noticesBelow 5 = [] ∧
    (∀ l < 512, s.stage l ≠ Stage.TEST) :=
  ⟨sv,
    by decide +kernel, by decide +kernel, by unfold State.arrayEmpty; decide +kernel, noRetune_of (by decide +kernel), by decide +kernel⟩

/-- The hypotheses of SensorsWatchdogClocks, clause 1, hold together. -/
theorem test_SensorsWatchdogClocks_1 :
    ∃ (s : State) (l : List SensorReading) (_w : List (BitVec 8)) (x : Int) (y : Int),
    s.quiet = true ∧
    s.md = .retain ∧
    l[14]? = some (some x) ∧
    l[15]? = some (some y) ∧
    -2048 ≤ x ∧
    x < 2048 ∧
    s.keep.tjRead = false :=
  ⟨mk .retain none, List.replicate 16 (some 5), [], 5, 5,
    by decide +kernel⟩

/-- The hypotheses of SensorsWatchdogClocks, clause 2, hold together. -/
theorem test_SensorsWatchdogClocks_2 :
    ∃ (s : State) (l : List SensorReading) (x : Int) (y : Int),
    s.quiet = true ∧
    s.md = .frozen ∧
    l[14]? = some (some x) ∧
    l[15]? = some (some y) ∧
    -2048 ≤ x ∧
    x < 2048 ∧
    s.sensor.hold8 = false :=
  ⟨mk .frozen none, List.replicate 16 (some 5), 5, 5,
    by decide +kernel⟩

/-- The hypotheses of SensorsWatchdogClocks, clause 3, hold together. -/
theorem test_SensorsWatchdogClocks_3 :
    ∃ (s : State) (l : List SensorReading) (_w : List (BitVec 8)),
    s.md.clocked = true ∧
    s.fml.inForce = none ∧
    (∀ n < 32, s.on (Reg.SPC_CFG n) Fld.SPC_CFG.VALID = false) ∧
    l.length = 16 ∧
    (∀ (n : Nat) (x : Int), l[n]? = some (some x) → -2048 ≤ x ∧ x < 2048) :=
  ⟨bt, List.replicate 16 (some 5), [],
    by decide +kernel, by decide +kernel, by decide +kernel, by decide +kernel, by intro n x h; simp only [List.getElem?_replicate] at h; split at h <;> simp_all; omega⟩

/-- The hypotheses of SensorsWatchdogClocks, clause 4, hold together. -/
theorem test_SensorsWatchdogClocks_4 :
    ∃ (s : State) (_v : SigVerdict),
    s.md.clocked = true ∧
    s.md ≠ .boot ∧
    s.mode.fwRunning = true :=
  ⟨sv, {},
    by decide +kernel⟩

/-- The hypotheses of SensorsWatchdogClocks, clause 5, hold together. -/
theorem test_SensorsWatchdogClocks_5 :
    ∃ (s : State) (_b : Bool),
    s.md.clocked = true ∧
    s.md ∉ [Mode.drydown, .revive] ∧
    s.unwrittenMirror = none :=
  ⟨sv, true,
    by decide +kernel⟩

/-- The hypotheses of SensorsWatchdogClocks, clause 6, hold together. -/
theorem test_SensorsWatchdogClocks_6 :
    ∃ (s : State) (_k : Fin 8) (_l : List LaneIx),
    s.quiet = true ∧
    s.md.clocked = true ∧
    s.ports = [] :=
  ⟨bt, 1, [],
    by decide +kernel⟩

/-- The hypotheses of SensorsWatchdogClocks, clause 7, hold together. -/
theorem test_SensorsWatchdogClocks_7 :
    ∃ (s : State) (k : Fin 8) (l : LaneIx) (p : PortRec),
    s.md.clocked = true ∧
    s.lanePort l.val = some p ∧
    p.fabric = false ∧
    quadOf (l.val / 8) ≠ k.val / 2 ∧
    s.quiet = true :=
  ⟨sv, 6, 0, pU,
    by decide +kernel⟩

/-- The hypotheses of BootSequence, clause 1, hold together. -/
theorem test_BootSequence_1 :
    ∃ (s : State) (_v : SigVerdict),
    s.md = .boot ∧
    s.mode.fwRunning = false ∧
    s.inRecovery = false ∧
    s.flt.held = [] ∧
    s.mgmt.fuses.fieldErr = true :=
  ⟨{ bt with mode := {}, mgmt := { bt.mgmt with fuses := { bt.mgmt.fuses with fieldErr := true } } }, {},
    by decide +kernel⟩

/-- The hypotheses of BootSequence, clause 2, hold together. -/
theorem test_BootSequence_2 :
    ∃ (s : State) (_v : SigVerdict),
    s.md = .boot ∧
    s.mode.fwRunning = false ∧
    s.inRecovery = false ∧
    s.flt.held = [] ∧
    s.mgmt.fuses.fieldErr = false ∧
    s.mgmt.fuses.lifecycle ≠ 0 ∧
    s.bootSrc ≠ 2 ∧
    s.bootSrc ≠ 3 ∧
    s.mgmt.flashAbsent = true :=
  ⟨{ bt with mode := {}, mgmt := { bt.mgmt with flashAbsent := true } }, {},
    by decide +kernel⟩

/-- The hypotheses of BootSequence, clause 3, hold together. -/
theorem test_BootSequence_3 :
    ∃ (s : State) (v : SigVerdict),
    s.md = .boot ∧
    s.mode.fwRunning = false ∧
    s.inRecovery = false ∧
    s.flt.held = [] ∧
    s.mgmt.fuses.fieldErr = false ∧
    s.mgmt.fuses.lifecycle ≠ 0 ∧
    s.bootSrc ≠ 2 ∧
    s.bootSrc ≠ 3 ∧
    s.mgmt.flashAbsent = false ∧
    s.directory.fwPendingValid = false ∧
    fwCheck (fwImage s.mgmt.flash s.directory.fwActive) s.mgmt.fuses (v.of s.directory.fwActive) = none :=
  ⟨{ img bt 0 with mode := {} }, {},
    by decide +kernel, by decide +kernel, by decide +kernel, by decide +kernel, (by decide +kernel), by decide +kernel, by decide +kernel, by decide +kernel, by decide +kernel, (by decide +kernel), slot_fw (m := 0) (by decide) rfl (by decide +kernel) (by decide +kernel) (by decide +kernel) (by decide +kernel)⟩

/-- The hypotheses of BootSequence, clause 4, hold together. -/
theorem test_BootSequence_4 :
    ∃ (s : State),
    s.quiet = true ∧
    s.md = .boot ∧
    s.mode.fwRunning = true ∧
    s.mode.selfTested = false :=
  ⟨{ bt with mode := { fwRunning := true } },
    by decide +kernel⟩

/-- The hypotheses of BootSequence, clause 5, hold together. -/
theorem test_BootSequence_5 :
    ∃ (s : State) (_b : Bool),
    s.md = .boot ∧
    s.mode.fwRunning = true ∧
    s.mode.selfTested = false ∧
    s.mode.fwFromPending = false :=
  ⟨{ bt with mode := { fwRunning := true } }, true,
    by decide +kernel⟩

/-- The hypotheses of BootSequence, clause 6, hold together. -/
theorem test_BootSequence_6 :
    ∃ (s : State) (v : SigVerdict) (f : Formula),
    s.md = .boot ∧
    s.mode.fwRunning = true ∧
    s.mode.selfTested = true ∧
    s.inRecovery = false ∧
    s.mode.fwFromPending = false ∧
    s.directory.fmlPendingValid = false ∧
    s.validateSlot s.directory.fmlActive (v.of s.directory.fmlActive) = .inl f ∧
    (∀ p ∈ f.ports, p.fabric = false ∧ p.slot = 0xFF) ∧
    f.slots = [] ∧
    (∀ n < 32, s.ch n = Ch.OFF) :=
  ⟨img bt 0, {}, fmlX,
    by decide +kernel, by decide +kernel, by decide +kernel, by decide +kernel, (by decide +kernel), by decide +kernel, slot_valid (m := 0) (by decide) rfl (by decide +kernel) (by decide +kernel) (by decide +kernel) (by decide +kernel), by decide +kernel⟩

/-- The hypotheses of BootSequence, clause 7, hold together. -/
theorem test_BootSequence_7 :
    ∃ (s : State) (v : SigVerdict) (e : FmlErr) (e' : FmlErr),
    s.md = .boot ∧
    s.mode.fwRunning = true ∧
    s.mode.selfTested = true ∧
    s.inRecovery = false ∧
    s.mode.fwFromPending = false ∧
    s.directory.fmlPendingValid = false ∧
    s.validateSlot s.directory.fmlActive (v.of s.directory.fmlActive) = .inr e ∧
    s.validateSlot (1 - s.directory.fmlActive) (v.of (1 - s.directory.fmlActive)) = .inr e' :=
  ⟨bt, {}, { code := 257, offset := 0 }, { code := 257, offset := 0 },
    by decide +kernel⟩

/-- The hypotheses of BootSequence, clause 8, hold together. -/
theorem test_BootSequence_8 :
    ∃ (s : State),
    s.md = .compose ∧
    (∀ q ∈ s.fml.retrain, ∀ p, s.portRec q = some p → p.fabric = false) :=
  ⟨mk .compose (some fmA),
    by decide +kernel⟩

/-- The hypotheses of BootSequence, clause 9, hold together. -/
theorem test_BootSequence_9 :
    ∃ (s : State) (q : Nat) (p : PortRec),
    s.quiet = true ∧
    s.md = .compose ∧
    q ∈ s.fml.retrain ∧
    s.portRec q = some p ∧
    p.fabric = true :=
  ⟨{ mk .compose (some fmA) with fml := { inForce := some fmA, retrain := [6] } }, 6, pF,
    by decide +kernel⟩

/-- The hypotheses of RecomposePhases, clause 1, hold together. -/
theorem test_RecomposePhases_1 :
    ∃ (s : State),
    s.md = .recompose ∧
    s.recomposePhase = 3 ∧
    s.affectedFlacons.all s.drainedOf = true :=
  ⟨ph (mk .recompose (some fmA)) 3,
    by decide +kernel⟩

/-- The hypotheses of RecomposePhases, clause 2, hold together. -/
theorem test_RecomposePhases_2 :
    ∃ (s : State),
    s.md = .recompose ∧
    s.recomposePhase = 3 ∧
    s.arrayEmpty ∧
    (∀ p ∈ s.ports, p.flacon ∉ s.affectedFlacons) :=
  ⟨ph (mk .recompose (some fmA)) 3,
    by decide +kernel, by decide +kernel, by unfold State.arrayEmpty; decide +kernel, by decide +kernel⟩

/-- The hypotheses of RecomposePhases, clause 3, hold together. -/
theorem test_RecomposePhases_3 :
    ∃ (s : State) (f : Formula) (n : Nat),
    s.md = .recompose ∧
    s.recomposePhase = 4 ∧
    s.affectedFlacons = [] ∧
    s.fml.next = some (f, n) ∧
    f.ports = [] ∧
    s.home = [] :=
  ⟨{ ph (mk .recompose (some fmA)) 4 with fml := { inForce := some fmA, next := some ({ flacons := [fl0] }, 1) } }, { flacons := [fl0] }, 1,
    by decide +kernel⟩

/-- The hypotheses of RecomposePhases, clause 4, hold together. -/
theorem test_RecomposePhases_4 :
    ∃ (s : State),
    s.md = .recompose ∧
    s.recomposePhase = 5 :=
  ⟨ph (mk .recompose (some fmA)) 5,
    by decide +kernel⟩

/-- The hypotheses of Ingress, clause 1, hold together. -/
theorem test_Ingress_1 :
    ∃ (s : State) (q : PortIx) (p : PortRec) (m : Msg) (v : Nat) (b : BindingRec) (_env : LookupEnv),
    s.md.clocked = true ∧
    s.md ≠ .quarantine ∧
    s.withheldAt q.val (.link m) = false ∧
    s.portRec q.val = some p ∧
    s.portUp q.val = true ∧
    p.fabric = false ∧
    p.protocol = .pcie ∧
    p.role = .upstream ∧
    p.ideRequired = false ∧
    s.on (Reg.FL_STATUS p.flacon) Fld.FL_STATUS.FENCED = false ∧
    m.io = true ∧
    m.mc = 6 ∧
    m.cells ≤ 1 ∧
    m.poison = false ∧
    m.vppb = some v ∧
    s.bindingOfVppb p.flacon (s.epochOf p.flacon) q.val v = some b ∧
    s.portTakes b.dsp = true ∧
    s.lingerFull b.dsp = false ∧
    (∀ k < 4, s.on (Reg.SL_CTL k) Fld.SL_CTL.EN = false) ∧
    s.core.pack = [] ∧
    s.waiting (waitKey q.val 6) ≠ [] ∧
    p.port = q.val ∧
    s.closing = false :=
  ⟨{ upAll with core := { upAll.core with wait := [(waitKey 0 6, [{ msg := {}, dst := 2 }])] }, fml := { inForce := some { fmA with ports := [{ pU with protocol := .pcie }, pH, pD, pF, pG] } } }, 0, { pU with protocol := .pcie }, { io := true, mc := 6, vppb := some 1 }, 1, bnd, {},
    by decide +kernel⟩

/-- The hypotheses of Ingress, clause 2, hold together. -/
theorem test_Ingress_2 :
    ∃ (s : State) (n : SliceIx) (c : Fin 8) (w : Waiting) (r : List Waiting) (t : State),
    s.md.clocked = true ∧
    s.waiting (waitKey (128 + n.val) c.val) = w :: r ∧
    s.send? (64 + n.val) w.dst w.msg w.more = some t :=
  ⟨{ upAll with core := { upAll.core with wait := [(waitKey 131 5, [{ msg := { mc := 5 }, dst := 2 }])] } }, 3, 5, { msg := { mc := 5 }, dst := 2 }, [], ({ upAll with core := { upAll.core with wait := [(waitKey 131 5, [{ msg := { mc := 5 }, dst := 2 }])] } }.send? 67 2 { mc := 5 } []).getD sv,
    by decide +kernel⟩

/-- The hypotheses of Ingress, clause 3, hold together. -/
theorem test_Ingress_3 :
    ∃ (s : State) (n : SliceIx) (c : Fin 8) (w : Waiting) (r : List Waiting),
    s.quiet = true ∧
    s.md.clocked = true ∧
    s.waiting (waitKey (128 + n.val) c.val) = w :: r ∧
    s.send? (64 + n.val) w.dst w.msg w.more = none :=
  ⟨{ upAll with core := { upAll.core with wait := [(waitKey 131 4, [{ msg := { mc := 4, flacon := 1 }, dst := 2 }])], streams := [(streamKey 67 1 4, { busy := true })] } }, 3, 4, { msg := { mc := 4, flacon := 1 }, dst := 2 }, [],
    by decide +kernel⟩

/-- The hypotheses of Ingress, clause 4, hold together. -/
theorem test_Ingress_4 :
    ∃ (s : State) (n : TileIx) (o : PackOpen) (r : List PackOpen) (m : Msg) (l : List Msg),
    s.quiet = true ∧
    s.md.clocked = true ∧
    tabGet s.core.pack n.val [] = o :: r ∧
    o.msgs = m :: l ∧
    s.portTakes o.dst = true ∧
    o.dst < 128 ∧
    s.lingerFull o.dst = false ∧
    m.flacon < 32 ∧
    m.port < 128 ∧
    s.waiting (waitKey m.port m.mc) ≠ [] ∧
    s.closing = false :=
  ⟨{ upAll with core := { upAll.core with pack := [(1, [{ dst := 2, msgs := [{ port := 2, mc := 4 }] }])], wait := [(waitKey 2 4, [{ msg := {}, dst := 4 }])] } }, 1, { dst := 2, msgs := [{ port := 2, mc := 4 }] }, [], { port := 2, mc := 4 }, [],
    by decide +kernel⟩

/-- The hypotheses of Ingress, clause 5, hold together. -/
theorem test_Ingress_5 :
    ∃ (s : State) (q : PortIx) (p : PortRec) (c : Fin 8) (_d : Line) (_bad : Bool) (a : Arriving),
    s.quiet = true ∧
    s.md.clocked = true ∧
    s.portRec q.val = some p ∧
    p.fabric = false ∧
    s.arrivingAt q.val c.val = some a ∧
    a.discard = true ∧
    a.parts = [] ∧
    a.sil = none :=
  ⟨{ upAll with core := { upAll.core with arriving := [(waitKey 0 4, { msg := {}, dst := 2, discard := true })] } }, 0, pU, 4, 0, false, { msg := {}, dst := 2, discard := true },
    by decide +kernel⟩

/-- The hypotheses of Ingress, clause 6, hold together. -/
theorem test_Ingress_6 :
    ∃ (s : State) (q : PortIx) (p : PortRec) (c : Fin 8) (_d : Line) (_bad : Bool) (a : Arriving),
    s.quiet = true ∧
    s.md.clocked = true ∧
    s.portRec q.val = some p ∧
    p.fabric = false ∧
    s.arrivingAt q.val c.val = some a ∧
    a.discard = false ∧
    a.admitted = false :=
  ⟨{ upAll with core := { upAll.core with arriving := [(waitKey 0 4, { msg := {}, dst := 2 })] } }, 0, pU, 4, 0, false, { msg := {}, dst := 2 },
    by decide +kernel⟩

/-- The hypotheses of Planes, clause 1, hold together. -/
theorem test_Planes_1 :
    ∃ (s : State) (n : PlaneIx) (src : Fin 128) (unit : Fin 128) (c : Cell) (r : List Flight) (_e : EccFinding),
    s.md.clocked = true ∧
    s.flightOf (flightKey n.val src.val unit.val) = .cell c :: r ∧
    c.src = src.val ∧
    unit.val < 64 ∧
    c.dst < 128 ∧
    (let st := s.stream (streamKey c.src unit.val c.msg.mc); st.held = [] ∧ st.skip = [] ∧ fullSeq st.want c.seq = st.want) ∧
    c.kind = .single ∧
    c.msg.io = false ∧
    s.closing = false :=
  ⟨{ upAll with core := { upAll.core with flight := [(flightKey 1 3 0, [.cell (cel .single {})])] } }, 1, 3, 0, cel .single {}, [], {},
    by decide +kernel⟩

/-- The hypotheses of Planes, clause 2, hold together. -/
theorem test_Planes_2 :
    ∃ (s : State) (n : PlaneIx) (src : Fin 128) (unit : Fin 128) (c : Cell) (r : List Flight) (_e : EccFinding),
    s.md.clocked = true ∧
    s.flightOf (flightKey n.val src.val unit.val) = .cell c :: r ∧
    unit.val < 64 ∧
    (let st := s.stream (streamKey c.src unit.val c.msg.mc); st.want + 256 ≤ fullSeq st.want c.seq) :=
  ⟨{ upAll with core := { upAll.core with flight := [(flightKey 1 3 0, [.cell { cel .single {} with seq := 300 }])] } }, 1, 3, 0, { cel .single {} with seq := 300 }, [], {},
    by decide +kernel⟩

/-- The hypotheses of Planes, clause 3, hold together. -/
theorem test_Planes_3 :
    ∃ (s : State) (src : Fin 128) (unit : Fin 128) (c : Fin 8),
    s.quiet = true ∧
    s.md.clocked = true ∧
    (s.stream (streamKey src.val unit.val c.val)).backlog = [] :=
  ⟨upAll, 3, 0, 4,
    by decide +kernel⟩

/-- The hypotheses of Planes, clause 4, hold together. -/
theorem test_Planes_4 :
    ∃ (s : State) (n : PlaneIx) (src : Fin 128) (unit : Fin 128) (d : DrainCell) (r : List Flight) (f : PlaneFence),
    s.md.clocked = true ∧
    s.flightOf (flightKey n.val src.val unit.val) = .drain d :: r ∧
    tabFind s.core.fences d.plane = some f ∧
    f.fault = false :=
  ⟨{ sv with core := { sv.core with fences := [(2, { fault := false })], flight := [(flightKey 1 3 0, [.drain { plane := 2, fault := false, high := List.replicate 8 none }])] } }, 1, 3, 0, { plane := 2, fault := false, high := List.replicate 8 none }, [], { fault := false },
    by decide +kernel⟩

/-- The hypotheses of Planes, clause 5, hold together. -/
theorem test_Planes_5 :
    ∃ (s : State) (n : PlaneIx),
    s.quiet = true ∧
    s.md.clocked = true ∧
    tabFind s.core.fences n.val = none :=
  ⟨sv, 2,
    by decide +kernel⟩

/-- The hypotheses of Planes, clause 6, hold together. -/
theorem test_Planes_6 :
    ∃ (s : State) (p : AccessPath) (n : PlaneIx),
    s.quiet = true ∧
    s.mayAct p = true ∧
    tabFind s.core.fences n.val = none ∧
    1 < s.unfenced.length :=
  ⟨sv, .bar0, 2,
    by decide +kernel⟩

/-- The hypotheses of Planes, clause 7, hold together. -/
theorem test_Planes_7 :
    ∃ (s : State) (p : AccessPath) (n : PlaneIx),
    s.quiet = true ∧
    s.mayAct p = true ∧
    tabFind s.core.fences n.val = none ∧
    s.unfenced.length ≤ 1 :=
  ⟨{ sv with core := { sv.core with fences := (List.range 8).filterMap fun n => if n = 2 then none else some (n, { fault := false }) } }, .bar0, 2,
    by decide +kernel⟩

/-- The hypotheses of Planes, clause 8, hold together. -/
theorem test_Planes_8 :
    ∃ (s : State) (p : AccessPath) (n : PlaneIx) (f : PlaneFence),
    s.quiet = true ∧
    s.mayAct p = true ∧
    tabFind s.core.fences n.val = some f ∧
    f.lifted = false ∧
    (f.fault = true → f.raised = true ∧ (s.srcOf (srcPlane n.val 0)).pending = false ∧ (s.srcOf (srcPlane n.val 1)).pending = false) :=
  ⟨fence { fault := false }, .bar0, 2, { fault := false },
    by decide +kernel⟩

/-- The hypotheses of Planes, clause 9, hold together. -/
theorem test_Planes_9 :
    ∃ (s : State) (p : AccessPath) (n : PlaneIx) (f : PlaneFence),
    s.quiet = true ∧
    s.mayAct p = true ∧
    tabFind s.core.fences n.val = some f ∧
    f.fault = true ∧
    f.lifted = false ∧
    (f.raised = false ∨ (s.srcOf (srcPlane n.val 0)).pending = true ∨ (s.srcOf (srcPlane n.val 1)).pending = true) :=
  ⟨fence { fault := true }, .bar0, 2, { fault := true },
    by decide +kernel⟩

/-- The hypotheses of Egress, clause 1, hold together. -/
theorem test_Egress_1 :
    ∃ (s : State) (q : PortIx) (p : PortRec) (_cr : BitVec 16) (_e : EccFinding),
    s.quiet = true ∧
    s.md.clocked = true ∧
    s.portRec q.val = some p ∧
    (s.schedPort q.val).hold = none ∧
    s.core.queues = [] ∧
    (s.schedPort q.val).gateHeld = [] :=
  ⟨upAll, 0, pU, 0, {},
    by decide +kernel⟩

/-- The hypotheses of Egress, clause 2, hold together. -/
theorem test_Egress_2 :
    ∃ (s : State) (q : PortIx) (p : PortRec) (cr : BitVec 16) (c : Nat) (f : Nat) (h : Cell) (r : List Cell),
    s.md.clocked = true ∧
    s.picks q.val cr p c f h r ∧
    p.fabric = false ∧
    h.kind = .single :=
  ⟨queued [cel .single {}], 0, pU, 0xFFFF, 4, 0, cel .single {}, [],
    by decide +kernel, by unfold State.picks; decide +kernel, by decide +kernel⟩

/-- The hypotheses of Egress, clause 3, hold together. -/
theorem test_Egress_3 :
    ∃ (s : State) (q : PortIx) (p : PortRec) (cr : BitVec 16) (c : Nat) (f : Nat) (h : Cell) (r : List Cell),
    s.md.clocked = true ∧
    s.picks q.val cr p c f h r ∧
    p.fabric = false ∧
    h.kind = .head ∧
    (takeMsg (h :: r)).2.2 = false :=
  ⟨queued [{ cel .head { cells := 2, len := 128 } with inPort := some 0 }], 0, pU, 0xFFFF, 4, 0, { cel .head { cells := 2, len := 128 } with inPort := some 0 }, [],
    by decide +kernel, by unfold State.picks; decide +kernel, by decide +kernel⟩

/-- The hypotheses of Egress, clause 4, hold together. -/
theorem test_Egress_4 :
    ∃ (s : State) (q : PortIx) (p : PortRec) (cr : BitVec 16) (c : Nat) (f : Nat) (h : Cell) (r : List Cell),
    s.md.clocked = true ∧
    s.picks q.val cr p c f h r ∧
    p.fabric = false ∧
    h.kind = .single ∧
    h.msg.tent = true ∧
    h.hdrUe = false ∧
    h.payUe = false ∧
    s.gateStops p h = true ∧
    s.gateOf q.val h.msg.tag = none :=
  ⟨queued [cel .single { tent := true }], 0, pU, 0xFFFF, 4, 0, cel .single { tent := true }, [],
    by decide +kernel, by unfold State.picks; decide +kernel, by decide +kernel⟩

/-- The hypotheses of Egress, clause 5, hold together. -/
theorem test_Egress_5 :
    ∃ (s : State) (q : PortIx) (p : PortRec) (cr : BitVec 16) (c : Nat) (f : Nat) (h : Cell) (r : List Cell),
    s.md.clocked = true ∧
    s.picks q.val cr p c f h r ∧
    p.fabric = false ∧
    h.kind = .single ∧
    h.msg.tent = false ∧
    h.hdrUe = false ∧
    h.msg.io = false ∧
    h.msg.op = Op.TN_CONFIRM ∧
    s.gateOf q.val h.msg.tag = none :=
  ⟨queued [cel .single { op := Op.TN_CONFIRM }], 0, pU, 0xFFFF, 4, 0, cel .single { op := Op.TN_CONFIRM }, [],
    by decide +kernel, by unfold State.picks; decide +kernel, by decide +kernel⟩

/-- The hypotheses of Egress, clause 6, hold together. -/
theorem test_Egress_6 :
    ∃ (s : State) (q : PortIx) (p : PortRec) (cr : BitVec 16) (c : Nat) (f : Nat) (h : Cell) (r : List Cell),
    s.md.clocked = true ∧
    s.picks q.val cr p c f h r ∧
    p.fabric = false ∧
    h.kind = .single ∧
    h.msg.tent = false ∧
    h.hdrUe = false ∧
    h.msg.io = false ∧
    h.msg.op = Op.TN_CANCEL ∧
    s.gateOf q.val h.msg.tag = none :=
  ⟨queued [cel .single { op := Op.TN_CANCEL }], 0, pU, 0xFFFF, 4, 0, cel .single { op := Op.TN_CANCEL }, [],
    by decide +kernel, by unfold State.picks; decide +kernel, by decide +kernel⟩

/-- The hypotheses of Egress, clause 7, hold together. -/
theorem test_Egress_7 :
    ∃ (s : State) (q : PortIx) (n : Nat) (k : Nat) (i : Nat) (c : Cell),
    s.quiet = true ∧
    s.md.clocked = true ∧
    tabGet s.core.buf.pre q.val 0 < 256 ∧
    s.nextSpill q.val = some (n, k) ∧
    (s.queue n)[k]? = some c ∧
    c.slot = some i ∧
    s.spillSlots (spillChannel (i - 2 ^ 20)) ≠ 0 :=
  ⟨queued [{ cel .single {} with tier := .spill, slot := some 1048576 }], 0, queueNo 0 4 0, 0, 1048576, { cel .single {} with tier := .spill, slot := some 1048576 },
    by decide +kernel⟩

/-- The hypotheses of Egress, clause 8, hold together. -/
theorem test_Egress_8 :
    ∃ (s : State) (p : AccessPath) (q : PortIx) (f : Fin 32),
    s.quiet = true ∧
    s.mayAct p = true ∧
    s.portUp q.val = true ∧
    (s.rd (Reg.PT_FLUSH_FL q.val) Fld.PT_FLUSH_FL.FLACONS).testBit f.val = true ∧
    s.flFenced f.val = false :=
  ⟨(dl sv 0).setReg (Reg.PT_FLUSH_FL 0) 1, .bar0, 0, 0,
    by decide +kernel⟩

/-- The hypotheses of Egress, clause 9, hold together. -/
theorem test_Egress_9 :
    ∃ (s : State) (p : AccessPath) (q : PortIx) (c : Fin 8) (f : Fin 32) (h : Cell),
    s.mayAct p = true ∧
    (s.portUp q.val = false ∨ s.flFenced f.val = true) ∧
    s.rd (Reg.PT_FLUSH_FL q.val) Fld.PT_FLUSH_FL.FLACONS = 2 ^ f.val ∧
    s.rd (Reg.PT_FLUSH_CTL q.val) Fld.PT_FLUSH_CTL.CLASSES = 2 ^ c.val ∧
    s.core.queues = [(queueNo q.val c.val f.val, [h])] ∧
    s.core.gate = [] ∧
    h.kind = .single ∧
    (c.val = 0 ∨ c.val = 6 ∧ h.msg.io = true) ∧
    h.msg.mc = c.val :=
  ⟨(({ sv with core := { sv.core with queues := [(queueNo 0 6 0, [cel .single { io := true, mc := 6 }])] } } : State).setReg (Reg.PT_FLUSH_FL 0) 1).wr (Reg.PT_FLUSH_CTL 0) Fld.PT_FLUSH_CTL.CLASSES 64, .bar0, 0, 6, 0, cel .single { io := true, mc := 6 },
    by decide +kernel⟩

/-- The hypotheses of Egress, clause 10, hold together. -/
theorem test_Egress_10 :
    ∃ (s : State) (p : AccessPath) (q : PortIx),
    s.quiet = true ∧
    s.mayAct p = true ∧
    s.portUp q.val = false ∧
    s.portQueues q.val = [] ∧
    s.core.gate = [] :=
  ⟨sv, .bar0, 0,
    by decide +kernel⟩

/-- The hypotheses of ArbiterRounds, clause 1, hold together. -/
theorem test_ArbiterRounds_1 :
    ∃ (s : State) (ix : ArbIx) (req : List ArbReq) (_n : Nat),
    s.quiet = true ∧
    s.md.clocked = true ∧
    (∀ ch, ix ≠ .keep ch) ∧
    (s.arb (arbNo ix)).resync = false ∧
    (s.arb (arbNo ix)).fallback = false ∧
    (s.arb (arbNo ix)).done = none ∧
    s.arbEligible ix req ≠ [] ∧
    ((s.arb (arbNo ix)).reeval = true ∨ (∀ o, (s.arb (arbNo ix)).owner = some o → s.arbEligible ix req ≠ [o])) ∧
    (∀ i ∈ s.arbEligible ix req, i ∈ (s.arb (arbNo ix)).order (requesters ix)) :=
  ⟨sv, .slice 2, [{ who := 1 }, { who := 33 }], 0,
    by decide +kernel⟩

/-- The hypotheses of ArbiterRounds, clause 2, hold together. -/
theorem test_ArbiterRounds_2 :
    ∃ (s : State) (ix : ArbIx) (req : List ArbReq) (_n : Nat) (o : Nat),
    s.quiet = true ∧
    s.md.clocked = true ∧
    (∀ ch, ix ≠ .keep ch) ∧
    (s.arb (arbNo ix)).resync = false ∧
    (s.arb (arbNo ix)).owner = some o ∧
    s.arbEligible ix req = [o] ∧
    (s.arb (arbNo ix)).done = none ∧
    (s.arb (arbNo ix)).reeval = false :=
  ⟨{ sv with sched := { sv.sched with arb := [(arbNo (.slice 2), { owner := some 33 })] } }, .slice 2, [{ who := 33 }], 0, 33,
    by decide +kernel⟩

/-- The hypotheses of ArbiterRounds, clause 3, hold together. -/
theorem test_ArbiterRounds_3 :
    ∃ (s : State) (ix : ArbIx) (req : List ArbReq) (_n : Nat),
    s.quiet = true ∧
    s.md.clocked = true ∧
    (∀ ch, ix ≠ .keep ch) ∧
    (s.arb (arbNo ix)).resync = false ∧
    s.arbEligible ix req = [] :=
  ⟨sv, .slice 2, [], 0,
    by decide +kernel⟩

/-- The hypotheses of ArbiterRounds, clause 4, hold together. -/
theorem test_ArbiterRounds_4 :
    ∃ (s : State) (ix : ArbIx) (_req : List ArbReq) (_n : Nat),
    s.md.clocked = true ∧
    (s.arb (arbNo ix)).resync = false ∧
    (s.arb (arbNo ix)).fallback = false :=
  ⟨sv, .keep 2, [{ who := 1 }, { who := 3 }], 0,
    by decide +kernel⟩

/-- The hypotheses of ArbiterRounds, clause 5, hold together. -/
theorem test_ArbiterRounds_5 :
    ∃ (s : State) (p : AccessPath) (_i : ArbInst),
    s.quiet = true ∧
    s.mayAct p = true :=
  ⟨sv, .bar0, .slice 2,
    by decide +kernel⟩

/-- The hypotheses of ArbiterRounds, clause 6, hold together. -/
theorem test_ArbiterRounds_6 :
    ∃ (s : State) (p : AccessPath) (_i : ArbInst),
    s.quiet = true ∧
    s.mayAct p = true :=
  ⟨sv, .bar0, .slice 2,
    by decide +kernel⟩

/-- The hypotheses of ArbiterRounds, clause 7, hold together. -/
theorem test_ArbiterRounds_7 :
    ∃ (s : State) (p : AccessPath) (i : ArbInst) (n : Fin 128) (_b : Fin 8),
    s.quiet = true ∧
    s.mayAct p = true ∧
    n.val < familySize i :=
  ⟨sv, .bar0, .slice 2, 3, 5,
    by decide +kernel⟩

/-- The hypotheses of ArbiterRounds, clause 8, hold together. -/
theorem test_ArbiterRounds_8 :
    ∃ (s : State) (p : AccessPath) (i : ArbInst) (n : Fin 128) (_b : Fin 8),
    s.quiet = true ∧
    s.mayAct p = true ∧
    familySize i ≤ n.val :=
  ⟨sv, .bar0, .keep 2, 9, 5,
    by decide +kernel⟩

/-- The hypotheses of ArbiterRounds, clause 9, hold together. -/
theorem test_ArbiterRounds_9 :
    ∃ (s : State) (_c : Fin 8),
    s.quiet = true ∧
    s.md.clocked = true :=
  ⟨{ sv with sched := { sv.sched with keepUsed := [(2, 5), (70, 3)] } }, 2,
    by decide +kernel⟩

/-- The hypotheses of ShapersAndPolicers, clause 1, hold together. -/
theorem test_ShapersAndPolicers_1 :
    ∃ (s : State) (q : Nat) (f : Nat),
    s.quiet = true ∧
    s.md.clocked = true ∧
    q < 128 ∧
    s.dueShapers = [(q, f)] :=
  ⟨{ sv with sched := { sv.sched with port := [(0, { shapers := [(0, { rate := 100, burst := 4096, maxRate := 1000, slot := some 0 })] })] } }, 0, 0,
    by decide +kernel⟩

/-- The hypotheses of ShapersAndPolicers, clause 2, hold together. -/
theorem test_ShapersAndPolicers_2 :
    ∃ (s : State),
    s.quiet = true ∧
    s.md.clocked = true ∧
    s.dueShapers = [] :=
  ⟨sv,
    by decide +kernel⟩

/-- The hypotheses of ShapersAndPolicers, clause 3, hold together. -/
theorem test_ShapersAndPolicers_3 :
    ∃ (s : State),
    s.quiet = true ∧
    s.md.clocked = true :=
  ⟨{ sv.wr Reg.CHIP_BEAT Fld.CHIP_BEAT.BEAT 100 with sched := { sv.sched with topnote := [(0, 5), (64, 5)], topnoteFrom := [(1, 50)] } },
    by decide +kernel⟩

/-- The hypotheses of ShapersAndPolicers, clause 4, hold together. -/
theorem test_ShapersAndPolicers_4 :
    ∃ (s : State),
    s.quiet = true ∧
    s.md.clocked = true :=
  ⟨{ sv with sched := { sv.sched with mirror := [(0, 5)] } },
    by decide +kernel⟩

/-- The hypotheses of SliceRequests, clause 1, hold together. -/
theorem test_SliceRequests_1 :
    ∃ (s : State) (n : SliceIx) (f : FlaconIx) (c : Cell) (r : List Cell) (h : Home) (_e : EntryEcc),
    s.md.clocked = true ∧
    s.quarantined = false ∧
    s.serves n.val 4 f.val c r ∧
    c.msg.io = false ∧
    c.msg.mc = 4 ∧
    c.msg.op = Op.RD_SHARED ∧
    c.msg.noSpec = true ∧
    s.slice n.val = {} ∧
    s.acd.trk = [] ∧
    s.homeAt c.msg.flacon c.msg.epoch (lineOf c.msg.addr) = some h ∧
    h.slice = n.val ∧
    s.geomOk c.msg.flacon = true ∧
    s.on (Reg.FL_STATUS c.msg.flacon) Fld.FL_STATUS.FENCED = false :=
  ⟨homeQ 4 { op := Op.RD_SHARED, noSpec := true } {}, 0, 0, hc 4 { op := Op.RD_SHARED, noSpec := true }, [], ((svA.homeAt 0 0 0).getD ⟨0, 0, 0⟩), .good,
    by decide +kernel, by decide +kernel, by unfold State.serves; decide +kernel, by decide +kernel⟩

/-- The hypotheses of SliceRequests, clause 2, hold together. -/
theorem test_SliceRequests_2 :
    ∃ (s : State) (n : SliceIx) (mc : Fin 8) (f : FlaconIx) (m : Msg) (_e : EntryEcc),
    s.quiet = true ∧
    s.md.clocked = true ∧
    s.homeHead (homeQueue n.val mc.val f.val) = some m ∧
    s.homeGated n.val = true ∧
    (∀ d ∈ s.queue (homeQueue n.val mc.val f.val), d.hdrUe = false) :=
  ⟨homeQ 4 { op := Op.RD_SHARED } { trackers := List.replicate 8 (trk .voq {}) }, 0, 4, 0, { op := Op.RD_SHARED, mc := 4 }, .good,
    by decide +kernel⟩

/-- The hypotheses of SliceRequests, clause 3, hold together. -/
theorem test_SliceRequests_3 :
    ∃ (s : State) (n : SliceIx) (f : FlaconIx) (c : Cell) (r : List Cell) (_e : EntryEcc),
    s.md.clocked = true ∧
    s.quarantined = false ∧
    s.serves n.val 4 f.val c r ∧
    c.msg.io = false ∧
    c.msg.mc = 4 ∧
    c.msg.op = Op.MEM_RD ∧
    s.slice n.val = {} ∧
    c.msg.flacon = f.val :=
  ⟨homeQ 4 { op := Op.MEM_RD } {}, 0, 0, hc 4 { op := Op.MEM_RD }, [], .good,
    by decide +kernel, by decide +kernel, by unfold State.serves; decide +kernel, by decide +kernel⟩

/-- The hypotheses of SliceRequests, clause 4, hold together. -/
theorem test_SliceRequests_4 :
    ∃ (s : State) (n : SliceIx) (set : Fin 131072) (t : Tracker),
    s.md.clocked = true ∧
    (s.slice n.val).trackers = [t] ∧
    t.ph = .reading ∧
    t.set = set.val ∧
    t.req.io = true ∧
    t.req.mc = 6 ∧
    t.req.op ≠ Op.STAGE ∧
    t.req.op ≠ Op.ALIAS_RD ∧
    t.tentSent = false ∧
    t.memOut = false ∧
    (s.slice n.val).frames = [] ∧
    (s.slice n.val).conflict = [] ∧
    (s.slice n.val).bad = [] :=
  ⟨{ svA with home := [(0, { trackers := [trk .reading { io := true, mc := 6 }] })] }, 0, 5, trk .reading { io := true, mc := 6 },
    by decide +kernel⟩

/-- The hypotheses of SliceRequests, clause 5, hold together. -/
theorem test_SliceRequests_5 :
    ∃ (s : State) (n : SliceIx) (set : Fin 131072) (t : Tracker),
    s.md.clocked = true ∧
    s.slice n.val = { trackers := [t] } ∧
    t.ph = .reading ∧
    t.set = set.val ∧
    t.req.io = false ∧
    t.req.op = Op.RD_CUR ∧
    t.memData = none ∧
    t.memOut = false ∧
    t.way = none ∧
    s.acd.trk = [] :=
  ⟨{ svA with home := [(0, { trackers := [trk .reading { op := Op.RD_CUR, mc := 4 }] })] }, 0, 5, trk .reading { op := Op.RD_CUR, mc := 4 },
    by decide +kernel⟩

/-- The hypotheses of SliceRequests, clause 6, hold together. -/
theorem test_SliceRequests_6 :
    ∃ (s : State) (n : SliceIx) (set : Fin 131072) (_e : EntryEcc),
    s.quiet = true ∧
    s.md.clocked = true ∧
    s.readersOf n.val set.val = [] :=
  ⟨svA, 0, 5, .good,
    by decide +kernel⟩

/-- The hypotheses of SliceRequests, clause 7, hold together. -/
theorem test_SliceRequests_7 :
    ∃ (s : State) (n : SliceIx) (t : Tracker),
    s.quiet = true ∧
    s.md.clocked = true ∧
    (s.slice n.val).trackers = [t] ∧
    t.ph = .voq ∧
    (s.slice n.val).frameOf t.set = none ∧
    (s.slice n.val).frames = [] :=
  ⟨{ svA with home := [(0, { trackers := [trk .voq {}] })] }, 0, trk .voq {},
    by decide +kernel⟩

/-- The hypotheses of SliceRequests, clause 8, hold together. -/
theorem test_SliceRequests_8 :
    ∃ (s : State) (n : SliceIx) (_set : Fin 131072),
    s.md.clocked = true ∧
    s.on (Reg.HS_CTL n.val) Fld.HS_CTL.SCRUB_EN = true :=
  ⟨svA, 0, 5,
    by decide +kernel⟩

/-- The hypotheses of SliceRequests, clause 9, hold together. -/
theorem test_SliceRequests_9 :
    ∃ (s : State) (n : SliceIx) (_set : Fin 131072) (_e : EntryEcc),
    s.quiet = true ∧
    s.md.clocked = true ∧
    s.on (Reg.HS_CTL n.val) Fld.HS_CTL.SCRUB_EN = false :=
  ⟨svA.set0 (Reg.HS_CTL 0) Fld.HS_CTL.SCRUB_EN, 0, 5, .good,
    by decide +kernel⟩

/-- The hypotheses of SliceAnswers, clause 1, hold together. -/
theorem test_SliceAnswers_1 :
    ∃ (s : State) (n : SliceIx) (f : FlaconIx) (c : Cell) (r : List Cell) (t : Tracker),
    s.md.clocked = true ∧
    s.serves n.val 2 f.val c r ∧
    c.msg.mc = 2 ∧
    c.msg.op = Op.MEM_DATA ∧
    (s.slice n.val).trackers = [t] ∧
    (s.slice n.val).conflict = [] ∧
    c.msg.tag = t.id ∧
    t.ph = .active ∧
    t.waits ≠ [] ∧
    t.topnote = false :=
  ⟨homeQ 2 { op := Op.MEM_DATA, tag := 3, data := [5] } { trackers := [{ trk .active {} with waits := [4] }] }, 0, 0, hc 2 { op := Op.MEM_DATA, tag := 3, data := [5] }, [], { trk .active {} with waits := [4] },
    by decide +kernel, by unfold State.serves; decide +kernel, by decide +kernel⟩

/-- The hypotheses of SliceAnswers, clause 2, hold together. -/
theorem test_SliceAnswers_2 :
    ∃ (s : State) (n : SliceIx) (f : FlaconIx) (c : Cell) (r : List Cell) (t : Tracker) (a : Nat) (b : Nat),
    s.md.clocked = true ∧
    s.serves n.val 1 f.val c r ∧
    c.msg.mc = 1 ∧
    c.msg.io = false ∧
    c.msg.op = Op.RSP_I ∧
    (s.slice n.val).trackers = [t] ∧
    (s.slice n.val).conflict = [] ∧
    (s.slice n.val).held = [] ∧
    c.msg.srcEid = a ∧
    a ≠ b ∧
    t.waits = [a, b] ∧
    t.ph = .active ∧
    t.line = lineOf c.msg.addr ∧
    t.flacon = c.msg.flacon ∧
    (s.slice n.val).snoops = [{ line := t.line, flacon := t.flacon, eid := a, reserve := false }] :=
  ⟨homeQ 1 { op := Op.RSP_I, srcEid := 4 } { trackers := [{ trk .active {} with waits := [4, 5] }], snoops := [{ line := 0, flacon := 0, eid := 4, reserve := false }] }, 0, 0, hc 1 { op := Op.RSP_I, srcEid := 4 }, [], { trk .active {} with waits := [4, 5] }, 4, 5,
    by decide +kernel, by unfold State.serves; decide +kernel, by decide +kernel⟩

/-- The hypotheses of SliceAnswers, clause 3, hold together. -/
theorem test_SliceAnswers_3 :
    ∃ (s : State) (n : SliceIx) (f : FlaconIx) (c : Cell) (r : List Cell) (x : SnoopRec),
    s.md.clocked = true ∧
    s.serves n.val 5 f.val c r ∧
    c.msg.io = false ∧
    c.msg.op = Op.WB_SNP_I ∧
    s.slice n.val = { snoops := [x] } ∧
    x.line = lineOf c.msg.addr ∧
    x.eid = c.msg.srcEid ∧
    x.flacon = c.msg.flacon ∧
    x.reserve = false ∧
    s.acd.trk = [] ∧
    x.owner = true ∧
    x.taken = true :=
  ⟨homeQ 5 { op := Op.WB_SNP_I, srcEid := 4, data := [5] } { snoops := [{ line := 0, flacon := 0, eid := 4, reserve := false, owner := true, taken := true }] }, 0, 0, hc 5 { op := Op.WB_SNP_I, srcEid := 4, data := [5] }, [], { line := 0, flacon := 0, eid := 4, reserve := false, owner := true, taken := true },
    by decide +kernel, by unfold State.serves; decide +kernel, by decide +kernel⟩

/-- The hypotheses of SliceAnswers, clause 4, hold together. -/
theorem test_SliceAnswers_4 :
    ∃ (s : State) (n : SliceIx) (f : FlaconIx) (c : Cell) (r : List Cell) (x : SnoopRec),
    s.md.clocked = true ∧
    s.serves n.val 5 f.val c r ∧
    c.msg.io = false ∧
    c.msg.op = Op.WB_SNP_I ∧
    s.slice n.val = { snoops := [x] } ∧
    x.line = lineOf c.msg.addr ∧
    x.eid = c.msg.srcEid ∧
    x.flacon = c.msg.flacon ∧
    x.reserve = false ∧
    s.acd.trk = [] ∧
    x.owner = false :=
  ⟨homeQ 5 { op := Op.WB_SNP_I, srcEid := 4, data := [5] } { snoops := [{ line := 0, flacon := 0, eid := 4, reserve := false }] }, 0, 0, hc 5 { op := Op.WB_SNP_I, srcEid := 4, data := [5] }, [], { line := 0, flacon := 0, eid := 4, reserve := false },
    by decide +kernel, by unfold State.serves; decide +kernel, by decide +kernel⟩

/-- The hypotheses of SliceAnswers, clause 5, hold together. -/
theorem test_SliceAnswers_5 :
    ∃ (s : State) (n : SliceIx) (f : FlaconIx) (c : Cell) (r : List Cell) (w : WritePend),
    s.md.clocked = true ∧
    s.serves n.val 1 f.val c r ∧
    c.msg.mc = 1 ∧
    c.msg.err = false ∧
    c.msg.op = Op.MEM_CMP ∧
    s.slice n.val = { pend := [w] } ∧
    w.line = lineOf c.msg.addr ∧
    w.flacon = c.msg.flacon ∧
    w.answer = none ∧
    w.sealSeq = none ∧
    w.cell = none ∧
    w.reserve = false :=
  ⟨homeQ 1 { op := Op.MEM_CMP } { pend := [{ line := 0, flacon := 0, epoch := 0, data := 5, poison := false }] }, 0, 0, hc 1 { op := Op.MEM_CMP }, [], { line := 0, flacon := 0, epoch := 0, data := 5, poison := false },
    by decide +kernel, by unfold State.serves; decide +kernel, by decide +kernel⟩

/-- The hypotheses of SliceAnswers, clause 6, hold together. -/
theorem test_SliceAnswers_6 :
    ∃ (s : State) (n : SliceIx) (f : FlaconIx) (c : Cell) (r : List Cell),
    s.md.clocked = true ∧
    s.serves n.val 4 f.val c r ∧
    c.msg.mc = 4 ∧
    c.msg.io = false ∧
    c.msg.op = Op.BI_CONFLICT ∧
    s.slice n.val = {} ∧
    c.msg.port < 128 ∧
    c.msg.flacon < 32 ∧
    s.portTakes c.msg.port = true ∧
    s.waiting (waitKey (128 + n.val) 1) ≠ [] :=
  ⟨{ dl (homeQ 4 { op := Op.BI_CONFLICT, port := 0 } {}) 0 with core := { (homeQ 4 { op := Op.BI_CONFLICT, port := 0 } {}).core with wait := [(waitKey 128 1, [{ msg := {}, dst := 0 }])] } }, 0, 0, hc 4 { op := Op.BI_CONFLICT, port := 0 }, [],
    by decide +kernel, by unfold State.serves; decide +kernel, by decide +kernel⟩

/-- The hypotheses of SliceAnswers, clause 7, hold together. -/
theorem test_SliceAnswers_7 :
    ∃ (s : State) (n : SliceIx) (f : FlaconIx) (c : Cell) (r : List Cell),
    s.md.clocked = true ∧
    s.serves n.val 0 f.val c r ∧
    c.msg.mc = 0 ∧
    c.msg.op = Op.TX_DONE ∧
    s.slice n.val = { notices := [(lineOf c.msg.addr, c.msg.dstEid)] } :=
  ⟨homeQ 0 { op := Op.TX_DONE, dstEid := 4 } { notices := [(0, 4)] }, 0, 0, hc 0 { op := Op.TX_DONE, dstEid := 4 }, [],
    by decide +kernel, by unfold State.serves; decide +kernel, by decide +kernel⟩

/-- The hypotheses of SliceAnswers, clause 8, hold together. -/
theorem test_SliceAnswers_8 :
    ∃ (s : State) (q : PortIx) (p : PortRec) (addr : Nat) (_ltag : Nat) (f : FlaconIx) (d : DecoderRec),
    s.md.clocked = true ∧
    s.portRec q.val = some p ∧
    p.fabric = false ∧
    p.role = .downstream ∧
    s.portUp q.val = true ∧
    p.flacon = f.val ∧
    findDecoder (s.flAcc p.flacon).cur.decoders addr = some d ∧
    d.shared = true :=
  ⟨upAll, 2, pH, 0x40, 3, 0, dec0,
    by decide +kernel⟩

/-- The hypotheses of SliceAnswers, clause 9, hold together. -/
theorem test_SliceAnswers_9 :
    ∃ (s : State) (p : AccessPath) (_n : SliceIx) (_a : BitVec 52),
    s.quiet = true ∧
    s.mayAct p = true ∧
    s.fml.inForce = none :=
  ⟨bt, .bar0, 0, 0x40,
    by decide +kernel⟩

/-- The hypotheses of SliceAnswers, clause 10, hold together. -/
theorem test_SliceAnswers_10 :
    ∃ (s : State) (p : AccessPath) (_n : SliceIx) (_a : BitVec 52),
    s.mayAct p = true :=
  ⟨upAll, .bar0, 0, 0x40,
    by decide +kernel⟩

/-- The hypotheses of AccordDoorbells, clause 1, hold together. -/
theorem test_AccordDoorbells_1 :
    ∃ (s : State) (q : PortIx) (k : Fin 64) (_c : BitVec 32) (_w : BitVec 10) (b : Bool) (_n : Bool) (f : Nat),
    s.quiet = true ∧
    s.engineUp q.val = true ∧
    k.val < s.slotsOf q.val ∧
    s.portFlacon q.val = some f ∧
    s.slotState q.val k.val ∈ [0, 6, 7] ∧
    s.openCause f b = none :=
  ⟨dl svA 0, 0, 1, 5, 3, false, true, 0,
    by decide +kernel⟩

/-- The hypotheses of AccordDoorbells, clause 2, hold together. -/
theorem test_AccordDoorbells_2 :
    ∃ (s : State) (q : PortIx) (k : Fin 64) (_c : BitVec 32) (_w : BitVec 10) (b : Bool) (_n : Bool) (f : Nat) (x : Nat),
    s.quiet = true ∧
    x < 32 ∧
    s.engineUp q.val = true ∧
    k.val < s.slotsOf q.val ∧
    s.portFlacon q.val = some f ∧
    f < 32 ∧
    s.slotState q.val k.val ∈ [0, 6, 7] ∧
    s.openCause f b = some x :=
  ⟨(dl svA 0).set1 (Reg.FL_STATUS 0) Fld.FL_STATUS.FENCED, 0, 1, 5, 3, false, true, 0, (((dl svA 0).set1 (Reg.FL_STATUS 0) Fld.FL_STATUS.FENCED).openCause 0 false).getD 99,
    by decide +kernel⟩

/-- The hypotheses of AccordDoorbells, clause 3, hold together. -/
theorem test_AccordDoorbells_3 :
    ∃ (s : State) (q : PortIx) (k : Fin 64) (_c : BitVec 32) (_w : BitVec 10) (_b : Bool) (_n : Bool) (f : Nat),
    s.quiet = true ∧
    s.engineUp q.val = true ∧
    k.val < s.slotsOf q.val ∧
    s.portFlacon q.val = some f ∧
    s.slotState q.val k.val ∈ [1, 2, 3, 4, 5] :=
  ⟨acs ac0 1, 0, 0, 5, 3, false, true, 0,
    by decide +kernel⟩

/-- The hypotheses of AccordDoorbells, clause 4, hold together. -/
theorem test_AccordDoorbells_4 :
    ∃ (s : State) (q : PortIx) (k : Fin 64) (i : Nat) (a : Accord),
    s.quiet = true ∧
    s.md.clocked = true ∧
    s.slotTracker q.val k.val = some (i, a) ∧
    a.age = none ∧
    tabGet s.acd.waits (q.val * 64 + k.val) [] = [] :=
  ⟨acs ac0 1, 0, 0, 7, ac0,
    by decide +kernel⟩

/-- The hypotheses of AccordDoorbells, clause 5, hold together. -/
theorem test_AccordDoorbells_5 :
    ∃ (s : State) (q : PortIx) (k : Fin 64) (_n : Bool) (i : Nat) (a : Accord),
    s.engineUp q.val = true ∧
    k.val < s.slotsOf q.val ∧
    s.slotState q.val k.val = 1 ∧
    s.slotTracker q.val k.val = some (i, a) :=
  ⟨acs ac0 1, 0, 0, true, 7, ac0,
    by decide +kernel⟩

/-- The hypotheses of AccordDoorbells, clause 6, hold together. -/
theorem test_AccordDoorbells_6 :
    ∃ (s : State) (q : PortIx) (k : Fin 64) (_n : Bool) (i : Nat) (a : Accord),
    s.quiet = true ∧
    s.md.clocked = true ∧
    s.engineUp q.val = true ∧
    k.val < s.slotsOf q.val ∧
    s.slotState q.val k.val = 1 ∧
    s.slotTracker q.val k.val = some (i, a) ∧
    a.out = 0 ∧
    a.age ≠ none ∧
    s.durability a.flacon ≠ 1 ∧
    i ∉ s.acd.readyQ :=
  ⟨{ acs { ac0 with age := some 1, flacon := 1 } 1 with }, 0, 0, true, 7, { ac0 with age := some 1, flacon := 1 },
    by decide +kernel⟩

/-- The hypotheses of AccordDoorbells, clause 7, hold together. -/
theorem test_AccordDoorbells_7 :
    ∃ (s : State) (q : PortIx) (k : Fin 64) (_n : Bool),
    s.quiet = true ∧
    s.engineUp q.val = true ∧
    k.val < s.slotsOf q.val ∧
    s.slotState q.val k.val ≠ 1 :=
  ⟨acs ac0 2, 0, 0, true,
    by decide +kernel⟩

/-- The hypotheses of AccordDoorbells, clause 8, hold together. -/
theorem test_AccordDoorbells_8 :
    ∃ (s : State) (q : PortIx) (k : Fin 64) (i : Nat) (a : Accord),
    s.engineUp q.val = true ∧
    k.val < s.slotsOf q.val ∧
    s.slotTracker q.val k.val = some (i, a) ∧
    a.place = some (q.val * 64 + k.val) ∧
    a.unsealed = true ∧
    a.flacon < 32 ∧
    s.slicesIdle ∧
    tabGet s.acd.waits (q.val * 64 + k.val) [] = [] :=
  ⟨acs ac0 1, 0, 0, 7, ac0,
    by decide +kernel, by decide +kernel, by decide +kernel, by decide +kernel, (by decide +kernel), by decide +kernel, slicesIdle_of (by decide +kernel), by decide +kernel⟩

/-- The hypotheses of AccordDoorbells, clause 9, hold together. -/
theorem test_AccordDoorbells_9 :
    ∃ (s : State) (q : PortIx) (k : Fin 64),
    s.quiet = true ∧
    s.engineUp q.val = true ∧
    k.val < s.slotsOf q.val ∧
    s.slotTracker q.val k.val = none :=
  ⟨dl svA 0, 0, 0,
    by decide +kernel⟩

/-- The hypotheses of AccordDoorbells, clause 10, hold together. -/
theorem test_AccordDoorbells_10 :
    ∃ (s : State) (q : PortIx) (k : Fin 64),
    s.quiet = true ∧
    s.engineUp q.val = true ∧
    k.val < s.slotsOf q.val ∧
    s.slotState q.val k.val ∈ [6, 7] :=
  ⟨(dl svA 0).wr (Reg.EF_SLOT 0 0) Fld.EF_SLOT.STATE 6, 0, 0,
    by decide +kernel⟩

/-- The hypotheses of AccordDoorbells, clause 11, hold together. -/
theorem test_AccordDoorbells_11 :
    ∃ (s : State) (q : PortIx) (k : Fin 64) (_o : Nat) (_l : Nat) (_b : List Byte) (_e : LookupEnv) (_x : Bool) (_y : Bool),
    s.quiet = true ∧
    s.md.clocked = true ∧
    s.engineUp q.val = true ∧
    s.slotTracker q.val k.val = none :=
  ⟨dl svA 0, 0, 0, 0x40, 3, [1, 2], {}, false, false,
    by decide +kernel⟩

/-- The hypotheses of AccordDoorbells, clause 12, hold together. -/
theorem test_AccordDoorbells_12 :
    ∃ (s : State) (q : PortIx) (k : Fin 64) (_o : Nat) (_l : Nat) (i : Nat) (_b : List Byte) (_e : LookupEnv) (a : Accord) (_x : Bool) (_y : Bool),
    s.quiet = true ∧
    s.md.clocked = true ∧
    s.engineUp q.val = true ∧
    s.slotTracker q.val k.val = some (i, a) ∧
    a.ph = .opened ∧
    a.age = none :=
  ⟨acs ac0 1, 0, 0, 0x40, 3, 7, [1, 2], {}, ac0, true, false,
    by decide +kernel⟩

/-- The hypotheses of AccordDoorbells, clause 13, hold together. -/
theorem test_AccordDoorbells_13 :
    ∃ (s : State) (q : PortIx) (k : Fin 64) (_o : Nat) (_n : Nat) (_l : Nat) (i : Nat) (_e : LookupEnv) (a : Accord) (_x : Bool) (_y : Bool),
    s.quiet = true ∧
    s.md.clocked = true ∧
    s.engineUp q.val = true ∧
    s.slotTracker q.val k.val = some (i, a) ∧
    a.age = none :=
  ⟨acs ac0 1, 0, 0, 0x40, 64, 3, 7, {}, ac0, true, false,
    by decide +kernel⟩

/-- The hypotheses of AccordDoorbells, clause 14, hold together. -/
theorem test_AccordDoorbells_14 :
    ∃ (s : State) (q : PortIx),
    s.quiet = true ∧
    s.engineUp q.val = true ∧
    s.acd.trk = [] ∧
    s.slicesIdle :=
  ⟨{ dl svA 0 with acd := {} }, 0,
    by decide +kernel, by decide +kernel, by decide +kernel, slicesIdle_of (by decide +kernel)⟩

/-- The hypotheses of AccordEngine, clause 1, hold together. -/
theorem test_AccordEngine_1 :
    ∃ (s : State) (i : Nat) (a : Accord),
    s.md.clocked = true ∧
    s.accord i = some a ∧
    0 < a.ready :=
  ⟨acs { ac0 with ready := 2 } 1, 7, { ac0 with ready := 2 },
    by decide +kernel⟩

/-- The hypotheses of AccordEngine, clause 2, hold together. -/
theorem test_AccordEngine_2 :
    ∃ (s : State) (i : Nat) (p : Nat) (a : Accord),
    s.quiet = true ∧
    s.md.clocked = true ∧
    s.accord i = some a ∧
    a.ph = .queued ∧
    s.acd.readyQ.head? = some i ∧
    s.durability a.flacon = 0 ∧
    a.place = some p ∧
    a.slices ≠ [] :=
  ⟨rdy (acs { ac0 with ph := .queued, age := some 1, flacon := 1, marks := [mrk] } 2), 7, 0, { ac0 with ph := .queued, age := some 1, flacon := 1, marks := [mrk] },
    by decide +kernel⟩

/-- The hypotheses of AccordEngine, clause 3, hold together. -/
theorem test_AccordEngine_3 :
    ∃ (s : State) (i : Nat) (a : Accord),
    s.quiet = true ∧
    s.md.clocked = true ∧
    s.accord i = some a ∧
    a.ph = .queued ∧
    s.acd.readyQ.head? ≠ some i :=
  ⟨acs { ac0 with ph := .queued, out := 1 } 2, 7, { ac0 with ph := .queued, out := 1 },
    by decide +kernel⟩

/-- The hypotheses of AccordEngine, clause 4, hold together. -/
theorem test_AccordEngine_4 :
    ∃ (s : State) (n : SliceIx) (i : Nat) (a : Accord),
    s.quiet = true ∧
    s.md.clocked = true ∧
    s.accord i = some a ∧
    a.ph = .prepare ∧
    n.val ∈ a.asked ∧
    s.slice n.val = {} ∧
    s.geomOk a.flacon = true ∧
    s.on (Reg.FL_STATUS a.flacon) Fld.FL_STATUS.FENCED = false :=
  ⟨acs { ac0 with ph := .prepare, asked := [0], age := some 1, marks := [mrk] } 2, 0, 7, { ac0 with ph := .prepare, asked := [0], age := some 1, marks := [mrk] },
    by decide +kernel⟩

/-- The hypotheses of AccordEngine, clause 5, hold together. -/
theorem test_AccordEngine_5 :
    ∃ (s : State) (n : SliceIx) (i : Nat) (m : Nat) (a : Accord),
    s.quiet = true ∧
    s.md.clocked = true ∧
    s.accord i = some a ∧
    a.ph = .prepare ∧
    n.val ∉ a.answered ∧
    a.refused = [] ∧
    a.preparedAt n.val = true ∧
    s.slice n.val = {} ∧
    m ∈ a.slices ∧
    m ∉ a.answered ∧
    m ≠ n.val :=
  ⟨acs { ac0 with ph := .prepare, age := some 1, marks := [{ mrk with pinned := true }, { mrk with slice := 1 }], taken := [0], asked := [] } 2, 0, 7, 1, { ac0 with ph := .prepare, age := some 1, marks := [{ mrk with pinned := true }, { mrk with slice := 1 }], taken := [0], asked := [] },
    by decide +kernel⟩

/-- The hypotheses of AccordEngine, clause 6, hold together. -/
theorem test_AccordEngine_6 :
    ∃ (s : State) (i : Nat) (p : Nat) (a : Accord),
    s.md.clocked = true ∧
    s.accord i = some a ∧
    a.ph = .prepare ∧
    a.place = some p ∧
    a.flacon < 32 ∧
    s.slicesIdle ∧
    tabGet s.acd.waits p [] = [] :=
  ⟨acs { ac0 with ph := .prepare, age := some 1 } 2, 7, 0, { ac0 with ph := .prepare, age := some 1 },
    by decide +kernel, by decide +kernel, by decide +kernel, by decide +kernel, (by decide +kernel), slicesIdle_of (by decide +kernel), by decide +kernel⟩

/-- The hypotheses of AccordEngine, clause 7, hold together. -/
theorem test_AccordEngine_7 :
    ∃ (s : State) (i : Nat) (a : Accord),
    s.quiet = true ∧
    s.md.clocked = true ∧
    s.accord i = some a ∧
    a.ph = .sealing ∧
    a.recorded = false ∧
    a.slices ≠ [] :=
  ⟨acs { ac0 with ph := .sealing, age := some 1, marks := [mrk] } 3, 7, { ac0 with ph := .sealing, age := some 1, marks := [mrk] },
    by decide +kernel⟩

/-- The hypotheses of AccordEngine, clause 8, hold together. -/
theorem test_AccordEngine_8 :
    ∃ (s : State) (n : SliceIx) (i : Nat) (a : Accord) (x : Sealed) (_l : List Nat),
    s.quiet = true ∧
    s.md.clocked = true ∧
    s.accord i = some a ∧
    a.ph = .sealing ∧
    n.val ∈ a.flips ∧
    s.acd.seals.find? (fun y => y.seq == a.seq) = some x ∧
    (∀ k ∈ x.lines, k.slice ≠ n.val) ∧
    s.slicesIdle :=
  ⟨{ acs { ac0 with ph := .sealing, age := some 1, flips := [0], seq := 9 } 3 with acd := { (acs { ac0 with ph := .sealing, age := some 1, flips := [0], seq := 9 } 3).acd with seals := [{ seq := 9, cls := 0, flacon := 0, tracker := 7, count := 0, time := 0, lines := [] }] } }, 0, 7, { ac0 with ph := .sealing, age := some 1, flips := [0], seq := 9 }, { seq := 9, cls := 0, flacon := 0, tracker := 7, count := 0, time := 0, lines := [] }, [],
    by decide +kernel, by decide +kernel, by decide +kernel, by decide +kernel, (by decide +kernel), by decide +kernel, by decide +kernel, slicesIdle_of (by decide +kernel)⟩

/-- The hypotheses of AccordEngine, clause 9, hold together. -/
theorem test_AccordEngine_9 :
    ∃ (s : State) (n : SliceIx) (i : Nat) (a : Accord),
    s.quiet = true ∧
    s.md.clocked = true ∧
    s.accord i = some a ∧
    a.ph = .sealing ∧
    n.val ∈ a.acks ∧
    a.flips ≠ [] :=
  ⟨acs { ac0 with ph := .sealing, age := some 1, flips := [1], acks := [0] } 3, 0, 7, { ac0 with ph := .sealing, age := some 1, flips := [1], acks := [0] },
    by decide +kernel⟩

/-- The hypotheses of EpochAndUnfence, clause 1, hold together. -/
theorem test_EpochAndUnfence_1 :
    ∃ (s : State) (p : AccessPath) (_f : FlaconIx) (_x : BitVec 32),
    s.quiet = true ∧
    s.mayAct p = true :=
  ⟨sv, .bar0, 3, 9,
    by decide +kernel⟩

/-- The hypotheses of EpochAndUnfence, clause 2, hold together. -/
theorem test_EpochAndUnfence_2 :
    ∃ (s : State) (p : AccessPath) (f : FlaconIx),
    s.quiet = true ∧
    s.mayAct p = true ∧
    s.on (Reg.FL_STATUS f.val) Fld.FL_STATUS.FENCED = false :=
  ⟨sv, .bar0, 3,
    by decide +kernel⟩

/-- The hypotheses of EpochAndUnfence, clause 3, hold together. -/
theorem test_EpochAndUnfence_3 :
    ∃ (s : State) (p : AccessPath) (f : FlaconIx),
    s.quiet = true ∧
    s.mayAct p = true ∧
    s.on (Reg.FL_STATUS f.val) Fld.FL_STATUS.FENCED = true ∧
    (s.md = .quarantine ∨ s.on (Reg.FL_STATUS f.val) Fld.FL_STATUS.UNFENCING = true) :=
  ⟨(mk .quarantine (some fmA)).set1 (Reg.FL_STATUS 3) Fld.FL_STATUS.FENCED, .bar0, 3,
    by decide +kernel⟩

/-- The hypotheses of EpochAndUnfence, clause 4, hold together. -/
theorem test_EpochAndUnfence_4 :
    ∃ (s : State) (p : AccessPath) (f : FlaconIx),
    s.quiet = true ∧
    s.mayAct p = true ∧
    s.on (Reg.FL_STATUS f.val) Fld.FL_STATUS.FENCED = true ∧
    s.md ≠ .quarantine ∧
    s.on (Reg.FL_STATUS f.val) Fld.FL_STATUS.UNFENCING = false ∧
    s.viralPorts f.val = [] :=
  ⟨sv.set1 (Reg.FL_STATUS 3) Fld.FL_STATUS.FENCED, .bar0, 3,
    by decide +kernel⟩

/-- The hypotheses of EpochAndUnfence, clause 5, hold together. -/
theorem test_EpochAndUnfence_5 :
    ∃ (s : State) (f : FlaconIx),
    s.md.clocked = true ∧
    s.on (Reg.FL_STATUS f.val) Fld.FL_STATUS.UNFENCING = true ∧
    s.fenceComes f.val = false ∧
    s.fenceDry f.val = true ∧
    s.canAdvance f.val false = true :=
  ⟨(sv.set1 (Reg.FL_STATUS 3) Fld.FL_STATUS.FENCED).set1 (Reg.FL_STATUS 3) Fld.FL_STATUS.UNFENCING, 3,
    by decide +kernel⟩

/-- The hypotheses of EpochAndUnfence, clause 6, hold together. -/
theorem test_EpochAndUnfence_6 :
    ∃ (s : State) (f : FlaconIx),
    s.quiet = true ∧
    s.md.clocked = true ∧
    s.fenceDry f.val = false :=
  ⟨{ sv with acc := { sv.acc with fl := [(3, { outst := [(0, 2)] })] } }, 3,
    by decide +kernel⟩

/-- The hypotheses of LaneBringUp, clause 1, hold together. -/
theorem test_LaneBringUp_1 :
    ∃ (s : State) (l : LaneIx),
    s.quiet = true ∧
    s.md.clocked = true ∧
    s.stage l.val = Stage.DETECT :=
  ⟨stg sv 100 Stage.DETECT, 100,
    by decide +kernel⟩

/-- The hypotheses of LaneBringUp, clause 2, hold together. -/
theorem test_LaneBringUp_2 :
    ∃ (s : State) (l : LaneIx) (f : TrainFrame),
    s.quiet = true ∧
    s.md.clocked = true ∧
    s.stage l.val = Stage.TRAIN ∧
    f.good = true ∧
    f.preset = 1 :=
  ⟨stg sv 24 Stage.TRAIN, 24, { word := 0x100, inverted := true },
    by decide +kernel⟩

/-- The hypotheses of LaneBringUp, clause 3, hold together. -/
theorem test_LaneBringUp_3 :
    ∃ (s : State) (_l : LaneIx) (f : TrainFrame),
    s.quiet = true ∧
    s.md.clocked = true ∧
    f.good = false :=
  ⟨stg sv 24 Stage.TRAIN, 24, { good := false },
    by decide +kernel⟩

/-- The hypotheses of LaneBringUp, clause 4, hold together. -/
theorem test_LaneBringUp_4 :
    ∃ (s : State) (l : LaneIx) (_x : BitVec 8),
    s.quiet = true ∧
    s.md.clocked = true ∧
    s.md ≠ .linktest ∧
    s.stage l.val = Stage.TRAIN :=
  ⟨stg sv 24 Stage.TRAIN, 24, 77,
    by decide +kernel⟩

/-- The hypotheses of LaneBringUp, clause 5, hold together. -/
theorem test_LaneBringUp_5 :
    ∃ (s : State) (l : LaneIx),
    s.md.clocked = true ∧
    s.md ≠ .linktest ∧
    s.stage l.val = Stage.TRAIN :=
  ⟨stg sv 24 Stage.TRAIN, 24,
    by decide +kernel⟩

/-- The hypotheses of LaneBringUp, clause 6, hold together. -/
theorem test_LaneBringUp_6 :
    ∃ (s : State) (l : LaneIx),
    s.quiet = true ∧
    s.md.clocked = true ∧
    s.stage l.val = Stage.LOCK :=
  ⟨stg sv 24 Stage.LOCK, 24,
    by decide +kernel⟩

/-- The hypotheses of LaneBringUp, clause 7, hold together. -/
theorem test_LaneBringUp_7 :
    ∃ (s : State) (l : LaneIx),
    s.md.clocked = true ∧
    s.stage l.val = Stage.LOCK :=
  ⟨stg sv 24 Stage.LOCK, 24,
    by decide +kernel⟩

/-- The hypotheses of LaneBringUp, clause 8, hold together. -/
theorem test_LaneBringUp_8 :
    ∃ (s : State) (l : LaneIx) (f : IdentFrame) (p : PortRec),
    s.quiet = true ∧
    s.md.clocked = true ∧
    s.fabricPort l.val = some p ∧
    s.stage l.val = Stage.IDENT ∧
    f.ack = true ∧
    (s.laneSt l.val).ident = some f ∧
    (s.laneSt l.val).identCount = 2 ∧
    (∀ k ∈ p.lanes, k ≠ l.val → s.stage k ≠ Stage.IDENT ∧ s.stage k ≠ Stage.ACTIVE) :=
  ⟨lst (stg sv 24 Stage.IDENT) 24 { ident := some { ack := true }, identCount := 2 }, 24, { ack := true }, pF,
    by decide +kernel⟩

/-- The hypotheses of LaneBringUp, clause 9, hold together. -/
theorem test_LaneBringUp_9 :
    ∃ (s : State) (l : LaneIx) (_f : IdentFrame) (p : PortRec),
    s.quiet = true ∧
    s.md.clocked = true ∧
    s.fabricPort l.val = some p ∧
    s.stage l.val = Stage.IDENT :=
  ⟨lst (stg sv 24 Stage.IDENT) 24 { ident := some { ack := true }, identCount := 2 }, 24, { ack := true }, pF,
    by decide +kernel⟩

/-- The hypotheses of LaneBringUp, clause 10, hold together. -/
theorem test_LaneBringUp_10 :
    ∃ (s : State) (q : PortIx) (p : PortRec) (l : Nat) (f : IdentFrame),
    s.md.clocked = true ∧
    s.portRec q.val = some p ∧
    p.port = q.val ∧
    p.fabric = true ∧
    s.identReady p = [l] ∧
    l < 512 ∧
    s.lanesIn p [Stage.ACTIVE] ≠ [] ∧
    (s.laneSt l).ident = some f ∧
    p.partnerId ≠ 0 ∧
    BitVec.ofNat 64 p.partnerId ≠ f.identity ∧
    (∀ k ∈ p.lanes, k < 512) :=
  ⟨lst (stg (stg svP 24 Stage.IDENT) 25 Stage.ACTIVE) 24 { ident := some { identity := 4 }, identDone := true }, 6, pP, 24, { identity := 4 },
    by decide +kernel⟩

/-- The hypotheses of LaneBringUp, clause 11, hold together. -/
theorem test_LaneBringUp_11 :
    ∃ (s : State) (q : PortIx) (p : PortRec) (l : Nat) (f : IdentFrame),
    s.md.clocked = true ∧
    s.portRec q.val = some p ∧
    p.port = q.val ∧
    p.fabric = true ∧
    p.sparing = false ∧
    s.identReady p = [l] ∧
    l < 512 ∧
    s.lanesIn p [Stage.ACTIVE] = [] ∧
    s.lanesIn p [Stage.DETECT, Stage.TRAIN, Stage.LOCK, Stage.IDENT] = [l] ∧
    (s.laneSt l).ident = some f ∧
    p.partnerId = 0 ∧
    f.flocet = (p.protocol == .flocet) ∧
    s.linkState q.val = 0 :=
  ⟨lst (stg sv 32 Stage.IDENT) 32 { ident := some { identity := 4, flocet := true }, identDone := true }, 8, pG, 32, { identity := 4, flocet := true },
    by decide +kernel⟩

/-- The hypotheses of LaneBringUp, clause 12, hold together. -/
theorem test_LaneBringUp_12 :
    ∃ (s : State) (q : PortIx) (p : PortRec) (l : Nat),
    s.md.clocked = true ∧
    s.portRec q.val = some p ∧
    p.fabric = true ∧
    l < 512 ∧
    s.lanesIn p [Stage.LOCK, Stage.IDENT] = [l] ∧
    (s.laneSt l).identDone = false :=
  ⟨stg sv 33 Stage.LOCK, 8, pG, 33,
    by decide +kernel⟩

/-- The hypotheses of LaneBringUp, clause 13, hold together. -/
theorem test_LaneBringUp_13 :
    ∃ (s : State) (l : LaneIx),
    s.quiet = true ∧
    s.lanesTrain = true ∧
    s.stage l.val = Stage.WAIT ∧
    s.on (Reg.LN_CTL l.val) Fld.LN_CTL.DISABLE = false :=
  ⟨stg sv 33 Stage.WAIT, 33,
    by decide +kernel⟩

/-- The hypotheses of LaneService, clause 1, hold together. -/
theorem test_LaneService_1 :
    ∃ (s : State) (l : LaneIx),
    s.md.clocked = true ∧
    s.laneActive l.val = true ∧
    s.fabricPort l.val = none :=
  ⟨stg sv 100 Stage.ACTIVE, 100,
    by decide +kernel⟩

/-- The hypotheses of LaneService, clause 2, hold together. -/
theorem test_LaneService_2 :
    ∃ (s : State) (l : LaneIx) (p : PortRec),
    s.md.clocked = true ∧
    s.stage l.val = Stage.ACTIVE ∧
    s.fabricPort l.val = some p ∧
    p.port < 128 ∧
    s.linkState p.port = 0 :=
  ⟨stg sv 24 Stage.ACTIVE, 24, pF,
    by decide +kernel⟩

/-- The hypotheses of LaneService, clause 3, hold together. -/
theorem test_LaneService_3 :
    ∃ (s : State) (l : LaneIx) (v : BitVec 8) (h : BitVec 6) (_x : BitVec 8),
    s.quiet = true ∧
    s.md.clocked = true ∧
    s.laneActive l.val = true ∧
    s.on (Reg.LN_CTL l.val) Fld.LN_CTL.MON_EN = true ∧
    (s.laneSt l.val).hostRun = false ∧
    s.marginsOk l.val v.toNat h.toNat = true ∧
    s.on (Reg.LN_CTL l.val) Fld.LN_CTL.TEMP_TRIG_EN = false ∧
    s.on (Reg.LN_CTL l.val) Fld.LN_CTL.LOAD_TRIG_EN = false ∧
    (s.laneSt l.val).loadDue = false :=
  ⟨(((stg sv 24 Stage.ACTIVE).set1 (Reg.LN_CTL 24) Fld.LN_CTL.MON_EN).wr (Reg.LN_CTL 24) Fld.LN_CTL.TEMP_TRIG_EN 0).wr (Reg.LN_CTL 24) Fld.LN_CTL.LOAD_TRIG_EN 0, 24, 200, 50, 3,
    by decide +kernel⟩

/-- The hypotheses of LaneService, clause 4, hold together. -/
theorem test_LaneService_4 :
    ∃ (s : State) (l : LaneIx) (v : BitVec 8) (h : BitVec 6) (_x : BitVec 8),
    s.quiet = true ∧
    s.md.clocked = true ∧
    s.laneActive l.val = true ∧
    s.on (Reg.LN_CTL l.val) Fld.LN_CTL.MON_EN = true ∧
    (s.laneSt l.val).hostRun = false ∧
    s.marginsOk l.val v.toNat h.toNat = true ∧
    s.on (Reg.LN_CTL l.val) Fld.LN_CTL.TEMP_TRIG_EN = false ∧
    (s.laneSt l.val).loadDue = true ∧
    (s.laneSt l.val).level = 0 :=
  ⟨lst ((((stg sv 24 Stage.ACTIVE).set1 (Reg.LN_CTL 24) Fld.LN_CTL.MON_EN).wr (Reg.LN_CTL 24) Fld.LN_CTL.TEMP_TRIG_EN 0)) 24 { loadDue := true }, 24, 200, 50, 3,
    by decide +kernel⟩

/-- The hypotheses of LaneService, clause 5, hold together. -/
theorem test_LaneService_5 :
    ∃ (s : State) (l : LaneIx) (v : BitVec 8) (h : BitVec 6) (_x : BitVec 8),
    s.md.clocked = true ∧
    s.laneActive l.val = true ∧
    s.on (Reg.LN_CTL l.val) Fld.LN_CTL.MON_EN = true ∧
    (s.laneSt l.val).hostRun = false ∧
    s.marginsOk l.val v.toNat h.toNat = false ∧
    (s.laneSt l.val).lows = 1 :=
  ⟨lst ((stg sv 24 Stage.ACTIVE).set1 (Reg.LN_CTL 24) Fld.LN_CTL.MON_EN) 24 { lows := 1 }, 24, 0, 0, 3,
    by decide +kernel⟩

/-- The hypotheses of LaneService, clause 6, hold together. -/
theorem test_LaneService_6 :
    ∃ (s : State) (l : LaneIx) (v : BitVec 8) (h : BitVec 6) (_x : BitVec 8),
    s.quiet = true ∧
    s.md.clocked = true ∧
    (s.laneSt l.val).level = 1 ∧
    (s.laneSt l.val).levelHeld = false ∧
    s.marginsOk l.val v.toNat h.toNat = true ∧
    s.lanePort l.val = none :=
  ⟨lst (stg sv 100 Stage.ACTIVE) 100 { level := 1 }, 100, 200, 50, 3,
    by decide +kernel⟩

/-- The hypotheses of LaneService, clause 7, hold together. -/
theorem test_LaneService_7 :
    ∃ (s : State) (l : LaneIx) (v : BitVec 8) (h : BitVec 6) (_x : BitVec 8),
    s.quiet = true ∧
    s.md.clocked = true ∧
    (s.laneSt l.val).level = 1 ∧
    (s.laneSt l.val).levelHeld = false ∧
    (s.laneSt l.val).hostWait = true ∧
    s.marginsOk l.val v.toNat h.toNat = false ∧
    (∀ p, s.lanePort l.val = some p → p.protocol ≠ .flocet) :=
  ⟨lst (stg sv 24 Stage.ACTIVE) 24 { level := 1, hostWait := true }, 24, 0, 0, 3,
    by decide +kernel, by decide +kernel, by decide +kernel, by decide +kernel, (by decide +kernel), by decide +kernel, of_all (by decide +kernel)⟩

/-- The hypotheses of LaneService, clause 8, hold together. -/
theorem test_LaneService_8 :
    ∃ (s : State) (l : LaneIx) (v : BitVec 8) (h : BitVec 6) (_x : BitVec 8),
    s.quiet = true ∧
    s.md.clocked = true ∧
    (s.laneSt l.val).level = 1 ∧
    (s.laneSt l.val).levelHeld = false ∧
    (s.laneSt l.val).hostWait = false ∧
    s.marginsOk l.val v.toNat h.toNat = false ∧
    (∀ p, s.lanePort l.val = some p → p.protocol ≠ .flocet) :=
  ⟨lst (stg sv 24 Stage.ACTIVE) 24 { level := 1 }, 24, 0, 0, 3,
    by decide +kernel, by decide +kernel, by decide +kernel, by decide +kernel, (by decide +kernel), by decide +kernel, of_all (by decide +kernel)⟩

/-- The hypotheses of LaneService, clause 9, hold together. -/
theorem test_LaneService_9 :
    ∃ (s : State) (p : AccessPath) (l : LaneIx),
    s.quiet = true ∧
    s.mayAct p = true ∧
    s.md ≠ .drydown ∧
    s.md ≠ .quarantine ∧
    s.laneActive l.val = true ∧
    (s.laneSt l.val).level = 0 ∧
    (s.laneSt l.val).hostRun = false ∧
    (∀ k ∈ s.portLanesOf l.val, k ≠ l.val → (s.laneSt k).level = 0) :=
  ⟨stg sv 24 Stage.ACTIVE, .bar0, 24,
    by decide +kernel⟩

/-- The hypotheses of LaneService, clause 10, hold together. -/
theorem test_LaneService_10 :
    ∃ (s : State) (p : AccessPath) (l : LaneIx),
    s.quiet = true ∧
    s.mayAct p = true ∧
    s.md ≠ .drydown ∧
    s.md ≠ .quarantine ∧
    s.laneActive l.val = true ∧
    (s.laneSt l.val).level = 0 ∧
    (s.laneSt l.val).hostRun = true :=
  ⟨lst (stg sv 24 Stage.ACTIVE) 24 { hostRun := true }, .bar0, 24,
    by decide +kernel⟩

/-- The hypotheses of LaneService, clause 11, hold together. -/
theorem test_LaneService_11 :
    ∃ (s : State) (p : AccessPath) (l : LaneIx) (r : PortRec),
    s.quiet = true ∧
    s.mayAct p = true ∧
    s.lanePort l.val = some r ∧
    r.fabric = true ∧
    r.port < 128 ∧
    (∀ k ∈ r.lanes, k < 512) ∧
    l.val ∈ r.lanes ∧
    s.linkState r.port = 0 ∧
    s.stage l.val ∉ [Stage.OFF, Stage.TEST, Stage.STD] :=
  ⟨stg sv 24 Stage.LOCK, .bar0, 24, pF,
    by decide +kernel⟩

/-- The hypotheses of LaneService, clause 12, hold together. -/
theorem test_LaneService_12 :
    ∃ (s : State) (p : AccessPath) (l : LaneIx),
    s.quiet = true ∧
    s.mayAct p = true ∧
    s.laneActive l.val = false ∧
    s.stage l.val ≠ Stage.TEST ∧
    (∀ r, s.lanePort l.val = some r → r.port < 128) :=
  ⟨stg sv 24 Stage.LOCK, .bar0, 24,
    by decide +kernel, by decide +kernel, by decide +kernel, by decide +kernel, of_all (by decide +kernel)⟩

/-- The hypotheses of LaneService, clause 13, hold together. -/
theorem test_LaneService_13 :
    ∃ (s : State) (p : AccessPath) (l : LaneIx) (r : PortRec),
    s.quiet = true ∧
    s.mayAct p = true ∧
    s.lanePort l.val = some r ∧
    r.fabric = true ∧
    s.on (Reg.LN_CTL l.val) Fld.LN_CTL.DISABLE = true ∧
    s.lanesTrain = true :=
  ⟨sv.set1 (Reg.LN_CTL 24) Fld.LN_CTL.DISABLE, .bar0, 24, pF,
    by decide +kernel⟩

/-- The hypotheses of LaneService, clause 14, hold together. -/
theorem test_LaneService_14 :
    ∃ (s : State) (l : LaneIx) (p : PortRec),
    s.quiet = true ∧
    s.md.clocked = true ∧
    s.lanePort l.val = some p ∧
    p.fabric = false ∧
    s.laneActive l.val = true :=
  ⟨stg (dl sv 0) 0 Stage.STD, 0, pU,
    by decide +kernel⟩

/-- The hypotheses of LaneService, clause 15, hold together. -/
theorem test_LaneService_15 :
    ∃ (s : State) (l : LaneIx),
    s.quiet = true ∧
    s.md.clocked = true ∧
    s.lanePort l.val = none ∧
    (s.laneSt l.val).levelHeld = false :=
  ⟨lst sv 100 { hostRun := true }, 100,
    by decide +kernel⟩

/-- The hypotheses of LaneService, clause 16, hold together. -/
theorem test_LaneService_16 :
    ∃ (s : State) (l : LaneIx),
    s.quiet = true ∧
    s.md.clocked = true ∧
    (s.laneSt l.val).levelHeld = true :=
  ⟨lst sv 24 { hostRun := true, level := 1, levelHeld := true }, 24,
    by decide +kernel⟩

/-- The hypotheses of LaneTests, clause 1, hold together. -/
theorem test_LaneTests_1 :
    ∃ (s : State) (p : AccessPath) (l : LaneIx) (_w : BitVec 32),
    s.quiet = true ∧
    s.mayAct p = true ∧
    s.testAllowed l.val = true :=
  ⟨sv, .bar0, 100, 0x15,
    by decide +kernel⟩

/-- The hypotheses of LaneTests, clause 2, hold together. -/
theorem test_LaneTests_2 :
    ∃ (s : State) (p : AccessPath) (l : LaneIx) (w : BitVec 32),
    s.quiet = true ∧
    s.mayAct p = true ∧
    s.testAllowed l.val = false ∧
    w.getLsbD 0 = true ∧
    s.on (Reg.LN_PRBS_CTL l.val) Fld.LN_PRBS_CTL.GEN_EN = false :=
  ⟨sv, .bar0, 24, 1,
    by decide +kernel⟩

/-- The hypotheses of LaneTests, clause 3, hold together. -/
theorem test_LaneTests_3 :
    ∃ (s : State) (p : AccessPath) (l : LaneIx),
    s.quiet = true ∧
    s.mayAct p = true ∧
    s.laneActive l.val = false ∧
    s.on (Reg.LN_PRBS_CTL l.val) Fld.LN_PRBS_CTL.GEN_EN = true :=
  ⟨sv.set1 (Reg.LN_PRBS_CTL 100) Fld.LN_PRBS_CTL.GEN_EN, .bar0, 100,
    by decide +kernel⟩

/-- The hypotheses of LaneTests, clause 4, hold together. -/
theorem test_LaneTests_4 :
    ∃ (s : State) (p : AccessPath) (l : LaneIx) (r : PortRec),
    s.quiet = true ∧
    s.mayAct p = true ∧
    s.laneActive l.val = true ∧
    s.lanePort l.val = some r ∧
    r.anchored = true :=
  ⟨stg sv 24 Stage.ACTIVE, .bar0, 24, pF,
    by decide +kernel⟩

/-- The hypotheses of LaneTests, clause 5, hold together. -/
theorem test_LaneTests_5 :
    ∃ (s : State) (p : AccessPath) (l : LaneIx),
    s.quiet = true ∧
    s.mayAct p = true ∧
    s.laneActive l.val = false ∧
    s.on (Reg.LN_PRBS_CTL l.val) Fld.LN_PRBS_CTL.GEN_EN = true :=
  ⟨sv.set1 (Reg.LN_PRBS_CTL 100) Fld.LN_PRBS_CTL.GEN_EN, .bar0, 100,
    by decide +kernel⟩

/-- The hypotheses of LaneTests, clause 6, hold together. -/
theorem test_LaneTests_6 :
    ∃ (s : State) (p : AccessPath) (l : LaneIx) (w : BitVec 32),
    s.quiet = true ∧
    s.mayAct p = true ∧
    s.md = .linktest ∧
    s.on (Reg.LN_TEST_CFG l.val) Fld.LN_TEST_CFG.EN = false ∧
    w.getLsbD 0 = true ∧
    w.getLsbD 4 = true :=
  ⟨mk .linktest none, .bar0, 100, 0x11,
    by decide +kernel⟩

/-- The hypotheses of LaneTests, clause 7, hold together. -/
theorem test_LaneTests_7 :
    ∃ (s : State) (l : LaneIx),
    s.quiet = true ∧
    s.md = .linktest ∧
    s.stage l.val = Stage.TEST :=
  ⟨lst (stg (mk .linktest none) 100 Stage.TEST) 100 { test := some 0x11 }, 100,
    by decide +kernel⟩

/-- The hypotheses of LaneTests, clause 8, hold together. -/
theorem test_LaneTests_8 :
    ∃ (s : State) (l : LaneIx),
    s.quiet = true ∧
    s.md.clocked = true ∧
    s.md ≠ .linktest ∧
    s.testAllowed l.val = true ∧
    s.on (Reg.LN_PRBS_CTL l.val) Fld.LN_PRBS_CTL.CHK_EN = true :=
  ⟨sv.set1 (Reg.LN_PRBS_CTL 100) Fld.LN_PRBS_CTL.CHK_EN, 100,
    by decide +kernel⟩

/-- The hypotheses of LaneTests, clause 9, hold together. -/
theorem test_LaneTests_9 :
    ∃ (s : State) (l : LaneIx) (_n : Nat) (_e : Nat),
    s.quiet = true ∧
    s.md.clocked = true ∧
    s.on (Reg.LN_PRBS_STATUS l.val) Fld.LN_PRBS_STATUS.CHK_LOCK = true :=
  ⟨sv.set1 (Reg.LN_PRBS_STATUS 100) Fld.LN_PRBS_STATUS.CHK_LOCK, 100, 50, 3,
    by decide +kernel⟩

/-- The hypotheses of FlitsSent, clause 1, hold together. -/
theorem test_FlitsSent_1 :
    ∃ (s : State) (q : PortIx) (p : PortRec),
    s.quiet = true ∧
    s.md.clocked = true ∧
    s.portRec q.val = some p ∧
    p.port = q.val ∧
    p.fabric = true ∧
    s.linkState q.val = 2 ∧
    (let l := s.linkSt q.val; l.txMap ≠ [] ∧ l.restarting = false ∧ l.resend = none ∧ l.filling = [] ∧ l.bypassLc = [] ∧ l.bypassMc0 = [] ∧ l.nakSend = false) :=
  ⟨lnk sv 6 2 { txMap := [0, 1] }, 6, pF,
    by decide +kernel⟩

/-- The hypotheses of FlitsSent, clause 2, hold together. -/
theorem test_FlitsSent_2 :
    ∃ (s : State) (q : PortIx) (p : PortRec),
    s.quiet = true ∧
    s.md.clocked = true ∧
    s.portRec q.val = some p ∧
    p.port = q.val ∧
    p.fabric = true ∧
    s.linkState q.val = 2 ∧
    (let l := s.linkSt q.val; l.txMap ≠ [] ∧ l.restarting = false ∧ l.resend = none ∧ l.filling ≠ [] ∧ l.bypassLc = [] ∧ l.bypassMc0 = [] ∧ l.nakSend = false ∧ l.stored.length < replayFlits p.width) :=
  ⟨lnk sv 6 2 { txMap := [0, 1], filling := [{ cell := cel .single {}, sub := 0, pool := false }] }, 6, pF,
    by decide +kernel⟩

/-- The hypotheses of FlitsSent, clause 3, hold together. -/
theorem test_FlitsSent_3 :
    ∃ (s : State) (q : PortIx) (p : PortRec) (f : Nat) (r : FlitRec),
    s.quiet = true ∧
    s.md.clocked = true ∧
    s.portRec q.val = some p ∧
    p.port = q.val ∧
    p.fabric = true ∧
    s.linkState q.val = 2 ∧
    (let l := s.linkSt q.val; l.txMap ≠ [] ∧ l.restarting = false ∧ l.resend = some f ∧ l.resendOne = true ∧ l.nakSend = false ∧ l.stored.find? (fun x => x.fseq == f) = some r) :=
  ⟨lnk sv 6 2 { txMap := [0, 1], resend := some 5, resendOne := true, stored := [{ fseq := 5 }] }, 6, pF, 5, { fseq := 5 },
    by decide +kernel⟩

/-- The hypotheses of FlitsSent, clause 4, hold together. -/
theorem test_FlitsSent_4 :
    ∃ (s : State) (q : PortIx) (p : PortRec),
    s.quiet = true ∧
    s.md.clocked = true ∧
    s.portRec q.val = some p ∧
    p.port = q.val ∧
    p.fabric = true ∧
    p.protocol = .ictil ∧
    s.linkState q.val = 3 ∧
    (let l := s.linkSt q.val; l.txMap ≠ [] ∧ l.restarting = true ∧ l.initSent = false ∧ l.initIn = none ∧ l.nakSend = false) :=
  ⟨lnk sv 6 3 { txMap := [0, 1], restarting := true }, 6, pF,
    by decide +kernel⟩

/-- The hypotheses of FlitsSent, clause 5, hold together. -/
theorem test_FlitsSent_5 :
    ∃ (s : State) (q : PortIx) (p : PortRec),
    s.quiet = true ∧
    s.md.clocked = true ∧
    s.portRec q.val = some p ∧
    p.port = q.val ∧
    p.fabric = true ∧
    p.protocol = .ictil ∧
    (s.linkSt q.val).nakOut = true :=
  ⟨lnk sv 6 2 { nakOut := true }, 6, pF,
    by decide +kernel⟩

/-- The hypotheses of FlitsSent, clause 6, hold together. -/
theorem test_FlitsSent_6 :
    ∃ (s : State) (q : PortIx) (p : PortRec) (r : FlitRec) (m : List FlitRec),
    s.quiet = true ∧
    s.md.clocked = true ∧
    s.portRec q.val = some p ∧
    p.port = q.val ∧
    s.linkState q.val = 2 ∧
    (s.linkSt q.val).stored = r :: m ∧
    (s.linkSt q.val).replays = 0 :=
  ⟨lnk sv 6 2 { stored := [{ fseq := 5 }] }, 6, pF, { fseq := 5 }, [],
    by decide +kernel⟩

/-- The hypotheses of FlitsSent, clause 7, hold together. -/
theorem test_FlitsSent_7 :
    ∃ (s : State) (q : PortIx) (p : PortRec) (r : FlitRec) (m : List FlitRec),
    s.md.clocked = true ∧
    s.portRec q.val = some p ∧
    p.port = q.val ∧
    s.linkState q.val = 2 ∧
    (s.linkSt q.val).stored = r :: m ∧
    (s.linkSt q.val).replays = 7 ∧
    (s.linkSt q.val).replayFrom = r.fseq ∧
    p.lingerMs ≠ 0 ∧
    s.core.otags = [] :=
  ⟨lnk sv 6 2 { stored := [{ fseq := 5 }], replays := 7, replayFrom := 5 }, 6, pF, { fseq := 5 }, [],
    by decide +kernel⟩

/-- The hypotheses of FlitsReceived, clause 1, hold together. -/
theorem test_FlitsReceived_1 :
    ∃ (s : State) (q : PortIx) (p : PortRec) (f : FlitIn),
    s.quiet = true ∧
    s.md.clocked = true ∧
    s.portRec q.val = some p ∧
    p.port = q.val ∧
    p.fabric = true ∧
    p.protocol = .ictil ∧
    s.linkState q.val ≠ 0 ∧
    f.bad = true ∧
    (s.linkSt q.val).nakOut = false :=
  ⟨lnk sv 6 2 {}, 6, pF, { bad := true },
    by decide +kernel⟩

/-- The hypotheses of FlitsReceived, clause 2, hold together. -/
theorem test_FlitsReceived_2 :
    ∃ (s : State) (q : PortIx) (p : PortRec) (f : FlitIn),
    s.quiet = true ∧
    s.md.clocked = true ∧
    s.portRec q.val = some p ∧
    p.port = q.val ∧
    p.fabric = true ∧
    p.protocol = .ictil ∧
    s.linkState q.val = 2 ∧
    f.bad = false ∧
    f.null = false ∧
    f.ackV = false ∧
    f.nak = false ∧
    f.bypass = none ∧
    f.mapId.val = (s.linkSt q.val).rxMapId ∧
    f.crd.toNat = tabGet (s.linkSt q.val).debits f.crdSel.val 0 ∧
    f.fseq.val = (s.linkSt q.val).rxNext ∧
    (s.linkSt q.val).rx.length + f.slots.length ≤ poolSize p.width :=
  ⟨lnk sv 6 2 {}, 6, pF, {},
    by decide +kernel⟩

/-- The hypotheses of FlitsReceived, clause 3, hold together. -/
theorem test_FlitsReceived_3 :
    ∃ (s : State) (q : PortIx) (p : PortRec) (f : FlitIn),
    s.quiet = true ∧
    s.md.clocked = true ∧
    s.portRec q.val = some p ∧
    p.port = q.val ∧
    p.fabric = true ∧
    p.protocol = .ictil ∧
    s.linkState q.val = 2 ∧
    f.bad = false ∧
    f.null = false ∧
    f.ackV = false ∧
    f.nak = false ∧
    f.mapId.val = (s.linkSt q.val).rxMapId ∧
    f.crd.toNat = tabGet (s.linkSt q.val).debits f.crdSel.val 0 ∧
    (s.linkSt q.val).nakOut = false ∧
    (let d := (4096 + f.fseq.val - (s.linkSt q.val).rxNext) % 4096; d ≠ 0 ∧ d < 2048) :=
  ⟨lnk sv 6 2 {}, 6, pF, { fseq := 5 },
    by decide +kernel⟩

/-- The hypotheses of FlitsReceived, clause 4, hold together. -/
theorem test_FlitsReceived_4 :
    ∃ (s : State) (q : PortIx) (p : PortRec) (f : FlitIn),
    s.quiet = true ∧
    s.md.clocked = true ∧
    s.portRec q.val = some p ∧
    p.port = q.val ∧
    p.fabric = true ∧
    s.linkState q.val = 2 ∧
    f.bad = false ∧
    f.null = false ∧
    f.ackV = false ∧
    f.nak = false ∧
    f.mapId.val = (s.linkSt q.val).rxMapId ∧
    f.crd.toNat = tabGet (s.linkSt q.val).debits f.crdSel.val 0 ∧
    2048 ≤ (4096 + f.fseq.val - (s.linkSt q.val).rxNext) % 4096 :=
  ⟨lnk sv 6 2 { rxNext := 5 }, 6, pF, { fseq := 4 },
    by decide +kernel⟩

/-- The hypotheses of FlitsReceived, clause 5, hold together. -/
theorem test_FlitsReceived_5 :
    ∃ (s : State) (q : PortIx) (p : PortRec) (f : FlitIn) (n : Nat) (r : FlitRec) (m : List FlitRec),
    s.quiet = true ∧
    s.md.clocked = true ∧
    s.portRec q.val = some p ∧
    p.port = q.val ∧
    p.fabric = true ∧
    s.linkState q.val = 2 ∧
    f.bad = false ∧
    f.null = true ∧
    f.bypass = none ∧
    f.ackV = true ∧
    f.nak = false ∧
    f.mapId.val = (s.linkSt q.val).rxMapId ∧
    f.crd.toNat = tabGet (s.linkSt q.val).debits f.crdSel.val 0 ∧
    (s.linkSt q.val).stored = r :: m ∧
    n ≤ m.length ∧
    r.fseq < 4096 ∧
    f.ackSeq.val = (r.fseq + n) % 4096 ∧
    m.length < 1000 :=
  ⟨lnk sv 6 2 { stored := [{ fseq := 4095 }, { fseq := 0 }, { fseq := 1 }] }, 6, pF, { null := true, ackV := true, ackSeq := 0 }, 1, { fseq := 4095 }, [{ fseq := 0 }, { fseq := 1 }],
    by decide +kernel⟩

/-- The hypotheses of FlitsReceived, clause 6, hold together. -/
theorem test_FlitsReceived_6 :
    ∃ (s : State) (q : PortIx) (p : PortRec) (f : FlitIn),
    s.md.clocked = true ∧
    s.portRec q.val = some p ∧
    p.port = q.val ∧
    p.fabric = true ∧
    s.linkState q.val = 2 ∧
    p.lingerMs ≠ 0 ∧
    s.core.otags = [] ∧
    f.bad = false ∧
    f.null = true ∧
    f.bypass = none ∧
    f.ackV = false ∧
    f.nak = false ∧
    f.mapId.val = (s.linkSt q.val).rxMapId ∧
    initialCredits f.crdSel.val < (65536 + f.crd.toNat - tabGet (s.linkSt q.val).debits f.crdSel.val 0) % 65536 :=
  ⟨lnk sv 6 2 {}, 6, pF, { null := true, crd := 17 },
    by decide +kernel⟩

/-- The hypotheses of LinkControl, clause 1, hold together. -/
theorem test_LinkControl_1 :
    ∃ (s : State) (q : PortIx) (p : PortRec) (m : BitVec 16),
    s.md.clocked = true ∧
    s.portRec q.val = some p ∧
    p.port = q.val ∧
    p.fabric = true ∧
    p.anchored = false ∧
    p.sparing = false ∧
    s.linkState q.val ≠ 0 ∧
    laneMap p (m.toNat % 2 ^ p.width) (s.linkSt q.val).txMap ≠ [] ∧
    laneMap p (m.toNat % 2 ^ p.width) (s.linkSt q.val).txMap ≠ (s.linkSt q.val).txMap :=
  ⟨lnk sv 8 2 {}, 8, pG, 0xFF,
    by decide +kernel⟩

/-- The hypotheses of LinkControl, clause 2, hold together. -/
theorem test_LinkControl_2 :
    ∃ (s : State) (q : PortIx) (p : PortRec) (m : BitVec 16),
    s.quiet = true ∧
    s.md.clocked = true ∧
    s.portRec q.val = some p ∧
    p.port = q.val ∧
    p.fabric = true ∧
    s.linkState q.val ≠ 0 ∧
    laneMap p (m.toNat % 2 ^ p.width) (s.linkSt q.val).txMap = (s.linkSt q.val).txMap :=
  ⟨lnk sv 8 2 {}, 8, pG, 0,
    by decide +kernel⟩

/-- The hypotheses of LinkControl, clause 3, hold together. -/
theorem test_LinkControl_3 :
    ∃ (s : State) (q : PortIx) (p : PortRec) (n : Fin 16) (x : BitVec 10),
    s.quiet = true ∧
    s.md.clocked = true ∧
    s.portRec q.val = some p ∧
    p.port = q.val ∧
    p.fabric = true ∧
    s.linkState q.val ≠ 0 ∧
    n.val < p.width ∧
    x.toNat / 256 = 3 :=
  ⟨lnk sv 8 2 {}, 8, pG, 3, 0x300,
    by decide +kernel⟩

/-- The hypotheses of LinkControl, clause 4, hold together. -/
theorem test_LinkControl_4 :
    ∃ (s : State) (_q : PortIx) (_n : Fin 16) (_x : BitVec 8),
    s.quiet = true ∧
    s.md.clocked = true :=
  ⟨sv, 8, 3, 3,
    by decide +kernel⟩

/-- The hypotheses of LinkControl, clause 5, hold together. -/
theorem test_LinkControl_5 :
    ∃ (s : State) (q : PortIx) (p : PortRec) (_c : LlCaps),
    s.md.clocked = true ∧
    s.portRec q.val = some p ∧
    p.port = q.val ∧
    p.fabric = true ∧
    s.linkState q.val = 2 ∧
    (s.linkSt q.val).restarting = false ∧
    p.lingerMs ≠ 0 ∧
    s.core.otags = [] :=
  ⟨lnk sv 6 2 {}, 6, pF, {},
    by decide +kernel⟩

/-- The hypotheses of LinkControl, clause 6, hold together. -/
theorem test_LinkControl_6 :
    ∃ (s : State) (q : PortIx) (p : PortRec) (c : LlCaps),
    s.quiet = true ∧
    s.md.clocked = true ∧
    s.portRec q.val = some p ∧
    p.port = q.val ∧
    p.fabric = true ∧
    s.linkState q.val = 3 ∧
    c.resume = true ∧
    (let l := s.linkSt q.val; l.restarting = true ∧ l.initSent = true ∧ l.initOffer = true ∧ l.lanesKept = true ∧ l.stored = [] ∧ l.txNext < 4096 ∧ c.rxNext = l.txNext) ∧
    s.core.otags = [] :=
  ⟨lnk sv 6 3 { restarting := true, initSent := true, initOffer := true, txNext := 7 }, 6, pF, { resume := true, rxNext := 7 },
    by decide +kernel⟩

/-- The hypotheses of LinkControl, clause 7, hold together. -/
theorem test_LinkControl_7 :
    ∃ (s : State) (a : AccessPath) (q : PortIx) (p : PortRec),
    s.mayAct a = true ∧
    s.portRec q.val = some p ∧
    p.port = q.val ∧
    p.fabric = true ∧
    s.linkState q.val = 2 ∧
    p.lingerMs ≠ 0 ∧
    s.core.otags = [] :=
  ⟨lnk sv 6 2 {}, .bar0, 6, pF,
    by decide +kernel⟩

/-- The hypotheses of LinkControl, clause 8, hold together. -/
theorem test_LinkControl_8 :
    ∃ (s : State) (q : PortIx) (p : PortRec),
    s.md.clocked = true ∧
    s.portRec q.val = some p ∧
    p.port = q.val ∧
    p.sparing = false ∧
    s.arrayEmpty ∧
    s.linkState q.val = 3 ∧
    (s.linkSt q.val).restarting = true ∧
    (s.linkSt q.val).initIn = none ∧
    (∀ k ∈ p.lanes, k < 512) :=
  ⟨lnk sv 8 3 { restarting := true }, 8, pG,
    by decide +kernel, by decide +kernel, by decide +kernel, by decide +kernel, by unfold State.arrayEmpty; decide +kernel, by decide +kernel⟩

/-- The hypotheses of LinkControl, clause 9, hold together. -/
theorem test_LinkControl_9 :
    ∃ (s : State) (q : PortIx) (p : PortRec),
    s.md.clocked = true ∧
    s.portRec q.val = some p ∧
    p.port = q.val ∧
    p.fabric = true ∧
    p.sparing = false ∧
    s.arrayEmpty ∧
    s.linkState q.val = 3 ∧
    s.on (Reg.PT_STD_STATUS q.val) Fld.PT_STD_STATUS.LINGER = false ∧
    laneMap p (s.healthMask p) [] = [] ∧
    (∀ k < p.width, p.chipLane k < 512) :=
  ⟨lnk sv 8 3 {}, 8, pG,
    by decide +kernel, by decide +kernel, by decide +kernel, by decide +kernel, (by decide +kernel), by unfold State.arrayEmpty; decide +kernel, by decide +kernel⟩

/-- The hypotheses of StandardLinks, clause 1, hold together. -/
theorem test_StandardLinks_1 :
    ∃ (s : State) (q : PortIx) (p : PortRec),
    s.md.clocked = true ∧
    s.portRec q.val = some p ∧
    p.port = q.val ∧
    p.fabric = false ∧
    p.hotplug = false ∧
    p.role = .upstream ∧
    s.portIdle q.val ∧
    s.on (Reg.PT_STD_STATUS q.val) Fld.PT_STD_STATUS.DL_UP = true :=
  ⟨dl sv 0, 0, pU,
    by decide +kernel, by decide +kernel, by decide +kernel, by decide +kernel, (by decide +kernel), by decide +kernel, portIdle_of (by decide +kernel), by decide +kernel⟩

/-- The hypotheses of StandardLinks, clause 2, hold together. -/
theorem test_StandardLinks_2 :
    ∃ (s : State) (q : PortIx) (p : PortRec),
    s.md.clocked = true ∧
    s.portRec q.val = some p ∧
    p.port = q.val ∧
    p.fabric = false ∧
    p.hotplug = false ∧
    p.role = .downstream ∧
    p.lingerMs ≠ 0 ∧
    s.portIdle q.val ∧
    s.on (Reg.PT_STD_STATUS q.val) Fld.PT_STD_STATUS.DL_UP = true :=
  ⟨dl sv 4, 4, pD,
    by decide +kernel, by decide +kernel, by decide +kernel, by decide +kernel, (by decide +kernel), by decide +kernel, by decide +kernel, portIdle_of (by decide +kernel), by decide +kernel⟩

/-- The hypotheses of StandardLinks, clause 3, hold together. -/
theorem test_StandardLinks_3 :
    ∃ (s : State) (q : PortIx),
    s.quiet = true ∧
    s.md.clocked = true ∧
    s.home = [] ∧
    s.on (Reg.PT_STD_STATUS q.val) Fld.PT_STD_STATUS.WALK = true :=
  ⟨sv.set1 (Reg.PT_STD_STATUS 0) Fld.PT_STD_STATUS.WALK, 0,
    by decide +kernel⟩

/-- The hypotheses of StandardLinks, clause 4, hold together. -/
theorem test_StandardLinks_4 :
    ∃ (s : State) (q : PortIx) (p : PortRec) (_l : StdLink),
    s.md.clocked = true ∧
    s.portRec q.val = some p ∧
    p.port = q.val ∧
    p.fabric = false ∧
    p.role = .upstream ∧
    s.lanesTrain = true ∧
    (s.stdSt q.val).fmReset = false ∧
    s.on (Reg.PT_STD_STATUS q.val) Fld.PT_STD_STATUS.DL_UP = false :=
  ⟨sv, 0, pU, {},
    by decide +kernel⟩

/-- The hypotheses of StandardLinks, clause 5, hold together. -/
theorem test_StandardLinks_5 :
    ∃ (s : State) (q : PortIx) (p : PortRec) (l : StdLink) (d : Word),
    s.md.clocked = true ∧
    s.portRec q.val = some p ∧
    p.port = q.val ∧
    p.fabric = false ∧
    p.role = .downstream ∧
    p.hotplug = true ∧
    s.hpState q.val = 4 ∧
    s.lanesTrain = true ∧
    (s.stdSt q.val).fmReset = false ∧
    l.dsn = some d ∧
    l.cache = false ∧
    s.on (Reg.PT_STD_STATUS q.val) Fld.PT_STD_STATUS.DL_UP = false ∧
    s.on (Reg.PT_STD_STATUS q.val) Fld.PT_STD_STATUS.LINGER = false :=
  ⟨hp sv 4, 2, pH, { dsn := some 9 }, 9,
    by decide +kernel⟩

/-- The hypotheses of StandardLinks, clause 6, hold together. -/
theorem test_StandardLinks_6 :
    ∃ (s : State) (q : PortIx) (p : PortRec) (_r : Fin 6) (_w : Fin 17) (_x : BitVec 8),
    s.quiet = true ∧
    s.md.clocked = true ∧
    s.portRec q.val = some p ∧
    p.port = q.val ∧
    p.fabric = false ∧
    p.anchored = true ∧
    s.on (Reg.PT_STD_STATUS q.val) Fld.PT_STD_STATUS.DL_UP = true :=
  ⟨dl (svOf [pNU, pND]) 4, 4, pND, 2, 4, 3,
    by decide +kernel⟩

/-- The hypotheses of StandardLinks, clause 7, hold together. -/
theorem test_StandardLinks_7 :
    ∃ (s : State) (q : PortIx) (p : PortRec) (r : Fin 6) (_w : Fin 17) (_x : BitVec 8),
    s.md.clocked = true ∧
    s.portRec q.val = some p ∧
    p.port = q.val ∧
    p.fabric = false ∧
    p.anchored = false ∧
    r.val = s.rd (Reg.PT_STD_STATUS q.val) Fld.PT_STD_STATUS.RATE ∧
    s.on (Reg.PT_STD_STATUS q.val) Fld.PT_STD_STATUS.DL_UP = true :=
  ⟨dl sv 4, 4, pD, 0, 4, 3,
    by decide +kernel⟩

/-- The hypotheses of StandardLinks, clause 8, hold together. -/
theorem test_StandardLinks_8 :
    ∃ (s : State) (q : PortIx) (p : PortRec) (_r : Fin 6) (_w : Fin 17) (_x : BitVec 8),
    s.md.clocked = true ∧
    s.portRec q.val = some p ∧
    p.port = q.val ∧
    p.fabric = false ∧
    p.anchored = true ∧
    p.hotplug = false ∧
    p.role = .upstream ∧
    s.portIdle q.val ∧
    s.on (Reg.PT_STD_STATUS q.val) Fld.PT_STD_STATUS.DL_UP = true :=
  ⟨dl (svOf [pNU, pND]) 0, 0, pNU, 2, 4, 3,
    by decide +kernel, by decide +kernel, by decide +kernel, by decide +kernel, (by decide +kernel), by decide +kernel, by decide +kernel, portIdle_of (by decide +kernel), by decide +kernel⟩

/-- The hypotheses of StandardLinks, clause 9, hold together. -/
theorem test_StandardLinks_9 :
    ∃ (s : State) (q : PortIx) (p : PortRec) (r : Fin 6) (_w : Fin 17) (_x : BitVec 8) (l : LaneIx),
    s.md.clocked = true ∧
    s.portRec q.val = some p ∧
    p.port = q.val ∧
    p.fabric = false ∧
    p.anchored = false ∧
    r.val ≠ s.rd (Reg.PT_STD_STATUS q.val) Fld.PT_STD_STATUS.RATE ∧
    s.on (Reg.PT_STD_STATUS q.val) Fld.PT_STD_STATUS.DL_UP = true ∧
    p.lanes = [l.val] :=
  ⟨dl (svOf [pW]) 4, 4, pW, 1, 1, 3, 16,
    by decide +kernel⟩

/-- The hypotheses of PortServices, clause 1, hold together. -/
theorem test_PortServices_1 :
    ∃ (s : State) (q : PortIx) (p : PortRec) (b : Nat) (z : Nat),
    s.quiet = true ∧
    s.md.clocked = true ∧
    s.portRec q.val = some p ∧
    p.port = q.val ∧
    p.protocol = .cxl ∧
    p.role = .upstream ∧
    s.on (Reg.PT_STD_STATUS q.val) Fld.PT_STD_STATUS.DL_UP = true ∧
    z ≠ 0 ∧
    b % 2 ^ 28 = 0 ∧
    z % 2 ^ 28 = 0 ∧
    b + z ≤ 2 ^ 52 :=
  ⟨dl sv 0, 0, pU, 0, 0x10000000,
    by decide +kernel⟩

/-- The hypotheses of PortServices, clause 2, hold together. -/
theorem test_PortServices_2 :
    ∃ (s : State) (_q : PortIx) (b : Nat) (z : Nat) (w : Nat),
    s.quiet = true ∧
    s.md.clocked = true ∧
    (w ≠ 1 ∨ z = 0 ∨ b % 2 ^ 28 ≠ 0 ∨ z % 2 ^ 28 ≠ 0 ∨ 2 ^ 52 < b + z) :=
  ⟨sv, 0, 0, 0, 1,
    by decide +kernel⟩

/-- The hypotheses of PortServices, clause 3, hold together. -/
theorem test_PortServices_3 :
    ∃ (s : State) (q : PortIx) (p : PortRec),
    s.md.clocked = true ∧
    s.portRec q.val = some p ∧
    p.port = q.val ∧
    p.protocol = .cxl ∧
    s.on (Reg.PT_STD_STATUS q.val) Fld.PT_STD_STATUS.DL_UP = true :=
  ⟨dl sv 0, 0, pU,
    by decide +kernel⟩

/-- The hypotheses of PortServices, clause 4, hold together. -/
theorem test_PortServices_4 :
    ∃ (s : State) (q : PortIx) (p : PortRec) (_x : Bool) (_k : BitVec 256),
    s.quiet = true ∧
    s.md.clocked = true ∧
    s.portRec q.val = some p ∧
    p.port = q.val ∧
    p.fabric = false ∧
    p.role = .upstream ∧
    s.on (Reg.PT_STD_STATUS q.val) Fld.PT_STD_STATUS.DL_UP = true :=
  ⟨dl sv 0, 0, pU, true, 5,
    by decide +kernel⟩

/-- The hypotheses of PortServices, clause 5, hold together. -/
theorem test_PortServices_5 :
    ∃ (s : State) (q : PortIx) (p : PortRec),
    s.md.clocked = true ∧
    s.portRec q.val = some p ∧
    p.port = q.val ∧
    p.fabric = false ∧
    p.hotplug = false ∧
    p.role = .upstream ∧
    s.portIdle q.val ∧
    s.ide q.val ≠ 0 ∧
    s.on (Reg.PT_STD_STATUS q.val) Fld.PT_STD_STATUS.DL_UP = true :=
  ⟨(dl sv 0).wr (Reg.PT_STD_STATUS 0) Fld.PT_STD_STATUS.IDE 2, 0, pU,
    by decide +kernel, by decide +kernel, by decide +kernel, by decide +kernel, (by decide +kernel), by decide +kernel, portIdle_of (by decide +kernel), by decide +kernel⟩

/-- The hypotheses of PortServices, clause 6, hold together. -/
theorem test_PortServices_6 :
    ∃ (s : State) (q : PortIx) (p : PortRec) (c : Instr) (n : Nat),
    s.quiet = true ∧
    s.md.clocked = true ∧
    (c = .gpfPhase1Request q ∧ n = 1 ∨ c = .gpfPhase2Request q ∧ n = 2) ∧
    s.portRec q.val = some p ∧
    p.port = q.val ∧
    p.fabric = false ∧
    p.gpf = true ∧
    p.role = .upstream ∧
    s.portUp q.val = true ∧
    s.gpf = [] ∧
    s.hostWrites q.val = false ∧
    s.gpfPorts q.val = [] :=
  ⟨svG, 0, pGU, .gpfPhase1Request 0, 1,
    by decide +kernel⟩

/-- The hypotheses of PortServices, clause 7, hold together. -/
theorem test_PortServices_7 :
    ∃ (s : State) (q : PortIx) (p : PortRec) (d : Nat) (c : Instr) (n : Nat),
    s.quiet = true ∧
    s.md.clocked = true ∧
    (c = .gpfPhase1Request q ∧ n = 1 ∨ c = .gpfPhase2Request q ∧ n = 2) ∧
    s.portRec q.val = some p ∧
    p.port = q.val ∧
    p.fabric = false ∧
    p.gpf = true ∧
    p.role = .upstream ∧
    s.portUp q.val = true ∧
    s.gpf = [] ∧
    s.hostWrites q.val = false ∧
    s.gpfPorts q.val = [d] ∧
    (s.stdSt d).gpfDone < n ∧
    (s.stdSt d).gpfSent = none :=
  ⟨dl svG 4, 0, pGU, 4, .gpfPhase2Request 0, 2,
    by decide +kernel⟩

/-- The hypotheses of PortServices, clause 8, hold together. -/
theorem test_PortServices_8 :
    ∃ (s : State) (q : PortIx) (p : PortRec) (c : Instr) (n : Nat),
    s.md.clocked = true ∧
    (c = .gpfPhase1Request q ∧ n = 1 ∨ c = .gpfPhase2Request q ∧ n = 2) ∧
    s.portRec q.val = some p ∧
    p.port = q.val ∧
    p.fabric = false ∧
    p.gpf = true ∧
    p.role = .upstream ∧
    s.portUp q.val = true ∧
    s.gpf = [] ∧
    s.hostWrites q.val = true :=
  ⟨{ svG with core := { svG.core with posted := [(0, [1])] } }, 0, pGU, .gpfPhase1Request 0, 1,
    by decide +kernel⟩

/-- The hypotheses of PortServices, clause 9, hold together. -/
theorem test_PortServices_9 :
    ∃ (s : State) (q : PortIx) (h : PortIx) (n : Fin 3),
    s.quiet = true ∧
    s.md.clocked = true ∧
    (s.stdSt q.val).gpfSent = some n.val ∧
    s.gpf = [{ port := h.val, phase := n.val, held := false, waits := [q.val] }] :=
  ⟨{ sv with std := [(4, { gpfSent := some 1 })], gpf := [{ port := 0, phase := 1, held := false, waits := [4] }] }, 4, 0, 1,
    by decide +kernel⟩

/-- The hypotheses of PortServices, clause 10, hold together. -/
theorem test_PortServices_10 :
    ∃ (s : State) (q : PortIx) (n : Fin 3) (g : GpfFlow),
    s.md.clocked = true ∧
    g ∈ s.gpf ∧
    g.port = q.val ∧
    g.phase = n.val :=
  ⟨{ sv with gpf := [{ port := 0, phase := 1, held := false, waits := [4] }] }, 0, 1, { port := 0, phase := 1, held := false, waits := [4] },
    by decide +kernel⟩

/-- The hypotheses of FabricManager, clause 1, hold together. -/
theorem test_FabricManager_1 :
    ∃ (s : State) (c : Instr) (r : FmReq) (o : Nat) (g : Nat) (m : Nat),
    s.quiet = true ∧
    s.fmOf c = some (r, o, g, m) ∧
    s.fmUp r = true ∧
    r.remote = false ∧
    s.holdsGroup r.path.val r.eid g m = false :=
  ⟨sv, .fmIdentify {}, {}, 1, 0, everyFlacon,
    by decide +kernel⟩

/-- The hypotheses of FabricManager, clause 2, hold together. -/
theorem test_FabricManager_2 :
    ∃ (s : State) (c : Instr) (r : FmReq) (o : Nat) (g : Nat) (m : Nat),
    s.quiet = true ∧
    s.fmOf c = some (r, o, g, m) ∧
    s.fmUp r = true ∧
    r.remote = false ∧
    s.holdsGroup r.path.val r.eid g m = true ∧
    g ≠ Grp.READ ∧
    s.md ≠ .serve :=
  ⟨mk .compose (some fmD), .fmPhysicalPortControl {} 4 0, {}, 0x5102, Grp.LINK, flMask 0,
    by decide +kernel⟩

/-- The hypotheses of FabricManager, clause 3, hold together. -/
theorem test_FabricManager_3 :
    ∃ (s : State) (c : Instr) (r : FmReq) (o : Nat),
    s.quiet = true ∧
    (c, o) ∈ [(Instr.fmIdentify r, 0x0001), (.fmBackgroundOperationStatus r, 0x0002), (.fmGetEventRecords r, 0x0100), (.fmIdentifySwitchDevice r, 0x5100)] ∧
    s.fmGrants r Grp.READ everyFlacon :=
  ⟨svD, .fmIdentify {}, {}, 1,
    by decide +kernel, by decide +kernel, by unfold State.fmGrants; decide +kernel⟩

/-- The hypotheses of FabricManager, clause 4, hold together. -/
theorem test_FabricManager_4 :
    ∃ (s : State) (r : FmReq),
    s.quiet = true ∧
    s.fmGrants r Grp.FAULT_CLEAR everyFlacon :=
  ⟨svD, {},
    by decide +kernel, by unfold State.fmGrants; decide +kernel⟩

/-- The hypotheses of FabricManager, clause 5, hold together. -/
theorem test_FabricManager_5 :
    ∃ (s : State) (r : FmReq) (q : BitVec 8),
    s.quiet = true ∧
    s.fmGrants r Grp.READ (s.portMask q.toNat) :=
  ⟨svD, {}, 4,
    by decide +kernel, by unfold State.fmGrants; decide +kernel⟩

/-- The hypotheses of FabricManager, clause 6, hold together. -/
theorem test_FabricManager_6 :
    ∃ (s : State) (r : FmReq) (l : List (BitVec 8)),
    s.quiet = true ∧
    s.fmGrants r Grp.READ everyFlacon ∧
    (∀ q ∈ l, s.portFlacon q.toNat = none) ∧
    l ≠ [] :=
  ⟨svD, {}, [9],
    by decide +kernel, by unfold State.fmGrants; decide +kernel, by decide +kernel⟩

/-- The hypotheses of FabricManager, clause 7, hold together. -/
theorem test_FabricManager_7 :
    ∃ (s : State) (r : FmReq) (_x : BitVec 8),
    s.quiet = true ∧
    s.fmGrants r Grp.READ everyFlacon :=
  ⟨svD, {}, 12,
    by decide +kernel, by unfold State.fmGrants; decide +kernel⟩

/-- The hypotheses of FabricManager, clause 8, hold together. -/
theorem test_FabricManager_8 :
    ∃ (s : State) (r : FmReq),
    s.quiet = true ∧
    s.fmGrants r Grp.READ everyFlacon :=
  ⟨svD, {},
    by decide +kernel, by unfold State.fmGrants; decide +kernel⟩

/-- The hypotheses of FabricManager, clause 9, hold together. -/
theorem test_FabricManager_9 :
    ∃ (s : State) (c : Instr) (r : FmReq) (q : BitVec 8) (w : Bool) (b : List Byte) (a : List Byte) (o : Nat) (g : Nat) (m : Nat) (p : PortRec),
    s.quiet = true ∧
    c ∈ fmCarried r q w b a ∧
    s.fmOf c = some (r, o, g, m) ∧
    s.fmGrants r g m ∧
    s.portRec q.toNat = some p ∧
    p.fabric = false ∧
    p.role = .downstream ∧
    s.portUp q.toNat = true :=
  ⟨dl svD 4, .fmGetLdInfo {} 4 [1] [2], {}, 4, false, [1], [2], 0x5400, Grp.READ, flMask 0, pD,
    by decide +kernel, by decide +kernel, by decide +kernel, by unfold State.fmGrants; decide +kernel, by decide +kernel⟩

/-- The hypotheses of FabricManager, clause 10, hold together. -/
theorem test_FabricManager_10 :
    ∃ (s : State) (c : Instr) (r : FmReq) (q : BitVec 8) (w : Bool) (b : List Byte) (a : List Byte) (o : Nat) (g : Nat) (m : Nat),
    s.quiet = true ∧
    c ∈ fmCarried r q w b a ∧
    s.fmOf c = some (r, o, g, m) ∧
    s.fmGrants r g m ∧
    s.portRec q.toNat = none :=
  ⟨svD, .fmGetLdInfo {} 9 [1] [2], {}, 9, false, [1], [2], 0x5400, Grp.READ, everyFlacon,
    by decide +kernel, by decide +kernel, by decide +kernel, by unfold State.fmGrants; decide +kernel, by decide +kernel⟩

/-- The hypotheses of FabricManager, clause 11, hold together. -/
theorem test_FabricManager_11 :
    ∃ (s : State) (r : FmReq) (q : BitVec 8) (x : BitVec 16) (_b : List Byte) (_a : List Byte) (g : Nat) (p : PortRec),
    s.quiet = true ∧
    tunnelGroup x.toNat = some g ∧
    s.fmGrants r g (s.portMask q.toNat) ∧
    s.portRec q.toNat = some p ∧
    p.fabric = false ∧
    p.role = .downstream ∧
    s.portUp q.toNat = true :=
  ⟨dl svD 4, {}, 4, 0x5400, [1], [2], Grp.READ, pD,
    by decide +kernel, by decide +kernel, by unfold State.fmGrants; decide +kernel, by decide +kernel⟩

/-- The hypotheses of FabricManager, clause 12, hold together. -/
theorem test_FabricManager_12 :
    ∃ (s : State) (r : FmReq) (_x : BitVec 16),
    s.quiet = true ∧
    s.fmUp r = true ∧
    r.remote = false :=
  ⟨sv, {}, 7,
    by decide +kernel⟩

/-- The hypotheses of FabricManagerActs, clause 1, hold together. -/
theorem test_FabricManagerActs_1 :
    ∃ (s : State) (r : FmReq) (q : BitVec 8) (p : PortRec),
    s.fmGrants r Grp.LINK (s.portMask q.toNat) ∧
    s.portRec q.toNat = some p ∧
    p.port = q.toNat ∧
    p.port < 128 ∧
    p.fabric = false ∧
    p.role = .downstream ∧
    s.portIdle q.toNat :=
  ⟨svD, {}, 4, pD,
    by unfold State.fmGrants; decide +kernel, by decide +kernel, by decide +kernel, by decide +kernel, by decide +kernel, (by decide +kernel), portIdle_of (by decide +kernel)⟩

/-- The hypotheses of FabricManagerActs, clause 2, hold together. -/
theorem test_FabricManagerActs_2 :
    ∃ (s : State) (r : FmReq) (q : BitVec 8) (p : PortRec),
    s.quiet = true ∧
    s.fmGrants r Grp.LINK (s.portMask q.toNat) ∧
    s.portRec q.toNat = some p ∧
    p.port = q.toNat ∧
    p.port < 128 ∧
    p.fabric = false ∧
    p.role = .downstream :=
  ⟨svD, {}, 4, pD,
    by decide +kernel, by unfold State.fmGrants; decide +kernel, by decide +kernel⟩

/-- The hypotheses of FabricManagerActs, clause 3, hold together. -/
theorem test_FabricManagerActs_3 :
    ∃ (s : State) (r : FmReq) (q : BitVec 8) (p : PortRec),
    s.fmGrants r Grp.LINK (s.portMask q.toNat) ∧
    s.portRec q.toNat = some p ∧
    p.port = q.toNat ∧
    p.port < 128 ∧
    p.fabric = false ∧
    p.role = .downstream ∧
    s.portIdle q.toNat :=
  ⟨svD, {}, 4, pD,
    by unfold State.fmGrants; decide +kernel, by decide +kernel, by decide +kernel, by decide +kernel, by decide +kernel, (by decide +kernel), portIdle_of (by decide +kernel)⟩

/-- The hypotheses of FabricManagerActs, clause 4, hold together. -/
theorem test_FabricManagerActs_4 :
    ∃ (s : State) (r : FmReq) (u : BitVec 8) (v : BitVec 8) (d : BitVec 8) (l : BitVec 16) (a : PortRec) (b : PortRec) (f : Nat),
    s.fmGrants r Grp.BIND (s.portMask u.toNat ||| s.portMask d.toNat) ∧
    s.md = .serve ∧
    s.portRec u.toNat = some a ∧
    s.portRec d.toNat = some b ∧
    a.fabric = false ∧
    b.fabric = false ∧
    a.role = .upstream ∧
    b.role = .downstream ∧
    a.flacon = f ∧
    b.flacon = f ∧
    f < 32 ∧
    l.toNat < 16 ∧
    s.flaconBusy f = none ∧
    s.canAdvance f true = true ∧
    s.arrayEmpty ∧
    (∀ x ∈ s.allBindings, ¬ (x.dsp = d.toNat ∧ x.ld = l.toNat) ∧ ¬ (x.usp = u.toNat ∧ x.vppb = v.toNat)) :=
  ⟨svD, {}, 0, 1, 4, 15, pU, pD, 0,
    by unfold State.fmGrants; decide +kernel, by decide +kernel, by decide +kernel, by decide +kernel, by decide +kernel, (by decide +kernel), by decide +kernel, by decide +kernel, by decide +kernel, by decide +kernel, (by decide +kernel), by decide +kernel, by decide +kernel, by decide +kernel, by unfold State.arrayEmpty; decide +kernel, by decide +kernel⟩

/-- The hypotheses of FabricManagerActs, clause 5, hold together. -/
theorem test_FabricManagerActs_5 :
    ∃ (s : State) (r : FmReq) (u : BitVec 8) (_v : BitVec 8) (d : BitVec 8) (l : BitVec 16),
    s.quiet = true ∧
    s.fmGrants r Grp.BIND (s.portMask u.toNat ||| s.portMask d.toNat) ∧
    s.md = .serve ∧
    16 ≤ l.toNat :=
  ⟨svD, {}, 0, 1, 4, 16,
    by decide +kernel, by unfold State.fmGrants; decide +kernel, by decide +kernel⟩

/-- The hypotheses of FabricManagerActs, clause 6, hold together. -/
theorem test_FabricManagerActs_6 :
    ∃ (s : State) (r : FmReq) (u : BitVec 8) (v : BitVec 8) (b : BindingRec) (f : Nat),
    s.fmGrants r Grp.BIND (s.portMask u.toNat) ∧
    s.md = .serve ∧
    s.bindingAt u.toNat v.toNat = some (f, b) ∧
    b.usp = u.toNat ∧
    b.vppb = v.toNat ∧
    f < 32 ∧
    s.flaconBusy f = none ∧
    s.canAdvance f true = true ∧
    s.arrayEmpty :=
  ⟨live svD [bnd], {}, 0, 1, bnd, 0,
    by unfold State.fmGrants; decide +kernel, by decide +kernel, by decide +kernel, by decide +kernel, by decide +kernel, (by decide +kernel), by decide +kernel, by decide +kernel, by unfold State.arrayEmpty; decide +kernel⟩

/-- The hypotheses of FabricManagerActs, clause 7, hold together. -/
theorem test_FabricManagerActs_7 :
    ∃ (s : State) (r : FmReq) (u : BitVec 8) (v : BitVec 8),
    s.quiet = true ∧
    s.fmGrants r Grp.BIND (s.portMask u.toNat) ∧
    s.md = .serve ∧
    s.bindingAt u.toNat v.toNat = none :=
  ⟨svD, {}, 0, 1,
    by decide +kernel, by unfold State.fmGrants; decide +kernel, by decide +kernel⟩

/-- The hypotheses of FabricManagerActs, clause 8, hold together. -/
theorem test_FabricManagerActs_8 :
    ∃ (s : State) (r : FmReq) (q : BitVec 8) (f : BitVec 8) (l : List DcExtent),
    f.toNat < 32 ∧
    s.arrayEmpty ∧
    s.fmGrants r Grp.DCD (s.portMask q.toNat ||| flMask f.toNat) ∧
    s.dcRefused q.toNat f.toNat l = none ∧
    s.canAdvance f.toNat false = true :=
  ⟨dl svD 4, {}, 4, 0, [⟨0, 0x1000⟩],
    by decide +kernel, by unfold State.arrayEmpty; decide +kernel, by unfold State.fmGrants; decide +kernel, by decide +kernel⟩

/-- The hypotheses of FabricManagerActs, clause 9, hold together. -/
theorem test_FabricManagerActs_9 :
    ∃ (s : State) (r : FmReq) (q : BitVec 8) (f : BitVec 8) (l : List DcExtent),
    s.quiet = true ∧
    s.fmGrants r Grp.DCD (s.portMask q.toNat ||| flMask f.toNat) ∧
    s.dcRefused q.toNat f.toNat l = none ∧
    s.canAdvance f.toNat false = false :=
  ⟨dcb (dl svD 4), {}, 4, 0, [⟨0, 0x1000⟩],
    by decide +kernel, by unfold State.fmGrants; decide +kernel, by decide +kernel⟩

/-- The hypotheses of FabricManagerActs, clause 10, hold together. -/
theorem test_FabricManagerActs_10 :
    ∃ (s : State) (r : FmReq) (q : BitVec 8) (f : BitVec 8) (_l : List DcExtent) (p : PortRec),
    s.quiet = true ∧
    s.fmGrants r Grp.DCD (s.portMask q.toNat ||| flMask f.toNat) ∧
    s.portRec q.toNat = some p ∧
    p.fabric = false ∧
    p.role = .downstream ∧
    s.on (Reg.FL_STATUS f.toNat) Fld.FL_STATUS.FENCED = true :=
  ⟨svD.set1 (Reg.FL_STATUS 0) Fld.FL_STATUS.FENCED, {}, 4, 0, [⟨0, 0x1000⟩], pD,
    by decide +kernel, by unfold State.fmGrants; decide +kernel, by decide +kernel⟩

/-- The hypotheses of FabricManagerActs, clause 11, hold together. -/
theorem test_FabricManagerActs_11 :
    ∃ (s : State) (r : FmReq) (q : BitVec 8) (f : BitVec 8) (l : List DcExtent),
    f.toNat < 32 ∧
    s.arrayEmpty ∧
    s.fmGrants r Grp.DCD (s.portMask q.toNat ||| flMask f.toNat) ∧
    s.dcRefused q.toNat f.toNat l = none ∧
    s.canAdvance f.toNat false = true :=
  ⟨dl svD 4, {}, 4, 0, [⟨0, 0x1000⟩],
    by decide +kernel, by unfold State.arrayEmpty; decide +kernel, by unfold State.fmGrants; decide +kernel, by decide +kernel⟩

/-- The hypotheses of FabricManagerActs, clause 12, hold together. -/
theorem test_FabricManagerActs_12 :
    ∃ (s : State) (_q : PortIx) (_l : List DcExtent),
    s.quiet = true ∧
    s.md.clocked = true :=
  ⟨svD, 4, [⟨0, 0x1000⟩],
    by decide +kernel⟩

/-- The hypotheses of SlotMachine, clause 1, hold together. -/
theorem test_SlotMachine_1 :
    ∃ (s : State) (n : SlotIx) (p : PortRec),
    s.quiet = true ∧
    s.slotMachine n.val = some p ∧
    p.port < 128 ∧
    s.md.slots = true ∧
    p.hotplug = true ∧
    s.hpState p.port = Hp.EMPTY ∧
    tabFind s.hpRestart n.val = none ∧
    s.on (Reg.SPC_CFG p.slot) Fld.SPC_CFG.AUTO_ON = false ∧
    p.slot = n.val :=
  ⟨sv, 0, pH,
    by decide +kernel⟩

/-- The hypotheses of SlotMachine, clause 2, hold together. -/
theorem test_SlotMachine_2 :
    ∃ (s : State) (n : SlotIx) (p : PortRec),
    s.quiet = true ∧
    s.slotMachine n.val = some p ∧
    p.port < 128 ∧
    s.md.slots = true ∧
    p.hotplug = true ∧
    s.hpState p.port = Hp.PRESENT :=
  ⟨hp sv 1, 0, pH,
    by decide +kernel⟩

/-- The hypotheses of SlotMachine, clause 3, hold together. -/
theorem test_SlotMachine_3 :
    ∃ (s : State) (n : SlotIx) (p : PortRec),
    s.slotMachine n.val = some p ∧
    p.port < 128 ∧
    s.md.slots = true ∧
    p.hotplug = true ∧
    p.fabric = false ∧
    s.hpState p.port = Hp.ACTIVE ∧
    s.portIdle p.port :=
  ⟨hp sv 6, 0, pH,
    by decide +kernel, by decide +kernel, by decide +kernel, by decide +kernel, (by decide +kernel), by decide +kernel, portIdle_of (by decide +kernel)⟩

/-- The hypotheses of SlotMachine, clause 4, hold together. -/
theorem test_SlotMachine_4 :
    ∃ (s : State) (n : SlotIx) (p : PortRec),
    s.quiet = true ∧
    s.slotMachine n.val = some p ∧
    p.port < 128 :=
  ⟨hp sv 6, 0, pH,
    by decide +kernel⟩

/-- The hypotheses of SlotMachine, clause 5, hold together. -/
theorem test_SlotMachine_5 :
    ∃ (s : State) (n : SlotIx) (p : PortRec),
    s.quiet = true ∧
    s.slotMachine n.val = some p ∧
    p.port < 128 ∧
    s.md.slots = true ∧
    s.hpState p.port = Hp.POWERING ∧
    s.ch n.val = Ch.ON :=
  ⟨hp (chn sv 4) 2, 0, pH,
    by decide +kernel⟩

/-- The hypotheses of SlotMachine, clause 6, hold together. -/
theorem test_SlotMachine_6 :
    ∃ (s : State) (n : SlotIx) (p : PortRec),
    s.quiet = true ∧
    s.slotMachine n.val = some p ∧
    p.port < 128 ∧
    s.md.slots = true ∧
    s.hpState p.port = Hp.POWERED ∧
    s.ch n.val = Ch.OFF ∧
    s.on (Reg.PT_STD_STATUS p.port) Fld.PT_STD_STATUS.DL_UP = false :=
  ⟨hp (chn sv 0) 3, 0, pH,
    by decide +kernel⟩

/-- The hypotheses of SlotMachine, clause 7, hold together. -/
theorem test_SlotMachine_7 :
    ∃ (s : State) (n : SlotIx) (p : PortRec),
    s.quiet = true ∧
    s.slotMachine n.val = some p ∧
    p.port < 128 ∧
    s.md.slots = true ∧
    s.hpState p.port = Hp.POWERED ∧
    s.ch n.val = Ch.ON :=
  ⟨hp (chn sv 4) 3, 0, pH,
    by decide +kernel⟩

/-- The hypotheses of SlotMachine, clause 8, hold together. -/
theorem test_SlotMachine_8 :
    ∃ (s : State) (n : SlotIx) (p : PortRec) (l : List (Nat × Nat)),
    s.quiet = true ∧
    s.slotMachine n.val = some p ∧
    p.port < 128 ∧
    s.md.slots = true ∧
    s.hpState p.port = Hp.ENUM ∧
    s.enumOk p l = true :=
  ⟨hp svA 5, 0, pH, [(0xFF, 0x10000000)],
    by decide +kernel⟩

/-- The hypotheses of SlotMachine, clause 9, hold together. -/
theorem test_SlotMachine_9 :
    ∃ (s : State) (n : SlotIx) (p : PortRec) (l : List (Nat × Nat)),
    s.slotMachine n.val = some p ∧
    p.port < 128 ∧
    s.md.slots = true ∧
    s.hpState p.port = Hp.ENUM ∧
    s.enumOk p l = false ∧
    s.on (Reg.PT_STD_STATUS p.port) Fld.PT_STD_STATUS.LINGER = false :=
  ⟨hp svA 5, 0, pH, [],
    by decide +kernel⟩

/-- The hypotheses of SlotMachine, clause 10, hold together. -/
theorem test_SlotMachine_10 :
    ∃ (s : State) (n : SlotIx) (p : PortRec),
    s.quiet = true ∧
    s.slotMachine n.val = some p ∧
    p.port < 128 ∧
    s.md.slots = true ∧
    s.hpState p.port = Hp.OFFING :=
  ⟨hp sv 7, 0, pH,
    by decide +kernel⟩

/-- The hypotheses of SlotMachine, clause 11, hold together. -/
theorem test_SlotMachine_11 :
    ∃ (s : State) (n : SlotIx) (p : PortRec),
    s.quiet = true ∧
    s.slotMachine n.val = some p ∧
    p.port < 128 ∧
    s.md.slots = true ∧
    s.hpState p.port = Hp.OFFING ∧
    s.arrayEmpty :=
  ⟨hp sv 7, 0, pH,
    by decide +kernel, by decide +kernel, by decide +kernel, by decide +kernel, (by decide +kernel), by unfold State.arrayEmpty; decide +kernel⟩

/-- The hypotheses of SlotMachine, clause 12, hold together. -/
theorem test_SlotMachine_12 :
    ∃ (s : State) (n : SlotIx) (p : PortRec),
    s.slotMachine n.val = some p ∧
    p.port < 128 ∧
    s.md.slots = true ∧
    s.hpState p.port = Hp.OFFING ∧
    s.on (Reg.PT_HP_STATUS p.port) Fld.PT_HP_STATUS.PERST = true ∧
    s.on (Reg.PT_STD_STATUS p.port) Fld.PT_STD_STATUS.DL_UP = false ∧
    s.on (Reg.PT_STD_STATUS p.port) Fld.PT_STD_STATUS.LINGER = false ∧
    s.ch n.val = Ch.ON :=
  ⟨(hp (chn sv 4) 7).set1 (Reg.PT_HP_STATUS 2) Fld.PT_HP_STATUS.PERST, 0, pH,
    by decide +kernel⟩

/-- The hypotheses of VirtualSlots, clause 1, hold together. -/
theorem test_VirtualSlots_1 :
    ∃ (s : State) (_q : PortIx) (_v : Fin 256) (_w : BitVec 16),
    s.quiet = true ∧
    s.md.clocked = true :=
  ⟨svA, 0, 1, 5,
    by decide +kernel⟩

/-- The hypotheses of VirtualSlots, clause 2, hold together. -/
theorem test_VirtualSlots_2 :
    ∃ (s : State) (q : PortIx) (v : Fin 256),
    s.quiet = true ∧
    s.md.clocked = true ∧
    (s.vppbSt q.val v.val).cmdPending = true :=
  ⟨{ svA with vppb := [(1, { cmdPending := true })] }, 0, 1,
    by decide +kernel⟩

/-- The hypotheses of VirtualSlots, clause 3, hold together. -/
theorem test_VirtualSlots_3 :
    ∃ (s : State) (q : PortIx) (v : Fin 256) (_b : Bool),
    s.quiet = true ∧
    s.md.clocked = true ∧
    s.bindingAt q.val v.val = none :=
  ⟨sv, 0, 1, true,
    by decide +kernel⟩

/-- The hypotheses of VirtualSlots, clause 4, hold together. -/
theorem test_VirtualSlots_4 :
    ∃ (s : State) (q : PortIx) (v : Fin 256) (f : Nat) (b : BindingRec) (p : PortRec),
    s.quiet = true ∧
    s.md.clocked = true ∧
    s.bindingAt q.val v.val = some (f, b) ∧
    s.portRec b.dsp = some p ∧
    p.port = b.dsp ∧
    p.port < 128 ∧
    p.hotplug = true ∧
    s.md.slots = true ∧
    s.portInUse p.port = false ∧
    s.hpState p.port ∈ [Hp.POWERING, Hp.POWERED, Hp.LINKING, Hp.ENUM, Hp.ACTIVE] ∧
    (s.vppbSt q.val v.val).unbind = none :=
  ⟨hp svA 6, 0, 1, 0, bnd, pH,
    by decide +kernel⟩

/-- The hypotheses of VirtualSlots, clause 5, hold together. -/
theorem test_VirtualSlots_5 :
    ∃ (s : State) (q : PortIx) (v : Fin 256),
    s.quiet = true ∧
    s.md.clocked = true ∧
    s.bindingAt q.val v.val = none :=
  ⟨sv, 0, 1,
    by decide +kernel⟩

/-- The hypotheses of VirtualSlots, clause 6, hold together. -/
theorem test_VirtualSlots_6 :
    ∃ (s : State) (q : PortIx) (v : Fin 256) (f : Nat) (b : BindingRec),
    s.md.clocked = true ∧
    s.bindingAt q.val v.val = some (f, b) ∧
    b.usp = q.val ∧
    b.vppb = v.val ∧
    f < 32 ∧
    (s.vppbSt q.val v.val).unbind = some 0 ∧
    s.canAdvance f true = true ∧
    s.arrayEmpty :=
  ⟨{ svA with vppb := [(1, { unbind := some 0 })] }, 0, 1, 0, bnd,
    by decide +kernel, by decide +kernel, by decide +kernel, by decide +kernel, (by decide +kernel), by decide +kernel, by decide +kernel, by unfold State.arrayEmpty; decide +kernel⟩

/-- The hypotheses of VirtualSlots, clause 7, hold together. -/
theorem test_VirtualSlots_7 :
    ∃ (s : State) (q : PortIx) (v : Fin 256) (f : Nat) (b : BindingRec),
    s.md.clocked = true ∧
    s.bindingAt q.val v.val = some (f, b) ∧
    b.usp = q.val ∧
    b.vppb = v.val ∧
    f < 32 ∧
    (s.vppbSt q.val v.val).unbind = some 1 ∧
    (s.vppbSt q.val v.val).offWritten = true ∧
    s.canAdvance f true = true ∧
    s.arrayEmpty :=
  ⟨{ svA with vppb := [(1, { unbind := some 1, offWritten := true })] }, 0, 1, 0, bnd,
    by decide +kernel, by decide +kernel, by decide +kernel, by decide +kernel, (by decide +kernel), by decide +kernel, by decide +kernel, by decide +kernel, by unfold State.arrayEmpty; decide +kernel⟩

/-- The hypotheses of SlotCommands, clause 1, hold together. -/
theorem test_SlotCommands_1 :
    ∃ (s : State) (r : MgmtReq) (n : BitVec 8) (p : PortRec),
    n.toNat < 32 ∧
    s.takes r (.powerOn n) ∧
    s.slotMachine n.toNat = some p ∧
    p.slot = n.toNat ∧
    p.port < 128 ∧
    p.hotplug = true ∧
    s.md.slots = true ∧
    s.md ≠ .quarantine ∧
    s.hpState p.port = Hp.PRESENT ∧
    s.on (Reg.SPC_CFG n.toNat) Fld.SPC_CFG.VALID = true ∧
    s.ch n.toNat = Ch.DOWN :=
  ⟨hp (chn (sv.set1 (Reg.SPC_CFG 0) Fld.SPC_CFG.VALID) 7) 1, {}, 0, pH,
    by decide +kernel, by unfold State.takes; decide +kernel, by decide +kernel⟩

/-- The hypotheses of SlotCommands, clause 2, hold together. -/
theorem test_SlotCommands_2 :
    ∃ (s : State) (r : MgmtReq) (n : BitVec 8) (p : PortRec),
    s.quiet = true ∧
    n.toNat < 32 ∧
    s.takes r (.powerOn n) ∧
    s.slotMachine n.toNat = some p ∧
    p.slot = n.toNat ∧
    p.port < 128 ∧
    p.hotplug = true ∧
    s.md.slots = true ∧
    s.md ≠ .quarantine ∧
    s.hpState p.port = Hp.EMPTY :=
  ⟨sv, {}, 0, pH,
    by decide +kernel, by decide +kernel, by unfold State.takes; decide +kernel, by decide +kernel⟩

/-- The hypotheses of SlotCommands, clause 3, hold together. -/
theorem test_SlotCommands_3 :
    ∃ (s : State) (r : MgmtReq) (n : BitVec 8) (p : PortRec),
    s.quiet = true ∧
    n.toNat < 32 ∧
    s.takes r (.powerOff n) ∧
    s.slotMachine n.toNat = some p ∧
    p.port < 128 ∧
    p.hotplug = true ∧
    s.md.slots = true ∧
    s.hpState p.port = Hp.ACTIVE ∧
    s.portInUse p.port = false :=
  ⟨hp sv 6, {}, 0, pH,
    by decide +kernel, by decide +kernel, by unfold State.takes; decide +kernel, by decide +kernel⟩

/-- The hypotheses of SlotCommands, clause 4, hold together. -/
theorem test_SlotCommands_4 :
    ∃ (s : State) (r : MgmtReq) (n : BitVec 8) (p : PortRec),
    s.quiet = true ∧
    n.toNat < 32 ∧
    s.takes r (.powerOff n) ∧
    s.slotMachine n.toNat = some p ∧
    p.port < 128 ∧
    p.hotplug = true ∧
    s.md.slots = true ∧
    s.hpState p.port = Hp.ACTIVE ∧
    s.portInUse p.port = true :=
  ⟨hp used 6, {}, 0, pH,
    by decide +kernel, by decide +kernel, by unfold State.takes; decide +kernel, by decide +kernel⟩

/-- The hypotheses of SlotCommands, clause 5, hold together. -/
theorem test_SlotCommands_5 :
    ∃ (s : State) (r : MgmtReq) (n : BitVec 8) (p : PortRec),
    n.toNat < 32 ∧
    s.takes r (.slotFaultClear n) ∧
    s.slotMachine n.toNat = some p ∧
    p.slot = n.toNat ∧
    p.port < 128 ∧
    p.hotplug = true ∧
    s.md.slots = true ∧
    s.hpState p.port = Hp.FAULT ∧
    s.ch n.toNat = Ch.LATCHED ∧
    s.on (Reg.PT_STD_STATUS p.port) Fld.PT_STD_STATUS.DL_UP = false ∧
    s.on (Reg.PT_HP_STATUS p.port) Fld.PT_HP_STATUS.PRSNT = false :=
  ⟨hp (chn sv 6) 8, {}, 0, pH,
    by decide +kernel, by unfold State.takes; decide +kernel, by decide +kernel⟩

/-- The hypotheses of SlotCommands, clause 6, hold together. -/
theorem test_SlotCommands_6 :
    ∃ (s : State) (r : MgmtReq) (n : BitVec 8) (x : BitVec 16) (p : PortRec),
    s.quiet = true ∧
    n.toNat < 32 ∧
    s.takes r (.setLimit n x) ∧
    s.slotMachine n.toNat = some p ∧
    p.hotplug = true ∧
    s.limitOk n.toNat x.toNat = true :=
  ⟨(sv.wr (Reg.SPC_CFG 0) Fld.SPC_CFG.LIMIT_MAX_MA 3000).wr (Reg.SPC_CFG2 0) Fld.SPC_CFG2.SHUNT_UOHM 1000, {}, 0, 2000, pH,
    by decide +kernel, by decide +kernel, by unfold State.takes; decide +kernel, by decide +kernel⟩

/-- The hypotheses of SlotCommands, clause 7, hold together. -/
theorem test_SlotCommands_7 :
    ∃ (s : State) (r : MgmtReq) (n : BitVec 8) (x : BitVec 16) (p : PortRec),
    s.quiet = true ∧
    n.toNat < 32 ∧
    s.takes r (.setLimit n x) ∧
    s.slotMachine n.toNat = some p ∧
    p.hotplug = true ∧
    s.limitOk n.toNat x.toNat = false :=
  ⟨sv, {}, 0, 1, pH,
    by decide +kernel, by decide +kernel, by unfold State.takes; decide +kernel, by decide +kernel⟩

/-- The hypotheses of SlotCommands, clause 8, hold together. -/
theorem test_SlotCommands_8 :
    ∃ (s : State) (r : MgmtReq) (f : BitVec 8) (u : BitVec 8) (d : BitVec 8) (l : BitVec 8) (v : BitVec 8) (a : PortRec) (b : PortRec),
    s.takes r (.bind f u d l v) ∧
    s.md = .serve ∧
    f.toNat < 32 ∧
    u.toNat < 128 ∧
    d.toNat < 128 ∧
    s.portRec u.toNat = some a ∧
    s.portRec d.toNat = some b ∧
    a.fabric = false ∧
    b.fabric = false ∧
    a.role = .upstream ∧
    b.role = .downstream ∧
    a.flacon = f.toNat ∧
    b.flacon = f.toNat ∧
    l.toNat < 16 ∧
    s.flaconBusy f.toNat = none ∧
    s.canAdvance f.toNat true = true ∧
    s.arrayEmpty ∧
    (∀ x ∈ s.allBindings, ¬ (x.dsp = d.toNat ∧ x.ld = l.toNat) ∧ ¬ (x.usp = u.toNat ∧ x.vppb = v.toNat)) :=
  ⟨live sv [], {}, 0, 0, 4, 15, 1, pU, pD,
    by unfold State.takes; decide +kernel, by decide +kernel, by decide +kernel, by decide +kernel, by decide +kernel, (by decide +kernel), by decide +kernel, by decide +kernel, by decide +kernel, by decide +kernel, (by decide +kernel), by decide +kernel, by decide +kernel, by decide +kernel, by decide +kernel, (by decide +kernel), by unfold State.arrayEmpty; decide +kernel, by decide +kernel⟩

/-- The hypotheses of SlotCommands, clause 9, hold together. -/
theorem test_SlotCommands_9 :
    ∃ (s : State) (r : MgmtReq) (f : BitVec 8) (u : BitVec 8) (d : BitVec 8) (l : BitVec 8) (v : BitVec 8),
    s.quiet = true ∧
    s.takes r (.bind f u d l v) ∧
    s.md = .serve ∧
    u.toNat < 128 ∧
    d.toNat < 128 ∧
    16 ≤ l.toNat :=
  ⟨live sv [], {}, 0, 0, 4, 16, 1,
    by decide +kernel, by unfold State.takes; decide +kernel, by decide +kernel⟩

/-- The hypotheses of SlotCommands, clause 10, hold together. -/
theorem test_SlotCommands_10 :
    ∃ (s : State) (r : MgmtReq) (u : BitVec 8) (v : BitVec 8) (f : Nat) (b : BindingRec),
    s.takes r (.unbind u v 2) ∧
    s.md = .serve ∧
    u.toNat < 128 ∧
    s.bindingAt u.toNat v.toNat = some (f, b) ∧
    b.usp = u.toNat ∧
    b.vppb = v.toNat ∧
    f < 32 ∧
    s.flaconBusy f = none ∧
    s.canAdvance f true = true ∧
    s.arrayEmpty :=
  ⟨svA, {}, 0, 1, 0, bnd,
    by unfold State.takes; decide +kernel, by decide +kernel, by decide +kernel, by decide +kernel, by decide +kernel, (by decide +kernel), by decide +kernel, by decide +kernel, by decide +kernel, by unfold State.arrayEmpty; decide +kernel⟩

/-- The hypotheses of SlotCommands, clause 11, hold together. -/
theorem test_SlotCommands_11 :
    ∃ (s : State) (r : MgmtReq) (u : BitVec 8) (v : BitVec 8) (f : Nat) (b : BindingRec),
    s.quiet = true ∧
    s.takes r (.unbind u v 1) ∧
    s.md = .serve ∧
    u.toNat < 128 ∧
    s.bindingAt u.toNat v.toNat = some (f, b) ∧
    s.flaconBusy f = none :=
  ⟨svA, {}, 0, 1, 0, bnd,
    by decide +kernel, by unfold State.takes; decide +kernel, by decide +kernel⟩

/-- The hypotheses of SlotCommands, clause 12, hold together. -/
theorem test_SlotCommands_12 :
    ∃ (s : State) (r : MgmtReq) (u : BitVec 8) (v : BitVec 8) (f : Nat) (b : BindingRec),
    s.quiet = true ∧
    s.takes r (.unbind u v 0) ∧
    s.md = .serve ∧
    u.toNat < 128 ∧
    s.bindingAt u.toNat v.toNat = some (f, b) ∧
    s.flaconBusy f = none ∧
    (s.vppbSt u.toNat v.toNat).linkDisable = false ∧
    s.portUp b.dsp = true ∧
    s.hpState b.dsp ≠ Hp.OFFING :=
  ⟨upAll, {}, 0, 1, 0, bnd,
    by decide +kernel, by unfold State.takes; decide +kernel, by decide +kernel⟩

/-- The hypotheses of SlotCommands, clause 13, hold together. -/
theorem test_SlotCommands_13 :
    ∃ (s : State) (c : Instr) (r : MgmtReq) (u : BitVec 8) (v : BitVec 8) (o : BitVec 8),
    s.quiet = true ∧
    s.takes r (.unbind u v o) ∧
    (c, o) ∈ [(Instr.unbindWaitLinkDown r u v, 0), (.unbindManaged r u v, 1), (.unbindSurprise r u v, 2)] ∧
    s.md = .serve ∧
    u.toNat < 128 ∧
    s.bindingAt u.toNat v.toNat = none :=
  ⟨sv, .unbindWaitLinkDown {} 0 1, {}, 0, 1, 0,
    by decide +kernel, by unfold State.takes; decide +kernel, by decide +kernel⟩

/-- The hypotheses of DecantJobs, clause 1, hold together. -/
theorem test_DecantJobs_1 :
    ∃ (s : State) (r : MgmtReq) (a : BitVec 16) (b : BitVec 16) (x : BitVec 32) (f : Nat) (g : Nat) (j : Nat) (d : DecoderRec) (e : DecoderRec),
    s.quiet = true ∧
    s.takes r (.decantStart a b x) ∧
    s.decoderFlacon a.toNat = some f ∧
    s.decoder f a.toNat = some d ∧
    s.decoderAt b.toNat = some (g, e) ∧
    s.decantCode f g a.toNat b.toNat x.toNat d e = St.OK ∧
    s.freeJob = some j ∧
    j < 8 ∧
    (∀ i < 256, s.copyBarred { src := a.toNat, tgt := b.toNat, flacon := f, rate := x.toNat, total := d.size / 4096 } 8 i = none) :=
  ⟨dcA, {}, 0, 1, 100, 0, 0, 0, decX, decY,
    by decide +kernel, by unfold State.takes; decide +kernel, by decide +kernel⟩

/-- The hypotheses of DecantJobs, clause 2, hold together. -/
theorem test_DecantJobs_2 :
    ∃ (s : State) (r : MgmtReq) (a : BitVec 16) (b : BitVec 16) (x : BitVec 32) (f : Nat) (g : Nat) (d : DecoderRec) (e : DecoderRec),
    s.quiet = true ∧
    s.takes r (.decantStart a b x) ∧
    s.decoderFlacon a.toNat = some f ∧
    s.decoder f a.toNat = some d ∧
    s.decoderAt b.toNat = some (g, e) ∧
    s.decantCode f g a.toNat b.toNat x.toNat d e ≠ St.OK :=
  ⟨dcA, {}, 0, 1, 99, 0, 0, decX, decY,
    by decide +kernel, by unfold State.takes; decide +kernel, by decide +kernel⟩

/-- The hypotheses of DecantJobs, clause 3, hold together. -/
theorem test_DecantJobs_3 :
    ∃ (s : State) (r : MgmtReq) (j : BitVec 8) (k : DecantJob),
    s.quiet = true ∧
    s.takes r (.decantCancel j) ∧
    j.toNat < 8 ∧
    s.job j.toNat = some k ∧
    k.running = true ∧
    k.st ≠ 2 ∧
    k.flight = [] :=
  ⟨dcJ jb, {}, 0, jb,
    by decide +kernel, by unfold State.takes; decide +kernel, by decide +kernel⟩

/-- The hypotheses of DecantJobs, clause 4, hold together. -/
theorem test_DecantJobs_4 :
    ∃ (s : State) (r : MgmtReq) (j : BitVec 8),
    s.quiet = true ∧
    s.takes r (.decantCancel j) ∧
    (∀ k, s.job j.toNat = some k → k.running = false) :=
  ⟨dcA, {}, 0,
    by decide +kernel, by unfold State.takes; decide +kernel, of_all (by decide +kernel)⟩

/-- The hypotheses of DecantJobs, clause 5, hold together. -/
theorem test_DecantJobs_5 :
    ∃ (s : State) (r : MgmtReq) (j : BitVec 8) (x : BitVec 32) (k : DecantJob),
    s.quiet = true ∧
    s.takes r (.decantRate j x) ∧
    j.toNat < 8 ∧
    s.job j.toNat = some k ∧
    k.running = true ∧
    100 ≤ x.toNat ∧
    x.toNat ≤ 50000 :=
  ⟨dcJ jb, {}, 0, 200, jb,
    by decide +kernel, by unfold State.takes; decide +kernel, by decide +kernel⟩

/-- The hypotheses of DecantJobs, clause 6, hold together. -/
theorem test_DecantJobs_6 :
    ∃ (s : State) (j : JobIx) (c : Nat) (_b : Bool) (k : DecantJob) (e : Chunk),
    s.quiet = true ∧
    s.md.clocked = true ∧
    s.job j.val = some k ∧
    k.st = 1 ∧
    tabFind k.flight c = some e ∧
    e.writing = false ∧
    s.copyBarred k 9 c = none :=
  ⟨dcJ { jb with flight := [(3, {})] }, 0, 3, true, { jb with flight := [(3, {})] }, {},
    by decide +kernel⟩

/-- The hypotheses of DecantJobs, clause 7, hold together. -/
theorem test_DecantJobs_7 :
    ∃ (s : State) (j : JobIx) (c : Nat) (_b : Bool) (k : DecantJob) (e : Chunk),
    s.md.clocked = true ∧
    s.job j.val = some k ∧
    k.st = 1 ∧
    k.flacon < 32 ∧
    tabFind k.flight c = some e ∧
    e.writing = false :=
  ⟨dcJ { jb with flight := [(3, {})] }, 0, 3, true, { jb with flight := [(3, {})] }, {},
    by decide +kernel⟩

/-- The hypotheses of DecantJobs, clause 8, hold together. -/
theorem test_DecantJobs_8 :
    ∃ (s : State) (j : JobIx) (c : Nat) (_b : Bool) (k : DecantJob) (e : Chunk),
    s.md.clocked = true ∧
    s.job j.val = some k ∧
    k.st = 1 ∧
    k.flacon < 32 ∧
    tabFind k.flight c = some e ∧
    e.writing = false ∧
    s.copyBarred k 9 c ≠ none :=
  ⟨norg (dcJ { jb with flight := [(3, {})] }), 0, 3, true, { jb with flight := [(3, {})] }, {},
    by decide +kernel⟩

/-- The hypotheses of DecantJobs, clause 9, hold together. -/
theorem test_DecantJobs_9 :
    ∃ (s : State) (j : JobIx) (c : Nat) (k : DecantJob) (e : Chunk),
    s.quiet = true ∧
    s.md.clocked = true ∧
    s.job j.val = some k ∧
    k.st = 1 ∧
    tabFind k.flight c = some e ∧
    e.writing = true ∧
    e.dirty = true ∧
    s.copyBarred k 8 c = none :=
  ⟨dcJ { jb with flight := [(3, { writing := true, dirty := true })] }, 0, 3, { jb with flight := [(3, { writing := true, dirty := true })] }, { writing := true, dirty := true },
    by decide +kernel⟩

/-- The hypotheses of DecantJobs, clause 10, hold together. -/
theorem test_DecantJobs_10 :
    ∃ (s : State) (j : JobIx) (c : Nat) (k : DecantJob) (e : Chunk),
    s.quiet = true ∧
    s.md.clocked = true ∧
    s.job j.val = some k ∧
    k.st = 1 ∧
    k.next = k.total ∧
    k.flight = [(c, e)] ∧
    e.writing = true ∧
    e.dirty = false :=
  ⟨dcJ { jb with next := 8, flight := [(3, { writing := true })] }, 0, 3, { jb with next := 8, flight := [(3, { writing := true })] }, { writing := true },
    by decide +kernel⟩

/-- The hypotheses of DecantJobs, clause 11, hold together. -/
theorem test_DecantJobs_11 :
    ∃ (s : State) (c : Instr) (j : JobIx) (k : DecantJob),
    s.md.clocked = true ∧
    (c = .decantFlip j ∨ c = .decantFlipRetry j ∧ k.retry = true) ∧
    s.job j.val = some k ∧
    k.st = 1 ∧
    k.next = k.total ∧
    k.flight = [] ∧
    k.flacon < 32 ∧
    s.canAdvance k.flacon true = true ∧
    s.arrayEmpty ∧
    (∃ d, s.decoder k.flacon k.src = some d ∧ d.shared = false) :=
  ⟨dcJ { jb with next := 8 }, .decantFlip 0, 0, { jb with next := 8 },
    by decide +kernel, by decide +kernel, by decide +kernel, by decide +kernel, (by decide +kernel), by decide +kernel, by decide +kernel, by decide +kernel, by unfold State.arrayEmpty; decide +kernel, by decide +kernel⟩

/-- The hypotheses of DecantJobs, clause 12, hold together. -/
theorem test_DecantJobs_12 :
    ∃ (s : State) (j : JobIx) (k : DecantJob),
    s.quiet = true ∧
    s.md.clocked = true ∧
    s.job j.val = some k ∧
    k.st = 2 ∧
    s.drainedTo k.flacon k.flipEpoch = true :=
  ⟨dcJ { jb with st := 2 }, 0, { jb with st := 2 },
    by decide +kernel⟩

/-- The hypotheses of DecantJobs, clause 13, hold together. -/
theorem test_DecantJobs_13 :
    ∃ (s : State) (j : JobIx) (k : DecantJob),
    s.quiet = true ∧
    s.md.clocked = true ∧
    s.job j.val = some k ∧
    k.st = 2 ∧
    k.tries < 2 :=
  ⟨dcJ { jb with st := 2 }, 0, { jb with st := 2 },
    by decide +kernel⟩

/-- The hypotheses of DecantJobs, clause 14, hold together. -/
theorem test_DecantJobs_14 :
    ∃ (s : State) (j : JobIx) (k : DecantJob),
    s.md.clocked = true ∧
    s.job j.val = some k ∧
    k.st = 2 ∧
    k.tries = 2 ∧
    k.flacon < 32 :=
  ⟨dcJ { jb with st := 2, tries := 2 }, 0, { jb with st := 2, tries := 2 },
    by decide +kernel⟩

/-- The hypotheses of RailsAndFeeds, clause 1, hold together. -/
theorem test_RailsAndFeeds_1 :
    ∃ (s : State) (_r : Fin 6),
    s.md ∈ [Mode.boot, .compose, .serve, .recompose, .revive, .quarantine, .linktest] :=
  ⟨sv, 3,
    by decide +kernel⟩

/-- The hypotheses of RailsAndFeeds, clause 2, hold together. -/
theorem test_RailsAndFeeds_2 :
    ∃ (s : State) (_m : BusMeas),
    s.companionOn = true :=
  ⟨sv, {},
    by decide +kernel⟩

/-- The hypotheses of RailsAndFeeds, clause 3, hold together. -/
theorem test_RailsAndFeeds_3 :
    ∃ (s : State) (_f : FeedIx) (_m : BusMeas),
    s.companionOn = true :=
  ⟨sv, 1, {},
    by decide +kernel⟩

/-- The hypotheses of RailsAndFeeds, clause 4, hold together. -/
theorem test_RailsAndFeeds_4 :
    ∃ (s : State) (_f : FeedIx) (_m : BusMeas),
    s.quiet = true ∧
    s.companionOn = true :=
  ⟨sv, 1, {},
    by decide +kernel⟩

/-- The hypotheses of RailsAndFeeds, clause 5, hold together. -/
theorem test_RailsAndFeeds_5 :
    ∃ (s : State) (f : FeedIx) (_m : BusMeas),
    s.companionOn = true ∧
    s.on Reg.PC_FEED (feedPresent f) = true ∧
    s.md.serving = true :=
  ⟨sv.set1 Reg.PC_FEED (feedPresent 1), 1, {},
    by decide +kernel⟩

/-- The hypotheses of RailsAndFeeds, clause 6, hold together. -/
theorem test_RailsAndFeeds_6 :
    ∃ (s : State) (f : FeedIx) (_m : BusMeas),
    s.quiet = true ∧
    s.companionOn = true ∧
    s.md.serving = false ∧
    s.on Reg.PC_FEED (feedPresent f) = true :=
  ⟨bt.set1 Reg.PC_FEED (feedPresent 1), 1, {},
    by decide +kernel⟩

/-- The hypotheses of RailsAndFeeds, clause 7, hold together. -/
theorem test_RailsAndFeeds_7 :
    ∃ (s : State) (f : FeedIx) (_m : BusMeas),
    s.companionOn = true ∧
    s.on Reg.PC_FEED (feedConduct f) = true :=
  ⟨sv.set1 Reg.PC_FEED (feedConduct 1), 1, {},
    by decide +kernel⟩

/-- The hypotheses of RailsAndFeeds, clause 8, hold together. -/
theorem test_RailsAndFeeds_8 :
    ∃ (s : State) (f : FeedIx) (_m : BusMeas),
    s.quiet = true ∧
    s.companionOn = true ∧
    s.on Reg.PC_FEED (feedPresent f) = true ∧
    s.on Reg.PC_FEED Fld.PC_FEED.PUMP_OK = true :=
  ⟨(sv.set1 Reg.PC_FEED (feedPresent 1)).set1 Reg.PC_FEED Fld.PC_FEED.PUMP_OK, 1, {},
    by decide +kernel⟩

/-- The hypotheses of RailsAndFeeds, clause 9, hold together. -/
theorem test_RailsAndFeeds_9 :
    ∃ (s : State) (_m : BusMeas),
    s.quiet = true ∧
    s.companionOn = true ∧
    (∀ n, (tabGet s.pwr.ch n {}).onRequested = false) :=
  ⟨sv, {},
    by decide +kernel, by decide +kernel, fun _ => rfl⟩

/-- The hypotheses of RailsAndFeeds, clause 10, hold together. -/
theorem test_RailsAndFeeds_10 :
    ∃ (s : State) (_m : BusMeas),
    s.quiet = true ∧
    s.companionOn = true ∧
    (∀ n < 32, s.ch n = Ch.OFF) :=
  ⟨sv, {},
    by decide +kernel⟩

/-- The hypotheses of BusSupervision, clause 1, hold together. -/
theorem test_BusSupervision_1 :
    ∃ (s : State) (_m : BusMeas),
    s.companionOn = true ∧
    s.on Reg.PC_SUPV_STATUS Fld.PC_SUPV_STATUS.WARN = false ∧
    s.rd Reg.PC_SUPV Fld.PC_SUPV.RIDE_US ≠ 0 :=
  ⟨ride sv 500, {},
    by decide +kernel⟩

/-- The hypotheses of BusSupervision, clause 2, hold together. -/
theorem test_BusSupervision_2 :
    ∃ (s : State) (_m : BusMeas),
    s.md.serving = true ∧
    s.companionOn = true ∧
    s.on Reg.PC_SUPV_STATUS Fld.PC_SUPV_STATUS.WARN = false ∧
    s.rd Reg.PC_SUPV Fld.PC_SUPV.RIDE_US = 0 :=
  ⟨ride sv 0, {},
    by decide +kernel⟩

/-- The hypotheses of BusSupervision, clause 3, hold together. -/
theorem test_BusSupervision_3 :
    ∃ (s : State),
    s.md.serving = true ∧
    s.on Reg.PC_SUPV_STATUS Fld.PC_SUPV_STATUS.WARN = true ∧
    s.on Reg.PC_SUPV_STATUS Fld.PC_SUPV_STATUS.RIDING = true :=
  ⟨ws (ws sv Fld.PC_SUPV_STATUS.WARN) Fld.PC_SUPV_STATUS.RIDING,
    by decide +kernel⟩

/-- The hypotheses of BusSupervision, clause 4, hold together. -/
theorem test_BusSupervision_4 :
    ∃ (s : State),
    s.md ∈ [Mode.boot, .compose, .revive, .linktest, .frozen] ∧
    s.on Reg.PC_SUPV_STATUS Fld.PC_SUPV_STATUS.RIDING = true :=
  ⟨ws (ws bt Fld.PC_SUPV_STATUS.WARN) Fld.PC_SUPV_STATUS.RIDING,
    by decide +kernel⟩

/-- The hypotheses of BusSupervision, clause 5, hold together. -/
theorem test_BusSupervision_5 :
    ∃ (s : State) (_m : BusMeas) (_a : Nat) (_b : Nat),
    s.companionOn = true ∧
    s.on Reg.PC_SUPV_STATUS Fld.PC_SUPV_STATUS.WARN = true ∧
    s.on Reg.PC_SUPV_STATUS Fld.PC_SUPV_STATUS.RIDING = true ∧
    s.md = .serve :=
  ⟨ws (ws sv Fld.PC_SUPV_STATUS.WARN) Fld.PC_SUPV_STATUS.RIDING, {}, 11000, 40,
    by decide +kernel⟩

/-- The hypotheses of BusSupervision, clause 6, hold together. -/
theorem test_BusSupervision_6 :
    ∃ (s : State) (_m : BusMeas) (_a : Nat) (_b : Nat),
    s.companionOn = true ∧
    s.on Reg.PC_SUPV_STATUS Fld.PC_SUPV_STATUS.WARN = true ∧
    s.on Reg.PC_SUPV_STATUS Fld.PC_SUPV_STATUS.RIDING = false :=
  ⟨ws sv Fld.PC_SUPV_STATUS.WARN, {}, 11000, 40,
    by decide +kernel⟩

/-- The hypotheses of BusSupervision, clause 7, hold together. -/
theorem test_BusSupervision_7 :
    ∃ (s : State) (_m : BusMeas),
    s.companionOn = true ∧
    s.md.busResets = true ∧
    s.on Reg.PC_SUPV_STATUS Fld.PC_SUPV_STATUS.BELOW_RESET = false ∧
    s.on Reg.PC_SUPV_STATUS Fld.PC_SUPV_STATUS.RIDING = false :=
  ⟨bt, {},
    by decide +kernel⟩

/-- The hypotheses of BusSupervision, clause 8, hold together. -/
theorem test_BusSupervision_8 :
    ∃ (s : State) (_m : BusMeas),
    s.quiet = true ∧
    s.companionOn = true ∧
    s.md.serving = true ∧
    s.on Reg.PC_SUPV_STATUS Fld.PC_SUPV_STATUS.BELOW_RESET = false ∧
    s.on Reg.PC_SUPV_STATUS Fld.PC_SUPV_STATUS.RIDING = false :=
  ⟨sv, {},
    by decide +kernel⟩

/-- The hypotheses of BusSupervision, clause 9, hold together. -/
theorem test_BusSupervision_9 :
    ∃ (s : State) (_m : BusMeas),
    s.quiet = true ∧
    s.companionOn = true ∧
    s.mode.busHold = false :=
  ⟨ws sv Fld.PC_SUPV_STATUS.BELOW_RESET, {},
    by decide +kernel⟩

/-- The hypotheses of BusSupervision, clause 10, hold together. -/
theorem test_BusSupervision_10 :
    ∃ (s : State) (_m : BusMeas),
    s.companionOn = true ∧
    s.mode.busHold = true ∧
    s.md = .reset ∧
    s.pins.pwronResetN = true ∧
    s.mode.vauxWait = false ∧
    s.on Reg.CHIP_MODE Fld.CHIP_MODE.RETAIN_VALID = false :=
  ⟨{ mk .reset none with mode := { busHold := true } }, {},
    by decide +kernel⟩

/-- The hypotheses of BusSupervision, clause 11, hold together. -/
theorem test_BusSupervision_11 :
    ∃ (s : State),
    s.companionOn = true ∧
    s.md.serving = true :=
  ⟨sv,
    by decide +kernel⟩

/-- The hypotheses of BusSupervision, clause 12, hold together. -/
theorem test_BusSupervision_12 :
    ∃ (s : State),
    s.quiet = true ∧
    s.companionOn = true :=
  ⟨ws bt Fld.PC_SUPV_STATUS.PWRFAIL,
    by decide +kernel⟩

/-- The hypotheses of SlotChannels, clause 1, hold together. -/
theorem test_SlotChannels_1 :
    ∃ (s : State) (n : SlotIx) (_o : Int) (_r : Int) (v : Nat),
    s.quiet = true ∧
    s.on (Reg.SPC_STATE n.val) Fld.SPC_STATE.ZEROING = true ∧
    s.ch n.val = Ch.ZERO ∧
    s.supplyOk n.val v = true :=
  ⟨(chn sv 1).set1 (Reg.SPC_STATE 0) Fld.SPC_STATE.ZEROING, 0, 3, 4, 3300,
    by decide +kernel⟩

/-- The hypotheses of SlotChannels, clause 2, hold together. -/
theorem test_SlotChannels_2 :
    ∃ (s : State) (n : SlotIx) (_o : Int) (_r : Int) (v : Nat),
    s.on (Reg.SPC_STATE n.val) Fld.SPC_STATE.ZEROING = true ∧
    s.ch n.val = Ch.ZERO ∧
    s.supplyOk n.val v = false ∧
    (∀ q, s.slotPort n.val = some q → q < 128) :=
  ⟨(chn sv 1).set1 (Reg.SPC_STATE 0) Fld.SPC_STATE.ZEROING, 0, 3, 4, 100,
    by decide +kernel, by decide +kernel, by decide +kernel, of_all (by decide +kernel)⟩

/-- The hypotheses of SlotChannels, clause 3, hold together. -/
theorem test_SlotChannels_3 :
    ∃ (s : State) (n : SlotIx) (_m : ChanMeas),
    s.quiet = true ∧
    s.ch n.val = Ch.RAMP :=
  ⟨chn sv 2, 0, {},
    by decide +kernel⟩

/-- The hypotheses of SlotChannels, clause 4, hold together. -/
theorem test_SlotChannels_4 :
    ∃ (s : State) (n : SlotIx) (_m : ChanMeas),
    s.quiet = true ∧
    s.ch n.val = Ch.QUAL ∧
    s.on (Reg.SPC_STATE n.val) Fld.SPC_STATE.IN_LIMIT = false ∧
    (∀ q, s.slotPort n.val = some q → q < 128) :=
  ⟨chn sv 3, 0, {},
    by decide +kernel, by decide +kernel, by decide +kernel, of_all (by decide +kernel)⟩

/-- The hypotheses of SlotChannels, clause 5, hold together. -/
theorem test_SlotChannels_5 :
    ∃ (s : State) (n : SlotIx) (_m : ChanMeas),
    s.quiet = true ∧
    s.ch n.val = Ch.ON ∧
    (∀ q, s.slotPort n.val = some q → q < 128) :=
  ⟨chn sv 4, 0, {},
    by decide +kernel, by decide +kernel, of_all (by decide +kernel)⟩

/-- The hypotheses of SlotChannels, clause 6, hold together. -/
theorem test_SlotChannels_6 :
    ∃ (s : State) (n : SlotIx) (_m : ChanMeas),
    s.quiet = true ∧
    s.ch n.val = Ch.ON ∧
    (∀ q, s.slotPort n.val = some q → q < 128) :=
  ⟨chn sv 4, 0, {},
    by decide +kernel, by decide +kernel, of_all (by decide +kernel)⟩

/-- The hypotheses of SlotChannels, clause 7, hold together. -/
theorem test_SlotChannels_7 :
    ∃ (s : State) (n : SlotIx) (_m : ChanMeas),
    s.quiet = true ∧
    s.on (Reg.SPC_STATE n.val) Fld.SPC_STATE.IN_LIMIT = true :=
  ⟨sv.set1 (Reg.SPC_STATE 0) Fld.SPC_STATE.IN_LIMIT, 0, {},
    by decide +kernel⟩

/-- The hypotheses of SlotChannels, clause 8, hold together. -/
theorem test_SlotChannels_8 :
    ∃ (s : State) (n : SlotIx) (m : ChanMeas) (c : Instr) (k : Nat),
    s.ch n.val ∈ [Ch.RAMP, Ch.QUAL, Ch.ON] ∧
    (c, k) ∈ [(Instr.faultTimerTrip n m, 1), (.thermalTrip n m false, 2), (.hardTrip n m, 3), (.thermalTrip n m true, 4)] ∧
    0 < s.rd (Reg.SPC_STATE n.val) Fld.SPC_STATE.RETRIES_LEFT ∧
    (∀ q, s.slotPort n.val = some q → q < 128) :=
  ⟨(chn sv 4).wr (Reg.SPC_STATE 0) Fld.SPC_STATE.RETRIES_LEFT 1, 0, {}, .hardTrip 0 {}, 3,
    by decide +kernel, by decide +kernel, by decide +kernel, of_all (by decide +kernel)⟩

/-- The hypotheses of SlotChannels, clause 9, hold together. -/
theorem test_SlotChannels_9 :
    ∃ (s : State) (n : SlotIx) (m : ChanMeas) (c : Instr),
    s.ch n.val ∈ [Ch.RAMP, Ch.QUAL, Ch.ON] ∧
    c ∈ [Instr.faultTimerTrip n m, .thermalTrip n m false, .hardTrip n m, .thermalTrip n m true] ∧
    s.rd (Reg.SPC_STATE n.val) Fld.SPC_STATE.RETRIES_LEFT = 0 ∧
    (∀ q, s.slotPort n.val = some q → q < 128) :=
  ⟨chn sv 4, 0, {}, .hardTrip 0 {},
    by decide +kernel, by decide +kernel, by decide +kernel, of_all (by decide +kernel)⟩

/-- The hypotheses of SlotChannels, clause 10, hold together. -/
theorem test_SlotChannels_10 :
    ∃ (s : State) (n : SlotIx) (_m : ChanMeas),
    s.on (Reg.SPC_CFG n.val) Fld.SPC_CFG.EXT_DIODE = true :=
  ⟨sv.set1 (Reg.SPC_CFG 0) Fld.SPC_CFG.EXT_DIODE, 0, { tDiode := 400 },
    by decide +kernel⟩

/-- The hypotheses of SlotChannels, clause 11, hold together. -/
theorem test_SlotChannels_11 :
    ∃ (s : State) (n : SlotIx) (_m : ChanMeas),
    s.quiet = true ∧
    s.ch n.val = Ch.COOL :=
  ⟨chn sv 5, 0, {},
    by decide +kernel⟩

/-- The hypotheses of SlotChannels, clause 12, hold together. -/
theorem test_SlotChannels_12 :
    ∃ (s : State) (n : SlotIx) (_m : ChanMeas),
    s.quiet = true ∧
    s.ch n.val = Ch.DOWN ∧
    (tabGet s.pwr.ch n.val {}).onRequested = false ∧
    (∀ q, s.slotPort n.val = some q → q < 128) :=
  ⟨chn sv 7, 0, {},
    by decide +kernel, by decide +kernel, by decide +kernel, of_all (by decide +kernel)⟩

/-- The hypotheses of SlotChannels, clause 13, hold together. -/
theorem test_SlotChannels_13 :
    ∃ (s : State) (n : SlotIx) (m : ChanMeas) (c : Instr),
    s.quiet = true ∧
    s.ch n.val = Ch.OFF ∧
    c ∈ [Instr.rampComplete n m, .pgQualified n m, .channelOutputLow n m, .channelInLimit n m, .faultTimerTrip n m, .thermalTrip n m true, .hardTrip n m, .coolDownDone n m, .rampDownDone n m] ∧
    (s.on (Reg.SPC_CFG n.val) Fld.SPC_CFG.VALID = false ∨ (s.tref n.val - s.rdS (Reg.SPC_ZERO n.val) Fld.SPC_ZERO.T_ZERO).natAbs ≤ 160) :=
  ⟨sv, 0, {}, .coolDownDone 0 {},
    by decide +kernel⟩

/-- The hypotheses of DrainPhases, clause 1, hold together. -/
theorem test_DrainPhases_1 :
    ∃ (s : State),
    s.quiet = true ∧
    s.md = .drydown ∧
    s.drainPhase = 0 ∧
    s.accordsSettled = true :=
  ⟨dry fmA.ports 0,
    by decide +kernel⟩

/-- The hypotheses of DrainPhases, clause 2, hold together. -/
theorem test_DrainPhases_2 :
    ∃ (s : State),
    s.quiet = true ∧
    s.md = .drydown ∧
    s.accordsSettled = false :=
  ⟨{ dry fmA.ports 0 with acd := { sv.acd with trk := [(7, ac0)] } },
    by decide +kernel⟩

/-- The hypotheses of DrainPhases, clause 3, hold together. -/
theorem test_DrainPhases_3 :
    ∃ (s : State),
    s.quiet = true ∧
    s.md = .drydown ∧
    s.drainPhase = 1 ∧
    s.gpf = [] ∧
    s.acd.seals = [] :=
  ⟨dry fmA.ports 1,
    by decide +kernel⟩

/-- The hypotheses of DrainPhases, clause 4, hold together. -/
theorem test_DrainPhases_4 :
    ∃ (s : State) (q : PortIx),
    s.md = .drydown ∧
    s.drainPhase ∈ [0, 1] ∧
    s.acd.seals = [] ∧
    s.gpf = [{ port := drainFlow, phase := 1, held := false, waits := [q.val] }] :=
  ⟨{ dry fmA.ports 1 with gpf := [{ port := drainFlow, phase := 1, held := false, waits := [4] }] }, 4,
    by decide +kernel⟩

/-- The hypotheses of DrainPhases, clause 5, hold together. -/
theorem test_DrainPhases_5 :
    ∃ (s : State),
    s.quiet = true ∧
    s.md = .drydown ∧
    s.drainPhase = 2 ∧
    s.core.otags = [] ∧
    (∀ e ∈ s.home, e.2.trackers = []) ∧
    s.acd.seals = [] :=
  ⟨dry fmA.ports 2,
    by decide +kernel⟩

/-- The hypotheses of DrainPhases, clause 6, hold together. -/
theorem test_DrainPhases_6 :
    ∃ (s : State) (x : Sealed),
    s.md = .drydown ∧
    s.drainPhase = 2 ∧
    s.core.otags = [] ∧
    s.home = [] ∧
    s.core.queues = [] ∧
    s.core.wait = [] ∧
    s.core.pack = [] ∧
    s.acd.seals = [x] ∧
    x.cls = 0 ∧
    x.flacon < 32 :=
  ⟨sld (dry fmA.ports 2) [sl], sl,
    by decide +kernel⟩

/-- The hypotheses of DrainPhases, clause 7, hold together. -/
theorem test_DrainPhases_7 :
    ∃ (s : State),
    s.quiet = true ∧
    s.md = .drydown ∧
    s.drainPhase = 3 ∧
    s.gpfDevices = [] ∧
    (∀ p ∈ s.ports, p.port < 128) :=
  ⟨dry fmA.ports 3,
    by decide +kernel⟩

/-- The hypotheses of DrainPhases, clause 8, hold together. -/
theorem test_DrainPhases_8 :
    ∃ (s : State) (p : PortRec),
    s.md = .drydown ∧
    s.drainPhase = 4 ∧
    s.gpf = [] ∧
    s.ports = [p] ∧
    p.port < 128 ∧
    p.fabric = false ∧
    p.role = .downstream ∧
    p.slot < 32 ∧
    p.hotplug = false ∧
    s.portIdle p.port :=
  ⟨dry [pD] 4, pD,
    by decide +kernel, by decide +kernel, by decide +kernel, by decide +kernel, (by decide +kernel), by decide +kernel, by decide +kernel, by decide +kernel, by decide +kernel, portIdle_of (by decide +kernel)⟩

/-- The hypotheses of DrainPhases, clause 9, hold together. -/
theorem test_DrainPhases_9 :
    ∃ (s : State) (r : RetentionRec),
    s.md = .drydown ∧
    s.drainPhase = 4 ∧
    (∀ p ∈ s.ports, p.fabric = false ∧ s.on (Reg.PT_STD_STATUS p.port) Fld.PT_STD_STATUS.DL_UP = false) ∧
    s.decommissioned = false ∧
    s.drain.railCut = false ∧
    s.drain.saved = true ∧
    s.retention = some r ∧
    s.powerGood = false :=
  ⟨ws (drS false [pU]) Fld.PC_SUPV_STATUS.WARN, rr,
    by decide +kernel⟩

/-- The hypotheses of DrainPhases, clause 10, hold together. -/
theorem test_DrainPhases_10 :
    ∃ (s : State) (r : RetentionRec),
    s.md = .drydown ∧
    s.drainPhase = 4 ∧
    (∀ p ∈ s.ports, p.fabric = false ∧ s.on (Reg.PT_STD_STATUS p.port) Fld.PT_STD_STATUS.DL_UP = false) ∧
    s.decommissioned = false ∧
    s.drain.railCut = false ∧
    s.drain.saved = true ∧
    s.retention = some r ∧
    s.powerGood = true :=
  ⟨drS false [pU], rr,
    by decide +kernel⟩

/-- The hypotheses of DrainPhases, clause 11, hold together. -/
theorem test_DrainPhases_11 :
    ∃ (s : State) (r : RetentionRec),
    s.md = .drydown ∧
    s.drainPhase = 4 ∧
    (∀ p ∈ s.ports, p.fabric = false ∧ s.on (Reg.PT_STD_STATUS p.port) Fld.PT_STD_STATUS.DL_UP = false) ∧
    s.drain.railCut = true ∧
    s.drain.saved = true ∧
    s.retention = some r :=
  ⟨drS true [pU], rr,
    by decide +kernel⟩

/-- The hypotheses of DrainPhases, clause 12, hold together. -/
theorem test_DrainPhases_12 :
    ∃ (s : State),
    s.quiet = true ∧
    s.md = .drydown ∧
    s.drainPhase = 3 ∧
    s.gpfDevices = [] ∧
    (∀ p ∈ s.ports, p.port < 128) :=
  ⟨dry fmA.ports 3,
    by decide +kernel⟩

/-- The hypotheses of DrainPhases, clause 13, hold together. -/
theorem test_DrainPhases_13 :
    ∃ (s : State) (r : RetentionRec),
    s.md = .drydown ∧
    s.drainPhase = 4 ∧
    s.gpf = [] ∧
    s.ports = [] ∧
    s.core.queues = [] ∧
    s.core.wait = [] ∧
    s.core.pack = [] ∧
    s.decommissioned = false ∧
    s.drain.railCut = false ∧
    s.drain.saved = true ∧
    s.retention = some r ∧
    s.powerGood = false :=
  ⟨ws (drS false []) Fld.PC_SUPV_STATUS.WARN, rr,
    by decide +kernel⟩

/-- The hypotheses of DrainPhases, clause 14, hold together. -/
theorem test_DrainPhases_14 :
    ∃ (s : State),
    s.md = .retain ∧
    s.pins.pwronResetN = true ∧
    s.powerGood = true ∧
    s.on Reg.CHIP_MODE Fld.CHIP_MODE.RETAIN_VALID = true :=
  ⟨(mk .retain none).set1 Reg.CHIP_MODE Fld.CHIP_MODE.RETAIN_VALID,
    by decide +kernel⟩

/-- The hypotheses of DrainPhases, clause 15, hold together. -/
theorem test_DrainPhases_15 :
    ∃ (s : State),
    s.md = .retain ∧
    s.pins.pwronResetN = true ∧
    s.powerGood = true ∧
    s.on Reg.CHIP_MODE Fld.CHIP_MODE.RETAIN_VALID = false :=
  ⟨mk .retain none,
    by decide +kernel⟩

/-- The hypotheses of RevivePhases, clause 1, hold together. -/
theorem test_RevivePhases_1 :
    ∃ (s : State),
    s.md = .revive ∧
    s.revivePhase = 0 ∧
    s.flt.held = [] :=
  ⟨rev 0,
    by decide +kernel⟩

/-- The hypotheses of RevivePhases, clause 2, hold together. -/
theorem test_RevivePhases_2 :
    ∃ (s : State) (v : SigVerdict) (r : RetentionRec) (n : Nat),
    s.md = .revive ∧
    s.revivePhase = 1 ∧
    s.retention = some r ∧
    s.pickFirmware v [r.fwSlot, 1 - r.fwSlot] 0 = .inl n ∧
    n < 2 :=
  ⟨img (rev 1) 0, {}, rr, 0,
    by decide +kernel, by decide +kernel, by decide +kernel, pick_fw (slot_fw (m := 0) (by decide) rfl (by decide +kernel) rfl (by decide +kernel) (by decide +kernel)), by decide +kernel⟩

/-- The hypotheses of RevivePhases, clause 3, hold together. -/
theorem test_RevivePhases_3 :
    ∃ (s : State) (v : SigVerdict) (r : RetentionRec) (n : Nat),
    s.md = .revive ∧
    s.revivePhase = 1 ∧
    s.retention = some r ∧
    s.pickFirmware v [r.fwSlot, 1 - r.fwSlot] 0 = .inr n :=
  ⟨rev 1, {}, rr, 2049,
    by decide +kernel⟩

/-- The hypotheses of RevivePhases, clause 4, hold together. -/
theorem test_RevivePhases_4 :
    ∃ (s : State) (r : RetentionRec),
    s.quiet = true ∧
    s.md = .revive ∧
    s.revivePhase = 2 ∧
    s.retention = some r ∧
    r.valid = true ∧
    slotDigest s.mgmt.flash r.formulaSlot = r.digest :=
  ⟨rev 2, rr,
    by decide +kernel⟩

/-- The hypotheses of RevivePhases, clause 5, hold together. -/
theorem test_RevivePhases_5 :
    ∃ (s : State) (b : Bool) (x : Sealed),
    s.md = .revive ∧
    s.revivePhase = 2 ∧
    s.keep.held = [x] ∧
    x.flacon < 32 ∧
    x.seq < 2 ^ 64 ∧
    s.on Reg.KS_LOSS Fld.KS_LOSS.LOST = false ∧
    (b = false ∨ s.retention = none ∨ ∃ r, s.retention = some r ∧ r.valid = false) :=
  ⟨{ rev 2 with keep := { held := [sl] } }, false, sl,
    by decide +kernel⟩

/-- The hypotheses of RevivePhases, clause 6, hold together. -/
theorem test_RevivePhases_6 :
    ∃ (s : State) (f : Formula),
    s.quiet = true ∧
    s.md = .revive ∧
    s.revivePhase = 3 ∧
    s.reviveDry = true ∧
    s.fml.inForce = some f ∧
    f.ports = [] :=
  ⟨{ (rev 3).set1 Reg.KS_REVIVE_STATUS Fld.KS_REVIVE_STATUS.DRY with fml := { inForce := some {} } }, {},
    by decide +kernel⟩

/-- The hypotheses of RevivePhases, clause 7, hold together. -/
theorem test_RevivePhases_7 :
    ∃ (s : State),
    s.md = .revive ∧
    s.revivePhase = 3 ∧
    s.reviveDry = false :=
  ⟨rev 3,
    by decide +kernel⟩

/-- The hypotheses of RevivePhases, clause 8, hold together. -/
theorem test_RevivePhases_8 :
    ∃ (s : State) (_bad : List Nat),
    s.quiet = true ∧
    s.md = .revive ∧
    s.revivePhase = 4 ∧
    s.acd.seals = [] :=
  ⟨rev 4, [],
    by decide +kernel⟩

/-- The hypotheses of RevivePhases, clause 9, hold together. -/
theorem test_RevivePhases_9 :
    ∃ (s : State) (_bad : List Nat) (x : Sealed) (k : SealedLine),
    s.quiet = true ∧
    s.md = .revive ∧
    s.revivePhase = 4 ∧
    x ∈ s.acd.seals ∧
    k ∈ x.lines ∧
    s.heldUp x k = false :=
  ⟨sld (rev 4) [sl], [], sl, { line := 0, sln := 0, slice := 0, slot := 0, data := 5 },
    by decide +kernel⟩

/-- The hypotheses of RevivePhases, clause 10, hold together. -/
theorem test_RevivePhases_10 :
    ∃ (s : State) (x : Sealed),
    s.md = .revive ∧
    s.revivePhase = 4 ∧
    s.acd.seals = [x] ∧
    x.flacon < 32 ∧
    s.on Reg.KS_LOSS Fld.KS_LOSS.LOST = false :=
  ⟨sld (rev 4) [sl], sl,
    by decide +kernel⟩

/-- The hypotheses of RevivePhases, clause 11, hold together. -/
theorem test_RevivePhases_11 :
    ∃ (s : State) (_a : Nat) (_b : Nat) (_v : Bool) (r : RetentionRec),
    s.md = .revive ∧
    s.revivePhase = 5 ∧
    s.arrayEmpty ∧
    s.retention = some r ∧
    r.taint = false ∧
    s.fml.retrain = [] ∧
    s.fml.repeatLive = none ∧
    (∀ f ∈ s.flacons, f < 32 ∧ s.canAdvance f false = true) :=
  ⟨live (rev 5) [], 5, 3, true, rr,
    by decide +kernel, by decide +kernel, by unfold State.arrayEmpty; decide +kernel, by decide +kernel⟩

/-- The hypotheses of RevivePhases, clause 12, hold together. -/
theorem test_RevivePhases_12 :
    ∃ (s : State) (_a : Nat) (_b : Nat) (_v : Bool),
    s.quiet = true ∧
    s.md = .revive ∧
    s.revivePhase = 5 ∧
    s.acd.seals ≠ [] :=
  ⟨sld (rev 5) [sl], 5, 3, true,
    by decide +kernel⟩

/-- The hypotheses of RevivePhases, clause 13, hold together. -/
theorem test_RevivePhases_13 :
    ∃ (s : State) (p : AccessPath),
    s.quiet = true ∧
    s.mayAct p = true ∧
    s.on Reg.KS_LOSS Fld.KS_LOSS.LOST = true :=
  ⟨sv.set1 Reg.KS_LOSS Fld.KS_LOSS.LOST, .bar0,
    by decide +kernel⟩

/-- The hypotheses of Occurrences, clause 1, hold together. -/
theorem test_Occurrences_1 :
    ∃ (s : State) (o : Occ),
    s.quiet = true ∧
    s.flt.running = true ∧
    defaultSev o.source ≠ none ∧
    (s.srcOf o.source).railNow = false ∧
    s.isFreezeSource o = false ∧
    s.sevOf o.source ≤ 1 ∧
    s.escalateOf o.source = 0 ∧
    s.flt.log.length < 4096 :=
  ⟨run sv, { source := 1 },
    by decide +kernel⟩

/-- The hypotheses of Occurrences, clause 2, hold together. -/
theorem test_Occurrences_2 :
    ∃ (s : State) (o : Occ) (f : FlaconIx),
    s.quiet = true ∧
    s.flt.running = true ∧
    defaultSev o.source ≠ none ∧
    (s.srcOf o.source).railNow = false ∧
    s.isFreezeSource o = false ∧
    s.sevOf o.source = 2 ∧
    o.flacon = some f ∧
    s.md ∈ [Mode.compose, .serve, .revive] ∧
    s.on (Reg.FL_STATUS f.val) Fld.FL_STATUS.FENCED = false :=
  ⟨run sv, { source := 1168, flacon := some 3 }, 3,
    by decide +kernel⟩

/-- The hypotheses of Occurrences, clause 3, hold together. -/
theorem test_Occurrences_3 :
    ∃ (s : State) (o : Occ),
    s.quiet = true ∧
    s.flt.running = true ∧
    defaultSev o.source ≠ none ∧
    (s.srcOf o.source).railNow = false ∧
    s.isFreezeSource o = false ∧
    s.sevOf o.source = 3 ∧
    s.md = .serve ∧
    s.on Reg.KS_LOSS Fld.KS_LOSS.LOST = false ∧
    o.source ≠ Src.CHIP_WATCHDOG :=
  ⟨run sv, { source := 0 },
    by decide +kernel⟩

/-- The hypotheses of Occurrences, clause 4, hold together. -/
theorem test_Occurrences_4 :
    ∃ (s : State) (o : Occ),
    s.quiet = true ∧
    defaultSev o.source = none :=
  ⟨run sv, { source := 1160 },
    by decide +kernel⟩

/-- The hypotheses of Occurrences, clause 5, hold together. -/
theorem test_Occurrences_5 :
    ∃ (s : State) (o : Occ),
    s.quiet = true ∧
    s.flt.running = true ∧
    defaultSev o.source ≠ none ∧
    (s.srcOf o.source).railNow = true :=
  ⟨src (run sv) 0 { railNow := true }, { source := 0 },
    by decide +kernel⟩

/-- The hypotheses of Occurrences, clause 6, hold together. -/
theorem test_Occurrences_6 :
    ∃ (s : State) (o : Occ),
    s.quiet = true ∧
    s.flt.running = false ∧
    defaultSev o.source ≠ none ∧
    s.pins.vaux = true ∧
    1189 ≤ o.source ∧
    o.source ≤ 1200 ∧
    tabFind s.flt.held o.source = none :=
  ⟨mk .retain none, { source := 1189 },
    by decide +kernel⟩

/-- The hypotheses of Occurrences, clause 7, hold together. -/
theorem test_Occurrences_7 :
    ∃ (s : State) (o : Occ),
    s.quiet = true ∧
    s.flt.running = true ∧
    defaultSev o.source ≠ none ∧
    (s.srcOf o.source).railNow = false ∧
    s.isFreezeSource o = true ∧
    s.md = .serve ∧
    s.unwrittenMirror = none :=
  ⟨(run (sv.set1 Reg.FZ_CTL Fld.FZ_CTL.ON_SOURCE)).wr Reg.FZ_CTL Fld.FZ_CTL.SOURCE 1, { source := 1 },
    by decide +kernel⟩

/-- The hypotheses of FaultRegisters, clause 1, hold together. -/
theorem test_FaultRegisters_1 :
    ∃ (s : State) (n : Nat),
    s.quiet = true ∧
    s.flt.running = true ∧
    defaultSev n ≠ none ∧
    (s.srcOf n).railNow = false ∧
    s.isFreezeSource { source := n } = false ∧
    s.railSevOf n = 1 ∧
    s.flt.log.length < 4096 :=
  ⟨run sv, 1,
    by decide +kernel⟩

/-- The hypotheses of FaultRegisters, clause 2, hold together. -/
theorem test_FaultRegisters_2 :
    ∃ (s : State) (n : Nat),
    s.quiet = true ∧
    (s.srcOf n).railNow = true :=
  ⟨src sv 1 { railNow := true }, 1,
    by decide +kernel⟩

/-- The hypotheses of FaultRegisters, clause 3, hold together. -/
theorem test_FaultRegisters_3 :
    ∃ (s : State) (n : Nat),
    s.quiet = true ∧
    (s.srcOf n).railNow = true :=
  ⟨src sv 1 { railNow := true }, 1,
    by decide +kernel⟩

/-- The hypotheses of FaultRegisters, clause 4, hold together. -/
theorem test_FaultRegisters_4 :
    ∃ (s : State) (p : AccessPath) (w : Fin 40) (_m : BitVec 32),
    s.quiet = true ∧
    s.mayAct p = true ∧
    w.val < 26 :=
  ⟨sv, .bar0, 0, 5,
    by decide +kernel⟩

/-- The hypotheses of FaultRegisters, clause 5, hold together. -/
theorem test_FaultRegisters_5 :
    ∃ (s : State) (p : AccessPath),
    s.quiet = true ∧
    s.mayAct p = true :=
  ⟨sv, .bar0,
    by decide +kernel⟩

/-- The hypotheses of FaultRegisters, clause 6, hold together. -/
theorem test_FaultRegisters_6 :
    ∃ (s : State) (p : AccessPath) (n : Nat),
    s.quiet = true ∧
    s.mayAct p = true ∧
    n < 2 ^ 13 :=
  ⟨sv, .bar0, 3,
    by decide +kernel⟩

/-- The hypotheses of FaultRegisters, clause 7, hold together. -/
theorem test_FaultRegisters_7 :
    ∃ (s : State) (p : AccessPath) (w : BitVec 32),
    s.mayAct p = true ∧
    s.presenceOk = true ∧
    w.getLsbD 17 = true ∧
    w.getLsbD 16 = false ∧
    defaultSev (w.toNat % 2 ^ 11) ≠ none :=
  ⟨prs sv, .bar0, 0x20001,
    by decide +kernel⟩

/-- The hypotheses of FaultRegisters, clause 8, hold together. -/
theorem test_FaultRegisters_8 :
    ∃ (s : State) (p : AccessPath) (w : BitVec 32),
    s.quiet = true ∧
    s.mayAct p = true ∧
    s.presenceOk = true ∧
    w.getLsbD 17 = false :=
  ⟨prs sv, .bar0, 1,
    by decide +kernel⟩

/-- The hypotheses of FaultRegisters, clause 9, hold together. -/
theorem test_FaultRegisters_9 :
    ∃ (s : State) (p : AccessPath) (_w : BitVec 32),
    s.mayAct p = true ∧
    s.presenceOk = false :=
  ⟨sv, .bar0, 1,
    by decide +kernel⟩

/-- The hypotheses of FreezeAndReadout, clause 1, hold together. -/
theorem test_FreezeAndReadout_1 :
    ∃ (s : State),
    s.md ∈ [Mode.boot, .compose, .serve, .recompose, .quarantine, .linktest] ∧
    s.unwrittenMirror = none :=
  ⟨sv,
    by decide +kernel⟩

/-- The hypotheses of FreezeAndReadout, clause 2, hold together. -/
theorem test_FreezeAndReadout_2 :
    ∃ (s : State),
    s.md ∈ [Mode.drydown, .retain, .reset] :=
  ⟨dry [] 0,
    by decide +kernel⟩

/-- The hypotheses of FreezeAndReadout, clause 3, hold together. -/
theorem test_FreezeAndReadout_3 :
    ∃ (s : State),
    s.quiet = true ∧
    s.md = .frozen :=
  ⟨mk .frozen none,
    by decide +kernel⟩

/-- The hypotheses of FreezeAndReadout, clause 4, hold together. -/
theorem test_FreezeAndReadout_4 :
    ∃ (s : State) (w : BitVec 32),
    s.md = .serve ∧
    s.presenceOk = true ∧
    w.getLsbD 0 = true ∧
    s.unwrittenMirror = none :=
  ⟨prs sv, 1,
    by decide +kernel⟩

/-- The hypotheses of FreezeAndReadout, clause 5, hold together. -/
theorem test_FreezeAndReadout_5 :
    ∃ (s : State) (p : AccessPath) (w : BitVec 32),
    s.quiet = true ∧
    p ≠ .jtag ∧
    s.mayAct p = true ∧
    s.presenceOk = true ∧
    w.getLsbD 0 = false :=
  ⟨prs sv, .bar0, 0x10,
    by decide +kernel⟩

/-- The hypotheses of FreezeAndReadout, clause 6, hold together. -/
theorem test_FreezeAndReadout_6 :
    ∃ (s : State) (g : BitVec 10),
    s.quiet = true ∧
    s.readoutOk = true ∧
    s.on Reg.FZ_CAP_STATUS Fld.FZ_CAP_STATUS.BUSY = false ∧
    g ≠ 0 :=
  ⟨frz, 3,
    by decide +kernel⟩

/-- The hypotheses of FreezeAndReadout, clause 7, hold together. -/
theorem test_FreezeAndReadout_7 :
    ∃ (s : State) (p : AccessPath) (_g : BitVec 10),
    s.quiet = true ∧
    p ≠ .jtag ∧
    s.mayAct p = true ∧
    s.md ≠ .frozen :=
  ⟨sv, .bar0, 3,
    by decide +kernel⟩

/-- The hypotheses of FreezeAndReadout, clause 8, hold together. -/
theorem test_FreezeAndReadout_8 :
    ∃ (s : State),
    s.quiet = true ∧
    s.md ≠ .off ∧
    s.on Reg.FZ_CAP_STATUS Fld.FZ_CAP_STATUS.BUSY = true :=
  ⟨frz.set1 Reg.FZ_CAP_STATUS Fld.FZ_CAP_STATUS.BUSY,
    by decide +kernel⟩

/-- The hypotheses of FreezeAndReadout, clause 9, hold together. -/
theorem test_FreezeAndReadout_9 :
    ∃ (s : State),
    s.quiet = true ∧
    s.on Reg.FZ_CAP_STATUS Fld.FZ_CAP_STATUS.BUSY = true :=
  ⟨frz.set1 Reg.FZ_CAP_STATUS Fld.FZ_CAP_STATUS.BUSY,
    by decide +kernel⟩

/-- The hypotheses of FreezeAndReadout, clause 10, hold together. -/
theorem test_FreezeAndReadout_10 :
    ∃ (s : State),
    s.quiet = true ∧
    s.md ≠ .off :=
  ⟨sv,
    by decide +kernel⟩

/-- The hypotheses of FreezeAndReadout, clause 11, hold together. -/
theorem test_FreezeAndReadout_11 :
    ∃ (s : State),
    s.quiet = true ∧
    s.md ≠ .off :=
  ⟨sv,
    by decide +kernel⟩

/-- The hypotheses of FreezeAndReadout, clause 12, hold together. -/
theorem test_FreezeAndReadout_12 :
    ∃ (s : State) (_b : List Bool),
    s.quiet = true ∧
    s.md ≠ .off :=
  ⟨sv, [true, false],
    by decide +kernel⟩

/-- The hypotheses of FreezeAndReadout, clause 13, hold together. -/
theorem test_FreezeAndReadout_13 :
    ∃ (s : State),
    s.quiet = true ∧
    s.md = .frozen ∧
    s.on Reg.FZ_CTL Fld.FZ_CTL.READOUT_EN = true :=
  ⟨frz,
    by decide +kernel⟩

/-- The hypotheses of FreezeAndReadout, clause 14, hold together. -/
theorem test_FreezeAndReadout_14 :
    ∃ (s : State),
    s.quiet = true ∧
    s.md = .serve :=
  ⟨sv,
    by decide +kernel⟩

/-- The hypotheses of FreezeAndReadout, clause 15, hold together. -/
theorem test_FreezeAndReadout_15 :
    ∃ (s : State) (_k : Fin 10) (_n : Nat),
    s.quiet = true ∧
    s.md ≠ .off ∧
    s.readoutOk = false :=
  ⟨sv, 0, 5,
    by decide +kernel⟩

/-- The hypotheses of FreezeAndReadout, clause 16, hold together. -/
theorem test_FreezeAndReadout_16 :
    ∃ (s : State) (_k : Fin 10) (_n : Nat),
    s.quiet = true ∧
    s.readoutOk = true :=
  ⟨frz, 0, 5,
    by decide +kernel⟩

/-- The hypotheses of Sillage, clause 1, hold together. -/
theorem test_Sillage_1 :
    ∃ (s : State) (p : AccessPath) (_k : QuadIx) (n : Nat),
    s.quiet = true ∧
    s.mayAct p = true ∧
    n < 2 ^ 12 :=
  ⟨sv, .bar0, 1, 3,
    by decide +kernel⟩

/-- The hypotheses of Sillage, clause 2, hold together. -/
theorem test_Sillage_2 :
    ∃ (s : State) (p : AccessPath) (_k : QuadIx),
    s.quiet = true ∧
    s.mayAct p = true :=
  ⟨sv, .bar0, 1,
    by decide +kernel⟩

/-- The hypotheses of MailboxRefusals, clause 1, hold together. -/
theorem test_MailboxRefusals_1 :
    ∃ (s : State) (c : Instr) (r : MgmtReq) (m : MgmtCmd),
    s.quiet = true ∧
    mgmtOf c = some (r, m) ∧
    r.remote = false ∧
    s.pathUp r.path = true ∧
    s.md = .drydown :=
  ⟨dry [] 0, .powerOn { path := 2 } 0, { path := 2 }, .powerOn 0,
    by decide +kernel⟩

/-- The hypotheses of MailboxRefusals, clause 2, hold together. -/
theorem test_MailboxRefusals_2 :
    ∃ (s : State) (r : MgmtReq) (_o : BitVec 16),
    s.quiet = true ∧
    s.hears r :=
  ⟨sv, {}, 0x1234,
    by decide +kernel, by unfold State.hears; decide +kernel⟩

/-- The hypotheses of MailboxRefusals, clause 3, hold together. -/
theorem test_MailboxRefusals_3 :
    ∃ (s : State) (c : Instr) (r : MgmtReq) (m : MgmtCmd),
    s.quiet = true ∧
    mgmtOf c = some (r, m) ∧
    s.hears r ∧
    isUnknown m = false ∧
    r.lenOk = false :=
  ⟨sv, .powerOn { lenOk := false } 0, { lenOk := false }, .powerOn 0,
    by decide +kernel, by decide +kernel, by unfold State.hears; decide +kernel, by decide +kernel⟩

/-- The hypotheses of MailboxRefusals, clause 4, hold together. -/
theorem test_MailboxRefusals_4 :
    ∃ (s : State) (c : Instr) (r : MgmtReq) (m : MgmtCmd),
    s.quiet = true ∧
    mgmtOf c = some (r, m) ∧
    s.hears r ∧
    isUnknown m = false ∧
    r.lenOk = true ∧
    r.resOk = false :=
  ⟨sv, .powerOn { resOk := false } 0, { resOk := false }, .powerOn 0,
    by decide +kernel, by decide +kernel, by unfold State.hears; decide +kernel, by decide +kernel⟩

/-- The hypotheses of MailboxRefusals, clause 5, hold together. -/
theorem test_MailboxRefusals_5 :
    ∃ (s : State) (c : Instr) (r : MgmtReq) (m : MgmtCmd),
    s.quiet = true ∧
    mgmtOf c = some (r, m) ∧
    s.hears r ∧
    goodForm r m ∧
    s.inRecovery = true ∧
    recoveryAccepts m = false :=
  ⟨rcv, .powerOn {} 0, {}, .powerOn 0,
    by decide +kernel, by decide +kernel, by unfold State.hears; decide +kernel, by unfold goodForm; decide +kernel, by decide +kernel⟩

/-- The hypotheses of MailboxRefusals, clause 6, hold together. -/
theorem test_MailboxRefusals_6 :
    ∃ (s : State) (c : Instr) (r : MgmtReq) (m : MgmtCmd),
    s.quiet = true ∧
    mgmtOf c = some (r, m) ∧
    s.hears r ∧
    goodForm r m ∧
    s.inRecovery = false ∧
    s.authorised r m = false :=
  ⟨sv, .powerOn { path := 2 } 0, { path := 2 }, .powerOn 0,
    by decide +kernel, by decide +kernel, by unfold State.hears; decide +kernel, by unfold goodForm; decide +kernel, by decide +kernel⟩

/-- The hypotheses of MailboxRefusals, clause 7, hold together. -/
theorem test_MailboxRefusals_7 :
    ∃ (s : State) (c : Instr) (r : MgmtReq) (m : MgmtCmd),
    s.quiet = true ∧
    mgmtOf c = some (r, m) ∧
    s.hears r ∧
    goodForm r m ∧
    s.lets r m ∧
    gatedCmd m = true ∧
    s.on Reg.MG_SEAL Fld.MG_SEAL.SEAL_BROKEN = true :=
  ⟨prs (sv.set1 Reg.MG_SEAL Fld.MG_SEAL.SEAL_BROKEN), .formulaCommitLive {} 0, {}, .formulaCommit 0 0,
    by decide +kernel, by decide +kernel, by unfold State.hears; decide +kernel, by unfold goodForm; decide +kernel, by unfold State.lets; decide +kernel, by decide +kernel⟩

/-- The hypotheses of MailboxRefusals, clause 8, hold together. -/
theorem test_MailboxRefusals_8 :
    ∃ (s : State) (c : Instr) (r : MgmtReq) (m : MgmtCmd),
    s.quiet = true ∧
    mgmtOf c = some (r, m) ∧
    s.hears r ∧
    goodForm r m ∧
    s.lets r m ∧
    gatedCmd m = true ∧
    s.on Reg.MG_SEAL Fld.MG_SEAL.SEAL_BROKEN = false ∧
    s.on Reg.MG_PRESENCE Fld.MG_PRESENCE.OPEN = false :=
  ⟨sv, .formulaCommitLive {} 0, {}, .formulaCommit 0 0,
    by decide +kernel, by decide +kernel, by unfold State.hears; decide +kernel, by unfold goodForm; decide +kernel, by unfold State.lets; decide +kernel, by decide +kernel⟩

/-- The hypotheses of MailboxRefusals, clause 9, hold together. -/
theorem test_MailboxRefusals_9 :
    ∃ (s : State) (c : Instr) (r : MgmtReq) (m : MgmtCmd),
    s.quiet = true ∧
    mgmtOf c = some (r, m) ∧
    s.hears r ∧
    goodForm r m ∧
    s.lets r m ∧
    gatedCmd m = false ∧
    needsFormula m = true ∧
    s.fml.inForce = none :=
  ⟨mk .compose none, .powerOn {} 0, {}, .powerOn 0,
    by decide +kernel, by decide +kernel, by unfold State.hears; decide +kernel, by unfold goodForm; decide +kernel, by unfold State.lets; decide +kernel, by decide +kernel⟩

/-- The hypotheses of MailboxRefusals, clause 10, hold together. -/
theorem test_MailboxRefusals_10 :
    ∃ (s : State) (c : Instr) (r : MgmtReq) (m : MgmtCmd),
    s.quiet = true ∧
    mgmtOf c = some (r, m) ∧
    r.remote = true ∧
    s.remoteUp = true ∧
    s.md ≠ .drydown ∧
    goodForm r m ∧
    remoteAnswers m = false :=
  ⟨sv, .powerOn { remote := true } 0, { remote := true }, .powerOn 0,
    by decide +kernel, by decide +kernel, by decide +kernel, by decide +kernel, (by decide +kernel), by unfold goodForm; decide +kernel, by decide +kernel⟩

/-- The hypotheses of MailboxAnswers, clause 1, hold together. -/
theorem test_MailboxAnswers_1 :
    ∃ (s : State) (c : Instr) (r : MgmtReq) (m : MgmtCmd),
    mgmtOf c = some (r, m) ∧
    r.remote = false ∧
    s.pathUp r.path = true :=
  ⟨sv, .powerOn {} 0, {}, .powerOn 0,
    by decide +kernel⟩

/-- The hypotheses of MailboxReads, clause 1, hold together. -/
theorem test_MailboxReads_1 :
    ∃ (s : State) (r : MgmtReq),
    s.quiet = true ∧
    s.takes r .identify :=
  ⟨sv, {},
    by decide +kernel, by unfold State.takes; decide +kernel⟩

/-- The hypotheses of MailboxReads, clause 2, hold together. -/
theorem test_MailboxReads_2 :
    ∃ (s : State) (r : MgmtReq) (a : BitVec 32) (x : Nat) (k : RegRow),
    s.takes r (.readReg a 8) ∧
    s.opensAt (.mgmt r.path) a.toNat 8 x ∧
    rowAt x = some k ∧
    k.wide = true :=
  ⟨sv, {}, BitVec.ofNat 32 (Reg.MG_PATH_CNT 1), Reg.MG_PATH_CNT 1, row (Reg.MG_PATH_CNT 1),
    by unfold State.takes; decide +kernel, ⟨by decide +kernel, ok_of (by decide +kernel), by decide +kernel, by decide +kernel, by decide +kernel⟩, row_eq (by decide +kernel), by decide +kernel⟩

/-- The hypotheses of MailboxReads, clause 3, hold together. -/
theorem test_MailboxReads_3 :
    ∃ (s : State) (r : MgmtReq) (a : BitVec 32) (n : BitVec 8) (e : Completion),
    s.quiet = true ∧
    s.takes r (.readReg a n) ∧
    checkAccess (.mgmt r.path) a.toNat n.toNat = .error e :=
  ⟨sv, {}, 0x102, 4, badAt,
    by decide +kernel, by unfold State.takes; decide +kernel, error_of (by decide +kernel)⟩

/-- The hypotheses of MailboxReads, clause 4, hold together. -/
theorem test_MailboxReads_4 :
    ∃ (s : State) (r : MgmtReq) (a : BitVec 32) (n : BitVec 8) (w : Word) (x : Nat),
    s.quiet = true ∧
    s.takes r (.writeReg a n w) ∧
    s.opensAt (.mgmt r.path) a.toNat n.toNat x ∧
    x < bar0Size ∧
    s.mayWrite (.mgmt r.path) = false :=
  ⟨sv, { path := 2 }, BitVec.ofNat 32 Reg.PC_EVENTS, 4, 1, Reg.PC_EVENTS,
    by decide +kernel, by unfold State.takes; decide +kernel, ⟨by decide +kernel, ok_of (by decide +kernel), by decide +kernel, by decide +kernel, by decide +kernel⟩, by decide +kernel⟩

/-- The hypotheses of MailboxReads, clause 5, hold together. -/
theorem test_MailboxReads_5 :
    ∃ (s : State) (r : MgmtReq) (a : BitVec 32) (w : Word) (x : Nat) (base : Nat) (k : RegRow),
    s.takes r (.writeReg a 4 w) ∧
    s.opensWrite (.mgmt r.path) a.toNat 4 x ∧
    rowAt x = some k ∧
    k.wide = false ∧
    (locateBlock x = some (.pc, base) ∨ locateBlock x = some (.spc, base)) :=
  ⟨sv, {}, BitVec.ofNat 32 Reg.PC_EVENTS, 1, Reg.PC_EVENTS, 0x400000, row Reg.PC_EVENTS,
    by unfold State.takes; decide +kernel, ⟨⟨by decide +kernel, ok_of (by decide +kernel), by decide +kernel, by decide +kernel, by decide +kernel⟩, by decide +kernel⟩, row_eq (by decide +kernel), by decide +kernel⟩

/-- The hypotheses of MailboxReads, clause 6, hold together. -/
theorem test_MailboxReads_6 :
    ∃ (s : State) (r : MgmtReq) (k : BitVec 16) (n : Nat),
    s.quiet = true ∧
    s.takes r (.readLog k) ∧
    n = min (min k.toNat 4094) s.flt.log.length :=
  ⟨sv, {}, 5, 0,
    by decide +kernel, by unfold State.takes; decide +kernel, by decide +kernel⟩

/-- The hypotheses of MailboxReads, clause 7, hold together. -/
theorem test_MailboxReads_7 :
    ∃ (s : State) (r : MgmtReq) (k : BitVec 8) (l : List SilEntry),
    s.quiet = true ∧
    s.takes r (.traceRead k) ∧
    k.toNat < 4 ∧
    l = (s.silFifo k.toNat).entries.take 2047 :=
  ⟨sv, {}, 1, [],
    by decide +kernel, by unfold State.takes; decide +kernel, by decide +kernel⟩

/-- The hypotheses of MailboxReads, clause 8, hold together. -/
theorem test_MailboxReads_8 :
    ∃ (s : State) (r : MgmtReq) (n : BitVec 256),
    s.quiet = true ∧
    s.takes r (.attest n) ∧
    s.mgmt.fuses.lifecycle ≠ 7 ∧
    s.mgmt.fuses.lifecycle ≠ 15 ∧
    s.mode.identityReady = true :=
  ⟨sv, {}, 5,
    by decide +kernel, by unfold State.takes; decide +kernel, by decide +kernel⟩

/-- The hypotheses of MailboxReads, clause 9, hold together. -/
theorem test_MailboxReads_9 :
    ∃ (s : State) (r : MgmtReq) (n : BitVec 256),
    s.quiet = true ∧
    s.takes r (.attest n) ∧
    (s.mgmt.fuses.lifecycle = 7 ∨ s.mgmt.fuses.lifecycle = 15) :=
  ⟨fus sv fun f => { f with lifecycle := 7 }, {}, 5,
    by decide +kernel, by unfold State.takes; decide +kernel, by decide +kernel⟩

/-- The hypotheses of MailboxReads, clause 10, hold together. -/
theorem test_MailboxReads_10 :
    ∃ (s : State) (r : MgmtReq) (n : BitVec 256),
    s.quiet = true ∧
    s.takes r (.attest n) ∧
    s.mgmt.fuses.lifecycle ≠ 7 ∧
    s.mgmt.fuses.lifecycle ≠ 15 ∧
    s.mode.identityReady = false :=
  ⟨{ sv with mode := { fwRunning := true } }, {}, 5,
    by decide +kernel, by unfold State.takes; decide +kernel, by decide +kernel⟩

/-- The hypotheses of MailboxReads, clause 11, hold together. -/
theorem test_MailboxReads_11 :
    ∃ (s : State) (r : MgmtReq) (i : BitVec 8),
    s.quiet = true ∧
    s.takes r (.getCert i) ∧
    s.mgmt.flashAbsent = false ∧
    (∀ k ≤ i.toNat, leAt (memRange s.mgmt.flash (certBase + 3208 * k) 4) 0 4 ≠ 0xFFFFFFFF) :=
  ⟨{ sv with mgmt := { sv.mgmt with flash := cellsAt certBase [1] } }, {}, 0,
    by decide +kernel, by unfold State.takes; decide +kernel, by decide +kernel⟩

/-- The hypotheses of MailboxReads, clause 12, hold together. -/
theorem test_MailboxReads_12 :
    ∃ (s : State) (r : MgmtReq) (i : BitVec 8) (k : Nat),
    s.quiet = true ∧
    s.takes r (.getCert i) ∧
    s.mgmt.flashAbsent = false ∧
    k ≤ i.toNat ∧
    leAt (memRange s.mgmt.flash (certBase + 3208 * k) 4) 0 4 = 0xFFFFFFFF :=
  ⟨sv, {}, 0, 0,
    by decide +kernel, by unfold State.takes; decide +kernel, by decide +kernel⟩

/-- The hypotheses of FaultClears, clause 1, hold together. -/
theorem test_FaultClears_1 :
    ∃ (s : State) (r : MgmtReq) (n : BitVec 16),
    s.quiet = true ∧
    s.takes r (.faultClear 0 n) ∧
    (defaultSev n.toNat).isSome = true ∧
    (¬(832 ≤ n.toNat ∧ n.toNat < 928 ∧ (n.toNat - 832) % 24 = 16)) :=
  ⟨sv, {}, 1,
    by decide +kernel, by unfold State.takes; decide +kernel, by decide +kernel⟩

/-- The hypotheses of FaultClears, clause 2, hold together. -/
theorem test_FaultClears_2 :
    ∃ (s : State) (r : MgmtReq) (n : BitVec 16),
    s.takes r (.faultClear 0 n) ∧
    832 ≤ n.toNat ∧
    n.toNat < 928 ∧
    (n.toNat - 832) % 24 = 16 :=
  ⟨sv, {}, 848,
    by unfold State.takes; decide +kernel, by decide +kernel⟩

/-- The hypotheses of FaultClears, clause 3, hold together. -/
theorem test_FaultClears_3 :
    ∃ (s : State) (r : MgmtReq) (n : BitVec 16),
    s.quiet = true ∧
    s.takes r (.faultClear 0 n) ∧
    defaultSev n.toNat = none :=
  ⟨sv, {}, 1160,
    by decide +kernel, by unfold State.takes; decide +kernel, by decide +kernel⟩

/-- The hypotheses of FaultClears, clause 4, hold together. -/
theorem test_FaultClears_4 :
    ∃ (s : State) (r : MgmtReq) (f : BitVec 16),
    s.quiet = true ∧
    s.takes r (.faultClear 1 f) ∧
    f.toNat < 32 ∧
    s.on (Reg.FL_STATUS f.toNat) Fld.FL_STATUS.FENCED = true ∧
    s.md ≠ .quarantine ∧
    s.on (Reg.FL_STATUS f.toNat) Fld.FL_STATUS.UNFENCING = false ∧
    s.viralPorts f.toNat = [] :=
  ⟨sv.set1 (Reg.FL_STATUS 3) Fld.FL_STATUS.FENCED, {}, 3,
    by decide +kernel, by unfold State.takes; decide +kernel, by decide +kernel⟩

/-- The hypotheses of FaultClears, clause 5, hold together. -/
theorem test_FaultClears_5 :
    ∃ (s : State) (r : MgmtReq) (f : BitVec 16),
    s.quiet = true ∧
    s.takes r (.faultClear 1 f) ∧
    f.toNat < 32 ∧
    s.on (Reg.FL_STATUS f.toNat) Fld.FL_STATUS.FENCED = true ∧
    (s.md = .quarantine ∨ s.on (Reg.FL_STATUS f.toNat) Fld.FL_STATUS.UNFENCING = true) :=
  ⟨(sv.set1 (Reg.FL_STATUS 3) Fld.FL_STATUS.FENCED).set1 (Reg.FL_STATUS 3) Fld.FL_STATUS.UNFENCING, {}, 3,
    by decide +kernel, by unfold State.takes; decide +kernel, by decide +kernel⟩

/-- The hypotheses of FaultClears, clause 6, hold together. -/
theorem test_FaultClears_6 :
    ∃ (s : State) (r : MgmtReq) (f : BitVec 16),
    s.quiet = true ∧
    s.takes r (.faultClear 1 f) ∧
    f.toNat < 32 ∧
    s.on (Reg.FL_STATUS f.toNat) Fld.FL_STATUS.FENCED = false :=
  ⟨sv, {}, 3,
    by decide +kernel, by unfold State.takes; decide +kernel, by decide +kernel⟩

/-- The hypotheses of FaultClears, clause 7, hold together. -/
theorem test_FaultClears_7 :
    ∃ (s : State) (r : MgmtReq) (f : BitVec 16),
    s.quiet = true ∧
    s.takes r (.faultClear 2 f) ∧
    f.toNat < 32 :=
  ⟨sv, {}, 3,
    by decide +kernel, by unfold State.takes; decide +kernel, by decide +kernel⟩

/-- The hypotheses of FaultClears, clause 8, hold together. -/
theorem test_FaultClears_8 :
    ∃ (s : State) (r : MgmtReq) (f : BitVec 16),
    s.quiet = true ∧
    s.takes r (.faultClear 3 f) ∧
    f.toNat < 32 :=
  ⟨sv, {}, 3,
    by decide +kernel, by unfold State.takes; decide +kernel, by decide +kernel⟩

/-- The hypotheses of FaultClears, clause 9, hold together. -/
theorem test_FaultClears_9 :
    ∃ (s : State) (c : Instr) (r : MgmtReq) (f : BitVec 16) (k : BitVec 8),
    s.quiet = true ∧
    (c = .faultClearFlacon r f ∧ k = 1 ∨ c = .faultClearFlFerr r f ∧ k = 2 ∨ c = .faultClearFlViol r f ∧ k = 3) ∧
    s.takes r (.faultClear k f) ∧
    32 ≤ f.toNat :=
  ⟨sv, .faultClearFlacon {} 40, {}, 40, 1,
    by decide +kernel, by decide +kernel, by unfold State.takes; decide +kernel, by decide +kernel⟩

/-- The hypotheses of FaultClears, clause 10, hold together. -/
theorem test_FaultClears_10 :
    ∃ (s : State) (r : MgmtReq),
    s.quiet = true ∧
    s.takes r (.faultClear 4 0) :=
  ⟨sv, {},
    by decide +kernel, by unfold State.takes; decide +kernel⟩

/-- The hypotheses of FaultClears, clause 11, hold together. -/
theorem test_FaultClears_11 :
    ∃ (s : State) (r : MgmtReq),
    s.quiet = true ∧
    s.takes r (.faultClear 5 0) :=
  ⟨sv, {},
    by decide +kernel, by unfold State.takes; decide +kernel⟩

/-- The hypotheses of MailboxSettings, clause 1, hold together. -/
theorem test_MailboxSettings_1 :
    ∃ (s : State) (r : MgmtReq) (q : BitVec 8) (f : BitVec 8) (w : BitVec 32) (e : WfqEnt),
    s.quiet = true ∧
    s.takes r (.setWeight q f w) ∧
    q.toNat < 128 ∧
    f.toNat < 32 ∧
    s.pairOk q.toNat f.toNat = true ∧
    e = tabGet (s.schedPort q.toNat).wfq f.toNat {} ∧
    e.weightMin ≤ w.toNat ∧
    w.toNat ≤ e.weightMax :=
  ⟨wf8, {}, 0, 0, 5, { weight := 2, weightMin := 1, weightMax := 8 },
    by decide +kernel, by unfold State.takes; decide +kernel, by decide +kernel⟩

/-- The hypotheses of MailboxSettings, clause 2, hold together. -/
theorem test_MailboxSettings_2 :
    ∃ (s : State) (r : MgmtReq) (q : BitVec 8) (f : BitVec 8) (w : BitVec 32) (e : WfqEnt),
    s.quiet = true ∧
    s.takes r (.setWeight q f w) ∧
    q.toNat < 128 ∧
    f.toNat < 32 ∧
    e = tabGet (s.schedPort q.toNat).wfq f.toNat {} ∧
    (s.pairOk q.toNat f.toNat = false ∨ w.toNat < e.weightMin ∨ e.weightMax < w.toNat) :=
  ⟨wf8, {}, 0, 0, 9, { weight := 2, weightMin := 1, weightMax := 8 },
    by decide +kernel, by unfold State.takes; decide +kernel, by decide +kernel⟩

/-- The hypotheses of MailboxSettings, clause 3, hold together. -/
theorem test_MailboxSettings_3 :
    ∃ (s : State) (r : MgmtReq) (q : BitVec 8) (f : BitVec 8) (x : BitVec 32) (e : Shaper),
    s.quiet = true ∧
    s.takes r (.setRate q f x) ∧
    q.toNat < 128 ∧
    f.toNat < 32 ∧
    tabFind (s.schedPort q.toNat).shapers f.toNat = some e ∧
    10 ≤ x.toNat ∧
    x.toNat ≤ e.maxRate :=
  ⟨wf8, {}, 0, 0, 500, { rate := 100, burst := 4096, maxRate := 1000 },
    by decide +kernel, by unfold State.takes; decide +kernel, by decide +kernel⟩

/-- The hypotheses of MailboxSettings, clause 4, hold together. -/
theorem test_MailboxSettings_4 :
    ∃ (s : State) (r : MgmtReq) (q : BitVec 8) (f : BitVec 8) (x : BitVec 32) (e : Shaper),
    s.quiet = true ∧
    s.takes r (.setRate q f x) ∧
    q.toNat < 128 ∧
    f.toNat < 32 ∧
    tabFind (s.schedPort q.toNat).shapers f.toNat = some e ∧
    (x.toNat < 10 ∨ e.maxRate < x.toNat) :=
  ⟨wf8, {}, 0, 0, 9, { rate := 100, burst := 4096, maxRate := 1000 },
    by decide +kernel, by unfold State.takes; decide +kernel, by decide +kernel⟩

/-- The hypotheses of MailboxSettings, clause 5, hold together. -/
theorem test_MailboxSettings_5 :
    ∃ (s : State) (r : MgmtReq) (k : BitVec 8) (en : Bool) (eg : Bool) (f : SilFilter) (g : SilFilter) (n : Nat) (x : SilFilter),
    s.quiet = true ∧
    s.takes r (.traceSet k en eg f g) ∧
    k.toNat < 4 ∧
    (n = 0 ∧ x = f ∨ n = 1 ∧ x = g) :=
  ⟨sv, {}, 1, true, true, { en := true }, {}, 0, { en := true },
    by decide +kernel, by unfold State.takes; decide +kernel, by decide +kernel⟩

/-- The hypotheses of MailboxSettings, clause 6, hold together. -/
theorem test_MailboxSettings_6 :
    ∃ (s : State) (r : MgmtReq) (k : BitVec 8),
    s.quiet = true ∧
    s.takes r (.traceFlush k) ∧
    k.toNat < 4 :=
  ⟨sv, {}, 1,
    by decide +kernel, by unfold State.takes; decide +kernel, by decide +kernel⟩

/-- The hypotheses of MailboxSettings, clause 7, hold together. -/
theorem test_MailboxSettings_7 :
    ∃ (s : State) (r : MgmtReq) (f : BitVec 8) (b : Word) (x : BitVec 32),
    s.quiet = true ∧
    s.takes r (.mirrorSet f b x) ∧
    f.toNat < 32 ∧
    b.toNat < 2 ^ 52 ∧
    x.toNat < 64 :=
  ⟨sv, {}, 1, 0x1000, 3,
    by decide +kernel, by unfold State.takes; decide +kernel, by decide +kernel⟩

/-- The hypotheses of MailboxSettings, clause 8, hold together. -/
theorem test_MailboxSettings_8 :
    ∃ (s : State) (r : MgmtReq) (q : BitVec 16) (p : PortRec),
    s.takes r (.retrain q) ∧
    q.toNat < 128 ∧
    s.portRec q.toNat = some p ∧
    p.port = q.toNat ∧
    p.fabric = false ∧
    p.hotplug = false ∧
    p.role = .downstream ∧
    p.lingerMs ≠ 0 ∧
    s.portIdle q.toNat ∧
    s.on (Reg.PT_STD_STATUS q.toNat) Fld.PT_STD_STATUS.DL_UP = true :=
  ⟨dl sv 4, {}, 4, pD,
    by unfold State.takes; decide +kernel, by decide +kernel, by decide +kernel, by decide +kernel, by decide +kernel, (by decide +kernel), by decide +kernel, by decide +kernel, portIdle_of (by decide +kernel), by decide +kernel⟩

/-- The hypotheses of MailboxSettings, clause 9, hold together. -/
theorem test_MailboxSettings_9 :
    ∃ (s : State) (r : MgmtReq) (q : BitVec 16) (p : PortRec),
    s.quiet = true ∧
    s.takes r (.retrain q) ∧
    q.toNat < 128 ∧
    s.portRec q.toNat = some p ∧
    p.port = q.toNat ∧
    p.fabric = true ∧
    (∀ l ∈ p.lanes, l < 512) ∧
    s.linkState q.toNat = 0 :=
  ⟨sv, {}, 6, pF,
    by decide +kernel, by unfold State.takes; decide +kernel, by decide +kernel⟩

/-- The hypotheses of MailboxSettings, clause 10, hold together. -/
theorem test_MailboxSettings_10 :
    ∃ (s : State) (r : MgmtReq) (q : BitVec 16),
    s.quiet = true ∧
    s.takes r (.retrain q) ∧
    q.toNat < 128 ∧
    s.portRec q.toNat = none :=
  ⟨sv, {}, 9,
    by decide +kernel, by unfold State.takes; decide +kernel, by decide +kernel⟩

/-- The hypotheses of MailboxSettings, clause 11, hold together. -/
theorem test_MailboxSettings_11 :
    ∃ (s : State) (r : MgmtReq) (l : BitVec 16),
    s.quiet = true ∧
    s.takes r (.laneDisable l 1) ∧
    l.toNat < 512 ∧
    s.on (Reg.LN_CTL l.toNat) Fld.LN_CTL.DISABLE = false ∧
    s.laneActive l.toNat = false ∧
    s.stage l.toNat ≠ Stage.TEST ∧
    (∀ p, s.lanePort l.toNat = some p → p.port < 128) :=
  ⟨sv, {}, 24,
    by decide +kernel, by unfold State.takes; decide +kernel, by decide +kernel, by decide +kernel, by decide +kernel, by decide +kernel, of_all (by decide +kernel)⟩

/-- The hypotheses of MailboxSettings, clause 12, hold together. -/
theorem test_MailboxSettings_12 :
    ∃ (s : State) (r : MgmtReq) (l : BitVec 16) (p : PortRec),
    s.quiet = true ∧
    s.takes r (.laneDisable l 0) ∧
    l.toNat < 512 ∧
    s.lanePort l.toNat = some p ∧
    p.fabric = true ∧
    s.on (Reg.LN_CTL l.toNat) Fld.LN_CTL.DISABLE = true ∧
    s.lanesTrain = true :=
  ⟨sv.set1 (Reg.LN_CTL 24) Fld.LN_CTL.DISABLE, {}, 24, pF,
    by decide +kernel, by unfold State.takes; decide +kernel, by decide +kernel⟩

/-- The hypotheses of MailboxSettings, clause 13, hold together. -/
theorem test_MailboxSettings_13 :
    ∃ (s : State) (r : MgmtReq) (l : BitVec 16) (v : BitVec 8),
    s.quiet = true ∧
    s.takes r (.laneDisable l v) ∧
    (512 ≤ l.toNat ∨ 1 < v.toNat) :=
  ⟨sv, {}, 600, 0,
    by decide +kernel, by unfold State.takes; decide +kernel, by decide +kernel⟩

/-- The hypotheses of MailboxSettings, clause 14, hold together. -/
theorem test_MailboxSettings_14 :
    ∃ (s : State) (r : MgmtReq) (x : BitVec 8),
    s.takes r (.modeReq x) ∧
    x.toNat = 11 ∧
    s.md = .boot ∧
    s.inRecovery = false :=
  ⟨bt, {}, 11,
    by unfold State.takes; decide +kernel, by decide +kernel⟩

/-- The hypotheses of MailboxSettings, clause 15, hold together. -/
theorem test_MailboxSettings_15 :
    ∃ (s : State) (r : MgmtReq) (x : BitVec 8),
    s.takes r (.modeReq x) ∧
    x.toNat = 10 ∧
    s.md ∈ [Mode.compose, .serve, .recompose, .revive] :=
  ⟨sv, {}, 10,
    by unfold State.takes; decide +kernel, by decide +kernel⟩

/-- The hypotheses of MailboxSettings, clause 16, hold together. -/
theorem test_MailboxSettings_16 :
    ∃ (s : State) (r : MgmtReq) (x : BitVec 8),
    s.takes r (.modeReq x) ∧
    x.toNat = 2 ∧
    s.md = .linktest :=
  ⟨mk .linktest none, {}, 2,
    by unfold State.takes; decide +kernel, by decide +kernel⟩

/-- The hypotheses of MailboxSettings, clause 17, hold together. -/
theorem test_MailboxSettings_17 :
    ∃ (s : State) (r : MgmtReq) (x : BitVec 8),
    s.takes r (.modeReq x) ∧
    s.modeReqOk x.toNat = false :=
  ⟨sv, {}, 3,
    by unfold State.takes; decide +kernel, by decide +kernel⟩

/-- The hypotheses of RegionBatches, clause 1, hold together. -/
theorem test_RegionBatches_1 :
    ∃ (s : State) (r : MgmtReq) (f : BitVec 8) (n : BitVec 8) (l : List RegionEntry),
    s.takes r (.regionBatch f n l) ∧
    l.length = n.toNat ∧
    1 ≤ n.toNat ∧
    n.toNat ≤ 16 ∧
    f.toNat < 32 ∧
    (∀ e ∈ l, entryOk f e = true) ∧
    s.flaconBusy f.toNat = none ∧
    s.checkBatch f.toNat s.acc.regions (l.map entryOp) 1 = (.ok, 0) ∧
    s.canAdvance f.toNat false = true ∧
    s.acd.trk = [] ∧
    s.home = [] :=
  ⟨lv, {}, 0, 1, [ins],
    by unfold State.takes; decide +kernel, by decide +kernel⟩

/-- The hypotheses of RegionBatches, clause 2, hold together. -/
theorem test_RegionBatches_2 :
    ∃ (s : State) (r : MgmtReq) (f : BitVec 8) (e : RegionEntry),
    s.takes r (.regionBatch f 1 [e]) ∧
    f.toNat < 32 ∧
    entryOk f e = true ∧
    (e.op = 1 ∨ e.op = 2) ∧
    s.flaconBusy f.toNat = none ∧
    s.checkRegionOp f.toNat s.acc.regions (entryOp e) = .ok ∧
    s.canAdvance f.toNat false = true ∧
    s.acd.trk = [] ∧
    s.home = [] :=
  ⟨lv, {}, 0, ins,
    by unfold State.takes; decide +kernel, by decide +kernel⟩

/-- The hypotheses of RegionBatches, clause 3, hold together. -/
theorem test_RegionBatches_3 :
    ∃ (s : State) (r : MgmtReq) (f : BitVec 8) (n : BitVec 8) (l : List RegionEntry),
    s.quiet = true ∧
    s.takes r (.regionBatch f n l) ∧
    l.length ≠ n.toNat :=
  ⟨lv, {}, 0, 2, [ins],
    by decide +kernel, by unfold State.takes; decide +kernel, by decide +kernel⟩

/-- The hypotheses of RegionBatches, clause 4, hold together. -/
theorem test_RegionBatches_4 :
    ∃ (s : State) (r : MgmtReq) (f : BitVec 8) (n : BitVec 8) (l : List RegionEntry) (k : List RegionEntry) (e : RegionEntry) (x : List RegionEntry),
    s.quiet = true ∧
    s.takes r (.regionBatch f n l) ∧
    l.length = n.toNat ∧
    n.toNat ≤ 16 ∧
    f.toNat < 32 ∧
    l = k ++ e :: x ∧
    (∀ y ∈ k, entryOk f y = true) ∧
    entryOk f e = false :=
  ⟨lv, {}, 0, 2, [ins, { ins with op := 9 }], [ins], { ins with op := 9 }, [],
    by decide +kernel, by unfold State.takes; decide +kernel, by decide +kernel⟩

/-- The hypotheses of RegionBatches, clause 5, hold together. -/
theorem test_RegionBatches_5 :
    ∃ (s : State) (r : MgmtReq) (f : BitVec 8) (n : BitVec 8) (l : List RegionEntry),
    s.quiet = true ∧
    s.takes r (.regionBatch f n l) ∧
    l.length = n.toNat ∧
    1 ≤ n.toNat ∧
    n.toNat ≤ 16 ∧
    f.toNat < 32 ∧
    (∀ e ∈ l, entryOk f e = true) ∧
    s.on (Reg.FL_STATUS f.toNat) Fld.FL_STATUS.FENCED = true :=
  ⟨lv.set1 (Reg.FL_STATUS 0) Fld.FL_STATUS.FENCED, {}, 0, 1, [ins],
    by decide +kernel, by unfold State.takes; decide +kernel, by decide +kernel⟩

/-- The hypotheses of RegionBatches, clause 6, hold together. -/
theorem test_RegionBatches_6 :
    ∃ (s : State) (r : MgmtReq) (f : BitVec 8) (n : BitVec 8) (l : List RegionEntry) (x : RegionStatus) (i : Nat),
    s.quiet = true ∧
    s.takes r (.regionBatch f n l) ∧
    l.length = n.toNat ∧
    1 ≤ n.toNat ∧
    n.toNat ≤ 16 ∧
    f.toNat < 32 ∧
    (∀ e ∈ l, entryOk f e = true) ∧
    s.flaconBusy f.toNat = none ∧
    s.checkBatch f.toNat s.acc.regions (l.map entryOp) 1 = (x, i) ∧
    x ≠ .ok ∧
    x ≠ .regionOverlap :=
  ⟨lv, {}, 0, 1, [{ ins with op := 3, perms := 0, stop := 0 }], .indexFree, 1,
    by decide +kernel, by unfold State.takes; decide +kernel, by decide +kernel⟩

/-- The hypotheses of RegionBatches, clause 7, hold together. -/
theorem test_RegionBatches_7 :
    ∃ (s : State) (r : MgmtReq) (f : BitVec 8) (n : BitVec 8) (l : List RegionEntry),
    s.quiet = true ∧
    s.takes r (.regionBatch f n l) ∧
    l.length = n.toNat ∧
    1 ≤ n.toNat ∧
    n.toNat ≤ 16 ∧
    f.toNat < 32 ∧
    (∀ e ∈ l, entryOk f e = true) ∧
    s.flaconBusy f.toNat = none ∧
    s.checkBatch f.toNat s.acc.regions (l.map entryOp) 1 = (.ok, 0) ∧
    s.canAdvance f.toNat false = false :=
  ⟨lag, {}, 0, 1, [ins],
    by decide +kernel, by unfold State.takes; decide +kernel, by decide +kernel⟩

/-- The hypotheses of StagesAndCommits, clause 1, hold together. -/
theorem test_StagesAndCommits_1 :
    ∃ (s : State) (c : Instr) (r : MgmtReq) (k : BitVec 8) (d : List Byte) (m : MgmtCmd) (base : Nat),
    (c = .formulaStage r k 0 d ∧ m = .formulaStage k 0 d ∧ base = fmlSlotBase k.toNat ∧ s.directory.fmlActive ≠ k.toNat ∨ c = .fwStage r k 0 d ∧ m = .fwStage k 0 d ∧ base = fwSlotBase k.toNat ∧ s.directory.fwActive ≠ k.toNat) ∧
    s.takes r m ∧
    Memory.wf s.mgmt.flash = true ∧
    k.toNat ≤ 1 ∧
    1 ≤ d.length ∧
    d.length ≤ 65512 ∧
    s.mgmt.flashAbsent = false :=
  ⟨sv, .formulaStage {} 1 0 [1, 2], {}, 1, [1, 2], .formulaStage 1 0 [1, 2], fmlSlotBase 1,
    by decide +kernel, by unfold State.takes; decide +kernel, by decide +kernel⟩

/-- The hypotheses of StagesAndCommits, clause 2, hold together. -/
theorem test_StagesAndCommits_2 :
    ∃ (s : State) (c : Instr) (r : MgmtReq) (k : BitVec 8) (o : BitVec 32) (d : List Byte) (m : MgmtCmd) (a : Nat) (size : Nat),
    (c = .formulaStage r k o d ∧ m = .formulaStage k o d ∧ a = fmlSlotBase k.toNat + o.toNat ∧ size = fmlSlotSize ∧ s.directory.fmlActive ≠ k.toNat ∨ c = .fwStage r k o d ∧ m = .fwStage k o d ∧ a = fwSlotBase k.toNat + o.toNat ∧ size = fwSlotSize ∧ s.directory.fwActive ≠ k.toNat) ∧
    s.takes r m ∧
    k.toNat ≤ 1 ∧
    o.toNat % 256 = 0 ∧
    o.toNat + d.length ≤ size ∧
    1 ≤ d.length ∧
    d.length ≤ 65512 ∧
    s.mgmt.flashAbsent = false :=
  ⟨sv, .fwStage {} 1 256 [1, 2], {}, 1, 256, [1, 2], .fwStage 1 256 [1, 2], fwSlotBase 1 + 256, fwSlotSize,
    by decide +kernel, by unfold State.takes; decide +kernel, by decide +kernel⟩

/-- The hypotheses of StagesAndCommits, clause 3, hold together. -/
theorem test_StagesAndCommits_3 :
    ∃ (s : State) (c : Instr) (r : MgmtReq) (k : BitVec 8) (o : BitVec 32) (d : List Byte) (m : MgmtCmd) (size : Nat),
    s.quiet = true ∧
    (c = .formulaStage r k o d ∧ m = .formulaStage k o d ∧ size = fmlSlotSize ∧ s.directory.fmlActive = k.toNat ∨ c = .fwStage r k o d ∧ m = .fwStage k o d ∧ size = fwSlotSize ∧ s.directory.fwActive = k.toNat) ∧
    s.takes r m ∧
    k.toNat ≤ 1 ∧
    o.toNat % 256 = 0 ∧
    o.toNat + d.length ≤ size ∧
    1 ≤ d.length ∧
    d.length ≤ 65512 :=
  ⟨sv, .formulaStage {} 0 0 [1, 2], {}, 0, 0, [1, 2], .formulaStage 0 0 [1, 2], fmlSlotSize,
    by decide +kernel, by decide +kernel, by unfold State.takes; decide +kernel, by decide +kernel⟩

/-- The hypotheses of StagesAndCommits, clause 4, hold together. -/
theorem test_StagesAndCommits_4 :
    ∃ (s : State) (r : MgmtReq) (k : BitVec 8) (f : Formula),
    s.takes r (.formulaCommit k 1) ∧
    k.toNat ≤ 1 ∧
    (s.md = .serve ∨ s.inRecovery = true) ∧
    s.validateSlot k.toNat r.v.sig = .inl f :=
  ⟨prs (img sv 0), {}, 0, fmlX,
    by unfold State.takes; decide +kernel, by decide +kernel, by decide +kernel, slot_valid (m := 0) (by decide) rfl (by decide +kernel) rfl (by decide +kernel) (by decide +kernel)⟩

/-- The hypotheses of StagesAndCommits, clause 5, hold together. -/
theorem test_StagesAndCommits_5 :
    ∃ (s : State) (r : MgmtReq) (k : BitVec 8) (e : FmlErr),
    s.takes r (.formulaCommit k 1) ∧
    k.toNat ≤ 1 ∧
    (s.md = .serve ∨ s.inRecovery = true) ∧
    s.validateSlot k.toNat r.v.sig = .inr e :=
  ⟨prs sv, {}, 0, errOf sv,
    by unfold State.takes; decide +kernel, by decide +kernel⟩

/-- The hypotheses of StagesAndCommits, clause 6, hold together. -/
theorem test_StagesAndCommits_6 :
    ∃ (s : State) (r : MgmtReq) (k : BitVec 8),
    s.quiet = true ∧
    s.takes r (.formulaCommit k 1) ∧
    k.toNat ≤ 1 ∧
    s.md ≠ .serve ∧
    s.inRecovery = false :=
  ⟨prs bt, {}, 0,
    by decide +kernel, by unfold State.takes; decide +kernel, by decide +kernel⟩

/-- The hypotheses of StagesAndCommits, clause 7, hold together. -/
theorem test_StagesAndCommits_7 :
    ∃ (s : State) (r : MgmtReq) (k : BitVec 8) (f : Formula) (g : Formula),
    s.takes r (.formulaCommit k 0) ∧
    k.toNat ≤ 1 ∧
    s.md = .serve ∧
    s.fml.inForce = some g ∧
    s.validateSlot k.toNat r.v.sig = .inl f ∧
    chipwideChange g f = false ∧
    s.arrayEmpty ∧
    s.decant = [] :=
  ⟨prs { img sv 0 with fml := { inForce := some fmlX } }, {}, 0, fmlX, fmlX,
    by unfold State.takes; decide +kernel, by decide +kernel, by decide +kernel, by decide +kernel, slot_valid (m := 0) (by decide) rfl (by decide +kernel) rfl (by decide +kernel) (by decide +kernel), by decide +kernel, by unfold State.arrayEmpty; decide +kernel, by decide +kernel⟩

/-- The hypotheses of StagesAndCommits, clause 8, hold together. -/
theorem test_StagesAndCommits_8 :
    ∃ (s : State) (r : MgmtReq) (k : BitVec 8) (f : Formula) (g : Formula),
    s.takes r (.formulaCommit k 0) ∧
    k.toNat ≤ 1 ∧
    s.md = .serve ∧
    s.fml.inForce = some g ∧
    s.validateSlot k.toNat r.v.sig = .inl f ∧
    chipwideChange g f = true :=
  ⟨prs (img sv 0), {}, 0, fmlX, fmA,
    by unfold State.takes; decide +kernel, by decide +kernel, by decide +kernel, by decide +kernel, slot_valid (m := 0) (by decide) rfl (by decide +kernel) rfl (by decide +kernel) (by decide +kernel), by decide +kernel⟩

/-- The hypotheses of StagesAndCommits, clause 9, hold together. -/
theorem test_StagesAndCommits_9 :
    ∃ (s : State) (r : MgmtReq) (k : BitVec 8),
    s.quiet = true ∧
    s.takes r (.formulaCommit k 0) ∧
    k.toNat ≤ 1 ∧
    s.md ≠ .serve :=
  ⟨prs bt, {}, 0,
    by decide +kernel, by unfold State.takes; decide +kernel, by decide +kernel⟩

/-- The hypotheses of StagesAndCommits, clause 10, hold together. -/
theorem test_StagesAndCommits_10 :
    ∃ (s : State) (r : MgmtReq) (k : BitVec 8),
    s.takes r (.fwCommit k) ∧
    k.toNat ≤ 1 ∧
    s.serveOrRecovery = true ∧
    fwCheck (fwImage s.mgmt.flash k.toNat) s.mgmt.fuses r.v.sig = none :=
  ⟨prs (img sv 0), {}, 0,
    by unfold State.takes; decide +kernel, by decide +kernel, by decide +kernel, slot_fw (m := 0) (by decide) rfl (by decide +kernel) rfl (by decide +kernel) (by decide +kernel)⟩

/-- The hypotheses of StagesAndCommits, clause 11, hold together. -/
theorem test_StagesAndCommits_11 :
    ∃ (s : State) (r : MgmtReq) (k : BitVec 8) (n : Nat),
    s.quiet = true ∧
    s.takes r (.fwCommit k) ∧
    k.toNat ≤ 1 ∧
    s.serveOrRecovery = true ∧
    fwCheck (fwImage s.mgmt.flash k.toNat) s.mgmt.fuses r.v.sig = some n :=
  ⟨prs sv, {}, 0, 2049,
    by decide +kernel, by unfold State.takes; decide +kernel, by decide +kernel⟩

/-- The hypotheses of KeysAndFuses, clause 1, hold together. -/
theorem test_KeysAndFuses_1 :
    ∃ (s : State) (r : MgmtReq) (k : BitVec 8) (key : List Byte) (i : Nat) (f : Formula),
    s.takes r (.ownerKey k key) ∧
    key.length = 1793 ∧
    k.toNat ≤ 1 ∧
    s.serveOrRecovery = true ∧
    (s.mgmt.fuses.lifecycle = 1 ∨ (ownerDigest s.mgmt.fuses).isSome = true ∧ r.v.sig = true) ∧
    s.mgmt.fuses.freeEntry i ∧
    s.directory.fmlActive ≠ k.toNat ∧
    validate (slotImage s.mgmt.flash k.toNat) s.mgmt.fuses.serial.toNat (some (shake256 key)) r.v.sig2 = .inl f :=
  ⟨prs (img sv 1), {}, 1, ff 1793, 1, fmlX,
    by unfold State.takes; decide +kernel, List.length_replicate, by decide +kernel, by decide +kernel, by decide +kernel, by unfold Fuses.freeEntry; decide +kernel, by decide +kernel, slot_key rfl (by decide) rfl (by decide +kernel)⟩

/-- The hypotheses of KeysAndFuses, clause 2, hold together. -/
theorem test_KeysAndFuses_2 :
    ∃ (s : State) (r : MgmtReq) (k : BitVec 8) (key : List Byte),
    s.quiet = true ∧
    s.takes r (.ownerKey k key) ∧
    key.length = 1793 ∧
    k.toNat ≤ 1 ∧
    s.serveOrRecovery = true ∧
    s.mgmt.fuses.lifecycle ≠ 1 ∧
    (ownerDigest s.mgmt.fuses = none ∨ r.v.sig = false) :=
  ⟨prs sv, { v := { sig := false } }, 1, z 1793,
    by decide +kernel, by unfold State.takes; decide +kernel, by decide +kernel⟩

/-- The hypotheses of KeysAndFuses, clause 3, hold together. -/
theorem test_KeysAndFuses_3 :
    ∃ (s : State) (r : MgmtReq) (x : BitVec 32),
    s.takes r (.fuseProgram 1 x) ∧
    s.serveOrRecovery = true ∧
    ((s.mgmt.fuses.lifecycle = 1 ∨ s.mgmt.fuses.lifecycle = 3) ∧ (x = 7 ∨ x = 15) ∨ s.mgmt.fuses.lifecycle = 0 ∧ x = 1 ∧ s.mgmt.fuses.serial ≠ 0 ∧ s.mgmt.fuses.seed ≠ 0 ∧ s.mgmt.fuses.vendorKey ≠ []) :=
  ⟨fus (prs sv) fun f => { f with lifecycle := 1 }, {}, 7,
    by unfold State.takes; decide +kernel, by decide +kernel⟩

/-- The hypotheses of KeysAndFuses, clause 4, hold together. -/
theorem test_KeysAndFuses_4 :
    ∃ (s : State) (r : MgmtReq) (x : BitVec 32),
    s.quiet = true ∧
    s.takes r (.fuseProgram 1 x) ∧
    s.serveOrRecovery = true ∧
    (¬((s.mgmt.fuses.lifecycle = 1 ∨ s.mgmt.fuses.lifecycle = 3) ∧ (x = 7 ∨ x = 15) ∨ s.mgmt.fuses.lifecycle = 0 ∧ x = 1 ∧ s.mgmt.fuses.serial ≠ 0 ∧ s.mgmt.fuses.seed ≠ 0 ∧ s.mgmt.fuses.vendorKey ≠ [])) :=
  ⟨prs sv, {}, 1,
    by decide +kernel, by unfold State.takes; decide +kernel, by decide +kernel⟩

/-- The hypotheses of KeysAndFuses, clause 5, hold together. -/
theorem test_KeysAndFuses_5 :
    ∃ (s : State) (r : MgmtReq) (x : BitVec 32),
    s.takes r (.fuseProgram 2 x) ∧
    s.serveOrRecovery = true ∧
    x.toNat ≤ 64 ∧
    s.mgmt.fuses.minSvn ≤ x.toNat :=
  ⟨prs sv, {}, 5,
    by unfold State.takes; decide +kernel, by decide +kernel⟩

/-- The hypotheses of KeysAndFuses, clause 6, hold together. -/
theorem test_KeysAndFuses_6 :
    ∃ (s : State) (r : MgmtReq) (x : BitVec 32),
    s.quiet = true ∧
    s.takes r (.fuseProgram 2 x) ∧
    s.serveOrRecovery = true ∧
    x.toNat ≤ 64 ∧
    x.toNat < s.mgmt.fuses.minSvn :=
  ⟨fus (prs sv) fun f => { f with minSvn := 9 }, {}, 5,
    by decide +kernel, by unfold State.takes; decide +kernel, by decide +kernel⟩

/-- The hypotheses of KeysAndFuses, clause 7, hold together. -/
theorem test_KeysAndFuses_7 :
    ∃ (s : State) (r : MgmtReq) (x : BitVec 32) (i : Nat),
    s.takes r (.fuseProgram 3 x) ∧
    s.serveOrRecovery = true ∧
    x.toNat < 16 ∧
    x.toNat &&& s.mgmt.fuses.vendorRevoke.toNat = s.mgmt.fuses.vendorRevoke.toNat ∧
    i < 4 ∧
    (tabFind s.mgmt.fuses.vendorKey i).isSome = true ∧
    s.mgmt.fuses.badEntries.getLsbD i = false ∧
    x.toNat.testBit i = false :=
  ⟨fus (prs sv) fun f => { f with vendorKey := [(0, 1), (1, 2)] }, {}, 1, 1,
    by unfold State.takes; decide +kernel, by decide +kernel⟩

/-- The hypotheses of KeysAndFuses, clause 8, hold together. -/
theorem test_KeysAndFuses_8 :
    ∃ (s : State) (r : MgmtReq) (x : BitVec 32),
    s.quiet = true ∧
    s.takes r (.fuseProgram 3 x) ∧
    s.serveOrRecovery = true ∧
    x.toNat < 16 ∧
    (x.toNat &&& s.mgmt.fuses.vendorRevoke.toNat ≠ s.mgmt.fuses.vendorRevoke.toNat ∨ ∀ i < 4, (tabFind s.mgmt.fuses.vendorKey i).isSome = true → s.mgmt.fuses.badEntries.getLsbD i = false → x.toNat.testBit i = true) :=
  ⟨prs sv, {}, 1,
    by decide +kernel, by unfold State.takes; decide +kernel, by decide +kernel⟩

/-- The hypotheses of KeysAndFuses, clause 9, hold together. -/
theorem test_KeysAndFuses_9 :
    ∃ (s : State) (r : MgmtReq),
    s.takes r .sealRearm ∧
    s.pins.sealOpen = false ∧
    (ownerDigest s.mgmt.fuses).isSome = true ∧
    r.v.sig = true ∧
    s.mgmt.fuses.sealRearms ≠ s.mgmt.fuses.sealEvents ∧
    s.mgmt.fuses.sealRearms < 15 :=
  ⟨fus sv fun f => { f with sealEvents := 1 }, {},
    by unfold State.takes; decide +kernel, by decide +kernel⟩

/-- The hypotheses of KeysAndFuses, clause 10, hold together. -/
theorem test_KeysAndFuses_10 :
    ∃ (s : State) (r : MgmtReq) (x : Nat),
    s.quiet = true ∧
    s.takes r .sealRearm ∧
    (s.pins.sealOpen = true ∧ x = St.SEALED ∨ s.pins.sealOpen = false ∧ (ownerDigest s.mgmt.fuses = none ∨ r.v.sig = false) ∧ x = St.BAD_SIGNATURE ∨ s.pins.sealOpen = false ∧ (ownerDigest s.mgmt.fuses).isSome = true ∧ r.v.sig = true ∧ (s.mgmt.fuses.sealRearms = s.mgmt.fuses.sealEvents ∨ 15 ≤ s.mgmt.fuses.sealRearms) ∧ x = St.FUSE_ERROR) :=
  ⟨{ sv with pins := { pwronResetN := true, sealOpen := true } }, {}, St.SEALED,
    by decide +kernel, by unfold State.takes; decide +kernel, by decide +kernel⟩

/-- The hypotheses of KeysAndFuses, clause 11, hold together. -/
theorem test_KeysAndFuses_11 :
    ∃ (s : State) (r : MgmtReq),
    s.takes r .keepErase ∧
    (s.inRecovery = true ∨ s.md = .linktest) :=
  ⟨prs (mk .linktest none), {},
    by unfold State.takes; decide +kernel, by decide +kernel⟩

/-- The hypotheses of KeysAndFuses, clause 12, hold together. -/
theorem test_KeysAndFuses_12 :
    ∃ (s : State) (r : MgmtReq),
    s.quiet = true ∧
    s.takes r .keepErase ∧
    s.inRecovery = false ∧
    s.md ≠ .linktest :=
  ⟨prs sv, {},
    by decide +kernel, by unfold State.takes; decide +kernel, by decide +kernel⟩

/-- The hypotheses of ManagementPaths, clause 1, hold together. -/
theorem test_ManagementPaths_1 :
    ∃ (s : State),
    s.quiet = true ∧
    s.pathUp 0 = true :=
  ⟨sv,
    by decide +kernel⟩

/-- The hypotheses of ManagementPaths, clause 2, hold together. -/
theorem test_ManagementPaths_2 :
    ∃ (s : State),
    s.quiet = true ∧
    s.pathUp 0 = true :=
  ⟨sv,
    by decide +kernel⟩

/-- The hypotheses of ManagementPaths, clause 3, hold together. -/
theorem test_ManagementPaths_3 :
    ∃ (s : State),
    s.quiet = true :=
  ⟨sv,
    by decide +kernel⟩

/-- The hypotheses of ManagementPaths, clause 4, hold together. -/
theorem test_ManagementPaths_4 :
    ∃ (s : State) (a : BitVec 32) (x : Nat) (k : RegRow),
    s.md ≠ .retain ∧
    s.pathUp 2 = true ∧
    s.opensAt (.mgmt 2) a.toNat 8 x ∧
    rowAt x = some k ∧
    k.wide = true :=
  ⟨sv, BitVec.ofNat 32 (Reg.MG_PATH_CNT 1), Reg.MG_PATH_CNT 1, row (Reg.MG_PATH_CNT 1),
    by decide +kernel, by decide +kernel, ⟨by decide +kernel, ok_of (by decide +kernel), by decide +kernel, by decide +kernel, by decide +kernel⟩, row_eq (by decide +kernel), by decide +kernel⟩

/-- The hypotheses of ManagementPaths, clause 5, hold together. -/
theorem test_ManagementPaths_5 :
    ∃ (s : State) (a : BitVec 32) (x : Nat) (k : RegRow),
    s.quiet = true ∧
    s.md = .retain ∧
    wordAt a.toNat = some (k, x, false) ∧
    wordAt (a.toNat + 4) = some (k, x, true) :=
  ⟨mk .retain none, BitVec.ofNat 32 Reg.CHIP_TIME, Reg.CHIP_TIME, row Reg.CHIP_TIME,
    by decide +kernel⟩

/-- The hypotheses of ManagementPaths, clause 6, hold together. -/
theorem test_ManagementPaths_6 :
    ∃ (s : State) (l : List Byte) (_v : MgmtVerdict),
    s.quiet = true ∧
    s.pathUp 2 = true ∧
    (s.mgmt.i3cReq ++ l).length ≤ 65536 :=
  ⟨sv, [1, 2], {},
    by decide +kernel⟩

/-- The hypotheses of ManagementPaths, clause 7, hold together. -/
theorem test_ManagementPaths_7 :
    ∃ (s : State) (l : List Byte) (g : Word) (v : MgmtVerdict),
    s.quiet = true ∧
    s.hears { path := 2, tag := g, v := v } ∧
    s.mgmt.i3cReq ++ l = bytesOf 2 0x0001 ++ bytesOf 1 1 ++ bytesOf 1 0 ++ bytesOf 4 0 ++ bytesOf 8 g.toNat :=
  ⟨sv, (bytesOf 2 0x0001 ++ bytesOf 1 1 ++ bytesOf 1 0 ++ bytesOf 4 0 ++ bytesOf 8 5), 5, {},
    by decide +kernel, by unfold State.hears; decide +kernel, by decide +kernel⟩

/-- The hypotheses of ManagementPaths, clause 8, hold together. -/
theorem test_ManagementPaths_8 :
    ∃ (s : State) (l : List Byte) (v : MgmtVerdict) (q : Parsed),
    s.quiet = true ∧
    s.hears { path := 2, tag := q.tag, v := v } ∧
    65536 < (s.mgmt.i3cReq ++ l).length ∧
    q = parseRequest true ((s.mgmt.i3cReq ++ l).take 65536) ∧
    isUnknown q.cmd = false :=
  ⟨{ sv with mgmt := { sv.mgmt with i3cReq := [1, 0] ++ z 65534 } }, [0], {}, parseRequest true (([1, 0] ++ z 65534 ++ [0]).take 65536),
    by decide +kernel, by unfold State.hears; decide +kernel, by rw [List.length_append, List.length_append, z, List.length_replicate]; decide, rfl, by decide +kernel⟩

/-- The hypotheses of ManagementPaths, clause 9, hold together. -/
theorem test_ManagementPaths_9 :
    ∃ (s : State),
    s.quiet = true ∧
    s.pathUp 2 = true :=
  ⟨{ sv with mgmt := { sv.mgmt with i3cResp := [7] } },
    by decide +kernel⟩

/-- The hypotheses of ManagementPaths, clause 10, hold together. -/
theorem test_ManagementPaths_10 :
    ∃ (s : State) (c : Instr) (a : BitVec 7),
    s.quiet = true ∧
    s.pathUp 2 = true ∧
    c ∈ [Instr.i3cSetdasa a, .i3cEntdaa a] :=
  ⟨sv, .i3cSetdasa 5, 5,
    by decide +kernel⟩

/-- The hypotheses of ManagementPaths, clause 11, hold together. -/
theorem test_ManagementPaths_11 :
    ∃ (s : State) (p : Fin 4) (_e : BitVec 8),
    s.quiet = true ∧
    s.pathUp p = true ∧
    (p = 1 ∨ p = 3) :=
  ⟨sv, 3, 9,
    by decide +kernel⟩

/-- The hypotheses of PresenceAndSeal, clause 1, hold together. -/
theorem test_PresenceAndSeal_1 :
    ∃ (s : State),
    s.quiet = true ∧
    s.md ≠ .off ∧
    s.pins.presenceN = true ∧
    s.mgmt.presenceArmed = true ∧
    s.on Reg.MG_SEAL Fld.MG_SEAL.SEAL_BROKEN = false :=
  ⟨sv,
    by decide +kernel⟩

/-- The hypotheses of PresenceAndSeal, clause 2, hold together. -/
theorem test_PresenceAndSeal_2 :
    ∃ (s : State),
    s.quiet = true ∧
    s.md ≠ .off ∧
    (s.pins.presenceN = false ∨ s.mgmt.presenceArmed = false ∨ s.on Reg.MG_SEAL Fld.MG_SEAL.SEAL_BROKEN = true) :=
  ⟨{ sv with pins := { pwronResetN := true, presenceN := false } },
    by decide +kernel⟩

/-- The hypotheses of PresenceAndSeal, clause 3, hold together. -/
theorem test_PresenceAndSeal_3 :
    ∃ (s : State),
    s.quiet = true ∧
    s.md ≠ .off :=
  ⟨sv,
    by decide +kernel⟩

/-- The hypotheses of PresenceAndSeal, clause 4, hold together. -/
theorem test_PresenceAndSeal_4 :
    ∃ (s : State),
    s.quiet = true :=
  ⟨prs sv,
    by decide +kernel⟩

/-- The hypotheses of PresenceAndSeal, clause 5, hold together. -/
theorem test_PresenceAndSeal_5 :
    ∃ (s : State) (p : AccessPath),
    s.quiet = true ∧
    s.mayAct p = true :=
  ⟨prs sv, .bar0,
    by decide +kernel⟩

/-- The hypotheses of PresenceAndSeal, clause 6, hold together. -/
theorem test_PresenceAndSeal_6 :
    ∃ (s : State),
    s.md ≠ .off ∧
    s.pins.vaux = true ∧
    s.on Reg.MG_SEAL Fld.MG_SEAL.LOOP_OPEN = false :=
  ⟨sv,
    by decide +kernel⟩

/-- The hypotheses of PresenceAndSeal, clause 7, hold together. -/
theorem test_PresenceAndSeal_7 :
    ∃ (s : State),
    s.quiet = true ∧
    s.md ≠ .off ∧
    s.pins.vaux = true :=
  ⟨sv,
    by decide +kernel⟩

/-- The hypotheses of PresenceAndSeal, clause 8, hold together. -/
theorem test_PresenceAndSeal_8 :
    ∃ (s : State),
    s.quiet = true ∧
    s.md.clocked = true ∧
    s.on Reg.MG_SEAL Fld.MG_SEAL.FUSE_PENDING = true :=
  ⟨sv.set1 Reg.MG_SEAL Fld.MG_SEAL.FUSE_PENDING,
    by decide +kernel⟩

/-- The hypotheses of PresenceAndSeal, clause 9, hold together. -/
theorem test_PresenceAndSeal_9 :
    ∃ (s : State),
    s.quiet = true ∧
    s.on Reg.MG_SEAL Fld.MG_SEAL.FUSE_PENDING = false :=
  ⟨sv,
    by decide +kernel⟩

/-- The hypotheses of EmptyQueueTicks, clause 1, hold together. -/
theorem test_EmptyQueueTicks_1 :
    ∃ (s : State),
    s.pending = [] ∧
    s.quiet = true ∧
    s.md.clocked = true ∧
    s.ports = [] ∧
    s.time.withheld = 0 ∧
    s.on Reg.CHIP_CLK_STATUS Fld.CHIP_CLK_STATUS.ROOT_LOCK = true :=
  ⟨(svOf []).set1 Reg.CHIP_CLK_STATUS Fld.CHIP_CLK_STATUS.ROOT_LOCK,
    by decide +kernel⟩

/-- The hypotheses of EmptyQueueTicks, clause 2, hold together. -/
theorem test_EmptyQueueTicks_2 :
    ∃ (s : State),
    s.pending = [] ∧
    s.quiet = true ∧
    s.md.clocked = true ∧
    s.time.withheld = 0 ∧
    s.on Reg.CHIP_CLK_STATUS Fld.CHIP_CLK_STATUS.ROOT_LOCK = false :=
  ⟨sv,
    by decide +kernel⟩

/-- The hypotheses of EmptyQueueTicks, clause 3, hold together. -/
theorem test_EmptyQueueTicks_3 :
    ∃ (s : State),
    s.pending = [] ∧
    s.quiet = true ∧
    s.md.clocked = false ∧
    s.md ≠ .off ∧
    s.pins.vaux = true :=
  ⟨mk .retain none,
    by decide +kernel⟩

/-- The hypotheses of EmptyQueueTicks, clause 4, hold together. -/
theorem test_EmptyQueueTicks_4 :
    ∃ (s : State),
    s.pending = [] ∧
    s.quiet = true ∧
    s.md.clocked = false ∧
    (s.md = .off ∨ s.pins.vaux = false) :=
  ⟨mk .off none,
    by decide +kernel⟩

/-- The hypotheses of PinsFollowEveryStep, clause 1, hold together. -/
theorem test_PinsFollowEveryStep_1 :
    ∃ (s : State) (t : State),
    step s = .next t :=
  ⟨sv, nextOf sv,
    next_of (by decide +kernel)⟩

/-! ### WellFormed refuses an ill-formed term at each of its checks -/

theorem test_wf_lowerHalfRead : (Instr.lowerHalfRead .bar0 4).wf = false := by decide
theorem test_wf_upperHalfRead : (Instr.upperHalfRead .bar0 8).wf = false := by decide
theorem test_wf_lowerHalfWrite : (Instr.lowerHalfWrite .bar0 4 0).wf = false := by decide
theorem test_wf_upperHalfWrite : (Instr.upperHalfWrite .bar0 8 0).wf = false := by decide
theorem test_wf_sensorUpdate : (Instr.sensorUpdate ⟨[], []⟩).wf = false := by decide
theorem test_wf_sensorLoads : (Instr.sensorUpdate ⟨List.replicate 16 none, []⟩).wf = false := by decide
theorem test_wf_sdsPllUnlock : (Instr.sdsPllUnlock 1 [3]).wf = false := by decide
theorem test_wf_message_class : (Instr.messageArrival 0 (.link { mc := 8 }) {}).wf = false := by decide
theorem test_wf_message_flacon : (Instr.messageArrival 0 (.link { flacon := 32 }) {}).wf = false := by decide
theorem test_wf_message_addr : (Instr.messageArrival 0 (.link { addr := 2 ^ 52 }) {}).wf = false := by decide
theorem test_wf_message_cells : (Instr.messageArrival 0 (.link { cells := 0 }) {}).wf = false := by decide
theorem test_wf_message_op : (Instr.messageArrival 0 (.link { op := 128 }) {}).wf = false := by decide
theorem test_wf_message_eid : (Instr.messageArrival 0 (.link { srcEid := 2 ^ 14 }) {}).wf = false := by decide
theorem test_wf_message_tag : (Instr.messageArrival 0 (.link { tag := 4096 }) {}).wf = false := by decide
theorem test_wf_message_priv : (Instr.messageArrival 0 (.link { priv := 4 }) {}).wf = false := by decide
theorem test_wf_message_svc : (Instr.messageArrival 0 (.link { svc := 3 }) {}).wf = false := by decide
theorem test_wf_deviceBisnp : (Instr.deviceBisnp 0 (2 ^ 52) 0).wf = false := by decide
theorem test_wf_aliasWrite_empty : (Instr.aliasWrite 0 0 0 [] 0 {}).wf = false := by decide
theorem test_wf_aliasWrite_end : (Instr.aliasWrite 0 0 (2 ^ 36) [1] 0 {}).wf = false := by decide
theorem test_wf_aliasRead_empty : (Instr.aliasRead 0 0 0 0 0 {}).wf = false := by decide
theorem test_wf_aliasRead_end : (Instr.aliasRead 0 0 (2 ^ 36) 1 0 {}).wf = false := by decide
theorem test_wf_fm_path : (Instr.fmIdentify { path := 0 }).wf = false := by decide
theorem test_wf_fm_tunnel : (Instr.fmTunnelManagementCommand { path := 3 } 0 0x5604 [] []).wf = false := by decide
theorem test_wf_fm_listed : (Instr.fmUnsupported { path := 3 } 0x5100).wf = false := by decide
theorem test_wf_slotEnumDone : (Instr.slotEnumDone 0 [(16, 1)]).wf = false := by decide
theorem test_wf_faultOccurrence : (Instr.faultOccurrence { source := 1280 }).wf = false := by decide
theorem test_wf_railFault : (Instr.railFault 1280).wf = false := by decide
theorem test_wf_railFaultEnd : (Instr.railFaultEnd 1280).wf = false := by decide
theorem test_wf_mgmt_listed : (Instr.unsupportedOpcode {} 0x0001).wf = false := by decide
theorem test_wf_mctp : (Instr.mctpSetEndpointId 0 9).wf = false := by decide
theorem test_wf_flit : (Instr.flitReceive 0 { slots := List.replicate 17 { kind := .single, sub := 0, pool := false, msg := {} } } []).wf = false := by decide
theorem test_wf_good : (Instr.upperHalfRead .bar0 4).wf = true ∧ (Instr.messageArrival 0 (.link {}) {}).wf = true := by decide

/-! ### Small runs -/

/-- What holds of the state that a command leaves. -/
def leaves (r : Result) (p : State → Bool) : Bool := match r with
  | .next t => p t
  | _ => false

/-- Releasing PWRON_RESET_N in RESET with VAUX good boots for cause 0x02 (R28). -/
theorem test_run_release : leaves (exec .pwronResetRelease { State.reset with mode := {} }) (fun t =>
    t.md == .boot && t.rd Reg.CHIP_MODE Fld.CHIP_MODE.CAUSE == 2) = true := by decide +kernel
/-- A misaligned access completes with Completer Abort (R4). -/
theorem test_run_abort : leaves (exec (.rcFieldRead .bar0 2 4) sv) (fun t =>
    t.out.head? == some (.completion .bar0 .completerAbort)) = true := by decide +kernel
/-- A signal in DETECT moves that lane, and no other, to TRAIN (R248). -/
theorem test_run_lane_detect : leaves (exec (.laneSignalDetected 24) (stg sv 24 Stage.DETECT)) (fun t =>
    t.stage 24 == Stage.TRAIN && t.stage 25 == sv.stage 25) = true := by decide +kernel
/-- BYPASS shifts out 0 first (R403). -/
theorem test_run_bypass : leaves (exec .jtagBypass sv) (fun t => t.out.contains (.tdo 0)) = true := by decide +kernel
/-- A step takes the first command first, and leaves the other waiting. -/
theorem test_run_queue : leaves (step { sv with pending := [.jtagBypass, .presencePress] }) (fun t =>
    t.pending == [.presencePress] && t.out.contains (.tdo 0)) = true := by decide +kernel

/-! ### The CRCs over the digits 1 to 9, whose values the catalogues of CRCs give for these polynomials -/

/-- The ASCII digits 1 to 9. -/
def digits : List Byte := (List.range 9).map fun i => BitVec.ofNat 8 (0x31 + i)
theorem test_crc32 : crc32 digits = 0xCBF43926 := by decide +kernel
theorem test_crc64 : crc64 digits = 0x62EC59E3F1A4F00A := by decide +kernel
theorem test_crc16 : crc16 0xFFFF 0x313233343536373839 72 = 0x29B1 := by decide +kernel

end Sys2Proof.Tests
end

section
/-!
Counter fields (R10): what a counter field reads after it has been advanced, and the statement on saturation.
-/
namespace Sys2Proof.Machine

/-- The capped sum lies below `2 ^ f.width`, so the write of the field loses no bit of it. -/
theorem rd_addTo (s : State) (a n : Nat) (f : Fld) (h : f.lo + f.width ≤ 64) :
    (s.addTo a f n).rd a f = min (2 ^ f.width - 1) (s.rd a f + n) := by
  have hfit : min (2 ^ f.width - 1) (s.rd a f + n) < 2 ^ f.width :=
    (Nat.min_le_left _ _).trans_lt (Nat.sub_one_lt_of_lt (Nat.two_pow_pos _))
  unfold State.addTo
  rw [rd_wr s a f _ h, Nat.mod_eq_of_lt hfit]

/-- Settles O9: the field reads the smaller of its all-ones value and the sum. -/
theorem countersSaturate : Obligations.CountersSaturate := by
  intro s a n f h
  rw [rd_addTo s a n f h]
  exact ⟨Nat.min_eq_right, Nat.min_eq_left, rfl⟩

end Sys2Proof.Machine
end

section
/-!
Field types (R8): what a write and a read leave in one field of a register whose fields share no bit.
-/
namespace Sys2Proof.Machine

/-- Taking the common bits off a number clears them. -/
theorem testBit_sub_and (o x i : Nat) : (o - (o &&& x)).testBit i = (o.testBit i && !x.testBit i) := by
  have hle : ∀ o x : Nat, o &&& x ≤ o := fun o x => Nat.and_le_left
  have hmod : ∀ o x : Nat, (o &&& x) % 2 = o % 2 * (x % 2) := fun o x => by
    have := Nat.and_mod_two_pow (a := o) (b := x) (n := 1)
    simp only [Nat.pow_one] at this
    rw [this]
    rcases Nat.mod_two_eq_zero_or_one o with h | h <;> rcases Nat.mod_two_eq_zero_or_one x with h' | h' <;> rw [h, h'] <;> rfl
  induction i generalizing o x with
  | zero =>
    simp only [Nat.testBit_zero]
    have h1 := hmod o x
    have h2 := hle o x
    rcases Nat.mod_two_eq_zero_or_one o with h | h <;> rcases Nat.mod_two_eq_zero_or_one x with h' | h' <;>
      rw [h, h'] at h1 <;> simp [h, h'] <;> omega
  | succ i ih =>
    have e : (o - (o &&& x)) / 2 = o / 2 - (o / 2 &&& x / 2) := by
      have h0 : (o &&& x) / 2 = o / 2 &&& x / 2 := Nat.and_div_two
      have h1 := hmod o x
      have h2 := hle o x
      rcases Nat.mod_two_eq_zero_or_one o with h | h <;> rcases Nat.mod_two_eq_zero_or_one x with h' | h' <;>
        rw [h, h'] at h1 <;> omega
    rw [Nat.testBit_succ, Nat.testBit_succ, Nat.testBit_succ, e, ih]

/-- The place of a field. -/
def FieldRow.fld (f : FieldRow) : Fld := ⟨f.lo, f.width⟩

theorem apart_iff (f g : Fld) : f.apart g = true ↔ f.lo + f.width ≤ g.lo ∨ g.lo + g.width ≤ f.lo := by
  unfold Fld.apart
  rw [Bool.or_eq_true, decide_eq_true_iff, decide_eq_true_iff]

/-- What a write of new over old does to the word for one field, by its type. -/
def storeField (old new v : Word) (f : FieldRow) : Word :=
  match f.ty with
  | .rw | .rws => setFld v f.fld (getFld new f.fld)
  | .w1c => setFld v f.fld (getFld old f.fld - (getFld old f.fld &&& getFld new f.fld))
  | .w1s => setFld v f.fld (getFld old f.fld ||| getFld new f.fld)
  | .ro | .wo | .rc | .rwp | .rwf => v

/-- What a read does to the word for one field. -/
def clearField (v : Word) (f : FieldRow) : Word := if f.ty = .rc ∧ 0 ≤ f.lo then setFld v f.fld 0 else v

theorem storeFields_eq (fs : List FieldRow) (old new : Word) : storeFields fs old new = fs.foldl (storeField old new) old := rfl

theorem clearRc_eq (fs : List FieldRow) (v : Word) : clearRc fs 0 v = fs.foldl clearField v := rfl

/-- A field is changed by its own step alone: the others set fields that share no bit with it. -/
theorem getFld_foldl_fields (step : Word → FieldRow → Word) (F : Fld)
    (hstep : ∀ (v : Word) (g : FieldRow), g.lo + g.width ≤ 64 → g.fld.apart F = true → getFld (step v g) F = getFld v F)
    (fs : List FieldRow) (h : ∀ g ∈ fs, g.lo + g.width ≤ 64) (ha : ∀ g ∈ fs, g.fld.apart F = true) (v : Word) :
    getFld (fs.foldl step v) F = getFld v F := by
  induction fs generalizing v with
  | nil => rfl
  | cons g fs ih =>
    simp only [List.mem_cons, forall_eq_or_imp] at h ha
    rw [List.foldl_cons, ih h.2 ha.2, hstep v g h.1 ha.1]

/-- So the fold leaves in a field of the list what its own step leaves there of a word that shows the field as before. -/
theorem getFld_foldl_mem (step : Word → FieldRow → Word) (fs : List FieldRow) (f : FieldRow) (hf : f ∈ fs)
    (hstep : ∀ (v : Word) (g : FieldRow), g.lo + g.width ≤ 64 → g.fld.apart f.fld = true →
      getFld (step v g) f.fld = getFld v f.fld)
    (h : ∀ g ∈ fs, g.lo + g.width ≤ 64) (hp : fs.Pairwise (fun g h => g.lo + g.width ≤ h.lo ∨ h.lo + h.width ≤ g.lo))
    (v : Word) : ∃ w, getFld w f.fld = getFld v f.fld ∧ getFld (fs.foldl step v) f.fld = getFld (step w f) f.fld := by
  obtain ⟨l, r, rfl⟩ := List.append_of_mem hf
  rw [List.pairwise_append, List.pairwise_cons] at hp
  obtain ⟨_, ⟨hr, _⟩, hl⟩ := hp
  have hl' : ∀ g ∈ l, g.fld.apart f.fld = true := fun g hg =>
    (apart_iff _ _).2 (hl g hg f (by simp))
  have hr' : ∀ g ∈ r, g.fld.apart f.fld = true := fun g hg =>
    (apart_iff _ _).2 (hr g hg).symm
  refine ⟨l.foldl step v, getFld_foldl_fields step _ hstep l (fun g hg => h g (by simp [hg])) hl' v, ?_⟩
  rw [List.foldl_append, List.foldl_cons]
  exact getFld_foldl_fields step _ hstep r (fun g hg => h g (by simp [hg])) hr' _

theorem storeField_apart (old new : Word) (F : Fld) (v : Word) (g : FieldRow) (h : g.lo + g.width ≤ 64)
    (ha : g.fld.apart F = true) : getFld (storeField old new v g) F = getFld v F := by
  unfold storeField
  split
  · exact getFld_setFld_apart v _ F _ h ha
  · exact getFld_setFld_apart v _ F _ h ha
  · exact getFld_setFld_apart v _ F _ h ha
  · exact getFld_setFld_apart v _ F _ h ha
  all_goals rfl

theorem clearField_apart (F : Fld) (v : Word) (g : FieldRow) (h : g.lo + g.width ≤ 64)
    (ha : g.fld.apart F = true) : getFld (clearField v g) F = getFld v F := by
  unfold clearField
  split
  · exact getFld_setFld_apart v _ F 0 h ha
  · rfl

/-- What a field holds after its own step: by its type, its new value. -/
theorem storeField_same (old new w : Word) (f : FieldRow) (h : f.lo + f.width ≤ 64) (hw : getFld w f.fld = getFld old f.fld) :
    getFld (storeField old new w f) f.fld =
      match f.ty with
      | .rw | .rws => getFld new f.fld
      | .w1c => getFld old f.fld - (getFld old f.fld &&& getFld new f.fld)
      | .w1s => getFld old f.fld ||| getFld new f.fld
      | .ro | .wo | .rc | .rwp | .rwf => getFld old f.fld := by
  have ho := getFld_lt old f.fld
  have hn := getFld_lt new f.fld
  have hset : ∀ x, x < 2 ^ f.fld.width → getFld (setFld w f.fld x) f.fld = x := fun x hx =>
    (getFld_setFld w f.fld x h).trans (Nat.mod_eq_of_lt hx)
  unfold storeField
  cases f.ty <;> simp only [hw]
  · exact hset _ hn
  · exact hset _ ((Nat.sub_le _ _).trans_lt ho)
  · exact hset _ (Nat.or_lt_two_pow ho hn)
  · exact hset _ hn

/-- Settles O8: fields share no bit, so each type's own step decides. -/
theorem fieldTypes : Obligations.FieldTypes := by
  intro fs old new f hfit hp hf
  obtain ⟨w, hw, e⟩ := getFld_foldl_mem (storeField old new) fs f hf (storeField_apart old new _) hfit hp old
  rw [← storeFields_eq, storeField_same old new w f (hfit f hf) hw] at e
  obtain ⟨w', hw', e'⟩ := getFld_foldl_mem clearField fs f hf (clearField_apart _) hfit hp old
  rw [← clearRc_eq] at e'
  change (_ → getFld (storeFields fs old new) f.fld = _) ∧ (_ → getFld (storeFields fs old new) f.fld = _) ∧
    (∀ i < _, _ → (getFld (storeFields fs old new) f.fld).testBit i = _) ∧
    (∀ i < _, _ → (getFld (storeFields fs old new) f.fld).testBit i = _) ∧ getFld (clearRc fs 0 old) f.fld = _
  refine ⟨?_, ?_, ?_, ?_, ?_⟩
  · rintro (h | h | h | h) <;> rw [e, h] <;> rfl
  · rintro (h | h) <;> rw [e, h] <;> rfl
  · intro i _ h
    rw [e, h]
    exact testBit_sub_and _ _ i
  · intro i _ h
    rw [e, h]
    exact Nat.testBit_or _ _ i
  · rw [e', clearField]
    by_cases h : f.ty = .rc
    · rw [if_pos ⟨h, Nat.zero_le _⟩, if_pos h, getFld_setFld _ _ _ (hfit f hf), Nat.zero_mod]
    · rw [if_neg (fun c => h c.1), if_neg h]
      exact hw'

end Sys2Proof.Machine
end

section
/-!
Steps and time: what the front of the queue and an empty queue do, and what a correction of CHIP_TIME leaves.
-/
namespace Sys2Proof.Machine

/-- Settles O57, by the definition of a step. -/
theorem stepTakesFront : Obligations.StepTakesFront := fun _ _ => rfl

/-- Settles O59, by evaluating the reset state. -/
theorem resetState : Obligations.ResetState := by
  unfold Obligations.ResetState
  decide +kernel


/-- s with other holds of its paths: what a write that comes between two halves may leave (R5). -/
def State.withHold (s : State) (x : Tab HeldHalf) : State := { s with io := { s.io with hold := x } }

@[simp] theorem withHold_reg (s : State) (x : Tab HeldHalf) (a : Nat) : (s.withHold x).reg a = s.reg a := rfl

/-- What a written command answers, from what its effect does beside broken holds. -/
theorem written_answers_of {s : State} {p : AccessPath} {k : State → State} {P : State → Prop} (h : s.mayAct p = true)
    (hk : ∀ x, Answers (done (k (s.withHold x))) P) : Answers (s.written p k) P := written_answers h hk

/-- The same before the end of the command. -/
theorem written_leaves_of {s : State} {p : AccessPath} {k : State → State} {P : State → Prop} (h : s.mayAct p = true)
    (hk : ∀ x, P (k (s.withHold x))) : Leaves (s.written p k) P := written_leaves h fun x => ⟨_, rfl, hk x⟩

/-- What setting the slew leaves, after a change u of a quiet state s that keeps all but the time. -/
theorem setSlew_answers {s : State} (h : s.quiet = true) (d : Int) {P : State → Prop} (r : RegFile) (x : TimeState)
    (r1 : regGet r Reg.CHIP_MODE = s.reg Reg.CHIP_MODE) (r2 : regGet r Reg.PC_SUPV_STATUS = s.reg Reg.PC_SUPV_STATUS)
    (r3 : regGet r Reg.MG_FML_STATUS = s.reg Reg.MG_FML_STATUS)
    (hP : ∀ t : State, t.time = { x with slew := d } → t.mgmt = s.mgmt → t.core = s.core →
      (t.on Reg.CHIP_TIME_CTL Fld.CHIP_TIME_CTL.SLEWING = decide (d ≠ 0)) →
      (∀ a, a ≠ Reg.CHIP_TIME_CTL → t.reg a = regGet r a) → P t) :
    Answers (done (({ s with regs := r, time := x } : State).setSlew d)) P := by
  refine answers_of h rfl rfl rfl rfl rfl rfl ?_ ?_ ?_ fun l a b => hP _ rfl rfl rfl ?_ fun a ha => ?_
  · simpa +decide [State.setSlew, State.wrB] using r1
  · simpa +decide [State.setSlew, State.wrB] using r2
  · simpa +decide [State.setSlew, State.wrB] using r3
  · by_cases hd : d = 0 <;> simp +decide [State.setSlew, State.wrB, State.on, State.rd, getFld_setFld, hd]
  · simp [State.setSlew, State.wrB, ha]

/-- CHIP_TIME is one register. -/
theorem now_of_reg {t s : State} (h : t.reg Reg.CHIP_TIME = s.reg Reg.CHIP_TIME) : t.now = s.now := rd_of_reg h _

/-- CHIP_TIME after n ticks that do not carry it past its last value. -/
theorem now_addTime (s : State) (n : Nat) : (s.addTime n).now = min (2 ^ 64 - 1) (s.now + n) :=
  rd_addTo s _ n _ (by decide)

theorem addTime_regs (s : State) (n a : Nat) (h : a ≠ Reg.CHIP_TIME) : (s.addTime n).reg a = s.reg a := by
  simp [State.addTime, State.addTo, h]

/-- A correction that steps CHIP_TIME at once. -/
theorem correctTime_step {s : State} {d : Int} (h : 0 < d) (hs : s.on Reg.CHIP_TIME_CTL Fld.CHIP_TIME_CTL.STEP = true) :
    s.correctTime d = (s.addTime d.toNat).setSlew 0 := if_pos ⟨h, hs⟩

/-- A correction that starts a slew. -/
theorem correctTime_slew {s : State} {d : Int} (h : ¬ (0 < d ∧ s.on Reg.CHIP_TIME_CTL Fld.CHIP_TIME_CTL.STEP)) :
    s.correctTime d = s.setSlew d := if_neg h

/-- A slew that adds: one tick now, one less to add. -/
theorem slewStep_adds {s : State} (hc : s.md.clocked = true) (h : 0 < s.time.slew) :
    s.slewStep = (s.addTime 1).setSlew (s.time.slew - 1) := by
  simp [State.slewStep, hc, h]

/-- A slew that withholds: one tick of the next beat, one less to withhold. -/
theorem slewStep_withholds {s : State} (hc : s.md.clocked = true) (h : s.time.slew < 0) :
    s.slewStep = ({ s with time := { s.time with withheld := s.time.withheld + 1 } } : State).setSlew (s.time.slew + 1) := by
  have h' : ¬ 0 < s.time.slew := by omega
  simp [State.slewStep, hc, h, h']

/-- A PTM exchange of the enabled upstream port corrects the time. -/
theorem ptm_corrects {s : State} {d : Int} (hc : s.md.clocked = true)
    (he : s.on Reg.CHIP_TIME_CTL Fld.CHIP_TIME_CTL.PTM_EN = true)
    (hr : ∃ r, s.portRec (s.rd Reg.CHIP_TIME_CTL Fld.CHIP_TIME_CTL.PTM_PORT) = some r ∧ r.fabric = false ∧ r.role = .upstream)
    (hu : s.portUp (s.rd Reg.CHIP_TIME_CTL Fld.CHIP_TIME_CTL.PTM_PORT) = true) : s.ptm d = s.correctTime d := by
  obtain ⟨r, hr, hf, hrole⟩ := hr
  simp [State.ptm, hc, he, hr, hf, hrole, hu]

/-- Settles O1: each command comes to a change of CHIP_TIME and a slew that is set. -/
theorem timeCorrections : Obligations.TimeCorrections := by
  refine ⟨?_, ?_, ?_, ?_, ?_⟩
  · intro s hq hc h1 h2
    change Answers (done s.slewStep) _
    rw [slewStep_adds hc h1]
    refine setSlew_answers hq _ (s.addTime 1).regs s.time (addTime_regs _ _ _ (by decide)) (addTime_regs _ _ _ (by decide))
      (addTime_regs _ _ _ (by decide)) fun t ht hm hk hs hr => ⟨?_, ?_, ?_, fun a ha => ?_, hm, hk⟩
    · rw [now_of_reg (hr _ (by decide)), now_addTime]
      omega
    · rw [ht]
    · rw [hs, decide_eq_true_iff]; omega
    · simp only [List.mem_cons, List.not_mem_nil, or_false, not_or] at ha
      exact (hr _ ha.2).trans (addTime_regs _ _ _ ha.1)
  · intro s hq hc h
    change Answers (done s.slewStep) _
    rw [slewStep_withholds hc h]
    refine setSlew_answers hq _ s.regs _ rfl rfl rfl fun t ht _ _ hs hr => ⟨now_of_reg (hr _ (by decide)), ?_, ?_, ?_, fun a ha => ?_⟩
    · rw [ht]
    · rw [ht]
    · rw [hs, decide_eq_true_iff]; omega
    · exact hr a (by simpa using ha)
  · intro s p w hq ha hn
    change Answers (s.written p fun t => t.correctTime (timeDelta w.toNat)) _
    refine written_answers_of ha fun x => ?_
    rw [correctTime_slew (s := s.withHold x) hn]
    refine setSlew_answers (s := s.withHold x) hq _ s.regs s.time rfl rfl rfl
      fun t ht _ _ hs hr => ⟨?_, ?_, fun a ha => ?_⟩
    · rw [ht]
    · rw [hs, decide_eq_true_iff]
    · exact hr a (by simpa using ha)
  · intro s p w hq ha hd hs hn
    change Answers (s.written p fun t => t.correctTime (timeDelta w.toNat)) _
    refine written_answers_of ha fun x => ?_
    rw [correctTime_step (s := s.withHold x) hd hs]
    refine setSlew_answers (s := s.withHold x) hq _ ((s.withHold x).addTime (timeDelta w.toNat).toNat).regs s.time
      (addTime_regs _ _ _ (by decide)) (addTime_regs _ _ _ (by decide)) (addTime_regs _ _ _ (by decide))
      fun t ht _ _ hs hr => ⟨?_, ?_, ?_, fun a ha => ?_⟩
    · have e : (s.withHold x).now = s.now := rfl
      rw [now_of_reg (hr _ (by decide)), now_addTime, e]
      omega
    · rw [ht]
    · simpa using hs
    · simp only [List.mem_cons, List.not_mem_nil, or_false, not_or] at ha
      exact (hr _ ha.2).trans (addTime_regs _ _ _ ha.1)
  · intro s d hq hc hd he hr hu
    change Answers (done (s.ptm d)) _
    rw [ptm_corrects hc he hr hu, correctTime_slew (by omega)]
    refine setSlew_answers hq _ s.regs s.time rfl rfl rfl fun t ht _ _ hs hr => ⟨?_, ?_, fun a ha => ?_⟩
    · rw [ht]
    · rw [hs, decide_eq_true_iff]; omega
    · exact hr a (by simpa using ha)

/-- A beat boundary with ROOTCLK locked and no port configured counts the beat. -/
theorem beatBoundary_locked {s : State} (hp : s.ports = []) (hl : s.on Reg.CHIP_CLK_STATUS Fld.CHIP_CLK_STATUS.ROOT_LOCK = true) :
    s.beatBoundary = s.inc Reg.CHIP_BEAT Fld.CHIP_BEAT.BEAT := by
  have hp' : (s.inc Reg.CHIP_BEAT Fld.CHIP_BEAT.BEAT).ports = [] := hp
  simp [State.beatBoundary, hl, hp']

/-- A beat with nothing withheld. -/
theorem tick_clocked {s : State} (hc : s.md.clocked = true) (hw : s.time.withheld = 0) :
    s.tick = (s.addTime 16).beatBoundary := by
  have e : ({ s with time := { s.time with withheld := 0 } } : State) = s := by rw [← hw]
  simp [State.tick, hc, hw, e]

/-- A change of registers alone, none of them one that the end of a command asks: what a quiet state's command answers. -/
theorem answers_of_rest {s u : State} {P : State → Prop} (h : s.quiet = true) (hu : u.rest = s.rest)
    (r1 : u.reg Reg.CHIP_MODE = s.reg Reg.CHIP_MODE) (r2 : u.reg Reg.PC_SUPV_STATUS = s.reg Reg.PC_SUPV_STATUS)
    (r3 : u.reg Reg.MG_FML_STATUS = s.reg Reg.MG_FML_STATUS)
    (hP : ∀ t : State, (∀ a, t.reg a = u.reg a) → t.pending = s.pending → P t) : Answers (done u) P := by
  have e := eq_of_rest hu
  refine answers_of h ?_ ?_ ?_ ?_ ?_ ?_ r1 r2 r3 fun l a b => hP _ (fun _ => rfl) ?_
  all_goals rw [e]

/-- A step with no command waiting lets time pass. -/
theorem step_empty {s : State} (h : s.pending = []) : step s = done s.tick := by simp [step, h]

/-- CHIP_BEAT is one register. -/
theorem beat_of_reg {t s : State} (h : t.reg Reg.CHIP_BEAT = s.reg Reg.CHIP_BEAT) : t.beat = s.beat := rd_of_reg h _

theorem retainSeconds_rest (s : State) : s.retainSeconds.rest = s.rest := by
  unfold State.retainSeconds
  split
  · exact wr_rest _ _ _ _
  · rfl

theorem retainSeconds_reg (s : State) (a : Nat) (h : a ≠ Reg.KS_RETAIN_STATUS) : s.retainSeconds.reg a = s.reg a := by
  unfold State.retainSeconds
  split <;> simp [h]

/-- Settles O58: a tick changes CHIP_BEAT and CHIP_TIME as the clocks that run let it. -/
theorem emptyQueueTicks : Obligations.EmptyQueueTicks := by
  refine ⟨?_, ?_, ?_, ?_⟩
  · intro s hp hq hc hports hw hl
    have hl' : (s.addTime 16).on Reg.CHIP_CLK_STATUS Fld.CHIP_CLK_STATUS.ROOT_LOCK = true :=
      (on_wr_other _ _ _ _ _ _ (by decide) (by decide)).trans hl
    rw [step_empty hp, tick_clocked hc hw, beatBoundary_locked (s := s.addTime 16) hports hl']
    have hr : ∀ a, a ≠ Reg.CHIP_BEAT → a ≠ Reg.CHIP_TIME →
        ((s.addTime 16).inc Reg.CHIP_BEAT Fld.CHIP_BEAT.BEAT).reg a = s.reg a := fun a hb ht => by
      simp [State.inc, State.addTo, State.addTime, hb, ht]
    refine answers_of_rest hq rfl (hr _ (by decide) (by decide)) (hr _ (by decide) (by decide)) (hr _ (by decide) (by decide))
      fun t ht hpend => ⟨?_, ?_, hpend.trans hp, fun a ha => ?_⟩
    · rw [beat_of_reg (ht _), State.beat, State.inc, rd_addTo _ _ _ _ (by decide)]
      rw [show (s.addTime 16).rd Reg.CHIP_BEAT Fld.CHIP_BEAT.BEAT = s.beat from rd_of_reg (addTime_regs _ _ _ (by decide)) _]
    · rw [now_of_reg ((ht _).trans (reg_setReg_ne _ _ _ _ (by decide))), now_addTime]
    · simp only [List.mem_cons, List.not_mem_nil, or_false, not_or] at ha
      exact (ht a).trans (hr a ha.1 ha.2)
  · intro s hp hq hc hw hl
    have hl' : (s.addTime 16).on Reg.CHIP_CLK_STATUS Fld.CHIP_CLK_STATUS.ROOT_LOCK = false :=
      (on_wr_other _ _ _ _ _ _ (by decide) (by decide)).trans hl
    rw [step_empty hp, tick_clocked hc hw, State.beatBoundary, if_neg (by simp [hl'])]
    refine answers_of_rest hq rfl (addTime_regs _ _ _ (by decide)) (addTime_regs _ _ _ (by decide)) (addTime_regs _ _ _ (by decide))
      fun t ht hpend => ⟨?_, ?_, hpend.trans hp, fun a ha => ?_⟩
    · exact beat_of_reg ((ht _).trans (addTime_regs _ _ _ (by decide)))
    · rw [now_of_reg (ht _), now_addTime]
    · exact (ht a).trans (addTime_regs _ _ _ (by simpa using ha))
  · intro s hp hq hc hoff hv
    have e : s.tick = (s.addTime 64).retainSeconds := by simp [State.tick, hc, hoff, hv]
    have hr : ∀ a, a ≠ Reg.CHIP_TIME → a ≠ Reg.KS_RETAIN_STATUS → (s.addTime 64).retainSeconds.reg a = s.reg a :=
      fun a h1 h2 => (retainSeconds_reg _ _ h2).trans (addTime_regs _ _ _ h1)
    rw [step_empty hp, e]
    refine answers_of_rest hq (retainSeconds_rest _) (hr _ (by decide) (by decide)) (hr _ (by decide) (by decide))
      (hr _ (by decide) (by decide)) fun t ht hpend => ⟨?_, ?_, hpend.trans hp, fun a ha => ?_⟩
    · rw [now_of_reg ((ht _).trans (retainSeconds_reg _ _ (by decide))), now_addTime]
    · exact beat_of_reg ((ht _).trans (hr _ (by decide) (by decide)))
    · simp only [List.mem_cons, List.not_mem_nil, or_false, not_or] at ha
      exact (ht a).trans (hr a ha.1 ha.2)
  · intro s hp hq hc ho
    have e : s.tick = s := by
      have ho' : ¬ (s.pins.vaux = true ∧ s.md ≠ .off) := fun h => ho.elim h.2 (by simp [h.1])
      simp only [State.tick, hc, Bool.false_eq_true, if_false, if_neg ho']
    rw [step_empty hp, e]
    exact answers_of_rest hq rfl rfl rfl rfl fun t ht _ => ⟨now_of_reg (ht _), beat_of_reg (ht _), fun a _ => ht a⟩

end Sys2Proof.Machine
end

section
/-!
Reading registers of a changed state: fields, flags and the mode after each register operation, in one spelling
(`State.rd` for a field, `State.md` for the mode).
-/
namespace Sys2Proof.Machine

/-- A field of a register, from the contents of the register. -/
@[simp] theorem getFld_reg (s : State) (a : Nat) (f : Fld) : getFld (s.reg a) f = s.rd a f := (rfl)

/-- The mode, from the field that shows it. -/
@[simp] theorem ofCode_rd (s : State) : Mode.ofCode (s.rd Reg.CHIP_MODE Fld.CHIP_MODE.MODE) = s.md := (rfl)

/-- A state built field by field has its register file. -/
@[simp] theorem rd_mk (regs : RegFile) (io : IoState) (pins : Pins) (mode : ModeState) (time : TimeState) (sensor : SensorState) (flt : FaultState) (frz : FreezeState) (sil : Tab SilFifo) (mirrorOut : List SilEntry) (fml : FormulaState) (pwr : PowerState) (retention : Option RetentionRec) (lossRaised : Bool) (keep : KeepState) (mgmt : MgmtState) (out : List Out) (freeIx : Nat) (pending : List Instr) (core : CoreState) (sched : SchedState) (acc : AccessState) (home : Tab SliceState) (decant : Tab DecantJob) (link : Tab LinkState) (std : Tab StdState) (acd : AccordState) (lane : Tab LaneState) (vppb : Tab VppbState) (gpf : List GpfFlow) (drain : DrainState) (hpRestart : Tab Nat) (a : Nat) (f : Fld) :
    State.rd (State.mk regs io pins mode time sensor flt frz sil mirrorOut fml pwr retention lossRaised keep mgmt out freeIx pending core sched acc home decant link std acd lane vppb gpf drain hpRestart) a f = getFld (regGet regs a) f := (rfl)

/-- So have its flags. -/
@[simp] theorem on_mk (regs : RegFile) (io : IoState) (pins : Pins) (mode : ModeState) (time : TimeState) (sensor : SensorState) (flt : FaultState) (frz : FreezeState) (sil : Tab SilFifo) (mirrorOut : List SilEntry) (fml : FormulaState) (pwr : PowerState) (retention : Option RetentionRec) (lossRaised : Bool) (keep : KeepState) (mgmt : MgmtState) (out : List Out) (freeIx : Nat) (pending : List Instr) (core : CoreState) (sched : SchedState) (acc : AccessState) (home : Tab SliceState) (decant : Tab DecantJob) (link : Tab LinkState) (std : Tab StdState) (acd : AccordState) (lane : Tab LaneState) (vppb : Tab VppbState) (gpf : List GpfFlow) (drain : DrainState) (hpRestart : Tab Nat) (a : Nat) (f : Fld) :
    State.on (State.mk regs io pins mode time sensor flt frz sil mirrorOut fml pwr retention lossRaised keep mgmt out freeIx pending core sched acc home decant link std acd lane vppb gpf drain hpRestart) a f = (getFld (regGet regs a) f != 0) := (rfl)

/-- So has its mode. -/
@[simp] theorem md_mk (regs : RegFile) (io : IoState) (pins : Pins) (mode : ModeState) (time : TimeState) (sensor : SensorState) (flt : FaultState) (frz : FreezeState) (sil : Tab SilFifo) (mirrorOut : List SilEntry) (fml : FormulaState) (pwr : PowerState) (retention : Option RetentionRec) (lossRaised : Bool) (keep : KeepState) (mgmt : MgmtState) (out : List Out) (freeIx : Nat) (pending : List Instr) (core : CoreState) (sched : SchedState) (acc : AccessState) (home : Tab SliceState) (decant : Tab DecantJob) (link : Tab LinkState) (std : Tab StdState) (acd : AccordState) (lane : Tab LaneState) (vppb : Tab VppbState) (gpf : List GpfFlow) (drain : DrainState) (hpRestart : Tab Nat) :
    State.md (State.mk regs io pins mode time sensor flt frz sil mirrorOut fml pwr retention lossRaised keep mgmt out freeIx pending core sched acc home decant link std acd lane vppb gpf drain hpRestart) = Mode.ofCode (getFld (regGet regs Reg.CHIP_MODE) Fld.CHIP_MODE.MODE) := (rfl)

@[simp] theorem regGet_regPut_eq (r : RegFile) (a b : Nat) (v : Word) :
    regGet (regPut r a v) b = if b = a then v else regGet r b := regGet_regPut r a b v

@[simp] theorem rd_setReg (s : State) (a b : Nat) (v : Word) (f : Fld) :
    (s.setReg a v).rd b f = if b = a then getFld v f else s.rd b f := by
  unfold State.rd
  rw [reg_setReg]
  split <;> rfl

/-- A field after a write of a field of the same register or of another. -/
@[simp] theorem rd_wr_eq (s : State) (a b : Nat) (f g : Fld) (x : Nat) :
    (s.wr a f x).rd b g = if b = a then getFld (setFld (s.reg a) f x) g else s.rd b g := rd_setReg s a b _ g

@[simp] theorem getFld_setFld_same (v : Word) (f : Fld) (x : Nat) (h : f.lo + f.width ≤ 64) :
    getFld (setFld v f x) f = x % 2 ^ f.width := getFld_setFld v f x h

@[simp] theorem getFld_setFld_other (v : Word) (f g : Fld) (x : Nat) (h : f.lo + f.width ≤ 64) (ha : f.apart g = true) :
    getFld (setFld v f x) g = getFld v g := getFld_setFld_apart v f g x h ha

/-- A write of another register leaves the mode. -/
@[simp] theorem md_setReg (s : State) (a : Nat) (v : Word) (h : Reg.CHIP_MODE ≠ a) : (s.setReg a v).md = s.md := by
  unfold State.md
  rw [rd_setReg, if_neg h]

/-- A write of a field leaves the mode, of another register or of CHIP_MODE beside MODE. -/
@[simp] theorem md_wr (s : State) (a : Nat) (f : Fld) (x : Nat) (h : Reg.CHIP_MODE ≠ a ∨
    f.lo + f.width ≤ 64 ∧ f.apart Fld.CHIP_MODE.MODE = true) : (s.wr a f x).md = s.md := by
  unfold State.md
  rw [rd_wr_eq]
  split
  · rename_i e
    obtain ⟨h1, h2⟩ := h.resolve_left (not_not_intro e)
    rw [getFld_setFld_apart _ _ _ _ h1 h2, ← e, getFld_reg]
  · rfl

/-! The register operations are writes of one field. -/

@[simp] theorem set1_eq (s : State) (a : Nat) (f : Fld) : s.set1 a f = s.wr a f 1 := (rfl)
@[simp] theorem set0_eq (s : State) (a : Nat) (f : Fld) : s.set0 a f = s.wr a f 0 := (rfl)
@[simp] theorem wrB_eq (s : State) (a : Nat) (f : Fld) (b : Bool) : s.wrB a f b = s.wr a f (if b then 1 else 0) := (rfl)
@[simp] theorem inc_eq (s : State) (a : Nat) (f : Fld) : s.inc a f = s.addTo a f 1 := (rfl)
@[simp] theorem addTo_eq (s : State) (a : Nat) (f : Fld) (n : Nat) :
    s.addTo a f n = s.wr a f (min (2 ^ f.width - 1) (s.rd a f + n)) := (rfl)
@[simp] theorem wrS_eq (s : State) (a : Nat) (f : Fld) (x : Int) : s.wrS a f x = s.wr a f (signedBits f.width x) := (rfl)
@[simp] theorem setBitOf_eq (s : State) (a : Nat) (f : Fld) (i : Nat) :
    s.setBitOf a f i = s.wr a f (setBitAt (s.rd a f) i) := (rfl)

/-- A register that is unchanged shows the same flags. -/
theorem on_of_reg {s t : State} {a : Nat} (h : t.reg a = s.reg a) (f : Fld) : t.on a f = s.on a f := by
  unfold State.on
  rw [rd_of_reg h]

@[simp] theorem withHold_md (s : State) (x : Tab HeldHalf) : (s.withHold x).md = s.md := (rfl)
@[simp] theorem withHold_rd (s : State) (x : Tab HeldHalf) (a : Nat) (f : Fld) : (s.withHold x).rd a f = s.rd a f := (rfl)
@[simp] theorem withHold_on (s : State) (x : Tab HeldHalf) (a : Nat) (f : Fld) : (s.withHold x).on a f = s.on a f := (rfl)

/-- A flag is a field that is not 0. -/
@[simp] theorem rd_ne_zero (s : State) (a : Nat) (f : Fld) : (s.rd a f != 0) = s.on a f := (rfl)

@[simp] theorem on_setReg (s : State) (a b : Nat) (v : Word) (f : Fld) :
    (s.setReg a v).on b f = if b = a then getFld v f != 0 else s.on b f := by
  unfold State.on
  rw [rd_setReg]
  split <;> rfl

@[simp] theorem on_wr_eq (s : State) (a b : Nat) (f g : Fld) (x : Nat) :
    (s.wr a f x).on b g = if b = a then getFld (setFld (s.reg a) f x) g != 0 else s.on b g := on_setReg s a b _ g

/-- Every mode is the mode of its code. -/
@[simp] theorem ofCode_code (m : Mode) : Mode.ofCode (m.code % 2 ^ Fld.CHIP_MODE.MODE.width) = m := by
  cases m <;> rfl

/-- The mode after a write of MODE. -/
@[simp] theorem md_wr_mode (s : State) (x : Nat) :
    (s.wr Reg.CHIP_MODE Fld.CHIP_MODE.MODE x).md = Mode.ofCode (x % 2 ^ Fld.CHIP_MODE.MODE.width) := by
  unfold State.md
  rw [rd_wr _ _ _ _ (by decide)]

/-- A field's contents fit every field as wide. -/
@[simp] theorem rd_mod_width (s : State) (a : Nat) (f : Fld) (w : Nat) (h : f.width ≤ w) : s.rd a f % 2 ^ w = s.rd a f :=
  Nat.mod_eq_of_lt ((getFld_lt _ f).trans_le (Nat.pow_le_pow_right (by decide) h))

/-- A counter's capped sum fits its field. -/
@[simp] theorem counter_mod (w x : Nat) : min (2 ^ w - 1) x % 2 ^ w = min (2 ^ w - 1) x :=
  Nat.mod_eq_of_lt ((Nat.min_le_left _ _).trans_lt (Nat.sub_one_lt_of_lt (Nat.two_pow_pos w)))

/-- A flag written from a truth value shows it. -/
@[simp] theorem flag_mod (c : Prop) [Decidable c] (w : Nat) (h : 0 < w) :
    (if c then 1 else 0) % 2 ^ w = if c then 1 else 0 := by
  split
  · exact Nat.mod_eq_of_lt (Nat.one_lt_two_pow (by omega))
  · exact Nat.zero_mod _


@[simp] theorem flag_mod_not (c : Prop) [Decidable c] (w : Nat) (h : 0 < w) :
    (if c then 0 else 1) % 2 ^ w = if c then 0 else 1 := by
  split
  · exact Nat.zero_mod _
  · exact Nat.mod_eq_of_lt (Nat.one_lt_two_pow (by omega))

@[simp] theorem flag_ne_zero (c : Prop) [Decidable c] : ((if c then 1 else 0) != 0) = decide c := by
  by_cases h : c <;> simp [h]

@[simp] theorem flag_not_ne_zero (c : Prop) [Decidable c] : ((if c then 0 else 1) != 0) = !decide c := by
  by_cases h : c <;> simp [h]

/-! ### Outputs, occurrences and notices change no register -/

@[simp] theorem emit_rd (s : State) (o : Out) (a : Nat) (f : Fld) : (s.emit o).rd a f = s.rd a f := (rfl)
@[simp] theorem emit_on (s : State) (o : Out) (a : Nat) (f : Fld) : (s.emit o).on a f = s.on a f := (rfl)
@[simp] theorem raiseAt_on (s : State) (n : Nat) (g : Option Nat) (i : AccessRec) (a : Nat) (f : Fld) :
    (s.raiseAt n g i).on a f = s.on a f := (rfl)
@[simp] theorem raise_on (s : State) (n : Nat) (g : Option Nat) (a : Nat) (f : Fld) : (s.raise n g).on a f = s.on a f := (rfl)
@[simp] theorem takeNotice_on (s : State) (n : Notice) (a : Nat) (f : Fld) : (s.takeNotice n).on a f = s.on a f := (rfl)
@[simp] theorem raiseAt_rd (s : State) (n : Nat) (g : Option Nat) (i : AccessRec) (a : Nat) (f : Fld) :
    (s.raiseAt n g i).rd a f = s.rd a f := (rfl)
@[simp] theorem raise_reg (s : State) (n : Nat) (g : Option Nat) (a : Nat) : (s.raise n g).reg a = s.reg a := (rfl)
@[simp] theorem raise_rd (s : State) (n : Nat) (g : Option Nat) (a : Nat) (f : Fld) : (s.raise n g).rd a f = s.rd a f := (rfl)
@[simp] theorem raise_md (s : State) (n : Nat) (g : Option Nat) : (s.raise n g).md = s.md := (rfl)
@[simp] theorem takeNotice_rd (s : State) (n : Notice) (a : Nat) (f : Fld) : (s.takeNotice n).rd a f = s.rd a f := (rfl)
@[simp] theorem takeNotice_md (s : State) (n : Notice) : (s.takeNotice n).md = s.md := (rfl)
@[simp] theorem emit_regs_reg (s : State) (o : Out) (a : Nat) : regGet (s.emit o).regs a = s.reg a := (rfl)

end Sys2Proof.Machine
end

section
/-!
Power and reset (R28, R368, R455): what VAUX and PWRON_RESET_N leave.
-/
namespace Sys2Proof.Machine

/-- The always-on domain starts: RESET, with VAUX good and the seal as its fuses have it. -/
theorem vauxRise_off {s : State} (h : s.md = .off) (b : Bool) : s.vauxRise b =
    (({ s with pins := { s.pins with vaux := true, vauxOk := true, sealOpen := b },
               mgmt := { s.mgmt with presenceArmed := s.pins.presenceN } } : State).showSeal.set1 Reg.PC_RAIL
      Fld.PC_RAIL.VAUX_GOOD).goMode .reset 0x01 := if_pos h

/-- VAUX and the main rails are lost. -/
theorem vauxLoss_main {s : State} (h : s.md ≠ .off) : s.vauxLoss true =
    let t := ((s.aoLost.emit (.clocks false)).emit .lanesIdle).wr Reg.CHIP_MODE Fld.CHIP_MODE.MODE Mode.off.code
    { t with pins := { t.pins with railsOk := 0 } } := if_neg h

/-- VAUX alone is lost. -/
theorem vauxLoss_vaux {s : State} (h : s.md ≠ .off) : s.vauxLoss false =
    let t := (((s.aoLost.emit (.clocks false)).emit .lanesIdle).goMode .reset 0x01).wr Reg.CHIP_MODE Fld.CHIP_MODE.PREV_MODE
      (s.rd Reg.CHIP_MODE Fld.CHIP_MODE.MODE)
    { t with mode := { t.mode with vauxWait := true } } := if_neg h

/-- RESET is left by a state that nothing holds there. -/
theorem tryLeaveReset_eq {s : State} (h : s.md = .reset) (hp : s.pins.pwronResetN = true) (hv : s.pins.vaux = true)
    (hb : s.mode.busHold = false) :
    s.tryLeaveReset = ({ s with mode := { s.mode with vauxWait := false } } : State).leaveReset := by
  simp [State.tryLeaveReset, h, hp, hv, hb]

/-- Latching the straps leaves the rest of the state, the mode and every other register. -/
theorem latchStraps_rest (s : State) : s.latchStraps.rest = s.rest := by simp [State.latchStraps]
theorem latchStraps_reg (s : State) (a : Nat) (h : a ≠ Reg.CHIP_STRAPS) (h2 : a ≠ Reg.MG_I3C) : s.latchStraps.reg a = s.reg a := by
  simp [State.latchStraps, h, h2]

/-- Nothing of s is left but its pins, fuses and flash: every register holds its reset value. -/
@[simp] theorem aoLost_reg (s : State) (a : Nat) : s.aoLost.reg a = State.reset.reg a := rfl

/-- With no durable lines at risk a loss is not reported. -/
theorem reportUnwritten_none {s : State} (h : s.unwrittenMirror = none) (c : Nat) : s.reportUnwritten c = s := by
  simp [State.reportUnwritten, h]

/-- What leaving RESET without retained state leaves. -/
theorem leaveReset_cold {s : State} (h : s.on Reg.CHIP_MODE Fld.CHIP_MODE.RETAIN_VALID = false) :
    s.leaveReset = s.coldBoot 0x02 := by
  unfold State.leaveReset State.retainValid
  rw [h]; rfl

/-- The entry that another state with the same CHIP_MODE sees. -/
theorem entered_of_reg {t s u : State} {m : Mode} {c : Nat} (h : t.entered u m c) (e : u.reg Reg.CHIP_MODE = s.reg Reg.CHIP_MODE) :
    t.entered s m c := ⟨h.1, h.2.1, h.2.2.trans (rd_of_reg e _)⟩


/-- s no longer waits for VAUX. -/
def State.unwaited (s : State) : State := { s with mode := { s.mode with vauxWait := false } }

/-- PWRON_RESET_N is high, the rails are in and the straps latched. -/
def State.released (s : State) : State := ({ s with pins := { s.pins with pwronResetN := true } } : State).railsIn.latchStraps

/-- PWRON_RESET_N is low, the presence window and READOUT_EN closed. -/
def State.resetShut (s : State) : State :=
  (({ s with pins := { s.pins with pwronResetN := false } } : State).set0 Reg.FZ_CTL Fld.FZ_CTL.READOUT_EN).set0
    Reg.MG_PRESENCE Fld.MG_PRESENCE.OPEN

theorem released_reg (s : State) (a : Nat) (h : a ∉ [Reg.CHIP_STRAPS, Reg.MG_I3C, Reg.PC_RAIL]) : s.released.reg a = s.reg a := by
  simp only [List.mem_cons, List.not_mem_nil, or_false, not_or] at h
  simp [State.released, State.railsIn, State.latchStraps, h]

@[simp] theorem unwaited_reg (s : State) (a : Nat) : s.unwaited.reg a = s.reg a := rfl
theorem unwaited_retain (s : State) : s.unwaited.retainValid = s.on Reg.CHIP_MODE Fld.CHIP_MODE.RETAIN_VALID := rfl
theorem released_md (s : State) : s.released.md = s.md := md_of_reg (released_reg s _ (by decide))
theorem released_pins (s : State) : s.released.pins.pwronResetN = true := by simp [State.released, State.railsIn, State.latchStraps]
theorem released_vaux (s : State) : s.released.pins.vaux = s.pins.vaux := by simp [State.released, State.railsIn, State.latchStraps]
theorem released_mode (s : State) : s.released.mode = s.mode := by simp [State.released, State.railsIn, State.latchStraps]
theorem released_retain (s : State) : s.released.on Reg.CHIP_MODE Fld.CHIP_MODE.RETAIN_VALID =
    s.on Reg.CHIP_MODE Fld.CHIP_MODE.RETAIN_VALID := by
  unfold State.on
  rw [rd_of_reg (released_reg s _ (by decide))]

theorem resetRelease_reset {s : State} (h : s.md = .reset) : s.resetRelease = s.released.tryLeaveReset := by
  simp [State.resetRelease, h, State.released]

/-- Without retained state RESET is left for a cold boot. -/
theorem tryLeaveReset_cold {s : State} (h : s.md = .reset) (hp : s.pins.pwronResetN = true) (hv : s.pins.vaux = true)
    (hb : s.mode.busHold = false) (hr : s.on Reg.CHIP_MODE Fld.CHIP_MODE.RETAIN_VALID = false) :
    s.tryLeaveReset = s.unwaited.coldBoot 0x02 := by
  rw [tryLeaveReset_eq h hp hv hb]
  exact leaveReset_cold hr

/-- The keep stack is no register. -/
theorem rest_keep {t s : State} (h : t.rest = s.rest) : t.keep = s.keep := by
  have := congrArg State.keep h; exact this

/-- MPORT at boot changes no register, no pin and nothing of the Keep stack. -/
theorem mportAtBoot_pins (s : State) : s.mportAtBoot.pins = s.pins := rfl
theorem mportAtBoot_keep (s : State) : s.mportAtBoot.keep = s.keep := rfl

/-- What an entry into REVIVE leaves (R28, R373). -/
theorem intoRevive_spec (s : State) : s.intoRevive.entered s .revive 0x03 ∧ s.intoRevive.pins = s.pins ∧
    s.intoRevive.now = s.now ∧ s.intoRevive.keep = s.keep ∧
    s.intoRevive.rd Reg.KS_REVIVE_STATUS Fld.KS_REVIVE_STATUS.PHASE = 0 := by
  unfold State.intoRevive
  simp only
  generalize hu : (((((s.goMode .revive 0x03).wr Reg.CHIP_MODE Fld.CHIP_MODE.PREV_MODE _).emit (.clocks true)).wr
    Reg.KS_REVIVE_STATUS Fld.KS_REVIVE_STATUS.PHASE 0).set0 Reg.KS_REVIVE_STATUS Fld.KS_REVIVE_STATUS.DRY).set0
    Reg.KS_REVIVE_STATUS Fld.KS_REVIVE_STATUS.QUARANTINED = u
  have hr : ∀ a, a = Reg.CHIP_MODE ∨ a = Reg.CHIP_TIME ∨ a = Reg.KS_REVIVE_STATUS → u.showFuses.mportAtBoot.reg a = u.reg a :=
    fun a h => by
      rw [mportAtBoot_reg]
      refine showFuses_reg u a ?_ fun n => ?_
      · rcases h with rfl | rfl | rfl <;> decide
      · rcases h with rfl | rfl | rfl <;>
          simp only [Reg.CHIP_MODE, Reg.CHIP_TIME, Reg.KS_REVIVE_STATUS, Reg.MG_OWNER_DIGEST] <;> omega
  have hrest := showFuses_rest u
  refine ⟨⟨?_, ?_, ?_⟩, ?_, ?_, ?_, ?_⟩
  · rw [md_of_reg (hr _ (by simp)), ← hu]
    simp +decide [State.goMode]
  · rw [rd_of_reg (hr _ (by simp)), ← hu]
    simp +decide [State.goMode]
  · rw [rd_of_reg (hr _ (by simp)), ← hu]
    simp +decide [State.goMode]
  · rw [mportAtBoot_pins, rest_pins hrest, ← hu]
    simp [State.goMode]
  · rw [now_of_reg (hr _ (by simp)), ← hu]
    simp +decide [State.goMode, State.now]
  · rw [mportAtBoot_keep, rest_keep hrest, ← hu]
    simp [State.goMode]
  · rw [rd_of_reg (hr _ (by simp)), ← hu]
    simp +decide [State.goMode]

/-- What an entry into RESET leaves (R28): the registers of the always-on domain, the pins and flash, no Formula and no line. -/
theorem intoReset_spec (s : State) (c : Nat) (hc : c < 256) : (s.intoReset c).entered s .reset c ∧
    (∀ a, a ≠ Reg.CHIP_MODE → a ≠ Reg.FZ_CTL → alwaysOnRegs.contains a = true → (s.intoReset c).reg a = s.reg a) ∧
    (s.intoReset c).on Reg.FZ_CTL Fld.FZ_CTL.READOUT_EN = s.on Reg.FZ_CTL Fld.FZ_CTL.READOUT_EN ∧
    (s.intoReset c).mgmt.flash = s.mgmt.flash ∧ (s.intoReset c).pins = s.pins ∧ (s.intoReset c).fml.inForce = none ∧
    (s.intoReset c).home = [] := by
  refine ⟨⟨?_, ?_, ?_⟩, fun a h1 h2 h3 => ?_, ?_, rfl, rfl, rfl, rfl⟩
  · simp +decide [State.intoReset, State.goMode]
  · simp +decide [State.intoReset, State.goMode]; exact Nat.mod_eq_of_lt hc
  · simp +decide [State.intoReset, State.goMode]
  · have hw := wipe_reg s s.retainValid false a h2
    rw [h3, Bool.true_or, Bool.true_or, if_pos rfl] at hw
    simp [State.intoReset, State.goMode, h1, hw]
  · simp +decide [State.intoReset, State.goMode, State.wipe]

theorem resetAssert_serve {s : State} (h : s.md = .serve) : s.resetAssert =
    (if s.retainValid then s.resetShut else s.resetShut.reportUnwritten 7).intoReset 0x01 := by
  unfold State.resetAssert
  rw [h]
  rfl

/-- Settles O2: each change of a supply or of the reset pin comes to a wipe and an entry of a mode, or to RESET left. -/
theorem powerAndReset : Obligations.PowerAndReset := by
  refine ⟨?_, ?_, ?_, ?_, ?_, ?_, ?_, ?_⟩
  · intro s b h
    refine ⟨_, rfl, ?_⟩
    rw [vauxRise_off h]
    simp +decide +contextual [State.entered, State.goMode, State.showSeal, State.regsBut, State.sealBrokenNow]
  · intro s h
    refine ⟨_, rfl, ?_⟩
    rw [vauxLoss_main h]
    simp +decide +contextual [State.regsBut, State.aoLost]
  · intro s h
    refine ⟨_, rfl, ?_⟩
    rw [vauxLoss_vaux h]
    simp +decide +contextual [State.regsBut, State.aoLost, State.goMode, State.entered]
  · intro s h hw hp hv hb hr
    refine ⟨_, rfl, ?_⟩
    have e : s.vauxBack = s.latchStraps.tryLeaveReset := by simp [State.vauxBack, hw, hp]
    rw [e, tryLeaveReset_cold (s := s.latchStraps) (by simp +decide [State.latchStraps, h]) hp hv hb (by simpa +decide [State.latchStraps] using hr)]
    obtain ⟨he, hn, hbt, -, hf, -, hmode, -⟩ := coldBoot_spec s.latchStraps.unwaited 0x02 (by decide)
    exact ⟨entered_of_reg he ((unwaited_reg _ _).trans (latchStraps_reg _ _ (by decide) (by decide))), hn, hbt, by rw [hmode], hf⟩
  · intro s h hv hb hr
    refine ⟨_, rfl, ?_⟩
    rw [resetRelease_reset h, tryLeaveReset_cold (s := s.released) ((released_md s).trans h) (released_pins s)
      ((released_vaux s).trans hv) ((congrArg ModeState.busHold (released_mode s)).trans hb) ((released_retain s).trans hr)]
    obtain ⟨he, hn, hbt, -, hf, -, -, hpins⟩ := coldBoot_spec s.released.unwaited 0x02 (by decide)
    refine ⟨entered_of_reg he ((unwaited_reg _ _).trans (released_reg _ _ (by decide))), hn, hbt, ?_, ?_, hf⟩
    · rw [hpins]; exact released_pins s
    · rw [hpins]; simp [State.released, State.railsIn, State.latchStraps, State.unwaited]
  · intro s h hv hb hr
    refine ⟨_, rfl, ?_⟩
    rw [resetRelease_reset h, tryLeaveReset_eq (s := s.released) ((released_md s).trans h) (released_pins s)
      ((released_vaux s).trans hv) ((congrArg ModeState.busHold (released_mode s)).trans hb)]
    obtain ⟨he, hp, hn, hk, hph⟩ := intoRevive_spec s.released.unwaited
    have hret : s.released.unwaited.leaveReset = s.released.unwaited.intoRevive :=
      if_pos ((unwaited_retain _).trans ((released_retain s).trans hr))
    rw [show ({ s.released with mode := { s.released.mode with vauxWait := false } } : State) = s.released.unwaited from rfl, hret]
    refine ⟨entered_of_reg he ((unwaited_reg _ _).trans (released_reg _ _ (by decide))), ?_, ?_, ?_, hph⟩
    · rw [hp]; exact released_pins s
    · rw [hn]; exact now_of_reg ((unwaited_reg _ _).trans (released_reg _ _ (by decide)))
    · rw [hk]; simp [State.released, State.railsIn, State.latchStraps, State.unwaited]
  · intro s h hr hm
    refine ⟨_, rfl, ?_⟩
    have e : s.resetAssert = s.resetShut.intoReset 0x01 := by
      have hm' : s.resetShut.unwrittenMirror = none := by
        rw [← hm]
        simp +decide [State.unwrittenMirror, State.atRisk, State.tablesAway, State.resetShut]
      rw [resetAssert_serve h, reportUnwritten_none hm', State.retainValid, hr]
      rfl
    rw [e]
    obtain ⟨he, hreg, hfz, hflash, hpins, hfml, hhome⟩ := intoReset_spec s.resetShut 0x01 (by decide)
    have hshut : ∀ a, a ≠ Reg.FZ_CTL → a ≠ Reg.MG_PRESENCE → s.resetShut.reg a = s.reg a := fun a h1 h2 => by
      simp [State.resetShut, h1, h2]
    refine ⟨entered_of_reg he (hshut _ (by decide) (by decide)), by rw [hpins]; rfl, ?_, ?_, ?_, hflash, hfml, hhome⟩
    · rw [State.on, rd_of_reg (hreg _ (by decide) (by decide) (by decide))]
      simp +decide [State.resetShut]
    · rw [hfz]
      simp +decide [State.resetShut]
    · exact now_of_reg ((hreg _ (by decide) (by decide) (by decide)).trans (hshut _ (by decide) (by decide)))
  · intro s hq h
    have e : s.resetAssert = s.resetShut := by simp [State.resetAssert, h, State.resetShut]
    change Answers (done s.resetAssert) _
    rw [e]
    refine answers_of hq rfl rfl rfl rfl rfl rfl ?_ ?_ ?_ fun l a b => ?_
    all_goals simp +decide +contextual [State.resetShut, State.regsBut, h]

end Sys2Proof.Machine
end

section
/-!
Registers of lanes, ports and blocks lie apart: an address of a family is told from others by its offset in its block.
-/
namespace Sys2Proof.Machine

/-! ### Lanes: offset 0x8000 to 0x9FFF of a tile -/

@[simp] theorem LN_STATUS_inj (k l : Nat) : Reg.LN_STATUS k = Reg.LN_STATUS l ↔ k = l := by
  simp only [Reg.LN_STATUS]; omega
@[simp] theorem ne_LN_STATUS {a : Nat} (l : Nat) (h : a % 0x10000 < 0x8000) : a ≠ Reg.LN_STATUS l := by
  simp only [Reg.LN_STATUS]; omega
@[simp] theorem ne_LN_TRAIN {a : Nat} (l : Nat) (h : a % 0x10000 < 0x8000) : a ≠ Reg.LN_TRAIN l := by
  simp only [Reg.LN_TRAIN]; omega
@[simp] theorem ne_LN_TXFIR {a : Nat} (l : Nat) (h : a % 0x10000 < 0x8000) : a ≠ Reg.LN_TXFIR l := by
  simp only [Reg.LN_TXFIR]; omega
@[simp] theorem ne_LN_RETUNE {a : Nat} (l : Nat) (h : a % 0x10000 < 0x8000) : a ≠ Reg.LN_RETUNE l := by
  simp only [Reg.LN_RETUNE]; omega
@[simp] theorem ne_LN_PRBS_CTL {a : Nat} (l : Nat) (h : a % 0x10000 < 0x8000) : a ≠ Reg.LN_PRBS_CTL l := by
  simp only [Reg.LN_PRBS_CTL]; omega
@[simp] theorem ne_LN_PRBS_STATUS {a : Nat} (l : Nat) (h : a % 0x10000 < 0x8000) : a ≠ Reg.LN_PRBS_STATUS l := by
  simp only [Reg.LN_PRBS_STATUS]; omega

end Sys2Proof.Machine
end

section
/-!
Lane tests at the start of LINKTEST, entries of QUARANTINE, and the end of a command in a quiet state.
-/
namespace Sys2Proof.Machine

/-- What keeps a state quiet, where CHIP_MODE is written but its mode stays. -/
theorem quiet_keep_md {s u : State} (h : s.quiet = true) (h1 : u.flt.raised = s.flt.raised) (h2 : u.mirrorOut = s.mirrorOut)
    (h3 : u.gpf = s.gpf) (h4 : u.pwr.warned = s.pwr.warned) (h5 : u.acd = s.acd) (h6 : u.core.tags = s.core.tags)
    (r1 : u.md = s.md) (r2 : u.reg Reg.PC_SUPV_STATUS = s.reg Reg.PC_SUPV_STATUS)
    (r3 : u.reg Reg.MG_FML_STATUS = s.reg Reg.MG_FML_STATUS) : u.quiet = true := by
  rw [← h]
  unfold State.quiet State.warningStands State.recomposePhase State.on
  rw [engineRests_keep h5 h6, h1, h2, h3, h4, r1, rd_of_reg r2, rd_of_reg r2, rd_of_reg r3]

/-- What the end of a command adds to a quiet state: outputs and the two pin levels. -/
theorem answers_of_quiet {u : State} {P : State → Prop} (h : u.quiet = true)
    (hP : ∀ (l : List Out) (a b : Bool), P { u with out := l ++ u.out, flt := { u.flt with faultLow := a, alertLow := b } }) :
    Answers (done u) P := by
  refine ⟨_, rfl, ?_⟩
  rw [settle_quiet u h]
  obtain ⟨l, a, b, e⟩ := refreshPins_eq u
  rw [e]
  exact hP l a b

/-! ### Lane tests that start with LINKTEST -/

/-- No lane's test is enabled at reset. -/
theorem testCfg_reset : ∀ l < 512, getFld (resetAt (Reg.LN_TEST_CFG l)) Fld.LN_TEST_CFG.EN = 0 := by decide +kernel

/-- The registers of lane l that the start of its test writes. -/
def testStartRegs (l : Nat) : List Nat := [Reg.LN_STATUS l, Reg.LN_TXFIR l, Reg.LN_TRAIN l]

theorem setTaps_reg (s : State) (l : Nat) (t : List Int) (a : Nat) (h : a ≠ Reg.LN_TXFIR l) : (s.setTaps l t).reg a = s.reg a := by
  simp [State.setTaps, h]

theorem testStart_reg (s : State) (l a : Nat) (h : a ∉ testStartRegs l) : (s.testStart l).reg a = s.reg a := by
  simp only [testStartRegs, List.mem_cons, List.not_mem_nil, or_false, not_or] at h
  obtain ⟨h1, h2, h3⟩ := h
  unfold State.testStart
  split
  · rfl
  · simp only
    split
    · simp [State.toDetect, State.setStage, setTaps_reg, State.modLane, h1, h2, h3]
    · split <;> simp [State.setStage, setTaps_reg, State.modLane, h1, h2]

@[simp] theorem laneSt_modLane (s : State) (l k : Nat) (g : LaneState → LaneState) :
    (s.modLane l g).laneSt k = if k = l then g (s.laneSt l) else s.laneSt k := by
  unfold State.laneSt State.modLane tabMod
  exact tabGet_tabPut _ _ _ _ _

@[simp] theorem laneSt_wr (s : State) (a : Nat) (f : Fld) (x k : Nat) : (s.wr a f x).laneSt k = s.laneSt k := by
  unfold State.laneSt
  rw [wr_lane]

theorem setTaps_laneSt (s : State) (l : Nat) (t : List Int) (k : Nat) : (s.setTaps l t).laneSt k = s.laneSt k := by
  simp [State.setTaps]

/-- The start of a lane's test. -/
theorem testStart_laneSt (s : State) (l k : Nat) (hm : s.md = .linktest)
    (he : s.on (Reg.LN_TEST_CFG l) Fld.LN_TEST_CFG.EN = true) : (s.testStart l).laneSt k =
      if k = l then { s.laneSt l with test := some (s.reg (Reg.LN_TEST_CFG l)), counting := false } else s.laneSt k := by
  unfold State.testStart
  rw [if_neg (by simp [hm, he])]
  simp only
  split
  · simp [State.toDetect, State.setStage, setTaps_laneSt]
  · split <;> simp [State.setStage, setTaps_laneSt]

theorem testStart_testCfg (s : State) (l k : Nat) : (s.testStart l).reg (Reg.LN_TEST_CFG k) = s.reg (Reg.LN_TEST_CFG k) := by
  refine testStart_reg s l _ ?_
  simp only [testStartRegs, Reg.LN_TEST_CFG, Reg.LN_STATUS, Reg.LN_TXFIR, Reg.LN_TRAIN, List.mem_cons, List.not_mem_nil,
    or_false, not_or]
  omega

theorem testStart_mode (s : State) (l : Nat) : (s.testStart l).reg Reg.CHIP_MODE = s.reg Reg.CHIP_MODE :=
  testStart_reg s l _ (by simp +decide [testStartRegs])

/-- The lanes of a list are started: each test is the one its register asks for. -/
theorem foldl_testStart (L : List Nat) (s : State) (hm : s.md = .linktest)
    (he : ∀ l ∈ L, s.on (Reg.LN_TEST_CFG l) Fld.LN_TEST_CFG.EN = true) :
    (L.foldl (fun t l => t.testStart l) s).reg Reg.CHIP_MODE = s.reg Reg.CHIP_MODE ∧
    ∀ k, (k ∈ L → ((L.foldl (fun t l => t.testStart l) s).laneSt k).test = some (s.reg (Reg.LN_TEST_CFG k))) ∧
      (k ∉ L → (L.foldl (fun t l => t.testStart l) s).laneSt k = s.laneSt k) := by
  induction L generalizing s with
  | nil => simp
  | cons l L ih =>
    have hcfg := testStart_testCfg s l
    obtain ⟨h1, h2⟩ := ih (s.testStart l) ((md_of_reg (testStart_mode s l)).trans hm) fun k hk => by
      rw [State.on, rd_of_reg (hcfg k)]
      exact he k (List.mem_cons_of_mem _ hk)
    refine ⟨h1.trans (testStart_mode s l), fun k => ?_⟩
    have hl := testStart_laneSt s l k hm (he l (by simp))
    rw [List.foldl_cons]
    constructor
    · intro hk
      by_cases hkL : k ∈ L
      · rw [(h2 k).1 hkL, hcfg]
      · obtain rfl : k = l := by simpa [hkL] using hk
        rw [(h2 k).2 hkL, hl, if_pos rfl]
    · intro hk
      simp only [List.mem_cons, not_or] at hk
      rw [(h2 k).2 hk.2, hl, if_neg hk.1]

/-- The lanes that LINKTEST starts are those whose test is enabled. -/
theorem mem_lanesWith_testCfg (s : State) (l : Nat) :
    l ∈ s.lanesWith Reg.LN_TEST_CFG (fun w => getFld w Fld.LN_TEST_CFG.EN == 1) ↔
      l < 512 ∧ s.on (Reg.LN_TEST_CFG l) Fld.LN_TEST_CFG.EN = true := by
  have hw : ∀ w : Word, getFld w Fld.LN_TEST_CFG.EN = 1 ↔ ¬ getFld w Fld.LN_TEST_CFG.EN = 0 := fun w => by
    have : getFld w Fld.LN_TEST_CFG.EN < 2 := getFld_lt w _
    omega
  unfold State.lanesWith
  rw [List.mem_filter, List.mem_range]
  refine and_congr_right fun hl => ?_
  unfold State.on State.rd State.reg regGet tabGet
  cases h : tabFind s.regs (Reg.LN_TEST_CFG l) with
  | none => simp [testCfg_reset l hl]
  | some w => simp [hw]

/-! ### Entries of QUARANTINE -/

/-- A notice stands once it is raised. -/
theorem mem_notices_notify (s : State) (n : Notice) : n ∈ (s.notify n).flt.notices := by
  unfold State.notify
  split
  · rename_i h
    simpa using h
  · simp

/-- A notice changes nothing but the fence bus. -/
theorem notify_eq (s : State) (n : Notice) : ∃ l, s.notify n = { s with flt := { s.flt with notices := l } } := by
  unfold State.notify
  split
  · exact ⟨s.flt.notices, rfl⟩
  · exact ⟨_, rfl⟩

@[simp] theorem notify_reg (s : State) (n : Notice) (a : Nat) : (s.notify n).reg a = s.reg a := by
  obtain ⟨l, e⟩ := notify_eq s n
  rw [e]; rfl

/-- Reporting a loss at an entry raises an occurrence, and changes nothing but what is raised. -/
theorem raiseLossOnEntry_eq (s : State) : ∃ l b, s.raiseLossOnEntry =
    { s with flt := { s.flt with raised := s.flt.raised ++ l }, lossRaised := b } := by
  unfold State.raiseLossOnEntry
  split
  · exact ⟨_, _, rfl⟩
  · exact ⟨[], s.lossRaised, by simp⟩

/-- What an entry of QUARANTINE leaves (R28, R397). -/
theorem enterQuarantine_spec (s : State) (c : Nat) (hc : c < 256) : (s.enterQuarantine c).entered s .quarantine c ∧
    Notice.quarantine ∈ (s.enterQuarantine c).flt.notices ∧ (s.enterQuarantine c).flt.quar = true := by
  unfold State.enterQuarantine
  obtain ⟨l, b, e⟩ := raiseLossOnEntry_eq (State.mk _ _ _ _ _ _ _ _ _ _ _ _ _ _ _ _ _ _ _ _ _ _ _ _ _ _ _ _ _ _ _ _)
  rw [e]
  refine ⟨?_, mem_notices_notify _ _, rfl⟩
  simp +decide [State.entered, State.goMode]
  exact Nat.mod_eq_of_lt hc

end Sys2Proof.Machine
end

section
/-!
Chip reset, mode requests and PERST_N (R28, R32, R33).
-/
namespace Sys2Proof.Machine

/-! ### What Table 7 makes of a mode request -/

theorem modeReq_linktest {s : State} (h : s.md = .boot) (hr : s.inRecovery = false) : s.modeReq 11 =
    (((s.goMode .linktest 0x05).lanesWith Reg.LN_TEST_CFG fun w => getFld w Fld.LN_TEST_CFG.EN == 1).foldl
      (fun t l => t.testStart l) (s.goMode .linktest 0x05)) := by
  have : s.modeReqOk 11 = true := by simp [State.modeReqOk, h, hr]
  simp [State.modeReq, this]

/-- A mode entered with the Sillage FIFOs emptied. -/
theorem goMode_dropSil (s : State) (m : Mode) (c : Nat) (hc : c < 256) :
    ({ s.goMode m c with sil := [] } : State).md = m ∧
      ({ s.goMode m c with sil := [] } : State).rd Reg.CHIP_MODE Fld.CHIP_MODE.CAUSE = c := by
  obtain ⟨⟨hmd, hcause, -⟩, -⟩ := goMode_spec s m c hc
  exact ⟨(md_of_reg rfl).trans hmd, (rd_of_reg rfl _).trans hcause⟩

theorem modeReq_boot {s : State} (h : s.md = .linktest) : s.modeReq 2 =
    { s.testsEnd.goMode .boot 0x12 with sil := [] } := by
  have : s.modeReqOk 2 = true := by simp [State.modeReqOk, h]
  simp [State.modeReq, this]

theorem modeReq_quarantine {s : State} (h : s.md ∈ [Mode.compose, .serve, .recompose, .revive]) :
    s.modeReq 10 = s.enterQuarantine 0x0F := by
  have : s.modeReqOk 10 = true := by
    simp only [List.mem_cons, List.not_mem_nil, or_false] at h
    rcases h with h | h | h | h <;> simp [State.modeReqOk, h]
  simp [State.modeReq, this]

theorem modeReq_refused {s : State} (h : s.md ∈ [Mode.boot, .quarantine, .drydown]) : s.modeReq 10 = s.reqErr := by
  have : s.modeReqOk 10 = false := by
    simp only [List.mem_cons, List.not_mem_nil, or_false] at h
    rcases h with h | h | h <;> simp [State.modeReqOk, h]
  simp [State.modeReq, this]

/-- The key of CHIP_RESET. -/
theorem chipReset_key : BitVec.toNat 0x5EED0880#32 = 0x5EED0880 := by simp

/-- A keyed write schedules the reset. -/
theorem chipReset_keyed {s : State} (hc : s.md.clocked = true) (hd : s.md ≠ .drydown) :
    s.chipReset 0x5EED0880 = { s with mode := { s.mode with resetScheduled := true } } := by
  unfold State.chipReset
  revert hc hd
  cases s.md <;> simp [Mode.clocked]

/-- Settles O3: each request comes to an entry of a mode, a flag, or a change of the pins alone. -/
theorem resetAndModeRequests : Obligations.ResetAndModeRequests := by
  refine ⟨?_, ?_, ?_, ?_, ?_, ?_, ?_, ?_, ?_⟩
  · intro s p hq ha hc hd
    change Answers (s.written p fun t => t.chipReset (BitVec.toNat 0x5EED0880#32)) _
    refine written_answers_of ha fun x => ?_
    rw [chipReset_key, chipReset_keyed (s := s.withHold x) hc hd]
    exact answers_of hq rfl rfl rfl rfl rfl rfl rfl rfl rfl fun l a b => ⟨rfl, fun _ _ => rfl⟩
  · intro s p k hq ha hk
    have hk' : k.toNat ≠ 0x5EED0880 := fun h => hk (BitVec.eq_of_toNat_eq (h.trans chipReset_key.symm))
    change Answers (s.written p fun t => t.chipReset k.toNat) _
    refine written_answers_of ha fun x => ?_
    rw [State.chipReset, if_pos hk']
    exact answers_of hq rfl rfl rfl rfl rfl rfl rfl rfl rfl fun l a b => ⟨rfl, fun _ _ => rfl⟩
  · intro s h hs hm
    refine ⟨_, rfl, ?_⟩
    have e : s.chipResetStart = ((s.set0 Reg.CHIP_MODE Fld.CHIP_MODE.RETAIN_VALID).intoReset 0x13).coldBoot 0x13 := by
      simp [State.chipResetStart, hs, State.inMode, h, reportUnwritten_none hm]
    rw [e]
    obtain ⟨⟨hmd, hcause, -⟩, hn, hb, hr, hf, hfu, hmode, -⟩ :=
      coldBoot_spec ((s.set0 Reg.CHIP_MODE Fld.CHIP_MODE.RETAIN_VALID).intoReset 0x13) 0x13 (by decide)
    exact ⟨hmd, hcause, hr, hn, hb, by rw [hmode], hf, hfu⟩
  · intro s p ha h hr
    change Leaves (s.written p fun t => t.modeReq 11) _
    refine written_leaves_of ha fun x => ?_
    rw [modeReq_linktest (s := s.withHold x) h hr]
    obtain ⟨hent, ⟨-, hreg⟩, -⟩ := goMode_spec (s.withHold x) .linktest 0x05 (by decide)
    have hcfg : ∀ l, ((s.withHold x).goMode .linktest 0x05).reg (Reg.LN_TEST_CFG l) = s.reg (Reg.LN_TEST_CFG l) := fun l =>
      hreg _ (by simp only [Reg.LN_TEST_CFG, Reg.CHIP_MODE, List.mem_singleton]; omega)
    have hmem := mem_lanesWith_testCfg ((s.withHold x).goMode .linktest 0x05)
    simp only [on_of_reg (hcfg _)] at hmem
    generalize State.lanesWith _ Reg.LN_TEST_CFG _ = L at hmem
    obtain ⟨h1, h2⟩ := foldl_testStart L _ hent.1 fun l hl => by
      rw [on_of_reg (hcfg _)]; exact ((hmem l).1 hl).2
    refine ⟨⟨?_, ?_, ?_⟩, fun l hl he => ?_, fun hall => ?_⟩
    · rw [md_of_reg h1]; exact hent.1
    · rw [rd_of_reg h1]; exact hent.2.1
    · rw [rd_of_reg h1]; exact hent.2.2
    · rw [((h2 l).1 ((hmem l).2 ⟨hl, he⟩)), hcfg]
    · have hL : L = [] := List.eq_nil_iff_forall_not_mem.2 fun l hl => by
        obtain ⟨hlt, hon⟩ := (hmem l).1 hl
        rw [hall l hlt] at hon
        exact Bool.noConfusion hon
      rw [hL]
      exact hreg
  · intro s p ha h
    change Leaves (s.written p fun t => t.modeReq 2) _
    refine written_leaves_of ha fun x => ?_
    rw [modeReq_boot (s := s.withHold x) h]
    exact goMode_dropSil (s.withHold x).testsEnd .boot 0x12 (by decide)
  · intro s p ha h
    change Leaves (s.written p fun t => t.modeReq 10) _
    refine written_leaves_of ha fun x => ?_
    rw [modeReq_quarantine (s := s.withHold x) h]
    exact enterQuarantine_spec (s.withHold x) 0x0F (by decide)
  · intro s p hq ha h
    change Answers (s.written p fun t => t.modeReq 10) _
    refine written_answers_of ha fun x => ?_
    rw [modeReq_refused (s := s.withHold x) h]
    have hmd : (s.withHold x).reqErr.md = s.md := by simp +decide [State.reqErr]
    have hqu : (s.withHold x).reqErr.quiet = true := by
      refine quiet_keep_md (s := s.withHold x) hq ?_ ?_ ?_ ?_ ?_ ?_ hmd ?_ ?_
      all_goals simp +decide [State.reqErr]
    refine answers_of_quiet hqu fun l a b => ⟨?_, ?_, ?_⟩
    all_goals simp +decide +contextual [State.reqErr, State.regsBut]
  · intro s hq
    change Answers (done (s.perst true)) _
    refine answers_of hq rfl rfl rfl rfl rfl rfl ?_ ?_ ?_ fun l a b => ⟨rfl, ?_, rfl, ?_, rfl, ?_⟩
    all_goals simp +decide +contextual [State.perst, State.dropResponse, State.reaches, State.regsBut]
  · intro s hq hc he
    change Answers (done (s.perst false)) _
    refine answers_of hq rfl rfl rfl rfl rfl rfl rfl rfl rfl fun l a b => ⟨rfl, ?_, rfl, rfl, fun _ _ => rfl⟩
    simp [State.perst, State.reaches, hc, he]

end Sys2Proof.Machine
end

section
/-!
What the end of a command asks of the state, and the MSI-X messages of MPORT.
-/
namespace Sys2Proof.Machine

/-! ### What the end of a command asks -/

/-- u and s agree on all that the end of a command acts on: what is raised, mirrored and held, the Accord engine, the mode,
and the registers of the power warning and of RECOMPOSE. -/
def State.calm (u s : State) : Prop :=
  (u.flt.raised = s.flt.raised ∧ u.mirrorOut = s.mirrorOut ∧ u.gpf = s.gpf ∧ u.pwr.warned = s.pwr.warned ∧ u.acd = s.acd ∧
    u.core.tags = s.core.tags) ∧ u.md = s.md ∧ u.reg Reg.PC_SUPV_STATUS = s.reg Reg.PC_SUPV_STATUS ∧
    u.reg Reg.MG_FML_STATUS = s.reg Reg.MG_FML_STATUS

theorem calm_trans {t u s : State} (h : t.calm u) (k : u.calm s) : t.calm s := by
  obtain ⟨⟨a1, a2, a3, a4, a5, a6⟩, a7, a8, a9⟩ := h
  obtain ⟨⟨b1, b2, b3, b4, b5, b6⟩, b7, b8, b9⟩ := k
  exact ⟨⟨a1.trans b1, a2.trans b2, a3.trans b3, a4.trans b4, a5.trans b5, a6.trans b6⟩, a7.trans b7, a8.trans b8, a9.trans b9⟩

theorem calm_quiet {u s : State} (h : u.calm s) (hq : s.quiet = true) : u.quiet = true := by
  obtain ⟨⟨a1, a2, a3, a4, a5, a6⟩, a7, a8, a9⟩ := h
  exact quiet_keep_md hq a1 a2 a3 a4 a5 a6 a7 a8 a9

/-- What a command that leaves a quiet state calm answers: its own effect, with outputs and pin levels added. -/
theorem answers_of_calm {s u : State} {P : State → Prop} (hq : s.quiet = true) (h : u.calm s)
    (hP : ∀ (l : List Out) (a b : Bool), P { u with out := l ++ u.out, flt := { u.flt with faultLow := a, alertLow := b } }) :
    Answers (done u) P := answers_of_quiet (calm_quiet h hq) hP

/-! ### MSI-X messages of MPORT -/

/-- An MSI-X message changes nothing but the outputs. -/
theorem msix_eq (s : State) (v : Nat) : ∃ l, s.msix v = { s with out := l ++ s.out } := by
  unfold State.msix
  split
  · exact ⟨[.msix v], rfl⟩
  · exact ⟨[], rfl⟩

@[simp] theorem msix_reg (s : State) (v a : Nat) : (s.msix v).reg a = s.reg a := by
  obtain ⟨l, e⟩ := msix_eq s v
  rw [e]; rfl
@[simp] theorem msix_rd (s : State) (v a : Nat) (f : Fld) : (s.msix v).rd a f = s.rd a f := rd_of_reg (msix_reg s v a) f
@[simp] theorem msix_on (s : State) (v a : Nat) (f : Fld) : (s.msix v).on a f = s.on a f := on_of_reg (msix_reg s v a) f
@[simp] theorem msix_md (s : State) (v : Nat) : (s.msix v).md = s.md := md_of_reg (msix_reg s v _)
@[simp] theorem msix_flt (s : State) (v : Nat) : (s.msix v).flt = s.flt := by
  obtain ⟨l, e⟩ := msix_eq s v; rw [e]
@[simp] theorem msix_mirrorOut (s : State) (v : Nat) : (s.msix v).mirrorOut = s.mirrorOut := by
  obtain ⟨l, e⟩ := msix_eq s v; rw [e]
@[simp] theorem msix_gpf (s : State) (v : Nat) : (s.msix v).gpf = s.gpf := by
  obtain ⟨l, e⟩ := msix_eq s v; rw [e]
@[simp] theorem msix_pwr (s : State) (v : Nat) : (s.msix v).pwr = s.pwr := by
  obtain ⟨l, e⟩ := msix_eq s v; rw [e]
@[simp] theorem msix_acd (s : State) (v : Nat) : (s.msix v).acd = s.acd := by
  obtain ⟨l, e⟩ := msix_eq s v; rw [e]
@[simp] theorem msix_core (s : State) (v : Nat) : (s.msix v).core = s.core := by
  obtain ⟨l, e⟩ := msix_eq s v; rw [e]
@[simp] theorem msix_mgmt (s : State) (v : Nat) : (s.msix v).mgmt = s.mgmt := by
  obtain ⟨l, e⟩ := msix_eq s v; rw [e]
@[simp] theorem msix_pins (s : State) (v : Nat) : (s.msix v).pins = s.pins := by
  obtain ⟨l, e⟩ := msix_eq s v; rw [e]

/-- The message goes while the link is up. -/
theorem mem_out_msix {s : State} (v : Nat) (h : s.mgmt.mportUp = true) : Out.msix v ∈ (s.msix v).out := by
  simp [State.msix, h]

theorem mem_out_msix_of_mem {s : State} {o : Out} (v : Nat) (h : o ∈ s.out) : o ∈ (s.msix v).out := by
  obtain ⟨l, e⟩ := msix_eq s v
  rw [e]
  exact List.mem_append_right _ h

end Sys2Proof.Machine
end

section
/-!
The presence window, the seal and the registers that show the fuses.
-/
namespace Sys2Proof.Machine

/-! ### The presence window -/

theorem closeWindow_reg (s : State) (a : Nat) (h : a ≠ Reg.MG_PRESENCE) : s.closeWindow.reg a = s.reg a := by
  unfold State.closeWindow
  split <;> simp [h]

/-- The window is closed. -/
theorem closeWindow_closed (s : State) : s.closeWindow.on Reg.MG_PRESENCE Fld.MG_PRESENCE.OPEN = false := by
  unfold State.closeWindow
  split
  · simp +decide
  · rename_i h
    simpa using h

/-- A window that was open says so as it closes. -/
theorem mem_out_closeWindow {s : State} (hm : s.mgmt.mportUp = true) (ho : s.on Reg.MG_PRESENCE Fld.MG_PRESENCE.OPEN = true) :
    Out.msix 2 ∈ s.closeWindow.out := by
  rw [State.closeWindow, if_pos ho]
  exact mem_out_msix 2 hm

theorem closeWindow_calm (s : State) : s.closeWindow.calm s := by
  unfold State.closeWindow
  split <;> simp +decide [State.calm]

@[simp] theorem closeWindow_mgmt (s : State) : s.closeWindow.mgmt = s.mgmt := by
  unfold State.closeWindow
  split <;> simp
@[simp] theorem closeWindow_pins (s : State) : s.closeWindow.pins = s.pins := by
  unfold State.closeWindow
  split <;> simp
@[simp] theorem closeWindow_flt (s : State) : s.closeWindow.flt = s.flt := by
  unfold State.closeWindow
  split <;> simp

/-- What the close of the window answers. -/
theorem closeWindow_answers (s : State) (hq : s.quiet = true) : Answers (done s.closeWindow) fun t =>
    t.on Reg.MG_PRESENCE Fld.MG_PRESENCE.OPEN = false ∧
      (s.mgmt.mportUp = true → s.on Reg.MG_PRESENCE Fld.MG_PRESENCE.OPEN = true → Out.msix 2 ∈ t.out) ∧
      t.regsBut s [Reg.MG_PRESENCE] := by
  refine answers_of_calm hq (closeWindow_calm s) fun l a b => ⟨?_, fun hm ho => ?_, fun x hx => ?_⟩
  · simpa using closeWindow_closed s
  · exact List.mem_append_right _ (mem_out_closeWindow hm ho)
  · simpa using closeWindow_reg s x (by simpa using hx)

/-- A press that opens the window. -/
theorem press_opens {s : State} (hm : s.md ≠ .off) (hp : s.pins.presenceN = true) (ha : s.mgmt.presenceArmed = true)
    (hs : s.on Reg.MG_SEAL Fld.MG_SEAL.SEAL_BROKEN = false) : s.press =
      let t := ((({ s with pins := { s.pins with presenceN := false } } : State).set1 Reg.MG_PRESENCE
        Fld.MG_PRESENCE.LEVEL).inc Reg.MG_PRESENCE Fld.MG_PRESENCE.PRESSES).set1 Reg.MG_PRESENCE Fld.MG_PRESENCE.OPEN
      let u : State := { t with mgmt := { t.mgmt with presenceAt := t.now } }
      if s.on Reg.MG_PRESENCE Fld.MG_PRESENCE.OPEN then u else u.msix 2 := by
  unfold State.press
  simp only [if_neg hm, hp, ha, hs, Bool.not_true, Bool.false_eq_true, or_self, if_false]

/-- A press that does not. -/
theorem press_shows {s : State} (hm : s.md ≠ .off) (h : s.pins.presenceN = false ∨ s.mgmt.presenceArmed = false ∨
    s.on Reg.MG_SEAL Fld.MG_SEAL.SEAL_BROKEN = true) : s.press =
      ({ s with pins := { s.pins with presenceN := false } } : State).set1 Reg.MG_PRESENCE Fld.MG_PRESENCE.LEVEL := by
  unfold State.press
  simp only [if_neg hm]
  rw [if_pos (by simpa using h)]

/-- A break of the seal. -/
theorem sealBreak_eq {s : State} (hm : s.md ≠ .off) (hv : s.pins.vaux = true)
    (hl : s.on Reg.MG_SEAL Fld.MG_SEAL.LOOP_OPEN = false) : s.sealBreak =
      (((((({ s with pins := { s.pins with sealOpen := true } } : State).set1 Reg.MG_SEAL Fld.MG_SEAL.LOOP_OPEN).set1
        Reg.MG_SEAL Fld.MG_SEAL.FUSE_PENDING).set1 Reg.MG_SEAL Fld.MG_SEAL.SEAL_BROKEN).closeWindow.msix 3).raise
        Src.MG_SEAL_BROKEN none) := by
  unfold State.sealBreak
  rw [if_neg (by simp [hm, hv, hl])]

/-! ### The registers that show the fuses -/

/-- Showing the fuses writes no other register. -/
theorem showFuses_reg_outside (s : State) (a : Nat) (h : a ∉ fuseRegs) : s.showFuses.reg a = s.reg a := by
  simp only [fuseRegs, List.mem_append, List.mem_cons, List.not_mem_nil, or_false, List.mem_map, List.mem_range, not_or,
    not_exists, not_and] at h
  obtain ⟨⟨h1, h2, h3⟩, h4⟩ := h
  have hd : ∀ (d : Nat → Word) (L : List Nat) (t : State), (∀ n ∈ L, n < 16) →
      (L.foldl (fun t n => t.setReg (Reg.MG_OWNER_DIGEST n) (d n)) t).reg a = t.reg a := by
    intro d L
    induction L with
    | nil => exact fun _ _ => rfl
    | cons n L ih =>
      intro t hn
      rw [List.foldl_cons, ih _ fun k hk => hn k (List.mem_cons_of_mem _ hk),
        reg_setReg_ne _ _ _ _ fun e => h4 n (hn n (by simp)) e.symm]
  unfold State.showFuses
  simp only
  rw [hd _ _ _ fun n hn => List.mem_range.1 hn]
  simp [State.showSeal, h1, h2, h3]

/-- What MG_SEAL shows is what the fuses and the break of the seal say. -/
theorem showFuses_seal (s : State) : ∃ t : State, t.reg Reg.MG_SEAL = s.reg Reg.MG_SEAL ∧ t.mgmt = s.mgmt ∧
    s.showFuses.reg Reg.MG_SEAL = t.showSeal.reg Reg.MG_SEAL := by
  refine ⟨_, ?_, ?_, foldl_keep (fun t => t.reg Reg.MG_SEAL) _ (fun t n => ?_) _ _⟩
  · simp +decide
  · rfl
  · exact reg_setReg_ne _ _ _ _ (by unfold Reg.MG_SEAL Reg.MG_OWNER_DIGEST; omega)

/-- The programmed events as MG_SEAL counts them. -/
theorem showFuses_events (s : State) (h : s.mgmt.fuses.sealEvents < 16) :
    s.showFuses.rd Reg.MG_SEAL Fld.MG_SEAL.EVENTS = s.mgmt.fuses.sealEvents := by
  obtain ⟨t, _, hm, e⟩ := showFuses_seal s
  rw [rd_of_reg e, State.showSeal, hm]
  simp +decide
  exact Nat.mod_eq_of_lt h

theorem showFuses_pending (s : State) :
    s.showFuses.on Reg.MG_SEAL Fld.MG_SEAL.FUSE_PENDING = s.on Reg.MG_SEAL Fld.MG_SEAL.FUSE_PENDING := by
  obtain ⟨t, hr, _, e⟩ := showFuses_seal s
  rw [on_of_reg e, State.showSeal, ← on_of_reg hr]
  simp +decide

/-- The seal shows as broken while an event waits to be programmed, or more were programmed than re-arms. -/
theorem showFuses_broken (s : State) : s.showFuses.on Reg.MG_SEAL Fld.MG_SEAL.SEAL_BROKEN =
    (s.on Reg.MG_SEAL Fld.MG_SEAL.FUSE_PENDING || decide (s.mgmt.fuses.sealRearms < s.mgmt.fuses.sealEvents)) := by
  obtain ⟨t, hr, hm, e⟩ := showFuses_seal s
  rw [on_of_reg e, State.showSeal, State.sealBrokenNow, ← on_of_reg hr, hm]
  simp +decide

theorem showFuses_calm (s : State) : s.showFuses.calm s := by
  have hk : ∀ a, a ∉ fuseRegs → s.showFuses.reg a = s.reg a := showFuses_reg_outside s
  refine ⟨?_, md_of_reg (hk _ (by decide)), hk _ (by decide), hk _ (by decide)⟩
  rw [eq_of_rest (showFuses_rest s)]
  exact ⟨rfl, rfl, rfl, rfl, rfl, rfl⟩

/-- The programming of an event of the seal. -/
theorem sealFuse_answers (s : State) (hq : s.quiet = true) (hc : s.md.clocked = true)
    (hp : s.on Reg.MG_SEAL Fld.MG_SEAL.FUSE_PENDING = true) : Answers (done s.sealFuse) fun t =>
      t.mgmt.fuses.sealEvents = min 15 (s.mgmt.fuses.sealEvents + 1) ∧
      t.rd Reg.MG_SEAL Fld.MG_SEAL.EVENTS = min 15 (s.mgmt.fuses.sealEvents + 1) ∧
      t.on Reg.MG_SEAL Fld.MG_SEAL.FUSE_PENDING = false ∧
      (t.on Reg.MG_SEAL Fld.MG_SEAL.SEAL_BROKEN = true ↔ s.mgmt.fuses.sealRearms < min 15 (s.mgmt.fuses.sealEvents + 1)) ∧
      t.regsBut s fuseRegs := by
  have e : s.sealFuse = (({ s with mgmt := { s.mgmt with fuses := { s.mgmt.fuses with
    sealEvents := min 15 (s.mgmt.fuses.sealEvents + 1) } } } : State).set0 Reg.MG_SEAL Fld.MG_SEAL.FUSE_PENDING).showFuses :=
    if_pos ⟨hc, hp⟩
  rw [e]
  generalize hu : ({ s with mgmt := { s.mgmt with fuses := { s.mgmt.fuses with
    sealEvents := min 15 (s.mgmt.fuses.sealEvents + 1) } } } : State).set0 Reg.MG_SEAL Fld.MG_SEAL.FUSE_PENDING = u
  have hf : u.mgmt.fuses = { s.mgmt.fuses with sealEvents := min 15 (s.mgmt.fuses.sealEvents + 1) } := by rw [← hu]; rfl
  have hw : u.on Reg.MG_SEAL Fld.MG_SEAL.FUSE_PENDING = false := by rw [← hu]; simp +decide
  have hr : ∀ a, a ≠ Reg.MG_SEAL → u.reg a = s.reg a := fun a h => by rw [← hu]; simp [h]
  have hc : u.calm s := by rw [← hu]; simp +decide [State.calm]
  have h1 := rest_mgmt (showFuses_rest u)
  have h2 := showFuses_events u (by rw [hf]; simp only; omega)
  have h3 := (showFuses_pending u).trans hw
  have h4 := showFuses_broken u
  have h5 := fun x hx => (showFuses_reg_outside u x hx).trans (hr x fun e => hx (e ▸ by decide))
  have h6 := calm_trans (showFuses_calm u) hc
  rw [hf] at h2 h4
  rw [hw] at h4
  generalize u.showFuses = v at *
  refine answers_of_calm hq h6 fun l a b => ⟨?_, h2, h3, ?_, h5⟩
  · exact (congrArg (·.fuses.sealEvents) h1).trans (by rw [hf])
  · change v.on _ _ = true ↔ _
    rw [h4]
    simp

/-- Settles O56: each case of the button, the loop and the fuse is its own equation; the seal is read from what the fuses
show. -/
theorem presenceAndSeal : Obligations.PresenceAndSeal := by
  refine ⟨?_, ?_, ?_, ?_, ?_, ?_, ?_, ?_, ?_⟩
  · intro s hq hm hp ha hs
    change Answers (done s.press) _
    rw [press_opens hm hp ha hs]
    simp only
    split <;> rename_i ho
    · refine answers_of_calm hq ?_ fun l a b => ?_
      · simp +decide [State.calm]
      · simp +decide +contextual [State.regsBut, ho, State.now]
    · refine answers_of_calm hq ?_ fun l a b => ?_
      · simp +decide [State.calm]
      · simp +decide +contextual [State.regsBut, ho, State.now, mem_out_msix]
  · intro s hq hm h
    change Answers (done s.press) _
    rw [press_shows hm h]
    refine answers_of_calm hq ?_ fun l a b => ?_
    · simp +decide [State.calm]
    · simp +decide +contextual [State.regsBut]
  · intro s hq hm
    change Answers (done s.unpress) _
    rw [State.unpress, if_neg hm]
    refine answers_of_calm hq ?_ fun l a b => ?_
    · simp +decide [State.calm]
    · simp +decide +contextual [State.regsBut]
  · exact fun s hq => closeWindow_answers s hq
  · intro s p hq ha
    change Answers (s.written p fun t => t.closeWindow) _
    exact written_answers_of ha fun x => closeWindow_answers (s.withHold x) hq
  · intro s hm hv hl
    refine ⟨_, rfl, ?_⟩
    rw [sealBreak_eq hm hv hl]
    generalize hu : ((({ s with pins := { s.pins with sealOpen := true } } : State).set1 Reg.MG_SEAL Fld.MG_SEAL.LOOP_OPEN).set1
      Reg.MG_SEAL Fld.MG_SEAL.FUSE_PENDING).set1 Reg.MG_SEAL Fld.MG_SEAL.SEAL_BROKEN = u
    have hs : ∀ f, u.closeWindow.on Reg.MG_SEAL f = u.on Reg.MG_SEAL f := fun f => on_of_reg (closeWindow_reg u _ (by decide)) f
    have hm : u.mgmt = s.mgmt := by rw [← hu]; rfl
    refine ⟨?_, ?_, ?_, ?_, ?_, fun h => ?_, ?_, ?_, fun a ha => ?_⟩
    · rw [raise_on, msix_on, hs, ← hu]; simp +decide
    · rw [raise_on, msix_on, hs, ← hu]; simp +decide
    · rw [raise_on, msix_on, hs, ← hu]; simp +decide
    · rw [raise_on, msix_on, closeWindow_closed]
    · rw [raise_pins, msix_pins, closeWindow_pins, ← hu]; rfl
    · exact mem_out_msix 3 (by rw [closeWindow_mgmt, hm, h])
    · exact ⟨_, List.mem_append_right _ (List.mem_singleton_self _), rfl, rfl⟩
    · rw [raise_mgmt, msix_mgmt, closeWindow_mgmt, hm]
    · simp only [List.mem_cons, List.not_mem_nil, or_false, not_or] at ha
      rw [raise_reg, msix_reg, closeWindow_reg _ _ ha.2, ← hu]
      simp [ha.1]
  · intro s hq hm hv
    change Answers (done s.sealClose) _
    rw [State.sealClose, if_neg (by simp [hm, hv])]
    refine answers_of_calm hq ?_ fun l a b => ?_
    · simp +decide [State.calm]
    · simp +decide +contextual [State.regsBut]
  · exact fun s hq hc hp => sealFuse_answers s hq hc hp
  · intro s hq hp
    change Answers (done s.sealFuse) _
    rw [State.sealFuse, if_neg (by simp [hp])]
    exact answers_of hq rfl rfl rfl rfl rfl rfl rfl rfl rfl fun l a b => ⟨rfl, fun _ _ => rfl⟩

end Sys2Proof.Machine
end

section
/-!
The alert of a source whose severity is fixed at S0.
-/
namespace Sys2Proof.Machine

/-- A machine whose collector runs and which alerts at every severity. -/
def alertsAtAll : State :=
  ({ State.reset with flt := { State.reset.flt with running := true } } : State).wr Reg.FC_PIN_LEVEL
    Fld.FC_PIN_LEVEL.ALERT_LEVEL 0

/-- An occurrence of TN_CANCELLED_ERR of quad 0, whose severity is fixed at S0. -/
def cancelled : Occ := { source := 834 }

/-- Refutes O43: an occurrence of a source fixed at S0 does not drive ALERT_N (R177), though ALERT_LEVEL is 0. -/
theorem not_occurrences : ¬ Obligations.Occurrences := by
  intro h
  obtain ⟨t, e, -, -, -, ha, -⟩ := h.1 alertsAtAll cancelled (by decide +kernel) (by decide +kernel) (by decide +kernel)
    (by decide +kernel) (by decide +kernel) (by decide +kernel) (by decide +kernel) (by decide +kernel)
  have ht : t = (alertsAtAll.occur cancelled).settle := by injection e.symm
  have hp : (alertsAtAll.occur cancelled).settle.on Reg.FC_ALERT Fld.FC_ALERT.PENDING = false := by decide +kernel
  rw [ht, hp] at ha
  exact Bool.noConfusion (ha (by decide +kernel))

end Sys2Proof.Machine
end

section
/-!
Sillage entries acknowledged and flushed.
-/
namespace Sys2Proof.Machine

/-! ### Sillage -/

/-- One FIFO after another was put. -/
theorem silFifo_put (s : State) (x : SilFifo) (k j : Nat) :
    ({ s with sil := tabPut s.sil k x } : State).silFifo j = if j = k then x else s.silFifo j := by
  unfold State.silFifo
  exact tabGet_tabPut ..

/-- Settles O46: an acknowledgement and a flush put one FIFO. -/
theorem sillage : Obligations.Sillage := by
  refine ⟨fun s p k n hq ha hn => ?_, fun s p k hq ha => ?_⟩
  · change Answers (s.written p fun t => t.silAck k.val (n % 2 ^ 12)) _
    rw [Nat.mod_eq_of_lt hn]
    refine written_answers_of ha fun x => answers_of_calm hq ?_ fun l a b => ?_
    · exact ⟨⟨rfl, rfl, rfl, rfl, rfl, rfl⟩, rfl, rfl, rfl⟩
    · refine ⟨?_, ?_, fun j hj => ?_, fun _ _ => rfl⟩
      · exact congrArg SilFifo.entries ((silFifo_put (s.withHold x) _ _ _).trans (if_pos rfl))
      · refine (congrArg SilFifo.lost ((silFifo_put (s.withHold x) _ _ _).trans (if_pos rfl))).trans ?_
        rfl
      · exact (silFifo_put (s.withHold x) _ _ _).trans (if_neg hj)
  · change Answers (s.written p fun t => t.silFlush k.val) _
    refine written_answers_of ha fun x => answers_of_calm hq ?_ fun l a b => ?_
    · exact ⟨⟨rfl, rfl, rfl, rfl, rfl, rfl⟩, rfl, rfl, rfl⟩
    · refine ⟨?_, fun j hj => ?_, rfl, fun _ _ => rfl⟩
      · exact (silFifo_put (s.withHold x) _ _ _).trans (if_pos rfl)
      · exact (silFifo_put (s.withHold x) _ _ _).trans (if_neg hj)

end Sys2Proof.Machine
end

section
/-!
Rail faults, clears of sources, test occurrences and keyed writes.
-/
namespace Sys2Proof.Machine

/-! ### What the collector keeps -/

@[simp] theorem srcOf_modSrc (s : State) (n k : Nat) (f : SrcState → SrcState) :
    (s.modSrc n f).srcOf k = if k = n then f (s.srcOf n) else s.srcOf k := by
  unfold State.srcOf State.modSrc tabMod
  exact tabGet_tabPut ..

theorem modSrc_calm (s : State) (n : Nat) (f : SrcState → SrcState) : (s.modSrc n f).calm s :=
  ⟨⟨rfl, rfl, rfl, rfl, rfl, rfl⟩, rfl, rfl, rfl⟩

/-- The registers whose contents the end of a command acts on. -/
def calmRegs : List Nat := [Reg.CHIP_MODE, Reg.PC_SUPV_STATUS, Reg.MG_FML_STATUS]

/-- A change of other registers is calm. -/
theorem calm_of_rest {u s : State} (h : u.rest = s.rest) (hr : ∀ a ∈ calmRegs, u.reg a = s.reg a) : u.calm s := by
  refine ⟨?_, md_of_reg (hr _ (by decide)), hr _ (by decide), hr _ (by decide)⟩
  rw [eq_of_rest h]
  exact ⟨rfl, rfl, rfl, rfl, rfl, rfl⟩

/-! ### First-error capture -/

theorem putRec_reg (s : State) (a b : Nat) (r : AccessRec) (h : b < a ∨ a + 32 ≤ b) : (s.putRec a r).reg b = s.reg b := by
  unfold State.putRec recWords
  simp only [List.range_succ, List.range_zero, List.zip, List.nil_append, List.cons_append, List.zipWith_cons_cons,
    List.zipWith_nil_left, List.foldl_cons, List.foldl_nil, reg_setReg]
  repeat rw [if_neg (by omega)]

theorem putRec_rest (s : State) (a : Nat) (r : AccessRec) : (s.putRec a r).rest = s.rest := by
  unfold State.putRec
  rw [foldl_keep State.rest]
  exact fun t e => setReg_rest t _ _

/-- A capture at one place writes registers alone. -/
theorem capture_rest (s : State) (c : Bool) (ctl cnt a : Nat) (m v n : Fld) (r : AccessRec) :
    (if c then (s.set1 ctl m).inc cnt n else (s.putRec a r).set1 ctl v).rest = s.rest := by
  split
  · exact (inc_rest _ _ _).trans (set1_rest _ _ _)
  · exact (set1_rest _ _ _).trans (putRec_rest s a r)

/-- It writes the record, its control and its count. -/
theorem capture_reg (s : State) (c : Bool) (ctl cnt a b : Nat) (m v n : Fld) (r : AccessRec) (h1 : b ≠ ctl) (h2 : b ≠ cnt)
    (h3 : b < a ∨ a + 32 ≤ b) :
    (if c then (s.set1 ctl m).inc cnt n else (s.putRec a r).set1 ctl v).reg b = s.reg b := by
  split
  · simp [h1, h2]
  · simp [h1, putRec_reg _ _ _ _ h3]

/-- First-error capture writes registers alone. -/
theorem captureFirst_rest (s : State) (o : Occ) (rail : Bool) : (s.captureFirst o rail).rest = s.rest := by
  unfold State.captureFirst
  simp only
  split
  · exact capture_rest ..
  · exact (capture_rest ..).trans (capture_rest ..)

/-- They are those of first errors, chip-wide and of Flacons. -/
theorem captureFirst_reg (s : State) (o : Occ) (rail : Bool) (b : Nat)
    (h : b < 0x100100 ∨ 0x100130 ≤ b ∧ b < 0x4000000 ∨ 0x8000000 ≤ b) : (s.captureFirst o rail).reg b = s.reg b := by
  have h1 (t : State) (c : Bool) (m v n : Fld) (r : AccessRec) := capture_reg t c Reg.FC_FERR_CTL Reg.FC_FERR_CNT
    (Reg.FC_FERR 0) b m v n r (by unfold Reg.FC_FERR_CTL; omega) (by unfold Reg.FC_FERR_CNT; omega)
    (by unfold Reg.FC_FERR; omega)
  have h2 (t : State) (c : Bool) (f : FlaconIx) (m v n : Fld) (r : AccessRec) := capture_reg t c (Reg.FL_FERR_CTL f.val)
    (Reg.FL_FERR_CNT f.val) (Reg.FL_FERR f.val 0) b m v n r (by unfold Reg.FL_FERR_CTL; omega)
    (by unfold Reg.FL_FERR_CNT; omega) (by unfold Reg.FL_FERR; omega)
  unfold State.captureFirst
  simp only
  split
  · exact h1 ..
  · exact (h2 ..).trans (h1 ..)

theorem captureFirst_calm (s : State) (o : Occ) (rail : Bool) : (s.captureFirst o rail).calm s :=
  calm_of_rest (captureFirst_rest s o rail) fun a ha => captureFirst_reg s o rail a (by
    simp only [calmRegs, List.mem_cons, List.not_mem_nil, or_false] at ha
    rcases ha with rfl | rfl | rfl <;> simp [Reg.CHIP_MODE, Reg.PC_SUPV_STATUS, Reg.MG_FML_STATUS])

/-! ### The log and the alert -/

theorem logEntry_room {s : State} (e : LogEntry) (h : s.flt.log.length < 4096) :
    s.logEntry e = { s with flt := { s.flt with log := s.flt.log ++ [e] } } := if_pos h

theorem alert_flt (s : State) (n v : Nat) : (s.alert n v).flt = s.flt := by
  unfold State.alert
  repeat' split
  all_goals simp

theorem alert_calm (s : State) (n v : Nat) : (s.alert n v).calm s := by
  unfold State.alert
  repeat' split
  all_goals simp +decide [State.calm]

theorem react_minor (s : State) (o : Occ) {v : Nat} (h : v ≤ 1) : s.react o v = s := by
  unfold State.react
  rw [if_neg (by omega), if_neg (by omega)]

/-- An occurrence that only shows: what is kept of its source, its entry, and a capture and an alert beside them. -/
theorem shows_minor (s : State) (k : SrcState) (e : LogEntry) (o : Occ) (rail : Bool) {v : Nat} (h : v ≤ 1)
    (hl : s.flt.log.length < 4096) {u : State}
    (hu : u = (((((s.modSrc o.source fun _ => k).logEntry e).captureFirst o rail).alert o.source v).react o v)) :
    u.calm s ∧ u.flt.log = s.flt.log ++ [e] ∧ u.srcOf o.source = k := by
  rw [react_minor _ _ h, logEntry_room (s := s.modSrc o.source fun _ => k) e hl] at hu
  have hr (t : State) : (t.captureFirst o rail).flt = t.flt := by rw [eq_of_rest (captureFirst_rest t o rail)]
  have hf : u.flt = { (s.modSrc o.source fun _ => k).flt with log := s.flt.log ++ [e] } := by
    rw [hu, alert_flt, hr]
    rfl
  refine ⟨?_, by rw [hf], ?_⟩
  · rw [hu]
    exact calm_trans (alert_calm _ _ _) (calm_trans (captureFirst_calm _ _ _) ⟨⟨rfl, rfl, rfl, rfl, rfl, rfl⟩, rfl, rfl, rfl⟩)
  · have hs := srcOf_modSrc s o.source o.source fun _ => k
    rw [if_pos rfl] at hs
    unfold State.srcOf
    rw [hf]
    exact hs

/-- What the collector leaves of an occurrence of a rail at rail severity 1. -/
theorem handle_rail (s : State) (o : Occ) (hd : defaultSev o.source ≠ none) (hv : s.railSevOf o.source = 1)
    (hl : s.flt.log.length < 4096) : (s.handle o true none).calm s ∧
      (∃ e, (s.handle o true none).flt.log = s.flt.log ++ [e] ∧ e.source = o.source ∧ e.rail = true ∧ e.severity = 1) ∧
      ((s.handle o true none).srcOf o.source).pending = true ∧
      ((s.handle o true none).srcOf o.source).rail = (s.srcOf o.source).rail ∧
      ((s.handle o true none).srcOf o.source).railNow = (s.srcOf o.source).railNow := by
  obtain ⟨d, hd⟩ := Option.ne_none_iff_exists'.1 hd
  have h1 : handledSev s.md o 1 = 1 := rfl
  generalize hu : s.handle o true none = u
  unfold State.handle at hu
  simp only [hd, hv, if_true, Bool.not_true, Bool.and_false, Bool.false_and, Bool.false_eq_true, if_false, h1, le_refl] at hu
  obtain ⟨hc, hg, hk⟩ := shows_minor s _ _ o true (le_refl 1) hl hu.symm
  exact ⟨hc, ⟨_, hg, rfl, rfl, rfl⟩, by rw [hk], by rw [hk], by rw [hk]⟩

/-! ### Clearing -/

/-- A source other than a viral one is cleared alone. -/
theorem clearSource_srcOf (s : State) (n k : Nat) (hn : ¬ (832 ≤ n ∧ n < 928 ∧ (n - 832) % 24 = 16)) : (s.clearSource n).srcOf k =
    if k = n ∧ ((s.srcOf n).pending = true ∨ (s.srcOf n).escCount ≠ 0) then
      { s.srcOf n with pending := false, recSev := 0, flacons := 0, nofl := false, escCount := 0 } else s.srcOf k := by
  unfold State.clearSource
  simp only [if_neg hn, apply_ite (State.srcOf · k), srcOf_modSrc]
  by_cases hk : k = n
  · by_cases hp : (s.srcOf n).pending = true <;> by_cases he : (s.srcOf n).escCount = 0 <;> simp [hk, hp, he]
  · simp [hk]

theorem clearSource_calm (s : State) (n : Nat) (hn : ¬ (832 ≤ n ∧ n < 928 ∧ (n - 832) % 24 = 16)) : (s.clearSource n).calm s ∧ ∀ a, (s.clearSource n).reg a = s.reg a := by
  unfold State.clearSource
  simp only [if_neg hn]
  split
  · exact ⟨⟨⟨rfl, rfl, rfl, rfl, rfl, rfl⟩, rfl, rfl, rfl⟩, fun _ => rfl⟩
  · exact ⟨modSrc_calm s n _, fun _ => rfl⟩

/-- Clearing the sources of a mask, each once. -/
theorem foldl_clearSource (w mask : Nat) (hw : w < 26) (L : List Nat) (hL : ∀ i ∈ L, i < 32) (s : State) (n : Nat) :
    let t := L.foldl (fun t i => if mask.testBit i then t.clearSource (32 * w + i) else t) s
    t.calm s ∧ (∀ a, t.reg a = s.reg a) ∧
      ((∀ i ∈ L, mask.testBit i = true → n ≠ 32 * w + i) → t.srcOf n = s.srcOf n) ∧
      (((s.srcOf n).pending = false ∧ (s.srcOf n).escCount = 0 ∨ ∃ i ∈ L, mask.testBit i = true ∧ n = 32 * w + i) →
        (t.srcOf n).pending = false ∧ (t.srcOf n).escCount = 0) := by
  induction L generalizing s with
  | nil => simp [State.calm]
  | cons i L ih =>
    have hi : ¬ (832 ≤ 32 * w + i ∧ 32 * w + i < 928 ∧ (32 * w + i - 832) % 24 = 16) := by
      have := hL i (by simp)
      omega
    obtain ⟨h1, h2⟩ := clearSource_calm s (32 * w + i) hi
    have h3 := clearSource_srcOf s (32 * w + i) n hi
    have ih := ih fun k hk => hL k (List.mem_cons_of_mem _ hk)
    simp only [List.foldl_cons]
    by_cases hb : mask.testBit i = true
    · rw [if_pos hb]
      obtain ⟨i1, i2, i3, i4⟩ := ih (s.clearSource (32 * w + i))
      refine ⟨calm_trans i1 h1, fun a => (i2 a).trans (h2 a), fun h => ?_, fun h => i4 ?_⟩
      · have hn := h i (by simp) hb
        rw [i3 fun k hk => h k (List.mem_cons_of_mem _ hk), h3, if_neg fun e => hn e.1]
      · rw [h3]
        by_cases hn : n = 32 * w + i
        · left
          by_cases hp : (s.srcOf (32 * w + i)).pending = true <;> by_cases he : (s.srcOf (32 * w + i)).escCount = 0 <;>
            simp [hn, hp, he]
        · rw [if_neg fun e => hn e.1]
          refine h.imp_right fun ⟨k, hk, hm, e⟩ => ⟨k, (List.mem_cons.1 hk).resolve_left fun e2 => hn (by rw [e, e2]), hm, e⟩
    · rw [if_neg hb]
      obtain ⟨i1, i2, i3, i4⟩ := ih s
      refine ⟨i1, i2, fun h => i3 fun k hk => h k (List.mem_cons_of_mem _ hk), fun h => i4 ?_⟩
      refine h.imp_right fun ⟨k, hk, hm, e⟩ => ⟨k, (List.mem_cons.1 hk).resolve_left fun e2 => hb (by rw [← e2]; exact hm), hm, e⟩

theorem clearPend_spec (s : State) (w mask : Nat) (hw : w < 26) : (s.clearPend w mask).calm s ∧
    (∀ a, (s.clearPend w mask).reg a = s.reg a) ∧
    (∀ i < 32, mask.testBit i = true →
      ((s.clearPend w mask).srcOf (32 * w + i)).pending = false ∧ ((s.clearPend w mask).srcOf (32 * w + i)).escCount = 0) ∧
    ∀ n, (n / 32 ≠ w ∨ mask.testBit (n % 32) = false) → (s.clearPend w mask).srcOf n = s.srcOf n := by
  have h := foldl_clearSource w mask hw (List.range 32) (fun i hi => List.mem_range.1 hi) s
  refine ⟨(h 0).1, (h 0).2.1, fun i hi hm => (h _).2.2.2 (.inr ⟨i, List.mem_range.2 hi, hm, rfl⟩), fun n hn => ?_⟩
  refine (h n).2.2.1 fun i hi hm e => ?_
  have hi := List.mem_range.1 hi
  have h1 : n / 32 = w := by omega
  have h2 : n % 32 = i := by omega
  rcases hn with hn | hn
  · exact hn h1
  · rw [h2, hm] at hn
    exact Bool.noConfusion hn

/-! ### Rail faults and test occurrences -/

/-- The occurrence that a rail fault of source n is. -/
def State.railOcc (s : State) (n : Nat) : Occ :=
  { source := n
    flacon := match s.railFlacon n with
      | some i => if h : i < 32 then some ⟨i, h⟩ else none
      | none => none }

theorem take_rail {s : State} {o : Occ} (hr : s.flt.running = true) (hf : s.isFreezeSource o = false) :
    s.take o true = s.handle o true none := by
  unfold State.take
  simp [hr, hf]

theorem railFault_new {s : State} {n : Nat} (hr : s.flt.running = true) (hd : defaultSev n ≠ none)
    (hn : (s.srcOf n).railNow = false) (hf : s.isFreezeSource { source := n } = false) :
    s.railFault n = (s.modSrc n fun k => { k with rail := true, railNow := true }).handle (s.railOcc n) true none := by
  have hd' : (defaultSev n).isNone = false := by simpa [Option.isNone_eq_false_iff, Option.isSome_iff_ne_none] using hd
  unfold State.railFault
  rw [if_neg (by simp [hd', hr, hn])]
  exact take_rail (o := s.railOcc n) hr hf

theorem railFault_stands {s : State} {n : Nat} (hn : (s.srcOf n).railNow = true) : s.railFault n = s :=
  if_pos (.inr (.inr hn))

theorem occur_known {s : State} {o : Occ} (h : defaultSev o.source ≠ none) :
    s.occur o = { s with flt := { s.flt with raised := s.flt.raised ++ [o] } } := by
  have hd' : (defaultSev o.source).isNone = false := by simpa [Option.isNone_eq_false_iff, Option.isSome_iff_ne_none] using h
  unfold State.occur
  rw [hd']
  rfl

/-- A keyed write with the key shown. -/
theorem rwpWrite_shown {s : State} (n : Nat) (k : State → State) (h : s.presenceOk = true) : s.rwpWrite n k = k s := if_pos h

/-- FC_INJECT as a write of w shows it. -/
def State.showInject (s : State) (w : Nat) : State :=
  ((s.wr Reg.FC_INJECT Fld.FC_INJECT.SOURCE (w % 2 ^ 11)).wr Reg.FC_INJECT Fld.FC_INJECT.FLACON (w / 2 ^ 11 % 32)).wrB
    Reg.FC_INJECT Fld.FC_INJECT.FLACON_V (w.testBit 16)

theorem showInject_source (s : State) (w : Nat) : (s.showInject w).rd Reg.FC_INJECT Fld.FC_INJECT.SOURCE = w % 2 ^ 11 := by
  simp +decide only [State.showInject, wrB_eq, rd_wr_eq, if_true, reg_wr, getFld_setFld_other, getFld_setFld_same]
  exact Nat.mod_mod _ _

theorem showInject_reg (s : State) (w a : Nat) (h : a ≠ Reg.FC_INJECT) : (s.showInject w).reg a = s.reg a := by
  simp [State.showInject, h]

theorem showInject_rest (s : State) (w : Nat) : (s.showInject w).rest = s.rest :=
  (wrB_rest _ _ _ _).trans ((wr_rest _ _ _ _).trans (wr_rest _ _ _ _))

theorem hasRaised_raise (s : State) (n : Nat) : (s.raise n none).hasRaised n none :=
  ⟨_, List.mem_append_right _ (List.mem_singleton_self _), rfl, rfl⟩

/-- A keyed write without the key is logged. -/
theorem rwpWrite_refused {s : State} (n : Nat) (k : State → State) (h : s.presenceOk = false) :
    (s.rwpWrite n k).hasRaised Src.MG_RWP_REFUSED none ∧
      (s.rwpWrite n k).rd Reg.MG_RWP_LOG Fld.MG_RWP_LOG.OFFSET = n % 2 ^ Fld.MG_RWP_LOG.OFFSET.width ∧
      (s.rwpWrite n k).rd Reg.MG_RWP_LOG Fld.MG_RWP_LOG.COUNT =
        min (2 ^ Fld.MG_RWP_LOG.COUNT.width - 1) (s.rd Reg.MG_RWP_LOG Fld.MG_RWP_LOG.COUNT + 1) ∧
      (s.rwpWrite n k).regsBut s [Reg.MG_RWP_LOG] := by
  have e : s.rwpWrite n k = (((s.wr Reg.MG_RWP_LOG Fld.MG_RWP_LOG.OFFSET n).wrB Reg.MG_RWP_LOG Fld.MG_RWP_LOG.SEALED
    (s.on Reg.MG_SEAL Fld.MG_SEAL.SEAL_BROKEN)).inc Reg.MG_RWP_LOG Fld.MG_RWP_LOG.COUNT).raise Src.MG_RWP_REFUSED none :=
    if_neg (by simp [h])
  rw [e]
  refine ⟨hasRaised_raise _ _, ?_, ?_, fun a ha => ?_⟩
  · simp +decide
  · simp +decide
  · simp only [List.mem_singleton] at ha
    simp [ha]

/-- An injection of a chip-wide occurrence. -/
theorem injectFault_chip {s : State} {w : Nat} (hp : s.presenceOk = true) (h1 : w.testBit 17 = true)
    (h0 : w.testBit 16 = false) : s.injectFault w = (s.showInject w).occur { source := w % 2 ^ 11 } := by
  unfold State.injectFault
  rw [rwpWrite_shown _ _ hp]
  simp only [State.showInject, h1, h0, if_true, Bool.false_eq_true, if_false]

/-- A write without INJECT. -/
theorem injectFault_none {s : State} {w : Nat} (hp : s.presenceOk = true) (h1 : w.testBit 17 = false) :
    s.injectFault w = s.showInject w := by
  unfold State.injectFault
  rw [rwpWrite_shown _ _ hp]
  simp only [State.showInject, h1, Bool.false_eq_true, if_false]

/-- Settles O44: a rail fault is handled at its rail severity; a clear touches the sources of its mask alone. -/
theorem faultRegisters : Obligations.FaultRegisters := by
  refine ⟨?_, ?_, ?_, ?_, ?_, ?_, ?_, ?_, ?_⟩
  · intro s n hq hr hd hn hf hv hl
    change Answers (done (s.railFault n)) _
    rw [railFault_new hr hd hn hf]
    obtain ⟨hc, ⟨e, he, h1, h2, h3⟩, hp, ha, hb⟩ := handle_rail (s.modSrc n fun k => { k with rail := true, railNow := true })
      (s.railOcc n) hd hv hl
    refine answers_of_calm hq (calm_trans hc (modSrc_calm _ _ _)) fun l a b => ⟨?_, ?_, hp, e, he, h1, h2, h3⟩
    · exact ha.trans (by simp [State.railOcc])
    · exact hb.trans (by simp [State.railOcc])
  · intro s n hq hn
    change Answers (done (s.railFault n)) _
    rw [railFault_stands hn]
    exact answers_of_calm hq ⟨⟨rfl, rfl, rfl, rfl, rfl, rfl⟩, rfl, rfl, rfl⟩ fun l a b => ⟨rfl, rfl, fun _ _ => rfl⟩
  · intro s n hq hn
    change Answers (done (s.railFaultEnd n)) _
    rw [State.railFaultEnd, if_pos hn]
    exact answers_of_calm hq (modSrc_calm _ _ _) fun l a b =>
      ⟨(srcOf_modSrc s n n fun k => { k with railNow := false }).trans (if_pos rfl), rfl, fun _ _ => rfl⟩
  · intro s p w m hq ha hw
    change Answers (s.written p fun t => t.clearPend w.val m.toNat) _
    refine written_answers_of ha fun x => ?_
    obtain ⟨hc, hr, h1, h2⟩ := clearPend_spec (s.withHold x) w.val m.toNat hw
    exact answers_of_calm hq hc fun l a b => ⟨fun i hi hm => h1 i hi hm, fun n hn => h2 n hn, fun x _ => hr x⟩
  · intro s p hq ha
    change Answers (s.written p fun t => t.clearAlert) _
    refine written_answers_of ha fun x => answers_of_calm hq ?_ fun l a b => ?_
    · simp +decide [State.calm, State.clearAlert, State.withHold]
    · simp +decide +contextual [State.clearAlert, State.regsBut, State.withHold]
  · intro s p n hq ha hn
    change Answers (s.written p fun t => t.logAck (n % 2 ^ 13)) _
    rw [Nat.mod_eq_of_lt hn]
    exact written_answers_of ha fun x => answers_of_calm hq ⟨⟨rfl, rfl, rfl, rfl, rfl, rfl⟩, rfl, rfl, rfl⟩ fun l a b =>
      ⟨rfl, rfl, fun _ _ => rfl⟩
  · intro s p w ha hp h1 h0 hd
    change Leaves (s.written p fun t => t.injectFault w.toNat) _
    refine written_leaves_of ha fun x => ?_
    rw [injectFault_chip (s := s.withHold x) hp h1 h0, occur_known hd]
    refine ⟨⟨_, List.mem_append_right _ (List.mem_singleton_self _), rfl, rfl⟩, showInject_source _ _, fun a ha => ?_⟩
    exact showInject_reg (s.withHold x) _ a (by simpa using ha)
  · intro s p w hq ha hp h1
    change Answers (s.written p fun t => t.injectFault w.toNat) _
    refine written_answers_of ha fun x => ?_
    rw [injectFault_none (s := s.withHold x) hp h1]
    refine answers_of_calm hq ?_ fun l a b => ⟨showInject_source _ _, rfl, fun a ha => ?_⟩
    · exact calm_trans (calm_of_rest (showInject_rest _ _) fun a ha => showInject_reg _ _ a (by rintro rfl; revert ha; decide))
        ⟨⟨rfl, rfl, rfl, rfl, rfl, rfl⟩, rfl, rfl, rfl⟩
    · exact showInject_reg (s.withHold x) _ a (by simpa using ha)
  · intro s p w ha hp
    change Leaves (s.written p fun t => t.injectFault w.toNat) _
    refine written_leaves_of ha fun x => ?_
    exact rwpWrite_refused (s := s.withHold x) 0x100300 _ hp

end Sys2Proof.Machine
end

section
/-!
Management commands that meet a fence notice at their block.
-/
namespace Sys2Proof.Machine

/-! ### A fence notice that waits at the block of a command

A command that meets a fence notice at its block is answered BLOCK_FENCED (R20): the notice comes first. -/

/-- The status of a response. -/
def statusOf : Out → Option Nat
  | .response _ _ status _ _ _ => some status
  | _ => none

/-- Where no response has a status, none with it was sent. -/
theorem not_repliedTo {t : State} {r : MgmtReq} {c : MgmtCmd} {status detail : Nat} {body : List Byte}
    (h : (t.out.all fun o => statusOf o != some status) = true) : ¬ t.repliedTo r c status detail body := fun hm => by
  have := List.all_eq_true.1 h _ hm
  simp [statusOf] at this

/-- A command that the machine never answers with a status is not answered with it. -/
theorem no_answer {s : State} {r : MgmtReq} {c : MgmtCmd} {status detail : Nat} {body : List Byte} {P : State → Prop}
    (h : ((s.mailbox r c).settle.out.all fun o => statusOf o != some status) = true)
    (hP : ∀ t, P t → t.repliedTo r c status detail body) : ¬ Answers (done (s.mailbox r c)) P := by
  rintro ⟨t, e, ht⟩
  have e : (s.mailbox r c).settle = t := by injection e
  exact not_repliedTo h (e ▸ hP t ht)

/-- A machine in SERVE under a Formula without records, MPORT up and firmware running, with a fence notice on its way. -/
def fenceWaits (n : Notice) : State :=
  ({ State.reset with
    fml := { State.reset.fml with inForce := some {} }
    mode := { State.reset.mode with fwRunning := true }
    mgmt := { State.reset.mgmt with mportUp := true }
    flt := { State.reset.flt with notices := [n] } } : State).wr Reg.CHIP_MODE Fld.CHIP_MODE.MODE Mode.serve.code

/-- Refutes O36: UNBIND of a port of tile 0 meets the fence of that tile. -/
theorem not_slotCommands : ¬ Obligations.SlotCommands := by
  intro h
  obtain ⟨-, -, -, -, -, -, -, -, -, -, -, -, h⟩ := h
  refine no_answer (by decide +kernel) (fun t ht => ht.1) (h (fenceWaits (.fenceTile 0)) (.unbindSurprise {} 0 0) {} 0 0 2
    (by decide +kernel) ?_ (by simp) (by decide +kernel) (by decide) (by decide +kernel))
  unfold State.takes
  decide +kernel

/-- The same machine with a copy job of Flacon 0. -/
def fencedJob : State :=
  { fenceWaits (.fenceFlacon 0) with decant := [(0, { src := 0, tgt := 1, flacon := 0, rate := 100, total := 1 })] }

/-- Refutes O37: DECANT_RATE of a job of Flacon 0 meets the fence of that Flacon. -/
theorem not_decantJobs : ¬ Obligations.DecantJobs := by
  intro h
  obtain ⟨-, -, -, -, h, -⟩ := h
  refine no_answer (by decide +kernel) (fun t ht => ht.1) (h fencedJob {} 0 100 _ (by decide +kernel) ?_ (by decide) rfl
    (by decide +kernel) (by decide) (by decide))
  unfold State.takes
  decide +kernel

/-- Refutes O49: WRITE_REG of a register of tile 0, over a path that may not write, meets the fence of that tile. -/
theorem not_mailboxReads : ¬ Obligations.MailboxReads := by
  intro h
  obtain ⟨-, -, -, h, -⟩ := h
  refine no_answer (by decide +kernel) (fun t ht => ht.1) (h (fenceWaits (.fenceTile 0)) { path := 1 } 0x1000000 4 0 0x1000000
    (by decide +kernel) ?_ ?_ (by decide) (by decide +kernel))
  · unfold State.takes
    decide +kernel
  · unfold State.opensAt
    decide +kernel

/-- Refutes O51: SET_WEIGHT of a port of tile 0 meets the fence of that tile. -/
theorem not_mailboxSettings : ¬ Obligations.MailboxSettings := by
  intro h
  obtain ⟨-, h, -⟩ := h
  refine no_answer (by decide +kernel) (fun t ht => ht.1) (h (fenceWaits (.fenceTile 0)) {} 0 0 0 _ (by decide +kernel) ?_
    (by decide) (by decide) rfl (.inl (by decide +kernel)))
  unfold State.takes
  decide +kernel

/-- Refutes O52: a REGION_BATCH for Flacon 0 meets the fence of that Flacon. -/
theorem not_regionBatches : ¬ Obligations.RegionBatches := by
  intro h
  obtain ⟨-, -, h, -⟩ := h
  refine no_answer (by decide +kernel) (fun t ht => ht.1) (h (fenceWaits (.fenceFlacon 0)) {} 0 1 [] (by decide +kernel) ?_
    (by decide))
  unfold State.takes
  decide +kernel

end Sys2Proof.Machine
end

section
/-!
The answers of management commands: what they add to the effect of the command, and the checks before it.
-/
namespace Sys2Proof.Machine

/-! ### The answer to a command -/

/-- s with command c of request r counted and answered. -/
def State.replied (s : State) (r : MgmtReq) (c : MgmtCmd) (x : Reply) : State :=
  (s.countCmd r.path.val x.status).respond r.path (mgmtOpcode c) r.tag x

theorem countCmd_rest (s : State) (p st : Nat) : (s.countCmd p st).rest = s.rest := by
  unfold State.countCmd
  split <;> exact inc_rest ..

theorem countCmd_reg (s : State) (p st a : Nat) (h : a ≠ Reg.MG_PATH_CNT p) : (s.countCmd p st).reg a = s.reg a := by
  unfold State.countCmd
  split <;> simp [h]

/-- An answer changes the outputs, the response buffers, and MBX_STATUS. -/
theorem respond_eq (s : State) (p : Fin 4) (op : Nat) (tag : Word) (x : Reply) : ∃ l rb ic g,
    s.respond p op tag x = { s with
      out := l ++ .response p.val op x.status tag x.detail x.body :: s.out
      mgmt := { s.mgmt with respBuf := rb, i3cResp := ic }, regs := g } ∧
    ∀ a, a ≠ Reg.MBX_STATUS → regGet g a = s.reg a := by
  unfold State.respond
  split
  · obtain ⟨l, e⟩ := msix_eq ((({ (s.emit (.response p.val op x.status tag x.detail x.body)) with
      mgmt := { s.mgmt with respBuf := responseBytes op tag x } } : State).set1 Reg.MBX_STATUS Fld.MBX_STATUS.DONE)) 0
    refine ⟨l, _, _, _, e, fun a h => ?_⟩
    simp [h]
  · exact ⟨[.ibi], _, _, _, rfl, fun _ _ => rfl⟩
  · exact ⟨[], _, _, _, rfl, fun _ _ => rfl⟩

theorem answered_eq (s : State) (r : MgmtReq) (c : MgmtCmd) (x : Reply) : ∃ l rb ic g,
    s.replied r c x = { s with
      out := l ++ .response r.path.val (mgmtOpcode c) x.status r.tag x.detail x.body :: s.out
      mgmt := { s.mgmt with respBuf := rb, i3cResp := ic }, regs := g } ∧
    ∀ a, a ∉ mgmtRegs r → regGet g a = s.reg a := by
  obtain ⟨l, rb, ic, g, e, hg⟩ := respond_eq (s.countCmd r.path.val x.status) r.path (mgmtOpcode c) r.tag x
  refine ⟨l, rb, ic, g, ?_, fun a h => ?_⟩
  · unfold State.replied
    rw [e, eq_of_rest (countCmd_rest s r.path.val x.status)]
  · simp only [mgmtRegs, List.mem_cons, List.not_mem_nil, or_false, not_or] at h
    exact (hg a h.2).trans (countCmd_reg _ _ _ _ h.1)

theorem answered_reg (s : State) (r : MgmtReq) (c : MgmtCmd) (x : Reply) (a : Nat) (h : a ∉ mgmtRegs r) :
    (s.replied r c x).reg a = s.reg a := by
  obtain ⟨l, rb, ic, g, e, hg⟩ := answered_eq s r c x
  rw [e]
  exact hg a h

theorem calmRegs_mgmt (r : MgmtReq) : ∀ a ∈ calmRegs, a ∉ mgmtRegs r := by
  simp only [calmRegs, mgmtRegs, List.mem_cons, List.not_mem_nil, or_false, not_or, forall_eq_or_imp, forall_eq]
  refine ⟨⟨?_, by decide⟩, ⟨?_, by decide⟩, ?_, by decide⟩ <;>
    simp only [Reg.CHIP_MODE, Reg.PC_SUPV_STATUS, Reg.MG_FML_STATUS, Reg.MG_PATH_CNT] <;> omega

theorem answered_calm (s : State) (r : MgmtReq) (c : MgmtCmd) (x : Reply) : (s.replied r c x).calm s := by
  have hr := fun a ha => answered_reg s r c x a (calmRegs_mgmt r a ha)
  refine ⟨?_, md_of_reg (hr _ (by decide)), hr _ (by decide), hr _ (by decide)⟩
  obtain ⟨l, rb, ic, g, e, -⟩ := answered_eq s r c x
  rw [e]
  exact ⟨rfl, rfl, rfl, rfl, rfl, rfl⟩

theorem answered_replies (s : State) (r : MgmtReq) (c : MgmtCmd) (x : Reply) :
    (s.replied r c x).repliedTo r c x.status x.detail x.body := by
  obtain ⟨l, rb, ic, g, e, -⟩ := answered_eq s r c x
  unfold State.repliedTo
  rw [e]
  exact List.mem_append_right _ (List.mem_cons_self ..)

/-- What an answer leaves beside registers, outputs and response buffers. -/
theorem answered_keeps (s : State) (r : MgmtReq) (c : MgmtCmd) (x : Reply) :
    (s.replied r c x).mgmt.flash = s.mgmt.flash ∧ (s.replied r c x).mgmt.fuses = s.mgmt.fuses ∧
      (s.replied r c x).acc = s.acc ∧ (s.replied r c x).home = s.home ∧ (s.replied r c x).fml = s.fml ∧
      (s.replied r c x).sched = s.sched ∧ (s.replied r c x).flt = s.flt ∧ (s.replied r c x).keep = s.keep ∧
      (s.replied r c x).retention = s.retention := by
  obtain ⟨l, rb, ic, g, e, -⟩ := answered_eq s r c x
  rw [e]
  exact ⟨rfl, rfl, rfl, rfl, rfl, rfl, rfl, rfl, rfl⟩

/-! ### The checks of a command -/

/-- A request on a path that carries commands is answered. -/
theorem mailbox_carried {s : State} {r : MgmtReq} (c : MgmtCmd) (hr : r.remote = false) (hp : s.pathUp r.path = true) :
    s.mailbox r c = (s.command r c).2.replied r c (s.command r c).1 := by
  unfold State.mailbox
  rw [hr, hp]
  rfl

theorem mailbox_heard {s : State} {r : MgmtReq} (c : MgmtCmd) (h : s.hears r) :
    s.mailbox r c = (s.command r c).2.replied r c (s.command r c).1 := mailbox_carried c h.1 h.2.1

theorem hears_of_takes {s : State} {r : MgmtReq} {c : MgmtCmd} (h : s.takes r c) : s.hears r :=
  ⟨h.1, h.2.1, h.2.2.1, h.2.2.2.1⟩

/-- A command that passes every check is carried out where no notice waits at its block. -/
theorem command_takes {s : State} {r : MgmtReq} {c : MgmtCmd} (h : s.takes r c) (hf : s.fencesMet c = []) :
    s.command r c = s.carryOut r c := by
  obtain ⟨hr, hp, hd, hw, hu, hl, hz, hv, ha, hg, hn⟩ := h
  unfold State.command
  rw [if_neg, if_neg (by simp [hu]), if_neg (by simp [hl]), if_neg (by simp [hz]), if_neg, if_neg, if_neg, if_neg, if_neg,
    if_neg (by simp [hf])]
  · rintro ⟨h1, h2⟩
    exact hn h2 (Option.isNone_iff_eq_none.1 h1)
  · rintro ⟨h1, h2⟩
    rw [(hg h1).2] at h2
    exact Bool.noConfusion h2
  · rintro ⟨h1, h2⟩
    rw [(hg h1).1] at h2
    exact Bool.noConfusion h2
  · rintro ⟨h1, h2⟩
    rw [ha (by simpa using h1)] at h2
    exact Bool.noConfusion h2
  · rintro ⟨h1, h2⟩
    rw [hv h1] at h2
    exact Bool.noConfusion h2
  · rintro (h1 | ⟨h1, h2⟩)
    · exact hd h1
    · rcases hw with hw | hw
      · rw [hw] at h1; exact Bool.noConfusion h1
      · rw [hw] at h2; exact Bool.noConfusion h2

/-- A command that names no port, no Flacon and no register meets no notice. -/
theorem fencesMet_nil {s : State} {c : MgmtCmd} (h : ∀ n, s.meets c n = false) : s.fencesMet c = [] := by
  unfold State.fencesMet
  rw [List.filter_eq_nil_iff]
  exact fun n _ => by simp [h n]

/-- What a taken command leaves. -/
theorem mailbox_takes {s : State} {r : MgmtReq} {c : MgmtCmd} (h : s.takes r c) (hf : s.fencesMet c = []) :
    s.mailbox r c = (s.carryOut r c).2.replied r c (s.carryOut r c).1 := by
  rw [mailbox_heard c (hears_of_takes h), command_takes h hf]

/-- What a command that is answered after a calm change u of the state answers. -/
theorem answers_of_answered {s u : State} {r : MgmtReq} {c : MgmtCmd} {x : Reply} {P : State → Prop} (hq : s.quiet = true)
    (hc : u.calm s) (hP : ∀ (l : List Out) (a b : Bool), P { (u.replied r c x) with
      out := l ++ (u.replied r c x).out, flt := { (u.replied r c x).flt with faultLow := a, alertLow := b } }) :
    Answers (done (u.replied r c x)) P := answers_of_calm hq (calm_trans (answered_calm u r c x) hc) hP

/-- A command that is answered and changes nothing is turned away. -/
theorem turnsAway_of_answered {s : State} {r : MgmtReq} {c : MgmtCmd} {st : Nat} (hq : s.quiet = true) :
    Answers (done (s.replied r c { status := st })) fun t => t.turnsAway s r c st := by
  have h := answered_keeps s r c { status := st }
  obtain ⟨h1, h2, h3, h4, h5, h6, h7, -⟩ := h
  refine answers_of_answered hq ⟨⟨rfl, rfl, rfl, rfl, rfl, rfl⟩, rfl, rfl, rfl⟩ fun l a b =>
    ⟨List.mem_append_right _ (answered_replies s r c _), fun x hx => answered_reg s r c _ x hx, h1, h2, h3, h4, h5, h6, ?_, ?_⟩
  · change (s.replied r c { status := st }).flt.log = _
    rw [h7]
  · change (s.replied r c { status := st }).flt.src = _
    rw [h7]

theorem answers_mono {r : Result} {P Q : State → Prop} (h : Answers r P) (hPQ : ∀ t, P t → Q t) : Answers r Q := by
  obtain ⟨t, e, ht⟩ := h
  exact ⟨t, e, hPQ t ht⟩

/-- The registers below the counts of the paths are none of an answer's. -/
theorem low_mgmt (r : MgmtReq) {a : Nat} (h : a < 0x9000200) : a ∉ mgmtRegs r := by
  simp only [mgmtRegs, Reg.MG_PATH_CNT, Reg.MBX_STATUS, List.mem_cons, List.not_mem_nil, or_false]
  omega

/-- What a command answers that changes one register. -/
theorem answers_one {s u : State} {r : MgmtReq} {c : MgmtCmd} {x : Reply} (a : Nat) (hq : s.quiet = true)
    (ha : a ∉ calmRegs) (hm : a < 0x9000200) (hu : u.rest = s.rest) (hr : ∀ b, b ≠ a → u.reg b = s.reg b) :
    Answers (done (u.replied r c x)) fun t =>
      t.repliedTo r c x.status x.detail x.body ∧ t.reg a = u.reg a ∧ t.regsBut s (a :: mgmtRegs r) := by
  have hc : u.calm s := calm_of_rest hu fun b hb => hr b fun e => ha (e ▸ hb)
  refine answers_of_answered hq hc fun l _ _ => ⟨List.mem_append_right _ (answered_replies u r c x), ?_, fun b hb => ?_⟩
  · exact answered_reg u r c x a (low_mgmt r hm)
  · simp only [List.mem_cons, not_or] at hb
    exact (answered_reg u r c x b hb.2).trans (hr b hb.1)

end Sys2Proof.Machine
end

section
/-!
FAULT_CLEAR.
-/
namespace Sys2Proof.Machine

/-! ### FAULT_CLEAR -/

theorem faultClear_unfenced (s : State) (k : BitVec 8) (n : BitVec 16) : s.fencesMet (.faultClear k n) = [] :=
  fencesMet_nil fun m => by cases m <;> rfl

/-- The answer to a FAULT_CLEAR that is taken. -/
theorem faultClear_answered {s : State} {r : MgmtReq} {k : BitVec 8} {n : BitVec 16} (h : s.takes r (.faultClear k n)) :
    s.mailbox r (.faultClear k n) = (s.cmdFaultClear k.toNat n.toNat).2.replied r (.faultClear k n)
      (s.cmdFaultClear k.toNat n.toNat).1 := mailbox_takes h (faultClear_unfenced s k n)

/-- A FAULT_CLEAR whose own checks fail. -/
theorem faultClear_refused {s : State} {r : MgmtReq} {k : BitVec 8} {n : BitVec 16} {st : Nat} (hq : s.quiet = true)
    (h : s.takes r (.faultClear k n)) (e : s.cmdFaultClear k.toNat n.toNat = ({ status := st }, s)) :
    Answers (done (s.mailbox r (.faultClear k n))) fun t => t.turnsAway s r (.faultClear k n) st := by
  rw [faultClear_answered h, e]
  exact turnsAway_of_answered hq

/-- A FAULT_CLEAR that changes one register. -/
theorem faultClear_one {s u : State} {r : MgmtReq} {k : BitVec 8} {n : BitVec 16} {st : Nat} (a : Nat) (hq : s.quiet = true)
    (h : s.takes r (.faultClear k n)) (e : s.cmdFaultClear k.toNat n.toNat = ({ status := st }, u)) (ha : a ∉ calmRegs)
    (hm : a < 0x9000200) (hu : u.rest = s.rest) (hr : ∀ b, b ≠ a → u.reg b = s.reg b) :
    Answers (done (s.mailbox r (.faultClear k n))) fun t =>
      t.repliedTo r (.faultClear k n) st 0 [] ∧ t.reg a = u.reg a ∧ t.regsBut s (a :: mgmtRegs r) := by
  rw [faultClear_answered h, e]
  exact answers_one a hq ha hm hu hr

/-- Registers of a Flacon's block. -/
theorem fl_low {a f : Nat} (hf : f < 32) (h0 : 0x4000000 + f * 0x1000 ≤ a) (h1 : a < 0x4000000 + f * 0x1000 + 0x1000) :
    a ∉ calmRegs ∧ a < 0x9000200 := by
  simp only [calmRegs, Reg.CHIP_MODE, Reg.PC_SUPV_STATUS, Reg.MG_FML_STATUS, List.mem_cons, List.not_mem_nil, or_false]
  omega

/-- FL_FAULT.CLEAR of a Flacon that no port fell into viral for. -/
theorem flFaultClear_taken {s : State} {f : Nat} (h : s.on (Reg.FL_STATUS f) Fld.FL_STATUS.FENCED = true)
    (hm : s.md ≠ .quarantine) (hu : s.on (Reg.FL_STATUS f) Fld.FL_STATUS.UNFENCING = false) (hv : s.viralPorts f = []) :
    s.flFaultClear f = (true, s.set1 (Reg.FL_STATUS f) Fld.FL_STATUS.UNFENCING) := by
  have hv' : (s.set1 (Reg.FL_STATUS f) Fld.FL_STATUS.UNFENCING).viralPorts f = [] := hv
  unfold State.flFaultClear
  simp only [h, Bool.not_true, Bool.false_eq_true, if_false, hm, hu, or_self]
  unfold State.viralClear
  rw [hv']
  simp

theorem flFaultClear_refused {s : State} {f : Nat} (h : s.on (Reg.FL_STATUS f) Fld.FL_STATUS.FENCED = true)
    (hm : s.md = .quarantine ∨ s.on (Reg.FL_STATUS f) Fld.FL_STATUS.UNFENCING = true) :
    s.flFaultClear f = (false, s.set1 (Reg.FL_FAULT f) Fld.FL_FAULT.REFUSED) := by
  unfold State.flFaultClear
  simp only [h, Bool.not_true, Bool.false_eq_true, if_false, if_pos hm]

theorem flFaultClear_unfenced {s : State} {f : Nat} (h : s.on (Reg.FL_STATUS f) Fld.FL_STATUS.FENCED = false) :
    s.flFaultClear f = (true, s) := by
  unfold State.flFaultClear
  simp only [h, Bool.not_false, if_true]

/-- The end of viral writes VIRAL_TX of ports: the mode and the sources stay. -/
theorem viralClear_keeps (s : State) (f : Nat) : (s.viralClear f).rest = s.rest ∧ (s.viralClear f).md = s.md := by
  unfold State.viralClear
  split
  · exact ⟨rfl, rfl⟩
  · refine ⟨?_, ?_⟩
    · rw [foldl_keep State.rest]
      exact fun t p => set0_rest t _ _
    · rw [foldl_keep State.md]
      refine fun t p => md_wr t _ _ _ (.inl ?_)
      unfold Reg.CHIP_MODE Reg.PT_STD_STATUS
      omega

theorem srcOf_of_flt {t u : State} (h : t.flt.src = u.flt.src) (k : Nat) : t.srcOf k = u.srcOf k := by
  unfold State.srcOf
  rw [h]

/-- FAULT_CLEAR of a source other than viral. -/
theorem faultClearSource_answers {s : State} {r : MgmtReq} {n : BitVec 16} (hq : s.quiet = true)
    (ht : s.takes r (.faultClear 0 n)) (hd : (defaultSev n.toNat).isSome = true)
    (hn : ¬(832 ≤ n.toNat ∧ n.toNat < 928 ∧ (n.toNat - 832) % 24 = 16)) :
    Answers (done (s.mailbox r (.faultClear 0 n))) fun t =>
      t.repliedTo r (.faultClear 0 n) St.OK 0 [] ∧ t.flt.src = (s.clearSource n.toNat).flt.src ∧
        t.flt.log = (s.clearSource n.toNat).flt.log ∧ t.regsBut s (mgmtRegs r) := by
  have e : s.cmdFaultClear (0 : BitVec 8).toNat n.toNat = ({}, s.clearSource n.toNat) := if_pos hd
  obtain ⟨hc, hr⟩ := clearSource_calm s n.toNat hn
  have hf := (answered_keeps (s.clearSource n.toNat) r (.faultClear 0 n) {}).2.2.2.2.2.2.1
  rw [faultClear_answered ht, e]
  have h1 := congrArg FaultState.src hf
  have h2 := congrArg FaultState.log hf
  refine answers_of_answered hq hc fun l _ _ => ⟨List.mem_append_right _ (answered_replies _ r _ _), h1, h2, fun a ha => ?_⟩
  · exact (answered_reg _ r _ _ a ha).trans (hr a)

theorem clearSource_log {s : State} {n : Nat} (hn : ¬(832 ≤ n ∧ n < 928 ∧ (n - 832) % 24 = 16)) :
    (s.clearSource n).flt.log = s.flt.log := by
  unfold State.clearSource
  simp only [if_neg hn]
  split <;> rfl

theorem viralClears_keep (p : State → Nat → Bool) (L : List Nat) (u : State) :
    (L.foldl (fun t f => if p t f then t.viralClear f else t) u).rest = u.rest ∧
      (L.foldl (fun t f => if p t f then t.viralClear f else t) u).md = u.md := by
  have hk (t : State) (f : Nat) : (if p t f then t.viralClear f else t).rest = t.rest ∧
      (if p t f then t.viralClear f else t).md = t.md := by
    split
    · exact viralClear_keeps t f
    · exact ⟨rfl, rfl⟩
  exact ⟨foldl_keep State.rest _ (fun t f => (hk t f).1) L u, foldl_keep State.md _ (fun t f => (hk t f).2) L u⟩

/-- FAULT_CLEAR of a viral source: the Flacons that it is kept for leave viral. -/
theorem clearSource_viral (s : State) {n : Nat} (hn : 832 ≤ n ∧ n < 928 ∧ (n - 832) % 24 = 16) :
    ((s.clearSource n).srcOf n).pending = false ∧ (s.clearSource n).md = s.md := by
  unfold State.clearSource
  simp only [if_pos hn]
  split
  · rename_i h
    simp only [Bool.and_eq_true, Bool.not_eq_true'] at h
    exact ⟨h.1, rfl⟩
  · generalize hu : s.modSrc n _ = u
    have hs : (u.srcOf n).pending = false := by rw [← hu]; simp
    have hm : u.md = s.md := by rw [← hu]; rfl
    obtain ⟨h1, h2⟩ := viralClears_keep (fun t f => (s.srcOf n).flacons.toNat.testBit f &&
      !t.on (Reg.FL_STATUS f) Fld.FL_STATUS.FENCED) (List.range 32) u
    refine ⟨?_, h2.trans hm⟩
    rw [srcOf_of_flt (u := u), hs]
    rw [eq_of_rest h1]

/-- ALERT_N follows FC_ALERT outside FROZEN. -/
theorem refreshPins_alert {s : State} (h : s.md ≠ .frozen) :
    s.refreshPins.flt.alertLow = (s.md.drivesFault && s.on Reg.FC_ALERT Fld.FC_ALERT.PENDING) := by
  unfold State.refreshPins
  simp only [if_neg h]

/-- FAULT_CLEAR of the alert. -/
theorem faultClearAlert_answers {s : State} {r : MgmtReq} (hq : s.quiet = true) (ht : s.takes r (.faultClear 5 0)) :
    Answers (done (s.mailbox r (.faultClear 5 0))) fun t =>
      t.repliedTo r (.faultClear 5 0) St.OK 0 [] ∧ t.on Reg.FC_ALERT Fld.FC_ALERT.PENDING = false ∧
      (s.md ≠ .frozen → t.flt.alertLow = false) ∧ t.regsBut s (Reg.FC_ALERT :: mgmtRegs r) := by
  have e : s.cmdFaultClear (5 : BitVec 8).toNat (0 : BitVec 16).toNat = ({}, s.clearAlert) := rfl
  rw [faultClear_answered ht, e]
  have hc : s.clearAlert.calm s := by simp +decide [State.calm, State.clearAlert]
  have hu := calm_trans (answered_calm s.clearAlert r (.faultClear 5 0) {}) hc
  have hon : (s.clearAlert.replied r (.faultClear 5 0) {}).on Reg.FC_ALERT Fld.FC_ALERT.PENDING = false := by
    rw [on_of_reg (answered_reg _ _ _ _ _ (low_mgmt r (by decide)))]
    simp +decide [State.clearAlert]
  have hout := answered_replies s.clearAlert r (.faultClear 5 0) {}
  have hr := answered_reg s.clearAlert r (.faultClear 5 0) {}
  generalize s.clearAlert.replied r (.faultClear 5 0) {} = u at *
  refine ⟨u.refreshPins, by rw [done, settle_quiet _ (calm_quiet hu hq)], ?_, ?_, fun hm => ?_, fun a ha => ?_⟩
  · obtain ⟨l, a, b, e⟩ := refreshPins_eq u
    rw [e]
    exact List.mem_append_right _ hout
  · rw [on_of_reg (refreshPins_reg u _), hon]
  · rw [refreshPins_alert (by rw [hu.2.1]; exact hm), hon, Bool.and_false]
  · simp only [List.mem_cons, not_or] at ha
    rw [refreshPins_reg, hr a ha.2]
    simp [State.clearAlert, ha.1]

/-- Settles O50: every target is one change of the state, answered. -/
theorem faultClears : Obligations.FaultClears := by
  refine ⟨?_, ?_, ?_, ?_, ?_, ?_, ?_, ?_, ?_, ?_, ?_⟩
  · intro s r n hq ht hd hn
    have hs := fun k => clearSource_srcOf s n.toNat k hn
    refine answers_mono (faultClearSource_answers hq ht hd hn) fun t ⟨h1, h2, h3, h4⟩ =>
      ⟨h1, ?_, h3.trans (clearSource_log hn), fun hp => ?_, fun k hk => ?_, h4⟩
    · rw [srcOf_of_flt h2, hs]
      by_cases hp : (s.srcOf n.toNat).pending = true <;> by_cases he : (s.srcOf n.toNat).escCount = 0 <;> simp [hp, he]
    · rw [srcOf_of_flt h2, hs, if_pos ⟨rfl, .inl hp⟩]
      exact ⟨rfl, rfl, rfl, rfl⟩
    · rw [srcOf_of_flt h2, hs, if_neg fun e => hk e.1]
  · intro s r n ht h1 h2 h3
    have hd : (defaultSev n.toNat).isSome = true := by
      have h : ¬ n.toNat < 512 := by omega
      have h' : ¬ n.toNat < 832 := by omega
      unfold defaultSev
      rw [if_neg h, if_neg h', if_pos h2, h3]
      rfl
    have e : s.cmdFaultClear (0 : BitVec 8).toNat n.toNat = ({}, s.clearSource n.toNat) := if_pos hd
    obtain ⟨hp, hm⟩ := clearSource_viral s ⟨h1, h2, h3⟩
    have hf := (answered_keeps (s.clearSource n.toNat) r (.faultClear 0 n) {}).2.2.2.2.2.2.1
    refine ⟨_, congrArg done ((faultClear_answered ht).trans (by rw [e])), answered_replies _ _ _ _, ?_, ?_⟩
    · rw [srcOf_of_flt (congrArg FaultState.src hf), hp]
    · rw [(answered_calm _ _ _ _).2.1, hm]
  · intro s r n hq ht hd
    exact faultClear_refused hq ht (if_neg (by simp [hd]))
  · intro s r f hq ht hf h hm hu hv
    have e : s.cmdFaultClear (1 : BitVec 8).toNat f.toNat = ({}, s.set1 (Reg.FL_STATUS f.toNat) Fld.FL_STATUS.UNFENCING) := by
      refine (if_neg (by omega)).trans ?_
      rw [flFaultClear_taken h hm hu hv]
      rfl
    obtain ⟨h1, h2⟩ := fl_low (a := Reg.FL_STATUS f.toNat) hf (by unfold Reg.FL_STATUS; omega) (by unfold Reg.FL_STATUS; omega)
    refine answers_mono (faultClear_one (Reg.FL_STATUS f.toNat) hq ht e h1 h2 (set1_rest _ _ _) fun b hb => by simp [hb])
      fun t ⟨a1, a2, a3⟩ => ⟨a1, ?_, ?_, a3⟩
    · rw [on_of_reg a2]; simp +decide
    · rw [on_of_reg a2]; simp +decide [h]
  · intro s r f hq ht hf h hm
    have e : s.cmdFaultClear (1 : BitVec 8).toNat f.toNat = ({ status := if s.md = .quarantine then St.MODE else St.BUSY },
        s.set1 (Reg.FL_FAULT f.toNat) Fld.FL_FAULT.REFUSED) := by
      refine (if_neg (by omega)).trans ?_
      rw [flFaultClear_refused h hm]
    obtain ⟨h1, h2⟩ := fl_low (a := Reg.FL_FAULT f.toNat) hf (by unfold Reg.FL_FAULT; omega) (by unfold Reg.FL_FAULT; omega)
    refine answers_mono (faultClear_one (Reg.FL_FAULT f.toNat) hq ht e h1 h2 (set1_rest _ _ _) fun b hb => by simp [hb])
      fun t ⟨a1, a2, a3⟩ => ⟨a1, ?_, a3⟩
    rw [on_of_reg a2]; simp +decide
  · intro s r f hq ht hf h
    refine faultClear_refused hq ht ((if_neg (by simpa using hf)).trans ?_)
    rw [flFaultClear_unfenced h]
    rfl
  · intro s r f hq ht hf
    obtain ⟨h1, h2⟩ := fl_low (a := Reg.FL_FERR_CTL f.toNat) hf (by unfold Reg.FL_FERR_CTL; omega)
      (by unfold Reg.FL_FERR_CTL; omega)
    refine answers_mono (faultClear_one (u := s.flFerrClear f.toNat) (st := St.OK) (Reg.FL_FERR_CTL f.toNat) hq ht (if_pos hf) h1 h2
      ((set0_rest _ _ _).trans (set0_rest _ _ _)) fun b hb => by simp [State.flFerrClear, hb])
      fun t ⟨a1, a2, a3⟩ => ⟨a1, ?_, ?_, a3⟩
    · rw [on_of_reg a2]; simp +decide [State.flFerrClear]
    · rw [on_of_reg a2]; simp +decide [State.flFerrClear]
  · intro s r f hq ht hf
    obtain ⟨h1, h2⟩ := fl_low (a := Reg.FL_VIOL_CTL f.toNat) hf (by unfold Reg.FL_VIOL_CTL; omega)
      (by unfold Reg.FL_VIOL_CTL; omega)
    refine answers_mono (faultClear_one (u := s.flViolClear f.toNat) (st := St.OK) (Reg.FL_VIOL_CTL f.toNat) hq ht (if_pos hf) h1 h2
      (set0_rest _ _ _) fun b hb => by simp [State.flViolClear, hb]) fun t ⟨a1, a2, a3⟩ => ⟨a1, ?_, a3⟩
    rw [on_of_reg a2]; simp +decide [State.flViolClear]
  · intro s c r f k hq hc ht hf
    rcases hc with ⟨rfl, rfl⟩ | ⟨rfl, rfl⟩ | ⟨rfl, rfl⟩
    · exact faultClear_refused hq ht (if_pos hf)
    · exact faultClear_refused hq ht (if_neg (by omega))
    · exact faultClear_refused hq ht (if_neg (by omega))
  · intro s r hq ht
    refine answers_mono (faultClear_one (u := s.clearFerr) (st := St.OK) Reg.FC_FERR_CTL hq ht rfl (by decide) (by decide)
      ((set0_rest _ _ _).trans (set0_rest _ _ _)) fun b hb => by simp [State.clearFerr, hb])
      fun t ⟨a1, a2, a3⟩ => ⟨a1, ?_, ?_, a3⟩
    · rw [on_of_reg a2]; simp +decide [State.clearFerr]
    · rw [on_of_reg a2]; simp +decide [State.clearFerr]
  · intro s r hq ht
    exact faultClearAlert_answers hq ht

end Sys2Proof.Machine
end

section
/-!
How management commands are turned away.
-/
namespace Sys2Proof.Machine

/-- A mailbox command is a request that its path takes. -/
theorem exec_mgmtOf {c : Instr} {r : MgmtReq} {m : MgmtCmd} (s : State) (h : mgmtOf c = some (r, m)) :
    exec c s = done (s.mailbox r m) := by
  unfold mgmtOf at h
  split at h
  case h_46 => exact absurd h (by simp)
  all_goals
    simp only [Option.some.injEq, Prod.mk.injEq] at h
    obtain ⟨rfl, rfl⟩ := h
    rfl

/-! ### The refusals, in the order of the checks -/

theorem command_drydown {s : State} {r : MgmtReq} {c : MgmtCmd} (h : s.md = .drydown) :
    s.command r c = ({ status := St.MODE }, s) := if_pos (.inl h)

/-- The first check passes. -/
theorem not_shut {s : State} (h : s.md ≠ .drydown) (hw : s.mode.fwRunning = true ∨ s.inRecovery = true) :
    ¬ (s.md = .drydown ∨ (!s.mode.fwRunning) = true ∧ (!s.inRecovery) = true) := by
  rintro (h1 | ⟨h1, h2⟩)
  · exact h h1
  · rcases hw with hw | hw
    · rw [hw] at h1; exact Bool.noConfusion h1
    · rw [hw] at h2; exact Bool.noConfusion h2

section
variable {s : State} {r : MgmtReq} {c : MgmtCmd} (h : s.md ≠ .drydown) (hw : s.mode.fwRunning = true ∨ s.inRecovery = true)
include h hw

theorem command_unknown (hu : isUnknown c = true) : s.command r c = ({ status := St.UNSUPPORTED }, s) := by
  unfold State.command
  rw [if_neg (not_shut h hw), if_pos hu]

theorem command_badLength (hu : isUnknown c = false) (hl : r.lenOk = false) :
    s.command r c = ({ status := St.BAD_LENGTH }, s) := by
  unfold State.command
  rw [if_neg (not_shut h hw), if_neg (by simp [hu]), if_pos (by simp [hl])]

theorem command_badField (hu : isUnknown c = false) (hl : r.lenOk = true) (hz : r.resOk = false) :
    s.command r c = ({ status := St.BAD_FIELD }, s) := by
  unfold State.command
  rw [if_neg (not_shut h hw), if_neg (by simp [hu]), if_neg (by simp [hl]), if_pos (by simp [hz])]
  rfl

/-- What the checks after the form of the request come to. -/
theorem command_goodForm (hg : goodForm r c) : s.command r c =
    if s.inRecovery ∧ !recoveryAccepts c then ({ status := St.MODE }, s)
    else if !s.inRecovery ∧ !s.authorised r c then ({ status := St.NOT_DELEGATED }, s)
    else if gatedCmd c ∧ s.on Reg.MG_SEAL Fld.MG_SEAL.SEAL_BROKEN then ({ status := St.SEALED }, s)
    else if gatedCmd c ∧ !s.on Reg.MG_PRESENCE Fld.MG_PRESENCE.OPEN then ({ status := St.NO_PRESENCE }, s)
    else if s.fml.inForce.isNone ∧ needsFormula c then ({ status := St.MODE }, s)
    else if !(s.fencesMet c).isEmpty then ({ status := St.BLOCK_FENCED }, s.fenceFirst (s.fencesMet c))
    else s.carryOut r c := by
  obtain ⟨hu, hl, hz⟩ := hg
  unfold State.command
  rw [if_neg (not_shut h hw), if_neg (by simp [hu]), if_neg (by simp [hl]), if_neg (by simp [hz])]

theorem command_recovery (hg : goodForm r c) (hv : s.inRecovery = true) (ha : recoveryAccepts c = false) :
    s.command r c = ({ status := St.MODE }, s) := by
  rw [command_goodForm h hw hg, if_pos ⟨hv, by simp [ha]⟩]

theorem command_notDelegated (hg : goodForm r c) (hv : s.inRecovery = false) (ha : s.authorised r c = false) :
    s.command r c = ({ status := St.NOT_DELEGATED }, s) := by
  rw [command_goodForm h hw hg, if_neg (by simp [hv]), if_pos (by simp [hv, ha])]

/-- What the checks after the grant come to. -/
theorem command_lets (hg : goodForm r c) (hl : s.lets r c) : s.command r c =
    if gatedCmd c ∧ s.on Reg.MG_SEAL Fld.MG_SEAL.SEAL_BROKEN then ({ status := St.SEALED }, s)
    else if gatedCmd c ∧ !s.on Reg.MG_PRESENCE Fld.MG_PRESENCE.OPEN then ({ status := St.NO_PRESENCE }, s)
    else if s.fml.inForce.isNone ∧ needsFormula c then ({ status := St.MODE }, s)
    else if !(s.fencesMet c).isEmpty then ({ status := St.BLOCK_FENCED }, s.fenceFirst (s.fencesMet c))
    else s.carryOut r c := by
  obtain ⟨h1, h2⟩ := hl
  rw [command_goodForm h hw hg]
  cases hv : s.inRecovery
  · simp [h2 hv]
  · simp [h1 hv]

theorem command_sealed (hg : goodForm r c) (hl : s.lets r c) (hc : gatedCmd c = true)
    (hs : s.on Reg.MG_SEAL Fld.MG_SEAL.SEAL_BROKEN = true) : s.command r c = ({ status := St.SEALED }, s) := by
  rw [command_lets h hw hg hl, if_pos ⟨hc, hs⟩]

theorem command_noPresence (hg : goodForm r c) (hl : s.lets r c) (hc : gatedCmd c = true)
    (hs : s.on Reg.MG_SEAL Fld.MG_SEAL.SEAL_BROKEN = false) (hp : s.on Reg.MG_PRESENCE Fld.MG_PRESENCE.OPEN = false) :
    s.command r c = ({ status := St.NO_PRESENCE }, s) := by
  rw [command_lets h hw hg hl, if_neg (by simp [hs]), if_pos ⟨hc, by simp [hp]⟩]

theorem command_noFormula (hg : goodForm r c) (hl : s.lets r c) (hc : gatedCmd c = false) (hn : needsFormula c = true)
    (hf : s.fml.inForce = none) : s.command r c = ({ status := St.MODE }, s) := by
  rw [command_lets h hw hg hl, if_neg (by simp [hc]), if_neg (by simp [hc]), if_pos (by simp [hf, hn])]

end

/-- A refused command is turned away. -/
theorem mailbox_refuses {s : State} {c : Instr} {r : MgmtReq} {m : MgmtCmd} {st : Nat} (hq : s.quiet = true)
    (hc : mgmtOf c = some (r, m)) (hr : r.remote = false) (hp : s.pathUp r.path = true)
    (h : s.command r m = ({ status := st }, s)) : Answers (exec c s) fun t => t.turnsAway s r m st := by
  rw [exec_mgmtOf s hc, mailbox_carried m hr hp, h]
  exact turnsAway_of_answered hq

/-- A command refused for want of a grant is counted. -/
theorem replied_refused (s : State) (r : MgmtReq) (c : MgmtCmd) :
    (s.replied r c { status := St.NOT_DELEGATED }).rd (Reg.MG_PATH_CNT r.path.val) Fld.MG_PATH_CNT.REFUSED =
      min (2 ^ Fld.MG_PATH_CNT.REFUSED.width - 1) (s.rd (Reg.MG_PATH_CNT r.path.val) Fld.MG_PATH_CNT.REFUSED + 1) := by
  have hm : Reg.MG_PATH_CNT r.path.val ≠ Reg.MBX_STATUS := by
    unfold Reg.MG_PATH_CNT Reg.MBX_STATUS
    omega
  obtain ⟨l, rb, ic, g, e, hg⟩ := respond_eq (s.countCmd r.path.val St.NOT_DELEGATED) r.path (mgmtOpcode c) r.tag
    { status := St.NOT_DELEGATED }
  have hreg : (s.replied r c { status := St.NOT_DELEGATED }).reg (Reg.MG_PATH_CNT r.path.val) =
      (s.countCmd r.path.val St.NOT_DELEGATED).reg (Reg.MG_PATH_CNT r.path.val) := by
    unfold State.replied
    rw [e]
    exact hg _ hm
  rw [rd_of_reg hreg, State.countCmd, if_pos rfl]
  exact rd_addTo s _ 1 _ (by decide)

/-- Settles O47: each refusal is the first check that fails. -/
theorem mailboxRefusals : Obligations.MailboxRefusals := by
  refine ⟨?_, ?_, ?_, ?_, ?_, ?_, ?_, ?_, ?_, ?_⟩
  · exact fun s c r m hq hc hr hp hd => mailbox_refuses hq hc hr hp (command_drydown hd)
  · exact fun s r o hq ⟨hr, hp, hd, hw⟩ =>
      mailbox_refuses (c := .unsupportedOpcode r o) hq rfl hr hp (command_unknown hd hw rfl)
  · exact fun s c r m hq hc ⟨hr, hp, hd, hw⟩ hu hl => mailbox_refuses hq hc hr hp (command_badLength hd hw hu hl)
  · exact fun s c r m hq hc ⟨hr, hp, hd, hw⟩ hu hl hz => mailbox_refuses hq hc hr hp (command_badField hd hw hu hl hz)
  · exact fun s c r m hq hc ⟨hr, hp, hd, hw⟩ hg hv ha => mailbox_refuses hq hc hr hp (command_recovery hd hw hg hv ha)
  · intro s c r m hq hc ⟨hr, hp, hd, hw⟩ hg hv ha
    rw [exec_mgmtOf s hc, mailbox_carried m hr hp, command_notDelegated hd hw hg hv ha]
    obtain ⟨t, e, ht⟩ := turnsAway_of_answered (r := r) (c := m) (st := St.NOT_DELEGATED) hq
    refine ⟨t, e, ht, ?_⟩
    have e : (s.replied r m { status := St.NOT_DELEGATED }).settle = t := by injection e
    rw [← e, ← replied_refused s r m]
    exact rd_of_reg (settle_quiet_reg _ (calm_quiet (answered_calm _ _ _ _) hq) _) _
  · exact fun s c r m hq hc ⟨hr, hp, hd, hw⟩ hg hl hk hs => mailbox_refuses hq hc hr hp (command_sealed hd hw hg hl hk hs)
  · exact fun s c r m hq hc ⟨hr, hp, hd, hw⟩ hg hl hk hs hn =>
      mailbox_refuses hq hc hr hp (command_noPresence hd hw hg hl hk hs hn)
  · exact fun s c r m hq hc ⟨hr, hp, hd, hw⟩ hg hl hk hn hf =>
      mailbox_refuses hq hc hr hp (command_noFormula hd hw hg hl hk hn hf)
  · intro s c r m hq hc hr hu hd hg ha
    have hw : s.mode.fwRunning = true ∧ s.inRecovery = false := by
      unfold State.remoteUp at hu
      simp only [Bool.and_eq_true, Bool.not_eq_true'] at hu
      exact ⟨hu.1.2, hu.2⟩
    have hn : s.authorised r m = false := (if_pos hr).trans ha
    rw [exec_mgmtOf s hc]
    unfold State.mailbox
    rw [if_pos hr, if_neg (by simp [hu])]
    simp only [command_notDelegated hd (.inl hw.1) hg hw.2 hn]
    exact answers_of_calm hq ⟨⟨rfl, rfl, rfl, rfl, rfl, rfl⟩, rfl, rfl, rfl⟩ fun l _ _ =>
      ⟨List.mem_append_right _ (List.mem_cons_self ..), fun _ _ => rfl, rfl, rfl⟩

end Sys2Proof.Machine
end

section
/-!
MPORT, the I3C target and MCTP; whole reads of registers.
-/
namespace Sys2Proof.Machine

/-! ### Reads of whole registers -/

theorem clearRc_none (fs : List FieldRow) (v : Word) (h : (fs.any fun f => f.ty == .rc) = false) : clearRc fs 0 v = v := by
  unfold clearRc
  induction fs with
  | nil => rfl
  | cons f fs ih =>
    simp only [List.any_cons, Bool.or_eq_false_iff, beq_eq_false_iff_ne] at h
    rw [List.foldl_cons, if_neg fun e => h.1 e.1]
    exact ih h.2

theorem clearView_regs (s : State) (b : Block) (base o lo : Nat) : (s.clearView b base o lo).regs = s.regs := by
  unfold State.clearView
  split
  · simp only
    split <;> rfl
  · split
    · simp only
      split <;> rfl
    · rfl

/-- A read clears the RC fields of its register and no other. -/
theorem readClears_reg (s : State) (k : RegRow) (a b : Nat) :
    (s.readClears k a 0).reg b = if b = a then clearRc k.fields 0 (s.reg a) else s.reg b := by
  unfold State.readClears
  split
  · rename_i h
    have hn : (k.fields.any fun f => f.ty == .rc) = false := by simpa using h
    rw [clearRc_none _ _ hn]
    split
    · rename_i e; rw [e]
    · rfl
  · simp only
    split
    · exact reg_setReg ..
    · unfold State.reg
      rw [clearView_regs]
      exact reg_setReg ..

theorem releaseLatch_reg (s : State) (p : AccessPath) (a b : Nat) : (s.releaseLatch p a).reg b = s.reg b := by
  unfold State.releaseLatch
  repeat' split
  all_goals rfl

/-- A whole read of a 64-bit register. -/
theorem readAt_wide {s : State} {p : AccessPath} {a x : Nat} {k : RegRow} (h : s.opensAt p a 8 x) (hk : rowAt x = some k)
    (hw : k.wide = true) : s.readAt p a 8 =
      (.success ((s.releaseLatch p x).shown x), (s.releaseLatch p x).readClears k x 0) := by
  obtain ⟨-, hc, h1, h2, h3⟩ := h
  unfold State.readAt
  simp only [hc, h1, h2, Bool.false_eq_true, if_false, if_true]
  unfold State.read64
  simp only [h3, Bool.false_eq_true, if_false, hk, hw, if_true, State.readReg, BitVec.ofNat_toNat, BitVec.setWidth_eq]

/-! ### Requests over I3C -/

theorem natOf_bytesOf (n x : Nat) : natOf (bytesOf n x) = x % 2 ^ (8 * n) := by
  induction n generalizing x with
  | zero => simp [natOf, bytesOf, Nat.mod_one]
  | succ n ih =>
    have h : bytesOf (n + 1) x = BitVec.ofNat 8 x :: bytesOf n (x / 256) := by
      unfold bytesOf
      rw [List.range_succ_eq_map, List.map_cons, List.map_map]
      congr 1
      · simp
      · refine List.map_congr_left fun i _ => ?_
        simp only [Function.comp, Nat.div_div_eq_div_mul, Nat.mul_succ, pow_add]
        rw [show 2 ^ 8 = 256 from rfl, Nat.mul_comm 256]
    have e : natOf (bytesOf (n + 1) x) = x % 256 + 256 * natOf (bytesOf n (x / 256)) := by rw [h]; rfl
    rw [e, ih, Nat.mul_succ, pow_add, Nat.mul_comm (2 ^ (8 * n)), show 2 ^ 8 = 256 from rfl, Nat.mod_mul]

/-- An IDENTIFY with nothing but its header. -/
theorem parse_identify (g : Word) :
    parseRequest true (bytesOf 2 0x0001 ++ bytesOf 1 1 ++ bytesOf 1 0 ++ bytesOf 4 0 ++ bytesOf 8 g.toNat) =
      { cmd := .identify, tag := g, lenOk := true, resOk := true } := by
  generalize hL : bytesOf 2 0x0001 ++ bytesOf 1 1 ++ bytesOf 1 0 ++ bytesOf 4 0 ++ bytesOf 8 g.toNat = L
  have h0 : fieldAt L 0 2 = 1 := by rw [← hL]; rfl
  have h2 : fieldAt L 2 1 = 1 := by rw [← hL]; rfl
  have h3 : fieldAt L 3 1 = 0 := by rw [← hL]; rfl
  have h4 : fieldAt L 4 4 = 0 := by rw [← hL]; rfl
  have hl : L.length = 16 := by rw [← hL]; rfl
  have h8 : fieldAt L 8 8 = g.toNat := by
    have h : (L.drop 8).take 8 = bytesOf 8 g.toNat := by rw [← hL]; rfl
    unfold fieldAt
    rw [h, natOf_bytesOf]
    exact Nat.mod_eq_of_lt g.isLt
  unfold parseRequest
  simp +decide only [h0, h2, h3, h4, h8, hl, BitVec.ofNat_toNat, BitVec.setWidth_eq]
  rfl

/-- The machine with the I3C target's request taken. -/
def State.i3cTaken (s : State) : State := { s with mgmt := { s.mgmt with i3cReq := [] } }

theorem i3cTaken_calm (s : State) : s.i3cTaken.calm s := ⟨⟨rfl, rfl, rfl, rfl, rfl, rfl⟩, rfl, rfl, rfl⟩

theorem i3cTaken_hears {s : State} {r : MgmtReq} (h : s.hears r) : s.i3cTaken.hears r := h

/-- What IDENTIFY shows does not depend on the request. -/
theorem i3cTaken_identify (s : State) : s.i3cTaken.identifyBody = s.identifyBody := rfl

/-- A request that ends is taken. -/
theorem i3cRequest_stop {s : State} {l : List Byte} {v : MgmtVerdict} {q : Parsed} (hp : s.pathUp 2 = true)
    (hl : ¬ 65536 < (s.mgmt.i3cReq ++ l).length) (hq : parseRequest true (s.mgmt.i3cReq ++ l) = q) :
    exec (.i3cRequest l true v) s =
      done (s.i3cTaken.mailbox { path := 2, lenOk := q.lenOk, resOk := q.resOk, tag := q.tag, v := v } q.cmd) := by
  change done (if s.pathUp 2 then s.i3cAppend l true v else s) = _
  rw [if_pos hp]
  unfold State.i3cAppend
  simp only [Bool.not_true, Bool.false_eq_true, if_false, if_neg hl, List.take_of_length_le (Nat.le_of_not_lt hl), hq]
  rfl

/-- One that is too long is taken with its first bytes, of a wrong length. -/
theorem i3cRequest_long {s : State} {l : List Byte} {v : MgmtVerdict} {q : Parsed} (hp : s.pathUp 2 = true)
    (hl : 65536 < (s.mgmt.i3cReq ++ l).length) (hq : q = parseRequest true ((s.mgmt.i3cReq ++ l).take 65536)) :
    exec (.i3cRequest l true v) s =
      done (s.i3cTaken.mailbox { path := 2, lenOk := false, resOk := q.resOk, tag := q.tag, v := v } q.cmd) := by
  change done (if s.pathUp 2 then s.i3cAppend l true v else s) = _
  rw [if_pos hp]
  unfold State.i3cAppend
  simp only [Bool.not_true, Bool.false_eq_true, if_false, if_pos hl, ← hq]
  rfl

theorem countCmd_mgmt (s : State) (p st : Nat) : (s.countCmd p st).mgmt = s.mgmt := rest_mgmt (countCmd_rest s p st)

/-- An answer over I3C is kept for the controller to read. -/
theorem replied_i3c (s : State) (r : MgmtReq) (c : MgmtCmd) (x : Reply) (h : r.path = 2) :
    (s.replied r c x).mgmt = { s.mgmt with i3cResp := responseBytes (mgmtOpcode c) r.tag x } ∧
      (s.replied r c x).regsBut s [Reg.MG_PATH_CNT 2] := by
  unfold State.replied
  rw [h]
  refine ⟨?_, fun a ha => countCmd_reg s 2 x.status a (by simpa using ha)⟩
  rw [← countCmd_mgmt s 2 x.status]
  rfl

/-- What a request over I3C answers. -/
theorem i3c_answers {s : State} {r : MgmtReq} {c : MgmtCmd} {x : Reply} (hq : s.quiet = true) (h : r.path = 2)
    (hc : s.i3cTaken.command r c = (x, s.i3cTaken)) (hr : s.hears r) :
    Answers (done (s.i3cTaken.mailbox r c)) fun t =>
      t.mgmt.i3cReq = [] ∧ Out.response 2 (mgmtOpcode c) x.status r.tag x.detail x.body ∈ t.out ∧
        t.mgmt.i3cResp = responseBytes (mgmtOpcode c) r.tag x ∧ t.regsBut s [Reg.MG_PATH_CNT 2] := by
  rw [mailbox_heard c (i3cTaken_hears hr), hc]
  obtain ⟨hm, hg⟩ := replied_i3c s.i3cTaken r c x h
  have ho := answered_replies s.i3cTaken r c x
  unfold State.repliedTo at ho
  rw [h] at ho
  have h1 := congrArg MgmtState.i3cReq hm
  have h2 := congrArg MgmtState.i3cResp hm
  exact answers_of_answered hq (i3cTaken_calm s) fun l _ _ => ⟨h1, List.mem_append_right _ ho, h2, hg⟩

/-- Settles O55: each path has its own way in, and the commands that come over it are those of the mailbox. -/
theorem managementPaths : Obligations.ManagementPaths := by
  refine ⟨?_, ?_, ?_, ?_, ?_, ?_, ?_, ?_, ?_, ?_, ?_⟩
  · intro s hq hp
    change Answers (done (if s.pathUp 0 then _ else _)) _
    rw [if_pos hp]
    refine answers_of_calm hq ?_ fun l a b => ?_
    · simp +decide [State.calm]
    · simp +decide +contextual [State.regsBut]
  · intro s hq hp
    change Answers (done (if s.pathUp 0 then _ else _)) _
    rw [if_pos hp]
    refine answers_of_calm hq ?_ fun l a b => ?_
    · simp +decide [State.calm, State.msixReset, State.dropResponse]
    · simp +decide +contextual [State.regsBut, State.msixReset, State.dropResponse]
  · intro s hq
    change Answers (done s.mportDown) _
    refine answers_of_calm hq ⟨⟨rfl, rfl, rfl, rfl, rfl, rfl⟩, rfl, rfl, rfl⟩ fun l a b => ⟨?_, ?_, ?_, rfl, fun _ _ => rfl⟩
    · exact Bool.and_false _
    · exact Bool.and_false _
    · exact Bool.and_false _
  · intro s a x k hm hp ho hk hw
    refine ⟨_, rfl, ?_⟩
    unfold State.i3cRead
    rw [if_neg hm, if_neg (by simp [hp]), readAt_wide ho hk hw]
    refine ⟨List.mem_cons_self .., ?_, fun b hb => ?_⟩
    · exact ((readClears_reg _ _ _ _).trans (if_pos rfl)).trans (by rw [releaseLatch_reg])
    · exact ((readClears_reg _ _ _ _).trans (if_neg (by simpa using hb))).trans (releaseLatch_reg _ _ _ _)
  · intro s a x k hq hm h1 h2
    change Answers (done (s.i3cRead a.toNat)) _
    unfold State.i3cRead
    rw [if_pos hm]
    refine answers_of_calm hq ⟨⟨rfl, rfl, rfl, rfl, rfl, rfl⟩, rfl, rfl, rfl⟩ fun l _ _ => ⟨fun hx => ?_, fun hx => ?_, fun _ _ => rfl⟩
    · simp [State.retainWord, h1, h2, hx]
    · simp +decide [State.retainWord, h1, h2, hx]
  · intro s l v hq hp hl
    change Answers (done (if s.pathUp 2 then s.i3cAppend l false v else s)) _
    rw [if_pos hp]
    refine answers_of_calm hq ⟨⟨rfl, rfl, rfl, rfl, rfl, rfl⟩, rfl, rfl, rfl⟩ fun o _ _ => ⟨?_, rfl, fun _ _ => rfl⟩
    exact List.take_of_length_le (by omega)
  · intro s l g v hq hh hb
    have e := i3cRequest_stop (q := { cmd := .identify, tag := g, lenOk := true, resOk := true }) (v := v) hh.2.1
      (by rw [hb]; simp [bytesOf]) ((congrArg _ hb).trans (parse_identify g))
    rw [e]
    refine answers_mono (i3c_answers (x := { body := s.identifyBody }) hq rfl ?_ hh) fun t ⟨h1, h2, h3, h4⟩ => ⟨h1, h2, h3, h4⟩
    have ht : s.i3cTaken.takes { path := 2, tag := g, v := v } .identify := by
      obtain ⟨a1, a2, a3, a4⟩ := hh
      exact ⟨a1, a2, a3, a4, rfl, rfl, rfl, fun _ => rfl, fun _ => rfl, fun h => absurd h (by decide),
        fun h => absurd h (by decide)⟩
    rw [command_takes ht (fencesMet_nil fun m => by cases m <;> rfl)]
    rfl
  · intro s l v q hq hh hl he hu
    rw [i3cRequest_long hh.2.1 hl he]
    refine answers_mono (i3c_answers (x := { status := St.BAD_LENGTH }) hq rfl (command_badLength hh.2.2.1 hh.2.2.2 hu rfl) hh)
      fun t ⟨h1, h2, h3, h4⟩ => ⟨h1, h2, h4⟩
  · intro s hq hp
    change Answers (done (if s.pathUp 2 then _ else _)) _
    rw [if_pos hp]
    exact answers_of_calm hq ⟨⟨rfl, rfl, rfl, rfl, rfl, rfl⟩, rfl, rfl, rfl⟩ fun l _ _ =>
      ⟨List.mem_append_right _ (List.mem_cons_self ..), rfl, fun _ _ => rfl⟩
  · intro s c a hq hp hc
    have e : exec c s = done (s.i3cAddress a) := by
      simp only [List.mem_cons, List.not_mem_nil, or_false] at hc
      rcases hc with rfl | rfl <;> rfl
    rw [e, State.i3cAddress, if_pos hp]
    refine answers_of_calm hq ?_ fun l _ _ => ?_
    · simp +decide [State.calm]
    · simp +decide +contextual [State.regsBut]
      exact Nat.mod_eq_of_lt a.isLt
  · intro s p e hq hp h
    have e' : execMctpSetEndpointId p e s = done { s with mgmt := { s.mgmt with
        mctpEid := tabPut s.mgmt.mctpEid p.val e.toNat } } := congrArg done (if_pos ⟨h, hp⟩)
    change Answers (execMctpSetEndpointId p e s) _
    rw [e']
    refine answers_of_calm hq ⟨⟨rfl, rfl, rfl, rfl, rfl, rfl⟩, rfl, rfl, rfl⟩ fun l _ _ => ⟨?_, fun k hk => ?_, fun _ _ => rfl⟩
    · exact (tabFind_tabPut _ _ _ _).trans (if_pos rfl)
    · exact (tabFind_tabPut _ _ _ _).trans (if_neg hk)

end Sys2Proof.Machine
end

section
/-!
Keys, fuses and the Keep stack.
-/
namespace Sys2Proof.Machine

/-! ### What the fuses show -/

/-- What MG_LIFECYCLE shows is what the fuses say. -/
theorem showFuses_lifecycle (s : State) : ∃ v : Word, s.showFuses.reg Reg.MG_LIFECYCLE = v ∧
    getFld v Fld.MG_LIFECYCLE.STATE = s.mgmt.fuses.lifecycle.toNat % 2 ^ 4 ∧
    getFld v Fld.MG_LIFECYCLE.VENDOR_REVOKE = s.mgmt.fuses.vendorRevoke.toNat % 2 ^ 4 ∧
    getFld v Fld.MG_LIFECYCLE.MIN_SVN = s.mgmt.fuses.minSvn % 2 ^ 7 := by
  refine ⟨_, foldl_keep (fun t => t.reg Reg.MG_LIFECYCLE) _ (fun t n => ?_) _ _, ?_⟩
  · exact reg_setReg_ne _ _ _ _ (by unfold Reg.MG_LIFECYCLE Reg.MG_OWNER_DIGEST; omega)
  · simp +decide [State.showSeal]
    exact ⟨rfl, rfl, rfl⟩

theorem showFuses_state (s : State) :
    s.showFuses.rd Reg.MG_LIFECYCLE Fld.MG_LIFECYCLE.STATE = s.mgmt.fuses.lifecycle.toNat := by
  obtain ⟨v, hv, h, -, -⟩ := showFuses_lifecycle s
  unfold State.rd
  rw [hv, h]
  exact Nat.mod_eq_of_lt s.mgmt.fuses.lifecycle.isLt

theorem showFuses_vendorRevoke (s : State) :
    s.showFuses.rd Reg.MG_LIFECYCLE Fld.MG_LIFECYCLE.VENDOR_REVOKE = s.mgmt.fuses.vendorRevoke.toNat := by
  obtain ⟨v, hv, -, h, -⟩ := showFuses_lifecycle s
  unfold State.rd
  rw [hv, h]
  exact Nat.mod_eq_of_lt s.mgmt.fuses.vendorRevoke.isLt

theorem showFuses_minSvn (s : State) :
    s.showFuses.rd Reg.MG_LIFECYCLE Fld.MG_LIFECYCLE.MIN_SVN = s.mgmt.fuses.minSvn % 2 ^ 7 := by
  obtain ⟨v, hv, -, -, h⟩ := showFuses_lifecycle s
  unfold State.rd
  rw [hv, h]

theorem showFuses_rearms (s : State) (h : s.mgmt.fuses.sealRearms < 16) :
    s.showFuses.rd Reg.MG_SEAL Fld.MG_SEAL.REARMS = s.mgmt.fuses.sealRearms := by
  obtain ⟨t, _, hm, e⟩ := showFuses_seal s
  rw [rd_of_reg e, State.showSeal, hm]
  simp +decide
  exact Nat.mod_eq_of_lt h

/-! ### Commands that program fuses -/

/-- s with other fuses, and the registers that show them. -/
def State.fused (s : State) (g : Fuses) : State := ({ s with mgmt := { s.mgmt with fuses := g } } : State).showFuses

theorem fused_fuses (s : State) (g : Fuses) : (s.fused g).mgmt.fuses = g :=
  congrArg MgmtState.fuses (rest_mgmt (showFuses_rest { s with mgmt := { s.mgmt with fuses := g } }))

theorem fused_reg (s : State) (g : Fuses) (a : Nat) (h : a ∉ fuseRegs) : (s.fused g).reg a = s.reg a :=
  showFuses_reg_outside { s with mgmt := { s.mgmt with fuses := g } } a h

theorem fused_keeps (s : State) (g : Fuses) : (s.fused g).mgmt.flash = s.mgmt.flash ∧ (s.fused g).fml = s.fml := by
  rw [State.fused, eq_of_rest (showFuses_rest { s with mgmt := { s.mgmt with fuses := g } })]
  exact ⟨rfl, rfl⟩

theorem fuseRegs_low : ∀ a ∈ fuseRegs, a < 0x9000200 := by decide

/-- A taken command that programs fuses. -/
theorem fuse_leaves {s : State} {r : MgmtReq} {c : MgmtCmd} {g : Fuses} (ht : s.takes r c) (hf : ∀ n, s.meets c n = false)
    (h : s.carryOut r c = ({}, s.fused g)) : Leaves (done (s.mailbox r c)) fun u =>
      u.repliedTo r c St.OK 0 [] ∧ u.mgmt.fuses = g ∧ (∀ a ∈ fuseRegs, u.reg a = (s.fused g).reg a) ∧
        u.regsBut s (fuseRegs ++ mgmtRegs r) := by
  refine ⟨_, congrArg done (mailbox_takes ht (fencesMet_nil hf)), ?_⟩
  rw [h]
  refine ⟨answered_replies _ _ _ _, ?_, fun a ha => ?_, fun a ha => ?_⟩
  · exact (answered_keeps (s.fused g) r c {}).2.1.trans (fused_fuses s g)
  · exact answered_reg _ _ _ _ _ (low_mgmt r (fuseRegs_low a ha))
  · simp only [List.mem_append, not_or] at ha
    exact (answered_reg _ _ _ _ _ ha.2).trans (fused_reg s g a ha.1)

/-- A taken command that fails its own checks. -/
theorem takes_refused {s : State} {r : MgmtReq} {c : MgmtCmd} {st : Nat} (hq : s.quiet = true) (ht : s.takes r c)
    (hf : ∀ n, s.meets c n = false) (h : s.carryOut r c = ({ status := st }, s)) :
    Answers (done (s.mailbox r c)) fun t => t.turnsAway s r c st := by
  rw [mailbox_takes ht (fencesMet_nil hf), h]
  exact turnsAway_of_answered hq

theorem leaves_mono {r : Result} {P Q : State → Prop} (h : Leaves r P) (hPQ : ∀ t, P t → Q t) : Leaves r Q := by
  obtain ⟨t, e, ht⟩ := h
  exact ⟨t, e, hPQ t ht⟩

theorem fuse_meets (s : State) (f : BitVec 8) (x : BitVec 32) (n : Notice) : s.meets (.fuseProgram f x) n = false := by
  cases n <;> rfl

/-- FUSE_PROGRAM in a mode that programs. -/
theorem cmdFuse_lifecycle {s : State} (x : Nat) (h : s.serveOrRecovery = true) : s.cmdFuse 1 x =
    if lifecycleOk s.mgmt.fuses x then ({}, s.fused { s.mgmt.fuses with lifecycle := BitVec.ofNat 4 x })
    else ({ status := St.LIFECYCLE }, s) := by
  unfold State.cmdFuse
  rw [h]
  rfl

/-- The transitions of R432. -/
theorem lifecycleOk_iff (f : Fuses) (x : BitVec 32) : lifecycleOk f x.toNat = true ↔
    (f.lifecycle = 1 ∨ f.lifecycle = 3) ∧ (x = 7 ∨ x = 15) ∨
      f.lifecycle = 0 ∧ x = 1 ∧ f.serial ≠ 0 ∧ f.seed ≠ 0 ∧ f.vendorKey ≠ [] := by
  simp only [← BitVec.toNat_inj (x := f.lifecycle), ← BitVec.toNat_inj (x := x)]
  unfold lifecycleOk
  split
  next h1 h2 => simp [h1, h2, and_assoc]
  next h1 h2 => simp [h1, h2]
  next h1 h2 => simp [h1, h2]
  next h1 h2 => simp [h1, h2]
  next h1 h2 => simp [h1, h2]
  next h1 h2 h3 h4 h5 =>
    simp only [Bool.false_eq_true, false_iff]
    rintro (⟨a | a, b | b⟩ | ⟨a, b, -⟩)
    · exact h2 a b
    · exact h3 a b
    · exact h4 a b
    · exact h5 a b
    · exact h1 a b

theorem cmdFuse_minSvn {s : State} {x : Nat} (h : s.serveOrRecovery = true) (hx : x ≤ 64) : s.cmdFuse 2 x =
    if x < s.mgmt.fuses.minSvn then ({ status := St.FUSE_ERROR }, s)
    else ({}, s.fused { s.mgmt.fuses with minSvn := x }) := by
  unfold State.cmdFuse
  simp only [h, Bool.not_true, Bool.false_eq_true, if_false]
  exact if_neg (by omega)

/-- A vendor key that a new revocation leaves in force. -/
def Fuses.vendorLeft (f : Fuses) (x : Nat) : Bool :=
  (List.range 4).any fun i => (tabFind f.vendorKey i).isSome && !f.badEntries.getLsbD i && !x.testBit i

theorem vendorLeft_iff (f : Fuses) (x : Nat) : f.vendorLeft x = true ↔
    ∃ i < 4, (tabFind f.vendorKey i).isSome = true ∧ f.badEntries.getLsbD i = false ∧ x.testBit i = false := by
  simp [Fuses.vendorLeft, and_assoc]

theorem cmdFuse_vendorRevoke {s : State} {x : Nat} (h : s.serveOrRecovery = true) (hx : x < 16) : s.cmdFuse 3 x =
    if x &&& s.mgmt.fuses.vendorRevoke.toNat ≠ s.mgmt.fuses.vendorRevoke.toNat ∨ !s.mgmt.fuses.vendorLeft x then
      ({ status := St.FUSE_ERROR }, s)
    else ({}, s.fused { s.mgmt.fuses with vendorRevoke := BitVec.ofNat 4 x }) := by
  unfold State.cmdFuse
  simp only [h, Bool.not_true, Bool.false_eq_true, if_false]
  exact if_neg (by omega)

/-! ### Commands that change keys -/

/-- The entry that OWNER_KEY takes. -/
theorem freeEntry_find {f : Fuses} {i : Nat} (h : f.freeEntry i) :
    ((List.range 4).find? fun i => (tabFind f.ownerKey i).isNone && !f.badEntries.getLsbD (4 + i)) = some i := by
  obtain ⟨h1, h2, h3, h4⟩ := h
  rw [List.find?_range_eq_some]
  refine ⟨by simp [h2, h3], List.mem_range.2 h1, fun j hj => ?_⟩
  rcases h4 j hj with h | h
  · simp [h]
  · simp [h]

/-- The fuses that OWNER_KEY leaves. -/
def Fuses.withOwner (f : Fuses) (i : Nat) (digest : Line) : Fuses :=
  { f with
    ownerKey := tabPut f.ownerKey i digest
    ownerRevoke := match ownerEntry f with | some k => f.ownerRevoke ||| BitVec.ofNat 4 (2 ^ k) | none => f.ownerRevoke
    lifecycle := if f.lifecycle == 1 then 3 else f.lifecycle }

theorem ownerEntry_lt {f : Fuses} {j : Nat} (h : ownerEntry f = some j) : j < 4 := by
  have := List.mem_of_find?_eq_some h
  simp only [List.mem_cons, List.not_mem_nil, or_false] at this
  omega

/-- The old owner's key is revoked. -/
theorem withOwner_revokes {f : Fuses} {j : Nat} (i : Nat) (d : Line) (h : ownerEntry f = some j) :
    (f.withOwner i d).ownerRevoke.getLsbD j = true := by
  have hj := ownerEntry_lt h
  unfold Fuses.withOwner
  simp only [h, BitVec.getLsbD_or, BitVec.getLsbD_ofNat, Nat.testBit_two_pow_self, hj, decide_true, Bool.and_true,
    Bool.or_true]

theorem cmdOwnerKey_accepts {s : State} {k : Nat} {key : List Byte} {v : MgmtVerdict} {i : Nat} {f : Formula}
    (hk : key.length = 1793) (h1 : k ≤ 1) (hm : s.serveOrRecovery = true)
    (ho : s.mgmt.fuses.lifecycle = 1 ∨ (ownerDigest s.mgmt.fuses).isSome = true ∧ v.sig = true)
    (hi : s.mgmt.fuses.freeEntry i) (ha : s.directory.fmlActive ≠ k)
    (hv : validate (slotImage s.mgmt.flash k) s.mgmt.fuses.serial.toNat (some (shake256 key)) v.sig2 = .inl f) :
    s.cmdOwnerKey k key v = ({}, (s.fused (s.mgmt.fuses.withOwner i (shake256 key))).putDirectory
      fun d => { d with fmlPending := k, fmlPendingValid := true }) := by
  have hp : ¬ ((!s.mgmt.fuses.lifecycle == 1) = true ∧ ((ownerDigest s.mgmt.fuses).isNone = true ∨ (!v.sig) = true)) := by
    rintro ⟨a, b⟩
    rcases ho with h | ⟨h, h'⟩
    · simp [h] at a
    · rcases b with b | b
      · rw [Option.isNone_iff_eq_none] at b
        rw [b] at h
        exact Bool.noConfusion h
      · rw [h'] at b
        exact Bool.noConfusion b
  unfold State.cmdOwnerKey
  simp only [if_neg (not_not_intro hk), if_neg (Nat.not_lt.2 h1), hm, Bool.not_true, Bool.false_eq_true, if_false, if_neg hp,
    freeEntry_find hi, if_neg ha, hv]
  rfl

theorem cmdOwnerKey_unsigned {s : State} {k : Nat} {key : List Byte} {v : MgmtVerdict}
    (hk : key.length = 1793) (h1 : k ≤ 1) (hm : s.serveOrRecovery = true) (hl : s.mgmt.fuses.lifecycle ≠ 1)
    (ho : ownerDigest s.mgmt.fuses = none ∨ v.sig = false) :
    s.cmdOwnerKey k key v = ({ status := St.BAD_SIGNATURE }, s) := by
  have hp : (!s.mgmt.fuses.lifecycle == 1) = true ∧ ((ownerDigest s.mgmt.fuses).isNone = true ∨ (!v.sig) = true) := by
    refine ⟨by simpa using hl, ?_⟩
    rcases ho with h | h
    · exact .inl (by rw [h]; rfl)
    · exact .inr (by rw [h]; rfl)
  unfold State.cmdOwnerKey
  simp only [if_neg (not_not_intro hk), if_neg (Nat.not_lt.2 h1), hm, Bool.not_true, Bool.false_eq_true, if_false, if_pos hp]

theorem fourWrites_rest (t : State) (a b : Nat) (f g h i : Fld) (x z : Bool) (y w : Nat) :
    ((((t.wrB a f x).wr a g y).wrB b h z).wr b i w).rest = t.rest := rfl

theorem fourWrites_reg (t : State) (a b c : Nat) (f g h i : Fld) (x z : Bool) (y w : Nat) (h1 : c ≠ a) (h2 : c ≠ b) :
    ((((t.wrB a f x).wr a g y).wrB b h z).wr b i w).reg c = t.reg c := by simp [h1, h2]

theorem rest_fml {t s : State} (h : t.rest = s.rest) : t.fml = s.fml := by
  have := congrArg State.fml h; exact this

/-- s with other contents of the flash. -/
def State.flashed (s : State) (m : List Host.Cell) : State := { s with mgmt := { s.mgmt with flash := m } }

theorem flashed_reg (s : State) (m : List Host.Cell) (a : Nat) : (s.flashed m).reg a = s.reg a := rfl

theorem putDirectory_rest (s : State) (f : Directory → Directory) :
    (s.putDirectory f).rest = (s.flashed (writeDirectory s.mgmt.flash f)).rest := by
  unfold State.putDirectory
  exact fourWrites_rest (s.flashed (writeDirectory s.mgmt.flash f)) _ _ _ _ _ _ _ _ _ _

/-- Writing the directory changes the flash and the registers that show it. -/
theorem putDirectory_reg (s : State) (f : Directory → Directory) (a : Nat) (h : a ∉ dirRegs) :
    (s.putDirectory f).reg a = s.reg a := by
  simp only [dirRegs, List.mem_cons, List.not_mem_nil, or_false, not_or] at h
  unfold State.putDirectory
  exact (fourWrites_reg (s.flashed (writeDirectory s.mgmt.flash f)) _ _ _ _ _ _ _ _ _ _ _ h.1 h.2).trans (flashed_reg _ _ _)

/-- What a state keeps that differs from another in registers and the flash. -/
theorem flashed_keeps {t s : State} {m : List Host.Cell} (h : t.rest = (s.flashed m).rest) :
    t.mgmt.flash = m ∧ t.mgmt.fuses = s.mgmt.fuses ∧ t.fml = s.fml := by
  have h1 := rest_mgmt h
  exact ⟨(congrArg MgmtState.flash h1).trans rfl, (congrArg MgmtState.fuses h1).trans rfl, (rest_fml h).trans rfl⟩

/-! ### KEEP_ERASE -/

/-- The Keep stack without contents. -/
def State.keepErased (s : State) : State :=
  ({ s with keep := { s.keep with tables := none, held := [] }, retention := none } : State).set0 Reg.CHIP_MODE
    Fld.CHIP_MODE.RETAIN_VALID

theorem cmdKeepErase_takes {s : State} (h : s.inRecovery = true ∨ s.md = .linktest) : s.cmdKeepErase = ({}, s.keepErased) := by
  unfold State.cmdKeepErase
  rw [if_neg]
  · rfl
  · rcases h with h | h <;> simp [h]

theorem cmdKeepErase_refused {s : State} (h : s.inRecovery = false) (hm : s.md ≠ .linktest) :
    s.cmdKeepErase = ({ status := St.MODE }, s) := by
  unfold State.cmdKeepErase
  rw [if_pos (by simp [h, hm])]

/-! ### SEAL_REARM -/

theorem cmdSealRearm_takes {s : State} {v : MgmtVerdict} (ho : s.pins.sealOpen = false)
    (hd : (ownerDigest s.mgmt.fuses).isSome = true) (hv : v.sig = true)
    (hn : s.mgmt.fuses.sealRearms ≠ s.mgmt.fuses.sealEvents) (hl : s.mgmt.fuses.sealRearms < 15) :
    s.cmdSealRearm v = ({}, s.fused { s.mgmt.fuses with sealRearms := s.mgmt.fuses.sealRearms + 1 }) := by
  have hd' : (ownerDigest s.mgmt.fuses).isNone = false := by rw [← Option.not_isSome, hd]; rfl
  unfold State.cmdSealRearm
  simp only [ho, Bool.false_eq_true, if_false, hd', hv, Bool.not_true, or_self]
  rw [if_neg (by omega)]
  rfl

theorem cmdSealRearm_refused {s : State} {v : MgmtVerdict} {x : Nat}
    (h : s.pins.sealOpen = true ∧ x = St.SEALED ∨
      s.pins.sealOpen = false ∧ (ownerDigest s.mgmt.fuses = none ∨ v.sig = false) ∧ x = St.BAD_SIGNATURE ∨
      s.pins.sealOpen = false ∧ (ownerDigest s.mgmt.fuses).isSome = true ∧ v.sig = true ∧
        (s.mgmt.fuses.sealRearms = s.mgmt.fuses.sealEvents ∨ 15 ≤ s.mgmt.fuses.sealRearms) ∧ x = St.FUSE_ERROR) :
    s.cmdSealRearm v = ({ status := x }, s) := by
  unfold State.cmdSealRearm
  rcases h with ⟨h, rfl⟩ | ⟨h, hd, rfl⟩ | ⟨h, hd, hv, hf, rfl⟩
  · simp only [h, if_true]
  · simp only [h, Bool.false_eq_true, if_false]
    rw [if_pos]
    rcases hd with hd | hd
    · exact .inl (by rw [hd]; rfl)
    · exact .inr (by rw [hd]; rfl)
  · have hd' : (ownerDigest s.mgmt.fuses).isNone = false := by rw [← Option.not_isSome, hd]; rfl
    simp only [h, Bool.false_eq_true, if_false, hd', hv, Bool.not_true, or_self, if_pos hf]

/-- An outcome is one state. -/
theorem answers_and {r : Result} {P Q : State → Prop} (h : Answers r P) (h' : Answers r Q) : Answers r fun t => P t ∧ Q t := by
  obtain ⟨t, e, ht⟩ := h
  obtain ⟨t', e', ht'⟩ := h'
  have ett : t = t' := by rw [e] at e'; injection e'
  exact ⟨t, e, ht, ett ▸ ht'⟩

/-- Settles O54: a command that its checks let through programs fuses, and the registers that show them follow. -/
theorem keysAndFuses : Obligations.KeysAndFuses := by
  refine ⟨?_, ?_, ?_, ?_, ?_, ?_, ?_, ?_, ?_, ?_, ?_, ?_⟩
  · intro s r k key i f ht hk h1 hm ho hi ha hv
    refine ⟨_, congrArg done (mailbox_takes ht (fencesMet_nil fun n => by cases n <;> rfl)), ?_⟩
    have e : s.carryOut r (.ownerKey k key) = _ := cmdOwnerKey_accepts hk h1 hm ho hi ha hv
    rw [e]
    obtain ⟨a1, a2, -, -, a5, -⟩ := answered_keeps ((s.fused (s.mgmt.fuses.withOwner i (shake256 key))).putDirectory
      fun d => { d with fmlPending := k.toNat, fmlPendingValid := true }) r (.ownerKey k key) {}
    obtain ⟨b1, b2, b3⟩ := flashed_keeps (putDirectory_rest (s.fused (s.mgmt.fuses.withOwner i (shake256 key)))
      fun d => { d with fmlPending := k.toNat, fmlPendingValid := true })
    have hf := a2.trans (b2.trans (fused_fuses _ _))
    refine ⟨answered_replies _ _ _ _, ?_, fun j hj => ?_, ?_, ?_, ?_, ?_⟩
    · rw [hf]
      exact (tabFind_tabPut _ _ _ _).trans (if_pos rfl)
    · rw [hf]
      exact withOwner_revokes i _ hj
    · rw [hf]
      unfold Fuses.withOwner
      simp only [beq_iff_eq]
    · rw [a1, b1, (fused_keeps _ _).1]
    · rw [a5, b3, (fused_keeps _ _).2]
    · rw [(answered_calm _ _ _ _).2.1, md_of_reg (putDirectory_reg _ _ _ (by decide)), md_of_reg (fused_reg s _ _ (by decide))]
  · exact fun s r k key hq ht hk h1 hm hl ho =>
      takes_refused hq ht (fun n => by cases n <;> rfl) (cmdOwnerKey_unsigned hk h1 hm hl ho)
  · intro s r x ht hm hx
    have hl := (lifecycleOk_iff s.mgmt.fuses x).2 hx
    have e : s.carryOut r (.fuseProgram 1 x) = _ := (cmdFuse_lifecycle x.toNat hm).trans (if_pos hl)
    refine leaves_mono (fuse_leaves ht (fuse_meets s 1 x) e) fun u ⟨a1, a2, a3, a4⟩ => ⟨a1, a2, ?_, a4⟩
    rw [rd_of_reg (a3 _ (by decide)), State.fused, showFuses_state]
    rcases hx with ⟨-, rfl | rfl⟩ | ⟨-, rfl, -⟩ <;> rfl
  · intro s r x hq ht hm hx
    have hl : ¬ lifecycleOk s.mgmt.fuses x.toNat = true := fun h => hx ((lifecycleOk_iff s.mgmt.fuses x).1 h)
    exact takes_refused hq ht (fuse_meets s 1 x) ((cmdFuse_lifecycle x.toNat hm).trans (if_neg hl))
  · intro s r x ht hm hx hn
    have e : s.carryOut r (.fuseProgram 2 x) = _ := (cmdFuse_minSvn hm hx).trans (if_neg (by omega))
    refine leaves_mono (fuse_leaves ht (fuse_meets s 2 x) e) fun u ⟨a1, a2, a3, a4⟩ => ⟨a1, a2, ?_, a4⟩
    rw [rd_of_reg (a3 _ (by decide)), State.fused, showFuses_minSvn]
    rfl
  · exact fun s r x hq ht hm hx hn => takes_refused hq ht (fuse_meets s 2 x) ((cmdFuse_minSvn hm hx).trans (if_pos hn))
  · intro s r x i ht hm hx hr hi h1 h2 h3
    have hl := (vendorLeft_iff s.mgmt.fuses x.toNat).2 ⟨i, hi, h1, h2, h3⟩
    have e : s.carryOut r (.fuseProgram 3 x) = _ := (cmdFuse_vendorRevoke hm hx).trans (if_neg (by simp [hr, hl]))
    refine leaves_mono (fuse_leaves ht (fuse_meets s 3 x) e) fun u ⟨a1, a2, a3, a4⟩ => ⟨a1, a2, ?_, a4⟩
    rw [rd_of_reg (a3 _ (by decide)), State.fused, showFuses_vendorRevoke]
    exact (BitVec.toNat_ofNat _ _).trans (Nat.mod_eq_of_lt hx)
  · intro s r x hq ht hm hx h
    refine takes_refused hq ht (fuse_meets s 3 x) ((cmdFuse_vendorRevoke hm hx).trans (if_pos (h.imp_right fun h => ?_)))
    rw [Bool.not_eq_true', ← Bool.not_eq_true, vendorLeft_iff]
    rintro ⟨i, hi, h1, h2, h3⟩
    rw [h i hi h1 h2] at h3
    exact Bool.noConfusion h3
  · intro s r ht ho hd hv hn hl
    have e : s.carryOut r .sealRearm = _ := cmdSealRearm_takes ho hd hv hn hl
    refine leaves_mono (fuse_leaves ht (fun n => by cases n <;> rfl) e) fun u ⟨a1, a2, a3, a4⟩ => ⟨a1, a2, ?_, ?_, a4⟩
    · rw [rd_of_reg (a3 _ (by decide)), State.fused, showFuses_rearms]
      simp only
      omega
    · rw [on_of_reg (a3 _ (by decide)), State.fused, showFuses_broken]
      simp
  · exact fun s r x hq ht h => takes_refused hq ht (fun n => by cases n <;> rfl) (cmdSealRearm_refused h)
  · intro s r ht h
    refine ⟨_, congrArg done (mailbox_takes ht (fencesMet_nil fun n => by cases n <;> rfl)), ?_⟩
    have e : s.carryOut r .keepErase = _ := cmdKeepErase_takes h
    obtain ⟨-, -, -, -, -, -, -, hk, hr⟩ := answered_keeps s.keepErased r .keepErase {}
    rw [e]
    refine ⟨answered_replies _ _ _ _, ?_, ?_, ?_, ?_, ?_, fun a ha => ?_⟩
    · exact (congrArg KeepState.tables hk).trans rfl
    · exact (congrArg KeepState.held hk).trans rfl
    · exact hr.trans rfl
    · rw [on_of_reg (answered_reg _ _ _ _ _ (low_mgmt r (by decide)))]
      simp +decide [State.keepErased]
    · rw [(answered_calm _ _ _ _).2.1]
      simp +decide [State.keepErased]
    · simp only [List.mem_cons, not_or] at ha
      rw [answered_reg _ _ _ _ _ ha.2]
      simp [State.keepErased, ha.1]
  · intro s r hq ht h hm
    have e : s.carryOut r .keepErase = _ := cmdKeepErase_refused h hm
    have hm : ∀ n, s.meets .keepErase n = false := fun n => by cases n <;> rfl
    change Answers (done (s.mailbox r .keepErase)) _
    rw [mailbox_takes ht (fencesMet_nil hm), e]
    obtain ⟨-, -, -, -, -, -, -, hk, hr⟩ := answered_keeps s r .keepErase { status := St.MODE }
    exact answers_and (turnsAway_of_answered hq) (answers_of_answered hq ⟨⟨rfl, rfl, rfl, rfl, rfl, rfl⟩, rfl, rfl, rfl⟩
      fun _ _ _ => ⟨hk, hr⟩)

end Sys2Proof.Machine
end

section
/-!
The flash: ranges read, sectors erased, bytes programmed, the directory.
-/
namespace Sys2Proof.Machine

/-! ### Reading ranges of a memory -/

/-- Every key of a table is at least a. -/
def tabFrom {α : Type} (a : Nat) (t : Tab α) : Prop := ∀ e ∈ t, a ≤ e.1

theorem memGet_cons (k : Nat) (v : Byte) (r : List Host.Cell) (c : Nat) :
    memGet ((k, v) :: r) c = if k = c then v else memGet r c := by
  unfold memGet tabGet
  rw [tabFind_cons]
  split <;> rfl

/-- A byte below every key reads erased. -/
theorem memGet_below {m : List Host.Cell} {a : Nat} (h : tabFrom (a + 1) m) : memGet m a = erased := by
  induction m with
  | nil => rfl
  | cons e r ih =>
    obtain ⟨k, v⟩ := e
    have hk : a + 1 ≤ k := h (k, v) (List.mem_cons_self ..)
    rw [memGet_cons, if_neg (by omega)]
    exact ih fun e he => h e (List.mem_cons_of_mem _ he)

/-- The tail of a sorted table lies above its head. -/
theorem tabFrom_tail {α : Type} {k : Nat} {v : α} {r : Tab α} (h : tabSorted ((k, v) :: r) = true) :
    tabFrom (k + 1) r ∧ tabSorted r = true := by
  obtain ⟨ha, hs⟩ := (tabSorted_cons k v r).1 h
  refine ⟨fun e he => ?_, hs⟩
  unfold tabAbove at ha
  simpa using List.all_eq_true.1 ha e he

/-- A walk over a sorted memory reads its bytes. -/
theorem memWalk_eq (d : List Byte) {m : List Host.Cell} {a : Nat} (hs : tabSorted m = true) (ha : tabFrom a m)
    (h : ∀ i b, d[i]? = some b → memGet m (a + i) = b) : memWalk m a d.length = d := by
  induction d generalizing m a with
  | nil => unfold memWalk; rfl
  | cons b d ih =>
    have hb : memGet m a = b := h 0 b rfl
    have hd : ∀ i b, d[i]? = some b → memGet m (a + 1 + i) = b := fun i b hi => by
      rw [Nat.add_right_comm, Nat.add_assoc]
      exact h (i + 1) b (by simpa using hi)
    cases m with
    | nil =>
      unfold memWalk
      simp only [List.length_cons]
      rw [ih hs (fun e he => absurd he (by simp)) hd, ← hb]
      rfl
    | cons e r =>
      obtain ⟨k, v⟩ := e
      obtain ⟨hr, hsr⟩ := tabFrom_tail hs
      unfold memWalk
      simp only [List.length_cons]
      split
      · rename_i hk
        subst hk
        rw [memGet_cons, if_pos rfl] at hb
        rw [hb, ih hsr hr fun i b hi => ?_]
        rw [← hd i b hi, memGet_cons, if_neg (by omega)]
      · rename_i hk
        have hak : a ≤ k := ha (k, v) (List.mem_cons_self ..)
        have hf : tabFrom (a + 1) ((k, v) :: r) := fun e he => by
          rcases List.mem_cons.1 he with rfl | he
          · exact Nat.lt_of_le_of_ne hak (Ne.symm hk)
          · have := hr e he
            omega
        rw [ih hs hf hd, ← hb, memGet_below hf]

/-- What is dropped from the front of a sorted memory lies below. -/
theorem dropBelow (m : List Host.Cell) (a : Nat) (hs : tabSorted m = true) :
    let r := m.dropWhile fun c => decide (c.1 < a)
    tabSorted r = true ∧ tabFrom a r ∧ ∀ c, a ≤ c → memGet r c = memGet m c := by
  induction m with
  | nil => exact ⟨rfl, fun e he => absurd he (by simp), fun c _ => rfl⟩
  | cons e r ih =>
    obtain ⟨k, v⟩ := e
    obtain ⟨hr, hsr⟩ := tabFrom_tail hs
    by_cases hk : k < a
    · obtain ⟨h1, h2, h3⟩ := ih hsr
      rw [List.dropWhile_cons_of_pos (by simpa using hk)]
      refine ⟨h1, h2, fun c hc => ?_⟩
      rw [h3 c hc, memGet_cons, if_neg (by omega)]
    · rw [List.dropWhile_cons_of_neg (by simpa using hk)]
      refine ⟨hs, fun e he => ?_, fun c _ => rfl⟩
      rcases List.mem_cons.1 he with rfl | he
      · exact Nat.le_of_not_lt hk
      · have := hr e he
        omega

/-- A range of a sorted memory is the bytes that stand there. -/
theorem memRange_eq {m : List Host.Cell} {a : Nat} (d : List Byte) (hs : tabSorted m = true)
    (h : ∀ i b, d[i]? = some b → memGet m (a + i) = b) : memRange m a d.length = d := by
  obtain ⟨h1, h2, h3⟩ := dropBelow m a hs
  exact memWalk_eq d h1 h2 fun i b hi => (h3 _ (by omega)).trans (h i b hi)

/-! ### Erasing and programming -/

theorem memGet_memErase (m : List Host.Cell) (a n c : Nat) :
    memGet (memErase m a n) c = if c < a ∨ a + n ≤ c then memGet m c else erased := by
  unfold memErase
  induction m with
  | nil => simp [memGet, tabGet]
  | cons e r ih =>
    obtain ⟨k, v⟩ := e
    by_cases hk : k < a ∨ a + n ≤ k
    · rw [List.filter_cons_of_pos (by simpa using hk), memGet_cons, memGet_cons, ih]
      by_cases hc : k = c
      · rw [if_pos hc, if_pos hc, if_pos (hc ▸ hk)]
      · rw [if_neg hc, if_neg hc]
    · rw [List.filter_cons_of_neg (by simpa using hk), ih, memGet_cons]
      by_cases hc : k = c
      · rw [if_neg (hc ▸ hk), if_neg (hc ▸ hk)]
      · rw [if_neg hc]

/-- Bytes programmed where the memory is erased. -/
theorem memGet_memProgram (l : List Byte) (m : List Host.Cell) (a : Nat)
    (h : ∀ i < l.length, memGet m (a + i) = erased) (i : Nat) (b : Byte) (hi : l[i]? = some b) :
    memGet (memProgram m a l) (a + i) = b := by
  induction l generalizing m a i with
  | nil => exact absurd hi (by simp)
  | cons x r ih =>
    have h0 : memGet m a = erased := h 0 (by simp)
    have hx : memPut m a (memGet m a &&& x) = memPut m a x := by
      rw [h0]
      exact congrArg _ (BitVec.allOnes_and (x := x))
    change memGet (memProgram (memPut m a (memGet m a &&& x)) (a + 1) r) (a + i) = b
    rw [hx]
    cases i with
    | zero =>
      rw [memGet_memProgram_outside _ _ _ _ (by omega), memGet_memPut, if_pos (Nat.add_zero a)]
      simpa using hi
    | succ i =>
      rw [← Nat.add_assoc, Nat.add_right_comm]
      refine ih _ _ (fun j hj => ?_) i (by simpa using hi)
      rw [memGet_memPut, if_neg (by omega), Nat.add_right_comm, Nat.add_assoc]
      exact h (j + 1) (by simpa using hj)

/-- The directory lies in the first two blocks of the flash. -/
theorem memGet_writeDirectory (m : List Host.Cell) (f : Directory → Directory) (a : Nat) (h : 0x2000 ≤ a) :
    memGet (writeDirectory m f) a = memGet m a := by
  have hn : (readDirectory m).next ≤ 1 := by
    unfold readDirectory chooseDirectory
    split
    · exact Nat.zero_le _
    · exact Nat.le_refl _
    · exact Nat.zero_le _
    · simp only
      split
      · exact Nat.zero_le _
      · exact Nat.le_refl _
  have hl : ∀ (n x : Nat), (leBytes x n).length = n := by
    intro n
    induction n with
    | zero => exact fun _ => rfl
    | succ n ih => exact fun x => congrArg (· + 1) (ih _)
  have hd : ∀ d : Directory, d.bytes.length = 0x1000 := fun d => by
    unfold Directory.bytes Directory.body
    simp only [List.length_append, hl, List.length_replicate, List.length_cons, List.length_nil]
  unfold writeDirectory
  simp only
  rw [memGet_memStore_outside _ _ _ _ (by rw [hd]; omega), memGet_memErase, if_pos (by omega)]

theorem writeDirectory_wf (m : List Host.Cell) (f : Directory → Directory) (h : Memory.wf m = true) :
    Memory.wf (writeDirectory m f) = true := memStore_wf _ _ _ (memErase_wf _ _ _ h)

end Sys2Proof.Machine
end

section
/-!
Staging and committing Formulas and firmware.
-/
namespace Sys2Proof.Machine

/-! ### Staging -/

/-- Where a slot lies, and how large it is. -/
def stageBase (fw : Bool) (slot : Nat) : Nat := if fw then fwSlotBase slot else fmlSlotBase slot
def stageSize (fw : Bool) : Nat := if fw then fwSlotSize else fmlSlotSize
def stageKey (fw : Bool) (slot : Nat) : Nat := if fw then 2 + slot else slot
/-- The slot in use. -/
def State.stageActive (s : State) (fw : Bool) : Nat := if fw then s.directory.fwActive else s.directory.fmlActive

/-- s with nothing pending in a slot. -/
def State.unpend (s : State) (fw : Bool) (slot : Nat) : State :=
  if fw then
    if s.directory.fwPendingValid && s.directory.fwPending == slot then
      s.putDirectory fun x => { x with fwPendingValid := false } else s
  else if s.directory.fmlPendingValid && s.directory.fmlPending == slot then
    s.putDirectory fun x => { x with fmlPendingValid := false } else s

/-- The change of a directory alone. -/
theorem unpend_cases (s : State) (fw : Bool) (slot : Nat) : s.unpend fw slot = s ∨ ∃ f, s.unpend fw slot = s.putDirectory f := by
  unfold State.unpend
  repeat' split
  · exact .inr ⟨_, rfl⟩
  · exact .inl rfl
  · exact .inr ⟨_, rfl⟩
  · exact .inl rfl

theorem unpend_keeps (s : State) (fw : Bool) (slot : Nat) : (s.unpend fw slot).mgmt.fuses = s.mgmt.fuses ∧
    (s.unpend fw slot).fml = s.fml ∧ ∀ a, a ∉ dirRegs → (s.unpend fw slot).reg a = s.reg a := by
  rcases unpend_cases s fw slot with e | ⟨f, e⟩
  · rw [e]
    exact ⟨rfl, rfl, fun _ _ => rfl⟩
  · obtain ⟨-, h1, h2⟩ := flashed_keeps (putDirectory_rest s f)
    rw [e]
    exact ⟨h1, h2, fun a ha => putDirectory_reg s f a ha⟩

theorem unpend_flash (s : State) (fw : Bool) (slot : Nat) (hw : Memory.wf s.mgmt.flash = true) :
    Memory.wf (s.unpend fw slot).mgmt.flash = true ∧
      ∀ a, 0x2000 ≤ a → memGet (s.unpend fw slot).mgmt.flash a = memGet s.mgmt.flash a := by
  rcases unpend_cases s fw slot with e | ⟨f, e⟩
  · rw [e]
    exact ⟨hw, fun _ _ => rfl⟩
  · obtain ⟨h, -, -⟩ := flashed_keeps (putDirectory_rest s f)
    rw [e, h]
    exact ⟨writeDirectory_wf _ f hw, fun a ha => memGet_writeDirectory _ f a ha⟩

/-- The sectors that a write erases: those of its span that the staging has not erased yet. -/
def newSectors (done : List Nat) (o len : Nat) : List Nat := (sectorsOf o len).filter fun x => !done.contains x

/-- The flash after a write of a staging. -/
def stagedFlash (m : List Host.Cell) (done : List Nat) (base o : Nat) (data : List Byte) : List Host.Cell :=
  memProgram ((newSectors done o data.length).foldl (fun m x => memErase m (base + x * sectorSize) sectorSize) m) (base + o) data

/-- The sectors that the staging of a slot has erased: none at its start. -/
def State.stageDone (s : State) (fw : Bool) (slot o : Nat) : List Nat :=
  if o = 0 then [] else (tabGet s.mgmt.staging (stageKey fw slot) {}).sectors

/-- s with other contents of the flash and other records of the stagings. -/
def State.staged (s : State) (m : List Host.Cell) (g : Tab Staging) : State :=
  { s with mgmt := { s.mgmt with flash := m, staging := g } }

/-- The flash of s after a write of the staging of a slot. -/
def State.stageFlash (s : State) (fw : Bool) (slot o : Nat) (data : List Byte) : List Host.Cell :=
  stagedFlash s.mgmt.flash (s.stageDone fw slot o) (stageBase fw slot) o data

/-- What a staging leaves where its checks pass: the flash with the sectors erased and the bytes programmed. -/
theorem stage_eq {s : State} {fw : Bool} {slot o : Nat} {data : List Byte} (hl : 1 ≤ data.length) (hl' : data.length ≤ 65512)
    (hs : slot ≤ 1) (ho : o % 256 = 0) (hz : o + data.length ≤ stageSize fw) (ha : s.stageActive fw ≠ slot)
    (hf : s.mgmt.flashAbsent = false) : ∃ g, s.stage? fw slot o data =
      ({ status := if memRange ((s.unpend fw slot).stageFlash fw slot o data) (stageBase fw slot + o) data.length = data
          then St.OK else St.FLASH_ERROR }, (s.unpend fw slot).staged ((s.unpend fw slot).stageFlash fw slot o data) g) := by
  have h1 : ¬ (data.length = 0 ∨ 65512 < data.length) := by omega
  have h2 : ¬ (1 < slot ∨ o % 256 ≠ 0 ∨ stageSize fw < o + data.length) := by omega
  refine ⟨tabPut (s.unpend fw slot).mgmt.staging (stageKey fw slot)
    (Staging.mk ((s.unpend fw slot).stageDone fw slot o ++ newSectors ((s.unpend fw slot).stageDone fw slot o) o data.length)), ?_⟩
  unfold State.stage?
  simp only
  rw [if_neg h1]
  refine (if_neg h2).trans ((if_neg ha).trans ((if_neg (by simp [hf])).trans ?_))
  by_cases hm : memRange ((s.unpend fw slot).stageFlash fw slot o data) (stageBase fw slot + o) data.length = data
  · refine (if_pos hm).trans ?_
    rw [if_pos hm]
    rfl
  · refine (if_neg hm).trans ?_
    rw [if_neg hm]
    rfl

theorem stage_inUse {s : State} {fw : Bool} {slot o : Nat} {data : List Byte} (hl : 1 ≤ data.length) (hl' : data.length ≤ 65512)
    (hs : slot ≤ 1) (ho : o % 256 = 0) (hz : o + data.length ≤ stageSize fw) (ha : s.stageActive fw = slot) :
    s.stage? fw slot o data = ({ status := St.IN_USE }, s) := by
  have h1 : ¬ (data.length = 0 ∨ 65512 < data.length) := by omega
  have h2 : ¬ (1 < slot ∨ o % 256 ≠ 0 ∨ stageSize fw < o + data.length) := by omega
  unfold State.stage?
  simp only
  rw [if_neg h1]
  exact (if_neg h2).trans (if_pos ha)

/-- The first write of a staging: one sector erased, its bytes programmed. -/
theorem stageFlash_first (s : State) (fw : Bool) (slot : Nat) (data : List Byte) (hl : 1 ≤ data.length)
    (hl' : data.length ≤ 65512) :
    s.stageFlash fw slot 0 data = memProgram (memErase s.mgmt.flash (stageBase fw slot) sectorSize) (stageBase fw slot) data := by
  have h : sectorsOf 0 data.length = [0] := by
    have h1 : (0 + data.length - 1) / sectorSize = 0 := Nat.div_eq_of_lt (by unfold sectorSize; omega)
    unfold sectorsOf
    rw [h1]
    rfl
  have hn : newSectors [] 0 data.length = [0] := by
    unfold newSectors
    rw [h]
    rfl
  unfold State.stageFlash stagedFlash State.stageDone
  rw [if_pos rfl, hn, Nat.add_zero, List.foldl_cons, List.foldl_nil, Nat.zero_mul, Nat.add_zero]

theorem stageFlash_first_reads {s : State} {fw : Bool} {slot : Nat} {data : List Byte} (hl : 1 ≤ data.length)
    (hl' : data.length ≤ 65512) (i : Nat) (b : Byte) (hi : data[i]? = some b) :
    memGet (s.stageFlash fw slot 0 data) (stageBase fw slot + i) = b := by
  rw [stageFlash_first s fw slot data hl hl']
  refine memGet_memProgram data _ _ (fun j hj => ?_) i b hi
  rw [memGet_memErase, if_neg (by unfold sectorSize; omega)]

theorem stageFlash_first_outside {s : State} {fw : Bool} {slot : Nat} {data : List Byte} (hl : 1 ≤ data.length)
    (hl' : data.length ≤ 65512) (a : Nat) (h : a < stageBase fw slot ∨ stageBase fw slot + 0x1000000 ≤ a) :
    memGet (s.stageFlash fw slot 0 data) a = memGet s.mgmt.flash a := by
  rw [stageFlash_first s fw slot data hl hl', memGet_memProgram_outside _ _ _ _ (by omega), memGet_memErase,
    if_pos (by unfold sectorSize; omega)]

theorem stageFlash_first_wf {s : State} {fw : Bool} {slot : Nat} {data : List Byte} (hl : 1 ≤ data.length)
    (hl' : data.length ≤ 65512) (hw : Memory.wf s.mgmt.flash = true) : Memory.wf (s.stageFlash fw slot 0 data) = true := by
  rw [stageFlash_first s fw slot data hl hl']
  exact memProgram_wf _ _ _ (memErase_wf _ _ _ hw)

/-- A command that stages. -/
def stageCmd (fw : Bool) (k : BitVec 8) (o : BitVec 32) (d : List Byte) : MgmtCmd := if fw then .fwStage k o d else .formulaStage k o d

theorem stageCmd_carryOut (s : State) (r : MgmtReq) (fw : Bool) (k : BitVec 8) (o : BitVec 32) (d : List Byte) :
    s.carryOut r (stageCmd fw k o d) = s.stage? fw k.toNat o.toNat d := by cases fw <;> rfl

theorem stageCmd_meets (s : State) (fw : Bool) (k : BitVec 8) (o : BitVec 32) (d : List Byte) (n : Notice) :
    s.meets (stageCmd fw k o d) n = false := by cases fw <;> cases n <;> rfl

/-- What an accepted staging leaves. -/
theorem stage_leaves {s : State} {r : MgmtReq} {fw : Bool} {k : BitVec 8} {o : BitVec 32} {d : List Byte}
    (ht : s.takes r (stageCmd fw k o d)) (hl : 1 ≤ d.length) (hl' : d.length ≤ 65512) (hs : k.toNat ≤ 1) (ho : o.toNat % 256 = 0)
    (hz : o.toNat + d.length ≤ stageSize fw) (ha : s.stageActive fw ≠ k.toNat) (hf : s.mgmt.flashAbsent = false) :
    Leaves (done (s.mailbox r (stageCmd fw k o d))) fun u =>
      u.repliedTo r (stageCmd fw k o d) (if memRange u.mgmt.flash (stageBase fw k.toNat + o.toNat) d.length = d
        then St.OK else St.FLASH_ERROR) 0 [] ∧
      u.mgmt.flash = (s.unpend fw k.toNat).stageFlash fw k.toNat o.toNat d ∧
      u.mgmt.fuses = s.mgmt.fuses ∧ u.fml = s.fml ∧ u.regsBut s (dirRegs ++ mgmtRegs r) := by
  refine ⟨_, congrArg done (mailbox_takes ht (fencesMet_nil (stageCmd_meets s fw k o d))), ?_⟩
  obtain ⟨g, e⟩ := stage_eq hl hl' hs ho hz ha hf
  rw [stageCmd_carryOut, e]
  simp only
  generalize hm : (s.unpend fw k.toNat).stageFlash fw k.toNat o.toNat d = m
  obtain ⟨h1, h2, h3⟩ := unpend_keeps s fw k.toNat
  generalize s.unpend fw k.toNat = v at h1 h2 h3
  obtain ⟨a1, a2, -, -, a5, -⟩ := answered_keeps (v.staged m g) r (stageCmd fw k o d)
    { status := if memRange m (stageBase fw k.toNat + o.toNat) d.length = d then St.OK else St.FLASH_ERROR }
  refine ⟨?_, a1, a2.trans h1, a5.trans h2, fun a hm => ?_⟩
  · rw [a1]
    exact answered_replies _ _ _ _
  · simp only [List.mem_append, not_or] at hm
    exact (answered_reg _ _ _ _ _ hm.2).trans (h3 a hm.1)

/-! ### Commits -/

theorem endStaging_calm (s : State) (k : Nat) : (s.endStaging k).calm s := ⟨⟨rfl, rfl, rfl, rfl, rfl, rfl⟩, rfl, rfl, rfl⟩

/-- A command that is answered and ends a staging is turned away. -/
theorem turnsAway_of_endStaging {s : State} {r : MgmtReq} {c : MgmtCmd} {st k : Nat} (hq : s.quiet = true) :
    Answers (done ((s.endStaging k).replied r c { status := st })) fun t => t.turnsAway s r c st := by
  obtain ⟨h1, h2, h3, h4, h5, h6, h7, -⟩ := answered_keeps (s.endStaging k) r c { status := st }
  have h8 := congrArg FaultState.log h7
  have h9 := congrArg FaultState.src h7
  exact answers_of_answered hq (endStaging_calm s k) fun l a b =>
    ⟨List.mem_append_right _ (answered_replies _ r c _), fun x hx => answered_reg _ r c _ x hx, h1, h2, h3, h4, h5, h6, h8, h9⟩

theorem commit_meets (s : State) (k m : BitVec 8) (n : Notice) : s.meets (.formulaCommit k m) n = false := by cases n <;> rfl

/-- What a taken FORMULA_COMMIT comes to. -/
theorem commit_replied {s : State} {r : MgmtReq} {k m : BitVec 8} {x : Nat × Nat × State} (ht : s.takes r (.formulaCommit k m))
    (hk : k.toNat ≤ 1) (hm : m.toNat ≤ 1)
    (h : (if m.toNat = 0 then (s.endStaging k.toNat).commitLive k.toNat r.v.sig
      else (s.endStaging k.toNat).commitNextBoot k.toNat r.v.sig) = x) :
    s.mailbox r (.formulaCommit k m) = x.2.2.replied r (.formulaCommit k m) { status := x.1, detail := x.2.1 } := by
  rw [mailbox_takes ht (fencesMet_nil (commit_meets s k m))]
  have e : s.carryOut r (.formulaCommit k m) = ({ status := x.1, detail := x.2.1 }, x.2.2) := by
    rw [← h]
    exact if_neg (by omega)
  rw [e]

/-- The registers that show what a validation found. -/
def fmlErrRegs : List Nat := [Reg.MG_FML_ERR, Reg.CHIP_BOOT_STATUS]

theorem showFmlOk_spec (s : State) : s.showFmlOk.rest = s.rest ∧ s.showFmlOk.reg Reg.MG_FML_ERR = 0 ∧
    s.showFmlOk.regsBut s fmlErrRegs := by
  refine ⟨(wr_rest _ _ _ _).trans (setReg_rest _ _ _), ?_, fun a ha => ?_⟩
  · simp +decide [State.showFmlOk]
  · simp only [fmlErrRegs, List.mem_cons, List.not_mem_nil, or_false, not_or] at ha
    simp [State.showFmlOk, ha]

theorem showFmlErr_spec (s : State) (e : FmlErr) : (s.showFmlErr e).rest = s.rest ∧
    (s.showFmlErr e).rd Reg.MG_FML_ERR Fld.MG_FML_ERR.CODE = e.code % 2 ^ Fld.MG_FML_ERR.CODE.width ∧
    (s.showFmlErr e).regsBut s fmlErrRegs := by
  refine ⟨(wr_rest _ _ _ _).trans ((wr_rest _ _ _ _).trans ((wr_rest _ _ _ _).trans ((wr_rest _ _ _ _).trans
    (wr_rest _ _ _ _)))), ?_, fun a ha => ?_⟩
  · simp +decide [State.showFmlErr]
  · simp only [fmlErrRegs, List.mem_cons, List.not_mem_nil, or_false, not_or] at ha
    simp [State.showFmlErr, ha]

theorem fmlErrRegs_low : ∀ a ∈ fmlErrRegs ++ dirRegs, a < 0x9000200 ∨ 0x9000220 ≤ a ∧ a < 0x200000000 := by decide

/-- A register beside the counts of the paths is none of an answer's. -/
theorem apart_mgmt (r : MgmtReq) {a : Nat} (h : a < 0x9000200 ∨ 0x9000220 ≤ a ∧ a < 0x200000000) : a ∉ mgmtRegs r := by
  simp only [mgmtRegs, Reg.MG_PATH_CNT, Reg.MBX_STATUS, List.mem_cons, List.not_mem_nil, or_false]
  omega

/-- A commit for the next boot of a slot that is valid. -/
theorem commitNextBoot_accepts {s : State} {k : Nat} {b : Bool} {f : Formula} (hm : s.md = .serve ∨ s.inRecovery = true)
    (hv : s.validateSlot k b = .inl f) : s.commitNextBoot k b = (St.OK, 0,
      s.showFmlOk.putDirectory fun d => { d with fmlPending := k, fmlPendingValid := true }) := by
  unfold State.commitNextBoot
  rw [if_pos hm, hv]

theorem commitNextBoot_invalid {s : State} {k : Nat} {b : Bool} {e : FmlErr} (hm : s.md = .serve ∨ s.inRecovery = true)
    (hv : s.validateSlot k b = .inr e) :
    s.commitNextBoot k b = (St.INVALID, ((s.showFmlErr e).reg Reg.MG_FML_ERR).toNat, s.showFmlErr e) := by
  unfold State.commitNextBoot
  rw [if_pos hm, hv]

theorem commitNextBoot_mode {s : State} {k : Nat} {b : Bool} (hm : s.md ≠ .serve) (hr : s.inRecovery = false) :
    s.commitNextBoot k b = (St.MODE, 0, s) := by
  unfold State.commitNextBoot
  rw [if_neg]
  rintro (h | h)
  · exact hm h
  · exact Bool.noConfusion (hr.symm.trans h)

/-- LIVE is refused outside SERVE. -/
theorem commitLive_mode {s : State} {k : Nat} {b : Bool} (hm : s.md ≠ .serve) :
    s.commitLive k b = (St.INVALID, if s.md = .recompose then 0x0702 else 0x0703, s) := by
  unfold State.commitLive
  by_cases h : s.md = .recompose
  · rw [if_pos h, if_pos h]
  · rw [if_neg h, if_pos hm, if_neg h]

/-- A chip-wide change is refused. -/
theorem commitLive_chipwide {s : State} {k : Nat} {b : Bool} {f g : Formula} (hm : s.md = .serve) (hg : s.fml.inForce = some g)
    (hv : s.validateSlot k b = .inl f) (hc : chipwideChange g f = true) :
    s.commitLive k b = (St.INVALID, 0x0701, s.showFmlOk) := by
  unfold State.commitLive
  rw [hm, if_neg (by decide), if_neg (by decide), hv]
  simp only [hg, Option.getD_some, hc, if_true]

/-- The sweep of AFFECTED over the Flacons. -/
def State.markAffected (s : State) (l : List Nat) : State :=
  (List.range 32).foldl (fun t i => t.wrB (Reg.FL_STATUS i) Fld.FL_STATUS.AFFECTED (l.contains i)) s

/-- RECOMPOSE entered for the Flacons of a list. -/
def State.recompose (s : State) (l : List Nat) : State :=
  ((s.goMode .recompose 0x08).setReg Reg.MG_FML_AFFECTED (BitVec.ofNat 64 (l.foldl setBitAt 0))).markAffected l

/-- s with a Formula to apply next. -/
def State.nextFormula (s : State) (f : Formula) (k : Nat) : State := { s with fml := { s.fml with next := some (f, k) } }

/-- A flag swept over registers that differ. -/
theorem sweep_reg (R : Nat → Nat) (F : Fld) (p : Nat → Bool) (L : List Nat) (s : State) (a : Nat) (h : ∀ i ∈ L, a ≠ R i) :
    (L.foldl (fun t i => t.wrB (R i) F (p i)) s).reg a = s.reg a := by
  induction L generalizing s with
  | nil => rfl
  | cons i L ih =>
    rw [List.foldl_cons, ih _ fun k hk => h k (List.mem_cons_of_mem _ hk)]
    exact reg_setReg_ne _ _ _ _ (h i (List.mem_cons_self ..))

theorem sweep_on (R : Nat → Nat) (F : Fld) (hF : F.lo + F.width ≤ 64) (hw : 0 < F.width) (p : Nat → Bool)
    (hR : ∀ i j, R i = R j → i = j) (L : List Nat) (s : State) (i : Nat) (hi : i ∈ L) :
    (L.foldl (fun t i => t.wrB (R i) F (p i)) s).on (R i) F = p i := by
  induction L generalizing s with
  | nil => exact absurd hi (by simp)
  | cons k L ih =>
    rw [List.foldl_cons]
    by_cases hm : i ∈ L
    · exact ih _ hm
    · have e : i = k := (List.mem_cons.1 hi).resolve_right hm
      subst e
      rw [on_of_reg (sweep_reg R F p L _ (R i) fun j hj e => hm (hR i j e ▸ hj))]
      simp [hF, hw]

theorem markAffected_rest (s : State) (l : List Nat) : (s.markAffected l).rest = s.rest := by
  unfold State.markAffected
  rw [foldl_keep State.rest]
  exact fun t i => wrB_rest _ _ _ _

theorem markAffected_reg (s : State) (l : List Nat) (a : Nat) (h : a < 0x4000000 ∨ 0x8000000 ≤ a) :
    (s.markAffected l).reg a = s.reg a := by
  refine sweep_reg Reg.FL_STATUS Fld.FL_STATUS.AFFECTED (fun i => l.contains i) _ s a fun i hi => ?_
  have := List.mem_range.1 hi
  unfold Reg.FL_STATUS
  omega

theorem markAffected_on (s : State) (l : List Nat) (i : Nat) (hi : i < 32) :
    (s.markAffected l).on (Reg.FL_STATUS i) Fld.FL_STATUS.AFFECTED = l.contains i :=
  sweep_on Reg.FL_STATUS Fld.FL_STATUS.AFFECTED (by decide) (by decide) (fun i => l.contains i)
    (fun i j h => by unfold Reg.FL_STATUS at h; omega) _ s i (List.mem_range.2 hi)

theorem recompose_rest (s : State) (l : List Nat) : (s.recompose l).rest = s.rest :=
  (markAffected_rest _ _).trans ((setReg_rest _ _ _).trans (goMode_rest _ _ _))

/-! Nothing in the machine holds up the start of the drain. -/

theorem abortAll_none {s : State} (h : s.acd.trk = []) (p : Accord → Bool) (c : Nat) : s.abortAll p c = s := by
  unfold State.abortAll
  rw [h]
  rfl

theorem cancelJobs_none {s : State} (h : s.decant = []) (p : DecantJob → Bool) (c : Nat) : s.cancelJobs p c = s := by
  unfold State.cancelJobs
  rw [h]
  rfl

theorem runSlices_none {s : State} (h : s.home = []) : s.runSlices = s := by
  unfold State.runSlices
  rw [h]
  rfl

theorem backInvalidate_none {s : State} (h : s.home = []) : s.backInvalidate = s := by
  unfold State.backInvalidate
  rw [h]
  exact ite_self _

theorem commitLive_accepts {s : State} {k : Nat} {b : Bool} {f g : Formula} (hm : s.md = .serve) (hg : s.fml.inForce = some g)
    (hv : s.validateSlot k b = .inl f) (hc : chipwideChange g f = false) (ht : s.acd.trk = []) (hh : s.home = [])
    (hd : s.decant = []) : s.commitLive k b = (St.OK, 0,
      ((s.showFmlOk.recompose (affectedBy g f)).nextFormula f k).wr Reg.MG_FML_STATUS Fld.MG_FML_STATUS.PHASE 3) := by
  have hr := (recompose_rest s.showFmlOk (affectedBy g f)).trans (showFmlOk_spec s).1
  have ht' : (s.showFmlOk.recompose (affectedBy g f)).acd.trk = [] := by rw [eq_of_rest hr]; exact ht
  have hh' : (s.showFmlOk.recompose (affectedBy g f)).home = [] := by rw [eq_of_rest hr]; exact hh
  have hd' : (s.showFmlOk.recompose (affectedBy g f)).decant = [] := by rw [eq_of_rest hr]; exact hd
  unfold State.commitLive
  rw [hm, if_neg (by decide), if_neg (by decide), hv]
  simp only [hg, Option.getD_some, hc, Bool.false_eq_true, if_false]
  change (St.OK, 0, (((((s.showFmlOk.recompose (affectedBy g f)).nextFormula f k).abortAll _ Ab.RECOMPOSE).cancelJobs _
    2).runSlices.wr Reg.MG_FML_STATUS Fld.MG_FML_STATUS.PHASE 3).backInvalidate) = _
  generalize s.showFmlOk.recompose (affectedBy g f) = x at ht' hh' hd' ⊢
  rw [abortAll_none (s := x.nextFormula f k) ht', cancelJobs_none (s := x.nextFormula f k) hd',
    runSlices_none (s := x.nextFormula f k) hh',
    backInvalidate_none (s := (x.nextFormula f k).wr Reg.MG_FML_STATUS Fld.MG_FML_STATUS.PHASE 3) hh']

theorem affectedBy_contains (a b : Formula) (i : Nat) (h : i < 32) : (affectedBy a b).contains i = !sameRecords a b i := by
  rw [Bool.eq_iff_iff, List.contains_iff_mem]
  simp [affectedBy, h]

/-- What LIVE leaves as the drain begins. -/
theorem recomposing_spec (s : State) (l : List Nat) (f : Formula) (k : Nat) {u : State}
    (hu : u = ((s.showFmlOk.recompose l).nextFormula f k).wr Reg.MG_FML_STATUS Fld.MG_FML_STATUS.PHASE 3) :
    u.entered s .recompose 0x08 ∧ u.recomposePhase = 3 ∧ u.fml.next = some (f, k) ∧ u.fml.inForce = s.fml.inForce ∧
      (∀ i < 32, u.on (Reg.FL_STATUS i) Fld.FL_STATUS.AFFECTED = l.contains i) ∧ u.mgmt = s.mgmt := by
  have hr := (recompose_rest s.showFmlOk l).trans (showFmlOk_spec s).1
  have hf := rest_fml hr
  have hm := rest_mgmt hr
  have hreg (a : Nat) (h : a < 0x4000000 ∨ 0x8000000 ≤ a) (h1 : a ≠ Reg.MG_FML_AFFECTED) :
      (s.showFmlOk.recompose l).reg a = (s.showFmlOk.goMode .recompose 0x08).reg a :=
    (markAffected_reg _ l a h).trans (reg_setReg_ne _ _ _ _ h1)
  have hg := (goMode_spec s.showFmlOk .recompose 0x08 (by decide)).1
  have hs := (showFmlOk_spec s).2.2
  have hon := fun i hi => markAffected_on ((s.showFmlOk.goMode .recompose 0x08).setReg Reg.MG_FML_AFFECTED
    (BitVec.ofNat 64 (l.foldl setBitAt 0))) l i hi
  change ∀ i, i < 32 → (s.showFmlOk.recompose l).on (Reg.FL_STATUS i) Fld.FL_STATUS.AFFECTED = l.contains i at hon
  have hmode := hreg Reg.CHIP_MODE (by decide) (by decide)
  generalize s.showFmlOk.recompose l = x at *
  have hx : u.reg Reg.CHIP_MODE = x.reg Reg.CHIP_MODE := by rw [hu]; exact reg_setReg_ne _ _ _ _ (by decide)
  refine ⟨entered_of_reg ⟨?_, ?_, ?_⟩ (hs _ (by decide)), ?_, ?_, ?_, fun i hi => ?_, ?_⟩
  · rw [md_of_reg (hx.trans hmode)]
    exact hg.1
  · rw [rd_of_reg (hx.trans hmode)]
    exact hg.2.1
  · rw [rd_of_reg (hx.trans hmode)]
    exact hg.2.2
  · rw [hu]
    unfold State.recomposePhase
    exact rd_wr _ _ _ _ (by decide)
  · rw [hu]
    rfl
  · rw [hu, ← hf]
    rfl
  · rw [← hon i hi, hu]
    refine on_of_reg (reg_setReg_ne _ _ _ _ ?_) _
    unfold Reg.FL_STATUS Reg.MG_FML_STATUS
    omega
  · rw [hu, ← hm]
    rfl

theorem cmdFwCommit_accepts {s : State} {k : Nat} {v : MgmtVerdict} (hk : k ≤ 1) (hm : s.serveOrRecovery = true)
    (hv : fwCheck (fwImage s.mgmt.flash k) s.mgmt.fuses v.sig = none) : s.cmdFwCommit k v =
      ({}, (s.endStaging (2 + k)).putDirectory fun d => { d with fwPending := k, fwPendingValid := true }) := by
  have hv' : fwCheck (fwImage (s.endStaging (2 + k)).mgmt.flash k) (s.endStaging (2 + k)).mgmt.fuses v.sig = none := hv
  unfold State.cmdFwCommit
  rw [if_neg (by omega), if_neg (by simp [hm])]
  simp only [hv']
  rfl

theorem cmdFwCommit_invalid {s : State} {k n : Nat} {v : MgmtVerdict} (hk : k ≤ 1) (hm : s.serveOrRecovery = true)
    (hv : fwCheck (fwImage s.mgmt.flash k) s.mgmt.fuses v.sig = some n) : s.cmdFwCommit k v =
      ({ status := St.INVALID, detail := n }, s.endStaging (2 + k)) := by
  have hv' : fwCheck (fwImage (s.endStaging (2 + k)).mgmt.flash k) (s.endStaging (2 + k)).mgmt.fuses v.sig = some n := hv
  unfold State.cmdFwCommit
  rw [if_neg (by omega), if_neg (by simp [hm])]
  simp only [hv']

/-- Settles O53: a staging writes its span of its slot; a commit is one result of the checks, and answered. -/
theorem stagesAndCommits : Obligations.StagesAndCommits := by
  refine ⟨?_, ?_, ?_, ?_, ?_, ?_, ?_, ?_, ?_, ?_, ?_⟩
  · intro s c r k d m base hc ht hw hk hl hl' hf
    obtain ⟨fw, ec, em, eb, ha, hz⟩ : ∃ fw, exec c s = done (s.mailbox r m) ∧ m = stageCmd fw k 0 d ∧
        base = stageBase fw k.toNat ∧ s.stageActive fw ≠ k.toNat ∧ 0x200000 ≤ stageSize fw := by
      rcases hc with ⟨rfl, rfl, rfl, ha⟩ | ⟨rfl, rfl, rfl, ha⟩
      · exact ⟨false, rfl, rfl, rfl, ha, by decide⟩
      · exact ⟨true, rfl, rfl, rfl, ha, by decide⟩
    rw [ec, eb]
    subst em
    have hb : 0x2000 ≤ stageBase fw k.toNat := by
      cases fw <;> simp only [stageBase, fmlSlotBase, fwSlotBase, if_true, Bool.false_eq_true, if_false] <;> split <;> omega
    have h0 : (0 : BitVec 32).toNat = 0 := rfl
    obtain ⟨w1, w2⟩ := unpend_flash s fw k.toNat hw
    refine leaves_mono (stage_leaves ht hl hl' hk rfl (by rw [h0]; omega) ha hf) fun u ⟨a1, a2, a3, a4, a5⟩ =>
      ⟨?_, fun i b hi => ?_, fun a h1 h2 => ?_, a3, a4, a5⟩
    · rw [h0] at a2
      rw [a2, h0, Nat.add_zero, if_pos] at a1
      · exact a1
      · have hwf := stageFlash_first_wf (fw := fw) (slot := k.toNat) hl hl' w1
        rw [Memory.wf, Bool.and_eq_true] at hwf
        exact memRange_eq d hwf.1 fun i b hi => stageFlash_first_reads hl hl' i b hi
    · rw [a2]
      exact stageFlash_first_reads hl hl' i b hi
    · rw [a2, h0, stageFlash_first_outside hl hl' a h2, w2 a h1]
  · intro s c r k o d m a size hc ht hk ho hz hl hl' hf
    obtain ⟨fw, ec, em, eb, es, ha⟩ : ∃ fw, exec c s = done (s.mailbox r m) ∧ m = stageCmd fw k o d ∧
        a = stageBase fw k.toNat + o.toNat ∧ size = stageSize fw ∧ s.stageActive fw ≠ k.toNat := by
      rcases hc with ⟨rfl, rfl, rfl, rfl, ha⟩ | ⟨rfl, rfl, rfl, rfl, ha⟩
      · exact ⟨false, rfl, rfl, rfl, rfl, ha⟩
      · exact ⟨true, rfl, rfl, rfl, rfl, ha⟩
    rw [ec, eb]
    subst em es
    exact leaves_mono (stage_leaves ht hl hl' hk ho hz ha hf) fun u ⟨a1, a2, a3, a4, a5⟩ => ⟨a1, a3, a4, a5⟩
  · intro s c r k o d m size hq hc ht hk ho hz hl hl'
    obtain ⟨fw, ec, em, es, ha⟩ : ∃ fw, exec c s = done (s.mailbox r m) ∧ m = stageCmd fw k o d ∧ size = stageSize fw ∧
        s.stageActive fw = k.toNat := by
      rcases hc with ⟨rfl, rfl, rfl, ha⟩ | ⟨rfl, rfl, rfl, ha⟩
      · exact ⟨false, rfl, rfl, rfl, ha⟩
      · exact ⟨true, rfl, rfl, rfl, ha⟩
    rw [ec]
    subst em es
    refine takes_refused hq ht (stageCmd_meets s fw k o d) ?_
    rw [stageCmd_carryOut, stage_inUse hl hl' hk ho hz ha]
  · intro s r k f ht hk hm hv
    refine ⟨_, congrArg done (commit_replied ht hk (by decide)
      (commitNextBoot_accepts (s := s.endStaging k.toNat) hm hv)), ?_⟩
    obtain ⟨h1, h2, h3⟩ := showFmlOk_spec (s.endStaging k.toNat)
    have h4 := rest_mgmt h1
    have h5 := rest_fml h1
    simp only
    generalize (s.endStaging k.toNat).showFmlOk = x at h1 h2 h3 h4 h5
    have hx : x.mgmt.flash = s.mgmt.flash := by rw [h4]; rfl
    have hx' : x.mgmt.fuses = s.mgmt.fuses := by rw [h4]; rfl
    have hd := putDirectory_reg x fun d => { d with fmlPending := k.toNat, fmlPendingValid := true }
    obtain ⟨b1, b2, b3⟩ := flashed_keeps (putDirectory_rest x fun d => { d with fmlPending := k.toNat, fmlPendingValid := true })
    rw [hx] at b1
    generalize (x.putDirectory fun d => { d with fmlPending := k.toNat, fmlPendingValid := true }) = y at hd b1 b2 b3
    obtain ⟨a1, a2, -, -, a5, -⟩ := answered_keeps y r (.formulaCommit k 1) { status := St.OK, detail := 0 }
    refine ⟨answered_replies _ _ _ _, a1.trans b1, ?_, a5.trans (b3.trans h5), ?_, a2.trans (b2.trans hx'), fun a ha => ?_⟩
    · rw [answered_reg _ _ _ _ _ (apart_mgmt r (by decide)), hd _ (by decide), h2]
    · rw [(answered_calm _ _ _ _).2.1, md_of_reg (hd _ (by decide)), md_of_reg (h3 _ (by decide))]
      rfl
    · simp only [List.mem_cons, List.mem_append, not_or] at ha
      obtain ⟨ha1, ha2, ha3, ha4⟩ := ha
      rw [answered_reg _ _ _ _ _ ha4, hd _ ha3, h3 a (by simp [fmlErrRegs, ha1, ha2])]
      rfl
  · intro s r k e ht hk hm hv
    refine ⟨_, congrArg done (commit_replied ht hk (by decide)
      (commitNextBoot_invalid (s := s.endStaging k.toNat) hm hv)), ?_⟩
    obtain ⟨h1, h2, h3⟩ := showFmlErr_spec (s.endStaging k.toNat) e
    have h4 := rest_mgmt h1
    simp only
    generalize (s.endStaging k.toNat).showFmlErr e = x at h1 h2 h3 h4
    have hx : x.mgmt.flash = s.mgmt.flash := by rw [h4]; rfl
    have he := answered_reg x r (.formulaCommit k 1) { status := St.INVALID, detail := (x.reg Reg.MG_FML_ERR).toNat }
      Reg.MG_FML_ERR (apart_mgmt r (by decide))
    refine ⟨?_, (rd_of_reg he _).trans h2, (answered_keeps _ _ _ _).1.trans hx, fun a ha => ?_⟩
    · rw [he]
      exact answered_replies _ _ _ _
    · simp only [List.mem_cons, not_or] at ha
      obtain ⟨ha1, ha2, ha4⟩ := ha
      rw [answered_reg _ _ _ _ _ (by simpa using ha4), h3 a (by simp [fmlErrRegs, ha1, ha2])]
      rfl
  · intro s r k hq ht hk hm hr
    change Answers (done (s.mailbox r (.formulaCommit k 1))) _
    rw [commit_replied ht hk (by decide) (commitNextBoot_mode (s := s.endStaging k.toNat) hm hr)]
    exact turnsAway_of_endStaging hq
  · intro s r k f g ht hk hm hg hv hc ha hd
    obtain ⟨hh, -, -, -, -, hk', -⟩ := ha
    refine ⟨_, congrArg done (commit_replied ht hk (by decide)
      (commitLive_accepts (s := s.endStaging k.toNat) hm hg hv hc hk' hh hd)), ?_⟩
    obtain ⟨h1, h2, h3, h4, h5, h6⟩ := recomposing_spec (s.endStaging k.toNat) (affectedBy g f) f k.toNat rfl
    simp only
    generalize (((s.endStaging k.toNat).showFmlOk.recompose (affectedBy g f)).nextFormula f k.toNat).wr
      Reg.MG_FML_STATUS Fld.MG_FML_STATUS.PHASE 3 = x at h1 h2 h3 h4 h5 h6
    have hr := answered_reg x r (.formulaCommit k 0) { status := St.OK, detail := 0 }
    obtain ⟨a1, a2, -, -, a5, -⟩ := answered_keeps x r (.formulaCommit k 0) { status := St.OK, detail := 0 }
    refine ⟨answered_replies _ _ _ _, ⟨?_, ?_, ?_⟩, ?_, ?_, ?_, fun i hi => ?_, ?_⟩
    · exact (answered_calm _ _ _ _).2.1.trans h1.1
    · exact (rd_of_reg (hr _ (low_mgmt r (by decide))) _).trans h1.2.1
    · exact (rd_of_reg (hr _ (low_mgmt r (by decide))) _).trans h1.2.2
    · exact (rd_of_reg (hr _ (apart_mgmt r (by decide))) _).trans h2
    · rw [a5, h3]
    · rw [a5, h4]
      exact hg
    · rw [on_of_reg (hr _ (low_mgmt r (by unfold Reg.FL_STATUS; omega))), h5 i hi, affectedBy_contains g f i hi]
    · rw [a1, h6]
      rfl
  · intro s r k f g ht hk hm hg hv hc
    refine ⟨_, congrArg done (commit_replied ht hk (by decide)
      (commitLive_chipwide (s := s.endStaging k.toNat) hm hg hv hc)), ?_⟩
    obtain ⟨h1, h2, h3⟩ := showFmlOk_spec (s.endStaging k.toNat)
    have h5 := rest_fml h1
    simp only
    generalize (s.endStaging k.toNat).showFmlOk = x at h1 h2 h3 h5
    refine ⟨answered_replies _ _ _ _, ?_, ?_⟩
    · rw [(answered_calm _ _ _ _).2.1, md_of_reg (h3 _ (by decide))]
      exact hm
    · rw [(answered_keeps _ _ _ _).2.2.2.2.1, h5]
      rfl
  · intro s r k hq ht hk hm
    change Answers (done (s.mailbox r (.formulaCommit k 0))) _
    rw [commit_replied ht hk (by decide) (commitLive_mode (s := s.endStaging k.toNat) hm)]
    have hf := (answered_keeps (s.endStaging k.toNat) r (.formulaCommit k 0)
      { status := St.INVALID, detail := if (s.endStaging k.toNat).md = .recompose then 0x0702 else 0x0703 }).2.2.2.2.1
    refine answers_of_answered hq (endStaging_calm s _) fun l _ _ =>
      ⟨List.mem_append_right _ (answered_replies _ _ _ _), ?_, hf, fun a ha => answered_reg _ _ _ _ a ha⟩
    exact (answered_calm _ _ _ _).2.1
  · intro s r k ht hk hm hv
    have e : s.carryOut r (.fwCommit k) = _ := cmdFwCommit_accepts (v := r.v) hk hm hv
    refine ⟨_, congrArg done (mailbox_takes ht (fencesMet_nil fun n => by cases n <;> rfl)), ?_⟩
    rw [e]
    simp only
    have hd := putDirectory_reg (s.endStaging (2 + k.toNat)) fun d => { d with fwPending := k.toNat, fwPendingValid := true }
    obtain ⟨b1, b2, b3⟩ := flashed_keeps (putDirectory_rest (s.endStaging (2 + k.toNat))
      fun d => { d with fwPending := k.toNat, fwPendingValid := true })
    have hm : (s.endStaging (2 + k.toNat)).mgmt.flash = s.mgmt.flash := rfl
    rw [hm] at b1
    generalize ((s.endStaging (2 + k.toNat)).putDirectory fun d => { d with fwPending := k.toNat, fwPendingValid := true })
      = y at hd b1 b2 b3
    obtain ⟨a1, a2, -, -, a5, -⟩ := answered_keeps y r (.fwCommit k) {}
    refine ⟨answered_replies _ _ _ _, a1.trans b1, ?_, a5.trans b3, fun a ha => ?_⟩
    · rw [(answered_calm _ _ _ _).2.1, md_of_reg (hd _ (by decide))]
      rfl
    · simp only [List.mem_append, not_or] at ha
      exact (answered_reg _ _ _ _ _ ha.2).trans (hd _ ha.1)
  · intro s r k n hq ht hk hm hv
    have e : s.carryOut r (.fwCommit k) = _ := cmdFwCommit_invalid (v := r.v) hk hm hv
    change Answers (done (s.mailbox r (.fwCommit k))) _
    rw [mailbox_takes ht (fencesMet_nil fun n => by cases n <;> rfl), e]
    have hf := (answered_keeps (s.endStaging (2 + k.toNat)) r (.fwCommit k) { status := St.INVALID, detail := n }).1
    exact answers_of_answered hq (endStaging_calm s _) fun l _ _ =>
      ⟨List.mem_append_right _ (answered_replies _ _ _ _), hf, fun a ha => answered_reg _ _ _ _ a ha⟩

end Sys2Proof.Machine
end

section
/-!
LAW. Shapers and policers: what the wheel leaves of a shaper, what a refill leaves of a bucket.
-/
namespace Sys2Proof.Machine

theorem schedPort_modSched (s : State) (q : Nat) (g : SchedPort → SchedPort) : (s.modSched q g).schedPort q = g (s.schedPort q) := by
  simp [State.modSched, State.schedPort, tabMod, tabGet_tabPut]

/-- The shaper as its wheel leaves it: refilled, and in its next slot. -/
def Shaper.fired (x : Shaper) (beat : Nat) : Shaper := ({ (x.refill beat) with slot := none } : Shaper).place beat

theorem fired_cap (x : Shaper) (beat : Nat) : (x.fired beat).tokens ≤ (x.fired beat).cap := by
  unfold Shaper.fired Shaper.place
  split <;> exact min_le_right _ _

/-- The state in which the shaper of Flacon f at port q has fired, before lateness is counted. -/
def State.shaperFired (s : State) (q f : Nat) : State :=
  s.modSched q fun p => { p with shapers := tabPut p.shapers f ((s.shaper q f).fired s.beat) }

theorem fireShaper_eq (s : State) (q f : Nat) : s.fireShaper q f = if (s.shaper q f).slot != some s.beat then
    (s.shaperFired q f).inc (Reg.PT_SHAPE_LATE q) Fld.PT_SHAPE_LATE.LATE else s.shaperFired q f := rfl

theorem shaperFired_shaper (s : State) (q f : Nat) : (s.shaperFired q f).shaper q f = (s.shaper q f).fired s.beat :=
  (congrArg (fun p : SchedPort => tabGet p.shapers f {}) (schedPort_modSched s q _)).trans (by simp [tabGet_tabPut])

theorem fireShaper_rest (s : State) (q f : Nat) : (s.fireShaper q f).rest = (s.shaperFired q f).rest := by
  rw [fireShaper_eq]
  split
  · exact inc_rest _ _ _
  · rfl

theorem fireShaper_shaper (s : State) (q f : Nat) : (s.fireShaper q f).shaper q f = (s.shaper q f).fired s.beat := by
  rw [← shaperFired_shaper, eq_of_rest (fireShaper_rest s q f)]
  rfl

theorem fireShaper_reg (s : State) (q f a : Nat) (h : a ≠ Reg.PT_SHAPE_LATE q) : (s.fireShaper q f).reg a = s.reg a := by
  rw [fireShaper_eq]
  split
  · simp [h]; rfl
  · rfl

theorem fireShaper_calm (s : State) (q f : Nat) : (s.fireShaper q f).calm s := by
  have hr : ∀ a ∈ calmRegs, (s.fireShaper q f).reg a = s.reg a := fun a ha => fireShaper_reg s q f a (by
    simp only [calmRegs, List.mem_cons, List.not_mem_nil, or_false, Reg.CHIP_MODE, Reg.PC_SUPV_STATUS, Reg.MG_FML_STATUS] at ha
    simp only [Reg.PT_SHAPE_LATE]
    omega)
  refine ⟨?_, md_of_reg (hr _ (by decide)), hr _ (by decide), hr _ (by decide)⟩
  rw [eq_of_rest (fireShaper_rest s q f)]
  exact ⟨rfl, rfl, rfl, rfl, rfl, rfl⟩

theorem fireShaper_onTime {s : State} {q f : Nat} (h : (s.shaper q f).slot = some s.beat) (a : Nat) :
    (s.fireShaper q f).reg a = s.reg a := by
  rw [fireShaper_eq]; simp [h]; rfl

theorem fireShaper_late {s : State} {q f : Nat} (h : (s.shaper q f).slot ≠ some s.beat) :
    (s.fireShaper q f).rd (Reg.PT_SHAPE_LATE q) Fld.PT_SHAPE_LATE.LATE =
      min (2 ^ Fld.PT_SHAPE_LATE.LATE.width - 1) (s.rd (Reg.PT_SHAPE_LATE q) Fld.PT_SHAPE_LATE.LATE + 1) := by
  rw [fireShaper_eq]
  simp only [bne_iff_ne, ne_eq, h, not_false_eq_true, if_true]
  exact rd_addTo _ _ _ _ (by decide)

theorem tabGet_foldl_tabMod (p : Nat → Bool) (g : Nat → Nat) (L : List Nat) (hL : L.Nodup) (t : Tab Nat) (k : Nat) :
    tabGet (L.foldl (fun t f => if p f then tabMod t f 0 g else t) t) k 0 =
      if k ∈ L ∧ p k = true then g (tabGet t k 0) else tabGet t k 0 := by
  induction L generalizing t with
  | nil => simp
  | cons f L ih =>
    obtain ⟨hf, hL⟩ := List.nodup_cons.1 hL
    rw [List.foldl_cons, ih hL]
    by_cases hk : k = f
    · subst hk; by_cases hp : p k <;> simp [hf, hp, tabMod, tabGet_tabPut]
    · by_cases hp : p f <;> simp [hk, hp, tabMod, tabGet_tabPut]

/-- Settles O18: the wheel's fold fires the one shaper that is due; the refills map every bucket. -/
theorem shapersAndPolicers : Obligations.ShapersAndPolicers := by
  refine ⟨fun s q f hq hc _ hd => answers_clocked hc ?_, fun s hq hc hd => answers_clocked hc ?_,
    fun s hq hc => answers_clocked hc ?_, fun s hq hc => answers_clocked hc ?_⟩
  · have e : s.fireWheel = s.fireShaper q f := by simp [State.fireWheel, hd]
    rw [e]
    have hs := fireShaper_shaper s q f
    have hr := fireShaper_reg s q f
    have ho := fireShaper_onTime (s := s) (q := q) (f := f)
    have hl := fireShaper_late (s := s) (q := q) (f := f)
    have hcm : (s.fireShaper q f).calm s := fireShaper_calm s q f
    generalize s.fireShaper q f = u at *
    refine answers_of_calm hq hcm fun l a b => ⟨hs, ?_, fun h x _ => ho h x, hl, fun x hx => hr x (by simpa using hx)⟩
    exact (le_of_eq (congrArg Shaper.tokens hs)).trans ((fired_cap _ _).trans (le_of_eq (congrArg Shaper.cap hs.symm)))
  · have e : s.fireWheel = s := by simp [State.fireWheel, hd]
    rw [e]
    exact answers_of_calm hq ⟨⟨rfl, rfl, rfl, rfl, rfl, rfl⟩, rfl, rfl, rfl⟩ fun l a b => ⟨rfl, fun _ _ => rfl⟩
  · refine answers_of_calm hq ⟨⟨rfl, rfl, rfl, rfl, rfl, rfl⟩, rfl, rfl, rfl⟩ fun l a b => ⟨List.length_map _, ?_, ?_, ?_, fun _ _ => rfl⟩
    · intro e he hd r hr
      exact List.mem_map.2 ⟨e, he, by simp [State.topnoteDue, State.topnoteGain, hd, hr]⟩
    · intro e he hd
      exact List.mem_map.2 ⟨e, he, by simp [State.topnoteDue, Nat.not_le.2 hd]⟩
    · intro hn f hf
      exact (tabGet_foldl_tabMod s.topnoteDue (· + 100) s.flacons hn _ f).trans (by simp [hf, State.topnoteDue])
  · refine answers_of_calm hq ⟨⟨rfl, rfl, rfl, rfl, rfl, rfl⟩, rfl, rfl, rfl⟩ fun l a b => ⟨List.length_map _, ?_, fun _ _ => rfl⟩
    exact fun e he => List.mem_map.2 ⟨e, he, rfl⟩

end Sys2Proof.Machine
end

section
/-!
LAW. Notices of the fence bus (R18, R20): a fence and an unfence of a plane, and containment where the home array holds nothing.
-/
namespace Sys2Proof.Machine

/-! ### A field changed at several registers -/

/-- Field F of the registers R i changed by g. -/
def State.sweepBy (s : State) (R : Nat → Nat) (F : Fld) (g : Nat → Nat) (L : List Nat) : State :=
  L.foldl (fun t i => t.wr (R i) F (g (t.rd (R i) F))) s

theorem sweepBy_rest (s : State) (R : Nat → Nat) (F : Fld) (g : Nat → Nat) (L : List Nat) : (s.sweepBy R F g L).rest = s.rest := by
  unfold State.sweepBy
  rw [foldl_keep State.rest]
  exact fun t i => wr_rest _ _ _ _

theorem sweepBy_reg {R : Nat → Nat} {F : Fld} {g : Nat → Nat} {L : List Nat} {a : Nat} (h : ∀ i ∈ L, a ≠ R i) (s : State) :
    (s.sweepBy R F g L).reg a = s.reg a := by
  unfold State.sweepBy
  induction L generalizing s with
  | nil => rfl
  | cons i L ih =>
    rw [List.foldl_cons, ih fun k hk => h k (List.mem_cons_of_mem _ hk)]
    exact reg_setReg_ne _ _ _ _ (h i (List.mem_cons_self ..))

theorem sweepBy_rd {R : Nat → Nat} {F : Fld} {g : Nat → Nat} {L : List Nat} (hF : F.lo + F.width ≤ 64)
    (hR : ∀ i j, R i = R j → i = j) (hL : L.Nodup) (s : State) {i : Nat} (hi : i ∈ L) :
    (s.sweepBy R F g L).rd (R i) F = g (s.rd (R i) F) % 2 ^ F.width := by
  unfold State.sweepBy
  induction L generalizing s with
  | nil => exact absurd hi (by simp)
  | cons k L ih =>
    obtain ⟨hk, hL⟩ := List.nodup_cons.1 hL
    rw [List.foldl_cons]
    rcases List.mem_cons.1 hi with rfl | hm
    · have e := sweepBy_reg (F := F) (g := g) (fun j hj e => hk (hR i j e ▸ hj)) (s.wr (R i) F (g (s.rd (R i) F)))
      exact (rd_of_reg e F).trans (rd_wr _ _ _ _ hF)
    · rw [ih hL _ hm]
      have e : (s.wr (R k) F (g (s.rd (R k) F))).reg (R i) = s.reg (R i) :=
        reg_setReg_ne _ _ _ _ fun e => hk (hR i k e ▸ hm)
      rw [rd_of_reg e]

/-! ### Plane fences -/

theorem TL_SPRAY_inj (i j : Nat) (h : Reg.TL_SPRAY i = Reg.TL_SPRAY j) : i = j := by
  simp only [Reg.TL_SPRAY] at h; omega

/-- Plane n taken out of, or back into, the spray of every tile. -/
def State.sprayBy (s : State) (g : Nat → Nat) : State := s.sweepBy Reg.TL_SPRAY Fld.TL_SPRAY.ACTIVE g (List.range 64)

theorem sprayBy_rd (s : State) (g : Nat → Nat) {i : Nat} (hi : i < 64) : (s.sprayBy g).rd (Reg.TL_SPRAY i) Fld.TL_SPRAY.ACTIVE =
    g (s.rd (Reg.TL_SPRAY i) Fld.TL_SPRAY.ACTIVE) % 2 ^ Fld.TL_SPRAY.ACTIVE.width :=
  sweepBy_rd (by decide) TL_SPRAY_inj List.nodup_range s (List.mem_range.2 hi)

theorem sprayBy_reg (s : State) (g : Nat → Nat) (a : Nat) (h : a < 0x1000000 ∨ 0x2000000 ≤ a) : (s.sprayBy g).reg a = s.reg a := by
  refine sweepBy_reg (fun i hi => ?_) s
  have := List.mem_range.1 hi
  simp only [Reg.TL_SPRAY]; omega

theorem testBit_clrBitAt (m n : Nat) : (clrBitAt m n).testBit n = false := by
  unfold clrBitAt
  split
  case isTrue h => simpa [Nat.and_two_pow, h] using testBit_sub_and m (2 ^ n) n
  case isFalse h => simpa using h

theorem sprayBy_off (s : State) {n i : Nat} (hi : i < 64) :
    ((s.sprayBy fun x => clrBitAt x n).rd (Reg.TL_SPRAY i) Fld.TL_SPRAY.ACTIVE).testBit n = false := by
  rw [sprayBy_rd s _ hi, Nat.testBit_mod_two_pow, testBit_clrBitAt, Bool.and_false]

theorem sprayBy_on (s : State) {n i : Nat} (hn : n < 8) (hi : i < 64) :
    ((s.sprayBy fun x => setBitAt x n).rd (Reg.TL_SPRAY i) Fld.TL_SPRAY.ACTIVE).testBit n = true := by
  rw [sprayBy_rd s _ hi, Nat.testBit_mod_two_pow, setBitAt, Nat.testBit_or, Nat.testBit_two_pow_self, Bool.or_true, Bool.and_true]
  exact decide_eq_true hn

/-- The destinations to which the sources have sent on plane n, and so the DRAIN cells that its fence awaits. -/
def State.drainDests (s : State) (n : Nat) : List (Nat × Nat) :=
  (List.range 128).flatMap fun src => (tabGet s.core.sent (n * 128 + src) []).map fun u => (src, u)

/-- The planes on which a fence of plane n sends its DRAIN cells. -/
def State.drainPlanes (s : State) (n : Nat) (f : PlaneFence) : List Nat :=
  if f.fault then s.activePlanes.filter (· != n) else s.activePlanes

/-- The fence of plane n once the sources have its notice. -/
def State.fenceNoticed (s : State) (n : Nat) (f : PlaneFence) : PlaneFence :=
  { f with noticed := true, stopped := true, planes := (s.drainPlanes n f).foldl setBitAt 0,
           waits := (s.drainDests n).map fun d => { src := d.1, unit := d.2 } }

/-- The DRAIN cells of a fence sent. -/
def State.drainsSent (s : State) (n : Nat) (f : PlaneFence) : State :=
  (s.drainDests n).foldl (fun t d =>
    (s.drainPlanes n f).foldl (fun u p => u.putFlight (flightKey p d.1 d.2) (u.flightOf (flightKey p d.1 d.2) ++
      [.drain { plane := n, fault := f.fault, high := s.highOn n d.1 d.2 }])) t) s

theorem drainsSent_eq (s : State) (n : Nat) (f : PlaneFence) : ∃ l, s.drainsSent n f = { s with core := { s.core with flight := l } } := by
  have inner (d : Nat × Nat) (L : List Nat) (t : State) : ∃ l, L.foldl (fun u p => u.putFlight (flightKey p d.1 d.2)
      (u.flightOf (flightKey p d.1 d.2) ++ [.drain { plane := n, fault := f.fault, high := s.highOn n d.1 d.2 }])) t =
        { t with core := { t.core with flight := l } } := by
    induction L generalizing t with
    | nil => exact ⟨_, rfl⟩
    | cons p L ih =>
      obtain ⟨l, e⟩ := ih (t.putFlight (flightKey p d.1 d.2)
        (t.flightOf (flightKey p d.1 d.2) ++ [.drain { plane := n, fault := f.fault, high := s.highOn n d.1 d.2 }]))
      exact ⟨l, e⟩
  have outer (D : List (Nat × Nat)) (t : State) : ∃ l, D.foldl (fun t d => (s.drainPlanes n f).foldl (fun u p =>
      u.putFlight (flightKey p d.1 d.2) (u.flightOf (flightKey p d.1 d.2) ++
        [.drain { plane := n, fault := f.fault, high := s.highOn n d.1 d.2 }])) t) t = { t with core := { t.core with flight := l } } := by
    induction D generalizing t with
    | nil => exact ⟨_, rfl⟩
    | cons d D ih =>
      obtain ⟨l, e⟩ := inner d (s.drainPlanes n f) t
      rw [List.foldl_cons, e]
      exact ih _
  exact outer _ s

theorem applyFencePlane_stands {s : State} {n : Nat} {f : PlaneFence} (h : tabFind s.core.fences n = some f)
    (hn : f.noticed = false) (hl : f.lifted = false) : s.applyFencePlane n =
      (((s.drainsSent n f).sprayBy fun x => clrBitAt x n).putFence n (s.fenceNoticed n f)).fenceDrained n (s.fenceNoticed n f) := by
  have hs : s.fenceStands n = true := by simp [State.fenceStands, h, hl]
  unfold State.applyFencePlane
  simp only [hs, if_true, h, hn, Bool.false_eq_true, if_false]
  rfl

/-- What an end of the DRAIN exchange leaves of a fence that stands. -/
theorem fenceDrained_stands {s : State} {n : Nat} {f : PlaneFence} (h : tabFind s.core.fences n = some f) (hl : f.lifted = false) :
    (∃ g, tabFind (s.fenceDrained n f).core.fences n = some g ∧ g.noticed = f.noticed ∧ g.fault = f.fault) ∧
    (s.fenceDrained n f).flt.notices = s.flt.notices ∧
    (∀ a, a ≠ Reg.XB_STATUS n → (s.fenceDrained n f).reg a = s.reg a) ∧
    (s.fenceDrained n f).on (Reg.XB_STATUS n) Fld.XB_STATUS.FENCED = s.on (Reg.XB_STATUS n) Fld.XB_STATUS.FENCED := by
  unfold State.fenceDrained
  simp only [hl, Bool.false_eq_true, if_false]
  by_cases hd : (f.noticed && f.waits.all fun w => w.got == f.planes) = true
  · rw [if_pos hd]
    by_cases hf : f.fault = true ∧ f.skipped = 0 ∧ (!f.raised) = true
    · rw [if_pos hf]
      refine ⟨⟨_, (tabFind_tabPut _ _ _ _).trans (if_pos rfl), rfl, rfl⟩, rfl, fun a ha => ?_, ?_⟩
      · simp [State.putFence, ha]
      · simp +decide [State.putFence]
    · rw [if_neg hf]
      exact ⟨⟨f, h, rfl, rfl⟩, rfl, fun a ha => by simp [ha], by simp +decide⟩
  · rw [if_neg hd]
    exact ⟨⟨f, h, rfl, rfl⟩, rfl, fun _ _ => rfl, rfl⟩

theorem rest_flt {t s : State} (h : t.rest = s.rest) : t.flt = s.flt := by
  have e := congrArg State.flt h
  exact e

theorem putFence_reg (s : State) (n : Nat) (f : PlaneFence) (a : Nat) : (s.putFence n f).reg a = s.reg a := (rfl)
theorem putFence_flt (s : State) (n : Nat) (f : PlaneFence) : (s.putFence n f).flt = s.flt := (rfl)

theorem drainsSent_reg (s : State) (n : Nat) (f : PlaneFence) (a : Nat) : (s.drainsSent n f).reg a = s.reg a := by
  obtain ⟨l, e⟩ := drainsSent_eq s n f
  rw [e, reg_mk]; rfl

theorem drainsSent_flt (s : State) (n : Nat) (f : PlaneFence) : (s.drainsSent n f).flt = s.flt := by
  obtain ⟨l, e⟩ := drainsSent_eq s n f
  rw [e]

/-- What a fence notice leaves of a plane whose fence stands. -/
theorem applyFencePlane_spec {s : State} {n : Nat} {f : PlaneFence} (hn : n < 8) (h : tabFind s.core.fences n = some f)
    (hf : f.noticed = false) (hl : f.lifted = false) :
    (∃ g, tabFind (s.applyFencePlane n).core.fences n = some g ∧ g.noticed = true ∧ g.fault = f.fault) ∧
    (∀ i < 64, ((s.applyFencePlane n).rd (Reg.TL_SPRAY i) Fld.TL_SPRAY.ACTIVE).testBit n = false) ∧
    (s.applyFencePlane n).flt.notices = s.flt.notices ∧
    (s.applyFencePlane n).on (Reg.XB_STATUS n) Fld.XB_STATUS.FENCED = s.on (Reg.XB_STATUS n) Fld.XB_STATUS.FENCED := by
  rw [applyFencePlane_stands h hf hl]
  have hr : ((s.drainsSent n f).sprayBy fun x => clrBitAt x n).flt = (s.drainsSent n f).flt := rest_flt (sweepBy_rest ..)
  have hoff := fun i (hi : i < 64) => sprayBy_off (s.drainsSent n f) (n := n) hi
  have hout := sprayBy_reg (s.drainsSent n f) (fun x => clrBitAt x n)
  generalize (s.drainsSent n f).sprayBy (fun x => clrBitAt x n) = u at *
  obtain ⟨hg, hx, hz, hw⟩ := fenceDrained_stands (s := u.putFence n (s.fenceNoticed n f)) (n := n) (f := s.fenceNoticed n f)
    ((tabFind_tabPut _ _ _ _).trans (if_pos rfl)) hl
  refine ⟨hg, fun i hi => ?_, hx.trans ?_, hw.trans (on_of_reg ?_ _)⟩
  · rw [rd_of_reg ((hz _ (by simp only [Reg.TL_SPRAY, Reg.XB_STATUS]; omega)).trans (putFence_reg u _ _ _))]
    exact hoff i hi
  · rw [putFence_flt, hr, drainsSent_flt]
  · rw [putFence_reg, hout _ (by simp only [Reg.XB_STATUS]; omega), drainsSent_reg]

/-- Plane n with a requested fence and no notice of it. -/
def State.fenceBegun (s : State) (n : Nat) : State := (s.beginFence n false).dropFenceNotice n

theorem applyFencePlane_new {s : State} {n : Nat} (h : tabFind s.core.fences n = none)
    (hg : (s.fenceBegun n).fenceStands n = true) : s.applyFencePlane n = (s.fenceBegun n).applyFencePlane n := by
  have hs : s.fenceStands n = false := by simp [State.fenceStands, h]
  unfold State.applyFencePlane
  simp only [hs, hg, Bool.false_eq_true, if_false, if_true]
  rfl

theorem dropFenceNotice_reg (s : State) (n a : Nat) : (s.dropFenceNotice n).reg a = s.reg a := by
  unfold State.dropFenceNotice; split <;> rfl

theorem dropFenceNotice_core (s : State) (n : Nat) : (s.dropFenceNotice n).core = s.core := by
  unfold State.dropFenceNotice; split <;> rfl

theorem dropFenceNotice_notices (s : State) (n : PlaneIx) : Notice.fencePlane n ∉ (s.dropFenceNotice n.val).flt.notices := by
  simp [State.dropFenceNotice, State.takeNotice]

theorem beginFence_fences (s : State) (n : Nat) (b : Bool) :
    tabFind (s.beginFence n b).core.fences n = some { fault := b, stopped := s.planeStopped n } := by
  unfold State.beginFence
  split
  · rw [(notify_eq _ _).choose_spec]
    simp [State.putFence, tabFind_tabPut]
  · simp [State.putFence, tabFind_tabPut]

theorem beginFence_fenced (s : State) (n : Nat) (b : Bool) : (s.beginFence n b).on (Reg.XB_STATUS n) Fld.XB_STATUS.FENCED = true := by
  have h : ∀ t : State, t.reg (Reg.XB_STATUS n) = (((((s.putFence n { fault := b, stopped := s.planeStopped n }).set1 (Reg.XB_CTL n)
      Fld.XB_CTL.FENCE_REQ).set1 (Reg.XB_STATUS n) Fld.XB_STATUS.FENCED).wrB (Reg.XB_STATUS n) Fld.XB_STATUS.FAULT_FENCE b).set0
      (Reg.XB_STATUS n) Fld.XB_STATUS.DRAINED).reg (Reg.XB_STATUS n) → t.on (Reg.XB_STATUS n) Fld.XB_STATUS.FENCED = true := fun t ht => by
    rw [on_of_reg ht]; simp +decide
  unfold State.beginFence
  split
  · exact h _ (notify_reg _ _ _)
  · exact h _ rfl

/-- The crosspoint's own state once the notice of plane n's unfence has come. -/
def State.unfencedCore (s : State) (n : Nat) : CoreState := { s.core with
  fences := match tabFind s.core.fences n with
    | some f => if f.noticed && !f.waits.all fun w => w.got == f.planes then
        tabPut s.core.fences n { f with lifted := true, stopped := false } else tabDel s.core.fences n
    | none => s.core.fences
  sent := s.core.sent.filter fun e => decide (e.1 / 128 ≠ n) }

theorem applyUnfencePlane_eq (s : State) (n : Nat) : s.applyUnfencePlane n =
    ((((({ s with core := s.unfencedCore n } : State).sprayBy fun x => setBitAt x n).set0 (Reg.XB_CTL n)
      Fld.XB_CTL.FENCE_REQ).set0 (Reg.XB_STATUS n) Fld.XB_STATUS.FENCED).set0 (Reg.XB_STATUS n) Fld.XB_STATUS.FAULT_FENCE).set0
      (Reg.XB_STATUS n) Fld.XB_STATUS.DRAINED := by
  unfold State.applyUnfencePlane State.sprayBy State.sweepBy State.unfencedCore
  simp only [setBitOf_eq] <;> rfl

theorem rest_core {t s : State} (h : t.rest = s.rest) : t.core = s.core := by
  have e := congrArg State.core h
  exact e

/-- What the unfence notice leaves of a plane. -/
theorem applyUnfencePlane_spec (s : State) {n : Nat} (hn : n < 8) : (s.applyUnfencePlane n).calm s ∧
    (∀ i < 64, ((s.applyUnfencePlane n).rd (Reg.TL_SPRAY i) Fld.TL_SPRAY.ACTIVE).testBit n = true) ∧
    (s.applyUnfencePlane n).on (Reg.XB_STATUS n) Fld.XB_STATUS.FENCED = false ∧
    (s.applyUnfencePlane n).on (Reg.XB_STATUS n) Fld.XB_STATUS.DRAINED = false ∧
    (s.applyUnfencePlane n).flt = s.flt ∧
    (s.applyUnfencePlane n).core.fences = match tabFind s.core.fences n with
      | some f => if f.noticed && !f.waits.all fun w => w.got == f.planes then
          tabPut s.core.fences n { f with lifted := true, stopped := false } else tabDel s.core.fences n
      | none => s.core.fences := by
  have e := applyUnfencePlane_eq s n
  have ht : (s.unfencedCore n).tags = s.core.tags := rfl
  have hk : (s.unfencedCore n).fences = match tabFind s.core.fences n with
      | some f => if f.noticed && !f.waits.all fun w => w.got == f.planes then
          tabPut s.core.fences n { f with lifted := true, stopped := false } else tabDel s.core.fences n
      | none => s.core.fences := rfl
  generalize s.unfencedCore n = k at *
  have hr : (({ s with core := k } : State).sprayBy fun x => setBitAt x n).rest = ({ s with core := k } : State).rest := sweepBy_rest ..
  have hon := fun i (hi : i < 64) => sprayBy_on ({ s with core := k } : State) hn hi
  have hout := sprayBy_reg ({ s with core := k } : State) (fun x => setBitAt x n)
  rw [e]
  generalize ({ s with core := k } : State).sprayBy (fun x => setBitAt x n) = u at *
  have hx : Reg.XB_CTL n ≠ Reg.XB_STATUS n := by simp only [Reg.XB_CTL, Reg.XB_STATUS]; omega
  have hz : ∀ a, (a < 0x1000000 ∨ 0x3000000 ≤ a) → ((((u.set0 (Reg.XB_CTL n) Fld.XB_CTL.FENCE_REQ).set0 (Reg.XB_STATUS n)
      Fld.XB_STATUS.FENCED).set0 (Reg.XB_STATUS n) Fld.XB_STATUS.FAULT_FENCE).set0 (Reg.XB_STATUS n) Fld.XB_STATUS.DRAINED).reg a = s.reg a := by
    intro a ha
    have h1 : a ≠ Reg.XB_CTL n := by simp only [Reg.XB_CTL]; omega
    have h2 : a ≠ Reg.XB_STATUS n := by simp only [Reg.XB_STATUS]; omega
    have h3 : u.reg a = s.reg a := hout a (by omega)
    simp [h1, h2, h3]
  refine ⟨⟨?_, md_of_reg (hz _ (by decide)), hz _ (by decide), hz _ (by decide)⟩, fun i hi => ?_, ?_, ?_, (rest_flt hr).trans rfl,
    (congrArg CoreState.fences (rest_core hr)).trans hk⟩
  · simp only [set0_flt, set0_mirrorOut, set0_gpf, set0_pwr, set0_acd, set0_core]
    rw [eq_of_rest hr]
    exact ⟨rfl, rfl, rfl, rfl, rfl, ht⟩
  · have h1 : Reg.TL_SPRAY i ≠ Reg.XB_CTL n := by simp only [Reg.XB_CTL, Reg.TL_SPRAY]; omega
    have h2 : Reg.TL_SPRAY i ≠ Reg.XB_STATUS n := by simp only [Reg.XB_STATUS, Reg.TL_SPRAY]; omega
    have := hon i hi
    simpa [h1, h2] using this
  · simp +decide
  · simp +decide

/-! ### Containment where the home array holds nothing -/

theorem noticeArrives_alone {s : State} {n : Notice} (h : s.noticesBelow (noticeCode n) = []) :
    s.noticeArrives n = (s.takeNotice n).applyNotice n := by
  unfold State.noticeArrives
  rw [h]
  rfl

theorem flushQueues_none {s : State} (h : s.core.queues = []) (p : Nat → Nat → Bool) : s.flushQueues p = s := by
  unfold State.flushQueues
  rw [h]
  rfl

theorem endWaiting_none {s : State} (hw : s.core.wait = []) (hp : s.core.pack = []) (p : Msg → Bool) : s.endWaiting p = s := by
  have e : ({ s with core := { s.core with wait := [], pack := [] } } : State) = s := by rw [← hw, ← hp]
  unfold State.endWaiting
  simp only [hw, hp, List.flatMap_nil, List.map_nil, List.filter_nil, List.foldl_nil]
  exact e

theorem orphanGates_none {s : State} (h : s.core.gate = []) (p : Nat → Cell → Bool) : s.orphanGates p = s := by
  unfold State.orphanGates
  rw [h]
  rfl

theorem gatesSliceLost_none {s : State} (h : s.core.gate = []) (n : Nat) : s.gatesSliceLost n = s := by
  unfold State.gatesSliceLost
  rw [h]
  rfl

theorem accordSliceLost_none {s : State} (ht : s.acd.trk = []) (hs : s.acd.seals = []) (n : Nat) : s.accordSliceLost n = s := by
  unfold State.accordSliceLost
  simp only [abortAll_none ht, ht, hs, List.foldl_nil]

theorem containSlice_empty {s : State} {n : Nat} (h : s.arrayEmpty) (hn : n ∉ s.acc.fencedSlices) : s.containSlice n =
    ({ s with acc := { s.acc with fencedSlices := s.acc.fencedSlices ++ [n] } } : State).raise (srcSlice n 4) none := by
  obtain ⟨hh, hq, hw, hp, hg, ht, hs⟩ := h
  unfold State.containSlice
  simp only [List.contains_iff_mem, hn, if_false]
  rw [gatesSliceLost_none (by exact hg), accordSliceLost_none (by exact ht) (by exact hs), runSlices_none (by exact hh)]

theorem containSlice_again {s : State} {n : Nat} (hn : n ∈ s.acc.fencedSlices) : s.containSlice n = s := by
  simp [State.containSlice, hn]

theorem containTile_empty {s : State} {n : Nat} (h : s.home = []) (hn : n ∉ s.acc.fencedTiles) : s.containTile n =
    ({ s with acc := { s.acc with fencedTiles := s.acc.fencedTiles ++ [n] } } : State) := by
  unfold State.containTile
  rw [if_neg (by simpa using hn)]
  exact (congrArg (fun l => State.runSlices (List.foldl _ _ l)) h).trans (runSlices_none (by exact h))

/-- The state in which Flacon f is fenced and shown so. -/
def State.flaconFenced (s : State) (f : Nat) : State :=
  ({ s with acc := { s.acc with fencedFlacons := s.acc.fencedFlacons ++ [f] } } : State).set1 (Reg.FL_STATUS f) Fld.FL_STATUS.FENCED

theorem containFlacon_empty {s : State} {f : Nat} (h : s.arrayEmpty) (hf : f ∉ s.acc.fencedFlacons) : s.containFlacon f =
    ((s.flaconFenced f).cancelJobs (fun j => j.flacon == f) 3).runSlices := by
  obtain ⟨hh, hq, hw, hp, hg, ht, hs⟩ := h
  unfold State.containFlacon
  simp only [List.contains_iff_mem, hf, if_false]
  rw [flushQueues_none (by exact hq), endWaiting_none (by exact hw) (by exact hp), orphanGates_none (by exact hg), abortAll_none (by exact ht)]
  exact congrArg (fun l : Tab SliceState => (((l.map (·.1)).foldl (fun t n => t.failSlice n f) (s.flaconFenced f)).cancelJobs
    (fun j => j.flacon == f) 3).runSlices) hh

theorem containFlacon_again {s : State} {f : Nat} (hf : f ∈ s.acc.fencedFlacons) : s.containFlacon f = s := by
  simp [State.containFlacon, hf]

theorem abandonPorts_none {s : State} (h : s.noRetune) (p : PortRec → Bool) : s.abandonPorts p = s := by
  unfold State.abandonPorts
  generalize s.ports.filter p = L
  have inner (M : List Nat) : M.foldl (fun u l => if (u.laneSt l).level ≠ 0 ∨ (u.laneSt l).waiting.isSome then u.abandonRetune l else u) s = s := by
    induction M with
    | nil => rfl
    | cons l M ih =>
      obtain ⟨h1, h2⟩ := h l
      rw [List.foldl_cons, if_neg (by simp [h1, h2]), ih]
  induction L with
  | nil => rfl
  | cons r L ih => rw [List.foldl_cons, inner, ih]

/-- The one job of Flacon f, stopped by its fence. -/
def DecantJob.fenced (x : DecantJob) : DecantJob := { x with st := 4, cause := 3, flight := [], retry := false }

theorem cancelJobs_one {s : State} {j f : Nat} {x : DecantJob} (h : s.decant = [(j, x)]) (hx : x.st = 1) (hl : x.flight = [])
    (hf : x.flacon = f) : s.cancelJobs (fun j => j.flacon == f) 3 = ((s.putJob j x.fenced).showJob j).raise Src.DC_CANCELLED (some f) := by
  subst hf
  have hj : s.job j = some x := by simp [State.job, h, tabFind]
  have hr : x.running = true := by simp [DecantJob.running, hx]
  have hk : tabKeys s.decant (fun y => y.running && y.flacon == x.flacon) = [j] := by simp [tabKeys, h, hr]
  have hb : s.holdBack x = s := by simp [State.holdBack, hx]
  have hc : s.clearsNow x = false := by simp [State.clearsNow, hx]
  unfold State.cancelJobs
  rw [hk]
  change s.cancelJob j 3 = _
  unfold State.cancelJob
  simp only [hj, hr, hc, hb, hl, Bool.not_true, Bool.false_eq_true, if_false, false_and, List.foldl_nil]
  rfl

/-- The same as wr_rest, to rewrite with under many writes. -/
theorem rest_wr (s : State) (a : Nat) (f : Fld) (x : Nat) : (s.wr a f x).rest = s.rest := (wr_rest s a f x)

/-- The registers of Decant job j. -/
def jobRegs (j : Nat) : List Nat := [Reg.DC_JOB_STATE j, Reg.DC_JOB_CFG j, Reg.DC_JOB_PTR j, Reg.DC_STATUS]

theorem showJob_rest (s : State) (j : Nat) : (s.showJob j).rest = s.rest := by
  unfold State.showJob
  split
  · rfl
  · simp only [rest_wr]

theorem showJob_reg (s : State) (j a : Nat) (h : a ∉ jobRegs j) : (s.showJob j).reg a = s.reg a := by
  simp only [jobRegs, List.mem_cons, List.not_mem_nil, or_false, not_or] at h
  obtain ⟨h1, h2, h3, h4⟩ := h
  unfold State.showJob
  split
  · rfl
  · simp [h1, h2, h3, h4]

theorem sweepSet_on {R : Nat → Nat} {F : Fld} (hF : F.lo + F.width ≤ 64) (hw : 0 < F.width) (hR : ∀ i j, R i = R j → i = j)
    (L : List PortRec) (s : State) {p : PortRec} (hp : p ∈ L) : (L.foldl (fun t p => t.set1 (R p.port) F) s).on (R p.port) F = true := by
  have e : L.foldl (fun t p => t.set1 (R p.port) F) s = (L.map (·.port)).foldl (fun t i => t.wrB (R i) F true) s := by
    rw [List.foldl_map]; rfl
  rw [e]
  exact sweep_on R F hF hw (fun _ => true) hR _ s _ (List.mem_map.2 ⟨p, hp, rfl⟩)

theorem sweepSet_reg {R : Nat → Nat} {F : Fld} (L : List PortRec) (s : State) (a : Nat) (h : ∀ p ∈ L, a ≠ R p.port) :
    (L.foldl (fun t p => t.set1 (R p.port) F) s).reg a = s.reg a := by
  induction L generalizing s with
  | nil => rfl
  | cons p L ih =>
    rw [List.foldl_cons, ih _ fun k hk => h k (List.mem_cons_of_mem _ hk)]
    exact reg_setReg_ne _ _ _ _ (h p (List.mem_cons_self ..))

theorem sweepSet_rest (R : Nat → Nat) (F : Fld) (L : List PortRec) (s : State) :
    (L.foldl (fun t p => t.set1 (R p.port) F) s).rest = s.rest := by
  rw [foldl_keep State.rest]
  exact fun t i => set1_rest _ _ _

/-- Containment in force for the whole chip. -/
def State.containedNow (s : State) : State := { s with acc := { s.acc with contained := true } }

/-- Every CXL port in viral. -/
def State.allViral (s : State) : State :=
  (s.ports.filter fun p => p.protocol == .cxl).foldl (fun t p => t.set1 (Reg.PT_STD_STATUS p.port) Fld.PT_STD_STATUS.VIRAL_TX) s

theorem allViral_rest (s : State) : s.allViral.rest = s.rest := sweepSet_rest Reg.PT_STD_STATUS _ _ s

theorem containAll_empty {s : State} (h : s.arrayEmpty) (hd : s.decant = []) (hc : s.acc.contained = false) :
    s.containAll = s.containedNow.allViral := by
  obtain ⟨hh, hq, hw, hp, hg, ht, hs⟩ := h
  have hr := allViral_rest s.containedNow
  have e : s.containAll = s.containedNow.allViral.runSlices := by
    unfold State.containAll
    rw [if_neg (by simp [hc])]
    have hm : s.home.map (·.1) = [] := by rw [hh]; rfl
    simp only [hm, List.foldl_nil, List.flatMap_nil]
    rw [abortAll_none (by exact ht), flushQueues_none (by exact hq), endWaiting_none (by exact hw) (by exact hp),
      orphanGates_none (by exact hg), cancelJobs_none (by exact hd)]
    rfl
  rw [e]
  refine runSlices_none ?_
  exact (congrArg State.home hr).trans hh

theorem allViral_reg (s : State) (a : Nat) (h : ∀ p ∈ s.ports, a ≠ Reg.PT_STD_STATUS p.port) : s.allViral.reg a = s.reg a :=
  sweepSet_reg _ s a fun p hp => h p (List.mem_filter.1 hp).1

theorem PT_STD_STATUS_inj (i j : Nat) (h : Reg.PT_STD_STATUS i = Reg.PT_STD_STATUS j) : i = j := by
  simp only [Reg.PT_STD_STATUS] at h; omega

theorem stopTests_none {s : State} (h : ∀ l < 512, s.stage l ≠ Stage.TEST) : s.stopTests = s := by
  have e : s.lanesWith Reg.LN_STATUS (fun w => getFld w Fld.LN_STATUS.STAGE == Stage.TEST) = [] := by
    unfold State.lanesWith
    rw [List.filter_eq_nil_iff]
    intro l hl
    have := h l (List.mem_range.1 hl)
    unfold State.stage State.rd State.reg regGet tabGet at this
    cases hf : tabFind s.regs (Reg.LN_STATUS l) with
    | none => simp
    | some w => simpa [hf] using this
  unfold State.stopTests
  rw [e]
  rfl

theorem takeNotice_not_mem (s : State) (n : Notice) : n ∉ (s.takeNotice n).flt.notices := by simp [State.takeNotice]

theorem hasRaised_raise_on (s : State) (n : Nat) (f : FlaconIx) : (s.raise n (some f.val)).hasRaised n (some f) := by
  refine ⟨{ source := n, flacon := some f, info := {} }, ?_, rfl, rfl⟩
  simp [State.raise, State.raiseAt]

theorem takeNotice_calm (s : State) (n : Notice) : (s.takeNotice n).calm s :=
  ⟨⟨rfl, rfl, rfl, rfl, rfl, rfl⟩, rfl, rfl, rfl⟩

theorem takeNotice_empty {s : State} (h : s.arrayEmpty) (n : Notice) : (s.takeNotice n).arrayEmpty := h

theorem takeNotice_noRetune {s : State} (h : s.noRetune) (n : Notice) : (s.takeNotice n).noRetune := h

theorem noRetune_of_lane {t s : State} (h : s.noRetune) (e : t.lane = s.lane) : t.noRetune := by
  unfold State.noRetune State.laneSt at *
  rw [e]
  exact h

theorem rest_lane {t s : State} (h : t.rest = s.rest) : t.lane = s.lane := by
  have e := congrArg State.lane h
  exact e

theorem rest_acc {t s : State} (h : t.rest = s.rest) : t.acc = s.acc := by
  have e := congrArg State.acc h
  exact e

theorem rest_decant {t s : State} (h : t.rest = s.rest) : t.decant = s.decant := by
  have e := congrArg State.decant h
  exact e

theorem rest_home {t s : State} (h : t.rest = s.rest) : t.home = s.home := by
  have e := congrArg State.home h
  exact e

theorem fenceFlacon_job {s : State} {f : FlaconIx} {j : Nat} {x : DecantJob} (h : s.arrayEmpty) (hn : s.noRetune)
    (hd : s.decant = [(j, x)]) (hx : x.st = 1) (hl : x.flight = []) (hf : x.flacon = f.val) (hc : f.val ∉ s.acc.fencedFlacons) :
    s.applyNotice (.fenceFlacon f) = (((s.flaconFenced f).putJob j x.fenced).showJob j).raise Src.DC_CANCELLED (some f.val) := by
  have hr := showJob_rest ((s.flaconFenced f).putJob j x.fenced) j
  have e : s.containFlacon f.val = (((s.flaconFenced f).putJob j x.fenced).showJob j).raise Src.DC_CANCELLED (some f.val) := by
    rw [containFlacon_empty h hc, cancelJobs_one (s := s.flaconFenced f) (f := f.val) hd hx hl hf]
    exact runSlices_none ((rest_home hr).trans h.1)
  change (s.containFlacon f.val).abandonPorts _ = _
  rw [e]
  exact abandonPorts_none (noRetune_of_lane hn ((raise_lane _ _ _).trans ((rest_lane hr).trans rfl))) _

theorem quarantine_empty {s : State} (h : s.arrayEmpty) (hn : s.noRetune) (hd : s.decant = []) (hc : s.acc.contained = false)
    (ht : ∀ l < 512, s.stage l ≠ Stage.TEST) :
    s.applyNotice .quarantine = s.containedNow.allViral := by
  have hr := allViral_rest s.containedNow
  change ((s.containAll.abandonPorts fun _ => true).stopTests) = _
  rw [containAll_empty h hd hc, abandonPorts_none (noRetune_of_lane hn ((rest_lane hr).trans rfl))]
  refine stopTests_none fun l hl => ?_
  unfold State.stage
  rw [rd_of_reg (allViral_reg s.containedNow (Reg.LN_STATUS l) fun p _ => ?_)]
  · exact ht l hl
  · simp only [Reg.LN_STATUS, Reg.PT_STD_STATUS]; omega

theorem noticesBelow_one (s : State) : s.noticesBelow 1 = [] := by
  have h : ∀ n : Notice, (noticeCode n == 0) = false := fun n => by cases n <;> rfl
  simp [State.noticesBelow, h]

/-- The fences once plane n's unfence has been applied, as a function of those before. -/
def unfencedFences (n : Nat) (t : Tab PlaneFence) : Tab PlaneFence :=
  match tabFind t n with
  | some f => if f.noticed && !f.waits.all fun w => w.got == f.planes then tabPut t n { f with lifted := true, stopped := false }
      else tabDel t n
  | none => t

theorem unfencedFences_gone {n : Nat} {t : Tab PlaneFence}
    (h : ∀ f, tabFind t n = some f → f.noticed = true → f.waits.all (fun w => w.got == f.planes) = true) :
    tabFind (unfencedFences n t) n = none := by
  unfold unfencedFences
  cases hf : tabFind t n with
  | none => exact hf
  | some f =>
    have hw : ¬ (f.noticed && !f.waits.all fun w => w.got == f.planes) = true := by
      cases hn : f.noticed
      · simp
      · simp [h f hf hn]
    simp only [if_neg hw]
    exact (tabFind_tabDel _ _ _).trans (if_pos rfl)

theorem unfencedFences_lifted {n : Nat} {t : Tab PlaneFence} {f : PlaneFence} (h : tabFind t n = some f) (hn : f.noticed = true)
    (hw : f.waits.all (fun w => w.got == f.planes) = false) :
    tabFind (unfencedFences n t) n = some { f with lifted := true, stopped := false } := by
  unfold unfencedFences
  simp only [h, hn, hw, Bool.not_false, Bool.and_self, if_true]
  exact (tabFind_tabPut _ _ _ _).trans (if_pos rfl)

/-- The notice of an unfence, alone on the bus. -/
theorem unfencePlane_answers {s : State} {n : PlaneIx} (hq : s.quiet = true) (hc : s.md.clocked = true) (hb : s.noticesBelow 6 = []) :
    Answers (exec (.unfencePlane n) s) fun t => t.core.fences = unfencedFences n.val s.core.fences ∧
      (∀ i < 64, (t.rd (Reg.TL_SPRAY i) Fld.TL_SPRAY.ACTIVE).testBit n.val = true) ∧
      t.on (Reg.XB_STATUS n.val) Fld.XB_STATUS.FENCED = false ∧ t.on (Reg.XB_STATUS n.val) Fld.XB_STATUS.DRAINED = false ∧
      Notice.unfencePlane n ∉ t.flt.notices := by
  refine answers_clocked hc ?_
  rw [noticeArrives_alone hb]
  obtain ⟨h0, h1, h2, h3, h4, h5⟩ := applyUnfencePlane_spec (s.takeNotice (.unfencePlane n)) n.isLt
  change Answers (done ((s.takeNotice (.unfencePlane n)).applyUnfencePlane n.val)) _
  have h6 : Notice.unfencePlane n ∉ ((s.takeNotice (.unfencePlane n)).applyUnfencePlane n.val).flt.notices := by
    rw [h4]; exact takeNotice_not_mem _ _
  have h7 := calm_trans h0 (takeNotice_calm s _)
  generalize (s.takeNotice (.unfencePlane n)).applyUnfencePlane n.val = u at *
  exact answers_of_calm hq h7 fun l a b => ⟨h5, h1, h2, h3, h6⟩

/-- Settles O10: each notice alone on the bus, its containment of an array that holds nothing. -/
theorem fenceNotices : Obligations.FenceNotices := by
  refine ⟨fun s n f hc h hf hl => ?_, fun s n hc h => ?_, fun s n hq hc hb h => ?_, fun s n f hq hc hb h hn hw => ?_,
    fun s n hc he hn hb => ?_, fun s n hq hc hn hb => ?_, fun s n hq hc he hn hb => ?_,
    fun s f j x hc he hr hd hx hl hf hn hb => ?_, fun s f hq hc hr hn hb => ?_, fun s hq hc he hr hd _ hn hb ht => ?_⟩
  · refine leaves_clocked hc ?_
    rw [noticeArrives_alone (noticesBelow_one s)]
    obtain ⟨h1, h2, h3, -⟩ := applyFencePlane_spec (s := s.takeNotice (.fencePlane n)) n.isLt h hf hl
    refine ⟨h1, h2, ?_⟩
    rw [State.applyNotice, h3]
    exact takeNotice_not_mem _ _
  · refine leaves_clocked hc ?_
    rw [noticeArrives_alone (noticesBelow_one s), State.applyNotice]
    have hg : tabFind ((s.takeNotice (.fencePlane n)).fenceBegun n.val).core.fences n.val =
        some { fault := false, stopped := (s.takeNotice (.fencePlane n)).planeStopped n.val } := by
      rw [State.fenceBegun, dropFenceNotice_core]
      exact beginFence_fences _ _ _
    rw [applyFencePlane_new (s := s.takeNotice (.fencePlane n)) h (by simp [State.fenceStands, hg])]
    obtain ⟨h1, h2, h3, h4⟩ := applyFencePlane_spec n.isLt hg rfl rfl
    refine ⟨h1, h2, h4.trans ?_, ?_⟩
    · exact (on_of_reg (dropFenceNotice_reg _ _ _) _).trans (beginFence_fenced _ _ _)
    · rw [h3]
      exact dropFenceNotice_notices _ _
  · refine answers_mono (unfencePlane_answers hq hc hb) fun t ⟨h1, h2, h3, h4, h5⟩ => ⟨?_, h2, h3, h4, h5⟩
    rw [h1]
    exact unfencedFences_gone h
  · refine answers_mono (unfencePlane_answers hq hc hb) fun t ⟨h1, h2, _⟩ => ⟨⟨{ f with lifted := true, stopped := false }, ?_, rfl, rfl⟩, h2⟩
    rw [h1]
    exact unfencedFences_lifted h hn hw
  · refine leaves_clocked hc ?_
    rw [noticeArrives_alone hb, State.applyNotice, containSlice_empty (takeNotice_empty he _) hn]
    refine ⟨rfl, ?_, takeNotice_not_mem s _, fun _ _ => rfl⟩
    exact hasRaised_raise _ _
  · refine answers_clocked hc ?_
    rw [noticeArrives_alone hb, State.applyNotice, containSlice_again (s := s.takeNotice _) hn]
    exact answers_of_calm hq (takeNotice_calm s _) fun l a b => ⟨rfl, rfl, fun _ _ => rfl⟩
  · refine answers_clocked hc ?_
    rw [noticeArrives_alone hb, State.applyNotice, containTile_empty (s := s.takeNotice _) he.1 hn]
    exact answers_of_calm hq ⟨⟨rfl, rfl, rfl, rfl, rfl, rfl⟩, rfl, rfl, rfl⟩ fun l a b => ⟨rfl, takeNotice_not_mem s _, fun _ _ => rfl⟩
  · refine leaves_clocked hc ?_
    rw [noticeArrives_alone hb, fenceFlacon_job (s := s.takeNotice (.fenceFlacon f)) he hr hd hx hl hf hn]
    have hr := showJob_rest (((s.takeNotice (.fenceFlacon f)).flaconFenced f.val).putJob j x.fenced) j
    have ho := showJob_reg (((s.takeNotice (.fenceFlacon f)).flaconFenced f.val).putJob j x.fenced) j
    generalize (((s.takeNotice (.fenceFlacon f)).flaconFenced f.val).putJob j x.fenced).showJob j = u at *
    refine ⟨(congrArg AccessState.fencedFlacons (rest_acc hr)).trans rfl, ?_, ⟨x.fenced, ?_, rfl, rfl⟩, ?_, ?_, fun a ha => ?_⟩
    · rw [raise_on, on_of_reg (ho _ (by simp only [jobRegs, Reg.DC_JOB_STATE, Reg.DC_JOB_CFG, Reg.DC_JOB_PTR, Reg.DC_STATUS,
        Reg.FL_STATUS, List.mem_cons, List.not_mem_nil, or_false]; omega))]
      exact on_set1 _ _ _ (by decide) (by decide)
    · rw [raise_decant, rest_decant hr]
      exact (tabFind_tabPut _ _ _ _).trans (if_pos rfl)
    · exact hasRaised_raise_on _ _ _
    · change Notice.fenceFlacon f ∉ u.flt.notices
      rw [rest_flt hr]
      exact takeNotice_not_mem s _
    · rw [raise_reg, ho a fun hm => ha (List.mem_cons_of_mem _ hm)]
      exact (reg_setReg_ne _ _ _ _ (by rintro rfl; exact ha (List.mem_cons_self ..)))
  · refine answers_clocked hc ?_
    have e : (s.takeNotice (.fenceFlacon f)).applyNotice (.fenceFlacon f) = s.takeNotice (.fenceFlacon f) := by
      rw [State.applyNotice, containFlacon_again (s := s.takeNotice _) hn, abandonPorts_none (takeNotice_noRetune hr _)]
    rw [noticeArrives_alone hb, e]
    exact answers_of_calm hq (takeNotice_calm s _) fun l a b => ⟨rfl, rfl, rfl, takeNotice_not_mem s _, fun _ _ => rfl⟩
  · refine answers_clocked hc ?_
    rw [noticeArrives_alone hb, quarantine_empty (s := s.takeNotice .quarantine) he hr hd hn ht]
    have hrest := allViral_rest (s.takeNotice .quarantine).containedNow
    have hreg := allViral_reg (s.takeNotice .quarantine).containedNow
    have hon : ∀ p ∈ s.ports, p.protocol = .cxl → (s.takeNotice .quarantine).containedNow.allViral.on (Reg.PT_STD_STATUS p.port)
        Fld.PT_STD_STATUS.VIRAL_TX = true := fun p hp hx =>
      sweepSet_on (by decide) (by decide) PT_STD_STATUS_inj _ _ (List.mem_filter.2 ⟨hp, by simp [hx]⟩)
    have hk : ∀ a ∈ calmRegs, (s.takeNotice .quarantine).containedNow.allViral.reg a = s.reg a := fun a ha => hreg a fun p _ => by
      simp only [calmRegs, List.mem_cons, List.not_mem_nil, or_false, Reg.CHIP_MODE, Reg.PC_SUPV_STATUS, Reg.MG_FML_STATUS] at ha
      simp only [Reg.PT_STD_STATUS]; omega
    have hm : (s.takeNotice .quarantine).containedNow.allViral.calm s := by
      refine ⟨?_, md_of_reg (hk _ (by decide)), hk _ (by decide), hk _ (by decide)⟩
      rw [eq_of_rest hrest]
      exact ⟨rfl, rfl, rfl, rfl, rfl, rfl⟩
    have hx := (rest_acc hrest).trans rfl
    have hy := (rest_flt hrest).trans rfl
    generalize (s.takeNotice .quarantine).containedNow.allViral = u at *
    refine answers_of_calm hq hm fun l a b => ⟨congrArg AccessState.contained hx, hon, ?_, fun a ha => ?_⟩
    · change Notice.quarantine ∉ u.flt.notices
      rw [hy]
      exact takeNotice_not_mem s _
    · exact hreg a fun p hp e => ha (List.mem_map.2 ⟨p, hp, e.symm⟩)

end Sys2Proof.Machine
end

section
/-!
LAW. What composing a Formula (R39) leaves alone: the mode, the Formula in force, the severities, the flash.
-/
namespace Sys2Proof.Machine

/-! ### What composing a Formula leaves alone -/

/-- The registers that composing leaves: the mode, and the states of the slot channels. -/
def composeKept (a : Nat) : Bool := a == Reg.CHIP_MODE || (decide (0x410000 ≤ a) && decide (a < 0x412000) && a % 0x100 == 0x18)

/-- The part of a state that composing a Formula leaves alone once it is in force. -/
def State.composePart (s : State) : (Nat → Word) × FormulaState × List SevRec × List Host.Cell × Tab SliceState :=
  (fun a => if composeKept a then s.reg a else 0, { s.fml with retrain := [] }, s.flt.sev, s.mgmt.flash, s.home)

theorem composePart_reg {t s : State} (h : t.composePart = s.composePart) {a : Nat} (ha : composeKept a = true) : t.reg a = s.reg a := by
  have := congrFun (congrArg Prod.fst h) a
  simpa [State.composePart, ha] using this

theorem composePart_of_rest {t s : State} (h : t.rest = s.rest) (hr : ∀ a, composeKept a = true → t.reg a = s.reg a) :
    t.composePart = s.composePart := by
  have e : (fun a => if composeKept a then t.reg a else 0) = fun a => if composeKept a then s.reg a else 0 := by
    funext a
    split
    · exact hr a ‹_›
    · rfl
  unfold State.composePart
  rw [e, rest_fml h, rest_flt h, rest_mgmt h, rest_home h]

theorem composePart_setReg (s : State) (a : Nat) (v : Word) (h : composeKept a = false) : (s.setReg a v).composePart = s.composePart :=
  composePart_of_rest (setReg_rest _ _ _) fun b hb => reg_setReg_ne _ _ _ _ (by rintro rfl; simp [h] at hb)

theorem composePart_wr (s : State) (a : Nat) (f : Fld) (x : Nat) (h : composeKept a = false) : (s.wr a f x).composePart = s.composePart :=
  composePart_setReg _ _ _ h

theorem composeKept_high {a : Nat} (h : 0x1000000 ≤ a) : composeKept a = false := by
  unfold composeKept
  simp only [Reg.CHIP_MODE, Bool.or_eq_false_iff, beq_eq_false_iff_ne, Bool.and_eq_false_iff, decide_eq_false_iff_not]
  omega

theorem composePart_raise (s : State) (n : Nat) (f : Option Nat) : (s.raise n f).composePart = s.composePart := (rfl)
theorem composePart_modSched (s : State) (q : Nat) (g : SchedPort → SchedPort) : (s.modSched q g).composePart = s.composePart := (rfl)
theorem composePart_modLane (s : State) (l : Nat) (g : LaneState → LaneState) : (s.modLane l g).composePart = s.composePart := (rfl)
theorem composePart_modChan (s : State) (n : Nat) (g : ChannelState → ChannelState) : (s.modChan n g).composePart = s.composePart := (rfl)
theorem composePart_modAcc (s : State) (n : Nat) (g : FlAccess → FlAccess) : (s.modAcc n g).composePart = s.composePart := (rfl)

theorem locateBlock_low {a : Nat} (h : a < 0x1000000) (b : Nat) : locateBlock a ≠ some (.ln, b) := by
  unfold locateBlock
  rw [if_pos (c := a < 0x1000000) h]
  split_ifs <;> simp

theorem clearLaneCounts_composePart (s : State) : s.clearLaneCounts.composePart = s.composePart := by
  refine composePart_of_rest rfl fun a ha => ?_
  have hl := locateBlock_low (Nat.not_le.1 fun h => by rw [composeKept_high h] at ha; cases ha)
  unfold State.clearLaneCounts
  refine (regGet_filter s.regs _ (fun a => !(match locateBlock a with
    | some (.ln, b) => (laneCounts ((b - 0x1000000) / 0x10000 * 8 + (b % 0x10000 - 0x8000) / 0x400)).contains a
    | _ => false)) (fun _ => rfl) a).trans ?_
  rw [if_pos]
  · rfl
  · split
    case h_1 b h => exact absurd h (hl b)
    case h_2 => rfl

theorem showFlacon_composePart (s : State) (i : Nat) : (s.showFlacon i).composePart = s.composePart := by
  unfold State.showFlacon
  split
  all_goals
    simp (disch := (refine composeKept_high ?_; simp only [Reg.FL_CFG, Reg.FL_STATUS, Reg.FL_REGIONS]; omega)) only
      [composePart_wr, composePart_setReg, set0_eq, set1_eq, wrB_eq]

theorem showFormula_composePart (s : State) : s.showFormula.composePart = s.composePart := by
  unfold State.showFormula
  split
  · rfl
  · rw [foldl_keep State.composePart _ fun t n => composePart_wr _ _ _ _ (composeKept_high (by simp only [Reg.MG_FML_DIGEST]; omega)),
      composePart_wr _ _ _ _ (by decide), composePart_wr _ _ _ _ (by decide), composePart_wr _ _ _ _ (by decide)]

theorem ARB_STATUS_composeKept (i : ArbInst) : composeKept (Reg.ARB_STATUS (arbBase i)) = false := by
  refine composeKept_high ?_
  cases i <;> simp only [Reg.ARB_STATUS, arbBase, Reg.XB_CTL, Reg.HS_CTL] <;> omega

theorem liveDevice_composePart (s : State) (f : Formula) : (s.liveDevice f).composePart = s.composePart := by
  unfold State.liveDevice
  rw [foldl_keep State.composePart _ fun t n => composePart_wr _ _ _ _ (ARB_STATUS_composeKept _),
    foldl_keep State.composePart _ fun t n => composePart_wr _ _ _ _ (ARB_STATUS_composeKept _),
    foldl_keep State.composePart _ fun t n => composePart_wr _ _ _ _ (ARB_STATUS_composeKept _),
    composePart_wr _ _ _ _ (by decide), composePart_wr _ _ _ _ (by decide), composePart_wr _ _ _ _ (by decide),
    composePart_wr _ _ _ _ (by decide), composePart_wr _ _ _ _ (by decide)]

theorem checkGeometry_composePart (s : State) (i : Nat) : (s.checkGeometry i).composePart = s.composePart := by
  unfold State.checkGeometry
  split
  · rw [composePart_raise]
    refine foldl_keep State.composePart _ (fun t n => ?_) _ s
    generalize (match s.flaconRec i with | some r => r.sliceMask | none => 0) = m
    split_ifs
    · exact composePart_wr _ _ _ _ (composeKept_high (by simp only [Reg.HS_ERR]; omega))
    · rfl
  · rfl

theorem SPC_CFG_composeKept {n : Nat} (h : n < 32) : composeKept (Reg.SPC_CFG n) = false ∧ composeKept (Reg.SPC_CFG2 n) = false := by
  revert n
  decide

theorem chGone_composePart {s : State} {n : Nat} (hn : n < 32) (h : s.ch n = Ch.OFF) : (s.chGone n).composePart = s.composePart := by
  obtain ⟨h1, h2⟩ := SPC_CFG_composeKept hn
  have hc : (s.modChan n fun x => { x with onRequested := false }).ch n = Ch.OFF := h
  unfold State.chGone State.chNow
  rw [composePart_setReg _ _ _ h2, composePart_setReg _ _ _ h1]
  simp only [h, if_true]
  exact composePart_modChan _ _ _

theorem liveChannel_composePart {s : State} {f : Formula} (hf : f.slots = []) (h : ∀ n < 32, s.ch n = Ch.OFF) (L : List Nat)
    (hL : ∀ n ∈ L, n < 32) : (L.foldl (fun t n => t.liveChannel f n) s).composePart = s.composePart := by
  induction L generalizing s with
  | nil => rfl
  | cons n L ih =>
    have hn := hL n (List.mem_cons_self ..)
    have e : (s.liveChannel f n).composePart = s.composePart := by
      have hs : s.liveChannel f n = s.chGone n := by simp [State.liveChannel, hf]
      rw [hs]
      exact chGone_composePart hn (h n hn)
    rw [List.foldl_cons, ih (fun k hk => ?_) fun k hk => hL k (List.mem_cons_of_mem _ hk), e]
    rw [State.ch, rd_of_reg (composePart_reg e (by revert k; decide))]
    exact h k hk

theorem unshowPort_composePart (s : State) (q : Nat) : (s.unshowPort q).composePart = s.composePart := by
  unfold State.unshowPort
  simp (disch := (refine composeKept_high ?_; simp only [Reg.PT_LL_CFG, Reg.PT_HP_STATUS, Reg.PT_STD_SPAN]; omega)) only
    [composePart_wr, composePart_setReg]

theorem showSpan_composePart (s : State) (p : PortRec) : (s.showSpan p).composePart = s.composePart := by
  unfold State.showSpan
  split
  · simp (disch := (refine composeKept_high ?_; simp only [Reg.PT_STD_SPAN]; omega)) only [composePart_wr]
  · rfl

/-- A standard port without a slot shows its span alone. -/
theorem showPort_standard {p : PortRec} (hf : p.fabric = false) (hs : p.slot = 0xFF) (s : State) :
    s.showPort p = (s.unshowPort p.port).showSpan p := by
  simp only [State.showPort, hf, hs, Bool.not_false, if_true]

theorem putShort_composePart (s : State) (q : Nat) (w : List Nat) (u : Nat) : (s.putShort q w u).composePart = s.composePart := by
  unfold State.putShort
  rw [composePart_wr _ _ _ _ (composeKept_high (by simp only [Reg.PT_GATE_ERR]; omega))]
  exact foldl_keep State.composePart _
    (fun t e => composePart_wr _ _ _ _ (composeKept_high (by simp only [Reg.PT_GATE_SHORT]; omega))) _ s

theorem regate_composePart (s : State) (q : Nat) : (s.regate q).composePart = s.composePart := by
  unfold State.regate
  split
  · rfl
  · simp only
    split_ifs
    all_goals
      simp (disch := (refine composeKept_high ?_; simp only [Reg.PT_GATE_ERR, Reg.PT_GATE_STATE]; omega)) only
        [composePart_wr, composePart_raise, set1_eq, composePart_modSched, putShort_composePart]

theorem liveGate_composePart (s : State) (f : Formula) (q : Nat) : (s.liveGate f q).composePart = s.composePart := by
  unfold State.liveGate
  simp only
  split_ifs
  · rw [composePart_modSched, putShort_composePart, foldl_keep State.composePart]
    · simp (disch := (refine composeKept_high ?_; simp only [Reg.PT_GATE_CFG]; omega)) only [composePart_wr]
    · intro t n
      split
      all_goals
        simp (disch := (refine composeKept_high ?_; simp only [Reg.PT_GATE_ENTRY]; omega)) only [composePart_wr, composePart_setReg]
  · rw [State.gateLive, regate_composePart, composePart_modSched, composePart_modSched, putShort_composePart,
      foldl_keep State.composePart]
    · simp (disch := (refine composeKept_high ?_; simp only [Reg.PT_GATE_CFG]; omega)) only [composePart_wr]
    · intro t n
      split
      all_goals
        simp (disch := (refine composeKept_high ?_; simp only [Reg.PT_GATE_ENTRY]; omega)) only [composePart_wr, composePart_setReg]

theorem laneStep_composePart (s : State) (l : Nat) : (s.toOff l).composePart = s.composePart ∧
    (s.stopTest l).composePart = s.composePart ∧ (s.dropLocks l).composePart = s.composePart := by
  have hd : ∀ t : State, (t.dropLocks l).composePart = t.composePart := fun t => by
    unfold State.dropLocks
    simp (disch := (refine composeKept_high ?_; simp only [Reg.LN_STATUS]; omega)) only [composePart_modLane, set0_eq, composePart_wr]
  refine ⟨?_, ?_, hd s⟩
  · unfold State.toOff State.setStage State.abandonRetune
    simp (disch := (refine composeKept_high ?_; simp only [Reg.LN_STATUS, Reg.LN_RETUNE]; omega)) only
      [composePart_modLane, set0_eq, composePart_wr, hd]
  · unfold State.stopTest State.setStage
    simp only
    split_ifs
    all_goals
      simp (disch := (refine composeKept_high ?_; simp only [Reg.LN_STATUS, Reg.LN_PRBS_CTL, Reg.LN_PRBS_STATUS]; omega)) only
        [set0_eq, composePart_wr]

theorem startLane_composePart {p : PortRec} (hf : p.fabric = false) (s : State) (l : Nat) : (s.startLane p l).composePart = s.composePart := by
  have hl := fun t : State => laneStep_composePart t l
  unfold State.startLane State.setStage
  simp only [hf, Bool.false_eq_true, if_false]
  split_ifs
  all_goals
    simp (disch := (refine composeKept_high ?_; simp only [Reg.LN_STATUS]; omega)) only [wrB_eq, composePart_wr, hl]

theorem startPort_composePart {p : PortRec} (hf : p.fabric = false) (s : State) : (s.startPort p).composePart = s.composePart := by
  unfold State.startPort State.setLtssm
  simp only [hf, Bool.false_eq_true, if_false]
  rw [composePart_wr _ _ _ _ (composeKept_high (by simp only [Reg.PT_STD_STATUS]; omega)), foldl_keep State.composePart]
  · rfl
  · intro t l
    rw [startLane_composePart hf, composePart_setReg _ _ _ (composeKept_high (by simp only [Reg.LN_TRAIN]; omega))]

theorem startSlot_none {p : PortRec} (hs : p.slot = 0xFF) (s : State) : s.startSlot p = s := by simp [State.startSlot, hs]

/-- A fold over members of a list keeps what each step with a member keeps. -/
theorem foldl_keep_mem {α β : Type} (g : State → β) (f : State → α → State) (l : List α) (h : ∀ t, ∀ x ∈ l, g (f t x) = g t) (s : State) :
    g (l.foldl f s) = g s := by
  induction l generalizing s with
  | nil => rfl
  | cons x l ih =>
    rw [List.foldl_cons, ih fun t k hk => h t k (List.mem_cons_of_mem _ hk), h s x (List.mem_cons_self ..)]

/-- The state with Formula f of slot n in force. -/
def State.inForceNow (s : State) (f : Formula) (n : Nat) : State :=
  { s with fml := { s.fml with inForce := some f, slot := n }, flt := { s.flt with sev := f.severity } }

theorem liveBase_composePart (s : State) (f : Formula) (n : Nat) : (s.liveBase f n).composePart = (s.inForceNow f n).composePart := by
  unfold State.liveBase
  refine (foldl_keep State.composePart _ (fun t i => showFlacon_composePart t i) _ _).trans ?_
  rw [liveDevice_composePart, showFormula_composePart]
  rfl

/-- The tables of one Flacon of f put in force. -/
def State.composeFlacon (t : State) (f : Formula) (r : FlaconRec) : State :=
  let i := r.index
  let t1 := (t.wr (Reg.FL_EPOCH i) Fld.FL_EPOCH.EPOCH 1).modAcc i fun (a : FlAccess) =>
    { a with cur := f.genOf i, old := f.genOf i, changedAt := 1 }
  let t2 : State := { t1 with acc := { t1.acc with
    regions := (f.regionsOf i).foldl (fun m e => tabPut m e.1 e.2) t1.acc.regions } }
  (t2.showRegions i).checkGeometry i

theorem composeFlacon_composePart (t : State) (f : Formula) (r : FlaconRec) : (t.composeFlacon f r).composePart = t.composePart := by
  unfold State.composeFlacon
  simp only
  rw [checkGeometry_composePart, State.showRegions, composePart_wr _ _ _ _ (composeKept_high (by simp only [Reg.FL_REGIONS]; omega))]
  exact composePart_wr t _ _ _ (composeKept_high (by simp only [Reg.FL_EPOCH]; omega))

theorem compose_eq (s : State) (f : Formula) (n : Nat) : s.compose f n =
    (f.ports.foldl (fun t p => t.startSlot p) (f.ports.foldl (fun (t : State) p =>
      (((t.showPort p).liveSched f p.port fun _ => true).liveGate f p.port).startPort p)
      ((List.range 32).foldl (fun t n => t.liveChannel f n)
        (f.flacons.foldl (fun t r => t.composeFlacon f r) (s.clearLaneCounts.liveBase f n))))).topnoteStart
          (f.flacons.map (·.index)) := (rfl)

theorem compose_composePart {s : State} {f : Formula} {n : Nat} (hp : ∀ p ∈ f.ports, p.fabric = false ∧ p.slot = 0xFF)
    (hs : f.slots = []) (hc : ∀ n < 32, s.ch n = Ch.OFF) : (s.compose f n).composePart = (s.inForceNow f n).composePart := by
  have hbase : (s.clearLaneCounts.liveBase f n).composePart = (s.inForceNow f n).composePart := by
    have h := clearLaneCounts_composePart s
    rw [liveBase_composePart]
    have hr := congrArg Prod.fst h
    have hm := congrArg (fun x => x.2.2.2) h
    exact Prod.ext hr (Prod.ext rfl (Prod.ext rfl hm))
  have hch : ∀ {t : State}, t.composePart = (s.inForceNow f n).composePart → ∀ n < 32, t.ch n = Ch.OFF := fun h k hk => by
    rw [State.ch, rd_of_reg (composePart_reg h (by revert k; decide))]
    exact hc k hk
  have hfl := (foldl_keep State.composePart _ (fun t r => composeFlacon_composePart t f r) f.flacons _).trans hbase
  have htop : ∀ (t : State) (l : List Nat), (t.topnoteStart l).composePart = t.composePart := fun _ _ => rfl
  rw [compose_eq, htop, foldl_keep_mem State.composePart _ f.ports fun t p h => by rw [startSlot_none (hp p h).2],
    foldl_keep_mem State.composePart _ f.ports fun t p h => by
      rw [startPort_composePart (hp p h).1, liveGate_composePart, showPort_standard (hp p h).1 (hp p h).2]
      exact (composePart_modSched _ _ _).trans ((showSpan_composePart _ _).trans (unshowPort_composePart _ _)),
    liveChannel_composePart hs (hch hfl) _ fun n hn => List.mem_range.1 hn, hfl]

end Sys2Proof.Machine
end

section
/-!
LAW. The boot sequence (R28, R39, R428, R433): what each step of the boot leaves.
-/
namespace Sys2Proof.Machine

/-- A stop of the boot shown, before its mode is entered. -/
def State.recoveryShown (s : State) (c : Nat) : State :=
  ((s.set1 Reg.CHIP_BOOT_STATUS Fld.CHIP_BOOT_STATUS.RECOVERY).wr Reg.CHIP_BOOT_STATUS Fld.CHIP_BOOT_STATUS.ERROR c).set1
    Reg.MBX_STATUS Fld.MBX_STATUS.RECOVERY

theorem bootRecovery_reg (s : State) (c a : Nat) : (s.bootRecovery c).reg a = ((s.recoveryShown c).goMode .boot 0x06).reg a := by
  unfold State.bootRecovery State.recoveryShown
  simp only [reg_mk, regGet_regs]

theorem bootRecovery_fml (s : State) (c : Nat) : (s.bootRecovery c).fml = s.fml := by
  unfold State.bootRecovery
  simp only [rest_fml (goMode_rest _ _ _), set1_fml, wr_fml]

/-- What a boot that stops in recovery leaves. -/
theorem bootRecovery_spec (s : State) (c : Nat) : (s.bootRecovery c).inRecovery = true ∧
    (s.bootRecovery c).rd Reg.CHIP_MODE Fld.CHIP_MODE.CAUSE = 0x06 ∧
    (s.bootRecovery c).rd Reg.CHIP_BOOT_STATUS Fld.CHIP_BOOT_STATUS.ERROR = c % 2 ^ Fld.CHIP_BOOT_STATUS.ERROR.width ∧
    (s.bootRecovery c).mode.fwRunning = false ∧ (s.bootRecovery c).fml = s.fml ∧
    (s.bootRecovery c).regsBut s [Reg.CHIP_MODE, Reg.CHIP_BOOT_STATUS, Reg.MBX_STATUS] := by
  obtain ⟨⟨h1, h2, -⟩, ⟨-, h3⟩, -⟩ := goMode_spec (s.recoveryShown c) .boot 0x06 (by decide)
  have hb : (s.bootRecovery c).reg Reg.CHIP_BOOT_STATUS = (s.recoveryShown c).reg Reg.CHIP_BOOT_STATUS :=
    (bootRecovery_reg s c _).trans (h3 _ (by decide))
  refine ⟨?_, (rd_of_reg (bootRecovery_reg s c _) _).trans h2, (rd_of_reg hb _).trans ?_, rfl, bootRecovery_fml s c, fun a ha => ?_⟩
  · unfold State.inRecovery
    rw [md_of_reg (bootRecovery_reg s c _), h1, on_of_reg hb]
    simp +decide [State.recoveryShown]
  · simp +decide [State.recoveryShown]
  · simp only [List.mem_cons, List.not_mem_nil, or_false, not_or] at ha
    obtain ⟨a1, a2, a3⟩ := ha
    rw [bootRecovery_reg, h3 a (by simpa using a1)]
    simp [State.recoveryShown, a2, a3]

/-- The boot ROM's state once the collector runs and the directory is shown, where no occurrence was held. -/
def State.romReady (s : State) : State :=
  ({ s.rootLocked with flt := { s.rootLocked.flt with running := true, held := [] } } : State).showDirectory

theorem takeHeld_none {s : State} (h : s.flt.held = []) : s.takeHeld = { s with flt := { s.flt with running := true, held := [] } } := by
  unfold State.takeHeld
  rw [h]
  rfl

theorem showDirectory_rest (s : State) : s.showDirectory.rest = s.rest := fourWrites_rest s _ _ _ _ _ _ _ _ _ _

theorem showDirectory_reg (s : State) (a : Nat) (h : a ∉ dirRegs) : s.showDirectory.reg a = s.reg a := by
  simp only [dirRegs, List.mem_cons, List.not_mem_nil, or_false, not_or] at h
  exact fourWrites_reg s _ _ _ _ _ _ _ _ _ _ _ h.1 h.2

theorem romReady_rest (s : State) : s.romReady.rest = ({ s with flt := { s.flt with running := true, held := [] } } : State).rest :=
  (showDirectory_rest _).trans rfl

theorem romReady_reg (s : State) (a : Nat) (h : a ∉ dirRegs) (h1 : a ≠ Reg.CHIP_CLK_STATUS) : s.romReady.reg a = s.reg a := by
  refine (showDirectory_reg _ a h).trans ?_
  change ((s.set1 Reg.CHIP_CLK_STATUS Fld.CHIP_CLK_STATUS.REF_OK).set1 Reg.CHIP_CLK_STATUS Fld.CHIP_CLK_STATUS.ROOT_LOCK).reg a = _
  simp [h1]

theorem romReady_locked (s : State) : s.romReady.on Reg.CHIP_CLK_STATUS Fld.CHIP_CLK_STATUS.ROOT_LOCK = true := by
  refine (on_of_reg (showDirectory_reg _ _ (by decide)) _).trans ?_
  exact on_set1 (s.set1 Reg.CHIP_CLK_STATUS Fld.CHIP_CLK_STATUS.REF_OK) _ _ (by decide) (by decide)

/-- The boot ROM's choice after step 1 (R428). -/
def State.romGoes (s : State) (v : SigVerdict) : State :=
  if s.mgmt.fuses.fieldErr then s.bootRecovery 0x0811
  else if s.mgmt.fuses.lifecycle = 0 then s.bootRecovery 0x0812
  else if s.bootSrc = 2 then s.bootRecovery 0
  else if s.bootSrc = 3 then s.bootRecovery 0x0816
  else (s.when ((readDirectory s.mgmt.flash).bad && !s.mgmt.flashAbsent) fun t =>
      t.wr Reg.CHIP_BOOT_STATUS Fld.CHIP_BOOT_STATUS.ERROR 0x0810).startFirmware v

theorem bootRom_goes {s : State} (v : SigVerdict) (h : s.md = .boot) (hf : s.mode.fwRunning = false) (hr : s.inRecovery = false)
    (hh : s.flt.held = []) : s.bootRom v = s.romReady.romGoes v := by
  have e : s.bootRom v = s.rootLocked.takeHeld.showDirectory.romGoes v := if_neg (by simp [h, hf, hr])
  rw [e, takeHeld_none (s := s.rootLocked) hh]
  rfl

theorem startFirmware_absent {s : State} (v : SigVerdict) (h : s.mgmt.flashAbsent = true) : s.startFirmware v = s.bootRecovery 0x0815 :=
  if_pos h

/-- The active slot's firmware started. -/
def State.firmwareLoaded (s : State) (n : Nat) : State :=
  { (s.loadFirmware n).mportAtFirmware with mode := { (s.loadFirmware n).mportAtFirmware.mode with fwFromPending := false } }

theorem eraseDups_head (a b : Nat) : ∃ r, [a, b].eraseDups = a :: r := ⟨_, List.eraseDups_cons ..⟩

theorem startFirmware_active {s : State} {v : SigVerdict} (h : s.mgmt.flashAbsent = false) (hp : s.directory.fwPendingValid = false)
    (hc : fwCheck (fwImage s.mgmt.flash s.directory.fwActive) s.mgmt.fuses (v.of s.directory.fwActive) = none) :
    s.startFirmware v = s.firmwareLoaded s.directory.fwActive := by
  obtain ⟨r, e⟩ := eraseDups_head s.directory.fwActive (1 - s.directory.fwActive)
  unfold State.startFirmware
  rw [if_neg (by simp [h])]
  simp only [hp, Bool.false_and, Bool.false_eq_true, if_false, List.nil_append, e, State.pickFirmware, hc]
  rfl

theorem showDigest_reg (s : State) {R : Nat → Nat} (d : Nat) {a : Nat} (h : ∀ n, a ≠ R n) : (s.showDigest R d).reg a = s.reg a := by
  unfold State.showDigest
  exact foldl_keep (fun t => t.reg a) _ (fun t n => reg_setReg_ne _ _ _ _ (h n)) _ s

theorem showDigest_rest (s : State) (R : Nat → Nat) (d : Nat) : (s.showDigest R d).rest = s.rest := by
  unfold State.showDigest
  exact foldl_keep State.rest _ (fun t n => setReg_rest _ _ _) _ s

/-- The registers of a started firmware written. -/
def State.firmwareShown (s : State) (n key svn version digest : Nat) : State :=
  (((((s.wr Reg.MG_FW_STATUS Fld.MG_FW_STATUS.SLOT n).wr Reg.MG_FW_STATUS Fld.MG_FW_STATUS.VENDOR_KEY key).wr
    Reg.MG_FW_STATUS Fld.MG_FW_STATUS.SVN svn).wr Reg.MG_FW_STATUS Fld.MG_FW_STATUS.VERSION version).showDigest
    Reg.MG_MEAS_FW digest).wr Reg.CHIP_BOOT_STATUS Fld.CHIP_BOOT_STATUS.FW_SLOT n

theorem firmwareShown_spec (s : State) (n key svn version digest : Nat) :
    (s.firmwareShown n key svn version digest).rest = s.rest ∧
    (s.firmwareShown n key svn version digest).rd Reg.MG_FW_STATUS Fld.MG_FW_STATUS.SLOT = n % 2 ^ Fld.MG_FW_STATUS.SLOT.width ∧
    ∀ a < 0x9000000, a ≠ Reg.CHIP_BOOT_STATUS → (s.firmwareShown n key svn version digest).reg a = s.reg a := by
  have hd : ∀ a, (∀ n, a ≠ Reg.MG_MEAS_FW n) → a ≠ Reg.CHIP_BOOT_STATUS → (s.firmwareShown n key svn version digest).reg a =
      ((((s.wr Reg.MG_FW_STATUS Fld.MG_FW_STATUS.SLOT n).wr Reg.MG_FW_STATUS Fld.MG_FW_STATUS.VENDOR_KEY key).wr
        Reg.MG_FW_STATUS Fld.MG_FW_STATUS.SVN svn).wr Reg.MG_FW_STATUS Fld.MG_FW_STATUS.VERSION version).reg a := fun a h1 h2 =>
    (reg_setReg_ne _ _ _ _ h2).trans (showDigest_reg _ _ h1)
  refine ⟨(wr_rest _ _ _ _).trans ((showDigest_rest _ _ _).trans ((wr_rest _ _ _ _).trans ((wr_rest _ _ _ _).trans
    ((wr_rest _ _ _ _).trans (wr_rest _ _ _ _))))), ?_, fun a ha hb => ?_⟩
  · rw [rd_of_reg (hd _ (by simp only [Reg.MG_FW_STATUS, Reg.MG_MEAS_FW]; omega) (by decide))]
    simp +decide
  · have h1 : a ≠ Reg.MG_FW_STATUS := by simp only [Reg.MG_FW_STATUS]; omega
    rw [hd a (by simp only [Reg.MG_MEAS_FW]; omega) hb]
    simp [h1]

theorem mportAtFirmware_spec (t : State) : t.mportAtFirmware.mgmt.mportEn = true ∧
    t.mportAtFirmware.mgmt.flash = t.mgmt.flash ∧ t.mportAtFirmware.flt = t.flt ∧ t.mportAtFirmware.mode = t.mode ∧
    ∀ a, t.mportAtFirmware.reg a = t.reg a := by
  unfold State.mportAtFirmware
  split
  case isTrue h => exact ⟨h, rfl, rfl, rfl, fun _ => rfl⟩
  case isFalse => exact ⟨rfl, rfl, rfl, rfl, fun _ => rfl⟩

/-- The mode's flags once firmware runs. -/
def State.firmwareRuns (t : State) : State := { t with mode := { t.mode with fwRunning := true, seedLocked := true } }

theorem loadFirmware_shown (s : State) (n : Nat) : ∃ key svn version digest,
    s.loadFirmware n = (s.firmwareShown n key svn version digest).firmwareRuns :=
  ⟨(vendorEntry s.mgmt.fuses (shake256 ((((fwImage s.mgmt.flash n).drop (leAt (fwImage s.mgmt.flash n) 8 4 - 3096)).drop 16).take
      1793))).getD 0, leAt (fwImage s.mgmt.flash n) 0x0C 4, leAt (fwImage s.mgmt.flash n) 0x10 4,
    leAt (fwImage s.mgmt.flash n) 0x40 64, rfl⟩

/-- What loading a slot's firmware leaves. -/
theorem firmwareLoaded_spec (s : State) (n : Nat) :
    (s.firmwareLoaded n).rd Reg.MG_FW_STATUS Fld.MG_FW_STATUS.SLOT = n % 2 ^ Fld.MG_FW_STATUS.SLOT.width ∧
    (s.firmwareLoaded n).mode.fwRunning = true ∧ (s.firmwareLoaded n).mgmt.mportEn = true ∧
    (s.firmwareLoaded n).mgmt.flash = s.mgmt.flash ∧ (s.firmwareLoaded n).flt = s.flt ∧
    ∀ a < 0x9000000, a ≠ Reg.CHIP_BOOT_STATUS → (s.firmwareLoaded n).reg a = s.reg a := by
  obtain ⟨key, svn, version, digest, e⟩ := loadFirmware_shown s n
  obtain ⟨h1, h2, h3⟩ := firmwareShown_spec s n key svn version digest
  generalize s.firmwareShown n key svn version digest = u at *
  obtain ⟨m1, m2, m3, m4, m5⟩ := mportAtFirmware_spec u.firmwareRuns
  have m4' : u.firmwareRuns.mportAtFirmware.mode.fwRunning = true := by rw [m4]; rfl
  unfold State.firmwareLoaded
  rw [e]
  generalize u.firmwareRuns.mportAtFirmware = w at *
  exact ⟨(rd_of_reg (m5 _) _).trans h2, m4', m1, m2.trans ((congrArg MgmtState.flash (rest_mgmt h1) :)), m3.trans ((rest_flt h1 :)),
    fun a ha hb => (m5 a).trans (h3 a ha hb)⟩

theorem identityDone_eq {s : State} (h : s.md = .boot) (hf : s.mode.fwRunning = true) (ht : s.mode.selfTested = false) (a b : Bool) :
    s.identityDone a b = if !a then s.bootStops 0x0813 else if !b then s.bootStops 0x0814 else
      { s.wrB Reg.MG_LIFECYCLE Fld.MG_LIFECYCLE.IDENTITY_READY (!s.mgmt.fuses.lifecycle.getLsbD 2) with
        mode := { s.mode with selfTested := true, identityReady := !s.mgmt.fuses.lifecycle.getLsbD 2 } } :=
  if_neg (by simp [h, hf, ht])

theorem bootStops_plain {s : State} (h : s.mode.fwFromPending = false) (c : Nat) : s.bootStops c = s.bootRecovery c := by
  have e : s.dropPendingFw = s := by simp [State.dropPendingFw, h]
  rw [State.bootStops, e]

/-- The boot's application of a Formula, with no slot pending. -/
theorem bootFormula_plain {s : State} {v : SigVerdict} (h : s.md = .boot) (hf : s.mode.fwRunning = true)
    (ht : s.mode.selfTested = true) (hr : s.inRecovery = false) (hp : s.mode.fwFromPending = false)
    (hd : s.directory.fmlPendingValid = false) :
    s.bootFormula v = match s.tryFormulas v [s.directory.fmlActive, 1 - s.directory.fmlActive].eraseDups none with
      | (some (f, n), e) => ((s.showBootErr e).goMode .compose 0x04).compose f n
      | (none, e) => (s.showBootErr e).bootStops ((e.map (·.code)).getD 0) := by
  have hb : ∀ e, (s.showBootErr e).mode.fwFromPending = false := fun e => by
    cases e with
    | none => exact hp
    | some x => exact (congrArg ModeState.fwFromPending (rest_mode (showFmlErr_spec s x).1)).trans hp
  unfold State.bootFormula
  rw [if_neg (by simp [h, hf, ht, hr])]
  simp only [hd, Bool.false_and, Bool.false_eq_true, if_false, List.nil_append]
  split <;> rename_i e1 <;> simp only [e1, State.when, State.bootDirectory, hb, Bool.false_eq_true, or_self, if_false]

theorem showBootErr_some (s : State) (e : FmlErr) : s.showBootErr (some e) = s.showFmlErr e := rfl

/-- SERVE entered from COMPOSE. -/
def State.composed (s : State) : State := { s.goMode .serve 0x07 with fml := { (s.goMode .serve 0x07).fml with retrain := [] } }

theorem composed_reg (s : State) (a : Nat) : s.composed.reg a = (s.goMode .serve 0x07).reg a := by
  unfold State.composed
  simp only [reg_mk, regGet_regs]

theorem composed_spec (s : State) : s.composed.entered s .serve 0x07 ∧ s.composed.fml.retrain = [] ∧
    s.composed.regsBut s [Reg.CHIP_MODE] := by
  obtain ⟨⟨g1, g2, g3⟩, ⟨-, g4⟩, -⟩ := goMode_spec s .serve 0x07 (by decide)
  have h := composed_reg s Reg.CHIP_MODE
  exact ⟨⟨(md_of_reg h).trans g1, (rd_of_reg h _).trans g2, (rd_of_reg h _).trans g3⟩, rfl,
    fun a ha => (composed_reg s a).trans (g4 a ha)⟩

/-- Settles O12: each step of the boot by the branch that its inputs take; what composing does beside the mode is the frame. -/
theorem bootSequence : Obligations.BootSequence := by
  have hready : ∀ {s : State}, s.inRecovery = s.romReady.inRecovery ∧ s.bootSrc = s.romReady.bootSrc ∧ s.md = s.romReady.md ∧
      s.mgmt = s.romReady.mgmt := fun {s} => by
    refine ⟨?_, (rd_of_reg (romReady_reg s _ (by decide) (by decide)) _).symm, (md_of_reg (romReady_reg s _ (by decide) (by decide))).symm,
      ((rest_mgmt (romReady_rest s)).trans rfl).symm⟩
    unfold State.inRecovery
    rw [md_of_reg (romReady_reg s _ (by decide) (by decide)), on_of_reg (romReady_reg s _ (by decide) (by decide))]
  refine ⟨fun s v hm hf hr hh he => ⟨_, rfl, ?_⟩, fun s v hm hf hr hh he hl h2 h3 ha => ⟨_, rfl, ?_⟩,
    fun s v hm hf hr hh he hl h2 h3 ha hp hc => ⟨_, rfl, ?_⟩, fun s hq hm hf ht => ?_, fun s b hm hf ht hp => ⟨_, rfl, ?_⟩,
    fun s v f hm hf ht hr hp hd hv hports hs hch => ⟨_, rfl, ?_⟩, fun s v e e' hm hf ht hr hp hd h1 h2 => ⟨_, rfl, ?_⟩,
    fun s hm hr => ⟨_, rfl, ?_⟩, fun s q p hq hm hr hp hf => ?_⟩
  · obtain ⟨-, -, -, hg⟩ := hready (s := s)
    rw [bootRom_goes v hm hf hr hh]
    generalize s.romReady = u at *
    have e : u.romGoes v = u.bootRecovery 0x0811 := if_pos (hg ▸ he)
    rw [e]
    obtain ⟨h1, h2, h3, h4, -⟩ := bootRecovery_spec u 0x0811
    exact ⟨h1, h2, h3, h4⟩
  · obtain ⟨-, hb, -, hg⟩ := hready (s := s)
    rw [bootRom_goes v hm hf hr hh]
    generalize s.romReady = u at *
    have e : u.romGoes v = u.bootRecovery 0x0815 := by
      unfold State.romGoes
      rw [← hg, ← hb, if_neg (by simp [he]), if_neg hl, if_neg h2, if_neg h3, State.when, if_neg (by simp [ha])]
      exact startFirmware_absent v (hg ▸ ha)
    rw [e]
    obtain ⟨h1, -, h3, -⟩ := bootRecovery_spec u 0x0815
    exact ⟨h1, h3⟩
  · obtain ⟨-, hb, hk, hg⟩ := hready (s := s)
    have hlock := romReady_locked s
    have hrun : s.romReady.flt.running = true := by rw [rest_flt (romReady_rest s)]
    rw [bootRom_goes v hm hf hr hh]
    generalize s.romReady = u at *
    have e : u.romGoes v = (u.when ((readDirectory u.mgmt.flash).bad && !u.mgmt.flashAbsent) fun t =>
        t.wr Reg.CHIP_BOOT_STATUS Fld.CHIP_BOOT_STATUS.ERROR 0x0810).startFirmware v := by
      unfold State.romGoes
      rw [if_neg (by simp [← hg, he]), if_neg (hg ▸ hl), if_neg (hb ▸ h2), if_neg (hb ▸ h3)]
    have hw : (u.when ((readDirectory u.mgmt.flash).bad && !u.mgmt.flashAbsent) fun t =>
        t.wr Reg.CHIP_BOOT_STATUS Fld.CHIP_BOOT_STATUS.ERROR 0x0810).rest = u.rest ∧ ∀ a ≠ Reg.CHIP_BOOT_STATUS,
        (u.when ((readDirectory u.mgmt.flash).bad && !u.mgmt.flashAbsent) fun t =>
          t.wr Reg.CHIP_BOOT_STATUS Fld.CHIP_BOOT_STATUS.ERROR 0x0810).reg a = u.reg a := by
      unfold State.when
      split
      · exact ⟨wr_rest _ _ _ _, fun a ha => reg_setReg_ne _ _ _ _ ha⟩
      · exact ⟨rfl, fun _ _ => rfl⟩
    rw [e]
    generalize u.when _ _ = w at *
    obtain ⟨hwr, hwa⟩ := hw
    have hwm := rest_mgmt hwr
    have hd : w.directory = s.directory := by rw [State.directory, hwm, ← hg]; rfl
    rw [startFirmware_active (s := w) (by rw [hwm, ← hg]; exact ha) (by rw [hd]; exact hp) (by rw [hd, hwm, ← hg]; exact hc), hd]
    obtain ⟨f1, f2, f3, f4, f5, f6⟩ := firmwareLoaded_spec w s.directory.fwActive
    refine ⟨?_, f2, f3, f1, ?_, ?_, ?_⟩
    · rw [md_of_reg (f6 _ (by decide) (by decide)), md_of_reg (hwa _ (by decide)), ← hk, hm]
    · rw [on_of_reg (f6 _ (by decide) (by decide)), on_of_reg (hwa _ (by decide)), hlock]
    · rw [f5, rest_flt hwr, hrun]
    · rw [f4, hwm, ← hg]
  · change Answers (done (s.identityDone true true)) _
    rw [identityDone_eq hm hf ht, if_neg (by simp), if_neg (by simp)]
    have hx : ∀ a, a ≠ Reg.MG_LIFECYCLE → (s.wrB Reg.MG_LIFECYCLE Fld.MG_LIFECYCLE.IDENTITY_READY
        (!s.mgmt.fuses.lifecycle.getLsbD 2)).reg a = s.reg a := fun a ha => reg_setReg_ne _ _ _ _ ha
    have hy : (s.wrB Reg.MG_LIFECYCLE Fld.MG_LIFECYCLE.IDENTITY_READY (!s.mgmt.fuses.lifecycle.getLsbD 2)).on Reg.MG_LIFECYCLE
        Fld.MG_LIFECYCLE.IDENTITY_READY = !s.mgmt.fuses.lifecycle.getLsbD 2 := by simp +decide
    refine answers_of_calm hq ⟨⟨rfl, rfl, rfl, rfl, rfl, rfl⟩, md_of_reg (s := s) (hx _ (by decide)), hx _ (by decide), hx _ (by decide)⟩
      fun l a b => ⟨rfl, rfl, hy, (md_of_reg (s := s) (hx _ (by decide))).trans hm, fun a ha => hx a (by simpa using ha)⟩
  · rw [identityDone_eq hm hf ht, if_pos (by simp), bootStops_plain hp]
    obtain ⟨h1, -, h3, h4, -, h5⟩ := bootRecovery_spec s 0x0813
    exact ⟨h1, h3, h4, h5⟩
  · obtain ⟨r, e⟩ := eraseDups_head s.directory.fmlActive (1 - s.directory.fmlActive)
    rw [bootFormula_plain hm hf ht hr hp hd, e]
    simp only [State.tryFormulas, hv]
    have hg : ∀ a, a ≠ Reg.MG_FML_ERR → a ≠ Reg.CHIP_MODE → ((s.showBootErr none).goMode .compose 0x04).reg a = s.reg a :=
      fun a h1 h2 => ((goMode_spec _ _ _ (by decide)).2.1.2 a (by simpa using h2)).trans (reg_setReg_ne _ _ _ _ h1)
    have he : ((s.showBootErr none).goMode .compose 0x04).entered s .compose 0x04 :=
      entered_of_reg (goMode_spec _ _ _ (by decide)).1 (reg_setReg_ne _ _ _ _ (by decide))
    have hm' : ((s.showBootErr none).goMode .compose 0x04).mgmt = s.mgmt := rest_mgmt ((goMode_rest _ _ _).trans (setReg_rest _ _ _))
    generalize (s.showBootErr none).goMode .compose 0x04 = g at *
    have hc := compose_composePart (s := g) (n := s.directory.fmlActive) hports hs fun n hn => by
      rw [State.ch, rd_of_reg (hg _ (by simp only [Reg.SPC_STATE, Reg.MG_FML_ERR]; omega) (by simp only [Reg.SPC_STATE, Reg.CHIP_MODE]; omega))]
      exact hch n hn
    have hmode := composePart_reg hc (a := Reg.CHIP_MODE) (by decide)
    generalize g.compose f s.directory.fmlActive = u at *
    refine ⟨?_, congrArg (fun x => x.2.1.inForce) hc, congrArg (fun x => x.2.1.slot) hc, congrArg (fun x => x.2.2.1) hc,
      (congrArg (fun x => x.2.2.2.1) hc).trans (congrArg MgmtState.flash hm')⟩
    obtain ⟨g1, g2, g3⟩ := he
    exact ⟨(md_of_reg (s := g) hmode).trans g1, (rd_of_reg (s := g) hmode _).trans g2, (rd_of_reg (s := g) hmode _).trans g3⟩
  · have hne : s.directory.fmlActive ≠ 1 - s.directory.fmlActive := by omega
    rw [bootFormula_plain hm hf ht hr hp hd]
    have e2 : [s.directory.fmlActive, 1 - s.directory.fmlActive].eraseDups = [s.directory.fmlActive, 1 - s.directory.fmlActive] := by
      rw [List.eraseDups_cons]
      simp [hne.symm, List.eraseDups_cons]
    rw [e2]
    simp only [State.tryFormulas, h1, h2, Option.none_or, Option.some_or, Option.map_some, Option.getD_some]
    obtain ⟨x1, -, -⟩ := showFmlErr_spec s e
    rw [showBootErr_some, bootStops_plain ((congrArg ModeState.fwFromPending (rest_mode x1)).trans hp)]
    generalize s.showFmlErr e = x at *
    obtain ⟨r1, r2, r3, -, r5, -⟩ := bootRecovery_spec x e.code
    exact ⟨r1, r2, r3, congrArg FormulaState.inForce (r5.trans (rest_fml x1))⟩
  · have e : s.composeDone = s.composed.raiseLossOnEntry := if_pos ⟨hm, by
      rw [Bool.not_eq_true', List.any_eq_false]
      intro q hq
      cases hp : s.portRec q with
      | none => simp
      | some p => simp [hr q hq p hp]⟩
    rw [e]
    obtain ⟨l, b, e2⟩ := raiseLossOnEntry_eq s.composed
    obtain ⟨c1, c2, c3⟩ := composed_spec s
    rw [e2]
    generalize s.composed = w at *
    exact ⟨c1, c2, c3⟩
  · have e : s.composeDone = s := if_neg fun h => by
      have := (List.any_eq_false.1 (by simpa using h.2 : (s.fml.retrain.any _) = false)) q hr
      simp [hp, hf] at this
    change Answers (done s.composeDone) _
    rw [e]
    exact answers_of_calm hq ⟨⟨rfl, rfl, rfl, rfl, rfl, rfl⟩, rfl, rfl, rfl⟩ fun l a b => ⟨hm, rfl, fun _ _ => rfl⟩

end Sys2Proof.Machine
end

section
/-!
LAW. The phases of RECOMPOSE (R61 to R64).
-/
namespace Sys2Proof.Machine

theorem rehome_none {s : State} (h : s.home = []) (new : List FlaconRec) :
    (s.rehome new).composePart = s.composePart := by
  unfold State.rehome
  rw [h]
  rfl

/-- The regions as SWITCH leaves them where no Flacon is affected. -/
def State.regionsKept (s1 : State) : State := { s1 with acc := { s1.acc with
    regions := s1.acc.regions.filter fun r => !([] : List Nat).contains r.2.flacon
    cache := s1.acc.cache.map fun c =>
      (c.1, c.2.filter fun i => !((s1.acc.regions.filter fun r => ([] : List Nat).contains r.2.flacon).map (·.1)).contains i) } }

theorem regionsKept_composePart (s : State) : s.regionsKept.composePart = s.composePart := (rfl)

/-- A port's fields back at their reset values. -/
def State.portGone (t : State) (f : Formula) (q : Nat) : State := ((t.unshowPort q).liveSched f q fun _ => true).liveGate f q

theorem portGone_composePart (t : State) (f : Formula) (q : Nat) : (t.portGone f q).composePart = t.composePart := by
  unfold State.portGone
  rw [liveGate_composePart, State.liveSched, composePart_modSched, unshowPort_composePart]

/-- The tables as SWITCH leaves them where no Flacon is affected and the new Formula has no port, before the directory is
written. -/
def State.switchedPlain (s : State) (f : Formula) (n : Nat) : State :=
  (((s.ports.map (·.port)).filter fun q => !([] : List PortRec).any fun p => p.port == q).foldl
    (fun (t : State) q => t.portGone f q) ((s.rehome f.flacons).liveBase f n).regionsKept).topnoteStart []

theorem switchTables_plain {s : State} {f : Formula} (n : Nat) (hl : s.affectedFlacons = []) (hp : f.ports = []) :
    s.switchTables f n = (s.switchedPlain f n).putDirectory fun d => { d with fmlActive := n } := by
  unfold State.switchTables State.switchedPlain
  simp only [hl, hp, List.foldl_nil]
  rfl

theorem topnoteStart_composePart (t : State) (l : List Nat) : (t.topnoteStart l).composePart = t.composePart := (rfl)

theorem switchedPlain_composePart {s : State} (h : s.home = []) (f : Formula) (n : Nat) :
    (s.switchedPlain f n).composePart = (s.inForceNow f n).composePart := by
  have hb : ((s.rehome f.flacons).liveBase f n).composePart = (s.inForceNow f n).composePart := by
    have hr := rehome_none h f.flacons
    rw [liveBase_composePart]
    exact Prod.ext (congrArg Prod.fst hr :) (Prod.ext (congrArg (fun x => { x.2.1 with inForce := some f, slot := n }) hr :)
      (Prod.ext rfl (congrArg (fun x => x.2.2.2) hr :)))
  unfold State.switchedPlain
  rw [topnoteStart_composePart, foldl_keep State.composePart _ (fun t q => portGone_composePart t f q), regionsKept_composePart, hb]

theorem switchTables_spec {s : State} {f : Formula} (n : Nat) (hl : s.affectedFlacons = []) (hp : f.ports = []) (h : s.home = []) :
    (s.switchTables f n).fml.inForce = some f ∧ (s.switchTables f n).fml.slot = n ∧ (s.switchTables f n).home = [] ∧
    (s.switchTables f n).md = s.md := by
  have hc := switchedPlain_composePart h f n
  rw [switchTables_plain n hl hp]
  generalize s.switchedPlain f n = u at *
  have hr := putDirectory_rest u fun d => { d with fmlActive := n }
  have hm := putDirectory_reg u (fun d => { d with fmlActive := n }) Reg.CHIP_MODE (by decide)
  have hf := (rest_fml hr).trans rfl
  refine ⟨?_, ?_, ?_, (md_of_reg hm).trans (md_of_reg (composePart_reg (s := s.inForceNow f n) hc (a := Reg.CHIP_MODE) (by decide)))⟩
  · rw [hf]; exact congrArg (fun x => x.2.1.inForce) hc
  · rw [hf]; exact congrArg (fun x => x.2.1.slot) hc
  · exact ((rest_home hr).trans rfl).trans ((congrArg (fun x => x.2.2.2.2) hc).trans h)

/-- No Formula left to apply. -/
def State.noNext (s : State) : State := { s with fml := { s.fml with next := none } }

theorem noNext_home (s : State) : s.noNext.home = s.home := rfl

theorem noNext_fml (s : State) : s.noNext.fml = { s.fml with next := none } := rfl

theorem noNext_reg (s : State) (a : Nat) : s.noNext.reg a = s.reg a := by
  unfold State.noNext
  simp only [reg_mk, regGet_regs]

/-- SWITCH where no Flacon is affected. -/
theorem recomposeSwitch_plain {s : State} {f : Formula} {n : Nat} (hm : s.md = .recompose) (hx : s.recomposePhase = 4)
    (hl : s.affectedFlacons = []) (hf : s.fml.next = some (f, n)) (hp : f.ports = []) : s.recomposeSwitch =
      ((s.switchTables f n).noNext.wr Reg.MG_FML_STATUS Fld.MG_FML_STATUS.PHASE 5).runSlices := by
  have hc : (s.md == .recompose && s.recomposePhase == 4 && s.affectedFlacons.all (fun f => s.canAdvance f true)) = true := by
    simp [hm, hx, hl]
  have hg : s.ports.filter (fun p => ([] : List Nat).contains p.flacon) = [] := by simp
  unfold State.recomposeSwitch
  simp only [hc, hf]
  simp only [hl, hp, List.filter_nil, hg, List.foldl_nil, List.nil_append, List.map_nil]
  rfl

theorem filter_ports_none {s : State} {f : Nat} (hp : ∀ p ∈ s.ports, p.flacon ≠ f) : s.ports.filter (fun p => p.flacon == f) = [] := by
  rw [List.filter_eq_nil_iff]
  intro p h
  simpa using hp p h

theorem poisonUnfinished_none {s : State} (h : s.home = []) (f : Nat) : s.poisonUnfinished f = s := by
  unfold State.poisonUnfinished
  rw [h]
  rfl

theorem foldl_fixed {α : Type} {f : State → α → State} {s : State} (L : List α) (h : ∀ x ∈ L, f s x = s) : L.foldl f s = s := by
  induction L with
  | nil => rfl
  | cons x L ih => rw [List.foldl_cons, h x (List.mem_cons_self ..), ih fun y hy => h y (List.mem_cons_of_mem _ hy)]

/-- DRAIN's time limit where nothing of the affected Flacons is held. -/
theorem recomposeTimeout_empty {s : State} (hm : s.md = .recompose) (hx : s.recomposePhase = 3) (he : s.arrayEmpty)
    (hp : ∀ p ∈ s.ports, p.flacon ∉ s.affectedFlacons) : s.recomposeTimeout =
      (s.set1 Reg.MG_FML_STATUS Fld.MG_FML_STATUS.DRAIN_TIMEOUT).wr Reg.MG_FML_STATUS Fld.MG_FML_STATUS.PHASE 4 := by
  obtain ⟨hh, hq, hw, hk, hg, -, -⟩ := he
  have hn : s.home.map (·.1) = [] := by rw [hh]; rfl
  unfold State.recomposeTimeout
  rw [if_pos ⟨hm, hx⟩]
  have hf := foldl_fixed (s := s) s.affectedFlacons (f := fun (t : State) f =>
      let t1 := (t.ports.filter fun p => p.flacon == f).foldl (fun u p => u.flushGate p.port fun _ => true) t
      let t2 := (t1.flushQueues fun _ g => g == f).endWaiting fun m => m.flacon == f
      let t3 := t2.orphanGates fun _ c => c.msg.flacon == f
      let t4 := (t3.home.map (·.1)).foldl (fun u n =>
        let gone := (u.slice n).conflict.filter fun c => c.msg.flacon == f && !isAlias c.msg
        let u1 := u.modSlice n fun x => { x with conflict := x.conflict.filter fun c => !(c.msg.flacon == f && !isAlias c.msg) }
        (gone.foldl (fun v c => (v.freeCell? c.cell).failRequest n c.msg) u1).failSlice n f) t3
      let t5 := (t4.ports.filter fun p => p.flacon == f).foldl (fun u p => u.dropRecords p.port) t4
      t5.poisonUnfinished f) fun f hf => by
    have hx := filter_ports_none fun p h => fun e => hp p h (e ▸ hf)
    simp only [hx, List.foldl_nil, flushQueues_none hq, endWaiting_none hw hk, orphanGates_none hg, hn, poisonUnfinished_none hh]
  simp only at hf ⊢
  rw [hf]
  exact runSlices_none hh

/-- The registers as RETRAIN's end leaves them. -/
def State.retrainShown (s : State) : State :=
  (List.range 32).foldl (fun t i => t.wrB (Reg.FL_STATUS i) Fld.FL_STATUS.AFFECTED false)
    (((s.goMode .serve 0x09).wr Reg.MG_FML_STATUS Fld.MG_FML_STATUS.PHASE 0).set1 Reg.MG_FML_STATUS Fld.MG_FML_STATUS.LIVE_DONE)

theorem retrainShown_spec (s : State) : s.retrainShown.entered s .serve 0x09 ∧ s.retrainShown.recomposePhase = 0 ∧
    s.retrainShown.on Reg.MG_FML_STATUS Fld.MG_FML_STATUS.LIVE_DONE = true ∧ s.retrainShown.affectedFlacons = [] ∧
    s.retrainShown.regsBut s (Reg.CHIP_MODE :: Reg.MG_FML_STATUS :: (List.range 32).map Reg.FL_STATUS) := by
  have hr := fun a h => sweep_reg Reg.FL_STATUS Fld.FL_STATUS.AFFECTED (fun _ => false) (List.range 32)
    (((s.goMode .serve 0x09).wr Reg.MG_FML_STATUS Fld.MG_FML_STATUS.PHASE 0).set1 Reg.MG_FML_STATUS Fld.MG_FML_STATUS.LIVE_DONE) a h
  have ho := sweep_on Reg.FL_STATUS Fld.FL_STATUS.AFFECTED (by decide) (by decide) (fun _ => false)
    (fun i j h => by simp only [Reg.FL_STATUS] at h; omega) (List.range 32)
    (((s.goMode .serve 0x09).wr Reg.MG_FML_STATUS Fld.MG_FML_STATUS.PHASE 0).set1 Reg.MG_FML_STATUS Fld.MG_FML_STATUS.LIVE_DONE)
  change ∀ a, _ → s.retrainShown.reg a = _ at hr
  change ∀ i, _ → s.retrainShown.on _ _ = _ at ho
  generalize s.retrainShown = u at *
  have h1 := hr Reg.MG_FML_STATUS fun i hi => by simp only [Reg.MG_FML_STATUS, Reg.FL_STATUS]; have := List.mem_range.1 hi; omega
  have h2 := hr Reg.CHIP_MODE fun i hi => by simp only [Reg.CHIP_MODE, Reg.FL_STATUS]; omega
  obtain ⟨⟨g1, g2, g3⟩, ⟨-, g4⟩, -⟩ := goMode_spec s .serve 0x09 (by decide)
  generalize s.goMode .serve 0x09 = g at *
  have h2' : u.reg Reg.CHIP_MODE = g.reg Reg.CHIP_MODE := h2.trans (by simp +decide)
  refine ⟨⟨(md_of_reg h2').trans g1, (rd_of_reg h2' _).trans g2, (rd_of_reg h2' _).trans g3⟩, ?_, ?_, ?_, fun a ha => ?_⟩
  · rw [State.recomposePhase, rd_of_reg h1]
    simp +decide
  · rw [on_of_reg h1]
    simp +decide
  · rw [State.affectedFlacons, List.filter_eq_nil_iff]
    intro i hi
    rw [State.affected, ho i hi]
    decide
  · simp only [List.mem_cons, List.mem_map, not_or, not_exists, not_and] at ha
    obtain ⟨a1, a2, a3⟩ := ha
    rw [hr a fun i hi e => a3 i hi e.symm]
    have := g4 a (by simpa using a1)
    simp [a2, this]

/-- RETRAIN's end, before what the entry of SERVE raises. -/
def State.retrained (s : State) : State :=
  { s.retrainShown with fml := { s.retrainShown.fml with retrain := [] } }

theorem recomposeRetrained_eq {s : State} (hm : s.md = .recompose) (hx : s.recomposePhase = 5) :
    s.recomposeRetrained = s.retrained.raiseLossOnEntry := if_pos ⟨hm, hx⟩

/-- Settles O13: each phase by the branch it takes; SWITCH through the frame of composing. -/
theorem recomposePhases : Obligations.RecomposePhases := by
  refine ⟨fun s hm hx ha => ⟨_, rfl, ?_⟩, fun s hm hx he hp => ⟨_, rfl, ?_⟩, fun s f n hm hx hl hf hp hh => ⟨_, rfl, ?_⟩,
    fun s hm hx => ⟨_, rfl, ?_⟩⟩
  · have e : s.recomposeDrained = s.wr Reg.MG_FML_STATUS Fld.MG_FML_STATUS.PHASE 4 := if_pos ⟨hm, hx, ha⟩
    rw [e]
    refine ⟨?_, ?_, fun a ha => reg_setReg_ne _ _ _ _ (by simpa using ha)⟩
    · simp +decide [State.recomposePhase]
    · exact (md_of_reg (s := s) (reg_setReg_ne _ _ _ _ (by decide))).trans hm
  · rw [recomposeTimeout_empty hm hx he hp]
    refine ⟨?_, ?_, fun a ha => ?_⟩
    · simp +decide [State.recomposePhase]
    · simp +decide
    · simp only [List.mem_singleton] at ha
      simp [ha]
  · obtain ⟨h1, h2, h3, h4⟩ := switchTables_spec n hl hp hh
    rw [recomposeSwitch_plain hm hx hl hf hp]
    have h5 : (s.switchTables f n).noNext.fml = { (s.switchTables f n).fml with next := none } := noNext_fml _
    have h6 : (s.switchTables f n).noNext.home = [] := (noNext_home _).trans h3
    have h7 := (md_of_reg (noNext_reg (s.switchTables f n) _)).trans h4
    generalize (s.switchTables f n).noNext = u at *
    rw [runSlices_none ((wr_home _ _ _ _).trans h6), wr_fml, h5]
    refine ⟨?_, h1, rfl, h2, ?_⟩
    · simp +decide [State.recomposePhase]
    · exact (md_of_reg (s := u) (reg_setReg_ne _ _ _ _ (by decide))).trans (h7.trans hm)
  · obtain ⟨h1, h2, h3, h4, h5⟩ := retrainShown_spec s
    rw [recomposeRetrained_eq hm hx]
    obtain ⟨l, b, e⟩ := raiseLossOnEntry_eq s.retrained
    rw [e]
    unfold State.retrained
    generalize s.retrainShown = u at *
    exact ⟨h1, h2, h3, h4, rfl, h5⟩

end Sys2Proof.Machine
end

section
/-!
LAW. The arbiters: the best requester, one decision, a round, parity, and what software asks of one.
-/
namespace Sys2Proof.Machine

/-! ### The best requester of a list -/

theorem bestOf_isSome (v : Nat → Nat) : ∀ {l : List Nat}, l ≠ [] → ∃ w, bestOf v l = some w
  | [], h => absurd rfl h
  | x :: r, _ => by
    unfold bestOf
    split
    · exact ⟨_, rfl⟩
    · split <;> exact ⟨_, rfl⟩

/-- The best requester is one of the list, and none of the list is better. -/
theorem bestOf_best (v : Nat → Nat) : ∀ {l : List Nat} {w : Nat}, bestOf v l = some w → w ∈ l ∧ ∀ i ∈ l, v i ≤ v w
  | [], _, h => nomatch h
  | x :: r, w, h => by
    unfold bestOf at h
    split at h
    next hn =>
      obtain rfl := Option.some.inj h
      have : r = [] := Classical.byContradiction fun hr => by
        obtain ⟨y, hy⟩ := bestOf_isSome v hr
        rw [hn] at hy
        exact nomatch hy
      subst this
      exact ⟨List.mem_cons_self, fun i hi => by rw [List.mem_singleton.mp hi]⟩
    next y hy =>
      obtain ⟨hm, hb⟩ := bestOf_best v hy
      split at h
      next hlt =>
        obtain rfl := Option.some.inj h
        refine ⟨List.mem_cons_of_mem _ hm, fun i hi => ?_⟩
        obtain rfl | hi := List.mem_cons.mp hi
        · exact hlt.le
        · exact hb i hi
      next hle =>
        obtain rfl := Option.some.inj h
        refine ⟨List.mem_cons_self, fun i hi => ?_⟩
        obtain rfl | hi := List.mem_cons.mp hi
        · exact le_refl _
        · exact (hb i hi).trans (not_lt.mp hle)

/-! ### One decision -/

/-- What a list of losers gets does not depend on the order in which they lose. -/
theorem tabGet_losers (g : Nat → Nat) : ∀ (l : List Nat) (t : Tab Nat) (i : Nat),
    tabGet (l.foldl (fun t i => tabPut t i (g i)) t) i 0 = if i ∈ l then g i else tabGet t i 0
  | [], _, _ => by simp
  | x :: r, t, i => by
    rw [List.foldl_cons, tabGet_losers g r]
    by_cases hr : i ∈ r
    · simp [hr]
    · by_cases hx : i = x <;> simp [hr, hx, tabGet_tabPut]

theorem tabGet_tabDel_same (t : Tab Nat) (k : Nat) : tabGet (tabDel t k) k 0 = 0 := by
  simp [tabGet, tabFind_tabDel]

/-- A normal decision (R100): its winner, the place and the loss count it leaves the winner, and the losers' loss counts. -/
theorem decide_spec (a : ArbState) (n starveN : Nat) (base : Nat → Nat) {elig : List Nat} (hne : elig ≠ [])
    (hs : ∀ i ∈ elig, i ∈ a.order n) :
    ∃ w ∈ elig, (a.decide n starveN base elig).1 = some w ∧ (a.decide n starveN base elig).2.owner = some w ∧
      (a.decide n starveN base elig).2.list.getLast? = some w ∧ tabGet (a.decide n starveN base elig).2.loss w 0 = 0 ∧
      (∀ i ∈ elig, i ≠ w → tabGet (a.decide n starveN base elig).2.loss i 0 = min 7 (tabGet a.loss i 0 + 1)) ∧
      (a.count + 1 ≠ starveN → ∀ i ∈ elig, effPrio base a i ≤ effPrio base a w) := by
  set order := (a.order n).filter elig.contains with ho
  have hmem : ∀ i, i ∈ order ↔ i ∈ elig := fun i => by
    simp only [ho, List.mem_filter, List.contains_iff_mem, and_iff_right_iff_imp]
    exact hs i
  have hno : order ≠ [] := by
    obtain ⟨i, hi⟩ := List.exists_mem_of_ne_nil _ hne
    exact List.ne_nil_of_mem ((hmem i).mpr hi)
  set v : Nat → Nat := if a.count + 1 == starveN then fun i => tabGet a.age i 0 else effPrio base a with hv
  obtain ⟨w, hw⟩ := bestOf_isSome v hno
  have hwin : (if a.count + 1 == starveN then bestOf (fun i => tabGet a.age i 0) order else bestOf (effPrio base a) order) =
      some w := by
    rw [← hw, hv]; split <;> rfl
  obtain ⟨hwm, hwb⟩ := bestOf_best v hw
  refine ⟨w, (hmem w).mp hwm, ?_⟩
  simp only [ArbState.decide, ← ho, hwin]
  refine ⟨trivial, trivial, List.getLast?_concat .., ?_, fun i hi hiw => ?_, fun hc i hi => ?_⟩
  · rw [tabGet_losers]
    simp [tabGet_tabDel_same]
  · rw [tabGet_losers]
    simp [(hmem i).mpr hi, hiw]
  · have hb := hwb i ((hmem i).mpr hi)
    rw [hv, if_neg (by simpa using hc)] at hb
    exact hb

/-! ### Rounds -/

theorem putArb_arb (s : State) (k j : Nat) (a : ArbState) : (s.putArb k a).arb j = if j = k then a else s.arb j := by
  simp [State.putArb, State.arb, tabGet_tabPut, eq_comm]

@[simp] theorem putArb_arb_same (s : State) (k : Nat) (a : ArbState) : (s.putArb k a).arb k = a := by simp [putArb_arb]

theorem putArb_eligible (s : State) (k : Nat) (a : ArbState) (ix : ArbIx) (req : List ArbReq) :
    (s.putArb k a).arbEligible ix req = s.arbEligible ix req := by
  cases ix <;> rfl

/-- The state in which a sound arbiter begins its round. -/
def State.arbSeen (s : State) (ix : ArbIx) : State := s.putArb (arbNo ix) (s.arb (arbNo ix))

theorem arbParity_sound (s : State) (ix : ArbIx) : s.arbParity ix false = s.arbSeen ix := by
  simp only [State.arbParity, State.arbSeen, Bool.or_false, Bool.false_and, Bool.false_eq_true, if_false]

theorem noteWin_none {ix : ArbIx} (hk : ∀ ch, ix ≠ .keep ch) (s : State) (w n : Nat) : s.noteWin ix w n = s := by
  cases ix with
  | keep ch => exact absurd rfl (hk ch)
  | plane | slice => rfl

/-- A round in which nobody asks: the arbiter parks. -/
theorem arbRound_idle {s : State} {ix : ArbIx} {req : List ArbReq} (n : Nat) (hk : ∀ ch, ix ≠ .keep ch)
    (hr : (s.arb (arbNo ix)).resync = false) (he : s.arbEligible ix req = []) :
    s.arbRound ix req n false false =
      (s.arbSeen ix).putArb (arbNo ix) { s.arb (arbNo ix) with parked := true, done := none } := by
  have e : (s.arbSeen ix).arbEligible ix req = [] := (putArb_eligible ..).trans he
  have ha : (s.arbSeen ix).arb (arbNo ix) = s.arb (arbNo ix) := putArb_arb_same ..
  cases ix with
  | keep ch => exact absurd rfl (hk ch)
  | plane | slice =>
    simp only [State.arbRound, hr, Bool.false_eq_true, if_false, arbParity_sound, ha, e, List.filter_nil, List.isEmpty_nil, if_true]

/-- A round in which only the parked owner asks. -/
theorem arbRound_parked {s : State} {ix : ArbIx} {req : List ArbReq} {o : Nat} (n : Nat) (hk : ∀ ch, ix ≠ .keep ch)
    (hr : (s.arb (arbNo ix)).resync = false) (ho : (s.arb (arbNo ix)).owner = some o) (he : s.arbEligible ix req = [o])
    (hd : (s.arb (arbNo ix)).done = none) (hv : (s.arb (arbNo ix)).reeval = false) :
    s.arbRound ix req n false false = (s.arbSeen ix).putArb (arbNo ix) { s.arb (arbNo ix) with
      parkedUses := min (2 ^ 32 - 1) ((s.arb (arbNo ix)).parkedUses + 1), parked := true, done := lastOf req o } := by
  have e : (s.arbSeen ix).arbEligible ix req = [o] := (putArb_eligible ..).trans he
  have ha : (s.arbSeen ix).arb (arbNo ix) = s.arb (arbNo ix) := putArb_arb_same ..
  rw [← noteWin_none hk (State.putArb ..) o n]
  cases ix with
  | keep ch => exact absurd rfl (hk ch)
  | plane | slice =>
    simp [State.arbRound, hr, arbParity_sound, ha, e, ho, hd, hv]

/-- A round that decides. -/
theorem arbRound_decides {s : State} {ix : ArbIx} {req : List ArbReq} (n : Nat) (hk : ∀ ch, ix ≠ .keep ch)
    (hr : (s.arb (arbNo ix)).resync = false) (hf : (s.arb (arbNo ix)).fallback = false)
    (hd : (s.arb (arbNo ix)).done = none) (he : s.arbEligible ix req ≠ [])
    (hp : (s.arb (arbNo ix)).reeval = true ∨ (∀ o, (s.arb (arbNo ix)).owner = some o → s.arbEligible ix req ≠ [o])) :
    s.arbRound ix req n false false =
      let d := (s.arb (arbNo ix)).decide (requesters ix)
        (s.rd (Reg.ARB_STATUS (arbBase (arbInst ix))) Fld.ARB_STATUS.STARVE_N)
        (fun k => s.rd (Reg.ARB_PRIO (arbBase (arbInst ix)) k) Fld.ARB_PRIO.BASE) (s.arbEligible ix req)
      (s.arbSeen ix).putArb (arbNo ix) { d.2 with reeval := false, done := d.1.bind (lastOf req), voids := d.2.voids } := by
  have e : (s.arbSeen ix).arbEligible ix req = s.arbEligible ix req := putArb_eligible ..
  have ha : (s.arbSeen ix).arb (arbNo ix) = s.arb (arbNo ix) := putArb_arb_same ..
  have hrd : ∀ a f, (s.arbSeen ix).rd a f = s.rd a f := fun _ _ => rfl
  have hx : (s.arbEligible ix req).filter (fun i => none != some i) = s.arbEligible ix req :=
    List.filter_eq_self.mpr fun _ _ => rfl
  have hn : (!(s.arb (arbNo ix)).reeval && (s.arb (arbNo ix)).owner.any fun o => s.arbEligible ix req == [o]) = false := by
    obtain hp | hp := hp
    · rw [hp]; rfl
    · cases ho : (s.arb (arbNo ix)).owner with
      | none => exact Bool.and_false _
      | some o => simp [hp o ho]
  have hi : (s.arbEligible ix req).isEmpty = false := by simpa using he
  cases ix with
  | keep ch => exact absurd rfl (hk ch)
  | plane | slice =>
    simp only [State.arbRound, hr, hf, arbParity_sound, ha, e, hd, hx, hn, hi, hrd, Bool.false_eq_true, if_false, Bool.false_and]
    generalize ArbState.decide _ _ _ _ _ = d
    rcases d with ⟨_ | w, a⟩ <;> rfl

/-- What a round of a sound arbiter of a quiet state answers. -/
theorem answers_arbSeen {s : State} {ix : ArbIx} {a : ArbState} {P : State → Prop} (hq : s.quiet = true)
    (hP : ∀ t : State, t.arb (arbNo ix) = a → (∀ r, t.reg r = s.reg r) → P t) :
    Answers (done ((s.arbSeen ix).putArb (arbNo ix) a)) P :=
  answers_of_calm hq ⟨⟨rfl, rfl, rfl, rfl, rfl, rfl⟩, rfl, rfl, rfl⟩
    fun _ _ _ => hP _ (putArb_arb_same _ (arbNo ix) a) fun _ => rfl

theorem arbRound_answers {s : State} (ix : ArbIx) (req : List ArbReq) (n : Nat) {P : State → Prop} (hc : s.md.clocked = true)
    (h : Answers (done (s.arbRound ix req n false false)) P) : Answers (exec (.arbiterRound ix req n false false) s) P := by
  change Answers (whenClocked s fun t => t.arbRound ix req n false false) _
  exact answers_clocked hc h

/-! ### Parity -/

theorem decideFallback_keeps (a : ArbState) (n : Nat) (elig : List Nat) :
    (a.decideFallback n elig).2.fallback = a.fallback := by
  unfold ArbState.decideFallback
  split <;> rfl

theorem noteWin_arb (s : State) (ix : ArbIx) (w n k : Nat) : (s.noteWin ix w n).arb k = s.arb k := by cases ix <;> rfl
theorem noteWin_flt (s : State) (ix : ArbIx) (w n : Nat) : (s.noteWin ix w n).flt = s.flt := by cases ix <;> rfl
theorem noteWin_regs (s : State) (ix : ArbIx) (w n : Nat) : (s.noteWin ix w n).regs = s.regs := by cases ix <;> rfl

/-- What a round leaves of the state in which its parity has been checked. -/
def State.roundKeeps (u t : State) (k : Nat) : Prop :=
  u.regs = t.regs ∧ u.flt = t.flt ∧ (u.arb k).fallback = (t.arb k).fallback

theorem putArb_roundKeeps {t : State} {k : Nat} {a : ArbState} (h : a.fallback = (t.arb k).fallback) :
    (t.putArb k a).roundKeeps t k := ⟨rfl, rfl, by rw [putArb_arb_same, h]⟩

theorem noteWin_roundKeeps {u t : State} {k : Nat} (h : u.roundKeeps t k) (ix : ArbIx) (w n : Nat) :
    (u.noteWin ix w n).roundKeeps t k :=
  ⟨(noteWin_regs ..).trans h.1, (noteWin_flt ..).trans h.2.1, by rw [noteWin_arb, h.2.2]⟩

theorem roundKeeps_ite {u v t : State} {k : Nat} {c : Prop} [Decidable c] (hu : u.roundKeeps t k) (hv : v.roundKeeps t k) :
    (if c then u else v).roundKeeps t k := by
  split <;> assumption

theorem arbRound_roundKeeps {s : State} {ix : ArbIx} (req : List ArbReq) (n : Nat)
    (hr : (s.arb (arbNo ix)).resync = false) (hf : ((s.arbParity ix true).arb (arbNo ix)).fallback = true) :
    (s.arbRound ix req n true false).roundKeeps (s.arbParity ix true) (arbNo ix) := by
  unfold State.arbRound
  simp only [hr, Bool.false_eq_true, if_false, hf, if_true, Bool.false_and]
  refine roundKeeps_ite (noteWin_roundKeeps (putArb_roundKeeps hf.symm) ..) (roundKeeps_ite (putArb_roundKeeps hf.symm)
    (roundKeeps_ite (noteWin_roundKeeps (putArb_roundKeeps hf.symm) ..) ?_))
  generalize hd : ArbState.decideFallback _ _ _ = d
  have hk : d.2.fallback = ((s.arbParity ix true).arb (arbNo ix)).fallback := by rw [← hd, decideFallback_keeps]
  rcases d with ⟨_ | w, a⟩
  · exact putArb_roundKeeps hk
  · exact noteWin_roundKeeps (putArb_roundKeeps (a := { a with reeval := false, done := lastOf req w }) hk) ix w n

/-- The first parity failure of an arbiter that is not in fallback. -/
theorem arbParity_fails {s : State} {ix : ArbIx} (h : (s.arb (arbNo ix)).fallback = false) :
    s.arbParity ix true = ((s.putArb (arbNo ix) { s.arb (arbNo ix) with fallback := true }).set1
      (Reg.ARB_STATUS (arbBase (arbInst ix))) Fld.ARB_STATUS.PARITY_ERR).raise (paritySrc (arbInst ix)) none := by
  simp only [State.arbParity, h, Bool.or_true, Bool.not_false, Bool.and_self, if_true]

/-! ### Registers that software writes -/

/-- An arbiter of which software asks something that does not touch whether it is in fallback. -/
def State.arbMark (s : State) (c : ArbState → Bool) (g : ArbState → ArbState) (l : List Nat) : State :=
  l.foldl (fun t k => if c (t.arb k) then t.putArb k (g (t.arb k)) else t) s

theorem arbMark_onlySched (c : ArbState → Bool) (g : ArbState → ArbState) : ∀ (l : List Nat) (s : State),
    ∃ x, s.arbMark c g l = { s with sched := x }
  | [], s => ⟨_, rfl⟩
  | k :: l, s => by
    have e : s.arbMark c g (k :: l) = (if c (s.arb k) then s.putArb k (g (s.arb k)) else s).arbMark c g l := rfl
    rw [e]
    split
    · obtain ⟨x, hx⟩ := arbMark_onlySched c g l (s.putArb k (g (s.arb k)))
      exact ⟨x, hx⟩
    · exact arbMark_onlySched c g l s

/-- Each arbiter of the list is marked once, where the mark is one that stays. -/
theorem arbMark_arb {c : ArbState → Bool} {g : ArbState → ArbState} (hg : ∀ a, c a = true → g (g a) = g a) (j : Nat) :
    ∀ (l : List Nat) (s : State), (s.arbMark c g l).arb j = if j ∈ l ∧ c (s.arb j) = true then g (s.arb j) else s.arb j
  | [], s => by simp [State.arbMark]
  | k :: l, s => by
    have e : s.arbMark c g (k :: l) = (if c (s.arb k) then s.putArb k (g (s.arb k)) else s).arbMark c g l := rfl
    rw [e, arbMark_arb hg j l]
    by_cases hj : j = k
    · subst hj
      by_cases hc : c (s.arb j) = true
      · simp only [hc, if_true, putArb_arb_same, List.mem_cons, true_or, and_self, hg _ hc]
        split <;> rfl
      · simp [hc]
    · split <;> simp [hj, putArb_arb]

theorem arbResync_eq (s : State) (i : ArbInst) :
    s.arbResync i = s.arbMark (·.fallback) (fun a => { a with resync := true }) (arbsOf i) := rfl

theorem arbPrio_eq {i : ArbInst} {n : Nat} (s : State) (b : Nat) (h : n < familySize i) :
    s.arbPrio i n b = (s.wr (Reg.ARB_PRIO (arbBase i) n) Fld.ARB_PRIO.BASE b).arbMark
      (fun a => a.parked && a.owner == some n) (fun a => { a with reeval := true }) (arbsOf i) := if_pos h

theorem arbPrio_beyond {i : ArbInst} {n : Nat} (s : State) (b : Nat) (h : familySize i ≤ n) : s.arbPrio i n b = s :=
  if_neg (by omega)

/-- What a change of scheduling state alone answers. -/
theorem answers_of_sched {s u : State} {P : State → Prop} (hq : s.quiet = true) (hu : ∃ x, u = { s with sched := x })
    (hP : ∀ t : State, t.sched = u.sched → (∀ a, t.reg a = s.reg a) → P t) : Answers (done u) P := by
  obtain ⟨x, rfl⟩ := hu
  exact answers_of_calm hq ⟨⟨rfl, rfl, rfl, rfl, rfl, rfl⟩, rfl, rfl, rfl⟩ fun _ _ _ => hP _ rfl fun _ => rfl

theorem arb_of_sched {t u : State} (h : t.sched = u.sched) (k : Nat) : t.arb k = u.arb k := by
  simp only [State.arb, h]

theorem hasRaised_of_flt {u t : State} {n : Nat} {f : Option FlaconIx} (h : u.flt = t.flt) (ht : t.hasRaised n f) :
    u.hasRaised n f := by
  obtain ⟨o, ho, hn⟩ := ht
  exact ⟨o, by rw [h]; exact ho, hn⟩

theorem prio_high {i : ArbInst} {n : Fin 128} : ∀ a ∈ calmRegs, a ≠ Reg.ARB_PRIO (arbBase i) n.val := by
  simp only [calmRegs, List.mem_cons, List.not_mem_nil, or_false, forall_eq_or_imp, forall_eq, Reg.CHIP_MODE,
    Reg.PC_SUPV_STATUS, Reg.MG_FML_STATUS, Reg.ARB_PRIO]
  cases i <;> simp only [arbBase, Reg.XB_CTL, Reg.HS_CTL] <;> omega

/-- Settles O17: a round by the three ways it can go, then parity, then what software writes. -/
theorem arbiterRounds : Obligations.ArbiterRounds := by
  refine ⟨?_, ?_, ?_, ?_, ?_, ?_, ?_, ?_, ?_⟩
  · intro s ix req n hq hc hk hr hf hd he hp hs
    refine arbRound_answers ix req n hc ?_
    rw [arbRound_decides n hk hr hf hd he hp]
    obtain ⟨w, hw, h1, h2, h3, h4, h5, h6⟩ := decide_spec (s.arb (arbNo ix)) (requesters ix)
      (s.rd (Reg.ARB_STATUS (arbBase (arbInst ix))) Fld.ARB_STATUS.STARVE_N)
      (fun k => s.rd (Reg.ARB_PRIO (arbBase (arbInst ix)) k) Fld.ARB_PRIO.BASE) he hs
    refine answers_arbSeen hq fun t ht hreg => ⟨⟨w, hw, ?_⟩, fun a _ => hreg a⟩
    rw [ht]
    exact ⟨h2, h3, h4, h5, h6⟩
  · intro s ix req n o hq hc hk hr ho he hd hv
    refine arbRound_answers ix req n hc ?_
    rw [arbRound_parked n hk hr ho he hd hv]
    exact answers_arbSeen hq fun t ht hreg => ⟨ht, fun a _ => hreg a⟩
  · intro s ix req n hq hc hk hr he
    refine arbRound_answers ix req n hc ?_
    rw [arbRound_idle n hk hr he]
    exact answers_arbSeen hq fun t ht hreg => ⟨ht, fun a _ => hreg a⟩
  · intro s ix req n hc hr hf
    change Leaves (whenClocked s fun t => t.arbRound ix req n true false) _
    refine leaves_clocked hc ?_
    have e := arbParity_fails hf
    have hf1 : ((s.arbParity ix true).arb (arbNo ix)).fallback = true := by
      rw [e, arb_of_sched ((raise_sched ..).trans (set1_sched ..)), putArb_arb_same]
    obtain ⟨k1, k2, k3⟩ := arbRound_roundKeeps req n hr hf1
    have hreg : ∀ a, (s.arbRound ix req n true false).reg a = (s.arbParity ix true).reg a := fun a => congrArg (regGet · a) k1
    refine ⟨k3.trans hf1, ?_, ?_, fun a ha => ?_⟩
    · refine hasRaised_of_flt k2 ?_
      rw [e]
      exact hasRaised_raise _ _
    · rw [on_of_reg (hreg _), e, on_of_reg (raise_reg ..)]
      exact on_set1 _ _ _ (by decide) (by decide)
    · rw [hreg, e]
      rw [raise_reg, set1_eq, reg_wr, if_neg (List.ne_of_not_mem_cons ha)]
      rfl
  · intro s p i hq ha
    change Answers (s.written p fun t => t.arbResync i) _
    refine written_answers_of ha fun x => ?_
    rw [arbResync_eq]
    refine answers_of_sched (s := s.withHold x) hq (arbMark_onlySched ..) fun t ht hreg => ?_
    have ha : ∀ k, t.arb k = if k ∈ arbsOf i ∧ (s.arb k).fallback = true then { s.arb k with resync := true } else s.arb k :=
      fun k => (arb_of_sched ht k).trans (arbMark_arb (g := fun a => { a with resync := true }) (fun _ _ => rfl) k _ _)
    refine ⟨fun k hk hb => ?_, fun k hk hb => ?_, fun a _ => hreg a⟩
    · rw [ha, if_pos ⟨hk, hb⟩]
    · rw [ha, if_neg (by simp [hb])]
  · intro s p i hq ha
    change Answers (s.written p fun t => t.arbClear i) _
    refine written_answers_of ha fun x => ?_
    refine answers_of_sched (s := s.withHold x) hq ⟨_, rfl⟩ fun t ht hreg => ⟨?_, fun a _ => hreg a⟩
    exact (arb_of_sched ht _).trans (putArb_arb_same ..)
  · intro s p i n b hq ha hn
    change Answers (s.written p fun t => t.arbPrio i n.val b.val) _
    refine written_answers_of ha fun x => ?_
    rw [arbPrio_eq _ _ hn]
    obtain ⟨y, hy⟩ := arbMark_onlySched (fun a => a.parked && a.owner == some n.val) (fun a => { a with reeval := true })
      (arbsOf i) ((s.withHold x).wr (Reg.ARB_PRIO (arbBase i) n.val) Fld.ARB_PRIO.BASE b.val)
    have hm := fun k => arbMark_arb (c := fun a => a.parked && a.owner == some n.val) (g := fun a => { a with reeval := true })
      (fun _ _ => rfl) k (arbsOf i) ((s.withHold x).wr (Reg.ARB_PRIO (arbBase i) n.val) Fld.ARB_PRIO.BASE b.val)
    have hr : ∀ a, a ≠ Reg.ARB_PRIO (arbBase i) n.val →
        ((s.withHold x).wr (Reg.ARB_PRIO (arbBase i) n.val) Fld.ARB_PRIO.BASE b.val).reg a = s.reg a := fun a h => by
      rw [reg_wr, if_neg h, withHold_reg]
    rw [hy]
    refine answers_of_calm (s := s) hq ⟨⟨rfl, rfl, rfl, rfl, rfl, rfl⟩, md_of_reg (hr _ ?_), hr _ ?_, hr _ ?_⟩
      fun _ _ _ => ⟨?_, fun k hk hp ho => ?_, fun a h => hr a (List.ne_of_not_mem_cons h)⟩
    · exact prio_high _ (by decide)
    · exact prio_high _ (by decide)
    · exact prio_high _ (by decide)
    · refine (rd_wr _ _ _ _ (by decide)).trans (Nat.mod_eq_of_lt b.isLt)
    · have h := hm k
      rw [hy] at h
      refine (congrArg ArbState.reeval h).trans ?_
      rw [if_pos ⟨hk, by simpa using ⟨hp, ho⟩⟩]
  · intro s p i n b hq ha hn
    change Answers (s.written p fun t => t.arbPrio i n.val b.val) _
    refine written_answers_of ha fun x => ?_
    rw [arbPrio_beyond _ _ hn]
    exact answers_of_sched (s := s.withHold x) hq ⟨_, rfl⟩ fun t _ hreg a _ => hreg a
  · intro s c hq hc
    change Answers (whenClocked s fun t => t.keepWindowEnd c.val) _
    refine answers_clocked hc (answers_of_sched hq ⟨_, rfl⟩ fun t ht hreg => ⟨fun e he => ?_, ?_, fun a _ => hreg a⟩)
    · rw [ht] at he
      simpa using (List.mem_filter.mp he).2
    · rw [ht]
      exact tabGet_tabDel_same _ _

end Sys2Proof.Machine
end

section
/-!
LAW. Link layers of the fabric ports: what a flit start emits, repeats, replays, and a restart.
-/
namespace Sys2Proof.Machine

/-! ### The link state of a port -/

theorem putLink_linkSt (s : State) (q : Nat) (l : LinkState) (k : Nat) :
    (s.putLink q l).linkSt k = if k = q then l else s.linkSt k := by
  simp [State.putLink, State.linkSt, tabGet_tabPut, eq_comm]

@[simp] theorem putLink_linkSt_same (s : State) (q : Nat) (l : LinkState) : (s.putLink q l).linkSt q = l := by
  simp [putLink_linkSt]

@[simp] theorem modLink_linkSt (s : State) (q : Nat) (g : LinkState → LinkState) : (s.modLink q g).linkSt q = g (s.linkSt q) := by
  simp [State.modLink]

@[simp] theorem wr_linkSt (s : State) (a : Nat) (f : Fld) (x q : Nat) : (s.wr a f x).linkSt q = s.linkSt q := (rfl)
@[simp] theorem raise_linkSt (s : State) (n : Nat) (f : Option Nat) (q : Nat) : (s.raise n f).linkSt q = s.linkSt q := (rfl)
@[simp] theorem emit_linkSt (s : State) (o : Out) (q : Nat) : (s.emit o).linkSt q = s.linkSt q := (rfl)
@[simp] theorem modLink_reg (s : State) (q : Nat) (g : LinkState → LinkState) (a : Nat) : (s.modLink q g).reg a = s.reg a := (rfl)
@[simp] theorem modLink_rd (s : State) (q : Nat) (g : LinkState → LinkState) (a : Nat) (f : Fld) :
    (s.modLink q g).rd a f = s.rd a f := (rfl)
@[simp] theorem modLink_linkState (s : State) (q : Nat) (g : LinkState → LinkState) (k : Nat) :
    (s.modLink q g).linkState k = s.linkState k := (rfl)

/-- u is s but for the link layers, the outputs and the registers. -/
def State.linkOnly (u s : State) : Prop := u = { s with regs := u.regs, link := u.link, out := u.out }

theorem linkOnly_refl (s : State) : s.linkOnly s := rfl

theorem linkOnly_trans {t u s : State} (h : t.linkOnly u) (k : u.linkOnly s) : t.linkOnly s := by
  unfold State.linkOnly at *
  rw [h, k]

theorem linkOnly_modLink {u s : State} (h : u.linkOnly s) (q : Nat) (g : LinkState → LinkState) : (u.modLink q g).linkOnly s :=
  linkOnly_trans (u := u) (rfl : (u.modLink q g).linkOnly u) h

theorem linkOnly_putLink {u s : State} (h : u.linkOnly s) (q : Nat) (l : LinkState) : (u.putLink q l).linkOnly s :=
  linkOnly_trans (u := u) (rfl : (u.putLink q l).linkOnly u) h

theorem linkOnly_emit {u s : State} (h : u.linkOnly s) (o : Out) : (u.emit o).linkOnly s :=
  linkOnly_trans (u := u) (rfl : (u.emit o).linkOnly u) h

theorem linkOnly_wr {u s : State} (h : u.linkOnly s) (a : Nat) (f : Fld) (x : Nat) : (u.wr a f x).linkOnly s :=
  linkOnly_trans (u := u) (rfl : (u.wr a f x).linkOnly u) h

/-- A change of the link layers that leaves the registers which the collector reads is calm. -/
theorem calm_of_linkOnly {u s : State} (h : u.linkOnly s) (hr : ∀ a ∈ calmRegs, u.reg a = s.reg a) : u.calm s := by
  refine ⟨?_, md_of_reg (hr _ (by decide)), hr _ (by decide), hr _ (by decide)⟩
  rw [h]
  exact ⟨rfl, rfl, rfl, rfl, rfl, rfl⟩

/-- What a change of a port's link layer answers: it keeps every register outside a list of port registers. -/
theorem answers_of_link {s u : State} {P : State → Prop} (hq : s.quiet = true) (h : u.linkOnly s) (l : List Nat)
    (hl : ∀ a ∈ l, a ∉ calmRegs) (hr : u.regsBut s l)
    (hP : ∀ t : State, t.link = u.link → (∀ o ∈ u.out, o ∈ t.out) → t.regs = u.regs → t.core = s.core → t.lane = s.lane → P t) :
    Answers (done u) P :=
  answers_of_calm hq (calm_of_linkOnly h fun a ha => hr a fun hx => hl a hx ha)
    fun _ _ _ => hP _ rfl (fun _ ho => List.mem_append_right _ ho) rfl (by rw [h]) (by rw [h])

theorem linkSt_of_link {t u : State} (h : t.link = u.link) (q : Nat) : t.linkSt q = u.linkSt q := by
  simp only [State.linkSt, h]

theorem reg_of_regs {t u : State} (h : t.regs = u.regs) (a : Nat) : t.reg a = u.reg a := congrArg (regGet · a) h

/-- Port registers of a tile are none that the collector reads. -/
theorem portReg_not_calm {a : Nat} (h : 0x100 ≤ a % 0x10000) : a ∉ calmRegs := by
  simp only [calmRegs, List.mem_cons, List.not_mem_nil, or_false, not_or, Reg.CHIP_MODE, Reg.PC_SUPV_STATUS, Reg.MG_FML_STATUS]
  omega

theorem LL_STATUS_not_calm (q : Nat) : Reg.PT_LL_STATUS q ∉ calmRegs := portReg_not_calm (by simp only [Reg.PT_LL_STATUS]; omega)
theorem LL_ERR_not_calm (q : Nat) : Reg.PT_LL_ERR q ∉ calmRegs := portReg_not_calm (by simp only [Reg.PT_LL_ERR]; omega)
theorem LL_EVENTS_not_calm (q : Nat) : Reg.PT_LL_EVENTS q ∉ calmRegs := portReg_not_calm (by simp only [Reg.PT_LL_EVENTS]; omega)
theorem LL_REPLAY_not_calm (q : Nat) : Reg.PT_LL_REPLAY q ∉ calmRegs := portReg_not_calm (by simp only [Reg.PT_LL_REPLAY]; omega)

@[simp] theorem LL_ERR_ne_EVENTS (q : Nat) : Reg.PT_LL_ERR q ≠ Reg.PT_LL_EVENTS q := by
  simp only [Reg.PT_LL_ERR, Reg.PT_LL_EVENTS]; omega
@[simp] theorem LL_ERR_ne_STATUS (q : Nat) : Reg.PT_LL_ERR q ≠ Reg.PT_LL_STATUS q := by
  simp only [Reg.PT_LL_ERR, Reg.PT_LL_STATUS]; omega
@[simp] theorem LL_EVENTS_ne_STATUS (q : Nat) : Reg.PT_LL_EVENTS q ≠ Reg.PT_LL_STATUS q := by
  simp only [Reg.PT_LL_EVENTS, Reg.PT_LL_STATUS]; omega

/-! ### Flits sent -/

/-- What the flow-control bits of a port leave: nothing but the bits. -/
theorem xoffUpdate_spec (s : State) (p : PortRec) :
    ∃ a b, s.xoffUpdate p = s.putLink p.port { s.linkSt p.port with xoffAll := a, xoffOut := b } := ⟨_, _, rfl⟩

/-- A link whose flow-control bits and credit rotation have moved on with a flit sent. -/
def LinkState.sent (l : LinkState) (all : Bool) (subs : Nat) (dirty : List Nat) (last : Nat) : LinkState :=
  { l with xoffAll := all, xoffOut := subs, nakSend := false, crgDirty := dirty, crgLast := last }

/-- One flit emitted (R272): its fields, and what it leaves of the link. -/
theorem emitFlit_spec (s : State) (p : PortRec) (fseq : Nat) (null : Bool) (slots : List SlotOut) (by_ : Option Bypass)
    (hn : (s.linkSt p.port).nakSend = false) :
    ∃ (u : State) (f : FlitIn), s.emitFlit p fseq null slots by_ = u.emit (.flit p.port f) ∧ u.linkOnly s ∧ u.regs = s.regs ∧
      (∃ a b d e, u.linkSt p.port = (s.linkSt p.port).sent a b d e) ∧
      f.fseq.val = fseq % 4096 ∧ f.ackSeq.val = (4095 + (s.linkSt p.port).rxNext) % 4096 ∧ f.nak = false ∧
      f.ackV = (s.linkSt p.port).rxAny ∧ f.null = null ∧ f.slots = slots.map SlotOut.onWire ∧ f.bypass = by_ := by
  obtain ⟨a, b, hx⟩ := xoffUpdate_spec s p
  unfold State.emitFlit
  simp only [hx, putLink_linkSt_same, hn, Bool.false_eq_true, if_false]
  exact ⟨_, _, rfl, rfl, rfl, ⟨a, b, _, _, (modLink_linkSt ..).trans (by rw [putLink_linkSt_same]; rfl)⟩,
    rfl, rfl, rfl, rfl, rfl, rfl, rfl⟩

/-- A flit start with nothing to send (R272). -/
theorem newFlit_idle {s : State} {p : PortRec} (hf : (s.linkSt p.port).filling = []) (hl : (s.linkSt p.port).bypassLc = [])
    (hm : (s.linkSt p.port).bypassMc0 = []) : s.newFlit p = s.emitFlit p (s.linkSt p.port).txNext true [] none := by
  simp [State.newFlit, hf, hl, hm]

/-- The link after a new flit: the flit is stored until it is acknowledged. -/
def LinkState.stores (x : LinkState) : LinkState :=
  { x with stored := x.stored ++ [{ fseq := x.txNext, slots := x.filling, bypass := none }], txNext := (x.txNext + 1) % 4096,
           filling := [], bypassLc := [], bypassMc0 := [] }

/-- A flit start with cells and room. -/
theorem newFlit_cells {s : State} {p : PortRec} (hf : (s.linkSt p.port).filling ≠ []) (hl : (s.linkSt p.port).bypassLc = [])
    (hm : (s.linkSt p.port).bypassMc0 = []) (hr : (s.linkSt p.port).stored.length < replayFlits p.width) :
    s.newFlit p = (s.emitFlit p (s.linkSt p.port).txNext false (s.linkSt p.port).filling none).modLink p.port
      LinkState.stores := by
  have h1 : decide (replayFlits p.width ≤ (s.linkSt p.port).stored.length) = false := by simpa using hr
  have h2 : (s.linkSt p.port).filling.isEmpty = false := by simpa using hf
  simp only [State.newFlit, hl, hm, h1, h2]
  rfl

/-- What a flit start does on a running port. -/
theorem flitSend_runs {s : State} {q : Nat} {p : PortRec} (hp : s.portRec q = some p) (hf : p.fabric = true)
    (hs : s.linkState q = 2) (hm : (s.linkSt q).txMap ≠ []) (hr : (s.linkSt q).restarting = false)
    (hn : (s.linkSt q).resend = none) : s.flitSend q = s.newFlit p := by
  have he : (s.linkSt q).txMap.isEmpty = false := by simpa using hm
  simp [State.flitSend, hp, hf, hs, he, hr, hn]

/-- One stored flit resent (R282). -/
theorem flitSend_resends {s : State} {q f : Nat} {p : PortRec} {r : FlitRec} (hp : s.portRec q = some p)
    (hf : p.fabric = true) (hs : s.linkState q = 2) (hm : (s.linkSt q).txMap ≠ []) (hr : (s.linkSt q).restarting = false)
    (hn : (s.linkSt q).resend = some f) (ho : (s.linkSt q).resendOne = true)
    (hw : (s.linkSt q).stored.find? (fun x => x.fseq == f) = some r) :
    s.flitSend q = ((s.emitFlit p r.fseq false r.slots r.bypass).inc (Reg.PT_LL_REPLAY q) Fld.PT_LL_REPLAY.FLITS).modLink q
      fun x => { x with resend := none } := by
  have he : (s.linkSt q).txMap.isEmpty = false := by simpa using hm
  simp only [State.flitSend, hp, hf, hs, he, hr, hn, ho, hw, Bool.not_true, Bool.false_eq_true, OfNat.ofNat_ne_zero, or_self,
    if_false, Option.some_or, if_true]
  rfl

/-- The capabilities that a restarting port offers (R291). -/
def State.initCaps (s : State) (p : PortRec) (q : Nat) : LlCaps :=
  { version := 1, rxNext := (s.linkSt q).rxNext, tentOk := p.protocol == .ictil
    resume := !s.on (Reg.PT_LL_CTL q) Fld.PT_LL_CTL.NO_RESUME && p.protocol == .ictil && s.linkState q == 3 }

/-- A flit start of a restarting port that has sent no LL_INIT yet. -/
theorem flitSend_inits {s : State} {q : Nat} {p : PortRec} (hp : s.portRec q = some p) (hf : p.fabric = true)
    (hs : s.linkState q ≠ 0) (hm : (s.linkSt q).txMap ≠ []) (hr : (s.linkSt q).restarting = true) :
    s.flitSend q = ((s.emitFlit p (s.linkSt q).txNext true [] (some (.lc (.llInit (s.initCaps p q))))).modLink q fun x =>
      { x with initSent := true, initOffer := if x.initSent then x.initOffer else (s.initCaps p q).resume }).settleInit p := by
  have he : (s.linkSt q).txMap.isEmpty = false := by simpa using hm
  simp only [State.flitSend, hp, hf, hs, he, hr, Bool.not_true, Bool.false_eq_true, or_self, if_false, if_true]
  rfl

/-- The exchange of LL_INIT waits for the partner's. -/
theorem settleInit_waits {s : State} {p : PortRec} (h : (s.linkSt p.port).initIn = none) : s.settleInit p = s := by
  simp only [State.settleInit]
  split
  next h2 => exact nomatch h.symm.trans h2
  · rfl

/-! ### Repeats and restarts -/

/-- A NAK is sent (R278), beside a Flocet link's eighth. -/
theorem sendNak_ictil {s : State} {p : PortRec} {again : Bool} (hp : p.protocol = .ictil)
    (h : (s.linkSt p.port).nakOut = false ∨ again = true) :
    s.sendNak p again = s.modLink p.port fun x =>
      { x with nakOut := true, nakSend := true, nakCount := (s.linkSt p.port).nakCount + 1 } := by
  have h1 : ¬ ((s.linkSt p.port).nakOut ∧ !again) := by
    obtain h | h := h <;> simp [h]
  simp only [State.sendNak, h1, if_false, hp, reduceCtorEq, false_and]

theorem raise_keeps_raised (s : State) (n : Nat) (f : Option Nat) : ∀ o ∈ s.flt.raised, o ∈ (s.raise n f).flt.raised :=
  fun _ h => List.mem_append_left _ h

theorem linkErr_reg (s : State) (q : Nat) (f : Fld) (k a : Nat) (h : a ≠ Reg.PT_LL_ERR q) : (s.linkErr q f k).reg a = s.reg a := by
  unfold State.linkErr
  rw [raise_reg, set1_eq, reg_wr, if_neg h]

theorem linkErr_on (s : State) (q : Nat) (f : Fld) (k : Nat) (h : f.lo + f.width ≤ 64) (hw : 0 < f.width) :
    (s.linkErr q f k).on (Reg.PT_LL_ERR q) f = true := by
  rw [State.linkErr, raise_on]
  exact on_set1 s _ f h hw

theorem linkErr_hasRaised (s : State) (q : Nat) (f : Fld) (k : Nat) :
    (s.linkErr q f k).hasRaised (srcQuad (quadOf (tileOf q)) k) none := by
  unfold State.linkErr
  exact hasRaised_raise _ _

@[simp] theorem linkErr_linkSt (s : State) (q : Nat) (f : Fld) (k j : Nat) : (s.linkErr q f k).linkSt j = s.linkSt j := by
  rw [State.linkErr, raise_linkSt, set1_eq, wr_linkSt]

theorem hasRaised_raised {u t : State} {n : Nat} {f : Option FlaconIx} (h : ∀ o ∈ t.flt.raised, o ∈ u.flt.raised)
    (ht : t.hasRaised n f) : u.hasRaised n f := by
  obtain ⟨o, ho, hn⟩ := ht
  exact ⟨o, h o ho, hn⟩

theorem linkErr_raised (s : State) (q : Nat) (f : Fld) (k : Nat) : ∀ o ∈ s.flt.raised, o ∈ (s.linkErr q f k).flt.raised := by
  intro o h
  unfold State.linkErr
  exact raise_keeps_raised _ _ _ o (by rw [set1_flt]; exact h)

/-- A link whose requests are completed elsewhere: what is stored keeps no request (R292). -/
def LinkState.dropped (l : LinkState) : LinkState :=
  { l with
    stored := l.stored.map fun (f : FlitRec) => { f with slots := f.slots.filterMap SlotOut.keep? }
    filling := l.filling.filterMap SlotOut.keep? }

/-- With no request outstanding, the link-drop rule touches only what is stored. -/
theorem linkDrop_none {s : State} (q : Nat) (h : s.core.otags = []) : s.linkDrop q = s.modLink q LinkState.dropped := by
  have e : (s.modLink q LinkState.dropped).recordsOf q false = [] := by
    unfold State.recordsOf
    exact (congrArg (List.filter _) h).trans (List.filter_nil ..)
  change (s.modLink q LinkState.dropped).dropRecords q = _
  unfold State.dropRecords
  rw [e]
  rfl

/-- A link that has begun its exchange of LL_INIT anew. -/
def LinkState.restarted (l : LinkState) : LinkState :=
  { l with restarting := true, initSent := false, initIn := none, initOffer := false, lanesKept := true }

/-- A running link whose window is not 0 lingers as it restarts (R291, R292). -/
theorem linkRestart_eq {s : State} {p : PortRec} (hs : s.linkState p.port = 2) (hl : p.lingerMs ≠ 0)
    (ho : s.core.otags = []) :
    s.linkRestart p = (((((s.inc (Reg.PT_LL_EVENTS p.port) Fld.PT_LL_EVENTS.RESTARTS).modLink p.port
      LinkState.restarted).linkErr p.port Fld.PT_LL_ERR.DOWN 11).setLink p.port 3).modLink p.port LinkState.dropped) := by
  have h2 : ((s.inc (Reg.PT_LL_EVENTS p.port) Fld.PT_LL_EVENTS.RESTARTS).modLink p.port
      LinkState.restarted).linkState p.port = 2 := by
    rw [modLink_linkState, ← hs]
    simp [State.linkState, (LL_EVENTS_ne_STATUS p.port).symm]
  rw [← linkDrop_none]
  · simp only [State.linkRestart, hs, or_true, if_true]
    unfold State.leaveUp
    exact (if_pos h2).trans (if_neg hl)
  · exact ho

/-- What a restart leaves of the link, of the registers and of what is raised. -/
theorem linkRestart_spec {s : State} {p : PortRec} (hs : s.linkState p.port = 2) (hl : p.lingerMs ≠ 0)
    (ho : s.core.otags = []) :
    (s.linkRestart p).linkSt p.port = (s.linkSt p.port).restarted.dropped ∧
      (s.linkRestart p).linkState p.port = 3 ∧
      (s.linkRestart p).hasRaised (srcQuad (quadOf (tileOf p.port)) 11) none ∧
      (∀ o ∈ s.flt.raised, o ∈ (s.linkRestart p).flt.raised) ∧
      (s.linkRestart p).on (Reg.PT_LL_ERR p.port) Fld.PT_LL_ERR.DOWN = true ∧
      (∀ f : Fld, Fld.PT_LL_ERR.DOWN.apart f = true →
        (s.linkRestart p).rd (Reg.PT_LL_ERR p.port) f = s.rd (Reg.PT_LL_ERR p.port) f) ∧
      (s.linkRestart p).rd (Reg.PT_LL_EVENTS p.port) Fld.PT_LL_EVENTS.RESTARTS =
        min (2 ^ Fld.PT_LL_EVENTS.RESTARTS.width - 1) (s.rd (Reg.PT_LL_EVENTS p.port) Fld.PT_LL_EVENTS.RESTARTS + 1) ∧
      (∀ f : Fld, Fld.PT_LL_STATUS.STATE.apart f = true →
        (s.linkRestart p).rd (Reg.PT_LL_STATUS p.port) f = s.rd (Reg.PT_LL_STATUS p.port) f) ∧
      (s.linkRestart p).regsBut s [Reg.PT_LL_ERR p.port, Reg.PT_LL_EVENTS p.port, Reg.PT_LL_STATUS p.port] := by
  rw [linkRestart_eq hs hl ho]
  have hr : ∀ a, a ∉ [Reg.PT_LL_ERR p.port, Reg.PT_LL_EVENTS p.port, Reg.PT_LL_STATUS p.port] →
      (((((s.inc (Reg.PT_LL_EVENTS p.port) Fld.PT_LL_EVENTS.RESTARTS).modLink p.port
      LinkState.restarted).linkErr p.port Fld.PT_LL_ERR.DOWN 11).setLink p.port 3).modLink p.port LinkState.dropped).reg a =
        s.reg a := fun a ha => by
    simp only [List.mem_cons, List.not_mem_nil, or_false, not_or] at ha
    obtain ⟨h1, h2, h3⟩ := ha
    rw [modLink_reg, State.setLink, reg_wr, if_neg h3, linkErr_reg _ _ _ _ _ h1, modLink_reg, inc_eq, addTo_eq, reg_wr, if_neg h2]
  have hf : (((((s.inc (Reg.PT_LL_EVENTS p.port) Fld.PT_LL_EVENTS.RESTARTS).modLink p.port
      LinkState.restarted).linkErr p.port Fld.PT_LL_ERR.DOWN 11).setLink p.port 3).modLink p.port LinkState.dropped).flt =
      (((s.inc (Reg.PT_LL_EVENTS p.port) Fld.PT_LL_EVENTS.RESTARTS).modLink p.port
        LinkState.restarted).linkErr p.port Fld.PT_LL_ERR.DOWN 11).flt := rfl
  refine ⟨?_, ?_, hasRaised_of_flt hf (linkErr_hasRaised ..), fun o ho => ?_, ?_, fun f ha => ?_, ?_, fun f ha => ?_, hr⟩
  · simp only [modLink_linkSt, State.setLink, wr_linkSt, linkErr_linkSt, inc_eq, addTo_eq]
  · rw [modLink_linkState, State.linkState, State.setLink, rd_wr _ _ _ _ (by decide)]
    rfl
  · rw [hf]
    exact linkErr_raised _ _ _ _ o ho
  · rw [← linkErr_on ((s.inc (Reg.PT_LL_EVENTS p.port) Fld.PT_LL_EVENTS.RESTARTS).modLink p.port LinkState.restarted) p.port
      Fld.PT_LL_ERR.DOWN 11 (by decide) (by decide)]
    refine on_of_reg ?_ _
    rw [modLink_reg, State.setLink, reg_wr, if_neg (LL_ERR_ne_STATUS _)]
  · rw [modLink_rd, State.setLink, rd_wr_eq, if_neg (LL_ERR_ne_STATUS _), State.linkErr, raise_rd, set1_eq, rd_wr_eq, if_pos rfl,
      getFld_setFld_other _ _ _ _ (by decide) ha, modLink_reg, inc_eq, addTo_eq, reg_wr, if_neg (LL_ERR_ne_EVENTS _), getFld_reg]
  · rw [← rd_addTo s (Reg.PT_LL_EVENTS p.port) 1 Fld.PT_LL_EVENTS.RESTARTS (by decide)]
    refine rd_of_reg ?_ _
    rw [modLink_reg, State.setLink, reg_wr, if_neg (LL_EVENTS_ne_STATUS _), linkErr_reg _ _ _ _ _ (LL_ERR_ne_EVENTS _).symm,
      modLink_reg, inc_eq]
  · rw [modLink_rd, State.setLink, rd_wr_eq, if_pos rfl, getFld_setFld_other _ _ _ _ (by decide) ha,
      linkErr_reg _ _ _ _ _ (LL_ERR_ne_STATUS _).symm, modLink_reg, inc_eq, addTo_eq, reg_wr,
      if_neg (LL_EVENTS_ne_STATUS _).symm, getFld_reg]

/-- A replay that begins from a stored flit (R279). -/
def LinkState.replaying (l : LinkState) (f : Nat) (one : Bool) (n : Nat) : LinkState :=
  { l with resend := some f, resendOne := one, replays := n, replayFrom := f }

theorem startReplay_first {s : State} {p : PortRec} {r : FlitRec} {m : List FlitRec} (one : Bool)
    (hm : (s.linkSt p.port).stored = r :: m) (hr : (s.linkSt p.port).replays = 0) :
    s.startReplay p r.fseq one = s.modLink p.port fun l => l.replaying r.fseq one 1 := by
  simp [State.startReplay, hm, hr]
  rfl

theorem startReplay_eighth {s : State} {p : PortRec} {r : FlitRec} {m : List FlitRec} (one : Bool)
    (hm : (s.linkSt p.port).stored = r :: m) (hr : (s.linkSt p.port).replays = 7)
    (hf : (s.linkSt p.port).replayFrom = r.fseq) :
    s.startReplay p r.fseq one = (((s.modLink p.port fun l => l.replaying r.fseq one 8).modLink p.port
      fun x => { x with replays := 0 }).linkErr p.port Fld.PT_LL_ERR.REPLAY 7).linkRestart p := by
  simp [State.startReplay, hm, hr, hf]
  rfl

theorem replayTimeout_eq {s : State} {q : Nat} {p : PortRec} {r : FlitRec} {m : List FlitRec} (hp : s.portRec q = some p)
    (hs : s.linkState q = 2) (hm : (s.linkSt q).stored = r :: m) : s.replayTimeout q = s.startReplay p r.fseq false := by
  simp [State.replayTimeout, hp, hs, hm]

/-- Settles O27, by what a flit start emits in each state of the link, and by what a replay begins. -/
theorem flitsSent : Obligations.FlitsSent := by
  refine ⟨?_, ?_, ?_, ?_, ?_, ?_, ?_⟩
  · intro s q p hq hc hp hpq hf hs ⟨hm, hr, hn, hfi, hl, hb, hk⟩
    change Answers (whenClocked s fun t => t.flitSend q.val) _
    refine answers_clocked hc ?_
    rw [flitSend_runs hp hf hs hm hr hn]
    simp only [← hpq] at *
    rw [newFlit_idle hfi hl hb]
    obtain ⟨u, f, he, hu, hregs, ⟨a, b, d, e, hx⟩, h1, h2, h3, h4, h5, h6, h7⟩ :=
      emitFlit_spec s p (s.linkSt p.port).txNext true [] none hk
    rw [he]
    refine answers_of_link hq (linkOnly_emit hu _) [] (by simp) (fun a _ => reg_of_regs hregs a)
      fun t ht ho hg _ _ => ⟨⟨f, ho _ List.mem_cons_self, h5, h6, h7, h1, h2, h4, h3⟩, ?_, ?_, fun a _ => ?_⟩
    · rw [linkSt_of_link ht, emit_linkSt, hx]; rfl
    · rw [linkSt_of_link ht, emit_linkSt, hx]; rfl
    · exact reg_of_regs (hg.trans hregs) a
  · intro s q p hq hc hp hpq hf hs ⟨hm, hr, hn, hfi, hl, hb, hk, hroom⟩
    change Answers (whenClocked s fun t => t.flitSend q.val) _
    refine answers_clocked hc ?_
    rw [flitSend_runs hp hf hs hm hr hn]
    simp only [← hpq] at *
    rw [newFlit_cells hfi hl hb hroom]
    obtain ⟨u, f, he, hu, hregs, ⟨a, b, d, e, hx⟩, h1, h2, h3, h4, h5, h6, h7⟩ :=
      emitFlit_spec s p (s.linkSt p.port).txNext false (s.linkSt p.port).filling none hk
    rw [he]
    refine answers_of_link hq (linkOnly_modLink (linkOnly_emit hu _) _ _) [] (by simp) (fun a _ => reg_of_regs hregs a)
      fun t ht ho hg _ _ => ⟨⟨f, ho _ List.mem_cons_self, h5, h6, h1⟩, ?_, ?_, ?_, fun a _ => ?_⟩
    · rw [linkSt_of_link ht, modLink_linkSt, emit_linkSt, hx]; rfl
    · rw [linkSt_of_link ht, modLink_linkSt, emit_linkSt, hx]; rfl
    · rw [linkSt_of_link ht, modLink_linkSt, emit_linkSt, hx]; rfl
    · exact reg_of_regs (hg.trans hregs) a
  · intro s q p f r hq hc hp hpq hf hs ⟨hm, hr, hn, ho, hk, hw⟩
    change Answers (whenClocked s fun t => t.flitSend q.val) _
    refine answers_clocked hc ?_
    rw [flitSend_resends hp hf hs hm hr hn ho hw]
    have hfs : r.fseq = f := by simpa using List.find?_some hw
    simp only [← hpq] at *
    obtain ⟨u, g, he, hu, hregs, ⟨a, b, d, e, hx⟩, h1, h2, h3, h4, h5, h6, h7⟩ :=
      emitFlit_spec s p r.fseq false r.slots r.bypass hk
    rw [he]
    refine answers_of_link hq (linkOnly_modLink (linkOnly_wr (linkOnly_emit hu _) _ _ _) _ _) [Reg.PT_LL_REPLAY p.port]
      (by simpa using LL_REPLAY_not_calm _) (fun a ha => ?_)
      fun t ht ho hg _ _ => ⟨⟨g, ho _ List.mem_cons_self, h5, h6, hfs ▸ h1⟩, ?_, ?_, ?_, fun a ha => ?_⟩
    · rw [modLink_reg, inc_eq, addTo_eq, reg_wr, if_neg (List.ne_of_not_mem_cons ha)]
      exact reg_of_regs hregs a
    · rw [linkSt_of_link ht, modLink_linkSt, inc_eq, addTo_eq, wr_linkSt, emit_linkSt, hx]
    · rw [linkSt_of_link ht, modLink_linkSt, inc_eq, addTo_eq, wr_linkSt, emit_linkSt, hx]; rfl
    · rw [rd_of_reg (reg_of_regs hg _), modLink_rd, State.inc, rd_addTo _ _ _ _ (by decide), emit_rd,
        rd_of_reg (reg_of_regs hregs _)]
    · rw [reg_of_regs hg, modLink_reg, inc_eq, addTo_eq, reg_wr, if_neg (List.ne_of_not_mem_cons ha)]
      exact reg_of_regs hregs a
  · intro s q p hq hc hp hpq hf hi hs ⟨hm, hr, hn, hin, hk⟩
    change Answers (whenClocked s fun t => t.flitSend q.val) _
    refine answers_clocked hc ?_
    rw [flitSend_inits hp hf (by omega) hm hr]
    have hcap : (s.initCaps p q.val).resume = !s.on (Reg.PT_LL_CTL q.val) Fld.PT_LL_CTL.NO_RESUME := by
      simp [State.initCaps, hi, hs]
    simp only [← hpq] at *
    obtain ⟨u, g, he, hu, hregs, ⟨a, b, d, e, hx⟩, h1, h2, h3, h4, h5, h6, h7⟩ :=
      emitFlit_spec s p (s.linkSt p.port).txNext true [] (some (.lc (.llInit (s.initCaps p p.port)))) hk
    rw [he, settleInit_waits]
    · refine answers_of_link hq (linkOnly_modLink (linkOnly_emit hu _) _ _) [] (by simp) (fun a _ => reg_of_regs hregs a)
        fun t ht ho hg _ _ => ⟨⟨g, _, ho _ List.mem_cons_self, h5, h7, rfl, rfl, hcap⟩, ?_, ?_, fun a _ => ?_⟩
      · rw [linkSt_of_link ht, modLink_linkSt]
      · rw [linkSt_of_link ht, modLink_linkSt, emit_linkSt, hx]
        exact hr
      · exact reg_of_regs (hg.trans hregs) a
    · rw [modLink_linkSt, emit_linkSt, hx]
      exact hin
  · intro s q p hq hc hp hpq hf hi hn
    change Answers (whenClocked s fun t => t.nakExpiry q.val) _
    refine answers_clocked hc ?_
    have e : s.nakExpiry q.val = s.sendNak p true := by simp [State.nakExpiry, hp, hf, hn]
    rw [e, sendNak_ictil hi (.inr rfl), hpq]
    refine answers_of_link hq (linkOnly_modLink (linkOnly_refl s) _ _) [] (by simp) (fun a _ => rfl)
      fun t ht _ hg _ _ => ⟨?_, ?_, ?_, fun a _ => reg_of_regs hg a⟩ <;>
    rw [linkSt_of_link ht, modLink_linkSt]
  · intro s q p r m hq hc hp hpq hs hm hr
    change Answers (whenClocked s fun t => t.replayTimeout q.val) _
    refine answers_clocked hc ?_
    rw [replayTimeout_eq hp hs hm]
    simp only [← hpq] at *
    rw [startReplay_first false hm hr]
    refine answers_of_link hq (linkOnly_modLink (linkOnly_refl s) _ _) [] (by simp) (fun a _ => rfl)
      fun t ht _ hg _ _ => ⟨?_, ?_, ?_, ?_, fun a _ => reg_of_regs hg a⟩ <;>
    rw [linkSt_of_link ht, modLink_linkSt] <;> rfl
  · intro s q p r m hc hp hpq hs hm hr hf hl ho
    change Leaves (whenClocked s fun t => t.replayTimeout q.val) _
    refine leaves_clocked hc ?_
    rw [replayTimeout_eq hp hs hm]
    simp only [← hpq] at *
    rw [startReplay_eighth false hm hr hf]
    generalize hw : (s.modLink p.port fun l => l.replaying r.fseq false 8).modLink p.port (fun x => { x with replays := 0 }) = w
    have hx : w.linkSt p.port = { (s.linkSt p.port).replaying r.fseq false 8 with replays := 0 } := by
      rw [← hw, modLink_linkSt, modLink_linkSt]
    have hwr : ∀ a, w.reg a = s.reg a := fun a => by rw [← hw, modLink_reg, modLink_reg]
    have hs' : (w.linkErr p.port Fld.PT_LL_ERR.REPLAY 7).linkState p.port = 2 := by
      rw [← hs]
      exact rd_of_reg ((linkErr_reg _ _ _ _ _ (LL_ERR_ne_STATUS _).symm).trans (hwr _)) _
    have ho' : (w.linkErr p.port Fld.PT_LL_ERR.REPLAY 7).core.otags = [] := by
      rw [State.linkErr, raise_core, set1_core, ← hw]
      exact ho
    obtain ⟨k1, k2, _, k4, _, k6, k7, _, k9⟩ := linkRestart_spec hs' hl ho'
    refine ⟨k2, ?_, ?_, ?_, ?_, ?_, fun a ha => (k9 a ha).trans ?_⟩
    · rw [k1]; rfl
    · rw [k1, linkErr_linkSt, hx]; rfl
    · rw [State.on, k6 _ (by decide)]
      exact linkErr_on w p.port _ 7 (by decide) (by decide)
    · exact hasRaised_raised k4 (linkErr_hasRaised ..)
    · rw [k7, rd_of_reg ((linkErr_reg _ _ _ _ _ (LL_ERR_ne_EVENTS _).symm).trans (hwr _))]
    · exact (linkErr_reg _ _ _ _ _ (List.ne_of_not_mem_cons ha)).trans (hwr a)

end Sys2Proof.Machine
end

section
/-!
REFUTATION. A flit received where kept flits fill the pool of its port.
-/
namespace Sys2Proof.Machine

/-- A machine in SERVE under a Formula with a given record of port 0. -/
def servesPort (p : PortRec) : State :=
  ({ State.reset with fml := { State.reset.fml with inForce := some { ports := [p] } } } : State).wr
    Reg.CHIP_MODE Fld.CHIP_MODE.MODE Mode.serve.code

/-- An Ictil port of four lanes. -/
def ictilPort : PortRec :=
  { port := 0, flacon := 0xFF, firstLane := 0, width := 4, protocol := .ictil, role := .fabric, maxRate := 0, lingerMs := 1 }

/-- A cell that takes a place in the shared pool. -/
def poolSlot : SlotIn := { kind := .head, sub := 0, pool := true, msg := {} }

/-- The link of port 0 is up, and kept flits fill its pool, which nothing in receive storage shows. -/
def poolFull : State :=
  { (servesPort ictilPort).setLink 0 2 with link := [(0, { kept := [(5, { slots := List.replicate 972 poolSlot })] })] }

/-- Refutes O28: the expected flit finds the pool full of kept flits, which the statement's condition on receive storage
does not count; its cell is not taken. -/
theorem not_flitsReceived : ¬ Obligations.FlitsReceived := by
  intro h
  obtain ⟨-, h, -⟩ := h
  obtain ⟨t, ht, hrx, -⟩ := h poolFull 0 ictilPort { slots := [poolSlot] } (by decide +kernel) (by decide +kernel)
    (by decide +kernel) rfl rfl rfl (by decide +kernel) rfl rfl rfl rfl rfl (by decide +kernel) (by decide +kernel)
    (by decide +kernel) (by decide +kernel)
  have hc : poolFull.clocked (fun u => u.flitReceive 0 { slots := [poolSlot] }) = poolFull.flitReceive 0 { slots := [poolSlot] } :=
    clocked_eq _ _ (by decide +kernel)
  have he : (poolFull.flitReceive 0 { slots := [poolSlot] }).settle = t := by
    rw [← hc]
    injection ht
  have hn : ((poolFull.flitReceive 0 { slots := [poolSlot] }).settle.linkSt 0).rx.length = 0 := by decide +kernel
  rw [he] at hn
  exact absurd (congrArg List.length hrx) (by simp [hn])

end Sys2Proof.Machine
end

section
/-!
LAW. Link control: maps, taps, the exchange of LL_INIT, lanes that go back, and the end of a link.
-/
namespace Sys2Proof.Machine

/-! ### What the gates of a port keep of its link -/

/-- u keeps the links, the switch core, the Formula, what is raised, and the registers outside K. -/
def State.keepsLink (u s : State) (K : Nat → Prop) : Prop :=
  (u.link = s.link ∧ u.core = s.core ∧ u.fml = s.fml) ∧ (∀ o ∈ s.flt.raised, o ∈ u.flt.raised) ∧ ∀ a, ¬ K a → u.reg a = s.reg a

section
variable {u v s : State} {K : Nat → Prop}

theorem keepsLink_refl (s : State) (K : Nat → Prop) : s.keepsLink s K := ⟨⟨rfl, rfl, rfl⟩, fun _ h => h, fun _ _ => rfl⟩

theorem keepsLink_trans (h : v.keepsLink u K) (k : u.keepsLink s K) : v.keepsLink s K :=
  ⟨⟨h.1.1.trans k.1.1, h.1.2.1.trans k.1.2.1, h.1.2.2.trans k.1.2.2⟩, fun o ho => h.2.1 o (k.2.1 o ho), fun a ha => (h.2.2 a ha).trans (k.2.2 a ha)⟩

theorem keepsLink_wr (h : u.keepsLink s K) {a : Nat} (ha : K a) (f : Fld) (x : Nat) : (u.wr a f x).keepsLink s K := by
  refine keepsLink_trans (u := u) ⟨⟨rfl, rfl, rfl⟩, fun _ h => h, fun b hb => ?_⟩ h
  rw [reg_wr, if_neg]
  rintro rfl
  exact hb ha

theorem keepsLink_raise (h : u.keepsLink s K) (n : Nat) (f : Option Nat) : (u.raise n f).keepsLink s K :=
  keepsLink_trans (u := u) ⟨⟨rfl, rfl, rfl⟩, raise_keeps_raised u n f, fun _ _ => rfl⟩ h

theorem keepsLink_modSched (h : u.keepsLink s K) (q : Nat) (g : SchedPort → SchedPort) : (u.modSched q g).keepsLink s K :=
  keepsLink_trans (u := u) ⟨⟨rfl, rfl, rfl⟩, fun _ h => h, fun _ _ => rfl⟩ h

theorem keepsLink_ite {c : Prop} [Decidable c] (hu : u.keepsLink s K) (hv : v.keepsLink s K) :
    (if c then u else v).keepsLink s K := by
  split <;> assumption

theorem keepsLink_foldl {α : Type} {g : State → α → State} (hg : ∀ t e, t.keepsLink s K → (g t e).keepsLink s K) :
    ∀ (l : List α) (t : State), t.keepsLink s K → (l.foldl g t).keepsLink s K
  | [], _, h => h
  | e :: l, t, h => keepsLink_foldl hg l (g t e) (hg t e h)

/-- The same for what is done with the elements of a list. -/
theorem keepsLink_foldl_mem {α : Type} {g : State → α → State} : ∀ (l : List α) (t : State),
    (∀ t, ∀ e ∈ l, t.keepsLink s K → (g t e).keepsLink s K) → t.keepsLink s K → (l.foldl g t).keepsLink s K
  | [], _, _, h => h
  | e :: l, t, hg, h => keepsLink_foldl_mem l (g t e) (fun t e he => hg t e (List.mem_cons_of_mem _ he))
    (hg t e List.mem_cons_self h)

end

/-- The gate registers of a port. -/
def gateReg (a : Nat) : Prop := a % 0x10000 < 0x8000 ∧ 0x300 ≤ a % 0x2000 ∧ a % 0x2000 < 0x400

theorem gateReg_STATE (q : Nat) : gateReg (Reg.PT_GATE_STATE q) := by simp only [gateReg, Reg.PT_GATE_STATE]; omega
theorem gateReg_ERR (q : Nat) : gateReg (Reg.PT_GATE_ERR q) := by simp only [gateReg, Reg.PT_GATE_ERR]; omega
theorem gateReg_SHORT (q : Nat) {n : Nat} (h : n < 8) : gateReg (Reg.PT_GATE_SHORT q n) := by
  simp only [gateReg, Reg.PT_GATE_SHORT]; omega

theorem putShort_keepsLink {u s : State} (h : u.keepsLink s gateReg) (q : Nat) (w : List Nat) (n : Nat) :
    (u.putShort q w n).keepsLink s gateReg := by
  unfold State.putShort
  refine keepsLink_wr (keepsLink_foldl_mem _ _ (fun t e he ht => keepsLink_wr ht (gateReg_SHORT q ?_) _ _) h) (gateReg_ERR q) _ _
  exact List.mem_range.mp (List.of_mem_zip he).2

/-- The gates of a port evaluated anew keep its link. -/
theorem regate_keepsLink (s : State) (q : Nat) : (s.regate q).keepsLink s gateReg := by
  unfold State.regate
  split
  · exact keepsLink_refl s _
  · simp only
    have h1 := fun x => keepsLink_wr (keepsLink_refl s gateReg) (gateReg_STATE q) Fld.PT_GATE_STATE.GUARD x
    refine keepsLink_ite (h1 _) (keepsLink_ite (keepsLink_raise (keepsLink_wr (keepsLink_modSched (keepsLink_ite
      (keepsLink_wr (putShort_keepsLink (h1 _) ..) (gateReg_ERR q) _ _) (putShort_keepsLink (h1 _) ..)) ..) (gateReg_ERR q) _ _) ..)
      (keepsLink_modSched (keepsLink_ite
      (keepsLink_wr (putShort_keepsLink (h1 _) ..) (gateReg_ERR q) _ _) (putShort_keepsLink (h1 _) ..)) ..))

/-- Registers that the map of a port shows. -/
def mapReg (q a : Nat) : Prop := a = Reg.PT_LL_STATUS q ∨ gateReg a

theorem keepsLink_mono {u s : State} {K L : Nat → Prop} (h : u.keepsLink s K) (hk : ∀ a, K a → L a) : u.keepsLink s L :=
  ⟨h.1, h.2.1, fun a ha => h.2.2 a fun hx => ha (hk a hx)⟩

/-- The map of a port without a spare shown. -/
theorem showMap_keepsLink {p : PortRec} (hp : p.sparing = false) (s : State) :
    (s.showMap p).keepsLink s (mapReg p.port) := by
  have h : mapReg p.port (Reg.PT_LL_STATUS p.port) := .inl rfl
  unfold State.showMap
  simp only [hp, Bool.false_eq_true, if_false]
  refine keepsLink_trans (keepsLink_mono (regate_keepsLink ..) fun _ => .inr) ?_
  exact keepsLink_wr (keepsLink_wr (keepsLink_wr (keepsLink_wr (keepsLink_wr (keepsLink_wr (keepsLink_wr
    (keepsLink_refl s _) h _ _) h _ _) h _ _) h _ _) h _ _) h _ _) h _ _

theorem LL_STATUS_not_gate (q : Nat) : ¬ gateReg (Reg.PT_LL_STATUS q) := by
  simp only [gateReg, Reg.PT_LL_STATUS]; omega

/-- The fields of PT_LL_STATUS after a map is shown. -/
theorem showMap_status {p : PortRec} (hp : p.sparing = false) (s : State) :
    (s.showMap p).rd (Reg.PT_LL_STATUS p.port) Fld.PT_LL_STATUS.TX_LANES =
      (s.linkSt p.port).txMap.length % 2 ^ Fld.PT_LL_STATUS.TX_LANES.width ∧
    (s.showMap p).rd (Reg.PT_LL_STATUS p.port) Fld.PT_LL_STATUS.MAP_ID =
      s.rd (Reg.PT_LL_STATUS p.port) Fld.PT_LL_STATUS.MAP_ID ∧
    (s.showMap p).linkState p.port = s.linkState p.port := by
  unfold State.linkState State.showMap
  simp only [hp, Bool.false_eq_true, if_false]
  have h := fun t f => rd_of_reg ((regate_keepsLink t p.port).2.2 _ (LL_STATUS_not_gate p.port)) f
  refine ⟨?_, ?_, ?_⟩ <;> rw [h] <;> simp +decide only [rd_wr_eq, if_true, reg_wr, wrB_eq, getFld_setFld_same, getFld_setFld_other, getFld_reg]

/-! ### Link control messages -/

/-- A message on a running fabric port takes effect. -/
theorem controlMessage_runs {s : State} {q : Nat} {p : PortRec} (c : LinkCtl) (hp : s.portRec q = some p)
    (hf : p.fabric = true) (hs : s.linkState q ≠ 0) : s.controlMessage q c = s.linkControl p c := by
  simp [State.controlMessage, State.atPort, hp, hf, hs]

/-- A mask that changes nothing of the map. -/
theorem txMapChange_same {s : State} {p : PortRec} {m : Nat} (h : laneMap p m (s.linkSt p.port).txMap = (s.linkSt p.port).txMap) :
    s.txMapChange p m = s.modLink p.port fun x => { x with rxLanes := m } := by
  unfold State.txMapChange
  exact if_pos (.inr h)

/-- A link whose transmitter takes a map for the mask received. -/
def LinkState.mapped (l : LinkState) (m : Nat) (map : List Nat) : LinkState := { l with rxLanes := m, txMap := map }

theorem txMapChange_new {s : State} {p : PortRec} {m : Nat} (hs : s.linkState p.port ≠ 0)
    (h : laneMap p m (s.linkSt p.port).txMap ≠ (s.linkSt p.port).txMap) (he : laneMap p m (s.linkSt p.port).txMap ≠ [])
    (ha : p.anchored = false) (hp : p.sparing = false) :
    s.txMapChange p m = ((((s.modLink p.port fun x => x.mapped m (laneMap p m (s.linkSt p.port).txMap)).wr
      (Reg.PT_LL_STATUS p.port) Fld.PT_LL_STATUS.MAP_ID
      ((s.rd (Reg.PT_LL_STATUS p.port) Fld.PT_LL_STATUS.MAP_ID + 1) % 4)).noteWidth p).showMap p) := by
  have hn : (laneMap p m (s.linkSt p.port).txMap).isEmpty = false := by simpa using he
  have hw : ((List.range 2).any (spareSwap p (s.linkSt p.port).txMap (laneMap p m (s.linkSt p.port).txMap))) = false := by
    simp [spareSwap, hp]
  simp only [State.txMapChange, hs, h, hn, ha, hw, or_self, if_false, Bool.false_eq_true, false_and]
  rfl

/-- The width of a map noted (R297). -/
theorem noteWidth_keepsLink (s : State) (p : PortRec) : (s.noteWidth p).keepsLink s (· = Reg.PT_LL_ERR p.port) := by
  unfold State.noteWidth State.linkErr
  exact keepsLink_ite (keepsLink_raise (keepsLink_wr (K := (· = Reg.PT_LL_ERR p.port)) (keepsLink_refl s _) rfl _ _) _ _)
    (keepsLink_refl s _)

theorem linkSt_of_keeps {u s : State} {K : Nat → Prop} (h : u.keepsLink s K) (q : Nat) : u.linkSt q = s.linkSt q :=
  linkSt_of_link h.1.1 q

/-- Preset 3 requested of a lane (R274). -/
theorem firRequest_preset {s : State} {l r : Nat} :
    s.firRequest l r 3 = (s.setTaps l [2, -12, 43, -6]).modLane l fun y => { y with sts := [1, 1, 1, 1] } := rfl

theorem setTaps_taps (s : State) (l : Nat) : (s.setTaps l [2, -12, 43, -6]).taps l = [2, -12, 43, -6] := by
  unfold State.taps State.setTaps State.rdS
  simp +decide only [wrS_eq, rd_wr_eq, if_true, reg_wr, getFld_setFld_same, getFld_setFld_other]

theorem setTaps_rest (s : State) (l : Nat) (t : List Int) : (s.setTaps l t).rest = s.rest := by
  rw [State.setTaps, wrS_eq, rest_wr, wrS_eq, rest_wr, wrS_eq, rest_wr, wrS_eq, rest_wr]

theorem setTaps_link (s : State) (l : Nat) (t : List Int) : (s.setTaps l t).link = s.link := by
  rw [State.setTaps, wrS_eq, wr_link, wrS_eq, wr_link, wrS_eq, wr_link, wrS_eq, wr_link]

theorem firReq_eq {s : State} {p : PortRec} {n : Nat} {x : BitVec 10} (hn : n < p.width) (hx : x.toNat / 256 = 3) :
    s.linkControl p (.firReq n x) = ((s.setTaps (p.chipLane n) [2, -12, 43, -6]).modLane (p.chipLane n) fun y =>
      { y with sts := [1, 1, 1, 1] }).modLink p.port fun l => { l with bypassLc := l.bypassLc ++ [.firSts n 0x55] } := by
  have hb : BitVec.ofNat 8 (((s.setTaps (p.chipLane n) [2, -12, 43, -6]).modLane (p.chipLane n) fun y =>
      { y with sts := [1, 1, 1, 1] }).stsByte (p.chipLane n)) = 0x55 := by
    unfold State.stsByte
    rw [laneSt_modLane, if_pos rfl]
    rfl
  simp only [State.linkControl, if_neg (not_le.mpr hn), hx, firRequest_preset, hb]

theorem llInit_restarts {s : State} {p : PortRec} {c : LlCaps} (hr : (s.linkSt p.port).restarting = false)
    (hs : s.linkState p.port = 2) : s.linkControl p (.llInit c) =
      (((s.wrB (Reg.PT_LL_STATUS p.port) Fld.PT_LL_STATUS.PARTNER_TENT_OK c.tentOk).linkRestart p).modLink p.port fun x =>
        { x with initIn := some c }).settleInit p := by
  simp only [State.linkControl, hr, hs, if_true, Bool.false_eq_true, if_false]

theorem llInit_answers {s : State} {p : PortRec} {c : LlCaps} (hr : (s.linkSt p.port).restarting = true) :
    s.linkControl p (.llInit c) = ((s.wrB (Reg.PT_LL_STATUS p.port) Fld.PT_LL_STATUS.PARTNER_TENT_OK c.tentOk).modLink p.port
      fun x => { x with initIn := some c }).settleInit p := by
  simp only [State.linkControl, hr, if_true]

/-- The exchange of LL_INIT waits for the port's own. -/
theorem settleInit_unsent {s : State} {p : PortRec} (h : (s.linkSt p.port).initSent = false) : s.settleInit p = s := by
  simp only [State.settleInit, h, Bool.and_false]

/-- The exchange ends in a resume (R294): nothing is stored and the partner expects the next flit. -/
theorem settleInit_resumes {s : State} {p : PortRec} {c : LlCaps} (hi : (s.linkSt p.port).initIn = some c)
    (hr : (s.linkSt p.port).restarting = true) (hs : (s.linkSt p.port).initSent = true)
    (ho : (s.linkSt p.port).initOffer = true) (hc : c.resume = true) (hk : (s.linkSt p.port).lanesKept = true)
    (hm : (s.linkSt p.port).stored = []) (hx : c.rxNext = (s.linkSt p.port).txNext) (hl : s.linkState p.port = 3) :
    s.settleInit p = s.linkResume p c.rxNext := by
  simp [State.settleInit, hi, hr, hs, ho, hc, hk, hm, hx, hl]

theorem modLink_core (s : State) (q : Nat) (g : LinkState → LinkState) : (s.modLink q g).core = s.core := rfl
theorem freeDropped_reg (s : State) (q : Nat) (f : OutRec → Bool) (a : Nat) : (s.freeDropped q f).reg a = s.reg a := (rfl)
theorem freeDropped_linkSt (s : State) (q : Nat) (f : OutRec → Bool) (k : Nat) : (s.freeDropped q f).linkSt k = s.linkSt k := (rfl)
theorem freeDropped_queues (s : State) (q : Nat) (f : OutRec → Bool) : (s.freeDropped q f).core.queues = s.core.queues := (rfl)

/-- A link that goes on where it was, as its partner expects flit n. -/
def LinkState.resumed (l : LinkState) (n now : Nat) : LinkState :=
  { l with
    stored := l.stored.filter fun f => decide ((4096 + f.fseq - n) % 4096 < 2048), acked := some ((4095 + n) % 4096)
    resend := (l.stored.filter fun f => decide ((4096 + f.fseq - n) % 4096 < 2048)).head?.map (·.fseq), resendOne := false
    restarting := false, nakOut := false, nakSend := false, resumedAt := some now }

theorem linkResume_eq (s : State) (p : PortRec) (n : Nat) : s.linkResume p n =
    (((s.modLink p.port fun l => l.resumed n s.now).freeDropped p.port fun r => decide ((4096 + r.fseq - n) % 4096 < 2048)).inc
      (Reg.PT_LL_EVENTS p.port) Fld.PT_LL_EVENTS.RESUMES).setLink p.port 2 := rfl

/-- A calm state stays calm at a write of a register that the collector does not read. -/
theorem calm_wr {u s : State} (h : u.calm s) {a : Nat} (ha : a ∉ calmRegs) (f : Fld) (x : Nat) : (u.wr a f x).calm s :=
  calm_trans (calm_of_rest (rest_wr u a f x) fun b hb => by
    rw [reg_wr, if_neg]
    rintro rfl
    exact ha hb) h

theorem calm_refl (s : State) : s.calm s := ⟨⟨rfl, rfl, rfl, rfl, rfl, rfl⟩, rfl, rfl, rfl⟩
theorem calm_modLink {u s : State} (h : u.calm s) (q : Nat) (g : LinkState → LinkState) : (u.modLink q g).calm s := h
theorem calm_modLane {u s : State} (h : u.calm s) (l : Nat) (g : LaneState → LaneState) : (u.modLane l g).calm s := h
theorem calm_freeDropped {u s : State} (h : u.calm s) (q : Nat) (f : OutRec → Bool) : (u.freeDropped q f).calm s := h

/-! ### The end of a link -/

/-- Cells cut short leave the rest of the link (R293). -/
theorem cutShort_spec (s : State) (q : Nat) : (s.cutShort q).linkOnly s ∧ (s.cutShort q).regs = s.regs ∧
    ∃ x, (s.cutShort q).linkSt q = { s.linkSt q with rx := x } := by
  unfold State.cutShort
  generalize List.range 16 = l
  induction l generalizing s with
  | nil => exact ⟨rfl, rfl, _, rfl⟩
  | cons v l ih =>
    rw [List.foldl_cons]
    obtain ⟨h1, h2, x, h3⟩ := ih (if s.cutAt q v then s.modLink q fun (l : LinkState) => { l with rx := l.rx ++ [badTail v] } else s)
    refine ⟨linkOnly_trans h1 ?_, h2.trans ?_, x, h3.trans ?_⟩
    · split <;> rfl
    · split <;> rfl
    · split
      · rw [modLink_linkSt]
      · rfl

/-- A link whose stored flits are gone. -/
def LinkState.emptied (l : LinkState) : LinkState := { l with stored := [], filling := [], bypassMc0 := [] }

theorem discardStored_eq (s : State) (q : Nat) : ∃ n, s.discardStored q =
    (s.modLink q LinkState.emptied).addTo (Reg.PT_FLUSH_CNT q) Fld.PT_FLUSH_CNT.COUNT n := ⟨_, rfl⟩

/-- A lingering link that ends with nothing queued, up to the map that is shown. -/
def State.linkEnded (s : State) (q : Nat) : State :=
  (((((s.discardStored q).freeDropped q fun _ => true).cutShort q).inc (Reg.PT_LL_EVENTS q) Fld.PT_LL_EVENTS.FLUSHES).setLink
    q 0).modLink q fun l => { l with txMap := [], rxMap := [] }

theorem linkDown_lingered {s : State} {p : PortRec} (hs : s.linkState p.port = 3) (hq : s.core.queues = [])
    (hg : s.core.gate = []) : s.linkDown p false = ((s.linkEnded p.port).showMap p).linkStart p := by
  have h1 : s.portCells p.port = 0 := by
    unfold State.portCells State.portQueues
    rw [hq]
    rfl
  have h2 : s.flushPort p.port (fun _ _ => true) = s := by
    unfold State.flushPort State.portQueues
    rw [hq]
    rfl
  have h3 : s.flushGate p.port (fun _ => true) = s := orphanGates_none hg _
  simp only [State.linkDown, hs, h1, h2, h3, lt_self_iff_false, false_and, and_false, if_false, Bool.false_eq_true]
  rfl

/-- Registers that the end of a link counts in, or shows its state in. -/
def endReg (q a : Nat) : Prop := a = Reg.PT_LL_EVENTS q ∨ a = Reg.PT_FLUSH_CNT q ∨ a = Reg.PT_LL_STATUS q

theorem linkEnded_spec (s : State) (q : Nat) :
    (∀ a, ¬ endReg q a → (s.linkEnded q).reg a = s.reg a) ∧ (s.linkEnded q).linkState q = 0 ∧ (s.linkEnded q).core.queues = s.core.queues ∧
      (s.linkEnded q).rd (Reg.PT_LL_EVENTS q) Fld.PT_LL_EVENTS.FLUSHES =
        min (2 ^ Fld.PT_LL_EVENTS.FLUSHES.width - 1) (s.rd (Reg.PT_LL_EVENTS q) Fld.PT_LL_EVENTS.FLUSHES + 1) ∧
      ((s.linkEnded q).linkSt q).txMap = [] ∧ ((s.linkEnded q).linkSt q).stored = [] := by
  obtain ⟨n, hn⟩ := discardStored_eq s q
  obtain ⟨h1, h2, x, h3⟩ := cutShort_spec ((s.discardStored q).freeDropped q fun _ => true) q
  generalize hw : ((s.discardStored q).freeDropped q fun _ => true).cutShort q = w at h1 h2 h3
  have hreg : ∀ a, a ≠ Reg.PT_FLUSH_CNT q → w.reg a = s.reg a := fun a ha => by
    rw [reg_of_regs h2, hn]
    rw [freeDropped_reg, addTo_eq, reg_wr, if_neg ha, modLink_reg]
  have hl : (w.linkSt q).stored = [] := by
    rw [h3, hn]
    rw [freeDropped_linkSt, addTo_eq, wr_linkSt, modLink_linkSt]
    rfl
  have e : s.linkEnded q = ((w.inc (Reg.PT_LL_EVENTS q) Fld.PT_LL_EVENTS.FLUSHES).setLink q 0).modLink q fun l =>
      { l with txMap := [], rxMap := [] } := by
    rw [← hw]
    rfl
  have hc : w.core.queues = s.core.queues := by
    rw [h1, freeDropped_queues, hn, addTo_eq, wr_core, modLink_core]
  rw [e]
  refine ⟨fun a ha => ?_, ?_, ?_, ?_, ?_, ?_⟩
  · simp only [endReg, not_or] at ha
    obtain ⟨ha1, ha2, ha3⟩ := ha
    rw [modLink_reg, State.setLink, reg_wr, if_neg ha3, inc_eq, addTo_eq, reg_wr, if_neg ha1, hreg a ha2]
  · rw [modLink_linkState, State.linkState, State.setLink, rd_wr _ _ _ _ (by decide)]
    rfl
  · rw [← hc]
    rw [modLink_core, State.setLink, wr_core, inc_eq, addTo_eq, wr_core]
  · have hf : Reg.PT_LL_EVENTS q ≠ Reg.PT_FLUSH_CNT q := by simp only [Reg.PT_LL_EVENTS, Reg.PT_FLUSH_CNT]; omega
    rw [modLink_rd, State.setLink, rd_wr_eq, if_neg (LL_EVENTS_ne_STATUS q), State.inc, rd_addTo _ _ _ _ (by decide),
      rd_of_reg (hreg _ hf)]
  · rw [modLink_linkSt]
  · rw [modLink_linkSt, State.setLink, wr_linkSt, inc_eq, addTo_eq, wr_linkSt]
    exact hl

theorem linkStart_none {s : State} {p : PortRec} (h : laneMap p (s.healthMask p) [] = []) : s.linkStart p = s := by
  unfold State.linkStart
  exact if_pos (by rw [h]; rfl)

theorem healthMask_of_reg {u s : State} (p : PortRec) (h : ∀ l, u.reg (Reg.LN_STATUS l) = s.reg (Reg.LN_STATUS l)) :
    u.healthMask p = s.healthMask p := by
  unfold State.healthMask State.stage
  simp only [rd_of_reg (h _)]

theorem lane_not_end (q l : Nat) : ¬ endReg q (Reg.LN_STATUS l) := by
  simp only [endReg, Reg.LN_STATUS, Reg.PT_LL_EVENTS, Reg.PT_FLUSH_CNT, Reg.PT_LL_STATUS]; omega

theorem lane_not_map (q l : Nat) : ¬ mapReg q (Reg.LN_STATUS l) := by
  simp only [mapReg, gateReg, Reg.LN_STATUS, Reg.PT_LL_STATUS]; omega

/-- The start of a link shows nothing in the lanes of a port without a spare. -/
theorem linkStart_lane {p : PortRec} (hp : p.sparing = false) (s : State) (l : Nat) :
    (s.linkStart p).reg (Reg.LN_STATUS l) = s.reg (Reg.LN_STATUS l) := by
  have h : ∀ q, Reg.LN_STATUS l ≠ Reg.PT_LL_STATUS q ∧ Reg.LN_STATUS l ≠ Reg.PT_LL_ERR q := fun q => by
    simp only [Reg.LN_STATUS, Reg.PT_LL_STATUS, Reg.PT_LL_ERR]; omega
  unfold State.linkStart
  simp only
  split
  · rfl
  · rw [(noteWidth_keepsLink _ p).2.2 _ (h _).2, (showMap_keepsLink hp _).2.2 _ (lane_not_map _ _), reg_wr, if_neg (h _).1,
      State.setLink, reg_wr, if_neg (h _).1]
    rfl

theorem linkDown_lane {s : State} {p : PortRec} (hs : s.linkState p.port = 3) (hq : s.core.queues = [])
    (hg : s.core.gate = []) (hp : p.sparing = false) (l : Nat) :
    (s.linkDown p false).reg (Reg.LN_STATUS l) = s.reg (Reg.LN_STATUS l) := by
  rw [linkDown_lingered hs hq hg, linkStart_lane hp, (showMap_keepsLink hp _).2.2 _ (lane_not_map _ _),
    (linkEnded_spec s p.port).1 _ (lane_not_end _ _)]

/-! ### Lanes back to WAIT -/

theorem modLane_reg (s : State) (l : Nat) (g : LaneState → LaneState) (a : Nat) : (s.modLane l g).reg a = s.reg a := (rfl)
theorem modLane_core (s : State) (l : Nat) (g : LaneState → LaneState) : (s.modLane l g).core = s.core := (rfl)
theorem modLane_link (s : State) (l : Nat) (g : LaneState → LaneState) : (s.modLane l g).link = s.link := (rfl)

theorem dropLocks_reg (s : State) (l a : Nat) (h : a ≠ Reg.LN_STATUS l) : (s.dropLocks l).reg a = s.reg a := by
  unfold State.dropLocks
  simp only [modLane_reg, set0_eq, reg_wr, h, if_false]

theorem abandonRetune_reg (s : State) (l a : Nat) (h : a ≠ Reg.LN_RETUNE l) : (s.abandonRetune l).reg a = s.reg a := by
  unfold State.abandonRetune
  simp only [modLane_reg, set0_eq, reg_wr, h, if_false]

theorem toWait_reg (s : State) (l a : Nat) (h : a ≠ Reg.LN_STATUS l) : (s.toWait l).reg a = s.reg a := by
  rw [State.toWait, State.setStage, reg_wr, if_neg h, dropLocks_reg s l a h]

theorem toWait_stage (s : State) (l : Nat) : (s.toWait l).stage l = Stage.WAIT := by
  rw [State.stage, State.toWait, State.setStage, rd_wr _ _ _ _ (by decide)]
  rfl

theorem toWait_core (s : State) (l : Nat) : (s.toWait l).core = s.core := by
  rw [State.toWait, State.setStage, wr_core, State.dropLocks, modLane_core, set0_core, set0_core, set0_core]

theorem toWait_link (s : State) (l : Nat) : (s.toWait l).link = s.link := by
  rw [State.toWait, State.setStage, wr_link, State.dropLocks, modLane_link, set0_link, set0_link, set0_link]

theorem abandonRetune_core (s : State) (l : Nat) : (s.abandonRetune l).core = s.core := by
  rw [State.abandonRetune, set0_core, set0_core, modLane_core]

theorem abandonRetune_link (s : State) (l : Nat) : (s.abandonRetune l).link = s.link := by
  rw [State.abandonRetune, set0_link, set0_link, modLane_link]

/-- A lane that may go back does; another stays. -/
theorem laneBack_goes {s : State} {l : Nat} (h : s.stage l ∉ [Stage.OFF, Stage.TEST, Stage.STD]) :
    s.laneBack l = (s.abandonRetune l).toWait l := if_neg (by simpa using h)

theorem laneBack_stays {s : State} {l : Nat} (h : s.stage l ∈ [Stage.OFF, Stage.TEST, Stage.STD]) : s.laneBack l = s :=
  if_pos (by simpa using h)

theorem lane_ne_retune (k l : Nat) : Reg.LN_STATUS k ≠ Reg.LN_RETUNE l := by simp only [Reg.LN_STATUS, Reg.LN_RETUNE]; omega

/-- The stage of a lane after one lane has gone back. -/
theorem laneBack_stage (s : State) (l k : Nat) : (s.laneBack l).stage k =
    if k = l ∧ s.stage k ∉ [Stage.OFF, Stage.TEST, Stage.STD] then Stage.WAIT else s.stage k := by
  by_cases hb : s.stage l ∈ [Stage.OFF, Stage.TEST, Stage.STD]
  · rw [laneBack_stays hb, if_neg]
    rintro ⟨rfl, h⟩
    exact h hb
  · rw [laneBack_goes hb]
    by_cases hk : k = l
    · subst hk
      rw [toWait_stage, if_pos ⟨rfl, hb⟩]
    · rw [if_neg fun h => hk h.1]
      exact rd_of_reg ((toWait_reg _ _ _ (by simpa using hk)).trans (abandonRetune_reg _ _ _ (lane_ne_retune k l))) _

/-- Every lane of a list that may goes to WAIT. -/
theorem lanesBack_stage (k : Nat) : ∀ (ls : List Nat) (s : State), (ls.foldl (fun t l => t.laneBack l) s).stage k =
    if k ∈ ls ∧ s.stage k ∉ [Stage.OFF, Stage.TEST, Stage.STD] then Stage.WAIT else s.stage k
  | [], s => by simp
  | l :: ls, s => by
    rw [List.foldl_cons, lanesBack_stage k ls, laneBack_stage s l k]
    by_cases hk : k = l
    · subst hk
      by_cases hs : s.stage k ∈ [Stage.OFF, Stage.TEST, Stage.STD]
      · simp only [hs, not_true, and_false, if_false]
      · simp only [hs, not_false_eq_true, and_true, if_true, List.mem_cons, true_or]
        split <;> rfl
    · simp [hk]

/-- What a lane that goes back leaves: the fabric's queues and gates, and the registers of no lane. -/
theorem laneBack_keeps (s : State) (l : Nat) : (s.laneBack l).core = s.core ∧ (s.laneBack l).link = s.link ∧
    ∀ a, a % 0x10000 < 0x8000 → (s.laneBack l).reg a = s.reg a := by
  by_cases hb : s.stage l ∈ [Stage.OFF, Stage.TEST, Stage.STD]
  · rw [laneBack_stays hb]
    exact ⟨rfl, rfl, fun _ _ => rfl⟩
  · rw [laneBack_goes hb]
    exact ⟨(toWait_core ..).trans (abandonRetune_core ..), (toWait_link ..).trans (abandonRetune_link ..), fun a ha =>
      (toWait_reg _ _ _ (ne_LN_STATUS l ha)).trans (abandonRetune_reg _ _ _ (ne_LN_RETUNE l ha))⟩

theorem lanesBack_keeps : ∀ (ls : List Nat) (s : State), (ls.foldl (fun t l => t.laneBack l) s).core = s.core ∧
    (ls.foldl (fun t l => t.laneBack l) s).link = s.link ∧
    ∀ a, a % 0x10000 < 0x8000 → (ls.foldl (fun t l => t.laneBack l) s).reg a = s.reg a
  | [], s => ⟨rfl, rfl, fun _ _ => rfl⟩
  | l :: ls, s => by
    obtain ⟨h1, h2, h3⟩ := lanesBack_keeps ls (s.laneBack l)
    obtain ⟨k1, k2, k3⟩ := laneBack_keeps s l
    exact ⟨h1.trans k1, h2.trans k2, fun a ha => (h3 a ha).trans (k3 a ha)⟩

/-- The state in which every lane of a port has gone back, before its link leaves. -/
def State.lanesGone (s : State) (p : PortRec) : State :=
  let s0 := p.lanes.foldl (fun t l => t.laneBack l) s
  (if p.lanes.any fun l => s0.stage l == Stage.WAIT then s0.attemptDone p.port else s0).modLink p.port fun l =>
    { l with lanesKept := false }

theorem lanesGone_spec (s : State) (p : PortRec) : (s.lanesGone p).core = s.core ∧
    (s.lanesGone p).regs = (p.lanes.foldl (fun t l => t.laneBack l) s).regs := by
  have h := (lanesBack_keeps p.lanes s).1
  unfold State.lanesGone
  simp only
  split <;> exact ⟨h, rfl⟩

theorem LL_STATUS_low (q : Nat) : Reg.PT_LL_STATUS q % 0x10000 < 0x8000 := by simp only [Reg.PT_LL_STATUS]; omega

theorem lanesGone_linkState (s : State) (p : PortRec) : (s.lanesGone p).linkState p.port = s.linkState p.port :=
  rd_of_reg ((reg_of_regs (lanesGone_spec s p).2 _).trans ((lanesBack_keeps p.lanes s).2.2 _ (LL_STATUS_low _))) _

/-- The lanes of a lingering link all go to WAIT, and the link ends (Table 7). -/
theorem lanesToWait_lingering {s : State} {p : PortRec} (hs : s.linkState p.port = 3) :
    s.lanesToWait p = ((s.lanesGone p).linkDown p false).modLink p.port fun l =>
      { l with restarting := false, initSent := false, initIn := none } := by
  have h3 := (lanesGone_linkState s p).trans hs
  have hl : (s.lanesGone p).leaveUp p = s.lanesGone p := by
    simp [State.leaveUp, h3]
  unfold State.lanesToWait
  change (if ((s.lanesGone p).leaveUp p).linkState p.port = 3 then ((s.lanesGone p).leaveUp p).linkDown p false
    else (s.lanesGone p).leaveUp p).modLink p.port _ = _
  rw [hl, if_pos h3]

/-- t is what the end of a command makes of a calm state u: outputs are added, the pins follow. -/
structure State.after (t u : State) : Prop where
  regs : t.regs = u.regs
  link : t.link = u.link
  lane : t.lane = u.lane
  core : t.core = u.core
  out : ∀ o ∈ u.out, o ∈ t.out

theorem answers_after {s u : State} {P : State → Prop} (hq : s.quiet = true) (h : u.calm s) (hP : ∀ t : State, t.after u → P t) :
    Answers (done u) P :=
  answers_of_calm hq h fun _ _ _ => hP _ ⟨rfl, rfl, rfl, rfl, fun _ ho => List.mem_append_right _ ho⟩

theorem laneSt_of_lane {t u : State} (h : t.lane = u.lane) (l : Nat) : t.laneSt l = u.laneSt l := by
  simp only [State.laneSt, h]

theorem modLink_flt (s : State) (q : Nat) (g : LinkState → LinkState) : (s.modLink q g).flt = s.flt := rfl

theorem modLink_lane (s : State) (q : Nat) (g : LinkState → LinkState) : (s.modLink q g).lane = s.lane := rfl

theorem taps_of_regs {t u : State} (h : t.regs = u.regs) (l : Nat) : t.taps l = u.taps l := by
  have e := reg_of_regs h (Reg.LN_TXFIR l)
  simp only [State.taps, State.rdS, rd_of_reg e]

theorem controlMessage_leaves {s : State} {q : PortIx} {p : PortRec} {c : LinkCtl} {P : State → Prop}
    (hc : s.md.clocked = true) (hp : s.portRec q.val = some p) (hf : p.fabric = true) (hs : s.linkState q.val ≠ 0)
    (h : P (s.linkControl p c)) : Leaves (whenClocked s fun t => t.controlMessage q.val c) P :=
  leaves_clocked hc (by rw [controlMessage_runs c hp hf hs]; exact h)

theorem controlMessage_answers {s : State} {q : PortIx} {p : PortRec} {c : LinkCtl} {P : State → Prop}
    (hc : s.md.clocked = true) (hp : s.portRec q.val = some p) (hf : p.fabric = true) (hs : s.linkState q.val ≠ 0)
    (h : Answers (done (s.linkControl p c)) P) : Answers (whenClocked s fun t => t.controlMessage q.val c) P :=
  answers_clocked hc (by rw [controlMessage_runs c hp hf hs]; exact h)

theorem restartPort_eq {s : State} {q : Nat} {p : PortRec} (hp : s.portRec q = some p) (hf : p.fabric = true) :
    s.restartPort q = s.linkRestart p := by
  simp only [State.restartPort, State.atPort, hp, hf, if_true]

/-- The end of a linger window of a standard port with nothing queued. -/
theorem stdWindowEnd_none {s : State} {q : Nat} (h : s.core.queues = []) :
    (s.stdWindowEnd q).link = s.link ∧
      ∀ a, a ≠ Reg.PT_STD_STATUS q → a ≠ Reg.PT_STD_EVENTS q → (s.stdWindowEnd q).reg a = s.reg a := by
  have key : ∀ u : State, u.core.queues = [] → (u.stdLingerEnd q).link = u.link ∧
      ∀ a, a ≠ Reg.PT_STD_STATUS q → (u.stdLingerEnd q).reg a = u.reg a := fun u hu => by
    have hc : u.portCells q = 0 := by
      unfold State.portCells State.portQueues
      rw [hu]
      rfl
    unfold State.stdLingerEnd
    simp only [hc, if_true]
    split
    · exact ⟨rfl, fun _ _ => rfl⟩
    · exact ⟨by rw [set0_link], fun a ha => by rw [set0_eq, reg_wr, if_neg ha]⟩
  unfold State.stdWindowEnd
  simp only
  split
  · obtain ⟨k1, k2⟩ := key ((s.set1 (Reg.PT_STD_STATUS q) Fld.PT_STD_STATUS.LINGER).wr (Reg.PT_STD_EVENTS q)
      Fld.PT_STD_EVENTS.RESUMES (s.rd (Reg.PT_STD_EVENTS q) Fld.PT_STD_EVENTS.RESUMES - 1)) (by rw [wr_core, set1_core]; exact h)
    exact ⟨k1.trans (by rw [wr_link, set1_link]), fun a h1 h2 => (k2 a h1).trans (by rw [reg_wr, if_neg h2, set1_eq, reg_wr, if_neg h1])⟩
  · obtain ⟨k1, k2⟩ := key s h
    exact ⟨k1, fun a h1 _ => k2 a h1⟩

/-- Settles O29: each message by the branch it takes, then the two time limits. -/
theorem linkControl : Obligations.LinkControl := by
  refine ⟨?_, ?_, ?_, ?_, ?_, ?_, ?_, ?_, ?_⟩
  · intro s q p m hc hp hpq hf ha hsp hs he hn
    refine controlMessage_leaves (c := .rxLanes m.toNat) hc hp hf hs ?_
    simp only [← hpq] at *
    have e : s.linkControl p (.rxLanes m.toNat) = s.txMapChange p (m.toNat % 2 ^ p.width) := rfl
    rw [e, txMapChange_new hs hn he ha hsp]
    generalize hw : (s.modLink p.port fun x => x.mapped (m.toNat % 2 ^ p.width)
      (laneMap p (m.toNat % 2 ^ p.width) (s.linkSt p.port).txMap)).wr (Reg.PT_LL_STATUS p.port) Fld.PT_LL_STATUS.MAP_ID
      ((s.rd (Reg.PT_LL_STATUS p.port) Fld.PT_LL_STATUS.MAP_ID + 1) % 4) = w
    have hx : w.linkSt p.port = (s.linkSt p.port).mapped (m.toNat % 2 ^ p.width)
        (laneMap p (m.toNat % 2 ^ p.width) (s.linkSt p.port).txMap) := by
      rw [← hw, wr_linkSt, modLink_linkSt]
    have hid : w.rd (Reg.PT_LL_STATUS p.port) Fld.PT_LL_STATUS.MAP_ID =
        (s.rd (Reg.PT_LL_STATUS p.port) Fld.PT_LL_STATUS.MAP_ID + 1) % 4 := by
      rw [← hw, rd_wr _ _ _ _ (by decide)]
      exact Nat.mod_mod _ _
    have hst : w.linkState p.port = s.linkState p.port := by
      rw [← hw, State.linkState, rd_wr_eq, if_pos rfl, getFld_setFld_other _ _ _ _ (by decide) (by decide), modLink_reg, getFld_reg]
      rfl
    have k := noteWidth_keepsLink w p
    have k1 := k.2.2 _ (LL_ERR_ne_STATUS p.port).symm
    have k2 := showMap_keepsLink hsp (w.noteWidth p)
    obtain ⟨f1, f2, f3⟩ := showMap_status hsp (w.noteWidth p)
    have hl : ((w.noteWidth p).showMap p).linkSt p.port = w.linkSt p.port :=
      (linkSt_of_keeps k2 _).trans (linkSt_of_keeps k _)
    refine ⟨?_, ?_, ?_, ?_, ?_, fun hlt => ?_⟩
    · rw [hl, hx]; rfl
    · rw [hl, hx]; rfl
    · rw [f2, rd_of_reg k1, hid]
    · rw [f1, linkSt_of_keeps k, hx]; rfl
    · rw [f3, ← hst]
      exact rd_of_reg k1 _
    · have hg : ¬ mapReg p.port (Reg.PT_LL_ERR p.port) := by
        simp only [mapReg, gateReg, Reg.PT_LL_ERR, Reg.PT_LL_STATUS]; omega
      have hwid : w.noteWidth p = w.linkErr p.port Fld.PT_LL_ERR.WIDTH 10 := if_pos (by rw [hx]; exact hlt)
      rw [on_of_reg (k2.2.2 _ hg)]
      refine ⟨?_, hasRaised_raised k2.2.1 ?_⟩ <;> rw [hwid]
      · exact linkErr_on _ _ _ _ (by decide) (by decide)
      · exact linkErr_hasRaised ..
  · intro s q p m hq hc hp hpq hf hs he
    refine controlMessage_answers (c := .rxLanes m.toNat) hc hp hf hs ?_
    simp only [← hpq] at *
    have e : s.linkControl p (.rxLanes m.toNat) = s.txMapChange p (m.toNat % 2 ^ p.width) := rfl
    rw [e, txMapChange_same he]
    exact answers_of_link hq (linkOnly_modLink (linkOnly_refl s) _ _) [] (by simp) (fun a _ => rfl)
      fun t ht _ hg _ _ => ⟨by rw [linkSt_of_link ht, modLink_linkSt], by rw [linkSt_of_link ht, modLink_linkSt],
        fun a _ => reg_of_regs hg a⟩
  · intro s q p n x hq hc hp hpq hf hs hn hx
    refine controlMessage_answers (c := .firReq n.val x) hc hp hf hs ?_
    rw [firReq_eq hn hx]
    simp only [← hpq] at *
    have hr : ∀ a, a ∈ calmRegs → a ≠ Reg.LN_TXFIR (p.chipLane n.val) := fun a ha => ne_LN_TXFIR _ (by
      revert a; decide)
    have hr := fun a ha => setTaps_reg s (p.chipLane n.val) [2, -12, 43, -6] a (hr a ha)
    generalize hw : s.setTaps (p.chipLane n.val) [2, -12, 43, -6] = w at hr
    have hrest : w.rest = s.rest := by rw [← hw, setTaps_rest]
    have hx : w.link = s.link := by rw [← hw, setTaps_link]
    refine answers_after hq (calm_modLink (calm_modLane (calm_of_rest hrest hr) _ _) _ _)
      fun t ht => ⟨?_, ?_, ?_, fun a ha => ?_⟩
    · refine (taps_of_regs (u := w) ht.regs _).trans ?_
      rw [← hw, setTaps_taps]
    · rw [laneSt_of_lane ht.lane, laneSt_of_lane (modLink_lane ..), laneSt_modLane, if_pos rfl]
    · rw [linkSt_of_link ht.link, modLink_linkSt, linkSt_of_link ((modLane_link ..).trans hx)]
    · rw [reg_of_regs ht.regs, modLink_reg, modLane_reg, ← hw, setTaps_reg _ _ _ _ (List.ne_of_not_mem_cons ha)]
  · intro s q n x hq hc
    refine answers_clocked hc ?_
    have e : s.controlMessage q.val (.firSts n.val x) = s := by
      simp only [State.controlMessage, State.atPort]
      split
      · split <;> rfl
      · rfl
    rw [e]
    exact answers_of_calm hq ⟨⟨rfl, rfl, rfl, rfl, rfl, rfl⟩, rfl, rfl, rfl⟩ fun _ _ _ => ⟨rfl, rfl, fun _ _ => rfl⟩
  · intro s q p c hc hp hpq hf hs hr hl ho
    refine controlMessage_leaves (c := .llInit c) hc hp hf (by omega) ?_
    simp only [← hpq] at *
    rw [llInit_restarts hr hs]
    generalize hw : s.wrB (Reg.PT_LL_STATUS p.port) Fld.PT_LL_STATUS.PARTNER_TENT_OK c.tentOk = w
    have hws : w.linkState p.port = 2 := by
      rw [← hs, ← hw, wrB_eq, State.linkState, rd_wr_eq, if_pos rfl, getFld_setFld_other _ _ _ _ (by decide) (by decide), getFld_reg]
      rfl
    have hwo : w.core.otags = [] := by
      rw [← hw, wrB_core, ho]
    obtain ⟨k1, k2, k3, _, k5, _, _, k8, k9⟩ := linkRestart_spec hws hl hwo
    have hx : ((w.linkRestart p).modLink p.port fun x => { x with initIn := some c }).linkSt p.port =
        { (w.linkSt p.port).restarted.dropped with initIn := some c } := by
      rw [modLink_linkSt, k1]
    rw [settleInit_unsent (by rw [hx]; rfl)]
    refine ⟨(modLink_linkState ..).trans k2, ?_, ?_, ?_, ?_, ?_, (on_of_reg (modLink_reg ..) _).trans k5, fun a ha =>
      (modLink_reg ..).trans ((k9 a ha).trans ?_)⟩
    · rw [hx]; rfl
    · rw [hx]
    · rw [hx]; rfl
    · have h8 := k8 Fld.PT_LL_STATUS.PARTNER_TENT_OK (by decide)
      rw [State.on, modLink_rd, h8, ← hw, wrB_eq, rd_wr _ _ _ _ (by decide)]
      cases c.tentOk <;> rfl
    · exact hasRaised_of_flt (modLink_flt ..) k3
    · simp only [List.mem_cons, List.not_mem_nil, or_false, not_or] at ha
      obtain ⟨_, _, h3⟩ := ha
      rw [← hw, wrB_eq, reg_wr, if_neg h3]
  · intro s q p c hq hc hp hpq hf hs hcr ⟨hr, his, hio, hk, hm, hlt, hx⟩ ho
    refine controlMessage_answers (c := .llInit c) hc hp hf (by omega) ?_
    simp only [← hpq] at *
    rw [llInit_answers hr]
    generalize hw : (s.wrB (Reg.PT_LL_STATUS p.port) Fld.PT_LL_STATUS.PARTNER_TENT_OK c.tentOk).modLink p.port
      (fun x => { x with initIn := some c }) = w
    have hwl : w.linkSt p.port = { s.linkSt p.port with initIn := some c } := by
      rw [← hw, modLink_linkSt, wrB_eq, wr_linkSt]
    have hws : w.linkState p.port = 3 := by
      rw [← hs, ← hw, modLink_linkState, wrB_eq, State.linkState, rd_wr_eq, if_pos rfl,
        getFld_setFld_other _ _ _ _ (by decide) (by decide), getFld_reg]
      rfl
    have hwr : ∀ a, a ≠ Reg.PT_LL_STATUS p.port → w.reg a = s.reg a := fun a ha => by
      rw [← hw, modLink_reg, wrB_eq, reg_wr, if_neg ha]
    have hwo : w.linkOnly s := by
      rw [← hw]
      exact linkOnly_modLink (linkOnly_wr (linkOnly_refl s) _ _ _) _ _
    rw [settleInit_resumes (c := c) (by rw [hwl]) (by rw [hwl]; exact hr) (by rw [hwl]; exact his) (by rw [hwl]; exact hio) hcr
      (by rw [hwl]; exact hk) (by rw [hwl]; exact hm) (by rw [hwl]; exact hx) hws]
    have hwc : w.calm s := by
      rw [← hw, wrB_eq]
      exact calm_modLink (calm_wr (calm_refl s) (LL_STATUS_not_calm _) _ _) _ _
    rw [linkResume_eq]
    generalize hv : (w.modLink p.port fun l => l.resumed c.rxNext w.now).freeDropped p.port
      (fun r => decide ((4096 + r.fseq - c.rxNext) % 4096 < 2048)) = v
    have hvl : v.linkSt p.port = ({ s.linkSt p.port with initIn := some c } : LinkState).resumed c.rxNext w.now := by
      rw [← hv, freeDropped_linkSt, modLink_linkSt, hwl]
    have hvr : ∀ a, v.reg a = w.reg a := fun a => by rw [← hv, freeDropped_reg, modLink_reg]
    have hvc : v.calm s := by
      rw [← hv]
      exact calm_freeDropped (calm_modLink hwc _ _) _ _
    refine answers_after hq (calm_wr (calm_wr hvc (LL_EVENTS_not_calm _) _ _) (LL_STATUS_not_calm _) _ _)
      fun t ht => ?_
    have htl : t.linkSt p.port = ({ s.linkSt p.port with initIn := some c } : LinkState).resumed c.rxNext w.now := by
      rw [linkSt_of_link ht.link, State.setLink, wr_linkSt, inc_eq, addTo_eq, wr_linkSt, hvl]
    refine ⟨?_, ?_, ?_, ?_, ?_, ?_, fun a ha => ?_⟩
    · refine (rd_of_reg (reg_of_regs ht.regs _) _).trans ?_
      rw [State.setLink, rd_wr _ _ _ _ (by decide)]
      rfl
    · rw [htl]; rfl
    · rw [htl]
      simp [LinkState.resumed, hm]
    · rw [htl]; rfl
    · rw [htl]; rfl
    · rw [rd_of_reg (reg_of_regs ht.regs _), State.setLink, rd_wr_eq, if_neg (LL_EVENTS_ne_STATUS _), State.inc,
        rd_addTo _ _ _ _ (by decide), rd_of_reg ((hvr _).trans (hwr _ (LL_EVENTS_ne_STATUS _)))]
    · simp only [List.mem_cons, List.not_mem_nil, or_false, not_or] at ha
      rw [reg_of_regs ht.regs, State.setLink, reg_wr, if_neg ha.1, inc_eq, addTo_eq, reg_wr, if_neg ha.2, hvr, hwr _ ha.1]
  · intro s a q p ha hp hpq hf hs hl ho
    change Leaves (s.written a fun t => t.restartPort q.val) _
    refine written_leaves_of ha fun x => ?_
    rw [restartPort_eq (s := s.withHold x) hp hf]
    simp only [← hpq] at *
    obtain ⟨k1, k2, k3, _, _, _, k7, _, k9⟩ := linkRestart_spec (s := s.withHold x) hs hl ho
    refine ⟨k2, ?_, ?_, ?_, ?_, k3, k7, k9⟩ <;> rw [k1] <;> rfl
  · intro s q p hc hp hpq hsp hem hs hr hi hlt
    change Leaves (whenClocked s fun t => t.initTimeout q.val) _
    refine leaves_clocked hc ?_
    obtain ⟨_, hq, _, _, hg, _, _⟩ := hem
    have e : s.initTimeout q.val = s.lanesToWait p := by
      simp [State.initTimeout, hp, hr, hi]
    rw [e]
    simp only [← hpq] at *
    rw [lanesToWait_lingering hs]
    have hgc := (lanesGone_spec s p).1
    refine ⟨fun k hk hst => ?_, ?_, ?_⟩
    · have h1 := linkDown_lane ((lanesGone_linkState s p).trans hs) (by rw [hgc]; exact hq) (by rw [hgc]; exact hg) hsp k
      refine (rd_of_reg (h1.trans (reg_of_regs (lanesGone_spec s p).2 _)) _).trans ?_
      refine (lanesBack_stage k p.lanes s).trans ?_
      rw [if_pos ⟨hk, hst⟩]
    · rw [modLink_linkSt]
    · rw [modLink_linkSt]
  · intro s q p hc hp hpq hf hsp hem hs hn hm hlt
    change Leaves (whenClocked s fun t => (t.lingerExpiry q.val).stdWindowEnd q.val) _
    refine leaves_clocked hc ?_
    obtain ⟨_, hq, _, _, hg, _, _⟩ := hem
    have e : s.lingerExpiry q.val = s.linkDown p false := by
      simp [State.lingerExpiry, hp, hf, hs]
    rw [e]
    simp only [← hpq] at *
    rw [linkDown_lingered hs hq hg]
    obtain ⟨e1, e2, e3, e4, e5, e6⟩ := linkEnded_spec s p.port
    have k := showMap_keepsLink hsp (s.linkEnded p.port)
    obtain ⟨f1, f2, f3⟩ := showMap_status hsp (s.linkEnded p.port)
    have hst : ((s.linkEnded p.port).showMap p).healthMask p = s.healthMask p :=
      healthMask_of_reg p fun l => (k.2.2 _ (lane_not_map _ _)).trans (e1 _ (lane_not_end _ _))
    rw [linkStart_none (by rw [hst]; exact hm)]
    obtain ⟨w1, w2⟩ := stdWindowEnd_none (s := (s.linkEnded p.port).showMap p) (q := p.port) (by rw [k.1.2.1, e3]; exact hq)
    have hreg : ∀ a, a = Reg.PT_LL_STATUS p.port ∨ a = Reg.PT_LL_EVENTS p.port →
        (((s.linkEnded p.port).showMap p).stdWindowEnd p.port).reg a = ((s.linkEnded p.port).showMap p).reg a := by
      have h1 : Reg.PT_LL_STATUS p.port ≠ Reg.PT_STD_STATUS p.port ∧ Reg.PT_LL_STATUS p.port ≠ Reg.PT_STD_EVENTS p.port ∧
          Reg.PT_LL_EVENTS p.port ≠ Reg.PT_STD_STATUS p.port ∧ Reg.PT_LL_EVENTS p.port ≠ Reg.PT_STD_EVENTS p.port := by
        simp only [Reg.PT_LL_STATUS, Reg.PT_LL_EVENTS, Reg.PT_STD_STATUS, Reg.PT_STD_EVENTS]; omega
      rintro a (rfl | rfl)
      · exact w2 _ h1.1 h1.2.1
      · exact w2 _ h1.2.2.1 h1.2.2.2
    have hev : ¬ mapReg p.port (Reg.PT_LL_EVENTS p.port) := by
      simp only [mapReg, gateReg, Reg.PT_LL_EVENTS, Reg.PT_LL_STATUS]; omega
    refine ⟨?_, ?_, ?_, ?_, ?_⟩
    · exact (rd_of_reg (hreg _ (.inl rfl)) _).trans (f3.trans e2)
    · rw [linkSt_of_link w1, linkSt_of_keeps k, e5]
    · rw [linkSt_of_link w1, linkSt_of_keeps k, e6]
    · rw [rd_of_reg (hreg _ (.inr rfl)), rd_of_reg (k.2.2 _ hev), e4]
    · rw [rd_of_reg (hreg _ (.inl rfl)), f1, e5]
      rfl

end Sys2Proof.Machine
end

section
/-!
LAW. Tests of lanes: generators and checkers, errors injected, and LINKTEST runs.
-/
namespace Sys2Proof.Machine

/-! ### Fields of a register after writes of others -/

theorem reg_wr_ne {a b : Nat} (h : b ≠ a) (s : State) (f : Fld) (x : Nat) : (s.wr a f x).reg b = s.reg b := by
  rw [reg_wr, if_neg h]

theorem rd_wr_ne {a b : Nat} (h : b ≠ a) (s : State) (f g : Fld) (x : Nat) : (s.wr a f x).rd b g = s.rd b g :=
  rd_of_reg (reg_wr_ne h s f x) g

theorem on_wr_ne {a b : Nat} (h : b ≠ a) (s : State) (f g : Fld) (x : Nat) : (s.wr a f x).on b g = s.on b g :=
  on_of_reg (reg_wr_ne h s f x) g

theorem on_wr_one {f : Fld} (hf : f.lo + f.width ≤ 64) (hw : 0 < f.width) (s : State) (a : Nat) : (s.wr a f 1).on a f = true :=
  on_set1 s a f hf hw

theorem on_wr_zero {f : Fld} (hf : f.lo + f.width ≤ 64) (s : State) (a : Nat) : (s.wr a f 0).on a f = false := by
  unfold State.on
  rw [rd_wr _ _ _ _ hf, Nat.zero_mod]
  rfl

/-! ### Lane registers -/

/-- Lane registers are none that the collector reads. -/
theorem lane_not_calm {a : Nat} (h : 0x8000 ≤ a % 0x10000) : a ∉ calmRegs := portReg_not_calm (by omega)

theorem LN_STATUS_not_calm (l : Nat) : Reg.LN_STATUS l ∉ calmRegs := lane_not_calm (by simp only [Reg.LN_STATUS]; omega)
theorem LN_TXFIR_not_calm (l : Nat) : Reg.LN_TXFIR l ∉ calmRegs := lane_not_calm (by simp only [Reg.LN_TXFIR]; omega)
theorem LN_TRAIN_not_calm (l : Nat) : Reg.LN_TRAIN l ∉ calmRegs := lane_not_calm (by simp only [Reg.LN_TRAIN]; omega)
theorem LN_PRBS_CTL_not_calm (l : Nat) : Reg.LN_PRBS_CTL l ∉ calmRegs := lane_not_calm (by simp only [Reg.LN_PRBS_CTL]; omega)
theorem LN_PRBS_STATUS_not_calm (l : Nat) : Reg.LN_PRBS_STATUS l ∉ calmRegs :=
  lane_not_calm (by simp only [Reg.LN_PRBS_STATUS]; omega)
theorem LN_PRBS_BITS_not_calm (l : Nat) : Reg.LN_PRBS_BITS l ∉ calmRegs := lane_not_calm (by simp only [Reg.LN_PRBS_BITS]; omega)
theorem LN_PRBS_ERRS_not_calm (l : Nat) : Reg.LN_PRBS_ERRS l ∉ calmRegs := lane_not_calm (by simp only [Reg.LN_PRBS_ERRS]; omega)
theorem LN_PRBS_INJ_not_calm (l : Nat) : Reg.LN_PRBS_INJ l ∉ calmRegs := lane_not_calm (by simp only [Reg.LN_PRBS_INJ]; omega)
theorem LN_TEST_CFG_not_calm (l : Nat) : Reg.LN_TEST_CFG l ∉ calmRegs := lane_not_calm (by simp only [Reg.LN_TEST_CFG]; omega)

/-! ### PRBS -/

theorem calm_setReg {u s : State} (h : u.calm s) {a : Nat} (ha : a ∉ calmRegs) (v : Word) : (u.setReg a v).calm s :=
  calm_trans (u := u) (calm_of_rest rfl fun b hb => by
    rw [reg_setReg, if_neg]
    rintro rfl
    exact ha hb) h

/-- Lanes shown under test or off: LN_STATUS alone may change. -/
theorem showTest_reg (s : State) (l a : Nat) (h : a ≠ Reg.LN_STATUS l) : (s.showTest l).reg a = s.reg a := by
  unfold State.showTest State.setStage
  simp only
  split
  · exact reg_wr_ne h _ _ _
  · rfl

theorem showTest_calm {u s : State} (h : u.calm s) (l : Nat) : (u.showTest l).calm s := by
  unfold State.showTest State.setStage
  simp only
  split
  · exact calm_wr h (LN_STATUS_not_calm l) _ _
  · exact h

/-- LN_PRBS_CTL as a write of it begins: a 1 clears REFUSED. -/
def State.prbsUnrefused (s : State) (l : Nat) (w : Word) : State :=
  if getFld w Fld.LN_PRBS_CTL.REFUSED = 1 then s.set0 (Reg.LN_PRBS_CTL l) Fld.LN_PRBS_CTL.REFUSED else s

/-- LN_PRBS_CTL written where the lane may be under test, up to what its checker counts. -/
def State.prbsTaken (s : State) (l : Nat) (w : Word) : State :=
  ((s.prbsUnrefused l w).wr (Reg.LN_PRBS_CTL l) ⟨0, 12⟩ (w.toNat % 2 ^ 12)).showTest l

theorem prbsUnrefused_reg (s : State) (l : Nat) (w : Word) (a : Nat) (h : a ≠ Reg.LN_PRBS_CTL l) :
    (s.prbsUnrefused l w).reg a = s.reg a := by
  unfold State.prbsUnrefused
  split
  · exact reg_wr_ne h _ _ _
  · rfl

theorem prbsUnrefused_calm {u s : State} (h : u.calm s) (l : Nat) (w : Word) : (u.prbsUnrefused l w).calm s := by
  unfold State.prbsUnrefused
  split
  · exact calm_wr h (LN_PRBS_CTL_not_calm l) _ _
  · exact h

theorem prbsTaken_reg (s : State) (l : Nat) (w : Word) (a : Nat) (h : a ≠ Reg.LN_PRBS_CTL l) (h2 : a ≠ Reg.LN_STATUS l) :
    (s.prbsTaken l w).reg a = s.reg a := by
  rw [State.prbsTaken, showTest_reg _ _ _ h2, reg_wr_ne h, prbsUnrefused_reg _ _ _ _ h]

theorem prbsTaken_rd (s : State) (l : Nat) (w : Word) :
    (s.prbsTaken l w).rd (Reg.LN_PRBS_CTL l) ⟨0, 12⟩ = w.toNat % 2 ^ 12 := by
  have h : Reg.LN_PRBS_CTL l ≠ Reg.LN_STATUS l := by simp only [Reg.LN_PRBS_CTL, Reg.LN_STATUS]; omega
  rw [State.prbsTaken, rd_of_reg (showTest_reg _ _ _ h), rd_wr _ _ _ _ (by decide)]
  exact Nat.mod_mod _ _

theorem prbsTaken_calm {u s : State} (h : u.calm s) (l : Nat) (w : Word) : (u.prbsTaken l w).calm s :=
  showTest_calm (calm_wr (prbsUnrefused_calm h l w) (LN_PRBS_CTL_not_calm l) _ _) l

/-- The counts of a checker begin anew. -/
def State.prbsCleared (s : State) (l : Nat) : State :=
  ((s.setReg (Reg.LN_PRBS_BITS l) 0).setReg (Reg.LN_PRBS_ERRS l) 0).set0 (Reg.LN_PRBS_STATUS l) Fld.LN_PRBS_STATUS.CHK_LOCK

theorem prbsWrite_taken {s : State} {l : Nat} (w : Word) (h : s.testAllowed l = true) : s.prbsWrite l w =
    if getFld w Fld.LN_PRBS_CTL.CHK_EN = 1 ∧ getFld (s.reg (Reg.LN_PRBS_CTL l)) Fld.LN_PRBS_CTL.CHK_EN = 0 then
      (s.prbsTaken l w).prbsCleared l
    else if getFld w Fld.LN_PRBS_CTL.CHK_EN = 0 then
      (s.prbsTaken l w).set0 (Reg.LN_PRBS_STATUS l) Fld.LN_PRBS_STATUS.CHK_LOCK
    else s.prbsTaken l w := by
  unfold State.prbsWrite
  simp only [h, Bool.not_true, Bool.and_false, Bool.false_eq_true, if_false]
  rfl

/-- A write of LN_PRBS_CTL where the lane may be under test: its fields, the counts of a checker that starts, the rest. -/
theorem prbsWrite_spec {s : State} {l : Nat} (w : Word) (h : s.testAllowed l = true) :
    (s.prbsWrite l w).rd (Reg.LN_PRBS_CTL l) ⟨0, 12⟩ = w.toNat % 2 ^ 12 ∧
      (getFld w Fld.LN_PRBS_CTL.CHK_EN = 1 → getFld (s.reg (Reg.LN_PRBS_CTL l)) Fld.LN_PRBS_CTL.CHK_EN = 0 →
        (s.prbsWrite l w).reg (Reg.LN_PRBS_BITS l) = 0 ∧ (s.prbsWrite l w).reg (Reg.LN_PRBS_ERRS l) = 0 ∧
          (s.prbsWrite l w).on (Reg.LN_PRBS_STATUS l) Fld.LN_PRBS_STATUS.CHK_LOCK = false) ∧
      (∀ a, a ∉ [Reg.LN_PRBS_CTL l, Reg.LN_PRBS_BITS l, Reg.LN_PRBS_ERRS l, Reg.LN_PRBS_STATUS l, Reg.LN_STATUS l] →
        (s.prbsWrite l w).reg a = s.reg a) ∧
      ∀ s0, s.calm s0 → (s.prbsWrite l w).calm s0 := by
  have d : Reg.LN_PRBS_CTL l ≠ Reg.LN_PRBS_BITS l ∧ Reg.LN_PRBS_CTL l ≠ Reg.LN_PRBS_ERRS l ∧
      Reg.LN_PRBS_CTL l ≠ Reg.LN_PRBS_STATUS l ∧ Reg.LN_PRBS_BITS l ≠ Reg.LN_PRBS_ERRS l ∧
      Reg.LN_PRBS_BITS l ≠ Reg.LN_PRBS_STATUS l ∧ Reg.LN_PRBS_ERRS l ≠ Reg.LN_PRBS_STATUS l := by
    simp only [Reg.LN_PRBS_CTL, Reg.LN_PRBS_BITS, Reg.LN_PRBS_ERRS, Reg.LN_PRBS_STATUS]; omega
  obtain ⟨d1, d2, d3, d4, d5, d6⟩ := d
  rw [prbsWrite_taken w h]
  split
  · unfold State.prbsCleared
    refine ⟨?_, fun _ _ => ⟨?_, ?_, ?_⟩, fun a ha => ?_, fun s0 hc => ?_⟩
    · rw [set0_eq, rd_wr_ne d3, rd_setReg, if_neg d2, rd_setReg, if_neg d1, prbsTaken_rd]
    · rw [set0_eq, reg_wr_ne d5, reg_setReg, if_neg d4, reg_setReg, if_pos rfl]
    · rw [set0_eq, reg_wr_ne d6, reg_setReg, if_pos rfl]
    · rw [set0_eq, on_wr_zero (by decide)]
    · simp only [List.mem_cons, List.not_mem_nil, or_false, not_or] at ha
      obtain ⟨a1, a2, a3, a4, a5⟩ := ha
      rw [set0_eq, reg_wr_ne a4, reg_setReg, if_neg a3, reg_setReg, if_neg a2, prbsTaken_reg _ _ _ _ a1 a5]
    · exact calm_wr (calm_setReg (calm_setReg (prbsTaken_calm hc l w) (LN_PRBS_BITS_not_calm l) _) (LN_PRBS_ERRS_not_calm l) _)
        (LN_PRBS_STATUS_not_calm l) _ _
  · rename_i hn
    split
    · refine ⟨?_, fun h1 h2 => absurd ⟨h1, h2⟩ hn, fun a ha => ?_, fun s0 hc => ?_⟩
      · rw [set0_eq, rd_wr_ne d3, prbsTaken_rd]
      · simp only [List.mem_cons, List.not_mem_nil, or_false, not_or] at ha
        obtain ⟨a1, _, _, a4, a5⟩ := ha
        rw [set0_eq, reg_wr_ne a4, prbsTaken_reg _ _ _ _ a1 a5]
      · exact calm_wr (prbsTaken_calm hc l w) (LN_PRBS_STATUS_not_calm l) _ _
    · refine ⟨prbsTaken_rd s l w, fun h1 h2 => absurd ⟨h1, h2⟩ hn, fun a ha => ?_, fun s0 hc => prbsTaken_calm hc l w⟩
      simp only [List.mem_cons, List.not_mem_nil, or_false, not_or] at ha
      obtain ⟨a1, _, _, _, a5⟩ := ha
      exact prbsTaken_reg _ _ _ _ a1 a5

theorem prbsWrite_refused {s : State} {l : Nat} {w : Word} (h : s.testAllowed l = false)
    (hw : prbsStarts (s.reg (Reg.LN_PRBS_CTL l)) w = true) :
    s.prbsWrite l w = (s.prbsUnrefused l w).set1 (Reg.LN_PRBS_CTL l) Fld.LN_PRBS_CTL.REFUSED := by
  unfold State.prbsWrite
  simp only [h, hw, Bool.not_false, Bool.and_self, if_true]
  rfl

/-- A one-bit field is the bit. -/
theorem getFld_bit (w : Word) (i : Nat) : getFld w ⟨i, 1⟩ = if w.getLsbD i then 1 else 0 := by
  have h : w.getLsbD i = decide (w.toNat / 2 ^ i % 2 = 1) := Nat.testBit_eq_decide_div_mod_eq
  simp only [getFld, h, decide_eq_true_eq]
  split <;> omega

/-- The flags of a doubleword written, in the register's word. -/
theorem getFld_setWidth (w : BitVec 32) {i : Nat} (h : i < 32) :
    getFld (w.setWidth 64 : Word) ⟨i, 1⟩ = if w.getLsbD i then 1 else 0 := by
  rw [getFld_bit, BitVec.getLsbD_setWidth, decide_eq_true (by omega : i < 64), Bool.true_and]

theorem toNat_setWidth (w : BitVec 32) : (w.setWidth 64 : Word).toNat = w.toNat := by
  rw [BitVec.toNat_setWidth, Nat.mod_eq_of_lt (by omega)]

/-- Bits of a lane inverted after a running generator. -/
theorem inject_idle {s : State} {l : Nat} (n : Nat) (ha : s.laneActive l = false)
    (hg : s.on (Reg.LN_PRBS_CTL l) Fld.LN_PRBS_CTL.GEN_EN = true) : s.inject l n = s.emit (.injected l n) := by
  simp only [State.inject, ha, hg, Bool.false_and, Bool.false_or, Bool.false_eq_true, if_false, if_true]

theorem inject_refused {s : State} {l : Nat} {r : PortRec} (n : Nat) (ha : s.laneActive l = true)
    (hp : s.lanePort l = some r) (hr : r.anchored = true) :
    s.inject l n = s.set1 (Reg.LN_PRBS_INJ l) Fld.LN_PRBS_INJ.REFUSED := by
  simp only [State.inject, ha, hp, hr, Bool.and_self, if_true]

theorem calm_emit {u s : State} (h : u.calm s) (o : Out) : (u.emit o).calm s := h

/-! ### LINKTEST runs -/

/-- A lane of a run that adapts: PRESET2, DETECT (R267). -/
def State.testAdapts (s : State) (l : Nat) : State :=
  (((s.modLane l fun x => { x with test := some (s.reg (Reg.LN_TEST_CFG l)), counting := false }).wr (Reg.LN_STATUS l)
    Fld.LN_STATUS.RATE (getFld (s.reg (Reg.LN_TEST_CFG l)) Fld.LN_TEST_CFG.RATE)).wr (Reg.LN_STATUS l) Fld.LN_STATUS.RX_INV
      (getFld (s.reg (Reg.LN_TEST_CFG l)) Fld.LN_TEST_CFG.RX_INV)).setTaps l (presetTaps 2) |>.toDetect l

/-- A bit of a field that begins at bit 0. -/
theorem getFld_low_bit (v : Word) {i n : Nat} (h : i < n) : getFld v ⟨i, 1⟩ = getFld v ⟨0, n⟩ / 2 ^ i % 2 := by
  have e : (v.toNat % 2 ^ n).testBit i = v.toNat.testBit i := by simp [Nat.testBit_mod_two_pow, h]
  rw [Nat.testBit_eq_decide_div_mod_eq, Nat.testBit_eq_decide_div_mod_eq, decide_eq_decide] at e
  simp only [getFld, Nat.pow_zero, Nat.div_one, Nat.pow_one]
  omega

/-- The flags that a write of the low fields of a register leaves. -/
theorem rd_wr_low_bit (s : State) (a : Nat) (w : Word) {i n : Nat} (h : i < n) (hn : n ≤ 64) :
    (s.wr a ⟨0, n⟩ (w.toNat % 2 ^ n)).rd a ⟨i, 1⟩ = if w.getLsbD i then 1 else 0 := by
  have e : (s.wr a ⟨0, n⟩ (w.toNat % 2 ^ n)).rd a ⟨0, n⟩ = getFld w ⟨0, n⟩ := by
    rw [rd_wr _ _ _ _ (by simpa using hn), Nat.mod_mod]
    simp [getFld]
  rw [← getFld_bit, State.rd, getFld_low_bit _ h, getFld_low_bit w h]
  exact congrArg (· / 2 ^ i % 2) e

theorem testCfgWrite_starts {s : State} {l : Nat} {w : Word} (hm : s.md = .linktest)
    (he : s.on (Reg.LN_TEST_CFG l) Fld.LN_TEST_CFG.EN = false) (h0 : w.getLsbD 0 = true) (h4 : w.getLsbD 4 = true) :
    s.testCfgWrite l w = (s.wr (Reg.LN_TEST_CFG l) ⟨0, 13⟩ (w.toNat % 2 ^ 13)).testAdapts l := by
  have hc : Reg.CHIP_MODE ≠ Reg.LN_TEST_CFG l := by simp only [Reg.CHIP_MODE, Reg.LN_TEST_CFG]; omega
  have hm1 : (s.wr (Reg.LN_TEST_CFG l) ⟨0, 13⟩ (w.toNat % 2 ^ 13)).md = .linktest :=
    (md_of_reg (reg_wr_ne hc _ _ _)).trans hm
  have e1 : (s.wr (Reg.LN_TEST_CFG l) ⟨0, 13⟩ (w.toNat % 2 ^ 13)).on (Reg.LN_TEST_CFG l) Fld.LN_TEST_CFG.EN = true := by
    rw [State.on, Fld.LN_TEST_CFG.EN, rd_wr_low_bit _ _ _ (by decide) (by decide), h0]
    rfl
  have e4 : getFld ((s.wr (Reg.LN_TEST_CFG l) ⟨0, 13⟩ (w.toNat % 2 ^ 13)).reg (Reg.LN_TEST_CFG l)) Fld.LN_TEST_CFG.ADAPT = 1 := by
    rw [getFld_reg, Fld.LN_TEST_CFG.ADAPT, rd_wr_low_bit _ _ _ (by decide) (by decide), h4]
    rfl
  unfold State.testCfgWrite State.testStart
  simp only [he, e1, e4, hm1, if_true, Bool.false_eq_true, if_false, Bool.not_true, ne_eq, not_true, or_self]
  rfl

theorem setTaps_reset (s : State) (l : Nat) : (s.setTaps l [0, -8, 47, -8]).taps l = [0, -8, 47, -8] := by
  unfold State.taps State.setTaps State.rdS
  simp +decide only [wrS_eq, rd_wr_eq, if_true, reg_wr, getFld_setFld_same, getFld_setFld_other]

theorem taps_of_reg {t u : State} {l : Nat} (h : t.reg (Reg.LN_TXFIR l) = u.reg (Reg.LN_TXFIR l)) : t.taps l = u.taps l := by
  simp only [State.taps, State.rdS, rd_of_reg h]

theorem testAdapts_calm {u s : State} (h : u.calm s) (l : Nat) : (u.testAdapts l).calm s := by
  unfold State.testAdapts State.toDetect State.setStage State.setTaps
  have h1 := LN_STATUS_not_calm l
  have h2 := LN_TXFIR_not_calm l
  rw [inc_eq, addTo_eq, wrS_eq, wrS_eq, wrS_eq, wrS_eq]
  exact calm_wr (calm_wr (calm_wr (calm_wr (calm_wr (calm_wr (calm_wr (calm_wr (calm_modLane h _ _) h1 _ _) h1 _ _) h2 _ _)
    h2 _ _) h2 _ _) h2 _ _) h1 _ _) (LN_TRAIN_not_calm l) _ _

/-- What the start of an adapting run leaves. -/
theorem testAdapts_spec (s : State) (l : Nat) :
    (s.testAdapts l).stage l = Stage.DETECT ∧ (s.testAdapts l).taps l = [0, -8, 47, -8] ∧
      (s.testAdapts l).laneSt l = { s.laneSt l with test := some (s.reg (Reg.LN_TEST_CFG l)), counting := false } ∧
      ∀ a, a ∉ [Reg.LN_STATUS l, Reg.LN_TXFIR l, Reg.LN_TRAIN l] → (s.testAdapts l).reg a = s.reg a := by
  have h1 : Reg.LN_STATUS l ≠ Reg.LN_TRAIN l := by simp only [Reg.LN_STATUS, Reg.LN_TRAIN]; omega
  have h2 : Reg.LN_TXFIR l ≠ Reg.LN_TRAIN l := by simp only [Reg.LN_TXFIR, Reg.LN_TRAIN]; omega
  have h3 : Reg.LN_TXFIR l ≠ Reg.LN_STATUS l := by simp only [Reg.LN_TXFIR, Reg.LN_STATUS]; omega
  unfold State.testAdapts State.toDetect State.setStage
  refine ⟨?_, ?_, ?_, fun a ha => ?_⟩
  · rw [State.stage, inc_eq, addTo_eq, rd_wr_ne h1, rd_wr _ _ _ _ (by decide)]
    rfl
  · rw [inc_eq, addTo_eq, taps_of_reg ((reg_wr_ne h2 _ _ _).trans (reg_wr_ne h3 _ _ _))]
    exact setTaps_reset _ l
  · rw [inc_eq, addTo_eq, laneSt_wr, laneSt_wr, setTaps_laneSt, laneSt_wr, laneSt_wr, laneSt_modLane, if_pos rfl]
  · simp only [List.mem_cons, List.not_mem_nil, or_false, not_or] at ha
    obtain ⟨a1, a2, a3⟩ := ha
    rw [inc_eq, addTo_eq, reg_wr_ne a3, reg_wr_ne a1, setTaps_reg _ _ _ _ a2, reg_wr_ne a1, reg_wr_ne a1, modLane_reg]

/-- Settles O26, command by command. -/
theorem laneTests : Obligations.LaneTests := by
  refine ⟨?_, ?_, ?_, ?_, ?_, ?_, ?_, ?_, ?_⟩
  · intro s p l w hq ha ht
    change Answers (s.written p fun t => t.prbsWrite l.val (w.setWidth 64)) _
    refine written_answers_of ha fun x => ?_
    obtain ⟨k1, k2, k3, k4⟩ := prbsWrite_spec (s := s.withHold x) (l := l.val) (w.setWidth 64) ht
    have hch : getFld (w.setWidth 64 : Word) Fld.LN_PRBS_CTL.CHK_EN = if w.getLsbD 4 then 1 else 0 :=
      getFld_setWidth w (by decide)
    refine answers_after (s := s) hq (k4 s (calm_refl s)) fun t h => ⟨?_, fun ⟨hw, ho⟩ => ?_, fun a hn => ?_⟩
    · rw [rd_of_reg (reg_of_regs h.regs _), k1, toNat_setWidth]
    · rw [reg_of_regs h.regs, reg_of_regs h.regs, on_of_reg (reg_of_regs h.regs _)]
      rw [State.on, bne_eq_false_iff_eq] at ho
      exact k2 (by rw [hch, hw]; rfl) ho
    · rw [reg_of_regs h.regs, k3 a hn, withHold_reg]
  · intro s p l w hq ha ht hw hg
    change Answers (s.written p fun t => t.prbsWrite l.val (w.setWidth 64)) _
    refine written_answers_of ha fun x => ?_
    have hs : prbsStarts (s.reg (Reg.LN_PRBS_CTL l.val)) (w.setWidth 64) = true := by
      have h1 : getFld (w.setWidth 64 : Word) Fld.LN_PRBS_CTL.GEN_EN = 1 := by
        rw [Fld.LN_PRBS_CTL.GEN_EN, getFld_setWidth _ (by decide), hw]
        rfl
      have h2 : getFld (s.reg (Reg.LN_PRBS_CTL l.val)) Fld.LN_PRBS_CTL.GEN_EN = 0 := by
        rw [State.on, bne_eq_false_iff_eq] at hg
        exact hg
      rw [prbsStarts, h1, h2]
      rfl
    rw [prbsWrite_refused (s := s.withHold x) ht hs]
    refine answers_after (s := s) hq (calm_wr (prbsUnrefused_calm (u := s.withHold x) (calm_refl s) _ _)
      (LN_PRBS_CTL_not_calm _) _ _) fun t h => ⟨?_, ?_, fun a hn => ?_⟩
    · rw [on_of_reg (reg_of_regs h.regs _), set1_eq, on_wr_one (by decide) (by decide)]
    · rw [on_of_reg (reg_of_regs h.regs _), set1_eq, on_wr_other _ _ _ _ _ _ (by decide) (.inr (by decide)), ← hg]
      unfold State.prbsUnrefused
      split
      · rw [set0_eq, on_wr_other _ _ _ _ _ _ (by decide) (.inr (by decide)), withHold_on]
      · rfl
    · have hn := List.ne_of_not_mem_cons hn
      rw [reg_of_regs h.regs, set1_eq, reg_wr_ne hn, prbsUnrefused_reg _ _ _ _ hn, withHold_reg]
  · intro s p l hq ha hl hg
    change Answers (s.written p fun t => t.inject l.val 1) _
    refine written_answers_of ha fun x => ?_
    rw [inject_idle (s := s.withHold x) _ hl hg]
    exact answers_after (s := s) hq (calm_emit (u := s.withHold x) (calm_refl s) _) fun t h =>
      ⟨h.out _ List.mem_cons_self, fun a _ => reg_of_regs h.regs a⟩
  · intro s p l r hq ha hl hp hr
    change Answers (s.written p fun t => t.inject l.val 1) _
    refine written_answers_of ha fun x => ?_
    rw [inject_refused (s := s.withHold x) _ hl hp hr]
    refine answers_after (s := s) hq (calm_wr (u := s.withHold x) (calm_refl s) (LN_PRBS_INJ_not_calm _) _ _) fun t h =>
      ⟨?_, fun a hn => ?_⟩
    · rw [on_of_reg (reg_of_regs h.regs _), set1_eq, on_wr_one (by decide) (by decide)]
    · rw [reg_of_regs h.regs, set1_eq, reg_wr_ne (List.ne_of_not_mem_cons hn), withHold_reg]
  · intro s p l hq ha hl hg
    change Answers (s.written p fun t => t.injectBurst l.val) _
    refine written_answers_of ha fun x => ?_
    rw [State.injectBurst, inject_idle (s := s.withHold x) _ hl hg]
    exact answers_after (s := s) hq (calm_emit (u := s.withHold x) (calm_refl s) _) fun t h =>
      ⟨h.out _ List.mem_cons_self, fun a _ => reg_of_regs h.regs a⟩
  · intro s p l w hq ha hm he h0 h4
    change Answers (s.written p fun t => t.testCfgWrite l.val (w.setWidth 64)) _
    refine written_answers_of ha fun x => ?_
    have hb : ∀ i < 32, (w.setWidth 64 : Word).getLsbD i = w.getLsbD i := fun i hi => by
      rw [BitVec.getLsbD_setWidth, decide_eq_true (by omega : i < 64), Bool.true_and]
    rw [testCfgWrite_starts (s := s.withHold x) hm he ((hb 0 (by decide)).trans h0) ((hb 4 (by decide)).trans h4)]
    generalize hv : (s.withHold x).wr (Reg.LN_TEST_CFG l.val) ⟨0, 13⟩ ((w.setWidth 64 : Word).toNat % 2 ^ 13) = v
    have hvc : v.calm s := by
      rw [← hv]
      exact calm_wr (u := s.withHold x) (calm_refl s) (LN_TEST_CFG_not_calm _) _ _
    obtain ⟨k1, k2, k3, k4⟩ := testAdapts_spec v l.val
    have hcfg : (v.testAdapts l.val).reg (Reg.LN_TEST_CFG l.val) = v.reg (Reg.LN_TEST_CFG l.val) := k4 _ (by
      simp only [List.mem_cons, List.not_mem_nil, or_false, not_or, Reg.LN_TEST_CFG, Reg.LN_STATUS, Reg.LN_TXFIR, Reg.LN_TRAIN]
      omega)
    refine answers_after hq (testAdapts_calm hvc l.val) fun t h => ⟨?_, ?_, ?_, ?_, ?_, fun a hn => ?_⟩
    · rw [rd_of_reg ((reg_of_regs h.regs _).trans hcfg), ← hv, rd_wr _ _ _ _ (by decide), toNat_setWidth]
      exact Nat.mod_mod _ _
    · exact (rd_of_reg (reg_of_regs h.regs _) _).trans k1
    · rw [laneSt_of_lane h.lane, k3, reg_of_regs h.regs, hcfg]
    · rw [laneSt_of_lane h.lane, k3]
    · exact (taps_of_regs h.regs _).trans k2
    · have hn' := List.ne_of_not_mem_cons hn
      rw [reg_of_regs h.regs, k4 _ (List.not_mem_of_not_mem_cons hn), ← hv, reg_wr_ne hn', withHold_reg]
  · intro s l hq hm hs
    change Answers (whenClocked s fun t => t.testCounts l.val) _
    refine answers_clocked (by rw [hm]; rfl) ?_
    have e : s.testCounts l.val = s.modLane l.val fun x => { x with counting := true } := if_pos ⟨hm, hs⟩
    rw [e]
    refine answers_after hq (calm_modLane (calm_refl s) _ _) fun t h => ⟨?_, fun a _ => reg_of_regs h.regs a⟩
    rw [laneSt_of_lane h.lane, laneSt_modLane, if_pos rfl]
  · intro s l hq hc hm ht he
    change Answers (whenClocked s fun t => t.chkLock l.val) _
    refine answers_clocked hc ?_
    have e : s.chkLock l.val = s.set1 (Reg.LN_PRBS_STATUS l.val) Fld.LN_PRBS_STATUS.CHK_LOCK := by
      have hm' : (s.md != .linktest) = true := by simpa using hm
      simp only [State.chkLock, he, ht, hm', Bool.true_or, Bool.and_self, if_true]
    rw [e]
    refine answers_after hq (calm_wr (calm_refl s) (LN_PRBS_STATUS_not_calm _) _ _) fun t h => ⟨?_, fun a hn => ?_⟩
    · rw [on_of_reg (reg_of_regs h.regs _), set1_eq, on_wr_one (by decide) (by decide)]
    · rw [reg_of_regs h.regs, set1_eq, reg_wr_ne (List.ne_of_not_mem_cons hn)]
  · intro s l n e hq hc hl
    change Answers (whenClocked s fun t => t.chkLoss l.val n e) _
    refine answers_clocked hc ?_
    have e1 : s.chkLoss l.val n e = (((s.addTo (Reg.LN_PRBS_BITS l.val) Fld.LN_PRBS_BITS.BITS n).addTo (Reg.LN_PRBS_ERRS l.val)
        Fld.LN_PRBS_ERRS.ERRORS e).inc (Reg.LN_PRBS_STATUS l.val) Fld.LN_PRBS_STATUS.LOCK_LOSS).set0 (Reg.LN_PRBS_STATUS l.val)
          Fld.LN_PRBS_STATUS.CHK_LOCK := if_neg (by rw [hl]; decide)
    have d : Reg.LN_PRBS_BITS l.val ≠ Reg.LN_PRBS_ERRS l.val ∧ Reg.LN_PRBS_BITS l.val ≠ Reg.LN_PRBS_STATUS l.val ∧
        Reg.LN_PRBS_ERRS l.val ≠ Reg.LN_PRBS_STATUS l.val := by
      simp only [Reg.LN_PRBS_BITS, Reg.LN_PRBS_ERRS, Reg.LN_PRBS_STATUS]; omega
    obtain ⟨d1, d2, d3⟩ := d
    rw [e1, inc_eq, set0_eq, addTo_eq _ (Reg.LN_PRBS_STATUS l.val)]
    refine answers_after hq (calm_wr (calm_wr (calm_wr (calm_wr (calm_refl s) (LN_PRBS_BITS_not_calm _) _ _)
      (LN_PRBS_ERRS_not_calm _) _ _) (LN_PRBS_STATUS_not_calm _) _ _) (LN_PRBS_STATUS_not_calm _) _ _)
      fun t h => ⟨?_, ?_, ?_, fun a hn => ?_⟩
    · rw [on_of_reg (reg_of_regs h.regs _), on_wr_zero (by decide)]
    · rw [rd_of_reg (reg_of_regs h.regs _), rd_wr_ne d2, rd_wr_ne d2, addTo_eq _ (Reg.LN_PRBS_ERRS l.val), rd_wr_ne d1,
        rd_addTo _ _ _ _ (by decide)]
    · rw [rd_of_reg (reg_of_regs h.regs _), rd_wr_ne d3, rd_wr_ne d3, rd_addTo _ _ _ _ (by decide), addTo_eq, rd_wr_ne d1.symm]
    · simp only [List.mem_cons, List.not_mem_nil, or_false, not_or] at hn
      obtain ⟨a1, a2, a3⟩ := hn
      rw [reg_of_regs h.regs, reg_wr_ne a3, reg_wr_ne a3, addTo_eq, reg_wr_ne a2, addTo_eq, reg_wr_ne a1]

end Sys2Proof.Machine
end

section
/-!
LAW. Bring-up of Ictil and Flocet lanes: stages, failures, training, IDENT, and lanes that go ACTIVE.
-/
namespace Sys2Proof.Machine

/-! ### Stages of a lane -/

theorem setStage_stage (s : State) (l : Nat) {x : Nat} (h : x < 16) : (s.setStage l x).stage l = x := by
  rw [State.stage, State.setStage, rd_wr _ _ _ _ (by decide)]
  exact Nat.mod_eq_of_lt h

theorem setStage_reg (s : State) (l x a : Nat) (h : a ≠ Reg.LN_STATUS l) : (s.setStage l x).reg a = s.reg a := reg_wr_ne h _ _ _

theorem setStage_on (s : State) (l x : Nat) {f : Fld} (h : Fld.LN_STATUS.STAGE.apart f = true) :
    (s.setStage l x).on (Reg.LN_STATUS l) f = s.on (Reg.LN_STATUS l) f :=
  on_wr_other _ _ _ _ _ _ (by decide) (.inr h)

theorem stage_of_reg {t u : State} {l : Nat} (h : t.reg (Reg.LN_STATUS l) = u.reg (Reg.LN_STATUS l)) : t.stage l = u.stage l :=
  rd_of_reg h _

/-- Another field of LN_STATUS written. -/
theorem stage_wr_apart (s : State) (l x : Nat) {f : Fld} (hf : f.lo + f.width ≤ 64) (h : f.apart Fld.LN_STATUS.STAGE = true) :
    (s.wr (Reg.LN_STATUS l) f x).stage l = s.stage l := rd_wr_other _ _ _ _ _ _ hf (.inr h)

theorem calm_setStage {u s : State} (h : u.calm s) (l x : Nat) : (u.setStage l x).calm s := calm_wr h (LN_STATUS_not_calm l) _ _

theorem setTaps_calm {u s : State} (h : u.calm s) (l : Nat) (t : List Int) : (u.setTaps l t).calm s := by
  have k := LN_TXFIR_not_calm l
  rw [State.setTaps, wrS_eq, wrS_eq, wrS_eq, wrS_eq]
  exact calm_wr (calm_wr (calm_wr (calm_wr h k _ _) k _ _) k _ _) k _ _

theorem TXFIR_ne_STATUS (k l : Nat) : Reg.LN_TXFIR k ≠ Reg.LN_STATUS l := by simp only [Reg.LN_TXFIR, Reg.LN_STATUS]; omega

/-! ### A stage that fails -/

/-- A lane whose stage has failed, before its port's attempt ends with it. -/
def State.stageFailed (s : State) (l stage : Nat) (late : Bool) : State :=
  let s1 := (s.toWait l).wr (Reg.LN_TRAIN l) Fld.LN_TRAIN.FAIL_STAGE stage
  if late then (s1.set1 (Reg.LN_ERR l) Fld.LN_ERR.TRAIN_FAIL).raise (srcTile (l / 8) 3) none else s1

/-- The end of a port's attempt is nothing but that. -/
theorem stageFail_same (s : State) (l stage : Nat) (late : Bool) :
    (s.stageFail l stage late).regs = (s.stageFailed l stage late).regs ∧
      (s.stageFail l stage late).flt = (s.stageFailed l stage late).flt ∧
      (s.stageFail l stage late).lane = (s.stageFailed l stage late).lane ∧
      (s.stageFail l stage late).link = (s.stageFailed l stage late).link := by
  cases hp : s.fabricPort l with
  | none =>
    have e : s.stageFail l stage late = s.stageFailed l stage late := by
      simp only [State.stageFail, hp]
      rfl
    rw [e]
    exact ⟨rfl, rfl, rfl, rfl⟩
  | some p =>
    have e : s.stageFail l stage late = (s.stageFailed l stage late).attemptDone p.port := by
      simp only [State.stageFail, hp]
      rfl
    rw [e]
    exact ⟨rfl, rfl, rfl, rfl⟩

theorem stageFailed_late (s : State) (l k : Nat) : s.stageFailed l k true =
    (((s.toWait l).wr (Reg.LN_TRAIN l) Fld.LN_TRAIN.FAIL_STAGE k).set1 (Reg.LN_ERR l) Fld.LN_ERR.TRAIN_FAIL).raise
      (srcTile (l / 8) 3) none := rfl

theorem stageFailed_known (s : State) (l k : Nat) : s.stageFailed l k false =
    (s.toWait l).wr (Reg.LN_TRAIN l) Fld.LN_TRAIN.FAIL_STAGE k := rfl

/-- What the failure of a stage by a time limit leaves. -/
theorem stageFail_late (s : State) (l : Nat) {k : Nat} (hk : k < 8) :
    (s.stageFail l k true).stage l = Stage.WAIT ∧ (s.stageFail l k true).rd (Reg.LN_TRAIN l) Fld.LN_TRAIN.FAIL_STAGE = k ∧
      (s.stageFail l k true).on (Reg.LN_ERR l) Fld.LN_ERR.TRAIN_FAIL = true ∧
      (s.stageFail l k true).hasRaised (srcTile (l / 8) 3) none ∧
      (s.stageFail l k true).regsBut s [Reg.LN_STATUS l, Reg.LN_TRAIN l, Reg.LN_ERR l] := by
  have d : Reg.LN_STATUS l ≠ Reg.LN_TRAIN l ∧ Reg.LN_STATUS l ≠ Reg.LN_ERR l ∧ Reg.LN_TRAIN l ≠ Reg.LN_ERR l := by
    simp only [Reg.LN_STATUS, Reg.LN_TRAIN, Reg.LN_ERR]; omega
  obtain ⟨d1, d2, d3⟩ := d
  obtain ⟨hr, hf, _, _⟩ := stageFail_same s l k true
  have hr := reg_of_regs hr
  refine ⟨?_, ?_, ?_, hasRaised_of_flt hf ?_, fun a ha => ?_⟩
  · rw [stage_of_reg (hr _), stageFailed_late, stage_of_reg (raise_reg ..), set1_eq, stage_of_reg (reg_wr_ne d2 ..),
      stage_of_reg (reg_wr_ne d1 ..), toWait_stage]
  · rw [rd_of_reg (hr _), stageFailed_late, raise_rd, set1_eq, rd_wr_ne d3, rd_wr _ _ _ _ (by decide)]
    exact Nat.mod_eq_of_lt hk
  · rw [on_of_reg (hr _), stageFailed_late, raise_on, set1_eq, on_wr_one (by decide) (by decide)]
  · rw [stageFailed_late]
    exact hasRaised_raise _ _
  · simp only [List.mem_cons, List.not_mem_nil, or_false, not_or] at ha
    obtain ⟨a1, a2, a3⟩ := ha
    rw [hr, stageFailed_late, raise_reg, set1_eq, reg_wr_ne a3, reg_wr_ne a2, toWait_reg _ _ _ a1]

/-- A stage that fails leaves what other lanes show. -/
theorem stageFail_reg (s : State) (l k : Nat) (late : Bool) (a : Nat) (h1 : a ≠ Reg.LN_STATUS l) (h2 : a ≠ Reg.LN_TRAIN l)
    (h3 : a ≠ Reg.LN_ERR l ∨ late = false) : (s.stageFail l k late).reg a = s.reg a := by
  rw [reg_of_regs (stageFail_same s l k late).1]
  cases late with
  | true => rw [stageFailed_late, raise_reg, set1_eq, reg_wr_ne (h3.resolve_right (by decide)), reg_wr_ne h2, toWait_reg _ _ _ h1]
  | false => rw [stageFailed_known, reg_wr_ne h2, toWait_reg _ _ _ h1]

theorem stageFail_stage (s : State) (l k : Nat) (late : Bool) : (s.stageFail l k late).stage l = Stage.WAIT := by
  have d : Reg.LN_STATUS l ≠ Reg.LN_TRAIN l ∧ Reg.LN_STATUS l ≠ Reg.LN_ERR l := by
    simp only [Reg.LN_STATUS, Reg.LN_TRAIN, Reg.LN_ERR]; omega
  rw [stage_of_reg (reg_of_regs (stageFail_same s l k late).1 _)]
  cases late with
  | true => rw [stageFailed_late, stage_of_reg (raise_reg ..), set1_eq, stage_of_reg (reg_wr_ne d.2 ..), stage_of_reg (reg_wr_ne d.1 ..), toWait_stage]
  | false => rw [stageFailed_known, stage_of_reg (reg_wr_ne d.1 ..), toWait_stage]

/-! ### Training -/

theorem firRequest_one (s : State) (l r : Nat) :
    s.firRequest l r 1 = (s.setTaps l [0, 0, 63, 0]).modLane l fun y => { y with sts := [1, 1, 1, 1] } := rfl

theorem setTaps_full (s : State) (l : Nat) : (s.setTaps l [0, 0, 63, 0]).taps l = [0, 0, 63, 0] := by
  unfold State.taps State.setTaps State.rdS
  simp +decide only [wrS_eq, rd_wr_eq, if_true, reg_wr, getFld_setFld_same, getFld_setFld_other]

/-- A receiver whose marker arrived inverted corrects itself. -/
def State.invertRx (s : State) (l : Nat) (inv : Bool) : State :=
  if inv then s.wrB (Reg.LN_STATUS l) Fld.LN_STATUS.RX_INV (!s.on (Reg.LN_STATUS l) Fld.LN_STATUS.RX_INV) else s

theorem invertRx_on (s : State) (l : Nat) (inv : Bool) : (s.invertRx l inv).on (Reg.LN_STATUS l) Fld.LN_STATUS.RX_INV =
    (s.on (Reg.LN_STATUS l) Fld.LN_STATUS.RX_INV ^^ inv) := by
  cases inv with
  | false => rw [Bool.xor_false]; rfl
  | true =>
    rw [Bool.xor_true, State.invertRx, if_pos rfl, wrB_eq, State.on, rd_wr _ _ _ _ (by decide)]
    cases s.on (Reg.LN_STATUS l) Fld.LN_STATUS.RX_INV <;> rfl

theorem invertRx_stage (s : State) (l : Nat) (inv : Bool) : (s.invertRx l inv).stage l = s.stage l := by
  unfold State.invertRx
  split
  · exact stage_wr_apart _ _ _ (by decide) (by decide)
  · rfl

theorem invertRx_reg (s : State) (l : Nat) (inv : Bool) (a : Nat) (h : a ≠ Reg.LN_STATUS l) : (s.invertRx l inv).reg a = s.reg a := by
  unfold State.invertRx
  split
  · exact reg_wr_ne h _ _ _
  · rfl

theorem invertRx_calm {u s : State} (h : u.calm s) (l : Nat) (inv : Bool) : (u.invertRx l inv).calm s := by
  unfold State.invertRx
  split
  · exact calm_wr h (LN_STATUS_not_calm l) _ _
  · exact h

/-- A training frame that asks for PRESET1. -/
theorem trainingFrame_preset {s : State} {l : Nat} {f : TrainFrame} (hs : s.stage l = Stage.TRAIN) (hg : f.good = true)
    (hp : f.preset = 1) : s.trainingFrame l f =
      ((s.invertRx l f.inverted).setTaps l [0, 0, 63, 0]).modLane l fun y => { y with sts := [1, 1, 1, 1] } := by
  unfold State.trainingFrame
  simp only [hs, hg, hp, ne_eq, not_true, Bool.not_true, Bool.false_eq_true, or_self, if_false]
  exact firRequest_one _ _ _

/-! ### Stamps -/

theorem stamp_eq (s : State) (l load cause : Nat) : ∃ x y, s.stamp' l load cause =
    (((((s.wr (Reg.LN_ADAPT_STAMP l) Fld.LN_ADAPT_STAMP.TJ x).wr (Reg.LN_ADAPT_STAMP l) Fld.LN_ADAPT_STAMP.LOAD load).wr
      (Reg.LN_ADAPT_STAMP l) Fld.LN_ADAPT_STAMP.CAUSE cause).wrB (Reg.LN_ADAPT_STAMP l) Fld.LN_ADAPT_STAMP.TJ_SRC y).setReg
        (Reg.LN_ADAPT_TIME l) (s.reg Reg.CHIP_TIME)) := ⟨_, _, rfl⟩

theorem STAMP_not_calm (l : Nat) : Reg.LN_ADAPT_STAMP l ∉ calmRegs := lane_not_calm (by simp only [Reg.LN_ADAPT_STAMP]; omega)
theorem STAMP_TIME_not_calm (l : Nat) : Reg.LN_ADAPT_TIME l ∉ calmRegs := lane_not_calm (by simp only [Reg.LN_ADAPT_TIME]; omega)

/-- What the stamp of an adaptation leaves (R256). -/
theorem stamp_spec (s : State) (l cause : Nat) (load : BitVec 8) :
    (s.stamp' l load.toNat cause).rd (Reg.LN_ADAPT_STAMP l) Fld.LN_ADAPT_STAMP.LOAD = load.toNat ∧
      (s.stamp' l load.toNat cause).reg (Reg.LN_ADAPT_TIME l) = s.reg Reg.CHIP_TIME ∧
      (∀ a, a ≠ Reg.LN_ADAPT_STAMP l → a ≠ Reg.LN_ADAPT_TIME l → (s.stamp' l load.toNat cause).reg a = s.reg a) ∧
      (∀ s0, s.calm s0 → (s.stamp' l load.toNat cause).calm s0) ∧ (s.stamp' l load.toNat cause).lane = s.lane ∧
      (s.stamp' l load.toNat cause).fml = s.fml := by
  have d : Reg.LN_ADAPT_STAMP l ≠ Reg.LN_ADAPT_TIME l := by simp only [Reg.LN_ADAPT_STAMP, Reg.LN_ADAPT_TIME]; omega
  obtain ⟨x, y, e⟩ := stamp_eq s l load.toNat cause
  rw [e]
  have k := STAMP_not_calm l
  refine ⟨?_, ?_, fun a h1 h2 => ?_, fun s0 h => ?_, ?_, ?_⟩
  · rw [rd_setReg, if_neg d, wrB_eq, rd_wr_other _ _ _ _ _ _ (by decide) (.inr (by decide)),
      rd_wr_other _ _ _ _ _ _ (by decide) (.inr (by decide)), rd_wr _ _ _ _ (by decide)]
    exact Nat.mod_eq_of_lt load.isLt
  · rw [reg_setReg, if_pos rfl]
  · rw [reg_setReg, if_neg h2, wrB_eq, reg_wr_ne h1, reg_wr_ne h1, reg_wr_ne h1, reg_wr_ne h1]
  · rw [wrB_eq]
    exact calm_setReg (calm_wr (calm_wr (calm_wr (calm_wr h k _ _) k _ _) k _ _) k _ _) (STAMP_TIME_not_calm l) _
  · rw [wrB_eq, setReg_lane, wr_lane, wr_lane, wr_lane, wr_lane]
  · rw [wrB_eq, setReg_fml, wr_fml, wr_fml, wr_fml, wr_fml]

theorem trainDone_locks {s : State} {l : Nat} (load : Nat) (hs : s.stage l = Stage.TRAIN) (hm : s.md ≠ .linktest) :
    s.trainDone l load = ((s.stamp' l load 0).set1 (Reg.LN_STATUS l) Fld.LN_STATUS.CDR_LOCK).setStage l Stage.LOCK := by
  have ht : s.testLane l = false := by
    have : (s.md == .linktest) = false := by simpa using hm
    rw [State.testLane, this, Bool.false_and]
  unfold State.trainDone
  simp only [hs, ht, ne_eq, not_true, if_false, Bool.false_eq_true]

/-! ### IDENT -/

/-- Lanes that go back to WAIT at once (FAIL_STAGE 4). -/
theorem stageFails_stage (k : Nat) : ∀ (L : List Nat) (s : State),
    (L.foldl (fun t l => t.stageFail l 4 false) s).stage k = if k ∈ L then Stage.WAIT else s.stage k
  | [], s => by simp
  | l :: L, s => by
    rw [List.foldl_cons, stageFails_stage k L]
    by_cases hk : k = l
    · subst hk
      simp [stageFail_stage]
    · have h1 : Reg.LN_STATUS k ≠ Reg.LN_STATUS l := by simpa using hk
      have h2 : Reg.LN_STATUS k ≠ Reg.LN_TRAIN l := by simp only [Reg.LN_STATUS, Reg.LN_TRAIN]; omega
      simp [hk, stage_of_reg (stageFail_reg s l 4 false _ h1 h2 (.inr rfl))]

/-- They change no error of a lane. -/
theorem stageFails_err (k : Nat) : ∀ (L : List Nat) (s : State),
    (L.foldl (fun t l => t.stageFail l 4 false) s).reg (Reg.LN_ERR k) = s.reg (Reg.LN_ERR k)
  | [], s => rfl
  | l :: L, s => by
    have h : Reg.LN_ERR k ≠ Reg.LN_STATUS l ∧ Reg.LN_ERR k ≠ Reg.LN_TRAIN l := by
      simp only [Reg.LN_ERR, Reg.LN_STATUS, Reg.LN_TRAIN]; omega
    rw [List.foldl_cons, stageFails_err k L, stageFail_reg s l 4 false _ h.1 h.2 (.inr rfl)]

/-- A lane that goes ACTIVE with what its partner has told. -/
def State.laneActivated (t : State) (l : Nat) (f : IdentFrame) : State :=
  let g := ((t.laneSt l).ident).getD f
  let r := Reg.LN_PARTNER_INFO l
  ((((((t.setStage l Stage.ACTIVE).setReg (Reg.LN_PARTNER l) g.identity).wr r Fld.LN_PARTNER_INFO.SWITCH_ID g.switchId).wr r
    Fld.LN_PARTNER_INFO.PORT g.port).wr r Fld.LN_PARTNER_INFO.LANE g.lane).wrB r Fld.LN_PARTNER_INFO.FLOCET g.flocet).set0
    (Reg.LN_MARGIN l) Fld.LN_MARGIN.VALID

/-- Lanes of a port go ACTIVE, before its link starts. -/
def State.portActivated (s : State) (p : PortRec) (lanes : List Nat) (f : IdentFrame) : State :=
  ((((lanes.foldl (fun t l => t.laneActivated l f) s).attemptDone p.port).modLink p.port fun x => { x with
    partner := f.identity.toNat, partnerCable := f.cable }).wrB (Reg.PT_LL_STATUS p.port) Fld.PT_LL_STATUS.PARTNER_TENT_OK f.caps.tentOk)

theorem laneActivated_spec {s : State} {l : Nat} {f : IdentFrame} (hf : (s.laneSt l).ident = some f) :
    (s.laneActivated l f).stage l = Stage.ACTIVE ∧ (s.laneActivated l f).reg (Reg.LN_PARTNER l) = f.identity ∧
      ∀ a, a % 0x10000 < 0x8000 → (s.laneActivated l f).reg a = s.reg a := by
  have d : Reg.LN_STATUS l ≠ Reg.LN_PARTNER l ∧ Reg.LN_STATUS l ≠ Reg.LN_PARTNER_INFO l ∧ Reg.LN_STATUS l ≠ Reg.LN_MARGIN l ∧
      Reg.LN_PARTNER l ≠ Reg.LN_PARTNER_INFO l ∧ Reg.LN_PARTNER l ≠ Reg.LN_MARGIN l := by
    simp only [Reg.LN_STATUS, Reg.LN_PARTNER, Reg.LN_PARTNER_INFO, Reg.LN_MARGIN]; omega
  obtain ⟨d1, d2, d3, d4, d5⟩ := d
  unfold State.laneActivated
  simp only [hf, Option.getD_some, wrB_eq, set0_eq]
  refine ⟨?_, ?_, fun a ha => ?_⟩
  · rw [stage_of_reg (reg_wr_ne d3 ..), stage_of_reg (reg_wr_ne d2 ..), stage_of_reg (reg_wr_ne d2 ..),
      stage_of_reg (reg_wr_ne d2 ..), stage_of_reg (reg_wr_ne d2 ..), stage_of_reg (reg_setReg_ne _ _ _ _ d1),
      setStage_stage _ _ (by decide)]
  · rw [reg_wr_ne d5, reg_wr_ne d4, reg_wr_ne d4, reg_wr_ne d4, reg_wr_ne d4, reg_setReg, if_pos rfl]
  · have h1 : a ≠ Reg.LN_PARTNER l ∧ a ≠ Reg.LN_PARTNER_INFO l ∧ a ≠ Reg.LN_MARGIN l := by
      simp only [Reg.LN_PARTNER, Reg.LN_PARTNER_INFO, Reg.LN_MARGIN]; omega
    obtain ⟨a1, a2, a3⟩ := h1
    rw [reg_wr_ne a3, reg_wr_ne a2, reg_wr_ne a2, reg_wr_ne a2, reg_wr_ne a2, reg_setReg, if_neg a1,
      setStage_reg _ _ _ _ (ne_LN_STATUS l ha)]

theorem attemptDone_reg (s : State) (q a : Nat) : (s.attemptDone q).reg a = s.reg a := rfl

theorem attemptDone_done (s : State) (q : Nat) : q ∉ (s.attemptDone q).fml.retrain := by
  simp [State.attemptDone]

theorem portActivated_linkState {s : State} {p : PortRec} {l : Nat} {f : IdentFrame} (hf : (s.laneSt l).ident = some f) :
    (s.portActivated p [l] f).linkState p.port = s.linkState p.port := by
  unfold State.portActivated
  rw [wrB_eq, State.linkState, rd_wr_other _ _ _ _ _ _ (by decide) (.inr (by decide)), modLink_rd, List.foldl_cons, List.foldl_nil,
    rd_of_reg (attemptDone_reg ..)]
  exact rd_of_reg ((laneActivated_spec hf).2.2 _ (LL_STATUS_low _)) _

theorem activate_eq {s : State} {p : PortRec} {lanes : List Nat} {f : IdentFrame}
    (h : lanes.findSome? (fun l => (s.laneSt l).ident) = some f) : s.activate p lanes =
      if p.partnerId ≠ 0 ∧ BitVec.ofNat 64 p.partnerId ≠ f.identity then
        ((lanes.foldl (fun t l => t.set1 (Reg.LN_ERR l) Fld.LN_ERR.PARTNER) s).identRefused p).raise
          (srcQuad (quadOf (tileOf p.port)) 0) none
      else if f.flocet ≠ (p.protocol == .flocet) then (s.identRefused p).linkErr p.port Fld.PT_LL_ERR.MODE 8
      else if (s.portActivated p lanes f).linkState p.port = 0 then (s.portActivated p lanes f).linkStart p
      else if (s.portActivated p lanes f).linkState p.port = 3 ∧ !((s.portActivated p lanes f).linkSt p.port).restarting then
        (s.portActivated p lanes f).linkDown p (p.protocol == .flocet && decide ((s.linkSt p.port).partner = f.identity.toNat))
      else (s.portActivated p lanes f).rxMaskChange p := by
  unfold State.activate
  rw [h]
  rfl

/-- A partner other than the Formula's (R252). -/
theorem activate_refused {s : State} {p : PortRec} {l : Nat} {f : IdentFrame} (hf : (s.laneSt l).ident = some f)
    (hp : p.partnerId ≠ 0) (hn : BitVec.ofNat 64 p.partnerId ≠ f.identity) :
    s.activate p [l] = ((s.set1 (Reg.LN_ERR l) Fld.LN_ERR.PARTNER).identRefused p).raise
      (srcQuad (quadOf (tileOf p.port)) 0) none := by
  rw [activate_eq (f := f) (by simp [hf]), if_pos ⟨hp, hn⟩, List.foldl_cons, List.foldl_nil]

theorem activate_first {s : State} {p : PortRec} {l : Nat} {f : IdentFrame} (hf : (s.laneSt l).ident = some f)
    (hp : p.partnerId = 0) (hm : f.flocet = (p.protocol == .flocet)) (hs : s.linkState p.port = 0) :
    s.activate p [l] = (s.portActivated p [l] f).linkStart p := by
  have e : [l].findSome? (fun l => (s.laneSt l).ident) = some f := by simp [hf]
  have h2 : (s.portActivated p [l] f).linkState p.port = 0 := (portActivated_linkState hf).trans hs
  rw [activate_eq e, if_neg fun h => h.1 hp, if_neg (not_not_intro hm), if_pos h2]

/-- The start of a link keeps the registers of its lanes and the Formula. -/
theorem linkStart_keeps {p : PortRec} (hp : p.sparing = false) (s : State) :
    (s.linkStart p).fml = s.fml ∧ ∀ a, 0x8000 ≤ a % 0x10000 → (s.linkStart p).reg a = s.reg a := by
  unfold State.linkStart
  simp only
  split
  · exact ⟨rfl, fun _ _ => rfl⟩
  · refine ⟨?_, fun a ha => ?_⟩
    · rw [(noteWidth_keepsLink _ p).1.2.2, (showMap_keepsLink hp _).1.2.2, wr_fml, State.setLink, wr_fml]
      rfl
    · have h : a ≠ Reg.PT_LL_STATUS p.port ∧ a ≠ Reg.PT_LL_ERR p.port ∧ ¬ mapReg p.port a := by
        simp only [mapReg, gateReg, Reg.PT_LL_STATUS, Reg.PT_LL_ERR]; omega
      rw [(noteWidth_keepsLink _ p).2.2 _ h.2.1, (showMap_keepsLink hp _).2.2 _ h.2.2, reg_wr_ne h.1, State.setLink, reg_wr_ne h.1]
      rfl

/-- A lane alone in its attempt. -/
theorem mem_lanesIn {s : State} {p : PortRec} {l : Nat} {L : List Nat} (h : l ∈ s.lanesIn p L) : l ∈ p.lanes ∧ s.stage l ∈ L := by
  obtain ⟨h1, h2⟩ := List.mem_filter.mp h
  exact ⟨h1, by simpa using h2⟩

theorem lanesIn_of_reg {u s : State} (p : PortRec) (L : List Nat) (h : ∀ k, u.reg (Reg.LN_STATUS k) = s.reg (Reg.LN_STATUS k)) :
    u.lanesIn p L = s.lanesIn p L := by
  unfold State.lanesIn
  simp only [stage_of_reg (h _)]

/-- An IDENT frame like those before it (R252). -/
def LaneState.heard (x : LaneState) (f : IdentFrame) : LaneState :=
  { x with ident := some f, identCount := (if x.ident = some f then x.identCount + 1 else 1), identAck := x.identAck || f.ack
           identDone := x.identDone || (decide (3 ≤ (if x.ident = some f then x.identCount + 1 else 1)) && (x.identAck || f.ack)) }

theorem identFrame_alone {s : State} {l : Nat} {f : IdentFrame} {p : PortRec} (hp : s.fabricPort l = some p)
    (hs : s.stage l = Stage.IDENT) (ho : ∀ k ∈ p.lanes, k ≠ l → s.stage k ≠ Stage.IDENT ∧ s.stage k ≠ Stage.ACTIVE) :
    s.identFrame l f true = s.modLane l fun x => x.heard f := by
  have e : (p.lanes.findSome? fun k => if k = l then none else
      if s.stage k = Stage.IDENT ∨ s.stage k = Stage.ACTIVE then (s.laneSt k).ident else none) = none := by
    rw [List.findSome?_eq_none_iff]
    intro k hk
    split
    · rfl
    · rename_i hkl
      rw [if_neg]
      rintro (h | h)
      · exact (ho k hk hkl).1 h
      · exact (ho k hk hkl).2 h
  unfold State.identFrame
  simp only [hp, hs, ne_eq, not_true, if_false, Bool.not_true, Bool.false_eq_true, e]
  rfl

theorem identFrame_bad {s : State} {l : Nat} {f : IdentFrame} {p : PortRec} (hp : s.fabricPort l = some p)
    (hs : s.stage l = Stage.IDENT) :
    s.identFrame l f false = s.modLane l fun x => { x with ident := none, identCount := 0 } := by
  unfold State.identFrame
  simp only [hp, hs, ne_eq, not_true, if_false, Bool.not_false, if_true]

theorem clocked_of_trains {s : State} (h : s.lanesTrain = true) : s.md.clocked = true := by
  unfold State.lanesTrain State.inMode at h
  revert h
  cases s.md <;> decide

/-- Settles O24, by what each event does to its lane, and by what a port's lanes do together. -/
theorem laneBringUp : Obligations.LaneBringUp := by
  refine ⟨?_, ?_, ?_, ?_, ?_, ?_, ?_, ?_, ?_, ?_, ?_, ?_, ?_⟩
  · intro s l hq hc hs
    change Answers (whenClocked s fun t => t.signalDetected l.val) _
    refine answers_clocked hc ?_
    have e : s.signalDetected l.val = ((s.setTaps l.val [0, -8, 47, -8]).modLane l.val fun x =>
        { x with sts := [0, 0, 0, 0] }).setStage l.val Stage.TRAIN := if_pos hs
    rw [e]
    refine answers_after hq (calm_setStage (calm_modLane (setTaps_calm (calm_refl s) _ _) _ _) _ _) fun t h => ⟨?_, ?_, ?_, fun a ha => ?_⟩
    · rw [stage_of_reg (reg_of_regs h.regs _), setStage_stage _ _ (by decide)]
    · rw [taps_of_regs h.regs, taps_of_reg (setStage_reg _ _ _ _ (TXFIR_ne_STATUS _ _)), taps_of_reg (modLane_reg ..), setTaps_reset]
    · rw [laneSt_of_lane h.lane, State.setStage, laneSt_wr, laneSt_modLane, if_pos rfl]
    · simp only [List.mem_cons, List.not_mem_nil, or_false, not_or] at ha
      rw [reg_of_regs h.regs, setStage_reg _ _ _ _ ha.1, modLane_reg, setTaps_reg _ _ _ _ ha.2]
  · intro s l f hq hc hs hg hp
    change Answers (whenClocked s fun t => t.trainingFrame l.val f) _
    refine answers_clocked hc ?_
    rw [trainingFrame_preset hs hg hp]
    have d := (TXFIR_ne_STATUS l.val l.val).symm
    refine answers_after hq (calm_modLane (setTaps_calm (invertRx_calm (calm_refl s) _ _) _ _) _ _)
      fun t h => ⟨?_, ?_, ?_, ?_, fun a ha => ?_⟩
    · rw [taps_of_regs h.regs, taps_of_reg (modLane_reg ..), setTaps_full]
    · rw [laneSt_of_lane h.lane, laneSt_modLane, if_pos rfl]
    · rw [on_of_reg (reg_of_regs h.regs _), on_of_reg (modLane_reg ..), on_of_reg (setTaps_reg _ _ _ _ d), invertRx_on]
    · rw [stage_of_reg (reg_of_regs h.regs _), stage_of_reg (modLane_reg ..), stage_of_reg (setTaps_reg _ _ _ _ d), invertRx_stage, hs]
    · simp only [List.mem_cons, List.not_mem_nil, or_false, not_or] at ha
      rw [reg_of_regs h.regs, modLane_reg, setTaps_reg _ _ _ _ ha.2, invertRx_reg _ _ _ _ ha.1]
  · intro s l f hq hc hg
    change Answers (whenClocked s fun t => t.trainingFrame l.val f) _
    refine answers_clocked hc ?_
    have e : s.trainingFrame l.val f = s := if_pos (.inr (by simp [hg]))
    rw [e]
    exact answers_after hq (calm_refl s) fun t h => ⟨h.lane, fun a _ => reg_of_regs h.regs a⟩
  · intro s l x hq hc hm hs
    change Answers (whenClocked s fun t => t.trainDone l.val x.toNat) _
    refine answers_clocked hc ?_
    rw [trainDone_locks _ hs hm]
    obtain ⟨k1, k2, k3, k4, _, _⟩ := stamp_spec s l.val 0 x
    have d : Reg.LN_ADAPT_STAMP l.val ≠ Reg.LN_STATUS l.val ∧ Reg.LN_ADAPT_TIME l.val ≠ Reg.LN_STATUS l.val := by
      simp only [Reg.LN_ADAPT_STAMP, Reg.LN_ADAPT_TIME, Reg.LN_STATUS]; omega
    refine answers_after hq (calm_setStage (calm_wr (k4 s (calm_refl s)) (LN_STATUS_not_calm _) _ _) _ _)
      fun t h => ⟨?_, ?_, ?_, ?_, fun a ha => ?_⟩
    · rw [stage_of_reg (reg_of_regs h.regs _), setStage_stage _ _ (by decide)]
    · rw [on_of_reg (reg_of_regs h.regs _), setStage_on _ _ _ (by decide), set1_eq, on_wr_one (by decide) (by decide)]
    · rw [rd_of_reg (reg_of_regs h.regs _), rd_of_reg (setStage_reg _ _ _ _ d.1), set1_eq, rd_wr_ne d.1, k1]
    · rw [reg_of_regs h.regs, setStage_reg _ _ _ _ d.2, set1_eq, reg_wr_ne d.2, k2]
    · simp only [List.mem_cons, List.not_mem_nil, or_false, not_or] at ha
      obtain ⟨a1, a2, a3⟩ := ha
      rw [reg_of_regs h.regs, setStage_reg _ _ _ _ a1, set1_eq, reg_wr_ne a1, k3 _ a2 a3]
  · intro s l hc hm hs
    change Leaves (whenClocked s fun t => t.trainTimeout l.val) _
    refine leaves_clocked hc ?_
    have e : s.trainTimeout l.val = s.stageFail l.val 2 true := by
      have : (s.md == .linktest) = false := by simpa using hm
      have ht : s.testLane l.val = false := by rw [State.testLane, this, Bool.false_and]
      unfold State.trainTimeout
      rw [if_neg (not_not_intro hs), if_neg (by simp [ht])]
    rw [e]
    exact stageFail_late s l.val (by decide)
  · intro s l hq hc hs
    change Answers (whenClocked s fun t => t.laneLocked l.val) _
    refine answers_clocked hc ?_
    have e : s.laneLocked l.val = ((s.setStage l.val Stage.IDENT).set1 (Reg.LN_STATUS l.val) Fld.LN_STATUS.CW_LOCK).set1
        (Reg.LN_STATUS l.val) Fld.LN_STATUS.BLOCK_LOCK := if_neg (not_not_intro hs)
    rw [e, set1_eq, set1_eq]
    have k := LN_STATUS_not_calm l.val
    refine answers_after hq (calm_wr (calm_wr (calm_setStage (calm_refl s) _ _) k _ _) k _ _) fun t h => ⟨?_, ?_, ?_, fun a ha => ?_⟩
    · rw [stage_of_reg (reg_of_regs h.regs _), stage_wr_apart _ _ _ (by decide) (by decide),
        stage_wr_apart _ _ _ (by decide) (by decide), setStage_stage _ _ (by decide)]
    · rw [on_of_reg (reg_of_regs h.regs _), on_wr_other _ _ _ _ _ _ (by decide) (.inr (by decide)), on_wr_one (by decide) (by decide)]
    · rw [on_of_reg (reg_of_regs h.regs _), on_wr_one (by decide) (by decide)]
    · have ha := List.ne_of_not_mem_cons ha
      rw [reg_of_regs h.regs, reg_wr_ne ha, reg_wr_ne ha, setStage_reg _ _ _ _ ha]
  · intro s l hc hs
    change Leaves (whenClocked s fun t => t.lockTimeout l.val) _
    refine leaves_clocked hc ?_
    have e : s.lockTimeout l.val = s.stageFail l.val 3 true := if_pos hs
    rw [e]
    obtain ⟨k1, k2, _, k4, k5⟩ := stageFail_late s l.val (k := 3) (by decide)
    exact ⟨k1, k2, k4, k5⟩
  · intro s l f p hq hc hp hs hk hi hn ho
    change Answers (whenClocked s fun t => t.identFrame l.val f true) _
    refine answers_clocked hc ?_
    rw [identFrame_alone hp hs ho]
    refine answers_after hq (calm_modLane (calm_refl s) _ _) fun t h => ⟨?_, ?_, ?_, fun a _ => reg_of_regs h.regs a⟩ <;>
    rw [laneSt_of_lane h.lane, laneSt_modLane, if_pos rfl] <;> simp [LaneState.heard, hk, hi, hn]
  · intro s l f p hq hc hp hs
    change Answers (whenClocked s fun t => t.identFrame l.val f false) _
    refine answers_clocked hc ?_
    rw [identFrame_bad hp hs]
    refine answers_after hq (calm_modLane (calm_refl s) _ _) fun t h => ⟨?_, ?_, fun a _ => reg_of_regs h.regs a⟩ <;>
    rw [laneSt_of_lane h.lane, laneSt_modLane, if_pos rfl]
  · intro s q p l f hc hp hpq hf hr hl ha hi hid hne hlt
    change Leaves (whenClocked s fun t => t.atPort q.val fun u p => if p.fabric then u.identDone p else u) _
    refine leaves_clocked hc ?_
    have e : (s.atPort q.val fun u p => if p.fabric then u.identDone p else u) = s.activate p [l] := by
      have hn : (s.lanesIn p [Stage.ACTIVE]).isEmpty = false := by simpa using ha
      simp only [State.atPort, hp, hf, if_true, State.identDone, hr, List.isEmpty_cons, Bool.false_eq_true, if_false, hn,
        Bool.not_false]
    rw [e, activate_refused hi hid hne]
    have hst : ∀ k, (s.set1 (Reg.LN_ERR l) Fld.LN_ERR.PARTNER).reg (Reg.LN_STATUS k) = s.reg (Reg.LN_STATUS k) := fun k =>
      reg_wr_ne (by simp only [Reg.LN_STATUS, Reg.LN_ERR]; omega) _ _ _
    have hm : l ∈ s.lanesIn p [Stage.LOCK, Stage.IDENT] := by
      have h1 : l ∈ s.identReady p := by rw [hr]; exact List.mem_singleton_self l
      obtain ⟨h2, h3⟩ := mem_lanesIn (List.mem_filter.mp h1).1
      exact List.mem_filter.mpr ⟨h2, by rw [List.mem_singleton.mp h3]; rfl⟩
    rw [hpq, State.identRefused, lanesIn_of_reg p _ hst]
    refine ⟨hasRaised_raise _ _, ?_, ?_⟩
    · rw [raise_on, on_of_reg (stageFails_err l _ _), set1_eq, on_wr_one (by decide) (by decide)]
    · rw [stage_of_reg (raise_reg ..), stageFails_stage, if_pos hm]
  · intro s q p l f hc hp hpq hf hsp hr hl ha hone hi hid hfl hlk
    change Leaves (whenClocked s fun t => t.atPort q.val fun u p => if p.fabric then u.identDone p else u) _
    refine leaves_clocked hc ?_
    have e : (s.atPort q.val fun u p => if p.fabric then u.identDone p else u) = s.activate p [l] := by
      simp only [State.atPort, hp, hf, if_true, State.identDone, hr, List.isEmpty_cons, Bool.false_eq_true, if_false, ha,
        List.isEmpty_nil, Bool.not_true, hone]
    rw [e, activate_first hi hid hfl (by rw [hpq]; exact hlk)]
    obtain ⟨k1, k2, _⟩ := laneActivated_spec hi
    obtain ⟨m1, m2⟩ := linkStart_keeps hsp (s.portActivated p [l] f)
    have hpa : ∀ a, 0x8000 ≤ a % 0x10000 → (s.portActivated p [l] f).reg a = (s.laneActivated l f).reg a := fun a ha => by
      have : a ≠ Reg.PT_LL_STATUS p.port := by simp only [Reg.PT_LL_STATUS]; omega
      unfold State.portActivated
      rw [wrB_eq, reg_wr_ne this, modLink_reg, attemptDone_reg, List.foldl_cons, List.foldl_nil]
    have h1 : 0x8000 ≤ Reg.LN_STATUS l % 0x10000 := by simp only [Reg.LN_STATUS]; omega
    have h2 : 0x8000 ≤ Reg.LN_PARTNER l % 0x10000 := by simp only [Reg.LN_PARTNER]; omega
    refine ⟨?_, ?_, ?_⟩
    · rw [stage_of_reg ((m2 _ h1).trans (hpa _ h1)), k1]
    · rw [m2 _ h2, hpa _ h2, k2]
    · rw [m1, State.portActivated, wrB_fml, ← hpq]
      exact attemptDone_done _ _
  · intro s q p l hc hp hf hl hone hd
    change Leaves (whenClocked s fun t => t.atPort q.val fun u p => if p.fabric then u.identTimeout p else u) _
    refine leaves_clocked hc ?_
    obtain ⟨k1, k2, _, k4, k5⟩ := stageFail_late s l (k := 4) (by decide)
    have hready : (s.stageFail l 4 true).identReady p = [] := by
      refine List.eq_nil_iff_forall_not_mem.mpr fun k hk => ?_
      obtain ⟨h1, h2⟩ := mem_lanesIn (List.mem_filter.mp hk).1
      have h2 := List.mem_singleton.mp h2
      by_cases hkl : k = l
      · rw [hkl, k1] at h2
        exact absurd h2 (by decide)
      · have hs : (s.stageFail l 4 true).stage k = s.stage k := stage_of_reg (k5 _ (by
          simp only [List.mem_cons, List.not_mem_nil, or_false, not_or, Reg.LN_STATUS, Reg.LN_TRAIN, Reg.LN_ERR]; omega))
        have hm : k ∈ s.lanesIn p [Stage.LOCK, Stage.IDENT] := List.mem_filter.mpr ⟨h1, by rw [← hs, h2]; rfl⟩
        rw [hone, List.mem_singleton] at hm
        exact hkl hm
    have e : (s.atPort q.val fun u p => if p.fabric then u.identTimeout p else u) = s.stageFail l 4 true := by
      simp only [State.atPort, hp, hf, if_true, State.identTimeout, hone, List.filter_cons, hd, Bool.not_false, List.filter_nil,
        List.foldl_cons, List.foldl_nil, hready, List.isEmpty_nil]
    rw [e]
    exact ⟨k1, k2, k4⟩
  · intro s l hq ht hs hd
    change Answers (whenClocked s fun t => t.waitExpiry l.val) _
    refine answers_clocked (clocked_of_trains ht) ?_
    have e : s.waitExpiry l.val = (s.setStage l.val Stage.DETECT).inc (Reg.LN_TRAIN l.val) Fld.LN_TRAIN.ATTEMPTS :=
      if_pos ⟨hs, ht, by rw [hd]; rfl⟩
    have d : Reg.LN_STATUS l.val ≠ Reg.LN_TRAIN l.val := by simp only [Reg.LN_STATUS, Reg.LN_TRAIN]; omega
    rw [e]
    refine answers_after hq (calm_wr (calm_setStage (calm_refl s) _ _) (LN_TRAIN_not_calm _) _ _) fun t h => ⟨?_, ?_, fun a ha => ?_⟩
    · rw [stage_of_reg (reg_of_regs h.regs _), inc_eq, addTo_eq, stage_of_reg (reg_wr_ne d ..), setStage_stage _ _ (by decide)]
    · rw [rd_of_reg (reg_of_regs h.regs _), State.inc, rd_addTo _ _ _ _ (by decide), rd_of_reg (setStage_reg _ _ _ _ d.symm)]
    · simp only [List.mem_cons, List.not_mem_nil, or_false, not_or] at ha
      rw [reg_of_regs h.regs, inc_eq, addTo_eq, reg_wr_ne ha.2, setStage_reg _ _ _ _ ha.1]

end Sys2Proof.Machine
end

section
/-!
Lanes in service: failures, margins, re-tunes, and what software and the host's margining do to a lane.
-/
namespace Sys2Proof.Machine

/-! ### Re-tunes abandoned -/

theorem LN_RETUNE_not_calm (l : Nat) : Reg.LN_RETUNE l ∉ calmRegs := lane_not_calm (by simp only [Reg.LN_RETUNE]; omega)
theorem LN_MARGIN_not_calm (l : Nat) : Reg.LN_MARGIN l ∉ calmRegs := lane_not_calm (by simp only [Reg.LN_MARGIN]; omega)
theorem LN_CTL_not_calm (l : Nat) : Reg.LN_CTL l ∉ calmRegs := lane_not_calm (by simp only [Reg.LN_CTL]; omega)

theorem abandonRetune_calm {u s : State} (h : u.calm s) (l : Nat) : (u.abandonRetune l).calm s := by
  rw [State.abandonRetune, set0_eq, set0_eq]
  exact calm_wr (calm_wr (calm_modLane h _ _) (LN_RETUNE_not_calm l) _ _) (LN_RETUNE_not_calm l) _ _

/-- A lane without a re-tune, and with nothing that waits. -/
def LaneState.calmed (x : LaneState) : LaneState := { x with level := 0, levelHeld := false, waiting := none, loadDue := false }

theorem abandonRetune_laneSt (s : State) (l : Nat) : (s.abandonRetune l).laneSt l = (s.laneSt l).calmed := by
  rw [State.abandonRetune, set0_eq, set0_eq, laneSt_wr, laneSt_wr, laneSt_modLane, if_pos rfl]
  rfl

/-- A lane that has forgotten its partner. -/
def LaneState.unidentified (x : LaneState) : LaneState :=
  { x with ident := none, identCount := 0, identAck := false, identDone := false, leftAttempt := false }

theorem dropLocks_laneSt (s : State) (l : Nat) : (s.dropLocks l).laneSt l = (s.laneSt l).unidentified := by
  rw [State.dropLocks, laneSt_modLane, if_pos rfl, set0_eq, set0_eq, set0_eq, laneSt_wr, laneSt_wr, laneSt_wr]
  rfl

theorem dropLocks_calm {u s : State} (h : u.calm s) (l : Nat) : (u.dropLocks l).calm s := by
  have k := LN_STATUS_not_calm l
  rw [State.dropLocks, set0_eq, set0_eq, set0_eq]
  exact calm_modLane (calm_wr (calm_wr (calm_wr h k _ _) k _ _) k _ _) _ _

theorem toWait_calm {u s : State} (h : u.calm s) (l : Nat) : (u.toWait l).calm s := calm_setStage (dropLocks_calm h l) l _

theorem toWait_laneSt (s : State) (l : Nat) : (s.toWait l).laneSt l = (s.laneSt l).unidentified := by
  rw [State.toWait, State.setStage, laneSt_wr, dropLocks_laneSt]

/-! ### Lane failures -/

/-- A failure declared, before the lane's port acts on it. -/
def State.laneFailed (s : State) (l : Nat) : State :=
  ((s.abandonRetune l).set1 (Reg.LN_ERR l) Fld.LN_ERR.LANE_FAIL).raise (srcTile (l / 8) 4) none

theorem laneFail_alone {s : State} {l : Nat} (ha : s.laneActive l = true) (hp : s.fabricPort l = none) :
    s.laneFail l = s.laneFailed l := by
  unfold State.laneFail
  simp only [ha, hp, Bool.not_true, Bool.false_eq_true, if_false]
  rfl

theorem laneFail_down {s : State} {l : Nat} {p : PortRec} (ha : s.laneActive l = true) (hp : s.fabricPort l = some p)
    (hs : ((s.laneFailed l).toWait l).linkState p.port = 0) : s.laneFail l = (s.laneFailed l).toWait l := by
  have e : ((s.laneFailed l).toWait l).rxMaskChange p = (s.laneFailed l).toWait l := by
    unfold State.rxMaskChange
    exact if_pos hs
  rw [← e]
  unfold State.laneFail
  simp only [ha, hp, Bool.not_true, Bool.false_eq_true, if_false]
  rfl

theorem laneFail_idle {s : State} {l : Nat} (ha : s.laneActive l = false) : s.laneFail l = s := by
  unfold State.laneFail
  exact if_pos (by rw [ha]; rfl)

theorem laneFailed_reg (s : State) (l a : Nat) (h1 : a ≠ Reg.LN_ERR l) (h2 : a ≠ Reg.LN_RETUNE l) :
    (s.laneFailed l).reg a = s.reg a := by
  rw [State.laneFailed, raise_reg, set1_eq, reg_wr_ne h1, abandonRetune_reg _ _ _ h2]

theorem laneFailed_laneSt (s : State) (l : Nat) : (s.laneFailed l).laneSt l = (s.laneSt l).calmed := by
  have e : (s.laneFailed l).lane = ((s.abandonRetune l).set1 (Reg.LN_ERR l) Fld.LN_ERR.LANE_FAIL).lane := by
    rw [State.laneFailed, raise_lane]
  rw [laneSt_of_lane e, set1_eq, laneSt_wr, abandonRetune_laneSt]

theorem modLane_flt (s : State) (l : Nat) (g : LaneState → LaneState) : (s.modLane l g).flt = s.flt := rfl

theorem modLane_fml (s : State) (l : Nat) (g : LaneState → LaneState) : (s.modLane l g).fml = s.fml := rfl

theorem toWait_flt (s : State) (l : Nat) : (s.toWait l).flt = s.flt := by
  rw [State.toWait, State.setStage, wr_flt, State.dropLocks, modLane_flt, set0_flt, set0_flt, set0_flt]

/-! ### Margins -/

theorem marginsOk_of_reg {t s : State} {l : Nat} (h : t.reg (Reg.LN_MARGIN_MIN l) = s.reg (Reg.LN_MARGIN_MIN l)) (v x : Nat) :
    t.marginsOk l v x = s.marginsOk l v x := by
  simp only [State.marginsOk, rd_of_reg h]

theorem showMargin_reg (s : State) (l v h a : Nat) (ha : a ≠ Reg.LN_MARGIN l) : (s.showMargin l v h).reg a = s.reg a := by
  unfold State.showMargin
  simp only [wrB_eq, set1_eq, reg_wr_ne ha]

theorem showMargin_calm {u s : State} (h : u.calm s) (l v x : Nat) : (u.showMargin l v x).calm s := by
  have k := LN_MARGIN_not_calm l
  unfold State.showMargin
  rw [wrB_eq, set1_eq]
  exact calm_wr (calm_wr (calm_wr (calm_wr h k _ _) k _ _) k _ _) k _ _

theorem showMargin_laneSt (s : State) (l v h k : Nat) : (s.showMargin l v h).laneSt k = s.laneSt k := by
  unfold State.showMargin
  rw [wrB_eq, set1_eq, laneSt_wr, laneSt_wr, laneSt_wr, laneSt_wr]

/-- What a measurement shows. -/
theorem showMargin_rd (s : State) (l : Nat) (v : BitVec 8) (h : BitVec 6) :
    (s.showMargin l v.toNat h.toNat).rd (Reg.LN_MARGIN l) Fld.LN_MARGIN.V_MV = v.toNat ∧
      (s.showMargin l v.toNat h.toNat).rd (Reg.LN_MARGIN l) Fld.LN_MARGIN.H = h.toNat ∧
      (s.showMargin l v.toNat h.toNat).on (Reg.LN_MARGIN l) Fld.LN_MARGIN.VALID = true ∧
      (s.showMargin l v.toNat h.toNat).on (Reg.LN_MARGIN l) Fld.LN_MARGIN.LOW = !s.marginsOk l v.toNat h.toNat := by
  unfold State.showMargin
  simp only [wrB_eq, set1_eq]
  have hv : v.toNat % 2 ^ Fld.LN_MARGIN.V_MV.width = v.toNat := Nat.mod_eq_of_lt v.isLt
  have hh : h.toNat % 2 ^ Fld.LN_MARGIN.H.width = h.toNat := Nat.mod_eq_of_lt h.isLt
  refine ⟨?_, ?_, ?_, ?_⟩
  · simp +decide only [rd_wr_eq, if_true, reg_wr, getFld_setFld_same, getFld_setFld_other, hv]
  · simp +decide only [rd_wr_eq, if_true, reg_wr, getFld_setFld_same, getFld_setFld_other, hh]
  · rw [on_wr_other _ _ _ _ _ _ (by decide) (.inr (by decide)), on_wr_one (by decide) (by decide)]
  · have d : Reg.LN_MARGIN_MIN l ≠ Reg.LN_MARGIN l := by simp only [Reg.LN_MARGIN_MIN, Reg.LN_MARGIN]; omega
    rw [State.on, rd_wr _ _ _ _ (by decide)]
    cases s.marginsOk l v.toNat h.toNat <;> rfl

/-! ### Triggers -/

theorem startWaiting_none (s : State) : s.startWaiting [] = s := rfl

/-- A trigger that starts level L1. -/
def State.levelOne (s : State) (l cause : Nat) : State :=
  ((((s.modLane l fun y => { y with level := 1, cause := cause, waiting := none, stuck := false }).inc (Reg.LN_RETUNE l)
    Fld.LN_RETUNE.L1).wr (Reg.LN_RETUNE l) Fld.LN_RETUNE.LAST_CAUSE cause).set1 (Reg.LN_RETUNE l) Fld.LN_RETUNE.ACTIVE).set0
      (Reg.LN_RETUNE l) Fld.LN_RETUNE.PENDING

/-- A trigger leaves the count of low margins. -/
theorem trigger_lows (s : State) (l cause : Nat) : ((s.trigger l cause).laneSt l).lows = (s.laneSt l).lows := by
  unfold State.trigger
  simp only
  split
  · rfl
  · split
    · rfl
    · split
      · rw [set1_eq, laneSt_wr, laneSt_modLane, if_pos rfl]
      · rw [set0_eq, laneSt_wr, set1_eq, laneSt_wr, laneSt_wr, inc_eq, addTo_eq, laneSt_wr, laneSt_modLane, if_pos rfl]

/-- It raises nothing, and writes LN_RETUNE alone. -/
theorem trigger_keeps (s : State) (l cause : Nat) : (s.trigger l cause).flt = s.flt ∧
    ∀ a, a ≠ Reg.LN_RETUNE l → (s.trigger l cause).reg a = s.reg a := by
  unfold State.trigger
  simp only
  split
  · exact ⟨rfl, fun _ _ => rfl⟩
  · split
    · exact ⟨rfl, fun _ _ => rfl⟩
    · split
      · exact ⟨by rw [set1_flt, modLane_flt], fun a ha => by rw [set1_eq, reg_wr_ne ha, modLane_reg]⟩
      · exact ⟨by rw [set0_flt, set1_flt, wr_flt, inc_flt, modLane_flt], fun a ha => by
          rw [set0_eq, reg_wr_ne ha, set1_eq, reg_wr_ne ha, reg_wr_ne ha, inc_eq, addTo_eq, reg_wr_ne ha, modLane_reg]⟩

theorem trigger_written {s : State} {l : Nat} (hd : s.md ≠ .drydown) (hq : s.md ≠ .quarantine) (ha : s.laneActive l = true)
    (hl : (s.laneSt l).level = 0) (hr : (s.laneSt l).hostRun = false)
    (ho : ∀ k ∈ s.portLanesOf l, k ≠ l → (s.laneSt k).level = 0) : s.trigger l 4 = s.levelOne l 4 := by
  have e : ((s.portLanesOf l).any fun k => k != l && (s.laneSt k).level != 0) = false := by
    rw [List.any_eq_false]
    intro k hk
    by_cases hkl : k = l
    · simp [hkl]
    · simp [ho k hk hkl]
  unfold State.trigger
  simp only [hd, hq, ha, hl, hr, e, Bool.not_true, Bool.false_eq_true, or_self, if_false, ne_eq, not_true, bne_self_eq_false,
    Bool.and_false]
  rfl

theorem trigger_held {s : State} {l : Nat} (hd : s.md ≠ .drydown) (hq : s.md ≠ .quarantine) (ha : s.laneActive l = true)
    (hl : (s.laneSt l).level = 0) (hr : (s.laneSt l).hostRun = true) :
    s.trigger l 4 = (s.modLane l fun y => { y with waiting := some 4 }).set1 (Reg.LN_RETUNE l) Fld.LN_RETUNE.PENDING := by
  unfold State.trigger
  simp only [hd, hq, ha, hl, hr, Bool.not_true, Bool.false_eq_true, or_self, if_false, ne_eq, not_true, bne_self_eq_false,
    Bool.and_false, Bool.true_or, if_true]

theorem tempTrigger_off {s : State} {l : Nat} (h : s.on (Reg.LN_CTL l) Fld.LN_CTL.TEMP_TRIG_EN = false) : s.tempTrigger l = s := by
  unfold State.tempTrigger
  simp only [h, Bool.and_false, Bool.false_and, Bool.false_eq_true, if_false]

theorem loadTrigger_off {s : State} {l : Nat} (n : Nat) (h : s.on (Reg.LN_CTL l) Fld.LN_CTL.LOAD_TRIG_EN = false) :
    s.loadTrigger l n = s := by
  unfold State.loadTrigger
  simp only [h, Bool.and_false, Bool.false_and, Bool.false_eq_true, if_false]

/-! ### Measurements -/

/-- A lane after a measurement. -/
def LaneState.measured (y : LaneState) (lows goods : Nat) : LaneState :=
  { y with lows := lows, goods := goods, stuck := y.stuck && decide (goods < 2), loadDue := false }

section
variable {s : State} {l v h : Nat} (load : Nat) (ha : s.laneActive l = true)
  (hm : s.on (Reg.LN_CTL l) Fld.LN_CTL.MON_EN = true) (hr : (s.laneSt l).hostRun = false)

include ha hm hr

theorem measure_good (ho : s.marginsOk l v h = true) : s.measure l v h load =
    (let s2 := ((s.showMargin l v h).modLane l fun y => y.measured 0 ((s.laneSt l).goods + 1)).tempTrigger l
     if (s.laneSt l).loadDue then s2.loadMeasured l load true else s2.loadTrigger l load) := by
  unfold State.measure
  simp only [ha, hm, hr, ho, Bool.not_true, Bool.false_eq_true, or_self, if_false, if_true]
  rfl

theorem measure_low (ho : s.marginsOk l v h = false) (hl : (s.laneSt l).lows = 1) : s.measure l v h load =
    (((((s.showMargin l v h).modLane l fun y => y.measured 2 0).set1 (Reg.LN_ERR l) Fld.LN_ERR.MARGIN_LOW).raise
      (srcTile (l / 8) 6) none).modLane l fun y => { y with lows := 0 }).trigger l 1 := by
  unfold State.measure
  simp only [ha, hm, hr, ho, hl, Bool.not_true, Bool.false_eq_true, or_self, if_false, Nat.reduceAdd, le_refl,
    if_true, LaneState.measured]

end

/-! ### Levels of a re-tune -/

/-- A lane whose level has ended; a host run that came during it goes on. -/
def LaneState.levelEnded (y : LaneState) : LaneState :=
  { y with level := 0, hostRun := y.hostRun || y.hostWait, hostWait := false }

/-- A level that ends, before what waits on the lane's port starts. -/
def State.retuned (s : State) (l : Nat) : State :=
  (s.modLane l LaneState.levelEnded).set0 (Reg.LN_RETUNE l) Fld.LN_RETUNE.ACTIVE

section
variable {s : State} {l v h : Nat} (load : Nat) (h1 : (s.laneSt l).level = 1) (hh : (s.laneSt l).levelHeld = false)

include h1 hh

theorem retuneLevel_good (ho : (s.showMargin l v h).marginsOk l v h = true) : s.retuneLevel l v h load =
    (let t := ((s.showMargin l v h).stamp' l load (s.laneSt l).cause).retuned l
     t.startWaiting (t.portLanesOf l)) := by
  unfold State.retuneLevel State.levelDone
  simp only [h1, hh, ho, one_ne_zero, Bool.false_eq_true, or_self, if_false, if_true]
  rfl

variable (ho : (s.showMargin l v h).marginsOk l v h = false) (hp : ∀ p, s.lanePort l = some p → p.protocol ≠ .flocet)

include ho hp

theorem retuneLevel_held (hw : (s.laneSt l).hostWait = true) : s.retuneLevel l v h load =
    (s.showMargin l v h).modLane l fun y => { y with hostRun := true, hostWait := false, levelHeld := true } := by
  unfold State.retuneLevel State.levelDone
  cases hl : s.lanePort l with
  | none =>
    simp only [h1, hh, ho, one_ne_zero, Bool.false_eq_true, or_self, if_false, hw, if_true, Bool.not_false, and_self]
  | some p =>
    have e : (p.protocol == .flocet) = false := by simpa using hp p hl
    simp only [h1, hh, ho, e, one_ne_zero, Bool.false_eq_true, or_self, if_false, hw, if_true, Bool.not_false, and_self]

theorem retuneLevel_second (hw : (s.laneSt l).hostWait = false) : s.retuneLevel l v h load = (s.showMargin l v h).startL2 l := by
  unfold State.retuneLevel State.levelDone
  cases hl : s.lanePort l with
  | none =>
    simp only [h1, hh, ho, one_ne_zero, Bool.false_eq_true, or_self, if_false, hw, if_true, Bool.not_false, and_self]
  | some p =>
    have e : (p.protocol == .flocet) = false := by simpa using hp p hl
    simp only [h1, hh, ho, e, one_ne_zero, Bool.false_eq_true, or_self, if_false, hw, if_true, Bool.not_false, and_self]

end

/-! ### The lanes and ports that a write leaves -/

theorem portRec_of_fml {u s : State} (h : u.fml = s.fml) (q : Nat) : u.portRec q = s.portRec q := by
  simp only [State.portRec, h]

theorem lanePort_of_fml {u s : State} (h : u.fml = s.fml) (l : Nat) : u.lanePort l = s.lanePort l := by
  simp only [State.lanePort, State.ports, h]

theorem portLanesOf_of_fml {u s : State} (h : u.fml = s.fml) (l : Nat) : u.portLanesOf l = s.portLanesOf l := by
  simp only [State.portLanesOf, lanePort_of_fml h]

theorem portUp_of_reg {u s : State} (hf : u.fml = s.fml) (h : ∀ a, a % 0x10000 < 0x8000 → u.reg a = s.reg a) (q : Nat) :
    u.portUp q = s.portUp q := by
  have h1 : u.reg (Reg.PT_LL_STATUS q) = s.reg (Reg.PT_LL_STATUS q) := h _ (LL_STATUS_low q)
  have h2 : u.reg (Reg.PT_STD_STATUS q) = s.reg (Reg.PT_STD_STATUS q) := h _ (by simp only [Reg.PT_STD_STATUS]; omega)
  have h3 : u.reg (Reg.PT_HP_STATUS q) = s.reg (Reg.PT_HP_STATUS q) := h _ (by simp only [Reg.PT_HP_STATUS]; omega)
  simp only [State.portUp, portRec_of_fml hf, State.linkState, State.hpState, rd_of_reg h1, on_of_reg h2, rd_of_reg h3]

theorem laneActive_of_reg {u s : State} {l : Nat} (hf : u.fml = s.fml) (h : ∀ a, a % 0x10000 < 0x8000 → u.reg a = s.reg a)
    (hs : u.reg (Reg.LN_STATUS l) = s.reg (Reg.LN_STATUS l)) : u.laneActive l = s.laneActive l := by
  simp only [State.laneActive, stage_of_reg hs, lanePort_of_fml hf, portUp_of_reg hf h]

/-! ### Software acts on a lane -/

theorem levelOne_calm {u s : State} (h : u.calm s) (l c : Nat) : (u.levelOne l c).calm s := by
  have k := LN_RETUNE_not_calm l
  unfold State.levelOne
  rw [set0_eq, set1_eq, inc_eq, addTo_eq]
  exact calm_wr (calm_wr (calm_wr (calm_wr (calm_modLane h _ _) k _ _) k _ _) k _ _) k _ _

/-- What the start of level L1 leaves. -/
theorem levelOne_spec (s : State) (l c : Nat) :
    (s.levelOne l c).laneSt l = { s.laneSt l with level := 1, cause := c, waiting := none, stuck := false } ∧
      (s.levelOne l c).on (Reg.LN_RETUNE l) Fld.LN_RETUNE.ACTIVE = true ∧
      (s.levelOne l c).rd (Reg.LN_RETUNE l) Fld.LN_RETUNE.LAST_CAUSE = c % 2 ^ Fld.LN_RETUNE.LAST_CAUSE.width ∧
      ∀ a, a ≠ Reg.LN_RETUNE l → (s.levelOne l c).reg a = s.reg a := by
  unfold State.levelOne
  rw [set0_eq, set1_eq, inc_eq, addTo_eq]
  refine ⟨?_, ?_, ?_, fun a ha => ?_⟩
  · rw [laneSt_wr, laneSt_wr, laneSt_wr, laneSt_wr, laneSt_modLane, if_pos rfl]
  · rw [on_wr_other _ _ _ _ _ _ (by decide) (.inr (by decide)), on_wr_one (by decide) (by decide)]
  · rw [rd_wr_other _ _ _ _ _ _ (by decide) (.inr (by decide)), rd_wr_other _ _ _ _ _ _ (by decide) (.inr (by decide)),
      rd_wr _ _ _ _ (by decide)]
  · rw [reg_wr_ne ha, reg_wr_ne ha, reg_wr_ne ha, reg_wr_ne ha, modLane_reg]

theorem startL2_calm {u s : State} (h : u.calm s) (l : Nat) : (u.startL2 l).calm s := by
  rw [State.startL2, inc_eq, addTo_eq]
  exact calm_wr (calm_modLane h _ _) (LN_RETUNE_not_calm l) _ _

theorem startL2_spec (s : State) (l : Nat) :
    (s.startL2 l).laneSt l = { s.laneSt l with level := 2, levelHeld := false } ∧
      (s.startL2 l).rd (Reg.LN_RETUNE l) Fld.LN_RETUNE.L2 =
        min (2 ^ Fld.LN_RETUNE.L2.width - 1) (s.rd (Reg.LN_RETUNE l) Fld.LN_RETUNE.L2 + 1) ∧
      ∀ a, a ≠ Reg.LN_RETUNE l → (s.startL2 l).reg a = s.reg a := by
  refine ⟨?_, ?_, fun a ha => ?_⟩
  · rw [State.startL2, inc_eq, addTo_eq, laneSt_wr, laneSt_modLane, if_pos rfl]
  · exact rd_addTo _ _ _ _ (by decide)
  · rw [State.startL2, inc_eq, addTo_eq, reg_wr_ne ha, modLane_reg]

theorem toOff_calm {u s : State} (h : u.calm s) (l : Nat) : (u.toOff l).calm s :=
  calm_setStage (dropLocks_calm (abandonRetune_calm h l) l) l _

theorem toOff_spec (s : State) (l : Nat) :
    (s.toOff l).stage l = Stage.OFF ∧ (s.toOff l).laneSt l = (s.laneSt l).calmed.unidentified ∧
      ∀ a, a ≠ Reg.LN_STATUS l → a ≠ Reg.LN_RETUNE l → (s.toOff l).reg a = s.reg a := by
  refine ⟨setStage_stage _ _ (by decide), ?_, fun a h1 h2 => ?_⟩
  · rw [State.toOff, State.setStage, laneSt_wr, dropLocks_laneSt, abandonRetune_laneSt]
  · rw [State.toOff, setStage_reg _ _ _ _ h1, dropLocks_reg _ _ _ h1, abandonRetune_reg _ _ _ h2]

/-! ### A lane re-trained while its link is down -/

/-- A lane that goes back has no re-tune and no partner. -/
theorem laneBack_laneSt (s : State) (l k : Nat) (h : k = l → s.stage l ∉ [Stage.OFF, Stage.TEST, Stage.STD])
    (hk : k = l ∨ ((s.laneSt k).level = 0 ∧ (s.laneSt k).identDone = false)) :
    ((s.laneBack l).laneSt k).level = 0 ∧ ((s.laneBack l).laneSt k).identDone = false := by
  by_cases e : k = l
  · subst e
    rw [laneBack_goes (h rfl), toWait_laneSt, abandonRetune_laneSt]
    exact ⟨rfl, rfl⟩
  · by_cases hb : s.stage l ∈ [Stage.OFF, Stage.TEST, Stage.STD]
    · rw [laneBack_stays hb]
      exact hk.resolve_left e
    · have : ((s.laneBack l).laneSt k) = s.laneSt k := by
        rw [laneBack_goes hb, State.toWait, State.setStage, laneSt_wr, State.dropLocks, laneSt_modLane, if_neg e, set0_eq,
          set0_eq, set0_eq, laneSt_wr, laneSt_wr, laneSt_wr, State.abandonRetune, set0_eq, set0_eq, laneSt_wr, laneSt_wr,
          laneSt_modLane, if_neg e]
      rw [this]
      exact hk.resolve_left e

theorem lanesBack_laneSt (k : Nat) : ∀ (ls : List Nat) (s : State), s.stage k ∉ [Stage.OFF, Stage.TEST, Stage.STD] →
    (k ∈ ls ∨ ((s.laneSt k).level = 0 ∧ (s.laneSt k).identDone = false)) →
    ((ls.foldl (fun t l => t.laneBack l) s).laneSt k).level = 0 ∧
      ((ls.foldl (fun t l => t.laneBack l) s).laneSt k).identDone = false
  | [], s, _, h => by simpa using h
  | l :: ls, s, hs, h => by
    have h1 : (s.laneBack l).stage k ∉ [Stage.OFF, Stage.TEST, Stage.STD] := by
      rw [laneBack_stage]
      split
      · decide
      · exact hs
    refine lanesBack_laneSt k ls _ h1 ?_
    by_cases e : k = l
    · exact .inr (laneBack_laneSt s l k (fun _ => e ▸ hs) (.inl e))
    · rcases h with h | h
      · exact .inl ((List.mem_cons.mp h).resolve_left e)
      · exact .inr (laneBack_laneSt s l k (fun h => absurd h e) (.inr h))

theorem laneBack_calm {u s : State} (h : u.calm s) (l : Nat) : (u.laneBack l).calm s := by
  by_cases hb : u.stage l ∈ [Stage.OFF, Stage.TEST, Stage.STD]
  · rw [laneBack_stays hb]
    exact h
  · rw [laneBack_goes hb]
    exact toWait_calm (abandonRetune_calm h l) l

theorem lanesBack_calm {s : State} : ∀ (ls : List Nat) (u : State), u.calm s → (ls.foldl (fun t l => t.laneBack l) u).calm s
  | [], _, h => h
  | l :: ls, _, h => lanesBack_calm ls _ (laneBack_calm h l)

/-- The lanes of a link that is down go back, and nothing else ends. -/
theorem lanesToWait_down {s : State} {p : PortRec} (hs : s.linkState p.port = 0) :
    s.lanesToWait p = (s.lanesGone p).modLink p.port fun l => { l with restarting := false, initSent := false, initIn := none } := by
  have h0 := (lanesGone_linkState s p).trans hs
  have hl : (s.lanesGone p).leaveUp p = s.lanesGone p := by
    simp [State.leaveUp, h0]
  unfold State.lanesToWait
  change (if ((s.lanesGone p).leaveUp p).linkState p.port = 3 then ((s.lanesGone p).leaveUp p).linkDown p false
    else (s.lanesGone p).leaveUp p).modLink p.port _ = _
  rw [hl, if_neg (by rw [h0]; decide)]

theorem calm_attemptDone {u s : State} (h : u.calm s) (q : Nat) : (u.attemptDone q).calm s := h

theorem lanesGone_calm (s : State) (p : PortRec) : (s.lanesGone p).calm s := by
  have h := lanesBack_calm p.lanes s (calm_refl s)
  unfold State.lanesGone
  simp only
  split
  · exact calm_modLink (calm_attemptDone h _) _ _
  · exact calm_modLink h _ _

theorem lanesGone_lane (s : State) (p : PortRec) : (s.lanesGone p).lane = (p.lanes.foldl (fun t l => t.laneBack l) s).lane := by
  unfold State.lanesGone
  simp only
  split <;> rfl

/-! ### A lane disabled and enabled again -/

theorem laneDisable_off {s : State} {l : Nat} (ha : s.laneActive l = false) (hs : s.stage l ≠ Stage.TEST) :
    s.laneDisable l true = (s.wr (Reg.LN_CTL l) Fld.LN_CTL.DISABLE 1).toOff l := by
  have d : Reg.LN_STATUS l ≠ Reg.LN_CTL l := by simp only [Reg.LN_STATUS, Reg.LN_CTL]; omega
  have h1 : (s.wr (Reg.LN_CTL l) Fld.LN_CTL.DISABLE 1).laneActive l = false := by
    rw [laneActive_of_reg (wr_fml ..) (fun a ha => reg_wr_ne (by simp only [Reg.LN_CTL]; omega) _ _ _) (reg_wr_ne d _ _ _)]
    exact ha
  have h2 : (s.wr (Reg.LN_CTL l) Fld.LN_CTL.DISABLE 1).stage l ≠ Stage.TEST := by
    rw [stage_of_reg (reg_wr_ne d _ _ _)]
    exact hs
  unfold State.laneDisable
  simp only [wrB_eq, if_true, laneFail_idle h1, if_neg h2]

/-- A lane of a port enabled again, before its bring-up starts. -/
def State.laneEnabled (s : State) (l : Nat) : State :=
  ((s.wr (Reg.LN_CTL l) Fld.LN_CTL.DISABLE 0).wr (Reg.LN_PRBS_CTL l) ⟨0, 12⟩ 0).set0 (Reg.LN_PRBS_STATUS l)
    Fld.LN_PRBS_STATUS.CHK_LOCK

/-- What the bring-up of a lane shows first. -/
def State.laneShown (s : State) (p : PortRec) (l : Nat) : State :=
  ((s.wr (Reg.LN_STATUS l) Fld.LN_STATUS.PORT_LANE (p.portLane l)).wrB (Reg.LN_STATUS l) Fld.LN_STATUS.RX_INV
    (p.rxPolarity.testBit (p.portLane l))).wr (Reg.LN_STATUS l) Fld.LN_STATUS.RATE (if p.fabric then 6 else 0)

/-- A lane whose test ends, if it has one. -/
def State.testEnded (s : State) (l : Nat) : State := if s.stage l = Stage.TEST then s.stopTest l else s

theorem laneDisable_on {s : State} {l : Nat} {p : PortRec} (hp : s.lanePort l = some p) (hf : p.fabric = true)
    (hd : s.on (Reg.LN_CTL l) Fld.LN_CTL.DISABLE = true) (ht : s.lanesTrain = true) :
    s.laneDisable l false = ((((s.laneEnabled l).laneShown p l).testEnded l).dropLocks l).toDetect l := by
  have h1 : ((s.laneEnabled l).laneShown p l).on (Reg.LN_CTL l) Fld.LN_CTL.DISABLE = false := by
    have d1 : Reg.LN_CTL l ≠ Reg.LN_STATUS l := by simp only [Reg.LN_STATUS, Reg.LN_CTL]; omega
    have d2 : Reg.LN_CTL l ≠ Reg.LN_PRBS_CTL l := by simp only [Reg.LN_PRBS_CTL, Reg.LN_CTL]; omega
    have d3 : Reg.LN_CTL l ≠ Reg.LN_PRBS_STATUS l := by simp only [Reg.LN_PRBS_STATUS, Reg.LN_CTL]; omega
    rw [State.laneShown, wrB_eq, on_wr_ne d1, on_wr_ne d1, on_wr_ne d1, State.laneEnabled, set0_eq, on_wr_ne d3, on_wr_ne d2,
      on_wr_zero (by decide)]
  have h2 : (s.laneEnabled l).startLane p l = ((((s.laneEnabled l).laneShown p l).testEnded l).dropLocks l).toDetect l := by
    change (if ((s.laneEnabled l).laneShown p l).on (Reg.LN_CTL l) Fld.LN_CTL.DISABLE then _ else
      if p.fabric then ((((s.laneEnabled l).laneShown p l).testEnded l).dropLocks l).toDetect l else _) = _
    rw [if_neg (by rw [h1]; decide), if_pos hf]
  rw [← h2]
  unfold State.laneDisable
  simp only [Bool.false_eq_true, if_false, hd, if_true, hp, ht]
  rfl

theorem testEnded_calm {u s : State} (h : u.calm s) (l : Nat) : (u.testEnded l).calm s := by
  unfold State.testEnded State.stopTest
  have h1 : ((u.wr (Reg.LN_PRBS_CTL l) ⟨0, 12⟩ 0).set0 (Reg.LN_PRBS_STATUS l) Fld.LN_PRBS_STATUS.CHK_LOCK).calm s := by
    rw [set0_eq]
    exact calm_wr (calm_wr h (LN_PRBS_CTL_not_calm l) _ _) (LN_PRBS_STATUS_not_calm l) _ _
  split
  · simp only
    split
    · exact calm_setStage h1 l _
    · exact h1
  · exact h

/-- The end of a test leaves the checker without lock. -/
theorem testEnded_lock {s : State} {l : Nat} (h : s.on (Reg.LN_PRBS_STATUS l) Fld.LN_PRBS_STATUS.CHK_LOCK = false) :
    (s.testEnded l).on (Reg.LN_PRBS_STATUS l) Fld.LN_PRBS_STATUS.CHK_LOCK = false := by
  have h1 : ((s.wr (Reg.LN_PRBS_CTL l) ⟨0, 12⟩ 0).set0 (Reg.LN_PRBS_STATUS l) Fld.LN_PRBS_STATUS.CHK_LOCK).on
      (Reg.LN_PRBS_STATUS l) Fld.LN_PRBS_STATUS.CHK_LOCK = false := by rw [set0_eq, on_wr_zero (by decide)]
  have d : Reg.LN_PRBS_STATUS l ≠ Reg.LN_STATUS l := by simp only [Reg.LN_STATUS, Reg.LN_PRBS_STATUS]; omega
  unfold State.testEnded State.stopTest
  split
  · simp only
    split
    · rw [on_of_reg (setStage_reg _ _ _ _ d), h1]
    · exact h1
  · exact h

theorem testEnded_reg (s : State) (l a : Nat) (h1 : a ≠ Reg.LN_STATUS l) (h2 : a ≠ Reg.LN_PRBS_CTL l)
    (h3 : a ≠ Reg.LN_PRBS_STATUS l) : (s.testEnded l).reg a = s.reg a := by
  have h : ((s.wr (Reg.LN_PRBS_CTL l) ⟨0, 12⟩ 0).set0 (Reg.LN_PRBS_STATUS l) Fld.LN_PRBS_STATUS.CHK_LOCK).reg a = s.reg a := by
    rw [set0_eq, reg_wr_ne h3, reg_wr_ne h2]
  unfold State.testEnded State.stopTest
  split
  · simp only
    split
    · rw [setStage_reg _ _ _ _ h1, h]
    · exact h
  · rfl

theorem laneEnabled_calm (s : State) (l : Nat) : (s.laneEnabled l).calm s := by
  unfold State.laneEnabled
  rw [set0_eq]
  exact calm_wr (calm_wr (calm_wr (calm_refl s) (LN_CTL_not_calm l) _ _) (LN_PRBS_CTL_not_calm l) _ _)
    (LN_PRBS_STATUS_not_calm l) _ _

theorem laneShown_calm {u s : State} (h : u.calm s) (p : PortRec) (l : Nat) : (u.laneShown p l).calm s := by
  have k := LN_STATUS_not_calm l
  unfold State.laneShown
  rw [wrB_eq]
  exact calm_wr (calm_wr (calm_wr h k _ _) k _ _) k _ _

theorem toDetect_calm {u s : State} (h : u.calm s) (l : Nat) : (u.toDetect l).calm s := by
  rw [State.toDetect, inc_eq, addTo_eq]
  exact calm_wr (calm_setStage h l _) (LN_TRAIN_not_calm l) _ _

theorem toDetect_stage (s : State) (l : Nat) : (s.toDetect l).stage l = Stage.DETECT := by
  have d : Reg.LN_STATUS l ≠ Reg.LN_TRAIN l := by simp only [Reg.LN_STATUS, Reg.LN_TRAIN]; omega
  rw [State.toDetect, inc_eq, addTo_eq, stage_of_reg (reg_wr_ne d _ _ _), setStage_stage _ _ (by decide)]

theorem toDetect_reg (s : State) (l a : Nat) (h1 : a ≠ Reg.LN_STATUS l) (h2 : a ≠ Reg.LN_TRAIN l) :
    (s.toDetect l).reg a = s.reg a := by
  rw [State.toDetect, inc_eq, addTo_eq, reg_wr_ne h2, setStage_reg _ _ _ _ h1]

/-! ### What margining by the host does -/

theorem hostMargin_runs {s : State} {l : Nat} {p : PortRec} (hp : s.lanePort l = some p) (hf : p.fabric = false)
    (ha : s.laneActive l = true) : s.hostMargin l =
      if (s.laneSt l).level ≠ 0 then s.modLane l fun x => { x with hostWait := true }
      else s.modLane l fun x => { x with hostRun := true } := by
  unfold State.hostMargin
  simp only [hp, hf, ha, Bool.not_true, Bool.false_eq_true, or_self, if_false]

/-- A failure of an active lane of no fabric port. -/
theorem laneFailure_alone (s : State) (l : Nat) :
    s.md.clocked = true → s.laneActive l = true → s.fabricPort l = none →
  Leaves (whenClocked s fun t => t.laneFail l) fun u =>
    u.hasRaised (srcTile (l / 8) 4) none ∧ u.on (Reg.LN_ERR l) Fld.LN_ERR.LANE_FAIL = true ∧
    (u.laneSt l).level = 0 ∧ u.stage l = s.stage l ∧
    u.regsBut s [Reg.LN_ERR l, Reg.LN_RETUNE l] := by
  intro hc ha hp
  refine leaves_clocked hc ?_
  rw [laneFail_alone ha hp]
  have d : Reg.LN_STATUS l ≠ Reg.LN_ERR l := by simp only [Reg.LN_STATUS, Reg.LN_ERR]; omega
  refine ⟨hasRaised_raise _ _, ?_, ?_, ?_, fun a ha => ?_⟩
  · rw [State.laneFailed, raise_on, set1_eq, on_wr_one (by decide) (by decide)]
  · rw [laneFailed_laneSt]
    rfl
  · exact stage_of_reg (laneFailed_reg s l _ d (lane_ne_retune l l))
  · simp only [List.mem_cons, List.not_mem_nil, or_false, not_or] at ha
    exact laneFailed_reg s l a ha.1 ha.2

/-- A failure of a lane of a port whose link is down. -/
theorem laneFailure_down (s : State) (l : Nat) (p : PortRec) :
    s.md.clocked = true → s.stage l = Stage.ACTIVE →
  s.fabricPort l = some p → p.port < 128 → s.linkState p.port = 0 →
  Leaves (whenClocked s fun t => t.laneFail l) fun u =>
    u.hasRaised (srcTile (l / 8) 4) none ∧ u.stage l = Stage.WAIT ∧ (u.laneSt l).identDone = false ∧
    u.regsBut s [Reg.LN_ERR l, Reg.LN_RETUNE l, Reg.LN_STATUS l] := by
  intro hc hs hp h128 hk
  refine leaves_clocked hc ?_
  have hr : ((s.laneFailed l).toWait l).reg (Reg.PT_LL_STATUS p.port) = s.reg (Reg.PT_LL_STATUS p.port) := by
    rw [toWait_reg _ _ _ (ne_LN_STATUS l (LL_STATUS_low _)),
      laneFailed_reg _ _ _ (by simp only [Reg.PT_LL_STATUS, Reg.LN_ERR]; omega) (ne_LN_RETUNE l (LL_STATUS_low _))]
  have ha : s.laneActive l = true := by
    rw [State.laneActive, hs]
    rfl
  have h1 : ((s.laneFailed l).toWait l).linkState p.port = 0 := (rd_of_reg hr _).trans hk
  have d : Reg.LN_ERR l ≠ Reg.LN_STATUS l := by simp only [Reg.LN_STATUS, Reg.LN_ERR]; omega
  rw [laneFail_down ha hp h1]
  refine ⟨?_, toWait_stage _ _, ?_, fun a ha => ?_⟩
  · exact hasRaised_of_flt (toWait_flt ..) (hasRaised_raise _ _)
  · rw [toWait_laneSt]
    rfl
  · simp only [List.mem_cons, List.not_mem_nil, or_false, not_or] at ha
    rw [toWait_reg _ _ _ ha.2.2, laneFailed_reg _ _ _ ha.1 ha.2.1]

/-- A good measurement. -/
theorem measurement_good (s : State) (l : Nat) (v : BitVec 8) (h : BitVec 6) (x : BitVec 8) :
    s.quiet = true → s.md.clocked = true →
  s.laneActive l = true → s.on (Reg.LN_CTL l) Fld.LN_CTL.MON_EN = true → (s.laneSt l).hostRun = false →
  s.marginsOk l v.toNat h.toNat = true → s.on (Reg.LN_CTL l) Fld.LN_CTL.TEMP_TRIG_EN = false →
  s.on (Reg.LN_CTL l) Fld.LN_CTL.LOAD_TRIG_EN = false → (s.laneSt l).loadDue = false →
  Answers (whenClocked s fun t => t.measure l v.toNat h.toNat x.toNat) fun t =>
    t.rd (Reg.LN_MARGIN l) Fld.LN_MARGIN.V_MV = v.toNat ∧ t.rd (Reg.LN_MARGIN l) Fld.LN_MARGIN.H = h.toNat ∧
    t.on (Reg.LN_MARGIN l) Fld.LN_MARGIN.VALID = true ∧ t.on (Reg.LN_MARGIN l) Fld.LN_MARGIN.LOW = false ∧
    (t.laneSt l).lows = 0 ∧ (t.laneSt l).goods = (s.laneSt l).goods + 1 ∧
    t.regsBut s [Reg.LN_MARGIN l] := by
  intro hq hc ha hm hr ho ht hlo hd
  refine answers_clocked hc ?_
  have d : Reg.LN_CTL l ≠ Reg.LN_MARGIN l := by simp only [Reg.LN_MARGIN, Reg.LN_CTL]; omega
  have hctl : ((s.showMargin l v.toNat h.toNat).modLane l fun y => y.measured 0 ((s.laneSt l).goods + 1)).reg (Reg.LN_CTL l)
      = s.reg (Reg.LN_CTL l) := by rw [modLane_reg, showMargin_reg _ _ _ _ _ d]
  have e : s.measure l v.toNat h.toNat x.toNat =
      (s.showMargin l v.toNat h.toNat).modLane l fun y => y.measured 0 ((s.laneSt l).goods + 1) := by
    rw [measure_good x.toNat ha hm hr ho, tempTrigger_off ((on_of_reg hctl _).trans ht), hd]
    exact loadTrigger_off _ ((on_of_reg hctl _).trans hlo)
  obtain ⟨k1, k2, k3, k4⟩ := showMargin_rd s l v h
  rw [e]
  refine answers_after hq (calm_modLane (showMargin_calm (calm_refl s) _ _ _) _ _) fun t h => ⟨?_, ?_, ?_, ?_, ?_, ?_, fun a ha => ?_⟩
  · rw [rd_of_reg (reg_of_regs h.regs _), rd_of_reg (modLane_reg ..)]
    exact k1
  · rw [rd_of_reg (reg_of_regs h.regs _), rd_of_reg (modLane_reg ..)]
    exact k2
  · rw [on_of_reg (reg_of_regs h.regs _), on_of_reg (modLane_reg ..)]
    exact k3
  · rw [on_of_reg (reg_of_regs h.regs _), on_of_reg (modLane_reg ..)]
    exact k4.trans (by rw [ho]; rfl)
  · rw [laneSt_of_lane h.lane, laneSt_modLane, if_pos rfl]
    rfl
  · rw [laneSt_of_lane h.lane, laneSt_modLane, if_pos rfl]
    rfl
  · rw [reg_of_regs h.regs, modLane_reg, showMargin_reg _ _ _ _ _ (by simpa using ha)]

/-- A good measurement after the load has changed: the load measured is the new base. -/
theorem measurement_load (s : State) (l : Nat) (v : BitVec 8) (h : BitVec 6) (x : BitVec 8) :
    s.quiet = true → s.md.clocked = true →
  s.laneActive l = true → s.on (Reg.LN_CTL l) Fld.LN_CTL.MON_EN = true → (s.laneSt l).hostRun = false →
  s.marginsOk l v.toNat h.toNat = true → s.on (Reg.LN_CTL l) Fld.LN_CTL.TEMP_TRIG_EN = false →
  (s.laneSt l).loadDue = true → (s.laneSt l).level = 0 →
  Answers (whenClocked s fun t => t.measure l v.toNat h.toNat x.toNat) fun t =>
    t.rd (Reg.LN_ADAPT_STAMP l) Fld.LN_ADAPT_STAMP.LOAD = x.toNat ∧
    t.rd (Reg.LN_ADAPT_STAMP l) Fld.LN_ADAPT_STAMP.CAUSE = 3 ∧ (t.laneSt l).loadDue = false ∧
    (t.laneSt l).level = 0 ∧ t.regsBut s [Reg.LN_MARGIN l, Reg.LN_ADAPT_STAMP l] := by
  intro hq hc ha hm hr ho ht hd hlv
  refine answers_clocked hc ?_
  have d : Reg.LN_CTL l ≠ Reg.LN_MARGIN l := by simp only [Reg.LN_MARGIN, Reg.LN_CTL]; omega
  have hctl : ((s.showMargin l v.toNat h.toNat).modLane l fun y => y.measured 0 ((s.laneSt l).goods + 1)).reg (Reg.LN_CTL l)
      = s.reg (Reg.LN_CTL l) := by rw [modLane_reg, showMargin_reg _ _ _ _ _ d]
  have hl2 : ((s.showMargin l v.toNat h.toNat).modLane l fun y => y.measured 0 ((s.laneSt l).goods + 1)).laneSt l =
      (s.laneSt l).measured 0 ((s.laneSt l).goods + 1) := by rw [laneSt_modLane, if_pos rfl, showMargin_laneSt]
  have e : s.measure l v.toNat h.toNat x.toNat =
      (((s.showMargin l v.toNat h.toNat).modLane l fun y => y.measured 0 ((s.laneSt l).goods + 1)).wr (Reg.LN_ADAPT_STAMP l)
        Fld.LN_ADAPT_STAMP.LOAD x.toNat).wr (Reg.LN_ADAPT_STAMP l) Fld.LN_ADAPT_STAMP.CAUSE 3 := by
    rw [measure_good x.toNat ha hm hr ho, tempTrigger_off ((on_of_reg hctl _).trans ht), hd]
    simp only [if_true, State.loadMeasured, hl2]
    exact if_neg (not_not.mpr hlv)
  have k := STAMP_not_calm l
  rw [e]
  refine answers_after hq (calm_wr (calm_wr (calm_modLane (showMargin_calm (calm_refl s) _ _ _) _ _) k _ _) k _ _)
    fun t h => ⟨?_, ?_, ?_, ?_, fun a ha => ?_⟩
  · rw [rd_of_reg (reg_of_regs h.regs _), rd_wr_other _ _ _ _ _ _ (by decide) (.inr (by decide)), rd_wr _ _ _ _ (by decide)]
    exact Nat.mod_eq_of_lt x.isLt
  · rw [rd_of_reg (reg_of_regs h.regs _), rd_wr _ _ _ _ (by decide)]
    rfl
  · rw [laneSt_of_lane h.lane, laneSt_wr, laneSt_wr, hl2]
    rfl
  · rw [laneSt_of_lane h.lane, laneSt_wr, laneSt_wr, hl2]
    exact hlv
  · simp only [List.mem_cons, List.not_mem_nil, or_false, not_or] at ha
    rw [reg_of_regs h.regs, reg_wr_ne ha.2, reg_wr_ne ha.2, modLane_reg, showMargin_reg _ _ _ _ _ ha.1]

/-- A second low margin in a row. -/
theorem measurement_low (s : State) (l : Nat) (v : BitVec 8) (h : BitVec 6) (x : BitVec 8) :
    s.md.clocked = true →
  s.laneActive l = true → s.on (Reg.LN_CTL l) Fld.LN_CTL.MON_EN = true → (s.laneSt l).hostRun = false →
  s.marginsOk l v.toNat h.toNat = false → (s.laneSt l).lows = 1 →
  Leaves (whenClocked s fun t => t.measure l v.toNat h.toNat x.toNat) fun u =>
    u.on (Reg.LN_MARGIN l) Fld.LN_MARGIN.LOW = true ∧ u.on (Reg.LN_ERR l) Fld.LN_ERR.MARGIN_LOW = true ∧
    u.hasRaised (srcTile (l / 8) 6) none ∧ (u.laneSt l).lows = 0 := by
  intro hc ha hm hr ho hl
  refine leaves_clocked hc ?_
  have d1 : Reg.LN_MARGIN l ≠ Reg.LN_RETUNE l := by simp only [Reg.LN_MARGIN, Reg.LN_RETUNE]; omega
  have d2 : Reg.LN_MARGIN l ≠ Reg.LN_ERR l := by simp only [Reg.LN_MARGIN, Reg.LN_ERR]; omega
  have d3 : Reg.LN_ERR l ≠ Reg.LN_RETUNE l := by simp only [Reg.LN_ERR, Reg.LN_RETUNE]; omega
  obtain ⟨_, _, _, k4⟩ := showMargin_rd s l v h
  rw [measure_low x.toNat ha hm hr ho hl]
  obtain ⟨m1, m2⟩ := trigger_keeps (((((s.showMargin l v.toNat h.toNat).modLane l fun y => y.measured 2 0).set1 (Reg.LN_ERR l)
    Fld.LN_ERR.MARGIN_LOW).raise (srcTile (l / 8) 6) none).modLane l fun y => { y with lows := 0 }) l 1
  refine ⟨?_, ?_, ?_, ?_⟩
  · rw [on_of_reg (m2 _ d1), on_of_reg (modLane_reg ..), raise_on, set1_eq, on_wr_ne d2, on_of_reg (modLane_reg ..), k4, ho]
    rfl
  · rw [on_of_reg (m2 _ d3), on_of_reg (modLane_reg ..), raise_on, set1_eq, on_wr_one (by decide) (by decide)]
  · exact hasRaised_of_flt (m1.trans (modLane_flt ..)) (hasRaised_raise _ _)
  · rw [trigger_lows, laneSt_modLane, if_pos rfl]

/-- Level L1 ends with a good margin. -/
theorem retuneLevel_ends (s : State) (l : Nat) (v : BitVec 8) (h : BitVec 6) (x : BitVec 8) :
    s.quiet = true → s.md.clocked = true →
  (s.laneSt l).level = 1 → (s.laneSt l).levelHeld = false →
  s.marginsOk l v.toNat h.toNat = true → s.lanePort l = none →
  Answers (whenClocked s fun t => t.retuneLevel l v.toNat h.toNat x.toNat) fun t =>
    (t.laneSt l).level = 0 ∧ t.on (Reg.LN_RETUNE l) Fld.LN_RETUNE.ACTIVE = false ∧
    t.rd (Reg.LN_ADAPT_STAMP l) Fld.LN_ADAPT_STAMP.LOAD = x.toNat ∧
    t.reg (Reg.LN_ADAPT_TIME l) = s.reg Reg.CHIP_TIME ∧
    t.regsBut s [Reg.LN_MARGIN l, Reg.LN_ADAPT_STAMP l, Reg.LN_ADAPT_TIME l, Reg.LN_RETUNE l] := by
  intro hq hc h1 hh ho hp
  refine answers_clocked hc ?_
  have dm : Reg.LN_MARGIN_MIN l ≠ Reg.LN_MARGIN l := by simp only [Reg.LN_MARGIN, Reg.LN_MARGIN_MIN]; omega
  have d1 : Reg.LN_ADAPT_STAMP l ≠ Reg.LN_RETUNE l := by simp only [Reg.LN_ADAPT_STAMP, Reg.LN_RETUNE]; omega
  have d2 : Reg.LN_ADAPT_TIME l ≠ Reg.LN_RETUNE l := by simp only [Reg.LN_ADAPT_TIME, Reg.LN_RETUNE]; omega
  obtain ⟨k1, k2, k3, k4, k5, k6⟩ := stamp_spec (s.showMargin l v.toNat h.toNat) l (s.laneSt l).cause x
  have hfml : (s.showMargin l v.toNat h.toNat).fml = s.fml := by
    unfold State.showMargin
    rw [wrB_fml, set1_fml, wr_fml, wr_fml]
  have hpl : (((s.showMargin l v.toNat h.toNat).stamp' l x.toNat (s.laneSt l).cause).retuned l).portLanesOf l = [] := by
    have e : (((s.showMargin l v.toNat h.toNat).stamp' l x.toNat (s.laneSt l).cause).retuned l).fml = s.fml := by
      rw [State.retuned, set0_fml, modLane_fml, k6, hfml]
    rw [portLanesOf_of_fml e, State.portLanesOf, hp]
  rw [retuneLevel_good x.toNat h1 hh ((marginsOk_of_reg (showMargin_reg _ _ _ _ _ dm) _ _).trans ho)]
  simp only [hpl, startWaiting_none]
  rw [State.retuned, set0_eq]
  refine answers_after hq (calm_wr (calm_modLane (k4 s (showMargin_calm (calm_refl s) _ _ _)) _ _) (LN_RETUNE_not_calm l) _ _)
    fun t h => ⟨?_, ?_, ?_, ?_, fun a ha => ?_⟩
  · rw [laneSt_of_lane h.lane, laneSt_wr, laneSt_modLane, if_pos rfl]
    rfl
  · rw [on_of_reg (reg_of_regs h.regs _), on_wr_zero (by decide)]
  · rw [rd_of_reg (reg_of_regs h.regs _), rd_wr_ne d1, rd_of_reg (modLane_reg ..), k1]
  · rw [reg_of_regs h.regs, reg_wr_ne d2, modLane_reg, k2,
      showMargin_reg _ _ _ _ _ (by simp only [Reg.LN_MARGIN, Reg.CHIP_TIME]; omega)]
  · simp only [List.mem_cons, List.not_mem_nil, or_false, not_or] at ha
    obtain ⟨n1, n2, n3, n4⟩ := ha
    rw [reg_of_regs h.regs, reg_wr_ne n4, modLane_reg, k3 _ n2 n3, showMargin_reg _ _ _ _ _ n1]

/-- Level L1 ends with a low margin while the host waits. -/
theorem retuneLevel_waits (s : State) (l : Nat) (v : BitVec 8) (h : BitVec 6) (x : BitVec 8) :
    s.quiet = true → s.md.clocked = true →
  (s.laneSt l).level = 1 → (s.laneSt l).levelHeld = false → (s.laneSt l).hostWait = true →
  s.marginsOk l v.toNat h.toNat = false → (∀ p, s.lanePort l = some p → p.protocol ≠ .flocet) →
  Answers (whenClocked s fun t => t.retuneLevel l v.toNat h.toNat x.toNat) fun t =>
    (t.laneSt l).level = 1 ∧ (t.laneSt l).hostRun = true ∧ (t.laneSt l).levelHeld = true ∧
    t.regsBut s [Reg.LN_MARGIN l] := by
  intro hq hc h1 hh hw ho hp
  refine answers_clocked hc ?_
  have dm : Reg.LN_MARGIN_MIN l ≠ Reg.LN_MARGIN l := by simp only [Reg.LN_MARGIN, Reg.LN_MARGIN_MIN]; omega
  rw [retuneLevel_held x.toNat h1 hh ((marginsOk_of_reg (showMargin_reg _ _ _ _ _ dm) _ _).trans ho) hp hw]
  refine answers_after hq (calm_modLane (showMargin_calm (calm_refl s) _ _ _) _ _) fun t h => ?_
  have hl : t.laneSt l = { s.laneSt l with hostRun := true, hostWait := false, levelHeld := true } := by
    rw [laneSt_of_lane h.lane, laneSt_modLane, if_pos rfl, showMargin_laneSt]
  refine ⟨by rw [hl]; exact h1, by rw [hl], by rw [hl], fun a ha => ?_⟩
  rw [reg_of_regs h.regs, modLane_reg, showMargin_reg _ _ _ _ _ (by simpa using ha)]

/-- Level L1 ends with a low margin: level L2 starts. -/
theorem retuneLevel_goes_on (s : State) (l : Nat) (v : BitVec 8) (h : BitVec 6) (x : BitVec 8) :
    s.quiet = true → s.md.clocked = true →
  (s.laneSt l).level = 1 → (s.laneSt l).levelHeld = false → (s.laneSt l).hostWait = false →
  s.marginsOk l v.toNat h.toNat = false → (∀ p, s.lanePort l = some p → p.protocol ≠ .flocet) →
  Answers (whenClocked s fun t => t.retuneLevel l v.toNat h.toNat x.toNat) fun t =>
    (t.laneSt l).level = 2 ∧
    t.rd (Reg.LN_RETUNE l) Fld.LN_RETUNE.L2 =
      min (2 ^ Fld.LN_RETUNE.L2.width - 1) (s.rd (Reg.LN_RETUNE l) Fld.LN_RETUNE.L2 + 1) ∧
    t.regsBut s [Reg.LN_MARGIN l, Reg.LN_RETUNE l] := by
  intro hq hc h1 hh hw ho hp
  refine answers_clocked hc ?_
  have dm : Reg.LN_MARGIN_MIN l ≠ Reg.LN_MARGIN l := by simp only [Reg.LN_MARGIN, Reg.LN_MARGIN_MIN]; omega
  have dr : Reg.LN_RETUNE l ≠ Reg.LN_MARGIN l := by simp only [Reg.LN_MARGIN, Reg.LN_RETUNE]; omega
  obtain ⟨k1, k2, k3⟩ := startL2_spec (s.showMargin l v.toNat h.toNat) l
  rw [retuneLevel_second x.toNat h1 hh ((marginsOk_of_reg (showMargin_reg _ _ _ _ _ dm) _ _).trans ho) hp hw]
  refine answers_after hq (startL2_calm (showMargin_calm (calm_refl s) _ _ _) _) fun t h => ⟨?_, ?_, fun a ha => ?_⟩
  · rw [laneSt_of_lane h.lane, k1]
  · rw [rd_of_reg (reg_of_regs h.regs _), k2, rd_of_reg (showMargin_reg _ _ _ _ _ dr)]
  · simp only [List.mem_cons, List.not_mem_nil, or_false, not_or] at ha
    rw [reg_of_regs h.regs, k3 _ ha.2, showMargin_reg _ _ _ _ _ ha.1]

/-- A re-tune by software. -/
theorem retune_written (s : State) (p : AccessPath) (l : Nat) :
    s.quiet = true → s.mayAct p = true → s.md ≠ .drydown → s.md ≠ .quarantine →
  s.laneActive l = true → (s.laneSt l).level = 0 → (s.laneSt l).hostRun = false →
  (∀ k ∈ s.portLanesOf l, k ≠ l → (s.laneSt k).level = 0) →
  Answers (s.written p fun t => t.trigger l 4) fun t =>
    (t.laneSt l).level = 1 ∧ (t.laneSt l).cause = 4 ∧ (t.laneSt l).waiting = none ∧
    t.on (Reg.LN_RETUNE l) Fld.LN_RETUNE.ACTIVE = true ∧
    t.rd (Reg.LN_RETUNE l) Fld.LN_RETUNE.LAST_CAUSE = 4 ∧ t.regsBut s [Reg.LN_RETUNE l] := by
  intro hq hw hd hqu ha hl hr ho
  refine written_answers_of hw fun x => ?_
  obtain ⟨k1, k2, k3, k4⟩ := levelOne_spec (s.withHold x) l 4
  rw [trigger_written (s := s.withHold x) hd hqu ha hl hr ho]
  refine answers_after (s := s.withHold x) hq (levelOne_calm (calm_refl _) _ _) fun t h => ⟨?_, ?_, ?_, ?_, ?_, fun a ha => ?_⟩
  · rw [laneSt_of_lane h.lane, k1]
  · rw [laneSt_of_lane h.lane, k1]
  · rw [laneSt_of_lane h.lane, k1]
  · rw [on_of_reg (reg_of_regs h.regs _), k2]
  · rw [rd_of_reg (reg_of_regs h.regs _), k3]
    rfl
  · rw [reg_of_regs h.regs, k4 _ (by simpa using ha), withHold_reg]

/-- A re-tune by software while the host margins. -/
theorem retune_held (s : State) (p : AccessPath) (l : Nat) :
    s.quiet = true → s.mayAct p = true → s.md ≠ .drydown → s.md ≠ .quarantine →
  s.laneActive l = true → (s.laneSt l).level = 0 → (s.laneSt l).hostRun = true →
  Answers (s.written p fun t => t.trigger l 4) fun t =>
    (t.laneSt l).waiting = some 4 ∧ (t.laneSt l).level = 0 ∧
    t.on (Reg.LN_RETUNE l) Fld.LN_RETUNE.PENDING = true ∧ t.regsBut s [Reg.LN_RETUNE l] := by
  intro hq hw hd hqu ha hl hr
  refine written_answers_of hw fun x => ?_
  rw [trigger_held (s := s.withHold x) hd hqu ha hl hr, set1_eq]
  refine answers_after (s := s.withHold x) hq (calm_wr (calm_modLane (calm_refl _) _ _) (LN_RETUNE_not_calm l) _ _) fun t h => ?_
  have e : t.laneSt l = { s.laneSt l with waiting := some 4 } := by
    rw [laneSt_of_lane h.lane, laneSt_wr, laneSt_modLane, if_pos rfl]
    rfl
  refine ⟨by rw [e], by rw [e]; exact hl, ?_, fun a ha => ?_⟩
  · rw [on_of_reg (reg_of_regs h.regs _), on_wr_one (by decide) (by decide)]
  · rw [reg_of_regs h.regs, reg_wr_ne (by simpa using ha), modLane_reg, withHold_reg]

/-- A re-training of a lane whose link is down. -/
theorem retrain_down (s : State) (p : AccessPath) (l : Nat) (r : PortRec) :
    s.quiet = true → s.mayAct p = true →
  s.lanePort l = some r → r.fabric = true → r.port < 128 → (∀ k ∈ r.lanes, k < 512) → l ∈ r.lanes →
  s.linkState r.port = 0 → s.stage l ∉ [Stage.OFF, Stage.TEST, Stage.STD] →
  Answers (s.written p fun t => t.laneRetrain l) fun t =>
    t.stage l = Stage.WAIT ∧ t.linkState r.port = 0 ∧ (t.laneSt l).level = 0 ∧ (t.laneSt l).identDone = false := by
  intro hq hw hp hf h128 h512 hm hk hs
  refine written_answers_of hw fun x => ?_
  have e : (s.withHold x).laneRetrain l = (s.withHold x).lanesToWait r := by
    have hp' : (s.withHold x).lanePort l = some r := hp
    simp only [State.laneRetrain, hp', State.takeDown, hf, if_true]
  have g := (lanesGone_spec (s.withHold x) r).2
  obtain ⟨b1, b2⟩ := lanesBack_laneSt l r.lanes (s.withHold x) hs (.inl hm)
  rw [e, lanesToWait_down (s := s.withHold x) hk]
  refine answers_after (s := s.withHold x) hq (calm_modLink (lanesGone_calm _ _) _ _) fun t h => ⟨?_, ?_, ?_, ?_⟩
  · rw [stage_of_reg (reg_of_regs h.regs _), stage_of_reg (modLink_reg ..), stage_of_reg (reg_of_regs g _), lanesBack_stage,
      if_pos ⟨hm, hs⟩]
  · rw [State.linkState, rd_of_reg (reg_of_regs h.regs _), rd_of_reg (modLink_reg ..)]
    exact (lanesGone_linkState (s.withHold x) r).trans hk
  · rw [laneSt_of_lane h.lane, laneSt_of_lane (modLink_lane ..), laneSt_of_lane (lanesGone_lane ..), b1]
  · rw [laneSt_of_lane h.lane, laneSt_of_lane (modLink_lane ..), laneSt_of_lane (lanesGone_lane ..), b2]

/-- An inactive lane disabled. -/
theorem disable_inactive (s : State) (p : AccessPath) (l : Nat) :
    s.quiet = true → s.mayAct p = true → s.laneActive l = false →
  s.stage l ≠ Stage.TEST → (∀ r, s.lanePort l = some r → r.port < 128) →
  Answers (s.written p fun t => t.laneDisable l true) fun t =>
    t.on (Reg.LN_CTL l) Fld.LN_CTL.DISABLE = true ∧ t.stage l = Stage.OFF ∧
    (t.laneSt l).level = 0 ∧ t.regsBut s [Reg.LN_CTL l, Reg.LN_STATUS l, Reg.LN_RETUNE l] := by
  intro hq hw ha hs _
  refine written_answers_of hw fun x => ?_
  have d1 : Reg.LN_CTL l ≠ Reg.LN_STATUS l := by simp only [Reg.LN_CTL, Reg.LN_STATUS]; omega
  have d2 : Reg.LN_CTL l ≠ Reg.LN_RETUNE l := by simp only [Reg.LN_CTL, Reg.LN_RETUNE]; omega
  obtain ⟨k1, k2, k3⟩ := toOff_spec ((s.withHold x).wr (Reg.LN_CTL l) Fld.LN_CTL.DISABLE 1) l
  rw [laneDisable_off (s := s.withHold x) ha hs]
  refine answers_after (s := s.withHold x) hq (toOff_calm (calm_wr (calm_refl _) (LN_CTL_not_calm l) _ _) _) fun t h =>
    ⟨?_, ?_, ?_, fun a ha => ?_⟩
  · rw [on_of_reg (reg_of_regs h.regs _), on_of_reg (k3 _ d1 d2), on_wr_one (by decide) (by decide)]
  · rw [stage_of_reg (reg_of_regs h.regs _), k1]
  · rw [laneSt_of_lane h.lane, k2]
    rfl
  · simp only [List.mem_cons, List.not_mem_nil, or_false, not_or] at ha
    rw [reg_of_regs h.regs, k3 _ ha.2.1 ha.2.2, reg_wr_ne ha.1, withHold_reg]

/-- A disabled lane of a fabric port enabled. -/
theorem enable_starts (s : State) (p : AccessPath) (l : Nat) (r : PortRec) :
    s.quiet = true → s.mayAct p = true →
  s.lanePort l = some r → r.fabric = true → s.on (Reg.LN_CTL l) Fld.LN_CTL.DISABLE = true → s.lanesTrain = true →
  Answers (s.written p fun t => t.laneDisable l false) fun t =>
    t.on (Reg.LN_CTL l) Fld.LN_CTL.DISABLE = false ∧ t.stage l = Stage.DETECT ∧
    t.on (Reg.LN_PRBS_STATUS l) Fld.LN_PRBS_STATUS.CHK_LOCK = false := by
  intro hq hw hp hf hd ht
  refine written_answers_of hw fun x => ?_
  have d1 : Reg.LN_CTL l ≠ Reg.LN_STATUS l := by simp only [Reg.LN_CTL, Reg.LN_STATUS]; omega
  have d2 : Reg.LN_CTL l ≠ Reg.LN_TRAIN l := by simp only [Reg.LN_CTL, Reg.LN_TRAIN]; omega
  have d3 : Reg.LN_PRBS_STATUS l ≠ Reg.LN_STATUS l := by simp only [Reg.LN_PRBS_STATUS, Reg.LN_STATUS]; omega
  have d4 : Reg.LN_PRBS_STATUS l ≠ Reg.LN_TRAIN l := by simp only [Reg.LN_PRBS_STATUS, Reg.LN_TRAIN]; omega
  have d5 : Reg.LN_CTL l ≠ Reg.LN_PRBS_CTL l := by simp only [Reg.LN_PRBS_CTL, Reg.LN_CTL]; omega
  have d6 : Reg.LN_CTL l ≠ Reg.LN_PRBS_STATUS l := by simp only [Reg.LN_PRBS_STATUS, Reg.LN_CTL]; omega
  rw [laneDisable_on (s := s.withHold x) hp hf hd ht]
  refine answers_after (s := s.withHold x) hq (toDetect_calm (dropLocks_calm (testEnded_calm (laneShown_calm
    (laneEnabled_calm _ l) r l) l) l) l) fun t h => ⟨?_, ?_, ?_⟩
  · rw [on_of_reg (reg_of_regs h.regs _), on_of_reg (toDetect_reg _ _ _ d1 d2), on_of_reg (dropLocks_reg _ _ _ d1),
      on_of_reg (testEnded_reg _ _ _ d1 d5 d6), State.laneShown, wrB_eq, on_wr_ne d1, on_wr_ne d1, on_wr_ne d1, State.laneEnabled,
      set0_eq, on_wr_ne d6, on_wr_ne d5, on_wr_zero (by decide)]
  · rw [stage_of_reg (reg_of_regs h.regs _), toDetect_stage]
  · rw [on_of_reg (reg_of_regs h.regs _), on_of_reg (toDetect_reg _ _ _ d3 d4), on_of_reg (dropLocks_reg _ _ _ d3)]
    refine testEnded_lock ?_
    rw [State.laneShown, wrB_eq, on_wr_ne d3, on_wr_ne d3, on_wr_ne d3, State.laneEnabled, set0_eq, on_wr_zero (by decide)]

/-- Margining by the host starts, or waits for the level. -/
theorem hostMargining_starts (s : State) (l : Nat) (p : PortRec) :
    s.quiet = true → s.md.clocked = true → s.lanePort l = some p →
  p.fabric = false → s.laneActive l = true →
  Answers (whenClocked s fun t => t.hostMargin l) fun t =>
    ((s.laneSt l).level = 0 → (t.laneSt l).hostRun = true) ∧
    ((s.laneSt l).level ≠ 0 → (t.laneSt l).hostWait = true) ∧ t.regsBut s [] := by
  intro hq hc hp hf ha
  refine answers_clocked hc ?_
  rw [hostMargin_runs hp hf ha]
  by_cases hl : (s.laneSt l).level = 0
  · rw [if_neg (not_not.mpr hl)]
    refine answers_after hq (calm_modLane (calm_refl s) _ _) fun t h => ⟨fun _ => ?_, fun k => absurd hl k, fun a _ => ?_⟩
    · rw [laneSt_of_lane h.lane, laneSt_modLane, if_pos rfl]
    · rw [reg_of_regs h.regs, modLane_reg]
  · rw [if_pos hl]
    refine answers_after hq (calm_modLane (calm_refl s) _ _) fun t h => ⟨fun k => absurd k hl, fun _ => ?_, fun a _ => ?_⟩
    · rw [laneSt_of_lane h.lane, laneSt_modLane, if_pos rfl]
    · rw [reg_of_regs h.regs, modLane_reg]

/-- Margining by the host ends. -/
theorem hostMargining_ends (s : State) (l : Nat) :
    s.quiet = true → s.md.clocked = true → s.lanePort l = none →
  (s.laneSt l).levelHeld = false →
  Answers (whenClocked s fun t => t.hostMarginEnd l) fun t =>
    (t.laneSt l).hostRun = false ∧ (t.laneSt l).hostWait = false ∧ t.regsBut s [] := by
  intro hq hc hp hh
  refine answers_clocked hc ?_
  have e : s.hostMarginEnd l = s.modLane l fun x => { x with hostRun := false, hostWait := false } := by
    unfold State.hostMarginEnd
    simp only [hh, Bool.false_eq_true, if_false, State.portLanesOf, hp, startWaiting_none]
  rw [e]
  refine answers_after hq (calm_modLane (calm_refl s) _ _) fun t h => ⟨?_, ?_, fun a _ => ?_⟩
  · rw [laneSt_of_lane h.lane, laneSt_modLane, if_pos rfl]
  · rw [laneSt_of_lane h.lane, laneSt_modLane, if_pos rfl]
  · rw [reg_of_regs h.regs, modLane_reg]

/-- Margining by the host ends while level L2 is held. -/
theorem hostMargining_resumes (s : State) (l : Nat) :
    s.quiet = true → s.md.clocked = true → (s.laneSt l).levelHeld = true →
  Answers (whenClocked s fun t => t.hostMarginEnd l) fun t =>
    (t.laneSt l).level = 2 ∧ (t.laneSt l).levelHeld = false ∧ (t.laneSt l).hostRun = false ∧
    t.regsBut s [Reg.LN_RETUNE l] := by
  intro hq hc hh
  refine answers_clocked hc ?_
  have e : s.hostMarginEnd l = (s.modLane l fun x => { x with hostRun := false, hostWait := false }).startL2 l := by
    unfold State.hostMarginEnd
    simp only [hh, if_true]
  obtain ⟨k1, _, k3⟩ := startL2_spec (s.modLane l fun x => { x with hostRun := false, hostWait := false }) l
  rw [e]
  refine answers_after hq (startL2_calm (calm_modLane (calm_refl s) _ _) _) fun t h => ⟨?_, ?_, ?_, fun a ha => ?_⟩
  · rw [laneSt_of_lane h.lane, k1]
  · rw [laneSt_of_lane h.lane, k1]
  · rw [laneSt_of_lane h.lane, k1, laneSt_modLane, if_pos rfl]
  · rw [reg_of_regs h.regs, k3 _ (by simpa using ha), modLane_reg]

/-- Settles O25: each act on a lane by what it shows and what it leaves. -/
theorem laneService : Obligations.LaneService := by
  unfold Obligations.LaneService
  refine ⟨?_, ?_, ?_, ?_, ?_, ?_, ?_, ?_, ?_, ?_, ?_, ?_, ?_, ?_, ?_, ?_⟩
  · exact fun s l => laneFailure_alone s l.val
  · exact fun s l p => laneFailure_down s l.val p
  · exact fun s l v h x => measurement_good s l.val v h x
  · exact fun s l v h x => measurement_load s l.val v h x
  · exact fun s l v h x => measurement_low s l.val v h x
  · exact fun s l v h x => retuneLevel_ends s l.val v h x
  · exact fun s l v h x => retuneLevel_waits s l.val v h x
  · exact fun s l v h x => retuneLevel_goes_on s l.val v h x
  · exact fun s p l => retune_written s p l.val
  · exact fun s p l => retune_held s p l.val
  · exact fun s p l r => retrain_down s p l.val r
  · exact fun s p l => disable_inactive s p l.val
  · exact fun s p l r => enable_starts s p l.val r
  · exact fun s l p => hostMargining_starts s l.val p
  · exact fun s l => hostMargining_ends s l.val
  · exact fun s l => hostMargining_resumes s l.val

end Sys2Proof.Machine
end

section
/-!
Bus supervision (R344 to R346): the readings of the bus, warnings, dips, BELOW_RESET and PWRFAIL_N.
-/
namespace Sys2Proof.Machine

/-! ### A command that leaves no warning that did not stand -/

/-- What keeps a state quiet, where PC_SUPV_STATUS is written but no warning begins to stand. -/
theorem quiet_unwarned {s u : State} (h : s.quiet = true) (h1 : u.flt.raised = s.flt.raised) (h2 : u.mirrorOut = s.mirrorOut)
    (h3 : u.gpf = s.gpf) (h5 : u.acd = s.acd) (h6 : u.core.tags = s.core.tags) (r1 : u.md = s.md)
    (r2 : u.warningStands = true → s.warningStands = true)
    (r3 : u.reg Reg.MG_FML_STATUS = s.reg Reg.MG_FML_STATUS) : u.quiet = true := by
  unfold State.quiet State.recomposePhase at *
  rw [engineRests_keep h5 h6, h1, h2, h3, r1, rd_of_reg r3]
  cases hu : u.warningStands with
  | false => simp_all
  | true => rw [r2 hu] at h; exact h

/-- The same of a command that changes nothing but registers. -/
theorem rest_quiet {s u : State} (h : s.quiet = true) (hr : u.rest = s.rest) (r1 : u.reg Reg.CHIP_MODE = s.reg Reg.CHIP_MODE)
    (r2 : u.warningStands = true → s.warningStands = true)
    (r3 : u.reg Reg.MG_FML_STATUS = s.reg Reg.MG_FML_STATUS) : u.quiet = true := by
  have e := eq_of_rest hr
  refine quiet_unwarned h ?_ ?_ ?_ ?_ ?_ (md_of_reg r1) r2 r3
  all_goals rw [e]

theorem rest_pwr {t s : State} (h : t.rest = s.rest) : t.pwr = s.pwr := by
  have e := congrArg State.pwr h
  exact e

/-- What the end of a command makes of a quiet state. -/
theorem answers_after_quiet {u : State} {P : State → Prop} (h : u.quiet = true)
    (hP : ∀ t : State, t.after u → t.pins = u.pins → P t) : Answers (done u) P :=
  answers_of_quiet h fun _ _ _ => hP _ ⟨rfl, rfl, rfl, rfl, fun _ ho => List.mem_append_right _ ho⟩ rfl

/-! ### The readings of the bus -/

/-- The readings of the bus without the end of BELOW_RESET. -/
def State.busRead (s : State) (m : BusMeas) : State :=
  (((s.wr Reg.PC_BUS Fld.PC_BUS.VBUS_MV m.vbus).wr Reg.PC_BUS Fld.PC_BUS.FEED_A_MV m.feedA).wr Reg.PC_BUS
    Fld.PC_BUS.FEED_B_MV m.feedB).wr Reg.PC_BUS Fld.PC_BUS.VAUX_MV m.vaux

theorem showBus_eq (s : State) (m : BusMeas) : s.showBus m =
    (if s.rd Reg.PC_SUPV Fld.PC_SUPV.RESET_MV + 100 ≤ m.vbus then
      s.set0 Reg.PC_SUPV_STATUS Fld.PC_SUPV_STATUS.BELOW_RESET else s).busRead m := rfl

theorem busRead_rest (s : State) (m : BusMeas) : (s.busRead m).rest = s.rest := by
  rw [State.busRead, wr_rest, wr_rest, wr_rest, wr_rest]

theorem busRead_reg (s : State) (m : BusMeas) (a : Nat) (h : a ≠ Reg.PC_BUS) : (s.busRead m).reg a = s.reg a := by
  rw [State.busRead, reg_wr_ne h, reg_wr_ne h, reg_wr_ne h, reg_wr_ne h]

theorem showBus_rest (s : State) (m : BusMeas) : (s.showBus m).rest = s.rest := by
  rw [showBus_eq, busRead_rest]
  split
  · rw [set0_eq, wr_rest]
  · rfl

theorem showBus_reg (s : State) (m : BusMeas) (a : Nat) (h : a ≠ Reg.PC_BUS) (h2 : a ≠ Reg.PC_SUPV_STATUS) :
    (s.showBus m).reg a = s.reg a := by
  rw [showBus_eq, busRead_reg _ _ _ h]
  split
  · rw [set0_eq, reg_wr_ne h2]
  · rfl

/-- Of PC_SUPV_STATUS the readings change BELOW_RESET alone. -/
theorem showBus_on (s : State) (m : BusMeas) {f : Fld} (hf : Fld.PC_SUPV_STATUS.BELOW_RESET.apart f = true) :
    (s.showBus m).on Reg.PC_SUPV_STATUS f = s.on Reg.PC_SUPV_STATUS f := by
  rw [showBus_eq, on_of_reg (busRead_reg _ _ _ (by decide))]
  split
  · rw [set0_eq, on_wr_other _ _ _ _ _ _ (by decide) (.inr hf)]
  · rfl

/-- BELOW_RESET ends where the bus is back (R344). -/
theorem showBus_below {s : State} {m : BusMeas} (h : s.rd Reg.PC_SUPV Fld.PC_SUPV.RESET_MV + 100 ≤ m.vbus) :
    (s.showBus m).on Reg.PC_SUPV_STATUS Fld.PC_SUPV_STATUS.BELOW_RESET = false := by
  rw [showBus_eq, on_of_reg (busRead_reg _ _ _ (by decide)), if_pos h, set0_eq, on_wr_zero (by decide)]

theorem showBus_shows (s : State) (m : BusMeas) : (s.showBus m).showsBus m := by
  rw [showBus_eq, State.busRead]
  refine ⟨?_, ?_, ?_, ?_⟩ <;>
    simp +decide only [rd_wr_eq, if_true, reg_wr, getFld_setFld_same, getFld_setFld_other] <;> rfl

theorem showsBus_of_reg {t u : State} {m : BusMeas} (h : t.reg Reg.PC_BUS = u.reg Reg.PC_BUS) (hu : u.showsBus m) : t.showsBus m := by
  simpa only [State.showsBus, rd_of_reg h] using hu

theorem showBus_warning (s : State) (m : BusMeas) : (s.showBus m).warningStands = s.warningStands := by
  have e : (s.showBus m).pwr = s.pwr := rest_pwr (showBus_rest s m)
  rw [State.warningStands, State.warningStands, showBus_on _ _ (by decide), showBus_on _ _ (by decide), e]

/-! ### Warnings -/

/-- A warning is on record. -/
def State.warnedNow (s : State) : State := { s with pwr := { s.pwr with warned := true } }

theorem warnedNow_reg (s : State) (a : Nat) : s.warnedNow.reg a = s.reg a := rfl

/-- No warning is on record. -/
def State.unwarned (s : State) : State := { s with pwr := { s.pwr with warned := false } }

theorem warning_serving {s : State} (h : s.md.serving = true) : s.warning = s.warnedNow := by
  unfold State.warning
  cases hm : s.md <;> simp only [hm, Mode.serving, Bool.false_eq_true] at h ⊢ <;> rfl

theorem warning_ignored {s : State} (h : s.md ∈ [Mode.boot, .compose, .revive, .linktest, .frozen]) :
    s.warning = (s.warnedNow.set1 Reg.PC_EVENTS Fld.PC_EVENTS.WARN_IGNORED).raise Src.PC_WARN_IGNORED none := by
  unfold State.warning
  simp only [List.mem_cons, List.not_mem_nil, or_false] at h
  rcases h with h | h | h | h | h <;> rw [h] <;> rfl

theorem rideEnds_riding {s : State} (h : s.on Reg.PC_SUPV_STATUS Fld.PC_SUPV_STATUS.RIDING = true) :
    s.rideEnds = (s.set0 Reg.PC_SUPV_STATUS Fld.PC_SUPV_STATUS.RIDING).warning := if_pos h

theorem rideEnds_none {s : State} (h : s.on Reg.PC_SUPV_STATUS Fld.PC_SUPV_STATUS.RIDING = false) : s.rideEnds = s :=
  if_neg (by rw [h]; decide)

/-- A ride-through that ends in a mode that serves. -/
theorem rideEnds_serving {s : State} (hm : s.md.serving = true) (h : s.on Reg.PC_SUPV_STATUS Fld.PC_SUPV_STATUS.RIDING = true) :
    s.rideEnds = (s.wr Reg.PC_SUPV_STATUS Fld.PC_SUPV_STATUS.RIDING 0).warnedNow := by
  rw [rideEnds_riding h, set0_eq, warning_serving]
  rw [md_of_reg (reg_wr_ne (by decide) _ _ _)]
  exact hm

theorem warnedNow_stands {s : State} (h : s.on Reg.PC_SUPV_STATUS Fld.PC_SUPV_STATUS.WARN = true) :
    s.warnedNow.warningStands = true := by
  have e : s.warnedNow.on Reg.PC_SUPV_STATUS Fld.PC_SUPV_STATUS.WARN = true := h
  rw [State.warningStands, e]
  rfl

/-- An episode as it begins. -/
def State.episode (s : State) (m : BusMeas) : State :=
  ((((s.unwarned.showBus m).wr Reg.PC_SUPV_STATUS Fld.PC_SUPV_STATUS.WARN 1).wr Reg.PC_SUPV_STATUS Fld.PC_SUPV_STATUS.RIDING
    1).wr Reg.PC_DIP Fld.PC_DIP.MIN_MV (min m.vbus 65535)).wr Reg.PC_DIP Fld.PC_DIP.LEN_US 0

theorem busWarn_begins {s : State} (m : BusMeas) (hc : s.companionOn = true)
    (hw : s.on Reg.PC_SUPV_STATUS Fld.PC_SUPV_STATUS.WARN = false) : s.busWarn m =
      if (s.episode m).rd Reg.PC_SUPV Fld.PC_SUPV.RIDE_US = 0 then (s.episode m).rideEnds else s.episode m := by
  unfold State.busWarn
  simp only [hc, hw, Bool.not_true, Bool.false_eq_true, or_self, if_false, set1_eq]
  rfl

theorem episode_reg (s : State) (m : BusMeas) (a : Nat) (h1 : a ≠ Reg.PC_BUS) (h2 : a ≠ Reg.PC_SUPV_STATUS) (h3 : a ≠ Reg.PC_DIP) :
    (s.episode m).reg a = s.reg a := by
  rw [State.episode, reg_wr_ne h3, reg_wr_ne h3, reg_wr_ne h2, reg_wr_ne h2, showBus_reg _ _ _ h1 h2]
  rfl

theorem episode_spec (s : State) (m : BusMeas) :
    (s.episode m).on Reg.PC_SUPV_STATUS Fld.PC_SUPV_STATUS.WARN = true ∧
      (s.episode m).on Reg.PC_SUPV_STATUS Fld.PC_SUPV_STATUS.RIDING = true ∧
      (s.episode m).rd Reg.PC_DIP Fld.PC_DIP.MIN_MV = min m.vbus 65535 ∧
      (s.episode m).rd Reg.PC_DIP Fld.PC_DIP.LEN_US = 0 ∧ (s.episode m).pwr.warned = false ∧ (s.episode m).showsBus m := by
  unfold State.episode
  refine ⟨?_, ?_, ?_, ?_, ?_, ?_⟩
  · rw [on_wr_ne (by decide), on_wr_ne (by decide), on_wr_other _ _ _ _ _ _ (by decide) (.inr (by decide)),
      on_wr_one (by decide) (by decide)]
  · rw [on_wr_ne (by decide), on_wr_ne (by decide), on_wr_one (by decide) (by decide)]
  · rw [rd_wr_other _ _ _ _ _ _ (by decide) (.inr (by decide)), rd_wr _ _ _ _ (by decide)]
    exact Nat.mod_eq_of_lt (Nat.lt_succ_of_le (Nat.min_le_right ..))
  · rw [rd_wr _ _ _ _ (by decide), Nat.zero_mod]
  · rw [wr_pwr, wr_pwr, wr_pwr, wr_pwr, rest_pwr (showBus_rest _ m)]
    rfl
  · refine showsBus_of_reg ?_ (showBus_shows s.unwarned m)
    rw [reg_wr_ne (by decide), reg_wr_ne (by decide), reg_wr_ne (by decide), reg_wr_ne (by decide)]

/-- The end of an episode, without a dip. -/
def State.episodeOver (s : State) (m : BusMeas) (a b : Nat) : State :=
  ((((s.unwarned.showBus m).wr Reg.PC_SUPV_STATUS Fld.PC_SUPV_STATUS.WARN 0).wr Reg.PC_SUPV_STATUS Fld.PC_SUPV_STATUS.RIDING
    0).wr Reg.PC_DIP Fld.PC_DIP.MIN_MV (min a 65535)).wr Reg.PC_DIP Fld.PC_DIP.LEN_US (min b 65535)

section
variable {s : State} (m : BusMeas) (a b : Nat) (hc : s.companionOn = true)
  (hw : s.on Reg.PC_SUPV_STATUS Fld.PC_SUPV_STATUS.WARN = true)

include hc hw

theorem busWarnClear_rides (hr : s.on Reg.PC_SUPV_STATUS Fld.PC_SUPV_STATUS.RIDING = true) (hm : s.md = .serve) :
    s.busWarnClear m a b = (((s.episodeOver m a b).inc Reg.PC_DIP Fld.PC_DIP.COUNT).wr Reg.PC_EVENTS Fld.PC_EVENTS.DIP 1).raise
      Src.PC_DIP none := by
  unfold State.busWarnClear
  simp +decide only [hc, hw, hr, hm, Bool.not_true, Bool.false_eq_true, or_self, if_false, set1_eq, set0_eq, Mode.dips,
    Bool.and_self]
  rfl

theorem busWarnClear_over (hr : s.on Reg.PC_SUPV_STATUS Fld.PC_SUPV_STATUS.RIDING = false) :
    s.busWarnClear m a b = s.episodeOver m a b := by
  unfold State.busWarnClear
  simp only [hc, hw, hr, Bool.not_true, Bool.false_eq_true, or_self, if_false, set0_eq, Bool.false_and, Bool.not_false, if_true]
  rfl

end

theorem episodeOver_reg (s : State) (m : BusMeas) (a b k : Nat) (h1 : k ≠ Reg.PC_BUS) (h2 : k ≠ Reg.PC_SUPV_STATUS)
    (h3 : k ≠ Reg.PC_DIP) : (s.episodeOver m a b).reg k = s.reg k := by
  rw [State.episodeOver, reg_wr_ne h3, reg_wr_ne h3, reg_wr_ne h2, reg_wr_ne h2, showBus_reg _ _ _ h1 h2]
  rfl

theorem episodeOver_spec (s : State) (m : BusMeas) (a b : Nat) :
    (s.episodeOver m a b).on Reg.PC_SUPV_STATUS Fld.PC_SUPV_STATUS.WARN = false ∧
      (s.episodeOver m a b).on Reg.PC_SUPV_STATUS Fld.PC_SUPV_STATUS.RIDING = false ∧
      (s.episodeOver m a b).rd Reg.PC_DIP Fld.PC_DIP.MIN_MV = min a 65535 ∧
      (s.episodeOver m a b).rd Reg.PC_DIP Fld.PC_DIP.LEN_US = min b 65535 ∧
      (s.episodeOver m a b).rd Reg.PC_DIP Fld.PC_DIP.COUNT = s.rd Reg.PC_DIP Fld.PC_DIP.COUNT := by
  unfold State.episodeOver
  refine ⟨?_, ?_, ?_, ?_, ?_⟩
  · rw [on_wr_ne (by decide), on_wr_ne (by decide), on_wr_other _ _ _ _ _ _ (by decide) (.inr (by decide)), on_wr_zero (by decide)]
  · rw [on_wr_ne (by decide), on_wr_ne (by decide), on_wr_zero (by decide)]
  · rw [rd_wr_other _ _ _ _ _ _ (by decide) (.inr (by decide)), rd_wr _ _ _ _ (by decide)]
    exact Nat.mod_eq_of_lt (Nat.lt_succ_of_le (Nat.min_le_right ..))
  · rw [rd_wr _ _ _ _ (by decide)]
    exact Nat.mod_eq_of_lt (Nat.lt_succ_of_le (Nat.min_le_right ..))
  · rw [rd_wr_other _ _ _ _ _ _ (by decide) (.inr (by decide)), rd_wr_other _ _ _ _ _ _ (by decide) (.inr (by decide)),
      rd_wr_ne (by decide), rd_wr_ne (by decide)]
    exact rd_of_reg (showBus_reg s.unwarned m _ (by decide) (by decide)) _

/-! ### BELOW_RESET and PWRFAIL_N -/

/-- A state that the bus holds in RESET. -/
def State.held (s : State) : State := { s with mode := { s.mode with busHold := true } }

theorem held_entered {t s : State} {m : Mode} {c : Nat} (h : t.entered s m c) : t.held.entered s m c ∧ t.held.mode.busHold = true :=
  ⟨h, rfl⟩

theorem belowReset_low {s : State} (m : BusMeas) (hc : s.companionOn = true)
    (hb : s.on Reg.PC_SUPV_STATUS Fld.PC_SUPV_STATUS.BELOW_RESET = false)
    (hr : s.on Reg.PC_SUPV_STATUS Fld.PC_SUPV_STATUS.RIDING = false) : s.belowReset m =
      (let s1 := (s.showBus m).set1 Reg.PC_SUPV_STATUS Fld.PC_SUPV_STATUS.BELOW_RESET
       if s.md.busResets then
         ((s1.set1 Reg.PC_EVENTS Fld.PC_EVENTS.BUS_RESET).intoReset 0x01).held
       else if s.md = .drydown ∨ s.md = .frozen then s1.set1 Reg.PC_EVENTS Fld.PC_EVENTS.BUS_RESET
       else s1) := by
  have h : ((s.showBus m).set1 Reg.PC_SUPV_STATUS Fld.PC_SUPV_STATUS.BELOW_RESET).on Reg.PC_SUPV_STATUS Fld.PC_SUPV_STATUS.RIDING =
      false := by rw [set1_eq, on_wr_other _ _ _ _ _ _ (by decide) (.inr (by decide)), showBus_on _ _ (by decide), hr]
  unfold State.belowReset
  simp only [hc, hb, Bool.not_true, Bool.false_eq_true, or_self, if_false, rideEnds_none h]
  rfl

/-- The bus is back: BELOW_RESET ends. -/
def State.busOver (s : State) (m : BusMeas) : State := (s.showBus m).set0 Reg.PC_SUPV_STATUS Fld.PC_SUPV_STATUS.BELOW_RESET

/-- The bus no longer holds RESET. -/
def State.unheld (s : State) : State := { s with mode := { s.mode with busHold := false } }

theorem unheld_reg (s : State) (a : Nat) : s.unheld.reg a = s.reg a := rfl
theorem unheld_vauxWait (s : State) : s.unheld.mode.vauxWait = s.mode.vauxWait := rfl
theorem unheld_pins (s : State) : s.unheld.pins = s.pins := rfl

theorem busBack_on {s : State} (m : BusMeas) (hc : s.companionOn = true) : s.busBack m =
    if !s.mode.busHold then s.busOver m
    else if (s.busOver m).unheld.md = .reset ∧ (s.busOver m).unheld.pins.pwronResetN ∧ !(s.busOver m).unheld.mode.vauxWait then
      (s.busOver m).unheld.leaveReset else (s.busOver m).unheld := by
  unfold State.busBack
  simp only [hc, Bool.not_true, Bool.false_eq_true, if_false]
  rfl

theorem busOver_spec (s : State) (m : BusMeas) :
    (∀ a, a ≠ Reg.PC_BUS → a ≠ Reg.PC_SUPV_STATUS → (s.busOver m).reg a = s.reg a) ∧ (s.busOver m).rest = s.rest ∧
      (s.busOver m).warningStands = s.warningStands ∧
      (s.busOver m).on Reg.PC_SUPV_STATUS Fld.PC_SUPV_STATUS.BELOW_RESET = false ∧ (s.busOver m).showsBus m := by
  unfold State.busOver
  rw [set0_eq]
  refine ⟨fun a h h' => ?_, (wr_rest ..).trans (showBus_rest s m), ?_, on_wr_zero (by decide) _ _,
    showsBus_of_reg (reg_wr_ne (by decide) _ _ _) (showBus_shows s m)⟩
  · rw [reg_wr_ne h', showBus_reg _ _ _ h h']
  · rw [← showBus_warning s m, State.warningStands, State.warningStands, on_wr_other _ _ _ _ _ _ (by decide) (.inr (by decide)),
      on_wr_other _ _ _ _ _ _ (by decide) (.inr (by decide)), wr_pwr]

/-- PWRFAIL_N driven, before it is shown. -/
def State.pwrfailPin (s : State) (low : Bool) : State := { s with pins := { s.pins with pwrfailN := !low } }

theorem pwrfailPin_rest {s : State} {b : Bool} : (s.pwrfailPin b).flt = s.flt ∧ (s.pwrfailPin b).mirrorOut = s.mirrorOut ∧
    (s.pwrfailPin b).gpf = s.gpf ∧ (s.pwrfailPin b).acd = s.acd ∧ (s.pwrfailPin b).core = s.core := ⟨rfl, rfl, rfl, rfl, rfl⟩

theorem pwrfailPin_reg (s : State) (b : Bool) (a : Nat) : (s.pwrfailPin b).reg a = s.reg a := rfl
theorem pwrfailPin_pins (s : State) (b : Bool) : (s.pwrfailPin b).pins.pwrfailN = !b := rfl

theorem warningStands_pwrfail {s : State} (h : s.on Reg.PC_SUPV_STATUS Fld.PC_SUPV_STATUS.PWRFAIL = true) :
    s.warningStands = true := by
  rw [State.warningStands, h, Bool.or_true]

/-- A dip of the bus: the ride-through begins. -/
theorem busWarnSet_rides (s : State) (m : BusMeas) :
    s.companionOn = true → s.on Reg.PC_SUPV_STATUS Fld.PC_SUPV_STATUS.WARN = false →
  s.rd Reg.PC_SUPV Fld.PC_SUPV.RIDE_US ≠ 0 →
  Leaves (exec (.busWarnSet m) s) fun u =>
    u.on Reg.PC_SUPV_STATUS Fld.PC_SUPV_STATUS.WARN = true ∧ u.on Reg.PC_SUPV_STATUS Fld.PC_SUPV_STATUS.RIDING = true ∧
    u.rd Reg.PC_DIP Fld.PC_DIP.MIN_MV = min m.vbus 65535 ∧ u.rd Reg.PC_DIP Fld.PC_DIP.LEN_US = 0 ∧
    u.pwr.warned = false ∧ u.showsBus m ∧ u.regsBut s [Reg.PC_BUS, Reg.PC_SUPV_STATUS, Reg.PC_DIP] := by
  intro hc hw hr
  change Leaves (done (s.busWarn m)) _
  refine ⟨_, rfl, ?_⟩
  have he : (s.episode m).rd Reg.PC_SUPV Fld.PC_SUPV.RIDE_US = s.rd Reg.PC_SUPV Fld.PC_SUPV.RIDE_US :=
    rd_of_reg (episode_reg s m _ (by decide) (by decide) (by decide)) _
  rw [busWarn_begins m hc hw, he, if_neg hr]
  obtain ⟨k1, k2, k3, k4, k5, k6⟩ := episode_spec s m
  refine ⟨k1, k2, k3, k4, k5, k6, fun a ha => ?_⟩
  simp only [List.mem_cons, List.not_mem_nil, or_false, not_or] at ha
  exact episode_reg s m a ha.1 ha.2.1 ha.2.2

/-- Without a ride-through a warning stands at once. -/
theorem busWarnSet_warns (s : State) (m : BusMeas) :
    s.md.serving = true → s.companionOn = true →
  s.on Reg.PC_SUPV_STATUS Fld.PC_SUPV_STATUS.WARN = false → s.rd Reg.PC_SUPV Fld.PC_SUPV.RIDE_US = 0 →
  Leaves (exec (.busWarnSet m) s) fun u => u.warningStands = true ∧ u.md = s.md := by
  intro hm hc hw hr
  change Leaves (done (s.busWarn m)) _
  refine ⟨_, rfl, ?_⟩
  have he : (s.episode m).rd Reg.PC_SUPV Fld.PC_SUPV.RIDE_US = s.rd Reg.PC_SUPV Fld.PC_SUPV.RIDE_US :=
    rd_of_reg (episode_reg s m _ (by decide) (by decide) (by decide)) _
  have hmd : (s.episode m).md = s.md := md_of_reg (episode_reg s m _ (by decide) (by decide) (by decide))
  obtain ⟨k1, k2, _⟩ := episode_spec s m
  rw [busWarn_begins m hc hw, he, if_pos hr, rideEnds_serving (by rw [hmd]; exact hm) k2]
  refine ⟨warnedNow_stands ?_, ?_⟩
  · rw [on_wr_other _ _ _ _ _ _ (by decide) (.inr (by decide)), k1]
  · rw [md_of_reg (warnedNow_reg ..), md_of_reg (reg_wr_ne (by decide) _ _ _), hmd]

/-- The ride-through ends in a mode that serves. -/
theorem rideThroughExpiry_warns (s : State) :
    s.md.serving = true → s.on Reg.PC_SUPV_STATUS Fld.PC_SUPV_STATUS.WARN = true →
  s.on Reg.PC_SUPV_STATUS Fld.PC_SUPV_STATUS.RIDING = true →
  Leaves (exec .rideThroughExpiry s) fun u =>
    u.warningStands = true ∧ u.on Reg.PC_SUPV_STATUS Fld.PC_SUPV_STATUS.RIDING = false ∧ u.md = s.md ∧
    u.regsBut s [Reg.PC_SUPV_STATUS] := by
  intro hm hw hr
  change Leaves (done s.rideEnds) _
  refine ⟨_, rfl, ?_⟩
  rw [rideEnds_serving hm hr]
  refine ⟨warnedNow_stands ?_, ?_, ?_, fun a ha => ?_⟩
  · rw [on_wr_other _ _ _ _ _ _ (by decide) (.inr (by decide)), hw]
  · rw [on_of_reg (warnedNow_reg ..), on_wr_zero (by decide)]
  · rw [md_of_reg (warnedNow_reg ..), md_of_reg (reg_wr_ne (by decide) _ _ _)]
  · rw [warnedNow_reg, reg_wr_ne (by simpa using ha)]

/-- The ride-through ends in a mode that ignores the warning. -/
theorem rideThroughExpiry_ignored (s : State) :
    s.md ∈ [Mode.boot, .compose, .revive, .linktest, .frozen] →
  s.on Reg.PC_SUPV_STATUS Fld.PC_SUPV_STATUS.RIDING = true →
  Leaves (exec .rideThroughExpiry s) fun u =>
    u.on Reg.PC_EVENTS Fld.PC_EVENTS.WARN_IGNORED = true ∧ u.hasRaised Src.PC_WARN_IGNORED none ∧ u.md = s.md ∧
    u.on Reg.PC_SUPV_STATUS Fld.PC_SUPV_STATUS.RIDING = false ∧ u.regsBut s [Reg.PC_SUPV_STATUS, Reg.PC_EVENTS] := by
  intro hm hr
  change Leaves (done s.rideEnds) _
  refine ⟨_, rfl, ?_⟩
  have hmd : (s.set0 Reg.PC_SUPV_STATUS Fld.PC_SUPV_STATUS.RIDING).md = s.md := by
    rw [set0_eq]
    exact md_of_reg (reg_wr_ne (by decide) _ _ _)
  have hreg : ∀ a, a ≠ Reg.PC_EVENTS → ((s.set0 Reg.PC_SUPV_STATUS Fld.PC_SUPV_STATUS.RIDING).warnedNow.set1 Reg.PC_EVENTS
      Fld.PC_EVENTS.WARN_IGNORED).reg a = (s.set0 Reg.PC_SUPV_STATUS Fld.PC_SUPV_STATUS.RIDING).reg a := fun a ha => by
    rw [set1_eq, reg_wr_ne ha, warnedNow_reg]
  rw [rideEnds_riding hr, warning_ignored (by rw [hmd]; exact hm)]
  refine ⟨?_, hasRaised_raise _ _, ?_, ?_, fun a ha => ?_⟩
  · rw [raise_on, set1_eq, on_wr_one (by decide) (by decide)]
  · rw [md_of_reg (raise_reg ..), md_of_reg (hreg _ (by decide)), hmd]
  · rw [raise_on, on_of_reg (hreg _ (by decide)), set0_eq, on_wr_zero (by decide)]
  · simp only [List.mem_cons, List.not_mem_nil, or_false, not_or] at ha
    rw [raise_reg, hreg a ha.2, set0_eq, reg_wr_ne ha.1]

/-- WARN clears within the ride-through: a dip. -/
theorem busWarnClear_dip (s : State) (m : BusMeas) (a b : Nat) :
    s.companionOn = true → s.on Reg.PC_SUPV_STATUS Fld.PC_SUPV_STATUS.WARN = true →
  s.on Reg.PC_SUPV_STATUS Fld.PC_SUPV_STATUS.RIDING = true → s.md = .serve →
  Leaves (exec (.busWarnClear m a b) s) fun u =>
    u.on Reg.PC_SUPV_STATUS Fld.PC_SUPV_STATUS.WARN = false ∧ u.on Reg.PC_SUPV_STATUS Fld.PC_SUPV_STATUS.RIDING = false ∧
    u.rd Reg.PC_DIP Fld.PC_DIP.MIN_MV = min a 65535 ∧ u.rd Reg.PC_DIP Fld.PC_DIP.LEN_US = min b 65535 ∧
    u.rd Reg.PC_DIP Fld.PC_DIP.COUNT =
      min (2 ^ Fld.PC_DIP.COUNT.width - 1) (s.rd Reg.PC_DIP Fld.PC_DIP.COUNT + 1) ∧
    u.on Reg.PC_EVENTS Fld.PC_EVENTS.DIP = true ∧ u.hasRaised Src.PC_DIP none ∧
    u.regsBut s [Reg.PC_BUS, Reg.PC_SUPV_STATUS, Reg.PC_DIP, Reg.PC_EVENTS] := by
  intro hc hw hr hm
  change Leaves (done (s.busWarnClear m a b)) _
  refine ⟨_, rfl, ?_⟩
  rw [busWarnClear_rides m a b hc hw hr hm]
  obtain ⟨k1, k2, k3, k4, k5⟩ := episodeOver_spec s m a b
  rw [inc_eq, addTo_eq]
  refine ⟨?_, ?_, ?_, ?_, ?_, ?_, hasRaised_raise _ _, fun k hk => ?_⟩
  · rw [raise_on, on_wr_ne (by decide), on_wr_ne (by decide), k1]
  · rw [raise_on, on_wr_ne (by decide), on_wr_ne (by decide), k2]
  · rw [raise_rd, rd_wr_ne (by decide), rd_wr_other _ _ _ _ _ _ (by decide) (.inr (by decide)), k3]
  · rw [raise_rd, rd_wr_ne (by decide), rd_wr_other _ _ _ _ _ _ (by decide) (.inr (by decide)), k4]
  · rw [raise_rd, rd_wr_ne (by decide), ← addTo_eq, rd_addTo _ _ _ _ (by decide), k5]
  · rw [raise_on, on_wr_one (by decide) (by decide)]
  · simp only [List.mem_cons, List.not_mem_nil, or_false, not_or] at hk
    obtain ⟨h1, h2, h3, h4⟩ := hk
    rw [raise_reg, reg_wr_ne h4, reg_wr_ne h3, episodeOver_reg _ _ _ _ _ h1 h2 h3]

/-- WARN clears after the ride-through. -/
theorem busWarnClear_late (s : State) (m : BusMeas) (a b : Nat) :
    s.companionOn = true → s.on Reg.PC_SUPV_STATUS Fld.PC_SUPV_STATUS.WARN = true →
  s.on Reg.PC_SUPV_STATUS Fld.PC_SUPV_STATUS.RIDING = false →
  Leaves (exec (.busWarnClear m a b) s) fun u =>
    u.on Reg.PC_SUPV_STATUS Fld.PC_SUPV_STATUS.WARN = false ∧
    u.rd Reg.PC_DIP Fld.PC_DIP.COUNT = s.rd Reg.PC_DIP Fld.PC_DIP.COUNT ∧
    u.regsBut s [Reg.PC_BUS, Reg.PC_SUPV_STATUS, Reg.PC_DIP] := by
  intro hc hw hr
  change Leaves (done (s.busWarnClear m a b)) _
  refine ⟨_, rfl, ?_⟩
  rw [busWarnClear_over m a b hc hw hr]
  obtain ⟨k1, _, _, _, k5⟩ := episodeOver_spec s m a b
  refine ⟨k1, k5, fun k hk => ?_⟩
  simp only [List.mem_cons, List.not_mem_nil, or_false, not_or] at hk
  exact episodeOver_reg _ _ _ _ _ hk.1 hk.2.1 hk.2.2

/-- BELOW_RESET in a mode that it resets. -/
theorem busBelowReset_resets (s : State) (m : BusMeas) :
    s.companionOn = true → s.md.busResets = true →
  s.on Reg.PC_SUPV_STATUS Fld.PC_SUPV_STATUS.BELOW_RESET = false →
  s.on Reg.PC_SUPV_STATUS Fld.PC_SUPV_STATUS.RIDING = false →
  Leaves (exec (.busBelowReset m) s) fun u => u.entered s .reset 0x01 ∧ u.mode.busHold = true := by
  intro hc hm hb hr
  change Leaves (done (s.belowReset m)) _
  refine ⟨_, rfl, ?_⟩
  rw [belowReset_low m hc hb hr]
  simp only [hm, if_true]
  have hreg : (((s.showBus m).set1 Reg.PC_SUPV_STATUS Fld.PC_SUPV_STATUS.BELOW_RESET).set1 Reg.PC_EVENTS
      Fld.PC_EVENTS.BUS_RESET).reg Reg.CHIP_MODE = s.reg Reg.CHIP_MODE := by
    rw [set1_eq, set1_eq, reg_wr_ne (by decide), reg_wr_ne (by decide), showBus_reg _ _ _ (by decide) (by decide)]
  obtain ⟨he, _⟩ := intoReset_spec (((s.showBus m).set1 Reg.PC_SUPV_STATUS Fld.PC_SUPV_STATUS.BELOW_RESET).set1 Reg.PC_EVENTS
    Fld.PC_EVENTS.BUS_RESET) 0x01 (by decide)
  exact held_entered (entered_of_reg he hreg)

/-- BELOW_RESET in a mode that serves is shown. -/
theorem busBelowReset_serving (s : State) (m : BusMeas) :
    s.quiet = true → s.companionOn = true → s.md.serving = true →
  s.on Reg.PC_SUPV_STATUS Fld.PC_SUPV_STATUS.BELOW_RESET = false →
  s.on Reg.PC_SUPV_STATUS Fld.PC_SUPV_STATUS.RIDING = false →
  Answers (exec (.busBelowReset m) s) fun t =>
    t.md = s.md ∧ t.on Reg.PC_SUPV_STATUS Fld.PC_SUPV_STATUS.BELOW_RESET = true ∧ t.showsBus m ∧
    t.regsBut s [Reg.PC_BUS, Reg.PC_SUPV_STATUS] := by
  intro hq hc hm hb hr
  change Answers (done (s.belowReset m)) _
  have h1 : s.md.busResets = false := by
    cases h : s.md <;> simp only [h, Mode.serving, Bool.false_eq_true] at hm ⊢ <;> rfl
  have h2 : ¬ (s.md = .drydown ∨ s.md = .frozen) := by
    rintro (h | h) <;> rw [h] at hm <;> exact absurd hm (by decide)
  rw [belowReset_low m hc hb hr]
  simp only [h1, Bool.false_eq_true, if_false, if_neg h2]
  rw [set1_eq]
  have hreg : ∀ a, a ≠ Reg.PC_BUS → a ≠ Reg.PC_SUPV_STATUS → ((s.showBus m).wr Reg.PC_SUPV_STATUS
      Fld.PC_SUPV_STATUS.BELOW_RESET 1).reg a = s.reg a := fun a h h' => by rw [reg_wr_ne h', showBus_reg _ _ _ h h']
  have hrest : ((s.showBus m).wr Reg.PC_SUPV_STATUS Fld.PC_SUPV_STATUS.BELOW_RESET 1).rest = s.rest :=
    (wr_rest ..).trans (showBus_rest s m)
  have hw : ((s.showBus m).wr Reg.PC_SUPV_STATUS Fld.PC_SUPV_STATUS.BELOW_RESET 1).warningStands = s.warningStands := by
    rw [← showBus_warning s m, State.warningStands, State.warningStands, on_wr_other _ _ _ _ _ _ (by decide) (.inr (by decide)),
      on_wr_other _ _ _ _ _ _ (by decide) (.inr (by decide)), wr_pwr]
  refine answers_after_quiet (rest_quiet hq hrest (hreg _ (by decide) (by decide)) (fun h => hw ▸ h) (hreg _ (by decide) (by decide)))
    fun t h _ => ⟨?_, ?_, ?_, fun a ha => ?_⟩
  · rw [md_of_reg (reg_of_regs h.regs _), md_of_reg (hreg _ (by decide) (by decide))]
  · rw [on_of_reg (reg_of_regs h.regs _), on_wr_one (by decide) (by decide)]
  · exact showsBus_of_reg ((reg_of_regs h.regs _).trans (reg_wr_ne (by decide) _ _ _)) (showBus_shows s m)
  · simp only [List.mem_cons, List.not_mem_nil, or_false, not_or] at ha
    rw [reg_of_regs h.regs, hreg a ha.1 ha.2]

/-- The bus is back, and no reset waited for it. -/
theorem busResetRecovery_runs (s : State) (m : BusMeas) :
    s.quiet = true → s.companionOn = true → s.mode.busHold = false →
  Answers (exec (.busResetRecovery m) s) fun t =>
    t.on Reg.PC_SUPV_STATUS Fld.PC_SUPV_STATUS.BELOW_RESET = false ∧ t.md = s.md ∧ t.showsBus m ∧
    t.regsBut s [Reg.PC_BUS, Reg.PC_SUPV_STATUS] := by
  intro hq hc hh
  change Answers (done (s.busBack m)) _
  rw [busBack_on m hc]
  simp only [hh, Bool.not_false, if_true]
  obtain ⟨hreg, hrest, hw, hon, hsh⟩ := busOver_spec s m
  refine answers_after_quiet (rest_quiet hq hrest (hreg _ (by decide) (by decide)) (fun h => hw ▸ h) (hreg _ (by decide) (by decide)))
    fun t h _ => ⟨?_, ?_, showsBus_of_reg (reg_of_regs h.regs _) hsh, fun a ha => ?_⟩
  · rw [on_of_reg (reg_of_regs h.regs _), hon]
  · rw [md_of_reg (reg_of_regs h.regs _), md_of_reg (hreg _ (by decide) (by decide))]
  · simp only [List.mem_cons, List.not_mem_nil, or_false, not_or] at ha
    rw [reg_of_regs h.regs, hreg a ha.1 ha.2]

/-- The bus is back, and the reset that waited for it ends. -/
theorem busResetRecovery_boots (s : State) (m : BusMeas) :
    s.companionOn = true → s.mode.busHold = true → s.md = .reset →
  s.pins.pwronResetN = true → s.mode.vauxWait = false → s.on Reg.CHIP_MODE Fld.CHIP_MODE.RETAIN_VALID = false →
  Leaves (exec (.busResetRecovery m) s) fun u => u.entered s .boot 0x02 ∧ u.mode.busHold = false := by
  intro hc hh hm hp hv hr
  change Leaves (done (s.busBack m)) _
  refine ⟨_, rfl, ?_⟩
  obtain ⟨hreg, hrest, _, _, _⟩ := busOver_spec s m
  have hmode : (s.busOver m).mode = s.mode := rest_mode hrest
  have hu : (s.busOver m).unheld.reg Reg.CHIP_MODE = s.reg Reg.CHIP_MODE := by
    rw [unheld_reg, hreg _ (by decide) (by decide)]
  have hcond : (s.busOver m).unheld.md = .reset ∧ (s.busOver m).unheld.pins.pwronResetN = true ∧
      (!(s.busOver m).unheld.mode.vauxWait) = true := by
    refine ⟨(md_of_reg hu).trans hm, ?_, ?_⟩
    · rw [unheld_pins, rest_pins hrest, hp]
    · rw [unheld_vauxWait, hmode, hv]
      rfl
  have hret : (s.busOver m).unheld.on Reg.CHIP_MODE Fld.CHIP_MODE.RETAIN_VALID = false :=
    (on_of_reg hu _).trans hr
  have e : s.busBack m = (s.busOver m).unheld.coldBoot 0x02 := by
    rw [busBack_on m hc, ← leaveReset_cold hret]
    simp only [hh, Bool.not_true, Bool.false_eq_true, if_false]
    exact if_pos hcond
  obtain ⟨he, -, -, -, -, -, hmo, -⟩ := coldBoot_spec (s.busOver m).unheld 0x02 (by decide)
  rw [e]
  exact ⟨entered_of_reg he hu, by rw [hmo]⟩

/-- PWRFAIL_N falls in a mode that serves. -/
theorem pwrfailAssert_warns (s : State) :
    s.companionOn = true → s.md.serving = true →
  Leaves (exec .pwrfailAssert s) fun u =>
    u.on Reg.PC_SUPV_STATUS Fld.PC_SUPV_STATUS.PWRFAIL = true ∧ u.warningStands = true ∧ u.pins.pwrfailN = false ∧
    u.md = s.md ∧ u.regsBut s [Reg.PC_SUPV_STATUS] := by
  intro hc hm
  change Leaves (done (s.pwrfail true)) _
  refine ⟨_, rfl, ?_⟩
  by_cases hon : s.on Reg.PC_SUPV_STATUS Fld.PC_SUPV_STATUS.PWRFAIL = true
  · have e : s.pwrfail true = s.pwrfailPin true := by
      unfold State.pwrfail
      simp only [hc, hon, Bool.not_true, Bool.false_eq_true, if_false, if_true]
      rfl
    have h1 : (s.pwrfailPin true).on Reg.PC_SUPV_STATUS Fld.PC_SUPV_STATUS.PWRFAIL = true := hon
    rw [e]
    exact ⟨h1, warningStands_pwrfail h1, rfl, rfl, fun _ _ => rfl⟩
  · have e : s.pwrfail true = (s.pwrfailPin true).wr Reg.PC_SUPV_STATUS Fld.PC_SUPV_STATUS.PWRFAIL 1 := by
      have hm' : ((s.pwrfailPin true).wr Reg.PC_SUPV_STATUS Fld.PC_SUPV_STATUS.PWRFAIL 1).md.serving = true := by
        rw [md_of_reg (reg_wr_ne (by decide) _ _ _), md_of_reg (pwrfailPin_reg ..)]
        exact hm
      have hw := warning_serving hm'
      unfold State.pwrfail
      simp only [hc, hon, Bool.not_true, Bool.false_eq_true, if_false, if_true, set1_eq]
      exact (congrArg (fun u : State => ({ u with pwr := { u.pwr with warned := s.pwr.warned } } : State)) hw).trans rfl
    have h1 : ((s.pwrfailPin true).wr Reg.PC_SUPV_STATUS Fld.PC_SUPV_STATUS.PWRFAIL 1).on Reg.PC_SUPV_STATUS
      Fld.PC_SUPV_STATUS.PWRFAIL = true := on_wr_one (by decide) (by decide) _ _
    rw [e]
    refine ⟨h1, warningStands_pwrfail h1, ?_, ?_, fun a ha => ?_⟩
    · rw [wr_pins, pwrfailPin_pins]
      rfl
    · rw [md_of_reg (reg_wr_ne (by decide) _ _ _), md_of_reg (pwrfailPin_reg ..)]
    · rw [reg_wr_ne (by simpa using ha), pwrfailPin_reg]

/-- PWRFAIL_N rises. -/
theorem pwrfailClear_ends (s : State) :
    s.quiet = true → s.companionOn = true →
  Answers (exec .pwrfailClear s) fun t =>
    t.on Reg.PC_SUPV_STATUS Fld.PC_SUPV_STATUS.PWRFAIL = false ∧ t.pins.pwrfailN = true ∧ t.md = s.md ∧
    t.regsBut s [Reg.PC_SUPV_STATUS] := by
  intro hq hc
  change Answers (done (s.pwrfail false)) _
  have e : s.pwrfail false = (s.pwrfailPin false).wr Reg.PC_SUPV_STATUS Fld.PC_SUPV_STATUS.PWRFAIL 0 := by
    unfold State.pwrfail
    simp only [hc, Bool.not_true, Bool.false_eq_true, if_false, set0_eq]
    rfl
  have hreg : ∀ a, a ≠ Reg.PC_SUPV_STATUS → ((s.pwrfailPin false).wr Reg.PC_SUPV_STATUS Fld.PC_SUPV_STATUS.PWRFAIL 0).reg a =
      s.reg a := fun a h => by rw [reg_wr_ne h, pwrfailPin_reg]
  have hoff : ((s.pwrfailPin false).wr Reg.PC_SUPV_STATUS Fld.PC_SUPV_STATUS.PWRFAIL 0).on Reg.PC_SUPV_STATUS
    Fld.PC_SUPV_STATUS.PWRFAIL = false := on_wr_zero (by decide) _ _
  have hw : ((s.pwrfailPin false).wr Reg.PC_SUPV_STATUS Fld.PC_SUPV_STATUS.PWRFAIL 0).warningStands = true →
      s.warningStands = true := by
    rw [State.warningStands, hoff, on_wr_other _ _ _ _ _ _ (by decide) (.inr (by decide)), wr_pwr, Bool.or_false]
    intro h
    rw [State.warningStands]
    exact Bool.or_eq_true _ _ ▸ .inl h
  rw [e]
  refine answers_after_quiet (quiet_unwarned hq ?_ ?_ ?_ ?_ ?_ (md_of_reg (hreg _ (by decide))) hw (hreg _ (by decide)))
    fun t h hp => ⟨?_, ?_, ?_, fun a ha => ?_⟩
  · rw [wr_flt, pwrfailPin_rest.1]
  · rw [wr_mirrorOut, pwrfailPin_rest.2.1]
  · rw [wr_gpf, pwrfailPin_rest.2.2.1]
  · rw [wr_acd, pwrfailPin_rest.2.2.2.1]
  · rw [wr_core, pwrfailPin_rest.2.2.2.2]
  · rw [on_of_reg (reg_of_regs h.regs _), hoff]
  · rw [hp, wr_pins, pwrfailPin_pins]
    rfl
  · rw [md_of_reg (reg_of_regs h.regs _), md_of_reg (hreg _ (by decide))]
  · rw [reg_of_regs h.regs, hreg a (by simpa using ha)]

/-- Settles O39: each event of the bus by the equation of its case. -/
theorem busSupervision : Obligations.BusSupervision :=
  ⟨busWarnSet_rides, busWarnSet_warns, rideThroughExpiry_warns, rideThroughExpiry_ignored, busWarnClear_dip, busWarnClear_late, busBelowReset_resets, busBelowReset_serving, busResetRecovery_runs, busResetRecovery_boots, pwrfailAssert_warns, pwrfailClear_ends⟩


end Sys2Proof.Machine
end

section
/-!
Rails, VAUX, the feeds and the charge pump (R340 to R343).
-/
namespace Sys2Proof.Machine

/-! ### Commands of the companion that raise nothing -/

/-- u and s agree on all that the end of a command acts on, but PC_SUPV_STATUS may show more than the warnings. -/
def State.calmBus (u s : State) : Prop :=
  (u.flt.raised = s.flt.raised ∧ u.mirrorOut = s.mirrorOut ∧ u.gpf = s.gpf ∧ u.pwr.warned = s.pwr.warned ∧ u.acd = s.acd ∧
    u.core.tags = s.core.tags) ∧ u.md = s.md ∧ u.warningStands = s.warningStands ∧
    u.reg Reg.MG_FML_STATUS = s.reg Reg.MG_FML_STATUS

theorem calmBus_refl (s : State) : s.calmBus s := ⟨⟨rfl, rfl, rfl, rfl, rfl, rfl⟩, rfl, rfl, rfl⟩

/-- What a companion's command that raises nothing answers. -/
theorem answers_after_bus {s u : State} {P : State → Prop} (hq : s.quiet = true) (h : u.calmBus s)
    (hP : ∀ t : State, t.after u → P t) : Answers (done u) P := by
  obtain ⟨⟨a1, a2, a3, _, a5, a6⟩, a7, a8, a9⟩ := h
  exact answers_after_quiet (quiet_unwarned hq a1 a2 a3 a5 a6 a7 (fun h => a8 ▸ h) a9) fun t h _ => hP t h

theorem warningStands_of_reg {u s : State} (h : u.reg Reg.PC_SUPV_STATUS = s.reg Reg.PC_SUPV_STATUS)
    (hw : u.pwr.warned = s.pwr.warned) : u.warningStands = s.warningStands := by
  simp only [State.warningStands, on_of_reg h, hw]

theorem calmBus_wr {u s : State} (h : u.calmBus s) {a : Nat} (h1 : a ≠ Reg.CHIP_MODE) (h2 : a ≠ Reg.PC_SUPV_STATUS)
    (h3 : a ≠ Reg.MG_FML_STATUS) (f : Fld) (x : Nat) : (u.wr a f x).calmBus s := by
  obtain ⟨⟨a1, a2, a3, a4, a5, a6⟩, a7, a8, a9⟩ := h
  refine ⟨⟨?_, ?_, ?_, ?_, ?_, ?_⟩, ?_, ?_, ?_⟩
  · rw [wr_flt, a1]
  · rw [wr_mirrorOut, a2]
  · rw [wr_gpf, a3]
  · rw [wr_pwr, a4]
  · rw [wr_acd, a5]
  · rw [wr_core, a6]
  · rw [md_of_reg (reg_wr_ne h1.symm _ _ _), a7]
  · rw [warningStands_of_reg (reg_wr_ne h2.symm _ _ _) (by rw [wr_pwr]), a8]
  · rw [reg_wr_ne h3.symm, a9]

theorem calmBus_emit {u s : State} (h : u.calmBus s) (o : Out) : (u.emit o).calmBus s := h

theorem calmBus_showBus (s : State) (m : BusMeas) : (s.showBus m).calmBus s := by
  have e := eq_of_rest (showBus_rest s m)
  refine ⟨⟨?_, ?_, ?_, ?_, ?_, ?_⟩, md_of_reg (showBus_reg _ _ _ (by decide) (by decide)), showBus_warning s m,
    showBus_reg _ _ _ (by decide) (by decide)⟩
  all_goals rw [e]

/-! ### Feeds -/

/-- The fields of a feed are flags that stand apart. -/
theorem feedFlds : ∀ f : FeedIx, (feedPresent f).lo + (feedPresent f).width ≤ 64 ∧ 0 < (feedPresent f).width ∧
    (feedConduct f).lo + (feedConduct f).width ≤ 64 ∧ 0 < (feedConduct f).width ∧
    (feedBlocked f).lo + (feedBlocked f).width ≤ 64 ∧ 0 < (feedBlocked f).width ∧
    (feedLostBit f).lo + (feedLostBit f).width ≤ 64 ∧ 0 < (feedLostBit f).width ∧
    (feedPresent f).apart (feedConduct f) = true ∧ (feedConduct f).apart (feedPresent f) = true ∧
    (feedBlocked f).apart (feedConduct f) = true ∧ (feedConduct f).apart (feedBlocked f) = true ∧
    (feedPresent f).apart (feedBlocked f) = true ∧ (feedPresent f).apart Fld.PC_FEED.PUMP_OK = true ∧
    (feedBlocked f).apart (feedPresent f) = true ∧ (feedBlocked f).apart Fld.PC_FEED.PUMP_OK = true ∧
    (feedConduct f).apart Fld.PC_FEED.PUMP_OK = true ∧ Fld.PC_FEED.PUMP_OK.apart (feedPresent f) = true ∧
    Fld.PC_FEED.PUMP_OK.apart (feedBlocked f) = true := by decide

/-- What the gate of a feed leaves. -/
theorem feedGate_spec (s : State) (f : FeedIx) (b : Bool) :
    (s.feedGate f b).on Reg.PC_FEED (feedConduct f) = b ∧
      (∀ g : Fld, g.lo + g.width ≤ 64 → (feedConduct f).apart g = true → (s.feedGate f b).on Reg.PC_FEED g = s.on Reg.PC_FEED g) ∧
      (∀ a, a ≠ Reg.PC_FEED → (s.feedGate f b).reg a = s.reg a) ∧ (∀ u, s.calmBus u → (s.feedGate f b).calmBus u) ∧
      (s.feedGate f b).pwr = s.pwr := by
  obtain ⟨-, -, h1, h2, -⟩ := feedFlds f
  unfold State.feedGate
  simp only
  split
  next h => exact ⟨h, fun _ _ _ => rfl, fun _ _ => rfl, fun _ h => h, rfl⟩
  next h =>
    rw [wrB_eq]
    refine ⟨?_, fun g hg ha => ?_, fun a ha => ?_, fun u hu => ?_, ?_⟩
    · cases b
      · exact on_wr_zero h1 _ _
      · exact on_wr_one h1 h2 _ _
    · rw [emit_on, on_wr_other _ _ _ _ _ _ h1 (.inr ha)]
    · rw [emit_reg, reg_wr_ne ha]
    · exact calmBus_emit (calmBus_wr hu (by decide) (by decide) (by decide) _ _) _
    · rw [emit_pwr, wr_pwr]

theorem feedTry_may {s : State} {f : FeedIx} (h1 : s.on Reg.PC_FEED (feedPresent f) = true)
    (h2 : s.on Reg.PC_FEED (feedBlocked f) = false) (h3 : s.on Reg.PC_FEED Fld.PC_FEED.PUMP_OK = true) :
    s.feedTry f = s.feedGate f true := if_pos (by rw [h1, h2, h3]; rfl)

theorem feedTry_may_not {s : State} {f : FeedIx}
    (h : s.on Reg.PC_FEED (feedBlocked f) = true ∨ s.on Reg.PC_FEED Fld.PC_FEED.PUMP_OK = false) : s.feedTry f = s := by
  refine if_neg ?_
  rcases h with h | h <;> simp [h]

/-- What a feed that is tried leaves. -/
theorem feedTry_keeps (s : State) (f : FeedIx) :
    (∀ g : Fld, g.lo + g.width ≤ 64 → (feedConduct f).apart g = true → (s.feedTry f).on Reg.PC_FEED g = s.on Reg.PC_FEED g) ∧
      (∀ a, a ≠ Reg.PC_FEED → (s.feedTry f).reg a = s.reg a) ∧ (∀ u, s.calmBus u → (s.feedTry f).calmBus u) ∧
      (s.feedTry f).pwr = s.pwr := by
  unfold State.feedTry
  split
  · exact (feedGate_spec s f true).2
  · exact ⟨fun _ _ _ => rfl, fun _ _ => rfl, fun _ h => h, rfl⟩

/-! ### Slot channels without supply -/

theorem chServe_idle {s : State} {n : Nat} (h : (tabGet s.pwr.ch n {}).onRequested = false) : s.chServe n = s :=
  if_neg (by rw [h]; decide)

theorem chServes_idle {s : State} (h : ∀ n, (tabGet s.pwr.ch n {}).onRequested = false) :
    ∀ l : List Nat, l.foldl (fun t n => t.chServe n) s = s
  | [] => rfl
  | n :: l => by rw [List.foldl_cons, chServe_idle (h n), chServes_idle h l]

theorem modChan_reg (s : State) (n : Nat) (g : ChannelState → ChannelState) (a : Nat) : (s.modChan n g).reg a = s.reg a := rfl
theorem calmBus_modChan {u s : State} (h : u.calmBus s) (n : Nat) (g : ChannelState → ChannelState) : (u.modChan n g).calmBus s := h

theorem ch_of_reg {u s : State} {n : Nat} (h : u.reg (Reg.SPC_STATE n) = s.reg (Reg.SPC_STATE n)) : u.ch n = s.ch n := rd_of_reg h _

theorem chNow_off {s : State} {n : Nat} (h : s.ch n = Ch.OFF) : s.chNow n = s.modChan n fun x => { x with onRequested := false } :=
  if_pos h

/-- Channels that are off stay so, and write no register. -/
theorem chNows_off {u : State} : ∀ (l : List Nat) (s : State), (∀ n ∈ l, s.ch n = Ch.OFF) → s.calmBus u →
    (∀ a, (l.foldl (fun t n => t.chNow n) s).reg a = s.reg a) ∧ (l.foldl (fun t n => t.chNow n) s).calmBus u
  | [], _, _, hc => ⟨fun _ => rfl, hc⟩
  | n :: l, s, h, hc => by
    have e := chNow_off (h n (List.mem_cons_self ..))
    obtain ⟨h1, h2⟩ := chNows_off l (s.chNow n) (fun k hk => by
      rw [e, ch_of_reg (modChan_reg ..), h k (List.mem_cons_of_mem _ hk)]) (by rw [e]; exact calmBus_modChan hc _ _)
    exact ⟨fun a => (h1 a).trans (by rw [e, modChan_reg]), h2⟩

/-! ### Rails, VAUX and the charge pump -/

/-- A rail out of tolerance, before its fault is logged. -/
def State.railGone (s : State) (r : Nat) : State :=
  ({ s with pins := { s.pins with railsOk := clrBitAt s.pins.railsOk (r + 2) } } : State).wr Reg.PC_RAIL Fld.PC_RAIL.GOOD
    (clrBitAt (s.rd Reg.PC_RAIL Fld.PC_RAIL.GOOD) r)

theorem railOut_runs {s : State} (r : Nat)
    (h : s.md ∈ [Mode.boot, .compose, .serve, .recompose, .revive, .quarantine, .linktest]) :
    s.railOut r = ((s.railGone r).setBitOf Reg.PC_RAIL Fld.PC_RAIL.FAULT r).raise Src.PC_RAIL none := by
  unfold State.railOut
  simp only [List.mem_cons, List.not_mem_nil, or_false] at h
  rcases h with h | h | h | h | h | h | h <;> rw [h] <;> rfl

theorem clrBitAt_le (m i : Nat) : clrBitAt m i ≤ m := by
  unfold clrBitAt
  split
  · exact Nat.sub_le ..
  · exact le_rfl

/-- VAUX out of its tolerance. -/
def State.vauxBad (s : State) : State := { s with pins := { s.pins with vauxOk := false } }

theorem vauxBad_reg (s : State) (a : Nat) : s.vauxBad.reg a = s.reg a := rfl
theorem vauxBad_pins (s : State) : s.vauxBad.pins.vauxOk = false := rfl

/-- The charge pump runs. -/
def State.pumped (s : State) (m : BusMeas) : State := (s.showBus m).set1 Reg.PC_FEED Fld.PC_FEED.PUMP_OK

/-- Both feeds are tried. -/
def State.pumpTried (s : State) : State := (s.feedTry 0).feedTry 1

/-- The charge pump stops. -/
def State.unpumped (s : State) (m : BusMeas) : State := (s.showBus m).set0 Reg.PC_FEED Fld.PC_FEED.PUMP_OK

/-- Both feeds' gates are off. -/
def State.gatesShut (s : State) : State := (s.feedGate 0 false).feedGate 1 false

/-- A feed that is lost, before its loss is logged. -/
def State.feedGone (s : State) (f : FeedIx) (m : BusMeas) : State :=
  (((s.showBus m).set0 Reg.PC_FEED (feedPresent f)).feedGate f false).set1 Reg.PC_EVENTS (feedLostBit f)

theorem feedLost_runs {s : State} {f : FeedIx} (m : BusMeas) (hc : s.companionOn = true)
    (hp : s.on Reg.PC_FEED (feedPresent f) = true) : s.feedLost f m =
      if s.md.serving then (s.feedGone f m).raise Src.PC_FEED_LOST none else s.feedGone f m := if_neg (by rw [hc, hp]; decide)

theorem feedGone_spec (s : State) (f : FeedIx) (m : BusMeas) :
    (s.feedGone f m).on Reg.PC_FEED (feedPresent f) = false ∧ (s.feedGone f m).on Reg.PC_FEED (feedConduct f) = false ∧
      (s.feedGone f m).on Reg.PC_EVENTS (feedLostBit f) = true ∧
      (s.feedGone f m).regsBut s [Reg.PC_BUS, Reg.PC_SUPV_STATUS, Reg.PC_FEED, Reg.PC_EVENTS] ∧ (s.feedGone f m).calmBus s := by
  obtain ⟨p1, -, -, -, -, -, l1, l2, -, cp, -⟩ := feedFlds f
  obtain ⟨g1, g2, g3, g4, -⟩ := feedGate_spec ((s.showBus m).set0 Reg.PC_FEED (feedPresent f)) f false
  unfold State.feedGone
  rw [set1_eq]
  refine ⟨?_, ?_, on_wr_one l1 l2 _ _, fun a ha => ?_, calmBus_wr (g4 s ?_) (by decide) (by decide) (by decide) _ _⟩
  · rw [on_wr_ne (by decide), g2 _ p1 cp, set0_eq, on_wr_zero p1]
  · rw [on_wr_ne (by decide), g1]
  · simp only [List.mem_cons, List.not_mem_nil, or_false, not_or] at ha
    obtain ⟨n1, n2, n3, n4⟩ := ha
    rw [reg_wr_ne n4, g3 a n3, set0_eq, reg_wr_ne n3, showBus_reg _ _ _ n1 n2]
  · rw [set0_eq]
    exact calmBus_wr (calmBus_showBus s m) (by decide) (by decide) (by decide) _ _

/-- A main rail fails. -/
theorem railOut_serving (s : State) (r : Fin 6) :
    s.md ∈ [Mode.boot, .compose, .serve, .recompose, .revive, .quarantine, .linktest] →
  Leaves (exec (.railOutOfTolerance r) s) fun u =>
    u.rd Reg.PC_RAIL Fld.PC_RAIL.GOOD = clrBitAt (s.rd Reg.PC_RAIL Fld.PC_RAIL.GOOD) r.val ∧
    (u.rd Reg.PC_RAIL Fld.PC_RAIL.FAULT).testBit r.val = true ∧ u.pins.railsOk = clrBitAt s.pins.railsOk (r.val + 2) ∧
    u.hasRaised Src.PC_RAIL none ∧ u.regsBut s [Reg.PC_RAIL] := by
  intro hm
  change Leaves (done (s.railOut r.val)) _
  refine ⟨_, rfl, ?_⟩
  have hg : clrBitAt (s.rd Reg.PC_RAIL Fld.PC_RAIL.GOOD) r.val < 2 ^ Fld.PC_RAIL.GOOD.width :=
    (clrBitAt_le _ _).trans_lt (getFld_lt _ _)
  rw [railOut_runs r.val hm]
  refine ⟨?_, ?_, ?_, hasRaised_raise _ _, fun a ha => ?_⟩
  · rw [raise_rd, setBitOf_eq, rd_wr_other _ _ _ _ _ _ (by decide) (.inr (by decide)), State.railGone, rd_wr _ _ _ _ (by decide)]
    exact Nat.mod_eq_of_lt hg
  · rw [raise_rd, setBitOf_eq, rd_wr _ _ _ _ (by decide), Nat.testBit_mod_two_pow, setBitAt, Nat.testBit_or,
      Nat.testBit_two_pow_self, Bool.or_true, Bool.and_true]
    exact decide_eq_true r.isLt
  · rw [raise_pins, setBitOf_eq, wr_pins, State.railGone, wr_pins]
  · have ha : a ≠ Reg.PC_RAIL := by simpa using ha
    rw [raise_reg, setBitOf_eq, reg_wr_ne ha, State.railGone, reg_wr_ne ha]
    rfl

/-- VAUX leaves its tolerance. -/
theorem vauxLow_shown (s : State) (m : BusMeas) :
    s.companionOn = true →
  Leaves (exec (.vauxLow m) s) fun u =>
    u.pins.vauxOk = false ∧ u.on Reg.PC_RAIL Fld.PC_RAIL.VAUX_GOOD = false ∧
    u.on Reg.PC_EVENTS Fld.PC_EVENTS.VAUX_LOW = true ∧ u.showsBus m ∧ u.hasRaised Src.PC_VAUX_LOW none ∧
    u.regsBut s [Reg.PC_BUS, Reg.PC_SUPV_STATUS, Reg.PC_RAIL, Reg.PC_EVENTS] := by
  intro hc
  change Leaves (done (s.vauxLow m)) _
  refine ⟨_, rfl, ?_⟩
  have e : s.vauxLow m = (((s.vauxBad.showBus m).wr Reg.PC_RAIL Fld.PC_RAIL.VAUX_GOOD 0).wr Reg.PC_EVENTS Fld.PC_EVENTS.VAUX_LOW
      1).raise Src.PC_VAUX_LOW none := by
    rw [← set0_eq, ← set1_eq]
    exact if_neg (by rw [hc]; decide)
  rw [e]
  refine ⟨?_, ?_, ?_, ?_, hasRaised_raise _ _, fun a ha => ?_⟩
  · rw [raise_pins, wr_pins, wr_pins, rest_pins (showBus_rest _ m), vauxBad_pins]
  · rw [raise_on, on_wr_ne (by decide), on_wr_zero (by decide)]
  · rw [raise_on, on_wr_one (by decide) (by decide)]
  · exact showsBus_of_reg ((raise_reg ..).trans ((reg_wr_ne (by decide) _ _ _).trans (reg_wr_ne (by decide) _ _ _)))
      (showBus_shows s.vauxBad m)
  · simp only [List.mem_cons, List.not_mem_nil, or_false, not_or] at ha
    obtain ⟨n1, n2, n3, n4⟩ := ha
    rw [raise_reg, reg_wr_ne n4, reg_wr_ne n3, showBus_reg _ _ _ n1 n2, vauxBad_reg]

/-- A feed is driven backwards. -/
theorem feedReverse_blocks (s : State) (f : FeedIx) (m : BusMeas) :
    s.companionOn = true →
  Leaves (exec (.feedReverse f m) s) fun u =>
    u.on Reg.PC_FEED (feedConduct f) = false ∧ u.on Reg.PC_FEED (feedBlocked f) = true ∧
    u.on Reg.PC_EVENTS Fld.PC_EVENTS.FEED_REVERSE = true ∧ u.showsBus m ∧ u.hasRaised Src.PC_FEED_REVERSE none ∧
    u.regsBut s [Reg.PC_BUS, Reg.PC_SUPV_STATUS, Reg.PC_FEED, Reg.PC_EVENTS] := by
  intro hc
  change Leaves (done (s.feedReverse f m)) _
  refine ⟨_, rfl, ?_⟩
  obtain ⟨-, -, c1, c2, b1, b2, -, -, -, -, bc, -⟩ := feedFlds f
  obtain ⟨g1, -, g3, -, -⟩ := feedGate_spec (s.showBus m) f false
  have e : s.feedReverse f m = ((((s.showBus m).feedGate f false).wr Reg.PC_FEED (feedBlocked f) 1).wr Reg.PC_EVENTS
      Fld.PC_EVENTS.FEED_REVERSE 1).raise Src.PC_FEED_REVERSE none := by
    rw [← set1_eq, ← set1_eq]
    exact if_neg (by rw [hc]; decide)
  rw [e]
  refine ⟨?_, ?_, ?_, ?_, hasRaised_raise _ _, fun a ha => ?_⟩
  · rw [raise_on, on_wr_ne (by decide), on_wr_other _ _ _ _ _ _ b1 (.inr bc), g1]
  · rw [raise_on, on_wr_ne (by decide), on_wr_one b1 b2]
  · rw [raise_on, on_wr_one (by decide) (by decide)]
  · exact showsBus_of_reg ((raise_reg ..).trans ((reg_wr_ne (by decide) _ _ _).trans ((reg_wr_ne (by decide) _ _ _).trans
      (g3 _ (by decide))))) (showBus_shows s m)
  · simp only [List.mem_cons, List.not_mem_nil, or_false, not_or] at ha
    obtain ⟨n1, n2, n3, n4⟩ := ha
    rw [raise_reg, reg_wr_ne n4, reg_wr_ne n3, g3 a n3, showBus_reg _ _ _ n1 n2]

/-- A feed appears. -/
theorem feedPresent_conducts (s : State) (f : FeedIx) (m : BusMeas) :
    s.quiet = true → s.companionOn = true →
  Answers (exec (.feedPresent f m) s) fun t =>
    t.on Reg.PC_FEED (feedPresent f) = true ∧ t.showsBus m ∧
    (s.on Reg.PC_FEED (feedBlocked f) = false → s.on Reg.PC_FEED Fld.PC_FEED.PUMP_OK = true →
      t.on Reg.PC_FEED (feedConduct f) = true) ∧
    (s.on Reg.PC_FEED (feedBlocked f) = true ∨ s.on Reg.PC_FEED Fld.PC_FEED.PUMP_OK = false →
      t.on Reg.PC_FEED (feedConduct f) = s.on Reg.PC_FEED (feedConduct f)) ∧
    (s.rd Reg.PC_SUPV Fld.PC_SUPV.RESET_MV + 100 ≤ m.vbus →
      t.on Reg.PC_SUPV_STATUS Fld.PC_SUPV_STATUS.BELOW_RESET = false) ∧
    t.regsBut s [Reg.PC_BUS, Reg.PC_SUPV_STATUS, Reg.PC_FEED] := by
  intro hq hc
  change Answers (done (s.feedPresentNow f m)) _
  obtain ⟨p1, p2, c1, c2, b1, b2, -, -, pc, cp, bc, cb, pb, pu, bp, bu, cu, -⟩ := feedFlds f
  have e : s.feedPresentNow f m = ((s.showBus m).wr Reg.PC_FEED (feedPresent f) 1).feedTry f := by
    rw [← set1_eq]
    exact if_neg (by rw [hc]; decide)
  obtain ⟨t1, t2, t3, -⟩ := feedTry_keeps ((s.showBus m).wr Reg.PC_FEED (feedPresent f) 1) f
  have hf : ∀ g : Fld, (feedPresent f).apart g = true →
      ((s.showBus m).wr Reg.PC_FEED (feedPresent f) 1).on Reg.PC_FEED g = s.on Reg.PC_FEED g := fun g hg => by
    rw [on_wr_other _ _ _ _ _ _ p1 (.inr hg), on_of_reg (showBus_reg _ _ _ (by decide) (by decide))]
  have hp : ((s.showBus m).wr Reg.PC_FEED (feedPresent f) 1).on Reg.PC_FEED (feedPresent f) = true := on_wr_one p1 p2 _ _
  rw [e]
  refine answers_after_bus hq (t3 s (calmBus_wr (calmBus_showBus s m) (by decide) (by decide) (by decide) _ _)) fun t h =>
    ⟨?_, ?_, fun k1 k2 => ?_, fun k => ?_, fun k => ?_, fun a ha => ?_⟩
  · rw [on_of_reg (reg_of_regs h.regs _), t1 _ p1 cp, hp]
  · exact showsBus_of_reg ((reg_of_regs h.regs _).trans ((t2 _ (by decide)).trans (reg_wr_ne (by decide) _ _ _))) (showBus_shows s m)
  · rw [on_of_reg (reg_of_regs h.regs _), feedTry_may hp ((hf _ pb).trans k1) ((hf _ pu).trans k2)]
    exact (feedGate_spec _ f true).1
  · rw [on_of_reg (reg_of_regs h.regs _), feedTry_may_not (by rw [hf _ pb, hf _ pu]; exact k), hf _ pc]
  · rw [on_of_reg (reg_of_regs h.regs _), on_of_reg (t2 _ (by decide)), on_wr_ne (by decide), showBus_below k]
  · simp only [List.mem_cons, List.not_mem_nil, or_false, not_or] at ha
    obtain ⟨n1, n2, n3⟩ := ha
    rw [reg_of_regs h.regs, t2 a n3, reg_wr_ne n3, showBus_reg _ _ _ n1 n2]

/-- A feed is lost in a mode that serves. -/
theorem feedLost_serving (s : State) (f : FeedIx) (m : BusMeas) :
    s.companionOn = true → s.on Reg.PC_FEED (feedPresent f) = true →
  s.md.serving = true →
  Leaves (exec (.feedLost f m) s) fun u =>
    u.on Reg.PC_FEED (feedPresent f) = false ∧ u.on Reg.PC_FEED (feedConduct f) = false ∧
    u.on Reg.PC_EVENTS (feedLostBit f) = true ∧ u.hasRaised Src.PC_FEED_LOST none ∧
    u.regsBut s [Reg.PC_BUS, Reg.PC_SUPV_STATUS, Reg.PC_FEED, Reg.PC_EVENTS] := by
  intro hc hp hm
  change Leaves (done (s.feedLost f m)) _
  refine ⟨_, rfl, ?_⟩
  obtain ⟨k1, k2, k3, k4, -⟩ := feedGone_spec s f m
  rw [feedLost_runs m hc hp, if_pos hm]
  refine ⟨by rw [raise_on, k1], by rw [raise_on, k2], by rw [raise_on, k3], hasRaised_raise _ _, fun a ha => ?_⟩
  rw [raise_reg, k4 a ha]

/-- A feed is lost in another mode. -/
theorem feedLost_other (s : State) (f : FeedIx) (m : BusMeas) :
    s.quiet = true → s.companionOn = true → s.md.serving = false →
  s.on Reg.PC_FEED (feedPresent f) = true →
  Answers (exec (.feedLost f m) s) fun t =>
    t.on Reg.PC_FEED (feedPresent f) = false ∧ t.on Reg.PC_FEED (feedConduct f) = false ∧
    t.on Reg.PC_EVENTS (feedLostBit f) = true ∧ t.regsBut s [Reg.PC_BUS, Reg.PC_SUPV_STATUS, Reg.PC_FEED, Reg.PC_EVENTS] := by
  intro hq hc hm hp
  change Answers (done (s.feedLost f m)) _
  obtain ⟨k1, k2, k3, k4, k5⟩ := feedGone_spec s f m
  rw [feedLost_runs m hc hp, if_neg (by rw [hm]; decide)]
  refine answers_after_bus hq k5 fun t h => ⟨?_, ?_, ?_, fun a ha => ?_⟩
  · rw [on_of_reg (reg_of_regs h.regs _), k1]
  · rw [on_of_reg (reg_of_regs h.regs _), k2]
  · rw [on_of_reg (reg_of_regs h.regs _), k3]
  · rw [reg_of_regs h.regs, k4 a ha]

/-- The FET of a feed drops too much. -/
theorem feedFetDrop_shown (s : State) (f : FeedIx) (m : BusMeas) :
    s.companionOn = true → s.on Reg.PC_FEED (feedConduct f) = true →
  Leaves (exec (.feedFetDrop f m) s) fun u =>
    u.on Reg.PC_EVENTS Fld.PC_EVENTS.FEED_FET = true ∧ u.on Reg.PC_FEED (feedConduct f) = true ∧
    u.hasRaised Src.PC_FEED_FET none ∧ u.regsBut s [Reg.PC_BUS, Reg.PC_SUPV_STATUS, Reg.PC_EVENTS] := by
  intro hc hp
  change Leaves (done (s.feedFet f m)) _
  refine ⟨_, rfl, ?_⟩
  have e : s.feedFet f m = ((s.showBus m).wr Reg.PC_EVENTS Fld.PC_EVENTS.FEED_FET 1).raise Src.PC_FEED_FET none := by
    rw [← set1_eq]
    exact if_neg (by rw [hc, hp]; decide)
  rw [e]
  refine ⟨?_, ?_, hasRaised_raise _ _, fun a ha => ?_⟩
  · rw [raise_on, on_wr_one (by decide) (by decide)]
  · rw [raise_on, on_wr_ne (by decide), on_of_reg (showBus_reg _ _ _ (by decide) (by decide)), hp]
  · simp only [List.mem_cons, List.not_mem_nil, or_false, not_or] at ha
    rw [raise_reg, reg_wr_ne ha.2.2, showBus_reg _ _ _ ha.1 ha.2.1]

/-- A feed is unblocked. -/
theorem feedUnblock_conducts (s : State) (f : FeedIx) (m : BusMeas) :
    s.quiet = true → s.companionOn = true →
  s.on Reg.PC_FEED (feedPresent f) = true → s.on Reg.PC_FEED Fld.PC_FEED.PUMP_OK = true →
  Answers (exec (.feedUnblock f m) s) fun t =>
    t.on Reg.PC_FEED (feedBlocked f) = false ∧ t.on Reg.PC_FEED (feedConduct f) = true ∧ t.showsBus m ∧
    t.regsBut s [Reg.PC_BUS, Reg.PC_SUPV_STATUS, Reg.PC_FEED] := by
  intro hq hc hp hu
  change Answers (done (s.feedUnblock f m)) _
  obtain ⟨p1, p2, c1, c2, b1, b2, -, -, pc, cp, bc, cb, pb, pu, bp, bu, cu, -⟩ := feedFlds f
  have hf : ∀ g : Fld, (feedBlocked f).apart g = true →
      ((s.showBus m).wr Reg.PC_FEED (feedBlocked f) 0).on Reg.PC_FEED g = s.on Reg.PC_FEED g := fun g hg => by
    rw [on_wr_other _ _ _ _ _ _ b1 (.inr hg), on_of_reg (showBus_reg _ _ _ (by decide) (by decide))]
  have hb : ((s.showBus m).wr Reg.PC_FEED (feedBlocked f) 0).on Reg.PC_FEED (feedBlocked f) = false := on_wr_zero b1 _ _
  have e : s.feedUnblock f m = ((s.showBus m).wr Reg.PC_FEED (feedBlocked f) 0).feedGate f true := by
    rw [← feedTry_may ((hf _ bp).trans hp) hb ((hf _ bu).trans hu), ← set0_eq]
    exact if_neg (by rw [hc]; decide)
  obtain ⟨g1, g2, g3, g4, -⟩ := feedGate_spec ((s.showBus m).wr Reg.PC_FEED (feedBlocked f) 0) f true
  rw [e]
  refine answers_after_bus hq (g4 s (calmBus_wr (calmBus_showBus s m) (by decide) (by decide) (by decide) _ _)) fun t h =>
    ⟨?_, ?_, ?_, fun a ha => ?_⟩
  · rw [on_of_reg (reg_of_regs h.regs _), g2 _ b1 cb, hb]
  · rw [on_of_reg (reg_of_regs h.regs _), g1]
  · exact showsBus_of_reg ((reg_of_regs h.regs _).trans ((g3 _ (by decide)).trans (reg_wr_ne (by decide) _ _ _))) (showBus_shows s m)
  · simp only [List.mem_cons, List.not_mem_nil, or_false, not_or] at ha
    obtain ⟨n1, n2, n3⟩ := ha
    rw [reg_of_regs h.regs, g3 a n3, reg_wr_ne n3, showBus_reg _ _ _ n1 n2]

/-- The charge pump runs again, and no turn-on command waited for it. -/
theorem chargePumpStart_conducts (s : State) (m : BusMeas) :
    s.quiet = true → s.companionOn = true →
  (∀ n, (tabGet s.pwr.ch n {}).onRequested = false) →
  Answers (exec (.chargePumpStart m) s) fun t =>
    t.on Reg.PC_FEED Fld.PC_FEED.PUMP_OK = true ∧
    (∀ f : FeedIx, s.on Reg.PC_FEED (feedPresent f) = true → s.on Reg.PC_FEED (feedBlocked f) = false →
      t.on Reg.PC_FEED (feedConduct f) = true) ∧ t.showsBus m ∧ t.regsBut s [Reg.PC_BUS, Reg.PC_SUPV_STATUS, Reg.PC_FEED] := by
  intro hq hc hr
  change Answers (done (s.pumpStart m)) _
  have e : s.pumpStart m = (s.pumped m).pumpTried := by
    have hpw : (s.pumped m).pumpTried.pwr = s.pwr := by
      rw [State.pumpTried, (feedTry_keeps _ _).2.2.2, (feedTry_keeps _ _).2.2.2, State.pumped, set1_eq, wr_pwr,
        rest_pwr (showBus_rest s m)]
    rw [← chServes_idle (s := (s.pumped m).pumpTried) (by rw [hpw]; exact hr) (List.range 32)]
    exact if_neg (by rw [hc]; decide)
  obtain ⟨a1, a2, a3, -⟩ := feedTry_keeps (s.pumped m) 0
  obtain ⟨b1, b2, b3, -⟩ := feedTry_keeps ((s.pumped m).feedTry 0) 1
  have hpump : (s.pumped m).on Reg.PC_FEED Fld.PC_FEED.PUMP_OK = true := by
    rw [State.pumped, set1_eq, on_wr_one (by decide) (by decide)]
  have hf : ∀ g : Fld, Fld.PC_FEED.PUMP_OK.apart g = true → (s.pumped m).on Reg.PC_FEED g = s.on Reg.PC_FEED g := fun g hg => by
    rw [State.pumped, set1_eq, on_wr_other _ _ _ _ _ _ (by decide) (.inr hg),
      on_of_reg (showBus_reg _ _ _ (by decide) (by decide))]
  have hreg : ∀ a, a ≠ Reg.PC_FEED → (s.pumped m).pumpTried.reg a = (s.showBus m).reg a := fun a ha => by
    rw [State.pumpTried, b2 a ha, a2 a ha, State.pumped, set1_eq, reg_wr_ne ha]
  have hcalm : (s.pumped m).pumpTried.calmBus s := by
    refine b3 s (a3 s ?_)
    rw [State.pumped, set1_eq]
    exact calmBus_wr (calmBus_showBus s m) (by decide) (by decide) (by decide) _ _
  rw [e]
  refine answers_after_bus hq hcalm fun t h => ⟨?_, fun f k1 k2 => ?_, ?_, fun a ha => ?_⟩
  · rw [on_of_reg (reg_of_regs h.regs _), State.pumpTried, b1 _ (by decide) (by decide), a1 _ (by decide) (by decide), hpump]
  · rw [on_of_reg (reg_of_regs h.regs _), State.pumpTried]
    match f with
    | 0 =>
      rw [b1 _ (by decide) (by decide), feedTry_may ((hf _ (by decide)).trans k1) ((hf _ (by decide)).trans k2) hpump]
      exact (feedGate_spec _ 0 true).1
    | 1 =>
      rw [feedTry_may ((a1 _ (by decide) (by decide)).trans ((hf _ (by decide)).trans k1))
        ((a1 _ (by decide) (by decide)).trans ((hf _ (by decide)).trans k2)) ((a1 _ (by decide) (by decide)).trans hpump)]
      exact (feedGate_spec _ 1 true).1
  · exact showsBus_of_reg ((reg_of_regs h.regs _).trans (hreg _ (by decide))) (showBus_shows s m)
  · simp only [List.mem_cons, List.not_mem_nil, or_false, not_or] at ha
    rw [reg_of_regs h.regs, hreg a ha.2.2, showBus_reg _ _ _ ha.1 ha.2.1]

/-- The bus falls below 7.0 V, and every channel is off. -/
theorem busBelow7v_off (s : State) (m : BusMeas) :
    s.quiet = true → s.companionOn = true → (∀ n < 32, s.ch n = Ch.OFF) →
  Answers (exec (.busBelow7v m) s) fun t =>
    t.on Reg.PC_FEED Fld.PC_FEED.PUMP_OK = false ∧ (∀ f : FeedIx, t.on Reg.PC_FEED (feedConduct f) = false) ∧
    (∀ n < 32, t.ch n = Ch.OFF) ∧ t.showsBus m ∧ t.regsBut s [Reg.PC_BUS, Reg.PC_SUPV_STATUS, Reg.PC_FEED] := by
  intro hq hc hr
  change Answers (done (s.busBelow7 m)) _
  obtain ⟨a1, a2, a3, a4, -⟩ := feedGate_spec (s.unpumped m) 0 false
  obtain ⟨b1, b2, b3, b4, -⟩ := feedGate_spec ((s.unpumped m).feedGate 0 false) 1 false
  have hreg : ∀ a, a ≠ Reg.PC_FEED → (s.unpumped m).gatesShut.reg a = (s.showBus m).reg a := fun a ha => by
    rw [State.gatesShut, b3 a ha, a3 a ha, State.unpumped, set0_eq, reg_wr_ne ha]
  have hcalm : (s.unpumped m).gatesShut.calmBus s := by
    refine b4 s (a4 s ?_)
    rw [State.unpumped, set0_eq]
    exact calmBus_wr (calmBus_showBus s m) (by decide) (by decide) (by decide) _ _
  have hst : ∀ n, (s.unpumped m).gatesShut.reg (Reg.SPC_STATE n) = s.reg (Reg.SPC_STATE n) := fun n => by
    rw [hreg _ (by simp only [Reg.SPC_STATE, Reg.PC_FEED]; omega), showBus_reg _ _ _ (by simp only [Reg.SPC_STATE, Reg.PC_BUS]; omega)
      (by simp only [Reg.SPC_STATE, Reg.PC_SUPV_STATUS]; omega)]
  obtain ⟨n1, n2⟩ := chNows_off (u := s) (List.range 32) (s.unpumped m).gatesShut
    (fun n hn => (ch_of_reg (hst n)).trans (hr n (List.mem_range.mp hn))) hcalm
  have e : s.busBelow7 m = (List.range 32).foldl (fun t n => t.chNow n) (s.unpumped m).gatesShut := if_neg (by rw [hc]; decide)
  rw [e]
  refine answers_after_bus hq n2 fun t h => ⟨?_, fun f => ?_, fun n hn => ?_, ?_, fun a ha => ?_⟩
  · rw [on_of_reg (reg_of_regs h.regs _), on_of_reg (n1 _), State.gatesShut, b2 _ (by decide) (by decide),
      a2 _ (by decide) (by decide), State.unpumped, set0_eq, on_wr_zero (by decide)]
  · rw [on_of_reg (reg_of_regs h.regs _), on_of_reg (n1 _), State.gatesShut]
    match f with
    | 0 => rw [b2 _ (by decide) (by decide), a1]
    | 1 => exact b1
  · rw [ch_of_reg (reg_of_regs h.regs _), ch_of_reg (n1 _), ch_of_reg (hst n), hr n hn]
  · exact showsBus_of_reg ((reg_of_regs h.regs _).trans ((n1 _).trans (hreg _ (by decide)))) (showBus_shows s m)
  · simp only [List.mem_cons, List.not_mem_nil, or_false, not_or] at ha
    rw [reg_of_regs h.regs, n1, hreg a ha.2.2, showBus_reg _ _ _ ha.1 ha.2.1]

/-- Settles O38: each event of a rail, a feed or the charge pump by the equation of its case. -/
theorem railsAndFeeds : Obligations.RailsAndFeeds :=
  ⟨railOut_serving, vauxLow_shown, feedReverse_blocks, feedPresent_conducts, feedLost_serving, feedLost_other, feedFetDrop_shown, feedUnblock_conducts, chargePumpStart_conducts, busBelow7v_off⟩


end Sys2Proof.Machine
end

section
/-!
Slot channels (R347 to R357): what each event of a channel shows and leaves.
-/
namespace Sys2Proof.Machine

/-! ### The registers of a channel -/

theorem slotPort_of_fml {u s : State} (h : u.fml = s.fml) (n : Nat) : u.slotPort n = s.slotPort n := by
  simp only [State.slotPort, State.ports, h]

theorem slotFlacon_of_fml {u s : State} (h : u.fml = s.fml) (n : Nat) : u.slotFlacon n = s.slotFlacon n := by
  simp only [State.slotFlacon, slotPort_of_fml h, State.portFlacon, portRec_of_fml h]

/-- A register that is none of a channel's. -/
theorem not_chanRegs {s : State} {n a : Nat} (h : a ∉ s.chanRegs n) : a ≠ Reg.SPC_STATE n ∧ a ≠ Reg.SPC_MEAS n ∧ a ≠ Reg.SPC_TIMER n ∧
    a ≠ Reg.SPC_CNT n ∧ a ≠ Reg.SPC_ERR n ∧ a ≠ Reg.SPC_ZERO n ∧ ∀ q, s.slotPort n = some q → a ≠ Reg.PT_HP_STATUS q := by
  simp only [State.chanRegs, List.mem_append, List.mem_cons, List.not_mem_nil, or_false, not_or] at h
  obtain ⟨⟨h1, h2, h3, h4, h5, h6⟩, h7⟩ := h
  refine ⟨h1, h2, h3, h4, h5, h6, fun q hq => ?_⟩
  rw [hq] at h7
  exact fun e => h7 (by rw [e]; exact List.mem_singleton_self _)

/-- The registers that the end of a command reads are none of a channel's. -/
theorem calmRegs_not_chan (s : State) (n : SlotIx) : ∀ a ∈ calmRegs, a ∉ s.chanRegs n.val := by
  intro a ha h
  have hn := n.isLt
  have hhp : ∀ q, a ≠ Reg.PT_HP_STATUS q := fun q e =>
    portReg_not_calm (a := Reg.PT_HP_STATUS q) (by simp only [Reg.PT_HP_STATUS]; omega) (e ▸ ha)
  simp only [calmRegs, List.mem_cons, List.not_mem_nil, or_false] at ha
  simp only [State.chanRegs, List.mem_append, List.mem_cons, List.not_mem_nil, or_false] at h
  rcases h with h | h
  · simp only [Reg.SPC_STATE, Reg.SPC_MEAS, Reg.SPC_TIMER, Reg.SPC_CNT, Reg.SPC_ERR, Reg.SPC_ZERO] at h
    simp only [Reg.CHIP_MODE, Reg.PC_SUPV_STATUS, Reg.MG_FML_STATUS] at ha
    omega
  · cases hq : s.slotPort n.val with
    | none => rw [hq] at h; exact absurd h (List.not_mem_nil)
    | some q => rw [hq] at h; exact hhp q (List.mem_singleton.mp h)

/-- A change of a channel's registers alone leaves a state calm. -/
theorem calm_of_chan {u s : State} {n : SlotIx} (hr : u.rest = s.rest) (h : u.regsBut s (s.chanRegs n.val)) : u.calm s :=
  calm_of_rest hr fun a ha => h a (calmRegs_not_chan s n a ha)

theorem SPC_STATE_ne_HP (n : SlotIx) (q : Nat) : Reg.SPC_STATE n.val ≠ Reg.PT_HP_STATUS q := by
  have := n.isLt
  simp only [Reg.PT_HP_STATUS, Reg.SPC_STATE]
  omega

theorem SPC_TIMER_ne_HP (n : SlotIx) (q : Nat) : Reg.SPC_TIMER n.val ≠ Reg.PT_HP_STATUS q := by
  have := n.isLt
  simp only [Reg.PT_HP_STATUS, Reg.SPC_TIMER]
  omega

theorem SPC_ERR_ne_HP (n : SlotIx) (q : Nat) : Reg.SPC_ERR n.val ≠ Reg.PT_HP_STATUS q := by
  have := n.isLt
  simp only [Reg.PT_HP_STATUS, Reg.SPC_ERR]
  omega

theorem SPC_STATE_ne_TIMER (n : Nat) : Reg.SPC_STATE n ≠ Reg.SPC_TIMER n := by simp only [Reg.SPC_STATE, Reg.SPC_TIMER]; omega
theorem SPC_STATE_ne_MEAS (n : Nat) : Reg.SPC_STATE n ≠ Reg.SPC_MEAS n := by simp only [Reg.SPC_STATE, Reg.SPC_MEAS]; omega
theorem SPC_STATE_ne_ERR (n : Nat) : Reg.SPC_STATE n ≠ Reg.SPC_ERR n := by simp only [Reg.SPC_STATE, Reg.SPC_ERR]; omega
theorem SPC_STATE_ne_CNT (n : Nat) : Reg.SPC_STATE n ≠ Reg.SPC_CNT n := by simp only [Reg.SPC_STATE, Reg.SPC_CNT]; omega
theorem SPC_STATE_ne_ZERO (n : Nat) : Reg.SPC_STATE n ≠ Reg.SPC_ZERO n := by simp only [Reg.SPC_STATE, Reg.SPC_ZERO]; omega
theorem SPC_STATE_ne_CFG (n : Nat) : Reg.SPC_STATE n ≠ Reg.SPC_CFG n := by simp only [Reg.SPC_STATE, Reg.SPC_CFG]; omega

theorem rest_out {t s : State} (h : t.rest = s.rest) : t.out = s.out := by
  have e := congrArg State.out h
  exact e

theorem on_of_rd {t u : State} {a : Nat} {g : Fld} (h : t.rd a g = u.rd a g) : t.on a g = u.on a g := by
  rw [State.on, State.on, h]

/-! ### Offset zeros -/

/-- t differs from u in what an offset zero of channel n shows, at most. -/
structure ChanKept (t u : State) (n : Nat) : Prop where
  rest : t.rest = u.rest
  fields : ∀ g : Fld, Fld.SPC_STATE.ZEROING.apart g = true → Fld.SPC_STATE.ZERO_DUE.apart g = true →
    t.rd (Reg.SPC_STATE n) g = u.rd (Reg.SPC_STATE n) g
  regs : ∀ a, a ≠ Reg.SPC_STATE n → t.reg a = u.reg a
  zeroing : u.on (Reg.SPC_STATE n) Fld.SPC_STATE.ZEROING = true → t.on (Reg.SPC_STATE n) Fld.SPC_STATE.ZEROING = true

theorem chanKept_refl (u : State) (n : Nat) : ChanKept u u n := ⟨rfl, fun _ _ _ => rfl, fun _ _ => rfl, id⟩

theorem chanKept_ite {c : Prop} [Decidable c] {v w u : State} {n : Nat} (hv : ChanKept v u n) (hw : ChanKept w u n) :
    ChanKept (if c then v else w) u n := by
  split
  · exact hv
  · exact hw

theorem startZero_on (u : State) (n : Nat) : (u.startZero n).on (Reg.SPC_STATE n) Fld.SPC_STATE.ZEROING = true := by
  rw [State.startZero, set0_eq, set1_eq, on_wr_other _ _ _ _ _ _ (by decide) (.inr (by decide)), on_wr_one (by decide) (by decide)]

theorem startZero_kept (u : State) (n : Nat) : ChanKept (u.startZero n) u n := by
  refine ⟨?_, fun g h1 h2 => ?_, fun a ha => ?_, fun _ => startZero_on u n⟩
  · rw [State.startZero, set0_eq, set1_eq, wr_rest, wr_rest]
  · rw [State.startZero, set0_eq, set1_eq, rd_wr_other _ _ _ _ _ _ (by decide) (.inr h2),
      rd_wr_other _ _ _ _ _ _ (by decide) (.inr h1)]
  · rw [State.startZero, set0_eq, set1_eq, reg_wr_ne ha, reg_wr_ne ha]

/-- An offset zero that falls due. -/
theorem zeroDue_kept (u : State) (n : Nat) : ChanKept (u.set1 (Reg.SPC_STATE n) Fld.SPC_STATE.ZERO_DUE) u n := by
  rw [set1_eq]
  exact ⟨wr_rest .., fun g _ h2 => rd_wr_other _ _ _ _ _ _ (by decide) (.inr h2), fun a ha => reg_wr_ne ha _ _ _,
    fun h => by rw [on_wr_other _ _ _ _ _ _ (by decide) (.inr (by decide)), h]⟩

/-- What the check of T_ref leaves. -/
theorem trefMoved_kept (u : State) (n : Nat) (b : Bool) : ChanKept (u.trefMoved n b) u n := by
  delta State.trefMoved
  exact chanKept_ite (chanKept_refl u n) (chanKept_ite (startZero_kept u n) (chanKept_ite (chanKept_refl u n) (zeroDue_kept u n)))

/-- An offset zero that is due starts. -/
def State.zeroIfDue (s : State) (n : Nat) : State :=
  if s.on (Reg.SPC_STATE n) Fld.SPC_STATE.ZERO_DUE then s.startZero n else s

theorem zeroIfDue_kept (u : State) (n : Nat) : ChanKept (u.zeroIfDue n) u n := by
  unfold State.zeroIfDue
  split
  · exact startZero_kept u n
  · exact chanKept_refl u n

theorem chanKept_trans {v u s : State} {n : Nat} (h : ChanKept v u n) (k : ChanKept u s n) : ChanKept v s n :=
  ⟨h.rest.trans k.rest, fun g h1 h2 => (h.fields g h1 h2).trans (k.fields g h1 h2),
    fun a ha => (h.regs a ha).trans (k.regs a ha), fun hz => h.zeroing (k.zeroing hz)⟩

theorem ChanKept.on {t u : State} {n : Nat} (h : ChanKept t u n) {g : Fld} (h1 : Fld.SPC_STATE.ZEROING.apart g = true)
    (h2 : Fld.SPC_STATE.ZERO_DUE.apart g = true) : t.on (Reg.SPC_STATE n) g = u.on (Reg.SPC_STATE n) g := by
  rw [State.on, State.on, h.fields g h1 h2]

theorem ChanKept.ch {t u : State} {n : Nat} (h : ChanKept t u n) : t.ch n = u.ch n := h.fields _ (by decide) (by decide)

theorem ChanKept.chan {t u s : State} {n : Nat} (h : ChanKept t u n) (hu : u.regsBut s (s.chanRegs n)) : t.regsBut s (s.chanRegs n) :=
  fun a ha => (h.regs a (not_chanRegs ha).1).trans (hu a ha)

theorem ChanKept.calm {t u s : State} {n : SlotIx} (h : ChanKept t u n.val) (hu : u.calm s) : t.calm s :=
  calm_trans (calm_of_rest h.rest fun a ha => h.regs a (not_chanRegs (calmRegs_not_chan u n a ha)).1) hu

/-! ### What a channel shows -/

theorem showChan_eq (s : State) (n : Nat) (m : ChanMeas) : s.showChan n m =
    (((((s.wr (Reg.SPC_MEAS n) Fld.SPC_MEAS.IOUT_MA m.iout).wr (Reg.SPC_MEAS n) Fld.SPC_MEAS.VOUT_MV m.vout).wrS (Reg.SPC_MEAS n)
      Fld.SPC_MEAS.T_MODEL m.tModel).wrS (Reg.SPC_MEAS n) Fld.SPC_MEAS.T_DIODE
        (if s.on (Reg.SPC_CFG n) Fld.SPC_CFG.EXT_DIODE then m.tDiode else 0)).wr (Reg.SPC_TIMER n) Fld.SPC_TIMER.FAULT_ELAPSED
          m.faultUs).wr (Reg.SPC_TIMER n) Fld.SPC_TIMER.COOL_ELAPSED (min m.coolMs 65535) := rfl

theorem showChan_rest (s : State) (n : Nat) (m : ChanMeas) : (s.showChan n m).rest = s.rest := by
  rw [showChan_eq, wr_rest, wr_rest, wrS_eq, wr_rest, wrS_eq, wr_rest, wr_rest, wr_rest]

theorem showChan_reg (s : State) (n : Nat) (m : ChanMeas) (a : Nat) (h1 : a ≠ Reg.SPC_MEAS n) (h2 : a ≠ Reg.SPC_TIMER n) :
    (s.showChan n m).reg a = s.reg a := by
  rw [showChan_eq, reg_wr_ne h2, reg_wr_ne h2, wrS_eq, reg_wr_ne h1, wrS_eq, reg_wr_ne h1, reg_wr_ne h1, reg_wr_ne h1]

theorem showChan_rd (s : State) (n : Nat) (m : ChanMeas) :
    (s.showChan n m).rd (Reg.SPC_MEAS n) Fld.SPC_MEAS.IOUT_MA = m.iout % 2 ^ 16 ∧
      (s.showChan n m).rd (Reg.SPC_MEAS n) Fld.SPC_MEAS.VOUT_MV = m.vout % 2 ^ 16 := by
  have d : Reg.SPC_MEAS n ≠ Reg.SPC_TIMER n := by simp only [Reg.SPC_MEAS, Reg.SPC_TIMER]; omega
  rw [showChan_eq, wrS_eq, wrS_eq]
  refine ⟨?_, ?_⟩
  · rw [rd_wr_ne d, rd_wr_ne d, rd_wr_other _ _ _ _ _ _ (by decide) (.inr (by decide)),
      rd_wr_other _ _ _ _ _ _ (by decide) (.inr (by decide)), rd_wr_other _ _ _ _ _ _ (by decide) (.inr (by decide)),
      rd_wr _ _ _ _ (by decide)]
    rfl
  · rw [rd_wr_ne d, rd_wr_ne d, rd_wr_other _ _ _ _ _ _ (by decide) (.inr (by decide)),
      rd_wr_other _ _ _ _ _ _ (by decide) (.inr (by decide)), rd_wr _ _ _ _ (by decide)]
    rfl

theorem showChan_chan (s : State) (n : Nat) (m : ChanMeas) : (s.showChan n m).regsBut s (s.chanRegs n) := fun a ha =>
  showChan_reg s n m a (not_chanRegs ha).2.1 (not_chanRegs ha).2.2.1

theorem showChan_state (s : State) (n : Nat) (m : ChanMeas) : (s.showChan n m).reg (Reg.SPC_STATE n) = s.reg (Reg.SPC_STATE n) :=
  showChan_reg s n m _ (SPC_STATE_ne_MEAS n) (SPC_STATE_ne_TIMER n)

/-- What power-good leaves. -/
theorem setPg_spec (s : State) (n : SlotIx) (b : Bool) :
    (s.setPg n.val b).rest = s.rest ∧ (s.setPg n.val b).on (Reg.SPC_STATE n.val) Fld.SPC_STATE.PG = b ∧
      (∀ g : Fld, Fld.SPC_STATE.PG.apart g = true → (s.setPg n.val b).rd (Reg.SPC_STATE n.val) g = s.rd (Reg.SPC_STATE n.val) g) ∧
      (∀ q, s.slotPort n.val = some q → (s.setPg n.val b).on (Reg.PT_HP_STATUS q) Fld.PT_HP_STATUS.PG = b) ∧
      ∀ a, a ≠ Reg.SPC_STATE n.val → (∀ q, s.slotPort n.val = some q → a ≠ Reg.PT_HP_STATUS q) →
        (s.setPg n.val b).reg a = s.reg a := by
  have hpg : (s.wr (Reg.SPC_STATE n.val) Fld.SPC_STATE.PG (if b then 1 else 0)).on (Reg.SPC_STATE n.val) Fld.SPC_STATE.PG = b := by
    cases b
    · exact on_wr_zero (by decide) _ _
    · exact on_wr_one (by decide) (by decide) _ _
  unfold State.setPg
  simp only [wrB_eq]
  cases hq : s.slotPort n.val with
  | none =>
    exact ⟨wr_rest .., hpg, fun g hg => rd_wr_other _ _ _ _ _ _ (by decide) (.inr hg), fun q h => absurd h (by simp),
      fun a ha _ => reg_wr_ne ha _ _ _⟩
  | some q =>
    have d := SPC_STATE_ne_HP n q
    refine ⟨by rw [wr_rest, wr_rest], ?_, fun g hg => ?_, fun k hk => ?_, fun a ha h => ?_⟩
    · rw [on_wr_ne d, hpg]
    · rw [rd_wr_ne d, rd_wr_other _ _ _ _ _ _ (by decide) (.inr hg)]
    · cases hk
      cases b
      · exact on_wr_zero (by decide) _ _
      · exact on_wr_one (by decide) (by decide) _ _
    · rw [reg_wr_ne (h q rfl), reg_wr_ne ha]

theorem setPg_chan {u s : State} {n : SlotIx} (hf : u.fml = s.fml) (hu : u.regsBut s (s.chanRegs n.val)) (b : Bool) :
    (u.setPg n.val b).regsBut s (s.chanRegs n.val) := fun a ha => by
  obtain ⟨h1, _, _, _, _, _, h7⟩ := not_chanRegs ha
  rw [(setPg_spec u n b).2.2.2.2 a h1 (fun q hq => h7 q ((slotPort_of_fml hf _).symm.trans hq)), hu a ha]

/-- A write of SPC_STATE. -/
theorem wr_chan {u s : State} {n : Nat} (hu : u.regsBut s (s.chanRegs n)) {a : Nat} (h : a ∈ s.chanRegs n) (f : Fld) (x : Nat) :
    (u.wr a f x).regsBut s (s.chanRegs n) := fun b hb => by
  have hne : b ≠ a := by
    rintro rfl
    exact hb h
  rw [reg_wr_ne hne, hu b hb]

theorem SPC_STATE_mem (s : State) (n : Nat) : Reg.SPC_STATE n ∈ s.chanRegs n := by simp [State.chanRegs]
theorem SPC_TIMER_mem (s : State) (n : Nat) : Reg.SPC_TIMER n ∈ s.chanRegs n := by simp [State.chanRegs]
theorem SPC_CNT_mem (s : State) (n : Nat) : Reg.SPC_CNT n ∈ s.chanRegs n := by simp [State.chanRegs]
theorem SPC_ERR_mem (s : State) (n : Nat) : Reg.SPC_ERR n ∈ s.chanRegs n := by simp [State.chanRegs]
theorem SPC_ZERO_mem (s : State) (n : Nat) : Reg.SPC_ZERO n ∈ s.chanRegs n := by simp [State.chanRegs]

/-- What an event of a channel answers that raises nothing, once T_ref is checked. -/
theorem answers_chan {s u : State} {n : SlotIx} {P : State → Prop} (hq : s.quiet = true) (hc : u.calm s)
    (hP : ∀ t : State, (∀ g : Fld, Fld.SPC_STATE.ZEROING.apart g = true → Fld.SPC_STATE.ZERO_DUE.apart g = true →
        t.rd (Reg.SPC_STATE n.val) g = u.rd (Reg.SPC_STATE n.val) g) →
      (∀ a, a ≠ Reg.SPC_STATE n.val → t.reg a = u.reg a) → (∀ o ∈ u.out, o ∈ t.out) →
      (u.on (Reg.SPC_STATE n.val) Fld.SPC_STATE.ZEROING = true → t.on (Reg.SPC_STATE n.val) Fld.SPC_STATE.ZEROING = true) → P t) :
    Answers (done (u.trefMoved n.val true)) P := by
  have k := trefMoved_kept u n.val true
  refine answers_after hq (k.calm hc) fun t h => hP t (fun g h1 h2 => ?_) (fun a ha => ?_) (fun o ho => ?_) fun hz => ?_
  · rw [rd_of_reg (reg_of_regs h.regs _), k.fields g h1 h2]
  · rw [reg_of_regs h.regs, k.regs a ha]
  · exact h.out o (by rw [rest_out k.rest]; exact ho)
  · rw [on_of_reg (reg_of_regs h.regs _), k.zeroing hz]

/-! ### Channels that latch -/

theorem raise_chan {u s : State} {L : List Nat} (h : u.regsBut s L) (k : Nat) (f : Option Nat) : (u.raise k f).regsBut s L :=
  fun a ha => (raise_reg ..).trans (h a ha)

theorem slotFlacon_lt {s : State} {n i : Nat} (h : s.slotFlacon n = some i) : i < 32 := by
  unfold State.slotFlacon State.portFlacon at h
  split at h
  · exact absurd h (by simp)
  · split at h
    · exact absurd h (by simp)
    · split at h
      next hp => exact Option.some.inj h ▸ hp
      next => exact absurd h (by simp)

theorem hasRaisedOn_raise (s : State) (k : Nat) {f : Option Nat} (hf : ∀ i, f = some i → i < 32) : (s.raise k f).hasRaisedOn k f := by
  cases f with
  | none => exact ⟨_, List.mem_append_right _ (List.mem_singleton_self _), rfl, rfl⟩
  | some i => exact ⟨_, List.mem_append_right _ (List.mem_singleton_self _), rfl, by simp [hf i rfl]⟩

theorem hasRaisedOn_raised {u t : State} {k : Nat} {f : Option Nat} (h : ∀ o ∈ t.flt.raised, o ∈ u.flt.raised)
    (ht : t.hasRaisedOn k f) : u.hasRaisedOn k f := by
  obtain ⟨o, ho, hn⟩ := ht
  exact ⟨o, h o ho, hn⟩

theorem raised_of_flt {u t : State} (h : u.flt = t.flt) : ∀ o ∈ t.flt.raised, o ∈ u.flt.raised := fun _ ho => by rw [h]; exact ho

theorem vppbEvent_keeps (s : State) (q v k : Nat) (g : VppbState → VppbState) :
    (∀ a, (s.vppbEvent q v k g).reg a = s.reg a) ∧ (s.vppbEvent q v k g).flt = s.flt := by
  unfold State.vppbEvent
  simp only
  split
  · exact ⟨fun _ => rfl, rfl⟩
  · exact ⟨fun _ => rfl, rfl⟩

/-- What the slot machine does when its channel latches: no register of the companion changes. -/
theorem slotLatched_keeps (s : State) (n : Nat) : (∀ a, a < 0x1000000 → (s.slotLatched n).reg a = s.reg a) ∧
    (s.slotLatched n).flt = (s.raise (srcSlot n 1) (s.slotFlacon n)).flt := by
  unfold State.slotLatched
  simp only
  split
  · exact ⟨fun _ _ => raise_reg .., rfl⟩
  next p _ =>
    split
    · exact ⟨fun _ _ => raise_reg .., rfl⟩
    · refine ⟨fun a ha => ?_, ?_⟩
      · have h1 : a ≠ Reg.PT_HP_STATUS p.port := by simp only [Reg.PT_HP_STATUS]; omega
        have h2 : a ≠ Reg.PT_HP_EVENTS p.port := by simp only [Reg.PT_HP_EVENTS]; omega
        rw [foldl_keep (fun t : State => t.reg a) _ (fun t e => (vppbEvent_keeps ..).1 a), set1_eq, reg_wr_ne h2, reg_wr_ne h1,
          raise_reg]
      · rw [foldl_keep (fun t : State => t.flt) _ (fun t e => (vppbEvent_keeps ..).2), set1_eq, wr_flt, wr_flt]

theorem SPC_low (n : SlotIx) : Reg.SPC_STATE n.val < 0x1000000 ∧ Reg.SPC_ERR n.val < 0x1000000 := by
  have := n.isLt
  simp only [Reg.SPC_STATE, Reg.SPC_ERR]
  omega

/-- A channel that is to latch, before the slot machine sees it. -/
def State.latching (s : State) (n : Nat) : State := ((s.setCh n Ch.LATCHED).chGate n false).set1 (Reg.SPC_ERR n) Fld.SPC_ERR.LATCHED

theorem latching_fml (s : State) (n : Nat) : (s.latching n).fml = s.fml := by
  rw [State.latching, set1_eq, wr_fml, State.chGate, emit_fml, State.setCh, wr_fml]

theorem latching_flt (s : State) (n : Nat) : (s.latching n).flt = s.flt := by
  rw [State.latching, set1_eq, wr_flt, State.chGate, emit_flt, State.setCh, wr_flt]

/-- What a channel that latches leaves. -/
theorem latch_spec (s : State) (n : SlotIx) :
    (s.latch n.val).ch n.val = Ch.LATCHED ∧ (s.latch n.val).on (Reg.SPC_ERR n.val) Fld.SPC_ERR.LATCHED = true ∧
      (∀ g, Fld.SPC_ERR.LATCHED.apart g = true → (s.latch n.val).on (Reg.SPC_ERR n.val) g = s.on (Reg.SPC_ERR n.val) g) ∧
      (s.latch n.val).hasRaisedOn (srcSlot n.val 1) (s.slotFlacon n.val) ∧
      ∀ o ∈ s.flt.raised, o ∈ (s.latch n.val).flt.raised := by
  have d := SPC_STATE_ne_ERR n.val
  obtain ⟨hr, hf⟩ := slotLatched_keeps (s.latching n.val) n.val
  have h1 := hr _ (SPC_low n).1
  have h2 := hr _ (SPC_low n).2
  have e : s.latch n.val = (s.latching n.val).slotLatched n.val := rfl
  rw [e]
  refine ⟨?_, ?_, fun g hg => ?_, ?_, fun o ho => ?_⟩
  · rw [ch_of_reg h1, State.latching, set1_eq, ch_of_reg (reg_wr_ne d _ _ _), State.chGate, ch_of_reg (emit_reg ..), State.setCh,
      State.ch, rd_wr _ _ _ _ (by decide)]
    rfl
  · rw [on_of_reg h2, State.latching, set1_eq, on_wr_one (by decide) (by decide)]
  · rw [on_of_reg h2, State.latching, set1_eq, on_wr_other _ _ _ _ _ _ (by decide) (.inr hg), State.chGate, emit_on, State.setCh,
      on_wr_ne d.symm]
  · rw [← slotFlacon_of_fml (latching_fml s n.val)]
    exact hasRaisedOn_raised (raised_of_flt hf) (hasRaisedOn_raise _ _ fun i => slotFlacon_lt)
  · refine raised_of_flt hf o (raise_keeps_raised _ _ _ o ?_)
    rw [latching_flt]
    exact ho

/-! ### Trips -/

/-- The counter of a trip's cause. -/
def tripCnt (k : Nat) : Fld := if k = 1 then Fld.SPC_CNT.TIMER_TRIPS else if k = 3 then Fld.SPC_CNT.HARD_TRIPS else Fld.SPC_CNT.THERMAL_TRIPS

/-- A trip as it is logged. -/
def State.tripLogged (s : State) (n k : Nat) (m : ChanMeas) : State :=
  ((((s.showChan n m).wr (Reg.SPC_STATE n) Fld.SPC_STATE.LAST_TRIP k).inc (Reg.SPC_CNT n) (tripCnt k)).set1 (Reg.SPC_ERR n)
    Fld.SPC_ERR.TRIP).raise (srcSlot n 3) (s.slotFlacon n)

/-- A channel that has tripped, before it cools or latches. -/
def State.tripped (s : State) (n k : Nat) (m : ChanMeas) : State :=
  ((((s.tripLogged n k m).set0 (Reg.SPC_STATE n) Fld.SPC_STATE.IN_LIMIT).setPg n false).wr (Reg.SPC_TIMER n)
    Fld.SPC_TIMER.FAULT_ELAPSED 0).wr (Reg.SPC_TIMER n) Fld.SPC_TIMER.COOL_ELAPSED 0

theorem trip_runs {s : State} {n : Nat} (k : Nat) (m : ChanMeas) (h : s.ch n ∈ [Ch.RAMP, Ch.QUAL, Ch.ON]) : s.trip n k m =
    if 0 < s.rd (Reg.SPC_STATE n) Fld.SPC_STATE.RETRIES_LEFT then
      (((s.tripped n k m).setCh n Ch.COOL).chGate n false).zeroIfDue n
    else (s.tripped n k m).latch n := by
  refine if_neg ?_
  simp only [List.mem_cons, List.not_mem_nil, or_false] at h
  rcases h with h | h | h <;> rw [h] <;> decide

theorem tripLogged_fml (s : State) (n k : Nat) (m : ChanMeas) : (s.tripLogged n k m).fml = s.fml := by
  rw [State.tripLogged, raise_fml, set1_eq, wr_fml, inc_eq, addTo_eq, wr_fml, wr_fml, rest_fml (showChan_rest s n m)]

theorem tripLogged_chan (s : State) (n k : Nat) (m : ChanMeas) : (s.tripLogged n k m).regsBut s (s.chanRegs n) := by
  rw [State.tripLogged, set1_eq, inc_eq, addTo_eq]
  exact raise_chan (wr_chan (wr_chan (wr_chan (showChan_chan s n m) (SPC_STATE_mem s n) _ _) (SPC_CNT_mem s n) _ _)
    (SPC_ERR_mem s n) _ _) _ _

/-- What a trip leaves before the channel cools or latches. -/
theorem tripped_spec (s : State) (n : SlotIx) {k : Nat} (hk : k < 8) (m : ChanMeas) :
    (s.tripped n.val k m).rd (Reg.SPC_STATE n.val) Fld.SPC_STATE.LAST_TRIP = k ∧
      (s.tripped n.val k m).on (Reg.SPC_STATE n.val) Fld.SPC_STATE.PG = false ∧
      (s.tripped n.val k m).on (Reg.SPC_ERR n.val) Fld.SPC_ERR.TRIP = true ∧
      (s.tripped n.val k m).rd (Reg.SPC_TIMER n.val) Fld.SPC_TIMER.FAULT_ELAPSED = 0 ∧
      (s.tripped n.val k m).rd (Reg.SPC_TIMER n.val) Fld.SPC_TIMER.COOL_ELAPSED = 0 ∧
      (s.tripped n.val k m).hasRaisedOn (srcSlot n.val 3) (s.slotFlacon n.val) ∧
      (s.tripped n.val k m).regsBut s (s.chanRegs n.val) ∧ (s.tripped n.val k m).fml = s.fml := by
  have dt := SPC_STATE_ne_TIMER n.val
  have de := SPC_STATE_ne_ERR n.val
  have dc := SPC_STATE_ne_CNT n.val
  have det : Reg.SPC_ERR n.val ≠ Reg.SPC_TIMER n.val := by simp only [Reg.SPC_ERR, Reg.SPC_TIMER]; omega
  have hfml : ((s.tripLogged n.val k m).set0 (Reg.SPC_STATE n.val) Fld.SPC_STATE.IN_LIMIT).fml = s.fml := by
    rw [set0_eq, wr_fml, tripLogged_fml]
  have hreg : ((s.tripLogged n.val k m).set0 (Reg.SPC_STATE n.val) Fld.SPC_STATE.IN_LIMIT).regsBut s (s.chanRegs n.val) := by
    rw [set0_eq]
    exact wr_chan (tripLogged_chan s n.val k m) (SPC_STATE_mem s _) _ _
  obtain ⟨p1, p2, p3, -, p5⟩ := setPg_spec ((s.tripLogged n.val k m).set0 (Reg.SPC_STATE n.val) Fld.SPC_STATE.IN_LIMIT) n false
  refine ⟨?_, ?_, ?_, ?_, ?_, ?_, ?_, ?_⟩
  · rw [State.tripped, rd_wr_ne dt, rd_wr_ne dt, p3 _ (by decide), set0_eq, rd_wr_other _ _ _ _ _ _ (by decide) (.inr (by decide)),
      State.tripLogged, raise_rd, set1_eq, rd_wr_ne de, inc_eq, addTo_eq, rd_wr_ne dc, rd_wr _ _ _ _ (by decide)]
    exact Nat.mod_eq_of_lt hk
  · rw [State.tripped, on_wr_ne dt, on_wr_ne dt, p2]
  · rw [State.tripped, on_wr_ne det, on_wr_ne det, on_of_reg (p5 _ de.symm fun q _ => SPC_ERR_ne_HP n q), set0_eq, on_wr_ne de.symm,
      State.tripLogged, raise_on, set1_eq, on_wr_one (by decide) (by decide)]
  · rw [State.tripped, rd_wr_other _ _ _ _ _ _ (by decide) (.inr (by decide)), rd_wr _ _ _ _ (by decide), Nat.zero_mod]
  · rw [State.tripped, rd_wr _ _ _ _ (by decide), Nat.zero_mod]
  · refine hasRaisedOn_raised (t := s.tripLogged n.val k m) (raised_of_flt ?_) (hasRaisedOn_raise _ _ fun i => slotFlacon_lt)
    rw [State.tripped, wr_flt, wr_flt, rest_flt p1, set0_eq, wr_flt]
  · exact wr_chan (wr_chan (setPg_chan hfml hreg false) (SPC_TIMER_mem s _) _ _) (SPC_TIMER_mem s _) _ _
  · rw [State.tripped, wr_fml, wr_fml, rest_fml p1, hfml]

/-! ### The events of a channel, case by case -/

theorem ch_setCh (s : State) (n : Nat) {x : Nat} (h : x < 8) : (s.setCh n x).ch n = x := by
  rw [State.setCh, State.ch, rd_wr _ _ _ _ (by decide)]
  exact Nat.mod_eq_of_lt h

/-- An offset zero as it is shown. -/
def State.zeroShown (s : State) (n : Nat) (o r : Int) : State :=
  (((s.set0 (Reg.SPC_STATE n) Fld.SPC_STATE.ZEROING).set0 (Reg.SPC_STATE n) Fld.SPC_STATE.ZERO_DUE).wrS (Reg.SPC_ZERO n)
    Fld.SPC_ZERO.OFFSET o).wrS (Reg.SPC_ZERO n) Fld.SPC_ZERO.T_ZERO r

theorem zeroDone_zero {s : State} {n : Nat} (o r : Int) (v : Nat) (hz : s.on (Reg.SPC_STATE n) Fld.SPC_STATE.ZEROING = true)
    (hc : s.ch n = Ch.ZERO) : s.zeroDone n o r v =
      if s.supplyOk n v then (((s.zeroShown n o r).setCh n Ch.RAMP).inc (Reg.SPC_CNT n) Fld.SPC_CNT.RAMPS).chGate n true
      else ((s.zeroShown n o r).spcCfgErr n).latch n := by
  have h1 : ¬ (!s.on (Reg.SPC_STATE n) Fld.SPC_STATE.ZEROING) = true := by rw [hz]; decide
  exact (if_neg h1).trans (if_neg (not_not.mpr hc))

theorem zeroShown_rest (s : State) (n : Nat) (o r : Int) : (s.zeroShown n o r).rest = s.rest := by
  rw [State.zeroShown, wrS_eq, wr_rest, wrS_eq, wr_rest, set0_eq, wr_rest, set0_eq, wr_rest]

theorem zeroShown_reg (s : State) (n : Nat) (o r : Int) (a : Nat) (h1 : a ≠ Reg.SPC_STATE n) (h2 : a ≠ Reg.SPC_ZERO n) :
    (s.zeroShown n o r).reg a = s.reg a := by
  rw [State.zeroShown, wrS_eq, reg_wr_ne h2, wrS_eq, reg_wr_ne h2, set0_eq, reg_wr_ne h1, set0_eq, reg_wr_ne h1]

theorem zeroShown_chan (s : State) (n : Nat) (o r : Int) : (s.zeroShown n o r).regsBut s (s.chanRegs n) := fun a ha =>
  zeroShown_reg s n o r a (not_chanRegs ha).1 (not_chanRegs ha).2.2.2.2.2.1

theorem zeroShown_zeroing (s : State) (n : Nat) (o r : Int) :
    (s.zeroShown n o r).on (Reg.SPC_STATE n) Fld.SPC_STATE.ZEROING = false := by
  have d := SPC_STATE_ne_ZERO n
  rw [State.zeroShown, wrS_eq, on_wr_ne d, wrS_eq, on_wr_ne d, set0_eq, on_wr_other _ _ _ _ _ _ (by decide) (.inr (by decide)),
    set0_eq, on_wr_zero (by decide)]

theorem exec_trip {s : State} {n : SlotIx} {m : ChanMeas} {c : Instr} {k : Nat} (h : (c, k) ∈ [(Instr.faultTimerTrip n m, 1),
    (.thermalTrip n m false, 2), (.hardTrip n m, 3), (.thermalTrip n m true, 4)]) :
    exec c s = done ((s.trip n.val k m).trefMoved n.val true) ∧ k < 8 := by
  simp only [List.mem_cons, List.not_mem_nil, or_false, Prod.mk.injEq] at h
  rcases h with ⟨rfl, rfl⟩ | ⟨rfl, rfl⟩ | ⟨rfl, rfl⟩ | ⟨rfl, rfl⟩ <;> exact ⟨rfl, by decide⟩

theorem trip_cause {n : SlotIx} {m : ChanMeas} {c : Instr} (h : c ∈ [Instr.faultTimerTrip n m, .thermalTrip n m false,
    .hardTrip n m, .thermalTrip n m true]) : ∃ k, (c, k) ∈ [(Instr.faultTimerTrip n m, 1),
    (.thermalTrip n m false, 2), (.hardTrip n m, 3), (.thermalTrip n m true, 4)] := by
  simp only [List.mem_cons, List.not_mem_nil, or_false] at h
  rcases h with rfl | rfl | rfl | rfl
  · exact ⟨1, by simp⟩
  · exact ⟨2, by simp⟩
  · exact ⟨3, by simp⟩
  · exact ⟨4, by simp⟩

theorem tabGet_modChan (s : State) (n : Nat) (g : ChannelState → ChannelState) :
    tabGet (s.modChan n g).pwr.ch n {} = g (tabGet s.pwr.ch n {}) := by
  unfold State.modChan tabMod
  rw [tabGet_tabPut, if_pos rfl]

/-- A channel on its way to OFF, before its gate falls. -/
def State.goingOff (s : State) (n : Nat) : State :=
  (((s.setCh n Ch.OFF).set0 (Reg.SPC_STATE n) Fld.SPC_STATE.IN_LIMIT).setPg n false).wr (Reg.SPC_TIMER n)
    Fld.SPC_TIMER.FAULT_ELAPSED 0

theorem chOff_eq (s : State) (n : Nat) : s.chOff n =
    (if s.ch n = Ch.OFF then s.goingOff n else (s.goingOff n).chGate n false).zeroIfDue n := rfl

theorem goingOff_rest (s : State) (n : Nat) : (s.goingOff n).rest = s.rest := by
  have h : (((s.setCh n Ch.OFF).set0 (Reg.SPC_STATE n) Fld.SPC_STATE.IN_LIMIT).setPg n false).rest =
      ((s.setCh n Ch.OFF).set0 (Reg.SPC_STATE n) Fld.SPC_STATE.IN_LIMIT).rest := by
    unfold State.setPg
    simp only [wrB_eq]
    split
    · rw [wr_rest, wr_rest]
    · rw [wr_rest]
  rw [State.goingOff, wr_rest, h, set0_eq, wr_rest, State.setCh, wr_rest]

theorem chOff_pwr (s : State) (n : Nat) : (s.chOff n).pwr = s.pwr := by
  rw [chOff_eq, rest_pwr (zeroIfDue_kept _ n).rest]
  split
  · rw [rest_pwr (goingOff_rest s n)]
  · rw [State.chGate, emit_pwr, rest_pwr (goingOff_rest s n)]

/-- What a channel that goes off leaves of a state s0 whose registers it alone has changed. -/
theorem chOff_spec {s0 s : State} (n : SlotIx) (hd : s.ch n.val ≠ Ch.OFF) (hc : s.calm s0) (hf : s.fml = s0.fml)
    (hb : s.regsBut s0 (s0.chanRegs n.val)) :
    (s.chOff n.val).ch n.val = Ch.OFF ∧ Out.pin (.spcGate n) false ∈ (s.chOff n.val).out ∧
      (s.chOff n.val).rd (Reg.SPC_TIMER n.val) Fld.SPC_TIMER.FAULT_ELAPSED = 0 ∧ (s.chOff n.val).calm s0 ∧
      (s.chOff n.val).regsBut s0 (s0.chanRegs n.val) := by
  have z := zeroIfDue_kept ((s.goingOff n.val).chGate n.val false) n.val
  have dt := SPC_STATE_ne_TIMER n.val
  have hfml : ((s.setCh n.val Ch.OFF).set0 (Reg.SPC_STATE n.val) Fld.SPC_STATE.IN_LIMIT).fml = s0.fml := by
    rw [set0_eq, wr_fml, State.setCh, wr_fml, hf]
  have hreg : ((s.setCh n.val Ch.OFF).set0 (Reg.SPC_STATE n.val) Fld.SPC_STATE.IN_LIMIT).regsBut s0 (s0.chanRegs n.val) := by
    rw [set0_eq]
    exact wr_chan (wr_chan hb (SPC_STATE_mem s0 _) _ _) (SPC_STATE_mem s0 _) _ _
  have hgo : (s.goingOff n.val).regsBut s0 (s0.chanRegs n.val) := wr_chan (setPg_chan hfml hreg false) (SPC_TIMER_mem s0 _) _ _
  have hgs : ∀ a ∈ calmRegs, (s.goingOff n.val).reg a = s.reg a := fun a ha => by
    rw [hgo a (calmRegs_not_chan s0 n a ha), hb a (calmRegs_not_chan s0 n a ha)]
  obtain ⟨-, -, p3, -⟩ := setPg_spec ((s.setCh n.val Ch.OFF).set0 (Reg.SPC_STATE n.val) Fld.SPC_STATE.IN_LIMIT) n false
  have e : s.chOff n.val = ((s.goingOff n.val).chGate n.val false).zeroIfDue n.val := by rw [chOff_eq, if_neg hd]
  rw [e]
  refine ⟨?_, ?_, ?_, z.calm (calm_emit (calm_trans (calm_of_rest (goingOff_rest s n.val) hgs) hc) _), z.chan hgo⟩
  · refine z.ch.trans ((ch_of_reg (emit_reg ..)).trans ?_)
    rw [State.goingOff, ch_of_reg (reg_wr_ne dt _ _ _)]
    refine (p3 _ (by decide)).trans ?_
    rw [set0_eq]
    exact (rd_wr_other _ _ _ _ _ _ (by decide) (.inr (by decide))).trans (ch_setCh _ _ (by decide))
  · rw [rest_out z.rest, State.chGate, show (Fin.ofNat 32 n.val : Fin 32) = n from Fin.ofNat_val_eq_self n]
    exact List.mem_cons_self ..
  · rw [rd_of_reg (z.regs _ dt.symm), State.chGate, emit_rd, State.goingOff, rd_wr _ _ _ _ (by decide), Nat.zero_mod]

/-- T_ref has not moved enough. -/
theorem trefMoved_still {s : State} {n : Nat} (h : s.on (Reg.SPC_CFG n) Fld.SPC_CFG.VALID = false ∨
    (s.tref n - s.rdS (Reg.SPC_ZERO n) Fld.SPC_ZERO.T_ZERO).natAbs ≤ 160) : s.trefMoved n true = s := by
  refine if_pos ?_
  rcases h with h | h
  · exact .inl (by rw [h]; rfl)
  · exact .inr (.inr (.inr (.inr h)))

/-- An offset zero ends and the ramp starts. -/
theorem offsetZeroDone_ramps (s : State) (n : SlotIx) (o r : Int) (v : Nat) :
    s.quiet = true →
  s.on (Reg.SPC_STATE n.val) Fld.SPC_STATE.ZEROING = true → s.ch n.val = Ch.ZERO → s.supplyOk n.val v = true →
  Answers (exec (.offsetZeroDone n o r v) s) fun t =>
    t.ch n.val = Ch.RAMP ∧ t.on (Reg.SPC_STATE n.val) Fld.SPC_STATE.ZEROING = false ∧
    t.rd (Reg.SPC_CNT n.val) Fld.SPC_CNT.RAMPS =
      min (2 ^ Fld.SPC_CNT.RAMPS.width - 1) (s.rd (Reg.SPC_CNT n.val) Fld.SPC_CNT.RAMPS + 1) ∧
    Out.pin (.spcGate n) true ∈ t.out ∧
    t.regsBut s [Reg.SPC_STATE n.val, Reg.SPC_ZERO n.val, Reg.SPC_CNT n.val] := by
  intro hq hz hc hs
  change Answers (done (s.zeroDone n.val o r v)) _
  have dz := SPC_STATE_ne_ZERO n.val
  have dc := SPC_STATE_ne_CNT n.val
  have dcz : Reg.SPC_CNT n.val ≠ Reg.SPC_ZERO n.val := by simp only [Reg.SPC_CNT, Reg.SPC_ZERO]; omega
  have e : s.zeroDone n.val o r v = (((s.zeroShown n.val o r).setCh n.val Ch.RAMP).inc (Reg.SPC_CNT n.val) Fld.SPC_CNT.RAMPS).chGate
      n.val true := by
    rw [zeroDone_zero o r v hz hc, if_pos hs]
  have hcalm : ((s.zeroShown n.val o r).setCh n.val Ch.RAMP).calm s := by
    refine calm_of_chan (n := n) ?_ ?_
    · rw [State.setCh, wr_rest, zeroShown_rest]
    · exact wr_chan (zeroShown_chan s n.val o r) (SPC_STATE_mem s _) _ _
  have hcalm2 : (((s.zeroShown n.val o r).setCh n.val Ch.RAMP).inc (Reg.SPC_CNT n.val) Fld.SPC_CNT.RAMPS).calm s := by
    rw [inc_eq, addTo_eq]
    exact calm_wr hcalm (fun h => calmRegs_not_chan s n _ h (SPC_CNT_mem s _)) _ _
  rw [e, State.chGate]
  refine answers_after hq (calm_emit hcalm2 _) fun t h => ⟨?_, ?_, ?_, ?_, fun a ha => ?_⟩
  · rw [ch_of_reg (reg_of_regs h.regs _), ch_of_reg (emit_reg ..), inc_eq, addTo_eq, ch_of_reg (reg_wr_ne dc _ _ _), State.setCh,
      State.ch, rd_wr _ _ _ _ (by decide)]
    rfl
  · rw [on_of_reg (reg_of_regs h.regs _), emit_on, inc_eq, addTo_eq, on_wr_ne dc, State.setCh,
      on_wr_other _ _ _ _ _ _ (by decide) (.inr (by decide)), zeroShown_zeroing]
  · rw [rd_of_reg (reg_of_regs h.regs _), emit_rd, State.inc, rd_addTo _ _ _ _ (by decide), State.setCh, rd_wr_ne dc.symm,
      rd_of_reg (zeroShown_reg s _ _ _ _ dc.symm dcz)]
  · refine h.out _ (List.mem_cons.mpr (.inl ?_))
    rw [show (Fin.ofNat 32 n.val : Fin 32) = n from Fin.ofNat_val_eq_self n]
  · simp only [List.mem_cons, List.not_mem_nil, or_false, not_or] at ha
    obtain ⟨n1, n2, n3⟩ := ha
    rw [reg_of_regs h.regs, emit_reg, inc_eq, addTo_eq, reg_wr_ne n3, State.setCh, reg_wr_ne n1, zeroShown_reg s _ _ _ _ n1 n2]

/-- An offset zero ends while the supply does not allow the ramp. -/
theorem offsetZeroDone_latches (s : State) (n : SlotIx) (o r : Int) (v : Nat) :
    s.on (Reg.SPC_STATE n.val) Fld.SPC_STATE.ZEROING = true →
  s.ch n.val = Ch.ZERO → s.supplyOk n.val v = false → (∀ q, s.slotPort n.val = some q → q < 128) →
  Leaves (exec (.offsetZeroDone n o r v) s) fun u =>
    u.ch n.val = Ch.LATCHED ∧ u.on (Reg.SPC_ERR n.val) Fld.SPC_ERR.CFG = true ∧
    u.on (Reg.SPC_ERR n.val) Fld.SPC_ERR.LATCHED = true ∧ u.hasRaisedOn (srcSlot n.val 4) (s.slotFlacon n.val) ∧
    u.hasRaisedOn (srcSlot n.val 1) (s.slotFlacon n.val) := by
  intro hz hc hs _
  change Leaves (done (s.zeroDone n.val o r v)) _
  refine ⟨_, rfl, ?_⟩
  have e : s.zeroDone n.val o r v = ((s.zeroShown n.val o r).spcCfgErr n.val).latch n.val := by
    rw [zeroDone_zero o r v hz hc, if_neg (by rw [hs]; decide)]
  have hfml : (s.zeroShown n.val o r).fml = s.fml := rest_fml (zeroShown_rest s n.val o r)
  have hfml2 : ((s.zeroShown n.val o r).spcCfgErr n.val).fml = s.fml := by
    rw [State.spcCfgErr, raise_fml, set1_eq, wr_fml, hfml]
  obtain ⟨k1, k2, k3, k4, k5⟩ := latch_spec ((s.zeroShown n.val o r).spcCfgErr n.val) n
  rw [e]
  refine ⟨k1, ?_, k2, ?_, ?_⟩
  · rw [k3 _ (by decide), State.spcCfgErr, raise_on, set1_eq, on_wr_one (by decide) (by decide)]
  · refine hasRaisedOn_raised k5 ?_
    rw [← slotFlacon_of_fml hfml]
    exact hasRaisedOn_raise _ _ fun i => slotFlacon_lt
  · rw [← slotFlacon_of_fml hfml2]
    exact k4

/-- The ramp is complete. -/
theorem rampComplete_qualifies (s : State) (n : SlotIx) (m : ChanMeas) :
    s.quiet = true → s.ch n.val = Ch.RAMP →
  Answers (exec (.rampComplete n m) s) fun t =>
    t.ch n.val = Ch.QUAL ∧ t.rd (Reg.SPC_MEAS n.val) Fld.SPC_MEAS.IOUT_MA = m.iout % 2 ^ 16 ∧
    t.rd (Reg.SPC_MEAS n.val) Fld.SPC_MEAS.VOUT_MV = m.vout % 2 ^ 16 ∧ t.regsBut s (s.chanRegs n.val) := by
  intro hq hc
  change Answers (done ((s.rampDone n.val m).trefMoved n.val true)) _
  have e : s.rampDone n.val m = (s.showChan n.val m).setCh n.val Ch.QUAL := if_pos hc
  have hb : ((s.showChan n.val m).setCh n.val Ch.QUAL).regsBut s (s.chanRegs n.val) :=
    wr_chan (showChan_chan s n.val m) (SPC_STATE_mem s _) _ _
  have hr : ((s.showChan n.val m).setCh n.val Ch.QUAL).rest = s.rest := (wr_rest ..).trans (showChan_rest s n.val m)
  obtain ⟨r1, r2⟩ := showChan_rd s n.val m
  have dm := (SPC_STATE_ne_MEAS n.val).symm
  rw [e]
  refine answers_chan hq (calm_of_chan hr hb) fun t hf hreg _ _ => ⟨?_, ?_, ?_, fun a ha => (hreg a (not_chanRegs ha).1).trans (hb a ha)⟩
  · exact (hf _ (by decide) (by decide)).trans (ch_setCh _ _ (by decide))
  · rw [rd_of_reg (hreg _ dm), State.setCh, rd_wr_ne dm, r1]
  · rw [rd_of_reg (hreg _ dm), State.setCh, rd_wr_ne dm, r2]

/-- The output has been good for long enough. -/
theorem pgQualified_on (s : State) (n : SlotIx) (m : ChanMeas) :
    s.quiet = true → s.ch n.val = Ch.QUAL →
  s.on (Reg.SPC_STATE n.val) Fld.SPC_STATE.IN_LIMIT = false → (∀ q, s.slotPort n.val = some q → q < 128) →
  Answers (exec (.pgQualified n m) s) fun t =>
    t.ch n.val = Ch.ON ∧ t.on (Reg.SPC_STATE n.val) Fld.SPC_STATE.PG = true ∧
    (∀ q, s.slotPort n.val = some q → t.on (Reg.PT_HP_STATUS q) Fld.PT_HP_STATUS.PG = true) ∧
    t.regsBut s (s.chanRegs n.val) := by
  intro hq hc hl _
  change Answers (done ((s.pgDone n.val m).trefMoved n.val true)) _
  have e : s.pgDone n.val m = (((s.showChan n.val m).setCh n.val Ch.ON).setPg n.val true).zeroIfDue n.val :=
    if_pos ⟨hc, by rw [hl]; rfl⟩
  have hb1 : ((s.showChan n.val m).setCh n.val Ch.ON).regsBut s (s.chanRegs n.val) :=
    wr_chan (showChan_chan s n.val m) (SPC_STATE_mem s _) _ _
  have hr1 : ((s.showChan n.val m).setCh n.val Ch.ON).rest = s.rest := (wr_rest ..).trans (showChan_rest s n.val m)
  obtain ⟨p1, p2, p3, p4, p5⟩ := setPg_spec ((s.showChan n.val m).setCh n.val Ch.ON) n true
  have hb2 := setPg_chan (rest_fml hr1) hb1 true
  have z := zeroIfDue_kept (((s.showChan n.val m).setCh n.val Ch.ON).setPg n.val true) n.val
  rw [e]
  refine answers_chan hq (z.calm (calm_of_chan (p1.trans hr1) hb2)) fun t hf hreg _ _ =>
    ⟨?_, ?_, fun q hq => ?_, fun a ha => (hreg a (not_chanRegs ha).1).trans (z.chan hb2 a ha)⟩
  · exact (hf _ (by decide) (by decide)).trans (z.ch.trans ((p3 _ (by decide)).trans (ch_setCh _ _ (by decide))))
  · rw [on_of_rd (hf _ (by decide) (by decide)), z.on (by decide) (by decide), p2]
  · have d := (SPC_STATE_ne_HP n q).symm
    rw [on_of_reg (hreg _ d), on_of_reg (z.regs _ d), p4 q ((slotPort_of_fml (rest_fml hr1) _).trans hq)]

/-- The output is low. -/
theorem channelOutputLow_qualifies (s : State) (n : SlotIx) (m : ChanMeas) :
    s.quiet = true → s.ch n.val = Ch.ON →
  (∀ q, s.slotPort n.val = some q → q < 128) →
  Answers (exec (.channelOutputLow n m) s) fun t =>
    t.ch n.val = Ch.QUAL ∧ t.on (Reg.SPC_STATE n.val) Fld.SPC_STATE.PG = false ∧ t.regsBut s (s.chanRegs n.val) := by
  intro hq hc _
  change Answers (done ((s.outputLow n.val m).trefMoved n.val true)) _
  have e : s.outputLow n.val m = ((s.showChan n.val m).setCh n.val Ch.QUAL).setPg n.val false := if_pos hc
  have hb1 : ((s.showChan n.val m).setCh n.val Ch.QUAL).regsBut s (s.chanRegs n.val) :=
    wr_chan (showChan_chan s n.val m) (SPC_STATE_mem s _) _ _
  have hr1 : ((s.showChan n.val m).setCh n.val Ch.QUAL).rest = s.rest := (wr_rest ..).trans (showChan_rest s n.val m)
  obtain ⟨p1, p2, p3, p4, p5⟩ := setPg_spec ((s.showChan n.val m).setCh n.val Ch.QUAL) n false
  have hb2 := setPg_chan (rest_fml hr1) hb1 false
  rw [e]
  refine answers_chan hq (calm_of_chan (p1.trans hr1) hb2) fun t hf hreg _ _ =>
    ⟨?_, ?_, fun a ha => (hreg a (not_chanRegs ha).1).trans (hb2 a ha)⟩
  · exact (hf _ (by decide) (by decide)).trans ((p3 _ (by decide)).trans (ch_setCh _ _ (by decide)))
  · rw [on_of_rd (hf _ (by decide) (by decide)), p2]

/-- The channel enters its limit. -/
theorem channelInLimit_qualifies (s : State) (n : SlotIx) (m : ChanMeas) :
    s.quiet = true → s.ch n.val = Ch.ON →
  (∀ q, s.slotPort n.val = some q → q < 128) →
  Answers (exec (.channelInLimit n m) s) fun t =>
    t.ch n.val = Ch.QUAL ∧ t.on (Reg.SPC_STATE n.val) Fld.SPC_STATE.IN_LIMIT = true ∧
    t.on (Reg.SPC_STATE n.val) Fld.SPC_STATE.PG = false ∧ t.regsBut s (s.chanRegs n.val) := by
  intro hq hc _
  change Answers (done ((s.inLimit n.val m).trefMoved n.val true)) _
  have e : s.inLimit n.val m = (((s.showChan n.val m).set1 (Reg.SPC_STATE n.val) Fld.SPC_STATE.IN_LIMIT).setCh n.val Ch.QUAL).setPg
      n.val false := by
    have hlive : ¬ (!chLive (s.ch n.val)) = true := by rw [hc]; decide
    exact (if_neg hlive).trans (if_pos hc)
  have hb1 : (((s.showChan n.val m).set1 (Reg.SPC_STATE n.val) Fld.SPC_STATE.IN_LIMIT).setCh n.val Ch.QUAL).regsBut s
      (s.chanRegs n.val) := by
    rw [set1_eq]
    exact wr_chan (wr_chan (showChan_chan s n.val m) (SPC_STATE_mem s _) _ _) (SPC_STATE_mem s _) _ _
  have hr1 : (((s.showChan n.val m).set1 (Reg.SPC_STATE n.val) Fld.SPC_STATE.IN_LIMIT).setCh n.val Ch.QUAL).rest = s.rest := by
    rw [State.setCh, wr_rest, set1_eq, wr_rest, showChan_rest]
  obtain ⟨p1, p2, p3, p4, p5⟩ := setPg_spec
    (((s.showChan n.val m).set1 (Reg.SPC_STATE n.val) Fld.SPC_STATE.IN_LIMIT).setCh n.val Ch.QUAL) n false
  have hb2 := setPg_chan (rest_fml hr1) hb1 false
  rw [e]
  refine answers_chan hq (calm_of_chan (p1.trans hr1) hb2) fun t hf hreg _ _ =>
    ⟨?_, ?_, ?_, fun a ha => (hreg a (not_chanRegs ha).1).trans (hb2 a ha)⟩
  · exact (hf _ (by decide) (by decide)).trans ((p3 _ (by decide)).trans (ch_setCh _ _ (by decide)))
  · rw [on_of_rd (hf _ (by decide) (by decide)), on_of_rd (p3 _ (by decide)), State.setCh,
      on_wr_other _ _ _ _ _ _ (by decide) (.inr (by decide)), set1_eq, on_wr_one (by decide) (by decide)]
  · rw [on_of_rd (hf _ (by decide) (by decide)), p2]

/-- The channel leaves its limit. -/
theorem inLimitClear_shown (s : State) (n : SlotIx) (m : ChanMeas) :
    s.quiet = true →
  s.on (Reg.SPC_STATE n.val) Fld.SPC_STATE.IN_LIMIT = true →
  Answers (exec (.inLimitClear n m) s) fun t =>
    t.on (Reg.SPC_STATE n.val) Fld.SPC_STATE.IN_LIMIT = false ∧ t.ch n.val = s.ch n.val ∧
    t.regsBut s (s.chanRegs n.val) := by
  intro hq hl
  change Answers (done ((s.inLimitClear n.val m).trefMoved n.val true)) _
  have e : s.inLimitClear n.val m = (s.showChan n.val m).wr (Reg.SPC_STATE n.val) Fld.SPC_STATE.IN_LIMIT 0 := by
    rw [← set0_eq]
    exact if_pos hl
  have hb : ((s.showChan n.val m).wr (Reg.SPC_STATE n.val) Fld.SPC_STATE.IN_LIMIT 0).regsBut s (s.chanRegs n.val) :=
    wr_chan (showChan_chan s n.val m) (SPC_STATE_mem s _) _ _
  have hr : ((s.showChan n.val m).wr (Reg.SPC_STATE n.val) Fld.SPC_STATE.IN_LIMIT 0).rest = s.rest :=
    (wr_rest ..).trans (showChan_rest s n.val m)
  rw [e]
  refine answers_chan hq (calm_of_chan hr hb) fun t hf hreg _ _ => ⟨?_, ?_, fun a ha => (hreg a (not_chanRegs ha).1).trans (hb a ha)⟩
  · rw [on_of_rd (hf _ (by decide) (by decide)), on_wr_zero (by decide)]
  · refine (hf _ (by decide) (by decide)).trans ((rd_wr_other _ _ _ _ _ _ (by decide) (.inr (by decide))).trans ?_)
    exact ch_of_reg (showChan_state s n.val m)

/-- A trip with retries left. -/
theorem trip_cools (s : State) (n : SlotIx) (m : ChanMeas) (c : Instr) (k : Nat) :
    s.ch n.val ∈ [Ch.RAMP, Ch.QUAL, Ch.ON] →
  (c, k) ∈ [(Instr.faultTimerTrip n m, 1), (.thermalTrip n m false, 2), (.hardTrip n m, 3), (.thermalTrip n m true, 4)] →
  0 < s.rd (Reg.SPC_STATE n.val) Fld.SPC_STATE.RETRIES_LEFT → (∀ q, s.slotPort n.val = some q → q < 128) →
  Leaves (exec c s) fun u =>
    u.ch n.val = Ch.COOL ∧ u.rd (Reg.SPC_STATE n.val) Fld.SPC_STATE.LAST_TRIP = k ∧
    u.on (Reg.SPC_STATE n.val) Fld.SPC_STATE.PG = false ∧ u.on (Reg.SPC_ERR n.val) Fld.SPC_ERR.TRIP = true ∧
    u.rd (Reg.SPC_TIMER n.val) Fld.SPC_TIMER.FAULT_ELAPSED = 0 ∧
    u.rd (Reg.SPC_TIMER n.val) Fld.SPC_TIMER.COOL_ELAPSED = 0 ∧ Out.pin (.spcGate n) false ∈ u.out ∧
    u.hasRaisedOn (srcSlot n.val 3) (s.slotFlacon n.val) ∧ u.regsBut s (s.chanRegs n.val) := by
  intro hc hk hr _
  obtain ⟨e, hk⟩ := exec_trip (s := s) hk
  rw [e]
  refine ⟨_, rfl, ?_⟩
  obtain ⟨s1, s2, s3, s4, s5, s6, s7, s8⟩ := tripped_spec s n hk m
  have dt := (SPC_STATE_ne_TIMER n.val).symm
  have de := (SPC_STATE_ne_ERR n.val).symm
  have z := chanKept_trans (trefMoved_kept _ n.val true)
    (zeroIfDue_kept (((s.tripped n.val k m).setCh n.val Ch.COOL).chGate n.val false) n.val)
  rw [trip_runs k m hc, if_pos hr]
  refine ⟨?_, ?_, ?_, ?_, ?_, ?_, ?_, ?_, z.chan fun a ha => ?_⟩
  · exact z.ch.trans ((ch_of_reg (emit_reg ..)).trans (ch_setCh _ _ (by decide)))
  · rw [z.fields _ (by decide) (by decide), State.chGate, emit_rd, State.setCh, rd_wr_other _ _ _ _ _ _ (by decide) (.inr (by decide)), s1]
  · rw [z.on (by decide) (by decide), State.chGate, emit_on, State.setCh, on_wr_other _ _ _ _ _ _ (by decide) (.inr (by decide)), s2]
  · rw [on_of_reg (z.regs _ de), State.chGate, emit_on, State.setCh, on_wr_ne de, s3]
  · rw [rd_of_reg (z.regs _ dt), State.chGate, emit_rd, State.setCh, rd_wr_ne dt, s4]
  · rw [rd_of_reg (z.regs _ dt), State.chGate, emit_rd, State.setCh, rd_wr_ne dt, s5]
  · rw [rest_out z.rest, State.chGate, show (Fin.ofNat 32 n.val : Fin 32) = n from Fin.ofNat_val_eq_self n]
    exact List.mem_cons_self ..
  · refine hasRaisedOn_raised (raised_of_flt ?_) s6
    rw [rest_flt z.rest, State.chGate, emit_flt, State.setCh, wr_flt]
  · rw [State.chGate, emit_reg, State.setCh, reg_wr_ne (not_chanRegs ha).1, s7 a ha]

/-- A trip without retries left. -/
theorem trip_latches (s : State) (n : SlotIx) (m : ChanMeas) (c : Instr) :
    s.ch n.val ∈ [Ch.RAMP, Ch.QUAL, Ch.ON] →
  c ∈ [Instr.faultTimerTrip n m, .thermalTrip n m false, .hardTrip n m, .thermalTrip n m true] →
  s.rd (Reg.SPC_STATE n.val) Fld.SPC_STATE.RETRIES_LEFT = 0 → (∀ q, s.slotPort n.val = some q → q < 128) →
  Leaves (exec c s) fun u =>
    u.ch n.val = Ch.LATCHED ∧ u.on (Reg.SPC_ERR n.val) Fld.SPC_ERR.LATCHED = true ∧
    u.hasRaisedOn (srcSlot n.val 3) (s.slotFlacon n.val) ∧ u.hasRaisedOn (srcSlot n.val 1) (s.slotFlacon n.val) := by
  intro hc hm hr _
  obtain ⟨k, hk⟩ := trip_cause hm
  obtain ⟨e, hk⟩ := exec_trip (s := s) hk
  rw [e]
  refine ⟨_, rfl, ?_⟩
  obtain ⟨-, -, -, -, -, s6, -, s8⟩ := tripped_spec s n hk m
  obtain ⟨l1, l2, -, l4, l5⟩ := latch_spec (s.tripped n.val k m) n
  have z := trefMoved_kept ((s.tripped n.val k m).latch n.val) n.val true
  rw [trip_runs k m hc, if_neg (by rw [hr]; decide)]
  refine ⟨z.ch.trans l1, ?_, ?_, ?_⟩
  · rw [on_of_reg (z.regs _ (SPC_STATE_ne_ERR n.val).symm), l2]
  · exact hasRaisedOn_raised (raised_of_flt (rest_flt z.rest)) (hasRaisedOn_raised l5 s6)
  · rw [← slotFlacon_of_fml s8]
    exact hasRaisedOn_raised (raised_of_flt (rest_flt z.rest)) l4

/-- The external diode reads out of range. -/
theorem spcDiode_shown (s : State) (n : SlotIx) (m : ChanMeas) :
    s.on (Reg.SPC_CFG n.val) Fld.SPC_CFG.EXT_DIODE = true →
  Leaves (exec (.spcDiode n m) s) fun u =>
    (tabGet u.pwr.ch n.val {}).diodeBad = true ∧ u.on (Reg.SPC_ERR n.val) Fld.SPC_ERR.DIODE = true ∧
    u.hasRaisedOn (srcSlot n.val 5) (s.slotFlacon n.val) ∧ u.ch n.val = s.ch n.val ∧ u.regsBut s (s.chanRegs n.val) := by
  intro hc
  change Leaves (done ((s.diodeOut n.val m).trefMoved n.val true)) _
  refine ⟨_, rfl, ?_⟩
  have hfml : (s.showChan n.val m).fml = s.fml := rest_fml (showChan_rest s n.val m)
  have e : s.diodeOut n.val m = (((s.showChan n.val m).modChan n.val fun x => { x with diodeBad := true }).wr (Reg.SPC_ERR n.val)
      Fld.SPC_ERR.DIODE 1).raise (srcSlot n.val 5) (s.slotFlacon n.val) := by
    rw [← set1_eq]
    exact if_neg (by rw [hc]; decide)
  have z := trefMoved_kept (s.diodeOut n.val m) n.val true
  have de := SPC_STATE_ne_ERR n.val
  refine ⟨?_, ?_, ?_, ?_, z.chan fun a ha => ?_⟩
  · rw [rest_pwr z.rest, e, raise_pwr, wr_pwr]
    exact congrArg ChannelState.diodeBad (tabGet_modChan ..)
  · rw [on_of_reg (z.regs _ de.symm), e, raise_on, on_wr_one (by decide) (by decide)]
  · refine hasRaisedOn_raised (raised_of_flt (rest_flt z.rest)) ?_
    rw [e]
    exact hasRaisedOn_raise _ _ fun i => slotFlacon_lt
  · rw [z.ch, e, ch_of_reg (raise_reg ..), ch_of_reg (reg_wr_ne de _ _ _), ch_of_reg (modChan_reg ..), ch_of_reg (showChan_state ..)]
  · rw [e, raise_reg, reg_wr_ne (not_chanRegs ha).2.2.2.2.1, modChan_reg, showChan_chan s n.val m a ha]

/-- The channel has cooled. -/
theorem coolDownDone_zeroes (s : State) (n : SlotIx) (m : ChanMeas) :
    s.quiet = true → s.ch n.val = Ch.COOL →
  Answers (exec (.coolDownDone n m) s) fun t =>
    t.ch n.val = Ch.ZERO ∧ t.on (Reg.SPC_STATE n.val) Fld.SPC_STATE.ZEROING = true ∧
    t.rd (Reg.SPC_STATE n.val) Fld.SPC_STATE.RETRIES_LEFT = s.rd (Reg.SPC_STATE n.val) Fld.SPC_STATE.RETRIES_LEFT - 1 ∧
    t.regsBut s (s.chanRegs n.val) := by
  intro hq hc
  change Answers (done ((s.coolDone n.val m).trefMoved n.val true)) _
  have e : s.coolDone n.val m = (((s.showChan n.val m).setCh n.val Ch.ZERO).wr (Reg.SPC_STATE n.val) Fld.SPC_STATE.RETRIES_LEFT
      (s.rd (Reg.SPC_STATE n.val) Fld.SPC_STATE.RETRIES_LEFT - 1)).startZero n.val := if_neg (not_not.mpr hc)
  have hb : (((s.showChan n.val m).setCh n.val Ch.ZERO).wr (Reg.SPC_STATE n.val) Fld.SPC_STATE.RETRIES_LEFT
      (s.rd (Reg.SPC_STATE n.val) Fld.SPC_STATE.RETRIES_LEFT - 1)).regsBut s (s.chanRegs n.val) :=
    wr_chan (wr_chan (showChan_chan s n.val m) (SPC_STATE_mem s _) _ _) (SPC_STATE_mem s _) _ _
  have hr : (((s.showChan n.val m).setCh n.val Ch.ZERO).wr (Reg.SPC_STATE n.val) Fld.SPC_STATE.RETRIES_LEFT
      (s.rd (Reg.SPC_STATE n.val) Fld.SPC_STATE.RETRIES_LEFT - 1)).rest = s.rest := by
    rw [wr_rest, State.setCh, wr_rest, showChan_rest]
  have z := startZero_kept (((s.showChan n.val m).setCh n.val Ch.ZERO).wr (Reg.SPC_STATE n.val) Fld.SPC_STATE.RETRIES_LEFT
    (s.rd (Reg.SPC_STATE n.val) Fld.SPC_STATE.RETRIES_LEFT - 1)) n.val
  rw [e]
  refine answers_chan hq (z.calm (calm_of_chan hr hb)) fun t hf hreg _ hz =>
    ⟨?_, hz (startZero_on _ _), ?_, fun a ha => (hreg a (not_chanRegs ha).1).trans (z.chan hb a ha)⟩
  · refine (hf _ (by decide) (by decide)).trans (z.ch.trans ?_)
    exact (rd_wr_other _ _ _ _ _ _ (by decide) (.inr (by decide))).trans (ch_setCh _ _ (by decide))
  · rw [hf _ (by decide) (by decide), z.fields _ (by decide) (by decide), rd_wr _ _ _ _ (by decide)]
    exact Nat.mod_eq_of_lt (lt_of_le_of_lt (Nat.sub_le ..) (getFld_lt _ _))

/-- The output has ramped down. -/
theorem rampDownDone_off (s : State) (n : SlotIx) (m : ChanMeas) :
    s.quiet = true → s.ch n.val = Ch.DOWN →
  (tabGet s.pwr.ch n.val {}).onRequested = false → (∀ q, s.slotPort n.val = some q → q < 128) →
  Answers (exec (.rampDownDone n m) s) fun t =>
    t.ch n.val = Ch.OFF ∧ Out.pin (.spcGate n) false ∈ t.out ∧
    t.rd (Reg.SPC_TIMER n.val) Fld.SPC_TIMER.FAULT_ELAPSED = 0 ∧ t.regsBut s (s.chanRegs n.val) := by
  intro hq hc hon _
  change Answers (done ((s.rampDownDone n.val m).trefMoved n.val true)) _
  have hreq : (tabGet ((s.showChan n.val m).chOff n.val).pwr.ch n.val {}).onRequested = false := by
    rw [chOff_pwr, rest_pwr (showChan_rest s n.val m), hon]
  have e : s.rampDownDone n.val m = (s.showChan n.val m).chOff n.val := by
    rw [← chServe_idle hreq]
    exact if_pos hc
  have hd : (s.showChan n.val m).ch n.val ≠ Ch.OFF := by
    rw [ch_of_reg (showChan_state s n.val m), hc]
    decide
  obtain ⟨k1, k2, k3, k4, k5⟩ := chOff_spec n hd (calm_of_chan (showChan_rest s n.val m) (showChan_chan s n.val m))
    (rest_fml (showChan_rest s n.val m)) (showChan_chan s n.val m)
  rw [e]
  refine answers_chan hq k4 fun t hf hreg hout _ => ⟨(hf _ (by decide) (by decide)).trans k1, hout _ k2, ?_,
    fun a ha => (hreg a (not_chanRegs ha).1).trans (k5 a ha)⟩
  rw [rd_of_reg (hreg _ (SPC_STATE_ne_TIMER n.val).symm), k3]

/-- A channel that is off heeds no event of a channel. -/
theorem channel_off_ignores (s : State) (n : SlotIx) (m : ChanMeas) (c : Instr) :
    s.quiet = true → s.ch n.val = Ch.OFF →
  c ∈ [Instr.rampComplete n m, .pgQualified n m, .channelOutputLow n m, .channelInLimit n m, .faultTimerTrip n m,
    .thermalTrip n m true, .hardTrip n m, .coolDownDone n m, .rampDownDone n m] →
  (s.on (Reg.SPC_CFG n.val) Fld.SPC_CFG.VALID = false ∨
    (s.tref n.val - s.rdS (Reg.SPC_ZERO n.val) Fld.SPC_ZERO.T_ZERO).natAbs ≤ 160) →
  Answers (exec c s) fun t => t.pwr = s.pwr ∧ t.regsBut s [] := by
  intro hq hc hm ht
  have e : exec c s = done s := by
    have h0 := trefMoved_still (n := n.val) ht
    have hl : ¬ chLive (s.ch n.val) = true := by rw [hc]; decide
    have f1 : s.rampDone n.val m = s := if_neg (by rw [hc]; decide)
    have f2 : s.pgDone n.val m = s := if_neg fun h => absurd (hc.symm.trans h.1) (by decide)
    have f3 : s.outputLow n.val m = s := if_neg (by rw [hc]; decide)
    have f4 : s.inLimit n.val m = s := if_pos (by rw [hc]; decide)
    have f5 : ∀ k, s.trip n.val k m = s := fun k => if_pos (by rw [hc]; decide)
    have f6 : s.coolDone n.val m = s := if_pos (by rw [hc]; decide)
    have f7 : s.rampDownDone n.val m = s := if_neg (by rw [hc]; decide)
    simp only [List.mem_cons, List.not_mem_nil, or_false] at hm
    rcases hm with rfl | rfl | rfl | rfl | rfl | rfl | rfl | rfl | rfl
    · change done ((s.rampDone n.val m).trefMoved n.val true) = _
      rw [f1, h0]
    · change done ((s.pgDone n.val m).trefMoved n.val true) = _
      rw [f2, h0]
    · change done ((s.outputLow n.val m).trefMoved n.val true) = _
      rw [f3, h0]
    · change done ((s.inLimit n.val m).trefMoved n.val true) = _
      rw [f4, h0]
    · change done ((s.trip n.val 1 m).trefMoved n.val true) = _
      rw [f5, h0]
    · change done ((s.trip n.val 4 m).trefMoved n.val true) = _
      rw [f5, h0]
    · change done ((s.trip n.val 3 m).trefMoved n.val true) = _
      rw [f5, h0]
    · change done ((s.coolDone n.val m).trefMoved n.val true) = _
      rw [f6, h0]
    · change done ((s.rampDownDone n.val m).trefMoved n.val true) = _
      rw [f7, h0]
  rw [e]
  exact answers_of_calm hq (calm_refl s) fun _ _ _ => ⟨rfl, fun _ _ => rfl⟩

/-- Settles O40: each event of a channel by the equation of its case. -/
theorem slotChannels : Obligations.SlotChannels :=
  ⟨offsetZeroDone_ramps, offsetZeroDone_latches, rampComplete_qualifies, pgQualified_on, channelOutputLow_qualifies, channelInLimit_qualifies, inLimitClear_shown, trip_cools, trip_latches, spcDiode_shown, coolDownDone_zeroes, rampDownDone_off, channel_off_ignores⟩


end Sys2Proof.Machine
end

section
/-!
REFUTATION. A lane under test whose SerDes PLL loses lock.
-/
namespace Sys2Proof.Machine

/-- A machine in LINKTEST without a Formula, lane 0 under test. -/
def laneUnderTest : State :=
  (State.reset.wr Reg.CHIP_MODE Fld.CHIP_MODE.MODE Mode.linktest.code).setStage 0 Stage.TEST

/-- The lane under test goes down with its PLL. -/
theorem laneUnderTest_unlock : (laneUnderTest.sdsUnlock 0 [0]).settle.stage 0 = Stage.OFF := by decide +kernel

/-- Refutes O11: the SerDes PLL of a lane under test loses lock while no port exists; the lane goes to OFF, which LN_STATUS
shows, while the statement's sixth clause has CHIP_CLK_STATUS alone change. -/
theorem not_sensorsWatchdogClocks : ¬ Obligations.SensorsWatchdogClocks := by
  intro h
  obtain ⟨-, -, -, -, -, h, -⟩ := h
  obtain ⟨t, ht, -, -, hreg⟩ := h laneUnderTest 0 [0] (by decide +kernel) (by decide +kernel) (by decide +kernel)
  have he : (laneUnderTest.sdsUnlock 0 [0]).settle = t := by
    injection ht
  have hs : t.stage 0 = laneUnderTest.stage 0 := rd_of_reg (hreg _ (by decide)) _
  rw [← he, laneUnderTest_unlock] at hs
  exact absurd hs (by decide +kernel)

end Sys2Proof.Machine
end

section
/-!
# The fabric manager API (R315, R316)

`State.fm` is one gate for every command: it refuses, or runs the command's own part, counts the command at its path and
answers.  What each command answers is read off one equation for its case.
-/
namespace Sys2Proof.Machine

/-! ### The gate -/

/-- A command that is granted: its own part, counted and answered. -/
def fmTaken (r : FmReq) (o : Nat) (x : FmReply × State) : State :=
  (x.2.countCmd r.path.val St.OK).emit (.fmAnswer r.path.val o x.1.code x.1.ext x.1.data)

theorem fm_granted {s : State} {r : FmReq} {o g m : Nat} (k : State → FmReply × State) (h : s.fmGrants r g m) :
    s.fm r o g m k = fmTaken r o (k s) := by
  obtain ⟨hu, hr, hg, hm⟩ := h
  unfold State.fm fmTaken
  have hn : ¬ (g ≠ Grp.READ ∧ s.md ≠ .serve) := by tauto
  simp [hu, hr, hg, hn]

theorem fm_notDelegated {s : State} {r : FmReq} {o g m : Nat} (k : State → FmReply × State) (hu : s.fmUp r = true)
    (hr : r.remote = false) (hg : s.holdsGroup r.path.val r.eid g m = false) :
    s.fm r o g m k = (s.countCmd r.path.val St.NOT_DELEGATED).emit
      (.fmAnswer r.path.val o Fm.INVALID St.NOT_DELEGATED []) := by
  unfold State.fm
  simp [hu, hr, hg, State.fmRefuse, St.NOT_DELEGATED]

theorem fm_wrongMode {s : State} {r : FmReq} {o g m : Nat} (k : State → FmReply × State) (hu : s.fmUp r = true)
    (hr : r.remote = false) (hg : s.holdsGroup r.path.val r.eid g m = true) (hr' : g ≠ Grp.READ) (hm : s.md ≠ .serve) :
    s.fm r o g m k = fmTaken r o ({ code := Fm.INVALID, ext := St.MODE }, s) := by
  unfold State.fm fmTaken
  simp [hu, hr, hg, hr', hm, State.fmRefuse, St.MODE, St.OK]

/-- Every command that `fmOf` lists goes through the gate. -/
theorem exec_fmOf {s : State} {c : Instr} {r : FmReq} {o g m : Nat} (h : s.fmOf c = some (r, o, g, m)) :
    ∃ k, exec c s = done (s.fm r o g m k) := by
  cases c <;> simp only [State.fmOf, Option.some.injEq, Prod.mk.injEq, reduceCtorEq] at h <;>
    (obtain ⟨rfl, rfl, rfl, rfl⟩ := h; exact ⟨_, rfl⟩)

/-- Every command carried to a device goes through the gate with `State.fmCarry`. -/
theorem exec_fmCarried {s : State} {c : Instr} {r : FmReq} {q : BitVec 8} {w : Bool} {b a : List Byte} {o g m : Nat}
    (hc : c ∈ fmCarried r q w b a) (h : s.fmOf c = some (r, o, g, m)) :
    exec c s = done (s.fm r o g m fun t => t.fmCarry q.toNat o b a) := by
  simp only [fmCarried, List.mem_cons, List.not_mem_nil, or_false] at hc
  rcases hc with rfl | rfl | rfl | rfl | rfl | rfl | rfl | rfl | rfl | rfl | rfl | rfl | rfl | rfl | rfl | rfl <;>
    (simp only [State.fmOf, Option.some.injEq, Prod.mk.injEq] at h; obtain ⟨-, rfl, rfl, rfl⟩ := h; rfl)

/-! ### What a command carried to a device answers -/

theorem fmCarry_device {s : State} {q o : Nat} {b a : List Byte} {p : PortRec} (hp : s.portRec q = some p)
    (hf : p.fabric = false) (hr : p.role = .downstream) (hu : s.portUp q = true) :
    s.fmCarry q o b a = ({ data := a }, s.emit (.fmForward q o b)) := by
  unfold State.fmCarry
  simp [hp, hf, hr, hu]

theorem fmCarry_unknown {s : State} {q o : Nat} {b e : List Byte} (hp : s.portRec q = none) :
    s.fmCarry q o b e = ({ code := Fm.INVALID, ext := St.OUT_OF_FORMULA }, s) := by
  unfold State.fmCarry
  simp [hp, State.fmRefuse, St.OUT_OF_FORMULA]

/-- The ports of a list that belong to no Flacon ask for every Flacon. -/
theorem portMasks_everyFlacon {s : State} : ∀ {l : List (BitVec 8)}, (∀ q ∈ l, s.portFlacon q.toNat = none) → l ≠ [] →
    l.foldl (fun m q => m ||| s.portMask q.toNat) 0 = everyFlacon := by
  have keeps : ∀ l : List (BitVec 8), (∀ q ∈ l, s.portFlacon q.toNat = none) →
      l.foldl (fun m q => m ||| s.portMask q.toNat) everyFlacon = everyFlacon := by
    intro l h
    refine List.foldlRecOn l _ (motive := fun m => m = everyFlacon) rfl fun m hm q hq => ?_
    rw [hm, State.portMask, h q hq]
    exact Nat.or_self _
  intro l h hl
  obtain ⟨q, r, rfl⟩ := List.exists_cons_of_ne_nil hl
  rw [List.foldl_cons, State.portMask, h q (List.mem_cons_self ..), Nat.zero_or]
  exact keeps r fun x hx => h x (List.mem_cons_of_mem _ hx)

/-! ### What the gate leaves -/

theorem path_cnt_not_calm (p : Nat) (hp : p < 4) : Reg.MG_PATH_CNT p ∉ calmRegs := by
  simp only [calmRegs, Reg.MG_PATH_CNT, Reg.CHIP_MODE, Reg.PC_SUPV_STATUS, Reg.MG_FML_STATUS, List.mem_cons,
    List.not_mem_nil, or_false]
  omega

theorem calm_countCmd {u s : State} (p : Fin 4) (st : Nat) (h : u.calm s) : (u.countCmd p.val st).calm s :=
  calm_trans (calm_of_rest (countCmd_rest ..) fun _ ha =>
    countCmd_reg _ _ _ _ fun e => path_cnt_not_calm p.val p.isLt (e ▸ ha)) h

theorem countCmd_regsBut (s : State) (p st : Nat) : (s.countCmd p st).regsBut s [Reg.MG_PATH_CNT p] :=
  fun a ha => countCmd_reg s p st a (by simpa using ha)

/-- What an output answers, from a quiet state that is calm so far. -/
theorem answers_emit {s u : State} {y : Out} {P : State → Prop} (hq : s.quiet = true) (hu : u.calm s)
    (hP : ∀ t : State, (∀ a, t.reg a = u.reg a) → y ∈ t.out → P t) : Answers (done (u.emit y)) P :=
  answers_of_calm hq (calm_emit hu y) fun _ _ _ =>
    hP _ (fun _ => rfl) (List.mem_append_right _ (List.mem_cons_self ..))

/-- What a granted command answers, from a quiet state that its own part leaves calm. -/
theorem answers_fmTaken {s : State} {r : FmReq} {o : Nat} {x : FmReply × State} {P : State → Prop} (hq : s.quiet = true)
    (hx : x.2.calm s) (hP : ∀ t : State, (∀ a, t.reg a = (x.2.countCmd r.path.val St.OK).reg a) → t.mgmt = x.2.mgmt →
      t.acc = x.2.acc → t.std = x.2.std → Out.fmAnswer r.path.val o x.1.code x.1.ext x.1.data ∈ t.out →
      (∀ y ∈ x.2.out, y ∈ t.out) → P t) :
    Answers (done (fmTaken r o x)) P := by
  have e := eq_of_rest (countCmd_rest x.2 r.path.val St.OK)
  refine answers_of_calm hq (calm_emit (calm_countCmd _ _ hx) _) fun l a b => hP _ (fun _ => rfl) ?_ ?_ ?_ ?_ ?_
  · show (x.2.countCmd r.path.val St.OK).mgmt = _
    rw [e]
  · show (x.2.countCmd r.path.val St.OK).acc = _
    rw [e]
  · show (x.2.countCmd r.path.val St.OK).std = _
    rw [e]
  · exact List.mem_append_right _ (List.mem_cons_self ..)
  · intro y hy
    refine List.mem_append_right _ (List.mem_cons_of_mem _ ?_)
    rw [rest_out (countCmd_rest ..)]
    exact hy


/-- A granted command whose own part leaves every register writes its path's counters alone. -/
theorem fmTaken_regsBut {s t : State} {x : FmReply × State} {p st : Nat} (hr : ∀ a, t.reg a = (x.2.countCmd p st).reg a)
    (hx : x.2.regsBut s []) : t.regsBut s [Reg.MG_PATH_CNT p] :=
  fun a ha => (hr a).trans ((countCmd_regsBut _ _ _ a ha).trans (hx a (by simp)))

/-- A granted command that reads answers its own reply. -/
theorem answers_fmReply {s : State} {r : FmReq} {o g m : Nat} {k : State → FmReply × State} {y : FmReply} (hq : s.quiet = true)
    (h : s.fmGrants r g m) (hk : k s = (y, s)) :
    Answers (done (s.fm r o g m k)) fun t =>
      Out.fmAnswer r.path.val o y.code y.ext y.data ∈ t.out ∧ t.mgmt = s.mgmt ∧
        (∀ a, t.reg a = (s.countCmd r.path.val St.OK).reg a) := by
  rw [fm_granted k h, hk]
  exact answers_fmTaken hq (calm_refl s) fun t hr hm _ _ ha _ => ⟨ha, hm, hr⟩

/-- A command that is taken counts at its path. -/
theorem countCmd_accepted (s : State) (p : Nat) :
    (s.countCmd p St.OK).rd (Reg.MG_PATH_CNT p) Fld.MG_PATH_CNT.ACCEPTED =
      min (2 ^ Fld.MG_PATH_CNT.ACCEPTED.width - 1) (s.rd (Reg.MG_PATH_CNT p) Fld.MG_PATH_CNT.ACCEPTED + 1) := by
  have hn : St.OK ≠ St.NOT_DELEGATED := by decide
  have e : s.countCmd p St.OK = s.inc (Reg.MG_PATH_CNT p) Fld.MG_PATH_CNT.ACCEPTED := if_neg hn
  rw [e]
  exact rd_addTo _ _ _ _ (by decide)

/-- A command that is turned away counts at its path. -/
theorem countCmd_refused (s : State) (p : Nat) :
    (s.countCmd p St.NOT_DELEGATED).rd (Reg.MG_PATH_CNT p) Fld.MG_PATH_CNT.REFUSED =
      min (2 ^ Fld.MG_PATH_CNT.REFUSED.width - 1) (s.rd (Reg.MG_PATH_CNT p) Fld.MG_PATH_CNT.REFUSED + 1) := by
  have e : s.countCmd p St.NOT_DELEGATED = s.inc (Reg.MG_PATH_CNT p) Fld.MG_PATH_CNT.REFUSED := if_pos rfl
  rw [e]
  exact rd_addTo _ _ _ _ (by decide)

/-- The own part of Set Response Message Limit. -/
def setLimit (x : BitVec 8) (t : State) : FmReply × State :=
  ({ data := bytesOf 1 x.toNat }, { t with mgmt := { t.mgmt with fmLimit := x.toNat } })

/-! ### O32 -/

/-- A command whose sender does not hold its group is counted and answered, and does nothing else. -/
theorem fm_refusesUngranted (s : State) (c : Instr) (r : FmReq) (o g m : Nat) :
    s.quiet = true → s.fmOf c = some (r, o, g, m) → s.fmUp r = true →
  r.remote = false → s.holdsGroup r.path.val r.eid g m = false →
  Answers (exec c s) fun t =>
    Out.fmAnswer r.path.val o Fm.INVALID St.NOT_DELEGATED [] ∈ t.out ∧
    t.rd (Reg.MG_PATH_CNT r.path.val) Fld.MG_PATH_CNT.REFUSED =
      min (2 ^ Fld.MG_PATH_CNT.REFUSED.width - 1) (s.rd (Reg.MG_PATH_CNT r.path.val) Fld.MG_PATH_CNT.REFUSED + 1) ∧
    t.regsBut s [Reg.MG_PATH_CNT r.path.val] := by
  intro hq hc hu hr hg
  obtain ⟨k, e⟩ := exec_fmOf hc
  rw [e, fm_notDelegated k hu hr hg]
  exact answers_emit hq (calm_countCmd r.path St.NOT_DELEGATED (calm_refl s)) fun t ht ho =>
    ⟨ho, (rd_of_reg (ht _) _).trans (countCmd_refused s r.path.val), fun a ha => (ht a).trans (countCmd_regsBut s _ _ a ha)⟩

/-- Outside SERVE a command that does more than read is refused. -/
theorem fm_refusesMode (s : State) (c : Instr) (r : FmReq) (o g m : Nat) :
    s.quiet = true → s.fmOf c = some (r, o, g, m) → s.fmUp r = true →
  r.remote = false → s.holdsGroup r.path.val r.eid g m = true → g ≠ Grp.READ → s.md ≠ .serve →
  Answers (exec c s) fun t =>
    Out.fmAnswer r.path.val o Fm.INVALID St.MODE [] ∈ t.out ∧ t.regsBut s [Reg.MG_PATH_CNT r.path.val] := by
  intro hq hc hu hr hg hg' hm
  obtain ⟨k, e⟩ := exec_fmOf hc
  rw [e, fm_wrongMode k hu hr hg hg' hm]
  exact answers_fmTaken hq (calm_refl s) fun t ht _ _ _ ha _ => ⟨ha, fmTaken_regsBut ht fun _ _ => rfl⟩

/-- The four commands that only read are answered and counted. -/
theorem fm_plainReads (s : State) (c : Instr) (r : FmReq) (o : Nat) :
    s.quiet = true →
  (c, o) ∈ [(Instr.fmIdentify r, 0x0001), (.fmBackgroundOperationStatus r, 0x0002), (.fmGetEventRecords r, 0x0100),
    (.fmIdentifySwitchDevice r, 0x5100)] → s.fmGrants r Grp.READ everyFlacon →
  Answers (exec c s) fun t =>
    Out.fmAnswer r.path.val o Fm.SUCCESS 0 [] ∈ t.out ∧
    t.rd (Reg.MG_PATH_CNT r.path.val) Fld.MG_PATH_CNT.ACCEPTED =
      min (2 ^ Fld.MG_PATH_CNT.ACCEPTED.width - 1) (s.rd (Reg.MG_PATH_CNT r.path.val) Fld.MG_PATH_CNT.ACCEPTED + 1) ∧
    t.regsBut s [Reg.MG_PATH_CNT r.path.val] := by
  intro hq hc hg
  have e : exec c s = done (s.fm r o Grp.READ everyFlacon fmPlain) := by
    simp only [List.mem_cons, List.not_mem_nil, or_false, Prod.mk.injEq] at hc
    rcases hc with ⟨rfl, rfl⟩ | ⟨rfl, rfl⟩ | ⟨rfl, rfl⟩ | ⟨rfl, rfl⟩ <;> rfl
  rw [e]
  refine answers_mono (answers_fmReply hq hg (y := {}) rfl) fun t ⟨ha, _, ht⟩ => ⟨ha, ?_, fmTaken_regsBut (x := ({}, s)) ht fun _ _ => rfl⟩
  rw [rd_of_reg (ht _)]
  exact countCmd_accepted s r.path.val

/-- Clear Event Records is answered. -/
theorem fm_clearsEvents (s : State) (r : FmReq) :
    s.quiet = true → s.fmGrants r Grp.FAULT_CLEAR everyFlacon →
  Answers (exec (.fmClearEventRecords r) s) fun t =>
    Out.fmAnswer r.path.val 0x0101 Fm.SUCCESS 0 [] ∈ t.out ∧ t.regsBut s [Reg.MG_PATH_CNT r.path.val] := by
  intro hq hg
  exact answers_mono (answers_fmReply hq hg (k := fmPlain) (y := {}) rfl) fun t ⟨ha, _, ht⟩ =>
    ⟨ha, fmTaken_regsBut (x := ({}, s)) ht fun _ _ => rfl⟩

/-- Get Virtual CXL Switch Info is answered. -/
theorem fm_switchInfo (s : State) (r : FmReq) (q : BitVec 8) :
    s.quiet = true → s.fmGrants r Grp.READ (s.portMask q.toNat) →
  Answers (exec (.fmGetVirtualCxlSwitchInfo r q) s) fun t =>
    Out.fmAnswer r.path.val 0x5200 Fm.SUCCESS 0 [] ∈ t.out ∧ t.regsBut s [Reg.MG_PATH_CNT r.path.val] := by
  intro hq hg
  exact answers_mono (answers_fmReply hq hg (k := fmPlain) (y := {}) rfl) fun t ⟨ha, _, ht⟩ =>
    ⟨ha, fmTaken_regsBut (x := ({}, s)) ht fun _ _ => rfl⟩

/-- Get Physical Port State is answered. -/
theorem fm_portState (s : State) (r : FmReq) (l : List (BitVec 8)) :
    s.quiet = true → s.fmGrants r Grp.READ everyFlacon →
  (∀ q ∈ l, s.portFlacon q.toNat = none) → l ≠ [] →
  Answers (exec (.fmGetPhysicalPortState r l) s) fun t =>
    Out.fmAnswer r.path.val 0x5101 Fm.SUCCESS 0 [] ∈ t.out ∧ t.regsBut s [Reg.MG_PATH_CNT r.path.val] := by
  intro hq hg hl hn
  have e : exec (.fmGetPhysicalPortState r l) s = done (s.fm r 0x5101 Grp.READ everyFlacon fmPlain) := by
    rw [← portMasks_everyFlacon hl hn]
    rfl
  rw [e]
  exact answers_mono (answers_fmReply hq hg (k := fmPlain) (y := {}) rfl) fun t ⟨ha, _, ht⟩ =>
    ⟨ha, fmTaken_regsBut (x := ({}, s)) ht fun _ _ => rfl⟩

/-- Set Response Message Limit sets the limit and answers it. -/
theorem fm_setsLimit (s : State) (r : FmReq) (x : BitVec 8) :
    s.quiet = true → s.fmGrants r Grp.READ everyFlacon →
  Answers (exec (.fmSetResponseMessageLimit r x) s) fun t =>
    t.mgmt.fmLimit = x.toNat ∧ Out.fmAnswer r.path.val 0x0004 Fm.SUCCESS 0 (bytesOf 1 x.toNat) ∈ t.out ∧
    t.regsBut s [Reg.MG_PATH_CNT r.path.val] := by
  intro hq hg
  change Answers (done (s.fm r 0x0004 Grp.READ everyFlacon (setLimit x))) _
  rw [fm_granted (setLimit x) hg]
  exact answers_fmTaken hq (calm_refl s) fun t ht hm _ _ ha _ =>
    ⟨by rw [hm]; rfl, ha, fmTaken_regsBut ht fun _ _ => rfl⟩

/-- Get Response Message Limit answers the limit last set. -/
theorem fm_getsLimit (s : State) (r : FmReq) :
    s.quiet = true → s.fmGrants r Grp.READ everyFlacon →
  Answers (exec (.fmGetResponseMessageLimit r) s) fun t =>
    Out.fmAnswer r.path.val 0x0003 Fm.SUCCESS 0 (bytesOf 1 s.mgmt.fmLimit) ∈ t.out ∧ t.mgmt.fmLimit = s.mgmt.fmLimit ∧
    t.regsBut s [Reg.MG_PATH_CNT r.path.val] := by
  intro hq hg
  exact answers_mono (answers_fmReply hq hg (y := { data := bytesOf 1 s.mgmt.fmLimit }) rfl) fun t ⟨ha, hm, ht⟩ =>
    ⟨ha, by rw [hm], fmTaken_regsBut (x := ({}, s)) ht fun _ _ => rfl⟩

/-- A command to a device that is up is carried to it, and answered with what it answers. -/
theorem fm_carries (s : State) (c : Instr) (r : FmReq) (q : BitVec 8) (w : Bool) (b a : List Byte) (o g m : Nat) (p : PortRec) :
    s.quiet = true → c ∈ fmCarried r q w b a → s.fmOf c = some (r, o, g, m) → s.fmGrants r g m →
  s.portRec q.toNat = some p → p.fabric = false → p.role = .downstream → s.portUp q.toNat = true →
  Answers (exec c s) fun t =>
    Out.fmForward q.toNat o b ∈ t.out ∧ Out.fmAnswer r.path.val o Fm.SUCCESS 0 a ∈ t.out ∧
    t.regsBut s [Reg.MG_PATH_CNT r.path.val] := by
  intro hq hc ho hg hp hf hr hu
  rw [exec_fmCarried hc ho, fm_granted _ hg, fmCarry_device hp hf hr hu]
  exact answers_fmTaken hq (calm_emit (calm_refl s) _) fun t ht _ _ _ ha hy =>
    ⟨hy _ (List.mem_cons_self ..), ha, fmTaken_regsBut ht fun _ _ => rfl⟩

/-- A command to the device of a port that the Formula does not have is refused. -/
theorem fm_carriesNowhere (s : State) (c : Instr) (r : FmReq) (q : BitVec 8) (w : Bool) (b a : List Byte) (o g m : Nat) :
    s.quiet = true → c ∈ fmCarried r q w b a → s.fmOf c = some (r, o, g, m) → s.fmGrants r g m →
  s.portRec q.toNat = none →
  Answers (exec c s) fun t =>
    Out.fmAnswer r.path.val o Fm.INVALID St.OUT_OF_FORMULA [] ∈ t.out ∧ t.regsBut s [Reg.MG_PATH_CNT r.path.val] := by
  intro hq hc ho hg hp
  rw [exec_fmCarried hc ho, fm_granted _ hg, fmCarry_unknown hp]
  exact answers_fmTaken hq (calm_refl s) fun t ht _ _ _ ha _ => ⟨ha, fmTaken_regsBut ht fun _ _ => rfl⟩

/-- A tunnelled command is checked for its own group and carried. -/
theorem fm_tunnels (s : State) (r : FmReq) (q : BitVec 8) (x : BitVec 16) (b a : List Byte) (g : Nat) (p : PortRec) :
    s.quiet = true →
  tunnelGroup x.toNat = some g → s.fmGrants r g (s.portMask q.toNat) → s.portRec q.toNat = some p → p.fabric = false →
  p.role = .downstream → s.portUp q.toNat = true →
  Answers (exec (.fmTunnelManagementCommand r q x b a) s) fun t =>
    Out.fmForward q.toNat x.toNat b ∈ t.out ∧ Out.fmAnswer r.path.val x.toNat Fm.SUCCESS 0 a ∈ t.out ∧
    t.regsBut s [Reg.MG_PATH_CNT r.path.val] := by
  intro hq hx hg hp hf hr hu
  have e : exec (.fmTunnelManagementCommand r q x b a) s =
      done (s.fm r x.toNat g (s.portMask q.toNat) fun t => t.fmCarry q.toNat x.toNat b a) := by
    show execFmTunnelManagementCommand r q x b a s = _
    unfold execFmTunnelManagementCommand
    rw [hx]
    rfl
  rw [e, fm_granted _ hg, fmCarry_device hp hf hr hu]
  exact answers_fmTaken hq (calm_emit (calm_refl s) _) fun t ht _ _ _ ha hy =>
    ⟨hy _ (List.mem_cons_self ..), ha, fmTaken_regsBut ht fun _ _ => rfl⟩

/-- An opcode that the API does not list is answered as unsupported. -/
theorem fm_unsupported (s : State) (r : FmReq) (x : BitVec 16) :
    s.quiet = true → s.fmUp r = true → r.remote = false →
  Answers (exec (.fmUnsupported r x) s) fun t =>
    Out.fmAnswer r.path.val x.toNat Fm.UNSUPPORTED 0 [] ∈ t.out ∧ t.regsBut s [] := by
  intro hq hu hr
  have e : exec (.fmUnsupported r x) s = done (s.emit (.fmAnswer r.path.val x.toNat Fm.UNSUPPORTED 0 [])) := by
    show done (s.fmUnknown r x.toNat) = _
    unfold State.fmUnknown
    simp [hu, hr]
  rw [e]
  exact answers_emit hq (calm_refl s) fun t ht ho => ⟨ho, fun a _ => ht a⟩

/-- Settles O32: one gate for every command, and each command's own part. -/
theorem fabricManager : Obligations.FabricManager :=
  ⟨fm_refusesUngranted, fm_refusesMode, fm_plainReads, fm_clearsEvents, fm_switchInfo, fm_portState, fm_setsLimit, fm_getsLimit, fm_carries, fm_carriesNowhere, fm_tunnels, fm_unsupported⟩


end Sys2Proof.Machine
end

section
/-!
The emulated slots of vPPBs, and the end of a binding (R322, R324, R328 to R330).
-/
namespace Sys2Proof.Machine

/-! ### Events of emulated slots change nothing but the vPPBs and the outputs -/

/-- t is u but for vPPBs and outputs added. -/
def State.hostSide (t u : State) : Prop := t = { u with vppb := t.vppb, out := t.out } ∧ ∀ y ∈ u.out, y ∈ t.out

theorem hostSide_refl (s : State) : s.hostSide s := ⟨rfl, fun _ h => h⟩

theorem hostSide_trans {t u s : State} (h : t.hostSide u) (k : u.hostSide s) : t.hostSide s := by
  obtain ⟨e, he⟩ := h
  obtain ⟨e', he'⟩ := k
  refine ⟨?_, fun y hy => he y (he' y hy)⟩
  rw [e, e']

theorem hostSide_emit (s : State) (y : Out) : (s.emit y).hostSide s := ⟨rfl, fun _ h => List.mem_cons_of_mem _ h⟩

theorem hostSide_modVppb (s : State) (q v : Nat) (g : VppbState → VppbState) : (s.modVppb q v g).hostSide s := ⟨rfl, fun _ h => h⟩

theorem hostSide_vppbEvent (s : State) (q v k : Nat) (g : VppbState → VppbState) : (s.vppbEvent q v k g).hostSide s := by
  unfold State.vppbEvent
  simp only
  split
  · exact hostSide_trans (hostSide_emit _ _) (hostSide_modVppb ..)
  · exact hostSide_modVppb ..

theorem hostSide_foldl {α : Type} (f : State → α → State) (hf : ∀ t e, (f t e).hostSide t) (l : List α) (s : State) :
    (l.foldl f s).hostSide s :=
  List.foldlRecOn l f (motive := fun t : State => t.hostSide s) (hostSide_refl s) fun _ ht e _ => hostSide_trans (hf _ e) ht

theorem hostSide_noteDllsc (s : State) (l : List (Nat × Nat)) : (s.noteDllsc l).hostSide s :=
  hostSide_foldl _ (fun _ _ => hostSide_vppbEvent ..) l s

theorem hostSide_notePresence (s : State) (l : List (Nat × Nat)) : (s.notePresence l).hostSide s :=
  hostSide_foldl _ (fun _ _ => hostSide_vppbEvent ..) l s

theorem hostSide_resetBound (s : State) (b : BindingRec) : (s.resetBound b).hostSide s := by
  unfold State.resetBound
  simp only
  split
  · exact hostSide_refl s
  · split <;> exact hostSide_emit ..

section
variable {t u : State} (h : t.hostSide u)
include h

theorem hostSide_reg (a : Nat) : t.reg a = u.reg a := by rw [h.1]; rfl
theorem hostSide_rd (a : Nat) (f : Fld) : t.rd a f = u.rd a f := rd_of_reg (hostSide_reg h a) f
theorem hostSide_on (a : Nat) (f : Fld) : t.on a f = u.on a f := on_of_reg (hostSide_reg h a) f
theorem hostSide_flt : t.flt = u.flt := by rw [h.1]
theorem hostSide_fml : t.fml = u.fml := by rw [h.1]
theorem hostSide_acc : t.acc = u.acc := by rw [h.1]
theorem hostSide_std : t.std = u.std := by rw [h.1]
theorem hostSide_mgmt : t.mgmt = u.mgmt := by rw [h.1]
theorem hostSide_flAcc (f : Nat) : t.flAcc f = u.flAcc f := by rw [State.flAcc, hostSide_acc h]; rfl
theorem hostSide_epochOf (f : Nat) : t.epochOf f = u.epochOf f := hostSide_rd h ..

theorem hostSide_calm : t.calm u := by
  refine ⟨?_, md_of_reg (hostSide_reg h _), hostSide_reg h _, hostSide_reg h _⟩
  rw [h.1]
  exact ⟨rfl, rfl, rfl, rfl, rfl, rfl⟩

end

/-! What an event leaves in a vPPB. -/

theorem vppbSt_modVppb (s : State) (q v q' v' : Nat) (g : VppbState → VppbState) :
    (s.modVppb q v g).vppbSt q' v' = if vppbKey q' v' = vppbKey q v then g (s.vppbSt q v) else s.vppbSt q' v' := by
  unfold State.modVppb State.vppbSt tabMod
  exact tabGet_tabPut ..

theorem vppbSt_modVppb_same (s : State) (q v : Nat) (g : VppbState → VppbState) :
    (s.modVppb q v g).vppbSt q v = g (s.vppbSt q v) := by
  rw [vppbSt_modVppb, if_pos rfl]

theorem vppbSt_vppbEvent (s : State) (q v k q' v' : Nat) (g : VppbState → VppbState) :
    (s.vppbEvent q v k g).vppbSt q' v' = (s.modVppb q v g).vppbSt q' v' := by
  unfold State.vppbEvent
  simp only
  split <;> rfl

/-- A change of state is told to the host where its bits of Slot Control ask for it. -/
theorem vppbEvent_tells {s : State} {q v k : Nat} {g : VppbState → VppbState} (h5 : (s.vppbSt q v).control.getLsbD 5 = true)
    (hk : (s.vppbSt q v).control.getLsbD k = true) : Out.hotplug q v ∈ (s.vppbEvent q v k g).out := by
  unfold State.vppbEvent
  simp only [h5, hk, Bool.and_self, if_true]
  exact List.mem_cons_self ..

/-- Data Link Layer State Changed alone is set, whatever the vPPBs told. -/
theorem vppbSt_noteDllsc (s : State) (l : List (Nat × Nat)) (q v : Nat) :
    ∃ b, (s.noteDllsc l).vppbSt q v = { s.vppbSt q v with dllsc := b } := by
  refine List.foldlRecOn l _ (motive := fun t : State => ∃ b, t.vppbSt q v = { s.vppbSt q v with dllsc := b })
    ⟨_, rfl⟩ fun t ⟨b, hb⟩ e _ => ?_
  rw [vppbSt_vppbEvent, vppbSt_modVppb]
  by_cases hk : vppbKey q v = vppbKey e.1 e.2
  · rw [if_pos hk, State.vppbSt, ← hk]
    exact ⟨true, by rw [← State.vppbSt, hb]⟩
  · rw [if_neg hk]
    exact ⟨b, hb⟩

/-! ### An epoch advance with an empty array -/

/-- With nothing held, an epoch advance is the step of the rule epoch and the count of regions shown. -/
theorem advance_idle {s : State} (ht : s.acd.trk = []) (hh : s.home = []) (f : Nat) (regions : List (Nat × Option RegionEnt))
    (gen : Option DecGen) : s.advance f regions gen = (s.epochStep f regions gen).showRegions f := by
  have e : ((s.epochStep f regions gen).showRegions f).acd = s.acd ∧ ((s.epochStep f regions gen).showRegions f).home = s.home := by
    cases gen <;> exact ⟨rfl, rfl⟩
  unfold State.advance State.abortEpoch
  simp only
  rw [abortAll_none (e.1 ▸ ht), runSlices_none (e.2 ▸ hh)]

/-- What the step of the rule epoch changes: registers, and the access tables. -/
theorem epochStep_keeps (s : State) (f : Nat) (regions : List (Nat × Option RegionEnt)) (gen : Option DecGen) :
    (s.epochStep f regions gen).showRegions f =
      { s with regs := ((s.epochStep f regions gen).showRegions f).regs
               acc := (s.epochStep f regions gen).acc } := by
  cases gen <;> rfl

theorem epochStep_reg (s : State) (f : Nat) (regions : List (Nat × Option RegionEnt)) (gen : Option DecGen) (a : Nat) :
    (s.epochStep f regions gen).reg a =
      (s.wr (Reg.FL_EPOCH f) Fld.FL_EPOCH.EPOCH ((s.epochOf f + 1) % 2 ^ 32)).reg a := by
  cases gen <;> rfl

theorem epochStep_flAcc (s : State) (f : Nat) (regions : List (Nat × Option RegionEnt)) (g : DecGen) :
    ((s.epochStep f regions (some g)).flAcc f).cur = g := by
  unfold State.epochStep
  simp only [State.modAcc, State.flAcc, tabMod, tabGet_tabPut, if_true]

/-- The epoch advances by one. -/
theorem epochStep_epochOf (s : State) (f : Nat) (regions : List (Nat × Option RegionEnt)) (gen : Option DecGen) :
    ((s.epochStep f regions gen).showRegions f).epochOf f = (s.epochOf f + 1) % 2 ^ 32 := by
  have hn : Reg.FL_EPOCH f ≠ Reg.FL_REGIONS f := by simp only [Reg.FL_EPOCH, Reg.FL_REGIONS]; omega
  rw [State.epochOf, State.showRegions, rd_wr_ne hn, rd_of_reg (epochStep_reg ..), rd_wr _ _ _ _ (by decide)]
  exact Nat.mod_mod _ _

/-! ### A binding leaves -/

/-- The bindings of Flacon f in force without those of one vPPB. -/
def State.genWithout (s : State) (f : Nat) (b : BindingRec) : DecGen :=
  { (s.flAcc f).cur with bindings := (s.flAcc f).cur.bindings.filter fun x => !(x.usp == b.usp && x.vppb == b.vppb) }

theorem hostSide_unbindNow (s : State) (f : Nat) (b : BindingRec) :
    (s.unbindNow f b).hostSide (s.advance f [] (some (s.genWithout f b))) :=
  hostSide_trans (hostSide_resetBound _ b) (hostSide_trans (hostSide_noteDllsc ..) (hostSide_trans (hostSide_notePresence ..)
    (hostSide_modVppb ..)))

theorem vppbSt_resetBound (s : State) (b : BindingRec) (q v : Nat) : (s.resetBound b).vppbSt q v = s.vppbSt q v := by
  unfold State.resetBound
  simp only
  split
  · rfl
  · split <;> rfl

theorem vppbSt_unbindNow (s : State) (f : Nat) (b : BindingRec) :
    (s.unbindNow f b).vppbSt b.usp b.vppb = { (s.advance f [] (some (s.genWithout f b))).vppbSt b.usp b.vppb with
      unbind := none, offWritten := false, linkDisable := false, presenceChanged := true, dllsc := true } := by
  unfold State.unbindNow
  simp only
  rw [vppbSt_resetBound]
  unfold State.noteDllsc State.notePresence
  simp only [List.foldl_cons, List.foldl_nil, vppbSt_vppbEvent, vppbSt_modVppb_same]
  rfl

/-- What the end of a binding leaves, with an empty array. -/
theorem unbindNow_spec {s : State} (ht : s.acd.trk = []) (hh : s.home = []) (f : Nat) (b : BindingRec) :
    ((s.unbindNow f b).flAcc f).cur.bindings = ((s.flAcc f).cur.bindings.filter fun x => !(x.usp == b.usp && x.vppb == b.vppb)) ∧
      (s.unbindNow f b).epochOf f = (s.epochOf f + 1) % 2 ^ 32 ∧ ((s.unbindNow f b).vppbSt b.usp b.vppb).unbind = none ∧
      ((s.unbindNow f b).vppbSt b.usp b.vppb).presenceChanged = true ∧
      ((s.unbindNow f b).vppbSt b.usp b.vppb).dllsc = true := by
  have h := hostSide_unbindNow s f b
  rw [advance_idle ht hh] at h
  refine ⟨?_, (hostSide_epochOf h f).trans (epochStep_epochOf ..), ?_, ?_, ?_⟩
  · rw [hostSide_flAcc h]
    show ((s.epochStep f [] (some (s.genWithout f b))).flAcc f).cur.bindings = _
    rw [epochStep_flAcc]
    rfl
  all_goals rw [vppbSt_unbindNow]

/-- An unbind that waits completes once its condition holds. -/
theorem tryUnbind_ready {s : State} {u v f : Nat} {b : BindingRec} (hb : s.bindingAt u v = some (f, b))
    (hr : (s.vppbSt u v).unbind = some 0 ∧ (s.vppbSt u v).linkDisable = true ∨
      (s.vppbSt u v).unbind = some 1 ∧ (s.vppbSt u v).offWritten = true) (hc : s.canAdvance f true = true) :
    s.tryUnbind u v = s.unbindNow f b := by
  unfold State.tryUnbind
  rcases hr with ⟨h1, h2⟩ | ⟨h1, h2⟩ <;> simp [hb, h1, h2, hc]

theorem tryUnbind_unbound {s : State} {u v : Nat} (hb : s.bindingAt u v = none) : s.tryUnbind u v = s := by
  unfold State.tryUnbind
  rw [hb]

theorem tryUnbind_none {s : State} {u v : Nat} (h : (s.vppbSt u v).unbind = none) : s.tryUnbind u v = s := by
  unfold State.tryUnbind
  split
  · rfl
  · simp [h]

/-! ### A removal request -/

/-- The slot of port p while a removal begins. -/
def State.removing (s : State) (p : PortRec) : State :=
  (s.setHp p.port Hp.OFFING).inc (Reg.PT_HP_CNT p.port) Fld.PT_HP_CNT.REMOVALS

theorem slotOff_removes {s : State} {p : PortRec} (hm : s.md.slots = true) (hu : s.portInUse p.port = false)
    (hs : s.hpState p.port ∈ [Hp.POWERING, Hp.POWERED, Hp.LINKING, Hp.ENUM, Hp.ACTIVE]) :
    (s.slotOff p).2 = (s.removing p).noteDllsc (s.vppbsOf p.port) := by
  unfold State.slotOff
  simp only [List.mem_cons, List.not_mem_nil, or_false] at hs
  rcases hs with h | h | h | h | h <;>
    simp [hm, hu, h, Hp.POWERING, Hp.POWERED, Hp.LINKING, Hp.ENUM, Hp.ACTIVE, Hp.FAULT, Hp.EMPTY, Hp.PRESENT, Hp.OFFING] <;> rfl

theorem HP_STATUS_ne_CNT (q : Nat) : Reg.PT_HP_STATUS q ≠ Reg.PT_HP_CNT q := by
  simp only [Reg.PT_HP_STATUS, Reg.PT_HP_CNT]
  omega

theorem HP_STATUS_not_calm (q : Nat) : Reg.PT_HP_STATUS q ∉ calmRegs := portReg_not_calm (by simp only [Reg.PT_HP_STATUS]; omega)
theorem HP_CNT_not_calm (q : Nat) : Reg.PT_HP_CNT q ∉ calmRegs := portReg_not_calm (by simp only [Reg.PT_HP_CNT]; omega)

theorem removing_calm (s : State) (p : PortRec) : (s.removing p).calm s :=
  calm_wr (calm_wr (calm_refl s) (HP_STATUS_not_calm _) _ _) (HP_CNT_not_calm _) _ _

theorem removing_spec (s : State) (p : PortRec) :
    (s.removing p).hpState p.port = Hp.OFFING ∧
      (s.removing p).rd (Reg.PT_HP_CNT p.port) Fld.PT_HP_CNT.REMOVALS =
        min (2 ^ Fld.PT_HP_CNT.REMOVALS.width - 1) (s.rd (Reg.PT_HP_CNT p.port) Fld.PT_HP_CNT.REMOVALS + 1) ∧
      (s.removing p).regsBut s [Reg.PT_HP_STATUS p.port, Reg.PT_HP_CNT p.port] := by
  refine ⟨?_, ?_, fun a ha => ?_⟩
  · rw [State.hpState, State.removing, inc_eq, addTo_eq, rd_wr_ne (HP_STATUS_ne_CNT _), State.setHp, rd_wr _ _ _ _ (by decide)]
    rfl
  · have e := rd_addTo (s.setHp p.port Hp.OFFING) (Reg.PT_HP_CNT p.port) 1 Fld.PT_HP_CNT.REMOVALS (by decide)
    rw [State.setHp, rd_wr_ne (HP_STATUS_ne_CNT _).symm] at e
    exact e
  · simp only [List.mem_cons, List.not_mem_nil, or_false, not_or] at ha
    rw [State.removing, inc_eq, addTo_eq, reg_wr_ne ha.2, State.setHp, reg_wr_ne ha.1]

theorem removing_vppbSt (s : State) (p : PortRec) (q v : Nat) : (s.removing p).vppbSt q v = s.vppbSt q v := by
  rw [State.vppbSt, State.vppbSt, State.removing, inc_eq, addTo_eq, wr_vppb, State.setHp, wr_vppb]

/-! ### O35 -/

/-- What a command that changes vPPBs only answers. -/
theorem answers_hostSide {s u : State} {P : State → Prop} (hq : s.quiet = true) (hu : u.hostSide s)
    (hP : ∀ t : State, (∀ q v, t.vppbSt q v = u.vppbSt q v) → (∀ y ∈ u.out, y ∈ t.out) → t.regsBut s [] → P t) :
    Answers (done u) P :=
  answers_of_calm hq (hostSide_calm hu) fun _ _ _ =>
    hP _ (fun _ _ => rfl) (fun _ hy => List.mem_append_right _ hy) fun a _ => hostSide_reg hu a


/-- What a write of Power Controller Control leaves in a vPPB. -/
def powerCmd (on : Bool) (x : VppbState) : VppbState :=
  { x with cmdPending := true, offWritten := x.offWritten || (!on && x.unbind == some 1) }

/-- The state after a write of Power Controller Control, before the slot acts on it. -/
def State.powerWritten (s : State) (q v : Nat) (on : Bool) : State := s.modVppb q v (powerCmd on)

theorem hostPower_empty {s : State} {q v : Nat} {on : Bool} (hb : s.bindingAt q v = none) :
    s.hostPower q v on = s.powerWritten q v on := by
  unfold State.hostPower
  simp only
  split
  · rfl
  next x y e => exact absurd (hb.symm.trans e) (by simp)

theorem hostPower_removes {s : State} {q v f : Nat} {b : BindingRec} {p : PortRec} (hb : s.bindingAt q v = some (f, b))
    (hp : s.portRec b.dsp = some p) (hh : p.hotplug = true) (hm : s.md.slots = true)
    (hu : s.portInUse p.port = false) (hs : s.hpState p.port ∈ [Hp.POWERING, Hp.POWERED, Hp.LINKING, Hp.ENUM, Hp.ACTIVE])
    (hn : (s.vppbSt q v).unbind = none) :
    s.hostPower q v false = ((s.powerWritten q v false).removing p).noteDllsc ((s.powerWritten q v false).vppbsOf p.port) := by
  have hg : Hp.POWERING ≤ s.hpState p.port ∧ s.hpState p.port ≠ Hp.OFFING := by
    simp only [List.mem_cons, List.not_mem_nil, or_false, Hp.POWERING, Hp.POWERED, Hp.LINKING, Hp.ENUM, Hp.ACTIVE] at hs
    simp only [Hp.POWERING, Hp.OFFING]
    omega
  have ho := slotOff_removes (s := s.powerWritten q v false) (p := p) hm hu hs
  obtain ⟨d, hv⟩ := vppbSt_noteDllsc ((s.powerWritten q v false).removing p) ((s.powerWritten q v false).vppbsOf p.port) q v
  have hx : ((s.powerWritten q v false).vppbSt q v).unbind = none := by
    rw [State.powerWritten, vppbSt_modVppb_same]
    exact hn
  have e : s.hostPower q v false = (((s.powerWritten q v false).slotOff p).2).tryUnbind q v := by
    unfold State.hostPower
    simp only
    split
    next e => exact absurd (hb.symm.trans e) (by simp)
    next x y e =>
      cases hb.symm.trans e
      split
      next e => exact absurd (hp.symm.trans e) (by simp)
      next z e =>
        cases hp.symm.trans e
        rw [if_neg (by simp [hh]), if_neg (by simp)]
        exact congrArg (fun t : State => t.tryUnbind q v) (if_pos hg)
  rw [e, ho, tryUnbind_none]
  rw [hv, removing_vppbSt]
  exact hx


/-- A write of Slot Control is kept, and Command Completed is to follow. -/
theorem slotControl_answers (s : State) (q : PortIx) (v : Fin 256) (w : BitVec 16) :
    s.quiet = true → s.md.clocked = true →
  Answers (exec (.slotControlWrite q v w) s) fun t =>
    (t.vppbSt q.val v.val).control = w ∧ (t.vppbSt q.val v.val).cmdPending = true ∧ t.regsBut s [] := by
  intro hq hc
  refine answers_clocked hc (answers_hostSide hq (hostSide_modVppb ..) fun t hv _ hr => ?_)
  rw [hv, State.slotControl, vppbSt_modVppb_same]
  exact ⟨rfl, rfl, hr⟩

/-- Command Completed, told to the host where it asks for it. -/
theorem commandCompleted_answers (s : State) (q : PortIx) (v : Fin 256) :
    s.quiet = true → s.md.clocked = true →
  (s.vppbSt q.val v.val).cmdPending = true →
  Answers (exec (.commandCompleted q v) s) fun t =>
    (t.vppbSt q.val v.val).cmdPending = false ∧ (t.vppbSt q.val v.val).cmdDone = true ∧
    ((s.vppbSt q.val v.val).control.getLsbD 4 = true → (s.vppbSt q.val v.val).control.getLsbD 5 = true →
      Out.hotplug q.val v.val ∈ t.out) ∧ t.regsBut s [] := by
  intro hq hc hp
  refine answers_clocked hc ?_
  rw [State.cmdCompleted, if_pos hp]
  refine answers_hostSide hq (hostSide_vppbEvent ..) fun t hv ho hr => ?_
  rw [hv, vppbSt_vppbEvent, vppbSt_modVppb_same]
  exact ⟨rfl, rfl, fun h4 h5 => ho _ (vppbEvent_tells h5 h4), hr⟩

/-- Power Controller Control of a vPPB without a binding. -/
theorem hostPower_unbound (s : State) (q : PortIx) (v : Fin 256) (b : Bool) :
    s.quiet = true → s.md.clocked = true →
  s.bindingAt q.val v.val = none →
  Answers (exec (.hostPowerControlWrite q v b) s) fun t =>
    (t.vppbSt q.val v.val).cmdPending = true ∧ t.regsBut s [] := by
  intro hq hc hb
  refine answers_clocked hc ?_
  rw [hostPower_empty (on := b) hb]
  refine answers_hostSide hq (hostSide_modVppb ..) fun t hv _ hr => ?_
  rw [hv, State.powerWritten, vppbSt_modVppb_same]
  exact ⟨rfl, hr⟩

/-- Power off, written by the host, asks for the removal of the module. -/
theorem hostPower_off (s : State) (q : PortIx) (v : Fin 256) (f : Nat) (b : BindingRec) (p : PortRec) :
    s.quiet = true →
  s.md.clocked = true → s.bindingAt q.val v.val = some (f, b) → s.portRec b.dsp = some p → p.port = b.dsp →
  p.port < 128 → p.hotplug = true → s.md.slots = true → s.portInUse p.port = false →
  s.hpState p.port ∈ [Hp.POWERING, Hp.POWERED, Hp.LINKING, Hp.ENUM, Hp.ACTIVE] →
  (s.vppbSt q.val v.val).unbind = none →
  Answers (exec (.hostPowerControlWrite q v false) s) fun t =>
    t.hpState p.port = Hp.OFFING ∧ (t.vppbSt q.val v.val).cmdPending = true ∧
    t.rd (Reg.PT_HP_CNT p.port) Fld.PT_HP_CNT.REMOVALS =
      min (2 ^ Fld.PT_HP_CNT.REMOVALS.width - 1) (s.rd (Reg.PT_HP_CNT p.port) Fld.PT_HP_CNT.REMOVALS + 1) ∧
    t.regsBut s [Reg.PT_HP_STATUS p.port, Reg.PT_HP_CNT p.port] := by
  intro hq hc hb hp _ _ hh hm hu hs hn
  refine answers_clocked hc ?_
  rw [hostPower_removes hb hp hh hm hu hs hn]
  have hside := hostSide_noteDllsc ((s.powerWritten q.val v.val false).removing p) ((s.powerWritten q.val v.val false).vppbsOf p.port)
  obtain ⟨h1, h2, h3⟩ := removing_spec (s.powerWritten q.val v.val false) p
  obtain ⟨d, hv⟩ := vppbSt_noteDllsc ((s.powerWritten q.val v.val false).removing p)
    ((s.powerWritten q.val v.val false).vppbsOf p.port) q.val v.val
  have hcalm := calm_trans (hostSide_calm hside) (calm_trans (removing_calm _ p)
    (hostSide_calm (hostSide_modVppb s q.val v.val (powerCmd false))))
  refine answers_of_calm hq hcalm fun l x y => ⟨(hostSide_rd hside _ _).trans h1, ?_, (hostSide_rd hside _ _).trans h2,
    fun a ha => (hostSide_reg hside a).trans (h3 a ha)⟩
  rw [removing_vppbSt, State.powerWritten, vppbSt_modVppb_same] at hv
  exact congrArg VppbState.cmdPending hv

/-- Link Disable of a vPPB without a binding. -/
theorem linkDisable_unbound (s : State) (q : PortIx) (v : Fin 256) :
    s.quiet = true → s.md.clocked = true → s.bindingAt q.val v.val = none →
  Answers (exec (.vppbLinkDisable q v) s) fun t => (t.vppbSt q.val v.val).linkDisable = true ∧ t.regsBut s [] := by
  intro hq hc hb
  refine answers_clocked hc ?_
  have e : s.vppbLinkDisable q.val v.val = s.modVppb q.val v.val fun x => { x with linkDisable := true } :=
    tryUnbind_unbound hb
  rw [e]
  refine answers_hostSide hq (hostSide_modVppb ..) fun t hv _ hr => ?_
  rw [hv, vppbSt_modVppb_same]
  exact ⟨rfl, hr⟩

/-- Link Disable completes an unbind of option 0. -/
theorem linkDisable_unbinds (s : State) (q : PortIx) (v : Fin 256) (f : Nat) (b : BindingRec) :
    s.md.clocked = true →
  s.bindingAt q.val v.val = some (f, b) → b.usp = q.val → b.vppb = v.val → f < 32 →
  (s.vppbSt q.val v.val).unbind = some 0 → s.canAdvance f true = true → s.arrayEmpty →
  Leaves (exec (.vppbLinkDisable q v) s) fun u =>
    (u.flAcc f).cur.bindings = ((s.flAcc f).cur.bindings.filter fun x => !(x.usp == q.val && x.vppb == v.val)) ∧
    u.epochOf f = (s.epochOf f + 1) % 2 ^ 32 ∧ (u.vppbSt q.val v.val).unbind = none := by
  intro hc hb hq hv _ hu hca he
  refine leaves_clocked hc ?_
  obtain ⟨hh, -, -, -, -, ht, -⟩ := he
  have hx : ((s.modVppb q.val v.val fun x => { x with linkDisable := true }).vppbSt q.val v.val) =
      { s.vppbSt q.val v.val with linkDisable := true } := vppbSt_modVppb_same ..
  have e : s.vppbLinkDisable q.val v.val = (s.modVppb q.val v.val fun x => { x with linkDisable := true }).unbindNow f b :=
    tryUnbind_ready (f := f) hb (.inl ⟨by rw [hx]; exact hu, by rw [hx]⟩) hca
  obtain ⟨h1, h2, h3, -⟩ := unbindNow_spec (s := s.modVppb q.val v.val fun x => { x with linkDisable := true }) ht hh f b
  rw [hq, hv] at h3 h1
  rw [e]
  exact ⟨h1, h2, h3⟩

/-- An unbind of option 1 completes once the host has written power off. -/
theorem unbindComplete_unbinds (s : State) (q : PortIx) (v : Fin 256) (f : Nat) (b : BindingRec) :
    s.md.clocked = true →
  s.bindingAt q.val v.val = some (f, b) → b.usp = q.val → b.vppb = v.val → f < 32 →
  (s.vppbSt q.val v.val).unbind = some 1 → (s.vppbSt q.val v.val).offWritten = true → s.canAdvance f true = true →
  s.arrayEmpty →
  Leaves (exec (.unbindComplete q v) s) fun u =>
    (u.flAcc f).cur.bindings = ((s.flAcc f).cur.bindings.filter fun x => !(x.usp == q.val && x.vppb == v.val)) ∧
    u.epochOf f = (s.epochOf f + 1) % 2 ^ 32 ∧ (u.vppbSt q.val v.val).unbind = none ∧
    (u.vppbSt q.val v.val).presenceChanged = true := by
  intro hc hb hq hv _ hu ho hca he
  refine leaves_clocked hc ?_
  obtain ⟨hh, -, -, -, -, ht, -⟩ := he
  obtain ⟨h1, h2, h3, h4, -⟩ := unbindNow_spec (s := s) ht hh f b
  rw [hq, hv] at h1 h3 h4
  rw [tryUnbind_ready hb (.inr ⟨hu, ho⟩) hca]
  exact ⟨h1, h2, h3, h4⟩

/-- Settles O35: a write changes the vPPB alone; an unbind that is ready is one epoch advance. -/
theorem virtualSlots : Obligations.VirtualSlots :=
  ⟨slotControl_answers, commandCompleted_answers, hostPower_unbound, hostPower_off, linkDisable_unbound, linkDisable_unbinds, unbindComplete_unbinds⟩


end Sys2Proof.Machine
end

section
/-!
REFUTATION. The table save of a drain that cut a REVIVE.
-/
namespace Sys2Proof.Machine

/-- A drain that has cut a REVIVE before its tables were restored (assumption 81), in phase D. -/
def earlyDrain : State :=
  let s := (State.reset.wr Reg.CHIP_MODE Fld.CHIP_MODE.MODE Mode.drydown.code).wr Reg.KS_DRAIN_STATUS Fld.KS_DRAIN_STATUS.PHASE 3
  { s with drain := { s.drain with early := true } }

/-- Its table save leaves the retention record as it stands: here there is none. -/
theorem earlyDrain_saved : earlyDrain.tableSaveDone.settle.retention = none := by decide +kernel

/-- Refutes O41: the seventh clause has the end of the table save write a retention record, but where the drain cut a REVIVE
before its tables were restored the retained image, index and record stand as they are. -/
theorem not_drainPhases : ¬ Obligations.DrainPhases := by
  intro h
  obtain ⟨-, -, -, -, -, -, h, -⟩ := h
  obtain ⟨t, ht, -, -, -, -, ⟨r, hr, -⟩, -⟩ := h earlyDrain (by decide +kernel) (by decide +kernel) (by decide +kernel)
    (by decide +kernel) (by decide +kernel)
  have he : earlyDrain.tableSaveDone.settle = t := by
    injection ht
  rw [← he, earlyDrain_saved] at hr
  exact absurd hr (by simp)

end Sys2Proof.Machine
end

section
/-!
Fault clearing and unfencing of a Flacon (R234, R242, R392).
-/
namespace Sys2Proof.Machine

theorem FL_reg_not_calm {a f : Nat} (h : a = Reg.FL_STATUS f ∨ a = Reg.FL_FAULT f ∨ a = Reg.FL_EPOCH_DRAIN f) : a ∉ calmRegs := by
  simp only [Reg.FL_STATUS, Reg.FL_FAULT, Reg.FL_EPOCH_DRAIN] at h
  simp only [calmRegs, List.mem_cons, List.not_mem_nil, or_false, not_or, Reg.CHIP_MODE, Reg.PC_SUPV_STATUS, Reg.MG_FML_STATUS]
  omega

theorem calm_withHold (s : State) (x : Tab HeldHalf) : (s.withHold x).calm s := calm_refl s

/-- What a written command that writes one field of a register of a Flacon answers. -/
theorem answers_wr {s u : State} (hq : s.quiet = true) (hu : u.calm s) (hr : ∀ a, u.reg a = s.reg a) {a : Nat}
    (ha : a ∉ calmRegs) (f : Fld) (x : Nat) {P : State → Prop}
    (hP : ∀ t : State, (∀ b, t.reg b = (u.wr a f x).reg b) → t.regsBut s [a] → P t) : Answers (done (u.wr a f x)) P :=
  answers_of_calm hq (calm_wr hu ha f x) fun _ _ _ => hP _ (fun _ => rfl) fun b hb =>
    (reg_wr_ne (by simpa using hb) u f x).trans (hr b)

/-! ### The end of an unfencing -/

theorem unfence_waiting {s : State} {f : Nat} (h : s.fenceDry f = false) : s.unfence f = s :=
  if_pos (.inr (.inr (.inl (by rw [h]; rfl))))

/-- The last writes of an unfencing, after whatever the steps before have done. -/
theorem unfence_ends {s : State} {f : Nat} (hu : s.on (Reg.FL_STATUS f) Fld.FL_STATUS.UNFENCING = true)
    (hc : s.fenceComes f = false) (hd : s.fenceDry f = true) (ha : s.canAdvance f false = true) :
    ∃ t : State, s.unfence f = (t.set0 (Reg.FL_STATUS f) Fld.FL_STATUS.UNFENCING).set0 (Reg.FL_STATUS f) Fld.FL_STATUS.FENCED :=
  ⟨_, if_neg (by simp [hu, hc, hd, ha])⟩

theorem unfenced_status (t : State) (f : Nat) :
    ((t.set0 (Reg.FL_STATUS f) Fld.FL_STATUS.UNFENCING).set0 (Reg.FL_STATUS f) Fld.FL_STATUS.FENCED).on (Reg.FL_STATUS f)
        Fld.FL_STATUS.FENCED = false ∧
      ((t.set0 (Reg.FL_STATUS f) Fld.FL_STATUS.UNFENCING).set0 (Reg.FL_STATUS f) Fld.FL_STATUS.FENCED).on (Reg.FL_STATUS f)
        Fld.FL_STATUS.UNFENCING = false := by
  rw [set0_eq, set0_eq]
  exact ⟨on_wr_zero (by decide) _ _, (on_wr_other _ _ _ _ _ _ (by decide) (.inr (by decide))).trans (on_wr_zero (by decide) _ _)⟩

/-! ### O23 -/

/-- A drain target is kept. -/
theorem epochDrainTarget_answers (s : State) (p : AccessPath) (f : FlaconIx) (x : BitVec 32) :
    s.quiet = true → s.mayAct p = true →
  Answers (exec (.epochDrainTarget p f x) s) fun t =>
    t.rd (Reg.FL_EPOCH_DRAIN f.val) Fld.FL_EPOCH_DRAIN.TARGET = x.toNat ∧ t.regsBut s [Reg.FL_EPOCH_DRAIN f.val] := by
  intro hq ha
  change Answers (s.written p fun t => t.wr (Reg.FL_EPOCH_DRAIN f.val) Fld.FL_EPOCH_DRAIN.TARGET x.toNat) _
  refine written_answers_of ha fun y => ?_
  refine answers_wr hq (calm_withHold s y) (fun _ => rfl) (FL_reg_not_calm (.inr (.inr rfl))) _ _ fun t ht hr => ⟨?_, hr⟩
  rw [rd_of_reg (ht _), rd_wr _ _ _ _ (by decide)]
  exact Nat.mod_eq_of_lt x.isLt

/-- A clear of a Flacon that is not fenced is without effect. -/
theorem unfencedClear_answers (s : State) (p : AccessPath) (f : FlaconIx) :
    s.quiet = true → s.mayAct p = true →
  s.on (Reg.FL_STATUS f.val) Fld.FL_STATUS.FENCED = false →
  Answers (exec (.flFaultClear p f) s) fun t => t.regsBut s [] ∧ t.acc = s.acc := by
  intro hq ha hf
  change Answers (s.written p fun t => (t.flFaultClear f.val).2) _
  refine written_answers_of ha fun y => ?_
  rw [flFaultClear_unfenced (s := s.withHold y) hf]
  exact answers_of_calm hq (calm_withHold s y) fun _ _ _ => ⟨fun _ _ => rfl, rfl⟩

/-- A clear in QUARANTINE, or while the Flacon is being unfenced, is refused. -/
theorem fencedClear_refuses (s : State) (p : AccessPath) (f : FlaconIx) :
    s.quiet = true → s.mayAct p = true →
  s.on (Reg.FL_STATUS f.val) Fld.FL_STATUS.FENCED = true →
  (s.md = .quarantine ∨ s.on (Reg.FL_STATUS f.val) Fld.FL_STATUS.UNFENCING = true) →
  Answers (exec (.flFaultClear p f) s) fun t =>
    t.on (Reg.FL_FAULT f.val) Fld.FL_FAULT.REFUSED = true ∧ t.regsBut s [Reg.FL_FAULT f.val] := by
  intro hq ha hf hr
  change Answers (s.written p fun t => (t.flFaultClear f.val).2) _
  refine written_answers_of ha fun y => ?_
  rw [flFaultClear_refused (s := s.withHold y) hf hr]
  refine answers_wr hq (calm_withHold s y) (fun _ => rfl) (FL_reg_not_calm (.inr (.inl rfl))) _ _ fun t ht hr => ⟨?_, hr⟩
  rw [on_of_reg (ht _)]
  exact on_wr_one (by decide) (by decide) ..

/-- A clear of a fenced Flacon starts its unfencing. -/
theorem fencedClear_unfences (s : State) (p : AccessPath) (f : FlaconIx) :
    s.quiet = true → s.mayAct p = true →
  s.on (Reg.FL_STATUS f.val) Fld.FL_STATUS.FENCED = true → s.md ≠ .quarantine →
  s.on (Reg.FL_STATUS f.val) Fld.FL_STATUS.UNFENCING = false → s.viralPorts f.val = [] →
  Answers (exec (.flFaultClear p f) s) fun t =>
    t.on (Reg.FL_STATUS f.val) Fld.FL_STATUS.UNFENCING = true ∧
    t.on (Reg.FL_STATUS f.val) Fld.FL_STATUS.FENCED = true ∧ t.regsBut s [Reg.FL_STATUS f.val] := by
  intro hq ha hf hm hu hv
  change Answers (s.written p fun t => (t.flFaultClear f.val).2) _
  refine written_answers_of ha fun y => ?_
  rw [flFaultClear_taken (s := s.withHold y) hf hm hu hv]
  refine answers_wr hq (calm_withHold s y) (fun _ => rfl) (FL_reg_not_calm (.inl rfl)) _ _ fun t ht hr => ⟨?_, ?_, hr⟩
  · rw [on_of_reg (ht _)]
    exact on_wr_one (by decide) (by decide) ..
  · rw [on_of_reg (ht _)]
    exact (on_wr_other _ _ _ _ _ _ (by decide) (.inr (by decide))).trans hf

/-- With nothing in flight an unfencing ends. -/
theorem unfence_done (s : State) (f : FlaconIx) :
    s.md.clocked = true → s.on (Reg.FL_STATUS f.val) Fld.FL_STATUS.UNFENCING = true →
  s.fenceComes f.val = false → s.fenceDry f.val = true → s.canAdvance f.val false = true →
  Leaves (exec (.unfenceDrainDone f) s) fun u =>
    u.on (Reg.FL_STATUS f.val) Fld.FL_STATUS.FENCED = false ∧
    u.on (Reg.FL_STATUS f.val) Fld.FL_STATUS.UNFENCING = false := by
  intro hc hu hf hd ha
  refine leaves_clocked hc ?_
  obtain ⟨t, e⟩ := unfence_ends hu hf hd ha
  rw [e]
  exact unfenced_status t f.val

/-- An unfencing waits while anything is in flight. -/
theorem unfence_waits (s : State) (f : FlaconIx) :
    s.quiet = true → s.md.clocked = true → s.fenceDry f.val = false →
  Answers (exec (.unfenceDrainDone f) s) fun t => t.acc = s.acc ∧ t.home = s.home ∧ t.regsBut s [] := by
  intro hq hc hd
  refine answers_clocked hc ?_
  rw [unfence_waiting hd]
  exact answers_of_calm hq (calm_refl s) fun _ _ _ => ⟨rfl, rfl, fun _ _ => rfl⟩

/-- Settles O23: each register command writes one field; an unfencing ends in two. -/
theorem epochAndUnfence : Obligations.EpochAndUnfence :=
  ⟨epochDrainTarget_answers, unfencedClear_answers, fencedClear_refuses, fencedClear_unfences, unfence_done, unfence_waits⟩


end Sys2Proof.Machine
end

section
/-!
DL_Down of a standard port at which nothing is under way (R310 to R313).
-/
namespace Sys2Proof.Machine

/-! ### What the gates of a port may touch -/

/-- t is u but for registers of K, the schedulers, and what is raised besides. -/
def State.gateSide (t u : State) (K : Nat → Prop) : Prop :=
  t = { u with regs := t.regs, sched := t.sched, flt := t.flt } ∧ (∀ o ∈ u.flt.raised, o ∈ t.flt.raised) ∧
    ∀ a, ¬ K a → t.reg a = u.reg a

section
variable {t u s : State} {K : Nat → Prop}

theorem gateSide_refl (s : State) (K : Nat → Prop) : s.gateSide s K := ⟨rfl, fun _ h => h, fun _ _ => rfl⟩

theorem gateSide_trans (h : t.gateSide u K) (k : u.gateSide s K) : t.gateSide s K := by
  obtain ⟨e, hf, hr⟩ := h
  obtain ⟨e', hf', hr'⟩ := k
  refine ⟨?_, fun o h => hf o (hf' o h), fun a ha => (hr a ha).trans (hr' a ha)⟩
  rw [e, e']

theorem gateSide_wr (h : u.gateSide s K) {a : Nat} (ha : K a) (f : Fld) (x : Nat) : (u.wr a f x).gateSide s K :=
  gateSide_trans (u := u) ⟨rfl, fun _ h => h, fun b hb => reg_wr_ne (fun e => hb (by rw [e]; exact ha)) u f x⟩ h

theorem gateSide_raise (h : u.gateSide s K) (n : Nat) (f : Option Nat) : (u.raise n f).gateSide s K :=
  gateSide_trans (u := u) ⟨rfl, raise_keeps_raised u n f, fun _ _ => rfl⟩ h

theorem gateSide_modSched (h : u.gateSide s K) (q : Nat) (g : SchedPort → SchedPort) : (u.modSched q g).gateSide s K :=
  gateSide_trans (u := u) ⟨rfl, fun _ h => h, fun _ _ => rfl⟩ h

theorem gateSide_ite {c : Prop} [Decidable c] (ht : t.gateSide s K) (hu : u.gateSide s K) :
    (if c then t else u).gateSide s K := by
  split <;> assumption

theorem gateSide_foldl_mem {α : Type} {g : State → α → State} : ∀ (l : List α) (t : State),
    (∀ t, ∀ e ∈ l, t.gateSide s K → (g t e).gateSide s K) → t.gateSide s K → (l.foldl g t).gateSide s K
  | [], _, _, h => h
  | e :: l, t, hg, h => gateSide_foldl_mem l (g t e) (fun t e he => hg t e (List.mem_cons_of_mem _ he))
    (hg t e List.mem_cons_self h)

end

theorem gateSide_putShort {u s : State} (h : u.gateSide s gateReg) (q : Nat) (w : List Nat) (n : Nat) :
    (u.putShort q w n).gateSide s gateReg := by
  unfold State.putShort
  refine gateSide_wr (gateSide_foldl_mem _ _ (fun t e he ht => gateSide_wr ht (gateReg_SHORT q ?_) _ _) h) (gateReg_ERR q) _ _
  exact List.mem_range.mp (List.of_mem_zip he).2

theorem gateSide_regate (s : State) (q : Nat) : (s.regate q).gateSide s gateReg := by
  unfold State.regate
  split
  · exact gateSide_refl s _
  · simp only
    have h1 := fun x => gateSide_wr (gateSide_refl s gateReg) (gateReg_STATE q) Fld.PT_GATE_STATE.GUARD x
    refine gateSide_ite (h1 _) (gateSide_ite (gateSide_raise (gateSide_wr (gateSide_modSched (gateSide_ite
      (gateSide_wr (gateSide_putShort (h1 _) ..) (gateReg_ERR q) _ _) (gateSide_putShort (h1 _) ..)) ..) (gateReg_ERR q) _ _) ..)
      (gateSide_modSched (gateSide_ite
      (gateSide_wr (gateSide_putShort (h1 _) ..) (gateReg_ERR q) _ _) (gateSide_putShort (h1 _) ..)) ..))

section
variable (s : State) (q : Nat)

theorem regate_std : (s.regate q).std = s.std := by rw [(gateSide_regate s q).1]
theorem regate_fml : (s.regate q).fml = s.fml := by rw [(gateSide_regate s q).1]
theorem regate_lane : (s.regate q).lane = s.lane := by rw [(gateSide_regate s q).1]
theorem regate_vppb : (s.regate q).vppb = s.vppb := by rw [(gateSide_regate s q).1]
theorem regate_acc : (s.regate q).acc = s.acc := by rw [(gateSide_regate s q).1]
theorem regate_out : (s.regate q).out = s.out := by rw [(gateSide_regate s q).1]
theorem regate_reg {a : Nat} (h : ¬ gateReg a) : (s.regate q).reg a = s.reg a := (gateSide_regate s q).2.2 a h
theorem regate_raised : ∀ o ∈ s.flt.raised, o ∈ (s.regate q).flt.raised := (gateSide_regate s q).2.1

end

/-! ### What the end of a standard link may touch -/

/-- The registers of port q that the end of its link writes, with its gates' registers and those of the engine function. -/
def downReg (q a : Nat) : Prop :=
  a = Reg.PT_STD_STATUS q ∨ a = Reg.PT_STD_EVENTS q ∨ a = Reg.PT_STD_ERR q ∨ a = Reg.PT_STD_HDM q ∨ a = Reg.PT_HP_STATUS q ∨
    gateReg a ∨ 0x100000000 ≤ a

/-- t is u but for registers of K, the schedulers, what is raised besides, the training still waited for, what the ports
keep, doorbells and outputs added. -/
def State.downSide (t u : State) (K : Nat → Prop) : Prop :=
  t = { u with
    regs := t.regs, sched := t.sched, flt := t.flt, fml := { u.fml with retrain := t.fml.retrain }, std := t.std, io := t.io
    acd := t.acd, vppb := t.vppb, out := t.out } ∧
  (∀ o ∈ u.flt.raised, o ∈ t.flt.raised) ∧ (∀ y ∈ u.out, y ∈ t.out) ∧ ∀ a, ¬ K a → t.reg a = u.reg a

section
variable {t u s : State} {K : Nat → Prop}

theorem downSide_refl (s : State) (K : Nat → Prop) : s.downSide s K := ⟨rfl, fun _ h => h, fun _ h => h, fun _ _ => rfl⟩

theorem downSide_trans (h : t.downSide u K) (k : u.downSide s K) : t.downSide s K := by
  obtain ⟨e, hf, ho, hr⟩ := h
  obtain ⟨e', hf', ho', hr'⟩ := k
  refine ⟨?_, fun o h => hf o (hf' o h), fun y h => ho y (ho' y h), fun a ha => (hr a ha).trans (hr' a ha)⟩
  rw [e, e']

theorem downSide_of_gateSide (h : t.gateSide u K) : t.downSide u K := by
  obtain ⟨e, hf, hr⟩ := h
  refine ⟨?_, hf, ?_, hr⟩
  · rw [e]
  · rw [e]
    exact fun _ h => h

theorem downSide_of_hostSide (k : t.hostSide u) : t.downSide u K := by
  refine ⟨?_, ?_, k.2, fun a _ => hostSide_reg k a⟩
  · rw [k.1]
  · rw [hostSide_flt k]
    exact fun _ h => h

theorem downSide_wr (h : u.downSide s K) {a : Nat} (ha : K a) (f : Fld) (x : Nat) : (u.wr a f x).downSide s K :=
  downSide_trans (downSide_of_gateSide (gateSide_wr (gateSide_refl u K) ha f x)) h

theorem downSide_raise (h : u.downSide s K) (n : Nat) (f : Option Nat) : (u.raise n f).downSide s K :=
  downSide_trans (downSide_of_gateSide (gateSide_raise (gateSide_refl u K) n f)) h

theorem downSide_setReg (h : u.downSide s K) {a : Nat} (ha : K a) (v : Word) : (u.setReg a v).downSide s K :=
  downSide_trans (u := u) ⟨rfl, fun _ h => h, fun _ h => h, fun b hb => by
    rw [reg_setReg, if_neg fun e => hb (by rw [e]; exact ha)]⟩ h

theorem downSide_modStd (h : u.downSide s K) (q : Nat) (g : StdState → StdState) : (u.modStd q g).downSide s K :=
  downSide_trans (u := u) ⟨rfl, fun _ h => h, fun _ h => h, fun _ _ => rfl⟩ h

theorem downSide_attemptDone (h : u.downSide s K) (q : Nat) : (u.attemptDone q).downSide s K :=
  downSide_trans (u := u) ⟨rfl, fun _ h => h, fun _ h => h, fun _ _ => rfl⟩ h

theorem downSide_emit (h : u.downSide s K) (y : Out) : (u.emit y).downSide s K :=
  downSide_trans (u := u) ⟨rfl, fun _ h => h, fun _ h => List.mem_cons_of_mem _ h, fun _ _ => rfl⟩ h

theorem downSide_hostSide (h : u.downSide s K) (k : t.hostSide u) : t.downSide s K :=
  downSide_trans (downSide_of_hostSide k) h

theorem downSide_foldl_mem {α : Type} {g : State → α → State} : ∀ (l : List α) (t : State),
    (∀ t, ∀ e ∈ l, t.downSide s K → (g t e).downSide s K) → t.downSide s K → (l.foldl g t).downSide s K
  | [], _, _, h => h
  | e :: l, t, hg, h => downSide_foldl_mem l (g t e) (fun t e he => hg t e (List.mem_cons_of_mem _ he))
    (hg t e List.mem_cons_self h)

theorem downSide_mono {L : Nat → Prop} (h : t.downSide u K) (hk : ∀ a, K a → L a) : t.downSide u L :=
  ⟨h.1, h.2.1, h.2.2.1, fun a ha => h.2.2.2 a fun hx => ha (hk a hx)⟩

end

/-! ### Nothing to flush -/

section
variable {s : State}

theorem portQueues_none (h : s.core.queues = []) (q : Nat) : s.portQueues q = [] := by
  unfold State.portQueues
  rw [h]
  rfl

theorem flushPort_none (h : s.core.queues = []) (q : Nat) (p : Nat → Nat → Bool) : s.flushPort q p = s := by
  unfold State.flushPort
  rw [portQueues_none h]
  rfl

theorem flushCells_none (h : s.core.queues = []) (q : Nat) (p : Cell → Bool) : s.flushCells q p = s := by
  unfold State.flushCells
  rw [portQueues_none h]
  rfl

theorem portCells_none (h : s.core.queues = []) (q : Nat) : s.portCells q = 0 := by
  unfold State.portCells
  rw [portQueues_none h]
  rfl

theorem recordsOf_none (h : s.core.otags = []) (q : Nat) (d : Bool) : s.recordsOf q d = [] := by
  unfold State.recordsOf
  rw [h]
  rfl

theorem dropRecords_none (h : s.core.otags = []) (q : Nat) : s.dropRecords q = s := by
  unfold State.dropRecords
  rw [recordsOf_none h]
  rfl

theorem freeDropped_none (h : s.core.otags = []) (q : Nat) (p : OutRec → Bool) : s.freeDropped q p = s := by
  unfold State.freeDropped
  rw [h, List.filter_nil, ← h]

theorem cutIngress_none {q : Nat} (h : ∀ c < 8, s.arrivingAt q c = none) : s.cutIngress q = s := by
  refine List.foldlRecOn (List.range 8) _ (motive := fun t => t = s) rfl fun t ht c hc => ?_
  rw [ht, h c (List.mem_range.mp hc)]

theorem endStarted_none {q : Nat} (h : (s.schedPort q).hold = none) : s.endStarted q = s := by
  unfold State.endStarted
  rw [h]

/-- The linger of a port with nothing queued ends without a flush. -/
theorem stdLingerEnd_empty (h : s.core.queues = []) {q : Nat}
    (hl : s.on (Reg.PT_STD_STATUS q) Fld.PT_STD_STATUS.LINGER = true) :
    s.stdLingerEnd q = s.set0 (Reg.PT_STD_STATUS q) Fld.PT_STD_STATUS.LINGER := by
  unfold State.stdLingerEnd
  simp only [hl, Bool.not_true, Bool.false_eq_true, if_false, portCells_none h, if_true]

theorem stdLingerEnd_off {q : Nat} (hl : s.on (Reg.PT_STD_STATUS q) Fld.PT_STD_STATUS.LINGER = false) : s.stdLingerEnd q = s :=
  if_pos (by rw [hl]; rfl)

end

/-! ### The steps of DL_Down -/

/-- The link shown down, and its fault. -/
def State.linkLost (s : State) (p : PortRec) : State :=
  ((((s.set0 (Reg.PT_STD_STATUS p.port) Fld.PT_STD_STATUS.DL_UP).setLtssm p.port 0).inc (Reg.PT_STD_EVENTS p.port)
    Fld.PT_STD_EVENTS.DOWNS).wr (Reg.PT_STD_STATUS p.port) Fld.PT_STD_STATUS.IDE 0).stdErr p.port Fld.PT_STD_ERR.LINK_DOWN 13

/-- The keys of a link that has gone down: a downstream port holds them back. -/
def State.keysLost (s : State) (p : PortRec) : State :=
  (s.linkLost p).modStd p.port fun x => { x with
    keyTx := none, keyRx := none, heldTx := if (p.role == .downstream) = true then x.keyTx else none
    heldRx := if (p.role == .downstream) = true then x.keyRx else none }

/-- The link closed: shown down, its keys gone, no completion dropped. -/
def State.linkClosed (s : State) (p : PortRec) : State :=
  (s.keysLost p).addTo (Reg.PT_STD_EVENTS p.port) Fld.PT_STD_EVENTS.DROP_CPL 0

/-- HDM decoder 0 of an upstream port cleared. -/
def State.hdmGone (s : State) (q : Nat) : State :=
  (((s.modStd q fun x => { x with hdm := none }).setReg (Reg.PT_STD_HDM q) 0).set0 (Reg.PT_STD_STATUS q)
    Fld.PT_STD_STATUS.HDM_COMMITTED).set0 (Reg.PT_STD_STATUS q) Fld.PT_STD_STATUS.HDM_SHORT

/-- The vPPBs of a host that is gone keep only an unbind that waits. -/
def State.vppbsGone (s : State) (q : Nat) : State :=
  { s with vppb := (s.vppb.filter fun e => e.1 / 256 != q || e.2.unbind.isSome).map fun e =>
    (e.1, if e.1 / 256 = q then { unbind := e.2.unbind } else e.2) }

/-- The virtual hierarchy of a host reset: its decoder, its engine function, its vPPBs, the devices bound to it. -/
def State.hostReset (s : State) (q : Nat) : State :=
  ((((s.hdmGone q).engineReset q).vppbsGone q).allBindings.filter fun b => b.usp == q).foldl (fun t b => t.resetBound b)
    (((s.hdmGone q).engineReset q).vppbsGone q)

def State.hostGone (s : State) (p : PortRec) : State :=
  if p.protocol = .cxl then
    ((s.hostReset p.port).set1 (Reg.PT_STD_STATUS p.port) Fld.PT_STD_STATUS.WALK).modStd p.port fun x =>
      { x with walkEid := (s.hostReset p.port).portEid p.port }
  else s.hostReset p.port

/-- The device below a downstream port is gone; its port may linger. -/
def State.deviceGone (s : State) (p : PortRec) (linger : Bool) : State :=
  let s3 := (s.modStd p.port fun x => { x with cacheDev := false, gpfSent := none, gpfDone := 0 }).set1
    (Reg.PT_STD_STATUS p.port) Fld.PT_STD_STATUS.LINGER
  if linger && p.lingerMs != 0 then s3 else s3.set0 (Reg.PT_STD_STATUS p.port) Fld.PT_STD_STATUS.LINGER

/-- What is beyond the port is gone: a host, or a device. -/
def State.beyondGone (s : State) (p : PortRec) (linger : Bool) : State :=
  if p.role = .upstream then (s.linkClosed p).hostGone p else (s.linkClosed p).deviceGone p linger

/-- The slot of the port follows its link. -/
def State.slotGone (s : State) (p : PortRec) (linger : Bool) : State :=
  if p.hotplug ∧ s.hpState p.port = 6 then
    ((s.beyondGone p linger).wr (Reg.PT_HP_STATUS p.port) Fld.PT_HP_STATUS.STATE 4).noteDllsc ((s.beyondGone p linger).vppbsOf p.port)
  else if !p.hotplug ∧ p.role = .downstream then (s.beyondGone p linger).noteDllsc ((s.beyondGone p linger).vppbsOf p.port)
  else s.beyondGone p linger

theorem linkLost_core (s : State) (p : PortRec) : (s.linkLost p).core = s.core := by
  rw [State.linkLost, State.stdErr, raise_core, set1_eq, wr_core, wr_core, inc_eq, addTo_eq, wr_core, State.setLtssm, wr_core,
    set0_eq, wr_core]

theorem linkClosed_side (s : State) (p : PortRec) : (s.linkClosed p).downSide s (downReg p.port) := by
  have h1 : downReg p.port (Reg.PT_STD_STATUS p.port) := .inl rfl
  have h2 : downReg p.port (Reg.PT_STD_EVENTS p.port) := .inr (.inl rfl)
  have h3 : downReg p.port (Reg.PT_STD_ERR p.port) := .inr (.inr (.inl rfl))
  exact downSide_wr (downSide_modStd (downSide_raise (downSide_wr (downSide_wr (downSide_wr (downSide_wr (downSide_wr
    (downSide_refl s _) h1 _ _) h1 _ _) h2 _ _) h1 _ _) h3 _ _) _ _) _ _) h2 _ _


/-! ### The engine function of a host that is gone -/

/-- t is u but for the registers of the engine function, its doorbells, its vPPBs and outputs added. -/
def State.engineSide (t u : State) : Prop :=
  t = { u with regs := t.regs, io := t.io, acd := t.acd, vppb := t.vppb, out := t.out } ∧ (∀ y ∈ u.out, y ∈ t.out) ∧
    ∀ a < 0x100000000, t.reg a = u.reg a

theorem engineSide_trans {t u s : State} (h : t.engineSide u) (k : u.engineSide s) : t.engineSide s := by
  obtain ⟨e, ho, hr⟩ := h
  obtain ⟨e', ho', hr'⟩ := k
  refine ⟨?_, fun y h => ho y (ho' y h), fun a ha => (hr a ha).trans (hr' a ha)⟩
  rw [e, e']

theorem engineSide_hostSide {t u s : State} (k : t.hostSide u) (h : u.engineSide s) : t.engineSide s :=
  engineSide_trans ⟨by rw [k.1], k.2, fun a _ => hostSide_reg k a⟩ h

theorem engineSide_setReg {u s : State} (h : u.engineSide s) {a : Nat} (ha : 0x100000000 ≤ a) (v : Word) :
    (u.setReg a v).engineSide s :=
  engineSide_trans (u := u) ⟨rfl, fun _ h => h, fun b hb => by rw [reg_setReg, if_neg (by omega)]⟩ h

theorem EF_high (q k : Nat) : 0x100000000 ≤ Reg.EF_SLOT q k ∧ 0x100000000 ≤ Reg.EF_SEQ q k ∧ 0x100000000 ≤ Reg.EF_ABORT q k ∧
    0x100000000 ≤ Reg.EF_DONE q := by
  simp only [Reg.EF_SLOT, Reg.EF_SEQ, Reg.EF_ABORT, Reg.EF_DONE]
  omega

/-- With no Accord and no slice, the end of a port's doorbells touches the Accord engine's tables only. -/
theorem accordPortDown_side {s : State} (ht : s.acd.trk = []) (hh : s.home = []) (q : Nat) :
    (s.accordPortDown q).engineSide s := by
  unfold State.accordPortDown
  simp only
  rw [abortAll_none ht, runSlices_none (by exact hh)]
  exact ⟨rfl, fun _ h => h, fun _ _ => rfl⟩

theorem engineReset_side {s : State} (ht : s.acd.trk = []) (hh : s.home = []) (q : Nat) : (s.engineReset q).engineSide s := by
  have hm : ((s.accordPortDown q).msixReset (0x100000000 + q * 0x10000) (0x100010000 + q * 0x10000)).engineSide s :=
    engineSide_trans ⟨rfl, fun _ h => h, fun _ _ => rfl⟩ (accordPortDown_side ht hh q)
  refine engineSide_setReg (List.foldlRecOn (List.range 64) _ (motive := fun t : State => t.engineSide s) hm
    fun t h k _ => ?_) (EF_high q 0).2.2.2 0
  obtain ⟨h1, h2, h3, -⟩ := EF_high q k
  exact engineSide_setReg (engineSide_setReg (engineSide_setReg h h1 0) h2 0) h3 0

theorem modStd_acd (s : State) (q : Nat) (g : StdState → StdState) : (s.modStd q g).acd = s.acd := rfl
theorem modStd_core (s : State) (q : Nat) (g : StdState → StdState) : (s.modStd q g).core = s.core := rfl
theorem modStd_lane (s : State) (q : Nat) (g : StdState → StdState) : (s.modStd q g).lane = s.lane := rfl

theorem hdmGone_side (s : State) (q : Nat) : (s.hdmGone q).downSide s (downReg q) := by
  have h1 : downReg q (Reg.PT_STD_STATUS q) := .inl rfl
  have h2 : downReg q (Reg.PT_STD_HDM q) := .inr (.inr (.inr (.inl rfl)))
  exact downSide_wr (downSide_wr (downSide_setReg (downSide_modStd (downSide_refl s _) _ _) h2 _) h1 _ _) h1 _ _

theorem downSide_home {t u : State} {K : Nat → Prop} (h : t.downSide u K) : t.home = u.home := by rw [h.1]
theorem downSide_core {t u : State} {K : Nat → Prop} (h : t.downSide u K) : t.core = u.core := by rw [h.1]
theorem downSide_lane {t u : State} {K : Nat → Prop} (h : t.downSide u K) : t.lane = u.lane := by rw [h.1]
theorem downSide_decant {t u : State} {K : Nat → Prop} (h : t.downSide u K) : t.decant = u.decant := by rw [h.1]
theorem downSide_acc {t u : State} {K : Nat → Prop} (h : t.downSide u K) : t.acc = u.acc := by rw [h.1]
theorem downSide_inForce {t u : State} {K : Nat → Prop} (h : t.downSide u K) : t.fml.inForce = u.fml.inForce := by rw [h.1]
theorem downSide_gpf {t u : State} {K : Nat → Prop} (h : t.downSide u K) : t.gpf = u.gpf := by rw [h.1]

theorem hdmGone_acd (s : State) (q : Nat) : (s.hdmGone q).acd = s.acd := by
  rw [State.hdmGone, set0_eq, wr_acd, set0_eq, wr_acd, setReg_acd, modStd_acd]

theorem vppbsGone_side (s : State) (q : Nat) : (s.vppbsGone q).engineSide s := ⟨rfl, fun _ h => h, fun _ _ => rfl⟩

theorem hostReset_side {s : State} (ht : s.acd.trk = []) (hh : s.home = []) (q : Nat) :
    (s.hostReset q).engineSide (s.hdmGone q) := by
  refine engineSide_hostSide (hostSide_foldl _ (fun t b => hostSide_resetBound t b) _ _) ?_
  exact engineSide_trans (vppbsGone_side ..) (engineReset_side (by rw [hdmGone_acd]; exact ht)
    (by rw [downSide_home (hdmGone_side s q)]; exact hh) q)

theorem downSide_engineSide {t u s : State} {q : Nat} (h : u.downSide s (downReg q)) (k : t.engineSide u) :
    t.downSide s (downReg q) := by
  obtain ⟨e, ho, hr⟩ := k
  refine downSide_trans (u := u) ⟨?_, ?_, ho, fun a ha => hr a ?_⟩ h
  · rw [e]
  · rw [e]
    exact fun _ h => h
  · simp only [downReg, not_or, not_le] at ha
    omega

theorem hostGone_side {s : State} (ht : s.acd.trk = []) (hh : s.home = []) (p : PortRec) :
    (s.hostGone p).downSide s (downReg p.port) := by
  have h := downSide_engineSide (hdmGone_side s p.port) (hostReset_side ht hh p.port)
  unfold State.hostGone
  split
  · exact downSide_modStd (downSide_wr h (.inl rfl) _ _) _ _
  · exact h

theorem deviceGone_side (s : State) (p : PortRec) (l : Bool) : (s.deviceGone p l).downSide s (downReg p.port) := by
  have h := downSide_wr (downSide_modStd (downSide_refl s (downReg p.port)) p.port fun x =>
    { x with cacheDev := false, gpfSent := none, gpfDone := 0 }) (.inl rfl) Fld.PT_STD_STATUS.LINGER 1
  unfold State.deviceGone
  simp only
  split
  · exact h
  · exact downSide_wr h (.inl rfl) _ _

theorem linkClosed_acd (s : State) (p : PortRec) : (s.linkClosed p).acd = s.acd := by
  rw [State.linkClosed, addTo_eq, wr_acd, State.keysLost, modStd_acd, State.linkLost, State.stdErr, raise_acd, set1_eq, wr_acd, wr_acd, inc_eq, addTo_eq, wr_acd, State.setLtssm, wr_acd,
    set0_eq, wr_acd]

theorem beyondGone_side {s : State} (ht : s.acd.trk = []) (hh : s.home = []) (p : PortRec) (l : Bool) :
    (s.beyondGone p l).downSide s (downReg p.port) := by
  have h := linkClosed_side s p
  unfold State.beyondGone
  split
  · exact downSide_trans (hostGone_side (by rw [linkClosed_acd]; exact ht) (by rw [downSide_home h]; exact hh) p) h
  · exact downSide_trans (deviceGone_side ..) h

theorem slotGone_side {s : State} (ht : s.acd.trk = []) (hh : s.home = []) (p : PortRec) (l : Bool) :
    (s.slotGone p l).downSide s (downReg p.port) := by
  have h := beyondGone_side ht hh p l
  unfold State.slotGone
  split
  · exact downSide_hostSide (downSide_wr h (.inr (.inr (.inr (.inr (.inl rfl))))) _ _) (hostSide_noteDllsc ..)
  · split
    · exact downSide_hostSide h (hostSide_noteDllsc ..)
    · exact h

/-! ### DL_Down of an idle port -/

theorem stdDown_off {s : State} {p : PortRec} (h : s.on (Reg.PT_STD_STATUS p.port) Fld.PT_STD_STATUS.DL_UP = false) (l : Bool) :
    s.stdDown p l = s := if_pos (by rw [h]; rfl)

theorem hierarchyReset_idle {s : State} (hq : s.core.queues = []) (hg : s.core.gate = []) (p : PortRec) :
    s.hierarchyReset p = s.hostGone p := by
  unfold State.hierarchyReset State.hostGone State.hostReset State.vppbsGone State.hdmGone
  simp only
  rw [flushPort_none hq, State.flushGate, orphanGates_none hg]

theorem downstreamDown_idle {s : State} (hq : s.core.queues = []) (hg : s.core.gate = []) (hd : s.decant = []) (p : PortRec)
    (l : Bool) : s.downstreamDown p l = s.deviceGone p l := by
  unfold State.downstreamDown
  simp only
  rw [flushCells_none hq, State.flushGate, orphanGates_none hg, cancelJobs_none hd]
  unfold State.deviceGone
  simp only
  rw [stdLingerEnd_empty (by rw [set1_eq, wr_core, modStd_core]; exact hq) (on_set1 _ _ _ (by decide) (by decide))]

theorem modStd_sched (s : State) (q : Nat) (g : StdState → StdState) : (s.modStd q g).sched = s.sched := rfl

theorem linkClosed_hold (s : State) (p : PortRec) (q : Nat) : ((s.linkClosed p).schedPort q).hold = (s.schedPort q).hold := by
  have e : (s.linkClosed p).sched = s.sched := by
    rw [State.linkClosed, addTo_eq, wr_sched, State.keysLost, modStd_sched, State.linkLost, State.stdErr, raise_sched, set1_eq, wr_sched,
      wr_sched, inc_eq, addTo_eq, wr_sched, State.setLtssm, wr_sched, set0_eq, wr_sched]
  rw [State.schedPort, e]
  rfl

theorem keysLost_core (s : State) (p : PortRec) : (s.keysLost p).core = s.core := by
  rw [State.keysLost, modStd_core, linkLost_core]

theorem linkClosed_core (s : State) (p : PortRec) : (s.linkClosed p).core = s.core := downSide_core (linkClosed_side s p)

/-- What is left of DL_Down where nothing is under way at the port. -/
theorem stdDown_idle {s : State} {p : PortRec} (h : s.portIdle p.port)
    (hu : s.on (Reg.PT_STD_STATUS p.port) Fld.PT_STD_STATUS.DL_UP = true) (l : Bool) :
    s.stdDown p l = ((s.slotGone p l).attemptDone p.port).regate p.port := by
  obtain ⟨⟨hh, hq, hw, hp, hg, ht, hs⟩, ho, ha, hst, hn, hd⟩ := h
  have hc := keysLost_core s p
  have e : (s.keysLost p).noRetune := by
    refine noRetune_of_lane hn ?_
    rw [State.keysLost, modStd_lane, State.linkLost, State.stdErr, raise_lane, set1_eq, wr_lane, wr_lane, inc_eq, addTo_eq, wr_lane, State.setLtssm, wr_lane, set0_eq, wr_lane]
  have hcore := linkClosed_core s p
  have hend : ((s.linkClosed p).cutIngress p.port).endStarted p.port = s.linkClosed p := by
    rw [cutIngress_none (fun c hc => by rw [State.arrivingAt, hcore]; exact ha c hc),
      endStarted_none (by rw [linkClosed_hold]; exact hst)]
  have hdec : (s.linkClosed p).decant = [] := (downSide_decant (linkClosed_side s p)).trans hd
  have hgone : (if p.role = .upstream then (s.linkClosed p).hierarchyReset p else (s.linkClosed p).downstreamDown p l) =
      s.beyondGone p l := by
    rw [hierarchyReset_idle (by rw [hcore]; exact hq) (by rw [hcore]; exact hg),
      downstreamDown_idle (by rw [hcore]; exact hq) (by rw [hcore]; exact hg) hdec]
    rfl
  unfold State.stdDown
  simp only [hu, Bool.not_true, Bool.false_eq_true, if_false]
  rw [← State.linkLost.eq_def, ← State.keysLost.eq_def, abandonPorts_none e, dropRecords_none (by rw [hc]; exact ho),
    freeDropped_none (by rw [hc]; exact ho), recordsOf_none (by rw [hc]; exact ho), List.length_nil, ← State.linkClosed.eq_def,
    hend, hgone]
  rfl


/-- DL_Down of an idle port leaves the rest of the machine. -/
theorem stdDown_side {s : State} {p : PortRec} (h : s.portIdle p.port) (l : Bool) :
    (s.stdDown p l).downSide s (downReg p.port) := by
  by_cases hu : s.on (Reg.PT_STD_STATUS p.port) Fld.PT_STD_STATUS.DL_UP = true
  · rw [stdDown_idle h hu]
    obtain ⟨⟨hh, -, -, -, -, ht, -⟩, -⟩ := h
    exact downSide_trans (downSide_mono (downSide_of_gateSide (gateSide_regate _ _)) fun a ha => .inr (.inr (.inr (.inr (.inr (.inl ha))))))
      (downSide_attemptDone (slotGone_side ht hh p l) _)
  · rw [stdDown_off (by simpa using hu)]
    exact downSide_refl ..

/-! ### What a link that has gone down shows -/

theorem STD_regs_apart (q : Nat) : Reg.PT_STD_STATUS q ≠ Reg.PT_STD_EVENTS q ∧ Reg.PT_STD_STATUS q ≠ Reg.PT_STD_ERR q ∧
    Reg.PT_STD_STATUS q ≠ Reg.PT_STD_HDM q ∧ Reg.PT_STD_STATUS q ≠ Reg.PT_HP_STATUS q ∧ Reg.PT_STD_EVENTS q ≠ Reg.PT_STD_ERR q ∧
    Reg.PT_STD_EVENTS q ≠ Reg.PT_STD_HDM q ∧ Reg.PT_STD_EVENTS q ≠ Reg.PT_HP_STATUS q ∧ Reg.PT_STD_ERR q ≠ Reg.PT_STD_HDM q ∧
    Reg.PT_STD_ERR q ≠ Reg.PT_HP_STATUS q ∧ Reg.PT_STD_HDM q ≠ Reg.PT_HP_STATUS q := by
  simp only [Reg.PT_STD_STATUS, Reg.PT_STD_EVENTS, Reg.PT_STD_ERR, Reg.PT_STD_HDM, Reg.PT_HP_STATUS]
  omega

theorem STD_not_gate (q : Nat) : ¬ gateReg (Reg.PT_STD_STATUS q) ∧ ¬ gateReg (Reg.PT_STD_EVENTS q) ∧
    ¬ gateReg (Reg.PT_STD_ERR q) ∧ ¬ gateReg (Reg.PT_STD_HDM q) ∧ ¬ gateReg (Reg.PT_HP_STATUS q) := by
  simp only [gateReg, Reg.PT_STD_STATUS, Reg.PT_STD_EVENTS, Reg.PT_STD_ERR, Reg.PT_STD_HDM, Reg.PT_HP_STATUS]
  omega

theorem modStd_reg (s : State) (q : Nat) (g : StdState → StdState) (a : Nat) : (s.modStd q g).reg a = s.reg a := rfl

theorem stdSt_modStd (s : State) (q r : Nat) (g : StdState → StdState) :
    (s.modStd q g).stdSt r = if r = q then g (s.stdSt q) else s.stdSt r := by
  unfold State.modStd State.stdSt tabMod
  exact tabGet_tabPut ..

theorem stdSt_modStd_same (s : State) (q : Nat) (g : StdState → StdState) : (s.modStd q g).stdSt q = g (s.stdSt q) := by
  rw [stdSt_modStd, if_pos rfl]

theorem stdSt_of_std {t u : State} (h : t.std = u.std) (q : Nat) : t.stdSt q = u.stdSt q := by
  rw [State.stdSt, h]
  rfl

theorem stdErr_on (s : State) (q k : Nat) {f : Fld} (h : f.lo + f.width ≤ 64) (hw : 0 < f.width) :
    (s.stdErr q f k).on (Reg.PT_STD_ERR q) f = true := by
  rw [State.stdErr, raise_on]
  exact on_set1 _ _ _ h hw

theorem stdErr_reg {s : State} {q k a : Nat} {f : Fld} (h : a ≠ Reg.PT_STD_ERR q) : (s.stdErr q f k).reg a = s.reg a := by
  rw [State.stdErr, raise_reg, set1_eq, reg_wr_ne h]

theorem portFlacon_lt {s : State} {q i : Nat} (h : s.portFlacon q = some i) : i < 32 := by
  unfold State.portFlacon at h
  split at h
  · cases h
  · split at h
    · cases h
      assumption
    · cases h

theorem stdErr_raised (s : State) (q k : Nat) (f : Fld) :
    (s.stdErr q f k).hasRaisedOn (srcQuad (quadOf (tileOf q)) k) (s.portFlacon q) :=
  hasRaisedOn_raise _ _ fun _ => portFlacon_lt

theorem portFlacon_of_inForce {t u : State} (h : t.fml.inForce = u.fml.inForce) (q : Nat) : t.portFlacon q = u.portFlacon q := by
  unfold State.portFlacon State.portRec
  rw [h]

/-- What a link that is lost shows, and its fault. -/
theorem linkLost_spec (s : State) (p : PortRec) :
    (s.linkLost p).on (Reg.PT_STD_STATUS p.port) Fld.PT_STD_STATUS.DL_UP = false ∧
      (s.linkLost p).rd (Reg.PT_STD_STATUS p.port) Fld.PT_STD_STATUS.LTSSM = 0 ∧
      (s.linkLost p).rd (Reg.PT_STD_STATUS p.port) Fld.PT_STD_STATUS.IDE = 0 ∧
      (s.linkLost p).rd (Reg.PT_STD_EVENTS p.port) Fld.PT_STD_EVENTS.DOWNS =
        min (2 ^ Fld.PT_STD_EVENTS.DOWNS.width - 1) (s.rd (Reg.PT_STD_EVENTS p.port) Fld.PT_STD_EVENTS.DOWNS + 1) ∧
      (s.linkLost p).on (Reg.PT_STD_ERR p.port) Fld.PT_STD_ERR.LINK_DOWN = true ∧
      (s.linkLost p).hasRaisedOn (srcQuad (quadOf (tileOf p.port)) 13) (s.portFlacon p.port) := by
  obtain ⟨h1, h2, h3, h4, h5, h6, h7, h8, h9, h10⟩ := STD_regs_apart p.port
  refine ⟨?_, ?_, ?_, ?_, stdErr_on _ _ _ (by decide) (by decide), ?_⟩
  · rw [State.linkLost, on_of_reg (stdErr_reg h2), on_wr_other _ _ _ _ _ _ (by decide) (.inr (by decide)), inc_eq, addTo_eq,
      on_wr_ne h1, State.setLtssm, on_wr_other _ _ _ _ _ _ (by decide) (.inr (by decide)), set0_eq, on_wr_zero (by decide)]
  · rw [State.linkLost, rd_of_reg (stdErr_reg h2), rd_wr_other _ _ _ _ _ _ (by decide) (.inr (by decide)), inc_eq, addTo_eq,
      rd_wr_ne h1, State.setLtssm, rd_wr _ _ _ _ (by decide), Nat.zero_mod]
  · rw [State.linkLost, rd_of_reg (stdErr_reg h2), rd_wr _ _ _ _ (by decide), Nat.zero_mod]
  · rw [State.linkLost, rd_of_reg (stdErr_reg h5), rd_wr_ne h1.symm, State.inc, rd_addTo _ _ _ _ (by decide), State.setLtssm,
      rd_wr_ne h1.symm, set0_eq, rd_wr_ne h1.symm]
  · have e : (((((s.set0 (Reg.PT_STD_STATUS p.port) Fld.PT_STD_STATUS.DL_UP).setLtssm p.port 0).inc (Reg.PT_STD_EVENTS p.port)
        Fld.PT_STD_EVENTS.DOWNS).wr (Reg.PT_STD_STATUS p.port) Fld.PT_STD_STATUS.IDE 0).portFlacon p.port) = s.portFlacon p.port :=
      portFlacon_of_inForce (by rw [wr_fml, inc_eq, addTo_eq, wr_fml, State.setLtssm, wr_fml, set0_eq, wr_fml]) _
    rw [← e]
    exact stdErr_raised ..

/-- A write of no more than nothing to a counter changes no other field. -/
theorem linkClosed_reg {s : State} {p : PortRec} {a : Nat} (h : a ≠ Reg.PT_STD_EVENTS p.port) :
    (s.linkClosed p).reg a = (s.linkLost p).reg a := by
  rw [State.linkClosed, addTo_eq, reg_wr_ne h, State.keysLost, modStd_reg]

theorem linkClosed_downs (s : State) (p : PortRec) :
    (s.linkClosed p).rd (Reg.PT_STD_EVENTS p.port) Fld.PT_STD_EVENTS.DOWNS =
      (s.linkLost p).rd (Reg.PT_STD_EVENTS p.port) Fld.PT_STD_EVENTS.DOWNS := by
  rw [State.linkClosed, addTo_eq, rd_wr_other _ _ _ _ _ _ (by decide) (.inr (by decide)), State.keysLost]
  exact rd_of_reg (modStd_reg ..) _

theorem linkClosed_stdSt (s : State) (p : PortRec) :
    (s.linkClosed p).stdSt p.port = { s.stdSt p.port with
      keyTx := none, keyRx := none, heldTx := if (p.role == .downstream) = true then (s.stdSt p.port).keyTx else none
      heldRx := if (p.role == .downstream) = true then (s.stdSt p.port).keyRx else none } := by
  have e : (s.linkLost p).stdSt p.port = s.stdSt p.port := stdSt_of_std (by
    rw [State.linkLost, State.stdErr, raise_std, set1_eq, wr_std, wr_std, inc_eq, addTo_eq, wr_std, State.setLtssm, wr_std,
      set0_eq, wr_std]) _
  rw [stdSt_of_std (u := s.keysLost p) (by rw [State.linkClosed, addTo_eq, wr_std]), State.keysLost, stdSt_modStd_same, e]

theorem linkClosed_raised (s : State) (p : PortRec) : ∀ o ∈ (s.linkLost p).flt.raised, o ∈ (s.linkClosed p).flt.raised := by
  rw [State.linkClosed, addTo_eq, wr_flt]
  exact fun _ h => h

/-! What the end of the host keeps of the link's own fields. -/

theorem engineSide_std {t u : State} (h : t.engineSide u) : t.std = u.std := by rw [h.1]
theorem engineSide_inForce {t u : State} (h : t.engineSide u) : t.fml.inForce = u.fml.inForce := by rw [h.1]

theorem hostReset_reg {s : State} (ht : s.acd.trk = []) (hh : s.home = []) {q a : Nat} (h : a < 0x100000000) :
    (s.hostReset q).reg a = (s.hdmGone q).reg a := (hostReset_side ht hh q).2.2 a h

theorem hostReset_std {s : State} (ht : s.acd.trk = []) (hh : s.home = []) (q : Nat) :
    (s.hostReset q).std = (s.hdmGone q).std := engineSide_std (hostReset_side ht hh q)

theorem hostReset_inForce {s : State} (ht : s.acd.trk = []) (hh : s.home = []) (q : Nat) :
    (s.hostReset q).fml.inForce = s.fml.inForce :=
  (engineSide_inForce (hostReset_side ht hh q)).trans (downSide_inForce (hdmGone_side s q))

theorem portEid_of_inForce {t u : State} (h : t.fml.inForce = u.fml.inForce) (q : Nat) : t.portEid q = u.portEid q := by
  unfold State.portEid
  rw [h]

theorem STD_low (p : PortRec) (h : p.port < 128) : Reg.PT_STD_STATUS p.port < 0x100000000 ∧ Reg.PT_STD_EVENTS p.port < 0x100000000 ∧
    Reg.PT_STD_ERR p.port < 0x100000000 ∧ Reg.PT_STD_HDM p.port < 0x100000000 ∧ Reg.PT_HP_STATUS p.port < 0x100000000 := by
  simp only [Reg.PT_STD_STATUS, Reg.PT_STD_EVENTS, Reg.PT_STD_ERR, Reg.PT_STD_HDM, Reg.PT_HP_STATUS]
  omega


/-- The fields of a link's status that the end of its host leaves. -/
def keptByHost (f : Fld) : Bool := Fld.PT_STD_STATUS.HDM_COMMITTED.apart f && Fld.PT_STD_STATUS.HDM_SHORT.apart f &&
  Fld.PT_STD_STATUS.WALK.apart f

theorem hdmGone_spec (s : State) (q : Nat) :
    (∀ f, keptByHost f = true → (s.hdmGone q).rd (Reg.PT_STD_STATUS q) f = s.rd (Reg.PT_STD_STATUS q) f) ∧
      (s.hdmGone q).on (Reg.PT_STD_STATUS q) Fld.PT_STD_STATUS.HDM_COMMITTED = false ∧ (s.hdmGone q).reg (Reg.PT_STD_HDM q) = 0 ∧
      (∀ a, a ≠ Reg.PT_STD_STATUS q → a ≠ Reg.PT_STD_HDM q → (s.hdmGone q).reg a = s.reg a) ∧
      (s.hdmGone q).stdSt q = { s.stdSt q with hdm := none } := by
  obtain ⟨-, -, h3, -⟩ := STD_regs_apart q
  refine ⟨fun f hf => ?_, ?_, ?_, fun a h h' => ?_, ?_⟩
  · simp only [keptByHost, Bool.and_eq_true] at hf
    obtain ⟨⟨hf1, hf2⟩, -⟩ := hf
    rw [State.hdmGone, set0_eq, rd_wr_other _ _ _ _ _ _ (by decide) (.inr hf2), set0_eq,
      rd_wr_other _ _ _ _ _ _ (by decide) (.inr hf1)]
    exact rd_of_reg (by rw [reg_setReg, if_neg h3, modStd_reg]) _
  · rw [State.hdmGone, set0_eq, on_wr_other _ _ _ _ _ _ (by decide) (.inr (by decide)), set0_eq, on_wr_zero (by decide)]
  · rw [State.hdmGone, set0_eq, reg_wr_ne h3.symm, set0_eq, reg_wr_ne h3.symm, reg_setReg, if_pos rfl]
  · rw [State.hdmGone, set0_eq, reg_wr_ne h, set0_eq, reg_wr_ne h, reg_setReg, if_neg h', modStd_reg]
  · rw [stdSt_of_std (u := s.modStd q fun x => { x with hdm := none })
      (by rw [State.hdmGone, set0_eq, wr_std, set0_eq, wr_std, setReg_std]), stdSt_modStd_same]

/-- What the end of a host leaves of its port. -/
theorem hostGone_spec {s : State} (ht : s.acd.trk = []) (hh : s.home = []) {p : PortRec} (hp : p.port < 128) :
    (∀ f, keptByHost f = true → (s.hostGone p).rd (Reg.PT_STD_STATUS p.port) f = s.rd (Reg.PT_STD_STATUS p.port) f) ∧
      (s.hostGone p).on (Reg.PT_STD_STATUS p.port) Fld.PT_STD_STATUS.HDM_COMMITTED = false ∧
      (s.hostGone p).reg (Reg.PT_STD_HDM p.port) = 0 ∧
      (∀ a < 0x100000000, a ≠ Reg.PT_STD_STATUS p.port → a ≠ Reg.PT_STD_HDM p.port → (s.hostGone p).reg a = s.reg a) ∧
      (∃ w, (s.hostGone p).stdSt p.port = { s.stdSt p.port with hdm := none, walkEid := w } ∧
        (p.protocol = .cxl → (s.hostGone p).on (Reg.PT_STD_STATUS p.port) Fld.PT_STD_STATUS.WALK = true ∧
          w = s.portEid p.port)) := by
  obtain ⟨k1, k2, k3, k4, k5⟩ := hdmGone_spec s p.port
  obtain ⟨l1, -, -, l4, -⟩ := STD_low p hp
  obtain ⟨-, -, h3, -⟩ := STD_regs_apart p.port
  have hst := hostReset_reg ht hh (q := p.port) l1
  have hstd := (stdSt_of_std (hostReset_std ht hh p.port) p.port).trans k5
  unfold State.hostGone
  split
  next hc =>
    refine ⟨fun f hf => ?_, ?_, ?_, fun a ha h h' => ?_, _, ?_, fun _ => ⟨?_, rfl⟩⟩
    · have hf3 : Fld.PT_STD_STATUS.WALK.apart f = true := by
        simp only [keptByHost, Bool.and_eq_true] at hf
        exact hf.2
      rw [rd_of_reg (modStd_reg ..), set1_eq, rd_wr_other _ _ _ _ _ _ (by decide) (.inr hf3), rd_of_reg hst, k1 f hf]
    · rw [on_of_reg (modStd_reg ..), set1_eq, on_wr_other _ _ _ _ _ _ (by decide) (.inr (by decide)), on_of_reg hst, k2]
    · rw [modStd_reg, set1_eq, reg_wr_ne h3.symm, hostReset_reg ht hh l4, k3]
    · rw [modStd_reg, set1_eq, reg_wr_ne h, hostReset_reg ht hh ha, k4 a h h']
    · rw [stdSt_modStd_same, stdSt_of_std (u := s.hostReset p.port) (by rw [set1_eq, wr_std]), hstd,
        portEid_of_inForce (hostReset_inForce ht hh p.port)]
    · rw [on_of_reg (modStd_reg ..)]
      exact on_set1 _ _ _ (by decide) (by decide)
  next hc =>
    refine ⟨fun f hf => ?_, ?_, ?_, fun a ha h h' => ?_, (s.stdSt p.port).walkEid, hstd, fun e => absurd e hc⟩
    · rw [rd_of_reg hst, k1 f hf]
    · rw [on_of_reg hst, k2]
    · rw [hostReset_reg ht hh l4, k3]
    · rw [hostReset_reg ht hh ha, k4 a h h']

theorem stdSt_wr (s : State) (a : Nat) (f : Fld) (x q : Nat) : (s.wr a f x).stdSt q = s.stdSt q := stdSt_of_std (wr_std ..) q

/-- What the loss of a device leaves of its port. -/
theorem deviceGone_spec (s : State) (p : PortRec) (l : Bool) :
    (∀ f, Fld.PT_STD_STATUS.LINGER.apart f = true →
      (s.deviceGone p l).rd (Reg.PT_STD_STATUS p.port) f = s.rd (Reg.PT_STD_STATUS p.port) f) ∧
      (s.deviceGone p l).on (Reg.PT_STD_STATUS p.port) Fld.PT_STD_STATUS.LINGER = (l && p.lingerMs != 0) ∧
      (∀ a, a ≠ Reg.PT_STD_STATUS p.port → (s.deviceGone p l).reg a = s.reg a) ∧
      (s.deviceGone p l).stdSt p.port = { s.stdSt p.port with cacheDev := false, gpfSent := none, gpfDone := 0 } := by
  unfold State.deviceGone
  simp only
  split
  next h =>
    refine ⟨fun f hf => ?_, ?_, fun a ha => ?_, ?_⟩
    · rw [set1_eq, rd_wr_other _ _ _ _ _ _ (by decide) (.inr hf)]
      exact rd_of_reg (modStd_reg ..) _
    · rw [h]
      exact on_set1 _ _ _ (by decide) (by decide)
    · rw [set1_eq, reg_wr_ne ha, modStd_reg]
    · rw [set1_eq, stdSt_wr, stdSt_modStd_same]
  next h =>
    refine ⟨fun f hf => ?_, ?_, fun a ha => ?_, ?_⟩
    · rw [set0_eq, rd_wr_other _ _ _ _ _ _ (by decide) (.inr hf), set1_eq, rd_wr_other _ _ _ _ _ _ (by decide) (.inr hf)]
      exact rd_of_reg (modStd_reg ..) _
    · rw [set0_eq, on_wr_zero (by decide)]
      exact (Bool.eq_false_iff.mpr h).symm
    · rw [set0_eq, reg_wr_ne ha, set1_eq, reg_wr_ne ha, modStd_reg]
    · rw [set0_eq, stdSt_wr, set1_eq, stdSt_wr, stdSt_modStd_same]

/-! ### The whole of DL_Down -/

theorem slotGone_beyond (s : State) (p : PortRec) (l : Bool) :
    (s.slotGone p l).downSide (s.beyondGone p l) (· = Reg.PT_HP_STATUS p.port) ∧ (s.slotGone p l).std = (s.beyondGone p l).std := by
  have h := downSide_refl (s.beyondGone p l) (· = Reg.PT_HP_STATUS p.port)
  unfold State.slotGone
  split
  · refine ⟨downSide_hostSide (downSide_wr h rfl _ _) (hostSide_noteDllsc ..), ?_⟩
    rw [hostSide_std (hostSide_noteDllsc ..), wr_std]
  · split
    · exact ⟨downSide_hostSide h (hostSide_noteDllsc ..), hostSide_std (hostSide_noteDllsc ..)⟩
    · exact ⟨h, rfl⟩

theorem beyondGone_closed {s : State} {p : PortRec} (h : s.portIdle p.port) (l : Bool) : (s.beyondGone p l).downSide (s.linkClosed p) (downReg p.port) := by
  obtain ⟨⟨hh, -, -, -, -, ht, -⟩, -⟩ := h
  unfold State.beyondGone
  split
  · exact hostGone_side (by rw [linkClosed_acd]; exact ht) (by rw [downSide_home (linkClosed_side s p)]; exact hh) p
  · exact deviceGone_side ..

section
variable {s : State} {p : PortRec} (h : s.portIdle p.port)
  (hu : s.on (Reg.PT_STD_STATUS p.port) Fld.PT_STD_STATUS.DL_UP = true) (l : Bool)
include h hu

theorem stdDown_reg {a : Nat} (hg : ¬ gateReg a) (ha : a ≠ Reg.PT_HP_STATUS p.port) :
    (s.stdDown p l).reg a = (s.beyondGone p l).reg a := by
  rw [stdDown_idle h hu, regate_reg _ _ hg]
  exact (slotGone_beyond s p l).1.2.2.2 a ha

theorem stdDown_stdSt (q : Nat) : (s.stdDown p l).stdSt q = (s.beyondGone p l).stdSt q := by
  rw [stdDown_idle h hu, stdSt_of_std (regate_std ..)]
  exact stdSt_of_std (slotGone_beyond s p l).2 q

theorem stdDown_trained : p.port ∉ (s.stdDown p l).fml.retrain := by
  rw [stdDown_idle h hu, regate_fml]
  simp [State.attemptDone]

theorem stdDown_raises : (s.stdDown p l).hasRaisedOn (srcQuad (quadOf (tileOf p.port)) 13) (s.portFlacon p.port) := by
  refine hasRaisedOn_raised (fun o ho => ?_) (linkLost_spec s p).2.2.2.2.2
  rw [stdDown_idle h hu]
  exact regate_raised _ _ o ((slotGone_beyond s p l).1.2.1 o ((beyondGone_closed h l).2.1 o (linkClosed_raised s p o ho)))

/-- DL_Down of an idle upstream port. -/
theorem stdDown_upstream (hr : p.role = .upstream) (hp : p.port < 128) :
    (s.stdDown p l).on (Reg.PT_STD_STATUS p.port) Fld.PT_STD_STATUS.DL_UP = false ∧
      (s.stdDown p l).rd (Reg.PT_STD_STATUS p.port) Fld.PT_STD_STATUS.LTSSM = 0 ∧
      (s.stdDown p l).rd (Reg.PT_STD_STATUS p.port) Fld.PT_STD_STATUS.IDE = 0 ∧
      (s.stdDown p l).rd (Reg.PT_STD_EVENTS p.port) Fld.PT_STD_EVENTS.DOWNS =
        min (2 ^ Fld.PT_STD_EVENTS.DOWNS.width - 1) (s.rd (Reg.PT_STD_EVENTS p.port) Fld.PT_STD_EVENTS.DOWNS + 1) ∧
      (s.stdDown p l).on (Reg.PT_STD_ERR p.port) Fld.PT_STD_ERR.LINK_DOWN = true ∧
      (s.stdDown p l).on (Reg.PT_STD_STATUS p.port) Fld.PT_STD_STATUS.HDM_COMMITTED = false ∧
      (s.stdDown p l).reg (Reg.PT_STD_HDM p.port) = 0 ∧
      (∃ w, (s.stdDown p l).stdSt p.port = { (s.linkClosed p).stdSt p.port with hdm := none, walkEid := w } ∧
        (p.protocol = .cxl → (s.stdDown p l).on (Reg.PT_STD_STATUS p.port) Fld.PT_STD_STATUS.WALK = true ∧
          w = s.portEid p.port)) := by
  have hb : s.beyondGone p l = (s.linkClosed p).hostGone p := if_pos hr
  obtain ⟨n1, n2, n3, n4, n5⟩ := STD_not_gate p.port
  obtain ⟨a1, a2, a3, a4, a5, a6, a7, a8, a9, a10⟩ := STD_regs_apart p.port
  obtain ⟨b1, b2, b3, -⟩ := STD_low p hp
  obtain ⟨l1, l2, l3, l4, l5, -⟩ := linkLost_spec s p
  have hst := stdDown_reg h hu l n1 a4
  have hidle := h
  obtain ⟨⟨hh, -, -, -, -, ht, -⟩, -⟩ := h
  obtain ⟨k1, k2, k3, k4, w, k5, k6⟩ := hostGone_spec (s := s.linkClosed p) (by rw [linkClosed_acd]; exact ht)
    (by rw [downSide_home (linkClosed_side s p)]; exact hh) hp
  refine ⟨?_, ?_, ?_, ?_, ?_, ?_, ?_, w, ?_, fun hc => ⟨?_, ?_⟩⟩
  · rw [on_of_reg hst, hb, on_of_rd (k1 _ (by decide)), on_of_reg (linkClosed_reg a1), l1]
  · rw [rd_of_reg hst, hb, k1 _ (by decide), rd_of_reg (linkClosed_reg a1), l2]
  · rw [rd_of_reg hst, hb, k1 _ (by decide), rd_of_reg (linkClosed_reg a1), l3]
  · rw [rd_of_reg (stdDown_reg hidle hu l n2 a7), hb, rd_of_reg (k4 _ b2 a1.symm a6), linkClosed_downs, l4]
  · rw [on_of_reg (stdDown_reg hidle hu l n3 a9), hb, on_of_reg (k4 _ b3 a2.symm a8), on_of_reg (linkClosed_reg a5.symm), l5]
  · rw [on_of_reg hst, hb, k2]
  · rw [stdDown_reg hidle hu l n4 a10, hb, k3]
  · rw [stdDown_stdSt hidle hu, hb, k5]
  · rw [on_of_reg hst, hb]
    exact (k6 hc).1
  · rw [(k6 hc).2]
    exact portEid_of_inForce (downSide_inForce (linkClosed_side s p)) _

/-- DL_Down of an idle downstream port. -/
theorem stdDown_downstream (hr : p.role = .downstream) :
    (s.stdDown p l).on (Reg.PT_STD_STATUS p.port) Fld.PT_STD_STATUS.DL_UP = false ∧
      (s.stdDown p l).on (Reg.PT_STD_STATUS p.port) Fld.PT_STD_STATUS.LINGER = (l && p.lingerMs != 0) ∧
      (s.stdDown p l).rd (Reg.PT_STD_STATUS p.port) Fld.PT_STD_STATUS.IDE = 0 ∧
      (s.stdDown p l).stdSt p.port =
        { (s.linkClosed p).stdSt p.port with cacheDev := false, gpfSent := none, gpfDone := 0 } := by
  have hb : s.beyondGone p l = (s.linkClosed p).deviceGone p l := if_neg (by rw [hr]; decide)
  obtain ⟨n1, -⟩ := STD_not_gate p.port
  obtain ⟨a1, -, -, a4, -⟩ := STD_regs_apart p.port
  obtain ⟨l1, l2, l3, -⟩ := linkLost_spec s p
  have hst := stdDown_reg h hu l n1 a4
  obtain ⟨k1, k2, k3, k4⟩ := deviceGone_spec (s.linkClosed p) p l
  refine ⟨?_, ?_, ?_, ?_⟩
  · rw [on_of_reg hst, hb, on_of_rd (k1 _ (by decide)), on_of_reg (linkClosed_reg a1), l1]
  · rw [on_of_reg hst, hb, k2]
  · rw [rd_of_reg hst, hb, k1 _ (by decide), rd_of_reg (linkClosed_reg a1), l3]
  · rw [stdDown_stdSt h hu, hb, k4]

end


end Sys2Proof.Machine
end

section
/-!
The links of CXL and PCIe ports: down, up, recovery, change of rate (R310 to R314).
-/
namespace Sys2Proof.Machine

theorem atPort_some {s : State} {q : Nat} {p : PortRec} (h : s.portRec q = some p) (k : State → PortRec → State) :
    s.atPort q k = k s p := by
  unfold State.atPort
  rw [h]

/-! ### What a round of events leaves in the vPPBs -/

section
variable (π : VppbState → Bool) {g : VppbState → VppbState} (hg : ∀ x, π (g x) = true) (k : Nat)
include hg

theorem vppbEvent_keeps_set {s : State} {q v : Nat} (e : Nat × Nat) (h : π (s.vppbSt q v) = true) :
    π ((s.vppbEvent e.1 e.2 k g).vppbSt q v) = true := by
  rw [vppbSt_vppbEvent, vppbSt_modVppb]
  split
  · exact hg _
  · exact h

/-- Every vPPB told of an event shows it. -/
theorem vppbEvents_set (l : List (Nat × Nat)) (s : State) :
    ∀ e ∈ l, π ((l.foldl (fun t e => t.vppbEvent e.1 e.2 k g) s).vppbSt e.1 e.2) = true := by
  induction l generalizing s with
  | nil => exact fun e he => absurd he (by simp)
  | cons a l ih =>
    intro e he
    rw [List.foldl_cons]
    rcases List.mem_cons.mp he with rfl | he
    · refine List.foldlRecOn l _ (motive := fun t : State => π (t.vppbSt e.1 e.2) = true) ?_ fun t ht b _ =>
        vppbEvent_keeps_set π hg k b ht
      rw [vppbSt_vppbEvent, vppbSt_modVppb_same]
      exact hg _
    · exact ih _ e he

end

theorem noteDllsc_set (s : State) (l : List (Nat × Nat)) : ∀ e ∈ l, ((s.noteDllsc l).vppbSt e.1 e.2).dllsc = true :=
  vppbEvents_set VppbState.dllsc (fun _ => rfl) 12 l s

theorem notePresence_set (s : State) (l : List (Nat × Nat)) :
    ∀ e ∈ l, ((s.notePresence l).vppbSt e.1 e.2).presenceChanged = true :=
  vppbEvents_set VppbState.presenceChanged (fun _ => rfl) 3 l s

theorem vppbsOf_of_acc {t u : State} (h : t.acc = u.acc) (q : Nat) : t.vppbsOf q = u.vppbsOf q := by
  unfold State.vppbsOf State.allBindings
  rw [h]

theorem vppbSt_of_vppb {t u : State} (h : t.vppb = u.vppb) (q v : Nat) : t.vppbSt q v = u.vppbSt q v := by
  rw [State.vppbSt, h]
  rfl

/-- A downstream port without HOTPLUG tells its hosts that its link is down. -/
theorem stdDown_tells {s : State} {p : PortRec} (h : s.portIdle p.port)
    (hu : s.on (Reg.PT_STD_STATUS p.port) Fld.PT_STD_STATUS.DL_UP = true) (l : Bool) (hr : p.role = .downstream)
    (hh : p.hotplug = false) : ∀ e ∈ s.vppbsOf p.port, ((s.stdDown p l).vppbSt e.1 e.2).dllsc = true := by
  have e : s.slotGone p l = (s.beyondGone p l).noteDllsc ((s.beyondGone p l).vppbsOf p.port) := by
    unfold State.slotGone
    rw [if_neg (by simp [hh]), if_pos (by simp [hh, hr])]
  have hacc := (downSide_acc (beyondGone_closed h l)).trans (downSide_acc (linkClosed_side s p))
  rw [stdDown_idle h hu, e, vppbsOf_of_acc hacc]
  intro x hx
  rw [vppbSt_of_vppb (regate_vppb ..)]
  exact noteDllsc_set _ _ x hx

/-! ### The directory walk -/

theorem walkDone_empty {s : State} (hh : s.home = []) {q : Nat}
    (hw : s.on (Reg.PT_STD_STATUS q) Fld.PT_STD_STATUS.WALK = true) :
    s.walkDone q = s.set0 (Reg.PT_STD_STATUS q) Fld.PT_STD_STATUS.WALK := by
  unfold State.walkDone
  simp only [hw, hh, Bool.not_true, Bool.false_eq_true, if_false]
  split <;> rfl

theorem STD_STATUS_not_calm (q : Nat) : Reg.PT_STD_STATUS q ∉ calmRegs := portReg_not_calm (by simp only [Reg.PT_STD_STATUS]; omega)
theorem STD_EVENTS_not_calm (q : Nat) : Reg.PT_STD_EVENTS q ∉ calmRegs := portReg_not_calm (by simp only [Reg.PT_STD_EVENTS]; omega)

/-! ### DL_Up -/

/-- The link shown up. -/
def State.linkUp (s : State) (p : PortRec) (l : StdLink) : State :=
  ((((((s.set1 (Reg.PT_STD_STATUS p.port) Fld.PT_STD_STATUS.DL_UP).setLtssm p.port 3).wr (Reg.PT_STD_STATUS p.port)
    Fld.PT_STD_STATUS.RATE (min l.rate.val (p.maxRate - 1))).wr (Reg.PT_STD_STATUS p.port) Fld.PT_STD_STATUS.WIDTH l.width.val).wr
    (Reg.PT_STD_STATUS p.port) Fld.PT_STD_STATUS.FLIT l.flit.val).wrB (Reg.PT_STD_STATUS p.port) Fld.PT_STD_STATUS.PBR
      (l.pbr && p.protocol == .cxl && p.role == .downstream && l.flit.val != 0)).set0 (Reg.PT_STD_STATUS p.port)
    Fld.PT_STD_STATUS.VIRAL_RX

/-- The link up, its training done and its gates evaluated anew. -/
def State.linkTrained (s : State) (p : PortRec) (l : StdLink) : State := ((s.linkUp p l).attemptDone p.port).regate p.port

theorem linkUp_reg {s : State} {p : PortRec} {l : StdLink} {a : Nat} (h : a ≠ Reg.PT_STD_STATUS p.port) :
    (s.linkUp p l).reg a = s.reg a := by
  rw [State.linkUp, set0_eq, reg_wr_ne h, wrB_eq, reg_wr_ne h, reg_wr_ne h, reg_wr_ne h, reg_wr_ne h, State.setLtssm,
    reg_wr_ne h, set1_eq, reg_wr_ne h]

theorem linkUp_std (s : State) (p : PortRec) (l : StdLink) : (s.linkUp p l).std = s.std := by
  rw [State.linkUp, set0_eq, wr_std, wrB_eq, wr_std, wr_std, wr_std, wr_std, State.setLtssm, wr_std, set1_eq, wr_std]

theorem linkUp_kept {s : State} {p : PortRec} {l : StdLink} {f : Fld} (h : Fld.PT_STD_STATUS.LTSSM.apart f = true ∧
    Fld.PT_STD_STATUS.RATE.apart f = true ∧ Fld.PT_STD_STATUS.WIDTH.apart f = true ∧ Fld.PT_STD_STATUS.FLIT.apart f = true ∧
    Fld.PT_STD_STATUS.PBR.apart f = true ∧ Fld.PT_STD_STATUS.DL_UP.apart f = true ∧ Fld.PT_STD_STATUS.VIRAL_RX.apart f = true) :
    (s.linkUp p l).rd (Reg.PT_STD_STATUS p.port) f = s.rd (Reg.PT_STD_STATUS p.port) f := by
  obtain ⟨h1, h2, h3, h4, h5, h6, h7⟩ := h
  rw [State.linkUp, set0_eq, rd_wr_other _ _ _ _ _ _ (by decide) (.inr h7), wrB_eq, rd_wr_other _ _ _ _ _ _ (by decide) (.inr h5),
    rd_wr_other _ _ _ _ _ _ (by decide) (.inr h4), rd_wr_other _ _ _ _ _ _ (by decide) (.inr h3),
    rd_wr_other _ _ _ _ _ _ (by decide) (.inr h2), State.setLtssm, rd_wr_other _ _ _ _ _ _ (by decide) (.inr h1), set1_eq,
    rd_wr_other _ _ _ _ _ _ (by decide) (.inr h6)]

theorem linkUp_spec (s : State) (p : PortRec) (l : StdLink) :
    (s.linkUp p l).on (Reg.PT_STD_STATUS p.port) Fld.PT_STD_STATUS.DL_UP = true ∧
      (s.linkUp p l).rd (Reg.PT_STD_STATUS p.port) Fld.PT_STD_STATUS.LTSSM = 3 ∧
      (s.linkUp p l).rd (Reg.PT_STD_STATUS p.port) Fld.PT_STD_STATUS.RATE = min l.rate.val (p.maxRate - 1) ∧
      (s.linkUp p l).rd (Reg.PT_STD_STATUS p.port) Fld.PT_STD_STATUS.WIDTH = l.width.val ∧
      (s.linkUp p l).rd (Reg.PT_STD_STATUS p.port) Fld.PT_STD_STATUS.FLIT = l.flit.val ∧
      (s.linkUp p l).on (Reg.PT_STD_STATUS p.port) Fld.PT_STD_STATUS.VIRAL_RX = false := by
  have o := fun (t : State) (f g : Fld) (x : Nat) (hf : f.lo + f.width ≤ 64) (h : f.apart g = true) =>
    rd_wr_other t (Reg.PT_STD_STATUS p.port) (Reg.PT_STD_STATUS p.port) f g x hf (.inr h)
  unfold State.linkUp
  refine ⟨?_, ?_, ?_, ?_, ?_, on_wr_zero (by decide) _ _⟩
  · refine (on_of_rd ?_).trans (on_set1 s _ _ (by decide) (by decide))
    rw [set0_eq, o _ _ _ _ (by decide) (by decide), wrB_eq, o _ _ _ _ (by decide) (by decide), o _ _ _ _ (by decide) (by decide),
      o _ _ _ _ (by decide) (by decide), o _ _ _ _ (by decide) (by decide), State.setLtssm, o _ _ _ _ (by decide) (by decide)]
  · rw [set0_eq, o _ _ _ _ (by decide) (by decide), wrB_eq, o _ _ _ _ (by decide) (by decide), o _ _ _ _ (by decide) (by decide),
      o _ _ _ _ (by decide) (by decide), o _ _ _ _ (by decide) (by decide), State.setLtssm, rd_wr _ _ _ _ (by decide)]
    rfl
  · rw [set0_eq, o _ _ _ _ (by decide) (by decide), wrB_eq, o _ _ _ _ (by decide) (by decide), o _ _ _ _ (by decide) (by decide),
      o _ _ _ _ (by decide) (by decide), rd_wr _ _ _ _ (by decide)]
    exact Nat.mod_eq_of_lt (by have := l.rate.isLt; simp only [Fld.PT_STD_STATUS.RATE]; omega)
  · rw [set0_eq, o _ _ _ _ (by decide) (by decide), wrB_eq, o _ _ _ _ (by decide) (by decide), o _ _ _ _ (by decide) (by decide),
      rd_wr _ _ _ _ (by decide)]
    exact Nat.mod_eq_of_lt (by have := l.width.isLt; simp only [Fld.PT_STD_STATUS.WIDTH]; omega)
  · rw [set0_eq, o _ _ _ _ (by decide) (by decide), wrB_eq, o _ _ _ _ (by decide) (by decide), rd_wr _ _ _ _ (by decide)]
    exact Nat.mod_eq_of_lt (by have := l.flit.isLt; simp only [Fld.PT_STD_STATUS.FLIT]; omega)

theorem attemptDone_std (s : State) (q : Nat) : (s.attemptDone q).std = s.std := rfl

theorem linkTrained_reg {s : State} {p : PortRec} {l : StdLink} {a : Nat} (h : ¬ gateReg a) :
    (s.linkTrained p l).reg a = (s.linkUp p l).reg a := by
  rw [State.linkTrained, regate_reg _ _ h, attemptDone_reg]

theorem linkTrained_stdSt (s : State) (p : PortRec) (l : StdLink) (q : Nat) : (s.linkTrained p l).stdSt q = s.stdSt q := by
  rw [State.linkTrained, stdSt_of_std (regate_std ..), stdSt_of_std (attemptDone_std ..), stdSt_of_std (linkUp_std ..)]

theorem stdUp_upstream {s : State} {p : PortRec} {l : StdLink} (hf : p.fabric = false)
    (hd : s.on (Reg.PT_STD_STATUS p.port) Fld.PT_STD_STATUS.DL_UP = false) (hr : (s.stdSt p.port).fmReset = false)
    (hu : p.role = .upstream) : s.stdUp p l = s.linkTrained p l := by
  unfold State.stdUp
  simp only [hf, hd, hr, Bool.false_eq_true, or_self, if_false]
  exact if_pos hu

/-- The device found below a port. -/
def State.partnerFound (s : State) (p : PortRec) (l : StdLink) (d : Word) : State :=
  (((s.linkTrained p l).setReg (Reg.PT_STD_PARTNER p.port) d).set1 (Reg.PT_STD_STATUS p.port) Fld.PT_STD_STATUS.DSN_VALID).modStd
    p.port fun x => { x with partner := some d, same := (some d).isSome && (s.stdSt p.port).partner == some d, gpf2 := l.gpf2 }

/-- The keys held back for a device that has not come back in its window are gone. -/
def State.heldDropped (s : State) (q : Nat) : State := s.modStd q fun y => { y with heldTx := none, heldRx := none }

theorem heldDropped_reg (s : State) (q a : Nat) : (s.heldDropped q).reg a = s.reg a := rfl

theorem restoreKeys_off {s : State} {q : Nat} (h : s.on (Reg.PT_STD_STATUS q) Fld.PT_STD_STATUS.LINGER = false) :
    s.restoreKeys q = s.heldDropped q := if_neg (by rw [h]; simp)

theorem PARTNER_apart (q : Nat) : Reg.PT_STD_STATUS q ≠ Reg.PT_STD_PARTNER q ∧ Reg.PT_HP_STATUS q ≠ Reg.PT_STD_PARTNER q ∧
    Reg.PT_STD_PARTNER q ≠ Reg.PT_HP_STATUS q := by
  simp only [Reg.PT_STD_STATUS, Reg.PT_STD_PARTNER, Reg.PT_HP_STATUS]
  omega

theorem partnerFound_reg {s : State} {p : PortRec} {l : StdLink} {d : Word} {a : Nat} (hg : ¬ gateReg a)
    (h : a ≠ Reg.PT_STD_STATUS p.port) (h' : a ≠ Reg.PT_STD_PARTNER p.port) : (s.partnerFound p l d).reg a = s.reg a := by
  rw [State.partnerFound, modStd_reg, set1_eq, reg_wr_ne h, reg_setReg, if_neg h', linkTrained_reg hg, linkUp_reg h]

theorem partnerFound_rd {s : State} {p : PortRec} {l : StdLink} {d : Word} {f : Fld}
    (h : Fld.PT_STD_STATUS.DSN_VALID.apart f = true) :
    (s.partnerFound p l d).rd (Reg.PT_STD_STATUS p.port) f = (s.linkUp p l).rd (Reg.PT_STD_STATUS p.port) f := by
  have hr : ((s.linkTrained p l).setReg (Reg.PT_STD_PARTNER p.port) d).reg (Reg.PT_STD_STATUS p.port) =
      (s.linkUp p l).reg (Reg.PT_STD_STATUS p.port) := by
    rw [reg_setReg, if_neg (PARTNER_apart _).1, linkTrained_reg (STD_not_gate _).1]
  rw [State.partnerFound, rd_of_reg (modStd_reg ..), set1_eq, rd_wr_other _ _ _ _ _ _ (by decide) (.inr h), rd_of_reg hr]

theorem partnerFound_linger (s : State) (p : PortRec) (l : StdLink) (d : Word) :
    (s.partnerFound p l d).on (Reg.PT_STD_STATUS p.port) Fld.PT_STD_STATUS.LINGER =
      s.on (Reg.PT_STD_STATUS p.port) Fld.PT_STD_STATUS.LINGER :=
  (on_of_rd (partnerFound_rd (by decide))).trans (on_of_rd (linkUp_kept (by decide)))

theorem partnerFound_hp (s : State) (p : PortRec) (l : StdLink) (d : Word) :
    (s.partnerFound p l d).hpState p.port = s.hpState p.port :=
  rd_of_reg (partnerFound_reg (STD_not_gate _).2.2.2.2 (STD_regs_apart _).2.2.2.1.symm (PARTNER_apart _).2.1) _

theorem stdUp_hotplug {s : State} {p : PortRec} {l : StdLink} {d : Word} (hf : p.fabric = false)
    (hd : s.on (Reg.PT_STD_STATUS p.port) Fld.PT_STD_STATUS.DL_UP = false) (hr : (s.stdSt p.port).fmReset = false)
    (hu : p.role = .downstream) (hh : p.hotplug = true) (hs : s.hpState p.port = 4) (hn : l.dsn = some d) (hc : l.cache = false)
    (hl : s.on (Reg.PT_STD_STATUS p.port) Fld.PT_STD_STATUS.LINGER = false) :
    s.stdUp p l = ((s.partnerFound p l d).heldDropped p.port).wr (Reg.PT_HP_STATUS p.port) Fld.PT_HP_STATUS.STATE 5 := by
  have hl' := (partnerFound_linger s p l d).trans hl
  have hk : (s.partnerFound p l d).restoreKeys p.port = (s.partnerFound p l d).heldDropped p.port := restoreKeys_off hl'
  have he : ((s.partnerFound p l d).heldDropped p.port).stdLingerEnd p.port = (s.partnerFound p l d).heldDropped p.port :=
    stdLingerEnd_off ((on_of_reg (heldDropped_reg ..) _).trans hl')
  have hp : ((s.partnerFound p l d).heldDropped p.port).hpState p.port = 4 :=
    (rd_of_reg (heldDropped_reg ..) _).trans ((partnerFound_hp s p l d).trans hs)
  have hn' : ¬ p.role = .upstream := by rw [hu]; decide
  unfold State.stdUp
  simp only [hf, hd, hr, Bool.false_eq_true, or_self, if_false, hn', hc, false_and, hh, if_true]
  rw [hn]
  simp only
  rw [← State.linkUp.eq_def, ← State.linkTrained.eq_def, ← State.partnerFound.eq_def, hk, he, ite_self, if_pos hp]

/-! ### Recovery and a change of rate -/

/-- The counter of recoveries, and the link back in L0. -/
def State.recovered (s : State) (p : PortRec) : State :=
  (s.inc (Reg.PT_STD_EVENTS p.port) Fld.PT_STD_EVENTS.RECOVERIES).setLtssm p.port 3

/-- The rate and the width of a link that has recovered. -/
def State.rerated (s : State) (p : PortRec) (r w : Nat) : State :=
  (((s.recovered p).wr (Reg.PT_STD_STATUS p.port) Fld.PT_STD_STATUS.RATE r).wr (Reg.PT_STD_STATUS p.port) Fld.PT_STD_STATUS.WIDTH
    w).regate p.port

theorem stdRecovery_anchored {s : State} {p : PortRec} {r w x : Nat} (hf : p.fabric = false)
    (hu : s.on (Reg.PT_STD_STATUS p.port) Fld.PT_STD_STATUS.DL_UP = true) (ha : p.anchored = true) :
    s.stdRecovery p r w x = s.recovered p := by
  unfold State.stdRecovery
  simp only [hf, hu, ha, Bool.false_eq_true, Bool.not_true, or_self, if_false, if_true]
  rfl

theorem stdRecovery_rerates {s : State} {p : PortRec} {r w x : Nat} (hf : p.fabric = false)
    (hu : s.on (Reg.PT_STD_STATUS p.port) Fld.PT_STD_STATUS.DL_UP = true) (ha : p.anchored = false) :
    s.stdRecovery p r w x = if r ≠ s.rd (Reg.PT_STD_STATUS p.port) Fld.PT_STD_STATUS.RATE then
      p.lanes.foldl (fun t l => t.stamp' l x 5) (s.rerated p r w) else s.rerated p r w := by
  unfold State.stdRecovery
  simp only [hf, hu, ha, Bool.false_eq_true, Bool.not_true, or_self, if_false]
  rfl

theorem recovered_spec (s : State) (p : PortRec) :
    (s.recovered p).rd (Reg.PT_STD_EVENTS p.port) Fld.PT_STD_EVENTS.RECOVERIES =
        min (2 ^ Fld.PT_STD_EVENTS.RECOVERIES.width - 1) (s.rd (Reg.PT_STD_EVENTS p.port) Fld.PT_STD_EVENTS.RECOVERIES + 1) ∧
      (s.recovered p).rd (Reg.PT_STD_STATUS p.port) Fld.PT_STD_STATUS.LTSSM = 3 ∧
      (∀ f, Fld.PT_STD_STATUS.LTSSM.apart f = true →
        (s.recovered p).rd (Reg.PT_STD_STATUS p.port) f = s.rd (Reg.PT_STD_STATUS p.port) f) ∧
      (∀ a, a ≠ Reg.PT_STD_STATUS p.port → a ≠ Reg.PT_STD_EVENTS p.port → (s.recovered p).reg a = s.reg a) := by
  obtain ⟨h1, -⟩ := STD_regs_apart p.port
  refine ⟨?_, ?_, fun f hf => ?_, fun a h h' => ?_⟩
  · rw [State.recovered, State.setLtssm, rd_wr_ne h1.symm]
    exact rd_addTo _ _ _ _ (by decide)
  · rw [State.recovered, State.setLtssm, rd_wr _ _ _ _ (by decide)]
    rfl
  · rw [State.recovered, State.setLtssm, rd_wr_other _ _ _ _ _ _ (by decide) (.inr hf), inc_eq, addTo_eq, rd_wr_ne h1]
  · rw [State.recovered, State.setLtssm, reg_wr_ne h, inc_eq, addTo_eq, reg_wr_ne h']

theorem recovered_calm (s : State) (p : PortRec) : (s.recovered p).calm s :=
  calm_wr (calm_wr (calm_refl s) (STD_EVENTS_not_calm _) _ _) (STD_STATUS_not_calm _) _ _

theorem rerated_spec (s : State) (p : PortRec) (r : Fin 6) (w : Fin 17) :
    (s.rerated p r.val w.val).rd (Reg.PT_STD_STATUS p.port) Fld.PT_STD_STATUS.RATE = r.val ∧
      (s.rerated p r.val w.val).rd (Reg.PT_STD_STATUS p.port) Fld.PT_STD_STATUS.WIDTH = w.val ∧
      (s.rerated p r.val w.val).rd (Reg.PT_STD_STATUS p.port) Fld.PT_STD_STATUS.LTSSM = 3 ∧
      (s.rerated p r.val w.val).lane = s.lane ∧
      (∀ a, a ≠ Reg.PT_STD_STATUS p.port → a ≠ Reg.PT_STD_EVENTS p.port → ¬ gateReg a → (s.rerated p r.val w.val).reg a = s.reg a) := by
  obtain ⟨-, k2, -, k4⟩ := recovered_spec s p
  have hst := fun t : State => regate_reg t p.port (STD_not_gate p.port).1
  refine ⟨?_, ?_, ?_, ?_, fun a h h' hg => ?_⟩
  · rw [State.rerated, rd_of_reg (hst _), rd_wr_other _ _ _ _ _ _ (by decide) (.inr (by decide)), rd_wr _ _ _ _ (by decide)]
    exact Nat.mod_eq_of_lt (by have := r.isLt; simp only [Fld.PT_STD_STATUS.RATE]; omega)
  · rw [State.rerated, rd_of_reg (hst _), rd_wr _ _ _ _ (by decide)]
    exact Nat.mod_eq_of_lt (by have := w.isLt; simp only [Fld.PT_STD_STATUS.WIDTH]; omega)
  · rw [State.rerated, rd_of_reg (hst _), rd_wr_other _ _ _ _ _ _ (by decide) (.inr (by decide)),
      rd_wr_other _ _ _ _ _ _ (by decide) (.inr (by decide)), k2]
  · rw [State.rerated, regate_lane, wr_lane, wr_lane, State.recovered, State.setLtssm, wr_lane, inc_eq, addTo_eq, wr_lane]
  · rw [State.rerated, regate_reg _ _ hg, reg_wr_ne h, reg_wr_ne h, k4 a h h']

theorem stamp_cause (s : State) (l load cause : Nat) (h : cause < 2 ^ Fld.LN_ADAPT_STAMP.CAUSE.width) :
    (s.stamp' l load cause).rd (Reg.LN_ADAPT_STAMP l) Fld.LN_ADAPT_STAMP.CAUSE = cause := by
  have d : Reg.LN_ADAPT_STAMP l ≠ Reg.LN_ADAPT_TIME l := by simp only [Reg.LN_ADAPT_STAMP, Reg.LN_ADAPT_TIME]; omega
  obtain ⟨x, y, e⟩ := stamp_eq s l load cause
  rw [e, rd_setReg, if_neg d, wrB_eq, rd_wr_other _ _ _ _ _ _ (by decide) (.inr (by decide)), rd_wr _ _ _ _ (by decide)]
  exact Nat.mod_eq_of_lt h

/-- What a command answers of its registers, from a quiet state that it leaves calm. -/
theorem answers_regs {s u : State} {P : State → Prop} (hq : s.quiet = true) (hu : u.calm s)
    (hP : ∀ t : State, (∀ a, t.reg a = u.reg a) → P t) : Answers (done u) P :=
  answers_of_calm hq hu fun _ _ _ => hP _ fun _ => rfl

theorem portIdle_emit {s : State} {q : Nat} (h : s.portIdle q) (y : Out) : (s.emit y).portIdle q := h

/-! ### O30 -/


/-- DL_Down of an upstream port. -/
theorem dlDown_upstream (s : State) (q : PortIx) (p : PortRec) :
    s.md.clocked = true → s.portRec q.val = some p → p.port = q.val →
  p.fabric = false → p.hotplug = false → p.role = .upstream → s.portIdle q.val →
  s.on (Reg.PT_STD_STATUS q.val) Fld.PT_STD_STATUS.DL_UP = true →
  Leaves (exec (.dlDown q) s) fun u =>
    u.on (Reg.PT_STD_STATUS q.val) Fld.PT_STD_STATUS.DL_UP = false ∧
    u.rd (Reg.PT_STD_STATUS q.val) Fld.PT_STD_STATUS.LTSSM = 0 ∧ u.ide q.val = 0 ∧
    u.rd (Reg.PT_STD_EVENTS q.val) Fld.PT_STD_EVENTS.DOWNS =
      min (2 ^ Fld.PT_STD_EVENTS.DOWNS.width - 1) (s.rd (Reg.PT_STD_EVENTS q.val) Fld.PT_STD_EVENTS.DOWNS + 1) ∧
    u.on (Reg.PT_STD_ERR q.val) Fld.PT_STD_ERR.LINK_DOWN = true ∧
    u.hasRaisedOn (srcQuad (quadOf (tileOf q.val)) 13) (s.portFlacon q.val) ∧
    (u.stdSt q.val).keyTx = none ∧ (u.stdSt q.val).keyRx = none ∧ (u.stdSt q.val).hdm = none ∧
    u.reg (Reg.PT_STD_HDM q.val) = 0 ∧ u.on (Reg.PT_STD_STATUS q.val) Fld.PT_STD_STATUS.HDM_COMMITTED = false ∧
    (p.protocol = .cxl → u.on (Reg.PT_STD_STATUS q.val) Fld.PT_STD_STATUS.WALK = true ∧
      (u.stdSt q.val).walkEid = s.portEid q.val) ∧ q.val ∉ u.fml.retrain := by
  intro hc hp hq hf _ hr hi hu
  refine leaves_clocked hc ?_
  rw [atPort_some hp]
  simp only [hf, Bool.false_eq_true, if_false]
  rw [← hq] at hi hu ⊢
  obtain ⟨h1, h2, h3, h4, h5, h6, h7, w, h8, h9⟩ := stdDown_upstream hi hu true hr (by rw [hq]; exact q.isLt)
  refine ⟨h1, h2, h3, h4, h5, stdDown_raises hi hu true, ?_, ?_, ?_, h7, h6, fun hx => ⟨(h9 hx).1, ?_⟩, stdDown_trained hi hu true⟩
  · rw [h8, linkClosed_stdSt]
  · rw [h8, linkClosed_stdSt]
  · rw [h8]
  · rw [h8]
    exact (h9 hx).2

/-- DL_Down of a downstream port, whose cells linger. -/
theorem dlDown_lingers (s : State) (q : PortIx) (p : PortRec) :
    s.md.clocked = true → s.portRec q.val = some p → p.port = q.val →
  p.fabric = false → p.hotplug = false → p.role = .downstream → p.lingerMs ≠ 0 → s.portIdle q.val →
  s.on (Reg.PT_STD_STATUS q.val) Fld.PT_STD_STATUS.DL_UP = true →
  Leaves (exec (.dlDown q) s) fun u =>
    u.on (Reg.PT_STD_STATUS q.val) Fld.PT_STD_STATUS.DL_UP = false ∧
    u.on (Reg.PT_STD_STATUS q.val) Fld.PT_STD_STATUS.LINGER = true ∧ u.ide q.val = 0 ∧
    u.hasRaisedOn (srcQuad (quadOf (tileOf q.val)) 13) (s.portFlacon q.val) ∧ (u.stdSt q.val).cacheDev = false ∧
    ∀ e ∈ s.vppbsOf q.val, (u.vppbSt e.1 e.2).dllsc = true := by
  intro hc hp hq hf hh hr hm hi hu
  refine leaves_clocked hc ?_
  rw [atPort_some hp]
  simp only [hf, Bool.false_eq_true, if_false]
  rw [← hq] at hi hu ⊢
  obtain ⟨h1, h2, h3, h4⟩ := stdDown_downstream hi hu true hr
  refine ⟨h1, ?_, h3, stdDown_raises hi hu true, ?_, stdDown_tells hi hu true hr hh⟩
  · rw [h2]
    simpa using hm
  · rw [h4]

/-- The walk of an empty directory ends. -/
theorem walkDone_answers (s : State) (q : PortIx) :
    s.quiet = true → s.md.clocked = true → s.home = [] →
  s.on (Reg.PT_STD_STATUS q.val) Fld.PT_STD_STATUS.WALK = true →
  Answers (exec (.directoryWalkDone q) s) fun t =>
    t.on (Reg.PT_STD_STATUS q.val) Fld.PT_STD_STATUS.WALK = false ∧ t.regsBut s [Reg.PT_STD_STATUS q.val] := by
  intro hq hc hh hw
  refine answers_clocked hc ?_
  rw [walkDone_empty hh hw]
  refine answers_wr hq (calm_refl s) (fun _ => rfl) (STD_STATUS_not_calm q.val) _ _ fun t ht hr => ⟨?_, hr⟩
  rw [on_of_reg (ht _), on_wr_zero (by decide)]

/-- DL_Up of an upstream port. -/
theorem dlUp_upstream (s : State) (q : PortIx) (p : PortRec) (l : StdLink) :
    s.md.clocked = true → s.portRec q.val = some p →
  p.port = q.val → p.fabric = false → p.role = .upstream → s.lanesTrain = true → (s.stdSt q.val).fmReset = false →
  s.on (Reg.PT_STD_STATUS q.val) Fld.PT_STD_STATUS.DL_UP = false →
  Leaves (exec (.dlUp q l) s) fun u =>
    u.on (Reg.PT_STD_STATUS q.val) Fld.PT_STD_STATUS.DL_UP = true ∧
    u.rd (Reg.PT_STD_STATUS q.val) Fld.PT_STD_STATUS.LTSSM = 3 ∧
    u.rd (Reg.PT_STD_STATUS q.val) Fld.PT_STD_STATUS.RATE = min l.rate.val (p.maxRate - 1) ∧
    u.rd (Reg.PT_STD_STATUS q.val) Fld.PT_STD_STATUS.WIDTH = l.width.val ∧
    u.rd (Reg.PT_STD_STATUS q.val) Fld.PT_STD_STATUS.FLIT = l.flit.val ∧
    u.on (Reg.PT_STD_STATUS q.val) Fld.PT_STD_STATUS.VIRAL_RX = false ∧ q.val ∉ u.fml.retrain := by
  intro hc hp hq hf hr ht hm hd
  refine leaves_clocked hc ?_
  rw [atPort_some hp]
  simp only [ht, if_true]
  rw [← hq] at hm hd ⊢
  have hst := linkTrained_reg (s := s) (p := p) (l := l) (STD_not_gate p.port).1
  obtain ⟨h1, h2, h3, h4, h5, h6⟩ := linkUp_spec s p l
  rw [stdUp_upstream hf hd hm hr, on_of_reg hst, rd_of_reg hst, rd_of_reg hst, rd_of_reg hst, rd_of_reg hst, on_of_reg hst]
  refine ⟨h1, h2, h3, h4, h5, h6, ?_⟩
  rw [State.linkTrained, regate_fml]
  exact attemptDone_done _ _

/-- DL_Up of a port with HOTPLUG: its slot goes on to ENUM. -/
theorem dlUp_hotplug (s : State) (q : PortIx) (p : PortRec) (l : StdLink) (d : Word) :
    s.md.clocked = true → s.portRec q.val = some p →
  p.port = q.val → p.fabric = false → p.role = .downstream → p.hotplug = true → s.hpState q.val = 4 →
  s.lanesTrain = true → (s.stdSt q.val).fmReset = false → l.dsn = some d → l.cache = false →
  s.on (Reg.PT_STD_STATUS q.val) Fld.PT_STD_STATUS.DL_UP = false →
  s.on (Reg.PT_STD_STATUS q.val) Fld.PT_STD_STATUS.LINGER = false →
  Leaves (exec (.dlUp q l) s) fun u =>
    u.on (Reg.PT_STD_STATUS q.val) Fld.PT_STD_STATUS.DL_UP = true ∧ u.hpState q.val = 5 ∧
    u.reg (Reg.PT_STD_PARTNER q.val) = d ∧ u.on (Reg.PT_STD_STATUS q.val) Fld.PT_STD_STATUS.DSN_VALID = true ∧
    (u.stdSt q.val).partner = some d ∧ (u.stdSt q.val).same = ((s.stdSt q.val).partner == some d) := by
  intro hc hp hq hf hr hh hs ht hm hn hca hd hl
  refine leaves_clocked hc ?_
  rw [atPort_some hp]
  simp only [ht, if_true]
  rw [← hq] at hm hd hl hs ⊢
  obtain ⟨h1, -⟩ := linkUp_spec s p l
  obtain ⟨-, -, -, a4, -⟩ := STD_regs_apart p.port
  obtain ⟨b1, b2, b3⟩ := PARTNER_apart p.port
  rw [stdUp_hotplug hf hd hm hr hh hs hn hca hl]
  refine ⟨?_, ?_, ?_, ?_, ?_, ?_⟩
  · rw [on_wr_ne a4, on_of_reg (heldDropped_reg ..), on_of_rd (partnerFound_rd (by decide)), h1]
  · rw [State.hpState, rd_wr _ _ _ _ (by decide)]
    rfl
  · rw [reg_wr_ne b3, heldDropped_reg, State.partnerFound, modStd_reg, set1_eq, reg_wr_ne b1.symm, reg_setReg, if_pos rfl]
  · rw [on_wr_ne a4, on_of_reg (heldDropped_reg ..), State.partnerFound, on_of_reg (modStd_reg ..)]
    exact on_set1 _ _ _ (by decide) (by decide)
  · rw [stdSt_wr, State.heldDropped, stdSt_modStd_same, State.partnerFound, stdSt_modStd_same]
  · rw [stdSt_wr, State.heldDropped, stdSt_modStd_same, State.partnerFound, stdSt_modStd_same]
    rfl

/-- A recovery of an anchored port is counted. -/
theorem recovery_anchored (s : State) (q : PortIx) (p : PortRec) (r : Fin 6) (w : Fin 17) (x : BitVec 8) :
    s.quiet = true → s.md.clocked = true →
  s.portRec q.val = some p → p.port = q.val → p.fabric = false → p.anchored = true →
  s.on (Reg.PT_STD_STATUS q.val) Fld.PT_STD_STATUS.DL_UP = true →
  Answers (exec (.linkRecovery q r w x) s) fun t =>
    t.rd (Reg.PT_STD_EVENTS q.val) Fld.PT_STD_EVENTS.RECOVERIES =
      min (2 ^ Fld.PT_STD_EVENTS.RECOVERIES.width - 1) (s.rd (Reg.PT_STD_EVENTS q.val) Fld.PT_STD_EVENTS.RECOVERIES + 1) ∧
    t.rd (Reg.PT_STD_STATUS q.val) Fld.PT_STD_STATUS.LTSSM = 3 ∧
    t.rd (Reg.PT_STD_STATUS q.val) Fld.PT_STD_STATUS.RATE = s.rd (Reg.PT_STD_STATUS q.val) Fld.PT_STD_STATUS.RATE ∧
    t.rd (Reg.PT_STD_STATUS q.val) Fld.PT_STD_STATUS.WIDTH = s.rd (Reg.PT_STD_STATUS q.val) Fld.PT_STD_STATUS.WIDTH ∧
    t.regsBut s [Reg.PT_STD_EVENTS q.val, Reg.PT_STD_STATUS q.val] := by
  intro hq hc hp hpq hf ha hu
  refine answers_clocked hc ?_
  rw [atPort_some hp]
  rw [← hpq] at hu ⊢
  rw [stdRecovery_anchored hf hu ha]
  obtain ⟨h1, h2, h3, h4⟩ := recovered_spec s p
  refine answers_regs hq (recovered_calm s p) fun t ht => ⟨?_, ?_, ?_, ?_, fun a h => ?_⟩
  · rw [rd_of_reg (ht _), h1]
  · rw [rd_of_reg (ht _), h2]
  · rw [rd_of_reg (ht _), h3 _ (by decide)]
  · rw [rd_of_reg (ht _), h3 _ (by decide)]
  · simp only [List.mem_cons, List.not_mem_nil, or_false, not_or] at h
    rw [ht, h4 a h.2 h.1]

/-- A recovery at the rate of before leaves the lanes. -/
theorem recovery_sameRate (s : State) (q : PortIx) (p : PortRec) (r : Fin 6) (w : Fin 17) (x : BitVec 8) :
    s.md.clocked = true →
  s.portRec q.val = some p → p.port = q.val → p.fabric = false → p.anchored = false →
  r.val = s.rd (Reg.PT_STD_STATUS q.val) Fld.PT_STD_STATUS.RATE →
  s.on (Reg.PT_STD_STATUS q.val) Fld.PT_STD_STATUS.DL_UP = true →
  Leaves (exec (.linkRecovery q r w x) s) fun u =>
    u.rd (Reg.PT_STD_STATUS q.val) Fld.PT_STD_STATUS.RATE = r.val ∧
    u.rd (Reg.PT_STD_STATUS q.val) Fld.PT_STD_STATUS.WIDTH = w.val ∧
    u.rd (Reg.PT_STD_STATUS q.val) Fld.PT_STD_STATUS.LTSSM = 3 ∧ u.lane = s.lane := by
  intro hc hp hpq hf ha hr hu
  refine leaves_clocked hc ?_
  rw [atPort_some hp]
  rw [← hpq] at hu hr ⊢
  rw [stdRecovery_rerates hf hu ha, if_neg (not_not.mpr hr)]
  obtain ⟨h1, h2, h3, h4, -⟩ := rerated_spec s p r w
  exact ⟨h1, h2, h3, h4⟩

/-- A change of rate on an anchored port is a hot reset. -/
theorem rateChange_anchored (s : State) (q : PortIx) (p : PortRec) (r : Fin 6) (w : Fin 17) (x : BitVec 8) :
    s.md.clocked = true →
  s.portRec q.val = some p → p.port = q.val → p.fabric = false → p.anchored = true → p.hotplug = false →
  p.role = .upstream → s.portIdle q.val → s.on (Reg.PT_STD_STATUS q.val) Fld.PT_STD_STATUS.DL_UP = true →
  Leaves (exec (.partnerRateChange q r w x) s) fun u =>
    Out.hotReset q.val none ∈ u.out ∧ u.on (Reg.PT_STD_STATUS q.val) Fld.PT_STD_STATUS.DL_UP = false ∧
    u.rd (Reg.PT_STD_STATUS q.val) Fld.PT_STD_STATUS.LTSSM = 7 := by
  intro hc hp hpq hf ha _ hr hi hu
  refine leaves_clocked hc ?_
  rw [atPort_some hp]
  rw [← hpq] at hi hu ⊢
  have e : s.partnerRate p r.val w.val x.toNat = s.stdHotReset p := by
    unfold State.partnerRate
    simp only [hf, hu, ha, Bool.false_eq_true, Bool.not_true, or_self, if_false, if_true]
  rw [e]
  have hi' := portIdle_emit hi (.hotReset p.port none)
  obtain ⟨h1, -⟩ := stdDown_upstream hi' ((emit_on ..).trans hu) true hr (by rw [hpq]; exact q.isLt)
  refine ⟨?_, ?_, ?_⟩
  · rw [State.stdHotReset, State.setLtssm, rest_out (rest_wr ..)]
    exact (stdDown_side hi' true).2.2.1 _ (List.mem_cons_self ..)
  · rw [State.stdHotReset, State.setLtssm, on_wr_other _ _ _ _ _ _ (by decide) (.inr (by decide)), h1]
  · rw [State.stdHotReset, State.setLtssm, rd_wr _ _ _ _ (by decide)]
    rfl

/-- A change of rate stamps the lanes of the port. -/
theorem rateChange_stamps (s : State) (q : PortIx) (p : PortRec) (r : Fin 6) (w : Fin 17) (x : BitVec 8) (l : LaneIx) :
    s.md.clocked = true →
  s.portRec q.val = some p → p.port = q.val → p.fabric = false → p.anchored = false →
  r.val ≠ s.rd (Reg.PT_STD_STATUS q.val) Fld.PT_STD_STATUS.RATE →
  s.on (Reg.PT_STD_STATUS q.val) Fld.PT_STD_STATUS.DL_UP = true → p.lanes = [l.val] →
  Leaves (exec (.partnerRateChange q r w x) s) fun u =>
    u.rd (Reg.PT_STD_STATUS q.val) Fld.PT_STD_STATUS.RATE = r.val ∧
    u.rd (Reg.LN_ADAPT_STAMP l.val) Fld.LN_ADAPT_STAMP.CAUSE = 5 ∧
    u.rd (Reg.LN_ADAPT_STAMP l.val) Fld.LN_ADAPT_STAMP.LOAD = x.toNat ∧
    u.reg (Reg.LN_ADAPT_TIME l.val) = s.reg Reg.CHIP_TIME := by
  intro hc hp hpq hf ha hr hu hl
  refine leaves_clocked hc ?_
  rw [atPort_some hp]
  rw [← hpq] at hu hr ⊢
  have e : s.partnerRate p r.val w.val x.toNat = (s.rerated p r.val w.val).stamp' l.val x.toNat 5 := by
    unfold State.partnerRate
    simp only [hf, hu, ha, Bool.false_eq_true, Bool.not_true, or_self, if_false]
    rw [stdRecovery_rerates hf hu ha, if_pos hr, hl]
    rfl
  obtain ⟨h1, -, -, -, h5⟩ := rerated_spec s p r w
  obtain ⟨k1, k2, k3, -⟩ := stamp_spec (s.rerated p r.val w.val) l.val 5 x
  have d : Reg.PT_STD_STATUS p.port ≠ Reg.LN_ADAPT_STAMP l.val ∧ Reg.PT_STD_STATUS p.port ≠ Reg.LN_ADAPT_TIME l.val := by
    simp only [Reg.PT_STD_STATUS, Reg.LN_ADAPT_STAMP, Reg.LN_ADAPT_TIME]
    omega
  have t : Reg.CHIP_TIME ≠ Reg.PT_STD_STATUS p.port ∧ Reg.CHIP_TIME ≠ Reg.PT_STD_EVENTS p.port ∧ ¬ gateReg Reg.CHIP_TIME := by
    simp only [gateReg, Reg.CHIP_TIME, Reg.PT_STD_STATUS, Reg.PT_STD_EVENTS]
    omega
  rw [e]
  refine ⟨?_, stamp_cause _ _ _ _ (by decide), k1, k2.trans (h5 _ t.1 t.2.1 t.2.2)⟩
  rw [rd_of_reg (k3 _ d.1 d.2), h1]

/-- Settles O30: DL_Down and DL_Up of a port at which nothing else is under way. -/
theorem standardLinks : Obligations.StandardLinks :=
  ⟨dlDown_upstream, dlDown_lingers, walkDone_answers, dlUp_upstream, dlUp_hotplug, recovery_anchored, recovery_sameRate, rateChange_anchored, rateChange_stamps⟩


end Sys2Proof.Machine
end

section
/-!
## Port services (O31): HDM decoder 0, viral, link IDE and Global Persistent Flush
-/
namespace Sys2Proof.Machine

/-! ### Global Persistent Flush -/

/-- A quiet state is left as it is but for the outputs that the pins add. -/
theorem answers_keeps {u : State} {P : State → Prop} (h : u.quiet = true)
    (hP : ∀ t : State, (∀ a, t.reg a = u.reg a) → t.std = u.std → t.gpf = u.gpf → (∀ o ∈ u.out, o ∈ t.out) → P t) :
    Answers (done u) P :=
  answers_of_quiet h fun _ _ _ => hP _ (fun _ => rfl) rfl rfl fun _ ho => List.mem_append_right _ ho

/-- A flush whose flow nothing holds and no answer is missing for ends. -/
theorem gpfClose_ended {u : State} {g : GpfFlow} (hu : u.gpf = [g]) (hh : g.held = false) (hw : g.waits = []) (hp : g.port < 128) :
    u.gpfClose = ({ u with gpf := [] } : State).emit (.gpfAnswer g.port g.phase) := by
  simp only [State.gpfClose, hu, List.filter_cons, List.filter_nil, hh, hw, hp, Bool.not_false, List.isEmpty_nil, Bool.and_true,
    decide_true, if_true, Bool.not_true, Bool.false_eq_true, if_false, List.foldl_cons, List.foldl_nil]

theorem gpfClose_open {u : State} {g : GpfFlow} (hu : u.gpf = [g]) (h : g.held = true ∨ g.waits ≠ []) : u.gpfClose = u := by
  have e : (!g.held && g.waits.isEmpty && decide (g.port < 128)) = false := by
    rcases h with h | h
    · rw [h]; rfl
    · rw [List.isEmpty_eq_false_iff.2 h, Bool.and_false, Bool.false_and]
  simp only [State.gpfClose, hu, List.filter_cons, List.filter_nil, e, Bool.not_false, if_true, Bool.false_eq_true, if_false,
    List.foldl_nil]
  rw [← hu]

/-- The flow that a request opens. -/
def heldFlow (q n : Nat) : GpfFlow := { port := q, phase := n, held := true }

/-- A flow that the host's writes hold stays as it is. -/
theorem gpfAdvance_held {s : State} {q n : Nat} (h : s.hostWrites q = true) :
    ({ s with gpf := [heldFlow q n] } : State).gpfAdvance = { s with gpf := [heldFlow q n] } := by
  have e : ({ s with gpf := [] } : State).hostWrites q = true := h
  unfold State.gpfAdvance
  simp only [heldFlow, List.any_cons, List.any_nil, Bool.or_false, Bool.not_true, Bool.false_eq_true, if_false, List.foldl_cons,
    List.foldl_nil, e, Bool.and_false, List.nil_append]
  exact gpfClose_open rfl (.inl rfl)

/-- What a flow is after its devices have been asked. -/
def askedFlow (q n : Nat) (w : List Nat) : GpfFlow := { port := q, phase := n, held := false, waits := w }

theorem gpfAdvance_free {s u : State} {q n : Nat} {w : List Nat} (h : s.hostWrites q = false)
    (hs : ({ s with gpf := [] } : State).gpfSend (heldFlow q n) (s.gpfPorts q) = (u, askedFlow q n w)) (hu : u.gpf = []) :
    ({ s with gpf := [heldFlow q n] } : State).gpfAdvance = ({ u with gpf := [askedFlow q n w] } : State).gpfClose := by
  have e : ({ s with gpf := [] } : State).hostWrites q = false := h
  have f : ({ s with gpf := [] } : State).gpfPorts q = s.gpfPorts q := rfl
  unfold State.gpfAdvance
  simp only [heldFlow, List.any_cons, List.any_nil, Bool.or_false, Bool.not_true, Bool.false_eq_true, if_false, List.foldl_cons,
    List.foldl_nil, e, Bool.not_false, Bool.and_true, if_true, f]
  rw [heldFlow] at hs
  rw [hs, hu, List.nil_append]

/-- A request that a port can take opens the one flow. -/
theorem gpfRequest_taken {s : State} {p : PortRec} {n : Nat} (hf : p.fabric = false) (hg : p.gpf = true) (hr : p.role = .upstream)
    (hu : s.portUp p.port = true) (he : s.gpf = []) :
    s.gpfRequest p n = ({ s with gpf := [heldFlow p.port n] } : State).gpfAdvance := by
  simp only [State.gpfRequest, hf, hg, hr, hu, he, Bool.not_true, Bool.false_eq_true, ne_eq, not_true, List.any_nil, or_self,
    if_false, List.nil_append, heldFlow]

/-- The two requests run the same step. -/
theorem exec_gpfRequest {s : State} {q : PortIx} {p : PortRec} {c : Instr} {n : Nat}
    (hc : c = .gpfPhase1Request q ∧ n = 1 ∨ c = .gpfPhase2Request q ∧ n = 2) (hp : s.portRec q.val = some p) (hpq : p.port = q.val)
    (hf : p.fabric = false) (hg : p.gpf = true) (hr : p.role = .upstream)
    (hu : s.portUp q.val = true) (he : s.gpf = []) (hk : s.md.clocked = true) :
    exec c s = done ({ s with gpf := [heldFlow q.val n] } : State).gpfAdvance := by
  have e : exec c s = whenClocked s fun t => t.atPort q.val fun u p => u.gpfRequest p n := by
    rcases hc with ⟨rfl, rfl⟩ | ⟨rfl, rfl⟩
    · rfl
    · rfl
  rw [e]
  change done (s.clocked _) = _
  rw [clocked_eq s _ hk, atPort_some hp, gpfRequest_taken hf hg hr (by rw [hpq]; exact hu) he, hpq]

/-- A quiet state in which no flow is held. -/
theorem quiet_gpf {s u : State} (h : s.quiet = true) (h1 : u.flt = s.flt) (h2 : u.mirrorOut = s.mirrorOut)
    (h3 : u.gpf.any (·.held) = false) (h4 : u.pwr = s.pwr) (h5 : u.acd = s.acd) (h6 : u.core = s.core)
    (hr : ∀ a, u.reg a = s.reg a) (hm : u.md = s.md) : u.quiet = true := by
  simp only [State.quiet, State.warningStands, State.recomposePhase, Bool.and_eq_true] at *
  rw [engineRests_keep h5 (by rw [h6]), h1, h2, h3, h4, hm, on_of_reg (hr _), on_of_reg (f := Fld.PC_SUPV_STATUS.PWRFAIL) (hr _),
    rd_of_reg (hr _)]
  obtain ⟨⟨⟨⟨⟨a, b⟩, c⟩, -⟩, d⟩, f⟩ := h
  exact ⟨⟨⟨⟨⟨a, b⟩, c⟩, rfl⟩, d⟩, f⟩

/-- A device that has been asked for a phase. -/
def State.gpfAsked (s : State) (d n : Nat) : State := (s.emit (.gpf d n)).modStd d fun x => { x with gpfSent := some n }

theorem gpfAsked_sent (s : State) (d n : Nat) : ((s.gpfAsked d n).stdSt d).gpfSent = some n := by
  rw [State.gpfAsked, stdSt_modStd_same]

/-- A device that has answered a phase. -/
def State.gpfHeard (s : State) (q n : Nat) : State := s.modStd q fun x => { x with gpfSent := none, gpfDone := max x.gpfDone n }

theorem gpfHeard_spec (s : State) (q n : Nat) :
    ((s.gpfHeard q n).stdSt q).gpfSent = none ∧ ((s.gpfHeard q n).stdSt q).gpfDone = max (s.stdSt q).gpfDone n := by
  rw [State.gpfHeard, stdSt_modStd_same]
  exact ⟨rfl, rfl⟩

/-- The flow's one device is asked. -/
theorem gpfSend_one {s : State} {q n d : Nat} (hd : (s.stdSt d).gpfDone < n) (hs : (s.stdSt d).gpfSent = none) :
    s.gpfSend (heldFlow q n) [d] = (s.gpfAsked d n, askedFlow q n [d]) := by
  have e : (s.stdSt d).gpfSent ≠ some n := by rw [hs]; exact nofun
  have f : [d].filter (fun r => decide ((s.stdSt r).gpfDone < n)) = [d] := by
    simp only [List.filter_cons, List.filter_nil, hd, decide_true, if_true]
  have g : s.gpfSend (heldFlow q n) [d] =
      (([d].filter fun r => decide ((s.stdSt r).gpfDone < n)).foldl (fun t r => if (t.stdSt r).gpfSent = some n then t
        else (t.emit (.gpf r n)).modStd r fun x => { x with gpfSent := some n }) s,
        askedFlow q n ([d].filter fun r => decide ((s.stdSt r).gpfDone < n))) := rfl
  rw [g, f, List.foldl_cons, List.foldl_nil, if_neg e, State.gpfAsked]

/-! ### HDM decoder 0 and the keys of link IDE -/

/-- What a decoder that a host may commit leaves. -/
def State.hdmTaken (s : State) (q f b z : Nat) : State :=
  (((s.modStd q fun x => { x with hdm := some (b, z) }).wr (Reg.PT_STD_HDM q) Fld.PT_STD_HDM.BASE b).set1 (Reg.PT_STD_STATUS q)
    Fld.PT_STD_STATUS.HDM_COMMITTED).wrB (Reg.PT_STD_STATUS q) Fld.PT_STD_STATUS.HDM_SHORT
    (decide (z < (spanOf (s.flAcc f).cur.decoders).2 - (spanOf (s.flAcc f).cur.decoders).1))

theorem hdmCommit_taken_eq {s : State} {p : PortRec} {b z : Nat} (hx : p.protocol = .cxl) (hr : p.role = .upstream)
    (hu : s.on (Reg.PT_STD_STATUS p.port) Fld.PT_STD_STATUS.DL_UP = true) (hz : z ≠ 0) (h1 : b % 2 ^ 28 = 0)
    (h2 : z % 2 ^ 28 = 0) (h3 : b + z ≤ 2 ^ 52) :
    s.hdmCommit p b z 1 = (s.hdmTaken p.port p.flacon b z).emit (.hdm p.port true) := by
  unfold State.hdmCommit
  simp only [hx, hr, hu, hz, h1, h2, Nat.not_lt.2 h3, ne_eq, not_true, Bool.not_true, Bool.false_eq_true, or_self, if_false]
  rfl

/-- A commit that no port can take changes nothing but the outputs. -/
theorem hdmCommit_bad {s : State} {p : PortRec} {b z w : Nat}
    (h : w ≠ 1 ∨ z = 0 ∨ b % 2 ^ 28 ≠ 0 ∨ z % 2 ^ 28 ≠ 0 ∨ 2 ^ 52 < b + z) :
    s.hdmCommit p b z w = s ∨ s.hdmCommit p b z w = s.emit (.hdm p.port false) := by
  unfold State.hdmCommit
  simp only [if_pos h]
  split
  · exact .inl rfl
  · exact .inr rfl

theorem STD_HDM_ne_STATUS (q : Nat) : Reg.PT_STD_HDM q ≠ Reg.PT_STD_STATUS q := by
  simp only [Reg.PT_STD_HDM, Reg.PT_STD_STATUS]
  omega

theorem STD_HDM_not_calm (q : Nat) : Reg.PT_STD_HDM q ∉ calmRegs := portReg_not_calm (by simp only [Reg.PT_STD_HDM]; omega)

theorem calm_modStd {u s : State} (h : u.calm s) (q : Nat) (g : StdState → StdState) : (u.modStd q g).calm s := h

theorem hdmTaken_calm (s : State) (q f b z : Nat) : (s.hdmTaken q f b z).calm s := by
  rw [State.hdmTaken, wrB_eq, set1_eq]
  exact calm_wr (calm_wr (calm_wr (calm_modStd (calm_refl s) ..) (STD_HDM_not_calm q) ..) (STD_STATUS_not_calm q) ..)
    (STD_STATUS_not_calm q) ..

theorem hdmTaken_spec (s : State) (q f b z : Nat) :
    ((s.hdmTaken q f b z).stdSt q).hdm = some (b, z) ∧
      (s.hdmTaken q f b z).rd (Reg.PT_STD_HDM q) Fld.PT_STD_HDM.BASE = b % 2 ^ Fld.PT_STD_HDM.BASE.width ∧
      (s.hdmTaken q f b z).on (Reg.PT_STD_STATUS q) Fld.PT_STD_STATUS.HDM_COMMITTED = true ∧
      (s.hdmTaken q f b z).on (Reg.PT_STD_STATUS q) Fld.PT_STD_STATUS.HDM_SHORT =
        decide (z < (spanOf (s.flAcc f).cur.decoders).2 - (spanOf (s.flAcc f).cur.decoders).1) ∧
      ∀ a, a ≠ Reg.PT_STD_HDM q → a ≠ Reg.PT_STD_STATUS q → (s.hdmTaken q f b z).reg a = s.reg a := by
  have hn := STD_HDM_ne_STATUS q
  rw [State.hdmTaken]
  refine ⟨?_, ?_, ?_, ?_, fun a h1 h2 => ?_⟩
  · rw [wrB_eq, set1_eq, stdSt_wr, stdSt_wr, stdSt_wr, stdSt_modStd_same]
  · rw [wrB_eq, set1_eq, rd_of_reg (reg_wr_ne hn ..), rd_of_reg (reg_wr_ne hn ..), rd_wr _ _ _ _ (by decide)]
  · rw [wrB_eq, on_wr_other _ _ _ _ _ _ (by decide) (.inr (by decide))]
    exact on_set1 _ _ _ (by decide) (by decide)
  · rw [wrB_eq]
    cases decide (z < (spanOf (s.flAcc f).cur.decoders).2 - (spanOf (s.flAcc f).cur.decoders).1) with
    | true => exact on_wr_one (by decide) (by decide) _ _
    | false => exact on_wr_zero (by decide) _ _
  · rw [wrB_eq, set1_eq, reg_wr_ne h2, reg_wr_ne h2, reg_wr_ne h1]
    exact modStd_reg ..

theorem putKeys_calm (s : State) (q : Nat) (x y : Option (BitVec 256)) : (s.putKeys q x y).calm s :=
  calm_wr (calm_modStd (calm_refl s) ..) (STD_STATUS_not_calm q) ..

theorem putKeys_spec (s : State) (q : Nat) (x y : Option (BitVec 256)) :
    ((s.putKeys q x y).stdSt q).keyTx = x ∧ ((s.putKeys q x y).stdSt q).keyRx = y ∧
      (s.putKeys q x y).ide q = (if x.isSome && y.isSome then 2 else if x.isSome || y.isSome then 1 else 0) ∧
      (∀ f, Fld.PT_STD_STATUS.IDE.apart f = true →
        (s.putKeys q x y).on (Reg.PT_STD_STATUS q) f = s.on (Reg.PT_STD_STATUS q) f) ∧
      ∀ a, a ≠ Reg.PT_STD_STATUS q → (s.putKeys q x y).reg a = s.reg a := by
  rw [State.putKeys]
  refine ⟨?_, ?_, ?_, fun f hf => ?_, fun a h => ?_⟩
  · rw [stdSt_wr, stdSt_modStd_same]
  · rw [stdSt_wr, stdSt_modStd_same]
  · rw [State.ide, rd_wr _ _ _ _ (by decide)]
    cases x <;> cases y <;> rfl
  · rw [on_wr_other _ _ _ _ _ _ (by decide) (.inr hf)]
    exact on_of_reg (modStd_reg ..) _
  · rw [reg_wr_ne h]
    exact modStd_reg ..

/-! ### Viral -/

/-- A viral notice that has been recorded. -/
def State.viralTold (s : State) (q : Nat) : State :=
  (s.set1 (Reg.PT_STD_STATUS q) Fld.PT_STD_STATUS.VIRAL_RX).stdErr q Fld.PT_STD_ERR.VIRAL_IN 16

theorem viralIn_taken {s : State} {p : PortRec} (hx : p.protocol = .cxl)
    (hu : s.on (Reg.PT_STD_STATUS p.port) Fld.PT_STD_STATUS.DL_UP = true) :
    s.viralIn p = ((s.viralTold p.port).viralPorts p.flacon).foldl (fun t r => t.set1 (Reg.PT_STD_STATUS r.port) Fld.PT_STD_STATUS.VIRAL_TX)
      (s.viralTold p.port) := by
  unfold State.viralIn
  simp only [hx, hu, ne_eq, not_true, Bool.not_true, Bool.false_eq_true, or_self, if_false, State.viralTold]

/-- The fields of a status register but one are left by a sweep that sets that one. -/
theorem sweepSet_other {R : Nat → Nat} {F G : Fld} (hF : F.lo + F.width ≤ 64) (h : F.apart G = true) (L : List PortRec) (s : State)
    (a : Nat) : (L.foldl (fun t p => t.set1 (R p.port) F) s).on a G = s.on a G := by
  rw [foldl_keep fun t : State => t.on a G]
  intro t p
  rw [set1_eq, on_wr_other _ _ _ _ _ _ hF (.inr h)]

theorem viralPorts_of {t s : State} (hf : t.fml = s.fml) (ha : t.acc = s.acc) (f : Nat) : t.viralPorts f = s.viralPorts f := by
  unfold State.viralPorts State.ports
  rw [hf, ha]

theorem stdErr_fml (s : State) (q k : Nat) (f : Fld) : (s.stdErr q f k).fml = s.fml := by
  rw [State.stdErr, raise_fml, set1_fml]

theorem stdErr_acc (s : State) (q k : Nat) (f : Fld) : (s.stdErr q f k).acc = s.acc := by
  rw [State.stdErr, raise_acc, set1_acc]

theorem stdErr_out (s : State) (q k : Nat) (f : Fld) : (s.stdErr q f k).out = s.out := by
  rw [State.stdErr, raise_out, set1_out]

theorem stdErr_gpf (s : State) (q k : Nat) (f : Fld) : (s.stdErr q f k).gpf = s.gpf := by
  rw [State.stdErr, raise_gpf, set1_gpf]

theorem viralTold_ports (s : State) (q f : Nat) : (s.viralTold q).viralPorts f = s.viralPorts f :=
  viralPorts_of (by rw [State.viralTold, stdErr_fml, set1_fml]) (by rw [State.viralTold, stdErr_acc, set1_acc]) f

theorem viralTold_seen (s : State) (q : Nat) :
    (s.viralTold q).on (Reg.PT_STD_STATUS q) Fld.PT_STD_STATUS.VIRAL_RX = true := by
  rw [State.viralTold, on_of_reg (stdErr_reg (STD_regs_apart q).2.1)]
  exact on_set1 _ _ _ (by decide) (by decide)

theorem set1_portFlacon (s : State) (a : Nat) (f : Fld) (q : Nat) : (s.set1 a f).portFlacon q = s.portFlacon q :=
  portFlacon_of_inForce (congrArg FormulaState.inForce (set1_fml s a f)) q

theorem viralTold_raised (s : State) (q : Nat) :
    (s.viralTold q).hasRaisedOn (srcQuad (quadOf (tileOf q)) 16) (s.portFlacon q) := by
  rw [State.viralTold, ← set1_portFlacon s (Reg.PT_STD_STATUS q) Fld.PT_STD_STATUS.VIRAL_RX q]
  exact stdErr_raised ..

/-- The IDE failure of a link, before the link goes down. -/
def State.ideBroken (s : State) (q : Nat) : State := (s.stdErr q Fld.PT_STD_ERR.IDE_FAIL 15).putKeys q none none

theorem portIdle_wr {s : State} {q : Nat} (h : s.portIdle q) (a : Nat) (f : Fld) (x : Nat) : (s.wr a f x).portIdle q := h

theorem portIdle_raise {s : State} {q : Nat} (h : s.portIdle q) (n : Nat) (f : Option Nat) : (s.raise n f).portIdle q := h

theorem portIdle_modStd {s : State} {q : Nat} (h : s.portIdle q) (r : Nat) (g : StdState → StdState) : (s.modStd r g).portIdle q := h

theorem ideBroken_idle {s : State} {q : Nat} (h : s.portIdle q) : (s.ideBroken q).portIdle q := by
  rw [State.ideBroken, State.putKeys, State.stdErr, set1_eq]
  exact portIdle_wr (portIdle_modStd (portIdle_raise (portIdle_wr h ..) ..) ..) ..

theorem ideBroken_up (s : State) (q : Nat) :
    (s.ideBroken q).on (Reg.PT_STD_STATUS q) Fld.PT_STD_STATUS.DL_UP = s.on (Reg.PT_STD_STATUS q) Fld.PT_STD_STATUS.DL_UP := by
  rw [State.ideBroken, (putKeys_spec ..).2.2.2.1 _ (by decide), on_of_reg (stdErr_reg (STD_regs_apart q).2.1)]

theorem ideBroken_raised (s : State) (q : Nat) :
    (s.ideBroken q).hasRaisedOn (srcQuad (quadOf (tileOf q)) 15) (s.portFlacon q) := by
  refine hasRaisedOn_raised (fun o ho => ?_) (stdErr_raised s q 15 Fld.PT_STD_ERR.IDE_FAIL)
  rw [State.ideBroken, State.putKeys, rest_flt (rest_wr ..)]
  exact ho

theorem modStd_fml (s : State) (q : Nat) (g : StdState → StdState) : (s.modStd q g).fml = s.fml := rfl

theorem ideBroken_flacon (s : State) (q r : Nat) : (s.ideBroken q).portFlacon r = s.portFlacon r := by
  refine portFlacon_of_inForce ?_ r
  rw [State.ideBroken, State.putKeys, rest_fml (rest_wr ..), modStd_fml, stdErr_fml]


/-- What a calm change and one output leave of the registers and the standard ports. -/
theorem answers_told {s u : State} {y : Out} {P : State → Prop} (hq : s.quiet = true) (hu : u.calm s)
    (hP : ∀ t : State, (∀ a, t.reg a = u.reg a) → t.std = u.std → P t) : Answers (done (u.emit y)) P :=
  answers_keeps (calm_quiet (calm_emit hu y) hq) fun t ht hd _ _ => hP t ht hd

/-- The commit of a decoder that a host may commit. -/
theorem hdmCommit_taken (s : State) (q : PortIx) (p : PortRec) (b z : Nat) :
    s.quiet = true → s.md.clocked = true →
  s.portRec q.val = some p → p.port = q.val → p.protocol = .cxl → p.role = .upstream →
  s.on (Reg.PT_STD_STATUS q.val) Fld.PT_STD_STATUS.DL_UP = true → z ≠ 0 → b % 2 ^ 28 = 0 → z % 2 ^ 28 = 0 →
  b + z ≤ 2 ^ 52 →
  Answers (exec (.hdmCommit q b z 1) s) fun t =>
    (t.stdSt q.val).hdm = some (b, z) ∧
    t.rd (Reg.PT_STD_HDM q.val) Fld.PT_STD_HDM.BASE = b % 2 ^ Fld.PT_STD_HDM.BASE.width ∧
    t.on (Reg.PT_STD_STATUS q.val) Fld.PT_STD_STATUS.HDM_COMMITTED = true ∧
    t.on (Reg.PT_STD_STATUS q.val) Fld.PT_STD_STATUS.HDM_SHORT =
      (let e := spanOf (s.flAcc p.flacon).cur.decoders
       decide (z < e.2 - e.1)) ∧
    t.regsBut s [Reg.PT_STD_HDM q.val, Reg.PT_STD_STATUS q.val] := by
  intro hq hc hp hpq hx hr hu hz h1 h2 h3
  refine answers_clocked hc ?_
  rw [← hpq] at hu
  have e : (s.atPort q.val fun u p => u.hdmCommit p b z 1) = (s.hdmTaken p.port p.flacon b z).emit (.hdm p.port true) := by
    rw [atPort_some hp, hdmCommit_taken_eq hx hr hu hz h1 h2 h3]
  rw [e, ← hpq]
  obtain ⟨k1, k2, k3, k4, k5⟩ := hdmTaken_spec s p.port p.flacon b z
  refine answers_told hq (hdmTaken_calm s p.port p.flacon b z) fun t ht hd => ?_
  refine ⟨by rw [stdSt_of_std hd]; exact k1, (rd_of_reg (ht _) _).trans k2, (on_of_reg (ht _) _).trans k3,
    (on_of_reg (ht _) _).trans k4, fun a ha => (ht a).trans (k5 a ?_ ?_)⟩
  · exact fun e => ha (e ▸ List.mem_cons_self ..)
  · exact fun e => ha (e ▸ List.mem_cons_of_mem _ (List.mem_cons_self ..))

/-- A commit out of bounds. -/
theorem hdmCommit_refused (s : State) (q : PortIx) (b z w : Nat) :
    s.quiet = true → s.md.clocked = true →
  (w ≠ 1 ∨ z = 0 ∨ b % 2 ^ 28 ≠ 0 ∨ z % 2 ^ 28 ≠ 0 ∨ 2 ^ 52 < b + z) →
  Answers (exec (.hdmCommit q b z w) s) fun t => t.std = s.std ∧ t.regsBut s [] := by
  intro hq hc hb
  refine answers_clocked hc ?_
  have e : (s.atPort q.val fun u p => u.hdmCommit p b z w) = s ∨
      ∃ y, (s.atPort q.val fun u p => u.hdmCommit p b z w) = s.emit y := by
    cases hp : s.portRec q.val with
    | none => exact .inl (by rw [State.atPort, hp])
    | some p =>
      rw [atPort_some hp]
      exact (hdmCommit_bad hb).imp_right fun h => ⟨_, h⟩
  rcases e with e | ⟨y, e⟩
  · rw [e]
    exact answers_keeps hq fun t ht hd _ _ => ⟨hd, fun a _ => ht a⟩
  · rw [e]
    exact answers_keeps (calm_quiet (calm_emit (calm_refl s) y) hq) fun t ht hd _ _ => ⟨hd, fun a _ => ht a⟩

/-- Viral received at a port. -/
theorem viral_spreads (s : State) (q : PortIx) (p : PortRec) :
    s.md.clocked = true → s.portRec q.val = some p → p.port = q.val →
  p.protocol = .cxl → s.on (Reg.PT_STD_STATUS q.val) Fld.PT_STD_STATUS.DL_UP = true →
  Leaves (exec (.viralReceived q) s) fun u =>
    u.on (Reg.PT_STD_STATUS q.val) Fld.PT_STD_STATUS.VIRAL_RX = true ∧
    u.hasRaisedOn (srcQuad (quadOf (tileOf q.val)) 16) (s.portFlacon q.val) ∧
    (∀ r ∈ s.viralPorts p.flacon, u.on (Reg.PT_STD_STATUS r.port) Fld.PT_STD_STATUS.VIRAL_TX = true) := by
  intro hc hp hpq hx hu
  refine leaves_clocked hc ?_
  rw [atPort_some hp]
  rw [← hpq] at hu ⊢
  rw [viralIn_taken hx hu, viralTold_ports]
  refine ⟨?_, ?_, fun r hr => sweepSet_on (by decide) (by decide) PT_STD_STATUS_inj _ _ hr⟩
  · rw [sweepSet_other (by decide) (by decide)]
    exact viralTold_seen s _
  · refine hasRaisedOn_raised (fun o ho => ?_) (viralTold_raised s p.port)
    rw [rest_flt (sweepSet_rest ..)]
    exact ho

/-- A key received for one direction. -/
theorem ideKey_taken (s : State) (q : PortIx) (p : PortRec) (x : Bool) (k : BitVec 256) :
    s.quiet = true → s.md.clocked = true →
  s.portRec q.val = some p → p.port = q.val → p.fabric = false → p.role = .upstream →
  s.on (Reg.PT_STD_STATUS q.val) Fld.PT_STD_STATUS.DL_UP = true →
  Answers (exec (.ideKm q x k) s) fun t =>
    (if x then (t.stdSt q.val).keyTx else (t.stdSt q.val).keyRx) = some k ∧
    (if x then (t.stdSt q.val).keyRx = (s.stdSt q.val).keyRx else (t.stdSt q.val).keyTx = (s.stdSt q.val).keyTx) ∧
    t.ide q.val = (if (t.stdSt q.val).keyTx.isSome ∧ (t.stdSt q.val).keyRx.isSome then 2 else 1) ∧
    t.regsBut s [Reg.PT_STD_STATUS q.val] := by
  intro hq hc hp hpq hf hr hu
  refine answers_clocked hc ?_
  have e : (s.atPort q.val fun u p => if p.fabric ∨ p.role ≠ .upstream then u else u.ideKey q.val x k) =
      s.putKeys q.val (if x then some k else (s.stdSt q.val).keyTx) (if x then (s.stdSt q.val).keyRx else some k) := by
    rw [atPort_some hp]
    simp only [hf, hr, Bool.false_eq_true, ne_eq, not_true, or_self, if_false, State.ideKey, hu, Bool.not_true]
  rw [e]
  refine answers_keeps (calm_quiet (putKeys_calm ..) hq) fun t ht hd _ _ => ?_
  obtain ⟨k1, k2, k3, -, k5⟩ := putKeys_spec s q.val (if x then some k else (s.stdSt q.val).keyTx)
    (if x then (s.stdSt q.val).keyRx else some k)
  have hi : t.ide q.val = _ := (rd_of_reg (ht _) _).trans k3
  rw [stdSt_of_std hd, k1, k2, hi]
  refine ⟨?_, ?_, ?_, fun a ha => (ht a).trans (k5 a (by simpa using ha))⟩
  · cases x <;> rfl
  · cases x <;> rfl
  · cases x with
    | true => simp
    | false => simp

/-- The failure of link IDE. -/
theorem ideFailure_downs (s : State) (q : PortIx) (p : PortRec) :
    s.md.clocked = true → s.portRec q.val = some p → p.port = q.val →
  p.fabric = false → p.hotplug = false → p.role = .upstream → s.portIdle q.val → s.ide q.val ≠ 0 →
  s.on (Reg.PT_STD_STATUS q.val) Fld.PT_STD_STATUS.DL_UP = true →
  Leaves (exec (.ideFailure q) s) fun u =>
    u.ide q.val = 3 ∧ u.on (Reg.PT_STD_STATUS q.val) Fld.PT_STD_STATUS.DL_UP = false ∧
    (u.stdSt q.val).keyTx = none ∧ (u.stdSt q.val).keyRx = none ∧
    u.hasRaisedOn (srcQuad (quadOf (tileOf q.val)) 15) (s.portFlacon q.val) ∧
    u.hasRaisedOn (srcQuad (quadOf (tileOf q.val)) 13) (s.portFlacon q.val) := by
  intro hc hp hpq hf _ hr hi hx hu
  refine leaves_clocked hc ?_
  rw [atPort_some hp]
  rw [← hpq] at hi hu hx ⊢
  have e : s.ideFail p = ((s.ideBroken p.port).stdDown p true).wr (Reg.PT_STD_STATUS p.port) Fld.PT_STD_STATUS.IDE 3 := by
    unfold State.ideFail
    simp only [hf, hx, Bool.false_eq_true, or_self, if_false]
    rfl
  have hi' := ideBroken_idle hi
  have hu' := (ideBroken_up s p.port).trans hu
  obtain ⟨h1, -, -, -, -, -, -, w, h2, -⟩ := stdDown_upstream hi' hu' true hr (by rw [hpq]; exact q.isLt)
  have hk := linkClosed_stdSt (s.ideBroken p.port) p
  rw [e]
  refine ⟨?_, ?_, ?_, ?_, ?_, ?_⟩
  · rw [State.ide, rd_wr _ _ _ _ (by decide)]
    rfl
  · rw [on_wr_other _ _ _ _ _ _ (by decide) (.inr (by decide)), h1]
  · rw [stdSt_wr, h2, hk]
  · rw [stdSt_wr, h2, hk]
  · refine hasRaisedOn_raised (fun o ho => ?_) (ideBroken_raised s p.port)
    rw [rest_flt (rest_wr ..)]
    exact (stdDown_side hi' true).2.1 _ ho
  · rw [← ideBroken_flacon s p.port]
    refine hasRaisedOn_raised (fun o ho => ?_) (stdDown_raises hi' hu' true)
    rw [rest_flt (rest_wr ..)]
    exact ho

/-- A request with no device to ask. -/
theorem gpf_answered (s : State) (q : PortIx) (p : PortRec) (c : Instr) (n : Nat) :
    s.quiet = true → s.md.clocked = true →
  (c = .gpfPhase1Request q ∧ n = 1 ∨ c = .gpfPhase2Request q ∧ n = 2) → s.portRec q.val = some p → p.port = q.val →
  p.fabric = false → p.gpf = true → p.role = .upstream → s.portUp q.val = true → s.gpf = [] →
  s.hostWrites q.val = false → s.gpfPorts q.val = [] →
  Answers (exec c s) fun t => Out.gpfAnswer q.val n ∈ t.out ∧ t.gpf = [] ∧ t.regsBut s [] := by
  intro hq hc hi hp hpq hf hg hr hu he hw hd
  have e : ({ s with gpf := [] } : State).gpfSend (heldFlow q.val n) (s.gpfPorts q.val) =
      ({ s with gpf := [] }, askedFlow q.val n []) := by
    rw [hd]
    rfl
  rw [exec_gpfRequest hi hp hpq hf hg hr hu he hc, gpfAdvance_free hw e rfl, gpfClose_ended rfl rfl rfl q.isLt]
  exact answers_keeps (quiet_gpf hq rfl rfl rfl rfl rfl rfl (fun _ => rfl) rfl) fun t ht _ hg ho =>
    ⟨ho _ (List.mem_cons_self ..), hg, fun a _ => ht a⟩

/-- A request with one device to ask. -/
theorem gpf_sent (s : State) (q : PortIx) (p : PortRec) (d : Nat) (c : Instr) (n : Nat) :
    s.quiet = true → s.md.clocked = true →
  (c = .gpfPhase1Request q ∧ n = 1 ∨ c = .gpfPhase2Request q ∧ n = 2) → s.portRec q.val = some p → p.port = q.val →
  p.fabric = false → p.gpf = true → p.role = .upstream → s.portUp q.val = true → s.gpf = [] →
  s.hostWrites q.val = false → s.gpfPorts q.val = [d] → (s.stdSt d).gpfDone < n → (s.stdSt d).gpfSent = none →
  Answers (exec c s) fun t =>
    Out.gpf d n ∈ t.out ∧ (t.stdSt d).gpfSent = some n ∧
    t.gpf = [{ port := q.val, phase := n, held := false, waits := [d] }] ∧ t.regsBut s [] := by
  intro hq hc hi hp hpq hf hg hr hu he hw hd hn hs
  have e : ({ s with gpf := [] } : State).gpfSend (heldFlow q.val n) (s.gpfPorts q.val) =
      (({ s with gpf := [] } : State).gpfAsked d n, askedFlow q.val n [d]) := by
    rw [hd]
    exact gpfSend_one hn hs
  rw [exec_gpfRequest hi hp hpq hf hg hr hu he hc, gpfAdvance_free hw e rfl, gpfClose_open rfl (.inr (List.cons_ne_nil d []))]
  exact answers_keeps (quiet_gpf hq rfl rfl rfl rfl rfl rfl (fun _ => rfl) rfl) fun t ht hd hg ho =>
    ⟨ho _ (List.mem_cons_self ..), (congrArg StdState.gpfSent (stdSt_of_std (u := ({ s with gpf := [] } : State).gpfAsked d n) hd d)).trans (gpfAsked_sent ..),
      hg, fun a _ => ht a⟩

/-- A request that waits for the host's writes. -/
theorem gpf_held (s : State) (q : PortIx) (p : PortRec) (c : Instr) (n : Nat) :
    s.md.clocked = true →
  (c = .gpfPhase1Request q ∧ n = 1 ∨ c = .gpfPhase2Request q ∧ n = 2) → s.portRec q.val = some p → p.port = q.val →
  p.fabric = false → p.gpf = true → p.role = .upstream → s.portUp q.val = true → s.gpf = [] →
  s.hostWrites q.val = true →
  Leaves (exec c s) fun u =>
    u.gpf = [{ port := q.val, phase := n, held := true, waits := [] }] ∧ u.out = s.out ∧ u.regsBut s [] := by
  intro hc hi hp hpq hf hg hr hu he hw
  rw [exec_gpfRequest hi hp hpq hf hg hr hu he hc, gpfAdvance_held hw]
  exact ⟨_, rfl, rfl, rfl, fun _ _ => rfl⟩

/-- The answer of the one device asked. -/
theorem gpfDevice_answers (s : State) (q h : PortIx) (n : Fin 3) :
    s.quiet = true → s.md.clocked = true → (s.stdSt q.val).gpfSent = some n.val →
  s.gpf = [{ port := h.val, phase := n.val, held := false, waits := [q.val] }] →
  Answers (exec (.gpfDeviceAnswer q n) s) fun t =>
    (t.stdSt q.val).gpfSent = none ∧ (t.stdSt q.val).gpfDone = max (s.stdSt q.val).gpfDone n.val ∧
    Out.gpfAnswer h.val n.val ∈ t.out ∧ t.gpf = [] ∧ t.regsBut s [] := by
  intro hq hc hs hg
  refine answers_clocked hc ?_
  have e : s.gpfAnswer q.val n.val = ({ s.gpfHeard q.val n.val with
      gpf := [askedFlow h.val n.val []] } : State).gpfClose := by
    unfold State.gpfAnswer
    rw [if_neg (not_not.2 hs)]
    have f : (s.modStd q.val fun x => { x with gpfSent := none, gpfDone := max x.gpfDone n.val }).gpf = s.gpf := rfl
    simp only [State.gpfHeard, f, hg, List.map_cons, List.map_nil, if_true, List.erase_cons_head, askedFlow]
  rw [e, gpfClose_ended rfl rfl rfl h.isLt]
  refine answers_keeps (quiet_gpf hq rfl rfl rfl rfl rfl rfl (fun _ => rfl) rfl) fun t ht hd hg ho => ?_
  obtain ⟨k1, k2⟩ := gpfHeard_spec s q.val n.val
  rw [stdSt_of_std (u := s.gpfHeard q.val n.val) hd]
  exact ⟨k1, k2, ho _ (List.mem_cons_self ..), hg, fun a _ => ht a⟩

/-- The time limit of a flow. -/
theorem gpfTimeout_answers (s : State) (q : PortIx) (n : Fin 3) (g : GpfFlow) :
    s.md.clocked = true → g ∈ s.gpf → g.port = q.val →
  g.phase = n.val →
  Leaves (exec (.gpfTimeout q n) s) fun u =>
    Out.gpfAnswer q.val n.val ∈ u.out ∧ g ∉ u.gpf ∧ u.on (Reg.PT_STD_ERR q.val) Fld.PT_STD_ERR.GPF_TIMEOUT = true ∧
    u.hasRaisedOn (srcQuad (quadOf (tileOf q.val)) 18) (s.portFlacon q.val) ∧ u.regsBut s [Reg.PT_STD_ERR q.val] := by
  intro hc hg hq hn
  refine leaves_clocked hc ?_
  have e : (s.gpf.any fun g => g.port == q.val && g.phase == n.val) = true := by
    rw [List.any_eq_true]
    exact ⟨g, hg, by simp [hq, hn]⟩
  unfold State.gpfTimeout
  simp only [e, Bool.not_true, Bool.false_eq_true, if_false]
  refine ⟨?_, ?_, stdErr_on _ _ _ (by decide) (by decide), stdErr_raised _ _ _ _, fun a ha => ?_⟩
  · rw [stdErr_out]
    exact List.mem_cons_self ..
  · rw [stdErr_gpf]
    intro h
    obtain ⟨-, h⟩ := List.mem_filter.1 h
    simp [hq, hn] at h
  · rw [stdErr_reg (by simpa using ha)]
    rfl

/-- Settles O31: what a port does beside its link, each service from the state its own step leaves. -/
theorem portServices : Obligations.PortServices :=
  ⟨hdmCommit_taken, hdmCommit_refused, viral_spreads, ideKey_taken, ideFailure_downs, gpf_answered, gpf_sent, gpf_held, gpfDevice_answers, gpfTimeout_answers⟩


end Sys2Proof.Machine
end

section
/-!
## What fabric manager commands change (O33): port control, bindings and dynamic capacity
-/
namespace Sys2Proof.Machine

/-! ### What the gate of a granted command leaves -/

section
variable {r : FmReq} {o : Nat} {x : FmReply × State}

theorem fmTaken_reg {a : Nat} (h : a ≠ Reg.MG_PATH_CNT r.path.val) : (fmTaken r o x).reg a = x.2.reg a := by
  rw [fmTaken, emit_reg, countCmd_reg _ _ _ _ h]

theorem fmTaken_std : (fmTaken r o x).std = x.2.std := by
  rw [fmTaken, emit_std, eq_of_rest (countCmd_rest ..)]

theorem fmTaken_acc : (fmTaken r o x).acc = x.2.acc := by
  rw [fmTaken, emit_acc, eq_of_rest (countCmd_rest ..)]

theorem fmTaken_vppb : (fmTaken r o x).vppb = x.2.vppb := by
  rw [fmTaken, emit_vppb, eq_of_rest (countCmd_rest ..)]

theorem fmTaken_mgmt : (fmTaken r o x).mgmt = x.2.mgmt := by
  rw [fmTaken, emit_mgmt, eq_of_rest (countCmd_rest ..)]

theorem fmTaken_out {y : Out} (h : y ∈ x.2.out) : y ∈ (fmTaken r o x).out := by
  refine List.mem_cons_of_mem _ ?_
  rw [rest_out (countCmd_rest ..)]
  exact h

theorem fmTaken_answers : Out.fmAnswer r.path.val o x.1.code x.1.ext x.1.data ∈ (fmTaken r o x).out := List.mem_cons_self ..

theorem path_ne_STD (p : Fin 4) (q : Nat) : Reg.PT_STD_STATUS q ≠ Reg.MG_PATH_CNT p.val ∧ Reg.PT_HP_STATUS q ≠ Reg.MG_PATH_CNT p.val := by
  simp only [Reg.PT_STD_STATUS, Reg.PT_HP_STATUS, Reg.MG_PATH_CNT]
  omega

theorem path_ne_EPOCH (p : Fin 4) (f : Nat) : Reg.FL_EPOCH f ≠ Reg.MG_PATH_CNT p.val := by
  simp only [Reg.FL_EPOCH, Reg.MG_PATH_CNT]
  omega

theorem fmTaken_stdSt (q : Nat) : (fmTaken r o x).stdSt q = x.2.stdSt q := stdSt_of_std fmTaken_std q

theorem fmTaken_vppbSt (q v : Nat) : (fmTaken r o x).vppbSt q v = x.2.vppbSt q v := vppbSt_of_vppb fmTaken_vppb q v

theorem fmTaken_flAcc (f : Nat) : (fmTaken r o x).flAcc f = x.2.flAcc f := by
  unfold State.flAcc
  rw [fmTaken_acc]

theorem fmTaken_epochOf (f : Nat) : (fmTaken r o x).epochOf f = x.2.epochOf f := rd_of_reg (fmTaken_reg (path_ne_EPOCH r.path f)) _

theorem fmTaken_on {f : Fld} (q : Nat) : (fmTaken r o x).on (Reg.PT_STD_STATUS q) f = x.2.on (Reg.PT_STD_STATUS q) f :=
  on_of_reg (fmTaken_reg (path_ne_STD ..).1) f

end

/-- A granted command leaves what its own part leaves, counted and answered. -/
theorem leaves_fm {s : State} {r : FmReq} {o g m : Nat} {k : State → FmReply × State} {P : State → Prop} (h : s.fmGrants r g m)
    (hP : P (fmTaken r o (k s))) : Leaves (done (s.fm r o g m k)) P := by
  rw [fm_granted k h]
  exact ⟨_, rfl, hP⟩

/-! ### Physical Port Control -/

theorem setPerst_reg {s : State} {p : PortRec} {b : Bool} {a : Nat} (h : a ≠ Reg.PT_HP_STATUS p.port) :
    (s.setPerst p b).reg a = s.reg a := by
  unfold State.setPerst
  split
  · rfl
  · rw [emit_reg, wrB_eq, reg_wr_ne h]

theorem setPerst_on (s : State) (p : PortRec) (b : Bool) :
    (s.setPerst p b).on (Reg.PT_HP_STATUS p.port) Fld.PT_HP_STATUS.PERST = b := by
  unfold State.setPerst
  split
  · assumption
  · rw [emit_on, wrB_eq]
    cases b with
    | true => exact on_wr_one (by decide) (by decide) _ _
    | false => exact on_wr_zero (by decide) _ _

theorem setPerst_std (s : State) (p : PortRec) (b : Bool) : (s.setPerst p b).std = s.std := by
  unfold State.setPerst
  split
  · rfl
  · rw [emit_std, wrB_eq, wr_std]

theorem setPerst_calm (s : State) (p : PortRec) (b : Bool) : (s.setPerst p b).calm s := by
  unfold State.setPerst
  split
  · exact calm_refl s
  · rw [wrB_eq]
    exact calm_emit (calm_wr (calm_refl s) (HP_STATUS_not_calm _) ..) _

/-- PERST of a slot, where the port has one. -/
def State.drivePerst (s : State) (p : PortRec) (b : Bool) : State := if p.hotplug then s.setPerst p b else s

theorem drivePerst_reg {s : State} {p : PortRec} {b : Bool} {a : Nat} (h : a ≠ Reg.PT_HP_STATUS p.port) :
    (s.drivePerst p b).reg a = s.reg a := by
  unfold State.drivePerst
  split
  · exact setPerst_reg h
  · rfl

theorem drivePerst_on {s : State} {p : PortRec} {b : Bool} (h : p.hotplug = true) :
    (s.drivePerst p b).on (Reg.PT_HP_STATUS p.port) Fld.PT_HP_STATUS.PERST = b := by
  rw [State.drivePerst, if_pos h, setPerst_on]

theorem drivePerst_stdSt (s : State) (p : PortRec) (b : Bool) (q : Nat) : (s.drivePerst p b).stdSt q = s.stdSt q := by
  unfold State.drivePerst
  split
  · exact stdSt_of_std (setPerst_std ..) q
  · rfl

theorem drivePerst_calm (s : State) (p : PortRec) (b : Bool) : (s.drivePerst p b).calm s := by
  unfold State.drivePerst
  split
  · exact setPerst_calm ..
  · exact calm_refl s

section
variable {s : State} {p : PortRec} (hp : s.portRec p.port = some p) (hf : p.fabric = false) (hr : p.role = .downstream)
include hp hf hr

theorem portControl_reset : s.fmPortControl p.port (BitVec.toNat (0 : BitVec 8)) =
    ({ code := Fm.BACKGROUND }, ((s.stdDown p true).modStd p.port fun x => { x with fmReset := true }).drivePerst p true) := by
  rw [show BitVec.toNat (0 : BitVec 8) = 0 from rfl]
  unfold State.fmPortControl
  simp only [hp, hf, hr, bne_self_eq_false, Bool.or_self, Bool.false_eq_true, if_false, State.drivePerst]

theorem portControl_release : s.fmPortControl p.port (BitVec.toNat (1 : BitVec 8)) =
    ({ code := Fm.BACKGROUND }, ((s.modStd p.port fun x => { x with fmReset := false }).setLtssm p.port 0).drivePerst p false) := by
  rw [show BitVec.toNat (1 : BitVec 8) = 1 from rfl]
  unfold State.fmPortControl
  simp only [hp, hf, hr, bne_self_eq_false, Bool.or_self, Bool.false_eq_true, if_false, State.drivePerst]

theorem portControl_hotReset : s.fmPortControl p.port (BitVec.toNat (2 : BitVec 8)) = ({ code := Fm.BACKGROUND }, s.stdHotReset p) := by
  rw [show BitVec.toNat (2 : BitVec 8) = 2 from rfl]
  unfold State.fmPortControl
  simp only [hp, hf, hr, bne_self_eq_false, Bool.or_self, Bool.false_eq_true, if_false]

end

/-- A port whose reset is released. -/
def State.perstReleased (s : State) (p : PortRec) : State :=
  ((s.modStd p.port fun x => { x with fmReset := false }).setLtssm p.port 0).drivePerst p false

theorem perstReleased_calm (s : State) (p : PortRec) : (s.perstReleased p).calm s :=
  calm_trans (drivePerst_calm ..) (calm_wr (calm_modStd (calm_refl s) ..) (STD_STATUS_not_calm _) ..)

theorem perstReleased_spec (s : State) (p : PortRec) :
    ((s.perstReleased p).stdSt p.port).fmReset = false ∧
      (s.perstReleased p).rd (Reg.PT_STD_STATUS p.port) Fld.PT_STD_STATUS.LTSSM = 0 ∧
      (p.hotplug = true → (s.perstReleased p).on (Reg.PT_HP_STATUS p.port) Fld.PT_HP_STATUS.PERST = false) ∧
      ∀ a, a ≠ Reg.PT_STD_STATUS p.port → a ≠ Reg.PT_HP_STATUS p.port → (s.perstReleased p).reg a = s.reg a := by
  obtain ⟨-, -, -, h4, -⟩ := STD_regs_apart p.port
  refine ⟨?_, ?_, fun hh => drivePerst_on hh, fun a h1 h2 => ?_⟩
  · rw [State.perstReleased, drivePerst_stdSt, State.setLtssm, stdSt_wr, stdSt_modStd_same]
  · rw [State.perstReleased, rd_of_reg (drivePerst_reg h4), State.setLtssm, rd_wr _ _ _ _ (by decide), Nat.zero_mod]
  · rw [State.perstReleased, drivePerst_reg h2, State.setLtssm, reg_wr_ne h1]
    exact modStd_reg ..

/-! ### Bindings -/

/-- A generation with one more binding. -/
def State.genBound (s : State) (f : Nat) (b : BindingRec) : DecGen :=
  { (s.flAcc f).cur with bindings := (s.flAcc f).cur.bindings ++ [b] }

/-- What a binding that is taken leaves. -/
def State.boundTo (s : State) (f : Nat) (b : BindingRec) : State :=
  let t := (s.advance f [] (some (s.genBound f b))).notePresence [(b.usp, b.vppb)]
  if t.portUp b.dsp then t.noteDllsc [(b.usp, b.vppb)] else t

theorem boundTo_side (s : State) (f : Nat) (b : BindingRec) :
    (s.boundTo f b).hostSide (s.advance f [] (some (s.genBound f b))) := by
  unfold State.boundTo
  simp only
  split
  · exact hostSide_trans (hostSide_noteDllsc ..) (hostSide_notePresence ..)
  · exact hostSide_notePresence ..

theorem boundTo_presence (s : State) (f : Nat) (b : BindingRec) : ((s.boundTo f b).vppbSt b.usp b.vppb).presenceChanged = true := by
  have h := notePresence_set (s.advance f [] (some (s.genBound f b))) [(b.usp, b.vppb)] _ (List.mem_cons_self ..)
  unfold State.boundTo
  simp only
  split
  · obtain ⟨d, hd⟩ := vppbSt_noteDllsc ((s.advance f [] (some (s.genBound f b))).notePresence [(b.usp, b.vppb)])
      [(b.usp, b.vppb)] b.usp b.vppb
    rw [hd]
    exact h
  · exact h

theorem boundTo_spec {s : State} (h : s.arrayEmpty) (f : Nat) (b : BindingRec) :
    ((s.boundTo f b).flAcc f).cur.bindings = (s.flAcc f).cur.bindings ++ [b] ∧
      (s.boundTo f b).epochOf f = (s.epochOf f + 1) % 2 ^ 32 := by
  obtain ⟨hh, -, -, -, -, ht, -⟩ := h
  have hs := boundTo_side s f b
  refine ⟨?_, ?_⟩
  · have e : ((s.epochStep f [] (some (s.genBound f b))).showRegions f).flAcc f = (s.epochStep f [] (some (s.genBound f b))).flAcc f := by
      rw [State.flAcc, State.showRegions, wr_acc, State.flAcc]
    rw [hostSide_flAcc hs, advance_idle ht hh, e, epochStep_flAcc, State.genBound]
  · rw [hostSide_epochOf hs, advance_idle ht hh, epochStep_epochOf]


/-- A binding that can be taken. -/
theorem bind_ok {s : State} {u v d l f : Nat} {a b : PortRec} (hm : s.md = .serve) (ha : s.portRec u = some a)
    (hb : s.portRec d = some b) (h1 : a.fabric = false) (h2 : b.fabric = false) (h3 : a.role = .upstream) (h4 : b.role = .downstream)
    (h5 : a.flacon = f) (h6 : b.flacon = f) (hf : f < 32) (hl : l < 16) (hn : s.flaconBusy f = none)
    (hc : s.canAdvance f true = true) (hi : ∀ x ∈ s.allBindings, ¬ (x.dsp = d ∧ x.ld = l) ∧ ¬ (x.usp = u ∧ x.vppb = v)) :
    s.fmBind u v d l = ({}, s.boundTo f { flacon := f, usp := u, dsp := d, ld := l, vppb := v }) := by
  have hp : s.portFlacon u = some f := by
    unfold State.portFlacon
    rw [ha]
    simp only [h5, if_pos hf]
  have hx : (s.allBindings.any fun x => (x.dsp == d && x.ld == l) || (x.usp == u && x.vppb == v)) = false := by
    rw [List.any_eq_false]
    intro x hx
    simpa using hi x hx
  have hl' : l ≠ 0xFFFF := by omega
  have hin : s.inMode [.serve, .recompose] = true := by rw [State.inMode, hm]; rfl
  unfold State.fmBind State.bind
  simp only [if_neg hl', hp, Option.getD_some, ha, hb, h1, h2, h3, h4, h5, h6, hl, hin, hn, hc, hx, beq_self_eq_true, decide_true,
    Bool.not_false, Bool.not_true, Bool.and_self, Bool.false_eq_true, if_false]
  rfl

/-- A binding to no logical device. -/
theorem bind_noLd {s : State} {u v d l : Nat} (hm : s.md = .serve) (hl : 16 ≤ l) :
    s.fmBind u v d l = ({ code := Fm.INVALID, ext := St.OUT_OF_FORMULA }, s) := by
  have hl' : ¬ (if l = 0xFFFF then 0xFF else l) < 16 := by
    split
    · decide
    · omega
  have hin : s.inMode [.serve, .recompose] = true := by rw [State.inMode, hm]; rfl
  unfold State.fmBind State.bind
  simp only [decide_eq_false hl', Bool.and_false, hin, Bool.not_true, Bool.false_eq_true, if_false]
  cases s.portRec u with
  | none => rfl
  | some a =>
    cases s.portRec d with
    | none => rfl
    | some b => rfl

theorem unbind_now {s : State} {u v f : Nat} {b : BindingRec} (hm : s.md = .serve) (hb : s.bindingAt u v = some (f, b))
    (hn : s.flaconBusy f = none) (hc : s.canAdvance f true = true) : s.fmUnbind u v (BitVec.toNat (2 : BitVec 8)) = ({}, s.unbindNow f b) := by
  have hin : s.inMode [.serve, .recompose] = true := by rw [State.inMode, hm]; rfl
  rw [show BitVec.toNat (2 : BitVec 8) = 2 from rfl]
  unfold State.fmUnbind State.unbind
  simp only [hin, hb, hn, hc, Bool.not_true, Bool.false_eq_true, if_false, if_true, Nat.lt_irrefl]
  rfl

/-- A refusal that is not one of the status codes is the model's choice of a number. -/
theorem fmRefuse_free {s : State} {st : Nat} (h : ¬ (1 ≤ st ∧ st ≤ 7)) :
    ∃ x, s.fmRefuse st = ({ code := Fm.INVALID, ext := x }, { s with freeIx := s.freeIx + 1 }) :=
  ⟨_, if_neg h⟩

theorem unbind_nothing {s : State} {u v : Nat} (hm : s.md = .serve) (hb : s.bindingAt u v = none) :
    ∃ x, s.fmUnbind u v (BitVec.toNat (0 : BitVec 8)) = ({ code := Fm.INVALID, ext := x }, { s with freeIx := s.freeIx + 1 }) := by
  have hin : s.inMode [.serve, .recompose] = true := by rw [State.inMode, hm]; rfl
  have e : s.unbind u v 0 = (St.BAD_FIELD, s) := by
    unfold State.unbind
    simp only [hin, hb, Bool.not_true, Bool.false_eq_true, if_false]
  have e' : s.fmUnbind u v 0 = s.fmRefuse St.BAD_FIELD := by
    unfold State.fmUnbind
    rw [if_neg (by decide), e]
    rfl
  rw [show BitVec.toNat (0 : BitVec 8) = 0 from rfl, e']
  exact fmRefuse_free (by decide)

/-! ### Dynamic capacity -/

/-- An epoch advance, with the extents it holds and the command sent on. -/
def State.dcSent (s : State) (q f o : Nat) (l : List DcHeld) : State :=
  ({ s.advance f [] none with mgmt := { (s.advance f [] none).mgmt with extents := l } } : State).emit (.fmForward q o [])

theorem advance_mgmt {s : State} (h : s.arrayEmpty) (f : Nat) : (s.advance f [] none).mgmt = s.mgmt := by
  obtain ⟨hh, -, -, -, -, ht, -⟩ := h
  rw [advance_idle ht hh, epochStep_keeps]

theorem dcSent_epochOf {s : State} (h : s.arrayEmpty) (q f o : Nat) (l : List DcHeld) :
    (s.dcSent q f o l).epochOf f = (s.epochOf f + 1) % 2 ^ 32 := by
  obtain ⟨hh, -, -, -, -, ht, -⟩ := h
  have e := epochStep_epochOf s f [] none
  rw [← advance_idle ht hh] at e
  exact e

theorem dcSent_mgmt (s : State) (q f o : Nat) (l : List DcHeld) : (s.dcSent q f o l).mgmt.extents = l := rfl

theorem dcSent_tells (s : State) (q f o : Nat) (l : List DcHeld) : Out.fmForward q o [] ∈ (s.dcSent q f o l).out := List.mem_cons_self ..

/-- A held extent that a release marks. -/
def markReleased (q f : Nat) (l : List DcExtent) (x : DcHeld) : DcHeld :=
  if x.flacon = f ∧ x.port = q ∧ l.contains x.extent then { x with releasing := true } else x

theorem dcAdd_now {s : State} {q f : Nat} {l : List DcExtent} (h : s.arrayEmpty) (hr : s.dcRefused q f l = none)
    (hc : s.canAdvance f false = true) : s.dcAdd q f l = ({ code := Fm.BACKGROUND },
      s.dcSent q f 0x5604 (s.mgmt.extents ++ l.map fun x => { flacon := f, port := q, extent := x })) := by
  unfold State.dcAdd State.dcSent
  simp only [hr, hc, Bool.not_true, Bool.false_eq_true, if_false, advance_mgmt h]

theorem dcRelease_now {s : State} {q f : Nat} {l : List DcExtent} (h : s.arrayEmpty) (hr : s.dcRefused q f l = none)
    (hc : s.canAdvance f false = true) : s.dcRelease q f l = ({ code := Fm.BACKGROUND },
      s.dcSent q f 0x5605 (s.mgmt.extents.map (markReleased q f l))) := by
  unfold State.dcRelease State.dcSent
  simp only [hr, hc, Bool.not_true, Bool.false_eq_true, if_false, advance_mgmt h]
  rfl

/-- A refusal with a status code of the table. -/
theorem fmRefuse_known {s : State} {st : Nat} (h : 1 ≤ st ∧ st ≤ 7) : s.fmRefuse st = ({ code := Fm.INVALID, ext := st }, s) :=
  if_pos h

theorem dcAdd_refused {s : State} {q f st : Nat} {l : List DcExtent} (hr : s.dcRefused q f l = some st) (h : 1 ≤ st ∧ st ≤ 7) :
    s.dcAdd q f l = ({ code := Fm.INVALID, ext := st }, s) := by
  unfold State.dcAdd
  rw [hr]
  exact fmRefuse_known h

theorem dcAdd_noEpoch {s : State} {q f : Nat} {l : List DcExtent} (hr : s.dcRefused q f l = none)
    (hc : s.canAdvance f false = false) : s.dcAdd q f l = ({ code := Fm.INVALID, ext := St.EPOCH_BUSY }, s) := by
  unfold State.dcAdd
  rw [hr]
  simp only [hc, Bool.not_false, if_true]
  exact fmRefuse_known (by decide)

theorem dcRefused_fenced {s : State} {q f : Nat} {l : List DcExtent} {p : PortRec} (hp : s.portRec q = some p)
    (hf : p.fabric = false) (hr : p.role = .downstream) (h : s.on (Reg.FL_STATUS f) Fld.FL_STATUS.FENCED = true) :
    s.dcRefused q f l = some St.FLACON_FENCED := by
  unfold State.dcRefused
  simp only [hp, Option.any_some, hf, hr, h, Bool.not_false, beq_self_eq_true, Bool.and_self, Bool.not_true, Bool.false_eq_true, if_false,
    if_true]

/-- Assert PERST resets the port. -/
theorem portControl_resets (s : State) (r : FmReq) (q : BitVec 8) (p : PortRec) :
    s.fmGrants r Grp.LINK (s.portMask q.toNat) →
  s.portRec q.toNat = some p → p.port = q.toNat → p.port < 128 → p.fabric = false → p.role = .downstream →
  s.portIdle q.toNat →
  Leaves (exec (.fmPhysicalPortControl r q 0) s) fun u =>
    (u.stdSt q.toNat).fmReset = true ∧ u.on (Reg.PT_STD_STATUS q.toNat) Fld.PT_STD_STATUS.DL_UP = false ∧
    (p.hotplug = true → u.on (Reg.PT_HP_STATUS q.toNat) Fld.PT_HP_STATUS.PERST = true) ∧
    Out.fmAnswer r.path.val 0x5102 Fm.BACKGROUND 0 [] ∈ u.out := by
  intro hg hp hpq hl hf hr hi
  refine leaves_fm hg ?_
  rw [← hpq] at hp hi ⊢
  have e : ((s.stdDown p true).modStd p.port fun x => { x with fmReset := true }).on (Reg.PT_STD_STATUS p.port)
      Fld.PT_STD_STATUS.DL_UP = false := by
    rw [on_of_reg (modStd_reg ..)]
    by_cases hu : s.on (Reg.PT_STD_STATUS p.port) Fld.PT_STD_STATUS.DL_UP = true
    · exact (stdDown_downstream hi hu true hr).1
    · rw [stdDown_off (by simpa using hu)]
      simpa using hu
  obtain ⟨-, -, -, h4, -⟩ := STD_regs_apart p.port
  rw [portControl_reset hp hf hr]
  refine ⟨?_, ?_, fun hh => ?_, fmTaken_answers⟩
  · rw [fmTaken_stdSt, drivePerst_stdSt, stdSt_modStd_same]
  · rw [fmTaken_on, on_of_reg (drivePerst_reg h4)]
    exact e
  · rw [on_of_reg (fmTaken_reg (path_ne_STD ..).2)]
    exact drivePerst_on hh

/-- Deassert PERST releases it. -/
theorem portControl_releases (s : State) (r : FmReq) (q : BitVec 8) (p : PortRec) :
    s.quiet = true → s.fmGrants r Grp.LINK (s.portMask q.toNat) →
  s.portRec q.toNat = some p → p.port = q.toNat → p.port < 128 → p.fabric = false → p.role = .downstream →
  Answers (exec (.fmPhysicalPortControl r q 1) s) fun t =>
    (t.stdSt q.toNat).fmReset = false ∧ t.rd (Reg.PT_STD_STATUS q.toNat) Fld.PT_STD_STATUS.LTSSM = 0 ∧
    (p.hotplug = true → t.on (Reg.PT_HP_STATUS q.toNat) Fld.PT_HP_STATUS.PERST = false) ∧
    Out.fmAnswer r.path.val 0x5102 Fm.BACKGROUND 0 [] ∈ t.out ∧
    t.regsBut s [Reg.PT_STD_STATUS q.toNat, Reg.PT_HP_STATUS q.toNat, Reg.MG_PATH_CNT r.path.val] := by
  intro hq hg hp hpq hl hf hr
  rw [← hpq] at hp ⊢
  obtain ⟨k1, k2, k3, k4⟩ := perstReleased_spec s p
  have hk := perstReleased_calm s p
  change Answers (done (s.fm r _ _ _ _)) _
  rw [fm_granted _ hg, ← hpq, portControl_release hp hf hr, ← State.perstReleased]
  generalize s.perstReleased p = u at k1 k2 k3 k4 hk
  refine answers_fmTaken hq hk fun t ht _ _ hd ho _ => ?_
  have hm : ∀ a, a ≠ Reg.MG_PATH_CNT r.path.val → t.reg a = u.reg a := fun a ha => (ht a).trans (countCmd_reg _ _ _ _ ha)
  obtain ⟨n1, n2⟩ := path_ne_STD r.path p.port
  refine ⟨?_, (rd_of_reg (hm _ n1) _).trans k2, fun hh => (on_of_reg (hm _ n2) _).trans (k3 hh), ho, fun a ha => ?_⟩
  · rw [stdSt_of_std hd]
    exact k1
  · simp only [List.mem_cons, List.not_mem_nil, or_false, not_or] at ha
    obtain ⟨h1, h2, h3⟩ := ha
    exact (hm a h3).trans (k4 a h1 h2)

/-- Reset by a hot reset. -/
theorem portControl_hotResets (s : State) (r : FmReq) (q : BitVec 8) (p : PortRec) :
    s.fmGrants r Grp.LINK (s.portMask q.toNat) →
  s.portRec q.toNat = some p → p.port = q.toNat → p.port < 128 → p.fabric = false → p.role = .downstream →
  s.portIdle q.toNat →
  Leaves (exec (.fmPhysicalPortControl r q 2) s) fun u =>
    Out.hotReset q.toNat none ∈ u.out ∧ u.rd (Reg.PT_STD_STATUS q.toNat) Fld.PT_STD_STATUS.LTSSM = 7 ∧
    Out.fmAnswer r.path.val 0x5102 Fm.BACKGROUND 0 [] ∈ u.out := by
  intro hg hp hpq hl hf hr hi
  refine leaves_fm hg ?_
  rw [← hpq] at hp hi ⊢
  rw [portControl_hotReset hp hf hr]
  refine ⟨fmTaken_out ?_, ?_, fmTaken_answers⟩
  · rw [State.stdHotReset, State.setLtssm, rest_out (rest_wr ..)]
    exact (stdDown_side (portIdle_emit hi (.hotReset p.port none)) true).2.2.1 _ (List.mem_cons_self ..)
  · rw [rd_of_reg (fmTaken_reg (path_ne_STD ..).1), State.stdHotReset, State.setLtssm, rd_wr _ _ _ _ (by decide)]
    rfl

/-- A binding that can be taken. -/
theorem bind_taken (s : State) (r : FmReq) (u v d : BitVec 8) (l : BitVec 16) (a b : PortRec) (f : Nat) :
    s.fmGrants r Grp.BIND (s.portMask u.toNat ||| s.portMask d.toNat) → s.md = .serve →
  s.portRec u.toNat = some a → s.portRec d.toNat = some b → a.fabric = false → b.fabric = false → a.role = .upstream →
  b.role = .downstream → a.flacon = f → b.flacon = f → f < 32 → l.toNat < 16 → s.flaconBusy f = none →
  s.canAdvance f true = true → s.arrayEmpty →
  (∀ x ∈ s.allBindings, ¬ (x.dsp = d.toNat ∧ x.ld = l.toNat) ∧ ¬ (x.usp = u.toNat ∧ x.vppb = v.toNat)) →
  Leaves (exec (.fmBindVppb r u v d l) s) fun t =>
    (t.flAcc f).cur.bindings = (s.flAcc f).cur.bindings ++
      [{ flacon := f, usp := u.toNat, dsp := d.toNat, ld := l.toNat, vppb := v.toNat }] ∧
    t.epochOf f = (s.epochOf f + 1) % 2 ^ 32 ∧ (t.vppbSt u.toNat v.toNat).presenceChanged = true ∧
    Out.fmAnswer r.path.val 0x5201 Fm.SUCCESS 0 [] ∈ t.out := by
  intro hg hm ha hb h1 h2 h3 h4 h5 h6 hf hl hn hc he hi
  refine leaves_fm hg ?_
  rw [bind_ok hm ha hb h1 h2 h3 h4 h5 h6 hf hl hn hc hi]
  obtain ⟨k1, k2⟩ := boundTo_spec he f { flacon := f, usp := u.toNat, dsp := d.toNat, ld := l.toNat, vppb := v.toNat }
  refine ⟨?_, ?_, ?_, fmTaken_answers⟩
  · rw [fmTaken_flAcc, k1]
  · rw [fmTaken_epochOf, k2]
  · rw [fmTaken_vppbSt]
    exact boundTo_presence ..

/-- A binding to no logical device. -/
theorem bind_badLd (s : State) (r : FmReq) (u v d : BitVec 8) (l : BitVec 16) :
    s.quiet = true →
  s.fmGrants r Grp.BIND (s.portMask u.toNat ||| s.portMask d.toNat) → s.md = .serve → 16 ≤ l.toNat →
  Answers (exec (.fmBindVppb r u v d l) s) fun t =>
    Out.fmAnswer r.path.val 0x5201 Fm.INVALID St.OUT_OF_FORMULA [] ∈ t.out ∧ t.acc = s.acc ∧
    t.regsBut s [Reg.MG_PATH_CNT r.path.val] := by
  intro hq hg hm hl
  change Answers (done (s.fm r _ _ _ _)) _
  rw [fm_granted _ hg, bind_noLd hm hl]
  exact answers_fmTaken hq (calm_refl s) fun t hr _ ha _ ho _ => ⟨ho, ha, fmTaken_regsBut hr fun _ _ => rfl⟩

/-- An unbind at once. -/
theorem unbind_taken (s : State) (r : FmReq) (u v : BitVec 8) (b : BindingRec) (f : Nat) :
    s.fmGrants r Grp.BIND (s.portMask u.toNat) →
  s.md = .serve → s.bindingAt u.toNat v.toNat = some (f, b) → b.usp = u.toNat → b.vppb = v.toNat → f < 32 →
  s.flaconBusy f = none → s.canAdvance f true = true → s.arrayEmpty →
  Leaves (exec (.fmUnbindVppb r u v 2) s) fun t =>
    (t.flAcc f).cur.bindings =
      ((s.flAcc f).cur.bindings.filter fun x => !(x.usp == u.toNat && x.vppb == v.toNat)) ∧
    t.epochOf f = (s.epochOf f + 1) % 2 ^ 32 ∧ (t.vppbSt u.toNat v.toNat).unbind = none ∧
    (t.vppbSt u.toNat v.toNat).presenceChanged = true ∧ (t.vppbSt u.toNat v.toNat).dllsc = true ∧
    Out.fmAnswer r.path.val 0x5202 Fm.SUCCESS 0 [] ∈ t.out := by
  intro hg hm hb hu hv hf hn hc he
  refine leaves_fm hg ?_
  obtain ⟨hh, -, -, -, -, ht, -⟩ := he
  obtain ⟨k1, k2, k3, k4, k5⟩ := unbindNow_spec (s := s) ht hh f b
  rw [hu, hv] at k1 k3 k4 k5
  rw [unbind_now hm hb hn hc]
  refine ⟨?_, ?_, ?_, ?_, ?_, fmTaken_answers⟩
  · rw [fmTaken_flAcc, k1]
  · rw [fmTaken_epochOf, k2]
  · rw [fmTaken_vppbSt, k3]
  · rw [fmTaken_vppbSt, k4]
  · rw [fmTaken_vppbSt, k5]

/-- An unbind of a vPPB without a binding. -/
theorem unbind_unbound (s : State) (r : FmReq) (u v : BitVec 8) :
    s.quiet = true → s.fmGrants r Grp.BIND (s.portMask u.toNat) → s.md = .serve →
  s.bindingAt u.toNat v.toNat = none →
  Answers (exec (.fmUnbindVppb r u v 0) s) fun t =>
    (∃ x, Out.fmAnswer r.path.val 0x5202 Fm.INVALID x [] ∈ t.out) ∧ t.acc = s.acc ∧
    t.regsBut s [Reg.MG_PATH_CNT r.path.val] := by
  intro hq hg hm hb
  obtain ⟨x, e⟩ := unbind_nothing (s := s) (u := u.toNat) (v := v.toNat) hm hb
  change Answers (done (s.fm r _ _ _ _)) _
  rw [fm_granted _ hg, e]
  exact answers_fmTaken hq (calm_refl s) fun t hr _ ha _ ho _ => ⟨⟨x, ho⟩, ha, fmTaken_regsBut hr fun _ _ => rfl⟩

/-- Extents added. -/
theorem dcAdd_taken (s : State) (r : FmReq) (q f : BitVec 8) (l : List DcExtent) :
    f.toNat < 32 → s.arrayEmpty →
  s.fmGrants r Grp.DCD (s.portMask q.toNat ||| flMask f.toNat) → s.dcRefused q.toNat f.toNat l = none →
  s.canAdvance f.toNat false = true →
  Leaves (exec (.fmInitiateDcAdd r q f l) s) fun u =>
    u.mgmt.extents = s.mgmt.extents ++ l.map (fun x => { flacon := f.toNat, port := q.toNat, extent := x }) ∧
    u.epochOf f.toNat = (s.epochOf f.toNat + 1) % 2 ^ 32 ∧ Out.fmForward q.toNat 0x5604 [] ∈ u.out ∧
    Out.fmAnswer r.path.val 0x5604 Fm.BACKGROUND 0 [] ∈ u.out := by
  intro _ he hg hr hc
  refine leaves_fm hg ?_
  rw [dcAdd_now he hr hc]
  exact ⟨by rw [fmTaken_mgmt, dcSent_mgmt], by rw [fmTaken_epochOf, dcSent_epochOf he], fmTaken_out (dcSent_tells ..), fmTaken_answers⟩

/-- Extents that no epoch can take. -/
theorem dcAdd_busy (s : State) (r : FmReq) (q f : BitVec 8) (l : List DcExtent) :
    s.quiet = true →
  s.fmGrants r Grp.DCD (s.portMask q.toNat ||| flMask f.toNat) → s.dcRefused q.toNat f.toNat l = none →
  s.canAdvance f.toNat false = false →
  Answers (exec (.fmInitiateDcAdd r q f l) s) fun t =>
    t.mgmt.extents = s.mgmt.extents ∧ Out.fmAnswer r.path.val 0x5604 Fm.INVALID St.EPOCH_BUSY [] ∈ t.out ∧
    t.regsBut s [Reg.MG_PATH_CNT r.path.val] := by
  intro hq hg hr hc
  change Answers (done (s.fm r _ _ _ _)) _
  rw [fm_granted _ hg, dcAdd_noEpoch hr hc]
  exact answers_fmTaken hq (calm_refl s) fun t hr hm _ _ ho _ =>
    ⟨congrArg MgmtState.extents hm, ho, fmTaken_regsBut hr fun _ _ => rfl⟩

/-- Extents of a fenced Flacon. -/
theorem dcAdd_fenced (s : State) (r : FmReq) (q f : BitVec 8) (l : List DcExtent) (p : PortRec) :
    s.quiet = true →
  s.fmGrants r Grp.DCD (s.portMask q.toNat ||| flMask f.toNat) → s.portRec q.toNat = some p → p.fabric = false →
  p.role = .downstream → s.on (Reg.FL_STATUS f.toNat) Fld.FL_STATUS.FENCED = true →
  Answers (exec (.fmInitiateDcAdd r q f l) s) fun t =>
    t.mgmt.extents = s.mgmt.extents ∧ Out.fmAnswer r.path.val 0x5604 Fm.INVALID St.FLACON_FENCED [] ∈ t.out ∧
    t.regsBut s [Reg.MG_PATH_CNT r.path.val] := by
  intro hq hg hp hf hr hx
  change Answers (done (s.fm r _ _ _ _)) _
  rw [fm_granted _ hg, dcAdd_refused (dcRefused_fenced hp hf hr hx) (by decide)]
  exact answers_fmTaken hq (calm_refl s) fun t hr hm _ _ ho _ =>
    ⟨congrArg MgmtState.extents hm, ho, fmTaken_regsBut hr fun _ _ => rfl⟩

/-- Extents released. -/
theorem dcRelease_taken (s : State) (r : FmReq) (q f : BitVec 8) (l : List DcExtent) :
    f.toNat < 32 → s.arrayEmpty →
  s.fmGrants r Grp.DCD (s.portMask q.toNat ||| flMask f.toNat) → s.dcRefused q.toNat f.toNat l = none →
  s.canAdvance f.toNat false = true →
  Leaves (exec (.fmInitiateDcRelease r q f l) s) fun u =>
    u.mgmt.extents = s.mgmt.extents.map (fun x => if x.flacon = f.toNat ∧ x.port = q.toNat ∧ x.extent ∈ l then
      { x with releasing := true } else x) ∧
    u.epochOf f.toNat = (s.epochOf f.toNat + 1) % 2 ^ 32 ∧ Out.fmForward q.toNat 0x5605 [] ∈ u.out ∧
    Out.fmAnswer r.path.val 0x5605 Fm.BACKGROUND 0 [] ∈ u.out := by
  intro _ he hg hr hc
  refine leaves_fm hg ?_
  rw [dcRelease_now he hr hc]
  refine ⟨?_, by rw [fmTaken_epochOf, dcSent_epochOf he], fmTaken_out (dcSent_tells ..), fmTaken_answers⟩
  rw [fmTaken_mgmt, dcSent_mgmt]
  refine List.map_congr_left fun x _ => ?_
  simp only [markReleased, List.contains_iff_mem]

/-- The device's end of a release. -/
theorem dcReleased_answers (s : State) (q : PortIx) (l : List DcExtent) :
    s.quiet = true → s.md.clocked = true →
  Answers (exec (.dcReleaseComplete q l) s) fun t =>
    t.mgmt.extents = (s.mgmt.extents.filter fun x => !(x.port == q.val && x.releasing && l.contains x.extent)) ∧
    t.regsBut s [] := by
  intro hq hc
  refine answers_clocked hc ?_
  exact answers_of_calm hq (calm_refl s) fun _ _ _ => ⟨rfl, fun _ _ => rfl⟩

/-- Settles O33: a granted command leaves what its own part leaves, counted at its path and answered. -/
theorem fabricManagerActs : Obligations.FabricManagerActs :=
  ⟨portControl_resets, portControl_releases, portControl_hotResets, bind_taken, bind_badLd, unbind_taken, unbind_unbound, dcAdd_taken, dcAdd_busy, dcAdd_fenced, dcRelease_taken, dcReleased_answers⟩


end Sys2Proof.Machine
end

section
/-!
## The slot machine (O34)
-/
namespace Sys2Proof.Machine

/-! ### Registers and outputs of a slot -/

/-- The registers that a slot machine writes differ from one another. -/
theorem HP_regs_apart (q r : Nat) : Reg.PT_HP_STATUS q ≠ Reg.PT_HP_EVENTS r ∧ Reg.PT_HP_STATUS q ≠ Reg.PT_HP_CNT r ∧
    Reg.PT_HP_EVENTS q ≠ Reg.PT_HP_CNT r := by
  simp only [Reg.PT_HP_STATUS, Reg.PT_HP_EVENTS, Reg.PT_HP_CNT]
  omega

theorem HP_EVENTS_not_calm (q : Nat) : Reg.PT_HP_EVENTS q ∉ calmRegs := portReg_not_calm (by simp only [Reg.PT_HP_EVENTS]; omega)

theorem hpState_wr_events (s : State) (q r : Nat) (f : Fld) (x : Nat) :
    (s.wr (Reg.PT_HP_EVENTS r) f x).hpState q = s.hpState q := rd_of_reg (reg_wr_ne (HP_regs_apart q r).1 ..) _

theorem hpState_wr_cnt (s : State) (q r : Nat) (f : Fld) (x : Nat) :
    (s.wr (Reg.PT_HP_CNT r) f x).hpState q = s.hpState q := rd_of_reg (reg_wr_ne (HP_regs_apart q r).2.1 ..) _

theorem hpState_setHp {s : State} {q x : Nat} (h : x < 2 ^ Fld.PT_HP_STATUS.STATE.width) : (s.setHp q x).hpState q = x := by
  rw [State.hpState, State.setHp, rd_wr _ _ _ _ (by decide), Nat.mod_eq_of_lt h]

theorem on_setHp {s : State} {q r x : Nat} {f : Fld} (h : Fld.PT_HP_STATUS.STATE.apart f = true) :
    (s.setHp q x).on (Reg.PT_HP_STATUS r) f = s.on (Reg.PT_HP_STATUS r) f := on_wr_other _ _ _ _ _ _ (by decide) (.inr h)

theorem calm_setHp {u s : State} (h : u.calm s) (q x : Nat) : (u.setHp q x).calm s := calm_wr h (HP_STATUS_not_calm q) ..

theorem reg_setHp {s : State} {q x a : Nat} (h : a ≠ Reg.PT_HP_STATUS q) : (s.setHp q x).reg a = s.reg a := reg_wr_ne h ..

/-- A field that follows a pin: written, and told, where it changes. -/
def State.drivePin (s : State) (q : Nat) (f : Fld) (b : Bool) (y : Out) : State :=
  if s.on (Reg.PT_HP_STATUS q) f = b then s else (s.wrB (Reg.PT_HP_STATUS q) f b).emit y

theorem setPerst_pin (s : State) (p : PortRec) (b : Bool) : s.setPerst p b =
    s.drivePin p.port Fld.PT_HP_STATUS.PERST b (.pin (.slotPerstN (Fin.ofNat 32 p.slot)) (!b)) := rfl

theorem setClk_pin (s : State) (p : PortRec) (b : Bool) : s.setClk p b =
    s.drivePin p.port Fld.PT_HP_STATUS.CLK_ON b (.pin (.slotClkreqN (Fin.ofNat 32 p.slot)) (!b)) := rfl

theorem drivePin_on {s : State} {q : Nat} {f : Fld} {b : Bool} {y : Out} (h : f.lo + f.width ≤ 64) (hw : 0 < f.width) :
    (s.drivePin q f b y).on (Reg.PT_HP_STATUS q) f = b := by
  unfold State.drivePin
  split
  · assumption
  · rw [emit_on, wrB_eq]
    cases b with
    | true => exact on_wr_one h hw _ _
    | false => exact on_wr_zero h _ _

theorem drivePin_rd {s : State} {q r : Nat} {f g : Fld} {b : Bool} {y : Out} (h : f.lo + f.width ≤ 64) (hg : f.apart g = true) :
    (s.drivePin q f b y).rd (Reg.PT_HP_STATUS r) g = s.rd (Reg.PT_HP_STATUS r) g := by
  unfold State.drivePin
  split
  · rfl
  · rw [emit_rd, wrB_eq, rd_wr_other _ _ _ _ _ _ h (.inr hg)]

theorem drivePin_reg {s : State} {q a : Nat} {f : Fld} {b : Bool} {y : Out} (h : a ≠ Reg.PT_HP_STATUS q) :
    (s.drivePin q f b y).reg a = s.reg a := by
  unfold State.drivePin
  split
  · rfl
  · rw [emit_reg, wrB_eq, reg_wr_ne h]

theorem drivePin_calm {u s : State} (h : u.calm s) (q : Nat) (f : Fld) (b : Bool) (y : Out) : (u.drivePin q f b y).calm s := by
  unfold State.drivePin
  split
  · exact h
  · rw [wrB_eq]
    exact calm_emit (calm_wr h (HP_STATUS_not_calm _) ..) _

theorem drivePin_idle {s : State} {r : Nat} (h : s.portIdle r) (q : Nat) (f : Fld) (b : Bool) (y : Out) :
    (s.drivePin q f b y).portIdle r := by
  unfold State.drivePin
  split
  · exact h
  · rw [wrB_eq]
    exact portIdle_emit (portIdle_wr h ..) _

theorem drivePin_fml (s : State) (q : Nat) (f : Fld) (b : Bool) (y : Out) : (s.drivePin q f b y).fml = s.fml := by
  unfold State.drivePin
  split
  · rfl
  · rw [emit_fml, wrB_eq, wr_fml]

/-- What a calm change leaves of the registers and the vPPBs. -/
theorem answers_vppb {s u : State} {P : State → Prop} (hq : s.quiet = true) (hu : u.calm s)
    (hP : ∀ t : State, (∀ a, t.reg a = u.reg a) → t.vppb = u.vppb → P t) : Answers (done u) P :=
  answers_of_calm hq hu fun _ _ _ => hP _ (fun _ => rfl) rfl

/-! ### Arrival and loss of presence -/

/-- Presence shown at a port, and its change. -/
def State.presenceShown (s : State) (q : Nat) (b : Bool) : State :=
  (s.wr (Reg.PT_HP_STATUS q) Fld.PT_HP_STATUS.PRSNT (if b then 1 else 0)).set1 (Reg.PT_HP_EVENTS q) Fld.PT_HP_EVENTS.PRSNT_CHG

theorem presenceShown_calm (s : State) (q : Nat) (b : Bool) : (s.presenceShown q b).calm s := by
  rw [State.presenceShown, set1_eq]
  exact calm_wr (calm_wr (calm_refl s) (HP_STATUS_not_calm q) ..) (HP_EVENTS_not_calm q) ..

theorem presenceShown_spec (s : State) (q : Nat) (b : Bool) :
    (s.presenceShown q b).on (Reg.PT_HP_STATUS q) Fld.PT_HP_STATUS.PRSNT = b ∧
      (s.presenceShown q b).on (Reg.PT_HP_EVENTS q) Fld.PT_HP_EVENTS.PRSNT_CHG = true ∧
      ∀ a, a ≠ Reg.PT_HP_STATUS q → a ≠ Reg.PT_HP_EVENTS q → (s.presenceShown q b).reg a = s.reg a := by
  rw [State.presenceShown, set1_eq]
  refine ⟨?_, on_wr_one (by decide) (by decide) _ _, fun a h1 h2 => by rw [reg_wr_ne h2, reg_wr_ne h1]⟩
  rw [on_of_reg (reg_wr_ne (HP_regs_apart q q).1 ..)]
  cases b with
  | true => exact on_wr_one (by decide) (by decide) _ _
  | false => exact on_wr_zero (by decide) _ _

theorem presenceShown_keeps (s : State) (q : Nat) (b : Bool) : (s.presenceShown q b).rest = s.rest := by
  rw [State.presenceShown, set1_eq, wr_rest, wr_rest]

/-- Presence shown, the slot in its new state, and every vPPB told. -/
def State.presenceMoved (s : State) (q : Nat) (b : Bool) (x : Nat) : State :=
  ((s.presenceShown q b).setHp q x).notePresence ((s.presenceShown q b).vppbsOf q)

theorem presenceMoved_calm (s : State) (q : Nat) (b : Bool) (x : Nat) : (s.presenceMoved q b x).calm s :=
  calm_trans (hostSide_calm (hostSide_notePresence ..)) (calm_setHp (presenceShown_calm ..) ..)

theorem presenceMoved_spec {s : State} {q x : Nat} {b : Bool} (hx : x < 2 ^ Fld.PT_HP_STATUS.STATE.width) :
    (s.presenceMoved q b x).hpState q = x ∧ (s.presenceMoved q b x).on (Reg.PT_HP_STATUS q) Fld.PT_HP_STATUS.PRSNT = b ∧
      (s.presenceMoved q b x).on (Reg.PT_HP_EVENTS q) Fld.PT_HP_EVENTS.PRSNT_CHG = true ∧
      (∀ e ∈ s.vppbsOf q, ((s.presenceMoved q b x).vppbSt e.1 e.2).presenceChanged = true) ∧
      ∀ a, a ≠ Reg.PT_HP_STATUS q → a ≠ Reg.PT_HP_EVENTS q → (s.presenceMoved q b x).reg a = s.reg a := by
  obtain ⟨h1, h2, h3⟩ := presenceShown_spec s q b
  have hs := hostSide_notePresence ((s.presenceShown q b).setHp q x) ((s.presenceShown q b).vppbsOf q)
  refine ⟨(hostSide_rd hs ..).trans (hpState_setHp hx), (hostSide_on hs ..).trans ((on_setHp (by decide)).trans h1),
    (hostSide_on hs ..).trans ((on_of_reg (reg_setHp (HP_regs_apart q q).1.symm) _).trans h2), fun e he => ?_,
    fun a ha hb => (hostSide_reg hs a).trans ((reg_setHp ha).trans (h3 a ha hb))⟩
  rw [← vppbsOf_of_acc (rest_acc (presenceShown_keeps s q b))] at he
  exact notePresence_set _ _ e he

/-- What a state that shows the same registers and vPPBs shows of the slot. -/
theorem presenceMoved_seen {s t : State} {q x : Nat} {b : Bool} (hx : x < 2 ^ Fld.PT_HP_STATUS.STATE.width)
    (ht : ∀ a, t.reg a = (s.presenceMoved q b x).reg a) (hv : t.vppb = (s.presenceMoved q b x).vppb) :
    t.hpState q = x ∧ t.on (Reg.PT_HP_STATUS q) Fld.PT_HP_STATUS.PRSNT = b ∧
      t.on (Reg.PT_HP_EVENTS q) Fld.PT_HP_EVENTS.PRSNT_CHG = true ∧
      (∀ e ∈ s.vppbsOf q, (t.vppbSt e.1 e.2).presenceChanged = true) ∧
      t.regsBut s [Reg.PT_HP_STATUS q, Reg.PT_HP_EVENTS q] := by
  obtain ⟨h1, h2, h3, h4, h5⟩ := presenceMoved_spec (s := s) (q := q) (b := b) hx
  refine ⟨(rd_of_reg (ht _) _).trans h1, (on_of_reg (ht _) _).trans h2, (on_of_reg (ht _) _).trans h3, fun e he => ?_, fun a ha => ?_⟩
  · rw [vppbSt_of_vppb hv]
    exact h4 e he
  · simp only [List.mem_cons, List.not_mem_nil, or_false, not_or] at ha
    exact (ht a).trans (h5 a ha.1 ha.2)

theorem autoOn_off {s : State} {p : PortRec} (h : s.on (Reg.SPC_CFG p.slot) Fld.SPC_CFG.AUTO_ON = false) : s.autoOn p = s := by
  unfold State.autoOn
  rw [h, Bool.and_false]
  rfl

theorem slotArrive_empty {s : State} {n : Nat} {p : PortRec} (hn : s.slotMachine n = some p) (hm : s.md.slots = true)
    (hh : p.hotplug = true) (he : s.hpState p.port = Hp.EMPTY) (hr : tabFind s.hpRestart n = none) :
    s.slotArrive n = (s.presenceMoved p.port true Hp.PRESENT).autoOn p := by
  unfold State.slotArrive
  simp only [hn, hm, hh, he, hr, and_self, if_true]
  rfl

theorem slotLoss_present {s : State} {n : Nat} {p : PortRec} (hn : s.slotMachine n = some p) (hm : s.md.slots = true)
    (hh : p.hotplug = true) (he : s.hpState p.port = Hp.PRESENT) :
    s.slotLoss n = s.presenceMoved p.port false Hp.EMPTY := by
  unfold State.slotLoss
  simp only [hn, hm, hh, he, Bool.not_true, Bool.false_eq_true, or_self, if_true, if_false]
  rfl


/-! ### A surprise removal -/

theorem portIdle_of_rest {t s : State} {q : Nat} (h : t.rest = s.rest) (hi : s.portIdle q) : t.portIdle q := by
  rw [eq_of_rest h]
  exact hi

theorem chOff_idle {s : State} {q : Nat} (h : s.portIdle q) (n : Nat) : (s.chOff n).portIdle q := by
  rw [chOff_eq]
  refine portIdle_of_rest (zeroIfDue_kept _ n).rest ?_
  split
  · exact portIdle_of_rest (goingOff_rest s n) h
  · exact portIdle_emit (portIdle_of_rest (goingOff_rest s n) h) _

theorem chOff_fml (s : State) (n : Nat) : (s.chOff n).fml = s.fml := by
  rw [chOff_eq, rest_fml (zeroIfDue_kept _ n).rest]
  split
  · rw [rest_fml (goingOff_rest s n)]
  · rw [State.chGate, emit_fml, rest_fml (goingOff_rest s n)]

theorem portIdle_modChan {s : State} {q : Nat} (h : s.portIdle q) (n : Nat) (g : ChannelState → ChannelState) :
    (s.modChan n g).portIdle q := h

theorem modChan_fml (s : State) (n : Nat) (g : ChannelState → ChannelState) : (s.modChan n g).fml = s.fml := rfl

theorem chNow_idle {s : State} {q : Nat} (h : s.portIdle q) (n : Nat) : (s.chNow n).portIdle q := by
  unfold State.chNow
  simp only
  split
  · exact portIdle_modChan h ..
  · exact chOff_idle (portIdle_modChan h ..) n

theorem chNow_fml (s : State) (n : Nat) : (s.chNow n).fml = s.fml := by
  unfold State.chNow
  simp only
  split
  · exact modChan_fml ..
  · rw [chOff_fml, modChan_fml]

theorem stdLingerEnd_fml {s : State} (h : s.core.queues = []) (q : Nat) : (s.stdLingerEnd q).fml = s.fml := by
  cases hl : s.on (Reg.PT_STD_STATUS q) Fld.PT_STD_STATUS.LINGER with
  | true => rw [stdLingerEnd_empty h hl, set0_eq, wr_fml]
  | false => rw [stdLingerEnd_off hl]

/-- The slot and its link down, the gate off: the first half of a surprise removal. -/
def State.tornDown (s : State) (n : Nat) (p : PortRec) : State :=
  ((((s.presenceShown p.port false).setPerst p true).chNow n).stdDown p false).stdLingerEnd p.port

theorem tornDown_inForce {s : State} {p : PortRec} (h : s.portIdle p.port) (n : Nat) :
    (s.tornDown n p).fml.inForce = s.fml.inForce := by
  have h1 : ((s.presenceShown p.port false).setPerst p true).portIdle p.port := by
    rw [setPerst_pin]
    exact drivePin_idle (portIdle_of_rest (presenceShown_keeps ..) h) ..
  have h2 := stdDown_side (chNow_idle h1 n) false
  have hc : ((((s.presenceShown p.port false).setPerst p true).chNow n).stdDown p false).core.queues = [] := by
    rw [downSide_core h2]
    exact (chNow_idle h1 n).1.2.1
  rw [State.tornDown, stdLingerEnd_fml hc, downSide_inForce h2, chNow_fml, setPerst_pin, drivePin_fml,
    rest_fml (presenceShown_keeps ..)]

/-- The slot shown removed by surprise, and its fault. -/
def State.surprised (s : State) (q : Nat) : State :=
  (((s.setHp q Hp.OFFING).set1 (Reg.PT_HP_EVENTS q) Fld.PT_HP_EVENTS.SURPRISE).inc (Reg.PT_HP_CNT q) Fld.PT_HP_CNT.SURPRISES)

theorem surprised_spec (s : State) (q : Nat) : (s.surprised q).hpState q = Hp.OFFING ∧
    (s.surprised q).on (Reg.PT_HP_EVENTS q) Fld.PT_HP_EVENTS.SURPRISE = true ∧ (s.surprised q).fml = s.fml := by
  rw [State.surprised, inc_eq, addTo_eq, set1_eq]
  refine ⟨?_, ?_, ?_⟩
  · rw [hpState_wr_cnt, hpState_wr_events, hpState_setHp (by decide)]
  · rw [on_of_reg (reg_wr_ne (HP_regs_apart q q).2.2 ..), on_wr_one (by decide) (by decide)]
  · rw [wr_fml, wr_fml, State.setHp, wr_fml]

theorem slotLoss_surprise {s : State} {n : Nat} {p : PortRec} (hn : s.slotMachine n = some p) (hm : s.md.slots = true)
    (hh : p.hotplug = true) (he : s.hpState p.port = Hp.ACTIVE) :
    s.slotLoss n = ((((s.tornDown n p).surprised p.port).raise (srcSlot n 0)
      (((s.tornDown n p).surprised p.port).portFlacon p.port)).notePresence (((s.tornDown n p).surprised p.port).vppbsOf
        p.port)).noteDllsc (((s.tornDown n p).surprised p.port).vppbsOf p.port) := by
  unfold State.slotLoss
  simp only [hn, hm, hh, he, Bool.not_true, Bool.false_eq_true, or_self, if_false, show ¬ Hp.ACTIVE = Hp.PRESENT by decide,
    show ¬ Hp.ACTIVE = Hp.FAULT by decide, show Hp.POWERING ≤ Hp.ACTIVE by decide, le_refl, and_self, if_true]
  rfl

/-! ### Power of a slot -/

theorem slotPowerGood_on {s : State} {n : Nat} {p : PortRec} (hn : s.slotMachine n = some p) (hm : s.md.slots = true)
    (he : s.hpState p.port = Hp.POWERING) (hc : s.ch n = Ch.ON) :
    s.slotPowerGood n = (s.setHp p.port Hp.POWERED).setClk p true := by
  unfold State.slotPowerGood
  simp only [hn, hm, he, hc, and_self, if_true]

theorem SPC_STATE_apart_HP (n q : Nat) : Reg.SPC_STATE n ≠ Reg.PT_HP_STATUS q := by
  simp only [Reg.SPC_STATE, Reg.PT_HP_STATUS]
  omega

theorem slotPowerLoss_off {s : State} {n : Nat} {p : PortRec} (hn : s.slotMachine n = some p) (hm : s.md.slots = true)
    (he : s.hpState p.port = Hp.POWERED) (hc : s.ch n = Ch.OFF)
    (hu : s.on (Reg.PT_STD_STATUS p.port) Fld.PT_STD_STATUS.DL_UP = false) :
    s.slotPowerLoss n = (s.setPerst p true).setHp p.port Hp.POWERING := by
  have hu' : (s.setPerst p true).on (Reg.PT_STD_STATUS p.port) Fld.PT_STD_STATUS.DL_UP = false := by
    rw [on_of_reg (setPerst_reg (STD_regs_apart p.port).2.2.2.1)]
    exact hu
  have hc' : ((s.setPerst p true).setHp p.port Hp.POWERING).ch n = Ch.OFF := by
    have hn := SPC_STATE_apart_HP n p.port
    rw [ch_of_reg (reg_setHp hn), ch_of_reg (setPerst_reg hn), hc]
  unfold State.slotPowerLoss
  simp only [hn, hm, he, hc, stdDown_off hu', hc', le_refl, show Hp.POWERED ≤ Hp.ACTIVE by decide,
    show ¬ Ch.OFF = Ch.ON by decide, show ¬ Ch.OFF = Ch.LATCHED by decide, ne_eq, not_false_eq_true, and_self, if_true, if_false]

theorem slotPerst_on {s : State} {n : Nat} {p : PortRec} (hn : s.slotMachine n = some p) (hm : s.md.slots = true)
    (he : s.hpState p.port = Hp.POWERED) (hc : s.ch n = Ch.ON) :
    s.slotPerst n = (s.setPerst p false).setHp p.port (if p.hotplug then Hp.LINKING else Hp.ACTIVE) := by
  unfold State.slotPerst
  simp only [hn, hm, he, hc, and_self, if_true]

/-! ### Enumeration -/

/-- A slot that enumeration has passed, before the link resumes. -/
def State.enumerated (s : State) (p : PortRec) (l : List (Nat × Nat)) : State :=
  ((if p.protocol = .cxl then s.emit (.enabled p.port l) else s).setHp p.port Hp.ACTIVE).inc (Reg.PT_HP_CNT p.port)
    Fld.PT_HP_CNT.INSERTS

theorem slotEnum_passed {s : State} {n : Nat} {p : PortRec} {l : List (Nat × Nat)} (hn : s.slotMachine n = some p)
    (hm : s.md.slots = true) (he : s.hpState p.port = Hp.ENUM) (ho : s.enumOk p l = true) :
    s.slotEnum n l = ((s.enumerated p l).stdResume p.port).noteDllsc (s.vppbsOf p.port) := by
  unfold State.slotEnum
  simp only [hn, hm, he, ho, Bool.not_true, Bool.false_eq_true, ne_eq, not_true, or_self, if_false, if_true]
  rfl

theorem slotEnum_failed {s : State} {n : Nat} {p : PortRec} {l : List (Nat × Nat)} (hn : s.slotMachine n = some p)
    (hm : s.md.slots = true) (he : s.hpState p.port = Hp.ENUM) (ho : s.enumOk p l = false)
    (hl : s.on (Reg.PT_STD_STATUS p.port) Fld.PT_STD_STATUS.LINGER = false) :
    s.slotEnum n l = (((s.setHp p.port Hp.FAULT).set1 (Reg.PT_HP_EVENTS p.port) Fld.PT_HP_EVENTS.ENUM_FAIL).raise (srcSlot n 2)
      (s.portFlacon p.port)) := by
  unfold State.slotEnum
  simp only [hn, hm, he, ho, stdLingerEnd_off hl, Bool.not_true, Bool.false_eq_true, ne_eq, not_true, or_self, if_false]

/-! ### The end of a removal -/

theorem slotDischarged_off {s : State} {n : Nat} {p : PortRec} (hn : s.slotMachine n = some p) (hm : s.md.slots = true)
    (he : s.hpState p.port = Hp.OFFING) : ∃ l, s.slotDischarged n =
      ((s.setClk p false).setHp p.port (if s.on (Reg.PT_HP_STATUS p.port) Fld.PT_HP_STATUS.PRSNT = true ∨ p.hotplug = false
        then Hp.PRESENT else Hp.EMPTY)).notePresence l := by
  unfold State.slotDischarged
  simp only [hn, hm, he, and_self, if_true, Bool.not_eq_eq_eq_not, Bool.not_true]
  split
  · exact ⟨[], rfl⟩
  · exact ⟨_, rfl⟩

/-- The drain's end leaves the module in reset, whether it was or not. -/
theorem removalDrained_empty {s : State} {n : Nat} {p : PortRec} (hn : s.slotMachine n = some p) (hm : s.md.slots = true)
    (he : s.hpState p.port = Hp.OFFING) (ha : s.arrayEmpty) : s.removalDrained n = s.setPerst p true := by
  obtain ⟨-, hq, -, -, hg, -⟩ := ha
  unfold State.removalDrained
  simp only [hn, hm, he, true_and, flushPort_none hq, State.flushGate, orphanGates_none hg]
  split
  · rfl
  · rename_i h
    rw [State.setPerst, if_pos (by simpa using h)]

theorem removalDown_idle {s : State} {n : Nat} {p : PortRec} (hn : s.slotMachine n = some p) (hm : s.md.slots = true)
    (he : s.hpState p.port = Hp.OFFING) (hp : s.on (Reg.PT_HP_STATUS p.port) Fld.PT_HP_STATUS.PERST = true)
    (hu : s.on (Reg.PT_STD_STATUS p.port) Fld.PT_STD_STATUS.DL_UP = false)
    (hl : s.on (Reg.PT_STD_STATUS p.port) Fld.PT_STD_STATUS.LINGER = false) : s.removalDown n = s.chRampOff n := by
  unfold State.removalDown
  simp only [hn, hm, he, hp, and_self, if_true, stdDown_off hu, stdLingerEnd_off hl]


theorem SPC_CFG_apart_HP (n : SlotIx) (q : Nat) : Reg.SPC_CFG n.val ≠ Reg.PT_HP_STATUS q ∧ Reg.SPC_CFG n.val ≠ Reg.PT_HP_EVENTS q := by
  simp only [Reg.SPC_CFG, Reg.PT_HP_STATUS, Reg.PT_HP_EVENTS]
  omega

theorem presenceMoved_autoOn {s : State} {n : SlotIx} {p : PortRec} {b : Bool} {x : Nat} (hx : x < 2 ^ Fld.PT_HP_STATUS.STATE.width)
    (hn : p.slot = n.val) (h : s.on (Reg.SPC_CFG p.slot) Fld.SPC_CFG.AUTO_ON = false) :
    (s.presenceMoved p.port b x).autoOn p = s.presenceMoved p.port b x := by
  refine autoOn_off ?_
  obtain ⟨d1, d2⟩ := SPC_CFG_apart_HP n p.port
  rw [hn] at h ⊢
  rw [on_of_reg ((presenceMoved_spec hx).2.2.2.2 _ d1 d2), h]

/-- The attention button shown, and every vPPB told. -/
def State.attnShown (s : State) (q : Nat) : State :=
  ((s.set1 (Reg.PT_HP_EVENTS q) Fld.PT_HP_EVENTS.ATTN).vppbsOf q).foldl
    (fun t e => t.vppbEvent e.1 e.2 0 fun x => { x with attnPressed := true }) (s.set1 (Reg.PT_HP_EVENTS q) Fld.PT_HP_EVENTS.ATTN)

theorem attnShown_side (s : State) (q : Nat) : (s.attnShown q).hostSide (s.set1 (Reg.PT_HP_EVENTS q) Fld.PT_HP_EVENTS.ATTN) :=
  hostSide_foldl _ (fun _ _ => hostSide_vppbEvent ..) ..

theorem attnShown_calm (s : State) (q : Nat) : (s.attnShown q).calm s := by
  refine calm_trans (hostSide_calm (attnShown_side s q)) ?_
  rw [set1_eq]
  exact calm_wr (calm_refl s) (HP_EVENTS_not_calm q) ..

theorem attnShown_spec (s : State) (q : Nat) : (s.attnShown q).on (Reg.PT_HP_EVENTS q) Fld.PT_HP_EVENTS.ATTN = true ∧
    (∀ e ∈ s.vppbsOf q, ((s.attnShown q).vppbSt e.1 e.2).attnPressed = true) ∧
    ∀ a, a ≠ Reg.PT_HP_EVENTS q → (s.attnShown q).reg a = s.reg a := by
  have hs := attnShown_side s q
  refine ⟨(hostSide_on hs ..).trans (on_set1 _ _ _ (by decide) (by decide)), fun e he => ?_, fun a ha => ?_⟩
  · rw [← vppbsOf_of_acc (set1_acc s (Reg.PT_HP_EVENTS q) Fld.PT_HP_EVENTS.ATTN)] at he
    exact vppbEvents_set VppbState.attnPressed (fun _ => rfl) 0 _ _ e he
  · rw [hostSide_reg hs, set1_eq, reg_wr_ne ha]

theorem enumerated_calm (s : State) (p : PortRec) (l : List (Nat × Nat)) : (s.enumerated p l).calm s := by
  rw [State.enumerated, inc_eq, addTo_eq]
  refine calm_wr (calm_setHp ?_ ..) (HP_CNT_not_calm _) ..
  split
  · exact calm_emit (calm_refl s) _
  · exact calm_refl s

theorem enumerated_spec (s : State) (p : PortRec) (l : List (Nat × Nat)) :
    (s.enumerated p l).hpState p.port = Hp.ACTIVE ∧
      (s.enumerated p l).rd (Reg.PT_HP_CNT p.port) Fld.PT_HP_CNT.INSERTS =
        min (2 ^ Fld.PT_HP_CNT.INSERTS.width - 1) (s.rd (Reg.PT_HP_CNT p.port) Fld.PT_HP_CNT.INSERTS + 1) ∧
      ∀ a, a ≠ Reg.PT_HP_STATUS p.port → a ≠ Reg.PT_HP_CNT p.port → (s.enumerated p l).reg a = s.reg a := by
  have h0 : ∀ a, (if p.protocol = .cxl then s.emit (.enabled p.port l) else s).reg a = s.reg a := fun a => by
    split
    · exact emit_reg ..
    · rfl
  rw [State.enumerated]
  refine ⟨?_, ?_, fun a h1 h2 => ?_⟩
  · rw [inc_eq, addTo_eq, hpState_wr_cnt, hpState_setHp (by decide)]
  · rw [inc_eq, rd_addTo _ _ _ _ (by decide), rd_of_reg (reg_setHp (HP_regs_apart ..).2.1.symm), rd_of_reg (h0 _)]
  · rw [inc_eq, addTo_eq, reg_wr_ne h2, reg_setHp h1, h0]

theorem stdResume_regs (s : State) (q : Nat) :
    (∀ a, a ≠ Reg.PT_STD_STATUS q → a ≠ Reg.PT_STD_EVENTS q → (s.stdResume q).reg a = s.reg a) ∧ (s.stdResume q).calm s := by
  unfold State.stdResume
  split
  · rw [inc_eq, addTo_eq, set0_eq]
    refine ⟨fun a h1 h2 => ?_, calm_modStd (calm_wr (calm_wr (calm_refl s) (STD_STATUS_not_calm q) ..) (STD_EVENTS_not_calm q) ..) ..⟩
    rw [modStd_reg, reg_wr_ne h2, reg_wr_ne h1]
  · exact ⟨fun _ _ _ => rfl, calm_refl s⟩

theorem HP_CNT_ne_STD (q : Nat) : Reg.PT_HP_CNT q ≠ Reg.PT_STD_STATUS q ∧ Reg.PT_HP_CNT q ≠ Reg.PT_STD_EVENTS q := by
  simp only [Reg.PT_HP_CNT, Reg.PT_STD_STATUS, Reg.PT_STD_EVENTS]
  omega

/-- Showing a channel's power-good leaves the state of every slot. -/
theorem setPg_hpState (s : State) (n q : Nat) (b : Bool) : (s.setPg n b).hpState q = s.hpState q := by
  have h1 : ∀ x, (s.wr (Reg.SPC_STATE n) Fld.SPC_STATE.PG x).hpState q = s.hpState q := fun x =>
    rd_wr_other _ _ _ _ _ _ (by decide) (.inl (SPC_STATE_apart_HP n q).symm)
  unfold State.setPg
  simp only [wrB_eq]
  split
  · exact (rd_wr_other _ _ _ _ _ _ (by decide) (.inr (by decide))).trans (h1 _)
  · exact h1 _

theorem rampOff_spec (s : State) (n : SlotIx) (q : Nat) (h : s.ch n.val = Ch.ON) : (s.chRampOff n.val).ch n.val = Ch.DOWN ∧
    (s.chRampOff n.val).hpState q = s.hpState q ∧
    (s.chRampOff n.val).on (Reg.SPC_STATE n.val) Fld.SPC_STATE.IN_LIMIT = false := by
  have e : s.chRampOff n.val = ((((s.modChan n.val fun x => { x with onRequested := false }).setCh n.val Ch.DOWN).setPg n.val
      false).set0 (Reg.SPC_STATE n.val) Fld.SPC_STATE.IN_LIMIT) := by
    have hc : (s.modChan n.val fun x => { x with onRequested := false }).ch n.val = Ch.ON := h
    unfold State.chRampOff
    simp only [hc, show chLive Ch.ON = true from rfl, if_true]
  obtain ⟨-, -, p3, -⟩ := setPg_spec ((s.modChan n.val fun x => { x with onRequested := false }).setCh n.val Ch.DOWN) n false
  rw [e, set0_eq]
  refine ⟨?_, ?_, on_wr_zero (by decide) _ _⟩
  · rw [State.ch, rd_wr_other _ _ _ _ _ _ (by decide) (.inr (by decide)), p3 _ (by decide)]
    exact ch_setCh _ _ (by decide)
  · rw [State.hpState, rd_of_reg (reg_wr_ne (SPC_STATE_apart_HP n.val q).symm ..)]
    refine (setPg_hpState ..).trans ?_
    exact rd_of_reg ((reg_wr_ne (SPC_STATE_apart_HP n.val q).symm ..).trans (modChan_reg ..)) _

/-- A module arrives. -/
theorem slotArrive_presents (s : State) (n : SlotIx) (p : PortRec) :
    s.quiet = true → s.slotMachine n.val = some p → p.port < 128 →
  s.md.slots = true → p.hotplug = true → s.hpState p.port = Hp.EMPTY → tabFind s.hpRestart n.val = none →
  s.on (Reg.SPC_CFG p.slot) Fld.SPC_CFG.AUTO_ON = false → p.slot = n.val →
  Answers (exec (.slotPresenceArrive n) s) fun t =>
    t.hpState p.port = Hp.PRESENT ∧ t.on (Reg.PT_HP_STATUS p.port) Fld.PT_HP_STATUS.PRSNT = true ∧
    t.on (Reg.PT_HP_EVENTS p.port) Fld.PT_HP_EVENTS.PRSNT_CHG = true ∧
    (∀ e ∈ s.vppbsOf p.port, (t.vppbSt e.1 e.2).presenceChanged = true) ∧
    t.regsBut s [Reg.PT_HP_STATUS p.port, Reg.PT_HP_EVENTS p.port] := by
  intro hq hn hp hm hh he hr ha hs
  change Answers (done (s.slotArrive n.val)) _
  rw [slotArrive_empty hn hm hh he hr, presenceMoved_autoOn (by decide) hs ha]
  exact answers_vppb hq (presenceMoved_calm ..) fun t ht hv =>
    presenceMoved_seen (s := s) (x := Hp.PRESENT) (b := true) (by decide) ht hv

/-- A module that was not powered leaves. -/
theorem slotLoss_empties (s : State) (n : SlotIx) (p : PortRec) :
    s.quiet = true → s.slotMachine n.val = some p → p.port < 128 →
  s.md.slots = true → p.hotplug = true → s.hpState p.port = Hp.PRESENT →
  Answers (exec (.slotPresenceLoss n) s) fun t =>
    t.hpState p.port = Hp.EMPTY ∧ t.on (Reg.PT_HP_STATUS p.port) Fld.PT_HP_STATUS.PRSNT = false ∧
    t.on (Reg.PT_HP_EVENTS p.port) Fld.PT_HP_EVENTS.PRSNT_CHG = true ∧
    t.regsBut s [Reg.PT_HP_STATUS p.port, Reg.PT_HP_EVENTS p.port] := by
  intro hq hn hp hm hh he
  change Answers (done (s.slotLoss n.val)) _
  rw [slotLoss_present hn hm hh he]
  refine answers_vppb hq (presenceMoved_calm ..) fun t ht hv => ?_
  obtain ⟨h1, h2, h3, -, h5⟩ := presenceMoved_seen (s := s) (by decide) ht hv
  exact ⟨h1, h2, h3, h5⟩

/-- A surprise removal. -/
theorem slotLoss_surprises (s : State) (n : SlotIx) (p : PortRec) :
    s.slotMachine n.val = some p → p.port < 128 → s.md.slots = true →
  p.hotplug = true → p.fabric = false → s.hpState p.port = Hp.ACTIVE → s.portIdle p.port →
  Leaves (exec (.slotPresenceLoss n) s) fun u =>
    u.hpState p.port = Hp.OFFING ∧ u.on (Reg.PT_HP_EVENTS p.port) Fld.PT_HP_EVENTS.SURPRISE = true ∧
    u.hasRaisedOn (srcSlot n.val 0) (s.portFlacon p.port) := by
  intro hn hp hm hh _ he hi
  refine ⟨_, rfl, ?_⟩
  rw [slotLoss_surprise hn hm hh he]
  obtain ⟨h1, h2, h3⟩ := surprised_spec (s.tornDown n.val p) p.port
  have hf : ((s.tornDown n.val p).surprised p.port).portFlacon p.port = s.portFlacon p.port :=
    portFlacon_of_inForce ((congrArg FormulaState.inForce h3).trans (tornDown_inForce hi n.val)) _
  generalize (s.tornDown n.val p).surprised p.port = u at h1 h2 hf
  rw [hf]
  have hs := hostSide_trans (hostSide_noteDllsc ((u.raise (srcSlot n.val 0) (s.portFlacon p.port)).notePresence (u.vppbsOf p.port))
    (u.vppbsOf p.port)) (hostSide_notePresence ..)
  refine ⟨(hostSide_rd hs ..).trans ((raise_rd ..).trans h1), (hostSide_on hs ..).trans ((raise_on ..).trans h2), ?_⟩
  refine hasRaisedOn_raised (fun o ho => ?_) (hasRaisedOn_raise u (srcSlot n.val 0) fun _ => portFlacon_lt)
  rw [hostSide_flt hs]
  exact ho

/-- The attention button. -/
theorem slotAttn_notes (s : State) (n : SlotIx) (p : PortRec) :
    s.quiet = true → s.slotMachine n.val = some p → p.port < 128 →
  Answers (exec (.attentionButtonPress n) s) fun t =>
    t.on (Reg.PT_HP_EVENTS p.port) Fld.PT_HP_EVENTS.ATTN = true ∧
    (∀ e ∈ s.vppbsOf p.port, (t.vppbSt e.1 e.2).attnPressed = true) ∧ t.regsBut s [Reg.PT_HP_EVENTS p.port] := by
  intro hq hn hp
  have e : s.slotAttn n.val = s.attnShown p.port := by
    unfold State.slotAttn
    simp only [hn]
    rfl
  change Answers (done (s.slotAttn n.val)) _
  rw [e]
  obtain ⟨h1, h2, h3⟩ := attnShown_spec s p.port
  refine answers_vppb hq (attnShown_calm ..) fun t ht hv => ⟨(on_of_reg (ht _) _).trans h1, fun e he => ?_, fun a ha => ?_⟩
  · rw [vppbSt_of_vppb hv]
    exact h2 e he
  · exact (ht a).trans (h3 a (by simpa using ha))

/-- Power-good. -/
theorem slotPowerGood_powers (s : State) (n : SlotIx) (p : PortRec) :
    s.quiet = true → s.slotMachine n.val = some p → p.port < 128 →
  s.md.slots = true → s.hpState p.port = Hp.POWERING → s.ch n.val = Ch.ON →
  Answers (exec (.slotPowerGood n) s) fun t =>
    t.hpState p.port = Hp.POWERED ∧ t.on (Reg.PT_HP_STATUS p.port) Fld.PT_HP_STATUS.CLK_ON = true ∧
    t.regsBut s [Reg.PT_HP_STATUS p.port] := by
  intro hq hn hp hm he hc
  change Answers (done (s.slotPowerGood n.val)) _
  rw [slotPowerGood_on hn hm he hc, setClk_pin]
  refine answers_regs hq (drivePin_calm (calm_setHp (calm_refl s) ..) ..) fun t ht => ⟨?_, ?_, fun a ha => ?_⟩
  · rw [State.hpState, rd_of_reg (ht _), drivePin_rd (by decide) (by decide)]
    exact hpState_setHp (by decide)
  · rw [on_of_reg (ht _), drivePin_on (by decide) (by decide)]
  · have ha' : a ≠ Reg.PT_HP_STATUS p.port := by simpa using ha
    rw [ht a, drivePin_reg ha', reg_setHp ha']

/-- Power-good lost. -/
theorem slotPowerLoss_repowers (s : State) (n : SlotIx) (p : PortRec) :
    s.quiet = true → s.slotMachine n.val = some p → p.port < 128 →
  s.md.slots = true → s.hpState p.port = Hp.POWERED → s.ch n.val = Ch.OFF →
  s.on (Reg.PT_STD_STATUS p.port) Fld.PT_STD_STATUS.DL_UP = false →
  Answers (exec (.slotPowerGoodLoss n) s) fun t =>
    t.hpState p.port = Hp.POWERING ∧ t.on (Reg.PT_HP_STATUS p.port) Fld.PT_HP_STATUS.PERST = true ∧
    t.regsBut s [Reg.PT_HP_STATUS p.port] := by
  intro hq hn hp hm he hc hu
  change Answers (done (s.slotPowerLoss n.val)) _
  rw [slotPowerLoss_off hn hm he hc hu, setPerst_pin]
  refine answers_regs hq (calm_setHp (drivePin_calm (calm_refl s) ..) ..) fun t ht => ⟨?_, ?_, fun a ha => ?_⟩
  · rw [State.hpState, rd_of_reg (ht _)]
    exact hpState_setHp (by decide)
  · rw [on_of_reg (ht _), on_setHp (by decide), drivePin_on (by decide) (by decide)]
  · have ha' : a ≠ Reg.PT_HP_STATUS p.port := by simpa using ha
    rw [ht a, reg_setHp ha', drivePin_reg ha']

/-- The module leaves reset. -/
theorem slotPerst_links (s : State) (n : SlotIx) (p : PortRec) :
    s.quiet = true → s.slotMachine n.val = some p → p.port < 128 →
  s.md.slots = true → s.hpState p.port = Hp.POWERED → s.ch n.val = Ch.ON →
  Answers (exec (.slotPerstDelayExpiry n) s) fun t =>
    t.hpState p.port = (if p.hotplug then Hp.LINKING else Hp.ACTIVE) ∧
    t.on (Reg.PT_HP_STATUS p.port) Fld.PT_HP_STATUS.PERST = false ∧ t.regsBut s [Reg.PT_HP_STATUS p.port] := by
  intro hq hn hp hm he hc
  change Answers (done (s.slotPerst n.val)) _
  rw [slotPerst_on hn hm he hc, setPerst_pin]
  refine answers_regs hq (calm_setHp (drivePin_calm (calm_refl s) ..) ..) fun t ht => ⟨?_, ?_, fun a ha => ?_⟩
  · rw [State.hpState, rd_of_reg (ht _)]
    refine hpState_setHp ?_
    split
    · decide
    · decide
  · rw [on_of_reg (ht _), on_setHp (by decide), drivePin_on (by decide) (by decide)]
  · have ha' : a ≠ Reg.PT_HP_STATUS p.port := by simpa using ha
    rw [ht a, reg_setHp ha', drivePin_reg ha']

/-- Enumeration that finds what the Formula names. -/
theorem slotEnum_activates (s : State) (n : SlotIx) (p : PortRec) (l : List (Nat × Nat)) :
    s.quiet = true → s.slotMachine n.val = some p →
  p.port < 128 → s.md.slots = true → s.hpState p.port = Hp.ENUM → s.enumOk p l = true →
  Answers (exec (.slotEnumDone n l) s) fun t =>
    t.hpState p.port = Hp.ACTIVE ∧
    t.rd (Reg.PT_HP_CNT p.port) Fld.PT_HP_CNT.INSERTS =
      min (2 ^ Fld.PT_HP_CNT.INSERTS.width - 1) (s.rd (Reg.PT_HP_CNT p.port) Fld.PT_HP_CNT.INSERTS + 1) ∧
    (∀ e ∈ s.vppbsOf p.port, (t.vppbSt e.1 e.2).dllsc = true) ∧
    t.regsBut s [Reg.PT_HP_STATUS p.port, Reg.PT_HP_CNT p.port, Reg.PT_STD_STATUS p.port, Reg.PT_STD_EVENTS p.port] := by
  intro hq hn hp hm he ho
  change Answers (done (s.slotEnum n.val l)) _
  rw [slotEnum_passed hn hm he ho]
  obtain ⟨h1, h2, h3⟩ := enumerated_spec s p l
  obtain ⟨k1, k2⟩ := stdResume_regs (s.enumerated p l) p.port
  have hs := hostSide_noteDllsc ((s.enumerated p l).stdResume p.port) (s.vppbsOf p.port)
  refine answers_vppb hq (calm_trans (hostSide_calm hs) (calm_trans k2 (enumerated_calm ..))) fun t ht hv => ?_
  obtain ⟨-, -, -, d4, d5, -, d7, -⟩ := STD_regs_apart p.port
  refine ⟨?_, ?_, fun e hx => ?_, fun a hx => ?_⟩
  · rw [State.hpState, rd_of_reg (ht _), hostSide_rd hs, rd_of_reg (k1 _ d4.symm d7.symm)]
    exact h1
  · obtain ⟨c1, c2⟩ := HP_CNT_ne_STD p.port
    rw [rd_of_reg (ht _), hostSide_rd hs, rd_of_reg (k1 _ c1 c2)]
    exact h2
  · rw [vppbSt_of_vppb hv]
    exact noteDllsc_set _ _ e hx
  · simp only [List.mem_cons, List.not_mem_nil, or_false, not_or] at hx
    obtain ⟨x1, x2, x3, x4⟩ := hx
    rw [ht a, hostSide_reg hs, k1 a x3 x4, h3 a x1 x2]

/-- Enumeration that does not. -/
theorem slotEnum_fails (s : State) (n : SlotIx) (p : PortRec) (l : List (Nat × Nat)) :
    s.slotMachine n.val = some p →
  p.port < 128 → s.md.slots = true → s.hpState p.port = Hp.ENUM → s.enumOk p l = false →
  s.on (Reg.PT_STD_STATUS p.port) Fld.PT_STD_STATUS.LINGER = false →
  Leaves (exec (.slotEnumDone n l) s) fun u =>
    u.hpState p.port = Hp.FAULT ∧ u.on (Reg.PT_HP_EVENTS p.port) Fld.PT_HP_EVENTS.ENUM_FAIL = true ∧
    u.hasRaisedOn (srcSlot n.val 2) (s.portFlacon p.port) ∧
    u.regsBut s [Reg.PT_HP_STATUS p.port, Reg.PT_HP_EVENTS p.port] := by
  intro hn hp hm he ho hl
  refine ⟨_, rfl, ?_⟩
  rw [slotEnum_failed hn hm he ho hl, set1_eq]
  refine ⟨?_, ?_, hasRaisedOn_raise _ _ fun _ => portFlacon_lt, fun a ha => ?_⟩
  · rw [State.hpState, raise_rd]
    exact (hpState_wr_events ..).trans (hpState_setHp (by decide))
  · rw [raise_on, on_wr_one (by decide) (by decide)]
  · simp only [List.mem_cons, List.not_mem_nil, or_false, not_or] at ha
    rw [raise_reg, reg_wr_ne ha.2, reg_setHp ha.1]

/-- The output has fallen. -/
theorem slotDischarged_ends (s : State) (n : SlotIx) (p : PortRec) :
    s.quiet = true → s.slotMachine n.val = some p → p.port < 128 →
  s.md.slots = true → s.hpState p.port = Hp.OFFING →
  Answers (exec (.slotOutputDischarged n) s) fun t =>
    t.hpState p.port =
      (if s.on (Reg.PT_HP_STATUS p.port) Fld.PT_HP_STATUS.PRSNT = true ∨ p.hotplug = false then Hp.PRESENT else Hp.EMPTY) ∧
    t.on (Reg.PT_HP_STATUS p.port) Fld.PT_HP_STATUS.CLK_ON = false ∧ t.regsBut s [Reg.PT_HP_STATUS p.port] := by
  intro hq hn hp hm he
  obtain ⟨l, e⟩ := slotDischarged_off hn hm he
  change Answers (done (s.slotDischarged n.val)) _
  rw [e, setClk_pin]
  have hs := hostSide_notePresence ((s.drivePin p.port Fld.PT_HP_STATUS.CLK_ON false
    (.pin (.slotClkreqN (Fin.ofNat 32 p.slot)) (!false))).setHp p.port (if s.on (Reg.PT_HP_STATUS p.port)
      Fld.PT_HP_STATUS.PRSNT = true ∨ p.hotplug = false then Hp.PRESENT else Hp.EMPTY)) l
  refine answers_regs hq (calm_trans (hostSide_calm hs) (calm_setHp (drivePin_calm (calm_refl s) ..) ..)) fun t ht =>
    ⟨?_, ?_, fun a ha => ?_⟩
  · rw [State.hpState, rd_of_reg (ht _), hostSide_rd hs]
    refine hpState_setHp ?_
    split
    · decide
    · decide
  · rw [on_of_reg (ht _), hostSide_on hs, on_setHp (by decide), drivePin_on (by decide) (by decide)]
  · have ha' : a ≠ Reg.PT_HP_STATUS p.port := by simpa using ha
    rw [ht a, hostSide_reg hs, reg_setHp ha', drivePin_reg ha']

/-- The drain of a removal ends. -/
theorem removalDrained_resets (s : State) (n : SlotIx) (p : PortRec) :
    s.quiet = true → s.slotMachine n.val = some p → p.port < 128 →
  s.md.slots = true → s.hpState p.port = Hp.OFFING → s.arrayEmpty →
  Answers (exec (.removalDrainEnd n) s) fun t =>
    t.hpState p.port = Hp.OFFING ∧ t.on (Reg.PT_HP_STATUS p.port) Fld.PT_HP_STATUS.PERST = true ∧
    t.regsBut s [Reg.PT_HP_STATUS p.port] := by
  intro hq hn hp hm he ha
  change Answers (done (s.removalDrained n.val)) _
  rw [removalDrained_empty hn hm he ha, setPerst_pin]
  refine answers_regs hq (drivePin_calm (calm_refl s) ..) fun t ht => ⟨?_, ?_, fun a ha => ?_⟩
  · rw [State.hpState, rd_of_reg (ht _), drivePin_rd (by decide) (by decide)]
    exact he
  · rw [on_of_reg (ht _), drivePin_on (by decide) (by decide)]
  · rw [ht a, drivePin_reg (by simpa using ha)]

/-- The port of a removal is taken down. -/
theorem removalDown_ramps (s : State) (n : SlotIx) (p : PortRec) :
    s.slotMachine n.val = some p → p.port < 128 →
  s.md.slots = true → s.hpState p.port = Hp.OFFING → s.on (Reg.PT_HP_STATUS p.port) Fld.PT_HP_STATUS.PERST = true →
  s.on (Reg.PT_STD_STATUS p.port) Fld.PT_STD_STATUS.DL_UP = false →
  s.on (Reg.PT_STD_STATUS p.port) Fld.PT_STD_STATUS.LINGER = false → s.ch n.val = Ch.ON →
  Leaves (exec (.removalPortDownDelay n) s) fun u =>
    u.ch n.val = Ch.DOWN ∧ u.hpState p.port = Hp.OFFING ∧
    u.on (Reg.SPC_STATE n.val) Fld.SPC_STATE.IN_LIMIT = false := by
  intro hn hp hm he hx hu hl hc
  refine ⟨_, rfl, ?_⟩
  rw [removalDown_idle hn hm he hx hu hl]
  obtain ⟨h1, h2, h3⟩ := rampOff_spec s n p.port hc
  exact ⟨h1, h2.trans he, h3⟩

/-- Settles O34: each transition of the slot machine, from one equation for its case. -/
theorem slotMachineHolds : Obligations.SlotMachine :=
  ⟨slotArrive_presents, slotLoss_empties, slotLoss_surprises, slotAttn_notes, slotPowerGood_powers, slotPowerLoss_repowers, slotPerst_links, slotEnum_activates, slotEnum_fails, slotDischarged_ends, removalDrained_resets, removalDown_ramps⟩


end Sys2Proof.Machine
end

section
/-!
## REVIVE (O42): its phases, the cold boot of a restart that cannot be made, and the loss report
-/
namespace Sys2Proof.Machine

/-! ### The phase of REVIVE -/

theorem reviveIn_of {s : State} {x : Nat} (hm : s.md = .revive) (hp : s.revivePhase = x) : s.reviveIn x = true := by
  rw [State.reviveIn, State.inMode, hm, hp, beq_self_eq_true]
  rfl

theorem setRevivePhase_phase {s : State} {x : Nat} (h : x < 8) : (s.setRevivePhase x).revivePhase = x := by
  rw [State.revivePhase, State.setRevivePhase, rd_wr _ _ _ _ (by decide)]
  exact Nat.mod_eq_of_lt h

theorem setRevivePhase_reg {s : State} {x a : Nat} (h : a ≠ Reg.KS_REVIVE_STATUS) : (s.setRevivePhase x).reg a = s.reg a := reg_wr_ne h ..

theorem setRevivePhase_rest (s : State) (x : Nat) : (s.setRevivePhase x).rest = s.rest := wr_rest ..

theorem setRevivePhase_calm {u s : State} (h : u.calm s) (x : Nat) : (u.setRevivePhase x).calm s := calm_wr h (by decide) ..

theorem setRevivePhase_md (s : State) (x : Nat) : (s.setRevivePhase x).md = s.md := md_of_reg (setRevivePhase_reg (by decide))

/-! ### A loss recorded -/

/-- The loss report as the first loss leaves it. -/
def State.lossShown (s : State) (cause fl seq : Nat) (c : Nat × Nat) : State :=
  (((((s.set1 Reg.KS_LOSS Fld.KS_LOSS.LOST).wr Reg.KS_LOSS Fld.KS_LOSS.CAUSE cause).wr Reg.KS_LOSS Fld.KS_LOSS.FLACONS
    (((s.set1 Reg.KS_LOSS Fld.KS_LOSS.LOST).wr Reg.KS_LOSS Fld.KS_LOSS.CAUSE cause).rd Reg.KS_LOSS Fld.KS_LOSS.FLACONS ||| fl)).addTo
    Reg.KS_LOSS_CNT Fld.KS_LOSS_CNT.RECORDS c.1).addTo Reg.KS_LOSS_CNT Fld.KS_LOSS_CNT.LINES c.2).wr Reg.KS_LOSS_SEQ
    Fld.KS_LOSS_SEQ.SEQ seq

theorem recordLoss_first {s : State} (h : s.on Reg.KS_LOSS Fld.KS_LOSS.LOST = false) (cause fl seq : Nat) (c : Nat × Nat) :
    s.recordLoss cause fl seq (some c) = { s.lossShown cause fl seq c with lossRaised := false } := by
  unfold State.recordLoss State.when State.lossShown
  simp only [h, Bool.not_false, if_true]

theorem lossShown_rest (s : State) (cause fl seq : Nat) (c : Nat × Nat) : (s.lossShown cause fl seq c).rest = s.rest := by
  rw [State.lossShown, wr_rest, addTo_rest, addTo_rest, wr_rest, wr_rest, set1_rest]

theorem lossShown_spec (s : State) (cause fl seq : Nat) (c : Nat × Nat) :
    (s.lossShown cause fl seq c).on Reg.KS_LOSS Fld.KS_LOSS.LOST = true ∧
      (s.lossShown cause fl seq c).rd Reg.KS_LOSS Fld.KS_LOSS.CAUSE = cause % 2 ^ Fld.KS_LOSS.CAUSE.width ∧
      (s.lossShown cause fl seq c).rd Reg.KS_LOSS_SEQ Fld.KS_LOSS_SEQ.SEQ = seq % 2 ^ Fld.KS_LOSS_SEQ.SEQ.width ∧
      (s.lossShown cause fl seq c).regsBut s [Reg.KS_LOSS, Reg.KS_LOSS_CNT, Reg.KS_LOSS_SEQ] := by
  unfold State.lossShown
  generalize ((s.set1 Reg.KS_LOSS Fld.KS_LOSS.LOST).wr Reg.KS_LOSS Fld.KS_LOSS.CAUSE cause).rd Reg.KS_LOSS Fld.KS_LOSS.FLACONS ||| fl = x
  simp only [addTo_eq, set1_eq]
  refine ⟨?_, ?_, rd_wr _ _ _ _ (by decide), fun a ha => ?_⟩
  · rw [on_of_reg (reg_wr_ne (by decide) ..), on_of_reg (reg_wr_ne (by decide) ..), on_of_reg (reg_wr_ne (by decide) ..),
      on_wr_other _ _ _ _ _ _ (by decide) (.inr (by decide)), on_wr_other _ _ _ _ _ _ (by decide) (.inr (by decide)),
      on_wr_one (by decide) (by decide)]
  · rw [rd_of_reg (reg_wr_ne (by decide) ..), rd_of_reg (reg_wr_ne (by decide) ..), rd_of_reg (reg_wr_ne (by decide) ..),
      rd_wr_other _ _ _ _ _ _ (by decide) (.inr (by decide)), rd_wr _ _ _ _ (by decide)]
  · simp only [List.mem_cons, List.not_mem_nil, or_false, not_or] at ha
    obtain ⟨h1, h2, h3⟩ := ha
    rw [reg_wr_ne h3, reg_wr_ne h2, reg_wr_ne h2, reg_wr_ne h1, reg_wr_ne h1, reg_wr_ne h1]

/-! ### A cold boot after REVIVE -/

theorem mportAtBoot_retention (s : State) : s.mportAtBoot.retention = s.retention := rfl

theorem rest_retention {t s : State} (h : t.rest = s.rest) : t.retention = s.retention := (congrArg State.retention h :)

/-- A cold boot keeps the loss report, and drops what the supplies retained. -/
theorem coldBoot_loss (s : State) {c : Nat} (hc : c < 256) : (∀ a ∈ [Reg.KS_LOSS, Reg.KS_LOSS_CNT, Reg.KS_LOSS_SEQ], (s.coldBoot c).reg a = s.reg a) ∧
    (s.coldBoot c).retention = none := by
  refine ⟨fun a ha => ?_, ?_⟩
  · have hr : ∀ b ∈ [Reg.KS_LOSS, Reg.KS_LOSS_CNT, Reg.KS_LOSS_SEQ], b ∉ [Reg.CHIP_SERIAL, Reg.MG_LIFECYCLE, Reg.MG_SEAL] ∧
        (∀ n, b ≠ Reg.MG_OWNER_DIGEST n) ∧ b ≠ Reg.CHIP_MODE ∧ b ≠ Reg.CHIP_TIME ∧ b ≠ Reg.PC_RAIL ∧ b ≠ Reg.PC_DIP ∧
        b ≠ Reg.MG_I3C ∧ b ≠ Reg.FZ_CTL ∧ alwaysOnRegs.contains b = true := by
      intro b hb
      simp only [List.mem_cons, List.not_mem_nil, or_false] at hb
      rcases hb with rfl | rfl | rfl <;>
        exact ⟨by decide, fun n => by simp only [Reg.KS_LOSS, Reg.KS_LOSS_CNT, Reg.KS_LOSS_SEQ, Reg.MG_OWNER_DIGEST]; omega,
          by decide, by decide, by decide, by decide, by decide, by decide, by decide⟩
    obtain ⟨h1, h2, h3, h4, h5, h6, h7, h8, h9⟩ := hr a ha
    rw [coldBoot_eq, mportAtBoot_reg, showFuses_reg _ _ h1 h2, emit_reg, reg_wr_ne h3,
      (goMode_spec _ .boot c hc).2.1.2 a (by simpa using h3), reg_set0 _ _ _ _ h3, reg_setReg_ne _ _ _ _ h4,
      State.dropLatched, reg_set0 _ _ _ _ h7, reg_set0 _ _ _ _ h7, reg_set0 _ _ _ _ h6, reg_set0 _ _ _ _ h5, wipe_reg _ _ _ _ h8, h9]
    rfl
  · have h := (dropLatched_rest (s.wipe false false)).trans (wipe_rest s false false)
    rw [coldBoot_eq, mportAtBoot_retention, rest_retention ((showFuses_rest _).trans (boot_rest ..)), emit_retention, rest_retention h]
    rfl

/-- The state as REVIVE gives it up, before its cold boot. -/
def State.reviveLost (s : State) (cause : Nat) : State :=
  let s1 := s.set0 Reg.CHIP_MODE Fld.CHIP_MODE.RETAIN_VALID
  match sealsMirror s.keep.held with
  | some (seq, fl) => s1.recordLoss cause fl seq (some (sealsCount s.keep.held))
  | none => s1

theorem reviveFail_eq (s : State) (cause : Nat) : s.reviveFail cause = (s.reviveLost cause).coldBoot 0x10 := rfl

/-- REVIVE that fails ends in a cold boot with nothing retained. -/
theorem reviveFail_boots (s : State) (cause : Nat) : (s.reviveFail cause).md = .boot ∧
    (s.reviveFail cause).rd Reg.CHIP_MODE Fld.CHIP_MODE.CAUSE = 0x10 ∧
    (s.reviveFail cause).on Reg.CHIP_MODE Fld.CHIP_MODE.RETAIN_VALID = false ∧ (s.reviveFail cause).retention = none := by
  rw [reviveFail_eq]
  obtain ⟨⟨h1, h2, -⟩, -, -, h3, -⟩ := coldBoot_spec (s.reviveLost cause) 0x10 (by decide)
  exact ⟨h1, h2, h3, (coldBoot_loss _ (by decide)).2⟩

theorem sealsMirror_one (x : Sealed) : sealsMirror [x] = some (x.seq, setBitAt 0 x.flacon) := rfl

theorem lossRaised_reg (u : State) (b : Bool) (a : Nat) : ({ u with lossRaised := b } : State).reg a = u.reg a := rfl

/-- The loss of the one record held is reported through the cold boot. -/
theorem reviveFail_loss {s : State} {x : Sealed} (hk : s.keep.held = [x]) (hl : s.on Reg.KS_LOSS Fld.KS_LOSS.LOST = false) (cause : Nat) :
    (s.reviveFail cause).on Reg.KS_LOSS Fld.KS_LOSS.LOST = true ∧
      (s.reviveFail cause).rd Reg.KS_LOSS Fld.KS_LOSS.CAUSE = cause % 2 ^ Fld.KS_LOSS.CAUSE.width ∧
      (s.reviveFail cause).rd Reg.KS_LOSS_SEQ Fld.KS_LOSS_SEQ.SEQ = x.seq % 2 ^ Fld.KS_LOSS_SEQ.SEQ.width := by
  have hl' : (s.set0 Reg.CHIP_MODE Fld.CHIP_MODE.RETAIN_VALID).on Reg.KS_LOSS Fld.KS_LOSS.LOST = false :=
    (on_of_reg (reg_set0 _ _ _ _ (by decide)) _).trans hl
  have e : s.reviveLost cause = { (s.set0 Reg.CHIP_MODE Fld.CHIP_MODE.RETAIN_VALID).lossShown cause (setBitAt 0 x.flacon) x.seq
      (sealsCount [x]) with lossRaised := false } := by
    rw [← recordLoss_first hl']
    unfold State.reviveLost
    simp only [hk, sealsMirror_one]
  obtain ⟨h1, h2, h3, -⟩ := lossShown_spec (s.set0 Reg.CHIP_MODE Fld.CHIP_MODE.RETAIN_VALID) cause (setBitAt 0 x.flacon) x.seq
    (sealsCount [x])
  generalize (s.set0 Reg.CHIP_MODE Fld.CHIP_MODE.RETAIN_VALID).lossShown cause (setBitAt 0 x.flacon) x.seq (sealsCount [x]) = u at *
  have hr : ∀ a, (s.reviveLost cause).reg a = u.reg a := fun a => by rw [e, lossRaised_reg]
  obtain ⟨hk, -⟩ := coldBoot_loss (s.reviveLost cause) (c := 0x10) (by decide)
  rw [reviveFail_eq]
  exact ⟨(on_of_reg ((hk _ (by simp)).trans (hr _)) _).trans h1, (rd_of_reg ((hk _ (by simp)).trans (hr _)) _).trans h2,
    (rd_of_reg ((hk _ (by simp)).trans (hr _)) _).trans h3⟩

/-! ### LOAD and FIRMWARE -/

/-- The registers as LOAD leaves them. -/
def State.loadShown (s : State) : State := (s.rootLocked.set0 Reg.PC_RAIL Fld.PC_RAIL.KEEP_ON_VAUX).setRevivePhase 1

theorem loadShown_rest (s : State) : s.loadShown.rest = s.rest := by
  rw [State.loadShown, setRevivePhase_rest, set0_rest, State.rootLocked, set1_rest, set1_rest]

theorem loadShown_spec (s : State) : s.loadShown.revivePhase = 1 ∧ s.loadShown.md = s.md ∧
    s.loadShown.on Reg.PC_RAIL Fld.PC_RAIL.KEEP_ON_VAUX = false ∧
    s.loadShown.regsBut s [Reg.KS_REVIVE_STATUS, Reg.PC_RAIL, Reg.CHIP_CLK_STATUS] := by
  have hr : s.loadShown.regsBut s [Reg.KS_REVIVE_STATUS, Reg.PC_RAIL, Reg.CHIP_CLK_STATUS] := fun a ha => by
    simp only [List.mem_cons, List.not_mem_nil, or_false, not_or] at ha
    obtain ⟨h1, h2, h3⟩ := ha
    rw [State.loadShown, setRevivePhase_reg h1, reg_set0 _ _ _ _ h2, State.rootLocked, set1_eq, set1_eq, reg_wr_ne h3, reg_wr_ne h3]
  refine ⟨setRevivePhase_phase (by decide), md_of_reg (hr _ (by decide)), ?_, hr⟩
  rw [State.loadShown, on_of_reg (setRevivePhase_reg (by decide)), set0_eq]
  exact on_wr_zero (by decide) _ _

theorem reviveLoaded_eq {s : State} (hm : s.md = .revive) (hp : s.revivePhase = 0) (hh : s.flt.held = []) :
    s.reviveLoaded = { s.loadShown with
      flt := { s.flt with running := true, held := [] }
      keep := { s.keep with selfRefresh := false } } := by
  have hh' : s.rootLocked.flt.held = [] := hh
  unfold State.reviveLoaded
  rw [if_pos (reviveIn_of hm hp), takeHeld_none hh']
  rfl

theorem mportAtFirmware_retention (s : State) : s.mportAtFirmware.retention = s.retention := by
  unfold State.mportAtFirmware
  split
  · rfl
  · rfl

/-- The directory shown leaves the slot that runs. -/
theorem showDirectory_slot (s : State) :
    s.showDirectory.rd Reg.MG_FW_STATUS Fld.MG_FW_STATUS.SLOT = s.rd Reg.MG_FW_STATUS Fld.MG_FW_STATUS.SLOT := by
  unfold State.showDirectory
  simp only [wrB_eq]
  rw [rd_wr_other _ _ _ _ _ _ (by decide) (.inr (by decide)), rd_wr_other _ _ _ _ _ _ (by decide) (.inr (by decide)),
    rd_of_reg (reg_wr_ne (by decide) ..), rd_of_reg (reg_wr_ne (by decide) ..)]

theorem firmwareRuns_reg (s : State) (a : Nat) : s.firmwareRuns.reg a = s.reg a := rfl

theorem firmwareRuns_retention (s : State) : s.firmwareRuns.retention = s.retention := rfl

/-- The retained firmware runs, and its identity key is shown. -/
def State.firmwareRevived (s : State) (n : Nat) : State :=
  (((s.loadFirmware n).mportAtFirmware.showDirectory).wrB Reg.MG_LIFECYCLE Fld.MG_LIFECYCLE.IDENTITY_READY (!s.decommissioned))

theorem firmwareRevived_spec (s : State) (n : Nat) :
    (s.firmwareRevived n).rd Reg.MG_FW_STATUS Fld.MG_FW_STATUS.SLOT = n % 2 ^ Fld.MG_FW_STATUS.SLOT.width ∧
      (s.firmwareRevived n).mode.fwRunning = true ∧ (s.firmwareRevived n).retention = s.retention ∧
      ∀ a < 0x9000000, a ≠ Reg.CHIP_BOOT_STATUS → (s.firmwareRevived n).reg a = s.reg a := by
  obtain ⟨key, svn, version, digest, e⟩ := loadFirmware_shown s n
  obtain ⟨h1, h2, h3⟩ := firmwareShown_spec s n key svn version digest
  obtain ⟨-, -, -, m4, m5⟩ := mportAtFirmware_spec (s.loadFirmware n)
  have hr : ∀ a, (s.loadFirmware n).mportAtFirmware.reg a = (s.firmwareShown n key svn version digest).reg a := fun a => by
    rw [m5, e, firmwareRuns_reg]
  have hk : (s.loadFirmware n).mportAtFirmware.retention = s.retention := by
    rw [mportAtFirmware_retention, e, firmwareRuns_retention, rest_retention h1]
  have hrun : (s.loadFirmware n).mportAtFirmware.mode.fwRunning = true := by
    rw [m4, e]
    rfl
  unfold State.firmwareRevived
  generalize (s.loadFirmware n).mportAtFirmware = u at *
  simp only [wrB_eq]
  refine ⟨?_, ?_, ?_, fun a ha hb => ?_⟩
  · rw [rd_of_reg (reg_wr_ne (by decide) ..), showDirectory_slot, rd_of_reg (hr _), h2]
  · rw [wr_mode, rest_mode (showDirectory_rest u), hrun]
  · rw [wr_retention, rest_retention (showDirectory_rest u), hk]
  · have hd : a ∉ dirRegs := by
      simp only [dirRegs, Reg.MG_FML_STATUS, Reg.MG_FW_STATUS, List.mem_cons, List.not_mem_nil, or_false]
      omega
    have hl : a ≠ Reg.MG_LIFECYCLE := by simp only [Reg.MG_LIFECYCLE]; omega
    rw [reg_wr_ne hl, showDirectory_reg u a hd, hr, h3 a ha hb]

theorem reviveFirmware_runs {s : State} {v : SigVerdict} {r : RetentionRec} {n : Nat} (hm : s.md = .revive) (hp : s.revivePhase = 1)
    (hr : s.retention = some r) (hn : s.pickFirmware v [r.fwSlot, 1 - r.fwSlot] 0 = .inl n) :
    s.reviveFirmware v = ({ s.firmwareRevived n with mode := { (s.firmwareRevived n).mode with
      selfTested := true, identityReady := !s.decommissioned } } : State).setRevivePhase 2 := by
  unfold State.reviveFirmware
  simp only [reviveIn_of hm hp, hr, hn]
  rfl

theorem reviveFirmware_fails {s : State} {v : SigVerdict} {r : RetentionRec} {n : Nat} (hm : s.md = .revive) (hp : s.revivePhase = 1)
    (hr : s.retention = some r) (hn : s.pickFirmware v [r.fwSlot, 1 - r.fwSlot] 0 = .inr n) : s.reviveFirmware v = s.reviveFail 3 := by
  unfold State.reviveFirmware
  simp only [reviveIn_of hm hp, hr, hn]


/-! ### CHECK and RESTORE -/

theorem reviveChecked_good {s : State} {r : RetentionRec} (hm : s.md = .revive) (hp : s.revivePhase = 2) (hr : s.retention = some r)
    (hv : r.valid = true) (hd : slotDigest s.mgmt.flash r.formulaSlot = r.digest) : s.reviveChecked true = s.setRevivePhase 3 := by
  unfold State.reviveChecked
  simp only [reviveIn_of hm hp, hr, hv, hd, Bool.not_true, Bool.or_self, Bool.false_eq_true, if_false, ne_eq, not_true]

theorem reviveChecked_bad {s : State} {b : Bool} (hm : s.md = .revive) (hp : s.revivePhase = 2)
    (h : b = false ∨ s.retention = none ∨ ∃ r, s.retention = some r ∧ r.valid = false) : s.reviveChecked b = s.reviveFail 2 := by
  unfold State.reviveChecked
  rw [if_neg (by rw [reviveIn_of hm hp]; decide)]
  cases hr : s.retention with
  | none => rfl
  | some r =>
    have hb : (!b || !r.valid) = true := by
      rcases h with rfl | h | ⟨r', h, hv⟩
      · rfl
      · rw [hr] at h
        cases h
      · rw [hr] at h
        cases h
        rw [hv]
        exact Bool.or_true _
    simp only [hb, if_true]

theorem reviveLink_noPorts {s : State} {f : Formula} (h : s.fml.inForce = some f) (hp : f.ports = []) :
    s.reviveLink = s.setRevivePhase 4 := by
  have h' : (s.setRevivePhase 4).ports = [] := by
    unfold State.ports
    rw [rest_fml (setRevivePhase_rest s 4), h]
    exact hp
  unfold State.reviveLink
  simp only [h, hp, List.foldl_nil, h']

theorem restoreDry_quiet (s : State) : s.restoreDry.quiet = s.quiet := rfl
theorem restoreDry_reg (s : State) (a : Nat) : s.restoreDry.reg a = s.reg a := rfl
theorem restoreDry_inForce (s : State) : s.restoreDry.fml.inForce = s.fml.inForce := rfl
theorem restoreDry_seals (s : State) : s.restoreDry.acd.seals = s.keep.held := rfl
theorem restoreDry_home (s : State) : s.restoreDry.home = [] := rfl

/-- What a dry restart without ports leaves. -/
def State.restoredDry (s : State) : State := (s.restoreDry.setReg Reg.AC_REVIVE 0).setRevivePhase 4

theorem reviveRestored_dry {s : State} {f : Formula} {b : Bool} (hm : s.md = .revive) (hp : s.revivePhase = 3) (hd : s.reviveDry = true)
    (hf : s.fml.inForce = some f) (he : f.ports = []) : s.reviveRestored b = s.restoredDry := by
  have hf' : (s.restoreDry.setReg Reg.AC_REVIVE 0).fml.inForce = some f := by
    rw [setReg_fml, restoreDry_inForce, hf]
  unfold State.reviveRestored
  rw [if_neg (by rw [reviveIn_of hm hp]; decide), if_pos ⟨hd, by rw [hf]; rfl⟩, reviveLink_noPorts hf' he]
  rfl

theorem restoredDry_quiet {s : State} (h : s.quiet = true) : s.restoredDry.quiet = true := by
  refine calm_quiet (s := s.restoreDry) (setRevivePhase_calm (calm_setReg (calm_refl _) (by decide) _) _) ?_
  rw [restoreDry_quiet, h]

theorem restoredDry_spec (s : State) : s.restoredDry.revivePhase = 4 ∧ s.restoredDry.acd.seals = s.keep.held ∧
    s.restoredDry.home = [] ∧ s.restoredDry.reg Reg.AC_REVIVE = 0 ∧
    s.restoredDry.regsBut s [Reg.KS_REVIVE_STATUS, Reg.AC_REVIVE] := by
  have h := setRevivePhase_rest (s.restoreDry.setReg Reg.AC_REVIVE 0) 4
  refine ⟨setRevivePhase_phase (by decide), ?_, ?_, ?_, fun a ha => ?_⟩
  · exact congrArg AccordState.seals (congrArg State.acd h)
  · exact congrArg State.home h
  · rw [State.restoredDry, setRevivePhase_reg (by decide), reg_setReg, if_pos rfl]
  · simp only [List.mem_cons, List.not_mem_nil, or_false, not_or] at ha
    rw [State.restoredDry, setRevivePhase_reg ha.1, reg_setReg_ne _ _ _ _ ha.2, restoreDry_reg]

theorem reviveRestored_fails {s : State} (hm : s.md = .revive) (hp : s.revivePhase = 3) (hd : s.reviveDry = false) :
    s.reviveRestored false = s.reviveFail 2 := by
  unfold State.reviveRestored
  rw [if_neg (by rw [reviveIn_of hm hp]; decide), if_neg (by rw [hd]; exact nofun)]

/-! ### REPLAY -/

theorem replay_none {s : State} (h : s.acd.seals = []) (bad : List Nat) : s.replay bad = s.setRevivePhase 5 := by
  unfold State.replay
  rw [h, List.foldl_nil]

theorem replayStart_ready {s : State} (hm : s.md = .revive) (hp : s.revivePhase = 4) (h : s.acd.seals = []) (bad : List Nat) :
    s.replayStart bad = s.setRevivePhase 5 := by
  unfold State.replayStart
  rw [if_pos ⟨reviveIn_of hm hp, by rw [h]; rfl⟩, replay_none h]

theorem replayStart_down {s : State} {x : Sealed} {k : SealedLine} (hx : x ∈ s.acd.seals) (hk : k ∈ x.lines)
    (h : s.heldUp x k = false) (bad : List Nat) : s.replayStart bad = s := by
  unfold State.replayStart
  refine if_neg fun hc => ?_
  have h1 := List.all_eq_true.1 hc.2 x hx
  have h2 := List.all_eq_true.1 h1 k hk
  rw [h] at h2
  cases h2

/-- A record dropped, and its fault, before its loss is recorded. -/
def State.recordDropped (s : State) (x : Sealed) : State :=
  (((s.freeSlots ((x.lines.map (·.slot)) ++ x.recSlots)).modAcd fun y =>
    { y with seals := y.seals.filter fun z => z.seq != x.seq }).set1 Reg.AC_ERR Fld.AC_ERR.REPLAY_ERR).raise Src.AC_REPLAY_ERR (some x.flacon)

theorem freed_reg (s : State) (l : List Nat) (g : AccordState → AccordState) (a : Nat) : ((s.freeSlots l).modAcd g).reg a = s.reg a := rfl

theorem freed_acd (s : State) (l : List Nat) (g : AccordState → AccordState) :
    ((s.freeSlots l).modAcd g).acd = g (s.freeSlots l).acd := rfl

theorem freeSlots_seals (s : State) (l : List Nat) : (s.freeSlots l).acd.seals = s.acd.seals := rfl

theorem recordDropped_spec {s : State} {x : Sealed} (hf : x.flacon < 32) (hs : s.acd.seals = [x]) :
    (s.recordDropped x).acd.seals = [] ∧ (s.recordDropped x).on Reg.AC_ERR Fld.AC_ERR.REPLAY_ERR = true ∧
      (s.recordDropped x).hasRaisedOn Src.AC_REPLAY_ERR (some x.flacon) ∧ (s.recordDropped x).regsBut s [Reg.AC_ERR] := by
  refine ⟨?_, ?_, hasRaisedOn_raise _ _ (by rintro i ⟨⟩; exact hf), fun a ha => ?_⟩
  · rw [State.recordDropped, raise_acd, set1_acd, freed_acd]
    show ((s.freeSlots ((x.lines.map (·.slot)) ++ x.recSlots)).acd.seals.filter fun z => z.seq != x.seq) = []
    rw [freeSlots_seals, hs]
    simp
  · rw [State.recordDropped, raise_on, set1_eq, on_wr_one (by decide) (by decide)]
  · rw [State.recordDropped, raise_reg, set1_eq, reg_wr_ne (by simpa using ha), freed_reg]

theorem replayAnyway_bad {s : State} {x : Sealed} (hm : s.md = .revive) (hp : s.revivePhase = 4) (hs : s.acd.seals = [x])
    (hl : s.on Reg.KS_LOSS Fld.KS_LOSS.LOST = false) (hf : x.flacon < 32) :
    s.replayAnyway [x.seq] = { ((s.setRevivePhase 5).recordDropped x).lossShown 8 (2 ^ x.flacon) x.seq (1, x.lines.length) with
      lossRaised := false } := by
  have h5 : (s.setRevivePhase 5).acd.seals = [x] := (congrArg AccordState.seals (congrArg State.acd (setRevivePhase_rest s 5))).trans hs
  have hl' : ((s.setRevivePhase 5).recordDropped x).on Reg.KS_LOSS Fld.KS_LOSS.LOST = false := by
    rw [on_of_reg ((recordDropped_spec hf h5).2.2.2 _ (by decide)), on_of_reg (setRevivePhase_reg (by decide)), hl]
  rw [← recordLoss_first hl']
  unfold State.replayAnyway State.replay
  rw [if_pos (reviveIn_of hm hp), hs, List.foldl_cons, List.foldl_nil, if_pos (.inl (by simp))]
  rfl

/-! ### The loss report cleared -/

/-- The loss report cleared. -/
def State.lossGone (s : State) : State :=
  ((((s.set0 Reg.KS_LOSS Fld.KS_LOSS.LOST).wr Reg.KS_LOSS Fld.KS_LOSS.CAUSE 0).wr Reg.KS_LOSS Fld.KS_LOSS.FLACONS 0).setReg
    Reg.KS_LOSS_CNT 0).setReg Reg.KS_LOSS_SEQ 0

theorem lossClear_lost {s : State} (h : s.on Reg.KS_LOSS Fld.KS_LOSS.LOST = true) :
    s.lossClear = { s.lossGone with lossRaised := false } := if_pos h

theorem lossGone_spec (s : State) : s.lossGone.on Reg.KS_LOSS Fld.KS_LOSS.LOST = false ∧
    s.lossGone.rd Reg.KS_LOSS Fld.KS_LOSS.CAUSE = 0 ∧ s.lossGone.rd Reg.KS_LOSS Fld.KS_LOSS.FLACONS = 0 ∧
    s.lossGone.reg Reg.KS_LOSS_CNT = 0 ∧ s.lossGone.reg Reg.KS_LOSS_SEQ = 0 ∧
    s.lossGone.regsBut s [Reg.KS_LOSS, Reg.KS_LOSS_CNT, Reg.KS_LOSS_SEQ] := by
  have hr : s.lossGone.reg Reg.KS_LOSS = (((s.set0 Reg.KS_LOSS Fld.KS_LOSS.LOST).wr Reg.KS_LOSS Fld.KS_LOSS.CAUSE 0).wr Reg.KS_LOSS
      Fld.KS_LOSS.FLACONS 0).reg Reg.KS_LOSS := by
    rw [State.lossGone, reg_setReg_ne _ _ _ _ (by decide), reg_setReg_ne _ _ _ _ (by decide)]
  refine ⟨?_, ?_, ?_, ?_, ?_, fun a ha => ?_⟩
  · rw [on_of_reg hr, set0_eq, on_wr_other _ _ _ _ _ _ (by decide) (.inr (by decide)),
      on_wr_other _ _ _ _ _ _ (by decide) (.inr (by decide)), on_wr_zero (by decide)]
  · rw [rd_of_reg hr, rd_wr_other _ _ _ _ _ _ (by decide) (.inr (by decide)), rd_wr _ _ _ _ (by decide), Nat.zero_mod]
  · rw [rd_of_reg hr, rd_wr _ _ _ _ (by decide), Nat.zero_mod]
  · rw [State.lossGone, reg_setReg_ne _ _ _ _ (by decide), reg_setReg, if_pos rfl]
  · rw [State.lossGone, reg_setReg, if_pos rfl]
  · simp only [List.mem_cons, List.not_mem_nil, or_false, not_or] at ha
    obtain ⟨h1, h2, h3⟩ := ha
    rw [State.lossGone, reg_setReg_ne _ _ _ _ h3, reg_setReg_ne _ _ _ _ h2, reg_wr_ne h1, reg_wr_ne h1, reg_set0 _ _ _ _ h1]

theorem calm_lossRaised {u s : State} (h : u.calm s) (b : Bool) : ({ u with lossRaised := b } : State).calm s := h

theorem lossGone_calm (s : State) : s.lossGone.calm s := by
  refine calm_of_rest ?_ fun a ha => (lossGone_spec s).2.2.2.2.2 a ?_
  · rw [State.lossGone, setReg_rest, setReg_rest, wr_rest, wr_rest, set0_rest]
  · revert a
    decide


/-! ### OPEN -/

/-- A register that no Flacon's epoch moves. -/
def offEpoch (a : Nat) : Prop := ∀ f, a ≠ Reg.FL_EPOCH f ∧ a ≠ Reg.FL_REGIONS f

/-- A state that differs in its epochs alone. -/
def State.epochSide (t s : State) : Prop := t = { s with regs := t.regs, acc := t.acc } ∧ ∀ a, offEpoch a → t.reg a = s.reg a

theorem advance_epochSide {s : State} (ht : s.acd.trk = []) (hh : s.home = []) (f : Nat) (gen : Option DecGen) :
    (s.advance f [] gen).epochSide s := by
  rw [advance_idle ht hh]
  refine ⟨epochStep_keeps s f [] gen, fun a ha => ?_⟩
  rw [State.showRegions, reg_wr_ne (ha f).2, epochStep_reg, reg_wr_ne (ha f).1]

theorem epochSide_trans {t u s : State} (h : t.epochSide u) (k : u.epochSide s) : t.epochSide s := by
  obtain ⟨e, hr⟩ := h
  obtain ⟨e', hr'⟩ := k
  refine ⟨?_, fun a ha => (hr a ha).trans (hr' a ha)⟩
  rw [e, e']

/-- Every Flacon's epoch advanced, where nothing waits on any. -/
theorem advances_epochSide {s : State} (ht : s.acd.trk = []) (hh : s.home = []) (l : List Nat) :
    (l.foldl (fun t f => t.advance f [] none) s).epochSide s := by
  refine List.foldlRecOn l _ (motive := fun t : State => t.epochSide s) ⟨rfl, fun _ _ => rfl⟩ fun t hs f _ => ?_
  have h1 : t.acd.trk = [] := by rw [hs.1]; exact ht
  have h2 : t.home = [] := by rw [hs.1]; exact hh
  exact epochSide_trans (advance_epochSide h1 h2 f none) hs

/-- The times of R378 shown. -/
def State.timesShown (s : State) (a b : Nat) : State :=
  (s.wr Reg.KS_REVIVE_STATUS Fld.KS_REVIVE_STATUS.DEVICE_MS (min a 65535)).wr Reg.KS_REVIVE_STATUS
    Fld.KS_REVIVE_STATUS.TOTAL_MS (min b 65535)

theorem timesShown_rest (s : State) (a b : Nat) : (s.timesShown a b).rest = s.rest := by
  rw [State.timesShown, wr_rest, wr_rest]

theorem timesShown_spec (s : State) (a b : Nat) :
    (s.timesShown a b).rd Reg.KS_REVIVE_STATUS Fld.KS_REVIVE_STATUS.DEVICE_MS = min a 65535 ∧
      (s.timesShown a b).rd Reg.KS_REVIVE_STATUS Fld.KS_REVIVE_STATUS.TOTAL_MS = min b 65535 ∧
      ∀ c, c ≠ Reg.KS_REVIVE_STATUS → (s.timesShown a b).reg c = s.reg c := by
  have hw : ∀ n, min n 65535 % 2 ^ 16 = min n 65535 := fun n => Nat.mod_eq_of_lt (by omega)
  rw [State.timesShown]
  refine ⟨?_, ?_, fun c hc => ?_⟩
  · rw [rd_wr_other _ _ _ _ _ _ (by decide) (.inr (by decide)), rd_wr _ _ _ _ (by decide)]
    exact hw a
  · rw [rd_wr _ _ _ _ (by decide)]
    exact hw b
  · rw [reg_wr_ne hc, reg_wr_ne hc]

/-- Every Flacon's epoch advanced in OPEN, and the Topnote marks begun anew. -/
def State.opening (s : State) (a b : Nat) : State :=
  let t := (s.timesShown a b).flacons.foldl (fun t f => t.advance f [] none) ((s.timesShown a b).setRevivePhase 6)
  ({ t with sched := { t.sched with mirror := [] }, fml := { t.fml with retrain := [] } } : State).topnoteStart t.flacons

/-- What retraining and marks leave of the registers, and of what is retained. -/
theorem restarted_reg (t : State) (l : List Nat) (a : Nat) : (({ t with
    sched := { t.sched with mirror := [] }, fml := { t.fml with retrain := [] } } : State).topnoteStart l).reg a = t.reg a := rfl

theorem restarted_repeat (t : State) (l : List Nat) : (({ t with
    sched := { t.sched with mirror := [] }, fml := { t.fml with retrain := [] } } : State).topnoteStart l).fml.repeatLive =
      t.fml.repeatLive := rfl

theorem rest_acd {t s : State} (h : t.rest = s.rest) : t.acd = s.acd := (congrArg State.acd h :)

theorem opening_spec {s : State} (he : s.arrayEmpty) (a b : Nat) :
    (∀ c, offEpoch c → (s.opening a b).reg c = ((s.timesShown a b).setRevivePhase 6).reg c) ∧
      (s.opening a b).fml.repeatLive = s.fml.repeatLive := by
  obtain ⟨hh, -, -, -, -, ht, -⟩ := he
  have hr := (setRevivePhase_rest (s.timesShown a b) 6).trans (timesShown_rest s a b)
  have h := advances_epochSide (s := (s.timesShown a b).setRevivePhase 6) ((congrArg AccordState.trk (rest_acd hr)).trans ht)
    ((rest_home hr).trans hh) (s.timesShown a b).flacons
  unfold State.opening
  generalize (s.timesShown a b).flacons.foldl (fun t f => t.advance f [] none) ((s.timesShown a b).setRevivePhase 6) = u at h
  refine ⟨fun c hc => (restarted_reg ..).trans (h.2 c hc), (restarted_repeat ..).trans ?_⟩
  have e : u.fml = ((s.timesShown a b).setRevivePhase 6).fml := by rw [h.1]
  rw [e, rest_fml hr]

/-- The retained state dropped, and REVIVE shown done. -/
def State.opened (s : State) : State :=
  (s.dropRetained.setRevivePhase 7).set1 Reg.CHIP_BOOT_STATUS Fld.CHIP_BOOT_STATUS.REVIVED

theorem dropRetained_reg (s : State) (a : Nat) : s.dropRetained.reg a = (s.set0 Reg.CHIP_MODE Fld.CHIP_MODE.RETAIN_VALID).reg a := rfl

theorem dropRetained_kept (s : State) : s.dropRetained.retention = none ∧ s.dropRetained.keep.held = [] ∧
    s.dropRetained.keep.tables = none ∧ s.dropRetained.fml = s.fml := ⟨rfl, rfl, rfl, rfl⟩

theorem opened_rest (s : State) : s.opened.rest = s.dropRetained.rest := by
  rw [State.opened, set1_rest, setRevivePhase_rest]

theorem opened_regs (s : State) : s.opened.revivePhase = 7 ∧
    s.opened.on Reg.CHIP_MODE Fld.CHIP_MODE.RETAIN_VALID = false ∧
    s.opened.on Reg.CHIP_BOOT_STATUS Fld.CHIP_BOOT_STATUS.REVIVED = true ∧
    s.opened.rd Reg.CHIP_MODE Fld.CHIP_MODE.MODE = s.rd Reg.CHIP_MODE Fld.CHIP_MODE.MODE ∧
    ∀ f, Fld.KS_REVIVE_STATUS.PHASE.apart f = true → s.opened.rd Reg.KS_REVIVE_STATUS f = s.rd Reg.KS_REVIVE_STATUS f := by
  have hm : s.opened.reg Reg.CHIP_MODE = (s.set0 Reg.CHIP_MODE Fld.CHIP_MODE.RETAIN_VALID).reg Reg.CHIP_MODE := by
    rw [State.opened, set1_eq, reg_wr_ne (by decide), setRevivePhase_reg (by decide), dropRetained_reg]
  have hk : s.opened.reg Reg.KS_REVIVE_STATUS = (s.dropRetained.setRevivePhase 7).reg Reg.KS_REVIVE_STATUS := by
    rw [State.opened, set1_eq, reg_wr_ne (by decide)]
  refine ⟨(rd_of_reg hk _).trans (setRevivePhase_phase (by decide)), ?_, ?_, ?_, fun f hf => ?_⟩
  · rw [on_of_reg hm, set0_eq, on_wr_zero (by decide)]
  · rw [State.opened, set1_eq, on_wr_one (by decide) (by decide)]
  · rw [rd_of_reg hm, set0_eq, rd_wr_other _ _ _ _ _ _ (by decide) (.inr (by decide))]
  · rw [rd_of_reg hk, State.setRevivePhase, rd_wr_other _ _ _ _ _ _ (by decide) (.inr hf), rd_of_reg (dropRetained_reg ..),
      rd_of_reg (reg_set0 _ _ _ _ (by decide))]

/-- The loss is raised on the entry to SERVE; registers and what is retained stay. -/
theorem raiseLossOnEntry_kept (s : State) : (∀ a, s.raiseLossOnEntry.reg a = s.reg a) ∧
    s.raiseLossOnEntry.retention = s.retention ∧ s.raiseLossOnEntry.keep = s.keep ∧ s.raiseLossOnEntry.fml = s.fml := by
  unfold State.raiseLossOnEntry
  split
  · exact ⟨fun a => raise_reg s Src.KS_RETAIN_LOSS none a, raise_retention s Src.KS_RETAIN_LOSS none, raise_keep s Src.KS_RETAIN_LOSS none,
      raise_fml s Src.KS_RETAIN_LOSS none⟩
  · exact ⟨fun _ => rfl, rfl, rfl, rfl⟩

theorem repeatCommit_none {s : State} (h : s.fml.repeatLive = none) (b : Bool) : s.repeatCommit b = s := by
  unfold State.repeatCommit
  rw [h]

/-- Whether a port has a first attempt of the fabric to make. -/
def State.waitsFabric (s : State) (q : Nat) : Bool := match s.portRec q with | some p => p.fabric | none => false

/-- Whether the drain before left a taint. -/
def State.tainted (s : State) : Bool := match s.retention with | some r => r.taint | none => false

theorem replayDone_eq (s : State) (a b : Nat) (v : Bool) : s.replayDone a b v =
    if !s.reviveIn 5 ∨ !s.acd.seals.isEmpty then s
    else if (s.md ≠ .quarantine ∧ s.fml.retrain.any s.waitsFabric) ∨ !(s.flacons.all fun f => s.canAdvance f false) then s
    else if s.md = .quarantine then
      ((s.timesShown a b).flacons.foldl (fun t f => t.advance f [] none) ((s.timesShown a b).setRevivePhase 6)).endQuarantined
    else if s.tainted then (s.opening a b).reviveTaint
    else (((s.opening a b).opened.goMode .serve 0x0D).raiseLossOnEntry).repeatCommit v := rfl

theorem replayDone_opens {s : State} {r : RetentionRec} (hm : s.md = .revive) (hp : s.revivePhase = 5) (he : s.arrayEmpty)
    (hr : s.retention = some r) (ht : r.taint = false) (hn : s.fml.retrain = [])
    (hc : ∀ f ∈ s.flacons, f < 32 ∧ s.canAdvance f false = true) (a b : Nat) (v : Bool) :
    s.replayDone a b v = (((s.opening a b).opened.goMode .serve 0x0D).raiseLossOnEntry).repeatCommit v := by
  obtain ⟨-, -, -, -, -, -, hs⟩ := he
  have hall : (s.flacons.all fun f => s.canAdvance f false) = true := List.all_eq_true.2 fun f hf => (hc f hf).2
  have htaint : s.tainted = false := by
    unfold State.tainted
    rw [hr]
    exact ht
  rw [replayDone_eq, if_neg (by rw [reviveIn_of hm hp, hs]; decide), if_neg (by rw [hn, hall]; simp),
    if_neg (by rw [hm]; decide), if_neg (by rw [htaint]; decide)]

/-- What a quiet state leaves of the registers, the engine and the home array. -/
theorem answers_store {u : State} {P : State → Prop} (h : u.quiet = true)
    (hP : ∀ t : State, (∀ a, t.reg a = u.reg a) → t.acd = u.acd → t.home = u.home → P t) : Answers (done u) P :=
  answers_of_quiet h fun _ _ _ => hP _ (fun _ => rfl) rfl rfl

theorem kept_reg (s : State) (f : FaultState) (k : KeepState) (a : Nat) : ({ s with flt := f, keep := k } : State).reg a = s.reg a := rfl

/-- LOAD ends. -/
theorem loadDone_leaves (s : State) :
    s.md = .revive → s.revivePhase = 0 → s.flt.held = [] →
  Leaves (exec .reviveLoadDone s) fun u =>
    u.revivePhase = 1 ∧ u.md = .revive ∧ u.on Reg.PC_RAIL Fld.PC_RAIL.KEEP_ON_VAUX = false ∧
    u.keep = { s.keep with selfRefresh := false } ∧ u.flt.running = true ∧
    u.regsBut s [Reg.KS_REVIVE_STATUS, Reg.PC_RAIL, Reg.CHIP_CLK_STATUS] := by
  intro hm hp hh
  refine ⟨_, rfl, ?_⟩
  rw [reviveLoaded_eq hm hp hh]
  obtain ⟨h1, h2, h3, h4⟩ := loadShown_spec s
  have hr := kept_reg s.loadShown { s.flt with running := true, held := [] } { s.keep with selfRefresh := false }
  exact ⟨(rd_of_reg (hr _) _).trans h1, (md_of_reg (hr _)).trans (h2.trans hm), (on_of_reg (hr _) _).trans h3, rfl, rfl,
    fun a ha => (hr a).trans (h4 a ha)⟩

/-- FIRMWARE ends with the retained slot's image, or the other's. -/
theorem firmwareDone_runs (s : State) (v : SigVerdict) (r : RetentionRec) (n : Nat) :
    s.md = .revive → s.revivePhase = 1 →
  s.retention = some r → s.pickFirmware v [r.fwSlot, 1 - r.fwSlot] 0 = .inl n → n < 2 →
  Leaves (exec (.reviveFirmwareDone v) s) fun u =>
    u.revivePhase = 2 ∧ u.md = .revive ∧ u.rd Reg.MG_FW_STATUS Fld.MG_FW_STATUS.SLOT = n ∧ u.mode.fwRunning = true ∧
    u.mode.identityReady = !s.decommissioned ∧ u.retention = s.retention := by
  intro hm hp hr hn hl
  refine ⟨_, rfl, ?_⟩
  rw [reviveFirmware_runs hm hp hr hn]
  obtain ⟨h1, h2, h3, h4⟩ := firmwareRevived_spec s n
  have hmd := md_of_reg (h4 Reg.CHIP_MODE (by decide) (by decide))
  generalize s.firmwareRevived n = u at *
  have hrest := setRevivePhase_rest ({ u with mode := { u.mode with
    selfTested := true, identityReady := !s.decommissioned } } : State) 2
  refine ⟨setRevivePhase_phase (by decide), (setRevivePhase_md _ _).trans (hmd.trans hm), ?_, ?_, ?_, ?_⟩
  · refine (rd_of_reg (setRevivePhase_reg (by decide)) _).trans (h1.trans (Nat.mod_eq_of_lt hl))
  · rw [rest_mode hrest, h2]
  · rw [rest_mode hrest]
  · rw [rest_retention hrest, h3]

/-- FIRMWARE finds no image that runs. -/
theorem firmwareDone_fails (s : State) (v : SigVerdict) (r : RetentionRec) (n : Nat) :
    s.md = .revive → s.revivePhase = 1 →
  s.retention = some r → s.pickFirmware v [r.fwSlot, 1 - r.fwSlot] 0 = .inr n →
  Leaves (exec (.reviveFirmwareDone v) s) fun u =>
    u.md = .boot ∧ u.rd Reg.CHIP_MODE Fld.CHIP_MODE.CAUSE = 0x10 ∧
    u.on Reg.CHIP_MODE Fld.CHIP_MODE.RETAIN_VALID = false ∧ u.retention = none := by
  intro hm hp hr hn
  refine ⟨_, rfl, ?_⟩
  rw [reviveFirmware_fails hm hp hr hn]
  exact reviveFail_boots s 3

/-- CHECK finds the record and the slot whole. -/
theorem checkDone_restores (s : State) (r : RetentionRec) :
    s.quiet = true → s.md = .revive → s.revivePhase = 2 → s.retention = some r →
  r.valid = true → slotDigest s.mgmt.flash r.formulaSlot = r.digest →
  Answers (exec (.reviveCheckDone true) s) fun t =>
    t.revivePhase = 3 ∧ t.md = .revive ∧ t.regsBut s [Reg.KS_REVIVE_STATUS] := by
  intro hq hm hp hr hv hd
  change Answers (done (s.reviveChecked true)) _
  rw [reviveChecked_good hm hp hr hv hd]
  exact answers_regs hq (setRevivePhase_calm (calm_refl s) 3) fun t ht =>
    ⟨(rd_of_reg (ht _) _).trans (setRevivePhase_phase (by decide)), (md_of_reg (ht _)).trans ((setRevivePhase_md s 3).trans hm),
      fun a ha => (ht a).trans (setRevivePhase_reg (by simpa using ha))⟩

/-- CHECK finds them not. -/
theorem checkDone_fails (s : State) (b : Bool) (x : Sealed) :
    s.md = .revive → s.revivePhase = 2 → s.keep.held = [x] → x.flacon < 32 →
  x.seq < 2 ^ 64 → s.on Reg.KS_LOSS Fld.KS_LOSS.LOST = false →
  (b = false ∨ s.retention = none ∨ ∃ r, s.retention = some r ∧ r.valid = false) →
  Leaves (exec (.reviveCheckDone b) s) fun u =>
    u.md = .boot ∧ u.rd Reg.CHIP_MODE Fld.CHIP_MODE.CAUSE = 0x10 ∧
    u.on Reg.CHIP_MODE Fld.CHIP_MODE.RETAIN_VALID = false ∧ u.on Reg.KS_LOSS Fld.KS_LOSS.LOST = true ∧
    u.rd Reg.KS_LOSS Fld.KS_LOSS.CAUSE = 2 ∧ u.rd Reg.KS_LOSS_SEQ Fld.KS_LOSS_SEQ.SEQ = x.seq := by
  intro hm hp hk _ hs hl h
  refine ⟨_, rfl, ?_⟩
  rw [reviveChecked_bad hm hp h]
  obtain ⟨h1, h2, h3, -⟩ := reviveFail_boots s 2
  obtain ⟨k1, k2, k3⟩ := reviveFail_loss hk hl 2
  exact ⟨h1, h2, h3, k1, k2, k3.trans (Nat.mod_eq_of_lt hs)⟩

/-- RESTORE of a dry restart. -/
theorem restoreDone_dry (s : State) (f : Formula) :
    s.quiet = true → s.md = .revive → s.revivePhase = 3 → s.reviveDry = true →
  s.fml.inForce = some f → f.ports = [] →
  Answers (exec (.reviveRestoreDone true) s) fun t =>
    t.revivePhase = 4 ∧ t.acd.seals = s.keep.held ∧ t.home = [] ∧ t.reg Reg.AC_REVIVE = 0 ∧
    t.regsBut s [Reg.KS_REVIVE_STATUS, Reg.AC_REVIVE] := by
  intro hq hm hp hd hf he
  change Answers (done (s.reviveRestored true)) _
  rw [reviveRestored_dry hm hp hd hf he]
  obtain ⟨h1, h2, h3, h4, h5⟩ := restoredDry_spec s
  have hk := restoredDry_quiet hq
  refine answers_store hk fun t ht ha hh => ?_
  exact ⟨(rd_of_reg (ht _) _).trans h1, (congrArg AccordState.seals ha).trans h2, hh.trans h3, (ht _).trans h4,
    fun a ha => (ht a).trans (h5 a ha)⟩

/-- RESTORE without the image. -/
theorem restoreDone_fails (s : State) :
    s.md = .revive → s.revivePhase = 3 → s.reviveDry = false →
  Leaves (exec (.reviveRestoreDone false) s) fun u =>
    u.md = .boot ∧ u.rd Reg.CHIP_MODE Fld.CHIP_MODE.CAUSE = 0x10 ∧
    u.on Reg.CHIP_MODE Fld.CHIP_MODE.RETAIN_VALID = false := by
  intro hm hp hd
  refine ⟨_, rfl, ?_⟩
  rw [reviveRestored_fails hm hp hd]
  obtain ⟨h1, h2, h3, -⟩ := reviveFail_boots s 2
  exact ⟨h1, h2, h3⟩

/-- Replay with no record held. -/
theorem replayStart_none (s : State) (bad : List Nat) :
    s.quiet = true → s.md = .revive → s.revivePhase = 4 → s.acd.seals = [] →
  Answers (exec (.replayStart bad) s) fun t => t.revivePhase = 5 ∧ t.regsBut s [Reg.KS_REVIVE_STATUS] := by
  intro hq hm hp hs
  change Answers (done (s.replayStart bad)) _
  rw [replayStart_ready hm hp hs]
  exact answers_regs hq (setRevivePhase_calm (calm_refl s) 5) fun t ht =>
    ⟨(rd_of_reg (ht _) _).trans (setRevivePhase_phase (by decide)), fun a ha => (ht a).trans (setRevivePhase_reg (by simpa using ha))⟩

/-- Replay waits for a port. -/
theorem replayStart_waits (s : State) (bad : List Nat) (x : Sealed) (k : SealedLine) :
    s.quiet = true → s.md = .revive → s.revivePhase = 4 →
  x ∈ s.acd.seals → k ∈ x.lines → s.heldUp x k = false →
  Answers (exec (.replayStart bad) s) fun t => t.revivePhase = 4 ∧ t.acd = s.acd ∧ t.regsBut s [] := by
  intro hq hm hp hx hk hu
  change Answers (done (s.replayStart bad)) _
  rw [replayStart_down hx hk hu]
  exact answers_of_calm hq (calm_refl s) fun _ _ _ => ⟨hp, rfl, fun _ _ => rfl⟩

/-- A record that cannot be replayed. -/
theorem replayAnyway_skips (s : State) (x : Sealed) :
    s.md = .revive → s.revivePhase = 4 → s.acd.seals = [x] → x.flacon < 32 →
  s.on Reg.KS_LOSS Fld.KS_LOSS.LOST = false →
  Leaves (exec (.replayPortWaitExpiry [x.seq]) s) fun u =>
    u.revivePhase = 5 ∧ u.acd.seals = [] ∧ u.on Reg.AC_ERR Fld.AC_ERR.REPLAY_ERR = true ∧
    u.hasRaisedOn Src.AC_REPLAY_ERR (some x.flacon) ∧ u.on Reg.KS_LOSS Fld.KS_LOSS.LOST = true ∧
    u.rd Reg.KS_LOSS Fld.KS_LOSS.CAUSE = 8 ∧
    u.regsBut s [Reg.KS_REVIVE_STATUS, Reg.AC_ERR, Reg.KS_LOSS, Reg.KS_LOSS_CNT, Reg.KS_LOSS_SEQ] := by
  intro hm hp hs hf hl
  refine ⟨_, rfl, ?_⟩
  rw [replayAnyway_bad hm hp hs hl hf]
  have h5 : (s.setRevivePhase 5).acd.seals = [x] := (congrArg AccordState.seals (rest_acd (setRevivePhase_rest s 5))).trans hs
  obtain ⟨d1, d2, d3, d4⟩ := recordDropped_spec hf h5
  obtain ⟨l1, l2, -, l4⟩ := lossShown_spec ((s.setRevivePhase 5).recordDropped x) 8 (2 ^ x.flacon) x.seq (1, x.lines.length)
  have hrest := lossShown_rest ((s.setRevivePhase 5).recordDropped x) 8 (2 ^ x.flacon) x.seq (1, x.lines.length)
  have hp5 := setRevivePhase_phase (s := s) (x := 5) (by decide)
  have hr5 : (s.setRevivePhase 5).regsBut s [Reg.KS_REVIVE_STATUS] := fun a ha => setRevivePhase_reg (by simpa using ha)
  generalize s.setRevivePhase 5 = v at *
  generalize v.recordDropped x = w at *
  generalize w.lossShown 8 (2 ^ x.flacon) x.seq (1, x.lines.length) = u at *
  have hu := lossRaised_reg u false
  refine ⟨?_, (congrArg AccordState.seals (rest_acd hrest)).trans d1, (on_of_reg ((hu _).trans (l4 _ (by decide))) _).trans d2, ?_,
    (on_of_reg (hu _) _).trans l1, (rd_of_reg (hu _) _).trans l2, fun a ha => ?_⟩
  · exact (rd_of_reg ((hu _).trans (l4 _ (by decide))) _).trans ((rd_of_reg (d4 _ (by decide)) _).trans hp5)
  · refine hasRaisedOn_raised (fun o ho => ?_) d3
    show o ∈ u.flt.raised
    rw [rest_flt hrest]
    exact ho
  · simp only [List.mem_cons, List.not_mem_nil, or_false, not_or] at ha
    obtain ⟨a1, a2, a3, a4, a5⟩ := ha
    exact ((hu a).trans (l4 a (by simp [a3, a4, a5]))).trans ((d4 a (by simp [a2])).trans (hr5 a (by simp [a1])))

/-- OPEN, then SERVE. -/
theorem replayDone_serves (s : State) (a b : Nat) (v : Bool) (r : RetentionRec) :
    s.md = .revive → s.revivePhase = 5 → s.arrayEmpty →
  s.retention = some r → r.taint = false → s.fml.retrain = [] → s.fml.repeatLive = none →
  (∀ f ∈ s.flacons, f < 32 ∧ s.canAdvance f false = true) →
  Leaves (exec (.replayDone a b v) s) fun u =>
    u.entered s .serve 0x0D ∧ u.revivePhase = 7 ∧ u.on Reg.CHIP_MODE Fld.CHIP_MODE.RETAIN_VALID = false ∧
    u.on Reg.CHIP_BOOT_STATUS Fld.CHIP_BOOT_STATUS.REVIVED = true ∧ u.retention = none ∧ u.keep.held = [] ∧
    u.keep.tables = none ∧ u.rd Reg.KS_REVIVE_STATUS Fld.KS_REVIVE_STATUS.DEVICE_MS = min a 65535 ∧
    u.rd Reg.KS_REVIVE_STATUS Fld.KS_REVIVE_STATUS.TOTAL_MS = min b 65535 := by
  intro hm hp he hr ht hn hl hc
  refine ⟨_, rfl, ?_⟩
  obtain ⟨o1, o2⟩ := opening_spec he a b
  obtain ⟨t1, t2, t3⟩ := timesShown_spec s a b
  have hoff : ∀ c < 0x4000000, offEpoch c := fun c hc f => by
    simp only [Reg.FL_EPOCH, Reg.FL_REGIONS]
    omega
  have hks : offEpoch Reg.KS_REVIVE_STATUS := fun f => by
    simp only [Reg.FL_EPOCH, Reg.FL_REGIONS, Reg.KS_REVIVE_STATUS]
    omega
  have hmode : (s.opening a b).reg Reg.CHIP_MODE = s.reg Reg.CHIP_MODE :=
    (o1 _ (hoff _ (by decide))).trans ((setRevivePhase_reg (by decide)).trans (t3 _ (by decide)))
  have htime : ∀ f, Fld.KS_REVIVE_STATUS.PHASE.apart f = true →
      (s.opening a b).rd Reg.KS_REVIVE_STATUS f = (s.timesShown a b).rd Reg.KS_REVIVE_STATUS f := fun f hf => by
    rw [rd_of_reg (o1 _ hks), State.setRevivePhase, rd_wr_other _ _ _ _ _ _ (by decide) (.inr hf)]
  obtain ⟨p1, p2, p3, p4, p5⟩ := opened_regs (s.opening a b)
  obtain ⟨k1, k2, k3, k4⟩ := dropRetained_kept (s.opening a b)
  have hrest := opened_rest (s.opening a b)
  obtain ⟨⟨g1, g2, g3⟩, ⟨gr, g4⟩, g5⟩ := goMode_spec (s.opening a b).opened .serve 0x0D (by decide)
  obtain ⟨e1, e2, e3, e4⟩ := raiseLossOnEntry_kept ((s.opening a b).opened.goMode .serve 0x0D)
  have hrep : ((s.opening a b).opened.goMode .serve 0x0D).raiseLossOnEntry.fml.repeatLive = none := by
    rw [e4, rest_fml (goMode_rest ..), rest_fml hrest, k4, o2, hl]
  rw [replayDone_opens hm hp he hr ht hn hc, repeatCommit_none hrep]
  refine ⟨⟨(md_of_reg (e1 _)).trans g1, (rd_of_reg (e1 _) _).trans g2, ?_⟩, ?_, ?_, ?_, ?_, ?_, ?_, ?_, ?_⟩
  · rw [rd_of_reg (e1 _), g3, p4, rd_of_reg hmode]
  · rw [State.revivePhase, rd_of_reg (e1 _), rd_of_reg (g4 _ (by decide))]
    exact p1
  · rw [on_of_reg (e1 _), g5, p2]
  · rw [on_of_reg (e1 _), on_of_reg (g4 _ (by decide)), p3]
  · rw [e2, rest_retention (goMode_rest ..), rest_retention hrest, k1]
  · rw [e3, rest_keep (goMode_rest ..), rest_keep hrest, k2]
  · rw [e3, rest_keep (goMode_rest ..), rest_keep hrest, k3]
  · rw [rd_of_reg (e1 _), rd_of_reg (g4 _ (by decide)), p5 _ (by decide), htime _ (by decide), t1]
  · rw [rd_of_reg (e1 _), rd_of_reg (g4 _ (by decide)), p5 _ (by decide), htime _ (by decide), t2]

/-- OPEN waits for the records. -/
theorem replayDone_waits (s : State) (a b : Nat) (v : Bool) :
    s.quiet = true → s.md = .revive → s.revivePhase = 5 → s.acd.seals ≠ [] →
  Answers (exec (.replayDone a b v) s) fun t => t.md = .revive ∧ t.revivePhase = 5 ∧ t.regsBut s [] := by
  intro hq hm hp hs
  have e : s.replayDone a b v = s := by
    unfold State.replayDone
    exact if_pos (.inr (by rw [List.isEmpty_eq_false_iff.2 hs]; rfl))
  change Answers (done (s.replayDone a b v)) _
  rw [e]
  exact answers_of_calm hq (calm_refl s) fun _ _ _ => ⟨hm, hp, fun _ _ => rfl⟩

/-- The loss report cleared. -/
theorem ksLossClear_clears (s : State) (p : AccessPath) :
    s.quiet = true → s.mayAct p = true → s.on Reg.KS_LOSS Fld.KS_LOSS.LOST = true →
  Answers (exec (.ksLossClear p) s) fun t =>
    t.on Reg.KS_LOSS Fld.KS_LOSS.LOST = false ∧ t.rd Reg.KS_LOSS Fld.KS_LOSS.CAUSE = 0 ∧
    t.rd Reg.KS_LOSS Fld.KS_LOSS.FLACONS = 0 ∧ t.reg Reg.KS_LOSS_CNT = 0 ∧ t.reg Reg.KS_LOSS_SEQ = 0 ∧
    t.regsBut s [Reg.KS_LOSS, Reg.KS_LOSS_CNT, Reg.KS_LOSS_SEQ] := by
  intro hq hp hl
  refine written_answers_of hp fun x => ?_
  rw [lossClear_lost ((on_of_reg (withHold_reg s x _) _).trans hl)]
  obtain ⟨h1, h2, h3, h4, h5, h6⟩ := lossGone_spec (s.withHold x)
  have hk := calm_trans (lossGone_calm (s.withHold x)) (calm_withHold s x)
  generalize (s.withHold x).lossGone = u at *
  have hu := lossRaised_reg u false
  have hk' := calm_lossRaised hk false
  generalize ({ u with lossRaised := false } : State) = v at *
  refine answers_regs hq hk' fun t hv => ?_
  have ht : ∀ a, t.reg a = u.reg a := fun a => (hv a).trans (hu a)
  exact ⟨(on_of_reg (ht _) _).trans h1, (rd_of_reg (ht _) _).trans h2, (rd_of_reg (ht _) _).trans h3, (ht _).trans h4, (ht _).trans h5,
    fun a ha => (ht a).trans ((h6 a ha).trans (withHold_reg s x a))⟩

/-- Settles O42: each phase of REVIVE by the branch its inputs take; a restart that fails ends in one cold boot. -/
theorem revivePhases : Obligations.RevivePhases :=
  ⟨loadDone_leaves, firmwareDone_runs, firmwareDone_fails, checkDone_restores, checkDone_fails, restoreDone_dry, restoreDone_fails, replayStart_none, replayStart_waits, replayAnyway_skips, replayDone_serves, replayDone_waits, ksLossClear_clears⟩


end Sys2Proof.Machine
end

section
/-!
REFUTATION. The grant of a tracker that two slots share.
-/
namespace Sys2Proof.Machine

/-- An open Accord with no open sequence number, whose window lies outside the shared ones. -/
def outsideAccord : Accord := { Tests.ac0 with window := 64 }

/-- Slots 0 and 1 of port 0 hold one tracker, 7; a TLP of an Accord window waits at slot 1. -/
def sharedTracker : State :=
  { Tests.acs outsideAccord 1 with
    acd := { slots := [(0, 7), (1, 7)], trk := [(7, outsideAccord)],
             waits := [(1, [{ write := true, offset := 0, bytes := [0] }])] } }

/-- The grant at slot 0 lets the TLP of slot 1 go on, and that one aborts the Accord of both. -/
theorem sharedTracker_granted : (sharedTracker.grantTracker 0 0).settle.accord 7 = none := by decide +kernel

/-- Refutes O21: the fourth clause has the granted Accord stand, but it asks only that nothing waits at the granted slot. Where
the tables map a second slot to the same tracker, what waits there goes on in the same step and may abort the Accord. -/
theorem not_accordDoorbells : ¬ Obligations.AccordDoorbells := by
  intro h
  obtain ⟨-, -, -, h, -⟩ := h
  obtain ⟨t, ht, ha, -⟩ := h sharedTracker 0 0 7 outsideAccord (by decide +kernel) (by decide +kernel) (by decide +kernel)
    (by decide +kernel) (by decide +kernel)
  have he : (sharedTracker.grantTracker 0 0).settle = t := by
    injection ht
  rw [← he, sharedTracker_granted] at ha
  exact absurd ha (by simp)

end Sys2Proof.Machine
end

section
/-!
## The Accord engine (O22)
-/
namespace Sys2Proof.Machine

/-! ### An engine that goes on resting -/

@[simp] theorem accord_putAccord (s : State) (i j : Nat) (a : Accord) :
    (s.putAccord i a).accord j = if j = i then some a else s.accord j := tabFind_tabPut ..

theorem modAccord_of {s : State} {i : Nat} {a : Accord} (h : s.accord i = some a) (g : Accord → Accord) :
    s.modAccord i g = s.putAccord i (g a) := by
  rw [State.modAccord, h]

/-- The slots show trackers of the same Accord ages in u as in s. -/
theorem slotTracker_age {s u : State} (hs : u.acd.slots = s.acd.slots)
    (hk : ∀ i, (u.accord i).map (·.age) = (s.accord i).map (·.age)) (q k : Nat) :
    (u.slotTracker q k).map (·.2.age) = (s.slotTracker q k).map (·.2.age) := by
  unfold State.slotTracker
  rw [hs]
  cases tabFind s.acd.slots (q * 64 + k) with
  | none => rfl
  | some t =>
    rw [Option.map_map, Option.map_map]
    exact hk t

/-- Whether a TLP of an Accord window goes on depends on the waiting lists, the tags and the ages alone. -/
theorem aliasNext_none_of {s u : State} (hw : u.acd.waits = s.acd.waits) (hs : u.acd.slots = s.acd.slots)
    (ht : u.core.tags = s.core.tags) (hk : ∀ i, (u.accord i).map (·.age) = (s.accord i).map (·.age)) (h : s.aliasNext = none) :
    u.aliasNext = none := by
  unfold State.aliasNext at h ⊢
  rw [List.findSome?_eq_none_iff] at h ⊢
  rw [hw, ht]
  intro e he
  have hn := h e he
  have ha := slotTracker_age hs hk (e.1 / 64) (e.1 % 64)
  cases hl : e.2 with
  | nil => rfl
  | cons w r =>
    cases hu : u.slotTracker (e.1 / 64) (e.1 % 64) with
    | none => rfl
    | some x =>
      rw [hu] at ha
      cases hv : s.slotTracker (e.1 / 64) (e.1 % 64) with
      | none => rw [hv] at ha; exact absurd ha (by simp)
      | some y =>
        rw [hv, Option.map_some, Option.map_some, Option.some.injEq] at ha
        simp only [hl, hv] at hn
        have ha' : x.2.age = y.2.age := ha
        simpa only [ha'] using hn

theorem engineRests_of {s u : State} (h : s.engineRests = true) (hq : u.acd.commitQ.all u.acd.readyQ.contains = true)
    (hk : u.acd.wake = s.acd.wake) (hw : u.acd.waits = s.acd.waits) (hs : u.acd.slots = s.acd.slots)
    (ht : u.core.tags = s.core.tags) (ha : ∀ i, (u.accord i).map (·.age) = (s.accord i).map (·.age)) : u.engineRests = true := by
  unfold State.engineRests at h ⊢
  simp only [Bool.and_eq_true, Option.isNone_iff_eq_none] at h ⊢
  obtain ⟨⟨-, hw'⟩, hn⟩ := h
  exact ⟨⟨hq, hk ▸ hw'⟩, aliasNext_none_of hw hs ht ha hn⟩

theorem quiet_engineRests {s : State} (h : s.quiet = true) : s.engineRests = true := by
  unfold State.quiet at h
  simp only [Bool.and_eq_true] at h
  exact h.1.1.1.1.1

/-- A state in which only the Accord engine is not as in a quiet one is quiet where the engine rests. -/
theorem quiet_of_engine {s u : State} (h : s.quiet = true) (hc : ({ u with acd := s.acd } : State).calm s)
    (he : u.engineRests = true) : u.quiet = true := by
  have hq := calm_quiet hc h
  unfold State.quiet at hq ⊢
  simp only [Bool.and_eq_true] at hq ⊢
  obtain ⟨⟨⟨⟨⟨-, h1⟩, h2⟩, h3⟩, h4⟩, h5⟩ := hq
  exact ⟨⟨⟨⟨⟨he, h1⟩, h2⟩, h3⟩, h4⟩, h5⟩

theorem engineRests_queues {s : State} (h : s.engineRests = true) : s.acd.commitQ.all s.acd.readyQ.contains = true := by
  unfold State.engineRests at h
  simp only [Bool.and_eq_true] at h
  exact h.1.1

/-- An Accord put back with its age leaves a quiet state quiet. -/
theorem quiet_putAccord {s : State} {i : Nat} {a b : Accord} (h : s.quiet = true) (ha : s.accord i = some a) (hb : b.age = a.age) :
    (s.putAccord i b).quiet = true := by
  refine quiet_of_engine h (calm_of_rest (s := s) rfl (fun _ _ => rfl)) ?_
  have hr := quiet_engineRests h
  have hq := engineRests_queues hr
  refine engineRests_of (u := s.putAccord i b) hr hq rfl rfl rfl rfl fun j => ?_
  rw [accord_putAccord]
  split
  · next e => rw [e, ha, Option.map_some, Option.map_some, hb]
  · rfl


/-! ### The engine's steps, by their cases -/

theorem putAccord_reg (s : State) (i : Nat) (a : Accord) (r : Nat) : (s.putAccord i a).reg r = s.reg r := rfl

/-- An Accord put back with its age: what the command answers. -/
theorem answers_putAccord {s : State} {i : Nat} {a b : Accord} {P : State → Prop} (h : s.quiet = true) (ha : s.accord i = some a)
    (hb : b.age = a.age) (hP : ∀ t : State, t.accord i = some b → t.regsBut s [] → P t) : Answers (done (s.putAccord i b)) P :=
  answers_store (quiet_putAccord h ha hb) fun t hr hd _ =>
    hP t (by rw [State.accord, hd]; exact (accord_putAccord s i i b).trans (if_pos rfl)) fun a _ => hr a

/-- A slice with no transaction and nothing waiting has nothing to do. -/
theorem runSlice_idle {s : State} {n : Nat} (h : (s.slice n).trackers = [] ∧ (s.slice n).conflict = []) : s.runSlice n = s := by
  have e : s.sliceStep n = none := by
    simp only [State.sliceStep, h.1, h.2, List.find?_nil, List.findIdx?_nil]
  unfold State.runSlice
  cases s.sliceFuel n with
  | zero => rfl
  | succ k => rw [State.settleSlice, e]

theorem runSlices_idle {s : State} (h : s.slicesIdle) : s.runSlices = s := by
  unfold State.runSlices
  generalize s.home.map (·.1) = l
  induction l with
  | nil => rfl
  | cons n r ih => rw [List.foldl_cons, runSlice_idle (h n), ih]

theorem stageNotice_eq {s : State} {i : Nat} {a : Accord} (ha : s.accord i = some a) (hr : 0 < a.ready) :
    s.stageNotice i = s.putAccord i { a with ready := a.ready - 1, out := a.out - 1 } := by
  rw [State.stageNotice, modAccord_of ha, if_pos hr]

theorem prepareStart_other {s : State} {i : Nat} (h : s.acd.readyQ.head? ≠ some i) : s.prepareStart i = s := by
  unfold State.prepareStart
  split
  · rfl
  · rw [if_pos (.inr h)]

/-- The Accord that PREPARE starts. -/
def State.started (s : State) (a : Accord) : Accord :=
  { a with ph := .prepare, recSlots := [], asked := a.slices,
           epoch := some ((oldestEpoch (a.marks.map (·.epoch))).getD (s.epochOf a.flacon)) }

/-- The engine as PREPARE's start leaves it, without the slot's STATE. -/
def State.startedAt (s : State) (i : Nat) (a : Accord) : State :=
  ((s.putAccord i (s.started a)).openAccess a.flacon
    ((oldestEpoch (a.marks.map (·.epoch))).getD (s.epochOf a.flacon))).modAcd fun x =>
      { x with commitQ := x.commitQ.filter (· != i), readyQ := x.readyQ.filter (· != i) }

theorem prepareStart_eq {s : State} {i p : Nat} {a : Accord} (ha : s.accord i = some a) (hp : a.ph = .queued)
    (hq : s.acd.readyQ.head? = some i) (hd : s.durability a.flacon = 0) (hpl : a.place = some p) (hs : a.slices ≠ []) :
    s.prepareStart i = (s.startedAt i a).wr (Reg.EF_SLOT (p / 64) (p % 64)) Fld.EF_SLOT.STATE 3 := by
  have hs' : a.slices.isEmpty = false := List.isEmpty_eq_false_iff.2 hs
  simp only [State.prepareStart, ha, hp, hq, hd, hpl, hs', ne_eq, not_true, or_self, if_false, true_or, if_true, State.takeSlots,
    Bool.false_eq_true, State.startedAt, State.started]

theorem startedAt_reg (s : State) (i : Nat) (a : Accord) (r : Nat) : (s.startedAt i a).reg r = s.reg r := rfl

theorem startedAt_accord (s : State) (i : Nat) (a : Accord) : (s.startedAt i a).accord i = some (s.started a) :=
  (accord_putAccord s i i _).trans (if_pos rfl)

theorem startedAt_quiet {s : State} {i : Nat} {a : Accord} (h : s.quiet = true) (ha : s.accord i = some a) :
    (s.startedAt i a).quiet = true := by
  have hr := quiet_engineRests h
  have hq := engineRests_queues hr
  have hreg := startedAt_reg s i a
  have hc : ({ s.startedAt i a with acd := s.acd } : State).calm s :=
    ⟨⟨rfl, rfl, rfl, rfl, rfl, rfl⟩, md_of_reg (hreg _), hreg _, hreg _⟩
  refine quiet_of_engine h hc (engineRests_of hr ?_ rfl rfl rfl rfl fun j => ?_)
  · change ((s.acd.commitQ.filter (· != i)).all (s.acd.readyQ.filter (· != i)).contains) = true
    rw [List.all_eq_true] at hq ⊢
    intro x hx
    obtain ⟨hx, hi⟩ := List.mem_filter.1 hx
    exact List.contains_iff_mem.2 (List.mem_filter.2 ⟨List.contains_iff_mem.1 (hq x hx), hi⟩)
  · change ((s.putAccord i (s.started a)).accord j).map (·.age) = _
    rw [accord_putAccord]
    split
    · next e => rw [e, ha]; rfl
    · rfl


/-- A mark of slice n as PREPARE leaves it where the directory has no entry. -/
def pinnedAt (n : Nat) (k : Mark) : Mark := if k.slice = n then { k with pinned := true, waits := [], owner := none } else k

/-- The Accord of which slice n has taken PREPARE. -/
def Accord.takenAt (a : Accord) (n : Nat) : Accord :=
  { a with asked := a.asked.erase n, taken := a.taken ++ [n], marks := a.marks.map (pinnedAt n) }

theorem entry_empty (set tag : Nat) : ({} : SliceState).entry set tag = none := rfl

/-- A slice with an empty directory pins the marks, and has nothing to snoop. -/
theorem prepareAt_empty {s : State} {n i : Nat} {a : Accord} (ha : s.accord i = some a) (hp : a.ph = .prepare) (hn : n ∈ a.asked)
    (hs : s.slice n = {}) (hg : s.geomOk a.flacon = true) (hf : s.on (Reg.FL_STATUS a.flacon) Fld.FL_STATUS.FENCED = false) :
    s.prepareAt n i = s.putAccord i (a.takenAt n) := by
  have hh : ∀ line, s.holder n a.flacon line = none := fun line => by rw [State.holder, hs]; rfl
  have hb : ∀ x : Nat, ([] : List Nat).contains x = false := fun _ => rfl
  have hno : ∀ l : List Mark, (l.find? fun _ => false) = none := fun l => by simp
  have hk : ∀ l : List Mark, (l.any fun _ => false) = false := fun l => by simp
  simp only [State.prepareAt, ha, hp, hs, hg, hf, hh, hb, hno, hk, entry_empty, List.contains_iff_mem.2 hn, ne_eq, not_true,
    Bool.not_true, Bool.false_eq_true, or_self, if_false, Bool.or_self, Option.isSome_none, State.snoops, List.foldl_nil]
  rw [List.foldl_fixed, Accord.takenAt, hp]
  rfl

/-- READY counts where the slice's directory has nothing to free and another slice is still to answer. -/
theorem prepareAnswer_waits {s : State} {n i m : Nat} {a : Accord} (ha : s.accord i = some a) (hp : a.ph = .prepare)
    (hn : n ∉ a.answered) (hr : a.refused = []) (hd : a.preparedAt n = true) (hs : s.slice n = {}) (hm : m ∈ a.slices)
    (hma : m ∉ a.answered) (hmn : m ≠ n) :
    s.prepareAnswer n i = s.putAccord i { a with answered := a.answered ++ [n] } := by
  have hc : ¬(a.ph ≠ .prepare ∨ a.answered.contains n = true) := by simp [hp, hn]
  have hr' : (a.refused.find? fun e => e.1 == n) = none := by rw [hr]; rfl
  have hf : s.freeStaged n a = s := by
    unfold State.freeStaged
    refine List.foldl_fixed' (fun k => ?_) _
    rw [hs, entry_empty]
  have hw : (({ a with answered := a.answered ++ [n] } : Accord).slices.all (a.answered ++ [n]).contains) = false := by
    rw [List.all_eq_false]
    refine ⟨m, hm, ?_⟩
    simp [hma, hmn]
  simp only [State.prepareAnswer, ha, if_neg hc, hr', hd, hf, hw, Bool.false_eq_true, if_false, Bool.not_true]

theorem sealCheck_waits {s : State} {i : Nat} {a : Accord} (ha : s.accord i = some a) (h : a.flips ≠ []) : s.sealCheck i = s := by
  have h' : a.flips.isEmpty = false := List.isEmpty_eq_false_iff.2 h
  simp only [State.sealCheck, ha, h', Bool.false_eq_true, false_and, and_false, if_false]

theorem putAccord_self (s : State) (i : Nat) (a : Accord) : (s.putAccord i a).accord i = some a :=
  (accord_putAccord s i i a).trans (if_pos rfl)

theorem recordWritten_flips {s : State} {i : Nat} {a : Accord} (ha : s.accord i = some a) (hp : a.ph = .sealing)
    (hr : a.recorded = false) (hs : a.slices ≠ []) :
    s.recordWritten i = s.putAccord i { a with recorded := true, flips := a.slices } := by
  have hc : (a.ph == .sealing && !a.recorded) = true := by rw [hp, hr]; rfl
  rw [State.recordWritten, modAccord_of ha, if_pos hc]
  exact sealCheck_waits (putAccord_self ..) hs

theorem flipAck_waits {s : State} {n i : Nat} {a : Accord} (ha : s.accord i = some a) (hp : a.ph = .sealing) (hn : n ∈ a.acks)
    (hf : a.flips ≠ []) : s.flipAck n i = s.putAccord i { a with acks := a.acks.erase n } := by
  have hc : ¬(a.ph ≠ .sealing ∨ (!a.acks.contains n) = true) := by simp [hp, hn]
  simp only [State.flipAck, ha, if_neg hc]
  exact sealCheck_waits (putAccord_self ..) hf

/-- The Accord of which slice n has taken FLIP. -/
def Accord.flippedAt (a : Accord) (n : Nat) : Accord :=
  { a with flips := a.flips.erase n, acks := a.acks ++ [n], marks := a.marks.filter fun k => k.slice != n }

theorem flipAt_unstaged {s : State} {n i : Nat} {a : Accord} {x : Sealed} (ue : List Nat) (ha : s.accord i = some a)
    (hp : a.ph = .sealing) (hn : n ∈ a.flips) (hx : s.acd.seals.find? (fun y => y.seq == a.seq) = some x)
    (hk : ∀ k ∈ x.lines, k.slice ≠ n) (hs : s.slicesIdle) : s.flipAt n i ue = s.putAccord i (a.flippedAt n) := by
  have hl : (x.lines.filter fun (l : SealedLine) => l.slice == n && !l.flipped) = [] := by
    rw [List.filter_eq_nil_iff]
    intro l hl
    simp [hk l hl]
  have hc : ¬(a.ph ≠ .sealing ∨ (!a.flips.contains n) = true) := by simp [hp, hn]
  simp only [State.flipAt, ha, if_neg hc, hx, hl, List.foldl_nil]
  exact runSlice_idle (s := s.putAccord i (a.flippedAt n)) (hs n)

/-! ### An abort -/

/-- The slot of an aborted Accord: its result, and the bit of EF_DONE. -/
def State.slotAborted (s : State) (p code addr : Nat) : State :=
  ((((s.wr (Reg.EF_SLOT (p / 64) (p % 64)) Fld.EF_SLOT.STATE 7).wr (Reg.EF_SLOT (p / 64) (p % 64)) Fld.EF_SLOT.CODE code).wr
    (Reg.EF_ABORT (p / 64) (p % 64)) Fld.EF_ABORT.ADDR addr).setBitOf (Reg.EF_DONE (p / 64)) Fld.EF_DONE.DONE (p % 64))

theorem slotResult_eq (s : State) (p code addr : Nat) (notify : Bool) :
    s.slotResult (some p) 7 code (some addr) notify =
      if notify then (s.slotAborted p code addr).emit (.engineMsix (p / 64) (p % 64)) else s.slotAborted p code addr := by
  simp only [State.slotResult, State.slotAborted]

theorem slotAborted_reg {a : Nat} (ha : a < 0x100000000) (s : State) (p code addr : Nat) :
    (s.slotAborted p code addr).reg a = s.reg a := by
  have h : ∀ n, a ≠ 0x100000000 + n := fun n => by omega
  have h1 : a ≠ Reg.EF_SLOT (p / 64) (p % 64) := by unfold Reg.EF_SLOT; omega
  have h2 : a ≠ Reg.EF_ABORT (p / 64) (p % 64) := by unfold Reg.EF_ABORT; omega
  have h3 : a ≠ Reg.EF_DONE (p / 64) := by unfold Reg.EF_DONE; omega
  rw [State.slotAborted, State.setBitOf, reg_wr_ne h3, reg_wr_ne h2, reg_wr_ne h1, reg_wr_ne h1]

theorem slotAborted_spec (s : State) {p code addr : Nat} (hc : code < 2 ^ 8) :
    (s.slotAborted p code addr).rd (Reg.EF_SLOT (p / 64) (p % 64)) Fld.EF_SLOT.STATE = 7 ∧
      (s.slotAborted p code addr).rd (Reg.EF_SLOT (p / 64) (p % 64)) Fld.EF_SLOT.CODE = code := by
  have h2 : Reg.EF_SLOT (p / 64) (p % 64) ≠ Reg.EF_ABORT (p / 64) (p % 64) := by unfold Reg.EF_SLOT Reg.EF_ABORT; omega
  have h3 : Reg.EF_SLOT (p / 64) (p % 64) ≠ Reg.EF_DONE (p / 64) := by unfold Reg.EF_SLOT Reg.EF_DONE; omega
  have e : (s.slotAborted p code addr).reg (Reg.EF_SLOT (p / 64) (p % 64)) =
      ((s.wr (Reg.EF_SLOT (p / 64) (p % 64)) Fld.EF_SLOT.STATE 7).wr (Reg.EF_SLOT (p / 64) (p % 64)) Fld.EF_SLOT.CODE code).reg
        (Reg.EF_SLOT (p / 64) (p % 64)) := by
    rw [State.slotAborted, State.setBitOf, reg_wr_ne h3, reg_wr_ne h2]
  refine ⟨(rd_of_reg e _).trans ?_, (rd_of_reg e _).trans ?_⟩
  · rw [rd_wr_other _ _ _ _ _ _ (by decide) (.inr (by decide)), rd_wr _ _ _ _ (by decide)]
    decide
  · rw [rd_wr _ _ _ _ (by decide)]
    exact Nat.mod_eq_of_lt hc


/-- The staging slots of an Accord are free, and its access is closed. -/
def State.accordFreed (s : State) (a : Accord) : State :=
  match a.epoch with
  | some e => (s.freeSlots ((a.staged.map (·.slot)) ++ a.recSlots)).closeAccess a.flacon e
  | none => s.freeSlots ((a.staged.map (·.slot)) ++ a.recSlots)

/-- u is s but for its registers, its outputs, its Accord engine and its access state. -/
def State.abortSide (u s : State) : Prop := u.home = s.home ∧ u.flt.raised = s.flt.raised

theorem abortSide_trans {t u s : State} (h : t.abortSide u) (k : u.abortSide s) : t.abortSide s := ⟨h.1.trans k.1, h.2.trans k.2⟩

theorem accordFreed_spec (s : State) (a : Accord) : (s.accordFreed a).abortSide s ∧ (∀ r, (s.accordFreed a).reg r = s.reg r) ∧
    (s.accordFreed a).acd.trk = s.acd.trk ∧ (s.accordFreed a).acd.waits = s.acd.waits := by
  unfold State.accordFreed
  split
  · exact ⟨⟨rfl, rfl⟩, fun _ => rfl, rfl, rfl⟩
  · exact ⟨⟨rfl, rfl⟩, fun _ => rfl, rfl, rfl⟩

theorem slotAborted_rest (s : State) (p code addr : Nat) : (s.slotAborted p code addr).rest = s.rest := by
  rw [State.slotAborted, State.setBitOf, rest_wr, rest_wr, rest_wr, rest_wr]

theorem emit_abortSide (s : State) (o : Out) : (s.emit o).abortSide s ∧ (s.emit o).acd = s.acd := ⟨⟨rfl, rfl⟩, rfl⟩

theorem slotResult_spec (s : State) (p code addr : Nat) (notify : Bool) :
    (s.slotResult (some p) 7 code (some addr) notify).abortSide s ∧
      (∀ r, (s.slotResult (some p) 7 code (some addr) notify).reg r = (s.slotAborted p code addr).reg r) ∧
      (s.slotResult (some p) 7 code (some addr) notify).acd = s.acd := by
  have h := slotAborted_rest s p code addr
  rw [slotResult_eq]
  split
  · obtain ⟨e1, e2⟩ := emit_abortSide (s.slotAborted p code addr) (.engineMsix (p / 64) (p % 64))
    exact ⟨abortSide_trans e1 ⟨rest_home h, congrArg (·.raised) (rest_flt h)⟩, fun _ => emit_reg .., e2.trans (rest_acd h)⟩
  · exact ⟨⟨rest_home h, congrArg (·.raised) (rest_flt h)⟩, fun _ => rfl, rest_acd h⟩

theorem countAbort_rest (s : State) (f code : Nat) : (s.countAbort f code).rest = s.rest := by
  rw [State.countAbort, inc_eq, inc_eq, inc_eq, addTo_eq, addTo_eq, addTo_eq, rest_wr, rest_wr, rest_wr]

theorem countAbort_reg (s : State) {f code a : Nat} (ha : a ∉ [Reg.AC_CNT, Reg.AC_ABORT_CNT code, Reg.FL_AC_CNT f]) :
    (s.countAbort f code).reg a = s.reg a := by
  simp only [List.mem_cons, List.not_mem_nil, or_false, not_or] at ha
  obtain ⟨h1, h2, h3⟩ := ha
  rw [State.countAbort, inc_eq, inc_eq, inc_eq, addTo_eq, addTo_eq, addTo_eq, reg_wr_ne h3, reg_wr_ne h2, reg_wr_ne h1]

/-- A tracker for which no TLP waits is freed. -/
theorem dropTracker_free {s : State} {i p : Nat} {a : Accord} (ha : s.accord i = some a) (hp : a.place = some p)
    (hw : tabGet s.acd.waits p [] = []) : (s.dropTracker i).abortSide s ∧ (∀ r, (s.dropTracker i).reg r = s.reg r) ∧
      (s.dropTracker i).accord i = none := by
  have e : s.dropTracker i = (s.modAcd fun x => { x with
      trk := tabDel x.trk i, commitQ := x.commitQ.filter (· != i), readyQ := x.readyQ.filter (· != i) }).modAcd fun x =>
        { x with slots := tabDel x.slots p, waits := tabDel x.waits p } := by
    have hw' : tabGet (s.modAcd fun x => { x with
      trk := tabDel x.trk i, commitQ := x.commitQ.filter (· != i), readyQ := x.readyQ.filter (· != i) }).acd.waits p [] = [] := hw
    simp only [State.dropTracker, ha, hp, hw', List.foldl_nil]
  rw [e]
  exact ⟨⟨rfl, rfl⟩, fun _ => rfl, (tabFind_tabDel s.acd.trk i i).trans (if_pos rfl)⟩

theorem wakeSlices_spec (s : State) (l : List Nat) : (s.wakeSlices l).abortSide s ∧ (∀ r, (s.wakeSlices l).reg r = s.reg r) ∧
    ∀ i, (s.wakeSlices l).accord i = s.accord i := by
  unfold State.wakeSlices
  split
  · exact ⟨⟨rfl, rfl⟩, fun _ => rfl, fun _ => rfl⟩
  · exact ⟨⟨rfl, rfl⟩, fun _ => rfl, fun _ => rfl⟩

theorem abortAccord_eq {s : State} {i p : Nat} {a : Accord} (code addr : Nat) (ha : s.accord i = some a) (hu : a.unsealed = true)
    (hp : a.place = some p) : s.abortAccord i code addr =
      (((((s.accordFreed a).slotResult (some p) 7 code (some addr) a.notify).countAbort a.flacon code).dropTracker i).wakeSlices
        a.slices) := by
  simp only [State.abortAccord, ha, hu, hp, Bool.not_true, Bool.false_eq_true, if_false, State.accordFreed] <;>
  rfl

/-- What the abort of an Accord with a slot, for which no TLP waits, leaves. -/
theorem abortAccord_spec {s : State} {i p : Nat} {a : Accord} {code : Nat} (addr : Nat) (ha : s.accord i = some a)
    (hu : a.unsealed = true) (hp : a.place = some p) (hf : a.flacon < 32) (hw : tabGet s.acd.waits p [] = []) (hc : code < 2 ^ 8) :
    (s.abortAccord i code addr).abortSide s ∧ (s.abortAccord i code addr).accord i = none ∧
      (s.abortAccord i code addr).slotState (p / 64) (p % 64) = 7 ∧
      (s.abortAccord i code addr).rd (Reg.EF_SLOT (p / 64) (p % 64)) Fld.EF_SLOT.CODE = code ∧
      ∀ r < 0x100000000, r ∉ [Reg.AC_CNT, Reg.AC_ABORT_CNT code, Reg.FL_AC_CNT a.flacon] →
        (s.abortAccord i code addr).reg r = s.reg r := by
  obtain ⟨f1, f2, f3, f4⟩ := accordFreed_spec s a
  obtain ⟨r1, r2, r3⟩ := slotResult_spec (s.accordFreed a) p code addr a.notify
  obtain ⟨d1, d2⟩ := slotAborted_spec (s.accordFreed a) (p := p) (addr := addr) hc
  have dr := fun r (h : r < 0x100000000) => slotAborted_reg h (s.accordFreed a) p code addr
  rw [abortAccord_eq code addr ha hu hp]
  generalize s.accordFreed a = v at *
  generalize v.slotAborted p code addr = x at *
  generalize v.slotResult (some p) 7 code (some addr) a.notify = w at *
  have hk := countAbort_rest w a.flacon code
  have hacd : (w.countAbort a.flacon code).acd = v.acd := (rest_acd hk).trans r3
  have ha' : (w.countAbort a.flacon code).accord i = some a := by rw [State.accord, hacd, f3]; exact ha
  obtain ⟨t1, t2, t3⟩ := dropTracker_free ha' hp (by rw [hacd, f4]; exact hw)
  obtain ⟨w1, w2, w3⟩ := wakeSlices_spec ((w.countAbort a.flacon code).dropTracker i) a.slices
  generalize ((w.countAbort a.flacon code).dropTracker i).wakeSlices a.slices = z at *
  have hslot : z.reg (Reg.EF_SLOT (p / 64) (p % 64)) = x.reg (Reg.EF_SLOT (p / 64) (p % 64)) := by
    rw [w2, t2, countAbort_reg, r2]
    simp only [List.mem_cons, List.not_mem_nil, or_false, not_or]
    unfold Reg.EF_SLOT Reg.AC_CNT Reg.AC_ABORT_CNT Reg.FL_AC_CNT
    omega
  refine ⟨abortSide_trans w1 (abortSide_trans t1 (abortSide_trans ⟨rest_home hk, congrArg (·.raised) (rest_flt hk)⟩
    (abortSide_trans r1 f1))), (w3 i).trans t3, (rd_of_reg hslot _).trans d1, (rd_of_reg hslot _).trans d2, fun r hr hn => ?_⟩
  rw [w2, t2, countAbort_reg w hn, r2, dr r hr, f2]

/-- A PREPARE that has run out of time. -/
def State.prepLate (s : State) (f : Nat) : State := (s.set1 Reg.AC_ERR Fld.AC_ERR.PREP_TIMEOUT).raise Src.AC_PREP_TIMEOUT (some f)

theorem prepLate_rest (s : State) (f : Nat) : (s.prepLate f).home = s.home ∧ (s.prepLate f).acd = s.acd :=
  ⟨(raise_home ..).trans (rest_home (set1_rest s _ _)), (raise_acd ..).trans (rest_acd (set1_rest s _ _))⟩

theorem prepTimeout_eq {s : State} {i : Nat} {a : Accord} (ha : s.accord i = some a) (hp : a.ph = .prepare) :
    s.prepTimeout i = ((s.prepLate a.flacon).abortAccord i Ab.PREP_TIMEOUT 0).runSlices := by
  simp only [State.prepTimeout, ha, hp, ne_eq, not_true, if_false, State.prepLate]


theorem pinnedAt_pinned {n : Nat} {k : Mark} (h : (pinnedAt n k).slice = n) :
    (pinnedAt n k).pinned = true ∧ (pinnedAt n k).waits = [] := by
  unfold pinnedAt at h ⊢
  split
  · exact ⟨rfl, rfl⟩
  · next hk =>
    rw [if_neg hk] at h
    exact absurd h hk

theorem abortRegs_err {f : Nat} (hf : f < 32) :
    Reg.AC_ERR ∉ [Reg.AC_CNT, Reg.AC_ABORT_CNT Ab.PREP_TIMEOUT, Reg.FL_AC_CNT f] := by
  simp only [List.mem_cons, List.not_mem_nil, or_false, not_or]
  unfold Reg.AC_ERR Reg.AC_CNT Reg.AC_ABORT_CNT Reg.FL_AC_CNT Ab.PREP_TIMEOUT
  omega

/-! ### The clauses -/

theorem stageNotice_leaves (s : State) (i : Nat) (a : Accord) :
    s.md.clocked = true → s.accord i = some a → 0 < a.ready →
  Leaves (exec (.stageNotice i) s) fun u =>
    u.accord i = some { a with ready := a.ready - 1, out := a.out - 1 } ∧ u.regsBut s [] := by
  intro hc ha hr
  refine leaves_clocked hc ?_
  rw [stageNotice_eq ha hr]
  exact ⟨putAccord_self .., fun _ _ => putAccord_reg ..⟩

theorem prepareStart_answers (s : State) (i p : Nat) (a : Accord) :
    s.quiet = true → s.md.clocked = true → s.accord i = some a → a.ph = .queued →
  s.acd.readyQ.head? = some i → s.durability a.flacon = 0 → a.place = some p → a.slices ≠ [] →
  Answers (exec (.accordPrepareStart i) s) fun t =>
    (∃ b, t.accord i = some b ∧ b.ph = .prepare ∧ b.asked = a.slices ∧ b.marks = a.marks ∧ b.epoch ≠ none) ∧
    t.slotState (p / 64) (p % 64) = 3 ∧ t.regsBut s [Reg.EF_SLOT (p / 64) (p % 64)] := by
  intro hq hc ha hp hr hd hpl hs
  refine answers_clocked hc ?_
  rw [prepareStart_eq ha hp hr hd hpl hs]
  have hn : Reg.EF_SLOT (p / 64) (p % 64) ∉ calmRegs := by
    simp only [calmRegs, List.mem_cons, List.not_mem_nil, or_false, not_or]
    unfold Reg.EF_SLOT Reg.CHIP_MODE Reg.PC_SUPV_STATUS Reg.MG_FML_STATUS
    omega
  have hw := rest_wr (s.startedAt i a) (Reg.EF_SLOT (p / 64) (p % 64)) Fld.EF_SLOT.STATE 3
  refine answers_store (calm_quiet (calm_wr (calm_refl _) hn _ _) (startedAt_quiet hq ha)) fun t hreg hacd _ => ⟨?_, ?_, ?_⟩
  · refine ⟨s.started a, ?_, rfl, rfl, rfl, Option.some_ne_none _⟩
    rw [State.accord, hacd, rest_acd hw]
    exact startedAt_accord s i a
  · refine (rd_of_reg (hreg _) _).trans ((rd_wr _ _ _ _ (by decide)).trans (by decide))
  · intro r hr'
    rw [hreg, reg_wr_ne (List.ne_of_not_mem_cons hr'), startedAt_reg]

theorem prepareStart_notNext (s : State) (i : Nat) (a : Accord) :
    s.quiet = true → s.md.clocked = true → s.accord i = some a → a.ph = .queued →
  s.acd.readyQ.head? ≠ some i → Answers (exec (.accordPrepareStart i) s) fun t => t.acd = s.acd ∧ t.regsBut s [] := by
  intro hq hc _ _ hr
  refine answers_clocked hc ?_
  rw [prepareStart_other hr]
  exact answers_store hq fun t hreg hacd _ => ⟨hacd, fun a _ => hreg a⟩

theorem prepareAtSlice_answers (s : State) (n : SliceIx) (i : Nat) (a : Accord) :
    s.quiet = true → s.md.clocked = true → s.accord i = some a →
  a.ph = .prepare → n.val ∈ a.asked → s.slice n.val = {} → s.geomOk a.flacon = true →
  s.on (Reg.FL_STATUS a.flacon) Fld.FL_STATUS.FENCED = false →
  Answers (exec (.prepareAtSlice n i) s) fun t =>
    (∃ b, t.accord i = some b ∧ b.taken = a.taken ++ [n.val] ∧ b.asked = a.asked.erase n.val ∧
      (∀ k ∈ b.marks, k.slice = n.val → k.pinned = true ∧ k.waits = []) ∧ b.marks.length = a.marks.length) ∧
    t.regsBut s [] := by
  intro hq hc ha hp hn hs hg hf
  refine answers_clocked hc ?_
  have hs' : (s.putAccord i (a.takenAt n.val)).slice n.val = {} := hs
  rw [prepareAt_empty ha hp hn hs hg hf, runSlice_idle (by rw [hs']; exact ⟨rfl, rfl⟩)]
  refine answers_putAccord hq ha rfl fun t ht hreg => ⟨⟨_, ht, rfl, rfl, fun k hk hkn => ?_, List.length_map _⟩, hreg⟩
  obtain ⟨j, -, rfl⟩ := List.mem_map.1 hk
  exact pinnedAt_pinned hkn

theorem prepareAnswer_answers (s : State) (n : SliceIx) (i m : Nat) (a : Accord) :
    s.quiet = true → s.md.clocked = true → s.accord i = some a →
  a.ph = .prepare → n.val ∉ a.answered → a.refused = [] → a.preparedAt n.val = true → s.slice n.val = {} →
  m ∈ a.slices → m ∉ a.answered → m ≠ n.val →
  Answers (exec (.prepareAnswer n i) s) fun t =>
    t.accord i = some { a with answered := a.answered ++ [n.val] } ∧ t.regsBut s [] := by
  intro hq hc ha hp hn hr hd hs hm hma hmn
  refine answers_clocked hc ?_
  rw [prepareAnswer_waits ha hp hn hr hd hs hm hma hmn]
  exact answers_putAccord hq ha rfl fun t ht hreg => ⟨ht, hreg⟩

theorem prepTimeout_leaves (s : State) (i p : Nat) (a : Accord) :
    s.md.clocked = true → s.accord i = some a → a.ph = .prepare → a.place = some p →
  a.flacon < 32 → s.slicesIdle → tabGet s.acd.waits p [] = [] →
  Leaves (exec (.prepTimeout i) s) fun u =>
    u.accord i = none ∧ u.slotState (p / 64) (p % 64) = 7 ∧
    u.rd (Reg.EF_SLOT (p / 64) (p % 64)) Fld.EF_SLOT.CODE = Ab.PREP_TIMEOUT ∧
    u.on Reg.AC_ERR Fld.AC_ERR.PREP_TIMEOUT = true ∧ (∃ f, u.hasRaised Src.AC_PREP_TIMEOUT (some f) ∧ f.val = a.flacon) := by
  intro hc ha hp hpl hf hi hw
  refine leaves_clocked hc ?_
  have hu : a.unsealed = true := by rw [Accord.unsealed, hp]; rfl
  obtain ⟨hh, hd⟩ := prepLate_rest s a.flacon
  have ha' : (s.prepLate a.flacon).accord i = some a := by rw [State.accord, hd]; exact ha
  obtain ⟨⟨k1, k2⟩, k3, k4, k5, k6⟩ := abortAccord_spec (s := s.prepLate a.flacon) (code := Ab.PREP_TIMEOUT) 0 ha' hu hpl hf
    (by rw [hd]; exact hw) (by decide)
  have hi' : ((s.prepLate a.flacon).abortAccord i Ab.PREP_TIMEOUT 0).slicesIdle := fun n => by
    rw [State.slice, k1, hh]
    exact hi n
  rw [prepTimeout_eq ha hp, runSlices_idle hi']
  refine ⟨k3, k4, k5, ?_, ⟨a.flacon, hf⟩, ?_, rfl⟩
  · rw [on_of_reg (k6 _ (by decide) (abortRegs_err hf)), State.prepLate, raise_on]
    exact on_set1 _ _ _ (by decide) (by decide)
  · exact hasRaised_raised (fun o ho => k2 ▸ ho) (hasRaised_raise_on _ _ ⟨a.flacon, hf⟩)

theorem recordWritten_answers (s : State) (i : Nat) (a : Accord) :
    s.quiet = true → s.md.clocked = true → s.accord i = some a → a.ph = .sealing →
  a.recorded = false → a.slices ≠ [] →
  Answers (exec (.commitRecordWritten i) s) fun t =>
    t.accord i = some { a with recorded := true, flips := a.slices } ∧ t.regsBut s [] := by
  intro hq hc ha hp hr hs
  refine answers_clocked hc ?_
  rw [recordWritten_flips ha hp hr hs]
  exact answers_putAccord hq ha rfl fun t ht hreg => ⟨ht, hreg⟩

theorem flipAtSlice_answers (s : State) (n : SliceIx) (i : Nat) (a : Accord) (x : Sealed) (l : List Nat) :
    s.quiet = true → s.md.clocked = true →
  s.accord i = some a → a.ph = .sealing → n.val ∈ a.flips → s.acd.seals.find? (fun y => y.seq == a.seq) = some x →
  (∀ k ∈ x.lines, k.slice ≠ n.val) → s.slicesIdle →
  Answers (exec (.flipAtSlice n i l) s) fun t =>
    (∃ b, t.accord i = some b ∧ b.flips = a.flips.erase n.val ∧ b.acks = a.acks ++ [n.val] ∧
      ∀ k ∈ b.marks, k.slice ≠ n.val) ∧ t.regsBut s [] := by
  intro hq hc ha hp hn hx hk hs
  refine answers_clocked hc ?_
  rw [flipAt_unstaged l ha hp hn hx hk hs]
  refine answers_putAccord hq ha rfl fun t ht hreg => ⟨⟨_, ht, rfl, rfl, fun k hk' => ?_⟩, hreg⟩
  simpa using (List.mem_filter.1 hk').2

theorem flipAck_answers (s : State) (n : SliceIx) (i : Nat) (a : Accord) :
    s.quiet = true → s.md.clocked = true → s.accord i = some a →
  a.ph = .sealing → n.val ∈ a.acks → a.flips ≠ [] →
  Answers (exec (.flipAck n i) s) fun t =>
    t.accord i = some { a with acks := a.acks.erase n.val } ∧ t.regsBut s [] := by
  intro hq hc ha hp hn hf
  refine answers_clocked hc ?_
  rw [flipAck_waits ha hp hn hf]
  exact answers_putAccord hq ha rfl fun t ht hreg => ⟨ht, hreg⟩

/-- Settles O22: each step of the engine changes the one Accord it is about, by the equation of that step; with the ages unchanged
the engine goes on resting. -/
theorem accordEngine : Obligations.AccordEngine :=
  ⟨stageNotice_leaves, prepareStart_answers, prepareStart_notNext, prepareAtSlice_answers, prepareAnswer_answers,
    prepTimeout_leaves, recordWritten_answers, flipAtSlice_answers, flipAck_answers⟩


end Sys2Proof.Machine
end

section
/-!
## What the sending of a message toward a port leaves
-/
namespace Sys2Proof.Machine

/-! ### What the sending of a message toward a port leaves -/

/-- c has the fences and the gates of d, and its waiting lists are not shorter. -/
def CoreState.sentSide (c d : CoreState) : Prop :=
  c.fences = d.fences ∧ c.gate = d.gate ∧ ∀ k, (tabGet d.wait k []).length ≤ (tabGet c.wait k []).length

theorem coreSide_of {c d : CoreState} (hf : c.fences = d.fences) (hg : c.gate = d.gate) (hw : c.wait = d.wait) : c.sentSide d :=
  ⟨hf, hg, fun k => by rw [hw]⟩

theorem coreSide_refl (c : CoreState) : c.sentSide c := coreSide_of rfl rfl rfl

theorem coreSide_trans {b c d : CoreState} (h : b.sentSide c) (k : c.sentSide d) : b.sentSide d :=
  ⟨h.1.trans k.1, h.2.1.trans k.2.1, fun i => (k.2.2 i).trans (h.2.2 i)⟩

/-- u holds the directory, the occurrences, the fences, the gates and the registers below the Flacons' as s does, and no
waiting list is shorter. -/
def State.sentSide (u s : State) : Prop :=
  u.home = s.home ∧ u.flt = s.flt ∧ u.core.sentSide s.core ∧ ∀ a < 0x4000000, u.reg a = s.reg a

theorem sentSide_refl (s : State) : s.sentSide s := ⟨rfl, rfl, coreSide_refl _, fun _ _ => rfl⟩

theorem sentSide_trans {t u s : State} (h : t.sentSide u) (k : u.sentSide s) : t.sentSide s := by
  obtain ⟨h1, h2, h3, h4⟩ := h
  obtain ⟨k1, k2, k3, k4⟩ := k
  exact ⟨h1.trans k1, h2.trans k2, coreSide_trans h3 k3, fun a ha => (h4 a ha).trans (k4 a ha)⟩

theorem sentSide_core (s : State) {c : CoreState} (hf : c.fences = s.core.fences) (hg : c.gate = s.core.gate)
    (hw : c.wait = s.core.wait) : ({ s with core := c } : State).sentSide s :=
  ⟨rfl, rfl, coreSide_of hf hg hw, fun _ _ => rfl⟩
theorem sentSide_sched (s : State) (c : SchedState) : ({ s with sched := c } : State).sentSide s := ⟨rfl, rfl, coreSide_refl _, fun _ _ => rfl⟩
theorem sentSide_acc (s : State) (c : AccessState) : ({ s with acc := c } : State).sentSide s := ⟨rfl, rfl, coreSide_refl _, fun _ _ => rfl⟩

theorem sentSide_wr {u s : State} (h : u.sentSide s) {a : Nat} (ha : 0x4000000 ≤ a) (f : Fld) (x : Nat) : (u.wr a f x).sentSide s :=
  sentSide_trans ⟨rest_home (rest_wr u a f x), rest_flt (rest_wr u a f x), (rest_core (rest_wr u a f x)) ▸ coreSide_refl _,
    fun b hb => reg_wr_ne (by omega) _ _ _⟩ h

theorem sentSide_addTo {u s : State} (h : u.sentSide s) {a : Nat} (ha : 0x4000000 ≤ a) (f : Fld) (x : Nat) :
    (u.addTo a f x).sentSide s := sentSide_wr h ha f _

theorem modBuf_sent (s : State) (g : BufState → BufState) : (s.modBuf g).sentSide s := sentSide_core s (by rfl) (by rfl) (by rfl)

theorem release_sent (s : State) (t : Tier) (f dst n : Nat) : (s.release t f dst n).sentSide s := by
  cases t
  case writeback => exact sentSide_refl s
  all_goals exact modBuf_sent s _

theorem freeCell_sent (s : State) (c : Cell) : (s.freeCell c).sentSide s := by
  unfold State.freeCell
  split
  · exact sentSide_trans (modBuf_sent _ _) (release_sent ..)
  · exact sentSide_refl s

theorem hwm_sent {u s : State} (h : u.sentSide s) (f : Nat) (g : Fld) (x : Nat) : (u.hwm f g x).sentSide s := by
  unfold State.hwm
  split
  · exact sentSide_wr h (by unfold Reg.FL_BUF_HWM; omega) _ _
  · exact h

theorem charge_sent (s : State) (t : Tier) (f dst n : Nat) : (s.charge t f dst n).sentSide s := by
  cases t
  case fast => exact hwm_sent (modBuf_sent s _) ..
  case spill => exact hwm_sent (modBuf_sent s _) ..
  case writeback => exact sentSide_refl s
  all_goals exact modBuf_sent s _

theorem admitTo_sent (s : State) (t : Tier) (f dst n : Nat) : (s.admitTo t f dst n).2.2.sentSide s :=
  sentSide_trans (modBuf_sent _ _) (charge_sent s t f dst n)

theorem allot_sent (s : State) (t : Tier) (f n : Nat) : (s.allot t f n).2.sentSide s := modBuf_sent s _

theorem moveVictim_sent (s : State) (q k : Nat) : (s.moveVictim q k).sentSide s := by
  unfold State.moveVictim
  refine sentSide_addTo (sentSide_trans (sentSide_sched _ _) (sentSide_trans (sentSide_core _ (by rfl) (by rfl) (by rfl)) ?_))
    (by unfold Reg.FL_PUSHOUT; omega) _ _
  have h := sentSide_trans (allot_sent ((s.release .fast (q % 32) 0 1).charge .spill (q % 32) 0 1) .spill (q % 32) 1)
    (sentSide_trans (charge_sent _ .spill (q % 32) 0 1) (release_sent s .fast (q % 32) 0 1))
  split
  · exact sentSide_trans (modBuf_sent _ _) h
  · exact h

theorem moveVictims_sent (l : List (Nat × Nat)) (n : Nat) (s : State) : (moveVictims l n s).2.sentSide s := by
  induction l generalizing n s with
  | nil => exact sentSide_refl s
  | cons e r ih =>
    cases n with
    | zero => exact sentSide_refl s
    | succ n =>
      unfold moveVictims
      split
      · exact sentSide_trans (ih ..) (moveVictim_sent ..)
      · exact ih ..

theorem pushOut_sent {s t : State} {f n : Nat} (h : s.pushOut f n = some t) : t.sentSide s := by
  unfold State.pushOut at h
  have k := moveVictims_sent (s.allVictims f n) n s
  split at h
  · next u e =>
    rw [e] at k
    obtain rfl := Option.some.inj h
    exact sentSide_addTo k (by unfold Reg.FL_PUSHOUT; omega) _ _
  · exact absurd h (by simp)

/-- Room found for a message; outside the snoop-writeback reserve where no cell of that reserve stands for it. -/
theorem takeRoom_sent {s u : State} {m : Msg} {n dst : Nat} {w : Bool} {t : Tier} {l : List Nat}
    (h : s.takeRoom m n dst w = some (t, l, u)) : u.sentSide s ∧ (w = false → t ≠ .writeback) := by
  have hroom : ∀ (x : State) (r : Tier), some (x.admitTo r m.flacon dst n) = some (t, l, u) → u.sentSide x ∧ r = t := by
    intro x r e
    have k := admitTo_sent x r m.flacon dst n
    rw [Option.some.inj e] at k
    exact ⟨k, congrArg Prod.fst (Option.some.inj e)⟩
  unfold State.takeRoom at h
  dsimp only at h
  split at h
  · next hw =>
    refine ⟨(hroom s .writeback h).1, fun e => ?_⟩
    rw [e] at hw
    exact absurd hw (by simp)
  · split at h
    · obtain ⟨k, rfl⟩ := hroom s .fast h
      exact ⟨k, fun _ => by decide⟩
    · split at h
      · next x e =>
        obtain ⟨k, rfl⟩ := hroom x .fast h
        split at e
        · exact ⟨sentSide_trans k (pushOut_sent e), fun _ => by decide⟩
        · exact absurd e (by simp)
      · split at h
        · obtain ⟨rfl, rfl, rfl⟩ : Tier.spill = t ∧ _ = l ∧ _ = u := by simpa [State.admitTo] using h
          exact ⟨sentSide_trans (sentSide_sched _ _) (admitTo_sent s .spill m.flacon dst n), fun _ => by decide⟩
        · split at h
          · obtain ⟨k, rfl⟩ := hroom s .resp h
            exact ⟨k, fun _ => by decide⟩
          · exact absurd h (by simp)

theorem noteAdmitted_sent {s u : State} (h : u.sentSide s) (src n : Nat) :
    (if src < 64 then u.noteAdmitted src n else u).sentSide s := by
  split
  · exact sentSide_trans (sentSide_core _ (by rfl) (by rfl) (by rfl)) h
  · exact h

/-- An admission takes room, and where it takes a cell of the snoop-writeback reserve the slice's snoop is charged. -/
theorem tryAdmit_cases {s u : State} {src dst : Nat} {m : Msg} {t : Tier} {l : List Nat} (h : s.tryAdmit src dst m = some (t, l, u)) :
    ∃ v : State, v.sentSide s ∧ (u.sentSide v ∨ s.wbCharged m dst = true ∧ u.sentSide (v.chargeWb m dst)) := by
  unfold State.tryAdmit at h
  split at h
  · exact absurd h (by simp)
  · split at h
    · exact absurd h (by simp)
    · split at h
      · exact absurd h (by simp)
      · split at h
        · exact absurd h (by simp)
        · next t' l' v e =>
          obtain ⟨k, hk⟩ := takeRoom_sent e
          refine ⟨v, k, ?_⟩
          split at h
          · next ht =>
            have hw : s.wbCharged m dst = true := by
              cases hb : s.wbCharged m dst with
              | true => rfl
              | false => exact absurd ht (hk hb)
            obtain ⟨-, -, rfl⟩ : t' = t ∧ l' = l ∧
                (if src < 64 then (v.chargeWb m dst).noteAdmitted src m.cells else v.chargeWb m dst) = u := by simpa using h
            exact .inr ⟨hw, noteAdmitted_sent (sentSide_refl _) ..⟩
          · obtain ⟨-, -, rfl⟩ : t' = t ∧ l' = l ∧ (if src < 64 then v.noteAdmitted src m.cells else v) = u := by simpa using h
            exact .inl (noteAdmitted_sent (sentSide_refl _) ..)

theorem wbCharged_port {s : State} {m : Msg} {dst : Nat} (h : dst < 128) : s.wbCharged m dst = false := by
  have h' : ¬128 ≤ dst := by omega
  simp [State.wbCharged, h']

theorem tryAdmit_sent {s u : State} {src dst : Nat} {m : Msg} {t : Tier} {l : List Nat} (hd : dst < 128)
    (h : s.tryAdmit src dst m = some (t, l, u)) : u.sentSide s := by
  obtain ⟨v, hv, hu | ⟨hw, -⟩⟩ := tryAdmit_cases h
  · exact sentSide_trans hu hv
  · rw [wbCharged_port hd] at hw
    exact absurd hw (by decide)

theorem sprayBacklog_sent (s : State) (k n : Nat) : (s.sprayBacklog k n).sentSide s := by
  induction n generalizing s with
  | zero => exact sentSide_refl s
  | succ n ih =>
    unfold State.sprayBacklog
    dsimp only
    split
    · exact sentSide_refl s
    · split
      · exact sentSide_refl s
      · split
        · exact sentSide_refl s
        · exact sentSide_trans (ih _) (sentSide_core s (by rfl) (by rfl) (by rfl))

theorem spray_sent (s : State) (c : Cell) : (s.spray c).sentSide s :=
  sentSide_trans (sprayBacklog_sent ..) (sentSide_core s (by rfl) (by rfl) (by rfl))

theorem sprays_sent (l : List Cell) (s : State) : (l.foldl (fun u c => u.spray c) s).sentSide s := by
  induction l generalizing s with
  | nil => exact sentSide_refl s
  | cons c r ih => exact sentSide_trans (ih _) (spray_sent s c)

theorem notePosted_sent (s : State) (m : Msg) (dst : Nat) : (s.notePosted m dst).sentSide s := by
  unfold State.notePosted
  split
  · exact sentSide_core s (by rfl) (by rfl) (by rfl)
  · exact sentSide_refl s

/-- A message goes whole: what its admission leaves, and the spraying. -/
theorem send?_cases {s t : State} {src dst : Nat} {m : Msg} {more : List Msg} {p : Option Nat} (h : s.send? src dst m more p = some t) :
    ∃ r l u, s.tryAdmit src dst m = some (r, l, u) ∧ t.sentSide u := by
  unfold State.send? at h
  split at h
  · exact absurd h (by simp)
  · next e =>
    obtain rfl := Option.some.inj h
    exact ⟨_, _, _, e, sentSide_trans (notePosted_sent ..) (sprays_sent ..)⟩

theorem send?_sent {s t : State} {src dst : Nat} {m : Msg} {more : List Msg} {p : Option Nat} (hd : dst < 128)
    (h : s.send? src dst m more p = some t) : t.sentSide s := by
  obtain ⟨_, _, _, e, k⟩ := send?_cases h
  exact sentSide_trans k (tryAdmit_sent hd e)

theorem waitBehind_length (s : State) (l : List Waiting) (w : Waiting) : (s.waitBehind l w).length = l.length + 1 := by
  have h := (List.takeWhile_prefix (l := l) fun x => decide (s.writeRank x.msg ≤ s.writeRank w.msg)).length_le
  unfold State.waitBehind
  split
  · simp only [List.length_append, List.length_cons, List.length_drop]
    omega
  · simp

theorem waiting_putWaiting_length (s : State) (k : Nat) {l : List Waiting} (h : (s.waiting k).length ≤ l.length) (i : Nat) :
    (s.waiting i).length ≤ ((s.putWaiting k l).waiting i).length := by
  cases l with
  | nil =>
    simp only [State.putWaiting, State.waiting, tabGet_tabDel]
    split
    · next e => rw [e]; exact h
    · exact le_rfl
  | cons x r =>
    simp only [State.putWaiting, State.waiting, tabGet_tabPut]
    split
    · next e => rw [e]; exact h
    · exact le_rfl

theorem putWaiting_sent (s : State) (k : Nat) {l : List Waiting} (h : (s.waiting k).length ≤ l.length) : (s.putWaiting k l).sentSide s :=
  ⟨rfl, rfl, ⟨rfl, rfl, waiting_putWaiting_length s k h⟩, fun _ _ => rfl⟩

theorem addWaiting_sent (s : State) (w : Waiting) : (s.addWaiting w).sentSide s :=
  sentSide_trans (sentSide_core _ (by rfl) (by rfl) (by rfl)) (putWaiting_sent s _ (by rw [waitBehind_length]; omega))

theorem makeWait_sent (s : State) (src dst : Nat) (m : Msg) (more : List Msg) : (s.makeWait src dst m more).sentSide s :=
  sentSide_addTo (addWaiting_sent ..) (by unfold Reg.FL_ADMIT_STALL; omega) _ _

/-- A message sent to a port. -/
theorem send_sent (s : State) {src dst : Nat} (m : Msg) (more : List Msg) (hd : dst < 128) : (s.send src dst m more).sentSide s := by
  unfold State.send
  split
  · exact makeWait_sent ..
  · split
    · next e => exact send?_sent hd e
    · exact makeWait_sent ..

theorem respSent_sent (s : State) (q t : Nat) : (s.respSent q t).sentSide s := by
  unfold State.respSent
  split
  · exact sentSide_refl s
  · unfold State.freeTag
    split
    · exact sentSide_core s (by rfl) (by rfl) (by rfl)
    · split
      · exact sentSide_trans (sentSide_acc _ _) (sentSide_trans (sentSide_core _ (by rfl) (by rfl) (by rfl)) (sentSide_core s (by rfl) (by rfl) (by rfl)))
      · exact sentSide_core s (by rfl) (by rfl) (by rfl)

/-- A slice's answer to a requester. -/
theorem sliceReply_sent (s : State) (n : Nat) (m : Msg) : (s.sliceReply n m).sentSide s := by
  unfold State.sliceReply
  split
  · next h =>
    split
    · exact send_sent s m [] h
    · split
      · exact respSent_sent ..
      · exact sentSide_refl s
  · exact sentSide_refl s

end Sys2Proof.Machine
end

section
/-!
## Answers and notices at home slices (O20)
-/
namespace Sys2Proof.Machine

/-! ### A message taken from a home queue -/

/-- The queue without its head cell, whose slot is free. -/
def State.headTaken (s : State) (n mc f : Nat) (c : Cell) (r : List Cell) : State :=
  (s.putQueue (homeQueue n mc f) r).freeCell c

theorem dropLost_whole {s : State} {q : Nat} {c : Cell} {r : List Cell} (hq : s.queue q = c :: r) (hh : c.hdrUe = false) :
    s.dropLost q = s := by
  simp only [State.dropLost, hq, List.takeWhile_cons, hh, Bool.false_eq_true, if_false, List.isEmpty_nil, if_true]

theorem homeList_free {s : State} {q : Nat} {l : List Cell} (hq : s.queue q = l) (hr : ∀ d ∈ l, onReserve d = false) :
    s.homeList q = l := by
  rw [State.homeList, hq, List.filter_eq_self]
  intro d hd
  rw [hr d hd]
  rfl

theorem reserve_none {l : List Cell} (hr : ∀ d ∈ l, onReserve d = false) : l.filter onReserve = [] := by
  rw [List.filter_eq_nil_iff]
  intro d hd
  rw [hr d hd]
  decide

theorem joinCells_single {c : Cell} (hp : c.payUe = false) (ht : c.tailBad = false) : joinCells c.msg [c] = c.msg := by
  simp only [joinCells, List.any_cons, List.any_nil, hp, ht, Bool.or_self, Bool.or_false, List.length_singleton, le_refl, if_true]

theorem takeHome_serves {s : State} {n mc f : Nat} {c : Cell} {r : List Cell} (h : s.serves n mc f c r)
    (h5 : ¬(c.msg.mc = 5 ∧ (!c.msg.io) = true)) :
    s.takeHome (homeQueue n mc f) = some (c.msg, none, s.headTaken n mc f c r) := by
  obtain ⟨hq, hk, hm, -, hp, ht, hr, -, -⟩ := h
  simp only [State.takeHome, homeList_free hq hr, State.takeFrom, hm, takeMsg, hk, Bool.not_true, Bool.false_eq_true, if_false,
    joinCells_single hp ht, if_neg h5, List.foldl_cons, List.foldl_nil, hq, reserve_none hr, List.nil_append, State.headTaken]

/-- An answer that its slice serves next is taken. -/
theorem takeAnswer_serves {s : State} {n mc f : Nat} {c : Cell} {r : List Cell} {mine : Msg → Bool} (k : Msg → State → State)
    (h : s.serves n mc f c r) (hm : mine c.msg = true) (h5 : ¬(c.msg.mc = 5 ∧ (!c.msg.io) = true)) :
    s.takeAnswer n mc f mine k = (k c.msg (s.headTaken n mc f c r)).runSlice n := by
  have ht := takeHome_serves h h5
  obtain ⟨hq, -, -, hh, -, -, hr, hg, hf⟩ := h
  have hd : s.homeHead (homeQueue n mc f) = some c.msg := by rw [State.homeHead, homeList_free hq hr]; rfl
  have hf' : (s.headTaken n mc f c r).sliceFenced n = false := by
    rw [← hf, State.headTaken, State.freeCell]
    split
    · cases c.tier <;> rfl
    · rfl
  simp only [State.takeAnswer, dropLost_whole hq hh, hd, hm, hg, ht, hf', Bool.not_true, Bool.false_eq_true, ne_eq, not_true, or_self,
    if_false]

/-- Only the core changes when a cell is freed. -/
theorem freeCell_core (s : State) (c : Cell) : ∃ x : CoreState, s.freeCell c = { s with core := x } ∧ x.queues = s.core.queues ∧
    x.wait = s.core.wait := by
  unfold State.freeCell
  split
  · cases c.tier <;> exact ⟨_, rfl, rfl, rfl⟩
  · exact ⟨s.core, rfl, rfl, rfl⟩

theorem headTaken_core (s : State) (n mc f : Nat) (c : Cell) (r : List Cell) : ∃ x : CoreState,
    s.headTaken n mc f c r = { s with core := x } ∧ tabGet x.queues (homeQueue n mc f) [] = r ∧ x.wait = s.core.wait := by
  obtain ⟨x, e, hq, hw⟩ := freeCell_core (s.putQueue (homeQueue n mc f) r) c
  refine ⟨x, e, ?_, hw⟩
  rw [hq]
  cases r with
  | nil =>
    change tabGet (tabDel s.core.queues (homeQueue n mc f)) (homeQueue n mc f) [] = []
    rw [tabGet, tabFind_tabDel, if_pos rfl]
    rfl
  | cons d l =>
    change tabGet (tabPut s.core.queues (homeQueue n mc f) (d :: l)) (homeQueue n mc f) [] = d :: l
    rw [tabGet_tabPut, if_pos rfl]

/-! ### A slice's tables -/

@[simp] theorem slice_putSlice (s : State) (n m : Nat) (x : SliceState) : (s.putSlice n x).slice m = if m = n then x else s.slice m :=
  tabGet_tabPut ..

theorem slice_putSlice_self (s : State) (n : Nat) (x : SliceState) : (s.putSlice n x).slice n = x :=
  (slice_putSlice s n n x).trans (if_pos rfl)

/-- A slice with one transaction, which neither can go on nor waits for a way, has nothing to do. -/
theorem runSlice_waits {s : State} {n : Nat} {t : Tracker} (h : (s.slice n).trackers = [t]) (hc : (s.slice n).conflict = [])
    (hr : t.ready = false) (hp : t.ph = .active ∨ t.ph = .reading) : s.runSlice n = s := by
  have hw : t.ph ≠ .way := by rcases hp with h | h <;> rw [h] <;> decide
  have hb : t.ph ≠ .between := by rcases hp with h | h <;> rw [h] <;> decide
  have e : s.sliceStep n = none := by
    simp only [State.sliceStep, h, hc, List.find?_cons, List.find?_nil, List.findIdx?_nil, hr, beq_eq_false_iff_ne.2 hw,
      beq_eq_false_iff_ne.2 hb, Bool.false_and]
  unfold State.runSlice
  cases s.sliceFuel n with
  | zero => rfl
  | succ k => rw [State.settleSlice, e]

theorem putTracker_one {s : State} {n : Nat} {t : Tracker} (h : (s.slice n).trackers = [t]) {u : Tracker} (hu : t.id = u.id) :
    s.putTracker n u = s.putSlice n { s.slice n with trackers := [u] } := by
  simp only [State.putTracker, State.modSlice, h, List.map_cons, List.map_nil, if_pos hu]

theorem tracker_one {s : State} {n : Nat} {t : Tracker} (h : (s.slice n).trackers = [t]) : s.tracker n t.id = some t := by
  simp only [State.tracker, SliceState.tracker, h, List.find?_cons, beq_self_eq_true]

theorem retryHeld_none {s : State} {n : Nat} (h : (s.slice n).held = []) : s.retryHeld n = s.putSlice n (s.slice n) := by
  have e : ({ s.slice n with held := [] } : SliceState) = s.slice n := by rw [← h]
  simp only [State.retryHeld, h, List.foldl_nil, State.modSlice, e]

theorem holder_one {s : State} {n f line : Nat} {t : Tracker} (h : (s.slice n).trackers = [t]) (hl : t.line = line)
    (hf : t.flacon = f) (hp : t.ph = .active) : s.holder n f line = some t := by
  simp only [State.holder, h, List.find?_cons, hl, hf, hp, beq_self_eq_true, Bool.and_self]
  rfl


/-! ### Answers, case by case -/

/-- u is s but for its home slices' tables. -/
def State.homeOnly (u s : State) : Prop := ∃ h, u = { s with home := h }

theorem homeOnly_trans {t u s : State} (h : t.homeOnly u) (k : u.homeOnly s) : t.homeOnly s := by
  obtain ⟨x, rfl⟩ := h
  obtain ⟨y, rfl⟩ := k
  exact ⟨x, rfl⟩

theorem homeOnly_putSlice (s : State) (n : Nat) (x : SliceState) : (s.putSlice n x).homeOnly s := ⟨_, rfl⟩

theorem homeOnly_reg {u s : State} (h : u.homeOnly s) (a : Nat) : u.reg a = s.reg a := by
  obtain ⟨x, rfl⟩ := h
  rfl

theorem homeOnly_queue {u s : State} (h : u.homeOnly s) (q : Nat) : u.queue q = s.queue q := by
  obtain ⟨x, rfl⟩ := h
  rfl

/-- Memory's data reaches a transaction that waits for snoops too. -/
theorem memData_waits {s : State} {n : Nat} {m : Msg} {t : Tracker} (h : (s.slice n).trackers = [t]) (hi : m.tag = t.id)
    (hp : t.ph = .active) (ht : t.topnote = false) : (s.memData n m).homeOnly s ∧ (s.memData n m).slice n = { s.slice n with
      trackers := [{ t with memOut := false, memData := some ((m.data[0]?).getD 0, m.poison) }] } := by
  have hg : t.ph ≠ .granted := by rw [hp]; decide
  have e : s.memData n m = s.putTracker n { t with memOut := false, memData := some ((m.data[0]?).getD 0, m.poison) } := by
    simp only [State.memData, hi, tracker_one h, if_neg hg, ht, Bool.false_and, Bool.false_eq_true, if_false]
  rw [e, putTracker_one h (u := { t with memOut := false, memData := some ((m.data[0]?).getD 0, m.poison) }) rfl]
  exact ⟨homeOnly_putSlice .., slice_putSlice_self ..⟩

/-- One of two snoops is answered. -/
theorem snoopAnswer_one {s : State} {n f line a b : Nat} {t : Tracker} (h : (s.slice n).trackers = [t]) (hh : (s.slice n).held = [])
    (hw : t.waits = [a, b]) (hp : t.ph = .active) (hl : t.line = line) (hf : t.flacon = f)
    (hs : (s.slice n).snoops = [{ line := line, flacon := f, eid := a, reserve := false }]) :
    (s.snoopAnswer n f Op.RSP_I line a).homeOnly s ∧ (s.snoopAnswer n f Op.RSP_I line a).slice n =
      { s.slice n with snoops := [], trackers := [{ t with waits := [b] }] } := by
  have hc : t.waits.contains a = true := by rw [hw]; simp
  have he : t.waits.erase a = [b] := by rw [hw]; simp
  have hd : ((s.modSlice n fun y => { y with snoops := [] }).slice n) = { s.slice n with snoops := [] } := slice_putSlice_self ..
  have hdh : ((s.modSlice n fun y => { y with snoops := [] }).slice n).held = [] := by rw [hd]; exact hh
  have hr : ((s.modSlice n fun y => { y with snoops := [] }).retryHeld n).slice n = { s.slice n with snoops := [] } := by
    rw [retryHeld_none hdh, slice_putSlice_self, hd]
  have ht : (((s.modSlice n fun y => { y with snoops := [] }).retryHeld n).slice n).trackers = [t] := by rw [hr]; exact h
  have e : s.snoopAnswer n f Op.RSP_I line a =
      ((s.modSlice n fun y => { y with snoops := [] }).retryHeld n).putTracker n { t with waits := [b] } := by
    have h1 : ¬(Op.RSP_I = Op.RSP_I_WB ∧ t.owner = some a) := fun x => absurd x.1 (by decide)
    have h2 : ¬(Op.RSP_I = Op.RSP_I_LOST ∧ t.owner = some a) := fun x => absurd x.1 (by decide)
    have h3 : ¬Op.RSP_I = Op.RSP_I_LOST := by decide
    have h4 : (t.ownerKeeps || (Op.RSP_I == Op.RSP_S && t.owner == some a)) = t.ownerKeeps := by
      rw [show (Op.RSP_I == Op.RSP_S) = false by decide, Bool.false_and, Bool.or_false]
    simp only [State.snoopAnswer, hs, holder_one h hl hf hp, List.find?_cons, beq_self_eq_true, Bool.and_self, if_true, hc,
      if_neg h1, if_neg h2, if_neg h3, h4, he, Bool.false_and, State.when, Bool.false_eq_true, if_false, List.erase_cons_head,
      State.modSlice]
  rw [e, putTracker_one ht (u := { t with waits := [b] }) rfl, hr]
  refine ⟨homeOnly_trans (homeOnly_putSlice ..) ?_, slice_putSlice_self ..⟩
  rw [retryHeld_none hdh]
  exact homeOnly_trans (homeOnly_putSlice ..) (homeOnly_putSlice ..)

/-- A write to memory that answers nobody has ended. -/
theorem memCmp_ends {s : State} {n : Nat} {m : Msg} {w : WritePend} (hs : s.slice n = { pend := [w] }) (he : m.err = false)
    (hl : w.line = lineOf m.addr) (hf : w.flacon = m.flacon) (ha : w.answer = none) (hq : w.sealSeq = none) (hc : w.cell = none)
    (hr : w.reserve = false) : (s.memCmp n m).homeOnly s ∧ (s.memCmp n m).slice n = {} := by
  have hy : (s.putSlice n {}).slice n = {} := slice_putSlice_self ..
  have hh : ((s.putSlice n {}).slice n).held = [] := by rw [hy]
  have hwa : ∀ u : State, u.writeAnswered n w false = u := fun u => by rw [State.writeAnswered, ha]
  have e : s.memCmp n m = (s.putSlice n {}).retryHeld n := by
    simp only [State.memCmp, hs, hl, hf, List.find?_cons, beq_self_eq_true, Bool.and_self, he, Bool.not_false, if_true,
      State.writeEnds, List.erase_cons_head, hc, State.freeCell?, hr, State.when, Bool.false_eq_true, if_false, hwa, hq, ite_self, hy,
      List.find?_nil]
  rw [e, retryHeld_none hh, hy]
  exact ⟨homeOnly_trans (homeOnly_putSlice ..) (homeOnly_putSlice ..), slice_putSlice_self ..⟩

/-- The last grant that a slice had out has gone. -/
theorem txDone_last {s : State} {n : Nat} {m : Msg} (hs : s.slice n = { notices := [(lineOf m.addr, m.dstEid)] }) :
    (s.txDone n m).homeOnly s ∧ (s.txDone n m).slice n = {} := by
  have hy : (s.putSlice n {}).slice n = {} := slice_putSlice_self ..
  have hh : ((s.putSlice n {}).slice n).held = [] := by rw [hy]
  have e : s.txDone n m = (s.putSlice n {}).retryHeld n := by
    simp only [State.txDone, State.modSlice, hs, List.erase_cons_head]
  rw [e, retryHeld_none hh, hy]
  exact ⟨homeOnly_trans (homeOnly_putSlice ..) (homeOnly_putSlice ..), slice_putSlice_self ..⟩


/-! ### Writebacks -/

theorem writebackTake_serves {s : State} {n f : Nat} {c : Cell} {r : List Cell} (h : s.serves n 5 f c r) (hi : c.msg.io = false)
    (hw : isWriteback c.msg.op = true) :
    s.writebackTake n f = ((s.putQueue (homeQueue n 5 f) r).writeback n c.msg (some c)).runSlice n := by
  obtain ⟨hq, -, -, hh, hp, ht, hr, hg, hf⟩ := h
  have hf' : (s.putQueue (homeQueue n 5 f) r).sliceFenced n = false := hf
  simp only [State.writebackTake, dropLost_whole hq hh, hg, homeList_free hq hr, hw, hi, Bool.not_false, Bool.and_self, if_true, hq,
    reserve_none hr, List.nil_append, joinCells_single hp ht, hf', Bool.not_true, Bool.false_eq_true, if_false]

/-- The slice without the record of the one snoop it had out. -/
def State.snoopClosed (s : State) (n : Nat) : State := (s.putSlice n {}).retryHeld n

theorem snoopClosed_spec (s : State) (n : Nat) : (s.snoopClosed n).homeOnly s ∧ (s.snoopClosed n).slice n = {} := by
  have hy : (s.putSlice n {}).slice n = {} := slice_putSlice_self ..
  have hh : ((s.putSlice n {}).slice n).held = [] := by rw [hy]
  rw [State.snoopClosed, retryHeld_none hh, hy]
  exact ⟨homeOnly_trans (homeOnly_putSlice ..) (homeOnly_putSlice ..), slice_putSlice_self ..⟩

/-- A writeback that answers the one snoop a slice has out, for a line without a transaction: its data is dropped, and where the
snooped endpoint was not the line's owner it is stray. -/
theorem writeback_late {s : State} {n : Nat} {m : Msg} {c : Cell} {x : SnoopRec} (hs : s.slice n = { snoops := [x] })
    (hm : m.op = Op.WB_SNP_I) (hl : x.line = lineOf m.addr) (he : x.eid = m.srcEid) (hf : x.flacon = m.flacon) (hr : x.reserve = false)
    (ht : s.acd.trk = []) (ho : x.owner = true → x.taken = true) (hc : onReserve c = false) :
    s.writeback n m (some c) =
      if x.owner then (s.snoopClosed n).freeCell c else ((s.snoopClosed n).freeCell c).strayWb n m := by
  have hc' : (c.tier == Tier.writeback) = false := hc
  have hn : s.holder n m.flacon (lineOf m.addr) = none := by rw [State.holder, hs]; rfl
  have hk : s.marksOn m.flacon (lineOf m.addr) = [] := by rw [State.marksOn, ht]; rfl
  have hsn : (m.op != Op.WB_DIRTY) = true := by rw [hm]; decide
  have hot : (x.owner && !x.taken) = false := by
    cases h : x.owner with
    | false => rfl
    | true => rw [ho h]; rfl
  simp only [State.writeback, hs, hn, hk, hsn, hl, he, hf, hr, hc', hot, List.find?_cons, List.find?_nil, beq_self_eq_true, Bool.and_self,
    Bool.true_and, Option.any_some, Option.isSome_some, Bool.false_eq_true, if_false, if_true, List.erase_cons_head, State.modSlice,
    Bool.false_and, State.when, State.dropWb, State.freeCell?, State.snoopClosed]

/-- What a stray writeback leaves at its slice. -/
theorem strayWb_spec {s : State} {n : Nat} (m : Msg) (hn : n < 64) : (s.strayWb n m).home = s.home ∧
    (s.strayWb n m).rd (Reg.HS_RACE n) Fld.HS_RACE.STRAY_WB =
      min (2 ^ Fld.HS_RACE.STRAY_WB.width - 1) (s.rd (Reg.HS_RACE n) Fld.HS_RACE.STRAY_WB + 1) := by
  have k := sliceReply_sent ((((s.set1 (Reg.HS_ERR n) Fld.HS_ERR.STRAY_WB).inc (Reg.HS_RACE n) Fld.HS_RACE.STRAY_WB).raiseAt
    Src.HS_STRAY_WB (some m.flacon) (recOf m 0 0))) n { replyTo m Op.CMP s.mgmtEid with slice := none }
  have hne : Reg.HS_RACE n ≠ Reg.HS_ERR n := by unfold Reg.HS_RACE Reg.HS_ERR; omega
  have hlt : Reg.HS_RACE n < 0x4000000 := by unfold Reg.HS_RACE; omega
  obtain ⟨k1, -, -, k3⟩ := k
  refine ⟨k1.trans ?_, ?_⟩
  · rw [raiseAt_home, inc_eq, addTo_eq, set1_eq, rest_home (rest_wr ..), rest_home (rest_wr ..)]
  · refine (rd_of_reg (k3 _ hlt) _).trans ?_
    rw [rd_of_reg (raiseAt_reg ..), inc_eq, rd_addTo _ _ _ _ (by decide), set1_eq, rd_wr_other _ _ _ _ _ _ (by decide) (.inl hne)]

/-! ### A conflict notice -/

/-- Whether a port takes messages depends on the Formula, the fences and the registers of ports. -/
theorem portTakes_of {u s : State} (hf : u.fml = s.fml) (ha : u.acc = s.acc)
    (hr : ∀ a, 0x4000 ≤ a % 0x10000 → u.reg a = s.reg a) (q : Nat) : u.portTakes q = s.portTakes q := by
  have hll : ∀ q, u.reg (Reg.PT_LL_STATUS q) = s.reg (Reg.PT_LL_STATUS q) := fun q => hr _ (by unfold Reg.PT_LL_STATUS; omega)
  have hst : ∀ q, u.reg (Reg.PT_STD_STATUS q) = s.reg (Reg.PT_STD_STATUS q) := fun q => hr _ (by unfold Reg.PT_STD_STATUS; omega)
  have hhp : ∀ q, u.reg (Reg.PT_HP_STATUS q) = s.reg (Reg.PT_HP_STATUS q) := fun q => hr _ (by unfold Reg.PT_HP_STATUS; omega)
  unfold State.portTakes State.portUp State.portShut State.portLingers State.tileFenced State.ideBlocks State.linkState
    State.hpState State.portRec
  rw [hf, ha]
  simp only [rd_of_reg (hll _), rd_of_reg (hst _), rd_of_reg (hhp _), on_of_reg (hst _)]

/-- Without a drain's write-out a message that waits goes to the end of its list; in a write-out too, where no sealed line is
written by it. -/
theorem waitBehind_unsealed {s : State} {l : List Waiting} {w : Waiting} (h : s.sealOf w.msg = none) : s.waitBehind l w = l ++ [w] := by
  unfold State.waitBehind
  split
  · have e : (l.takeWhile fun x => decide (s.writeRank x.msg ≤ s.writeRank w.msg)) = l := by
      rw [List.takeWhile_eq_self_iff]
      intro x _
      rw [decide_eq_true_eq, State.writeRank, State.writeRank, h]
      split
      · exact List.idxOf_le_length
      · exact le_refl _
    simp only [e, List.drop_length]
  · rfl

theorem waiting_putWaiting {s : State} {k : Nat} {l : List Waiting} (h : l ≠ []) : (s.putWaiting k l).waiting k = l := by
  cases l with
  | nil => exact absurd rfl h
  | cons w r => exact (tabGet_tabPut ..).trans (if_pos rfl)

/-- The message that joins a waiting list. -/
def waitingOf (s : State) (src dst : Nat) (m : Msg) : Waiting :=
  { msg := m, more := [], dst := dst, place := waitPlace src m, no := s.core.waitNo }

theorem makeWait_spec {s : State} {src dst : Nat} {m : Msg} (h : s.sealOf m = none) :
    (s.makeWait src dst m []).waiting (waitKey (waitPlace src m) m.mc) =
      s.waiting (waitKey (waitPlace src m) m.mc) ++ [waitingOf s src dst m] ∧
    (∀ q, (s.makeWait src dst m []).queue q = s.queue q) ∧
    ∀ a ≠ Reg.FL_ADMIT_STALL m.flacon, (s.makeWait src dst m []).reg a = s.reg a := by
  have hb : s.waitBehind (s.waiting (waitKey (waitPlace src m) m.mc)) (waitingOf s src dst m) =
      s.waiting (waitKey (waitPlace src m) m.mc) ++ [waitingOf s src dst m] := waitBehind_unsealed h
  have hc : (s.makeWait src dst m []).core = (s.addWaiting { msg := m, more := [], dst := dst, place := waitPlace src m }).core := by
    rw [State.makeWait, inc_eq, addTo_eq, rest_core (rest_wr ..)]
  refine ⟨?_, fun q => ?_, fun a ha => ?_⟩
  · rw [State.waiting, hc]
    change (s.putWaiting (waitKey (waitPlace src m) m.mc) (s.waitBehind (s.waiting (waitKey (waitPlace src m) m.mc))
      (waitingOf s src dst m))).waiting (waitKey (waitPlace src m) m.mc) = _
    rw [hb, waiting_putWaiting (by simp)]
  · rw [State.queue, hc]
    rfl
  · rw [State.makeWait, inc_eq, addTo_eq, reg_wr_ne ha]
    rfl


/-- The answer to a conflict notice, as its slice sends it. -/
def conflictAck (s : State) (m : Msg) : Msg := { replyTo m Op.BI_CONFLICT_ACK s.mgmtEid with slice := none }

/-- A conflict notice whose answer has others of its class before it. -/
theorem biConflict_waits {s : State} {n : Nat} {m : Msg} (hn : n < 64) (hp : m.port < 128) (ht : s.portTakes m.port = true)
    (hw : s.waiting (waitKey (128 + n) 1) ≠ []) :
    s.biConflict n m = (s.inc (Reg.HS_RACE n) Fld.HS_RACE.CONFLICT_ACK).makeWait (64 + n) m.port (conflictAck s m) [] := by
  have hr := rest_wr s (Reg.HS_RACE n) Fld.HS_RACE.CONFLICT_ACK
    (min (2 ^ Fld.HS_RACE.CONFLICT_ACK.width - 1) (s.rd (Reg.HS_RACE n) Fld.HS_RACE.CONFLICT_ACK + 1))
  have hk : ∀ a, 0x4000 ≤ a % 0x10000 → (s.wr (Reg.HS_RACE n) Fld.HS_RACE.CONFLICT_ACK
      (min (2 ^ Fld.HS_RACE.CONFLICT_ACK.width - 1) (s.rd (Reg.HS_RACE n) Fld.HS_RACE.CONFLICT_ACK + 1))).reg a = s.reg a :=
    fun a ha => reg_wr_ne (by unfold Reg.HS_RACE; omega) _ _ _
  have ht' : (s.inc (Reg.HS_RACE n) Fld.HS_RACE.CONFLICT_ACK).portTakes m.port = true := by
    rw [← ht]
    rw [inc_eq, addTo_eq]
    generalize s.wr (Reg.HS_RACE n) Fld.HS_RACE.CONFLICT_ACK _ = u at hr hk ⊢
    exact portTakes_of (u := u) (s := s) (congrArg State.fml hr :) (congrArg State.acc hr :) hk _
  have hpl : waitPlace (64 + n) (conflictAck s m) = 128 + n := by
    rw [waitPlace, if_pos (by omega)]
    omega
  have hw' : ((s.inc (Reg.HS_RACE n) Fld.HS_RACE.CONFLICT_ACK).waiting (waitKey (128 + n) 1)).isEmpty = false := by
    rw [State.waiting, inc_eq, addTo_eq, rest_core hr]
    exact List.isEmpty_eq_false_iff.2 hw
  have hs : (s.inc (Reg.HS_RACE n) Fld.HS_RACE.CONFLICT_ACK).sliceReply n (conflictAck s m) =
      (s.inc (Reg.HS_RACE n) Fld.HS_RACE.CONFLICT_ACK).send (64 + n) m.port (conflictAck s m) := by
    rw [State.sliceReply, if_pos (show (conflictAck s m).port < 128 from hp)]
    exact if_pos ht'
  have hmc : (conflictAck s m).mc = 1 := rfl
  rw [State.biConflict, ← conflictAck, hs, State.send, hpl, hmc, hw']
  rfl

theorem hasRaised_raiseAt_on (s : State) (n : Nat) (f : FlaconIx) (i : AccessRec) : (s.raiseAt n (some f.val) i).hasRaised n (some f) := by
  refine ⟨{ source := n, flacon := some f, info := i }, ?_, rfl, rfl⟩
  simp [State.raiseAt]

/-- A device's snoop of a shared address raises its source. -/
theorem deviceBisnp_shared {s : State} {q addr : Nat} (ltag : Nat) {p : PortRec} {d : DecoderRec} {f : FlaconIx}
    (hp : s.portRec q = some p) (hf : p.fabric = false) (hr : p.role = .downstream) (hu : s.portUp q = true)
    (hd : findDecoder (s.flAcc p.flacon).cur.decoders addr = some d) (hs : d.shared = true) (hfl : p.flacon = f.val) :
    (s.deviceBisnp q addr ltag).hasRaised Src.HS_DEV_BISNP (some f) := by
  have hsh : s.snoopsShared p.flacon addr = true := by rw [State.snoopsShared, hd]; exact hs
  simp only [State.deviceBisnp, hp, hf, hr, hu, hsh, ne_eq, not_true, Bool.not_true, Bool.false_eq_true, or_self, if_false]
  rw [hfl]
  exact hasRaised_raiseAt_on ..

/-! ### The directory query -/

/-- The result registers as a query opens them. -/
def State.queryOpen (s : State) (n : Nat) : State :=
  ((s.setReg (Reg.HS_QUERY_RESULT n) 0).setReg (Reg.HS_QUERY_SHARERS n) 0).set1 (Reg.HS_QUERY_RESULT n) Fld.HS_QUERY_RESULT.DONE

/-- A query's result shows DONE. -/
def State.queryDone (s : State) (n : Nat) : Prop := s.on (Reg.HS_QUERY_RESULT n) Fld.HS_QUERY_RESULT.DONE = true

theorem queryOpen_done (s : State) (n : Nat) : (s.queryOpen n).queryDone n := on_set1 _ _ _ (by decide) (by decide)

theorem queryDone_wr {s : State} {n : Nat} (h : s.queryDone n) {f : Fld} (hf : f.lo + f.width ≤ 64)
    (ha : f.apart Fld.HS_QUERY_RESULT.DONE = true) (x : Nat) : (s.wr (Reg.HS_QUERY_RESULT n) f x).queryDone n :=
  (on_wr_other _ _ _ _ _ _ hf (.inr ha)).trans h

theorem queryDone_sharers {s : State} {n : Nat} (h : s.queryDone n) (f : Fld) (x : Nat) :
    (s.wr (Reg.HS_QUERY_SHARERS n) f x).queryDone n :=
  (on_of_reg (reg_wr_ne (by unfold Reg.HS_QUERY_RESULT Reg.HS_QUERY_SHARERS; omega) _ _ _) _).trans h

/-- A query always ends. -/
theorem dirQuery_done (s : State) (n : Nat) : (s.dirQuery n).queryDone n := by
  have h := queryOpen_done s n
  have e : ((s.setReg (Reg.HS_QUERY_RESULT n) 0).setReg (Reg.HS_QUERY_SHARERS n) 0).set1 (Reg.HS_QUERY_RESULT n)
    Fld.HS_QUERY_RESULT.DONE = s.queryOpen n := rfl
  unfold State.dirQuery
  dsimp only
  rw [e]
  generalize s.queryOpen n = u at *
  split
  · exact queryDone_wr h (by decide) (by decide) _
  · split
    · exact queryDone_wr h (by decide) (by decide) _
    · have hw := fun b : Bool => queryDone_wr h (f := Fld.HS_QUERY_RESULT.WRONG_SLICE) (by decide) (by decide) (if b then 1 else 0)
      split
      · exact queryDone_wr (hw _) (by decide) (by decide) _
      · have hh := fun b x y => queryDone_wr (queryDone_wr (hw b) (f := Fld.HS_QUERY_RESULT.SET) (by decide) (by decide) x)
          (f := Fld.HS_QUERY_RESULT.TAG) (by decide) (by decide) y
        split
        · exact hh ..
        · have hp := fun b x y c d => queryDone_wr (queryDone_wr (hh b x y) (f := Fld.HS_QUERY_RESULT.HOT) (by decide) (by decide) c)
            (f := Fld.HS_QUERY_RESULT.WRITE_PEND) (by decide) (by decide) d
          split
          · exact hp ..
          · refine queryDone_sharers (queryDone_wr (queryDone_wr (queryDone_wr (queryDone_wr (hp _ _ _ _ _) ?_ ?_ _) ?_ ?_ _) ?_ ?_ _)
              ?_ ?_ _) _ _
            all_goals decide

/-- Without a Formula in force no address is shared. -/
theorem dirQuery_unshared {s : State} (h : s.fml.inForce = none) (n : Nat) :
    s.dirQuery n = (s.queryOpen n).set1 (Reg.HS_QUERY_RESULT n) Fld.HS_QUERY_RESULT.NOT_SHARED := by
  have hf : s.flaconRecs = [] := by rw [State.flaconRecs, h]
  simp only [State.dirQuery, hf, List.findSome?_nil, State.queryOpen]

theorem queryOpen_reg {s : State} {n a : Nat} (h1 : a ≠ Reg.HS_QUERY_RESULT n) (h2 : a ≠ Reg.HS_QUERY_SHARERS n) :
    (s.queryOpen n).reg a = s.reg a := by
  rw [State.queryOpen, set1_eq, reg_wr_ne h1, reg_setReg_ne _ _ _ _ h2, reg_setReg_ne _ _ _ _ h1]

/-- A result register opened holds DONE alone. -/
theorem queryOpen_other (s : State) (n : Nat) {f : Fld} (hf : Fld.HS_QUERY_RESULT.DONE.apart f = true) :
    (s.queryOpen n).on (Reg.HS_QUERY_RESULT n) f = false := by
  have hz : ((s.setReg (Reg.HS_QUERY_RESULT n) 0).setReg (Reg.HS_QUERY_SHARERS n) 0).reg (Reg.HS_QUERY_RESULT n) = 0 := by
    rw [reg_setReg_ne _ _ _ _ (by unfold Reg.HS_QUERY_RESULT Reg.HS_QUERY_SHARERS; omega), reg_setReg_same]
  rw [State.queryOpen, set1_eq, on_wr_other _ _ _ _ _ _ (by decide) (.inr hf), State.on, State.rd, hz, getFld]
  simp

/-! ### The clauses -/

theorem queue_putQueue (s : State) (q : Nat) (l : List Cell) : (s.putQueue q l).queue q = l := by
  cases l with
  | nil =>
    change tabGet (tabDel s.core.queues q) q [] = []
    rw [tabGet, tabFind_tabDel, if_pos rfl]
    rfl
  | cons d l => exact (tabGet_tabPut ..).trans (if_pos rfl)

theorem ready_waits {t : Tracker} (h : t.waits ≠ []) : t.ready = false := by
  simp only [Tracker.ready, List.isEmpty_eq_false_iff.2 h, Bool.and_false, Bool.false_and]

/-- The registers of a query. -/
def queryRegs (n : Nat) : List Nat := [Reg.HS_QUERY_ADDR n, Reg.HS_QUERY_RESULT n, Reg.HS_QUERY_SHARERS n]

theorem queryRegs_not_calm {n a : Nat} (h : a ∈ queryRegs n) : a ∉ calmRegs := by
  simp only [queryRegs, calmRegs, List.mem_cons, List.not_mem_nil, or_false] at h ⊢
  unfold Reg.HS_QUERY_ADDR Reg.HS_QUERY_RESULT Reg.HS_QUERY_SHARERS Reg.CHIP_MODE Reg.PC_SUPV_STATUS Reg.MG_FML_STATUS at *
  omega

/-- An answered query that found no address. -/
def State.queryMissed (s : State) (n addr : Nat) : State :=
  ((s.wr (Reg.HS_QUERY_ADDR n) Fld.HS_QUERY_ADDR.ADDR addr).queryOpen n).set1 (Reg.HS_QUERY_RESULT n) Fld.HS_QUERY_RESULT.NOT_SHARED

theorem queryMissed_eq {s : State} {n addr : Nat} (h : s.fml.inForce = none) :
    (s.wr (Reg.HS_QUERY_ADDR n) Fld.HS_QUERY_ADDR.ADDR addr).dirQuery n = s.queryMissed n addr := by
  have hr := rest_wr s (Reg.HS_QUERY_ADDR n) Fld.HS_QUERY_ADDR.ADDR addr
  unfold State.queryMissed
  generalize s.wr (Reg.HS_QUERY_ADDR n) Fld.HS_QUERY_ADDR.ADDR addr = u at *
  have hf : u.fml = s.fml := (congrArg State.fml hr :)
  exact dirQuery_unshared (by rw [hf]; exact h) n

theorem queryMissed_calm (s : State) (n addr : Nat) : (s.queryMissed n addr).calm s := by
  have h := fun a ha => queryRegs_not_calm (n := n) (a := a) ha
  simp only [queryRegs, List.mem_cons, List.not_mem_nil, or_false, forall_eq_or_imp, forall_eq] at h
  obtain ⟨h1, h2, h3⟩ := h
  unfold State.queryMissed State.queryOpen
  rw [set1_eq, set1_eq]
  exact calm_wr (calm_wr (calm_setReg (calm_setReg (calm_wr (calm_refl s) h1 _ _) h2 _) h3 _) h2 _ _) h2 _ _

theorem queryMissed_spec (s : State) (n : Nat) (a : BitVec 52) :
    (s.queryMissed n a.toNat).rd (Reg.HS_QUERY_ADDR n) Fld.HS_QUERY_ADDR.ADDR = a.toNat ∧ (s.queryMissed n a.toNat).queryDone n ∧
      (s.queryMissed n a.toNat).on (Reg.HS_QUERY_RESULT n) Fld.HS_QUERY_RESULT.NOT_SHARED = true ∧
      (s.queryMissed n a.toNat).on (Reg.HS_QUERY_RESULT n) Fld.HS_QUERY_RESULT.HIT = false ∧
      (s.queryMissed n a.toNat).regsBut s (queryRegs n) := by
  have h1 : Reg.HS_QUERY_ADDR n ≠ Reg.HS_QUERY_RESULT n := by unfold Reg.HS_QUERY_ADDR Reg.HS_QUERY_RESULT; omega
  have h2 : Reg.HS_QUERY_ADDR n ≠ Reg.HS_QUERY_SHARERS n := by unfold Reg.HS_QUERY_ADDR Reg.HS_QUERY_SHARERS; omega
  unfold State.queryMissed
  rw [set1_eq]
  refine ⟨?_, queryDone_wr (queryOpen_done ..) (by decide) (by decide) _, on_wr_one (by decide) (by decide) _ _, ?_, fun b hb => ?_⟩
  · rw [rd_of_reg ((reg_wr_ne h1 _ _ _).trans (queryOpen_reg h1 h2)), rd_wr _ _ _ _ (by decide)]
    exact Nat.mod_eq_of_lt a.isLt
  · rw [on_wr_other _ _ _ _ _ _ (by decide) (.inr (by decide))]
    exact queryOpen_other _ _ (by decide)
  · simp only [queryRegs, List.mem_cons, List.not_mem_nil, or_false, not_or] at hb
    obtain ⟨b1, b2, b3⟩ := hb
    rw [reg_wr_ne b2, queryOpen_reg b2 b3, reg_wr_ne b1]

theorem memDataArrival_leaves (s : State) (n : SliceIx) (f : FlaconIx) (c : Cell) (r : List Cell) (t : Tracker) :
    s.md.clocked = true →
  s.serves n.val 2 f.val c r → c.msg.mc = 2 → c.msg.op = Op.MEM_DATA → (s.slice n.val).trackers = [t] →
  (s.slice n.val).conflict = [] → c.msg.tag = t.id → t.ph = .active → t.waits ≠ [] → t.topnote = false →
  Leaves (exec (.memDataArrival n f) s) fun u =>
    u.queue (homeQueue n.val 2 f.val) = r ∧
    (u.slice n.val).trackers =
      [{ t with memOut := false, memData := some ((c.msg.data[0]?).getD 0, c.msg.poison) }] ∧ u.regsBut s [] := by
  intro hc hs hmc hop ht hcf hid hp hw htn
  refine leaves_clocked hc ?_
  obtain ⟨x, e, hq, -⟩ := headTaken_core s n.val 2 f.val c r
  rw [takeAnswer_serves _ hs rfl (fun h => by rw [hmc] at h; omega), if_pos hop, e]
  obtain ⟨k1, k2⟩ := memData_waits (s := { s with core := x }) ht hid hp htn
  have htr := congrArg SliceState.trackers k2
  rw [runSlice_waits htr ((congrArg SliceState.conflict k2).trans hcf) (ready_waits hw) (.inl hp)]
  exact ⟨(homeOnly_queue k1 _).trans hq, htr, fun a _ => homeOnly_reg k1 a⟩

theorem snoopAnswer_leaves (s : State) (n : SliceIx) (f : FlaconIx) (c : Cell) (r : List Cell) (t : Tracker) (a b : Nat) :
    s.md.clocked = true →
  s.serves n.val 1 f.val c r → c.msg.mc = 1 → c.msg.io = false → c.msg.op = Op.RSP_I → (s.slice n.val).trackers = [t] → (s.slice n.val).conflict = [] →
  (s.slice n.val).held = [] → c.msg.srcEid = a → a ≠ b → t.waits = [a, b] → t.ph = .active →
  t.line = lineOf c.msg.addr → t.flacon = c.msg.flacon →
  (s.slice n.val).snoops = [{ line := t.line, flacon := t.flacon, eid := a, reserve := false }] →
  Leaves (exec (.snoopAnswerArrival n f) s) fun u =>
    u.queue (homeQueue n.val 1 f.val) = r ∧ (u.slice n.val).snoops = [] ∧
    (u.slice n.val).trackers = [{ t with waits := [b] }] ∧ u.regsBut s [] := by
  intro hc hs hmc _ hop ht hcf hh ha _ hw hp hl hf hsn
  refine leaves_clocked hc ?_
  obtain ⟨x, e, hq, -⟩ := headTaken_core s n.val 1 f.val c r
  have hm : (c.msg.op != Op.MEM_CMP) = true := by rw [hop]; decide
  have hk : Op.RSP_I ≤ c.msg.op ∧ c.msg.op ≤ Op.RSP_I_LOST := by rw [hop]; decide
  rw [hl, hf] at hsn
  rw [takeAnswer_serves _ hs hm (fun h => by rw [hmc] at h; omega), if_pos hk, e, hop, ha]
  obtain ⟨k1, k2⟩ := snoopAnswer_one (s := { s with core := x }) ht hh hw hp hl hf hsn
  have htr := congrArg SliceState.trackers k2
  rw [runSlice_waits htr ((congrArg SliceState.conflict k2).trans hcf) (ready_waits (List.cons_ne_nil _ _)) (.inl hp)]
  exact ⟨(homeOnly_queue k1 _).trans hq, congrArg SliceState.snoops k2, htr, fun a _ => homeOnly_reg k1 a⟩

theorem writeback_owner_leaves (s : State) (n : SliceIx) (f : FlaconIx) (c : Cell) (r : List Cell) (x : SnoopRec) :
    s.md.clocked = true →
  s.serves n.val 5 f.val c r → c.msg.io = false → c.msg.op = Op.WB_SNP_I →
  s.slice n.val = { snoops := [x] } → x.line = lineOf c.msg.addr → x.eid = c.msg.srcEid → x.flacon = c.msg.flacon →
  x.reserve = false → s.acd.trk = [] → x.owner = true → x.taken = true →
  Leaves (exec (.writebackArrival n f) s) fun u =>
    u.queue (homeQueue n.val 5 f.val) = r ∧ u.slice n.val = {} ∧ u.regsBut s [] := by
  intro hc hs hi hop hsl hl he hf hr ht ho htk
  refine leaves_clocked hc ?_
  have hres : onReserve c = false := hs.2.2.2.2.2.2.1 c (List.mem_cons_self ..)
  rw [writebackTake_serves hs hi (by rw [hop]; decide),
    writeback_late (s := s.putQueue (homeQueue n.val 5 f.val) r) hsl hop hl he hf hr ht (fun _ => htk) hres, if_pos ho]
  obtain ⟨k1, k2⟩ := snoopClosed_spec (s.putQueue (homeQueue n.val 5 f.val) r) n.val
  obtain ⟨x, e, hq, -⟩ := freeCell_core ((s.putQueue (homeQueue n.val 5 f.val) r).snoopClosed n.val) c
  rw [e, runSlice_idle (s := { (s.putQueue (homeQueue n.val 5 f.val) r).snoopClosed n.val with core := x }) (k2 ▸ ⟨rfl, rfl⟩)]
  refine ⟨?_, k2, fun a _ => (homeOnly_reg k1 a : _)⟩
  rw [State.queue, hq]
  exact (homeOnly_queue k1 _).trans (queue_putQueue ..)

theorem writeback_stray_leaves (s : State) (n : SliceIx) (f : FlaconIx) (c : Cell) (r : List Cell) (x : SnoopRec) :
    s.md.clocked = true →
  s.serves n.val 5 f.val c r → c.msg.io = false → c.msg.op = Op.WB_SNP_I →
  s.slice n.val = { snoops := [x] } → x.line = lineOf c.msg.addr → x.eid = c.msg.srcEid → x.flacon = c.msg.flacon →
  x.reserve = false → s.acd.trk = [] → x.owner = false →
  Leaves (exec (.writebackArrival n f) s) fun u =>
    (u.slice n.val).snoops = [] ∧
    u.rd (Reg.HS_RACE n.val) Fld.HS_RACE.STRAY_WB =
      min (2 ^ Fld.HS_RACE.STRAY_WB.width - 1) (s.rd (Reg.HS_RACE n.val) Fld.HS_RACE.STRAY_WB + 1) := by
  intro hc hs hi hop hsl hl he hf hr ht ho
  refine leaves_clocked hc ?_
  have hres : onReserve c = false := hs.2.2.2.2.2.2.1 c (List.mem_cons_self ..)
  rw [writebackTake_serves hs hi (by rw [hop]; decide), writeback_late (s := s.putQueue (homeQueue n.val 5 f.val) r) hsl hop hl he hf hr ht
    (fun h => absurd h (by rw [ho]; decide)) hres, ho, if_neg (by decide)]
  obtain ⟨k1, k2⟩ := snoopClosed_spec (s.putQueue (homeQueue n.val 5 f.val) r) n.val
  obtain ⟨x, e, -, -⟩ := freeCell_core ((s.putQueue (homeQueue n.val 5 f.val) r).snoopClosed n.val) c
  obtain ⟨w1, w2⟩ := strayWb_spec (s := ((s.putQueue (homeQueue n.val 5 f.val) r).snoopClosed n.val).freeCell c) c.msg n.isLt
  generalize hu : (((s.putQueue (homeQueue n.val 5 f.val) r).snoopClosed n.val).freeCell c).strayWb n.val c.msg = u at *
  have hsl' : u.slice n.val = {} := by rw [State.slice, w1, e]; exact k2
  rw [runSlice_idle (hsl' ▸ ⟨rfl, rfl⟩)]
  refine ⟨congrArg SliceState.snoops hsl', w2.trans ?_⟩
  rw [rd_of_reg (show _ = s.reg (Reg.HS_RACE n.val) from by rw [e]; exact homeOnly_reg k1 _)]

theorem memCmp_leaves (s : State) (n : SliceIx) (f : FlaconIx) (c : Cell) (r : List Cell) (w : WritePend) :
    s.md.clocked = true →
  s.serves n.val 1 f.val c r → c.msg.mc = 1 → c.msg.err = false → c.msg.op = Op.MEM_CMP → s.slice n.val = { pend := [w] } →
  w.line = lineOf c.msg.addr → w.flacon = c.msg.flacon → w.answer = none → w.sealSeq = none → w.cell = none →
  w.reserve = false →
  Leaves (exec (.memCmpArrival n f) s) fun u =>
    u.queue (homeQueue n.val 1 f.val) = r ∧ u.slice n.val = {} ∧ u.regsBut s [] := by
  intro hc hs hmc he hop hsl hl hf ha hq hcl hr
  refine leaves_clocked hc ?_
  obtain ⟨x, e, hqu, -⟩ := headTaken_core s n.val 1 f.val c r
  rw [takeAnswer_serves _ hs (by rw [hop]; decide) (fun h => by rw [hmc] at h; omega), e]
  obtain ⟨k1, k2⟩ := memCmp_ends (s := { s with core := x }) hsl he hl hf ha hq hcl hr
  rw [runSlice_idle (k2 ▸ ⟨rfl, rfl⟩)]
  exact ⟨(homeOnly_queue k1 _).trans hqu, k2, fun a _ => homeOnly_reg k1 a⟩

theorem biConflict_leaves (s : State) (n : SliceIx) (f : FlaconIx) (c : Cell) (r : List Cell) :
    s.md.clocked = true →
  s.serves n.val 4 f.val c r → c.msg.mc = 4 → c.msg.io = false → c.msg.op = Op.BI_CONFLICT → s.slice n.val = {} → c.msg.port < 128 → c.msg.flacon < 32 →
  s.portTakes c.msg.port = true → s.waiting (waitKey (128 + n.val) 1) ≠ [] →
  Leaves (exec (.biConflict n f) s) fun u =>
    u.queue (homeQueue n.val 4 f.val) = r ∧
    u.rd (Reg.HS_RACE n.val) Fld.HS_RACE.CONFLICT_ACK =
      min (2 ^ Fld.HS_RACE.CONFLICT_ACK.width - 1) (s.rd (Reg.HS_RACE n.val) Fld.HS_RACE.CONFLICT_ACK + 1) ∧
    (∃ w, u.waiting (waitKey (128 + n.val) 1) = s.waiting (waitKey (128 + n.val) 1) ++ [w] ∧
      w.msg.op = Op.BI_CONFLICT_ACK ∧ w.dst = c.msg.port ∧ w.msg.addr = c.msg.addr) := by
  intro hc hs hmc hi hop hsl hp hfl htk hwt
  refine leaves_clocked hc ?_
  obtain ⟨x, e, hqu, hxw⟩ := headTaken_core s n.val 4 f.val c r
  have hmine : (!c.msg.io && c.msg.op == Op.BI_CONFLICT) = true := by rw [hi, hop]; decide
  have htk' : ({ s with core := x } : State).portTakes c.msg.port = true :=
    (portTakes_of (u := { s with core := x }) (s := s) rfl rfl (fun _ _ => rfl) _).trans htk
  have hwt' : ({ s with core := x } : State).waiting (waitKey (128 + n.val) 1) = s.waiting (waitKey (128 + n.val) 1) := by
    rw [State.waiting, State.waiting, hxw]
  rw [takeAnswer_serves _ hs hmine (fun h => by rw [hmc] at h; omega), e,
    biConflict_waits (s := { s with core := x }) n.isLt hp htk' (by rw [hwt']; exact hwt)]
  generalize hv : ({ s with core := x } : State) = v at *
  have hpl : waitPlace (64 + n.val) (conflictAck v c.msg) = 128 + n.val := by
    rw [waitPlace, if_pos (by omega)]
    omega
  have hr := rest_wr v (Reg.HS_RACE n.val) Fld.HS_RACE.CONFLICT_ACK
    (min (2 ^ Fld.HS_RACE.CONFLICT_ACK.width - 1) (v.rd (Reg.HS_RACE n.val) Fld.HS_RACE.CONFLICT_ACK + 1))
  obtain ⟨k1, k2, k3⟩ := makeWait_spec (s := v.inc (Reg.HS_RACE n.val) Fld.HS_RACE.CONFLICT_ACK) (src := 64 + n.val)
    (dst := c.msg.port) (m := conflictAck v c.msg) rfl
  have hcnt := rd_addTo v (Reg.HS_RACE n.val) 1 Fld.HS_RACE.CONFLICT_ACK (by decide)
  rw [hpl] at k1
  have hh := (makeWait_sent (v.inc (Reg.HS_RACE n.val) Fld.HS_RACE.CONFLICT_ACK) (64 + n.val) c.msg.port (conflictAck v c.msg) []).1
  have hne : Reg.HS_RACE n.val ≠ Reg.FL_ADMIT_STALL c.msg.flacon := by
    have := n.isLt
    unfold Reg.HS_RACE Reg.FL_ADMIT_STALL
    omega
  have k3' := k3 _ hne
  clear k3
  rw [inc_eq] at *
  generalize (v.addTo (Reg.HS_RACE n.val) Fld.HS_RACE.CONFLICT_ACK 1).makeWait (64 + n.val) c.msg.port (conflictAck v c.msg) [] = u at *
  have hsl' : u.slice n.val = {} := by
    rw [State.slice, hh, addTo_eq, rest_home hr, ← hv]
    exact hsl
  rw [runSlice_idle (hsl' ▸ ⟨rfl, rfl⟩)]
  refine ⟨?_, ?_, waitingOf (v.addTo (Reg.HS_RACE n.val) Fld.HS_RACE.CONFLICT_ACK 1) (64 + n.val) c.msg.port (conflictAck v c.msg),
    k1.trans ?_, rfl, rfl, rfl⟩
  · rw [k2, State.queue, addTo_eq, rest_core hr, ← hv]
    exact hqu
  · rw [rd_of_reg k3', hcnt, ← hv]
    rfl
  · rw [← hwt', State.waiting, addTo_eq, rest_core hr, ← hv]
    rfl

theorem txDone_leaves (s : State) (n : SliceIx) (f : FlaconIx) (c : Cell) (r : List Cell) :
    s.md.clocked = true →
  s.serves n.val 0 f.val c r → c.msg.mc = 0 → c.msg.op = Op.TX_DONE →
  s.slice n.val = { notices := [(lineOf c.msg.addr, c.msg.dstEid)] } →
  Leaves (exec (.txDone n f) s) fun u =>
    u.queue (homeQueue n.val 0 f.val) = r ∧ u.slice n.val = {} ∧ u.regsBut s [] := by
  intro hc hs hmc hop hsl
  refine leaves_clocked hc ?_
  obtain ⟨x, e, hqu, -⟩ := headTaken_core s n.val 0 f.val c r
  rw [takeAnswer_serves _ hs rfl (fun h => by rw [hmc] at h; omega), if_pos hop, e]
  obtain ⟨k1, k2⟩ := txDone_last (s := { s with core := x }) hsl
  rw [runSlice_idle (k2 ▸ ⟨rfl, rfl⟩)]
  exact ⟨(homeOnly_queue k1 _).trans hqu, k2, fun a _ => homeOnly_reg k1 a⟩

theorem deviceBisnp_leaves (s : State) (q : PortIx) (p : PortRec) (addr ltag : Nat) (f : FlaconIx) (d : DecoderRec) :
    s.md.clocked = true →
  s.portRec q.val = some p → p.fabric = false → p.role = .downstream → s.portUp q.val = true → p.flacon = f.val →
  findDecoder (s.flAcc p.flacon).cur.decoders addr = some d → d.shared = true →
  Leaves (exec (.deviceBisnp q addr ltag) s) fun u => u.hasRaised Src.HS_DEV_BISNP (some f) := by
  intro hc hp hf hr hu hfl hd hs
  refine leaves_clocked (k := fun t => t.deviceBisnp q.val addr ltag) hc ?_
  exact deviceBisnp_shared ltag hp hf hr hu hd hs hfl

theorem hsQuery_answers (s : State) (p : AccessPath) (n : SliceIx) (a : BitVec 52) :
    s.quiet = true → s.mayAct p = true → s.fml.inForce = none →
  Answers (exec (.hsQuery p n a) s) fun t =>
    t.rd (Reg.HS_QUERY_ADDR n.val) Fld.HS_QUERY_ADDR.ADDR = a.toNat ∧
    t.on (Reg.HS_QUERY_RESULT n.val) Fld.HS_QUERY_RESULT.DONE = true ∧
    t.on (Reg.HS_QUERY_RESULT n.val) Fld.HS_QUERY_RESULT.NOT_SHARED = true ∧
    t.on (Reg.HS_QUERY_RESULT n.val) Fld.HS_QUERY_RESULT.HIT = false ∧
    t.regsBut s [Reg.HS_QUERY_ADDR n.val, Reg.HS_QUERY_RESULT n.val, Reg.HS_QUERY_SHARERS n.val] := by
  intro hq ha hn
  refine written_answers_of (k := fun t => (t.wr (Reg.HS_QUERY_ADDR n.val) Fld.HS_QUERY_ADDR.ADDR a.toNat).dirQuery n.val) ha fun x => ?_
  rw [queryMissed_eq (s := s.withHold x) hn]
  have hcalm := calm_trans (queryMissed_calm (s.withHold x) n.val a.toNat) (calm_withHold s x)
  obtain ⟨k1, k2, k3, k4, k5⟩ := queryMissed_spec (s.withHold x) n.val a
  generalize (s.withHold x).queryMissed n.val a.toNat = u at *
  refine answers_store (calm_quiet hcalm hq) fun t hreg _ _ => ⟨(rd_of_reg (hreg _) _).trans k1, (on_of_reg (hreg _) _).trans k2,
    (on_of_reg (hreg _) _).trans k3, (on_of_reg (hreg _) _).trans k4, fun b hb => (hreg b).trans (k5 b hb)⟩

theorem hsQuery_leaves (s : State) (p : AccessPath) (n : SliceIx) (a : BitVec 52) :
    s.mayAct p = true →
  Leaves (exec (.hsQuery p n a) s) fun u => u.on (Reg.HS_QUERY_RESULT n.val) Fld.HS_QUERY_RESULT.DONE = true := by
  intro ha
  refine written_leaves_of (k := fun t => (t.wr (Reg.HS_QUERY_ADDR n.val) Fld.HS_QUERY_ADDR.ADDR a.toNat).dirQuery n.val) ha fun x => ?_
  exact dirQuery_done ..

/-- Settles O20: the head message is taken (`takeAnswer_serves`, `writebackTake_serves`), its effect is an equation on the slice, and what
is left there has nothing more to do. -/
theorem sliceAnswers : Obligations.SliceAnswers :=
  ⟨memDataArrival_leaves, snoopAnswer_leaves, writeback_owner_leaves, writeback_stray_leaves, 
    memCmp_leaves, biConflict_leaves, txDone_leaves, deviceBisnp_leaves, hsQuery_answers, hsQuery_leaves⟩


end Sys2Proof.Machine
end

section
/-!
What the engines keep (Keeping): access checks, sending, the mirror, Accords and the operations of a home slice.
-/
namespace Sys2Proof.Machine

/-- A relation between a later state and an earlier one that holds of steps which touch neither the fences, the gates, the
directory nor the mode and shorten no waiting list; of changes of a slice that leave its bad sets; and of changes of the gates
where some slice has a directory. -/
structure Keeping (R : State → State → Prop) : Prop where
  refl : ∀ s, R s s
  trans : ∀ {t u s}, R t u → R u s → R t s
  step : ∀ {t u : State}, t.core.sentSide u.core → t.home = u.home → t.reg Reg.CHIP_MODE = u.reg Reg.CHIP_MODE → R t u
  slice : ∀ (u : State) (n : Nat) (x : SliceState), x.bad = (u.slice n).bad → R (u.putSlice n x) u
  gate : ∀ {t u : State}, t.core.fences = u.core.fences → t.core.wait = u.core.wait → t.home = u.home →
    t.reg Reg.CHIP_MODE = u.reg Reg.CHIP_MODE → u.home ≠ [] → R t u

section
variable {R : State → State → Prop} {u s : State}

theorem kept_foldl {α : Type} (h : R u s) {f : State → α → State} (hf : ∀ t x, R t s → R (f t x) s) (l : List α) :
    R (l.foldl f u) s := by
  induction l generalizing u with
  | nil => exact h
  | cons x r ih => exact ih (hf _ _ h)

theorem kept_when (h : R u s) (b : Bool) {f : State → State} (hf : ∀ t, R t s → R (f t) s) :
    R (u.when b f) s := by
  unfold State.when
  split
  · exact hf _ h
  · exact h

theorem kept_ite (h : R u s) {t : State} (k : R t s) (c : Prop) [Decidable c] : R (if c then t else u) s := by
  split
  · exact k
  · exact h

variable (K : Keeping R)
include K

/-! ### What the engines keep -/

theorem kept_core (h : R u s) {x : CoreState} (hf : x.fences = u.core.fences) (hg : x.gate = u.core.gate) (hw : x.wait = u.core.wait) :
    R ({ u with core := x } : State) s :=
  K.trans (K.step (coreSide_of hf hg hw) rfl rfl) h

theorem kept_gate (h : R u s) (hn : u.home ≠ []) {x : CoreState} (hf : x.fences = u.core.fences) (hw : x.wait = u.core.wait) :
    R ({ u with core := x } : State) s :=
  K.trans (K.gate hf hw rfl rfl hn) h

theorem kept_same (h : R u s) {t : State} (hc : t.core = u.core) (hh : t.home = u.home) (hr : ∀ a, t.reg a = u.reg a) :
    R t s :=
  K.trans (K.step (hc ▸ coreSide_refl _) hh (hr _)) h

theorem kept_sent (h : R u s) {t : State} (k : t.sentSide u) : R t s := by
  obtain ⟨k1, -, k3, k4⟩ := k
  exact K.trans (K.step k3 k1 (k4 _ (by decide))) h

theorem kept_modAcd (h : R u s) (g : AccordState → AccordState) : R (u.modAcd g) s := kept_same K h rfl rfl fun _ => rfl
theorem kept_modAcc (h : R u s) (f : Nat) (g : FlAccess → FlAccess) : R (u.modAcc f g) s := kept_same K h rfl rfl fun _ => rfl
theorem kept_acc (h : R u s) (x : AccessState) : R ({ u with acc := x } : State) s := kept_same K h rfl rfl fun _ => rfl
theorem kept_sched (h : R u s) (x : SchedState) : R ({ u with sched := x } : State) s := kept_same K h rfl rfl fun _ => rfl
theorem kept_flt (h : R u s) (x : FaultState) : R ({ u with flt := x } : State) s := kept_same K h rfl rfl fun _ => rfl
theorem kept_emit (h : R u s) (o : Out) : R (u.emit o) s := kept_same K h rfl rfl fun _ => rfl
theorem kept_raiseAt (h : R u s) (n : Nat) (f : Option Nat) (i : AccessRec) : R (u.raiseAt n f i) s := kept_flt K h _
theorem kept_raise (h : R u s) (n : Nat) (f : Option Nat) : R (u.raise n f) s := kept_flt K h _

theorem kept_setReg (h : R u s) {a : Nat} (ha : 0x11 ≤ a) (v : Word) : R (u.setReg a v) s :=
  K.trans (u := u) (t := u.setReg a v)
    (K.step (coreSide_refl _) rfl (reg_setReg_ne _ _ _ _ (by unfold Reg.CHIP_MODE; omega))) h
theorem kept_wr (h : R u s) {a : Nat} (ha : 0x11 ≤ a) (f : Fld) (x : Nat) : R (u.wr a f x) s := kept_setReg K h ha _
theorem kept_set1 (h : R u s) {a : Nat} (ha : 0x11 ≤ a) (f : Fld) : R (u.set1 a f) s := kept_setReg K h ha _
theorem kept_set0 (h : R u s) {a : Nat} (ha : 0x11 ≤ a) (f : Fld) : R (u.set0 a f) s := kept_setReg K h ha _
theorem kept_addTo (h : R u s) {a : Nat} (ha : 0x11 ≤ a) (f : Fld) (n : Nat) : R (u.addTo a f n) s := kept_setReg K h ha _
theorem kept_inc (h : R u s) {a : Nat} (ha : 0x11 ≤ a) (f : Fld) : R (u.inc a f) s := kept_setReg K h ha _

theorem kept_putSlice (h : R u s) (n : Nat) {x : SliceState} (hx : x.bad = (u.slice n).bad) : R (u.putSlice n x) s :=
  K.trans (K.slice u n x hx) h

theorem kept_modSlice (h : R u s) (n : Nat) {g : SliceState → SliceState} (hg : ∀ x, (g x).bad = x.bad) :
    R (u.modSlice n g) s := kept_putSlice K h n (hg _)

/-! ### Access checks -/

theorem putRec_kept (h : R u s) {a : Nat} (ha : 0x11 ≤ a) (r : AccessRec) : R (u.putRec a r) s :=
  kept_foldl h (fun _ _ k => kept_setReg K k (by omega) _) _

theorem deny_kept (h : R u s) (f : Nat) (r : AccessRec) : R (u.deny f r) s := by
  have k := fun r' => kept_inc K (kept_raiseAt K h Src.FL_ACCESS_DENIED (some f) r') (a := Reg.FL_VIOL_CNT f)
    (by unfold Reg.FL_VIOL_CNT; omega) Fld.FL_VIOL_CNT.REPORTS
  unfold State.deny
  dsimp only
  split
  · exact kept_inc K (k _) (by unfold Reg.FL_VIOL_CNT; omega) _
  · exact kept_set1 K (putRec_kept K (k _) (by unfold Reg.FL_VIOL; omega) _) (by unfold Reg.FL_VIOL_CTL; omega) _

theorem denyParts_kept (h : R u s) (m : Msg) (k n : Nat) (l : List Part) : R (u.denyParts m k n l) s := by
  unfold State.denyParts
  split
  · exact h
  · exact deny_kept K (kept_when h _ fun _ k => kept_raiseAt K k ..) ..

theorem repairRegion_kept (h : R u s) (t f i : Nat) : R (u.repairRegion t f i) s := by
  unfold State.repairRegion
  dsimp only
  split
  · exact kept_raise K h ..
  · split
    · exact h
    · exact kept_raise K (kept_acc K h _) ..

theorem touchRegion_kept (h : R u s) (t i : Nat) (p : Bool) : R (u.touchRegion t i p) s := by
  unfold State.touchRegion
  refine kept_acc K (kept_when ?_ _ fun _ k => kept_inc K k (by unfold Reg.TL_RCACHE_ERR; omega) _) _
  split
  · exact kept_inc K h (by unfold Reg.TL_RCACHE; omega) _
  · exact kept_inc K h (by unfold Reg.TL_RCACHE; omega) _

theorem lookupRegions_kept (h : R u s) (f t : Nat) (e : LookupEnv) (a b : Nat) : R (u.lookupRegions f t e a b) s := by
  unfold State.lookupRegions
  refine kept_foldl (kept_when (kept_acc K h _) _ fun _ k => kept_inc K k (by unfold Reg.TL_RCACHE_ERR; omega) _) (fun v x k => ?_) _
  exact touchRegion_kept K (kept_ite (repairRegion_kept K k ..) k _) ..

/-! ### Sending -/

theorem freeCell_kept (h : R u s) (c : Cell) : R (u.freeCell c) s := kept_sent K h (freeCell_sent u c)

theorem freeCell?_kept (h : R u s) (c : Option Cell) : R (u.freeCell? c) s := by
  cases c with
  | none => exact h
  | some c => exact freeCell_kept K h c

theorem respSent_kept (h : R u s) (q t : Nat) : R (u.respSent q t) s := kept_sent K h (respSent_sent ..)

theorem freeTag_kept (h : R u s) (q t : Nat) : R (u.freeTag q t) s := by
  unfold State.freeTag
  split
  · exact h
  · split
    · exact kept_modAcc K (kept_core K h (by rfl) (by rfl) (by rfl)) ..
    · exact h

theorem setGate_kept (h : R u s) (hn : u.home ≠ []) (q t : Nat) (g : Option GateEnt) : R (u.setGate q t g) s := by
  cases g with
  | none => exact freeTag_kept K (kept_gate K h hn (by rfl) (by rfl)) ..
  | some e => exact kept_gate K h hn (by rfl) (by rfl)

theorem gateLost_kept (h : R u s) (hn : u.home ≠ []) (m : Msg) : R (u.gateLost m).2 s := by
  have k : R (u.setGate m.port m.tag none) s := setGate_kept K h hn ..
  unfold State.gateLost
  split
  · split
    · exact k
    · split
      · exact k
      · exact h
  · exact h

theorem chargeWb_kept (h : R u s) (m : Msg) (d : Nat) : R (u.chargeWb m d) s := by
  unfold State.chargeWb
  dsimp only
  split
  · exact h
  · exact kept_putSlice K h (d - 128) rfl

theorem tryAdmit_kept (h : R u s) {src dst : Nat} {m : Msg} {r : Tier} {l : List Nat} {t : State}
    (e : u.tryAdmit src dst m = some (r, l, t)) : R t s := by
  obtain ⟨v, hv, k | ⟨-, k⟩⟩ := tryAdmit_cases e
  · exact kept_sent K (kept_sent K h hv) k
  · exact kept_sent K (chargeWb_kept K (kept_sent K h hv) ..) k

theorem send_kept (h : R u s) (src dst : Nat) (m : Msg) (l : List Msg) : R (u.send src dst m l) s := by
  unfold State.send
  split
  · exact kept_sent K h (makeWait_sent ..)
  · split
    · next e =>
      obtain ⟨_, _, _, e', k⟩ := send?_cases e
      exact kept_sent K (tryAdmit_kept K h e') k
    · exact kept_sent K h (makeWait_sent ..)

theorem enqueue_kept (h : R u s) (c : Cell) : R (u.enqueue c) s := by
  unfold State.enqueue
  exact kept_core K (kept_ite h (kept_sched K h _) _) (by rfl) (by rfl) (by rfl)

theorem sendReply_kept (h : R u s) (src : Nat) (m : Msg) : R (u.sendReply src m) s := by
  unfold State.sendReply
  split
  · exact h
  · split
    · exact enqueue_kept K h _
    · split
      · exact kept_ite h (respSent_kept K h ..) _
      · exact send_kept K h ..

theorem endPosted_kept (h : R u s) (m : Msg) : R (u.endPosted m) s := by
  unfold State.endPosted
  dsimp only
  split
  · exact kept_core K (kept_modAcc K h ..) (by rfl) (by rfl) (by rfl)
  · exact kept_modAcc K h ..

theorem wbReturn_kept (h : R u s) (n : Nat) : R (u.wbReturn n) s := kept_core K h (by rfl) (by rfl) (by rfl)

theorem snoopFlushed_kept (h : R u s) (m : Msg) : R (u.snoopFlushed m) s := by
  unfold State.snoopFlushed
  dsimp only
  split
  · exact h
  · split
    · exact h
    · exact wbReturn_kept K (u := u.putSlice _ _) (kept_putSlice K h _ (by rfl)) _

/-- An answer ends only where some slice has a directory: what ends may free its gate. -/
def State.endsGateless (s : State) (m : Msg) : Prop := m.mc = 1 ∨ m.mc = 2 → s.home ≠ []

theorem endMsg_kept (h : R u s) {m : Msg} (hm : u.endsGateless m) (src : Nat) (b : Bool) : R (u.endMsg src m b) s := by
  unfold State.endMsg
  dsimp only
  split
  · next hc =>
    have k := gateLost_kept K h (hm hc) m
    split
    · exact kept_ite k (respSent_kept K k ..) _
    · exact h
  · split
    · exact h
    · split
      · exact endPosted_kept K h m
      · exact kept_foldl (kept_ite h (snoopFlushed_kept K h m) _) (fun _ _ k => sendReply_kept K k ..) _

theorem refusedAt_kept (h : R u s) {dst src : Nat} {m : Msg} {t : State} (hm : u.endsGateless m)
    (e : u.refusedAt dst m src = some t) : R t s := by
  have hc : (u.countRefused dst).home = u.home := by
    unfold State.countRefused
    split
    · exact rest_home (rest_wr ..)
    · rfl
  unfold State.refusedAt at e
  split at e
  · obtain rfl := Option.some.inj e
    refine endMsg_kept K (kept_ite h (kept_inc K h (by unfold Reg.PT_LL_LINGER; omega) _) _) (fun x => ?_) ..
    exact hc ▸ hm x
  · exact absurd e (by simp)

theorem sliceSend_kept (h : R u s) {m : Msg} (hm : u.endsGateless m) (n dst : Nat) : R (u.sliceSend n dst m) s := by
  unfold State.sliceSend
  split
  · next e => exact refusedAt_kept K h hm e
  · exact send_kept K h ..

theorem sliceReply_kept (h : R u s) (n : Nat) (m : Msg) : R (u.sliceReply n m) s := kept_sent K h (sliceReply_sent ..)

/-! ### The mirror -/

theorem mirrorDrop_kept (h : R u s) (f : Nat) : R (u.mirrorDrop f) s :=
  kept_inc K h (by unfold Reg.FL_MIRROR_PTR; omega) _

omit K in
theorem decoderDst_mc {m x : Msg} {d : DecoderRec} {k : Nat} (e : u.decoderDst m d = some (k, x)) : x.mc = m.mc := by
  unfold State.decoderDst at e
  split at e
  · obtain ⟨_, -, e⟩ := Option.map_eq_some_iff.mp e
    exact (congrArg (·.2.mc) e).symm
  · split at e
    · exact absurd e (by simp)
    · split at e
      · exact (congrArg (·.2.mc) (Option.some.inj e)).symm
      · obtain ⟨_, -, e⟩ := Option.map_eq_some_iff.mp e
        exact (congrArg (·.2.mc) e).symm

theorem mirrorSend_kept (h : R u s) (e : SilEntry) : R (u.mirrorSend e) s := by
  unfold State.mirrorSend
  dsimp only
  split
  · exact mirrorDrop_kept K h _
  · split
    · exact mirrorDrop_kept K (deny_kept K (kept_sched K h _) ..) _
    · split
      · exact mirrorDrop_kept K (denyParts_kept K (kept_sched K h _) ..) _
      · split
        · exact mirrorDrop_kept K (kept_sched K h _) _
        · next e' =>
          have hm := decoderDst_mc e'
          have k := kept_modAcc K (kept_wr K (kept_sched K h { u.sched with
            mirror := tabPut u.sched.mirror e.flacon (u.mirrorTokens e.flacon - 32 * 800) }) (a := Reg.FL_MIRROR_PTR e.flacon)
            (by unfold Reg.FL_MIRROR_PTR; omega) Fld.FL_MIRROR_PTR.OFFSET
            ((u.rd (Reg.FL_MIRROR_PTR e.flacon) Fld.FL_MIRROR_PTR.OFFSET + 32) % 2 ^ u.mirrorLog e.flacon)) e.flacon
          split
          · next x => exact refusedAt_kept K (k _) (fun c => absurd c (by rw [hm]; simp)) x
          · exact send_kept K (k _) ..

theorem mirrorAll_kept (h : R u s) : R u.mirrorAll s :=
  kept_foldl (u := { u with mirrorOut := [] }) (f := fun t e => t.mirrorSend e) (kept_same K h rfl rfl fun _ => rfl)
    (fun _ _ k => mirrorSend_kept K k _) u.mirrorOut

/-! ### Accords -/

theorem putAccord_kept (h : R u s) (t : Nat) (a : Accord) : R (u.putAccord t a) s := kept_modAcd K h _

theorem modAccord_kept (h : R u s) (t : Nat) (g : Accord → Accord) : R (u.modAccord t g) s := by
  unfold State.modAccord
  split
  · exact putAccord_kept K h ..
  · exact h

theorem showLines_kept (h : R u s) (t : Nat) : R (u.showLines t) s := by
  unfold State.showLines
  split
  · exact h
  · split
    · exact h
    · exact kept_wr K h (by unfold Reg.EF_SLOT; omega) ..

theorem slotResult_kept (h : R u s) (p : Option Nat) (st c : Nat) (a : Option Nat) (b : Bool) :
    R (u.slotResult p st c a b) s := by
  unfold State.slotResult
  split
  · exact h
  · next p =>
    dsimp only
    have k1 := kept_wr K (kept_wr K h (a := Reg.EF_SLOT (p / 64) (p % 64)) (by unfold Reg.EF_SLOT; omega) Fld.EF_SLOT.STATE st)
      (a := Reg.EF_SLOT (p / 64) (p % 64)) (by unfold Reg.EF_SLOT; omega) Fld.EF_SLOT.CODE c
    have k2 : ∀ v : State, R v s → R (v.setBitOf (Reg.EF_DONE (p / 64)) Fld.EF_DONE.DONE (p % 64)) s :=
      fun _ k => kept_setReg K k (by unfold Reg.EF_DONE; omega) _
    cases a with
    | none => exact kept_ite (k2 _ k1) (kept_emit K (k2 _ k1) _) _
    | some a =>
      have k3 := k2 _ (kept_wr K k1 (a := Reg.EF_ABORT (p / 64) (p % 64)) (by unfold Reg.EF_ABORT; omega) Fld.EF_ABORT.ADDR a)
      exact kept_ite k3 (kept_emit K k3 _) _

theorem countAbort_kept (h : R u s) (f c : Nat) : R (u.countAbort f c) s :=
  kept_inc K (kept_inc K (kept_inc K h (by unfold Reg.AC_CNT; omega) _) (by unfold Reg.AC_ABORT_CNT; omega) _)
    (by unfold Reg.FL_AC_CNT; omega) _

theorem strayAlias_kept (h : R u s) (p : Nat) (w : AliasTlp) : R (u.strayAlias p w) s := by
  have k := kept_set1 K h (a := Reg.EF_SLOT (p / 64) (p % 64)) (by unfold Reg.EF_SLOT; omega) Fld.EF_SLOT.STRAY
  unfold State.strayAlias
  dsimp only
  split
  · exact k
  · exact sendReply_kept K k ..

theorem dropTracker_kept (h : R u s) (t : Nat) : R (u.dropTracker t) s := by
  unfold State.dropTracker
  split
  · exact h
  · dsimp only
    split
    · exact kept_modAcd K h _
    · exact kept_foldl (kept_modAcd K (kept_modAcd K h _) _) (fun _ _ k => strayAlias_kept K k ..) _

theorem wakeSlices_kept (h : R u s) (l : List Nat) : R (u.wakeSlices l) s := by
  unfold State.wakeSlices
  split
  · exact h
  · exact kept_modAcd K h _

theorem abortAccord_kept (h : R u s) (t c a : Nat) : R (u.abortAccord t c a) s := by
  unfold State.abortAccord
  split
  · exact h
  · next x _ =>
    split
    · exact h
    · have k : R (u.freeSlots ((x.staged.map (·.slot)) ++ x.recSlots)) s := kept_modAcd K h _
      refine wakeSlices_kept K (dropTracker_kept K (countAbort_kept K (slotResult_kept K ?_ ..) ..) _) _
      cases x.epoch with
      | none => exact k
      | some e => exact kept_modAcc K k ..

theorem plainWrite_kept (h : R u s) (f l : Nat) : R (u.plainWrite f l).2 s :=
  kept_foldl h (fun _ _ k => abortAccord_kept K k ..) _

theorem takeSlots_kept {f : Nat} {l r : List Nat} {t : State} (h : R u s) (e : u.takeSlots f l = some (r, t)) :
    R t s := by
  induction l generalizing u r with
  | nil => cases Option.some.inj e; exact h
  | cons x l ih =>
    unfold State.takeSlots at e
    dsimp only at e
    split at e
    · exact absurd e (by simp)
    · split at e
      · next e' =>
        cases Option.some.inj e
        exact ih (kept_modAcd K h _) e'
      · exact absurd e (by simp)

/-! ### Home slices -/

theorem lookHot_kept (h : R u s) (n set : Nat) : R (u.lookHot n set).2 s := by
  have a : 0x11 ≤ Reg.HS_HOT n := by unfold Reg.HS_HOT; omega
  unfold State.lookHot
  dsimp only
  split
  · exact kept_putSlice K (kept_inc K h a _) n (by rfl)
  · exact kept_inc K h a _

theorem failRequest_kept (h : R u s) (n : Nat) (m : Msg) : R (u.failRequest n m) s := by
  unfold State.failRequest
  split
  · split
    · exact abortAccord_kept K h ..
    · exact h
  · split
    · exact sliceReply_kept K h ..
    · split
      · exact endPosted_kept K h m
      · split
        · exact sliceReply_kept K h ..
        · exact kept_foldl h (fun _ _ k => sliceReply_kept K k ..) _

theorem memSend_kept (h : R u s) {m : Msg} (hm : ¬(m.mc = 1 ∨ m.mc = 2)) (n : Nat) : R (u.memSend n m) s := by
  unfold State.memSend
  split
  · exact kept_foldl h (fun _ _ k => sendReply_kept K k ..) _
  · exact sliceSend_kept K h (m := toDevice m _ _) (fun c => absurd c hm) ..

theorem memRead_kept (h : R u s) (n : Nat) (t : Tracker) : R (u.memRead n t) s := memSend_kept K h (by simp) n

theorem putTracker_kept (h : R u s) (n : Nat) (t : Tracker) : R (u.putTracker n t) s :=
  kept_modSlice K h n fun _ => rfl

theorem dropTrk_kept (h : R u s) (n i : Nat) : R (u.dropTrk n i) s := kept_modSlice K h n fun _ => rfl

theorem issueWrite_kept (h : R u s) (n : Nat) (w : WritePend) : R (u.issueWrite n w) s := memSend_kept K h (by simp) n

theorem addWrite_kept (h : R u s) (n : Nat) (w : WritePend) : R (u.addWrite n w) s := by
  unfold State.addWrite
  dsimp only
  split
  · exact kept_putSlice K h n (by rfl)
  · exact issueWrite_kept K (u := u.putSlice n _) (kept_putSlice K h n (by rfl)) ..

omit K in
theorem tabPut_ne_nil {α : Type} (t : Tab α) (k : Nat) (v : α) : tabPut t k v ≠ [] := by
  unfold tabPut
  split
  · exact List.cons_ne_nil _ _
  · split
    · exact List.cons_ne_nil _ _
    · split
      · exact List.cons_ne_nil _ _
      · exact List.cons_ne_nil _ _

theorem wbTake_kept (h : R u s) (n : Nat) : R (u.wbTake n) s := kept_core K h (by rfl) (by rfl) (by rfl)

theorem snoop_kept (h : R u s) (n : Nat) (m : Msg) : R (u.snoop n m) s := by
  unfold State.snoop
  split
  · exact kept_modSlice K h n fun _ => rfl
  · dsimp only
    have k : ∀ r : SnoopRec, R ((u.modSlice n fun x => { x with snoops := x.snoops ++ [r] }).when m.tee fun t => t.wbTake n) s :=
      fun _ => kept_when (kept_putSlice K h n (by rfl)) _ fun _ k => wbTake_kept K k n
    have hn : ∀ r : SnoopRec,
        ((u.modSlice n fun x => { x with snoops := x.snoops ++ [r] }).when m.tee fun t => t.wbTake n).home ≠ [] := by
      intro r
      unfold State.when
      split
      · exact tabPut_ne_nil _ _ _
      · exact tabPut_ne_nil _ _ _
    split
    · exact sliceSend_kept K (k _) (fun _ => hn _) ..
    · exact endMsg_kept K (k _) (fun _ => hn _) ..

theorem retryHeld_kept (h : R u s) (n : Nat) : R (u.retryHeld n) s :=
  kept_foldl (u := u.modSlice n fun x => { x with held := [] }) (f := fun t m => t.snoop n m)
    (kept_modSlice K h n fun _ => rfl) (fun _ _ k => snoop_kept K k ..) (u.slice n).held

theorem snoops_kept (h : R u s) (n f l op e : Nat) (r : List Nat) (o : Option Nat) : R (u.snoops n f l op e r o) s :=
  kept_foldl h (fun _ _ k => snoop_kept K k ..) _

theorem notice_kept (h : R u s) (n : Nat) (t : Tracker) (b : Bool) : R (u.notice n t b) s := by
  have k := fun m => sliceReply_kept K (putTracker_kept K h n { t with tentSent := false }) n m
  unfold State.notice
  dsimp only
  split
  · exact k _
  · exact kept_inc K (k _) (by unfold Reg.HS_TN_OUT; omega) _

theorem cancelTent_kept (h : R u s) (n i : Nat) : R (u.cancelTent n i) s := by
  unfold State.cancelTent
  split
  · exact kept_ite h (notice_kept K h ..) _
  · exact h

theorem sendGo_kept (h : R u s) (n : Nat) (t : Tracker) (op : Nat) : R (u.sendGo n t op) s := by
  unfold State.sendGo
  refine sliceReply_kept K (kept_ite h ?_ _) ..
  exact kept_putSlice K h n (by rfl)

theorem sendData_kept (h : R u s) (n : Nat) (t : Tracker) (v : Line × Bool) : R (u.sendData n t v) s := by
  unfold State.sendData
  split
  · exact kept_ite (notice_kept K h ..) (sliceReply_kept K (notice_kept K h ..) ..) _
  · exact sliceReply_kept K h ..

theorem releaseTrk_kept (h : R u s) (n i : Nat) : R (u.releaseTrk n i) s := by
  unfold State.releaseTrk
  split
  · exact h
  · exact kept_ite (dropTrk_kept K h ..) (putTracker_kept K h ..) _

theorem setEntry_kept (h : R u s) (n : Nat) (t : Tracker) (e : Option DirEnt) : R (u.setEntry n t e) s := by
  unfold State.setEntry
  dsimp only
  split
  · exact kept_putSlice K h n (by rfl)
  · exact kept_putSlice K h n (by rfl)
  · exact h

theorem fillMark_kept (h : R u s) (m : Msg) (l : Nat) (v : Line × Bool) : R (u.fillMark m l v) s := by
  unfold State.fillMark
  split
  · exact h
  · split
    · exact abortAccord_kept K h ..
    · exact showLines_kept K (putAccord_kept K h ..) _

end

end Sys2Proof.Machine
end

section
/-!
What the engines keep (Keeping): a request at a home slice, its grant and the steps of a slice.
-/
namespace Sys2Proof.Machine

section
variable {R : State → State → Prop} (K : Keeping R) {u s : State}
include K

/-! ### What a grant does -/

omit K in
theorem see_bad (x : SliceState) (e f : Nat) : (x.see e f).bad = x.bad := rfl

theorem grantEffect_kept (h : R u s) (n : Nat) (t : Tracker) (v : Line × Bool) : R (u.grantEffect n t v) s := by
  have see : ∀ w : State, R w s → ∀ r f, R (w.modSlice n fun y => y.see r f) s :=
    fun _ k r f => kept_modSlice K k n fun x => see_bad x r f
  have kept := fun e => setEntry_kept K h n t e
  unfold State.grantEffect
  extract_lets x e copies r op see' keep m1 k len m2 owned w dropped m3
  split
  · exact fillMark_kept K (kept _) ..
  split
  · refine sliceReply_kept K ?_ ..
    unfold keep
    split
    · exact kept_ite h (kept _) _
    · exact h
  split
  · split
    · exact h
    split
    · exact addWrite_kept K (kept _) ..
    · exact sliceReply_kept K (addWrite_kept K (kept _) ..) ..
  split
  · exact sendData_kept K (sendGo_kept K (see _ (kept _) ..) ..) ..
  split
  · exact sendData_kept K (sendGo_kept K (see _ (kept _) ..) ..) ..
  split
  · exact kept_ite (sendGo_kept K (see _ (kept _) ..) ..) (sendData_kept K (sendGo_kept K (see _ (kept _) ..) ..) ..) _
  split
  · exact sendData_kept K (sendGo_kept K h ..) ..
  split
  · exact addWrite_kept K (kept _) ..
  split
  · refine sliceReply_kept K ?_ ..
    unfold dropped
    clear_value e
    split
    · exact kept_ite h (kept _) _
    · exact h
  · exact h

theorem stray_kept (h : R u s) (n k : Nat) (f : Option Nat) (r : AccessRec) (m : Msg) :
    R ((((u.set1 (Reg.HS_ERR n) Fld.HS_ERR.STRAY_WB).inc (Reg.HS_RACE n) Fld.HS_RACE.STRAY_WB).raiseAt k f r).sliceReply n m) s :=
  sliceReply_kept K (kept_raiseAt K (kept_inc K (kept_set1 K h (by unfold Reg.HS_ERR; omega) _) (by unfold Reg.HS_RACE; omega) _) ..) ..

theorem strayWb_kept (h : R u s) (n : Nat) (m : Msg) : R (u.strayWb n m) s := stray_kept K h ..

theorem ownWriteback_kept (h : R u s) (n : Nat) (t : Tracker) : R (u.ownWriteback n t) s := by
  unfold State.ownWriteback
  refine kept_ite (stray_kept K ?_ ..) (addWrite_kept K (setEntry_kept K h ..) ..) _
  split
  · exact freeCell_kept K h _
  · exact h

theorem enterVoq_kept (h : R u s) (n : Nat) (t : Tracker) : R (u.enterVoq n t) s := by
  have k := putTracker_kept K h n { t with ph := .voq }
  unfold State.enterVoq
  dsimp only
  split
  · exact putTracker_kept K h ..
  · exact kept_raiseAt K (kept_inc K (kept_set1 K k (by unfold Reg.HS_ERR; omega) _) (by unfold Reg.HS_VOQ_CNT; omega) _) ..

theorem act_kept (h : R u s) (n i : Nat) : R (u.act n i) s := by
  unfold State.act
  split
  · exact h
  · next t _ =>
    dsimp only
    split
    · exact releaseTrk_kept K (failRequest_kept K (freeCell?_kept K (cancelTent_kept K h ..) _) ..) ..
    split
    · split
      · exact enterVoq_kept K h ..
      · split
        · exact putTracker_kept K h ..
        · have a : 0x11 ≤ Reg.HS_EVICT n := by unfold Reg.HS_EVICT; omega
          refine snoops_kept K (kept_addTo K (kept_inc K (kept_putSlice K (putTracker_kept K h n { t with ph := .way }) n ?_) a _) a ..) ..
          rfl
    · exact putTracker_kept K h ..
    · exact snoops_kept K (kept_ite (putTracker_kept K h ..) (memRead_kept K (putTracker_kept K h ..) ..) _) ..

theorem setTokens_kept (h : R u s) (f n k : Nat) : R (u.setTokens f n k) s := kept_sched K h _

/-! ### Requests -/

theorem startReq_kept (h : R u s) (n : Nat) (m : Msg) (c : Option Cell) (b : Bool) : R (u.startReq n m c b) s := by
  have a : 0x11 ≤ Reg.HS_TN_CNT n := by unfold Reg.HS_TN_CNT; omega
  have fails := failRequest_kept K (freeCell?_kept K h c) n m
  unfold State.startReq
  extract_lets line
  split
  · exact fails
  · extract_lets x _
    split
    · exact fails
    · have k : R (if plainWriteReq m && !isWriteback m.op then u.plainWrite m.flacon line else (false, u)).2 s := by
        split
        · exact plainWrite_kept K h ..
        · exact h
      split
      next hit v e =>
      rw [e] at k
      extract_lets s1 fit go s2 t1 s3 s4
      have k1 : R s1 s := kept_when k _ fun _ k => kept_inc K k (by unfold Reg.HS_AC; omega) _
      have k2 : R s2 s := kept_ite (kept_ite k1 (kept_inc K k1 a _) _) (kept_inc K (setTokens_kept K k1 ..) a _) _
      have k3 : R s3 s := kept_modSlice K k2 n fun _ => rfl
      have k4 : R s4 s := kept_ite k3 (memRead_kept K k3 ..) _
      split
      · exact act_kept K k4 ..
      · have k5 := lookHot_kept K k4 n (by assumption : Home).set
        split
        · next e => rw [e] at k5; exact act_kept K k5 ..
        · next e => rw [e] at k5; exact kept_ite k5 (enterVoq_kept K k5 ..) _

theorem settleMarks_kept (h : R u s) (m : Msg) (b : Bool) (l : Nat) : R (u.settleMarks m b l).2 s := by
  unfold State.settleMarks
  split
  · exact h
  · extract_lets r
    split
    · exact h
    · split
      · exact abortAccord_kept K h ..
      · exact kept_foldl h (fun _ _ k => abortAccord_kept K k ..) _

theorem placeMark_kept (h : R u s) (n : Nat) (m : Msg) (d : Home) (b : Bool) : R (u.placeMark n m d b).2 s := by
  unfold State.placeMark
  extract_lets line
  split
  · exact h
  · extract_lets l d durable new
    split
    · exact abortAccord_kept K h ..
    · split
      · split
        · exact abortAccord_kept K h ..
        split
        · exact abortAccord_kept K h ..
        split
        · exact putAccord_kept K h ..
        split
        · next e => exact putAccord_kept K (takeSlots_kept K h e) ..
        · exact abortAccord_kept K h ..
      · split
        · exact h
        split
        · next e => exact putAccord_kept K (takeSlots_kept K h e) ..
        · exact abortAccord_kept K h ..

theorem joinConflict_kept (h : R u s) (n : Nat) (m : Msg) (c : Option Cell) : R (u.joinConflict n m c) s := by
  unfold State.joinConflict
  extract_lets s1
  have k : R s1 s := kept_modSlice K h n fun _ => rfl
  exact kept_ite k (kept_inc K k (by unfold Reg.HS_AC; omega) _) _

theorem markAndStart_kept (h : R u s) (n : Nat) (m : Msg) (a b : Bool) : R (u.markAndStart n m a b) s := by
  unfold State.markAndStart
  extract_lets line marks
  split
  · exact startReq_kept K h ..
  · have k := settleMarks_kept K h m b line
    split
    · next e => rw [e] at k; exact joinConflict_kept K k ..
    · next e => rw [e] at k; exact kept_ite (sliceReply_kept K k ..) k _
    · next v e =>
      rw [e] at k
      split
      · exact failRequest_kept K k ..
      · next d _ =>
        have k1 := placeMark_kept K k n m d b
        split
        · next e' => rw [e'] at k1; exact kept_ite (sliceReply_kept K k1 ..) k1 _
        · next e' =>
          rw [e'] at k1
          refine startReq_kept K ?_ ..
          split
          · exact kept_ite k1 (putAccord_kept K k1 ..) _
          · exact k1

theorem startAlias_kept (h : R u s) (n : Nat) (m : Msg) (b : Bool) : R (u.startAlias n m b) s := by
  unfold State.startAlias
  extract_lets line stage
  split
  · exact kept_ite (startReq_kept K h ..) h _
  · split
    · split
      · split
        · exact kept_ite (sliceReply_kept K (abortAccord_kept K h ..) ..) (abortAccord_kept K h ..) _
        · split
          · exact showLines_kept K (putAccord_kept K h ..) _
          · exact sliceReply_kept K h ..
      · exact markAndStart_kept K h ..
    · exact markAndStart_kept K h ..

theorem takeReq_kept (h : R u s) (n : Nat) (m : Msg) (c : Option Cell) : R (u.takeReq n m c) s := by
  unfold State.takeReq
  extract_lets line
  split
  · exact joinConflict_kept K h ..
  split
  · exact joinConflict_kept K h ..
  split
  · exact startAlias_kept K h ..
  · exact startReq_kept K h ..

/-! ### Steps of a slice -/

theorem endRead_kept (h : R u s) (n : Nat) (m : Msg) (v : Line × Bool) : R (u.endRead n m v) s := sliceReply_kept K h ..

theorem nextStart_kept (h : R u s) (n : Nat) (m : Msg) : R (u.nextStart n m) s := by
  unfold State.nextStart
  extract_lets x
  split
  · exact kept_modSlice K h n fun _ => rfl
  · exact takeReq_kept K h ..

theorem grant_kept (h : R u s) (n : Nat) (t : Tracker) : R (u.grant n t) s := by
  unfold State.grant
  split
  · exact dropTrk_kept K (setEntry_kept K h ..) ..
  · extract_lets v w s1 s2
    have kw : R w s := ownWriteback_kept K h ..
    have k1 : R s1 s := by
      unfold s1
      split
      · split
        next e =>
        refine kept_when ?_ _ fun _ k => kept_inc K k (by unfold Reg.HS_AC; omega) _
        split at e
        · have k := plainWrite_kept K kw t.flacon t.line
          rw [e] at k
          exact k
        · cases e
          exact kw
      · exact grantEffect_kept K h ..
    have k2 : R s2 s := releaseTrk_kept K k1 ..
    split
    · exact nextStart_kept K k2 ..
    · exact kept_ite k2 (endRead_kept K k2 ..) _

theorem dropWb_kept (h : R u s) (n : Nat) (c : Option Cell) (b : Bool) : R (u.dropWb n c b) s :=
  kept_when (freeCell?_kept K h c) _ fun _ k => wbReturn_kept K k n

theorem writeback_kept (h : R u s) (n : Nat) (m : Msg) (c : Option Cell) : R (u.writeback n m c) s := by
  unfold State.writeback
  extract_lets line eid x snp v resv w rec? isHeld close late
  have kc : R (close u) s := by
    unfold close
    clear_value rec?
    split
    · refine retryHeld_kept K (kept_when ?_ _ fun _ k => wbReturn_kept K k n) n
      exact kept_putSlice K h n (by rfl)
    · exact h
  have kl : R (late u) s := kept_ite (strayWb_kept K (dropWb_kept K kc ..) ..) (dropWb_kept K kc ..) _
  split
  · next t _ =>
    split
    · extract_lets t1 s1 s2
      have k1 : R s1 s := by
        refine kept_ite ?_ kc _
        exact kept_putSlice K h n (by rfl)
      have k2 : R s2 s := cancelTent_kept K (putTracker_kept K k1 ..) ..
      exact kept_ite (addWrite_kept K k2 ..) (sliceReply_kept K (dropWb_kept K k2 ..) ..) _
    · split
      · exact kept_when kl _ fun _ k => putTracker_kept K k ..
      · exact joinConflict_kept K h ..
  · split
    · exact abortAccord_kept K (kept_inc K (addWrite_kept K kc ..) (by unfold Reg.HS_AC; omega) _) ..
    · split
      · exact takeReq_kept K kc ..
      · exact kept_ite (takeReq_kept K h ..) kl _

theorem sliceStep_kept {n : Nat} {t : State} (h : R u s) (e : u.sliceStep n = some t) : R t s := by
  unfold State.sliceStep at e
  extract_lets x at e
  split at e
  · cases e
    exact writeback_kept K (kept_putSlice K h n (by rfl)) ..
  split at e
  · cases e
    exact grant_kept K h ..
  split at e
  · cases e
    exact act_kept K h ..
  split at e
  · split at e
    · exact absurd e (by simp)
    · extract_lets s1 at e
      have k : R s1 s := kept_putSlice K h n (by rfl)
      cases e
      exact kept_ite (startReq_kept K k ..) (startAlias_kept K k ..) _
  · split at e
    · cases e
      exact takeReq_kept K (dropTrk_kept K h ..) ..
    · exact absurd e (by simp)

theorem settleSlice_kept (h : R u s) (n k : Nat) : R (u.settleSlice n k) s := by
  induction k generalizing u with
  | zero => exact h
  | succ k ih =>
    unfold State.settleSlice
    split
    · next e => exact ih (sliceStep_kept K h e)
    · exact h

theorem runSlice_kept (h : R u s) (n : Nat) : R (u.runSlice n) s := settleSlice_kept K h ..

theorem runSlices_kept (h : R u s) : R u.runSlices s := kept_foldl h (fun _ _ k => runSlice_kept K k _) _

end

end Sys2Proof.Machine
end

section
/-!
What the engines keep (Keeping): accesses by Accord windows, the Accord engine, Global Persistent Flush, the waits of a step and the
entry into DRYDOWN.
-/
namespace Sys2Proof.Machine

section
variable {R : State → State → Prop} (K : Keeping R) {u s : State}
include K

/-! ### Alias accesses -/

theorem sendAlias_kept (h : R u s) (m : Msg) (t a : Nat) (l : List (Nat × Nat × List Byte)) : R (u.sendAlias m t a l) s := by
  induction l generalizing u with
  | nil => exact h
  | cons e r ih =>
    unfold State.sendAlias
    extract_lets x s1
    split
    · exact ih h
    · have k : R s1 s := kept_ite h (modAccord_kept K h ..) _
      exact ih (runSlice_kept K (takeReq_kept K k ..) _)

theorem takeTag_kept (h : R u s) {m n : Msg} {k : Nat} {l : List Nat} {t : State} (e : u.takeTag m k l = some (n, t)) :
    R t s := by
  unfold State.takeTag at e
  split at e
  · exact absurd e (by simp)
  · extract_lets r at e
    cases Option.some.inj e
    exact kept_core K h (by rfl) (by rfl) (by rfl)

theorem holdAlias_kept (h : R u s) (q t : Nat) (w : AliasTlp) : R (u.holdAlias q t w) s := by
  unfold State.holdAlias
  split
  · exact kept_modAcd K h _
  · exact strayAlias_kept K h ..

theorem openAccess_kept (h : R u s) (f e : Nat) : R (u.openAccess f e) s := kept_modAcc K h ..

theorem doAlias_kept (h : R u s) (q : Nat) (p : PortRec) (t : Nat) (a : Accord) (w : AliasTlp) :
    R (u.doAlias q p t a w) s := by
  unfold State.doAlias
  extract_lets f n m kind s1 needs m0
  split
  · exact runSlices_kept K (kept_ite (sendReply_kept K (abortAccord_kept K h ..) ..) (abortAccord_kept K h ..) _)
  · next pieces _ =>
    extract_lets s0 parts all multi rd rd' good
    have k0 : R s0 s := kept_foldl h (fun _ _ k => lookupRegions_kept K k ..) _
    split
    · split
      · exact sendAlias_kept K k0 ..
      · split
        · exact holdAlias_kept K k0 ..
        · next e => exact sendAlias_kept K (openAccess_kept K (takeTag_kept K k0 e) ..) ..
    · extract_lets r s1
      have k1 : R s1 s := deny_kept K (kept_when k0 _ fun _ k => kept_raiseAt K k ..) ..
      split
      · exact runSlices_kept K (abortAccord_kept K k1 ..)
      · split
        · exact holdAlias_kept K k0 ..
        · next e =>
          extract_lets m2 s3 s4
          have k3 : R s3 s := sendAlias_kept K (openAccess_kept K (modAccord_kept K (takeTag_kept K k1 e) ..) ..) ..
          have k4 : R s4 s := kept_foldl k3 (fun _ _ k => sendReply_kept K k ..) _
          exact runSlices_kept K (abortAccord_kept K k4 ..)

theorem aliasGo_kept (h : R u s) (k : Nat) : R (u.aliasGo k) s := by
  induction k generalizing u with
  | zero => exact h
  | succ k ih =>
    unfold State.aliasGo
    split
    · exact h
    · extract_lets s1
      have k : R s1 s := kept_modAcd K h _
      clear_value s1
      refine ih ?_
      split
      · exact doAlias_kept K k ..
      · exact k

theorem noteReady_kept (h : R u s) (t : Nat) : R (u.noteReady t) s := by
  unfold State.noteReady
  split
  · exact h
  · split
    · exact h
    · extract_lets ready
      have k : ∀ v : State, R v s → R (ready v) s := fun _ k => kept_modAcd K k _
      split
      · exact k _ h
      split
      · exact abortAccord_kept K h ..
      · exact kept_ite (k _ (putAccord_kept K h ..)) h _

theorem runWoken_kept (h : R u s) (k : Nat) : R (u.runWoken k) s := by
  induction k generalizing u with
  | zero => exact h
  | succ k ih =>
    unfold State.runWoken
    split
    · exact h
    · exact ih (kept_foldl (kept_modAcd K h _) (fun _ _ k => runSlice_kept K k _) _)

theorem accordsGo_kept (h : R u s) : R u.accordsGo s := by
  have k : R u.readyAll s := kept_foldl h (fun _ _ k => noteReady_kept K k _) _
  exact aliasGo_kept K (runWoken_kept K k _) _

/-! ### Global Persistent Flush -/

theorem kept_gpf (h : R u s) (l : List GpfFlow) : R ({ u with gpf := l } : State) s := kept_same K h rfl rfl fun _ => rfl

theorem modStd_kept (h : R u s) (q : Nat) (g : StdState → StdState) : R (u.modStd q g) s :=
  kept_same K h rfl rfl fun _ => rfl

theorem gpfSend_kept (h : R u s) (g : GpfFlow) (l : List Nat) : R (u.gpfSend g l).1 s := by
  refine kept_foldl h (fun v q k => ?_) _
  split
  · exact k
  · exact modStd_kept K (kept_emit K k _) ..

theorem gpfClose_kept (h : R u s) : R u.gpfClose s := by
  unfold State.gpfClose
  exact kept_foldl (kept_gpf K h _) (fun _ _ k => kept_emit K k _) _

theorem gpfAdvance_kept (h : R u s) : R u.gpfAdvance s := by
  unfold State.gpfAdvance
  split
  · exact h
  · extract_lets step
    have k : ∀ v g, R v s → R (step v g) s := by
      intro v g k
      exact kept_ite (kept_gpf K k _) (kept_gpf K (gpfSend_kept K k g (v.gpfPorts g.port)) _) _
    exact gpfClose_kept K (kept_foldl (kept_gpf K h _) k _)

/-! ### The waits of a step -/

theorem evictEntry_kept (h : R u s) (n set : Nat) (v : DirEnt) : R (u.evictEntry n set v) s := by
  have a : 0x11 ≤ Reg.HS_EVICT n := by unfold Reg.HS_EVICT; omega
  unfold State.evictEntry
  split
  · exact h
  · refine snoops_kept K (kept_addTo K (kept_inc K (kept_putSlice K h n ?_) a _) a ..) ..
    rfl

theorem backInvalidate_kept (h : R u s) : R u.backInvalidate s := by
  unfold State.backInvalidate
  split
  · refine kept_foldl h (fun t n k => runSlice_kept K (kept_foldl k (fun v e k' => ?_) _) n) _
    split
    · exact k'
    · exact evictEntry_kept K k' ..
  · exact h

theorem advanceWaits_kept (h : R u s) : R u.advanceWaits s :=
  kept_ite h (backInvalidate_kept K (gpfAdvance_kept K (mirrorAll_kept K (accordsGo_kept K h)))) _

/-! ### The entry into DRYDOWN -/

theorem abortAll_kept (h : R u s) (p : Accord → Bool) (c : Nat) : R (u.abortAll p c) s :=
  kept_foldl h (fun _ _ k => abortAccord_kept K k ..) _

theorem drainGpf_kept (h : R u s) (p : Nat) : R (u.drainGpf p) s := by
  unfold State.drainGpf
  exact kept_gpf K (gpfSend_kept K h ..) _

theorem showJob_kept (h : R u s) (j : Nat) : R (u.showJob j) s := by
  have a1 : 0x11 ≤ Reg.DC_JOB_STATE j := by unfold Reg.DC_JOB_STATE; omega
  have a2 : 0x11 ≤ Reg.DC_JOB_CFG j := by unfold Reg.DC_JOB_CFG; omega
  unfold State.showJob
  split
  · exact h
  · extract_lets s1 s2 low s3 run
    have k1 : R s1 s := kept_wr K (kept_wr K (kept_wr K (kept_wr K h a1 ..) a1 ..) a1 ..) a1 ..
    have k2 : R s2 s := kept_wr K (kept_wr K (kept_wr K (kept_wr K k1 a2 ..) a2 ..) a2 ..) a2 ..
    exact kept_wr K (kept_wr K k2 (by unfold Reg.DC_JOB_PTR; omega) ..) (by decide) ..

theorem putJob_kept (h : R u s) (j : Nat) (x : DecantJob) : R (u.putJob j x) s := kept_same K h rfl rfl fun _ => rfl

theorem holdBack_kept (h : R u s) (x : DecantJob) : R (u.holdBack x) s := by
  unfold State.holdBack
  split
  · exact h
  · exact kept_modAcc K h ..

theorem cancelJob_kept (h : R u s) (j c : Nat) : R (u.cancelJob j c) s := by
  unfold State.cancelJob
  split
  · exact h
  · split
    · exact h
    · split
      · exact showJob_kept K (putJob_kept K h ..) _
      · extract_lets s1 s2
        have k1 : R s1 s := kept_foldl (holdBack_kept K h _) (fun _ _ k => kept_modAcc K k ..) _
        have k2 : R s2 s := showJob_kept K (putJob_kept K k1 ..) _
        exact kept_ite (kept_raise K k2 ..) k2 _

theorem cancelJobs_kept (h : R u s) (p : DecantJob → Bool) (c : Nat) : R (u.cancelJobs p c) s :=
  kept_foldl h (fun _ _ k => cancelJob_kept K k ..) _

theorem abandonRetune_kept (h : R u s) (l : Nat) : R (u.abandonRetune l) s := by
  have a : 0x11 ≤ Reg.LN_RETUNE l := by unfold Reg.LN_RETUNE; omega
  have k : R (u.modLane l fun x => { x with level := 0, levelHeld := false, waiting := none, loadDue := false }) s :=
    kept_same K h rfl rfl fun _ => rfl
  exact kept_set0 K (kept_set0 K k a _) a _

theorem abandonPorts_kept (h : R u s) (p : PortRec → Bool) : R (u.abandonPorts p) s :=
  kept_foldl h (fun _ _ k => kept_foldl k (fun _ _ k => kept_ite k (abandonRetune_kept K k _) _) _) _

theorem stopTest_kept (h : R u s) (l : Nat) : R (u.stopTest l) s := by
  have k := kept_set0 K (kept_wr K h (a := Reg.LN_PRBS_CTL l) (by unfold Reg.LN_PRBS_CTL; omega) ⟨0, 12⟩ 0)
    (a := Reg.LN_PRBS_STATUS l) (by unfold Reg.LN_PRBS_STATUS; omega) Fld.LN_PRBS_STATUS.CHK_LOCK
  exact kept_ite k (kept_wr K k (by unfold Reg.LN_STATUS; omega) ..) _

theorem stopTests_kept (h : R u s) : R u.stopTests s := kept_foldl h (fun _ _ k => stopTest_kept K k _) _

theorem recomposeCut_kept (h : R u s) : R u.recomposeCut s := by
  unfold State.recomposeCut
  extract_lets s0 s1
  have k0 : R s0 s := kept_foldl h (fun _ _ k => kept_set0 K k (by unfold Reg.FL_STATUS; omega) _) _
  have k1 : R s1 s := kept_wr K k0 (by decide) ..
  clear_value s1
  split
  · exact kept_same K k1 rfl rfl fun _ => rfl
  · exact kept_same K k1 rfl rfl fun _ => rfl

omit K in
/-- What the entry into DRYDOWN shows in the registers. -/
theorem drydownShown (v : State) (b : Bool) :
    let t := ((((((v.goMode .drydown 0x0A).wr Reg.KS_REVIVE_STATUS Fld.KS_REVIVE_STATUS.PHASE 7).setReg Reg.KS_DRAIN_STATUS
      0).setReg Reg.KS_DRAIN_TIME 0).setReg Reg.KS_DRAIN_CNT 0).setReg Reg.KS_DRAIN_CUT 0).wrB Reg.KS_DRAIN_STATUS
      Fld.KS_DRAIN_STATUS.TAINT b
    t.md = .drydown ∧ t.core = v.core ∧ t.home = v.home := by
  have hm : (v.goMode .drydown 0x0A).md = .drydown := (goMode_spec v .drydown 0x0A (by decide)).1.1
  refine ⟨?_, ?_, ?_⟩
  · rw [wrB_eq, md_wr _ _ _ _ (by decide), md_setReg _ _ _ (by decide), md_setReg _ _ _ (by decide),
      md_setReg _ _ _ (by decide), md_setReg _ _ _ (by decide), md_wr _ _ _ _ (by decide), hm]
  · simp only [wrB_core, wr_core, setReg_core, State.goMode]
  · simp only [wrB_home, wr_home, setReg_home, State.goMode]

/-- The entry into DRYDOWN sets the mode; what comes before and after it keeps R. -/
theorem drydownEntry_kept (s : State) : ∃ v w, R v s ∧ w.md = .drydown ∧ w.core = v.core ∧ w.home = v.home ∧ R s.drydownEntry w := by
  unfold State.drydownEntry
  extract_lets tainted s1 s2 slots mode s3 s5
  have k1 : R s1 s := kept_ite (K.refl s) (recomposeCut_kept K (K.refl s)) _
  obtain ⟨hm, hc, hh⟩ : s2.md = .drydown ∧ s2.core = s1.core ∧ s2.home = s1.home := drydownShown s1 tainted
  clear_value s2 s1
  refine ⟨s1, s3, k1, hm, hc, hh, ?_⟩
  exact drainGpf_kept K (runSlices_kept K (stopTests_kept K (abandonPorts_kept K (cancelJobs_kept K
    (abortAll_kept K (K.refl s3) ..) ..) _))) _

end

end Sys2Proof.Machine
end

section
/-!
What the collector leaves of the engines, the slices and the mode.
-/
namespace Sys2Proof.Machine

/-! ### The collector -/

/-- t is u after occurrences were handled: the engines and the slices as before, and no way into DRYDOWN or LINKTEST, nor out
of DRYDOWN. -/
def State.collected (t u : State) : Prop :=
  t.core = u.core ∧ t.home = u.home ∧
    (t.reg Reg.CHIP_MODE = u.reg Reg.CHIP_MODE ∨ u.md ≠ .drydown ∧ t.md ≠ .drydown ∧ t.md ≠ .linktest)

section
variable {u s : State}

theorem collected_refl (s : State) : s.collected s := ⟨rfl, rfl, .inl rfl⟩

theorem collected_trans {t : State} (k : t.collected u) (h : u.collected s) : t.collected s := by
  obtain ⟨k1, k2, k3⟩ := k
  obtain ⟨h1, h2, h3⟩ := h
  refine ⟨k1.trans h1, k2.trans h2, ?_⟩
  rcases k3 with k3 | ⟨a, b, c⟩
  · rcases h3 with h3 | ⟨d, e, f⟩
    · exact .inl (k3.trans h3)
    · rw [← md_of_reg k3] at e f
      exact .inr ⟨d, e, f⟩
  · rcases h3 with h3 | ⟨d, -, -⟩
    · rw [md_of_reg h3] at a
      exact .inr ⟨a, b, c⟩
    · exact .inr ⟨d, b, c⟩

theorem collected_setReg (h : u.collected s) {a : Nat} (ha : 0x11 ≤ a) (v : Word) : (u.setReg a v).collected s :=
  collected_trans (u := u) (t := u.setReg a v)
    ⟨rfl, rfl, .inl (reg_setReg_ne _ _ _ _ (by unfold Reg.CHIP_MODE; omega))⟩ h
theorem collected_wr (h : u.collected s) {a : Nat} (ha : 0x11 ≤ a) (f : Fld) (x : Nat) : (u.wr a f x).collected s :=
  collected_setReg h ha _
theorem collected_set1 (h : u.collected s) {a : Nat} (ha : 0x11 ≤ a) (f : Fld) : (u.set1 a f).collected s := collected_setReg h ha _
theorem collected_inc (h : u.collected s) {a : Nat} (ha : 0x11 ≤ a) (f : Fld) : (u.inc a f).collected s := collected_setReg h ha _
theorem collected_flt (h : u.collected s) (x : FaultState) : ({ u with flt := x } : State).collected s :=
  collected_trans ⟨rfl, rfl, .inl rfl⟩ h

theorem notify_collected (h : u.collected s) (n : Notice) : (u.notify n).collected s := kept_ite (collected_flt h _) h _

theorem putRec_collected (h : u.collected s) {a : Nat} (ha : 0x11 ≤ a) (r : AccessRec) : (u.putRec a r).collected s :=
  kept_foldl h (fun _ _ k => collected_setReg k (by omega) _) _

theorem logEntry_collected (h : u.collected s) (e : LogEntry) : (u.logEntry e).collected s :=
  kept_ite (collected_inc h (by decide) _) (collected_flt h _) _

theorem captureFirst_collected (h : u.collected s) (o : Occ) (b : Bool) : (u.captureFirst o b).collected s := by
  have a1 : 0x11 ≤ Reg.FC_FERR_CTL := by decide
  unfold State.captureFirst
  extract_lets r0 r s1
  have k : s1.collected s :=
    kept_ite (collected_set1 (putRec_collected h (by decide) r) a1 _) (collected_inc (collected_set1 h a1 _) (by decide) _) _
  split
  · exact k
  · exact kept_ite (collected_set1 (putRec_collected k (by unfold Reg.FL_FERR; omega) r) (by unfold Reg.FL_FERR_CTL; omega) _)
      (collected_inc (collected_set1 k (by unfold Reg.FL_FERR_CTL; omega) _) (by unfold Reg.FL_FERR_CNT; omega) _) _

theorem msix_collected (h : u.collected s) (v : Nat) : (u.msix v).collected s := by
  unfold State.msix
  split
  · exact collected_trans ⟨rfl, rfl, .inl rfl⟩ h
  · exact h

theorem alert_collected (h : u.collected s) (n k : Nat) : (u.alert n k).collected s := by
  have a : 0x11 ≤ Reg.FC_ALERT := by decide
  have k1 := collected_wr (collected_set1 h a Fld.FC_ALERT.PENDING) a Fld.FC_ALERT.FIRST_SOURCE n
  unfold State.alert
  split
  · exact h
  · split
    · exact h
    · exact msix_collected k1 1

theorem fence_collected (h : u.collected s) (f n : Nat) : (u.fence f n).collected s := by
  have a : 0x11 ≤ Reg.FL_STATUS f := by unfold Reg.FL_STATUS; omega
  unfold State.fence
  split
  · exact collected_setReg h a _
  · extract_lets s1
    have k : s1.collected s := collected_wr (collected_set1 h a _) a ..
    split
    · exact notify_collected k _
    · exact k

theorem raiseLossOnEntry_sides (v : State) : v.raiseLossOnEntry.core = v.core ∧ v.raiseLossOnEntry.home = v.home := by
  unfold State.raiseLossOnEntry
  split
  · exact ⟨rfl, rfl⟩
  · exact ⟨rfl, rfl⟩

theorem goMode_sides (v : State) (m : Mode) (c : Nat) : (v.goMode m c).core = v.core ∧ (v.goMode m c).home = v.home := by
  constructor
  · simp only [State.goMode, wr_core]
  · simp only [State.goMode, wr_home]

theorem enterQuarantine_collected (hm : u.md ≠ .drydown) {c : Nat} (hc : c < 256) : (u.enterQuarantine c).collected u := by
  have hq := (enterQuarantine_spec u c hc).1.1
  obtain ⟨n1, n2, -⟩ := notify_collected (collected_refl (u.goMode .quarantine c)) .quarantine
  obtain ⟨g1, g2⟩ := goMode_sides u .quarantine c
  refine ⟨?_, ?_, .inr ⟨hm, by rw [hq]; decide, by rw [hq]; decide⟩⟩
  · exact (raiseLossOnEntry_sides _).1.trans (n1.trans g1)
  · exact (raiseLossOnEntry_sides _).2.trans (n2.trans g2)

theorem quarCause_collected (hm : u.md = .quarantine) : u.quarCause.collected u := by
  unfold State.quarCause
  split
  · have h : (u.wr Reg.CHIP_MODE Fld.CHIP_MODE.CAUSE 0x0E).md = .quarantine := (md_wr _ _ _ _ (by decide)).trans hm
    exact ⟨wr_core .., wr_home .., .inr ⟨by rw [hm]; decide, by rw [h]; decide, by rw [h]; decide⟩⟩
  · exact collected_refl u

/-- In DRYDOWN nothing moves the mode (R386). -/
theorem react_collected (u : State) (o : Occ) (k : Nat) : (u.react o k).collected u := by
  have h := collected_refl u
  have hq : u.md ≠ .drydown → (u.enterQuarantine (if u.flt.wdog ∨ o.source = Src.CHIP_WATCHDOG then 0x0E else 0x0F)).collected u :=
    fun hm => enterQuarantine_collected hm (by split <;> decide)
  unfold State.react
  split
  · split
    · exact fence_collected h ..
    · exact h
  · split
    · split
      · next e => exact hq (by rw [e]; decide)
      · next e => exact hq (by rw [e]; decide)
      · next e => exact hq (by rw [e]; decide)
      · next e => exact hq (by rw [e]; decide)
      · next e => exact kept_ite h (quarCause_collected e) _
      · exact kept_ite (notify_collected (collected_set1 h (by decide) _) _) h _
      · exact h
    · exact h

theorem handle_collected (h : u.collected s) (o : Occ) (r : Bool) (d : Option HeldSrc) : (u.handle o r d).collected s := by
  unfold State.handle
  split
  · exact h
  · extract_lets k base e n counted esc sev k' s1 s2 s3
    have k2 : s2.collected s := logEntry_collected (collected_flt h _) _
    have k3 : s3.collected s := kept_ite k2 (captureFirst_collected k2 ..) _
    exact collected_trans (react_collected ..) (alert_collected k3 ..)

theorem recordLoss_collected (h : u.collected s) (c f q : Nat) (n : Option (Nat × Nat)) : (u.recordLoss c f q n).collected s := by
  have a1 : 0x11 ≤ Reg.KS_LOSS := by decide
  have a2 : 0x11 ≤ Reg.KS_LOSS_CNT := by decide
  unfold State.recordLoss
  extract_lets first s1 s2 s3 old s4
  have k1 : s1.collected s := kept_when h _ fun _ k => collected_wr (collected_set1 k a1 _) a1 ..
  have k2 : s2.collected s := collected_wr k1 a1 ..
  have k3 : s3.collected s := by
    unfold s3
    split
    · exact collected_setReg (collected_setReg k2 a2 _) a2 _
    · exact collected_setReg k2 a2 _
  have k4 : s4.collected s := collected_wr k3 (by decide) ..
  clear_value s4
  exact collected_trans ⟨rfl, rfl, .inl rfl⟩ k4

theorem reportUnwritten_collected (h : u.collected s) (c : Nat) : (u.reportUnwritten c).collected s := by
  unfold State.reportUnwritten
  split
  · exact h
  · exact recordLoss_collected h ..

theorem emit_sides (v : State) (o : Out) : (v.emit o).core = v.core ∧ (v.emit o).home = v.home ∧ (v.emit o).md = v.md :=
  ⟨rfl, rfl, rfl⟩

theorem frozenMode_sides (v : State) (x y : Out) : (((v.goMode .frozen 0x11).emit x).emit y).core = v.core ∧
    (((v.goMode .frozen 0x11).emit x).emit y).home = v.home ∧ (((v.goMode .frozen 0x11).emit x).emit y).md = .frozen := by
  obtain ⟨g1, g2⟩ := goMode_sides v .frozen 0x11
  obtain ⟨e1, e2, e3⟩ := emit_sides ((v.goMode .frozen 0x11).emit x) y
  obtain ⟨d1, d2, d3⟩ := emit_sides (v.goMode .frozen 0x11) x
  have g3 := (goMode_spec v .frozen 0x11 (by decide)).1.1
  exact ⟨e1.trans (d1.trans g1), e2.trans (d2.trans g2), e3.trans (d3.trans g3)⟩

theorem enterFrozen_collected (hm : u.md ≠ .drydown) (c : Nat) (b : Bool) : (u.enterFrozen c b).collected u := by
  unfold State.enterFrozen
  extract_lets s0 s1 s2 s3 mult s4
  obtain ⟨r1, r2, -⟩ := reportUnwritten_collected (collected_refl s0) 5
  have c0 : s0.core = u.core ∧ s0.home = u.home := ⟨wr_core .., wr_home ..⟩
  have c1 : s1.core = u.core ∧ s1.home = u.home := ⟨r1.trans c0.1, r2.trans c0.2⟩
  have c3 : s3.core = u.core ∧ s3.home = u.home := by
    simp only [s3, s2, wrB_core, wrB_home, wr_core, wr_home, set1_core, set1_home, setReg_core, setReg_home]
    exact c1
  obtain ⟨f1, f2, h4⟩ : s4.core = _ ∧ s4.home = _ ∧ s4.md = .frozen := frozenMode_sides ..
  have hc : s4.core = u.core := f1.trans ((wr_core ..).trans c3.1)
  have hh : s4.home = u.home := f2.trans ((wr_home ..).trans c3.2)
  clear_value s4
  refine ⟨hc, hh, .inr ⟨hm, ?_, ?_⟩⟩
  · exact fun e => absurd (h4.symm.trans e) (by decide)
  · exact fun e => absurd (h4.symm.trans e) (by decide)

theorem take_collected (h : u.collected s) (o : Occ) (r : Bool) : (u.take o r).collected s := by
  unfold State.take
  split
  · exact kept_ite h (collected_flt h _) _
  split
  · exact h
  split
  · next hf =>
    refine collected_trans (enterFrozen_collected (fun e => ?_) 4 true) h
    rw [e] at hf
    simp [Mode.freezable] at hf
  split
  · exact handle_collected (collected_set1 (handle_collected h ..) (by decide) _) ..
  · exact handle_collected h ..

theorem collectAll_collected (h : u.collected s) (l : List Occ) : (u.collectAll l).collected s := by
  induction l generalizing u with
  | nil => exact h
  | cons o l ih => exact ih (take_collected h o false)

theorem collectThrough_collected (h : u.collected s) (k : Nat) : (u.collectThrough k).collected s := by
  induction k generalizing u with
  | zero => exact h
  | succ k ih => exact kept_ite (ih (collectAll_collected (collected_flt h _) _)) h _

theorem refreshPins_collected (h : u.collected s) : u.refreshPins.collected s := by
  unfold State.refreshPins
  extract_lets m
  split
  · exact h
  · exact collected_trans ⟨rfl, rfl, .inl rfl⟩ h

end

end Sys2Proof.Machine
end

section
/-!
What the end of a step keeps: in DRYDOWN, of the waiting lists, and in LINKTEST.
-/
namespace Sys2Proof.Machine

/-! ### What the end of a step keeps -/

/-- u has the fences, the bad sets of the slices and the mode of s. -/
def State.workSide (u s : State) : Prop :=
  u.core.fences = s.core.fences ∧ (∀ n, (u.slice n).bad = (s.slice n).bad) ∧ u.md = s.md

theorem workSide_of {u s : State} (hf : u.core.fences = s.core.fences) (hh : u.home = s.home) (hm : u.md = s.md) : u.workSide s :=
  ⟨hf, fun n => by rw [State.slice, hh]; rfl, hm⟩

theorem workSide_keeping : Keeping State.workSide where
  refl _ := ⟨rfl, fun _ => rfl, rfl⟩
  trans h k := ⟨h.1.trans k.1, fun n => (h.2.1 n).trans (k.2.1 n), h.2.2.trans k.2.2⟩
  step hc hh hr := workSide_of hc.1 hh (md_of_reg hr)
  slice u n x hx := by
    refine ⟨rfl, fun m => ?_, rfl⟩
    rw [slice_putSlice]
    split
    · next e => rw [hx, e]
    · rfl
  gate hf _ hh hr _ := workSide_of hf hh (md_of_reg hr)

theorem collected_drydown {t u : State} (h : t.collected u) (hm : u.md = .drydown) : t.workSide u := by
  obtain ⟨hc, hh, hr | ⟨a, -⟩⟩ := h
  · exact workSide_of (congrArg (·.fences) hc) hh (md_of_reg hr)
  · exact absurd hm a

theorem checkWarning_drydown {u : State} (hm : u.md = .drydown) : u.checkWarning = u := by
  simp [State.checkWarning, hm, Mode.serving]

/-- The end of a step in DRYDOWN moves neither the fences of the planes, nor the bad sets of the slices, nor the mode. -/
theorem settle_work {u : State} (hm : u.md = .drydown) : u.settle.workSide u := by
  have trans := @workSide_keeping.trans
  have k := advanceWaits_kept workSide_keeping (workSide_keeping.refl u)
  have m := k.2.2.trans hm
  have k1 := trans (collected_drydown (collectThrough_collected (collected_refl _) 4) m) k
  have m1 := k1.2.2.trans hm
  have k2 := trans (collected_drydown (refreshPins_collected (collectThrough_collected (collected_refl _) 4)) m1) k1
  unfold State.settle
  rw [checkWarning_drydown m, checkWarning_drydown m1]
  exact k2

/-- No waiting list of u is shorter than in s. -/
def State.waitSide (u s : State) : Prop := ∀ k, (s.waiting k).length ≤ (u.waiting k).length

theorem waitSide_core {u s : State} (h : u.core.wait = s.core.wait) : u.waitSide s := fun k => by rw [State.waiting, State.waiting, h]

theorem waitSide_keeping : Keeping State.waitSide where
  refl _ := fun _ => le_rfl
  trans h k := fun i => (k i).trans (h i)
  step hc _ _ := hc.2.2
  slice _ _ _ _ := waitSide_core rfl
  gate _ hw _ _ _ := waitSide_core hw

theorem collected_waits {t u : State} (h : t.collected u) : t.waitSide u := waitSide_core (congrArg (·.wait) h.1)

theorem checkWarning_waits (u : State) : u.checkWarning.waitSide u := by
  unfold State.checkWarning
  split
  · obtain ⟨v, w, kv, -, hc, -, kw⟩ := drydownEntry_kept waitSide_keeping (u.set1 Reg.PC_EVENTS Fld.PC_EVENTS.DRYDOWN)
    have h1 := waitSide_keeping.trans kv (waitSide_core (u := u.set1 Reg.PC_EVENTS Fld.PC_EVENTS.DRYDOWN) (s := u) rfl)
    exact waitSide_keeping.trans kw (waitSide_keeping.trans (waitSide_core (congrArg (·.wait) hc)) h1)
  · exact waitSide_keeping.refl u

/-- What waits at the end of a command waits on through the end of the step. -/
theorem settle_waits (u : State) : u.settle.waitSide u := by
  have trans := @waitSide_keeping.trans
  have k := trans (checkWarning_waits _) (advanceWaits_kept waitSide_keeping (waitSide_keeping.refl u))
  have k1 := trans (checkWarning_waits _) (trans (collected_waits (collectThrough_collected (collected_refl _) 4)) k)
  exact trans (collected_waits (refreshPins_collected (collectThrough_collected (collected_refl _) 4))) k1

/-- t has the mode of u, and its gates unless a slice has a directory. -/
def State.linktestSide (t u : State) : Prop := t.md = u.md ∧ (t.home = [] → u.home = [] ∧ t.core.gate = u.core.gate)

theorem linktestSide_keeping : Keeping State.linktestSide where
  refl _ := ⟨rfl, fun h => ⟨h, rfl⟩⟩
  trans h k := ⟨h.1.trans k.1, fun e =>
    have a := h.2 e
    have b := k.2 a.1
    ⟨b.1, a.2.trans b.2⟩⟩
  step hc hh hr := ⟨md_of_reg hr, fun e => ⟨hh ▸ e, hc.2.1⟩⟩
  slice u n x _ := ⟨rfl, fun e => absurd e (tabPut_ne_nil u.home n x)⟩
  gate _ _ hh hr hn := ⟨md_of_reg hr, fun e => absurd (hh ▸ e) hn⟩

theorem collected_linktest {t u : State} (h : t.collected u) (hm : t.md = .linktest) : t.linktestSide u := by
  obtain ⟨hc, hh, hr | ⟨-, -, a⟩⟩ := h
  · exact ⟨md_of_reg hr, fun e => ⟨hh ▸ e, congrArg (·.gate) hc⟩⟩
  · exact absurd hm a

theorem checkWarning_linktest {u : State} (hm : u.checkWarning.md = .linktest) : u.checkWarning = u := by
  unfold State.checkWarning at hm ⊢
  split
  · next hc =>
    rw [if_pos hc] at hm
    obtain ⟨_, w, -, hw, -, -, kw⟩ := drydownEntry_kept linktestSide_keeping (u.set1 Reg.PC_EVENTS Fld.PC_EVENTS.DRYDOWN)
    rw [kw.1, hw] at hm
    exact absurd hm (by decide)
  · rfl

theorem warned_linktest {v : State} (hm : (v.checkWarning.collectThrough 4).md = .linktest) :
    (v.checkWarning.collectThrough 4).linktestSide v := by
  have k := collected_linktest (collectThrough_collected (collected_refl v.checkWarning) 4) hm
  have m := k.1.symm.trans hm
  rw [checkWarning_linktest m] at k ⊢
  exact k

/-- A step that ends in LINKTEST, with no directory, leaves the gates as its command did. -/
theorem settle_gates {u : State} (hm : u.settle.md = .linktest) : u.settle.linktestSide u := by
  have trans := @linktestSide_keeping.trans
  have k := advanceWaits_kept linktestSide_keeping (linktestSide_keeping.refl u)
  have k2 := collected_linktest (refreshPins_collected (collected_refl _)) hm
  have m2 := k2.1.symm.trans hm
  have k1 := warned_linktest m2
  have k0 := warned_linktest (k1.1.symm.trans m2)
  exact trans k2 (trans k1 (trans k0 k))

end Sys2Proof.Machine
end

section
/-!
Ingress, planes, egress and slice requests (O14, O15, O16, O19), refuted by what the end of a step keeps.
-/
namespace Sys2Proof.Machine

/-- The outcome of a command that needs the clocks. -/
theorem whenClocked_next {s u : State} {k : State → State} (h : s.md.clocked = true) (e : whenClocked s k = .next u.settle) :
    (k s).settle = u.settle := by
  rw [whenClocked, clocked_eq s k h] at e
  injection e

/-- A chip in DRYDOWN. -/
def inDrydown : State := State.reset.wr Reg.CHIP_MODE Fld.CHIP_MODE.MODE 6

/-! ### The last DRAIN cell of a fence that was lifted -/

/-- The fence of plane 0 after its unfencing: its DRAIN exchange still goes on. -/
def openFence : PlaneFence := { fault := false, noticed := true, lifted := true, planes := 1, waits := [{ src := 0, unit := 0 }] }

/-- Plane 0 is unfenced again, and the last DRAIN cell of its fence is in flight. -/
def liftedFence : State :=
  { inDrydown with core := { inDrydown.core with
      fences := [(0, openFence)]
      flight := [(flightKey 0 0 0, [.drain { plane := 0, fault := false, high := [] }])] } }

/-- The DRAIN cell ends the exchange, and the fence is forgotten. -/
theorem liftedFence_ends : (liftedFence.planeArrive 0 0 0 true {}).settle.core.fences = [] := by decide +kernel

/-- Refutes O15: the fourth clause keeps the fence of the plane after a DRAIN cell, but the cell that completes the exchange of
a plane unfenced meanwhile ends that fence. -/
theorem not_planes : ¬ Obligations.Planes := by
  intro h
  obtain ⟨-, -, -, h, -⟩ := h
  obtain ⟨u, hu, -, ⟨g, hg, -⟩, hr⟩ := h liftedFence 0 0 0 { plane := 0, fault := false, high := [] } [] openFence
    (by decide +kernel) (by decide +kernel) (by decide +kernel) (by decide +kernel)
  have he := whenClocked_next (k := fun t => t.planeArrive 0 0 0 true {}) (by decide +kernel) hu
  have hm : u.md = .drydown := (md_of_reg (hr _ (by decide))).trans (by decide +kernel)
  have hf : u.core.fences = [] := by rw [← (settle_work hm).1, ← he, liftedFence_ends]
  rw [hf] at hg
  exact absurd hg (by simp [tabFind])

/-! ### A set with an entry whose STATE is reserved -/

/-- A set of slice 0 holds an entry with a reserved STATE, and scrubbing is on. -/
def reservedEntry : State :=
  { inDrydown.set1 (Reg.HS_CTL 0) Fld.HS_CTL.SCRUB_EN with
    home := [(0, { sets := [(0, { ways := [(0, { st := 7, tag := 0, ptrs := [] })] })] })] }

/-- The scrub finds the set uncorrectable, whatever its ECC says. -/
theorem reservedEntry_bad : ((reservedEntry.scrub 0 0 .corrected).settle.slice 0).bad = [0] := by decide +kernel

/-- Refutes O19: the eighth clause has a scrub with corrected ECC leave the slices alone, but a set with an entry of a reserved
STATE counts as uncorrectable, and the scrub notes it as bad. -/
theorem not_sliceRequests : ¬ Obligations.SliceRequests := by
  intro h
  obtain ⟨-, -, -, -, -, -, -, h, -⟩ := h
  obtain ⟨u, hu, -, -, -, hh, hr⟩ := h reservedEntry 0 0 (by decide +kernel) (by decide +kernel)
  have he := whenClocked_next (k := fun t => t.scrub 0 0 .corrected) (by decide +kernel) hu
  have hm : u.md = .drydown := (md_of_reg (hr _ (by decide))).trans (by decide +kernel)
  have hb : (u.slice 0).bad = [0] := by rw [← (settle_work hm).2.1, ← he, reservedEntry_bad]
  rw [State.slice, hh] at hb
  exact absurd hb (by decide +kernel)

/-! ### A posted write under containment -/

/-- A port as the tests have it, with a message that waits, and the containment of QUARANTINE in force (R20). -/
def containedChip : State :=
  { Tests.upAll with
    core := { Tests.upAll.core with wait := [(waitKey 0 6, [{ msg := {}, dst := 2 }])] }
    fml := { inForce := some { Tests.fmA with
      ports := [{ Tests.pU with protocol := .pcie }, Tests.pH, Tests.pD, Tests.pF, Tests.pG] } }
    acc := { Tests.upAll.acc with contained := true } }

/-- A posted write to vPPB 1. -/
def vppbWrite : Msg := { io := true, mc := 6, vppb := some 1 }

/-- The write is discarded: no more waits than before it. -/
theorem containedChip_waits : ((containedChip.messageIn 0 (.link vppbWrite) {}).settle.waiting (waitKey 0 6)).length = 1 := by
  decide +kernel

/-- Refutes O14: the first clause has a posted write of a chip outside QUARANTINE mode wait behind others, but under the
containment, which outlasts that mode, the write is discarded. -/
theorem not_ingress : ¬ Obligations.Ingress := by
  intro h
  obtain ⟨u, hu, w, hw, -⟩ := h.1 containedChip 0 { Tests.pU with protocol := .pcie } vppbWrite 1 Tests.bnd {}
    (by decide +kernel) (by decide +kernel) (by decide +kernel) (by decide +kernel) (by decide +kernel) (by decide +kernel)
    (by decide +kernel) (by decide +kernel) (by decide +kernel) (by decide +kernel) (by decide +kernel) (by decide +kernel)
    (by decide +kernel) (by decide +kernel) (by decide +kernel) (by decide +kernel) (by decide +kernel) (by decide +kernel)
    (by decide +kernel) (by decide +kernel) (by decide +kernel) (by decide +kernel) (by decide +kernel)
  have he := whenClocked_next (k := fun t => t.messageIn 0 (.link vppbWrite) {}) (by decide +kernel) hu
  have hk := settle_waits u (waitKey 0 6)
  rw [← he, containedChip_waits] at hk
  have hs : (containedChip.waiting (waitKey 0 6)).length = 1 := by decide +kernel
  have hu1 : (u.waiting (waitKey 0 6)).length = 2 := by
    rw [show u.waiting (waitKey 0 6) = containedChip.waiting (waitKey 0 6) ++ [w] from hw, List.length_append, hs]
    rfl
  omega

/-! ### A cell whose second notice meets the entry of its first -/

/-- A confirm whose cell bears a second confirm of the same tag. -/
def doubleConfirm : Cell :=
  { Tests.cel .single { op := Op.TN_CONFIRM } with more := [{ op := Op.TN_CONFIRM }] }

/-- It is chosen at port 0 of a chip in LINKTEST. -/
def confirmsQueued : State := (Tests.queued [doubleConfirm]).wr Reg.CHIP_MODE Fld.CHIP_MODE.MODE 11

/-- The second confirm finds the entry of the first, and the entry is free again (R176). -/
theorem confirmsQueued_ends : let t := (confirmsQueued.egressOf 0 0xFFFF {} fun c => !c.msg.io && c.msg.op == Op.TN_CONFIRM).settle
    t.md = .linktest ∧ t.home = [] ∧ t.gateOf 0 doubleConfirm.msg.tag = none := by
  decide +kernel

/-- Refutes O16: the fifth clause has a confirm that finds no entry leave an early one, but it lets the cell of the confirm
bear further notices, and a second one of the same tag mismatches with that entry and frees it. -/
theorem not_egress : ¬ Obligations.Egress := by
  intro h
  obtain ⟨-, -, -, -, h, -⟩ := h
  obtain ⟨u, hu, -, hg⟩ := h confirmsQueued 0 Tests.pU 0xFFFF 4 0 doubleConfirm [] (by decide +kernel)
    (by unfold State.picks; decide +kernel) (by decide +kernel) (by decide +kernel) (by decide +kernel) (by decide +kernel)
    (by decide +kernel) (by decide +kernel) (by decide +kernel)
  have he := whenClocked_next (k := fun t => t.egressOf 0 0xFFFF {} fun c => !c.msg.io && c.msg.op == Op.TN_CONFIRM)
    (by decide +kernel) hu
  obtain ⟨hm, hh, ht⟩ := confirmsQueued_ends
  rw [he] at hm hh ht
  have hk := ((settle_gates hm).2 hh).2
  rw [State.gateOf, hk] at ht
  exact absurd (hg.symm.trans ht) (by simp)

end Sys2Proof.Machine
end
